-- ==== Sys2Proof/Word.lean ====
section
/-! DEFINITION. The machine's word types and their plainest arithmetic: the 32-bit register word (R4), the byte, the register
field, and the time-stamp T64 with its 44-bit tick, 12-bit cycle and 8-bit fraction (R69). -/

namespace Sys2Proof

/-- A register word: 32 bits, little-endian (R4). -/
abbrev Word := BitVec 32

/-- One byte of a message, a record or a memory. -/
abbrev Byte := BitVec 8

/-- A field of a register: the register's byte address in BAR0, its lowest bit and its width. -/
structure Fld where
  addr : Nat
  lo : Nat
  w : Nat
  deriving DecidableEq, Repr

/-- A mask of the `w` lowest bits. -/
def maskW (w : Nat) : Word := BitVec.ofNat 32 (2 ^ w - 1)

/-- The field `w` bits wide at bit `lo` of a word, as a number. -/
def fieldOf (x : Word) (lo w : Nat) : Nat := ((x >>> lo) &&& maskW w).toNat

/-- The word with the field `w` bits wide at bit `lo` replaced by the low bits of `v`. -/
def withField (x : Word) (lo w : Nat) (v : Nat) : Word :=
  (x &&& ~~~(maskW w <<< lo)) ||| ((BitVec.ofNat 32 v &&& maskW w) <<< lo)

/-- A time-stamp: tick (44 bits), vector-clock cycle in the tick (0–3,999) and fraction of 1/256 cycle. -/
structure T64 where
  tick : Nat
  cyc : Nat := 0
  frac : Nat := 0
  deriving DecidableEq, Repr

/-- Vector-clock cycles in a tick. -/
def cyclesPerTick : Nat := 4000

/-- Fraction units in a tick: 4,000 cycles of 256 units. -/
def unitsPerTick : Nat := 1024000

/-- The number of ticks in an era: the tick field has 44 bits. -/
def ticksPerEra : Nat := 2 ^ 44

/-- A time-stamp as one count of fraction units since the start of its era. -/
def T64.units (t : T64) : Nat := t.tick * unitsPerTick + t.cyc * 256 + t.frac

/-- The time-stamp at a count of fraction units. -/
def T64.ofUnits (u : Nat) : T64 :=
  ⟨u / unitsPerTick % ticksPerEra, u % unitsPerTick / 256, u % 256⟩

/-- The 64-bit word of a time-stamp: tick in bits 63–20, cycle in 19–8, fraction in 7–0. -/
def T64.pack (t : T64) : Nat := t.tick % ticksPerEra * 2 ^ 20 + t.cyc % 4096 * 256 + t.frac % 256

/-- The time-stamp of a 64-bit word. -/
def T64.unpack (n : Nat) : T64 := ⟨n / 2 ^ 20 % ticksPerEra, n / 256 % 4096, n % 256⟩

/-- A number that counts up and stays at its maximum `2 ^ n - 1` (class SAT of R12). -/
def satAdd (n a b : Nat) : Nat := min (a + b) (2 ^ n - 1)

/-- A number that counts up modulo `2 ^ n` (class WRAP of R12). -/
def wrapAdd (n a b : Nat) : Nat := (a + b) % 2 ^ n

/-- The signed value of the low `n` bits of `x`. -/
def signedOf (n x : Nat) : Int := if x % 2 ^ n < 2 ^ (n - 1) then (x % 2 ^ n : Nat) else (x % 2 ^ n : Nat) - (2 ^ n : Nat)

/-- The `n`-bit two's complement code of an integer. -/
def codeOf (n : Nat) (i : Int) : Nat := (i % (2 ^ n : Nat)).toNat

/-- Restrict a number to a range. -/
def clampN (lo hi x : Nat) : Nat := max lo (min hi x)

/-- Restrict an integer to a range. -/
def clampI (lo hi x : Int) : Int := max lo (min hi x)

/-- The number of bits of `m` that are set, of the lowest `n`. -/
def popCount (n m : Nat) : Nat := ((List.range n).filter (fun i => m.testBit i)).length

/-- `n` bytes of a number, lowest first (R32: multi-byte fields are little-endian). -/
def leBytes : Nat → Nat → List Byte
  | 0, _ => []
  | n + 1, v => BitVec.ofNat 8 v :: leBytes n (v / 256)

/-- The number that bytes spell, lowest first. -/
def ofBytes : List Byte → Nat
  | [] => 0
  | b :: bs => b.toNat + 256 * ofBytes bs

/-- The number in `n` bytes at offset `o` of a byte string; bytes beyond its end read as 0. -/
def leAt (bs : List Byte) (o n : Nat) : Nat := ofBytes ((bs.drop o).take n)

/-- One step of a bit-serial reflected CRC. -/
def crcStep (poly c : Nat) : Nat := if c % 2 = 1 then (c / 2) ^^^ poly else c / 2

/-- CRC-32C of R34: reflected polynomial 0x1EDC_6F41, initial value and final exclusive-or all ones. -/
def crc32c (bs : List Byte) : Nat :=
  bs.foldl (fun c b => (List.range 8).foldl (fun c _ => crcStep 0x82F63B78 c) (c ^^^ b.toNat)) 0xFFFFFFFF ^^^ 0xFFFFFFFF

/-- Replace the element at index `i` of a list. -/
def listSet {α : Type} (l : List α) (i : Nat) (a : α) : List α := l.set i a

/-- Indices `0 … n-1` whose bit is set in a mask. -/
def bitsOf (n m : Nat) : List Nat := (List.range n).filter (fun i => m.testBit i)

end Sys2Proof
end

