-- ==== Sys2Proof/Syntax.lean ====
section
/-! DEFINITION. The commands the module takes, one constructor for each row of the operation table, and the data they carry. -/

namespace Sys2Proof

/-- An instant within a tick, in fraction units (R69). -/
abbrev Sub := Fin 1024000
/-- A port P0–P255. -/
abbrev Port := Fin 256
/-- A lane L0–L47 or a generator G0–G47. -/
abbrev Lane := Fin 48
/-- A slot S0–S15, a combiner C0–C15 or a bus-master channel. -/
abbrev Idx16 := Fin 16
/-- A compare pair. -/
abbrev PairNo := Fin 128
/-- A guard window. -/
abbrev Win := Fin 64

/-- A barrier message (R32): header, payload and trailer. -/
structure Msg where
  ty : Nat
  vc : Nat
  flags : Nat
  len : Nat
  seq : Nat
  rsv : Nat
  t64 : Nat
  payload : List Byte
  trailer : Nat
  deriving DecidableEq, Repr

/-- Comparator states of a channel (R108), coded as PIN_STAT.CMP_LIVE. -/
inductive CmpState where
  | mid | low | high
  deriving DecidableEq, Repr

/-- What the comparator of a port showed during a vector: its state at C_OPEN, and its states with their durations in picoseconds from
C_OPEN to C_CLOSE (R109). -/
structure PortObs where
  port : Port
  atOpen : CmpState
  spans : List (CmpState × Nat)
  deriving DecidableEq, Repr

/-- The level registers of a channel (R111). -/
inductive LevelReg where
  | drvHi | drvLo | cmpHi | cmpLo | term
  deriving DecidableEq, Repr

/-- Who reaches a register (R45, R84). -/
inductive Requester where
  | host | mgmt | island
  deriving DecidableEq, Repr

/-- Samples that a lane has converted since the latest that a command gave for it: corrected values of the raw stream before the limit of
R205, and values of the decimated stream (R216 gives its figures, not its arithmetic). -/
structure LaneIn where
  lane : Lane
  raw : List Int
  dec : List Int
  deriving DecidableEq, Repr

/-- The input of a guard window at the sampling instant, in µV (R291, R294). -/
structure GuardIn where
  win : Win
  v : Int
  deriving DecidableEq, Repr

/-- A Tally unit: a histogram or a persistence map (R258, R259). -/
inductive TallyUnit where
  | hist (h : Lane)
  | map (m : Fin 8)
  deriving DecidableEq, Repr


/-- A correction item (R321): ITEM_ID and A, B, C. -/
structure CalItem where
  id : Nat
  a : Int
  b : Int
  c : Int
  deriving DecidableEq, Repr

/-- One pass of a calibration run (R318): its MET_TM in m°C and its items. -/
structure CalPass where
  temp : Int
  items : List CalItem
  deriving DecidableEq, Repr

/-- What a calibration run has measured (R316): two passes, the de-skew round trips of pass 2 by port, the threshold DACs by 4w + d in µV, and the STAT
entry of each lane and point. -/
structure CalRun where
  p1 : CalPass
  p2 : CalPass
  deskew : List (Port × List Nat)
  dacs : List (Nat × Int)
  points : List (Lane × Nat × List Byte)
  deriving DecidableEq, Repr

/-- The answer of a pod to a request: STATUS and payload (R334). -/
structure PodAns where
  status : Nat
  payload : List Byte
  deriving DecidableEq, Repr

/-- What the store finds on a drive that it examines (R373, R374): SPEED and WIDTH of the link; the controller became ready and no admin command
failed; namespace 1 has the LBA format of R372; its size in bytes; CAP.MQES; the largest power of two of bytes that MDTS allows; serial number; SMART
Percentage Used; the superblock in LBA 0. -/
structure DriveInfo where
  speed : Fin 5
  width : Fin 5
  ready : Bool
  nsOk : Bool
  size : Nat
  mqes : Fin 65536
  mdts : Nat
  serial : List Byte
  wear : Fin 256
  super : Option (List Byte)
  deriving DecidableEq, Repr

/-- An NVMe command that completes (R372, R374): a Read names the block of the store read that it belongs to, the rebuild's Writes are apart. -/
inductive NvmeOp where
  | write
  | rebuild
  | read (block : Fin 1024)
  | flush
  | other
  | abort
  deriving DecidableEq, Repr

/-- What start-up finds (R417–R419): the island's self-test passes; manifest signature and host-firmware digest of bank A and of bank B verify; the digest of
the newer and of the older protection-set copy verifies. -/
structure BootIn where
  selfTest : Bool
  bankA : Bool
  bankB : Bool
  copy0 : Bool
  copy1 : Bool
  deriving DecidableEq, Repr
/-- The commands of the operation table, in its order. -/
inductive Instr where
  /-- HOST_64BIT_ACCESS (R5): A naturally aligned 64-bit host access to BAR0 is carried out as two 32-bit accesses, low word first. -/
  | host64bitAccess (u : Sub) (a : Nat) (w : Option (Word × Word))
  /-- BAR0_BAD_ACCESS (R6): A BAR0 access of another size, alignment or partial byte enables completes without touching any register, counts in HDMA_BAR0_ERR and raises HDMA_EVT.BAR0_ERR. -/
  | bar0BadAccess (u : Sub) (read : Bool)
  /-- REGISTER_WRITE (R10): A write to a register with no row of its own acts on each field as its access code decides, including discarded writes to unmapped addresses, unpowered domains and writes outside their permitted state. -/
  | registerWrite (u : Sub) (r : Requester) (a : Nat) (v : Word)
  /-- RS_READ (R11): A read of an RS word returns its value and snapshots the partner words for that requester. -/
  | rsRead (u : Sub) (r : Requester) (a : Nat)
  /-- POWER_DOMAIN_REQUEST (R18): A write to SYS_PWR_REQ switches domains on or off, refusing a domain whose required domains are off and cascading switch-off in reverse table order. -/
  | powerDomainRequest (u : Sub) (v : Word)
  /-- DOMAIN_POWERED (R427): A requested domain's supplies settle and its reset is released, so SYS_PWR_STAT shows it on and its functions become available. -/
  | domainPowered (u : Sub) (d : Fin 21)
  /-- H3_TRAINING_DONE (R427): Acquisition memory training ends, SYS_PWR_STAT shows H3 on and the services that need H3 start. -/
  | h3TrainingDone (u : Sub)
  /-- TRAINING_DONE (R22): A training attempt ends, each direction taking width 16, 12 or down, and on success the sequence numbers restart, the field half loads its tick from the host beacon and the plan in force is resent. -/
  | trainingDone (u : Sub) (fh hf : Nat)
  /-- TRAINING_RETRY_TIMER (R24): While the link stays down, a new training attempt starts 100 ms after the start of the previous one. -/
  | trainingRetryTimer (u : Sub)
  /-- ISO_RETRAIN (R24): A write of 1 to ISO_CTRL.RETRAIN takes the link down as a link loss and starts a training attempt at once. -/
  | isoRetrain (u : Sub)
  /-- LINK_DOWN (R30): The link goes down: the host half sets LINK_DOWN, raises the barrier-down fault, appends a Ledger entry and marks field streams as a gap, while the field half stops refill and starts the link-hold timer. -/
  | linkDown (u : Sub)
  /-- LINK_HOLD_EXPIRY (R29): The link has stayed down for ISO_CTRL.LINK_HOLD ticks, so every pin channel goes to drive-off and every generator to its rest value. -/
  | linkHoldExpiry (u : Sub)
  /-- LANE_FAILURE (R25): An optical lane in use fails, starting a lane replacement or a change from width 16 to width 12 during which messages are held. -/
  | laneFailure (u : Sub) (fh : Bool) (k : Idx16)
  /-- RECONFIG_DONE (R25): A lane replacement or width change completes within 2 ticks and held messages start to drain. -/
  | reconfigDone (u : Sub)
  /-- SHED (R27): At the first tick boundary after a direction falls to width 12, the planner applies the 375,000-byte budget and sheds VC2 streams until the configuration fits, recording a SHED Ledger entry. -/
  | shed
  /-- FRAME_REPLAY (R28): A corrupted lane frame is resent by link-level replay up to 3 times, after which the message is lost and counted. -/
  | frameReplay (u : Sub) (fh : Bool) (n : Fin 4) (lost : Option Msg)
  /-- ISO_CLR_STATS (R54): A write of 1 to ISO_CTRL.CLR_STATS clears ISO_TUN_LAT_MAX and every SAT counter of the ISO block. -/
  | isoClrStats (u : Sub)
  /-- XM_TIME_FIELD_BEACON (R42): The host half receives the field beacon queued at the head of VC0 at each field tick boundary. -/
  | xmTimeFieldBeacon (u : Sub) (m : Msg)
  /-- XM_TIME_HOST_BEACON (R60): The field half receives a host beacon, loading its count after training or measuring its deviation from host T64. -/
  | xmTimeHostBeacon (u : Sub) (m : Msg)
  /-- XM_TIME_EPOCH_SET (R75): The field half receives an epoch-set message and takes the new epoch. -/
  | xmTimeEpochSet (u : Sub) (m : Msg)
  /-- XM_TICK_PLAN (R43): The field half receives a tick plan that takes effect at the tick boundary it names, or at the next boundary reported as a late start. -/
  | xmTickPlan (u : Sub) (m : Msg)
  /-- XM_HEALTH (R44): A half receives the other half's health message, the host mirroring the field filter count into ISO_FDROP. -/
  | xmHealth (u : Sub) (toHost : Bool) (m : Msg)
  /-- XM_REG_RD (R45): The field half receives a tunnel read request and answers with XM_REG_RSP carrying data or a status. -/
  | xmRegRd (u : Sub) (m : Msg)
  /-- XM_REG_WR (R45): The field half receives a tunnel write request, applies it at the cycle of arrival or answers with an error status, and returns a write response. -/
  | xmRegWr (u : Sub) (m : Msg)
  /-- XM_REG_RSP (R45): The host half receives a tunnel response and completes the matching access to its requester, discarding a response after its timeout. -/
  | xmRegRsp (u : Sub) (m : Msg)
  /-- XM_SAMPLES (R221): The host half receives a sample block and passes it to Clearing. -/
  | xmSamples (u : Sub) (m : Msg)
  /-- XM_REDUCE (R249): The host half receives a reduction or segment item, passes it to Clearing and stores segments in the group's acquisition-memory region. -/
  | xmReduce (u : Sub) (m : Msg)
  /-- XM_TALLY (R261): The host half receives a Tally snapshot message and passes it to Clearing. -/
  | xmTally (u : Sub) (m : Msg)
  /-- XM_EVENT (R47): The host half receives a field event record, passes it to Clearing and the event queue, and for a field fault source acts as the fault collector. -/
  | xmEvent (u : Sub) (m : Msg)
  /-- XM_FAIL (R123): The host half receives a fail record and passes it to Clearing. -/
  | xmFail (u : Sub) (m : Msg)
  /-- XM_CMP (R280): The host half receives a compare record, enters it in the record and appends Ledger entries for the first discrepancy, periodic counts and INFO records. -/
  | xmCmp (u : Sub) (m : Msg)
  /-- XM_REFILL_VEC (R153): The field half receives a vector refill and accepts or rejects it whole for its frame, issuing a non-resident instruction that was waiting. -/
  | xmRefillVec (u : Sub) (m : Msg)
  /-- XM_REFILL_GEN (R179): The field half receives a generator list refill and accepts or rejects it whole. -/
  | xmRefillGen (u : Sub) (m : Msg)
  /-- XM_POD_REQUEST (R346): The field half receives a host pod request and forwards it to the pod only for HELLO, CAPS, CERT_READ, STRESS_READ or POLL. -/
  | xmPodRequest (u : Sub) (m : Msg)
  /-- XM_POD_RESPONSE (R346): The host half receives a pod response relayed by the field half. -/
  | xmPodResponse (u : Sub) (m : Msg)
  /-- XM_POD_LEDGER (R345): The host half receives pod stress-ledger entries, which enter the record and the Ledger. -/
  | xmPodLedger (u : Sub) (m : Msg)
  /-- XM_CAL_SET_IMAGE (R322): A correction-set image arrives, the management core writing it to a set place after acceptance or the field half taking it at load. -/
  | xmCalSetImage (u : Sub) (toField : Bool) (m : Msg)
  /-- XM_CAL_SET_DROP (R326): The field half receives SET_DROP and stops using the named place. -/
  | xmCalSetDrop (u : Sub) (m : Msg)
  /-- XM_CAL_BANK (R326): The host half receives the report of a bank swap. -/
  | xmCalBank (u : Sub) (m : Msg)
  /-- XM_CAL_RUN_END (R326): The host half receives the result of a calibration run. -/
  | xmCalRunEnd (u : Sub) (m : Msg)
  /-- XM_CAL_STORED (R322): The field half receives STORED naming the place written and MET_SETS.STORED shows it. -/
  | xmCalStored (u : Sub) (m : Msg)
  /-- XM_FW (R48): The field half receives a firmware chunk and writes it into the inactive bank for verification against the manifest. -/
  | xmFw (u : Sub) (m : Msg)
  /-- TUNNEL_ACCESS (R49): A host or management-core access to a field block becomes a tunnel request, waiting while 32 accesses are in flight. -/
  | tunnelAccess (u : Sub) (r : Requester) (a : Nat) (n : Nat) (ws : Option (List Word))
  /-- TUNNEL_TIMEOUT (R51): A tunnel access without response within 2 ticks completes with 0xFFFF_FFFF or is abandoned, counting in ISO_TUN_TIMEOUT. -/
  | tunnelTimeout (u : Sub) (tag : Nat)
  /-- FCTL_ESC_GO (R409): A go write from the security island schedules the held writes of a slot for the commit tick named in the header, or applies nothing, replacing FCTL_ESC_DONE. -/
  | fctlEscGo (u : Sub) (k : Fin 4)
  /-- HELD_WRITE_DISCARD (R409): Held writes for which no go has arrived 64 ticks after their prepare are discarded. -/
  | heldWriteDiscard (k : Fin 4)
  /-- ESC_APPLY (R409): At the commit tick the field half applies a slot's held writes and records the slot and tick in FCTL_ESC_DONE. -/
  | escApply
  /-- FCTL_FATAL (R446): A host Fatal write from the island drops HOLD_N on all slots, puts every channel in drive-off, stops generators and the sequencer, and sets FCTL_STAT.FATAL. -/
  | fctlFatal (u : Sub) (id : Fin 256)
  /-- CLOCK_SOURCE_SELECT (R59): A write of TIME_CTRL.SRC changes the clock source without phase step, slewing the frequency. -/
  | clockSourceSelect (u : Sub) (src : Fin 4)
  /-- PLL_LOCK (R57): The PLL locks to a selected external source and sets TIME_STAT.PLL_LOCK. -/
  | pllLock (u : Sub)
  /-- REF_LOST (R58): A selected external source is lost, so the module continues on the on-module oscillator in holdover and raises the clock-reference fault. -/
  | refLost (u : Sub)
  /-- HOLDOVER_RETURN (R59): The external source returns and the clock leaves holdover without phase step. -/
  | holdoverReturn (u : Sub)
  /-- HOST_BEACON_SEND (R60): Every 100 ticks the host half sends a host beacon. -/
  | hostBeaconSend
  /-- FIELD_STEP (R60): At the next tick boundary after a beacon shows a deviation beyond ±64 units, the field half steps its time and appends a Ledger entry. -/
  | fieldStep
  /-- TICK_BOUNDARY (R62): At each field tick boundary the fixed work runs: plans, bank swaps and commits take effect, the field beacon is queued, guard comparators power on and per-tick blocks and forwards go out. -/
  | tickBoundary (env : List LaneIn) (drive : List Port)
  /-- HEALTH_COMPOSE (R62): At cycle 3,968 the field half composes XM_HEALTH for the tick with the overrun result of the previous tick. -/
  | healthCompose
  /-- TALLY_MERGE (R62): At cycles 3,840–3,999 Tally merges its counts for the tick. -/
  | tallyMerge (env : List LaneIn)
  /-- TICK_OVERRUN (R66): Unfixed work of a tick is not finished at the next boundary, so it is deferred, counted and raised as the tick-overrun fault. -/
  | tickOverrun
  /-- PLAN_TAKES_EFFECT (R65): An admitted configuration takes effect at the tick boundary four ticks after admission through an XM_TICK_PLAN. -/
  | planTakesEffect
  /-- ERA_WRAP (R70): The tick counter wraps to 0, TIME_ERA and TIME_EPOCH advance and ERA_WRAP is the first Ledger entry of the new era. -/
  | eraWrap
  /-- TICK_MARK_WRITE (R73): At every tick that is a multiple of 100,000 the tick keeper writes the tick and era to MRAM. -/
  | tickMarkWrite
  /-- EPOCH_LOAD (R75): A write of 1 to TIME_CTRL.EPOCH_LOAD requests TIME_EPOCH_SET for the next tick boundary. -/
  | epochLoad (u : Sub)
  /-- EPOCH_SET (R75): A new epoch takes effect at a host tick boundary, sets EPOCH_VALID, appends a Ledger entry and is sent to the field half while the link is up. -/
  | epochSet
  /-- TOD_MESSAGE (R77): A time-of-day message arrives on SYNC_IN and is checked, two consecutive valid messages setting TOD_OK. -/
  | todMessage (u : Sub) (b : List Byte)
  /-- PPS_EDGE (R77): A PPS edge captures its T64 in TIME_PPS, computes the residual and sets the epoch from a valid time-of-day pair. -/
  | ppsEdge (u : Sub)
  /-- PPS_MISSING (R78): A PPS edge fails to arrive, clearing PPS_LOCK and leaving the epoch unchanged. -/
  | ppsMissing (u : Sub)
  /-- TIME_CLR_STATS (R90): A write of 1 to TIME_CTRL.CLR_STATS clears TIME_OVERRUN. -/
  | timeClrStats (u : Sub)
  /-- HOST_TICK_BOUNDARY (R80): At each host tick boundary the host half advances the release point, puts plans and epochs in force and runs Clearing. -/
  | hostTickBoundary (line : Bool)
  /-- HORIZON_CHANGE (R81): A written CLR_CTRL.HORIZON takes effect at the next host tick boundary, releasing or holding the release point. -/
  | horizonChange
  /-- CLR_CTRL_CLR_STATS (R91): A write of 1 to CLR_CTRL.CLR_STATS clears the late and squeeze counters. -/
  | clrCtrlClrStats (u : Sub)
  /-- DRIVE_INH_ASSERT (R104): Assertion of the DRIVE_INH pin turns every driver off within 250 ns plus its cable delay. -/
  | driveInhAssert (u : Sub)
  /-- DRIVE_INH_PIN_RELEASE (R104): The DRIVE_INH pin is released, after which drivers turn on only at the next driving D_ON once no other inhibit holds. -/
  | driveInhPinRelease (u : Sub)
  /-- SYS_DRIVE_INH_SET (R104): A write of 1 to SYS_DRIVE_INH crosses on VC1 and turns every driver off within 2 ticks. -/
  | sysDriveInhSet (u : Sub)
  /-- DRIVE_INH_RELEASE (R433): A write of 0 to SYS_DRIVE_INH is accepted only under the release conditions, clearing INH, GUARD and LINK_HOLD, or raises INH_REFUSED. -/
  | driveInhRelease (u : Sub)
  /-- FIELD_INHIBIT_END (R433): The field half ends the inhibit at the first tick boundary after an accepted release arrives. -/
  | fieldInhibitEnd
  /-- PIN_LEVEL_WRITE (R111): A write to a pin level register is clamped and rounded to the DAC and sent to the pod or lane with LVL_PENDING set. -/
  | pinLevelWrite (u : Sub) (p : Port) (which : LevelReg) (v : Word)
  /-- LANE_LEVEL_APPLY (R112): A level on a lane role takes effect at the next tick boundary and LVL_PENDING falls. -/
  | laneLevelApply (p : Port)
  /-- DESKEW (R114): A write of 1 to PIN_CTRL.DESKEW starts a 20-tick de-skew measurement or is refused with DESKEW_FAIL. -/
  | deskew (u : Sub) (p : Port)
  /-- DESKEW_DONE (R115): A de-skew measurement ends, loading PIN_DESKEW and setting DESKEW_VALID or failing it. -/
  | deskewDone (u : Sub) (p : Port) (runs : List Nat)
  /-- PIN_ENABLE (R116): A write of 1 to PIN_CTRL.EN enables the channel unless de-skew is invalid or the lane DAC is owned by a generator. -/
  | pinEnable (u : Sub) (p : Port)
  /-- PIN_DISABLE (R128): Clearing PIN_CTRL.EN lets the vector in progress complete and then puts the channel in drive-off as role NONE. -/
  | pinDisable (u : Sub) (p : Port)
  /-- PIN_CLR_STATS (R130): A write of 1 to PIN_CTRL.CLR_STATS clears the channel's counters and PIN_FIRST_FAIL.VALID. -/
  | pinClrStats (p : Port)
  /-- PIN_TRANSITION (R121): A comparator state that has persisted for PIN_CAPT.FILT cycles is captured with the instant at which it began. -/
  | pinTransition (u : Sub) (p : Port) (st : CmpState)
  /-- FAIL_RECORD_COMPLETE (R124): The fail record of a failing vector is complete within 256 cycles, stored first-N in the fail region and offered for forwarding. -/
  | failRecordComplete (u : Sub)
  /-- FAIL_CLEAR (R125): A write of 1 to SEQ_FAIL_CTRL.CLEAR requests emptying the fail region, applied at once while the sequencer is not busy. -/
  | failClear (u : Sub)
  /-- FAIL_CLEAR_APPLY (R125): At the next vector boundary the fail region empties with the latest BASE and SIZE and its counters zero, or takes size 0 on a bad configuration. -/
  | failClearApply (u : Sub)
  /-- FAIL_DUMP (R126): A write of 1 to SEQ_FAIL_CTRL.DUMP starts sending the stored fail records in spare VC4 bytes. -/
  | failDump (u : Sub)
  /-- DUMP_DONE (R126): The last dumped record is sent, DUMP_BUSY falls and DUMP_DONE is set. -/
  | dumpDone (u : Sub)
  /-- FWD_MAX_WRITE (R126): A write that changes SEQ_FAIL_CTRL.FWD_MAX submits it to the tick planner, restoring the old value on refusal. -/
  | fwdMaxWrite (u : Sub) (n : Fin 256)
  /-- SEQ_FAIL_CLR_STATS (R131): A write of 1 to SEQ_FAIL_CTRL.CLR_STATS clears SEQ_FAIL_UNFWD. -/
  | seqFailClrStats
  /-- NEXT (R134): Opcode NEXT issues one instance and continues at the successor. -/
  | opNext (u : Sub)
  /-- REPEAT (R134): Opcode REPEAT issues N instances and continues at the successor. -/
  | opRepeat (u : Sub)
  /-- LOOP (R138): Opcode LOOP pushes a loop frame and issues one instance. -/
  | opLoop (u : Sub)
  /-- ENDLOOP (R138): Opcode ENDLOOP issues one instance and applies the loop decision. -/
  | opEndloop (u : Sub)
  /-- JUMP (R134): Opcode JUMP issues one instance and continues at the target. -/
  | opJump (u : Sub)
  /-- CALL (R134): Opcode CALL pushes the successor, issues one instance and continues at the target. -/
  | opCall (u : Sub)
  /-- RET (R139): Opcode RET issues one instance and continues at the popped return address. -/
  | opRet (u : Sub)
  /-- WAIT_TRIG (R141): Opcode WAIT_TRIG repeats its vector until a named combiner fires. -/
  | opWaitTrig (u : Sub)
  /-- WAIT_TIMEOUT (R141): A WAIT_TRIG issues OPB repetitions without a trigger, sets WAIT_TIMEOUT and continues at the timeout target or successor. -/
  | waitTimeout (u : Sub)
  /-- MATCH (R142): Opcode MATCH repeats its vector until a repetition passes. -/
  | opMatch (u : Sub)
  /-- MATCH_LIMIT (R142): All OPB repetitions of a MATCH are known to fail, so the last is recorded as failing and the sequencer halts or continues. -/
  | matchLimit (u : Sub)
  /-- SYNC_TICK (R143): Opcode SYNC_TICK holds the pins and starts its instance at the named cycle of the tick. -/
  | opSyncTick (u : Sub)
  /-- FLAG (R137): Opcode FLAG issues one instance and sets and clears sequencer flags at its start, optionally raising FLAG. -/
  | opFlag (u : Sub)
  /-- GEN_STEP (R137): Opcode GEN_STEP issues one instance and sends a step request to the masked generators at its start. -/
  | opGenStep (u : Sub)
  /-- CUSTOM (R164): Opcode CUSTOM runs the customer micro-routine at OPB, or halts with cause 0x09 below 0xC000. -/
  | opCustom (u : Sub)
  /-- HALT (R144): Opcode HALT issues one instance after which the sequencer is HALTED with cause 0x01. -/
  | opHalt (u : Sub)
  /-- RESERVED_OPCODE (R134): A reserved opcode issues no instance and halts the sequencer with cause 0x08. -/
  | reservedOpcode (u : Sub)
  /-- INSTANCE_START (R96): A vector instance starts at the pins and every channel runs its drive edges, formats and compare for that vector. -/
  | instanceStart (obs : List PortObs) (ilim : List Port)
  /-- UNDERRUN (R135): No instance has entered the pipeline 64 cycles before the running one ends, so the pins hold and SEQ_UNDERRUN counts. -/
  | underrun (u : Sub)
  /-- SEQ_START (R145): A write of 1 to SEQ_CTRL.START empties stacks and state and starts at SEQ_START_ADDR, or is refused. -/
  | seqStart (u : Sub)
  /-- PAUSE (R147): PAUSE set to 1 requests that issue stop. -/
  | seqPause (u : Sub)
  /-- PAUSE_CLEAR (R147): PAUSE cleared to 0 lets issue continue without an underrun. -/
  | pauseClear (u : Sub)
  /-- STEP (R147): STEP while PAUSED issues one instance and pauses again, and is refused in any other state. -/
  | seqStep (u : Sub)
  /-- STOP (R147): STOP requests a pause that ends in HALTED with cause 0x02. -/
  | seqStop (u : Sub)
  /-- HOST_JUMP (R147): SEQ_CTRL.JUMP requests dispatch of SEQ_JUMP_ADDR at the next point before a dispatch. -/
  | hostJump (u : Sub)
  /-- VECTOR_REQUEST_TAKEN (R146): A pending vector-class request is sampled and acted on at a vector-instruction boundary. -/
  | vectorRequestTaken (u : Sub)
  /-- SEQ_RESUME (R149): A write of 1 to SEQ_CTRL.RESUME continues a halted program from the restart record or SEQ_VADDR, or is refused. -/
  | seqResume (u : Sub)
  /-- WIN_APPLY (R151): A write of 1 to SEQ_CTRL.WIN_APPLY applies the resident window and empties every frame, or is refused. -/
  | winApply (u : Sub)
  /-- SEQ_CLR_STATS (R174): A write of 1 to SEQ_CTRL.CLR_STATS clears the refill-reject, underrun and overdraft counters. -/
  | seqClrStats
  /-- SEQ_OVERDRAFT (R155): An instruction is still not resident at its latest issue instant, so an overdraft occurs and the sequencer stalls or enters the safe state. -/
  | seqOverdraft (u : Sub)
  /-- CUST_SWITCH (R159): The committed customer bank becomes active at the first point before a dispatch at or after the commit. -/
  | custSwitch (u : Sub)
  /-- NOP (R162): Micro-op NOP does nothing. -/
  | uNop (u : Sub)
  /-- LDI (R162): Micro-op LDI loads the zero-extended immediate. -/
  | uLdi (u : Sub)
  /-- LDH (R162): Micro-op LDH loads the immediate into the high half. -/
  | uLdh (u : Sub)
  /-- ADD (R162): Micro-op ADD adds modulo 2^32. -/
  | uAdd (u : Sub)
  /-- SUB (R162): Micro-op SUB subtracts modulo 2^32. -/
  | uSub (u : Sub)
  /-- AND (R162): Micro-op AND forms the bitwise AND. -/
  | uAnd (u : Sub)
  /-- OR (R162): Micro-op OR forms the bitwise OR. -/
  | uOr (u : Sub)
  /-- XOR (R162): Micro-op XOR forms the bitwise XOR. -/
  | uXor (u : Sub)
  /-- SHL (R162): Micro-op SHL shifts left. -/
  | uShl (u : Sub)
  /-- SHR (R162): Micro-op SHR shifts right. -/
  | uShr (u : Sub)
  /-- RDS (R163): Micro-op RDS reads a special source. -/
  | uRds (u : Sub)
  /-- BR (R162): Micro-op BR branches always or on a condition. -/
  | uBr (u : Sub)
  /-- MCALL (R162): Micro-op MCALL pushes the return microword and jumps. -/
  | uMcall (u : Sub)
  /-- MRET (R162): Micro-op MRET pops the micro-stack into the program counter. -/
  | uMret (u : Sub)
  /-- ISSUE (R162): Micro-op ISSUE issues one instance, optionally patched or with another timing set, stalling until its window opens. -/
  | uIssue (u : Sub)
  /-- PATCH (R162): Micro-op PATCH sets a port's patched character or clears every patch. -/
  | uPatch (u : Sub)
  /-- CMPW (R162): Micro-op CMPW stalls until the latest instance's result is known and loads pass or fail. -/
  | uCmpw (u : Sub)
  /-- TRIG (R162): Micro-op TRIG reads the 16 combiner output levels. -/
  | uTrig (u : Sub)
  /-- DRAIN (R162): Micro-op DRAIN stalls until every issued instance has ended. -/
  | uDrain (u : Sub)
  /-- LPUSH (R162): Micro-op LPUSH pushes a loop frame. -/
  | uLpush (u : Sub)
  /-- LEND (R162): Micro-op LEND applies the loop decision and sets NEXT. -/
  | uLend (u : Sub)
  /-- CPUSH (R162): Micro-op CPUSH pushes the successor onto the call stack. -/
  | uCpush (u : Sub)
  /-- CPOP (R162): Micro-op CPOP pops the call stack into NEXT. -/
  | uCpop (u : Sub)
  /-- SETNX (R162): Micro-op SETNX sets NEXT to the successor, OPC or a relative address. -/
  | uSetnx (u : Sub)
  /-- MOP_FLAG (R162): Micro-op FLAG sets and clears flags at the start of the next issued instance. -/
  | uFlag (u : Sub)
  /-- GSTEP (R162): Micro-op GSTEP requests a generator step at the start of the next issued instance. -/
  | uGstep (u : Sub)
  /-- EVT (R162): Micro-op EVT raises event 0x0200 + IMM with data A. -/
  | uEvt (u : Sub)
  /-- SAFE (R169): Micro-op SAFE commits the restart record and takes pending service-class requests. -/
  | uSafe (u : Sub)
  /-- END (R162): Micro-op END ends the instruction, clears the patches and dispatches NEXT. -/
  | uEnd (u : Sub)
  /-- HLT (R162): Micro-op HLT stalls until issued instances end and halts with cause 0x80 + IMM. -/
  | uHlt (u : Sub)
  /-- ILLEGAL_MICRO_OP (R162): A micro-op code not in the table is a micro-fault with cause 0x0A. -/
  | illegalMicroOp (u : Sub)
  /-- STALL_RELEASE (R160): A stalled micro-op resumes when the condition it waits for is met. -/
  | stallRelease (u : Sub)
  /-- SERVICE_REQUEST_TAKEN (R168): A pending service-class request is taken at a dispatch point, SAFE or stall and served, the routine then resuming at its MPC. -/
  | serviceRequestTaken (u : Sub)
  /-- SVC_OVERDUE (R171): A service-class request waits USTORE_SAFE_WDOG cycles, so the routine is abandoned with cause 0x0D and the request served. -/
  | svcOverdue (u : Sub)
  /-- USTORE_CLR_STATS (R175): A write of 1 to USTORE_CTRL.CLR_STATS clears USTORE_OVERDUE and USTORE_SVC_MAX. -/
  | ustoreClrStats
  /-- GEN_CFG_WRITE (R186): A write to GEN_CFG takes effect only in IDLE with EN 0, and is otherwise discarded with REFUSE 6. -/
  | genCfgWrite (u : Sub) (g : Lane) (v : Word)
  /-- GEN_LIST_WRITE (R202): A write to GEN_LIST takes effect only in IDLE with EN 0, and is otherwise discarded with REFUSE 6. -/
  | genListWrite (u : Sub) (g : Lane) (v : Word)
  /-- GEN_ENABLE (R188): Setting GEN_CTRL.EN takes ownership of the drive DACs and outputs GEN_REST, or is refused with a reason. -/
  | genEnable (u : Sub) (g : Lane)
  /-- GEN_DISABLE (R200): Clearing GEN_CTRL.EN stops the generator at the next tick boundary. -/
  | genDisable (u : Sub) (g : Lane)
  /-- GEN_STOP_POINT (R200): At the stop boundary the output goes to GEN_REST for one sample and then drive-off, the DACs are released, streamed entries cancelled and BUSY falls. -/
  | genStopPoint (u : Sub) (g : Lane)
  /-- GEN_START (R192): A write of 1 to GEN_CTRL.START schedules the first entry for a tick boundary, or is refused with REFUSE 7. -/
  | genStart (u : Sub) (g : Lane)
  /-- GEN_RESUME (R199): GEN_CTRL.RESUME continues a generator stopped by overdraft at the next tick boundary at the same entry. -/
  | genResume (u : Sub) (g : Lane)
  /-- GEN_LIST_CLR (R202): GEN_CTRL.LIST_CLR marks every entry unwritten and zeroes the write and done counts in IDLE with EN 0. -/
  | genListClr (u : Sub) (g : Lane)
  /-- GEN_CLR_STATS (R202): GEN_CTRL.CLR_STATS clears the overdraft and refill-reject counters. -/
  | genClrStats (g : Lane)
  /-- GEN_GO_ARM (R192): GEN_GO_CTRL.ARM places every qualifying masked generator in ARMED for the GO tick. -/
  | genGoArm (u : Sub)
  /-- GEN_GO (R192): At the GO tick all ARMED generators take their first entry together as a shared reset. -/
  | genGo (u : Sub)
  /-- GEN_GO_CANCEL (R192): GEN_GO_CTRL.CANCEL returns ARMED generators to their previous state. -/
  | genGoCancel (u : Sub)
  /-- GENERATOR_STEP (R182): At the tick boundary where the dwell ends, a generator steps to its next entry, resetting phase or ending at a STOP entry. -/
  | generatorStep (u : Sub) (g : Lane) (clip : Bool)
  /-- TRIGGERED_STEP (R183): A WAIT entry steps on the grid 24 cycles after its trigger fires. -/
  | triggeredStep (g : Lane)
  /-- TRIG_TIMEOUT (R183): A WAIT entry with no trigger steps at the last of DWELL tick boundaries and sets TRIG_TIMEOUT. -/
  | trigTimeout (u : Sub) (g : Lane)
  /-- GEN_OVERDRAFT_END (R199): Under HOLD or REST the generator continues at the first tick boundary after the missing entry is accepted and appends a Ledger entry. -/
  | genOverdraftEnd (u : Sub) (g : Lane)
  /-- LANE_APPLY (R213): LANE_CTRL.APPLY checks the staged set and submits it to the planner, or refuses it with a reason. -/
  | laneApply (u : Sub) (l : Lane)
  /-- LANE_APPLY_EFFECT (R213): An admitted set takes effect whole at the first boundary after its plan boundary and the pod acknowledgement, starting unsettled runs. -/
  | laneApplyEffect (l : Lane)
  /-- LANE_APPLY_WITHDRAW (R214): A set whose pod acknowledgement has not arrived within 200 ticks is withdrawn as refused with reason 8. -/
  | laneApplyWithdraw (l : Lane)
  /-- LANE_STREAM_WRITE (R225): A write to LANE_STREAM submits enabled streams to the planner and stops cleared streams, and is discarded in SEALED or SERVICE. -/
  | laneStreamWrite (u : Sub) (l : Lane) (v : Word)
  /-- BURST_GO (R227): LANE_CTRL.BURST_GO requests a raw burst when START_SEL is 16. -/
  | burstGo (u : Sub) (l : Lane)
  /-- BURST_START (R227): A burst starts at the tick boundary after its start and sends RAW blocks with BURST set. -/
  | burstStart (l : Lane)
  /-- BURST_END (R225): A burst ends after BURST_TICKS ticks and BURST_ACTIVE falls. -/
  | burstEnd (l : Lane)
  /-- BURST_DONE (R227): The last burst block leaves the Float, BURST_DRAIN falls and BURST_DONE is raised. -/
  | burstDone (u : Sub) (l : Lane)
  /-- UNSETTLED_END (R224): The last unsettled run of a lane ends, UNSETTLED falls and UNSETTLED_END is raised. -/
  | unsettledEnd (u : Sub) (l : Lane)
  /-- LANE_CLR_STATS (R230): LANE_CTRL.CLR_STATS clears LANE_OVR_CNT and LANE_BURST_MISS. -/
  | laneClrStats (l : Lane)
  /-- LANE_TRIGGER_EVENT (R232): A lane trigger finds a counted crossing, pulse, transition or runt and stamps it. -/
  | laneTriggerEvent (u : Sub) (env : List LaneIn)
  /-- TRIG_IN_EDGE (R238): A rising edge on TRIG_IN0–3 is stamped as a combiner source event. -/
  | trigInEdge (u : Sub) (k : Fin 4) (rising : Bool)
  /-- HOST_TRIG (R238): A write of 1 to ACQ_CTRL.HOST_TRIG raises the HOST_TRIG source event. -/
  | hostTrig (u : Sub)
  /-- COMBINER_FIRE (R240): A qualifying completing event is presented after its latency and the combiner fires, subject to holdoff, raising its level and feeding groups, bursts, generators and maps. -/
  | combinerFire (u : Sub) (c : Idx16)
  /-- HOLDOFF_EXPIRY (R242): A TIME holdoff ends and qualifying events may fire again. -/
  | holdoffExpiry (u : Sub) (c : Idx16)
  /-- SEQUENCE_WINDOW_EXPIRY (R239): An armed SEQUENCE combiner sees no I1 event within ACQ_COMB_SEQWIN cycles and disarms. -/
  | sequenceWindowExpiry (u : Sub) (c : Idx16)
  /-- COMB_LEVEL_FALL (R243): A combiner output level falls LEVEL_CYC cycles after the latest FIRE. -/
  | combLevelFall (u : Sub) (c : Idx16)
  /-- COMB_REARM (R242): ACQ_COMB_CTRL.REARM rearms a combiner held under HOLD_MODE 3. -/
  | combRearm (u : Sub) (c : Idx16)
  /-- COMB_CLR_STATS (R264): ACQ_COMB_CTRL.CLR_STATS clears ACQ_COMB_FIRES and ACQ_COMB_HELD. -/
  | combClrStats (u : Sub) (c : Idx16)
  /-- ACQ_CONFIG_EFFECT (R244): A write to a trigger, selector or combiner register takes effect at the next tick boundary and resets the unit's state, or is refused. -/
  | acqConfigEffect
  /-- SEGMENT_COMPLETE (R248): A segment's span ends and its header and lane items are queued on VC3, with accumulation and DONE handled. -/
  | segmentComplete (u : Sub) (n : Fin 4) (env : List LaneIn)
  /-- GROUP_ENABLE (R264): Setting a capture group's EN submits it to the planner, ARMED from the plan boundary, or refuses it. -/
  | groupEnable (u : Sub) (n : Fin 4) (v : Word)
  /-- GROUP_DISABLE (R257): Clearing a group's EN completes the segment in progress and sends any accumulation. -/
  | groupDisable (u : Sub) (n : Fin 4)
  /-- GRP_CLR_STATS (R264): ACQ_GRP_CTRL.CLR_STATS clears ACQ_GRP_MISS and ACQ_GRP_ACC_SKIP. -/
  | grpClrStats (n : Fin 4)
  /-- RED_APPLY (R250): ACQ_RED_CTRL.APPLY submits a lane's reduction set to the planner or refuses it. -/
  | redApply (u : Sub) (l : Lane) (v : Word)
  /-- RED_CLR_STATS (R264): ACQ_RED_CTRL.CLR_STATS clears ACQ_RED_EDGE_LOST. -/
  | redClrStats (l : Lane)
  /-- FRAME_END (R252): An interval frame ends at its tick boundary and its reduction items are sent. -/
  | frameEnd (l : Lane)
  /-- TALLY_ENABLE (R265): Setting a Tally unit's EN submits it to the planner, counting from the plan boundary. -/
  | tallyEnable (u : Sub) (t : TallyUnit) (v : Word)
  /-- TALLY_CLEAR (R262): The unit's CLEAR zeroes every bin and counter and rearms SATURATED. -/
  | tallyClear (u : Sub) (t : TallyUnit)
  /-- TALLY_SNAP (R260): TLY_CTRL.SNAP requests a snapshot of every enabled unit at the next tick boundary. -/
  | tallySnap (u : Sub)
  /-- TALLY_SNAPSHOT (R260): At a snapshot instant a unit takes its snapshot, or skips it while one is held unsent. -/
  | tallySnapshot (t : TallyUnit)
  /-- SWEEP_END (R259): A persistence-map sweep covers its last time bin and counts in TLY_M_SWEEPS. -/
  | sweepEnd (u : Sub) (m : Fin 8)
  /-- PAIR_ENABLE (R285): Setting CMP_P_CTRL.EN submits the pair to the planner, entering LEARNING, RUN or WAIT_LAT, or refuses it. -/
  | pairEnable (u : Sub) (p : PairNo)
  /-- PAIR_DISABLE (R286): Clearing a pair's EN makes the remaining decisions before the clear and produces STOPPED. -/
  | pairDisable (u : Sub) (p : PairNo) (env : List LaneIn)
  /-- COMPARE_DECISION (R272): Once both sources are presented through D, the pair decides a match, TIMING, MISSING, EXTRA, state or band result and queues any record. -/
  | compareDecision (u : Sub) (p : PairNo) (env : List LaneIn)
  /-- LEARN_FREEZE (R277): At the freezing boundary the learned latency is frozen and the pair enters RUN or FAILED. -/
  | learnFreeze (p : PairNo)
  /-- RELEARN (R278): CMP_P_CTRL.RELEARN requests a new learning window. -/
  | relearn (u : Sub) (p : PairNo)
  /-- RELEARN_START (R278): At the next tick boundary judging stops and the new learning window starts. -/
  | relearnStart (p : PairNo)
  /-- LATENCY_FOLLOW (R276): A FROM_PAIR pair takes its source pair's new L at the next tick boundary. -/
  | latencyFollow (p : PairNo)
  /-- REFERENCE_READ (R283): A pair reads its next reference record 2 ticks before its live instant, becoming absent with REF_GAP or BROKEN on a bad record. -/
  | referenceRead (u : Sub) (p : PairNo) (late : Bool)
  /-- REPLAY_RESUME (R284): Two ticks after a single linked stream's gap ends, judging resumes with CMP_RPL_ADJ increased. -/
  | replayResume (u : Sub)
  /-- OVERFLOW (R281): A pair's full queue falls below half and the pair produces an OVERFLOW record. -/
  | overflow (u : Sub) (p : PairNo)
  /-- CMP_RPL_WRITE (R289): A write to CMP_RPL_SHIFT, ADJ or LINK takes effect only while no recorded pair is enabled. -/
  | cmpRplWrite (u : Sub) (k : Fin 6) (v : Word)
  /-- CMP_CLR_STATS (R289): CMP_CTRL.CLR_STATS clears CMP_SUPPR and CMP_RPL_GAPS. -/
  | cmpClrStats (u : Sub)
  /-- CMP_P_CLR_STATS (R289): CMP_P_CTRL.CLR_STATS clears the pair's DISC, SKIP, SUPPR and GAP_TICKS. -/
  | cmpPClrStats (u : Sub) (p : PairNo)
  /-- GUARD_SAMPLE (R294): At cycle 160 every window samples, updates raw state and majority filter, and raises OUT or IN events and its reactions. -/
  | guardSample (vs : List GuardIn)
  /-- QUIET_REQUEST (R302): A write of 1 to GRD_QUIET.REQ in SENTINEL requests the quiet state, or is refused. -/
  | quietRequest (u : Sub) (v : Word)
  /-- QUIET_ENTER (R302): At the next tick boundary domains F2–F11 and optionally H4 switch off and their functions stop. -/
  | quietEnter
  /-- WAKE (R303): A window with WAKE_EN rises, WAKE is raised in the next tick and the domains start to come on. -/
  | wake (u : Sub)
  /-- QUIET_END (R303): A write of 0 to GRD_QUIET.REQ ends the quiet state. -/
  | quietEnd (u : Sub)
  /-- QUIET_RESTORE_COMPLETE (R303): The configuration in force before the quiet state returns and streams restart under a new plan. -/
  | quietRestoreComplete (u : Sub)
  /-- GRD_CLR_STATS (R305): GRD_CTRL.CLR_STATS clears XCNT and OUTT of every window. -/
  | grdClrStats
  /-- MC_START (R310): MET_MC_CTRL.START makes one settled reading, or is refused while a run owns the converter. -/
  | mcStart (u : Sub)
  /-- MC_CONT (R310): Setting MET_MC_CTRL.CONT starts continuous conversion. -/
  | mcCont (u : Sub)
  /-- MC_ABORT (R310): MET_MC_CTRL.ABORT discards the conversion in progress without a result. -/
  | mcAbort (u : Sub)
  /-- CONVERSION_DONE (R309): A metrology conversion completes, the filter updates and a settled reading replaces MET_RES. -/
  | conversionDone (u : Sub) (code : Int)
  /-- LINE_LOST (R308): No LINE_SYNC edge arrives for 100 ms, so LOCK falls and the converter uses a fallback period. -/
  | lineLost (u : Sub)
  /-- REFBUF_ON (R312): Setting MET_REF.MC_REFBUF switches on the reference buffer and starts the READY countdown. -/
  | refbufOn (u : Sub)
  /-- REF_READY (R312): 10,000 ticks after MC_REFBUF is set, READY rises. -/
  | refReady (u : Sub)
  /-- REFBUF_OFF (R312): Clearing MC_REFBUF drops READY and aborts a calibration run. -/
  | refbufOff (u : Sub)
  /-- HK_SCAN_START (R313): At each housekeeping period boundary, or after the user conversion, a temperature scan starts. -/
  | hkScanStart (u : Sub)
  /-- HK_SCAN_DONE (R313): A scan ends, updating MET_TEMP and MET_TM, REF_PRESENT and DUE_CAUSE. -/
  | hkScanDone (u : Sub) (temps : List Int) (refuv : Option Int)
  /-- DDAC_ENABLE (R315): A write of MET_DDAC.EN starts or stops injection into a lane, accepted only in SERVICE or CALIBRATE with no run. -/
  | ddacEnable (u : Sub) (v : Word)
  /-- CAL_RUN (R317): MET_CAL_CTRL.RUN starts a calibration run, or refuses it with result 6. -/
  | calRun (u : Sub)
  /-- CAL_AUTO_START (R317): With AUTO_EN, a due calibration, a present reference and READY, a run starts by itself in CALIBRATE. -/
  | calAutoStart (u : Sub)
  /-- CAL_RUN_END (R319): A run's two passes are compared and the set accepted or rejected, with CAL_DONE raised. -/
  | calRunEnd (u : Sub) (r : CalRun)
  /-- CAL_ABORT (R320): MET_CAL_CTRL.ABORT requests the abort of a run. -/
  | calAbort (u : Sub)
  /-- CAL_ABORT_DONE (R320): At the end of the measurement point the run is aborted, pods reconnect and CAL_DONE is raised with the result. -/
  | calAbortDone (u : Sub) (refLost : Bool)
  /-- SET_STORE_TIMEOUT (R322): A set not stored within 100,000 ticks of acceptance sets DUE_CAUSE bit 4. -/
  | setStoreTimeout (u : Sub)
  /-- BANK_READY (R324): A new bank is ready within 200 ticks of its build starting. -/
  | bankReady (u : Sub)
  /-- BANK_SWAP (R324): At the first tick boundary after it is ready the new bank takes effect, MET_BANK_ID increments and BANK_SWAP is raised. -/
  | bankSwap
  /-- MET_CAL_CLR_STATS (R328): MET_CAL_CTRL.CLR_STATS clears MET_CAL_REJ. -/
  | metCalClrStats (u : Sub)
  /-- POD_INSERT (R339): A slot's presence contact closes and debounce begins. -/
  | podInsert (u : Sub) (q : Idx16)
  /-- DEBOUNCE_DONE (R339): After 5,000 stable ticks the coding contacts are read, the budget checked and the slot powered, or the pod refused. -/
  | debounceDone (u : Sub) (q : Idx16) (code : Fin 4)
  /-- HELLO (R337): Pod command HELLO returns type, revision, firmware level, maximum rate and serial. -/
  | hello (u : Sub) (q : Idx16) (ans : Option PodAns)
  /-- SET_RATE (R337): Pod command SET_RATE changes the link rate 100 µs after the response. -/
  | setRate (u : Sub) (q : Idx16) (ans : Option PodAns)
  /-- LINK_TEST (R337): Pod command LINK_TEST echoes 64 bytes. -/
  | linkTest (u : Sub) (q : Idx16) (data : List Byte) (ans : Option PodAns)
  /-- CAPS (R338): Pod command CAPS returns the pod's declarations. -/
  | caps (u : Sub) (q : Idx16) (ans : Option PodAns)
  /-- CERT_READ (R337): Pod command CERT_READ returns identity certificate bytes. -/
  | certRead (u : Sub) (q : Idx16) (ans : Option PodAns)
  /-- CHALLENGE (R342): Pod command CHALLENGE returns a signature over the challenge and stress-chain head. -/
  | challenge (u : Sub) (q : Idx16) (ans : Option PodAns)
  /-- STRESS_READ (R345): Pod command STRESS_READ returns stress entries, whose chain is checked and worn or exhausted state applied. -/
  | stressRead (u : Sub) (q : Idx16) (ans : Option PodAns)
  /-- POLL (R337): Pod command POLL returns the pod's status, unread stress entries and temperature. -/
  | poll (u : Sub) (q : Idx16) (ans : Option PodAns)
  /-- CONFIG (R337): Pod command CONFIG sets range, fusion, termination, loopback and calibration bus per line. -/
  | config (u : Sub) (q : Idx16) (ans : Option PodAns)
  /-- LEVEL (R337): Pod command LEVEL sets a level DAC code, its acknowledgement clearing LVL_PENDING. -/
  | level (u : Sub) (q : Idx16) (ans : Option PodAns)
  /-- HOLD (R337): Pod command HOLD sets or releases the pod's software hold. -/
  | hold (u : Sub) (q : Idx16) (ans : Option PodAns)
  /-- FW_WRITE (R337): Pod command FW_WRITE writes firmware data into the pod's inactive bank. -/
  | fwWrite (u : Sub) (q : Idx16) (ofs : Nat) (data : List Byte) (ans : Option PodAns)
  /-- FW_COMMIT (R337): Pod command FW_COMMIT runs the bank whose digest it names, the slot then attaching again. -/
  | fwCommit (u : Sub) (q : Idx16) (digest : List Byte) (ans : Option PodAns)
  /-- POD_RESPONSE (R335): The module receives a pod response frame and matches it by SEQ, treating a bad CRC as no response. -/
  | podResponse (u : Sub) (q : Idx16) (frame : List Byte)
  /-- POD_RESPONSE_TIMEOUT (R335): A request without valid response in its time is retried with the same SEQ, up to 3 times. -/
  | podResponseTimeout (u : Sub) (q : Idx16)
  /-- HELLO_TIMEOUT (R339): No HELLO answer within the allowed time refuses the pod with reason 7. -/
  | helloTimeout (u : Sub) (q : Idx16)
  /-- RENEGOTIATE (R336): Every 100,000 ticks a lost link is renegotiated from 1 Mbit/s. -/
  | renegotiate (u : Sub) (q : Idx16)
  /-- LINK_LOSS_HOLD (R330): A link lost for 100,000 ticks drives HOLD_N low for the slot. -/
  | linkLossHold (u : Sub) (q : Idx16)
  /-- POD_SELF_HOLD (R330): A pod that receives no valid frame for 200 ms holds itself to sense-only. -/
  | podSelfHold (u : Sub) (q : Idx16)
  /-- POLL_INTERVAL (R337): Every 100 ticks the pod manager polls each attached pod. -/
  | pollInterval (u : Sub) (q : Idx16)
  /-- CHALLENGE_DUE (R342): 24 h after the latest success a recheck challenge runs. -/
  | challengeDue (u : Sub) (q : Idx16)
  /-- RECHECK_RETRY (R343): A failed recheck is repeated after 10 s, and a third failure refuses the pod with AUTH_FAIL. -/
  | recheckRetry (u : Sub) (q : Idx16)
  /-- POD_ATTACHED (R339): Negotiation completes and ATTACHED is reported at the next tick boundary, lane configurations taking effect again. -/
  | podAttached (q : Idx16)
  /-- POD_REMOVAL (R347): A slot's presence contact opens and the slot's streams become a gap from that instant. -/
  | podRemoval (u : Sub) (q : Idx16)
  /-- DETACH (R347): At the tick boundary after removal the roles become NONE, power is removed, DETACH is raised and pairs become absent. -/
  | detach (q : Idx16)
  /-- POWER_TRIP (R331): A slot switch trips on over-current or over-power, removing power and raising the pod fault source. -/
  | powerTrip (u : Sub) (q : Idx16)
  /-- POD_RETRY (R339): POD_S_CTRL.RETRY restarts the attach of a refused or tripped slot. -/
  | podRetry (u : Sub) (q : Idx16)
  /-- POD_RECHECK (R342): POD_S_CTRL.RECHECK runs a challenge now. -/
  | podRecheck (u : Sub) (q : Idx16)
  /-- POD_HOLD_WRITE (R330): A write of POD_S_CTRL.HOLD holds or releases HOLD_N for the slot. -/
  | podHoldWrite (u : Sub) (q : Idx16) (hold : Bool)
  /-- POD_POWER_OFF (R347): Setting POD_S_CTRL.POWER_OFF keeps the slot unpowered and detaches its pod. -/
  | podPowerOff (u : Sub) (q : Idx16) (off : Bool)
  /-- POD_CLR_STATS (R350): POD_CTRL.CLR_STATS clears the link-error, attach and peak-power figures of every slot. -/
  | podClrStats (u : Sub)
  /-- POD_BUDGET_CHECK (R485): Every 100 ticks the effective pod budget is evaluated and slots powered off in descending order while it is exceeded. -/
  | podBudgetCheck (mv : Nat) (mw : List (Idx16 × Nat))
  /-- FUNCTION_LEVEL_RESET (R354): A function-level reset stops every channel as under ABORT and resets the HDMA registers and rings. -/
  | functionLevelReset (u : Sub)
  /-- HOT_RESET (R354): A PCIe hot reset acts on the host link only, as a function-level reset. -/
  | hotReset (u : Sub)
  /-- HOST_LINK_DOWN (R354): A PCIe link-down or H4 switch-off acts on the host link only and appends a Ledger entry. -/
  | hostLinkDown (u : Sub)
  /-- HOST_LINK_RETRAIN (R353): The PCIe link retrains, counting in RETRAINS and updating DEGRADED. -/
  | hostLinkRetrain (u : Sub) (speed : Fin 6) (width : Fin 9)
  /-- AER_ERROR (R354): An AER error raises the host-link fault source. -/
  | aerError (u : Sub) (correctable : Bool)
  /-- BAR2_ACCESS (R356): A BAR2 read returns acquisition memory, or 0xFFFF_FFFF beyond memory or in staging, and writes are discarded and counted. -/
  | bar2Access (u : Sub) (write : Bool) (off : BitVec 32) (words : Nat)
  /-- DESCRIPTOR_POST (R361): A write of HDMA_C_TAIL posts descriptors for fetch while the channel is enabled. -/
  | descriptorPost (u : Sub) (c : Idx16) (tail : Fin 4096)
  /-- HDMA_NOP (R358): Descriptor NOP completes at once with BYTES 0. -/
  | hdmaNop (u : Sub) (c : Idx16) (d : List Byte)
  /-- REFILL (R358): Descriptor REFILL reads host data and sends it to a stream as refill messages. -/
  | refill (u : Sub) (c : Idx16) (d : List Byte) (data : List Byte)
  /-- COPY_OUT (R358): Descriptor COPY_OUT writes acquisition memory to host memory. -/
  | copyOut (u : Sub) (c : Idx16) (d : List Byte) (n : Nat)
  /-- TAP (R366): Descriptor TAP supplies a host buffer that receives items released by Clearing. -/
  | tap (u : Sub) (c : Idx16) (d : List Byte)
  /-- DESCRIPTOR_COMPLETE (R360): A descriptor's work ends and its completion record is written in order, optionally with its MSI-X vector. -/
  | descriptorComplete (u : Sub) (c : Idx16) (data : List Byte)
  /-- HOST_ERR (R363): A bus-master completion error completes the descriptor with HOST_ERR and stops the channel. -/
  | hostErr (u : Sub) (c : Idx16) (data : List Byte) (n : Nat)
  /-- HDMA_CHANNEL_ENABLE (R361): Setting HDMA_C_CTRL.EN starts fetching posted descriptors, with no effect while BUSY. -/
  | hdmaChannelEnable (u : Sub) (c : Idx16)
  /-- HDMA_DRAIN (R364): DRAIN or a write of 0 to EN completes descriptors in progress and cancels the rest. -/
  | hdmaDrain (u : Sub) (c : Idx16)
  /-- HDMA_ABORT (R364): ABORT stops descriptors at the next 4 KiB boundary and cancels the rest. -/
  | hdmaAbort (u : Sub) (c : Idx16) (data : List Byte) (n : Nat)
  /-- CHANNEL_STOPPED (R364): A stop completes, HEAD equals TAIL, BUSY and EN read 0 and STOPPED is set. -/
  | channelStopped (u : Sub) (c : Idx16) (descs : List (List Byte))
  /-- TAP_FLUSH (R366): A partly filled tap buffer completes after FLUSH_TICKS idle ticks. -/
  | tapFlush (u : Sub) (c : Idx16)
  /-- EQ_VECTOR_TIMER (R370): An event-queue vector is raised when HDMA_EQ_MOD.TICKS pass since the first unannounced entry. -/
  | eqVectorTimer (u : Sub)
  /-- HDMA_CLR_STATS (R371): HDMA_CTRL.CLR_STATS clears every SAT counter of the block. -/
  | hdmaClrStats (u : Sub)
  /-- HDMA_C_CLR_STATS (R371): HDMA_C_CTRL.CLR_STATS clears the channel's ERR_CNT and TAP_MISS. -/
  | hdmaCClrStats (u : Sub) (c : Idx16)
  /-- DRIVE_LINK_UP (R373): A storage port links up and the drive is examined and accepted, refused or adopted. -/
  | driveLinkUp (u : Sub) (d : Fin 4) (x : DriveInfo)
  /-- DRIVE_LINK_DOWN (R374): A drive link goes down or the drive is removed, so the drive is lost. -/
  | driveLinkDown (u : Sub) (d : Fin 4)
  /-- NVME_COMPLETION (R374): An NVMe command completes, an error losing the drive and the last Flush of a seal recording the durable head and requesting the seal. -/
  | nvmeCompletion (u : Sub) (d : Fin 4) (op : NvmeOp) (ok : Bool)
  /-- NVME_COMMAND_TIMEOUT (R374): A command not completed after 5 s is aborted, and an abort not completed in a further 5 s loses the drive. -/
  | nvmeCommandTimeout (u : Sub) (d : Fin 4) (abort : Bool)
  /-- REBUILD_DONE (R379): The last stripe is rebuilt, STATE reads RUNNING and REBUILD_DONE is raised. -/
  | rebuildDone (u : Sub)
  /-- STOR_FORMAT (R377): STOR_CTRL.FORMAT formats the store on the accepted drives, or is refused. -/
  | storFormat (u : Sub)
  /-- STOR_EN_WRITE (R383): A write of STOR_CTRL.EN starts recording or closes the open blocks. -/
  | storEnWrite (u : Sub) (en : Bool)
  /-- SEAL_INSTANT (R384): At a seal instant the store closes blocks, completes and writes the stripe and flushes the drives, abandoning an unissued previous seal. -/
  | sealInstant
  /-- SEAL_NOW (R384): STOR_CTRL.SEAL_NOW makes the next tick boundary a seal instant. -/
  | sealNow (u : Sub)
  /-- SEAL_ISSUED (R385): The Mint signs the seal record, which enters the next ORDERED block and the control area. -/
  | sealIssued (u : Sub)
  /-- PIN_ADD (R387): STOR_PIN_CTRL.ADD pins the stripes of the staged SEQ range, or is refused. -/
  | pinAdd (u : Sub)
  /-- STORE_READ (R389): STOR_RD_CTRL.GO starts reading blocks into acquisition memory, or is refused. -/
  | storeRead (u : Sub)
  /-- STORE_READ_DONE (R389): The requested blocks have landed and GO falls. -/
  | storeReadDone (u : Sub)
  /-- STOR_CLR_STATS (R395): STOR_CTRL.CLR_STATS clears the lost, filler, merged and drive error counters. -/
  | storClrStats (u : Sub)
  /-- MERGED_APPEND (R391): When the append queue has room again the MERGED entry is appended. -/
  | mergedAppend (u : Sub)
  /-- LDG_NOTE (R392): LDG_CTRL.NOTE appends LDG_NOTE as a NOTE entry. -/
  | ldgNote (u : Sub)
  /-- LDG_CLR_STATS (R396): LDG_CTRL.CLR_STATS clears LDG_OVERWRITTEN and LDG_MERGED. -/
  | ldgClrStats (u : Sub)
  /-- PACKET_SUBMIT (R405): SEC_CTRL.SUBMIT starts verifying the change packet in the window. -/
  | packetSubmit (u : Sub) (service : Bool)
  /-- PACKET_CHECK_DONE (R405): The packet check ends, refusing it with a reason or reserving the lowest free slot. -/
  | packetCheckDone (u : Sub)
  /-- SLOT_STAGED (R406): At the tick boundary after the check the slot becomes STAGED, classified as loosening or approved at once. -/
  | slotStaged (k : Fin 4)
  /-- TOKEN_SUBMIT (R407): SEC_CTRL.TOKEN starts verifying the token in the window. -/
  | tokenSubmit (u : Sub)
  /-- TOKEN_CHECK_DONE (R408): A verified APPROVE, COSIGN or CANCEL approves or empties its slot, or the token is refused. -/
  | tokenCheckDone (u : Sub) (service : Bool)
  /-- SLOT_EXPIRY (R408): A slot that has not committed at its expiry empties with result EXPIRED. -/
  | slotExpiry (k : Fin 4)
  /-- ESCROW_COMMIT (R411): At the commit tick the packet is reclassified and checked and its host-half operations apply, updating SEC_PSET_SEQ, the digest and the image copy. -/
  | escrowCommit
  /-- AR_GO (R414): SEC_CTRL.AR_GO requests an audit report over SEC_NONCE. -/
  | arGo (u : Sub)
  /-- AUDIT_REPORT_READY (R414): The signed report appears in the window, AR_BUSY falls and AR_DONE is raised. -/
  | auditReportReady (u : Sub)
  /-- SEC_CLR_STATS (R415): SEC_CTRL.CLR_STATS clears SEC_REFUSALS. -/
  | secClrStats (u : Sub)
  /-- POWER_UP (R417): 12 V rises and start-up runs: self-test, boot verification, protection-set load, image read and host domains. -/
  | powerUp (b : BootIn)
  /-- POWER_LOSS_12V (R447): 12 V is lost; absent for 100 ms it clears FAULT_HOLD. -/
  | powerLoss12v (u : Sub) (long : Bool)
  /-- HOST_INPUT_LOW (R482): The host input stays below 10.0 V for 1 ms and the host half switches off. -/
  | hostInputLow (u : Sub)
  /-- HOST_SUPPLY_FAULT (R482): The host input stays outside 11.4–12.6 V for 1 ms and source 0x17 is raised. -/
  | hostSupplyFault (u : Sub)
  /-- FIELD_SUPPLY_IN_RANGE (R482): The field input stays within 18–32 V for 10 ms and the supervisor may switch F1 on. -/
  | fieldSupplyInRange (u : Sub)
  /-- FIELD_SUPPLY_OUT_OF_RANGE (R482): The field input stays below 17 V or above 33 V for 1 ms and F1 switches off. -/
  | fieldSupplyOutOfRange (u : Sub)
  /-- FIELD_SUPPLY_FAULT (R482): The field input stays outside 18.0–32.0 V for 1 ms and source 0x4D is raised. -/
  | fieldSupplyFault (u : Sub)
  /-- IMG_ERASE (R424): SYS_IMG_CTRL.ERASE erases the inactive image slot. -/
  | imgErase (u : Sub)
  /-- IMG_PROG (R424): SYS_IMG_CTRL.PROG programs the window's words at SYS_IMG_OFS. -/
  | imgProg (u : Sub) (words : Fin 8192)
  /-- IMG_ACTIVATE (R424): SYS_IMG_CTRL.ACTIVATE starts checking the inactive slot. -/
  | imgActivate (u : Sub)
  /-- IMG_CHECK_DONE (R424): The image check ends, marking the slot active or refusing it with a cause. -/
  | imgCheckDone (u : Sub)
  /-- MODE_REQUEST (R431): A write of SYS_MODE.REQ is checked and admitted or refused with MODE_REFUSE. -/
  | modeRequest (u : Sub) (m : Idx16)
  /-- MODE_CHANGE (R432): At the plan boundary the move is rechecked and completes, stopping functions not permitted, or is abandoned. -/
  | modeChange
  /-- SYS_CLR_STATS (R434): SYS_CTRL.CLR_STATS clears SYS_SEALED_REJ. -/
  | sysClrStats (u : Sub)
  /-- MODULE_RESET (R442): A module reset switches off every domain except H1 and runs start-up from step 2. -/
  | moduleReset (b : BootIn)
  /-- FAULT_RAISE (R438): A host fault source is raised and the collector counts it, sets pending, records it and takes its reactions. -/
  | faultRaise (u : Sub) (id : Fin 64) (data : Word)
  /-- FIELD_FAULT_RAISE (R438): A field fault source is detected, the field half takes its field reactions and queues one event per tick. -/
  | fieldFaultRaise (u : Sub) (id : Fin 256) (data : Word)
  /-- BLOCK_RESET_END (R441): A block reset ends within 2 ticks and the block resumes. -/
  | blockResetEnd (u : Sub) (blk : Fin 256)
  /-- FLT_PEND_CLEAR (R444): A W1C write to FLT_PEND clears pending bits of non-Fatal sources. -/
  | fltPendClear (u : Sub) (k : Fin 5) (v : Word)
  /-- FAULT_PIN_RELEASE (R444): FAULT_N or FIELD_FAULT_N rises once its condition has ended and 10 ms have passed since it fell. -/
  | faultPinRelease (u : Sub) (field : Bool)
  /-- FAULT_FORCE (R445): A write to FLT_FORCE raises the source as if detected, or is refused for a Fatal source. -/
  | faultForce (u : Sub) (k : Fin 5) (v : Word) (service : Bool)
  /-- FLT_CLR_STATS (R452): FLT_CTRL.CLR_STATS clears every FLT_CNT. -/
  | fltClrStats (u : Sub)
  /-- CLR_FIRST (R452): FLT_CTRL.CLR_FIRST clears FLT_FIRST_GEN.VALID. -/
  | clrFirst (u : Sub)
  /-- TEMPERATURE_LIMIT (R483): A sensor reaches a warning or shutdown limit and the temperature source of its half is raised. -/
  | temperatureLimit (u : Sub) (field : Bool) (shutdown : Bool)
  /-- FIELD_SHUTDOWN_POWER_OFF (R483): Two ticks after a field shutdown raise F2–F11 switch off. -/
  | fieldShutdownPowerOff
  /-- AVAIL_DAY_ROLL (R451): At each day boundary a daily sum of uncovered ticks is completed and the year total updated. -/
  | availDayRoll
  /-- UPD_ERASE (R456): UPD_CTRL.ERASE erases the bank that is not ACTIVE. -/
  | updErase (u : Sub)
  /-- UPD_PROG (R456): UPD_CTRL.PROG programs UPD_WORD at UPD_OFS. -/
  | updProg (u : Sub) (words : Fin 8192)
  /-- UPD_VERIFY (R457): UPD_CTRL.VERIFY checks the bank and records VRESULT. -/
  | updVerify (u : Sub)
  /-- STAGING_COMPLETE (R457): Every field and pod copy matches, STATE reads STAGED and VERIFIED is raised. -/
  | stagingComplete (u : Sub)
  /-- UPD_ARM (R458): UPD_CTRL.ARM arms an activation at second A, or is refused. -/
  | updArm (u : Sub) (cell : Bool)
  /-- UPD_CANCEL (R460): UPD_CTRL.CANCEL disarms before the decision sample. -/
  | updCancel (u : Sub)
  /-- DECISION_SAMPLE (R460): At second A − 1 an armed module proceeds on a high line or aborts to STAGED. -/
  | decisionSample (line : Bool)
  /-- ACTIVATION (R461): At A the bank becomes TRIAL and the management core restarts from it. -/
  | activation
  /-- FIELD_STAGE (R461): At boundary b the field parts switch with 2 ticks of drive hold and pods receive FW_COMMIT. -/
  | fieldStage
  /-- FIELD_STAGE_TIMEOUT (R461): No boundary b arrives within 1 s of A and health fails. -/
  | fieldStageTimeout
  /-- HEALTH_PASS (R462): All health conditions hold and the module releases CELL_SYNC. -/
  | healthPass
  /-- COMMIT_SAMPLE (R463): At A + check seconds the update commits on a high line or reverts. -/
  | commitSample (line : Bool)
  /-- LINE_SYNC_EDGE (R308): A LINE_SYNC edge updates the measured line period and sets MET_LINE.LOCK while edges arrive within 45–65 Hz. -/
  | lineSyncEdge (u : Sub)
  /-- IMG_ERASE_PROG_DONE (R424): An erase or program of the inactive image slot completes and SYS_IMG_STAT.BUSY falls. -/
  | imgEraseProgDone (u : Sub)
  /-- UPD_ERASE_PROG_DONE (R456): An erase or program of the staging bank completes and UPD_STAT.BUSY falls. -/
  | updEraseProgDone (u : Sub)
  /-- HOST_STAGE_DONE (R461): The management core finishes its restart from the TRIAL (or, on revert, PREVIOUS) bank, Clearing resumes and the field stage becomes due at the next tick boundary. -/
  | hostStageDone (u : Sub)
  deriving DecidableEq, Repr

end Sys2Proof
end

