-- ==== Sys2Proof/Decode.lean ====
section
/-! DEFINITION. The table of operations gives its rows no bits: commands come as accesses, messages and events, and no word spells one. -/

namespace Sys2Proof

/-- The command that a word spells by the table's bits: the table gives no row any, so none. [DESIGN CHOICE, log 3, safe] -/
def decodeTableWord (_nbits _w : Nat) : Option Instr := none

end Sys2Proof
end

