-- ==== Sys2Proof/Config.lean ====
section
/-! DEFINITION. What one module fixes at manufacture, the values the specification leaves free (opaque constants, so that
nothing can be proved of one value of them), and the fault-source table of R436. -/

namespace Sys2Proof.Config

/-- Free value number `n` of a run: a value that the specification says results and does not state. [DESIGN CHOICE, log 8, safe] -/
opaque freeValue : Nat → Nat

/-- SHAKE256 with 32 bytes of output (the specification names the FIPS 202 function and does not define it). [DESIGN CHOICE, log 9, safe] -/
opaque shake256 : List Byte → List Byte

/-- The level code that the drive, comparator or guard DAC applies for a level in µV (R111, R292: "rounded to the DAC step",
whose size the specification leaves to the pod or lane). First argument: the channel or window. [DESIGN CHOICE, log 10, safe] -/
opaque dacLevel : Nat → Int → Int

/-- Whether a filter sum that lies half-way between two codes rounds up (R217 says "rounded" and does not say how). [DESIGN CHOICE, log 11, safe] -/
opaque roundTie : Int → Bool

/-- Ordering variant (R1): SYS_ID.VARIANT, 0x01 for CZ2548-M1 and 0x02 for CZ2548-M2. [DESIGN CHOICE, log 10, safe] -/
opaque variantM2 : Bool

/-- Hardware revision of SYS_ID (fitted). -/
opaque hwRev : BitVec 8

/-- Module serial, 4 words (SYS_SERIAL, fitted). -/
opaque serialWord : Nat → Word

/-- DEVICE_ID of the module, 8 words (SEC_DEVICE_ID, loaded). -/
opaque deviceIdWord : Nat → Word

/-- The words of the certificate windows, by selection (SEC_CERT_WORD). -/
opaque certWord : Nat → Nat → Word

/-- The vendor microword at an address below 0xC000 (R158: loaded from the firmware package). -/
opaque vendorWord : Nat → Word

/-- The byte at an offset of firmware bank A as it was programmed at manufacture (R455: the specification gives the layout and no release). -/
opaque factoryByte : Nat → Byte

/-- The version of the vendor microcode (USTORE_VEND_VER, from the manifest). -/
opaque vendorVersion : Word

/-- The customer microword that a bank holds before its first commit, by bank and address. -/
opaque customerWord : Nat → Nat → Word

/-- Bytes of an ML-DSA-65 signature by key, over a message (the specification names FIPS 204 and does not define it). [DESIGN CHOICE, log 9, safe] -/
opaque mldsaSign : Nat → List Byte → List Byte

/-- An ML-DSA-65 signature verifies: public key, message, signature. [DESIGN CHOICE, log 9, safe] -/
opaque mldsaVerify : List Byte → List Byte → List Byte → Bool

/-- Public keys that the firmware or the vault holds: 0 pod authority, 1 Gellital root, 2 update, 3 image, 4 Escrow authority. [DESIGN CHOICE, log 9, safe] -/
opaque publicKey : Nat → List Byte

/-- Highest pod feature level that the running host firmware knows for a pod type (R340). [DESIGN CHOICE, log 10, safe] -/
opaque podLevel : Nat → Nat

/-- The number that a Ledger entry with CODE 0x80FF holds for a cause that the specification names and does not number, by rule and
cause. [DESIGN CHOICE, log 20, unsafe] -/
opaque causeCode : Nat → Nat → Nat

/-- Parts of a conversion's 40 ticks of auto-zero and reset that come before the integration, in units (R308 gives the sum alone). [DESIGN CHOICE, log 10, safe; DESIGN CHOICE, log 55, safe] -/
opaque metZeroFirst : Nat

/-- VALUE of a reading whose input is not at the converter itself (R306, R307: through a lane's active range, a threshold DAC or a sensor, whose scale
the specification leaves to the part). Arguments: MC_SEL, range of the converter, active range of the lane, corrected code in 1/4,194,304. [DESIGN CHOICE, log 10, safe] -/
opaque metScale : Nat → Nat → Nat → Int → Int

/-- Size of one LSB of the converter or DAC that an item's offset belongs to, in µV (R319), by ITEM_ID. [DESIGN CHOICE, log 10, safe] -/
opaque calStepUv : Nat → Nat

/-- Acquisition memory in GiB (R1). -/
def memGiB : Nat := if variantM2 then 256 else 128

/-! ### Fault sources (R436) -/

/-- Class of a source: 1 Corrected, 2 Contained, 3 Fatal, 0 for a reserved ID (R435, R436). -/
def faultClass (id : Nat) : Nat :=
  if id = 0x00 ∨ id = 0x01 ∨ id = 0x07 ∨ id = 0x19 ∨ id = 0x4F ∨ id = 0x50 then 3
  else if id = 0x02 ∨ id = 0x04 ∨ id = 0x06 ∨ id = 0x08 ∨ id = 0x0B ∨ id = 0x13 ∨ id = 0x15 ∨ id = 0x16 ∨ id = 0x44 ∨
      id = 0x4B ∨ id = 0x4C ∨ id = 0x52 then 1
  else if id ≤ 0x1A ∨ (0x40 ≤ id ∧ id ≤ 0x54) ∨ (0x80 ≤ id ∧ id ≤ 0x8F) then 2
  else 0

/-- Protection-class sources (PROT of R436). -/
def faultProt (id : Nat) : Bool :=
  id = 0x00 ∨ id = 0x01 ∨ id = 0x03 ∨ id = 0x07 ∨ id = 0x0E ∨ id = 0x14 ∨ id = 0x19 ∨ id = 0x40 ∨ id = 0x47 ∨ id = 0x49 ∨
  id = 0x4A ∨ id = 0x4B ∨ id = 0x4C ∨ id = 0x4D ∨ id = 0x4F ∨ id = 0x50 ∨ id = 0x52 ∨ id = 0x53 ∨ (0x80 ≤ id ∧ id ≤ 0x8F)

/-- The block that a block reset of the source acts on (R436, R441). -/
inductive FaultBlock where
  | sequencer | fieldProcessor | managementCore | hostLink | podPower | slot (s : Nat)
  deriving DecidableEq, Repr

/-- The block of a source (R436); none where the table has a dash. -/
def faultBlock (id : Nat) : Option FaultBlock :=
  if id = 0x05 then some .managementCore
  else if id = 0x0C then some .hostLink
  else if id = 0x43 ∨ id = 0x45 then some .sequencer
  else if id = 0x47 then some .fieldProcessor
  else if id = 0x53 then some .podPower
  else if 0x80 ≤ id ∧ id ≤ 0x8F then some (.slot (id - 0x80))
  else none

/-- Reset reactions of a source as FLT_ACT bits [5:0]: bit 5 X, 4 F, 3 M, 2 B, 1 N, 0 I (R436, R440). -/
def faultReact (id : Nat) : Nat :=
  if id = 0x00 ∨ id = 0x01 ∨ id = 0x07 ∨ id = 0x19 ∨ id = 0x4D ∨ id = 0x4F ∨ id = 0x50 ∨ id = 0x53 then 0x31
  else if id = 0x02 ∨ id = 0x04 ∨ id = 0x09 ∨ id = 0x0A ∨ id = 0x0C ∨ id = 0x0F ∨ id = 0x10 ∨ id = 0x11 ∨ id = 0x13 ∨ id = 0x15 ∨
      id = 0x18 ∨ id = 0x42 ∨ id = 0x43 ∨ id = 0x48 ∨ id = 0x4A ∨ id = 0x4C ∨ id = 0x4E ∨ id = 0x51 ∨ id = 0x52 ∨
      (0x80 ≤ id ∧ id ≤ 0x8F) then 0x01
  else if id = 0x03 ∨ id = 0x0D ∨ id = 0x0E ∨ id = 0x12 ∨ id = 0x14 ∨ id = 0x17 ∨ id = 0x1A ∨ id = 0x46 ∨ id = 0x54 then 0x11
  else if id = 0x05 ∨ id = 0x45 then 0x05
  else if id = 0x40 then 0x20
  else if id = 0x47 then 0x35
  else if id = 0x49 then 0x21
  else 0

/-- The FLT_ACT bits that a source can take (R440): bit 2 needs a block, and no Fatal source takes bits 2 and 3. -/
def faultActMask (id : Nat) : Nat :=
  if faultClass id = 0 then 0
  else if faultClass id = 3 then 0x33
  else if (faultBlock id).isSome then 0x3F else 0x3B

/-- The word FLT_ACT[id] holds after reset (R436, R452). -/
def actReset (id : Nat) : Nat :=
  faultClass id * 2 ^ 30 + (if faultProt id then 2 ^ 29 else 0) + (if (faultBlock id).isSome then 2 ^ 28 else 0) + faultReact id

/-- A source of the field half (R436: 0x40 and above). -/
def faultIsField (id : Nat) : Bool := 0x40 ≤ id

end Sys2Proof.Config
end

