-- ==== Sys2Proof/Machine/Regs.lean ====
section
/-! DEFINITION. The register map of the module: every register of the register tables R54, R55, R90, R91, R130, R131, R174,
R175, R202, R203, R230, R264, R265, R289, R305, R328, R350, R371, R395, R396, R415, R434, R452 and R469, each at the
BAR0 byte address that R20 and its table give, its fields with their bits, access codes (R10) and reset values. -/

namespace Sys2Proof.R

/-! ### Block ISO -/
def ISO_ID : Nat := 0x100000
def ISO_ID_MAX_LANES : Fld := ⟨ISO_ID, 8, 8⟩
def ISO_ID_CATALOGUE : Fld := ⟨ISO_ID, 0, 8⟩
def ISO_CTRL : Nat := 0x100004
def ISO_CTRL_LINK_HOLD : Fld := ⟨ISO_CTRL, 8, 8⟩
def ISO_CTRL_CLR_STATS : Fld := ⟨ISO_CTRL, 1, 1⟩
def ISO_CTRL_RETRAIN : Fld := ⟨ISO_CTRL, 0, 1⟩
def ISO_STAT : Nat := 0x100008
def ISO_STAT_FH_WIDTH : Fld := ⟨ISO_STAT, 16, 5⟩
def ISO_STAT_HF_WIDTH : Fld := ⟨ISO_STAT, 8, 5⟩
def ISO_STAT_DEGRADED : Fld := ⟨ISO_STAT, 4, 1⟩
def ISO_STAT_STATE : Fld := ⟨ISO_STAT, 0, 4⟩
def ISO_EVT : Nat := 0x10000C
def ISO_EVT_SATURATED : Fld := ⟨ISO_EVT, 7, 1⟩
def ISO_EVT_TUN_TIMEOUT : Fld := ⟨ISO_EVT, 6, 1⟩
def ISO_EVT_SEQ_GAP : Fld := ⟨ISO_EVT, 5, 1⟩
def ISO_EVT_DROP : Fld := ⟨ISO_EVT, 4, 1⟩
def ISO_EVT_LANE_SUBST : Fld := ⟨ISO_EVT, 3, 1⟩
def ISO_EVT_DEGRADED : Fld := ⟨ISO_EVT, 2, 1⟩
def ISO_EVT_LINK_UP : Fld := ⟨ISO_EVT, 1, 1⟩
def ISO_EVT_LINK_DOWN : Fld := ⟨ISO_EVT, 0, 1⟩
def ISO_LANES_GOOD : Nat := 0x100010
def ISO_LANES_GOOD_HF : Fld := ⟨ISO_LANES_GOOD, 16, 16⟩
def ISO_LANES_GOOD_FH : Fld := ⟨ISO_LANES_GOOD, 0, 16⟩
def ISO_LANES_USED : Nat := 0x100014
def ISO_LANES_USED_HF : Fld := ⟨ISO_LANES_USED, 16, 16⟩
def ISO_LANES_USED_FH : Fld := ⟨ISO_LANES_USED, 0, 16⟩
def ISO_BUDGET_FH : Nat := 0x100018
def ISO_BUDGET_HF : Nat := 0x10001C
def ISO_HDROP : Nat := 0x100020
def ISO_FDROP : Nat := 0x100024
def ISO_DROP_LAST : Nat := 0x100028
def ISO_DROP_LAST_SIDE : Fld := ⟨ISO_DROP_LAST, 31, 1⟩
def ISO_DROP_LAST_DIR : Fld := ⟨ISO_DROP_LAST, 30, 1⟩
def ISO_DROP_LAST_VC : Fld := ⟨ISO_DROP_LAST, 27, 3⟩
def ISO_DROP_LAST_REASON : Fld := ⟨ISO_DROP_LAST, 24, 3⟩
def ISO_DROP_LAST_TYPE : Fld := ⟨ISO_DROP_LAST, 16, 8⟩
def ISO_DROP_LAST_LENGTH : Fld := ⟨ISO_DROP_LAST, 0, 16⟩
def ISO_CRC_ERR : Nat := 0x10002C
def ISO_SEQ_GAP : Nat := 0x100030
def ISO_REPLAY : Nat := 0x100034
def ISO_TRAIN_COUNT : Nat := 0x100038
def ISO_TUN_STAT : Nat := 0x10003C
def ISO_TUN_STAT_OUTSTANDING : Fld := ⟨ISO_TUN_STAT, 8, 6⟩
def ISO_TUN_STAT_LAST_STATUS : Fld := ⟨ISO_TUN_STAT, 0, 3⟩
def ISO_TUN_TIMEOUT : Nat := 0x100040
def ISO_TUN_LAT_MAX : Nat := 0x100044
def ISO_TX_BYTES_LO : Nat := 0x100048
def ISO_TX_BYTES_HI : Nat := 0x10004C
def ISO_RX_BYTES_LO : Nat := 0x100050
def ISO_RX_BYTES_HI : Nat := 0x100054

/-! ### Block FCTL -/
def FCTL_STAT : Nat := 0x1000000
def FCTL_STAT_FATAL : Fld := ⟨FCTL_STAT, 16, 1⟩
def FCTL_STAT_FATAL_ID : Fld := ⟨FCTL_STAT, 8, 8⟩
def FCTL_STAT_FW_BANK : Fld := ⟨FCTL_STAT, 2, 1⟩
def FCTL_STAT_FW_OK : Fld := ⟨FCTL_STAT, 1, 1⟩
def FCTL_STAT_ALIGNED : Fld := ⟨FCTL_STAT, 0, 1⟩
def FCTL_EVT : Nat := 0x1000004
def FCTL_EVT_HELD_DISCARD : Fld := ⟨FCTL_EVT, 2, 1⟩
def FCTL_EVT_ESC_DONE : Fld := ⟨FCTL_EVT, 1, 1⟩
def FCTL_EVT_FATAL : Fld := ⟨FCTL_EVT, 0, 1⟩
def FCTL_ESC_GO : Nat := 0x1000010
def FCTL_ESC_GO_SLOT : Fld := ⟨FCTL_ESC_GO, 0, 2⟩
def FCTL_ESC_DONE_LO : Nat := 0x1000018
def FCTL_ESC_DONE_HI : Nat := 0x100001C
def FCTL_ESC_DONE_GEN : Nat := 0x1000020
def FCTL_ESC_DONE_GEN_GEN : Fld := ⟨FCTL_ESC_DONE_GEN, 16, 16⟩
def FCTL_ESC_DONE_GEN_SLOT : Fld := ⟨FCTL_ESC_DONE_GEN, 4, 2⟩
def FCTL_ESC_DONE_GEN_APPLIED : Fld := ⟨FCTL_ESC_DONE_GEN, 3, 1⟩
def FCTL_ESC_DONE_GEN_VALID : Fld := ⟨FCTL_ESC_DONE_GEN, 0, 1⟩
def FCTL_ESC_HELD (k : Nat) : Nat := 0x1000030 + 0x4 * k
def FCTL_ESC_HELD_IMAGE (k : Nat) : Fld := ⟨FCTL_ESC_HELD k, 31, 1⟩
def FCTL_ESC_HELD_WRITES (k : Nat) : Fld := ⟨FCTL_ESC_HELD k, 0, 11⟩
def FCTL_FATAL : Nat := 0x1000040
def FCTL_FATAL_ID : Fld := ⟨FCTL_FATAL, 0, 8⟩

/-! ### Block TIME -/
def TIME_CTRL : Nat := 0x10000
def TIME_CTRL_PLAN_FOR_12 : Fld := ⟨TIME_CTRL, 11, 1⟩
def TIME_CTRL_EPOCH_LOAD : Fld := ⟨TIME_CTRL, 10, 1⟩
def TIME_CTRL_CLR_STATS : Fld := ⟨TIME_CTRL, 9, 1⟩
def TIME_CTRL_TOD_EN : Fld := ⟨TIME_CTRL, 8, 1⟩
def TIME_CTRL_SRC : Fld := ⟨TIME_CTRL, 0, 2⟩
def TIME_STAT : Nat := 0x10004
def TIME_STAT_FIELD_ALIGNED : Fld := ⟨TIME_STAT, 7, 1⟩
def TIME_STAT_EPOCH_VALID : Fld := ⟨TIME_STAT, 6, 1⟩
def TIME_STAT_TOD_OK : Fld := ⟨TIME_STAT, 5, 1⟩
def TIME_STAT_PPS_LOCK : Fld := ⟨TIME_STAT, 4, 1⟩
def TIME_STAT_HOLDOVER : Fld := ⟨TIME_STAT, 3, 1⟩
def TIME_STAT_PLL_LOCK : Fld := ⟨TIME_STAT, 2, 1⟩
def TIME_STAT_SRC_ACTIVE : Fld := ⟨TIME_STAT, 0, 2⟩
def TIME_EVT : Nat := 0x10008
def TIME_EVT_SATURATED : Fld := ⟨TIME_EVT, 9, 1⟩
def TIME_EVT_FIELD_STEP : Fld := ⟨TIME_EVT, 8, 1⟩
def TIME_EVT_PLAN_REFUSED : Fld := ⟨TIME_EVT, 7, 1⟩
def TIME_EVT_OVERRUN_STREAK : Fld := ⟨TIME_EVT, 6, 1⟩
def TIME_EVT_OVERRUN : Fld := ⟨TIME_EVT, 5, 1⟩
def TIME_EVT_ERA_WRAP : Fld := ⟨TIME_EVT, 4, 1⟩
def TIME_EVT_EPOCH_SET : Fld := ⟨TIME_EVT, 3, 1⟩
def TIME_EVT_SYNC_SLIP : Fld := ⟨TIME_EVT, 2, 1⟩
def TIME_EVT_REF_LOCK : Fld := ⟨TIME_EVT, 1, 1⟩
def TIME_EVT_REF_LOST : Fld := ⟨TIME_EVT, 0, 1⟩
def TIME_NOW_LO : Nat := 0x10010
def TIME_NOW_HI : Nat := 0x10014
def TIME_ERA : Nat := 0x10018
def TIME_EPOCH_LO : Nat := 0x10020
def TIME_EPOCH_HI : Nat := 0x10024
def TIME_EPOCH_SET_LO : Nat := 0x10028
def TIME_EPOCH_SET_HI : Nat := 0x1002C
def TIME_PPS_LO : Nat := 0x10030
def TIME_PPS_HI : Nat := 0x10034
def TIME_PPS_GEN : Nat := 0x10038
def TIME_PPS_GEN_GEN : Fld := ⟨TIME_PPS_GEN, 16, 16⟩
def TIME_PPS_GEN_VALID : Fld := ⟨TIME_PPS_GEN, 0, 1⟩
def TIME_PPS_RESID : Nat := 0x1003C
def TIME_PATH : Nat := 0x10040
def TIME_FIELD_OFS : Nat := 0x10044
def TIME_PLAN_ID : Nat := 0x10050
def TIME_PLAN_STAT : Nat := 0x10054
def TIME_PLAN_STAT_REASON : Fld := ⟨TIME_PLAN_STAT, 8, 4⟩
def TIME_PLAN_STAT_RESULT : Fld := ⟨TIME_PLAN_STAT, 0, 2⟩
def TIME_PLAN_SHORT : Nat := 0x10058
def TIME_OVERRUN : Nat := 0x1005C
def TIME_OVR_STREAK : Nat := 0x10060
def TIME_OVR_LAST_LO : Nat := 0x10064
def TIME_OVR_LAST_HI : Nat := 0x10068
def TIME_OVR_LAST_GEN : Nat := 0x1006C
def TIME_OVR_LAST_GEN_GEN : Fld := ⟨TIME_OVR_LAST_GEN, 16, 16⟩
def TIME_OVR_LAST_GEN_VALID : Fld := ⟨TIME_OVR_LAST_GEN, 0, 1⟩
def TIME_START_LO : Nat := 0x10070
def TIME_START_HI : Nat := 0x10074

/-! ### Block CLR -/
def CLR_CTRL : Nat := 0x20000
def CLR_CTRL_CLR_STATS : Fld := ⟨CLR_CTRL, 7, 1⟩
def CLR_CTRL_HORIZON : Fld := ⟨CLR_CTRL, 0, 7⟩
def CLR_STAT : Nat := 0x20004
def CLR_STAT_STAGE_FILL : Fld := ⟨CLR_STAT, 16, 16⟩
def CLR_STAT_EFF_HORIZON : Fld := ⟨CLR_STAT, 0, 7⟩
def CLR_EVT : Nat := 0x20008
def CLR_EVT_SATURATED : Fld := ⟨CLR_EVT, 3, 1⟩
def CLR_EVT_SQUEEZE : Fld := ⟨CLR_EVT, 2, 1⟩
def CLR_EVT_LATE : Fld := ⟨CLR_EVT, 1, 1⟩
def CLR_EVT_ERA_CLOSE : Fld := ⟨CLR_EVT, 0, 1⟩
def CLR_RELEASE_LO : Nat := 0x20010
def CLR_RELEASE_HI : Nat := 0x20014
def CLR_LATE_COUNT : Nat := 0x20018
def CLR_LATE_MAX : Nat := 0x2001C
def CLR_SQUEEZE_COUNT : Nat := 0x20020
def CLR_ITEMS_LO : Nat := 0x20028
def CLR_ITEMS_HI : Nat := 0x2002C

/-! ### Block PIN -/
def PIN_CTRL (p : Nat) : Nat := 0x1400000 + 0x1000 * p
def PIN_CTRL_TERM_EN (p : Nat) : Fld := ⟨PIN_CTRL p, 4, 1⟩
def PIN_CTRL_DESKEW (p : Nat) : Fld := ⟨PIN_CTRL p, 3, 1⟩
def PIN_CTRL_CLR_STATS (p : Nat) : Fld := ⟨PIN_CTRL p, 2, 1⟩
def PIN_CTRL_CMP_MASK (p : Nat) : Fld := ⟨PIN_CTRL p, 1, 1⟩
def PIN_CTRL_EN (p : Nat) : Fld := ⟨PIN_CTRL p, 0, 1⟩
def PIN_STAT (p : Nat) : Nat := 0x1400004 + 0x1000 * p
def PIN_STAT_CMP_LIVE (p : Nat) : Fld := ⟨PIN_STAT p, 9, 2⟩
def PIN_STAT_LVL_PENDING (p : Nat) : Fld := ⟨PIN_STAT p, 8, 1⟩
def PIN_STAT_DESKEW_VALID (p : Nat) : Fld := ⟨PIN_STAT p, 7, 1⟩
def PIN_STAT_DESKEW_BUSY (p : Nat) : Fld := ⟨PIN_STAT p, 6, 1⟩
def PIN_STAT_DRV_SUPPR (p : Nat) : Fld := ⟨PIN_STAT p, 5, 1⟩
def PIN_STAT_DRV_ON (p : Nat) : Fld := ⟨PIN_STAT p, 4, 1⟩
def PIN_STAT_BUSY (p : Nat) : Fld := ⟨PIN_STAT p, 3, 1⟩
def PIN_STAT_ROLE (p : Nat) : Fld := ⟨PIN_STAT p, 0, 3⟩
def PIN_EVT (p : Nat) : Nat := 0x1400008 + 0x1000 * p
def PIN_EVT_LANE_CONFLICT (p : Nat) : Fld := ⟨PIN_EVT p, 9, 1⟩
def PIN_EVT_ILIM (p : Nat) : Fld := ⟨PIN_EVT p, 8, 1⟩
def PIN_EVT_DESKEW_FAIL (p : Nat) : Fld := ⟨PIN_EVT p, 7, 1⟩
def PIN_EVT_DESKEW_DONE (p : Nat) : Fld := ⟨PIN_EVT p, 6, 1⟩
def PIN_EVT_LEVEL_CLAMP (p : Nat) : Fld := ⟨PIN_EVT p, 5, 1⟩
def PIN_EVT_BAD_CHAR (p : Nat) : Fld := ⟨PIN_EVT p, 4, 1⟩
def PIN_EVT_EDGE_ORDER (p : Nat) : Fld := ⟨PIN_EVT p, 3, 1⟩
def PIN_EVT_EDGE_SKIP (p : Nat) : Fld := ⟨PIN_EVT p, 2, 1⟩
def PIN_EVT_FAIL (p : Nat) : Fld := ⟨PIN_EVT p, 1, 1⟩
def PIN_EVT_SATURATED (p : Nat) : Fld := ⟨PIN_EVT p, 0, 1⟩
def PIN_DRV_HI (p : Nat) : Nat := 0x1400010 + 0x1000 * p
def PIN_DRV_LO (p : Nat) : Nat := 0x1400014 + 0x1000 * p
def PIN_CMP_HI (p : Nat) : Nat := 0x1400018 + 0x1000 * p
def PIN_CMP_LO (p : Nat) : Nat := 0x140001C + 0x1000 * p
def PIN_TERM (p : Nat) : Nat := 0x1400020 + 0x1000 * p
def PIN_PROT (p : Nat) : Nat := 0x1400024 + 0x1000 * p
def PIN_PROT_DRV_PERMIT (p : Nat) : Fld := ⟨PIN_PROT p, 31, 1⟩
def PIN_PROT_ILIM (p : Nat) : Fld := ⟨PIN_PROT p, 0, 16⟩
def PIN_LIMIT_HI (p : Nat) : Nat := 0x1400028 + 0x1000 * p
def PIN_LIMIT_LO (p : Nat) : Nat := 0x140002C + 0x1000 * p
def PIN_DESKEW (p : Nat) : Nat := 0x1400030 + 0x1000 * p
def PIN_DESKEW_CMP (p : Nat) : Fld := ⟨PIN_DESKEW p, 16, 16⟩
def PIN_DESKEW_DRV (p : Nat) : Fld := ⟨PIN_DESKEW p, 0, 16⟩
def PIN_DESKEW_RT (p : Nat) : Nat := 0x1400034 + 0x1000 * p
def PIN_CAPT (p : Nat) : Nat := 0x1400038 + 0x1000 * p
def PIN_CAPT_EN (p : Nat) : Fld := ⟨PIN_CAPT p, 31, 1⟩
def PIN_CAPT_BUDGET (p : Nat) : Fld := ⟨PIN_CAPT p, 16, 12⟩
def PIN_CAPT_FILT (p : Nat) : Fld := ⟨PIN_CAPT p, 0, 8⟩
def PIN_FAIL_CNT_LO (p : Nat) : Nat := 0x1400040 + 0x1000 * p
def PIN_FAIL_CNT_HI (p : Nat) : Nat := 0x1400044 + 0x1000 * p
def PIN_FIRST_FAIL_LO (p : Nat) : Nat := 0x1400048 + 0x1000 * p
def PIN_FIRST_FAIL_HI (p : Nat) : Nat := 0x140004C + 0x1000 * p
def PIN_FIRST_FAIL_GEN (p : Nat) : Nat := 0x1400050 + 0x1000 * p
def PIN_FIRST_FAIL_GEN_GEN (p : Nat) : Fld := ⟨PIN_FIRST_FAIL_GEN p, 16, 16⟩
def PIN_FIRST_FAIL_GEN_VALID (p : Nat) : Fld := ⟨PIN_FIRST_FAIL_GEN p, 0, 1⟩
def PIN_SUPPR_CNT (p : Nat) : Nat := 0x1400054 + 0x1000 * p
def PIN_EDGE_SKIP (p : Nat) : Nat := 0x1400058 + 0x1000 * p
def PIN_EDGE_LOST (p : Nat) : Nat := 0x140005C + 0x1000 * p
def PIN_TS_DON (p k : Nat) : Nat := 0x1400400 + 0x1000 * p + 0x18 * k
def PIN_TS_DDATA (p k : Nat) : Nat := 0x1400404 + 0x1000 * p + 0x18 * k
def PIN_TS_DRET (p k : Nat) : Nat := 0x1400408 + 0x1000 * p + 0x18 * k
def PIN_TS_DOFF (p k : Nat) : Nat := 0x140040C + 0x1000 * p + 0x18 * k
def PIN_TS_COPEN (p k : Nat) : Nat := 0x1400410 + 0x1000 * p + 0x18 * k
def PIN_TS_CCLOSE (p k : Nat) : Nat := 0x1400414 + 0x1000 * p + 0x18 * k
def PIN_TS_MODE (p k : Nat) : Nat := 0x1400A00 + 0x1000 * p + 0x4 * k
def PIN_TS_MODE_CMODE (p k : Nat) : Fld := ⟨PIN_TS_MODE p k, 4, 1⟩
def PIN_TS_MODE_FORMAT (p k : Nat) : Fld := ⟨PIN_TS_MODE p k, 0, 4⟩

/-! ### Block SEQ -/
def SEQ_FAIL_CTRL : Nat := 0x110F000
def SEQ_FAIL_CTRL_FWD_MAX : Fld := ⟨SEQ_FAIL_CTRL, 8, 8⟩
def SEQ_FAIL_CTRL_CLR_STATS : Fld := ⟨SEQ_FAIL_CTRL, 2, 1⟩
def SEQ_FAIL_CTRL_DUMP : Fld := ⟨SEQ_FAIL_CTRL, 1, 1⟩
def SEQ_FAIL_CTRL_CLEAR : Fld := ⟨SEQ_FAIL_CTRL, 0, 1⟩
def SEQ_FAIL_STAT : Nat := 0x110F004
def SEQ_FAIL_STAT_DUMP_BUSY : Fld := ⟨SEQ_FAIL_STAT, 1, 1⟩
def SEQ_FAIL_STAT_FULL : Fld := ⟨SEQ_FAIL_STAT, 0, 1⟩
def SEQ_FAIL_EVT : Nat := 0x110F008
def SEQ_FAIL_EVT_CFG_ERR : Fld := ⟨SEQ_FAIL_EVT, 3, 1⟩
def SEQ_FAIL_EVT_DUMP_DONE : Fld := ⟨SEQ_FAIL_EVT, 2, 1⟩
def SEQ_FAIL_EVT_FULL : Fld := ⟨SEQ_FAIL_EVT, 1, 1⟩
def SEQ_FAIL_EVT_SATURATED : Fld := ⟨SEQ_FAIL_EVT, 0, 1⟩
def SEQ_FAIL_BASE : Nat := 0x110F00C
def SEQ_FAIL_SIZE : Nat := 0x110F010
def SEQ_FAIL_STORED : Nat := 0x110F014
def SEQ_FAIL_VEC_LO : Nat := 0x110F018
def SEQ_FAIL_VEC_HI : Nat := 0x110F01C
def SEQ_FAIL_LOST_LO : Nat := 0x110F020
def SEQ_FAIL_LOST_HI : Nat := 0x110F024
def SEQ_FAIL_UNFWD : Nat := 0x110F028
def SEQ_CTRL : Nat := 0x1100000
def SEQ_CTRL_OD_ACTION : Fld := ⟨SEQ_CTRL, 12, 1⟩
def SEQ_CTRL_CLR_STATS : Fld := ⟨SEQ_CTRL, 11, 1⟩
def SEQ_CTRL_RESUME : Fld := ⟨SEQ_CTRL, 10, 1⟩
def SEQ_CTRL_JUMP : Fld := ⟨SEQ_CTRL, 9, 1⟩
def SEQ_CTRL_STEP : Fld := ⟨SEQ_CTRL, 8, 1⟩
def SEQ_CTRL_STOP : Fld := ⟨SEQ_CTRL, 7, 1⟩
def SEQ_CTRL_START : Fld := ⟨SEQ_CTRL, 6, 1⟩
def SEQ_CTRL_WIN_APPLY : Fld := ⟨SEQ_CTRL, 5, 1⟩
def SEQ_CTRL_PAUSE : Fld := ⟨SEQ_CTRL, 4, 1⟩
def SEQ_STAT : Nat := 0x1100004
def SEQ_STAT_RSTR_STATE : Fld := ⟨SEQ_STAT, 10, 2⟩
def SEQ_STAT_CUST_RUN : Fld := ⟨SEQ_STAT, 9, 1⟩
def SEQ_STAT_SVC_PENDING : Fld := ⟨SEQ_STAT, 8, 1⟩
def SEQ_STAT_WAITING : Fld := ⟨SEQ_STAT, 7, 1⟩
def SEQ_STAT_OVERDRAFT : Fld := ⟨SEQ_STAT, 6, 1⟩
def SEQ_STAT_BUSY : Fld := ⟨SEQ_STAT, 5, 1⟩
def SEQ_STAT_STATE : Fld := ⟨SEQ_STAT, 0, 3⟩
def SEQ_EVT : Nat := 0x1100008
def SEQ_EVT_SATURATED : Fld := ⟨SEQ_EVT, 10, 1⟩
def SEQ_EVT_WIN_CFG_ERR : Fld := ⟨SEQ_EVT, 9, 1⟩
def SEQ_EVT_REFUSED : Fld := ⟨SEQ_EVT, 8, 1⟩
def SEQ_EVT_SVC_OVERDUE : Fld := ⟨SEQ_EVT, 7, 1⟩
def SEQ_EVT_MATCH_LIMIT : Fld := ⟨SEQ_EVT, 6, 1⟩
def SEQ_EVT_WAIT_TIMEOUT : Fld := ⟨SEQ_EVT, 5, 1⟩
def SEQ_EVT_OVERDRAFT : Fld := ⟨SEQ_EVT, 4, 1⟩
def SEQ_EVT_REFILL_REJ : Fld := ⟨SEQ_EVT, 3, 1⟩
def SEQ_EVT_UNDERRUN : Fld := ⟨SEQ_EVT, 2, 1⟩
def SEQ_EVT_PAUSED : Fld := ⟨SEQ_EVT, 1, 1⟩
def SEQ_EVT_HALTED : Fld := ⟨SEQ_EVT, 0, 1⟩
def SEQ_HALT_CAUSE : Nat := 0x110000C
def SEQ_START_ADDR_LO : Nat := 0x1100010
def SEQ_START_ADDR_HI : Nat := 0x1100014
def SEQ_JUMP_ADDR_LO : Nat := 0x1100018
def SEQ_JUMP_ADDR_HI : Nat := 0x110001C
def SEQ_VADDR_LO : Nat := 0x1100020
def SEQ_VADDR_HI : Nat := 0x1100024
def SEQ_VCOUNT_LO : Nat := 0x1100028
def SEQ_VCOUNT_HI : Nat := 0x110002C
def SEQ_FLAGS : Nat := 0x1100030
def SEQ_STACK : Nat := 0x1100034
def SEQ_STACK_LDEPTH : Fld := ⟨SEQ_STACK, 16, 5⟩
def SEQ_STACK_CDEPTH : Fld := ⟨SEQ_STACK, 8, 5⟩
def SEQ_STACK_MDEPTH : Fld := ⟨SEQ_STACK, 0, 4⟩
def SEQ_WIN_BASE : Nat := 0x1100038
def SEQ_WIN_COUNT : Nat := 0x110003C
def SEQ_REFILL_REJ : Nat := 0x1100040
def SEQ_UNDERRUN : Nat := 0x1100044
def SEQ_OD_COUNT : Nat := 0x1100048
def SEQ_OD_LAST_LO : Nat := 0x110004C
def SEQ_OD_LAST_HI : Nat := 0x1100050
def SEQ_OD_LAST_GEN : Nat := 0x1100054
def SEQ_OD_LAST_GEN_GEN : Fld := ⟨SEQ_OD_LAST_GEN, 16, 16⟩
def SEQ_OD_LAST_GEN_VALID : Fld := ⟨SEQ_OD_LAST_GEN, 0, 1⟩
def SEQ_MATCH_REPS : Nat := 0x1100058
def SEQ_FRAME_SEL : Nat := 0x1100060
def SEQ_FRAME_TAG : Nat := 0x1100064
def SEQ_FRAME_TAG_VALID : Fld := ⟨SEQ_FRAME_TAG, 31, 1⟩
def SEQ_FRAME_TAG_SEGMENT : Fld := ⟨SEQ_FRAME_TAG, 0, 24⟩
def SEQ_FRAME_FILL : Nat := 0x1100068
def SEQ_LSTK_ADDR_LO (k : Nat) : Nat := 0x1100100 + 0x10 * k
def SEQ_LSTK_ADDR_HI (k : Nat) : Nat := 0x1100104 + 0x10 * k
def SEQ_LSTK_REM (k : Nat) : Nat := 0x1100108 + 0x10 * k
def SEQ_LSTK_IDX (k : Nat) : Nat := 0x110010C + 0x10 * k
def SEQ_CSTK_LO (k : Nat) : Nat := 0x1100200 + 0x8 * k
def SEQ_CSTK_HI (k : Nat) : Nat := 0x1100204 + 0x8 * k
def SEQ_RSTR (k : Nat) : Nat := 0x1100300 + 0x4 * k
def SEQ_PERIOD (k : Nat) : Nat := 0x1100400 + 0x4 * k
def SEQ_UREG (k : Nat) : Nat := 0x1100500 + 0x4 * k

/-! ### Block USTORE -/
def USTORE_WORD (a : Nat) : Nat := 0x1200000 + 0x4 * a
def USTORE_CWORD (a : Nat) : Nat := 0x1230000 + 0x4 * a
def USTORE_CTRL : Nat := 0x1300000
def USTORE_CTRL_CLR_STATS : Fld := ⟨USTORE_CTRL, 0, 1⟩
def USTORE_STAT : Nat := 0x1300004
def USTORE_STAT_CUST_PENDING : Fld := ⟨USTORE_STAT, 2, 1⟩
def USTORE_STAT_CUST_BANK : Fld := ⟨USTORE_STAT, 1, 1⟩
def USTORE_STAT_VEND_OK : Fld := ⟨USTORE_STAT, 0, 1⟩
def USTORE_EVT : Nat := 0x1300008
def USTORE_EVT_SATURATED : Fld := ⟨USTORE_EVT, 3, 1⟩
def USTORE_EVT_CUST_SWITCH : Fld := ⟨USTORE_EVT, 2, 1⟩
def USTORE_EVT_MFAULT : Fld := ⟨USTORE_EVT, 1, 1⟩
def USTORE_EVT_VEND_BAD : Fld := ⟨USTORE_EVT, 0, 1⟩
def USTORE_SAFE_WDOG : Nat := 0x130000C
def USTORE_VEND_VER : Nat := 0x1300010
def USTORE_MFAULT : Nat := 0x1300014
def USTORE_MFAULT_CAUSE : Fld := ⟨USTORE_MFAULT, 24, 8⟩
def USTORE_MFAULT_MPC : Fld := ⟨USTORE_MFAULT, 0, 16⟩
def USTORE_OVERDUE : Nat := 0x1300018
def USTORE_SVC_MAX : Nat := 0x130001C
def USTORE_CUST_DIGEST (k : Nat) : Nat := 0x1300020 + 0x4 * k

/-! ### Block GEN -/
def GEN_CTRL (g : Nat) : Nat := 0x1A00000 + 0x1000 * g
def GEN_CTRL_LIST_CLR (g : Nat) : Fld := ⟨GEN_CTRL g, 8, 1⟩
def GEN_CTRL_CLR_STATS (g : Nat) : Fld := ⟨GEN_CTRL g, 7, 1⟩
def GEN_CTRL_RESUME (g : Nat) : Fld := ⟨GEN_CTRL g, 6, 1⟩
def GEN_CTRL_START (g : Nat) : Fld := ⟨GEN_CTRL g, 5, 1⟩
def GEN_CTRL_STREAM (g : Nat) : Fld := ⟨GEN_CTRL g, 4, 1⟩
def GEN_CTRL_OD_ACTION (g : Nat) : Fld := ⟨GEN_CTRL g, 2, 2⟩
def GEN_CTRL_EN (g : Nat) : Fld := ⟨GEN_CTRL g, 0, 1⟩
def GEN_STAT (g : Nat) : Nat := 0x1A00004 + 0x1000 * g
def GEN_STAT_REFUSE (g : Nat) : Fld := ⟨GEN_STAT g, 12, 4⟩
def GEN_STAT_OWNER (g : Nat) : Fld := ⟨GEN_STAT g, 8, 1⟩
def GEN_STAT_EXC_LOST (g : Nat) : Fld := ⟨GEN_STAT g, 7, 1⟩
def GEN_STAT_DRV_SUPPR (g : Nat) : Fld := ⟨GEN_STAT g, 6, 1⟩
def GEN_STAT_OVERDRAFT (g : Nat) : Fld := ⟨GEN_STAT g, 5, 1⟩
def GEN_STAT_BUSY (g : Nat) : Fld := ⟨GEN_STAT g, 4, 1⟩
def GEN_STAT_STATE (g : Nat) : Fld := ⟨GEN_STAT g, 0, 3⟩
def GEN_EVT (g : Nat) : Nat := 0x1A00008 + 0x1000 * g
def GEN_EVT_TRIG_TIMEOUT (g : Nat) : Fld := ⟨GEN_EVT g, 10, 1⟩
def GEN_EVT_SATURATED (g : Nat) : Fld := ⟨GEN_EVT g, 9, 1⟩
def GEN_EVT_REFUSED (g : Nat) : Fld := ⟨GEN_EVT g, 8, 1⟩
def GEN_EVT_ENDED (g : Nat) : Fld := ⟨GEN_EVT g, 7, 1⟩
def GEN_EVT_MARK (g : Nat) : Fld := ⟨GEN_EVT g, 6, 1⟩
def GEN_EVT_CLIP (g : Nat) : Fld := ⟨GEN_EVT g, 5, 1⟩
def GEN_EVT_EXC_LOST (g : Nat) : Fld := ⟨GEN_EVT g, 4, 1⟩
def GEN_EVT_BAD_ENTRY (g : Nat) : Fld := ⟨GEN_EVT g, 3, 1⟩
def GEN_EVT_REFILL_REJ (g : Nat) : Fld := ⟨GEN_EVT g, 2, 1⟩
def GEN_EVT_RESUMED (g : Nat) : Fld := ⟨GEN_EVT g, 1, 1⟩
def GEN_EVT_OVERDRAFT (g : Nat) : Fld := ⟨GEN_EVT g, 0, 1⟩
def GEN_CFG (g : Nat) : Nat := 0x1A0000C + 0x1000 * g
def GEN_CFG_EXC_LANE (g : Nat) : Fld := ⟨GEN_CFG g, 16, 6⟩
def GEN_CFG_MODE (g : Nat) : Fld := ⟨GEN_CFG g, 0, 3⟩
def GEN_LIST (g : Nat) : Nat := 0x1A00010 + 0x1000 * g
def GEN_LIST_LOOP (g : Nat) : Fld := ⟨GEN_LIST g, 16, 13⟩
def GEN_LIST_LEN (g : Nat) : Fld := ⟨GEN_LIST g, 0, 14⟩
def GEN_REST (g : Nat) : Nat := 0x1A00014 + 0x1000 * g
def GEN_WR_COUNT (g : Nat) : Nat := 0x1A00018 + 0x1000 * g
def GEN_DONE_COUNT (g : Nat) : Nat := 0x1A0001C + 0x1000 * g
def GEN_CUR (g : Nat) : Nat := 0x1A00020 + 0x1000 * g
def GEN_OD_COUNT (g : Nat) : Nat := 0x1A00024 + 0x1000 * g
def GEN_OD_TICKS (g : Nat) : Nat := 0x1A00028 + 0x1000 * g
def GEN_REFILL_REJ (g : Nat) : Nat := 0x1A0002C + 0x1000 * g
def GEN_OD_LAST_LO (g : Nat) : Nat := 0x1A00030 + 0x1000 * g
def GEN_OD_LAST_HI (g : Nat) : Nat := 0x1A00034 + 0x1000 * g
def GEN_OD_LAST_GEN (g : Nat) : Nat := 0x1A00038 + 0x1000 * g
def GEN_OD_LAST_GEN_GEN (g : Nat) : Fld := ⟨GEN_OD_LAST_GEN g, 16, 16⟩
def GEN_OD_LAST_GEN_VALID (g : Nat) : Fld := ⟨GEN_OD_LAST_GEN g, 0, 1⟩
def GEN_LIST_SEL (g : Nat) : Nat := 0x1A00040 + 0x1000 * g
def GEN_LIST_WORD (g k : Nat) : Nat := 0x1A00060 + 0x1000 * g + 0x4 * k
def GEN_GO_CTRL : Nat := 0x1A30000
def GEN_GO_CTRL_CANCEL : Fld := ⟨GEN_GO_CTRL, 1, 1⟩
def GEN_GO_CTRL_ARM : Fld := ⟨GEN_GO_CTRL, 0, 1⟩
def GEN_GO_MASK_LO : Nat := 0x1A30008
def GEN_GO_MASK_HI : Nat := 0x1A3000C
def GEN_GO_TICK_LO : Nat := 0x1A30010
def GEN_GO_TICK_HI : Nat := 0x1A30014

/-! ### Block LANE -/
def LANE_CTRL (l : Nat) : Nat := 0x1800000 + 0x4000 * l
def LANE_CTRL_BURST_GO (l : Nat) : Fld := ⟨LANE_CTRL l, 2, 1⟩
def LANE_CTRL_CLR_STATS (l : Nat) : Fld := ⟨LANE_CTRL l, 1, 1⟩
def LANE_CTRL_APPLY (l : Nat) : Fld := ⟨LANE_CTRL l, 0, 1⟩
def LANE_STAT (l : Nat) : Nat := 0x1800004 + 0x4000 * l
def LANE_STAT_REFUSE (l : Nat) : Fld := ⟨LANE_STAT l, 28, 4⟩
def LANE_STAT_BURST_DRAIN (l : Nat) : Fld := ⟨LANE_STAT l, 8, 1⟩
def LANE_STAT_BURST_ACTIVE (l : Nat) : Fld := ⟨LANE_STAT l, 7, 1⟩
def LANE_STAT_UNSETTLED (l : Nat) : Fld := ⟨LANE_STAT l, 6, 1⟩
def LANE_STAT_BUSY (l : Nat) : Fld := ⟨LANE_STAT l, 5, 1⟩
def LANE_STAT_APPLY_PENDING (l : Nat) : Fld := ⟨LANE_STAT l, 4, 1⟩
def LANE_STAT_MEMBER (l : Nat) : Fld := ⟨LANE_STAT l, 3, 1⟩
def LANE_STAT_LEAD (l : Nat) : Fld := ⟨LANE_STAT l, 2, 1⟩
def LANE_STAT_PRESENT (l : Nat) : Fld := ⟨LANE_STAT l, 0, 1⟩
def LANE_EVT (l : Nat) : Nat := 0x1800008 + 0x4000 * l
def LANE_EVT_SATURATED (l : Nat) : Fld := ⟨LANE_EVT l, 6, 1⟩
def LANE_EVT_BURST_MISS (l : Nat) : Fld := ⟨LANE_EVT l, 5, 1⟩
def LANE_EVT_BURST_DONE (l : Nat) : Fld := ⟨LANE_EVT l, 4, 1⟩
def LANE_EVT_UNSETTLED_END (l : Nat) : Fld := ⟨LANE_EVT l, 3, 1⟩
def LANE_EVT_OVR (l : Nat) : Fld := ⟨LANE_EVT l, 2, 1⟩
def LANE_EVT_REFUSED (l : Nat) : Fld := ⟨LANE_EVT l, 1, 1⟩
def LANE_EVT_APPLIED (l : Nat) : Fld := ⟨LANE_EVT l, 0, 1⟩
def LANE_CFG (l : Nat) : Nat := 0x180000C + 0x4000 * l
def LANE_CFG_DEC_K (l : Nat) : Fld := ⟨LANE_CFG l, 8, 4⟩
def LANE_CFG_FUSE (l : Nat) : Fld := ⟨LANE_CFG l, 4, 2⟩
def LANE_CFG_RANGE (l : Nat) : Fld := ⟨LANE_CFG l, 0, 3⟩
def LANE_FILT (l : Nat) : Nat := 0x1800010 + 0x4000 * l
def LANE_FILT_FIR_EN (l : Nat) : Fld := ⟨LANE_FILT l, 31, 1⟩
def LANE_FILT_RANK_EN (l : Nat) : Fld := ⟨LANE_FILT l, 30, 1⟩
def LANE_FILT_RANK_FIRST (l : Nat) : Fld := ⟨LANE_FILT l, 29, 1⟩
def LANE_FILT_FIR_ALIGN (l : Nat) : Fld := ⟨LANE_FILT l, 16, 7⟩
def LANE_FILT_FIR_TAPS (l : Nat) : Fld := ⟨LANE_FILT l, 8, 8⟩
def LANE_FILT_RANK_W (l : Nat) : Fld := ⟨LANE_FILT l, 4, 3⟩
def LANE_FILT_RANK_R (l : Nat) : Fld := ⟨LANE_FILT l, 0, 4⟩
def LANE_STREAM (l : Nat) : Nat := 0x1800014 + 0x4000 * l
def LANE_STREAM_FILT_EN (l : Nat) : Fld := ⟨LANE_STREAM l, 3, 1⟩
def LANE_STREAM_DEC_EN (l : Nat) : Fld := ⟨LANE_STREAM l, 2, 1⟩
def LANE_STREAM_RAW (l : Nat) : Fld := ⟨LANE_STREAM l, 0, 2⟩
def LANE_RAW (l : Nat) : Nat := 0x1800018 + 0x4000 * l
def LANE_RAW_START_SEL (l : Nat) : Fld := ⟨LANE_RAW l, 16, 5⟩
def LANE_RAW_BURST_TICKS (l : Nat) : Fld := ⟨LANE_RAW l, 0, 16⟩
def LANE_ACTIVE (l : Nat) : Nat := 0x180001C + 0x4000 * l
def LANE_ACTIVE_DEC_K (l : Nat) : Fld := ⟨LANE_ACTIVE l, 8, 4⟩
def LANE_ACTIVE_FUSE (l : Nat) : Fld := ⟨LANE_ACTIVE l, 4, 2⟩
def LANE_ACTIVE_RANGE (l : Nat) : Fld := ⟨LANE_ACTIVE l, 0, 3⟩
def LANE_FILT_ACT (l : Nat) : Nat := 0x1800020 + 0x4000 * l
def LANE_FILT_ACT_FIR_EN (l : Nat) : Fld := ⟨LANE_FILT_ACT l, 31, 1⟩
def LANE_FILT_ACT_RANK_EN (l : Nat) : Fld := ⟨LANE_FILT_ACT l, 30, 1⟩
def LANE_FILT_ACT_RANK_FIRST (l : Nat) : Fld := ⟨LANE_FILT_ACT l, 29, 1⟩
def LANE_FILT_ACT_FIR_ALIGN (l : Nat) : Fld := ⟨LANE_FILT_ACT l, 16, 7⟩
def LANE_FILT_ACT_FIR_TAPS (l : Nat) : Fld := ⟨LANE_FILT_ACT l, 8, 8⟩
def LANE_FILT_ACT_RANK_W (l : Nat) : Fld := ⟨LANE_FILT_ACT l, 4, 3⟩
def LANE_FILT_ACT_RANK_R (l : Nat) : Fld := ⟨LANE_FILT_ACT l, 0, 4⟩
def LANE_SETTLE (l : Nat) : Nat := 0x1800024 + 0x4000 * l
def LANE_COST (l : Nat) : Nat := 0x1800028 + 0x4000 * l
def LANE_COST_STAGED (l : Nat) : Fld := ⟨LANE_COST l, 16, 16⟩
def LANE_COST_ACTIVE (l : Nat) : Fld := ⟨LANE_COST l, 0, 16⟩
def LANE_UNSET_LEFT (l : Nat) : Nat := 0x180002C + 0x4000 * l
def LANE_OVR_CNT (l : Nat) : Nat := 0x1800030 + 0x4000 * l
def LANE_BURST_MISS (l : Nat) : Nat := 0x1800034 + 0x4000 * l
def LANE_CFG_SEQ (l : Nat) : Nat := 0x1800038 + 0x4000 * l
def LANE_SAMPLES_LO (l : Nat) : Nat := 0x1800040 + 0x4000 * l
def LANE_SAMPLES_HI (l : Nat) : Nat := 0x1800044 + 0x4000 * l
def LANE_ILV_OFS (l i : Nat) : Nat := 0x1800100 + 0x4000 * l + 0x10 * i
def LANE_ILV_GAIN (l i : Nat) : Nat := 0x1800104 + 0x4000 * l + 0x10 * i
def LANE_ILV_SKEW (l i : Nat) : Nat := 0x1800108 + 0x4000 * l + 0x10 * i
def LANE_FIR_COEF (l k : Nat) : Nat := 0x1801000 + 0x4000 * l + 0x4 * k
def LANE_FIR_ACT (l k : Nat) : Nat := 0x1801400 + 0x4000 * l + 0x4 * k

/-! ### Block ACQ -/
def ACQ_CTRL : Nat := 0x1B00000
def ACQ_CTRL_HOST_TRIG : Fld := ⟨ACQ_CTRL, 0, 1⟩
def ACQ_STAT : Nat := 0x1B00004
def ACQ_STAT_REFUSE : Fld := ⟨ACQ_STAT, 28, 4⟩
def ACQ_STAT_COMB_LEVEL : Fld := ⟨ACQ_STAT, 0, 16⟩
def ACQ_EVT : Nat := 0x1B00008
def ACQ_EVT_SATURATED : Fld := ⟨ACQ_EVT, 7, 1⟩
def ACQ_EVT_REFUSED : Fld := ⟨ACQ_EVT, 6, 1⟩
def ACQ_EVT_EDGE_LOST : Fld := ⟨ACQ_EVT, 5, 1⟩
def ACQ_EVT_ACC_SKIP : Fld := ⟨ACQ_EVT, 4, 1⟩
def ACQ_EVT_ACC_DONE : Fld := ⟨ACQ_EVT, 3, 1⟩
def ACQ_EVT_SEG_MISS : Fld := ⟨ACQ_EVT, 2, 1⟩
def ACQ_EVT_SEG_DONE : Fld := ⟨ACQ_EVT, 1, 1⟩
def ACQ_EVT_FIRE : Fld := ⟨ACQ_EVT, 0, 1⟩
def ACQ_LTRIG_CFG (l : Nat) : Nat := 0x1B01000 + 0x20 * l
def ACQ_LTRIG_CFG_EN (l : Nat) : Fld := ⟨ACQ_LTRIG_CFG l, 31, 1⟩
def ACQ_LTRIG_CFG_SRC (l : Nat) : Fld := ⟨ACQ_LTRIG_CFG l, 26, 2⟩
def ACQ_LTRIG_CFG_KIND (l : Nat) : Fld := ⟨ACQ_LTRIG_CFG l, 23, 3⟩
def ACQ_LTRIG_CFG_POL (l : Nat) : Fld := ⟨ACQ_LTRIG_CFG l, 21, 2⟩
def ACQ_LTRIG_CFG_WCOND (l : Nat) : Fld := ⟨ACQ_LTRIG_CFG l, 19, 2⟩
def ACQ_LTRIG_CFG_HYST (l : Nat) : Fld := ⟨ACQ_LTRIG_CFG l, 0, 16⟩
def ACQ_LTRIG_LVL (l : Nat) : Nat := 0x1B01004 + 0x20 * l
def ACQ_LTRIG_LVL_L2 (l : Nat) : Fld := ⟨ACQ_LTRIG_LVL l, 16, 16⟩
def ACQ_LTRIG_LVL_L1 (l : Nat) : Fld := ⟨ACQ_LTRIG_LVL l, 0, 16⟩
def ACQ_LTRIG_T1 (l : Nat) : Nat := 0x1B01008 + 0x20 * l
def ACQ_LTRIG_T2 (l : Nat) : Nat := 0x1B0100C + 0x20 * l
def ACQ_LTRIG_CNT (l : Nat) : Nat := 0x1B01010 + 0x20 * l
def ACQ_PE (k : Nat) : Nat := 0x1B01800 + 0x4 * k
def ACQ_PE_EN (k : Nat) : Fld := ⟨ACQ_PE k, 31, 1⟩
def ACQ_PE_EVENT (k : Nat) : Fld := ⟨ACQ_PE k, 8, 3⟩
def ACQ_PE_PORT (k : Nat) : Fld := ⟨ACQ_PE k, 0, 8⟩
def ACQ_COMB_CTRL (c : Nat) : Nat := 0x1B02000 + 0x40 * c
def ACQ_COMB_CTRL_EN (c : Nat) : Fld := ⟨ACQ_COMB_CTRL c, 31, 1⟩
def ACQ_COMB_CTRL_ALIGN (c : Nat) : Fld := ⟨ACQ_COMB_CTRL c, 30, 1⟩
def ACQ_COMB_CTRL_MODE (c : Nat) : Fld := ⟨ACQ_COMB_CTRL c, 29, 1⟩
def ACQ_COMB_CTRL_EVT_EN (c : Nat) : Fld := ⟨ACQ_COMB_CTRL c, 28, 1⟩
def ACQ_COMB_CTRL_REARM (c : Nat) : Fld := ⟨ACQ_COMB_CTRL c, 27, 1⟩
def ACQ_COMB_CTRL_CLR_STATS (c : Nat) : Fld := ⟨ACQ_COMB_CTRL c, 26, 1⟩
def ACQ_COMB_CTRL_HOLD_MODE (c : Nat) : Fld := ⟨ACQ_COMB_CTRL c, 24, 2⟩
def ACQ_COMB_CTRL_LEVEL_CYC (c : Nat) : Fld := ⟨ACQ_COMB_CTRL c, 0, 16⟩
def ACQ_COMB_IN (c : Nat) : Nat := 0x1B02004 + 0x40 * c
def ACQ_COMB_USE (c : Nat) : Nat := 0x1B02008 + 0x40 * c
def ACQ_COMB_USE_I3 (c : Nat) : Fld := ⟨ACQ_COMB_USE c, 12, 3⟩
def ACQ_COMB_USE_I2 (c : Nat) : Fld := ⟨ACQ_COMB_USE c, 8, 3⟩
def ACQ_COMB_USE_I1 (c : Nat) : Fld := ⟨ACQ_COMB_USE c, 4, 3⟩
def ACQ_COMB_USE_I0 (c : Nat) : Fld := ⟨ACQ_COMB_USE c, 0, 3⟩
def ACQ_COMB_HOLD (c : Nat) : Nat := 0x1B0200C + 0x40 * c
def ACQ_COMB_SEQWIN (c : Nat) : Nat := 0x1B02010 + 0x40 * c
def ACQ_COMB_LAT (c : Nat) : Nat := 0x1B02014 + 0x40 * c
def ACQ_COMB_FIRES (c : Nat) : Nat := 0x1B02018 + 0x40 * c
def ACQ_COMB_HELD (c : Nat) : Nat := 0x1B0201C + 0x40 * c
def ACQ_COMB_LAST_LO (c : Nat) : Nat := 0x1B02020 + 0x40 * c
def ACQ_COMB_LAST_HI (c : Nat) : Nat := 0x1B02024 + 0x40 * c
def ACQ_COMB_LAST_GEN (c : Nat) : Nat := 0x1B02028 + 0x40 * c
def ACQ_COMB_LAST_GEN_GEN (c : Nat) : Fld := ⟨ACQ_COMB_LAST_GEN c, 16, 16⟩
def ACQ_COMB_LAST_GEN_VALID (c : Nat) : Fld := ⟨ACQ_COMB_LAST_GEN c, 0, 1⟩
def ACQ_GRP_CTRL (n : Nat) : Nat := 0x1B03000 + 0x40 * n
def ACQ_GRP_CTRL_EN (n : Nat) : Fld := ⟨ACQ_GRP_CTRL n, 31, 1⟩
def ACQ_GRP_CTRL_RING (n : Nat) : Fld := ⟨ACQ_GRP_CTRL n, 30, 1⟩
def ACQ_GRP_CTRL_ACC_EN (n : Nat) : Fld := ⟨ACQ_GRP_CTRL n, 29, 1⟩
def ACQ_GRP_CTRL_CLR_STATS (n : Nat) : Fld := ⟨ACQ_GRP_CTRL n, 28, 1⟩
def ACQ_GRP_CTRL_COMB (n : Nat) : Fld := ⟨ACQ_GRP_CTRL n, 16, 4⟩
def ACQ_GRP_CTRL_SPACING (n : Nat) : Fld := ⟨ACQ_GRP_CTRL n, 0, 16⟩
def ACQ_GRP_STAT (n : Nat) : Nat := 0x1B03004 + 0x40 * n
def ACQ_GRP_STAT_REFUSE (n : Nat) : Fld := ⟨ACQ_GRP_STAT n, 28, 4⟩
def ACQ_GRP_STAT_BUSY (n : Nat) : Fld := ⟨ACQ_GRP_STAT n, 4, 1⟩
def ACQ_GRP_STAT_IN_SEG (n : Nat) : Fld := ⟨ACQ_GRP_STAT n, 3, 1⟩
def ACQ_GRP_STAT_STATE (n : Nat) : Fld := ⟨ACQ_GRP_STAT n, 0, 3⟩
def ACQ_GRP_PRE (n : Nat) : Nat := 0x1B03008 + 0x40 * n
def ACQ_GRP_POST (n : Nat) : Nat := 0x1B0300C + 0x40 * n
def ACQ_GRP_NSEG (n : Nat) : Nat := 0x1B03010 + 0x40 * n
def ACQ_GRP_ACC_N (n : Nat) : Nat := 0x1B03014 + 0x40 * n
def ACQ_GRP_MEM_BASE (n : Nat) : Nat := 0x1B03018 + 0x40 * n
def ACQ_GRP_MEM_SIZE (n : Nat) : Nat := 0x1B0301C + 0x40 * n
def ACQ_GRP_SEGS (n : Nat) : Nat := 0x1B03020 + 0x40 * n
def ACQ_GRP_MISS (n : Nat) : Nat := 0x1B03024 + 0x40 * n
def ACQ_GRP_ACC_SKIP (n : Nat) : Nat := 0x1B03028 + 0x40 * n
def ACQ_RED_CTRL (l : Nat) : Nat := 0x1B04000 + 0x20 * l
def ACQ_RED_CTRL_FRAME (l : Nat) : Fld := ⟨ACQ_RED_CTRL l, 30, 2⟩
def ACQ_RED_CTRL_GROUP (l : Nat) : Fld := ⟨ACQ_RED_CTRL l, 28, 2⟩
def ACQ_RED_CTRL_SRC (l : Nat) : Fld := ⟨ACQ_RED_CTRL l, 26, 2⟩
def ACQ_RED_CTRL_APPLY (l : Nat) : Fld := ⟨ACQ_RED_CTRL l, 25, 1⟩
def ACQ_RED_CTRL_CLR_STATS (l : Nat) : Fld := ⟨ACQ_RED_CTRL l, 24, 1⟩
def ACQ_RED_CTRL_SEL (l : Nat) : Fld := ⟨ACQ_RED_CTRL l, 16, 8⟩
def ACQ_RED_CTRL_INT_TICKS (l : Nat) : Fld := ⟨ACQ_RED_CTRL l, 0, 16⟩
def ACQ_RED_ACT (l : Nat) : Nat := 0x1B04004 + 0x20 * l
def ACQ_RED_ACT_FRAME (l : Nat) : Fld := ⟨ACQ_RED_ACT l, 30, 2⟩
def ACQ_RED_ACT_GROUP (l : Nat) : Fld := ⟨ACQ_RED_ACT l, 28, 2⟩
def ACQ_RED_ACT_SRC (l : Nat) : Fld := ⟨ACQ_RED_ACT l, 26, 2⟩
def ACQ_RED_ACT_SEL (l : Nat) : Fld := ⟨ACQ_RED_ACT l, 16, 8⟩
def ACQ_RED_ACT_INT_TICKS (l : Nat) : Fld := ⟨ACQ_RED_ACT l, 0, 16⟩
def ACQ_RED_STAT (l : Nat) : Nat := 0x1B04008 + 0x20 * l
def ACQ_RED_STAT_REFUSE (l : Nat) : Fld := ⟨ACQ_RED_STAT l, 28, 4⟩
def ACQ_RED_STAT_BUSY (l : Nat) : Fld := ⟨ACQ_RED_STAT l, 1, 1⟩
def ACQ_RED_STAT_PENDING (l : Nat) : Fld := ⟨ACQ_RED_STAT l, 0, 1⟩
def ACQ_RED_BUCKET (l : Nat) : Nat := 0x1B0400C + 0x20 * l
def ACQ_RED_EDGE (l : Nat) : Nat := 0x1B04010 + 0x20 * l
def ACQ_RED_EDGE_HYST (l : Nat) : Fld := ⟨ACQ_RED_EDGE l, 16, 16⟩
def ACQ_RED_EDGE_LEVEL (l : Nat) : Fld := ⟨ACQ_RED_EDGE l, 0, 16⟩
def ACQ_RED_EDGE_MAX (l : Nat) : Nat := 0x1B04014 + 0x20 * l
def ACQ_RED_EDGE_LOST (l : Nat) : Nat := 0x1B04018 + 0x20 * l

/-! ### Block TLY -/
def TLY_CTRL : Nat := 0x1C00000
def TLY_CTRL_SNAP : Fld := ⟨TLY_CTRL, 0, 1⟩
def TLY_STAT : Nat := 0x1C00004
def TLY_STAT_REFUSE : Fld := ⟨TLY_STAT, 28, 4⟩
def TLY_EVT : Nat := 0x1C00008
def TLY_EVT_SATURATED : Fld := ⟨TLY_EVT, 3, 1⟩
def TLY_EVT_REFUSED : Fld := ⟨TLY_EVT, 2, 1⟩
def TLY_EVT_SKIPPED : Fld := ⟨TLY_EVT, 1, 1⟩
def TLY_EVT_SNAP_DONE : Fld := ⟨TLY_EVT, 0, 1⟩
def TLY_H_CTRL (h : Nat) : Nat := 0x1C01000 + 0x40 * h
def TLY_H_CTRL_EN (h : Nat) : Fld := ⟨TLY_H_CTRL h, 31, 1⟩
def TLY_H_CTRL_SRC (h : Nat) : Fld := ⟨TLY_H_CTRL h, 29, 2⟩
def TLY_H_CTRL_MODE (h : Nat) : Fld := ⟨TLY_H_CTRL h, 28, 1⟩
def TLY_H_CTRL_CLEAR (h : Nat) : Fld := ⟨TLY_H_CTRL h, 27, 1⟩
def TLY_H_CTRL_SHIFT (h : Nat) : Fld := ⟨TLY_H_CTRL h, 16, 4⟩
def TLY_H_CTRL_BIN_LO (h : Nat) : Fld := ⟨TLY_H_CTRL h, 0, 16⟩
def TLY_H_SNAP (h : Nat) : Nat := 0x1C01004 + 0x40 * h
def TLY_H_SEL (h : Nat) : Nat := 0x1C01008 + 0x40 * h
def TLY_H_BIN_LO (h : Nat) : Nat := 0x1C0100C + 0x40 * h
def TLY_H_BIN_HI (h : Nat) : Nat := 0x1C01010 + 0x40 * h
def TLY_H_SATBINS (h : Nat) : Nat := 0x1C01014 + 0x40 * h
def TLY_H_FED_LO (h : Nat) : Nat := 0x1C01018 + 0x40 * h
def TLY_H_FED_HI (h : Nat) : Nat := 0x1C0101C + 0x40 * h
def TLY_H_UNSET (h : Nat) : Nat := 0x1C01020 + 0x40 * h
def TLY_M_CTRL (m : Nat) : Nat := 0x1C04000 + 0x40 * m
def TLY_M_CTRL_EN (m : Nat) : Fld := ⟨TLY_M_CTRL m, 31, 1⟩
def TLY_M_CTRL_SRC (m : Nat) : Fld := ⟨TLY_M_CTRL m, 29, 2⟩
def TLY_M_CTRL_MODE (m : Nat) : Fld := ⟨TLY_M_CTRL m, 28, 1⟩
def TLY_M_CTRL_CLEAR (m : Nat) : Fld := ⟨TLY_M_CTRL m, 27, 1⟩
def TLY_M_CTRL_LANE (m : Nat) : Fld := ⟨TLY_M_CTRL m, 16, 6⟩
def TLY_M_CTRL_TRIG (m : Nat) : Fld := ⟨TLY_M_CTRL m, 8, 5⟩
def TLY_M_CTRL_AMP_SHIFT (m : Nat) : Fld := ⟨TLY_M_CTRL m, 0, 3⟩
def TLY_M_AMP (m : Nat) : Nat := 0x1C04004 + 0x40 * m
def TLY_M_TOFS (m : Nat) : Nat := 0x1C04008 + 0x40 * m
def TLY_M_TBIN (m : Nat) : Nat := 0x1C0400C + 0x40 * m
def TLY_M_SNAP (m : Nat) : Nat := 0x1C04010 + 0x40 * m
def TLY_M_SEL (m : Nat) : Nat := 0x1C04014 + 0x40 * m
def TLY_M_SEL_TIME (m : Nat) : Fld := ⟨TLY_M_SEL m, 16, 10⟩
def TLY_M_SEL_AMP (m : Nat) : Fld := ⟨TLY_M_SEL m, 0, 9⟩
def TLY_M_BIN (m : Nat) : Nat := 0x1C04018 + 0x40 * m
def TLY_M_SWEEPS (m : Nat) : Nat := 0x1C0401C + 0x40 * m
def TLY_M_MISS (m : Nat) : Nat := 0x1C04020 + 0x40 * m
def TLY_M_OUTSIDE (m : Nat) : Nat := 0x1C04024 + 0x40 * m
def TLY_M_SATBINS (m : Nat) : Nat := 0x1C04028 + 0x40 * m

/-! ### Block CMP -/
def CMP_CTRL : Nat := 0x1D00000
def CMP_CTRL_FWD_MAX : Fld := ⟨CMP_CTRL, 8, 8⟩
def CMP_CTRL_CLR_STATS : Fld := ⟨CMP_CTRL, 0, 1⟩
def CMP_STAT : Nat := 0x1D00004
def CMP_STAT_REFUSE : Fld := ⟨CMP_STAT, 28, 4⟩
def CMP_STAT_ACTIVE : Fld := ⟨CMP_STAT, 0, 8⟩
def CMP_EVT : Nat := 0x1D00008
def CMP_EVT_SATURATED : Fld := ⟨CMP_EVT, 6, 1⟩
def CMP_EVT_REFUSED : Fld := ⟨CMP_EVT, 5, 1⟩
def CMP_EVT_REPLAY_BREAK : Fld := ⟨CMP_EVT, 4, 1⟩
def CMP_EVT_RESHIFT : Fld := ⟨CMP_EVT, 3, 1⟩
def CMP_EVT_SUPPR : Fld := ⟨CMP_EVT, 2, 1⟩
def CMP_EVT_LEARN : Fld := ⟨CMP_EVT, 1, 1⟩
def CMP_EVT_DISC : Fld := ⟨CMP_EVT, 0, 1⟩
def CMP_RPL_SHIFT_LO : Nat := 0x1D00010
def CMP_RPL_SHIFT_HI : Nat := 0x1D00014
def CMP_RPL_ADJ_LO : Nat := 0x1D00018
def CMP_RPL_ADJ_HI : Nat := 0x1D0001C
def CMP_RPL_LINK_LO : Nat := 0x1D00020
def CMP_RPL_LINK_HI : Nat := 0x1D00024
def CMP_RPL_LINK_HI_GEN : Fld := ⟨CMP_RPL_LINK_HI, 0, 16⟩
def CMP_RPL_LINK_HI_VEC : Fld := ⟨CMP_RPL_LINK_HI, 16, 1⟩
def CMP_RPL_GAPS : Nat := 0x1D00028
def CMP_SUPPR : Nat := 0x1D0002C
def CMP_DISC_LO : Nat := 0x1D00030
def CMP_DISC_HI : Nat := 0x1D00034
def CMP_P_CTRL (p : Nat) : Nat := 0x1D01000 + 0x80 * p
def CMP_P_CTRL_RELEARN (p : Nat) : Fld := ⟨CMP_P_CTRL p, 2, 1⟩
def CMP_P_CTRL_CLR_STATS (p : Nat) : Fld := ⟨CMP_P_CTRL p, 1, 1⟩
def CMP_P_CTRL_EN (p : Nat) : Fld := ⟨CMP_P_CTRL p, 0, 1⟩
def CMP_P_STAT (p : Nat) : Nat := 0x1D01004 + 0x80 * p
def CMP_P_STAT_REFUSE (p : Nat) : Fld := ⟨CMP_P_STAT p, 28, 4⟩
def CMP_P_STAT_BUSY (p : Nat) : Fld := ⟨CMP_P_STAT p, 4, 1⟩
def CMP_P_STAT_ABSENT (p : Nat) : Fld := ⟨CMP_P_STAT p, 3, 1⟩
def CMP_P_STAT_STATE (p : Nat) : Fld := ⟨CMP_P_STAT p, 0, 3⟩
def CMP_P_CFG (p : Nat) : Nat := 0x1D01008 + 0x80 * p
def CMP_P_CFG_KIND (p : Nat) : Fld := ⟨CMP_P_CFG p, 30, 2⟩
def CMP_P_CFG_LAT_MODE (p : Nat) : Fld := ⟨CMP_P_CFG p, 28, 2⟩
def CMP_P_CFG_SMODE (p : Nat) : Fld := ⟨CMP_P_CFG p, 27, 1⟩
def CMP_P_CFG_FLT_EN (p : Nat) : Fld := ⟨CMP_P_CFG p, 26, 1⟩
def CMP_P_CFG_DIS_EVT (p : Nat) : Fld := ⟨CMP_P_CFG p, 25, 1⟩
def CMP_P_CFG_SCOMB (p : Nat) : Fld := ⟨CMP_P_CFG p, 20, 4⟩
def CMP_P_CFG_PERSIST (p : Nat) : Fld := ⟨CMP_P_CFG p, 16, 4⟩
def CMP_P_CFG_LAT_PAIR (p : Nat) : Fld := ⟨CMP_P_CFG p, 8, 7⟩
def CMP_P_CFG_RED (p : Nat) : Fld := ⟨CMP_P_CFG p, 0, 3⟩
def CMP_P_REF (p : Nat) : Nat := 0x1D0100C + 0x80 * p
def CMP_P_REF_TYPE (p : Nat) : Fld := ⟨CMP_P_REF p, 30, 2⟩
def CMP_P_REF_SRC (p : Nat) : Fld := ⟨CMP_P_REF p, 28, 2⟩
def CMP_P_REF_INSTANCE (p : Nat) : Fld := ⟨CMP_P_REF p, 0, 8⟩
def CMP_P_CAND (p : Nat) : Nat := 0x1D01010 + 0x80 * p
def CMP_P_CAND_TYPE (p : Nat) : Fld := ⟨CMP_P_CAND p, 30, 2⟩
def CMP_P_CAND_SRC (p : Nat) : Fld := ⟨CMP_P_CAND p, 28, 2⟩
def CMP_P_CAND_INSTANCE (p : Nat) : Fld := ⟨CMP_P_CAND p, 0, 8⟩
def CMP_P_LVL (p : Nat) : Nat := 0x1D01014 + 0x80 * p
def CMP_P_LVL_CAND (p : Nat) : Fld := ⟨CMP_P_LVL p, 16, 16⟩
def CMP_P_LVL_REF (p : Nat) : Fld := ⟨CMP_P_LVL p, 0, 16⟩
def CMP_P_HYST (p : Nat) : Nat := 0x1D01018 + 0x80 * p
def CMP_P_HYST_CAND (p : Nat) : Fld := ⟨CMP_P_HYST p, 16, 16⟩
def CMP_P_HYST_REF (p : Nat) : Fld := ⟨CMP_P_HYST p, 0, 16⟩
def CMP_P_LAT (p : Nat) : Nat := 0x1D0101C + 0x80 * p
def CMP_P_LAT_ACT (p : Nat) : Nat := 0x1D01020 + 0x80 * p
def CMP_P_TOL (p : Nat) : Nat := 0x1D01024 + 0x80 * p
def CMP_P_NEAR (p : Nat) : Nat := 0x1D01028 + 0x80 * p
def CMP_P_SPER (p : Nat) : Nat := 0x1D0102C + 0x80 * p
def CMP_P_BAND_ABS (p : Nat) : Nat := 0x1D01030 + 0x80 * p
def CMP_P_BAND_REL (p : Nat) : Nat := 0x1D01034 + 0x80 * p
def CMP_P_LEARN (p : Nat) : Nat := 0x1D01038 + 0x80 * p
def CMP_P_LEARN_MIN_N (p : Nat) : Fld := ⟨CMP_P_LEARN p, 16, 16⟩
def CMP_P_LEARN_MIN_PCT (p : Nat) : Fld := ⟨CMP_P_LEARN p, 8, 8⟩
def CMP_P_LEARN_TICKS (p : Nat) : Nat := 0x1D0103C + 0x80 * p
def CMP_P_LEARN_SPAN (p : Nat) : Nat := 0x1D01040 + 0x80 * p
def CMP_P_LEARN_N (p : Nat) : Nat := 0x1D01044 + 0x80 * p
def CMP_P_LEARN_N_N (p : Nat) : Fld := ⟨CMP_P_LEARN_N p, 16, 16⟩
def CMP_P_LEARN_N_IN_TOL (p : Nat) : Fld := ⟨CMP_P_LEARN_N p, 0, 16⟩
def CMP_P_RADDR_LO (p : Nat) : Nat := 0x1D01048 + 0x80 * p
def CMP_P_RADDR_HI (p : Nat) : Nat := 0x1D0104C + 0x80 * p
def CMP_P_DISC (p : Nat) : Nat := 0x1D01050 + 0x80 * p
def CMP_P_MATCH_LO (p : Nat) : Nat := 0x1D01054 + 0x80 * p
def CMP_P_MATCH_HI (p : Nat) : Nat := 0x1D01058 + 0x80 * p
def CMP_P_SKIP (p : Nat) : Nat := 0x1D0105C + 0x80 * p
def CMP_P_SUPPR (p : Nat) : Nat := 0x1D01060 + 0x80 * p
def CMP_P_GAP_TICKS (p : Nat) : Nat := 0x1D01064 + 0x80 * p
def CMP_P_LAST_LO (p : Nat) : Nat := 0x1D01068 + 0x80 * p
def CMP_P_LAST_HI (p : Nat) : Nat := 0x1D0106C + 0x80 * p
def CMP_P_LAST_GEN (p : Nat) : Nat := 0x1D01070 + 0x80 * p
def CMP_P_LAST_GEN_GEN (p : Nat) : Fld := ⟨CMP_P_LAST_GEN p, 16, 16⟩
def CMP_P_LAST_GEN_VALID (p : Nat) : Fld := ⟨CMP_P_LAST_GEN p, 0, 1⟩
def CMP_P_SEQ (p : Nat) : Nat := 0x1D01074 + 0x80 * p

/-! ### Block GRD -/
def GRD_CTRL : Nat := 0x1E00000
def GRD_CTRL_CLR_STATS : Fld := ⟨GRD_CTRL, 0, 1⟩
def GRD_STAT : Nat := 0x1E00004
def GRD_STAT_INDET_COUNT : Fld := ⟨GRD_STAT, 8, 7⟩
def GRD_STAT_OUT_COUNT : Fld := ⟨GRD_STAT, 0, 7⟩
def GRD_EVT : Nat := 0x1E00008
def GRD_EVT_SATURATED : Fld := ⟨GRD_EVT, 4, 1⟩
def GRD_EVT_CFG_ERR : Fld := ⟨GRD_EVT, 3, 1⟩
def GRD_EVT_WAKE : Fld := ⟨GRD_EVT, 2, 1⟩
def GRD_EVT_CHANGE : Fld := ⟨GRD_EVT, 1, 1⟩
def GRD_EVT_QUIET_REFUSED : Fld := ⟨GRD_EVT, 0, 1⟩
def GRD_QUIET : Nat := 0x1E0000C
def GRD_QUIET_KEEP_H4 : Fld := ⟨GRD_QUIET, 2, 1⟩
def GRD_QUIET_ACTIVE : Fld := ⟨GRD_QUIET, 1, 1⟩
def GRD_QUIET_REQ : Fld := ⟨GRD_QUIET, 0, 1⟩
def GRD_OUT_LO : Nat := 0x1E00010
def GRD_OUT_HI : Nat := 0x1E00014
def GRD_W_CTRL (w : Nat) : Nat := 0x1E01000 + 0x40 * w
def GRD_W_CTRL_WAKE_EN (w : Nat) : Fld := ⟨GRD_W_CTRL w, 1, 1⟩
def GRD_W_CTRL_EVT_EN (w : Nat) : Fld := ⟨GRD_W_CTRL w, 0, 1⟩
def GRD_W_STAT (w : Nat) : Nat := 0x1E01004 + 0x40 * w
def GRD_W_STAT_RB_FAIL (w : Nat) : Fld := ⟨GRD_W_STAT w, 12, 1⟩
def GRD_W_STAT_ABSENT (w : Nat) : Fld := ⟨GRD_W_STAT w, 11, 1⟩
def GRD_W_STAT_INDET (w : Nat) : Fld := ⟨GRD_W_STAT w, 10, 1⟩
def GRD_W_STAT_STATE (w : Nat) : Fld := ⟨GRD_W_STAT w, 8, 2⟩
def GRD_W_STAT_ONES (w : Nat) : Fld := ⟨GRD_W_STAT w, 4, 4⟩
def GRD_W_STAT_SIDE (w : Nat) : Fld := ⟨GRD_W_STAT w, 1, 1⟩
def GRD_W_STAT_OUT (w : Nat) : Fld := ⟨GRD_W_STAT w, 0, 1⟩
def GRD_W_EVT (w : Nat) : Nat := 0x1E01008 + 0x40 * w
def GRD_W_EVT_SATURATED (w : Nat) : Fld := ⟨GRD_W_EVT w, 6, 1⟩
def GRD_W_EVT_CFG_ERR (w : Nat) : Fld := ⟨GRD_W_EVT w, 5, 1⟩
def GRD_W_EVT_CLAMP (w : Nat) : Fld := ⟨GRD_W_EVT w, 4, 1⟩
def GRD_W_EVT_INDET_CLEAR (w : Nat) : Fld := ⟨GRD_W_EVT w, 3, 1⟩
def GRD_W_EVT_ABSENT (w : Nat) : Fld := ⟨GRD_W_EVT w, 2, 1⟩
def GRD_W_EVT_IN (w : Nat) : Fld := ⟨GRD_W_EVT w, 1, 1⟩
def GRD_W_EVT_OUT (w : Nat) : Fld := ⟨GRD_W_EVT w, 0, 1⟩
def GRD_W_CFG (w : Nat) : Nat := 0x1E0100C + 0x40 * w
def GRD_W_CFG_EN (w : Nat) : Fld := ⟨GRD_W_CFG w, 31, 1⟩
def GRD_W_CFG_N (w : Nat) : Fld := ⟨GRD_W_CFG w, 8, 4⟩
def GRD_W_CFG_K (w : Nat) : Fld := ⟨GRD_W_CFG w, 0, 4⟩
def GRD_W_HI (w : Nat) : Nat := 0x1E01010 + 0x40 * w
def GRD_W_LO (w : Nat) : Nat := 0x1E01014 + 0x40 * w
def GRD_W_HYST (w : Nat) : Nat := 0x1E01018 + 0x40 * w
def GRD_W_ACT (w : Nat) : Nat := 0x1E0101C + 0x40 * w
def GRD_W_ACT_INHIBIT (w : Nat) : Fld := ⟨GRD_W_ACT w, 1, 1⟩
def GRD_W_ACT_FAULT (w : Nat) : Fld := ⟨GRD_W_ACT w, 0, 1⟩
def GRD_W_XCNT (w : Nat) : Nat := 0x1E01020 + 0x40 * w
def GRD_W_OUTT (w : Nat) : Nat := 0x1E01024 + 0x40 * w
def GRD_W_LAST_LO (w : Nat) : Nat := 0x1E01028 + 0x40 * w
def GRD_W_LAST_HI (w : Nat) : Nat := 0x1E0102C + 0x40 * w
def GRD_W_LAST_GEN (w : Nat) : Nat := 0x1E01030 + 0x40 * w
def GRD_W_LAST_GEN_GEN (w : Nat) : Fld := ⟨GRD_W_LAST_GEN w, 16, 16⟩
def GRD_W_LAST_GEN_VALID (w : Nat) : Fld := ⟨GRD_W_LAST_GEN w, 0, 1⟩

/-! ### Block MET -/
def MET_MC_CTRL : Nat := 0x1E80000
def MET_MC_CTRL_EVT_EN : Fld := ⟨MET_MC_CTRL, 3, 1⟩
def MET_MC_CTRL_ABORT : Fld := ⟨MET_MC_CTRL, 2, 1⟩
def MET_MC_CTRL_CONT : Fld := ⟨MET_MC_CTRL, 1, 1⟩
def MET_MC_CTRL_START : Fld := ⟨MET_MC_CTRL, 0, 1⟩
def MET_MC_STAT : Nat := 0x1E80004
def MET_MC_STAT_REFUSE : Fld := ⟨MET_MC_STAT, 28, 4⟩
def MET_MC_STAT_SETTLE_LEFT : Fld := ⟨MET_MC_STAT, 4, 3⟩
def MET_MC_STAT_RUN_OWNS : Fld := ⟨MET_MC_STAT, 3, 1⟩
def MET_MC_STAT_HK : Fld := ⟨MET_MC_STAT, 2, 1⟩
def MET_MC_STAT_SETTLING : Fld := ⟨MET_MC_STAT, 1, 1⟩
def MET_MC_STAT_BUSY : Fld := ⟨MET_MC_STAT, 0, 1⟩
def MET_EVT : Nat := 0x1E80008
def MET_EVT_SATURATED : Fld := ⟨MET_EVT, 7, 1⟩
def MET_EVT_LINE_LOST : Fld := ⟨MET_EVT, 6, 1⟩
def MET_EVT_BANK_SWAP : Fld := ⟨MET_EVT, 5, 1⟩
def MET_EVT_CAL_DUE : Fld := ⟨MET_EVT, 4, 1⟩
def MET_EVT_CAL_DONE : Fld := ⟨MET_EVT, 3, 1⟩
def MET_EVT_CAL_START : Fld := ⟨MET_EVT, 2, 1⟩
def MET_EVT_REF_READY : Fld := ⟨MET_EVT, 1, 1⟩
def MET_EVT_RESULT : Fld := ⟨MET_EVT, 0, 1⟩
def MET_SEL : Nat := 0x1E8000C
def MET_MC_CFG : Nat := 0x1E80010
def MET_MC_CFG_NPLC : Fld := ⟨MET_MC_CFG, 16, 10⟩
def MET_MC_CFG_LINE_SRC : Fld := ⟨MET_MC_CFG, 8, 2⟩
def MET_MC_CFG_RANGE : Fld := ⟨MET_MC_CFG, 4, 2⟩
def MET_MC_CFG_ORDER : Fld := ⟨MET_MC_CFG, 0, 3⟩
def MET_REF : Nat := 0x1E80014
def MET_REF_WAIT : Fld := ⟨MET_REF, 16, 16⟩
def MET_REF_READY : Fld := ⟨MET_REF, 1, 1⟩
def MET_REF_MC_REFBUF : Fld := ⟨MET_REF, 0, 1⟩
def MET_LINE : Nat := 0x1E80018
def MET_LINE_LOCK : Fld := ⟨MET_LINE, 31, 1⟩
def MET_LINE_LOST : Fld := ⟨MET_LINE, 30, 1⟩
def MET_LINE_PERIOD : Fld := ⟨MET_LINE, 0, 30⟩
def MET_DDAC : Nat := 0x1E8001C
def MET_DDAC_EN : Fld := ⟨MET_DDAC, 31, 1⟩
def MET_DDAC_LANE : Fld := ⟨MET_DDAC, 16, 6⟩
def MET_DDAC_CODE : Fld := ⟨MET_DDAC, 0, 12⟩
def MET_RES_LO : Nat := 0x1E80020
def MET_RES_HI : Nat := 0x1E80024
def MET_RES_HI_LINE_LOST : Fld := ⟨MET_RES_HI, 26, 1⟩
def MET_RES_HI_REF_UNSETTLED : Fld := ⟨MET_RES_HI, 25, 1⟩
def MET_RES_HI_OVR : Fld := ⟨MET_RES_HI, 24, 1⟩
def MET_RES_HI_CODE : Fld := ⟨MET_RES_HI, 0, 24⟩
def MET_RES_GEN : Nat := 0x1E80028
def MET_RES_GEN_GEN : Fld := ⟨MET_RES_GEN, 16, 16⟩
def MET_RES_GEN_SEL : Fld := ⟨MET_RES_GEN, 4, 12⟩
def MET_RES_GEN_VALID : Fld := ⟨MET_RES_GEN, 0, 1⟩
def MET_RES_T64_LO : Nat := 0x1E80030
def MET_RES_T64_HI : Nat := 0x1E80034
def MET_RES_T64_GEN : Nat := 0x1E80038
def MET_RES_T64_GEN_GEN : Fld := ⟨MET_RES_T64_GEN, 16, 16⟩
def MET_RES_T64_GEN_SEL : Fld := ⟨MET_RES_T64_GEN, 4, 12⟩
def MET_RES_T64_GEN_VALID : Fld := ⟨MET_RES_T64_GEN, 0, 1⟩
def MET_HK : Nat := 0x1E80040
def MET_HK_REF_WATCH : Fld := ⟨MET_HK, 31, 1⟩
def MET_HK_PERIOD : Fld := ⟨MET_HK, 0, 23⟩
def MET_TM : Nat := 0x1E80044
def MET_TEMP (k : Nat) : Nat := 0x1E80080 + 0x4 * k
def MET_CAL_CTRL : Nat := 0x1E80100
def MET_CAL_CTRL_CLR_STATS : Fld := ⟨MET_CAL_CTRL, 4, 1⟩
def MET_CAL_CTRL_REPORT_PTS : Fld := ⟨MET_CAL_CTRL, 3, 1⟩
def MET_CAL_CTRL_AUTO_EN : Fld := ⟨MET_CAL_CTRL, 2, 1⟩
def MET_CAL_CTRL_ABORT : Fld := ⟨MET_CAL_CTRL, 1, 1⟩
def MET_CAL_CTRL_RUN : Fld := ⟨MET_CAL_CTRL, 0, 1⟩
def MET_CAL_STAT : Nat := 0x1E80104
def MET_CAL_STAT_RESULT : Fld := ⟨MET_CAL_STAT, 28, 4⟩
def MET_CAL_STAT_DUE_CAUSE : Fld := ⟨MET_CAL_STAT, 16, 5⟩
def MET_CAL_STAT_CAL_DUE : Fld := ⟨MET_CAL_STAT, 8, 1⟩
def MET_CAL_STAT_REF_PRESENT : Fld := ⟨MET_CAL_STAT, 7, 1⟩
def MET_CAL_STAT_PASS : Fld := ⟨MET_CAL_STAT, 2, 2⟩
def MET_CAL_STAT_STATE : Fld := ⟨MET_CAL_STAT, 0, 2⟩
def MET_CAL_TOL : Nat := 0x1E80108
def MET_CAL_TOL_SKEW : Fld := ⟨MET_CAL_TOL, 16, 16⟩
def MET_CAL_TOL_OFS : Fld := ⟨MET_CAL_TOL, 8, 8⟩
def MET_CAL_TOL_GAIN_PPM : Fld := ⟨MET_CAL_TOL, 0, 8⟩
def MET_CAL_DT : Nat := 0x1E8010C
def MET_CAL_REFV : Nat := 0x1E80110
def MET_CAL_COUNT : Nat := 0x1E80114
def MET_CAL_REJ : Nat := 0x1E80118
def MET_CAL_LAST_LO : Nat := 0x1E8011C
def MET_CAL_LAST_HI : Nat := 0x1E80120
def MET_CAL_LAST_GEN : Nat := 0x1E80124
def MET_CAL_LAST_GEN_GEN : Fld := ⟨MET_CAL_LAST_GEN, 16, 16⟩
def MET_CAL_LAST_GEN_VALID : Fld := ⟨MET_CAL_LAST_GEN, 0, 1⟩
def MET_CAL_LAST_TEMP : Nat := 0x1E80128
def MET_CAL_FAIL_ITEM : Nat := 0x1E8012C
def MET_CAL_FAIL_DIFF : Nat := 0x1E80130
def MET_BANK_ID : Nat := 0x1E80140
def MET_BANK_TEMP : Nat := 0x1E80144
def MET_BANK_SRC : Nat := 0x1E80148
def MET_BANK_SRC_WEIGHT : Fld := ⟨MET_BANK_SRC, 16, 16⟩
def MET_BANK_SRC_UPPER : Fld := ⟨MET_BANK_SRC, 4, 4⟩
def MET_BANK_SRC_LOWER : Fld := ⟨MET_BANK_SRC, 0, 4⟩
def MET_SETS : Nat := 0x1E8014C
def MET_SETS_STORED : Fld := ⟨MET_SETS, 8, 8⟩
def MET_SETS_VALID : Fld := ⟨MET_SETS, 0, 8⟩
def MET_SET_TEMP (k : Nat) : Nat := 0x1E80180 + 0x8 * k
def MET_SET_COUNT (k : Nat) : Nat := 0x1E80184 + 0x8 * k

/-! ### Block POD -/
def POD_CTRL : Nat := 0x1F00000
def POD_CTRL_CLR_STATS : Fld := ⟨POD_CTRL, 0, 1⟩
def POD_STAT : Nat := 0x1F00004
def POD_STAT_POWERED : Fld := ⟨POD_STAT, 16, 16⟩
def POD_STAT_ATTACHED : Fld := ⟨POD_STAT, 0, 16⟩
def POD_EVT : Nat := 0x1F00008
def POD_EVT_SATURATED : Fld := ⟨POD_EVT, 1, 1⟩
def POD_EVT_CHANGE : Fld := ⟨POD_EVT, 0, 1⟩
def POD_PWR_BUDGET : Nat := 0x1F0000C
def POD_PWR_USED : Nat := 0x1F00010
def POD_S_CTRL (q : Nat) : Nat := 0x1F01000 + 0x100 * q
def POD_S_CTRL_RECHECK (q : Nat) : Fld := ⟨POD_S_CTRL q, 8, 1⟩
def POD_S_CTRL_RETRY (q : Nat) : Fld := ⟨POD_S_CTRL q, 7, 1⟩
def POD_S_CTRL_HOLD (q : Nat) : Fld := ⟨POD_S_CTRL q, 6, 1⟩
def POD_S_CTRL_POWER_OFF (q : Nat) : Fld := ⟨POD_S_CTRL q, 5, 1⟩
def POD_S_CTRL_MAX_RATE (q : Nat) : Fld := ⟨POD_S_CTRL q, 0, 2⟩
def POD_S_STAT (q : Nat) : Nat := 0x1F01004 + 0x100 * q
def POD_S_STAT_REFUSE (q : Nat) : Fld := ⟨POD_S_STAT q, 28, 4⟩
def POD_S_STAT_RATE (q : Nat) : Fld := ⟨POD_S_STAT q, 26, 2⟩
def POD_S_STAT_TYPE (q : Nat) : Fld := ⟨POD_S_STAT q, 24, 2⟩
def POD_S_STAT_WORN (q : Nat) : Fld := ⟨POD_S_STAT q, 11, 1⟩
def POD_S_STAT_EXHAUSTED (q : Nat) : Fld := ⟨POD_S_STAT q, 10, 1⟩
def POD_S_STAT_HELD (q : Nat) : Fld := ⟨POD_S_STAT q, 9, 1⟩
def POD_S_STAT_LINK_UP (q : Nat) : Fld := ⟨POD_S_STAT q, 8, 1⟩
def POD_S_STAT_AUTH_OK (q : Nat) : Fld := ⟨POD_S_STAT q, 7, 1⟩
def POD_S_STAT_PRESENT (q : Nat) : Fld := ⟨POD_S_STAT q, 6, 1⟩
def POD_S_STAT_POWERED (q : Nat) : Fld := ⟨POD_S_STAT q, 5, 1⟩
def POD_S_STAT_STATE (q : Nat) : Fld := ⟨POD_S_STAT q, 0, 4⟩
def POD_S_EVT (q : Nat) : Nat := 0x1F01008 + 0x100 * q
def POD_S_EVT_SATURATED (q : Nat) : Fld := ⟨POD_S_EVT q, 9, 1⟩
def POD_S_EVT_LINK_LOST (q : Nat) : Fld := ⟨POD_S_EVT q, 8, 1⟩
def POD_S_EVT_EXHAUSTED (q : Nat) : Fld := ⟨POD_S_EVT q, 7, 1⟩
def POD_S_EVT_WORN (q : Nat) : Fld := ⟨POD_S_EVT q, 6, 1⟩
def POD_S_EVT_RATE_DOWN (q : Nat) : Fld := ⟨POD_S_EVT q, 5, 1⟩
def POD_S_EVT_POWER_TRIP (q : Nat) : Fld := ⟨POD_S_EVT q, 4, 1⟩
def POD_S_EVT_AUTH_FAIL (q : Nat) : Fld := ⟨POD_S_EVT q, 3, 1⟩
def POD_S_EVT_REFUSED (q : Nat) : Fld := ⟨POD_S_EVT q, 2, 1⟩
def POD_S_EVT_DETACH (q : Nat) : Fld := ⟨POD_S_EVT q, 1, 1⟩
def POD_S_EVT_ATTACH (q : Nat) : Fld := ⟨POD_S_EVT q, 0, 1⟩
def POD_S_POLICY (q : Nat) : Nat := 0x1F0100C + 0x100 * q
def POD_S_POLICY_ACCEPT (q : Nat) : Fld := ⟨POD_S_POLICY q, 24, 2⟩
def POD_S_POLICY_RANGES (q : Nat) : Fld := ⟨POD_S_POLICY q, 16, 5⟩
def POD_S_POLICY_MIN_FW (q : Nat) : Fld := ⟨POD_S_POLICY q, 0, 16⟩
def POD_S_INFO (q : Nat) : Nat := 0x1F01010 + 0x100 * q
def POD_S_INFO_FW_LEVEL (q : Nat) : Fld := ⟨POD_S_INFO q, 16, 16⟩
def POD_S_INFO_FEATURE (q : Nat) : Fld := ⟨POD_S_INFO q, 0, 16⟩
def POD_S_CAPS (q : Nat) : Nat := 0x1F01014 + 0x100 * q
def POD_S_CAPS_DECL_MW (q : Nat) : Fld := ⟨POD_S_CAPS q, 16, 16⟩
def POD_S_CAPS_FUSION (q : Nat) : Fld := ⟨POD_S_CAPS q, 8, 1⟩
def POD_S_CAPS_RANGES (q : Nat) : Fld := ⟨POD_S_CAPS q, 0, 5⟩
def POD_S_DELAY (q : Nat) : Nat := 0x1F01018 + 0x100 * q
def POD_S_DELAY_DC (q : Nat) : Fld := ⟨POD_S_DELAY q, 16, 16⟩
def POD_S_DELAY_DD (q : Nat) : Fld := ⟨POD_S_DELAY q, 0, 16⟩
def POD_S_PWR (q : Nat) : Nat := 0x1F0101C + 0x100 * q
def POD_S_PWR_PEAK (q : Nat) : Fld := ⟨POD_S_PWR q, 16, 16⟩
def POD_S_PWR_NOW (q : Nat) : Fld := ⟨POD_S_PWR q, 0, 16⟩
def POD_S_SERIAL (q k : Nat) : Nat := 0x1F01020 + 0x100 * q + 0x4 * k
def POD_S_SETTLE (q r : Nat) : Nat := 0x1F01030 + 0x100 * q + 0x4 * r
def POD_S_GDELAY (q : Nat) : Nat := 0x1F01044 + 0x100 * q
def POD_S_GDELAY_GD4 (q : Nat) : Fld := ⟨POD_S_GDELAY q, 16, 16⟩
def POD_S_GDELAY_GD3 (q : Nat) : Fld := ⟨POD_S_GDELAY q, 0, 16⟩
def POD_S_STRESS (q k : Nat) : Nat := 0x1F01048 + 0x100 * q + 0x4 * k
def POD_S_EOL (q k : Nat) : Nat := 0x1F01058 + 0x100 * q + 0x4 * k
def POD_S_LINK_ERR (q : Nat) : Nat := 0x1F01068 + 0x100 * q
def POD_S_ATTACH_CNT (q : Nat) : Nat := 0x1F0106C + 0x100 * q
def POD_S_AUTH_LAST_LO (q : Nat) : Nat := 0x1F01070 + 0x100 * q
def POD_S_AUTH_LAST_HI (q : Nat) : Nat := 0x1F01074 + 0x100 * q
def POD_S_AUTH_LAST_GEN (q : Nat) : Nat := 0x1F01078 + 0x100 * q
def POD_S_AUTH_LAST_GEN_GEN (q : Nat) : Fld := ⟨POD_S_AUTH_LAST_GEN q, 16, 16⟩
def POD_S_AUTH_LAST_GEN_VALID (q : Nat) : Fld := ⟨POD_S_AUTH_LAST_GEN q, 0, 1⟩
def POD_S_LEDGER_IDX (q : Nat) : Nat := 0x1F0107C + 0x100 * q

/-! ### Block HDMA -/
def HDMA_CTRL : Nat := 0x40000
def HDMA_CTRL_CLR_STATS : Fld := ⟨HDMA_CTRL, 1, 1⟩
def HDMA_CTRL_EQ_EN : Fld := ⟨HDMA_CTRL, 0, 1⟩
def HDMA_STAT : Nat := 0x40004
def HDMA_STAT_BUSY : Fld := ⟨HDMA_STAT, 16, 16⟩
def HDMA_STAT_EN : Fld := ⟨HDMA_STAT, 0, 16⟩
def HDMA_EVT : Nat := 0x40008
def HDMA_EVT_BAR0_ERR : Fld := ⟨HDMA_EVT, 5, 1⟩
def HDMA_EVT_SATURATED : Fld := ⟨HDMA_EVT, 4, 1⟩
def HDMA_EVT_LINK_CHANGE : Fld := ⟨HDMA_EVT, 3, 1⟩
def HDMA_EVT_BAR2_ERR : Fld := ⟨HDMA_EVT, 2, 1⟩
def HDMA_EVT_EQ_LOST : Fld := ⟨HDMA_EVT, 1, 1⟩
def HDMA_EVT_CHAN_ERR : Fld := ⟨HDMA_EVT, 0, 1⟩
def HDMA_LINK : Nat := 0x4000C
def HDMA_LINK_RETRAINS : Fld := ⟨HDMA_LINK, 16, 16⟩
def HDMA_LINK_DEGRADED : Fld := ⟨HDMA_LINK, 10, 1⟩
def HDMA_LINK_WIDTH : Fld := ⟨HDMA_LINK, 4, 6⟩
def HDMA_LINK_SPEED : Fld := ⟨HDMA_LINK, 0, 4⟩
def HDMA_WIN_BASE : Nat := 0x40010
def HDMA_BAR2_ERR : Nat := 0x40014
def HDMA_CPL_DROP : Nat := 0x40018
def HDMA_BAR0_ERR : Nat := 0x4001C
def HDMA_EQ_BASE_LO : Nat := 0x40020
def HDMA_EQ_BASE_HI : Nat := 0x40024
def HDMA_EQ_SIZE : Nat := 0x40028
def HDMA_EQ_TAIL : Nat := 0x4002C
def HDMA_EQ_TAIL_PHASE : Fld := ⟨HDMA_EQ_TAIL, 12, 1⟩
def HDMA_EQ_TAIL_INDEX : Fld := ⟨HDMA_EQ_TAIL, 0, 12⟩
def HDMA_EQ_HEAD : Nat := 0x40030
def HDMA_EQ_HEAD_INDEX : Fld := ⟨HDMA_EQ_HEAD, 0, 12⟩
def HDMA_EQ_MASK : Nat := 0x40034
def HDMA_EQ_LOST : Nat := 0x40038
def HDMA_EQ_MOD : Nat := 0x4003C
def HDMA_EQ_MOD_TICKS : Fld := ⟨HDMA_EQ_MOD, 16, 16⟩
def HDMA_EQ_MOD_COUNT : Fld := ⟨HDMA_EQ_MOD, 0, 16⟩
def HDMA_EVEC (b : Nat) : Nat := 0x40040 + 0x4 * b
def HDMA_C_CTRL (c : Nat) : Nat := 0x41000 + 0x100 * c
def HDMA_C_CTRL_WEIGHT (c : Nat) : Fld := ⟨HDMA_C_CTRL c, 24, 8⟩
def HDMA_C_CTRL_CLR_STATS (c : Nat) : Fld := ⟨HDMA_C_CTRL c, 7, 1⟩
def HDMA_C_CTRL_ABORT (c : Nat) : Fld := ⟨HDMA_C_CTRL c, 6, 1⟩
def HDMA_C_CTRL_DRAIN (c : Nat) : Fld := ⟨HDMA_C_CTRL c, 5, 1⟩
def HDMA_C_CTRL_IRQ_ALL (c : Nat) : Fld := ⟨HDMA_C_CTRL c, 4, 1⟩
def HDMA_C_CTRL_EN (c : Nat) : Fld := ⟨HDMA_C_CTRL c, 0, 1⟩
def HDMA_C_STAT (c : Nat) : Nat := 0x41004 + 0x100 * c
def HDMA_C_STAT_INFLIGHT (c : Nat) : Fld := ⟨HDMA_C_STAT c, 8, 9⟩
def HDMA_C_STAT_ERR (c : Nat) : Fld := ⟨HDMA_C_STAT c, 3, 1⟩
def HDMA_C_STAT_ABORTING (c : Nat) : Fld := ⟨HDMA_C_STAT c, 2, 1⟩
def HDMA_C_STAT_DRAINING (c : Nat) : Fld := ⟨HDMA_C_STAT c, 1, 1⟩
def HDMA_C_STAT_BUSY (c : Nat) : Fld := ⟨HDMA_C_STAT c, 0, 1⟩
def HDMA_C_EVT (c : Nat) : Nat := 0x41008 + 0x100 * c
def HDMA_C_EVT_SATURATED (c : Nat) : Fld := ⟨HDMA_C_EVT c, 3, 1⟩
def HDMA_C_EVT_HOST_ERR (c : Nat) : Fld := ⟨HDMA_C_EVT c, 2, 1⟩
def HDMA_C_EVT_BAD_DESC (c : Nat) : Fld := ⟨HDMA_C_EVT c, 1, 1⟩
def HDMA_C_EVT_STOPPED (c : Nat) : Fld := ⟨HDMA_C_EVT c, 0, 1⟩
def HDMA_C_SIZE (c : Nat) : Nat := 0x4100C + 0x100 * c
def HDMA_C_RING_LO (c : Nat) : Nat := 0x41010 + 0x100 * c
def HDMA_C_RING_HI (c : Nat) : Nat := 0x41014 + 0x100 * c
def HDMA_C_CPL_LO (c : Nat) : Nat := 0x41018 + 0x100 * c
def HDMA_C_CPL_HI (c : Nat) : Nat := 0x4101C + 0x100 * c
def HDMA_C_TAIL (c : Nat) : Nat := 0x41020 + 0x100 * c
def HDMA_C_HEAD (c : Nat) : Nat := 0x41024 + 0x100 * c
def HDMA_C_CPL_IDX (c : Nat) : Nat := 0x41028 + 0x100 * c
def HDMA_C_CPL_IDX_PHASE (c : Nat) : Fld := ⟨HDMA_C_CPL_IDX c, 12, 1⟩
def HDMA_C_CPL_IDX_INDEX (c : Nat) : Fld := ⟨HDMA_C_CPL_IDX c, 0, 12⟩
def HDMA_C_DONE_LO (c : Nat) : Nat := 0x4102C + 0x100 * c
def HDMA_C_DONE_HI (c : Nat) : Nat := 0x41030 + 0x100 * c
def HDMA_C_ERR_CNT (c : Nat) : Nat := 0x41034 + 0x100 * c
def HDMA_C_TAP (c : Nat) : Nat := 0x41038 + 0x100 * c
def HDMA_C_TAP_FLUSH_TICKS (c : Nat) : Fld := ⟨HDMA_C_TAP c, 16, 16⟩
def HDMA_C_TAP_CLASSES (c : Nat) : Fld := ⟨HDMA_C_TAP c, 0, 7⟩
def HDMA_C_TAP_MISS (c : Nat) : Nat := 0x4103C + 0x100 * c

/-! ### Block STOR -/
def STOR_CTRL : Nat := 0x60000
def STOR_CTRL_CLR_STATS : Fld := ⟨STOR_CTRL, 3, 1⟩
def STOR_CTRL_SEAL_NOW : Fld := ⟨STOR_CTRL, 2, 1⟩
def STOR_CTRL_FORMAT : Fld := ⟨STOR_CTRL, 1, 1⟩
def STOR_CTRL_EN : Fld := ⟨STOR_CTRL, 0, 1⟩
def STOR_STAT : Nat := 0x60004
def STOR_STAT_REFUSE : Fld := ⟨STOR_STAT, 28, 4⟩
def STOR_STAT_DRIVES : Fld := ⟨STOR_STAT, 8, 4⟩
def STOR_STAT_LAYOUT : Fld := ⟨STOR_STAT, 3, 1⟩
def STOR_STAT_STATE : Fld := ⟨STOR_STAT, 0, 3⟩
def STOR_EVT : Nat := 0x60008
def STOR_EVT_SATURATED : Fld := ⟨STOR_EVT, 6, 1⟩
def STOR_EVT_REFUSED : Fld := ⟨STOR_EVT, 5, 1⟩
def STOR_EVT_SEAL_MERGED : Fld := ⟨STOR_EVT, 4, 1⟩
def STOR_EVT_LOSS : Fld := ⟨STOR_EVT, 3, 1⟩
def STOR_EVT_REBUILD_DONE : Fld := ⟨STOR_EVT, 2, 1⟩
def STOR_EVT_DRIVE_ADOPTED : Fld := ⟨STOR_EVT, 1, 1⟩
def STOR_EVT_DRIVE_LOST : Fld := ⟨STOR_EVT, 0, 1⟩
def STOR_CFG : Nat := 0x6000C
def STOR_CFG_WQ_GIB : Fld := ⟨STOR_CFG, 8, 7⟩
def STOR_CFG_LAYOUT : Fld := ⟨STOR_CFG, 0, 1⟩
def STOR_SEAL_INT : Nat := 0x60010
def STOR_FMT : Nat := 0x60014
def STOR_FMT_PERMIT : Fld := ⟨STOR_FMT, 0, 1⟩
def STOR_UNITS : Nat := 0x60018
def STOR_SLOTS : Nat := 0x6001C
def STOR_SEQ_LO : Nat := 0x60020
def STOR_SEQ_HI : Nat := 0x60024
def STOR_TAIL_SEQ_LO : Nat := 0x60028
def STOR_TAIL_SEQ_HI : Nat := 0x6002C
def STOR_SEAL_LAST_LO : Nat := 0x60030
def STOR_SEAL_LAST_HI : Nat := 0x60034
def STOR_SEAL_LAST_GEN : Nat := 0x60038
def STOR_SEAL_LAST_GEN_GEN : Fld := ⟨STOR_SEAL_LAST_GEN, 16, 16⟩
def STOR_SEAL_LAST_GEN_VALID : Fld := ⟨STOR_SEAL_LAST_GEN, 0, 1⟩
def STOR_SEAL_NO_LO : Nat := 0x60040
def STOR_SEAL_NO_HI : Nat := 0x60044
def STOR_WP : Nat := 0x60048
def STOR_WQ_FILL : Nat := 0x6004C
def STOR_LOST : Nat := 0x60050
def STOR_FILLERS : Nat := 0x60054
def STOR_MERGED : Nat := 0x60058
def STOR_BYTES_LO : Nat := 0x60060
def STOR_BYTES_HI : Nat := 0x60064
def STOR_REBUILD : Nat := 0x60068
def STOR_REBUILD_POS : Nat := 0x6006C
def STOR_PIN_CTRL : Nat := 0x60080
def STOR_PIN_CTRL_ADD : Fld := ⟨STOR_PIN_CTRL, 8, 1⟩
def STOR_PIN_CTRL_SEL : Fld := ⟨STOR_PIN_CTRL, 0, 5⟩
def STOR_PIN_STAT : Nat := 0x60084
def STOR_PIN_STAT_REFUSE : Fld := ⟨STOR_PIN_STAT, 28, 4⟩
def STOR_PIN_STAT_COUNT : Fld := ⟨STOR_PIN_STAT, 0, 6⟩
def STOR_PIN_FIRST_LO : Nat := 0x60088
def STOR_PIN_FIRST_HI : Nat := 0x6008C
def STOR_PIN_LAST_LO : Nat := 0x60090
def STOR_PIN_LAST_HI : Nat := 0x60094
def STOR_PIN_DROP : Nat := 0x60098
def STOR_PIN_DROP_DROP : Fld := ⟨STOR_PIN_DROP, 31, 1⟩
def STOR_PIN_DROP_INDEX : Fld := ⟨STOR_PIN_DROP, 0, 5⟩
def STOR_RD_CTRL : Nat := 0x600A0
def STOR_RD_CTRL_GO : Fld := ⟨STOR_RD_CTRL, 31, 1⟩
def STOR_RD_CTRL_COUNT : Fld := ⟨STOR_RD_CTRL, 0, 11⟩
def STOR_RD_STAT : Nat := 0x600A4
def STOR_RD_STAT_REFUSE : Fld := ⟨STOR_RD_STAT, 28, 4⟩
def STOR_RD_STAT_DONE : Fld := ⟨STOR_RD_STAT, 2, 11⟩
def STOR_RD_STAT_BAD : Fld := ⟨STOR_RD_STAT, 1, 1⟩
def STOR_RD_STAT_MISSING : Fld := ⟨STOR_RD_STAT, 0, 1⟩
def STOR_RD_SEQ_LO : Nat := 0x600A8
def STOR_RD_SEQ_HI : Nat := 0x600AC
def STOR_RD_BASE : Nat := 0x600B0
def STOR_D_STAT (d : Nat) : Nat := 0x61000 + 0x100 * d
def STOR_D_STAT_REFUSE (d : Nat) : Fld := ⟨STOR_D_STAT d, 28, 4⟩
def STOR_D_STAT_SPEED (d : Nat) : Fld := ⟨STOR_D_STAT d, 12, 4⟩
def STOR_D_STAT_WIDTH (d : Nat) : Fld := ⟨STOR_D_STAT d, 8, 4⟩
def STOR_D_STAT_POSITION (d : Nat) : Fld := ⟨STOR_D_STAT d, 4, 2⟩
def STOR_D_STAT_STATE (d : Nat) : Fld := ⟨STOR_D_STAT d, 0, 3⟩
def STOR_D_CAP_LO (d : Nat) : Nat := 0x61004 + 0x100 * d
def STOR_D_CAP_HI (d : Nat) : Nat := 0x61008 + 0x100 * d
def STOR_D_DEPTH (d : Nat) : Nat := 0x6100C + 0x100 * d
def STOR_D_CMDS (d : Nat) : Nat := 0x61010 + 0x100 * d
def STOR_D_ERR (d : Nat) : Nat := 0x61014 + 0x100 * d
def STOR_D_WEAR (d : Nat) : Nat := 0x61018 + 0x100 * d
def STOR_D_SERIAL (d k : Nat) : Nat := 0x6101C + 0x100 * d + 0x4 * k

/-! ### Block LDG -/
def LDG_CTRL : Nat := 0xC0000
def LDG_CTRL_NOTE : Fld := ⟨LDG_CTRL, 1, 1⟩
def LDG_CTRL_CLR_STATS : Fld := ⟨LDG_CTRL, 0, 1⟩
def LDG_STAT : Nat := 0xC0004
def LDG_STAT_NO_STORE : Fld := ⟨LDG_STAT, 2, 1⟩
def LDG_STAT_QUEUED : Fld := ⟨LDG_STAT, 1, 1⟩
def LDG_STAT_RING_FULL : Fld := ⟨LDG_STAT, 0, 1⟩
def LDG_EVT : Nat := 0xC0008
def LDG_EVT_SATURATED : Fld := ⟨LDG_EVT, 2, 1⟩
def LDG_EVT_MERGED : Fld := ⟨LDG_EVT, 1, 1⟩
def LDG_EVT_OVERWRITE : Fld := ⟨LDG_EVT, 0, 1⟩
def LDG_NEXT_LO : Nat := 0xC0010
def LDG_NEXT_HI : Nat := 0xC0014
def LDG_SPILLED_LO : Nat := 0xC0018
def LDG_SPILLED_HI : Nat := 0xC001C
def LDG_BASE_LO : Nat := 0xC0020
def LDG_BASE_HI : Nat := 0xC0024
def LDG_OVERWRITTEN : Nat := 0xC0028
def LDG_MERGED : Nat := 0xC002C
def LDG_HEAD (k : Nat) : Nat := 0xC0040 + 0x4 * k
def LDG_HEAD_IDX_LO : Nat := 0xC0060
def LDG_HEAD_IDX_HI : Nat := 0xC0064
def LDG_RD_IDX_LO : Nat := 0xC0080
def LDG_RD_IDX_HI : Nat := 0xC0084
def LDG_RD_STAT : Nat := 0xC0088
def LDG_RD_STAT_VALID : Fld := ⟨LDG_RD_STAT, 0, 1⟩
def LDG_RD_WORD (k : Nat) : Nat := 0xC0100 + 0x4 * k
def LDG_NOTE (k : Nat) : Nat := 0xC0200 + 0x4 * k
def LDG_SEAL_SEL : Nat := 0xC0300
def LDG_SEAL_WORD (k : Nat) : Nat := 0xC1000 + 0x4 * k

/-! ### Block SEC -/
def SEC_CTRL : Nat := 0x80000
def SEC_CTRL_CLR_STATS : Fld := ⟨SEC_CTRL, 3, 1⟩
def SEC_CTRL_TOKEN : Fld := ⟨SEC_CTRL, 2, 1⟩
def SEC_CTRL_SUBMIT : Fld := ⟨SEC_CTRL, 1, 1⟩
def SEC_CTRL_AR_GO : Fld := ⟨SEC_CTRL, 0, 1⟩
def SEC_STAT : Nat := 0x80004
def SEC_STAT_PKT_REFUSE : Fld := ⟨SEC_STAT, 28, 4⟩
def SEC_STAT_TOK_REFUSE : Fld := ⟨SEC_STAT, 24, 4⟩
def SEC_STAT_PSET_NEW : Fld := ⟨SEC_STAT, 3, 1⟩
def SEC_STAT_SERVICE_EN : Fld := ⟨SEC_STAT, 2, 1⟩
def SEC_STAT_AR_BUSY : Fld := ⟨SEC_STAT, 1, 1⟩
def SEC_STAT_VERIFY_BUSY : Fld := ⟨SEC_STAT, 0, 1⟩
def SEC_EVT : Nat := 0x80008
def SEC_EVT_SATURATED : Fld := ⟨SEC_EVT, 8, 1⟩
def SEC_EVT_SEAL_ROTATED : Fld := ⟨SEC_EVT, 7, 1⟩
def SEC_EVT_AR_DONE : Fld := ⟨SEC_EVT, 6, 1⟩
def SEC_EVT_TOK_REFUSED : Fld := ⟨SEC_EVT, 5, 1⟩
def SEC_EVT_PKT_REFUSED : Fld := ⟨SEC_EVT, 4, 1⟩
def SEC_EVT_ENDED : Fld := ⟨SEC_EVT, 3, 1⟩
def SEC_EVT_COMMITTED : Fld := ⟨SEC_EVT, 2, 1⟩
def SEC_EVT_APPROVED : Fld := ⟨SEC_EVT, 1, 1⟩
def SEC_EVT_STAGED : Fld := ⟨SEC_EVT, 0, 1⟩
def SEC_KEYS : Nat := 0x8000C
def SEC_KEYS_OWNER : Fld := ⟨SEC_KEYS, 16, 1⟩
def SEC_KEYS_CHECKERS : Fld := ⟨SEC_KEYS, 8, 8⟩
def SEC_KEYS_MAKERS : Fld := ⟨SEC_KEYS, 0, 8⟩
def SEC_MODE_PERMIT : Nat := 0x80010
def SEC_MODE_PERMIT_MODES : Fld := ⟨SEC_MODE_PERMIT, 2, 6⟩
def SEC_MODE_PERMIT_FIXED : Fld := ⟨SEC_MODE_PERMIT, 0, 2⟩
def SEC_PSET_SEQ_LO : Nat := 0x80014
def SEC_PSET_SEQ_HI : Nat := 0x80018
def SEC_PSET_DIGEST (k : Nat) : Nat := 0x80020 + 0x4 * k
def SEC_DEVICE_ID (k : Nat) : Nat := 0x80040 + 0x4 * k
def SEC_NONCE (k : Nat) : Nat := 0x80060 + 0x4 * k
def SEC_MINT_QUEUE : Nat := 0x80080
def SEC_MINT_QUEUE_MAX : Fld := ⟨SEC_MINT_QUEUE, 16, 16⟩
def SEC_MINT_QUEUE_NOW : Fld := ⟨SEC_MINT_QUEUE, 0, 16⟩
def SEC_MINT_COUNT_LO : Nat := 0x80084
def SEC_MINT_COUNT_HI : Nat := 0x80088
def SEC_PKT_HWM_LO : Nat := 0x80090
def SEC_PKT_HWM_HI : Nat := 0x80094
def SEC_REFUSALS : Nat := 0x80098
def SEC_ESC_STAT (k : Nat) : Nat := 0x80100 + 0x20 * k
def SEC_ESC_STAT_RESULT (k : Nat) : Fld := ⟨SEC_ESC_STAT k, 28, 4⟩
def SEC_ESC_STAT_FIELD (k : Nat) : Fld := ⟨SEC_ESC_STAT k, 7, 1⟩
def SEC_ESC_STAT_COSIGNED (k : Nat) : Fld := ⟨SEC_ESC_STAT k, 6, 1⟩
def SEC_ESC_STAT_LOOSENS (k : Nat) : Fld := ⟨SEC_ESC_STAT k, 5, 1⟩
def SEC_ESC_STAT_STATE (k : Nat) : Fld := ⟨SEC_ESC_STAT k, 0, 3⟩
def SEC_ESC_SIGNER (k : Nat) : Nat := 0x80104 + 0x20 * k
def SEC_ESC_SIGNER_APPROVER (k : Nat) : Fld := ⟨SEC_ESC_SIGNER k, 16, 16⟩
def SEC_ESC_SIGNER_SIGNER (k : Nat) : Fld := ⟨SEC_ESC_SIGNER k, 0, 16⟩
def SEC_ESC_SEQ_LO (k : Nat) : Nat := 0x80108 + 0x20 * k
def SEC_ESC_SEQ_HI (k : Nat) : Nat := 0x8010C + 0x20 * k
def SEC_ESC_STAGED_LO (k : Nat) : Nat := 0x80110 + 0x20 * k
def SEC_ESC_STAGED_HI (k : Nat) : Nat := 0x80114 + 0x20 * k
def SEC_ESC_COMMIT_LO (k : Nat) : Nat := 0x80118 + 0x20 * k
def SEC_ESC_COMMIT_HI (k : Nat) : Nat := 0x8011C + 0x20 * k
def SEC_ESC_DIGEST (k j : Nat) : Nat := 0x80200 + 0x20 * k + 0x4 * j
def SEC_CERT_SEL : Nat := 0x80300
def SEC_CERT_LEN : Nat := 0x80304
def SEC_PKT_LEN : Nat := 0x80308
def SEC_CERT_WORD (k : Nat) : Nat := 0x82000 + 0x4 * k
def SEC_AR_WORD (k : Nat) : Nat := 0x84000 + 0x4 * k
def SEC_TOK_WORD (k : Nat) : Nat := 0x86000 + 0x4 * k
def SEC_PKT_WORD (k : Nat) : Nat := 0x88000 + 0x4 * k

/-! ### Block SYS -/
def SYS_ID : Nat := 0x0
def SYS_ID_PART : Fld := ⟨SYS_ID, 16, 16⟩
def SYS_ID_VARIANT : Fld := ⟨SYS_ID, 8, 8⟩
def SYS_ID_HW_REV : Fld := ⟨SYS_ID, 0, 8⟩
def SYS_CTRL : Nat := 0x4
def SYS_CTRL_CLR_STATS : Fld := ⟨SYS_CTRL, 0, 1⟩
def SYS_STAT : Nat := 0x8
def SYS_STAT_MODE_REFUSE : Fld := ⟨SYS_STAT, 28, 4⟩
def SYS_STAT_RECORDING : Fld := ⟨SYS_STAT, 6, 1⟩
def SYS_STAT_FAULT_HOLD : Fld := ⟨SYS_STAT, 5, 1⟩
def SYS_STAT_MODE_PENDING : Fld := ⟨SYS_STAT, 4, 1⟩
def SYS_STAT_DRIVE_INH_PIN : Fld := ⟨SYS_STAT, 3, 1⟩
def SYS_STAT_FIELD_UP : Fld := ⟨SYS_STAT, 2, 1⟩
def SYS_STAT_IMG_LOADED : Fld := ⟨SYS_STAT, 1, 1⟩
def SYS_STAT_BOOT_DONE : Fld := ⟨SYS_STAT, 0, 1⟩
def SYS_EVT : Nat := 0xC
def SYS_EVT_SATURATED : Fld := ⟨SYS_EVT, 7, 1⟩
def SYS_EVT_INH_REFUSED : Fld := ⟨SYS_EVT, 6, 1⟩
def SYS_EVT_INH_CHANGE : Fld := ⟨SYS_EVT, 5, 1⟩
def SYS_EVT_PWR_REFUSED : Fld := ⟨SYS_EVT, 4, 1⟩
def SYS_EVT_RECORDING : Fld := ⟨SYS_EVT, 3, 1⟩
def SYS_EVT_MODE_REFUSED : Fld := ⟨SYS_EVT, 2, 1⟩
def SYS_EVT_MODE_CHANGED : Fld := ⟨SYS_EVT, 1, 1⟩
def SYS_EVT_BOOT_DONE : Fld := ⟨SYS_EVT, 0, 1⟩
def SYS_MODE : Nat := 0x10
def SYS_MODE_REQ : Fld := ⟨SYS_MODE, 8, 4⟩
def SYS_MODE_MODE : Fld := ⟨SYS_MODE, 0, 4⟩
def SYS_DRIVE_INH : Nat := 0x14
def SYS_DRIVE_INH_GUARD : Fld := ⟨SYS_DRIVE_INH, 3, 1⟩
def SYS_DRIVE_INH_LINK_HOLD : Fld := ⟨SYS_DRIVE_INH, 2, 1⟩
def SYS_DRIVE_INH_PIN : Fld := ⟨SYS_DRIVE_INH, 1, 1⟩
def SYS_DRIVE_INH_INH : Fld := ⟨SYS_DRIVE_INH, 0, 1⟩
def SYS_PWR_REQ : Nat := 0x18
def SYS_PWR_REQ_F : Fld := ⟨SYS_PWR_REQ, 8, 13⟩
def SYS_PWR_REQ_H : Fld := ⟨SYS_PWR_REQ, 1, 6⟩
def SYS_PWR_REQ_H1 : Fld := ⟨SYS_PWR_REQ, 0, 1⟩
def SYS_PWR_STAT : Nat := 0x1C
def SYS_PWR_STAT_F : Fld := ⟨SYS_PWR_STAT, 8, 13⟩
def SYS_PWR_STAT_H : Fld := ⟨SYS_PWR_STAT, 1, 6⟩
def SYS_PWR_STAT_H1 : Fld := ⟨SYS_PWR_STAT, 0, 1⟩
def SYS_BOOT : Nat := 0x20
def SYS_BOOT_IMG_CAUSE : Fld := ⟨SYS_BOOT, 28, 4⟩
def SYS_BOOT_BANK : Fld := ⟨SYS_BOOT, 27, 1⟩
def SYS_BOOT_RECOVERY : Fld := ⟨SYS_BOOT, 26, 1⟩
def SYS_BOOT_PSET_BAD : Fld := ⟨SYS_BOOT, 25, 1⟩
def SYS_BOOT_IMG_SLOT : Fld := ⟨SYS_BOOT, 24, 1⟩
def SYS_BOOT_IMG_ERR : Fld := ⟨SYS_BOOT, 0, 16⟩
def SYS_SEALED_REJ : Nat := 0x24
def SYS_READY_LO : Nat := 0x28
def SYS_READY_HI : Nat := 0x2C
def SYS_READY_GEN : Nat := 0x30
def SYS_READY_GEN_GEN : Fld := ⟨SYS_READY_GEN, 16, 16⟩
def SYS_READY_GEN_VALID : Fld := ⟨SYS_READY_GEN, 0, 1⟩
def SYS_SERIAL (k : Nat) : Nat := 0x40 + 0x4 * k
def SYS_IMG_CTRL : Nat := 0x100
def SYS_IMG_CTRL_ACTIVATE : Fld := ⟨SYS_IMG_CTRL, 31, 1⟩
def SYS_IMG_CTRL_PROG : Fld := ⟨SYS_IMG_CTRL, 30, 1⟩
def SYS_IMG_CTRL_ERASE : Fld := ⟨SYS_IMG_CTRL, 29, 1⟩
def SYS_IMG_CTRL_WORDS : Fld := ⟨SYS_IMG_CTRL, 0, 13⟩
def SYS_IMG_STAT : Nat := 0x104
def SYS_IMG_STAT_CAUSE : Fld := ⟨SYS_IMG_STAT, 28, 4⟩
def SYS_IMG_STAT_RESULT : Fld := ⟨SYS_IMG_STAT, 2, 2⟩
def SYS_IMG_STAT_ACTIVE_SLOT : Fld := ⟨SYS_IMG_STAT, 1, 1⟩
def SYS_IMG_STAT_BUSY : Fld := ⟨SYS_IMG_STAT, 0, 1⟩
def SYS_IMG_OFS : Nat := 0x108
def SYS_IMG_SEQ_LO : Nat := 0x10C
def SYS_IMG_SEQ_HI : Nat := 0x110
def SYS_IMG_DIGEST (k : Nat) : Nat := 0x120 + 0x4 * k
def SYS_IMG_WORD (k : Nat) : Nat := 0x8000 + 0x4 * k

/-! ### Block FLT -/
def FLT_CTRL : Nat := 0xA0000
def FLT_CTRL_CLR_FIRST : Fld := ⟨FLT_CTRL, 1, 1⟩
def FLT_CTRL_CLR_STATS : Fld := ⟨FLT_CTRL, 0, 1⟩
def FLT_STAT : Nat := 0xA0004
def FLT_STAT_PEND_COUNT : Fld := ⟨FLT_STAT, 16, 16⟩
def FLT_STAT_RESET_LIMIT : Fld := ⟨FLT_STAT, 4, 1⟩
def FLT_STAT_FIELD_FAULT_N : Fld := ⟨FLT_STAT, 3, 1⟩
def FLT_STAT_FAULT_N : Fld := ⟨FLT_STAT, 2, 1⟩
def FLT_STAT_FAULT_HOLD : Fld := ⟨FLT_STAT, 0, 1⟩
def FLT_EVT : Nat := 0xA0008
def FLT_EVT_SATURATED : Fld := ⟨FLT_EVT, 3, 1⟩
def FLT_EVT_FORCE_REFUSED : Fld := ⟨FLT_EVT, 2, 1⟩
def FLT_EVT_FATAL : Fld := ⟨FLT_EVT, 1, 1⟩
def FLT_EVT_RAISED : Fld := ⟨FLT_EVT, 0, 1⟩
def FLT_PEND (k : Nat) : Nat := 0xA0010 + 0x4 * k
def FLT_FORCE (k : Nat) : Nat := 0xA0030 + 0x4 * k
def FLT_FIRST_ID : Nat := 0xA0050
def FLT_FIRST_LO : Nat := 0xA0054
def FLT_FIRST_HI : Nat := 0xA0058
def FLT_FIRST_GEN : Nat := 0xA005C
def FLT_FIRST_GEN_GEN : Fld := ⟨FLT_FIRST_GEN, 16, 16⟩
def FLT_FIRST_GEN_VALID : Fld := ⟨FLT_FIRST_GEN, 0, 1⟩
def FLT_LAST_ID : Nat := 0xA0060
def FLT_LAST_LO : Nat := 0xA0064
def FLT_LAST_HI : Nat := 0xA0068
def FLT_LAST_GEN : Nat := 0xA006C
def FLT_LAST_GEN_GEN : Fld := ⟨FLT_LAST_GEN, 16, 16⟩
def FLT_LAST_GEN_VALID : Fld := ⟨FLT_LAST_GEN, 0, 1⟩
def FLT_FATAL_ID : Nat := 0xA0070
def FLT_FATAL_LO : Nat := 0xA0074
def FLT_FATAL_HI : Nat := 0xA0078
def FLT_FATAL_DATA : Nat := 0xA007C
def AVAIL_CTRL : Nat := 0xA0100
def AVAIL_CTRL_CLR : Fld := ⟨AVAIL_CTRL, 0, 1⟩
def AVAIL_STAT : Nat := 0xA0104
def AVAIL_STAT_CAUSE : Fld := ⟨AVAIL_STAT, 3, 5⟩
def AVAIL_STAT_IN_EPISODE : Fld := ⟨AVAIL_STAT, 1, 1⟩
def AVAIL_STAT_COUNTING : Fld := ⟨AVAIL_STAT, 0, 1⟩
def AVAIL_TICKS_LO : Nat := 0xA0108
def AVAIL_TICKS_HI : Nat := 0xA010C
def AVAIL_COVERED_LO : Nat := 0xA0110
def AVAIL_COVERED_HI : Nat := 0xA0114
def AVAIL_UNCOVERED_LO : Nat := 0xA0118
def AVAIL_UNCOVERED_HI : Nat := 0xA011C
def AVAIL_UNPOWERED_LO : Nat := 0xA0120
def AVAIL_UNPOWERED_HI : Nat := 0xA0124
def AVAIL_QUIET_LO : Nat := 0xA0128
def AVAIL_QUIET_HI : Nat := 0xA012C
def AVAIL_EPISODES : Nat := 0xA0130
def AVAIL_WORST : Nat := 0xA0134
def AVAIL_YEAR_UNCOV : Nat := 0xA0138
def AVAIL_BUDGET_LEFT : Nat := 0xA013C
def FLT_ACT (i : Nat) : Nat := 0xA0400 + 0x4 * i
def FLT_ACT_CLASS (i : Nat) : Fld := ⟨FLT_ACT i, 30, 2⟩
def FLT_ACT_PROT (i : Nat) : Fld := ⟨FLT_ACT i, 29, 1⟩
def FLT_ACT_BLK_OK (i : Nat) : Fld := ⟨FLT_ACT i, 28, 1⟩
def FLT_ACT_REACT (i : Nat) : Fld := ⟨FLT_ACT i, 0, 6⟩
def FLT_CNT (i : Nat) : Nat := 0xA0800 + 0x4 * i

/-! ### Block UPD -/
def UPD_CTRL : Nat := 0xB0000
def UPD_CTRL_WORDS : Fld := ⟨UPD_CTRL, 16, 13⟩
def UPD_CTRL_CELL_EN : Fld := ⟨UPD_CTRL, 6, 1⟩
def UPD_CTRL_CANCEL : Fld := ⟨UPD_CTRL, 5, 1⟩
def UPD_CTRL_ARM : Fld := ⟨UPD_CTRL, 4, 1⟩
def UPD_CTRL_VERIFY : Fld := ⟨UPD_CTRL, 3, 1⟩
def UPD_CTRL_PROG : Fld := ⟨UPD_CTRL, 2, 1⟩
def UPD_CTRL_ERASE : Fld := ⟨UPD_CTRL, 1, 1⟩
def UPD_STAT : Nat := 0xB0004
def UPD_STAT_VRESULT : Fld := ⟨UPD_STAT, 28, 4⟩
def UPD_STAT_ARESULT : Fld := ⟨UPD_STAT, 24, 4⟩
def UPD_STAT_LINE : Fld := ⟨UPD_STAT, 7, 1⟩
def UPD_STAT_DRIVING : Fld := ⟨UPD_STAT, 6, 1⟩
def UPD_STAT_BUSY : Fld := ⟨UPD_STAT, 5, 1⟩
def UPD_STAT_HEALTH : Fld := ⟨UPD_STAT, 4, 1⟩
def UPD_STAT_STATE : Fld := ⟨UPD_STAT, 0, 4⟩
def UPD_EVT : Nat := 0xB0008
def UPD_EVT_REVERTED : Fld := ⟨UPD_EVT, 5, 1⟩
def UPD_EVT_COMMITTED : Fld := ⟨UPD_EVT, 4, 1⟩
def UPD_EVT_SWITCHED : Fld := ⟨UPD_EVT, 3, 1⟩
def UPD_EVT_ABORTED : Fld := ⟨UPD_EVT, 2, 1⟩
def UPD_EVT_ARMED : Fld := ⟨UPD_EVT, 1, 1⟩
def UPD_EVT_VERIFIED : Fld := ⟨UPD_EVT, 0, 1⟩
def UPD_OFS : Nat := 0xB000C
def UPD_CHECK : Nat := 0xB0010
def UPD_ACT_SEC_LO : Nat := 0xB0014
def UPD_ACT_SEC_HI : Nat := 0xB0018
def UPD_POD_MASK : Nat := 0xB001C
def UPD_ACT_T64_LO : Nat := 0xB0020
def UPD_ACT_T64_HI : Nat := 0xB0024
def UPD_ACT_T64_GEN : Nat := 0xB0028
def UPD_ACT_T64_GEN_GEN : Fld := ⟨UPD_ACT_T64_GEN, 16, 16⟩
def UPD_ACT_T64_GEN_VALID : Fld := ⟨UPD_ACT_T64_GEN, 0, 1⟩
def UPD_SEQ_LO : Nat := 0xB0030
def UPD_SEQ_HI : Nat := 0xB0034
def UPD_FLOOR_LO : Nat := 0xB0038
def UPD_FLOOR_HI : Nat := 0xB003C
def UPD_DIGEST (k : Nat) : Nat := 0xB0040 + 0x4 * k
def UPD_WORD (k : Nat) : Nat := 0xB8000 + 0x4 * k

end Sys2Proof.R

namespace Sys2Proof.Machine

/-- The access codes of R10. -/
inductive Access where
  | rw | ro | w1c | wo | sc | rs | pl
  deriving DecidableEq, Repr

/-- One field of a register row: lowest bit, width, access code. -/
structure FieldRow where
  lo : Nat
  w : Nat
  acc : Access
  deriving DecidableEq, Repr

/-- A row of a register table: the registers at `base + s1 * i + s2 * j` for `i < n1`, `j < n2`; their reset value; their fields. -/
structure RegRow where
  base : Nat
  n1 : Nat
  s1 : Nat
  n2 : Nat
  s2 : Nat
  reset : Nat
  fields : List FieldRow
  deriving DecidableEq, Repr

def regRowsISO0 : List RegRow := [
  ⟨0x100000, 1, 0x0, 1, 0x0, 0x1001, [⟨8, 8, .ro⟩, ⟨0, 8, .ro⟩]⟩,
  ⟨0x100004, 1, 0x0, 1, 0x0, 0xA00, [⟨8, 8, .pl⟩, ⟨1, 1, .sc⟩, ⟨0, 1, .sc⟩]⟩,
  ⟨0x100008, 1, 0x0, 1, 0x0, 0x0, [⟨16, 5, .ro⟩, ⟨8, 5, .ro⟩, ⟨4, 1, .ro⟩, ⟨0, 4, .ro⟩]⟩,
  ⟨0x10000C, 1, 0x0, 1, 0x0, 0x0, [⟨7, 1, .w1c⟩, ⟨6, 1, .w1c⟩, ⟨5, 1, .w1c⟩, ⟨4, 1, .w1c⟩, ⟨3, 1, .w1c⟩, ⟨2, 1, .w1c⟩, ⟨1, 1, .w1c⟩, ⟨0, 1, .w1c⟩]⟩,
  ⟨0x100010, 1, 0x0, 1, 0x0, 0x0, [⟨16, 16, .ro⟩, ⟨0, 16, .ro⟩]⟩,
  ⟨0x100014, 1, 0x0, 1, 0x0, 0x0, [⟨16, 16, .ro⟩, ⟨0, 16, .ro⟩]⟩,
  ⟨0x100018, 1, 0x0, 1, 0x0, 0x0, [⟨0, 32, .ro⟩]⟩,
  ⟨0x10001C, 1, 0x0, 1, 0x0, 0x0, [⟨0, 32, .ro⟩]⟩,
  ⟨0x100020, 1, 0x0, 1, 0x0, 0x0, [⟨0, 32, .ro⟩]⟩,
  ⟨0x100024, 1, 0x0, 1, 0x0, 0x0, [⟨0, 32, .ro⟩]⟩,
  ⟨0x100028, 1, 0x0, 1, 0x0, 0x0, [⟨31, 1, .ro⟩, ⟨30, 1, .ro⟩, ⟨27, 3, .ro⟩, ⟨24, 3, .ro⟩, ⟨16, 8, .ro⟩, ⟨0, 16, .ro⟩]⟩,
  ⟨0x10002C, 1, 0x0, 1, 0x0, 0x0, [⟨0, 32, .ro⟩]⟩,
  ⟨0x100030, 1, 0x0, 1, 0x0, 0x0, [⟨0, 32, .ro⟩]⟩,
  ⟨0x100034, 1, 0x0, 1, 0x0, 0x0, [⟨0, 32, .ro⟩]⟩,
  ⟨0x100038, 1, 0x0, 1, 0x0, 0x0, [⟨0, 32, .ro⟩]⟩,
  ⟨0x10003C, 1, 0x0, 1, 0x0, 0x0, [⟨8, 6, .ro⟩, ⟨0, 3, .ro⟩]⟩,
  ⟨0x100040, 1, 0x0, 1, 0x0, 0x0, [⟨0, 32, .ro⟩]⟩,
  ⟨0x100044, 1, 0x0, 1, 0x0, 0x0, [⟨0, 32, .ro⟩]⟩,
  ⟨0x100048, 1, 0x0, 1, 0x0, 0x0, [⟨0, 32, .rs⟩]⟩,
  ⟨0x10004C, 1, 0x0, 1, 0x0, 0x0, [⟨0, 32, .ro⟩]⟩,
  ⟨0x100050, 1, 0x0, 1, 0x0, 0x0, [⟨0, 32, .rs⟩]⟩,
  ⟨0x100054, 1, 0x0, 1, 0x0, 0x0, [⟨0, 32, .ro⟩]⟩]
/-- The rows of block ISO. -/
def regRowsISO : List RegRow := regRowsISO0

def regRowsFCTL0 : List RegRow := [
  ⟨0x1000000, 1, 0x0, 1, 0x0, 0x0, [⟨16, 1, .ro⟩, ⟨8, 8, .ro⟩, ⟨2, 1, .ro⟩, ⟨1, 1, .ro⟩, ⟨0, 1, .ro⟩]⟩,
  ⟨0x1000004, 1, 0x0, 1, 0x0, 0x0, [⟨2, 1, .w1c⟩, ⟨1, 1, .w1c⟩, ⟨0, 1, .w1c⟩]⟩,
  ⟨0x1000010, 1, 0x0, 1, 0x0, 0x0, [⟨0, 2, .wo⟩]⟩,
  ⟨0x1000018, 1, 0x0, 1, 0x0, 0x0, [⟨0, 32, .rs⟩]⟩,
  ⟨0x100001C, 1, 0x0, 1, 0x0, 0x0, [⟨0, 32, .ro⟩]⟩,
  ⟨0x1000020, 1, 0x0, 1, 0x0, 0x0, [⟨16, 16, .ro⟩, ⟨4, 2, .ro⟩, ⟨3, 1, .ro⟩, ⟨0, 1, .ro⟩]⟩,
  ⟨0x1000030, 4, 0x4, 1, 0x0, 0x0, [⟨31, 1, .ro⟩, ⟨0, 11, .ro⟩]⟩,
  ⟨0x1000040, 1, 0x0, 1, 0x0, 0x0, [⟨0, 8, .wo⟩]⟩]
/-- The rows of block FCTL. -/
def regRowsFCTL : List RegRow := regRowsFCTL0

def regRowsTIME0 : List RegRow := [
  ⟨0x10000, 1, 0x0, 1, 0x0, 0x0, [⟨11, 1, .rw⟩, ⟨10, 1, .sc⟩, ⟨9, 1, .sc⟩, ⟨8, 1, .rw⟩, ⟨0, 2, .rw⟩]⟩,
  ⟨0x10004, 1, 0x0, 1, 0x0, 0x0, [⟨7, 1, .ro⟩, ⟨6, 1, .ro⟩, ⟨5, 1, .ro⟩, ⟨4, 1, .ro⟩, ⟨3, 1, .ro⟩, ⟨2, 1, .ro⟩, ⟨0, 2, .ro⟩]⟩,
  ⟨0x10008, 1, 0x0, 1, 0x0, 0x0, [⟨9, 1, .w1c⟩, ⟨8, 1, .w1c⟩, ⟨7, 1, .w1c⟩, ⟨6, 1, .w1c⟩, ⟨5, 1, .w1c⟩, ⟨4, 1, .w1c⟩, ⟨3, 1, .w1c⟩, ⟨2, 1, .w1c⟩, ⟨1, 1, .w1c⟩, ⟨0, 1, .w1c⟩]⟩,
  ⟨0x10010, 1, 0x0, 1, 0x0, 0x0, [⟨0, 32, .rs⟩]⟩,
  ⟨0x10014, 1, 0x0, 1, 0x0, 0x0, [⟨0, 32, .ro⟩]⟩,
  ⟨0x10018, 1, 0x0, 1, 0x0, 0x0, [⟨0, 16, .ro⟩]⟩,
  ⟨0x10020, 1, 0x0, 1, 0x0, 0x0, [⟨0, 32, .rs⟩]⟩,
  ⟨0x10024, 1, 0x0, 1, 0x0, 0x0, [⟨0, 32, .ro⟩]⟩,
  ⟨0x10028, 1, 0x0, 1, 0x0, 0x0, [⟨0, 32, .rw⟩]⟩,
  ⟨0x1002C, 1, 0x0, 1, 0x0, 0x0, [⟨0, 32, .rw⟩]⟩,
  ⟨0x10030, 1, 0x0, 1, 0x0, 0x0, [⟨0, 32, .rs⟩]⟩,
  ⟨0x10034, 1, 0x0, 1, 0x0, 0x0, [⟨0, 32, .ro⟩]⟩,
  ⟨0x10038, 1, 0x0, 1, 0x0, 0x0, [⟨16, 16, .ro⟩, ⟨0, 1, .ro⟩]⟩,
  ⟨0x1003C, 1, 0x0, 1, 0x0, 0x0, [⟨0, 32, .ro⟩]⟩,
  ⟨0x10040, 1, 0x0, 1, 0x0, 0x0, [⟨0, 32, .ro⟩]⟩,
  ⟨0x10044, 1, 0x0, 1, 0x0, 0x0, [⟨0, 32, .ro⟩]⟩,
  ⟨0x10050, 1, 0x0, 1, 0x0, 0x0, [⟨0, 32, .ro⟩]⟩,
  ⟨0x10054, 1, 0x0, 1, 0x0, 0x0, [⟨8, 4, .ro⟩, ⟨0, 2, .ro⟩]⟩,
  ⟨0x10058, 1, 0x0, 1, 0x0, 0x0, [⟨0, 32, .ro⟩]⟩,
  ⟨0x1005C, 1, 0x0, 1, 0x0, 0x0, [⟨0, 32, .ro⟩]⟩,
  ⟨0x10060, 1, 0x0, 1, 0x0, 0x0, [⟨0, 32, .ro⟩]⟩,
  ⟨0x10064, 1, 0x0, 1, 0x0, 0x0, [⟨0, 32, .rs⟩]⟩,
  ⟨0x10068, 1, 0x0, 1, 0x0, 0x0, [⟨0, 32, .ro⟩]⟩,
  ⟨0x1006C, 1, 0x0, 1, 0x0, 0x0, [⟨16, 16, .ro⟩, ⟨0, 1, .ro⟩]⟩]
def regRowsTIME1 : List RegRow := [
  ⟨0x10070, 1, 0x0, 1, 0x0, 0x0, [⟨0, 32, .rs⟩]⟩,
  ⟨0x10074, 1, 0x0, 1, 0x0, 0x0, [⟨0, 32, .ro⟩]⟩]
/-- The rows of block TIME. -/
def regRowsTIME : List RegRow := regRowsTIME0 ++ regRowsTIME1

def regRowsCLR0 : List RegRow := [
  ⟨0x20000, 1, 0x0, 1, 0x0, 0x8, [⟨7, 1, .sc⟩, ⟨0, 7, .rw⟩]⟩,
  ⟨0x20004, 1, 0x0, 1, 0x0, 0x8, [⟨16, 16, .ro⟩, ⟨0, 7, .ro⟩]⟩,
  ⟨0x20008, 1, 0x0, 1, 0x0, 0x0, [⟨3, 1, .w1c⟩, ⟨2, 1, .w1c⟩, ⟨1, 1, .w1c⟩, ⟨0, 1, .w1c⟩]⟩,
  ⟨0x20010, 1, 0x0, 1, 0x0, 0x0, [⟨0, 32, .rs⟩]⟩,
  ⟨0x20014, 1, 0x0, 1, 0x0, 0x0, [⟨0, 32, .ro⟩]⟩,
  ⟨0x20018, 1, 0x0, 1, 0x0, 0x0, [⟨0, 32, .ro⟩]⟩,
  ⟨0x2001C, 1, 0x0, 1, 0x0, 0x0, [⟨0, 32, .ro⟩]⟩,
  ⟨0x20020, 1, 0x0, 1, 0x0, 0x0, [⟨0, 32, .ro⟩]⟩,
  ⟨0x20028, 1, 0x0, 1, 0x0, 0x0, [⟨0, 32, .rs⟩]⟩,
  ⟨0x2002C, 1, 0x0, 1, 0x0, 0x0, [⟨0, 32, .ro⟩]⟩]
/-- The rows of block CLR. -/
def regRowsCLR : List RegRow := regRowsCLR0

def regRowsPIN0 : List RegRow := [
  ⟨0x1400000, 256, 0x1000, 1, 0x0, 0x0, [⟨4, 1, .rw⟩, ⟨3, 1, .sc⟩, ⟨2, 1, .sc⟩, ⟨1, 1, .rw⟩, ⟨0, 1, .rw⟩]⟩,
  ⟨0x1400004, 256, 0x1000, 1, 0x0, 0x600, [⟨9, 2, .ro⟩, ⟨8, 1, .ro⟩, ⟨7, 1, .ro⟩, ⟨6, 1, .ro⟩, ⟨5, 1, .ro⟩, ⟨4, 1, .ro⟩, ⟨3, 1, .ro⟩, ⟨0, 3, .ro⟩]⟩,
  ⟨0x1400008, 256, 0x1000, 1, 0x0, 0x0, [⟨9, 1, .w1c⟩, ⟨8, 1, .w1c⟩, ⟨7, 1, .w1c⟩, ⟨6, 1, .w1c⟩, ⟨5, 1, .w1c⟩, ⟨4, 1, .w1c⟩, ⟨3, 1, .w1c⟩, ⟨2, 1, .w1c⟩, ⟨1, 1, .w1c⟩, ⟨0, 1, .w1c⟩]⟩,
  ⟨0x1400010, 256, 0x1000, 1, 0x0, 0x0, [⟨0, 32, .rw⟩]⟩,
  ⟨0x1400014, 256, 0x1000, 1, 0x0, 0x0, [⟨0, 32, .rw⟩]⟩,
  ⟨0x1400018, 256, 0x1000, 1, 0x0, 0x0, [⟨0, 32, .rw⟩]⟩,
  ⟨0x140001C, 256, 0x1000, 1, 0x0, 0x0, [⟨0, 32, .rw⟩]⟩,
  ⟨0x1400020, 256, 0x1000, 1, 0x0, 0x0, [⟨0, 32, .rw⟩]⟩,
  ⟨0x1400024, 256, 0x1000, 1, 0x0, 0xA, [⟨31, 1, .pl⟩, ⟨0, 16, .pl⟩]⟩,
  ⟨0x1400028, 256, 0x1000, 1, 0x0, 0x0, [⟨0, 32, .pl⟩]⟩,
  ⟨0x140002C, 256, 0x1000, 1, 0x0, 0x0, [⟨0, 32, .pl⟩]⟩,
  ⟨0x1400030, 256, 0x1000, 1, 0x0, 0x0, [⟨16, 16, .ro⟩, ⟨0, 16, .ro⟩]⟩,
  ⟨0x1400034, 256, 0x1000, 1, 0x0, 0x0, [⟨0, 32, .ro⟩]⟩,
  ⟨0x1400038, 256, 0x1000, 1, 0x0, 0x0, [⟨31, 1, .rw⟩, ⟨16, 12, .rw⟩, ⟨0, 8, .rw⟩]⟩,
  ⟨0x1400040, 256, 0x1000, 1, 0x0, 0x0, [⟨0, 32, .rs⟩]⟩,
  ⟨0x1400044, 256, 0x1000, 1, 0x0, 0x0, [⟨0, 16, .ro⟩]⟩,
  ⟨0x1400048, 256, 0x1000, 1, 0x0, 0x0, [⟨0, 32, .rs⟩]⟩,
  ⟨0x140004C, 256, 0x1000, 1, 0x0, 0x0, [⟨0, 32, .ro⟩]⟩,
  ⟨0x1400050, 256, 0x1000, 1, 0x0, 0x0, [⟨16, 16, .ro⟩, ⟨0, 1, .ro⟩]⟩,
  ⟨0x1400054, 256, 0x1000, 1, 0x0, 0x0, [⟨0, 32, .ro⟩]⟩,
  ⟨0x1400058, 256, 0x1000, 1, 0x0, 0x0, [⟨0, 32, .ro⟩]⟩,
  ⟨0x140005C, 256, 0x1000, 1, 0x0, 0x0, [⟨0, 32, .ro⟩]⟩,
  ⟨0x1400400, 256, 0x1000, 64, 0x18, 0x0, [⟨0, 24, .rw⟩]⟩,
  ⟨0x1400404, 256, 0x1000, 64, 0x18, 0x0, [⟨0, 24, .rw⟩]⟩]
def regRowsPIN1 : List RegRow := [
  ⟨0x1400408, 256, 0x1000, 64, 0x18, 0x0, [⟨0, 24, .rw⟩]⟩,
  ⟨0x140040C, 256, 0x1000, 64, 0x18, 0x0, [⟨0, 24, .rw⟩]⟩,
  ⟨0x1400410, 256, 0x1000, 64, 0x18, 0x0, [⟨0, 24, .rw⟩]⟩,
  ⟨0x1400414, 256, 0x1000, 64, 0x18, 0x0, [⟨0, 24, .rw⟩]⟩,
  ⟨0x1400A00, 256, 0x1000, 64, 0x4, 0x0, [⟨4, 1, .rw⟩, ⟨0, 4, .rw⟩]⟩]
/-- The rows of block PIN. -/
def regRowsPIN : List RegRow := regRowsPIN0 ++ regRowsPIN1

def regRowsSEQ0 : List RegRow := [
  ⟨0x110F000, 1, 0x0, 1, 0x0, 0x1000, [⟨8, 8, .rw⟩, ⟨2, 1, .sc⟩, ⟨1, 1, .sc⟩, ⟨0, 1, .sc⟩]⟩,
  ⟨0x110F004, 1, 0x0, 1, 0x0, 0x0, [⟨1, 1, .ro⟩, ⟨0, 1, .ro⟩]⟩,
  ⟨0x110F008, 1, 0x0, 1, 0x0, 0x0, [⟨3, 1, .w1c⟩, ⟨2, 1, .w1c⟩, ⟨1, 1, .w1c⟩, ⟨0, 1, .w1c⟩]⟩,
  ⟨0x110F00C, 1, 0x0, 1, 0x0, 0x3C00, [⟨0, 14, .rw⟩]⟩,
  ⟨0x110F010, 1, 0x0, 1, 0x0, 0x400, [⟨0, 11, .rw⟩]⟩,
  ⟨0x110F014, 1, 0x0, 1, 0x0, 0x0, [⟨0, 32, .ro⟩]⟩,
  ⟨0x110F018, 1, 0x0, 1, 0x0, 0x0, [⟨0, 32, .rs⟩]⟩,
  ⟨0x110F01C, 1, 0x0, 1, 0x0, 0x0, [⟨0, 16, .ro⟩]⟩,
  ⟨0x110F020, 1, 0x0, 1, 0x0, 0x0, [⟨0, 32, .rs⟩]⟩,
  ⟨0x110F024, 1, 0x0, 1, 0x0, 0x0, [⟨0, 16, .ro⟩]⟩,
  ⟨0x110F028, 1, 0x0, 1, 0x0, 0x0, [⟨0, 32, .ro⟩]⟩,
  ⟨0x1100000, 1, 0x0, 1, 0x0, 0x0, [⟨12, 1, .rw⟩, ⟨11, 1, .sc⟩, ⟨10, 1, .sc⟩, ⟨9, 1, .sc⟩, ⟨8, 1, .sc⟩, ⟨7, 1, .sc⟩, ⟨6, 1, .sc⟩, ⟨5, 1, .sc⟩, ⟨4, 1, .rw⟩]⟩,
  ⟨0x1100004, 1, 0x0, 1, 0x0, 0x0, [⟨10, 2, .ro⟩, ⟨9, 1, .ro⟩, ⟨8, 1, .ro⟩, ⟨7, 1, .ro⟩, ⟨6, 1, .ro⟩, ⟨5, 1, .ro⟩, ⟨0, 3, .ro⟩]⟩,
  ⟨0x1100008, 1, 0x0, 1, 0x0, 0x0, [⟨10, 1, .w1c⟩, ⟨9, 1, .w1c⟩, ⟨8, 1, .w1c⟩, ⟨7, 1, .w1c⟩, ⟨6, 1, .w1c⟩, ⟨5, 1, .w1c⟩, ⟨4, 1, .w1c⟩, ⟨3, 1, .w1c⟩, ⟨2, 1, .w1c⟩, ⟨1, 1, .w1c⟩, ⟨0, 1, .w1c⟩]⟩,
  ⟨0x110000C, 1, 0x0, 1, 0x0, 0x0, [⟨0, 8, .ro⟩]⟩,
  ⟨0x1100010, 1, 0x0, 1, 0x0, 0x0, [⟨0, 32, .rw⟩]⟩,
  ⟨0x1100014, 1, 0x0, 1, 0x0, 0x0, [⟨0, 8, .rw⟩]⟩,
  ⟨0x1100018, 1, 0x0, 1, 0x0, 0x0, [⟨0, 32, .rw⟩]⟩,
  ⟨0x110001C, 1, 0x0, 1, 0x0, 0x0, [⟨0, 8, .rw⟩]⟩,
  ⟨0x1100020, 1, 0x0, 1, 0x0, 0x0, [⟨0, 32, .rs⟩]⟩,
  ⟨0x1100024, 1, 0x0, 1, 0x0, 0x0, [⟨0, 32, .ro⟩]⟩,
  ⟨0x1100028, 1, 0x0, 1, 0x0, 0x0, [⟨0, 32, .rs⟩]⟩,
  ⟨0x110002C, 1, 0x0, 1, 0x0, 0x0, [⟨0, 32, .ro⟩]⟩,
  ⟨0x1100030, 1, 0x0, 1, 0x0, 0x0, [⟨0, 8, .ro⟩]⟩]
def regRowsSEQ1 : List RegRow := [
  ⟨0x1100034, 1, 0x0, 1, 0x0, 0x0, [⟨16, 5, .ro⟩, ⟨8, 5, .ro⟩, ⟨0, 4, .ro⟩]⟩,
  ⟨0x1100038, 1, 0x0, 1, 0x0, 0x0, [⟨0, 11, .rw⟩]⟩,
  ⟨0x110003C, 1, 0x0, 1, 0x0, 0x6AA, [⟨0, 11, .rw⟩]⟩,
  ⟨0x1100040, 1, 0x0, 1, 0x0, 0x0, [⟨0, 32, .ro⟩]⟩,
  ⟨0x1100044, 1, 0x0, 1, 0x0, 0x0, [⟨0, 32, .ro⟩]⟩,
  ⟨0x1100048, 1, 0x0, 1, 0x0, 0x0, [⟨0, 32, .ro⟩]⟩,
  ⟨0x110004C, 1, 0x0, 1, 0x0, 0x0, [⟨0, 32, .rs⟩]⟩,
  ⟨0x1100050, 1, 0x0, 1, 0x0, 0x0, [⟨0, 32, .ro⟩]⟩,
  ⟨0x1100054, 1, 0x0, 1, 0x0, 0x0, [⟨16, 16, .ro⟩, ⟨0, 1, .ro⟩]⟩,
  ⟨0x1100058, 1, 0x0, 1, 0x0, 0x0, [⟨0, 32, .ro⟩]⟩,
  ⟨0x1100060, 1, 0x0, 1, 0x0, 0x0, [⟨0, 11, .rw⟩]⟩,
  ⟨0x1100064, 1, 0x0, 1, 0x0, 0x0, [⟨31, 1, .ro⟩, ⟨0, 24, .ro⟩]⟩,
  ⟨0x1100068, 1, 0x0, 1, 0x0, 0x0, [⟨0, 17, .ro⟩]⟩,
  ⟨0x1100100, 16, 0x10, 1, 0x0, 0x0, [⟨0, 32, .ro⟩]⟩,
  ⟨0x1100104, 16, 0x10, 1, 0x0, 0x0, [⟨0, 32, .ro⟩]⟩,
  ⟨0x1100108, 16, 0x10, 1, 0x0, 0x0, [⟨0, 32, .ro⟩]⟩,
  ⟨0x110010C, 16, 0x10, 1, 0x0, 0x0, [⟨0, 32, .ro⟩]⟩,
  ⟨0x1100200, 16, 0x8, 1, 0x0, 0x0, [⟨0, 32, .ro⟩]⟩,
  ⟨0x1100204, 16, 0x8, 1, 0x0, 0x0, [⟨0, 32, .ro⟩]⟩,
  ⟨0x1100300, 32, 0x4, 1, 0x0, 0x0, [⟨0, 32, .ro⟩]⟩,
  ⟨0x1100400, 64, 0x4, 1, 0x0, 0xFF, [⟨0, 24, .rw⟩]⟩,
  ⟨0x1100504, 15, 0x4, 1, 0x0, 0x0, [⟨0, 32, .rw⟩]⟩]
/-- The rows of block SEQ. -/
def regRowsSEQ : List RegRow := regRowsSEQ0 ++ regRowsSEQ1

def regRowsUSTORE0 : List RegRow := [
  ⟨0x1200000, 49152, 0x4, 1, 0x0, 0x0, [⟨0, 32, .ro⟩]⟩,
  ⟨0x1230000, 16384, 0x4, 1, 0x0, 0x0, [⟨0, 32, .pl⟩]⟩,
  ⟨0x1300000, 1, 0x0, 1, 0x0, 0x0, [⟨0, 1, .sc⟩]⟩,
  ⟨0x1300004, 1, 0x0, 1, 0x0, 0x0, [⟨2, 1, .ro⟩, ⟨1, 1, .ro⟩, ⟨0, 1, .ro⟩]⟩,
  ⟨0x1300008, 1, 0x0, 1, 0x0, 0x0, [⟨3, 1, .w1c⟩, ⟨2, 1, .w1c⟩, ⟨1, 1, .w1c⟩, ⟨0, 1, .w1c⟩]⟩,
  ⟨0x130000C, 1, 0x0, 1, 0x0, 0x7D0, [⟨0, 12, .rw⟩]⟩,
  ⟨0x1300010, 1, 0x0, 1, 0x0, 0x0, [⟨0, 32, .ro⟩]⟩,
  ⟨0x1300014, 1, 0x0, 1, 0x0, 0x0, [⟨24, 8, .ro⟩, ⟨0, 16, .ro⟩]⟩,
  ⟨0x1300018, 1, 0x0, 1, 0x0, 0x0, [⟨0, 32, .ro⟩]⟩,
  ⟨0x130001C, 1, 0x0, 1, 0x0, 0x0, [⟨0, 32, .ro⟩]⟩,
  ⟨0x1300020, 8, 0x4, 1, 0x0, 0x0, [⟨0, 32, .ro⟩]⟩]
/-- The rows of block USTORE. -/
def regRowsUSTORE : List RegRow := regRowsUSTORE0

def regRowsGEN0 : List RegRow := [
  ⟨0x1A00000, 48, 0x1000, 1, 0x0, 0x0, [⟨8, 1, .sc⟩, ⟨7, 1, .sc⟩, ⟨6, 1, .sc⟩, ⟨5, 1, .sc⟩, ⟨4, 1, .rw⟩, ⟨2, 2, .rw⟩, ⟨0, 1, .rw⟩]⟩,
  ⟨0x1A00004, 48, 0x1000, 1, 0x0, 0x0, [⟨12, 4, .ro⟩, ⟨8, 1, .ro⟩, ⟨7, 1, .ro⟩, ⟨6, 1, .ro⟩, ⟨5, 1, .ro⟩, ⟨4, 1, .ro⟩, ⟨0, 3, .ro⟩]⟩,
  ⟨0x1A00008, 48, 0x1000, 1, 0x0, 0x0, [⟨10, 1, .w1c⟩, ⟨9, 1, .w1c⟩, ⟨8, 1, .w1c⟩, ⟨7, 1, .w1c⟩, ⟨6, 1, .w1c⟩, ⟨5, 1, .w1c⟩, ⟨4, 1, .w1c⟩, ⟨3, 1, .w1c⟩, ⟨2, 1, .w1c⟩, ⟨1, 1, .w1c⟩, ⟨0, 1, .w1c⟩]⟩,
  ⟨0x1A0000C, 48, 0x1000, 1, 0x0, 0x0, [⟨16, 6, .rw⟩, ⟨0, 3, .rw⟩]⟩,
  ⟨0x1A00010, 48, 0x1000, 1, 0x0, 0x2000, [⟨16, 13, .rw⟩, ⟨0, 14, .rw⟩]⟩,
  ⟨0x1A00014, 48, 0x1000, 1, 0x0, 0x0, [⟨0, 20, .rw⟩]⟩,
  ⟨0x1A00018, 48, 0x1000, 1, 0x0, 0x0, [⟨0, 32, .ro⟩]⟩,
  ⟨0x1A0001C, 48, 0x1000, 1, 0x0, 0x0, [⟨0, 32, .ro⟩]⟩,
  ⟨0x1A00020, 48, 0x1000, 1, 0x0, 0x0, [⟨0, 13, .ro⟩]⟩,
  ⟨0x1A00024, 48, 0x1000, 1, 0x0, 0x0, [⟨0, 32, .ro⟩]⟩,
  ⟨0x1A00028, 48, 0x1000, 1, 0x0, 0x0, [⟨0, 32, .ro⟩]⟩,
  ⟨0x1A0002C, 48, 0x1000, 1, 0x0, 0x0, [⟨0, 32, .ro⟩]⟩,
  ⟨0x1A00030, 48, 0x1000, 1, 0x0, 0x0, [⟨0, 32, .rs⟩]⟩,
  ⟨0x1A00034, 48, 0x1000, 1, 0x0, 0x0, [⟨0, 32, .ro⟩]⟩,
  ⟨0x1A00038, 48, 0x1000, 1, 0x0, 0x0, [⟨16, 16, .ro⟩, ⟨0, 1, .ro⟩]⟩,
  ⟨0x1A00040, 48, 0x1000, 1, 0x0, 0x0, [⟨0, 13, .rw⟩]⟩,
  ⟨0x1A00060, 48, 0x1000, 8, 0x4, 0x0, [⟨0, 32, .ro⟩]⟩,
  ⟨0x1A30000, 1, 0x0, 1, 0x0, 0x0, [⟨1, 1, .sc⟩, ⟨0, 1, .sc⟩]⟩,
  ⟨0x1A30008, 1, 0x0, 1, 0x0, 0x0, [⟨0, 32, .rw⟩]⟩,
  ⟨0x1A3000C, 1, 0x0, 1, 0x0, 0x0, [⟨0, 16, .rw⟩]⟩,
  ⟨0x1A30010, 1, 0x0, 1, 0x0, 0x0, [⟨0, 32, .rw⟩]⟩,
  ⟨0x1A30014, 1, 0x0, 1, 0x0, 0x0, [⟨0, 32, .rw⟩]⟩]
/-- The rows of block GEN. -/
def regRowsGEN : List RegRow := regRowsGEN0

def regRowsLANE0 : List RegRow := [
  ⟨0x1800000, 48, 0x4000, 1, 0x0, 0x0, [⟨2, 1, .sc⟩, ⟨1, 1, .sc⟩, ⟨0, 1, .sc⟩]⟩,
  ⟨0x1800004, 48, 0x4000, 1, 0x0, 0x0, [⟨28, 4, .ro⟩, ⟨8, 1, .ro⟩, ⟨7, 1, .ro⟩, ⟨6, 1, .ro⟩, ⟨5, 1, .ro⟩, ⟨4, 1, .ro⟩, ⟨3, 1, .ro⟩, ⟨2, 1, .ro⟩, ⟨0, 1, .ro⟩]⟩,
  ⟨0x1800008, 48, 0x4000, 1, 0x0, 0x0, [⟨6, 1, .w1c⟩, ⟨5, 1, .w1c⟩, ⟨4, 1, .w1c⟩, ⟨3, 1, .w1c⟩, ⟨2, 1, .w1c⟩, ⟨1, 1, .w1c⟩, ⟨0, 1, .w1c⟩]⟩,
  ⟨0x180000C, 48, 0x4000, 1, 0x0, 0x4, [⟨8, 4, .rw⟩, ⟨4, 2, .rw⟩, ⟨0, 3, .rw⟩]⟩,
  ⟨0x1800010, 48, 0x4000, 1, 0x0, 0x101, [⟨31, 1, .rw⟩, ⟨30, 1, .rw⟩, ⟨29, 1, .rw⟩, ⟨16, 7, .rw⟩, ⟨8, 8, .rw⟩, ⟨4, 3, .rw⟩, ⟨0, 4, .rw⟩]⟩,
  ⟨0x1800014, 48, 0x4000, 1, 0x0, 0x0, [⟨3, 1, .rw⟩, ⟨2, 1, .rw⟩, ⟨0, 2, .rw⟩]⟩,
  ⟨0x1800018, 48, 0x4000, 1, 0x0, 0x100064, [⟨16, 5, .rw⟩, ⟨0, 16, .rw⟩]⟩,
  ⟨0x180001C, 48, 0x4000, 1, 0x0, 0x4, [⟨8, 4, .ro⟩, ⟨4, 2, .ro⟩, ⟨0, 3, .ro⟩]⟩,
  ⟨0x1800020, 48, 0x4000, 1, 0x0, 0x101, [⟨31, 1, .ro⟩, ⟨30, 1, .ro⟩, ⟨29, 1, .ro⟩, ⟨16, 7, .ro⟩, ⟨8, 8, .ro⟩, ⟨4, 3, .ro⟩, ⟨0, 4, .ro⟩]⟩,
  ⟨0x1800024, 48, 0x4000, 1, 0x0, 0x0, [⟨0, 16, .ro⟩]⟩,
  ⟨0x1800028, 48, 0x4000, 1, 0x0, 0x0, [⟨16, 16, .ro⟩, ⟨0, 16, .ro⟩]⟩,
  ⟨0x180002C, 48, 0x4000, 1, 0x0, 0x0, [⟨0, 32, .ro⟩]⟩,
  ⟨0x1800030, 48, 0x4000, 1, 0x0, 0x0, [⟨0, 32, .ro⟩]⟩,
  ⟨0x1800034, 48, 0x4000, 1, 0x0, 0x0, [⟨0, 32, .ro⟩]⟩,
  ⟨0x1800038, 48, 0x4000, 1, 0x0, 0x0, [⟨0, 32, .ro⟩]⟩,
  ⟨0x1800040, 48, 0x4000, 1, 0x0, 0x0, [⟨0, 32, .rs⟩]⟩,
  ⟨0x1800044, 48, 0x4000, 1, 0x0, 0x0, [⟨0, 32, .ro⟩]⟩,
  ⟨0x1800100, 48, 0x4000, 4, 0x10, 0x0, [⟨0, 16, .ro⟩]⟩,
  ⟨0x1800104, 48, 0x4000, 4, 0x10, 0x400000, [⟨0, 24, .ro⟩]⟩,
  ⟨0x1800108, 48, 0x4000, 4, 0x10, 0x0, [⟨0, 16, .ro⟩]⟩,
  ⟨0x1801000, 48, 0x4000, 128, 0x4, 0x0, [⟨0, 18, .rw⟩]⟩,
  ⟨0x1801400, 48, 0x4000, 128, 0x4, 0x0, [⟨0, 18, .ro⟩]⟩]
/-- The rows of block LANE. -/
def regRowsLANE : List RegRow := regRowsLANE0

def regRowsACQ0 : List RegRow := [
  ⟨0x1B00000, 1, 0x0, 1, 0x0, 0x0, [⟨0, 1, .sc⟩]⟩,
  ⟨0x1B00004, 1, 0x0, 1, 0x0, 0x0, [⟨28, 4, .ro⟩, ⟨0, 16, .ro⟩]⟩,
  ⟨0x1B00008, 1, 0x0, 1, 0x0, 0x0, [⟨7, 1, .w1c⟩, ⟨6, 1, .w1c⟩, ⟨5, 1, .w1c⟩, ⟨4, 1, .w1c⟩, ⟨3, 1, .w1c⟩, ⟨2, 1, .w1c⟩, ⟨1, 1, .w1c⟩, ⟨0, 1, .w1c⟩]⟩,
  ⟨0x1B01000, 48, 0x20, 1, 0x0, 0x800000, [⟨31, 1, .rw⟩, ⟨26, 2, .rw⟩, ⟨23, 3, .rw⟩, ⟨21, 2, .rw⟩, ⟨19, 2, .rw⟩, ⟨0, 16, .rw⟩]⟩,
  ⟨0x1B01004, 48, 0x20, 1, 0x0, 0x0, [⟨16, 16, .rw⟩, ⟨0, 16, .rw⟩]⟩,
  ⟨0x1B01008, 48, 0x20, 1, 0x0, 0x0, [⟨0, 32, .rw⟩]⟩,
  ⟨0x1B0100C, 48, 0x20, 1, 0x0, 0x0, [⟨0, 32, .rw⟩]⟩,
  ⟨0x1B01010, 48, 0x20, 1, 0x0, 0x0, [⟨0, 32, .ro⟩]⟩,
  ⟨0x1B01800, 16, 0x4, 1, 0x0, 0x0, [⟨31, 1, .rw⟩, ⟨8, 3, .rw⟩, ⟨0, 8, .rw⟩]⟩,
  ⟨0x1B02000, 16, 0x40, 1, 0x0, 0x1, [⟨31, 1, .rw⟩, ⟨30, 1, .rw⟩, ⟨29, 1, .rw⟩, ⟨28, 1, .rw⟩, ⟨27, 1, .sc⟩, ⟨26, 1, .sc⟩, ⟨24, 2, .rw⟩, ⟨0, 16, .rw⟩]⟩,
  ⟨0x1B02004, 16, 0x40, 1, 0x0, 0xFFFFFFFF, [⟨0, 32, .rw⟩]⟩,
  ⟨0x1B02008, 16, 0x40, 1, 0x0, 0x0, [⟨12, 3, .rw⟩, ⟨8, 3, .rw⟩, ⟨4, 3, .rw⟩, ⟨0, 3, .rw⟩]⟩,
  ⟨0x1B0200C, 16, 0x40, 1, 0x0, 0x0, [⟨0, 32, .rw⟩]⟩,
  ⟨0x1B02010, 16, 0x40, 1, 0x0, 0x0, [⟨0, 32, .rw⟩]⟩,
  ⟨0x1B02014, 16, 0x40, 1, 0x0, 0x0, [⟨0, 32, .ro⟩]⟩,
  ⟨0x1B02018, 16, 0x40, 1, 0x0, 0x0, [⟨0, 32, .ro⟩]⟩,
  ⟨0x1B0201C, 16, 0x40, 1, 0x0, 0x0, [⟨0, 32, .ro⟩]⟩,
  ⟨0x1B02020, 16, 0x40, 1, 0x0, 0x0, [⟨0, 32, .rs⟩]⟩,
  ⟨0x1B02024, 16, 0x40, 1, 0x0, 0x0, [⟨0, 32, .ro⟩]⟩,
  ⟨0x1B02028, 16, 0x40, 1, 0x0, 0x0, [⟨16, 16, .ro⟩, ⟨0, 1, .ro⟩]⟩,
  ⟨0x1B03000, 4, 0x40, 1, 0x0, 0x1, [⟨31, 1, .rw⟩, ⟨30, 1, .rw⟩, ⟨29, 1, .rw⟩, ⟨28, 1, .sc⟩, ⟨16, 4, .rw⟩, ⟨0, 16, .rw⟩]⟩,
  ⟨0x1B03004, 4, 0x40, 1, 0x0, 0x0, [⟨28, 4, .ro⟩, ⟨4, 1, .ro⟩, ⟨3, 1, .ro⟩, ⟨0, 3, .ro⟩]⟩,
  ⟨0x1B03008, 4, 0x40, 1, 0x0, 0x0, [⟨0, 32, .rw⟩]⟩,
  ⟨0x1B0300C, 4, 0x40, 1, 0x0, 0x0, [⟨0, 32, .rw⟩]⟩]
def regRowsACQ1 : List RegRow := [
  ⟨0x1B03010, 4, 0x40, 1, 0x0, 0x0, [⟨0, 25, .rw⟩]⟩,
  ⟨0x1B03014, 4, 0x40, 1, 0x0, 0x0, [⟨0, 25, .rw⟩]⟩,
  ⟨0x1B03018, 4, 0x40, 1, 0x0, 0x0, [⟨0, 19, .rw⟩]⟩,
  ⟨0x1B0301C, 4, 0x40, 1, 0x0, 0x0, [⟨0, 19, .rw⟩]⟩,
  ⟨0x1B03020, 4, 0x40, 1, 0x0, 0x0, [⟨0, 32, .ro⟩]⟩,
  ⟨0x1B03024, 4, 0x40, 1, 0x0, 0x0, [⟨0, 32, .ro⟩]⟩,
  ⟨0x1B03028, 4, 0x40, 1, 0x0, 0x0, [⟨0, 32, .ro⟩]⟩,
  ⟨0x1B04000, 48, 0x20, 1, 0x0, 0x1, [⟨30, 2, .rw⟩, ⟨28, 2, .rw⟩, ⟨26, 2, .rw⟩, ⟨25, 1, .sc⟩, ⟨24, 1, .sc⟩, ⟨16, 8, .rw⟩, ⟨0, 16, .rw⟩]⟩,
  ⟨0x1B04004, 48, 0x20, 1, 0x0, 0x1, [⟨30, 2, .ro⟩, ⟨28, 2, .ro⟩, ⟨26, 2, .ro⟩, ⟨16, 8, .ro⟩, ⟨0, 16, .ro⟩]⟩,
  ⟨0x1B04008, 48, 0x20, 1, 0x0, 0x0, [⟨28, 4, .ro⟩, ⟨1, 1, .ro⟩, ⟨0, 1, .ro⟩]⟩,
  ⟨0x1B0400C, 48, 0x20, 1, 0x0, 0x0, [⟨0, 16, .rw⟩]⟩,
  ⟨0x1B04010, 48, 0x20, 1, 0x0, 0x0, [⟨16, 16, .rw⟩, ⟨0, 16, .rw⟩]⟩,
  ⟨0x1B04014, 48, 0x20, 1, 0x0, 0x40, [⟨0, 16, .rw⟩]⟩,
  ⟨0x1B04018, 48, 0x20, 1, 0x0, 0x0, [⟨0, 32, .ro⟩]⟩]
/-- The rows of block ACQ. -/
def regRowsACQ : List RegRow := regRowsACQ0 ++ regRowsACQ1

def regRowsTLY0 : List RegRow := [
  ⟨0x1C00000, 1, 0x0, 1, 0x0, 0x0, [⟨0, 1, .sc⟩]⟩,
  ⟨0x1C00004, 1, 0x0, 1, 0x0, 0x0, [⟨28, 4, .ro⟩]⟩,
  ⟨0x1C00008, 1, 0x0, 1, 0x0, 0x0, [⟨3, 1, .w1c⟩, ⟨2, 1, .w1c⟩, ⟨1, 1, .w1c⟩, ⟨0, 1, .w1c⟩]⟩,
  ⟨0x1C01000, 48, 0x40, 1, 0x0, 0x48000, [⟨31, 1, .rw⟩, ⟨29, 2, .rw⟩, ⟨28, 1, .rw⟩, ⟨27, 1, .sc⟩, ⟨16, 4, .rw⟩, ⟨0, 16, .rw⟩]⟩,
  ⟨0x1C01004, 48, 0x40, 1, 0x0, 0x0, [⟨0, 16, .rw⟩]⟩,
  ⟨0x1C01008, 48, 0x40, 1, 0x0, 0x0, [⟨0, 13, .rw⟩]⟩,
  ⟨0x1C0100C, 48, 0x40, 1, 0x0, 0x0, [⟨0, 32, .rs⟩]⟩,
  ⟨0x1C01010, 48, 0x40, 1, 0x0, 0x0, [⟨0, 16, .ro⟩]⟩,
  ⟨0x1C01014, 48, 0x40, 1, 0x0, 0x0, [⟨0, 32, .ro⟩]⟩,
  ⟨0x1C01018, 48, 0x40, 1, 0x0, 0x0, [⟨0, 32, .rs⟩]⟩,
  ⟨0x1C0101C, 48, 0x40, 1, 0x0, 0x0, [⟨0, 32, .ro⟩]⟩,
  ⟨0x1C01020, 48, 0x40, 1, 0x0, 0x0, [⟨0, 32, .ro⟩]⟩,
  ⟨0x1C04000, 8, 0x40, 1, 0x0, 0x1007, [⟨31, 1, .rw⟩, ⟨29, 2, .rw⟩, ⟨28, 1, .rw⟩, ⟨27, 1, .sc⟩, ⟨16, 6, .rw⟩, ⟨8, 5, .rw⟩, ⟨0, 3, .rw⟩]⟩,
  ⟨0x1C04004, 8, 0x40, 1, 0x0, 0x8000, [⟨0, 16, .rw⟩]⟩,
  ⟨0x1C04008, 8, 0x40, 1, 0x0, 0x0, [⟨0, 32, .rw⟩]⟩,
  ⟨0x1C0400C, 8, 0x40, 1, 0x0, 0xA0, [⟨0, 32, .rw⟩]⟩,
  ⟨0x1C04010, 8, 0x40, 1, 0x0, 0x0, [⟨0, 16, .rw⟩]⟩,
  ⟨0x1C04014, 8, 0x40, 1, 0x0, 0x0, [⟨16, 10, .rw⟩, ⟨0, 9, .rw⟩]⟩,
  ⟨0x1C04018, 8, 0x40, 1, 0x0, 0x0, [⟨0, 32, .ro⟩]⟩,
  ⟨0x1C0401C, 8, 0x40, 1, 0x0, 0x0, [⟨0, 32, .ro⟩]⟩,
  ⟨0x1C04020, 8, 0x40, 1, 0x0, 0x0, [⟨0, 32, .ro⟩]⟩,
  ⟨0x1C04024, 8, 0x40, 1, 0x0, 0x0, [⟨0, 32, .ro⟩]⟩,
  ⟨0x1C04028, 8, 0x40, 1, 0x0, 0x0, [⟨0, 32, .ro⟩]⟩]
/-- The rows of block TLY. -/
def regRowsTLY : List RegRow := regRowsTLY0

def regRowsCMP0 : List RegRow := [
  ⟨0x1D00000, 1, 0x0, 1, 0x0, 0x2000, [⟨8, 8, .rw⟩, ⟨0, 1, .sc⟩]⟩,
  ⟨0x1D00004, 1, 0x0, 1, 0x0, 0x0, [⟨28, 4, .ro⟩, ⟨0, 8, .ro⟩]⟩,
  ⟨0x1D00008, 1, 0x0, 1, 0x0, 0x0, [⟨6, 1, .w1c⟩, ⟨5, 1, .w1c⟩, ⟨4, 1, .w1c⟩, ⟨3, 1, .w1c⟩, ⟨2, 1, .w1c⟩, ⟨1, 1, .w1c⟩, ⟨0, 1, .w1c⟩]⟩,
  ⟨0x1D00010, 1, 0x0, 1, 0x0, 0x0, [⟨0, 32, .rw⟩]⟩,
  ⟨0x1D00014, 1, 0x0, 1, 0x0, 0x0, [⟨0, 32, .rw⟩]⟩,
  ⟨0x1D00018, 1, 0x0, 1, 0x0, 0x0, [⟨0, 32, .rw⟩]⟩,
  ⟨0x1D0001C, 1, 0x0, 1, 0x0, 0x0, [⟨0, 32, .rw⟩]⟩,
  ⟨0x1D00020, 1, 0x0, 1, 0x0, 0x0, [⟨0, 32, .rw⟩]⟩,
  ⟨0x1D00024, 1, 0x0, 1, 0x0, 0x0, [⟨0, 16, .rw⟩, ⟨16, 1, .rw⟩]⟩,
  ⟨0x1D00028, 1, 0x0, 1, 0x0, 0x0, [⟨0, 32, .ro⟩]⟩,
  ⟨0x1D0002C, 1, 0x0, 1, 0x0, 0x0, [⟨0, 32, .ro⟩]⟩,
  ⟨0x1D00030, 1, 0x0, 1, 0x0, 0x0, [⟨0, 32, .rs⟩]⟩,
  ⟨0x1D00034, 1, 0x0, 1, 0x0, 0x0, [⟨0, 32, .ro⟩]⟩,
  ⟨0x1D01000, 128, 0x80, 1, 0x0, 0x0, [⟨2, 1, .sc⟩, ⟨1, 1, .sc⟩, ⟨0, 1, .rw⟩]⟩,
  ⟨0x1D01004, 128, 0x80, 1, 0x0, 0x0, [⟨28, 4, .ro⟩, ⟨4, 1, .ro⟩, ⟨3, 1, .ro⟩, ⟨0, 3, .ro⟩]⟩,
  ⟨0x1D01008, 128, 0x80, 1, 0x0, 0x10003, [⟨30, 2, .rw⟩, ⟨28, 2, .rw⟩, ⟨27, 1, .rw⟩, ⟨26, 1, .rw⟩, ⟨25, 1, .rw⟩, ⟨20, 4, .rw⟩, ⟨16, 4, .rw⟩, ⟨8, 7, .rw⟩, ⟨0, 3, .rw⟩]⟩,
  ⟨0x1D0100C, 128, 0x80, 1, 0x0, 0x0, [⟨30, 2, .rw⟩, ⟨28, 2, .rw⟩, ⟨0, 8, .rw⟩]⟩,
  ⟨0x1D01010, 128, 0x80, 1, 0x0, 0x0, [⟨30, 2, .rw⟩, ⟨28, 2, .rw⟩, ⟨0, 8, .rw⟩]⟩,
  ⟨0x1D01014, 128, 0x80, 1, 0x0, 0x0, [⟨16, 16, .rw⟩, ⟨0, 16, .rw⟩]⟩,
  ⟨0x1D01018, 128, 0x80, 1, 0x0, 0x0, [⟨16, 16, .rw⟩, ⟨0, 16, .rw⟩]⟩,
  ⟨0x1D0101C, 128, 0x80, 1, 0x0, 0x0, [⟨0, 32, .rw⟩]⟩,
  ⟨0x1D01020, 128, 0x80, 1, 0x0, 0x0, [⟨0, 32, .ro⟩]⟩,
  ⟨0x1D01024, 128, 0x80, 1, 0x0, 0x0, [⟨0, 32, .rw⟩]⟩,
  ⟨0x1D01028, 128, 0x80, 1, 0x0, 0x0, [⟨0, 32, .rw⟩]⟩]
def regRowsCMP1 : List RegRow := [
  ⟨0x1D0102C, 128, 0x80, 1, 0x0, 0xA00, [⟨0, 32, .rw⟩]⟩,
  ⟨0x1D01030, 128, 0x80, 1, 0x0, 0x0, [⟨0, 32, .rw⟩]⟩,
  ⟨0x1D01034, 128, 0x80, 1, 0x0, 0x0, [⟨0, 16, .rw⟩]⟩,
  ⟨0x1D01038, 128, 0x80, 1, 0x0, 0x645F00, [⟨16, 16, .rw⟩, ⟨8, 8, .rw⟩]⟩,
  ⟨0x1D0103C, 128, 0x80, 1, 0x0, 0x186A0, [⟨0, 32, .rw⟩]⟩,
  ⟨0x1D01040, 128, 0x80, 1, 0x0, 0x0, [⟨0, 32, .rw⟩]⟩,
  ⟨0x1D01044, 128, 0x80, 1, 0x0, 0x0, [⟨16, 16, .ro⟩, ⟨0, 16, .ro⟩]⟩,
  ⟨0x1D01048, 128, 0x80, 1, 0x0, 0x0, [⟨0, 32, .rw⟩]⟩,
  ⟨0x1D0104C, 128, 0x80, 1, 0x0, 0x0, [⟨0, 8, .rw⟩]⟩,
  ⟨0x1D01050, 128, 0x80, 1, 0x0, 0x0, [⟨0, 32, .ro⟩]⟩,
  ⟨0x1D01054, 128, 0x80, 1, 0x0, 0x0, [⟨0, 32, .rs⟩]⟩,
  ⟨0x1D01058, 128, 0x80, 1, 0x0, 0x0, [⟨0, 32, .ro⟩]⟩,
  ⟨0x1D0105C, 128, 0x80, 1, 0x0, 0x0, [⟨0, 32, .ro⟩]⟩,
  ⟨0x1D01060, 128, 0x80, 1, 0x0, 0x0, [⟨0, 32, .ro⟩]⟩,
  ⟨0x1D01064, 128, 0x80, 1, 0x0, 0x0, [⟨0, 32, .ro⟩]⟩,
  ⟨0x1D01068, 128, 0x80, 1, 0x0, 0x0, [⟨0, 32, .rs⟩]⟩,
  ⟨0x1D0106C, 128, 0x80, 1, 0x0, 0x0, [⟨0, 32, .ro⟩]⟩,
  ⟨0x1D01070, 128, 0x80, 1, 0x0, 0x0, [⟨16, 16, .ro⟩, ⟨0, 1, .ro⟩]⟩,
  ⟨0x1D01074, 128, 0x80, 1, 0x0, 0x0, [⟨0, 32, .ro⟩]⟩]
/-- The rows of block CMP. -/
def regRowsCMP : List RegRow := regRowsCMP0 ++ regRowsCMP1

def regRowsGRD0 : List RegRow := [
  ⟨0x1E00000, 1, 0x0, 1, 0x0, 0x0, [⟨0, 1, .sc⟩]⟩,
  ⟨0x1E00004, 1, 0x0, 1, 0x0, 0x0, [⟨8, 7, .ro⟩, ⟨0, 7, .ro⟩]⟩,
  ⟨0x1E00008, 1, 0x0, 1, 0x0, 0x0, [⟨4, 1, .w1c⟩, ⟨3, 1, .w1c⟩, ⟨2, 1, .w1c⟩, ⟨1, 1, .w1c⟩, ⟨0, 1, .w1c⟩]⟩,
  ⟨0x1E0000C, 1, 0x0, 1, 0x0, 0x0, [⟨2, 1, .rw⟩, ⟨1, 1, .ro⟩, ⟨0, 1, .rw⟩]⟩,
  ⟨0x1E00010, 1, 0x0, 1, 0x0, 0x0, [⟨0, 32, .rs⟩]⟩,
  ⟨0x1E00014, 1, 0x0, 1, 0x0, 0x0, [⟨0, 32, .ro⟩]⟩,
  ⟨0x1E01000, 64, 0x40, 1, 0x0, 0x1, [⟨1, 1, .rw⟩, ⟨0, 1, .rw⟩]⟩,
  ⟨0x1E01004, 64, 0x40, 1, 0x0, 0x0, [⟨12, 1, .ro⟩, ⟨11, 1, .ro⟩, ⟨10, 1, .ro⟩, ⟨8, 2, .ro⟩, ⟨4, 4, .ro⟩, ⟨1, 1, .ro⟩, ⟨0, 1, .ro⟩]⟩,
  ⟨0x1E01008, 64, 0x40, 1, 0x0, 0x0, [⟨6, 1, .w1c⟩, ⟨5, 1, .w1c⟩, ⟨4, 1, .w1c⟩, ⟨3, 1, .w1c⟩, ⟨2, 1, .w1c⟩, ⟨1, 1, .w1c⟩, ⟨0, 1, .w1c⟩]⟩,
  ⟨0x1E0100C, 64, 0x40, 1, 0x0, 0x101, [⟨31, 1, .pl⟩, ⟨8, 4, .pl⟩, ⟨0, 4, .pl⟩]⟩,
  ⟨0x1E01010, 64, 0x40, 1, 0x0, 0x0, [⟨0, 32, .pl⟩]⟩,
  ⟨0x1E01014, 64, 0x40, 1, 0x0, 0x0, [⟨0, 32, .pl⟩]⟩,
  ⟨0x1E01018, 64, 0x40, 1, 0x0, 0x0, [⟨0, 32, .pl⟩]⟩,
  ⟨0x1E0101C, 64, 0x40, 1, 0x0, 0x0, [⟨1, 1, .pl⟩, ⟨0, 1, .pl⟩]⟩,
  ⟨0x1E01020, 64, 0x40, 1, 0x0, 0x0, [⟨0, 32, .ro⟩]⟩,
  ⟨0x1E01024, 64, 0x40, 1, 0x0, 0x0, [⟨0, 32, .ro⟩]⟩,
  ⟨0x1E01028, 64, 0x40, 1, 0x0, 0x0, [⟨0, 32, .rs⟩]⟩,
  ⟨0x1E0102C, 64, 0x40, 1, 0x0, 0x0, [⟨0, 32, .ro⟩]⟩,
  ⟨0x1E01030, 64, 0x40, 1, 0x0, 0x0, [⟨16, 16, .ro⟩, ⟨0, 1, .ro⟩]⟩]
/-- The rows of block GRD. -/
def regRowsGRD : List RegRow := regRowsGRD0

def regRowsMET0 : List RegRow := [
  ⟨0x1E80000, 1, 0x0, 1, 0x0, 0x0, [⟨3, 1, .rw⟩, ⟨2, 1, .sc⟩, ⟨1, 1, .rw⟩, ⟨0, 1, .sc⟩]⟩,
  ⟨0x1E80004, 1, 0x0, 1, 0x0, 0x0, [⟨28, 4, .ro⟩, ⟨4, 3, .ro⟩, ⟨3, 1, .ro⟩, ⟨2, 1, .ro⟩, ⟨1, 1, .ro⟩, ⟨0, 1, .ro⟩]⟩,
  ⟨0x1E80008, 1, 0x0, 1, 0x0, 0x0, [⟨7, 1, .w1c⟩, ⟨6, 1, .w1c⟩, ⟨5, 1, .w1c⟩, ⟨4, 1, .w1c⟩, ⟨3, 1, .w1c⟩, ⟨2, 1, .w1c⟩, ⟨1, 1, .w1c⟩, ⟨0, 1, .w1c⟩]⟩,
  ⟨0x1E8000C, 1, 0x0, 1, 0x0, 0x61, [⟨0, 12, .rw⟩]⟩,
  ⟨0x1E80010, 1, 0x0, 1, 0x0, 0xA0011, [⟨16, 10, .rw⟩, ⟨8, 2, .rw⟩, ⟨4, 2, .rw⟩, ⟨0, 3, .rw⟩]⟩,
  ⟨0x1E80014, 1, 0x0, 1, 0x0, 0x0, [⟨16, 16, .ro⟩, ⟨1, 1, .ro⟩, ⟨0, 1, .rw⟩]⟩,
  ⟨0x1E80018, 1, 0x0, 1, 0x0, 0x0, [⟨31, 1, .ro⟩, ⟨30, 1, .ro⟩, ⟨0, 30, .ro⟩]⟩,
  ⟨0x1E8001C, 1, 0x0, 1, 0x0, 0x800, [⟨31, 1, .rw⟩, ⟨16, 6, .rw⟩, ⟨0, 12, .rw⟩]⟩,
  ⟨0x1E80020, 1, 0x0, 1, 0x0, 0x0, [⟨0, 32, .rs⟩]⟩,
  ⟨0x1E80024, 1, 0x0, 1, 0x0, 0x0, [⟨26, 1, .ro⟩, ⟨25, 1, .ro⟩, ⟨24, 1, .ro⟩, ⟨0, 24, .ro⟩]⟩,
  ⟨0x1E80028, 1, 0x0, 1, 0x0, 0x0, [⟨16, 16, .ro⟩, ⟨4, 12, .ro⟩, ⟨0, 1, .ro⟩]⟩,
  ⟨0x1E80030, 1, 0x0, 1, 0x0, 0x0, [⟨0, 32, .rs⟩]⟩,
  ⟨0x1E80034, 1, 0x0, 1, 0x0, 0x0, [⟨0, 32, .ro⟩]⟩,
  ⟨0x1E80038, 1, 0x0, 1, 0x0, 0x0, [⟨16, 16, .ro⟩, ⟨4, 12, .ro⟩, ⟨0, 1, .ro⟩]⟩,
  ⟨0x1E80040, 1, 0x0, 1, 0x0, 0x186A0, [⟨31, 1, .rw⟩, ⟨0, 23, .rw⟩]⟩,
  ⟨0x1E80044, 1, 0x0, 1, 0x0, 0x80000000, [⟨0, 32, .ro⟩]⟩,
  ⟨0x1E80080, 16, 0x4, 1, 0x0, 0x80000000, [⟨0, 32, .ro⟩]⟩,
  ⟨0x1E80100, 1, 0x0, 1, 0x0, 0x4, [⟨4, 1, .sc⟩, ⟨3, 1, .rw⟩, ⟨2, 1, .rw⟩, ⟨1, 1, .sc⟩, ⟨0, 1, .sc⟩]⟩,
  ⟨0x1E80104, 1, 0x0, 1, 0x0, 0x40100, [⟨28, 4, .ro⟩, ⟨16, 5, .ro⟩, ⟨8, 1, .ro⟩, ⟨7, 1, .ro⟩, ⟨2, 2, .ro⟩, ⟨0, 2, .ro⟩]⟩,
  ⟨0x1E80108, 1, 0x0, 1, 0x0, 0xD080A, [⟨16, 16, .rw⟩, ⟨8, 8, .rw⟩, ⟨0, 8, .rw⟩]⟩,
  ⟨0x1E8010C, 1, 0x0, 1, 0x0, 0x5DC, [⟨0, 16, .rw⟩]⟩,
  ⟨0x1E80110, 1, 0x0, 1, 0x0, 0x989680, [⟨0, 32, .rw⟩]⟩,
  ⟨0x1E80114, 1, 0x0, 1, 0x0, 0x0, [⟨0, 32, .ro⟩]⟩,
  ⟨0x1E80118, 1, 0x0, 1, 0x0, 0x0, [⟨0, 32, .ro⟩]⟩]
def regRowsMET1 : List RegRow := [
  ⟨0x1E8011C, 1, 0x0, 1, 0x0, 0x0, [⟨0, 32, .rs⟩]⟩,
  ⟨0x1E80120, 1, 0x0, 1, 0x0, 0x0, [⟨0, 32, .ro⟩]⟩,
  ⟨0x1E80124, 1, 0x0, 1, 0x0, 0x0, [⟨16, 16, .ro⟩, ⟨0, 1, .ro⟩]⟩,
  ⟨0x1E80128, 1, 0x0, 1, 0x0, 0x0, [⟨0, 32, .ro⟩]⟩,
  ⟨0x1E8012C, 1, 0x0, 1, 0x0, 0x0, [⟨0, 32, .ro⟩]⟩,
  ⟨0x1E80130, 1, 0x0, 1, 0x0, 0x0, [⟨0, 32, .ro⟩]⟩,
  ⟨0x1E80140, 1, 0x0, 1, 0x0, 0x0, [⟨0, 32, .ro⟩]⟩,
  ⟨0x1E80144, 1, 0x0, 1, 0x0, 0x80000000, [⟨0, 32, .ro⟩]⟩,
  ⟨0x1E80148, 1, 0x0, 1, 0x0, 0xFF, [⟨16, 16, .ro⟩, ⟨4, 4, .ro⟩, ⟨0, 4, .ro⟩]⟩,
  ⟨0x1E8014C, 1, 0x0, 1, 0x0, 0x0, [⟨8, 8, .ro⟩, ⟨0, 8, .ro⟩]⟩,
  ⟨0x1E80180, 8, 0x8, 1, 0x0, 0x0, [⟨0, 32, .ro⟩]⟩,
  ⟨0x1E80184, 8, 0x8, 1, 0x0, 0x0, [⟨0, 32, .ro⟩]⟩]
/-- The rows of block MET. -/
def regRowsMET : List RegRow := regRowsMET0 ++ regRowsMET1

def regRowsPOD0 : List RegRow := [
  ⟨0x1F00000, 1, 0x0, 1, 0x0, 0x0, [⟨0, 1, .sc⟩]⟩,
  ⟨0x1F00004, 1, 0x0, 1, 0x0, 0x0, [⟨16, 16, .ro⟩, ⟨0, 16, .ro⟩]⟩,
  ⟨0x1F00008, 1, 0x0, 1, 0x0, 0x0, [⟨1, 1, .w1c⟩, ⟨0, 1, .w1c⟩]⟩,
  ⟨0x1F0000C, 1, 0x0, 1, 0x0, 0x11940, [⟨0, 32, .pl⟩]⟩,
  ⟨0x1F00010, 1, 0x0, 1, 0x0, 0x0, [⟨0, 32, .ro⟩]⟩,
  ⟨0x1F01000, 16, 0x100, 1, 0x0, 0x2, [⟨8, 1, .sc⟩, ⟨7, 1, .sc⟩, ⟨6, 1, .rw⟩, ⟨5, 1, .rw⟩, ⟨0, 2, .rw⟩]⟩,
  ⟨0x1F01004, 16, 0x100, 1, 0x0, 0x0, [⟨28, 4, .ro⟩, ⟨26, 2, .ro⟩, ⟨24, 2, .ro⟩, ⟨11, 1, .ro⟩, ⟨10, 1, .ro⟩, ⟨9, 1, .ro⟩, ⟨8, 1, .ro⟩, ⟨7, 1, .ro⟩, ⟨6, 1, .ro⟩, ⟨5, 1, .ro⟩, ⟨0, 4, .ro⟩]⟩,
  ⟨0x1F01008, 16, 0x100, 1, 0x0, 0x0, [⟨9, 1, .w1c⟩, ⟨8, 1, .w1c⟩, ⟨7, 1, .w1c⟩, ⟨6, 1, .w1c⟩, ⟨5, 1, .w1c⟩, ⟨4, 1, .w1c⟩, ⟨3, 1, .w1c⟩, ⟨2, 1, .w1c⟩, ⟨1, 1, .w1c⟩, ⟨0, 1, .w1c⟩]⟩,
  ⟨0x1F0100C, 16, 0x100, 1, 0x0, 0x0, [⟨24, 2, .pl⟩, ⟨16, 5, .pl⟩, ⟨0, 16, .pl⟩]⟩,
  ⟨0x1F01010, 16, 0x100, 1, 0x0, 0x0, [⟨16, 16, .ro⟩, ⟨0, 16, .ro⟩]⟩,
  ⟨0x1F01014, 16, 0x100, 1, 0x0, 0x0, [⟨16, 16, .ro⟩, ⟨8, 1, .ro⟩, ⟨0, 5, .ro⟩]⟩,
  ⟨0x1F01018, 16, 0x100, 1, 0x0, 0x0, [⟨16, 16, .ro⟩, ⟨0, 16, .ro⟩]⟩,
  ⟨0x1F0101C, 16, 0x100, 1, 0x0, 0x0, [⟨16, 16, .ro⟩, ⟨0, 16, .ro⟩]⟩,
  ⟨0x1F01020, 16, 0x100, 4, 0x4, 0x0, [⟨0, 32, .ro⟩]⟩,
  ⟨0x1F01030, 16, 0x100, 5, 0x4, 0x0, [⟨0, 16, .ro⟩]⟩,
  ⟨0x1F01044, 16, 0x100, 1, 0x0, 0x0, [⟨16, 16, .ro⟩, ⟨0, 16, .ro⟩]⟩,
  ⟨0x1F01048, 16, 0x100, 4, 0x4, 0x0, [⟨0, 32, .ro⟩]⟩,
  ⟨0x1F01058, 16, 0x100, 4, 0x4, 0x0, [⟨0, 32, .ro⟩]⟩,
  ⟨0x1F01068, 16, 0x100, 1, 0x0, 0x0, [⟨0, 32, .ro⟩]⟩,
  ⟨0x1F0106C, 16, 0x100, 1, 0x0, 0x0, [⟨0, 32, .ro⟩]⟩,
  ⟨0x1F01070, 16, 0x100, 1, 0x0, 0x0, [⟨0, 32, .rs⟩]⟩,
  ⟨0x1F01074, 16, 0x100, 1, 0x0, 0x0, [⟨0, 32, .ro⟩]⟩,
  ⟨0x1F01078, 16, 0x100, 1, 0x0, 0x0, [⟨16, 16, .ro⟩, ⟨0, 1, .ro⟩]⟩,
  ⟨0x1F0107C, 16, 0x100, 1, 0x0, 0x0, [⟨0, 32, .ro⟩]⟩]
/-- The rows of block POD. -/
def regRowsPOD : List RegRow := regRowsPOD0

def regRowsHDMA0 : List RegRow := [
  ⟨0x40000, 1, 0x0, 1, 0x0, 0x0, [⟨1, 1, .sc⟩, ⟨0, 1, .rw⟩]⟩,
  ⟨0x40004, 1, 0x0, 1, 0x0, 0x0, [⟨16, 16, .ro⟩, ⟨0, 16, .ro⟩]⟩,
  ⟨0x40008, 1, 0x0, 1, 0x0, 0x0, [⟨5, 1, .w1c⟩, ⟨4, 1, .w1c⟩, ⟨3, 1, .w1c⟩, ⟨2, 1, .w1c⟩, ⟨1, 1, .w1c⟩, ⟨0, 1, .w1c⟩]⟩,
  ⟨0x4000C, 1, 0x0, 1, 0x0, 0x0, [⟨16, 16, .ro⟩, ⟨10, 1, .ro⟩, ⟨4, 6, .ro⟩, ⟨0, 4, .ro⟩]⟩,
  ⟨0x40010, 1, 0x0, 1, 0x0, 0x0, [⟨0, 8, .rw⟩]⟩,
  ⟨0x40014, 1, 0x0, 1, 0x0, 0x0, [⟨0, 32, .ro⟩]⟩,
  ⟨0x40018, 1, 0x0, 1, 0x0, 0x0, [⟨0, 32, .ro⟩]⟩,
  ⟨0x4001C, 1, 0x0, 1, 0x0, 0x0, [⟨0, 32, .ro⟩]⟩,
  ⟨0x40020, 1, 0x0, 1, 0x0, 0x0, [⟨0, 32, .rw⟩]⟩,
  ⟨0x40024, 1, 0x0, 1, 0x0, 0x0, [⟨0, 32, .rw⟩]⟩,
  ⟨0x40028, 1, 0x0, 1, 0x0, 0x10, [⟨0, 13, .rw⟩]⟩,
  ⟨0x4002C, 1, 0x0, 1, 0x0, 0x1000, [⟨12, 1, .ro⟩, ⟨0, 12, .ro⟩]⟩,
  ⟨0x40030, 1, 0x0, 1, 0x0, 0x0, [⟨0, 12, .rw⟩]⟩,
  ⟨0x40034, 1, 0x0, 1, 0x0, 0xFFFFFFFF, [⟨0, 32, .rw⟩]⟩,
  ⟨0x40038, 1, 0x0, 1, 0x0, 0x0, [⟨0, 32, .ro⟩]⟩,
  ⟨0x4003C, 1, 0x0, 1, 0x0, 0x1, [⟨16, 16, .rw⟩, ⟨0, 16, .rw⟩]⟩,
  ⟨0x40040, 32, 0x4, 1, 0x0, 0x1, [⟨0, 6, .rw⟩]⟩,
  ⟨0x41000, 16, 0x100, 1, 0x0, 0x1000000, [⟨24, 8, .rw⟩, ⟨7, 1, .sc⟩, ⟨6, 1, .sc⟩, ⟨5, 1, .sc⟩, ⟨4, 1, .rw⟩, ⟨0, 1, .rw⟩]⟩,
  ⟨0x41004, 16, 0x100, 1, 0x0, 0x0, [⟨8, 9, .ro⟩, ⟨3, 1, .ro⟩, ⟨2, 1, .ro⟩, ⟨1, 1, .ro⟩, ⟨0, 1, .ro⟩]⟩,
  ⟨0x41008, 16, 0x100, 1, 0x0, 0x0, [⟨3, 1, .w1c⟩, ⟨2, 1, .w1c⟩, ⟨1, 1, .w1c⟩, ⟨0, 1, .w1c⟩]⟩,
  ⟨0x4100C, 16, 0x100, 1, 0x0, 0x10, [⟨0, 13, .rw⟩]⟩,
  ⟨0x41010, 16, 0x100, 1, 0x0, 0x0, [⟨0, 32, .rw⟩]⟩,
  ⟨0x41014, 16, 0x100, 1, 0x0, 0x0, [⟨0, 32, .rw⟩]⟩,
  ⟨0x41018, 16, 0x100, 1, 0x0, 0x0, [⟨0, 32, .rw⟩]⟩]
def regRowsHDMA1 : List RegRow := [
  ⟨0x4101C, 16, 0x100, 1, 0x0, 0x0, [⟨0, 32, .rw⟩]⟩,
  ⟨0x41020, 16, 0x100, 1, 0x0, 0x0, [⟨0, 12, .rw⟩]⟩,
  ⟨0x41024, 16, 0x100, 1, 0x0, 0x0, [⟨0, 12, .ro⟩]⟩,
  ⟨0x41028, 16, 0x100, 1, 0x0, 0x1000, [⟨12, 1, .ro⟩, ⟨0, 12, .ro⟩]⟩,
  ⟨0x4102C, 16, 0x100, 1, 0x0, 0x0, [⟨0, 32, .rs⟩]⟩,
  ⟨0x41030, 16, 0x100, 1, 0x0, 0x0, [⟨0, 32, .ro⟩]⟩,
  ⟨0x41034, 16, 0x100, 1, 0x0, 0x0, [⟨0, 32, .ro⟩]⟩,
  ⟨0x41038, 16, 0x100, 1, 0x0, 0x640000, [⟨16, 16, .rw⟩, ⟨0, 7, .rw⟩]⟩,
  ⟨0x4103C, 16, 0x100, 1, 0x0, 0x0, [⟨0, 32, .ro⟩]⟩]
/-- The rows of block HDMA. -/
def regRowsHDMA : List RegRow := regRowsHDMA0 ++ regRowsHDMA1

def regRowsSTOR0 : List RegRow := [
  ⟨0x60000, 1, 0x0, 1, 0x0, 0x0, [⟨3, 1, .sc⟩, ⟨2, 1, .sc⟩, ⟨1, 1, .sc⟩, ⟨0, 1, .rw⟩]⟩,
  ⟨0x60004, 1, 0x0, 1, 0x0, 0x0, [⟨28, 4, .ro⟩, ⟨8, 4, .ro⟩, ⟨3, 1, .ro⟩, ⟨0, 3, .ro⟩]⟩,
  ⟨0x60008, 1, 0x0, 1, 0x0, 0x0, [⟨6, 1, .w1c⟩, ⟨5, 1, .w1c⟩, ⟨4, 1, .w1c⟩, ⟨3, 1, .w1c⟩, ⟨2, 1, .w1c⟩, ⟨1, 1, .w1c⟩, ⟨0, 1, .w1c⟩]⟩,
  ⟨0x6000C, 1, 0x0, 1, 0x0, 0x801, [⟨8, 7, .rw⟩, ⟨0, 1, .rw⟩]⟩,
  ⟨0x60010, 1, 0x0, 1, 0x0, 0x186A0, [⟨0, 32, .rw⟩]⟩,
  ⟨0x60014, 1, 0x0, 1, 0x0, 0x0, [⟨0, 1, .pl⟩]⟩,
  ⟨0x60018, 1, 0x0, 1, 0x0, 0x0, [⟨0, 32, .ro⟩]⟩,
  ⟨0x6001C, 1, 0x0, 1, 0x0, 0x0, [⟨0, 32, .ro⟩]⟩,
  ⟨0x60020, 1, 0x0, 1, 0x0, 0x0, [⟨0, 32, .rs⟩]⟩,
  ⟨0x60024, 1, 0x0, 1, 0x0, 0x0, [⟨0, 32, .ro⟩]⟩,
  ⟨0x60028, 1, 0x0, 1, 0x0, 0x0, [⟨0, 32, .rs⟩]⟩,
  ⟨0x6002C, 1, 0x0, 1, 0x0, 0x0, [⟨0, 32, .ro⟩]⟩,
  ⟨0x60030, 1, 0x0, 1, 0x0, 0x0, [⟨0, 32, .rs⟩]⟩,
  ⟨0x60034, 1, 0x0, 1, 0x0, 0x0, [⟨0, 32, .ro⟩]⟩,
  ⟨0x60038, 1, 0x0, 1, 0x0, 0x0, [⟨16, 16, .ro⟩, ⟨0, 1, .ro⟩]⟩,
  ⟨0x60040, 1, 0x0, 1, 0x0, 0x0, [⟨0, 32, .rs⟩]⟩,
  ⟨0x60044, 1, 0x0, 1, 0x0, 0x0, [⟨0, 32, .ro⟩]⟩,
  ⟨0x60048, 1, 0x0, 1, 0x0, 0x0, [⟨0, 32, .ro⟩]⟩,
  ⟨0x6004C, 1, 0x0, 1, 0x0, 0x0, [⟨0, 32, .ro⟩]⟩,
  ⟨0x60050, 1, 0x0, 1, 0x0, 0x0, [⟨0, 32, .ro⟩]⟩,
  ⟨0x60054, 1, 0x0, 1, 0x0, 0x0, [⟨0, 32, .ro⟩]⟩,
  ⟨0x60058, 1, 0x0, 1, 0x0, 0x0, [⟨0, 32, .ro⟩]⟩,
  ⟨0x60060, 1, 0x0, 1, 0x0, 0x0, [⟨0, 32, .rs⟩]⟩,
  ⟨0x60064, 1, 0x0, 1, 0x0, 0x0, [⟨0, 32, .ro⟩]⟩]
def regRowsSTOR1 : List RegRow := [
  ⟨0x60068, 1, 0x0, 1, 0x0, 0x3E8, [⟨0, 32, .rw⟩]⟩,
  ⟨0x6006C, 1, 0x0, 1, 0x0, 0x0, [⟨0, 32, .ro⟩]⟩,
  ⟨0x60080, 1, 0x0, 1, 0x0, 0x0, [⟨8, 1, .sc⟩, ⟨0, 5, .rw⟩]⟩,
  ⟨0x60084, 1, 0x0, 1, 0x0, 0x0, [⟨28, 4, .ro⟩, ⟨0, 6, .ro⟩]⟩,
  ⟨0x60088, 1, 0x0, 1, 0x0, 0x0, [⟨0, 32, .rw⟩]⟩,
  ⟨0x6008C, 1, 0x0, 1, 0x0, 0x0, [⟨0, 32, .rw⟩]⟩,
  ⟨0x60090, 1, 0x0, 1, 0x0, 0x0, [⟨0, 32, .rw⟩]⟩,
  ⟨0x60094, 1, 0x0, 1, 0x0, 0x0, [⟨0, 32, .rw⟩]⟩,
  ⟨0x60098, 1, 0x0, 1, 0x0, 0x0, [⟨31, 1, .pl⟩, ⟨0, 5, .pl⟩]⟩,
  ⟨0x600A0, 1, 0x0, 1, 0x0, 0x1, [⟨31, 1, .sc⟩, ⟨0, 11, .rw⟩]⟩,
  ⟨0x600A4, 1, 0x0, 1, 0x0, 0x0, [⟨28, 4, .ro⟩, ⟨2, 11, .ro⟩, ⟨1, 1, .ro⟩, ⟨0, 1, .ro⟩]⟩,
  ⟨0x600A8, 1, 0x0, 1, 0x0, 0x0, [⟨0, 32, .rw⟩]⟩,
  ⟨0x600AC, 1, 0x0, 1, 0x0, 0x0, [⟨0, 32, .rw⟩]⟩,
  ⟨0x600B0, 1, 0x0, 1, 0x0, 0x0, [⟨0, 8, .rw⟩]⟩,
  ⟨0x61000, 4, 0x100, 1, 0x0, 0x0, [⟨28, 4, .ro⟩, ⟨12, 4, .ro⟩, ⟨8, 4, .ro⟩, ⟨4, 2, .ro⟩, ⟨0, 3, .ro⟩]⟩,
  ⟨0x61004, 4, 0x100, 1, 0x0, 0x0, [⟨0, 32, .ro⟩]⟩,
  ⟨0x61008, 4, 0x100, 1, 0x0, 0x0, [⟨0, 32, .ro⟩]⟩,
  ⟨0x6100C, 4, 0x100, 1, 0x0, 0x0, [⟨0, 32, .ro⟩]⟩,
  ⟨0x61010, 4, 0x100, 1, 0x0, 0x0, [⟨0, 32, .ro⟩]⟩,
  ⟨0x61014, 4, 0x100, 1, 0x0, 0x0, [⟨0, 32, .ro⟩]⟩,
  ⟨0x61018, 4, 0x100, 1, 0x0, 0x0, [⟨0, 32, .ro⟩]⟩,
  ⟨0x6101C, 4, 0x100, 5, 0x4, 0x0, [⟨0, 32, .ro⟩]⟩]
/-- The rows of block STOR. -/
def regRowsSTOR : List RegRow := regRowsSTOR0 ++ regRowsSTOR1

def regRowsLDG0 : List RegRow := [
  ⟨0xC0000, 1, 0x0, 1, 0x0, 0x0, [⟨1, 1, .sc⟩, ⟨0, 1, .sc⟩]⟩,
  ⟨0xC0004, 1, 0x0, 1, 0x0, 0x0, [⟨2, 1, .ro⟩, ⟨1, 1, .ro⟩, ⟨0, 1, .ro⟩]⟩,
  ⟨0xC0008, 1, 0x0, 1, 0x0, 0x0, [⟨2, 1, .w1c⟩, ⟨1, 1, .w1c⟩, ⟨0, 1, .w1c⟩]⟩,
  ⟨0xC0010, 1, 0x0, 1, 0x0, 0x0, [⟨0, 32, .rs⟩]⟩,
  ⟨0xC0014, 1, 0x0, 1, 0x0, 0x0, [⟨0, 32, .ro⟩]⟩,
  ⟨0xC0018, 1, 0x0, 1, 0x0, 0x0, [⟨0, 32, .rs⟩]⟩,
  ⟨0xC001C, 1, 0x0, 1, 0x0, 0x0, [⟨0, 32, .ro⟩]⟩,
  ⟨0xC0020, 1, 0x0, 1, 0x0, 0x0, [⟨0, 32, .rs⟩]⟩,
  ⟨0xC0024, 1, 0x0, 1, 0x0, 0x0, [⟨0, 32, .ro⟩]⟩,
  ⟨0xC0028, 1, 0x0, 1, 0x0, 0x0, [⟨0, 32, .ro⟩]⟩,
  ⟨0xC002C, 1, 0x0, 1, 0x0, 0x0, [⟨0, 32, .ro⟩]⟩,
  ⟨0xC0040, 8, 0x4, 1, 0x0, 0x0, [⟨0, 32, .rs⟩]⟩,
  ⟨0xC0060, 1, 0x0, 1, 0x0, 0x0, [⟨0, 32, .rs⟩]⟩,
  ⟨0xC0064, 1, 0x0, 1, 0x0, 0x0, [⟨0, 32, .ro⟩]⟩,
  ⟨0xC0080, 1, 0x0, 1, 0x0, 0x0, [⟨0, 32, .rw⟩]⟩,
  ⟨0xC0084, 1, 0x0, 1, 0x0, 0x0, [⟨0, 32, .rw⟩]⟩,
  ⟨0xC0088, 1, 0x0, 1, 0x0, 0x0, [⟨0, 1, .ro⟩]⟩,
  ⟨0xC0100, 16, 0x4, 1, 0x0, 0x0, [⟨0, 32, .ro⟩]⟩,
  ⟨0xC0200, 10, 0x4, 1, 0x0, 0x0, [⟨0, 32, .rw⟩]⟩,
  ⟨0xC0300, 1, 0x0, 1, 0x0, 0x0, [⟨0, 3, .rw⟩]⟩,
  ⟨0xC1000, 1024, 0x4, 1, 0x0, 0x0, [⟨0, 32, .ro⟩]⟩]
/-- The rows of block LDG. -/
def regRowsLDG : List RegRow := regRowsLDG0

def regRowsSEC0 : List RegRow := [
  ⟨0x80000, 1, 0x0, 1, 0x0, 0x0, [⟨3, 1, .sc⟩, ⟨2, 1, .sc⟩, ⟨1, 1, .sc⟩, ⟨0, 1, .sc⟩]⟩,
  ⟨0x80004, 1, 0x0, 1, 0x0, 0x8, [⟨28, 4, .ro⟩, ⟨24, 4, .ro⟩, ⟨3, 1, .ro⟩, ⟨2, 1, .ro⟩, ⟨1, 1, .ro⟩, ⟨0, 1, .ro⟩]⟩,
  ⟨0x80008, 1, 0x0, 1, 0x0, 0x0, [⟨8, 1, .w1c⟩, ⟨7, 1, .w1c⟩, ⟨6, 1, .w1c⟩, ⟨5, 1, .w1c⟩, ⟨4, 1, .w1c⟩, ⟨3, 1, .w1c⟩, ⟨2, 1, .w1c⟩, ⟨1, 1, .w1c⟩, ⟨0, 1, .w1c⟩]⟩,
  ⟨0x8000C, 1, 0x0, 1, 0x0, 0x0, [⟨16, 1, .ro⟩, ⟨8, 8, .ro⟩, ⟨0, 8, .ro⟩]⟩,
  ⟨0x80010, 1, 0x0, 1, 0x0, 0x3, [⟨2, 6, .pl⟩, ⟨0, 2, .ro⟩]⟩,
  ⟨0x80014, 1, 0x0, 1, 0x0, 0x0, [⟨0, 32, .rs⟩]⟩,
  ⟨0x80018, 1, 0x0, 1, 0x0, 0x0, [⟨0, 32, .ro⟩]⟩,
  ⟨0x80020, 8, 0x4, 1, 0x0, 0x0, [⟨0, 32, .ro⟩]⟩,
  ⟨0x80040, 8, 0x4, 1, 0x0, 0x0, [⟨0, 32, .ro⟩]⟩,
  ⟨0x80060, 8, 0x4, 1, 0x0, 0x0, [⟨0, 32, .rw⟩]⟩,
  ⟨0x80080, 1, 0x0, 1, 0x0, 0x0, [⟨16, 16, .ro⟩, ⟨0, 16, .ro⟩]⟩,
  ⟨0x80084, 1, 0x0, 1, 0x0, 0x0, [⟨0, 32, .rs⟩]⟩,
  ⟨0x80088, 1, 0x0, 1, 0x0, 0x0, [⟨0, 32, .ro⟩]⟩,
  ⟨0x80090, 1, 0x0, 1, 0x0, 0x0, [⟨0, 32, .rs⟩]⟩,
  ⟨0x80094, 1, 0x0, 1, 0x0, 0x0, [⟨0, 32, .ro⟩]⟩,
  ⟨0x80098, 1, 0x0, 1, 0x0, 0x0, [⟨0, 32, .ro⟩]⟩,
  ⟨0x80100, 4, 0x20, 1, 0x0, 0x0, [⟨28, 4, .ro⟩, ⟨7, 1, .ro⟩, ⟨6, 1, .ro⟩, ⟨5, 1, .ro⟩, ⟨0, 3, .ro⟩]⟩,
  ⟨0x80104, 4, 0x20, 1, 0x0, 0xFFFFFFFF, [⟨16, 16, .ro⟩, ⟨0, 16, .ro⟩]⟩,
  ⟨0x80108, 4, 0x20, 1, 0x0, 0x0, [⟨0, 32, .rs⟩]⟩,
  ⟨0x8010C, 4, 0x20, 1, 0x0, 0x0, [⟨0, 32, .ro⟩]⟩,
  ⟨0x80110, 4, 0x20, 1, 0x0, 0x0, [⟨0, 32, .rs⟩]⟩,
  ⟨0x80114, 4, 0x20, 1, 0x0, 0x0, [⟨0, 32, .ro⟩]⟩,
  ⟨0x80118, 4, 0x20, 1, 0x0, 0x0, [⟨0, 32, .rs⟩]⟩,
  ⟨0x8011C, 4, 0x20, 1, 0x0, 0x0, [⟨0, 32, .ro⟩]⟩]
def regRowsSEC1 : List RegRow := [
  ⟨0x80200, 4, 0x20, 8, 0x4, 0x0, [⟨0, 32, .ro⟩]⟩,
  ⟨0x80300, 1, 0x0, 1, 0x0, 0x2, [⟨0, 5, .rw⟩]⟩,
  ⟨0x80304, 1, 0x0, 1, 0x0, 0x14CD, [⟨0, 32, .ro⟩]⟩,
  ⟨0x80308, 1, 0x0, 1, 0x0, 0x0, [⟨0, 32, .rw⟩]⟩,
  ⟨0x82000, 2048, 0x4, 1, 0x0, 0x0, [⟨0, 32, .ro⟩]⟩,
  ⟨0x84000, 2048, 0x4, 1, 0x0, 0x0, [⟨0, 32, .ro⟩]⟩,
  ⟨0x86000, 1024, 0x4, 1, 0x0, 0x0, [⟨0, 32, .rw⟩]⟩,
  ⟨0x88000, 24576, 0x4, 1, 0x0, 0x0, [⟨0, 32, .rw⟩]⟩]
/-- The rows of block SEC. -/
def regRowsSEC : List RegRow := regRowsSEC0 ++ regRowsSEC1

def regRowsSYS0 : List RegRow := [
  ⟨0x0, 1, 0x0, 1, 0x0, 0x25480000, [⟨16, 16, .ro⟩, ⟨8, 8, .ro⟩, ⟨0, 8, .ro⟩]⟩,
  ⟨0x4, 1, 0x0, 1, 0x0, 0x0, [⟨0, 1, .sc⟩]⟩,
  ⟨0x8, 1, 0x0, 1, 0x0, 0x0, [⟨28, 4, .ro⟩, ⟨6, 1, .ro⟩, ⟨5, 1, .ro⟩, ⟨4, 1, .ro⟩, ⟨3, 1, .ro⟩, ⟨2, 1, .ro⟩, ⟨1, 1, .ro⟩, ⟨0, 1, .ro⟩]⟩,
  ⟨0xC, 1, 0x0, 1, 0x0, 0x0, [⟨7, 1, .w1c⟩, ⟨6, 1, .w1c⟩, ⟨5, 1, .w1c⟩, ⟨4, 1, .w1c⟩, ⟨3, 1, .w1c⟩, ⟨2, 1, .w1c⟩, ⟨1, 1, .w1c⟩, ⟨0, 1, .w1c⟩]⟩,
  ⟨0x10, 1, 0x0, 1, 0x0, 0x0, [⟨8, 4, .rw⟩, ⟨0, 4, .ro⟩]⟩,
  ⟨0x14, 1, 0x0, 1, 0x0, 0x1, [⟨3, 1, .ro⟩, ⟨2, 1, .ro⟩, ⟨1, 1, .ro⟩, ⟨0, 1, .rw⟩]⟩,
  ⟨0x18, 1, 0x0, 1, 0x0, 0x1FFF7F, [⟨8, 13, .rw⟩, ⟨1, 6, .rw⟩, ⟨0, 1, .ro⟩]⟩,
  ⟨0x1C, 1, 0x0, 1, 0x0, 0x1FFF7F, [⟨8, 13, .ro⟩, ⟨1, 6, .ro⟩, ⟨0, 1, .ro⟩]⟩,
  ⟨0x20, 1, 0x0, 1, 0x0, 0x0, [⟨28, 4, .ro⟩, ⟨27, 1, .ro⟩, ⟨26, 1, .ro⟩, ⟨25, 1, .ro⟩, ⟨24, 1, .ro⟩, ⟨0, 16, .ro⟩]⟩,
  ⟨0x24, 1, 0x0, 1, 0x0, 0x0, [⟨0, 32, .ro⟩]⟩,
  ⟨0x28, 1, 0x0, 1, 0x0, 0x0, [⟨0, 32, .rs⟩]⟩,
  ⟨0x2C, 1, 0x0, 1, 0x0, 0x0, [⟨0, 32, .ro⟩]⟩,
  ⟨0x30, 1, 0x0, 1, 0x0, 0x0, [⟨16, 16, .ro⟩, ⟨0, 1, .ro⟩]⟩,
  ⟨0x40, 4, 0x4, 1, 0x0, 0x0, [⟨0, 32, .ro⟩]⟩,
  ⟨0x100, 1, 0x0, 1, 0x0, 0x0, [⟨31, 1, .sc⟩, ⟨30, 1, .sc⟩, ⟨29, 1, .sc⟩, ⟨0, 13, .rw⟩]⟩,
  ⟨0x104, 1, 0x0, 1, 0x0, 0x0, [⟨28, 4, .ro⟩, ⟨2, 2, .ro⟩, ⟨1, 1, .ro⟩, ⟨0, 1, .ro⟩]⟩,
  ⟨0x108, 1, 0x0, 1, 0x0, 0x0, [⟨0, 23, .rw⟩]⟩,
  ⟨0x10C, 1, 0x0, 1, 0x0, 0x0, [⟨0, 32, .rs⟩]⟩,
  ⟨0x110, 1, 0x0, 1, 0x0, 0x0, [⟨0, 32, .ro⟩]⟩,
  ⟨0x120, 8, 0x4, 1, 0x0, 0x0, [⟨0, 32, .ro⟩]⟩,
  ⟨0x8000, 4096, 0x4, 1, 0x0, 0x0, [⟨0, 32, .rw⟩]⟩]
/-- The rows of block SYS. -/
def regRowsSYS : List RegRow := regRowsSYS0

def regRowsFLT0 : List RegRow := [
  ⟨0xA0000, 1, 0x0, 1, 0x0, 0x0, [⟨1, 1, .sc⟩, ⟨0, 1, .sc⟩]⟩,
  ⟨0xA0004, 1, 0x0, 1, 0x0, 0x0, [⟨16, 16, .ro⟩, ⟨4, 1, .ro⟩, ⟨3, 1, .ro⟩, ⟨2, 1, .ro⟩, ⟨0, 1, .ro⟩]⟩,
  ⟨0xA0008, 1, 0x0, 1, 0x0, 0x0, [⟨3, 1, .w1c⟩, ⟨2, 1, .w1c⟩, ⟨1, 1, .w1c⟩, ⟨0, 1, .w1c⟩]⟩,
  ⟨0xA0010, 5, 0x4, 1, 0x0, 0x0, [⟨0, 32, .w1c⟩]⟩,
  ⟨0xA0030, 5, 0x4, 1, 0x0, 0x0, [⟨0, 32, .sc⟩]⟩,
  ⟨0xA0050, 1, 0x0, 1, 0x0, 0x0, [⟨0, 8, .ro⟩]⟩,
  ⟨0xA0054, 1, 0x0, 1, 0x0, 0x0, [⟨0, 32, .rs⟩]⟩,
  ⟨0xA0058, 1, 0x0, 1, 0x0, 0x0, [⟨0, 32, .ro⟩]⟩,
  ⟨0xA005C, 1, 0x0, 1, 0x0, 0x0, [⟨16, 16, .ro⟩, ⟨0, 1, .ro⟩]⟩,
  ⟨0xA0060, 1, 0x0, 1, 0x0, 0x0, [⟨0, 8, .ro⟩]⟩,
  ⟨0xA0064, 1, 0x0, 1, 0x0, 0x0, [⟨0, 32, .rs⟩]⟩,
  ⟨0xA0068, 1, 0x0, 1, 0x0, 0x0, [⟨0, 32, .ro⟩]⟩,
  ⟨0xA006C, 1, 0x0, 1, 0x0, 0x0, [⟨16, 16, .ro⟩, ⟨0, 1, .ro⟩]⟩,
  ⟨0xA0070, 1, 0x0, 1, 0x0, 0x0, [⟨0, 8, .ro⟩]⟩,
  ⟨0xA0074, 1, 0x0, 1, 0x0, 0x0, [⟨0, 32, .rs⟩]⟩,
  ⟨0xA0078, 1, 0x0, 1, 0x0, 0x0, [⟨0, 32, .ro⟩]⟩,
  ⟨0xA007C, 1, 0x0, 1, 0x0, 0x0, [⟨0, 32, .ro⟩]⟩,
  ⟨0xA0100, 1, 0x0, 1, 0x0, 0x0, [⟨0, 1, .pl⟩]⟩,
  ⟨0xA0104, 1, 0x0, 1, 0x0, 0x0, [⟨3, 5, .ro⟩, ⟨1, 1, .ro⟩, ⟨0, 1, .ro⟩]⟩,
  ⟨0xA0108, 1, 0x0, 1, 0x0, 0x0, [⟨0, 32, .rs⟩]⟩,
  ⟨0xA010C, 1, 0x0, 1, 0x0, 0x0, [⟨0, 32, .ro⟩]⟩,
  ⟨0xA0110, 1, 0x0, 1, 0x0, 0x0, [⟨0, 32, .rs⟩]⟩,
  ⟨0xA0114, 1, 0x0, 1, 0x0, 0x0, [⟨0, 32, .ro⟩]⟩,
  ⟨0xA0118, 1, 0x0, 1, 0x0, 0x0, [⟨0, 32, .rs⟩]⟩]
def regRowsFLT1 : List RegRow := [
  ⟨0xA011C, 1, 0x0, 1, 0x0, 0x0, [⟨0, 32, .ro⟩]⟩,
  ⟨0xA0120, 1, 0x0, 1, 0x0, 0x0, [⟨0, 32, .rs⟩]⟩,
  ⟨0xA0124, 1, 0x0, 1, 0x0, 0x0, [⟨0, 32, .ro⟩]⟩,
  ⟨0xA0128, 1, 0x0, 1, 0x0, 0x0, [⟨0, 32, .rs⟩]⟩,
  ⟨0xA012C, 1, 0x0, 1, 0x0, 0x0, [⟨0, 32, .ro⟩]⟩,
  ⟨0xA0130, 1, 0x0, 1, 0x0, 0x0, [⟨0, 32, .ro⟩]⟩,
  ⟨0xA0134, 1, 0x0, 1, 0x0, 0x0, [⟨0, 32, .ro⟩]⟩,
  ⟨0xA0138, 1, 0x0, 1, 0x0, 0x0, [⟨0, 32, .ro⟩]⟩,
  ⟨0xA013C, 1, 0x0, 1, 0x0, 0x301EC0, [⟨0, 32, .ro⟩]⟩,
  ⟨0xA0400, 144, 0x4, 1, 0x0, 0x0, [⟨30, 2, .ro⟩, ⟨29, 1, .ro⟩, ⟨28, 1, .ro⟩, ⟨0, 6, .pl⟩]⟩,
  ⟨0xA0800, 144, 0x4, 1, 0x0, 0x0, [⟨0, 32, .ro⟩]⟩]
/-- The rows of block FLT. -/
def regRowsFLT : List RegRow := regRowsFLT0 ++ regRowsFLT1

def regRowsUPD0 : List RegRow := [
  ⟨0xB0000, 1, 0x0, 1, 0x0, 0x0, [⟨16, 13, .rw⟩, ⟨6, 1, .rw⟩, ⟨5, 1, .sc⟩, ⟨4, 1, .sc⟩, ⟨3, 1, .sc⟩, ⟨2, 1, .sc⟩, ⟨1, 1, .sc⟩]⟩,
  ⟨0xB0004, 1, 0x0, 1, 0x0, 0x40, [⟨28, 4, .ro⟩, ⟨24, 4, .ro⟩, ⟨7, 1, .ro⟩, ⟨6, 1, .ro⟩, ⟨5, 1, .ro⟩, ⟨4, 1, .ro⟩, ⟨0, 4, .ro⟩]⟩,
  ⟨0xB0008, 1, 0x0, 1, 0x0, 0x0, [⟨5, 1, .w1c⟩, ⟨4, 1, .w1c⟩, ⟨3, 1, .w1c⟩, ⟨2, 1, .w1c⟩, ⟨1, 1, .w1c⟩, ⟨0, 1, .w1c⟩]⟩,
  ⟨0xB000C, 1, 0x0, 1, 0x0, 0x0, [⟨0, 25, .rw⟩]⟩,
  ⟨0xB0010, 1, 0x0, 1, 0x0, 0x3C, [⟨0, 16, .rw⟩]⟩,
  ⟨0xB0014, 1, 0x0, 1, 0x0, 0x0, [⟨0, 32, .rw⟩]⟩,
  ⟨0xB0018, 1, 0x0, 1, 0x0, 0x0, [⟨0, 32, .rw⟩]⟩,
  ⟨0xB001C, 1, 0x0, 1, 0x0, 0x0, [⟨0, 16, .rw⟩]⟩,
  ⟨0xB0020, 1, 0x0, 1, 0x0, 0x0, [⟨0, 32, .rs⟩]⟩,
  ⟨0xB0024, 1, 0x0, 1, 0x0, 0x0, [⟨0, 32, .ro⟩]⟩,
  ⟨0xB0028, 1, 0x0, 1, 0x0, 0x0, [⟨16, 16, .ro⟩, ⟨0, 1, .ro⟩]⟩,
  ⟨0xB0030, 1, 0x0, 1, 0x0, 0x0, [⟨0, 32, .rs⟩]⟩,
  ⟨0xB0034, 1, 0x0, 1, 0x0, 0x0, [⟨0, 32, .ro⟩]⟩,
  ⟨0xB0038, 1, 0x0, 1, 0x0, 0x0, [⟨0, 32, .rs⟩]⟩,
  ⟨0xB003C, 1, 0x0, 1, 0x0, 0x0, [⟨0, 32, .ro⟩]⟩,
  ⟨0xB0040, 8, 0x4, 1, 0x0, 0x0, [⟨0, 32, .ro⟩]⟩,
  ⟨0xB8000, 4096, 0x4, 1, 0x0, 0x0, [⟨0, 32, .rw⟩]⟩]
/-- The rows of block UPD. -/
def regRowsUPD : List RegRow := regRowsUPD0

/-- The rows of the block whose range of R20 holds address `a`. -/
def rowsAt (a : Nat) : List RegRow :=
  if 0x0 ≤ a ∧ a ≤ 0xFFFF then regRowsSYS
  else if 0x10000 ≤ a ∧ a ≤ 0x1FFFF then regRowsTIME
  else if 0x20000 ≤ a ∧ a ≤ 0x3FFFF then regRowsCLR
  else if 0x40000 ≤ a ∧ a ≤ 0x5FFFF then regRowsHDMA
  else if 0x60000 ≤ a ∧ a ≤ 0x7FFFF then regRowsSTOR
  else if 0x80000 ≤ a ∧ a ≤ 0x9FFFF then regRowsSEC
  else if 0xA0000 ≤ a ∧ a ≤ 0xAFFFF then regRowsFLT
  else if 0xB0000 ≤ a ∧ a ≤ 0xBFFFF then regRowsUPD
  else if 0xC0000 ≤ a ∧ a ≤ 0xFFFFF then regRowsLDG
  else if 0x100000 ≤ a ∧ a ≤ 0x10FFFF then regRowsISO
  else if 0x1000000 ≤ a ∧ a ≤ 0x10FFFFF then regRowsFCTL
  else if 0x1100000 ≤ a ∧ a ≤ 0x11FFFFF then regRowsSEQ
  else if 0x1200000 ≤ a ∧ a ≤ 0x13FFFFF then regRowsUSTORE
  else if 0x1400000 ≤ a ∧ a ≤ 0x14FFFFF then regRowsPIN
  else if 0x1800000 ≤ a ∧ a ≤ 0x18BFFFF then regRowsLANE
  else if 0x1A00000 ≤ a ∧ a ≤ 0x1AFFFFF then regRowsGEN
  else if 0x1B00000 ≤ a ∧ a ≤ 0x1BFFFFF then regRowsACQ
  else if 0x1C00000 ≤ a ∧ a ≤ 0x1CFFFFF then regRowsTLY
  else if 0x1D00000 ≤ a ∧ a ≤ 0x1DFFFFF then regRowsCMP
  else if 0x1E00000 ≤ a ∧ a ≤ 0x1E7FFFF then regRowsGRD
  else if 0x1E80000 ≤ a ∧ a ≤ 0x1EFFFFF then regRowsMET
  else if 0x1F00000 ≤ a ∧ a ≤ 0x1FFFFFF then regRowsPOD
  else []

/-- Whether a row holds address `a`: some pair of indices below the row's counts names it. -/
def RegRow.holds (r : RegRow) (a : Nat) : Bool :=
  if a < r.base then false else
  let d := a - r.base
  let i := if r.s1 = 0 then 0 else min (d / r.s1) (r.n1 - 1)
  let e := d - r.s1 * i
  let j := if r.s2 = 0 then 0 else min (e / r.s2) (r.n2 - 1)
  e == r.s2 * j

/-- The register row at address `a`; none for an address that holds no register (R7). -/
def rowAt (a : Nat) : Option RegRow := (rowsAt a).find? (fun r => r.holds a)

/-! ### Reset values

The rows whose reset value is not zero, block by block: (base, n1, s1, n2, s2, value). -/

def resetRowsSYS : List RegRow := [
  ⟨0x0, 1, 0x0, 1, 0x0, 0x25480000, []⟩,
  ⟨0x14, 1, 0x0, 1, 0x0, 0x1, []⟩,
  ⟨0x18, 1, 0x0, 1, 0x0, 0x1FFF7F, []⟩,
  ⟨0x1C, 1, 0x0, 1, 0x0, 0x1FFF7F, []⟩]
def resetRowsCLR : List RegRow := [
  ⟨0x20000, 1, 0x0, 1, 0x0, 0x8, []⟩,
  ⟨0x20004, 1, 0x0, 1, 0x0, 0x8, []⟩]
def resetRowsHDMA : List RegRow := [
  ⟨0x40028, 1, 0x0, 1, 0x0, 0x10, []⟩,
  ⟨0x4002C, 1, 0x0, 1, 0x0, 0x1000, []⟩,
  ⟨0x40034, 1, 0x0, 1, 0x0, 0xFFFFFFFF, []⟩,
  ⟨0x4003C, 1, 0x0, 1, 0x0, 0x1, []⟩,
  ⟨0x40040, 32, 0x4, 1, 0x0, 0x1, []⟩,
  ⟨0x41000, 16, 0x100, 1, 0x0, 0x1000000, []⟩,
  ⟨0x4100C, 16, 0x100, 1, 0x0, 0x10, []⟩,
  ⟨0x41028, 16, 0x100, 1, 0x0, 0x1000, []⟩,
  ⟨0x41038, 16, 0x100, 1, 0x0, 0x640000, []⟩]
def resetRowsSTOR : List RegRow := [
  ⟨0x6000C, 1, 0x0, 1, 0x0, 0x801, []⟩,
  ⟨0x60010, 1, 0x0, 1, 0x0, 0x186A0, []⟩,
  ⟨0x60068, 1, 0x0, 1, 0x0, 0x3E8, []⟩,
  ⟨0x600A0, 1, 0x0, 1, 0x0, 0x1, []⟩]
def resetRowsSEC : List RegRow := [
  ⟨0x80004, 1, 0x0, 1, 0x0, 0x8, []⟩,
  ⟨0x80010, 1, 0x0, 1, 0x0, 0x3, []⟩,
  ⟨0x80104, 4, 0x20, 1, 0x0, 0xFFFFFFFF, []⟩,
  ⟨0x80300, 1, 0x0, 1, 0x0, 0x2, []⟩,
  ⟨0x80304, 1, 0x0, 1, 0x0, 0x14CD, []⟩]
def resetRowsFLT : List RegRow := [
  ⟨0xA013C, 1, 0x0, 1, 0x0, 0x301EC0, []⟩]
def resetRowsUPD : List RegRow := [
  ⟨0xB0004, 1, 0x0, 1, 0x0, 0x40, []⟩,
  ⟨0xB0010, 1, 0x0, 1, 0x0, 0x3C, []⟩]
def resetRowsISO : List RegRow := [
  ⟨0x100000, 1, 0x0, 1, 0x0, 0x1001, []⟩,
  ⟨0x100004, 1, 0x0, 1, 0x0, 0xA00, []⟩]
def resetRowsSEQ : List RegRow := [
  ⟨0x110F000, 1, 0x0, 1, 0x0, 0x1000, []⟩,
  ⟨0x110F00C, 1, 0x0, 1, 0x0, 0x3C00, []⟩,
  ⟨0x110F010, 1, 0x0, 1, 0x0, 0x400, []⟩,
  ⟨0x110003C, 1, 0x0, 1, 0x0, 0x6AA, []⟩,
  ⟨0x1100400, 64, 0x4, 1, 0x0, 0xFF, []⟩]
def resetRowsUSTORE : List RegRow := [
  ⟨0x130000C, 1, 0x0, 1, 0x0, 0x7D0, []⟩]
def resetRowsPIN : List RegRow := [
  ⟨0x1400004, 256, 0x1000, 1, 0x0, 0x600, []⟩,
  ⟨0x1400024, 256, 0x1000, 1, 0x0, 0xA, []⟩]
def resetRowsLANE : List RegRow := [
  ⟨0x180000C, 48, 0x4000, 1, 0x0, 0x4, []⟩,
  ⟨0x1800010, 48, 0x4000, 1, 0x0, 0x101, []⟩,
  ⟨0x1800018, 48, 0x4000, 1, 0x0, 0x100064, []⟩,
  ⟨0x180001C, 48, 0x4000, 1, 0x0, 0x4, []⟩,
  ⟨0x1800020, 48, 0x4000, 1, 0x0, 0x101, []⟩,
  ⟨0x1800104, 48, 0x4000, 4, 0x10, 0x400000, []⟩]
def resetRowsGEN : List RegRow := [
  ⟨0x1A00010, 48, 0x1000, 1, 0x0, 0x2000, []⟩]
def resetRowsACQ : List RegRow := [
  ⟨0x1B01000, 48, 0x20, 1, 0x0, 0x800000, []⟩,
  ⟨0x1B02000, 16, 0x40, 1, 0x0, 0x1, []⟩,
  ⟨0x1B02004, 16, 0x40, 1, 0x0, 0xFFFFFFFF, []⟩,
  ⟨0x1B03000, 4, 0x40, 1, 0x0, 0x1, []⟩,
  ⟨0x1B04000, 48, 0x20, 1, 0x0, 0x1, []⟩,
  ⟨0x1B04004, 48, 0x20, 1, 0x0, 0x1, []⟩,
  ⟨0x1B04014, 48, 0x20, 1, 0x0, 0x40, []⟩]
def resetRowsTLY : List RegRow := [
  ⟨0x1C01000, 48, 0x40, 1, 0x0, 0x48000, []⟩,
  ⟨0x1C04000, 8, 0x40, 1, 0x0, 0x1007, []⟩,
  ⟨0x1C04004, 8, 0x40, 1, 0x0, 0x8000, []⟩,
  ⟨0x1C0400C, 8, 0x40, 1, 0x0, 0xA0, []⟩]
def resetRowsCMP : List RegRow := [
  ⟨0x1D00000, 1, 0x0, 1, 0x0, 0x2000, []⟩,
  ⟨0x1D01008, 128, 0x80, 1, 0x0, 0x10003, []⟩,
  ⟨0x1D0102C, 128, 0x80, 1, 0x0, 0xA00, []⟩,
  ⟨0x1D01038, 128, 0x80, 1, 0x0, 0x645F00, []⟩,
  ⟨0x1D0103C, 128, 0x80, 1, 0x0, 0x186A0, []⟩]
def resetRowsGRD : List RegRow := [
  ⟨0x1E01000, 64, 0x40, 1, 0x0, 0x1, []⟩,
  ⟨0x1E0100C, 64, 0x40, 1, 0x0, 0x101, []⟩]
def resetRowsMET : List RegRow := [
  ⟨0x1E8000C, 1, 0x0, 1, 0x0, 0x61, []⟩,
  ⟨0x1E80010, 1, 0x0, 1, 0x0, 0xA0011, []⟩,
  ⟨0x1E8001C, 1, 0x0, 1, 0x0, 0x800, []⟩,
  ⟨0x1E80040, 1, 0x0, 1, 0x0, 0x186A0, []⟩,
  ⟨0x1E80044, 1, 0x0, 1, 0x0, 0x80000000, []⟩,
  ⟨0x1E80080, 16, 0x4, 1, 0x0, 0x80000000, []⟩,
  ⟨0x1E80100, 1, 0x0, 1, 0x0, 0x4, []⟩,
  ⟨0x1E80104, 1, 0x0, 1, 0x0, 0x40100, []⟩,
  ⟨0x1E80108, 1, 0x0, 1, 0x0, 0xD080A, []⟩,
  ⟨0x1E8010C, 1, 0x0, 1, 0x0, 0x5DC, []⟩,
  ⟨0x1E80110, 1, 0x0, 1, 0x0, 0x989680, []⟩,
  ⟨0x1E80144, 1, 0x0, 1, 0x0, 0x80000000, []⟩,
  ⟨0x1E80148, 1, 0x0, 1, 0x0, 0xFF, []⟩]
def resetRowsPOD : List RegRow := [
  ⟨0x1F0000C, 1, 0x0, 1, 0x0, 0x11940, []⟩,
  ⟨0x1F01000, 16, 0x100, 1, 0x0, 0x2, []⟩]

/-- The rows with a reset value other than zero in the block that holds address `a`. -/
def resetRowsAt (a : Nat) : List RegRow :=
  if 0x0 ≤ a ∧ a ≤ 0xFFFF then resetRowsSYS
  else if 0x20000 ≤ a ∧ a ≤ 0x3FFFF then resetRowsCLR
  else if 0x40000 ≤ a ∧ a ≤ 0x5FFFF then resetRowsHDMA
  else if 0x60000 ≤ a ∧ a ≤ 0x7FFFF then resetRowsSTOR
  else if 0x80000 ≤ a ∧ a ≤ 0x9FFFF then resetRowsSEC
  else if 0xA0000 ≤ a ∧ a ≤ 0xAFFFF then resetRowsFLT
  else if 0xB0000 ≤ a ∧ a ≤ 0xBFFFF then resetRowsUPD
  else if 0x100000 ≤ a ∧ a ≤ 0x10FFFF then resetRowsISO
  else if 0x1100000 ≤ a ∧ a ≤ 0x11FFFFF then resetRowsSEQ
  else if 0x1200000 ≤ a ∧ a ≤ 0x13FFFFF then resetRowsUSTORE
  else if 0x1400000 ≤ a ∧ a ≤ 0x14FFFFF then resetRowsPIN
  else if 0x1800000 ≤ a ∧ a ≤ 0x18BFFFF then resetRowsLANE
  else if 0x1A00000 ≤ a ∧ a ≤ 0x1AFFFFF then resetRowsGEN
  else if 0x1B00000 ≤ a ∧ a ≤ 0x1BFFFFF then resetRowsACQ
  else if 0x1C00000 ≤ a ∧ a ≤ 0x1CFFFFF then resetRowsTLY
  else if 0x1D00000 ≤ a ∧ a ≤ 0x1DFFFFF then resetRowsCMP
  else if 0x1E00000 ≤ a ∧ a ≤ 0x1E7FFFF then resetRowsGRD
  else if 0x1E80000 ≤ a ∧ a ≤ 0x1EFFFFF then resetRowsMET
  else if 0x1F00000 ≤ a ∧ a ≤ 0x1FFFFFF then resetRowsPOD
  else []

/-- The value a register holds after reset: the Reset column of its table; for FLT_ACT the source table of R436. -/
def regReset (a : Nat) : Word :=
  if 0xA0400 ≤ a ∧ a < 0xA0640 then BitVec.ofNat 32 (Config.actReset ((a - 0xA0400) / 4))
  else match (resetRowsAt a).find? (fun r => r.holds a) with
    | some r => BitVec.ofNat 32 r.reset
    | none => 0

/-- The partner words that a read of the RS word at `a` snapshots (R11, R84, R85, R396): its high word, and its GEN word where it has one. -/
def rsPartners (a : Nat) : List Nat :=
  match rowAt a with
  | some r =>
    if r.fields.any (fun f => f.acc == .rs) then
      if a = 0xC0040 then [0xC0044, 0xC0048, 0xC004C, 0xC0050, 0xC0054, 0xC0058, 0xC005C, 0xC0060, 0xC0064]
      else if 0xC0044 ≤ a ∧ a ≤ 0xC005C then []
      else if (rowAt (a + 8)).any (fun g => g.fields.any (fun f => f.lo == 16 && f.acc == .ro) && g.fields.any (fun f => f.lo == 0 && f.w == 1 && f.acc == .ro))
        then [a + 4, a + 8] else [a + 4]
    else []
  | none => []

end Sys2Proof.Machine
end

