-- ==== Sys2Proof/Machine/State.lean ====
section
/-! DEFINITION. The state of the module as plain data: the register file, what the blocks hold beside their registers, and the
queue of waiting commands; the reasons a step can stop; the state after reset. -/

namespace Sys2Proof.Machine

/-- A barrier message on its way (R32): header fields and payload; `t64` is the packed time-stamp word. -/
abbrev MsgQ := List Msg

/-- One Ledger entry (R390), without its 64-byte packing. -/
structure LEntry where
  t64 : Nat
  era : Nat
  source : Nat
  lflags : Nat := 0
  code : Nat
  inst : Nat := 0
  index : Nat := 0
  data : List Byte := []
  deriving DecidableEq, Repr

/-- An item in Clearing's staging (R79): its key and its bytes. -/
structure Item where
  era : Nat
  t64 : Nat
  cls : Nat
  inst : Nat := 0
  src : Nat := 0
  arr : Nat := 0
  bytes : List Byte := []
  deriving DecidableEq, Repr

/-- The data last returned to each requester of register reads (R4, R45, R84). -/
structure IoSt where
  /-- Last word returned on the host link. -/
  host : Word := 0
  /-- Last word returned to the management core. -/
  mgmt : Word := 0
  /-- Last word returned to the security island. -/
  island : Word := 0
  /-- Snapshots of RS partners: requester, partner address, value (R11, R84). -/
  snaps : List (Nat × Nat × Word) := []
  deriving DecidableEq, Repr

/-- Time keeping (R56–R78): the counts of the two halves, the tick mark in MRAM, and what runs towards the next boundary. -/
structure TimeSt where
  /-- Host tick count, 44 bits (TIME_NOW.TICK). -/
  hTick : Nat := 0
  /-- Instant within the host tick, fraction units below 1,024,000. -/
  hUnit : Nat := 0
  /-- Field tick count. -/
  fTick : Nat := 0
  /-- Instant within the field tick. -/
  fUnit : Nat := 0
  /-- Era of the field half. -/
  fEra : Nat := 0
  /-- Epoch in force on the field half. -/
  fEpoch : Nat := 0
  /-- A training has ended and the field half takes its tick from the next host beacon (R60). -/
  fAwaitLoad : Bool := false
  /-- A correct beacon has followed the latest training (R60). -/
  fAligned : Bool := false
  /-- Step in units that the field half applies at its next boundary (R60); 0 none. -/
  fStep : Int := 0
  /-- The Ledger MRAM's tick mark (R73): tick. -/
  markTick : Nat := 0
  /-- The tick mark's era. -/
  markEra : Nat := 0
  /-- An epoch that was requested takes effect at the host boundary after the tick of its request: epoch, tick across eras (R75). -/
  epochReq : Option (Nat × Nat) := none
  /-- SECONDS of the latest valid time-of-day message since the latest PPS edge or pair (R77). -/
  todLast : Option Nat := none
  /-- Two consecutive valid messages differ by 1: SECONDS of the pair's later message, for the next PPS edge (R77). -/
  todPair : Option Nat := none
  /-- Consecutive seconds whose residual exceeds 256 units (R78). -/
  residBad : Nat := 0
  /-- A new epoch is set at the next PPS edge (R78). -/
  slipReset : Bool := false
  /-- Consecutive overrun ticks on the field half (R68). -/
  streak : Nat := 0
  /-- The persistent-overrun fault of this streak has been raised (R68). -/
  streakRaised : Bool := false
  /-- Tick n's overrun check found work left over (R66): reported in XM_HEALTH of the next tick. -/
  overran : Bool := false
  /-- Overruns since training, WRAP (R44). -/
  overruns : Nat := 0
  /-- Content comes from deferred work: messages carry DEFER (R66). -/
  deferring : Bool := false
  deriving DecidableEq, Repr

/-- What a planned change puts in force at its boundary (R63–R65). -/
inductive PlanAct where
  | resend
  | mode (m : Nat)
  | laneApply (l : Nat)
  | laneStream (l : Nat)
  | capture (p : Nat)
  | fwdMax
  | group (n : Nat)
  | red (l : Nat)
  | tallyH (h : Nat)
  | tallyM (m : Nat)
  | pair (p : Nat)
  | quiet (restore : Bool)
  | release
  deriving DecidableEq, Repr

/-- An admitted plan on its way to its boundary (R43, R65). -/
structure Plan where
  id : Nat
  tick : Nat
  era : Nat
  act : PlanAct
  fh : Nat := 0
  fe : Nat := 0
  deriving DecidableEq, Repr

/-- The tick planner (R63–R65, R89). -/
structure PlanSt where
  /-- Identifier of the latest plan. -/
  lastId : Nat := 0
  /-- Admitted plans that wait for their host boundary. -/
  host : List Plan := []
  /-- Admitted plans that the field half has not received. -/
  sent : List Plan := []
  /-- Budget of stopped functions, held until a plan takes effect after the field tick at which BUSY falls: bytes, engine cycles, that
  tick (R89). -/
  held : List (Nat × Nat × Nat) := []
  /-- Plans that the field half has received and not yet put in force. -/
  field : List Plan := []
  /-- Plan in force on the field half. -/
  fieldId : Nat := 0
  /-- The latest plan started late (R43). -/
  late : Bool := false
  /-- Width of the latest successful training, field to host (R63). -/
  trainedFH : Nat := 16
  /-- Width of the latest successful training, host to field. -/
  trainedHF : Nat := 16
  deriving DecidableEq, Repr

/-- A tunnel access on its way (R45, R49–R52). -/
structure Tun where
  req : Nat
  tag : Nat
  write : Bool
  addr : Nat
  count : Nat
  data : List Word := []
  /-- Instant of issue, in units across eras. -/
  issued : Nat := 0
  /-- Instant from which the wait counts, and the units of 2 ticks left then (R51). -/
  since : Nat := 0
  left : Nat := 2048000
  deriving DecidableEq, Repr

/-- Held writes of one Escrow slot in the field half (R55, R409). -/
structure HeldBuf where
  /-- Address, mask and value of each held WRITE. -/
  writes : List (Nat × Nat × Nat) := []
  /-- A customer image is held: its words. -/
  image : Option (List Word) := none
  /-- Tick of the prepare. -/
  prep : Nat := 0
  deriving DecidableEq, Repr

/-- The barrier (R22–R53). -/
structure LinkSt where
  /-- A training attempt runs (R24). -/
  training : Bool := false
  /-- Host tick at which the latest attempt started. -/
  attemptTick : Nat := 0
  /-- The field half's view of the link. -/
  fUp : Bool := false
  /-- The link-hold timer: the instant, in units, at which it expires (R29). -/
  hold : Option Nat := none
  /-- Link hold has expired and drive waits for the host half (R29). -/
  holdExpired : Bool := false
  txFH : List Nat := [0, 0, 0, 0, 0, 0, 0, 0]
  txHF : List Nat := [0, 0, 0, 0, 0, 0, 0, 0]
  rxFH : List Nat := [0, 0, 0, 0, 0, 0, 0, 0]
  rxHF : List Nat := [0, 0, 0, 0, 0, 0, 0, 0]
  /-- Messages the field half has queued or sent and the host half has not yet received. -/
  outFH : List Msg := []
  /-- Messages the host half has queued or sent and the field half has not yet received. -/
  outHF : List Msg := []
  /-- Virtual channels whose next message carries GAP, field to host. -/
  gapFH : List Nat := []
  /-- Bytes queued on VC4 in the field tick in progress, against its allocation (R126, R280). -/
  vc4Tick : Nat := 0
  /-- Streams marked as a gap on the host half: from this T64 until the field reports again (R30). -/
  gapFrom : Option Nat := none
  /-- T64 of the last message the host half received (R30). -/
  lastRx : Nat := 0
  /-- The planner has lowered the field-to-host budget and sheds at the next boundary (R27). -/
  shedDue : Bool := false
  /-- Streams that the planner has shed (R27): kind 0 RAW, 1 DEC, 2 FILT with the lane, 3 PIN_EDGES with the slot. -/
  shed : List (Nat × Nat) := []
  /-- Float loss episode in progress (source 0x48). -/
  floatLoss : Bool := false
  /-- Source 0x48 has been raised in this episode; it ends below three quarters full. -/
  floatEpisode : Bool := false
  /-- Bytes of burst blocks and waiting data in the Float beside the queued messages. -/
  floatBurst : Nat := 0
  /-- Discards of the field half's filter (XM_HEALTH FDROP), and its last discard. -/
  fDrop : Nat := 0
  /-- Last discard of the host half's filter, laid out as ISO_DROP_LAST. -/
  hDropLast : Nat := 0
  fDropLast : Nat := 0
  fSeqGap : Nat := 0
  /-- Tunnel accesses in flight, oldest first, at most 32 (R49). -/
  inFlight : List Tun := []
  /-- Accesses that wait for room. -/
  waiting : List Tun := []
  /-- Tags of accesses that timed out, whose responses are discarded (R51). -/
  expired : List (Nat × Nat) := []
  /-- Held writes by Escrow slot. -/
  held : List HeldBuf := [{}, {}, {}, {}]
  /-- Commits scheduled by a go: slot and commit tick (R409). -/
  goAt : List (Nat × Nat) := []
  deriving DecidableEq, Repr

/-- Clearing (R79–R83). -/
structure ClrSt where
  /-- Items in the staging area. -/
  staged : List Item := []
  /-- Late items on their way to the late-entries stream, newest first: host T64 of arrival, lateness, item. -/
  late : List (Nat × Nat × Item) := []
  /-- Next arrival number. -/
  arr : Nat := 0
  /-- Release point: tick and era (R80). -/
  relTick : Nat := 0
  relEra : Nat := 0
  /-- Horizon in force (R81). -/
  horizon : Nat := 8
  /-- A squeeze episode runs (R82). -/
  squeeze : Bool := false
  deriving DecidableEq, Repr

/-- The Ledger (R390–R392), held in MRAM. -/
structure LedgerSt where
  /-- Entries held, newest first; the ring has 524,288 slots. -/
  ring : List LEntry := []
  /-- H of the newest entry: 32 bytes (R391); before the first entry 32 zero bytes. -/
  head : List Byte := List.replicate 32 0
  /-- H of the entry before the base (R392, R393). -/
  baseHead : List Byte := List.replicate 32 0
  /-- Entries that wait in the append queue, oldest first (R391). -/
  queue : List LEntry := []
  /-- The open merge: entries merged, first T64, first era, last T64. -/
  merge : Option (Nat × Nat × Nat × Nat) := none
  /-- Appends in the current second, against 250,000 (R391). -/
  rate : Nat := 0
  /-- An unspilled entry was overwritten: source 0x11 is due. -/
  overwriteDue : Bool := false
  /-- Per Corrected source: host tick of its latest mirror entry and the raises since (R438). -/
  mirrored : List (Nat × Nat × Nat) := []
  deriving DecidableEq, Repr

/-- A field fault source raised in the tick in progress, to be composed by cycle 3,968 (R438). -/
structure FRaise where
  id : Nat
  t64 : Nat
  data : Nat
  raises : Nat
  forced : Bool
  react : Nat
  deriving DecidableEq, Repr

/-- The fault collector (R435–R448). -/
structure FaultSt where
  /-- Field raises of the tick in progress. -/
  field : List FRaise := []
  /-- Host time in ticks at which FAULT_N fell and how long it must stay low (R444); 0 when high. -/
  faultN : Option Nat := none
  fieldFaultN : Option Nat := none
  /-- Host ticks at which module resets were taken by fault reaction, newest first (R442). -/
  resets : List Nat := []
  /-- Blocks whose reset is in progress: block code and the tick at which it ends (R441). -/
  resetting : List (Nat × Nat) := []
  /-- Slots whose pod a block reset detaches at the next tick boundary (R441). -/
  podReset : List Nat := []
  /-- The field control processor restarts until this field tick (R441). -/
  fcpUntil : Option Nat := none
  /-- The management core restarts: Clearing holds its staging (R441). -/
  mgmtDown : Bool := false
  /-- A calibration run is to abort with this result (R320, R446). -/
  calAbort : Option Nat := none
  /-- A module reset is due, for this source. -/
  resetDue : Option Nat := none
  /-- The fault seal is due at the next host tick boundary (R446). -/
  faultSeal : Bool := false
  /-- Traps delivered to the management core (R440, reaction N). -/
  traps : Nat := 0
  /-- Ports that have shown drive against a drive-off command: port and consecutive boundaries (R437). -/
  readback : List (Nat × Nat) := []
  deriving DecidableEq, Repr

/-- Edges that a vector used at the pins, in the order they act (R96, R99). -/
inductive PinAct where
  | on | value (v : Nat) | off | term
  deriving DecidableEq, Repr

/-- What a channel holds beside its registers (R96–R128). -/
structure PinRt where
  /-- Last character other than K since the sequencer started (R107). -/
  lastChar : Option Nat := none
  /-- Drive value at the end of the preceding vector (R100). -/
  value : Nat := 0
  /-- EN takes effect for vectors that start at or after this instant, in units of the era (R128). -/
  enFrom : Nat := 0
  /-- EN was cleared: drive-off follows the vector in progress (R128). -/
  stopping : Bool := false
  /-- Transition capture that the planner admitted acts from this instant on, in units (R65, R122). -/
  captFrom : Nat := 0
  /-- Drive edges of the latest vector: offset in units from vector start, action (R96–R102). -/
  wave : List (Nat × PinAct) := []
  /-- End of the de-skew measurement in progress, in units (R114). -/
  deskewEnd : Nat := 0
  /-- Instant from which a level written on a lane role is in force, in units (R112). -/
  lvlFrom : Nat := 0
  /-- The termination is connected (R105, R106). -/
  term : Bool := false
  /-- Transitions captured in the tick in progress: units in the tick, state; oldest first (R120). -/
  capt : List (Nat × Nat) := []
  deriving DecidableEq, Repr

/-- A fail record (R123). -/
structure FailRec where
  t64 : Nat
  vaddr : Nat
  tset : Nat
  flags : Nat := 0
  pinmap : List Nat := []
  vcount : Nat := 0
  rep : Nat := 0
  recno : Nat := 0
  deriving DecidableEq, Repr

/-- The fail unit (R123–R127). -/
structure FailSt where
  /-- Failing vectors whose record is not yet complete, oldest first (R124). -/
  open_ : List FailRec := []
  /-- Records stored in the fail region, oldest first (R125). -/
  stored : List FailRec := []
  /-- Region in force: base and size in MiB. -/
  base : Nat := 0x3C00
  size : Nat := 0x400
  /-- Next record number. -/
  recno : Nat := 0
  /-- Records that wait to be forwarded at the next tick boundary (R126). -/
  fwd : List FailRec := []
  /-- Forwarding limit in force (R126). -/
  fwdMax : Nat := 16
  /-- Records of a dump still to send. -/
  dump : List FailRec := []
  /-- CLEAR waits for the next vector boundary (R125). -/
  clearReq : Bool := false
  deriving DecidableEq, Repr

/-- A vector (R132): characters as one number, four bits a port, port 0 lowest. -/
structure Vec where
  chars : Nat
  opcode : Nat
  tset : Nat
  opa : Nat
  opb : Nat
  opc : Nat
  deriving DecidableEq, Repr

/-- An issued instruction's instances in the pin pipeline (R135): `reps` instances from repetition `rep0` on. -/
structure Inst where
  addr : Nat
  chars : Nat
  tset : Nat
  reps : Nat := 1
  rep0 : Nat := 0
  /-- REP_INDEX comes from the repetition number (REPEAT), else from the loop frame (R138). -/
  repeating : Bool := false
  loopIdx : Nat := 0
  /-- Start instant in units when it is not the end of the preceding instance. -/
  startAt : Option Nat := none
  /-- SYNC_TICK: start cycle (R143). -/
  align : Option Nat := none
  /-- Flags set and cleared at the start (R137), and whether FLAG raises its event. -/
  fset : Nat := 0
  fclr : Nat := 0
  fevt : Bool := false
  /-- Generators stepped at the start (R137). -/
  gstep : Nat := 0
  /-- First vector after an overdraft stall or a restart (R123). -/
  resumed : Bool := false
  /-- A repetition of a MATCH (R142); of a WAIT_TRIG (R141). -/
  isMatch : Bool := false
  isWait : Bool := false
  deriving DecidableEq, Repr

/-- A loop frame (R138). -/
structure LoopFrame where
  addr : Nat
  rem : Nat
  idx : Nat
  deriving DecidableEq, Repr

/-- A service-class request (R167). -/
inductive SvcReq where
  | uregRead (req tag k n : Nat)
  | uregWrite (req tag k : Nat) (ws : List Word)
  | ustoreRead (req tag a n : Nat)
  | blockReset
  | linkHold
  deriving DecidableEq, Repr

/-- The vector sequencer, its memory, control store and micro-sequencer (R132–R172). -/
structure SeqSt where
  /-- Vector memory: (frame × 65,536 + index, vector), addresses rising (R150). -/
  vmem : List (Nat × Vec) := []
  /-- Frames that have taken a refill since WIN_APPLY: frame, TAG, FILL (R150). -/
  frames : List (Nat × Nat × Nat) := []
  /-- Resident window in force: base, count (R151). -/
  winBase : Nat := 0
  winCount : Nat := 1706
  /-- Address of the next instruction to dispatch. -/
  next : Nat := 0
  /-- The instruction in progress. -/
  cur : Option Vec := none
  /-- Instances of the current instruction still to issue, and repetition number of the next (REPEAT cut by a request). -/
  left : Nat := 0
  rep : Nat := 0
  /-- Instances issued by the current instruction (R163). -/
  issued : Nat := 0
  /-- Start of the first repetition of a WAIT_TRIG, in units; combiners that have fired since (R141). -/
  waitFrom : Option Nat := none
  fired : Nat := 0
  /-- The instruction in progress is a WAIT_TRIG; the vector re-dispatched next comes from a loop decision. -/
  inWait : Bool := false
  byLoop : Bool := false
  /-- The fail record of the latest repetition of a MATCH (R142). -/
  matchLast : Option FailRec := none
  /-- MATCH in progress: results, (instant at which known, passed) (R142). -/
  matching : Bool := false
  results : List (Nat × Bool) := []
  /-- The pin pipeline, next to start first (R135). -/
  pipe : List Inst := []
  /-- End of the latest instance that has started, in units. -/
  endAt : Nat := 0
  /-- Start of the latest instance. -/
  lastStart : Nat := 0
  /-- Vector address of the latest instance that has started (R154). -/
  lastAddr : Nat := 0
  /-- The result of the latest instance: instant at which it is known, passed (R162 CMPW). -/
  lastResult : Option (Nat × Bool) := none
  /-- The next instance starts 64 cycles after its issue and counts no underrun (R136, R149, R194). -/
  fresh : Bool := true
  /-- The next instance's fail record carries RESUMED. -/
  resumed : Bool := false
  /-- The first instance after START starts at this boundary, in units (R145). -/
  startAt : Option Nat := none
  /-- What the sequencer enters when the pipeline has run out: 2 PAUSED or 3 HALTED, and the halt cause. -/
  ending : Option (Nat × Nat) := none
  /-- Vector-class requests that wait: STOP with its cause, host JUMP (R146, R147). -/
  stopReq : Option Nat := none
  jumpReq : Bool := false
  /-- STEP: one instance, then a pause (R147). -/
  stepping : Bool := false
  loops : List LoopFrame := []
  calls : List Nat := []
  micro : List Nat := []
  /-- Patches: port, character (R162). -/
  patches : List (Nat × Nat) := []
  /-- CUSTOM: micro-program counter. -/
  mpc : Nat := 0
  /-- The stalled micro-op waits for its condition (R160). -/
  stalled : Bool := false
  /-- Flag changes, and generator step, due at the start of the next issued instance (R162). -/
  pendSet : Nat := 0
  pendClr : Nat := 0
  pendStep : Nat := 0
  /-- EFFECTS of the restart record: flags set, flags cleared, step, events (R169). -/
  effSet : Nat := 0
  effClr : Nat := 0
  effStep : Bool := false
  effEvents : Nat := 0
  /-- Commits since START (R169). -/
  commits : Nat := 0
  /-- Service-class requests that wait, with their instants of arrival in units (R167). -/
  svc : List (Nat × SvcReq) := []
  /-- Gap of an overdraft: its start in units, until the next instance starts (R197). -/
  odGap : Option Nat := none
  /-- Customer banks 0 and 1: microwords written by commits (offset from 0xC000, word), and the bank awaiting its switch (R159). -/
  bank0 : List (Nat × Word) := []
  bank1 : List (Nat × Word) := []
  /-- Earlier values of rewritten timing registers: address, value, last instant in units for which it applies (R98). -/
  tsOld : List (Nat × Word × Nat) := []
  /-- Runtime of the channels, by port. -/
  pins : List (Nat × PinRt) := []
  fail : FailSt := {}
  /-- The DRIVE_INH pin is asserted (R104). -/
  inhPin : Bool := false
  /-- The field half treats SYS_DRIVE_INH as active (R104, R433). -/
  inhField : Bool := true
  /-- An accepted release has reached the field half and ends the inhibit at the next tick boundary (R433). -/
  relDue : Bool := false
  deriving DecidableEq, Repr

/-- A descriptor in progress on a bus-master channel, from fetch to completion (R357, R362). -/
structure Work where
  /-- Ring index of the descriptor. -/
  idx : Nat
  op : Nat
  dflags : Nat := 0
  tag : Nat := 0
  length : Nat := 0
  addr : Nat := 0
  stream : Nat := 0
  first : Nat := 0
  user : Nat := 0
  /-- Bytes transferred that count in BYTES: whole items for REFILL and TAP. -/
  moved : Nat := 0
  /-- Bytes of an item that has not arrived whole. -/
  part : List Byte := []
  /-- Host tick of the latest item of a tap buffer. -/
  lastAdd : Nat := 0
  /-- STATUS and REASON of the completion record, once the work has ended (R360). -/
  ended : Option (Nat × Nat) := none
  deriving DecidableEq, Repr

/-- What a bus-master channel holds beside its registers. -/
structure ChanSt where
  /-- Descriptors in progress, oldest first; at most 256. -/
  fly : List Work := []
  /-- The descriptor cancelled unfetched, from this index on, when a stop is requested: TAIL in force (R364). -/
  stopTail : Option Nat := none
  deriving DecidableEq, Repr

/-- The bus-master transfers, the event queue and acquisition memory's window (R351–R371). -/
structure HdmaSt where
  chans : Vector ChanSt 16 := Vector.replicate 16 {}
  /-- MSI-X vectors masked by the host (R369). -/
  msixMask : Nat := 0
  /-- MSI-X pending bits. -/
  msixPend : Nat := 0
  /-- MSI-X messages sent, oldest first. -/
  msixSent : List Nat := []
  /-- Moderation: vector, entries since its latest message, host tick of the first (R370). -/
  eqMod : List (Nat × Nat × Nat) := []
  /-- An event was lost since the latest written entry (R368). -/
  eqLost : Bool := false
  /-- Entries written, modulo 2^32 (R368). -/
  eqCount : Nat := 0
  /-- Writes to host memory, oldest first: bus address, bytes. -/
  hostWrites : List (Nat × List Byte) := []
  /-- The data of the latest BAR2 read. -/
  bar2Data : List Word := []
  deriving DecidableEq, Repr

/-- A generator beside its registers (R178–R200). -/
structure GenSt where
  /-- Entries written since LIST_CLR: index, 32 bytes. -/
  entries : List (Nat × List Byte) := []
  /-- The entry in use: its 32 bytes. -/
  cur : Option (List Byte) := none
  /-- Step instant of the entry in use, in units of the era. -/
  stepAt : Nat := 0
  /-- The use of the entry in use has not ended (R178). -/
  inUse : Bool := false
  /-- The first entry steps at the first boundary at or after this instant, in units (R192). -/
  startAt : Option Nat := none
  /-- Instant of the first trigger of the WAIT entry in use, in units (R183). -/
  trigAt : Option Nat := none
  /-- STATE before ARM, for CANCEL (R192). -/
  before : Nat := 0
  /-- FREQ and PHASE of the last SET entry executed (R184, R199); none before the first after START or GO. -/
  last : Option (Nat × Nat) := none
  /-- Phase accumulator, 48 bits, at the instant `accAt` (R184). -/
  acc : Nat := 0
  accAt : Nat := 0
  /-- FREQ, AMP, OFFSET and RATIO in force. -/
  freq : Nat := 0
  amp : Nat := 0
  offset : Nat := 0
  ratio : Nat := 0
  /-- The output is at GEN_REST. -/
  rest : Bool := true
  /-- CLIP has been raised for the entry in use (R187). -/
  clipped : Bool := false
  /-- PLAYBACK: position in 2^-32 of an input sample at `posAt`, samples read so far in the run, position frozen (R191, R198). -/
  pos : Nat := 0
  posAt : Nat := 0
  readN : Nat := 0
  frozen : Bool := false
  /-- PLAYBACK: a run has begun, so that SET entries act within it (R191). -/
  inRun : Bool := false
  /-- PLAYBACK: SET entries read ahead: the sample index that they stand at, and their 32 bytes (R191). -/
  sets : List (Nat × List Byte) := []
  /-- Overdraft in force: start in units, ticks counted, index of the missing entry (R198, R199). -/
  od : Option (Nat × Nat × Nat) := none
  /-- The overdraft was for an input sample of the resampler, not at a step (R199). -/
  odSample : Bool := false
  /-- Tick boundary after the missing entry was accepted, in units (R199). -/
  readyAt : Option Nat := none
  /-- The overdraft stopped the generator (OD_ACTION STOP), and RESUME continues it. -/
  odStop : Bool := false
  /-- RESUME has been written and acts at the next tick boundary. -/
  resume : Bool := false
  /-- Disabled: stops at the next tick boundary (R200). -/
  stopping : Bool := false
  /-- The stop boundary, in units (R200). -/
  stopAt : Nat := 0
  deriving DecidableEq, Repr

/-- A crossing detector (R233, R268): the latest samples, newest first, and the arming for rising and falling crossings. -/
structure CrossSt where
  last : List Int := []
  armR : Bool := false
  armF : Bool := false
  deriving DecidableEq, Repr

/-- A lane's configuration set (R213): LANE_CFG and LANE_FILT words and the 128 coefficients. -/
structure LaneSet where
  cfg : Word
  filt : Word
  coefs : List Nat
  deriving DecidableEq, Repr

/-- A sample of a lane stream: instant in units across eras, code (R205), whether it is settled (R224), whether it was limited. -/
structure Smp where
  t : Nat
  c : Int
  ok : Bool := true
  sat : Bool := false
  deriving DecidableEq, Repr

/-- One lane stream (R220–R224): RAW, DEC or FILT. -/
structure StreamSt where
  /-- The stream sends blocks: 0 off, 1 on, 2 burst (RAW). -/
  on : Nat := 0
  /-- Its next block carries SOM; GAP. -/
  som : Bool := false
  gap : Bool := false
  /-- The stream stops after the block in progress: stop instant in units (R87). -/
  stopAt : Option Nat := none
  /-- Blocks sent since power-up (BLOCK_NO). -/
  blocks : Nat := 0
  /-- Unsettled samples left of the run in progress (R223, R224). -/
  unset : Nat := 0
  /-- Samples of the tick in progress, oldest first. -/
  buf : List Smp := []
  deriving DecidableEq, Repr

/-- A lane beside its registers (R204–R230). -/
structure LaneSt where
  /-- The submitted set that awaits effect (R213). -/
  pend : Option LaneSet := none
  /-- The plan boundary of the pending set has been reached; the pod has acknowledged, or needs not (R213). -/
  planned : Bool := false
  acked : Bool := false
  /-- Field tick at which the set is withdrawn unless the pod has acknowledged (R214). -/
  ackBy : Nat := 0
  raw : StreamSt := {}
  dec : StreamSt := {}
  filt : StreamSt := {}
  /-- The longest run of the change in progress, for UNSETTLED_END (R224, R229). -/
  runLen : Nat := 0
  /-- Instant at which the last run ends, in units (R224). -/
  runEnd : Nat := 0
  /-- A burst starts at the next boundary; ticks left of the burst; blocks sent by it; its drain (R225, R227). -/
  burstDue : Bool := false
  burstLeft : Nat := 0
  burstSent : Nat := 0
  /-- Bytes that leave the Float before and with the lane's last burst block (R225, R227). -/
  burstAhead : Nat := 0
  /-- FILT blocks composed and not yet due (R219): field tick at whose boundary they leave, message flags, T64, payload. -/
  filtOut : List (Nat × Nat × Nat × List Byte) := []
  /-- DEC samples that the filter still needs, newest first (R217). -/
  decHist : List Int := []
  /-- Field tick of the next FILT block (R219); CAL_SET at the first sample of recent ticks, newest first: tick, identity (R221). -/
  filtNext : Nat := 0
  calSets : List (Nat × Nat) := []
  /-- The lane's samples are a gap: its pod is removed, or its tunnel is down (R347). -/
  inGap : Bool := false
  /-- The lane converts from this instant on, in units, after its domain came on (R303). -/
  readyAt : Nat := 0
  /-- OVR has been raised in this tick (R229). -/
  ovrTick : Option Nat := none
  deriving DecidableEq, Repr

/-- A reduction set (R250): the ACQ_RED_CTRL word's fields of ACQ_RED_ACT, and the bucket, edge and crossing-limit words. -/
structure RedSet where
  ctrl : Word := 0x00000001
  bucket : Nat := 0
  edge : Nat := 0
  edgeMax : Nat := 0x40
  deriving DecidableEq, Repr

/-- The reductions of a lane. -/
structure RedSt where
  /-- The set in force, shown by ACQ_RED_ACT. -/
  act : RedSet := {}
  /-- The admitted set that awaits its plan boundary; the change in progress clears FRAME (R257). -/
  pend : Option RedSet := none
  /-- History ring of the reduction source, newest first, at most 65,536 samples (R247). -/
  ring : List Smp := []
  /-- Instants of changes, gap starts and gap ends, newest first, at most 64; the lane is in a gap (R247). -/
  breaks : List Nat := []
  gapped : Bool := false
  /-- The interval frame in progress (R252): its samples oldest first, and flags CUT and GAP. -/
  frame : List Smp := []
  cut : Bool := true
  gap : Bool := false
  /-- Samples of the bucket in progress for band pairs, oldest first (R274). -/
  bucket : List Smp := []
  deriving DecidableEq, Repr

/-- An event on its way to a combiner input (R240): input, source code, STAMP and presentation instant, both in 1/256 fraction unit. -/
structure SrcEvt where
  input : Nat
  code : Nat
  stamp : Nat
  at_ : Nat
  deriving DecidableEq, Repr

/-- A combiner (R239–R244). -/
structure CombSt where
  /-- The words in force: CTRL, IN, USE, HOLD, SEQWIN (R244). -/
  ctrl : Word := 0x00000001
  inw : Word := 0xFFFFFFFF
  use : Word := 0
  hold : Nat := 0
  seqwin : Nat := 0
  /-- A write waits for the next tick boundary. -/
  dirty : Bool := false
  /-- Events not yet presented, oldest first. -/
  q : List SrcEvt := []
  /-- SEQUENCE: cycle until which an I1 event fires. -/
  armed : Option Nat := none
  /-- Holdoff: cycle until which firing is held; qualifying events still to skip; REARM is needed (R242). -/
  holdUntil : Nat := 0
  holdLeft : Nat := 0
  needRearm : Bool := false
  /-- Cycle of the latest firing (R241). -/
  lastFire : Option Nat := none
  /-- Cycle at which the output level falls. -/
  levelUntil : Nat := 0
  deriving DecidableEq, Repr

/-- A lane trigger (R231–R236). -/
structure LTrigSt where
  cfg : Word := 0x00800000
  lvl : Word := 0
  t1 : Nat := 0
  t2 : Nat := 0
  dirty : Bool := false
  /-- Detectors of L1 and L2. -/
  d1 : CrossSt := {}
  d2 : CrossSt := {}
  /-- Tick of the latest sample: the first sample of a tick may raise LEVEL's event. -/
  lastTick : Nat := 0
  /-- A positive runt crossed L2 upward and a negative one crossed L1 downward, without the other level since (R232). -/
  runtUp : Bool := false
  runtDn : Bool := false
  /-- STAMPs of the latest counted crossings L1 rising, L1 falling, L2 rising that a pulse, transition or runt can start from. -/
  r1 : Option Nat := none
  f1 : Option Nat := none
  r2 : Option Nat := none
  deriving DecidableEq, Repr

/-- A pin event selector (R237). -/
structure PeSt where
  word : Word := 0
  dirty : Bool := false
  deriving DecidableEq, Repr

/-- An open segment of a capture group (R245–R248). -/
structure SegSt where
  segNo : Nat
  stamp : Nat
  input : Nat
  code : Nat
  fire : Nat
  missed : Nat
  deriving DecidableEq, Repr

/-- A capture group beside its registers. -/
structure GroupSt where
  /-- Segments accepted whose span is open, oldest first. -/
  open_ : List SegSt := []
  /-- FIRE cycle of the previous accepted firing; end of its span in 1/256 unit. -/
  prevFire : Option Nat := none
  prevEnd : Option Nat := none
  /-- Missed firings since the previous header; tick in which SEG_MISS was raised. -/
  missed : Nat := 0
  missTick : Option Nat := none
  /-- Accumulated segments, and the accumulators: lane, code, sums (R255). -/
  accCount : Nat := 0
  acc : List (Nat × Nat × List Int) := []
  /-- Host half: the slot being filled in acquisition memory, the bytes written, and accumulated outputs stored (R249). -/
  slot : Nat := 0
  slotOfs : Nat := 0
  stored : Nat := 0
  /-- Disabled: the segment in progress completes first (R257). -/
  stopping : Bool := false
  deriving DecidableEq, Repr

/-- A snapshot that has been taken and not yet sent (R260): its instant S in units, its number, flags GAP and SKIPPED, and whether it is the unit's
last. -/
structure HeldSnap where
  at_ : Nat
  no : Nat
  gap : Bool := false
  skipped : Bool := false
  final : Bool := false
  deriving DecidableEq, Repr

/-- A Tally histogram (R258, R260–R262). -/
structure HistSt where
  on : Bool := false
  /-- Bins that are not 0: bin, count; bins rising. -/
  bins : List (Nat × Nat) := []
  snapNo : Nat := 0
  held : Option HeldSnap := none
  /-- A snapshot waits for the next boundary after TLY_CTRL.SNAP; the instant, in units, at which snapshots were last looked at. -/
  asked : Bool := false
  snapAt : Nat := 0
  skipped : Bool := false
  gap : Bool := false
  /-- SATURATED has been raised since the latest snapshot. -/
  satDone : Bool := false
  /-- Disabled: the final snapshot is taken at the next tick boundary (R257). -/
  stopping : Bool := false
  /-- Samples not yet merged, oldest first, and the units from which the unit counts (R265). -/
  buf : List Smp := []
  from_ : Nat := 0
  deriving DecidableEq, Repr

/-- A sweep of a persistence map (R259): its STAMP in units, whether TLY_M_SWEEPS has counted it, and whether samples that were merged before it
began are still to be counted in it. -/
structure Sweep where
  stamp : Nat
  counted : Bool := false
  fresh : Bool := true
  deriving DecidableEq, Repr

/-- A Tally persistence map (R259–R262). -/
structure MapSt where
  on : Bool := false
  /-- Bins that are not 0: time bin × 512 + amplitude bin, count. -/
  bins : List (Nat × Nat) := []
  /-- Sweeps that samples may still fall in, oldest first. -/
  sweeps : List Sweep := []
  snapNo : Nat := 0
  held : Option HeldSnap := none
  asked : Bool := false
  snapAt : Nat := 0
  skipped : Bool := false
  gap : Bool := false
  satDone : Bool := false
  stopping : Bool := false
  buf : List Smp := []
  /-- Samples already merged that a sweep with a negative TOFS may still reach. -/
  old : List Smp := []
  from_ : Nat := 0
  deriving DecidableEq, Repr

/-- The acquisition engine (R231–R265). -/
structure AcqSt where
  combs : Vector CombSt 16 := Vector.replicate 16 {}
  ltrigs : Vector LTrigSt 48 := Vector.replicate 48 {}
  pes : Vector PeSt 16 := Vector.replicate 16 {}
  groups : Vector GroupSt 4 := Vector.replicate 4 {}
  hists : Vector HistSt 48 := Vector.replicate 48 {}
  maps : Vector MapSt 8 := Vector.replicate 8 {}
  /-- Level of each source over time, newest first: source code, instant in 1/256 unit, level. -/
  levels : List (Nat × Nat × Bool) := []
  /-- Input level of TRIG_IN0–3. -/
  trigIn : Nat := 0
  deriving DecidableEq, Repr

/-- An item of the correction bank in force (R316, R321): ITEM_ID and A, B, C. -/
abbrev BankItem := CalItem

/-- A request on a pod's management link (R333–R335): command, payload, the retries left, its instant in units. -/
structure PodReq where
  cmd : Nat
  payload : List Byte := []
  tries : Nat := 3
  at_ : Nat := 0
  /-- A request of the host half, which its answer is relayed to (R346). -/
  host : Bool := false
  tag : Nat := 0
  deriving DecidableEq, Repr

/-- A slot's pod manager beside its registers (R329–R349). -/
structure PodSt where
  /-- Sequence number of the latest request; the request that waits for its answer. -/
  seq : Nat := 0
  cur : Option PodReq := none
  /-- Requests that wait: HOLD with its byte, CONFIG, LEVEL by port and level, POLL, STRESS_READ, CHALLENGE, requests of the host half. -/
  hold : Option Nat := none
  cfg : Bool := false
  levels : List (Port × LevelReg) := []
  poll : Bool := false
  stress : Bool := false
  chalDue : Bool := false
  asked : List PodReq := []
  /-- Step of the attach in progress (R339), 0 none, and the instant it began, in units. -/
  step : Nat := 0
  stepAt : Nat := 0
  /-- Rate under trial (R339 step 4), its LINK_TEST frames passed, and the highest rate left after lowered rates (R336). -/
  cand : Nat := 0
  tests : Nat := 0
  cap : Nat := 2
  /-- BOOT_TICKS of an earlier attach, while the presence contact has stayed closed (R339). -/
  bootTicks : Option Nat := none
  /-- The certificate read so far, and the certificate digest of the pod that is attached or was lost. -/
  cert : List Byte := []
  digest : List Byte := []
  /-- The challenge of the latest request, its signature while it waits for the stress chain's head (R342). -/
  challenge : List Byte := []
  sig : Option (List Byte) := none
  /-- Instants of retries at the rate in force, in units, newest first (R336). -/
  retries : List Nat := []
  /-- The link was lost at this instant; the next renegotiation; a renegotiation runs (R336, R330). -/
  lostAt : Option Nat := none
  renegAt : Nat := 0
  reneg : Bool := false
  /-- The pod holds itself, or reported sense-only (R330, R337). -/
  selfHeld : Bool := false
  /-- HOLD_N is low because of the loss of the link; the pod manager releases HOLD_N otherwise (R330). -/
  lossHeld : Bool := false
  released : Bool := false
  /-- Instant of the next challenge, of the next poll, of a repeated check, in units, and checks failed in a row (R342, R343). -/
  challengeAt : Nat := 0
  pollAt : Nat := 0
  recheckAt : Option Nat := none
  recheckFails : Nat := 0
  /-- Stress chains by certificate digest: entries read and the CHAIN of the last (R344, R345). -/
  chains : List (List Byte × Nat × List Byte) := []
  /-- The removal is to be reported at the next tick boundary (R347); ATTACHED at the next. -/
  detachDue : Bool := false
  attachDue : Bool := false
  /-- Firmware: bytes of the part that the pod has taken, and a status other than OK or a mismatch (R457). -/
  fwGot : Nat := 0
  fwBad : Bool := false
  deriving DecidableEq, Repr

/-- An item of a compare source (R267): live instant in units, the state entered (0 MID, 1 LOW, 2 HIGH, 15 none), the T64 and era in the
source's own time, and the values of a band entry (for ENV minimum and maximum). -/
structure CItem where
  t : Int
  st : Nat := 15
  t64 : Nat
  era : Nat := 0
  v1 : Int := 0
  v2 : Int := 0
  deriving DecidableEq, Repr

/-- A compare pair beside its registers (R266–R288). -/
structure PairSt where
  /-- Items not yet decided, oldest first, and the latest states passed. -/
  ref : List CItem := []
  cand : List CItem := []
  refDet : CrossSt := {}
  candDet : CrossSt := {}
  /-- State of each side after the items decided (R273). -/
  refSt : Nat := 15
  candSt : Nat := 15
  /-- Presented through, in units, each side (R272). -/
  refThru : Int := 0
  candThru : Int := 0
  /-- Start of the absent span in progress, each side (R269). -/
  absRef : Option Int := none
  absCand : Option Int := none
  /-- The spans whose decisions are not judged: start, end. -/
  spans : List (Int × Int) := []
  /-- Boundary at which the learning window starts, in units; a new window is due (R277, R278). -/
  learnAt : Nat := 0
  relearn : Bool := false
  /-- Instant, in units, since which L is in force (R276). -/
  latAt : Nat := 0
  /-- The run of failures in progress: length, first D, first items; its record has been produced (R275). -/
  run : Nat := 0
  runD : Int := 0
  runRef : Option CItem := none
  runCand : Option CItem := none
  runDone : Bool := false
  /-- Reference edges whose in-window decision found no match and whose TIMING decision is due (R271). -/
  wait : List CItem := []
  /-- Next state instant of SMODE 0, and instants of SMODE 1 not yet decided (R273). -/
  nextAt : Int := 0
  fires : List Int := []
  /-- First reference instant that is judged (R277). -/
  judgeFrom : Int := 0
  /-- Matches since the previous record; records not forwarded since the previous forwarded one; decisions since enable. -/
  since : Nat := 0
  supp : Nat := 0
  decisions : Nat := 0
  /-- Reading of reference records (R282, R283): next address, BASE of the previous record, start of the span in which a record was not
resident, end of the stream as a live instant. -/
  rdAddr : Nat := 0
  rdBase : Option Nat := none
  rdAbs : Option Int := none
  rdEnd : Option Int := none
  /-- First live instant judged after a record was late (R283). -/
  rdFrom : Option Int := none
  /-- Items discarded because the queue was full, and the instant of the first (R281). -/
  lost : Nat := 0
  lostAt : Int := 0
  /-- Instant of the latest discarded item. -/
  lostTo : Int := 0
  /-- The pair entered BROKEN under R284 and its record is due. -/
  broke : Bool := false
  /-- The host half's Ledger entries of this pair (R280): a discrepancy since RUN, tick of the latest entry, discrepancies since. -/
  told : Bool := false
  toldTick : Nat := 0
  untold : Nat := 0
  deriving DecidableEq, Repr

/-- The compare engine (R266–R288). -/
structure CmpSt where
  pairs : Vector PairSt 128 := Vector.replicate 128 {}
  /-- Discrepancy records forwarded in the tick in progress (R280); items taken in it (R281). -/
  sent : Nat := 0
  items : Nat := 0
  /-- Gaps of linked streams in progress: stream (0–47 a generator, 48 the sequencer), start in units (R284). -/
  gaps : List (Nat × Nat) := []
  /-- Gaps that have ended: stream, length in units, end in units (R284). -/
  ended : List (Nat × Nat × Nat) := []
  deriving DecidableEq, Repr

/-- A guard window beside its registers (R290–R301). -/
structure GrdSt where
  /-- Its next present sample is its first (R297). -/
  start : Bool := true
  /-- Raw bits, newest first, at most 15 (R296). -/
  bits : List Bool := []
  deriving DecidableEq, Repr

/-- The guard windows and the quiet state (R290–R305). -/
structure GuardSt where
  wins : Vector GrdSt 64 := Vector.replicate 64 {}
  /-- An INHIBIT reaction acts at the next tick boundary (R299). -/
  inhDue : Bool := false
  /-- Window whose rise ends the quiet state, and the tick of the sample (R303). -/
  wake : Option (Nat × Nat) := none
  /-- A quiet request waits for the next tick boundary (R302). -/
  enterDue : Bool := false
  /-- Domains that the quiet state switched off (bits of SYS_PWR_STAT), and the tick by which the configuration returns (R303). -/
  off : Nat := 0
  restoreBy : Option Nat := none
  /-- What ran before the quiet state: LANE_STREAM words by lane, FRAME fields by lane, EN bits of Tally units, pairs and groups (R303). -/
  streams : List (Nat × Nat) := []
  frames : List (Nat × Nat) := []
  hists : List Nat := []
  maps : List Nat := []
  pairs : List Nat := []
  groups : List Nat := []
  deriving DecidableEq, Repr

/-- A metrology conversion in progress (R308–R310): MC_SEL, MET_MC_CFG word, start, length and integration length in units, whether it started before
READY or on a fallback line period, and whether a change since discards it. -/
structure ConvSt where
  sel : Nat
  cfg : Word
  at_ : Nat
  len : Nat
  integ : Nat
  unsettled : Bool := false
  fallback : Bool := false
  stale : Bool := false
  deriving DecidableEq, Repr

/-- A correction set (R321). -/
structure CalSet where
  count : Nat
  era : Nat
  t64 : Nat
  temp : Int
  refv : Nat
  slots : Nat
  /-- POD_ID of the sixteen slots, 16 bytes each. -/
  ids : List (List Byte)
  items : List BankItem
  deriving DecidableEq, Repr

/-- A correction bank that has been built (R323, R324): its temperature, MET_BANK_SRC word, slots with usable sets and items. -/
structure BankSt where
  tb : Int
  src : Nat
  slots : Nat
  items : List BankItem
  /-- The build follows an accepted run, whose bank swap MET_CAL_LAST dates (R319). -/
  accepted : Bool := false
  deriving DecidableEq, Repr

/-- The metrology converter and calibration beside their registers (R306–R328). -/
structure MetSt where
  conv : Option ConvSt := none
  /-- Codes since the latest change, newest first (R309). -/
  hist : List Int := []
  /-- START asks for one settled reading. -/
  want : Bool := false
  /-- Latest LINE_SYNC edge, and the latest line periods in cycles, newest first (R308). -/
  edge : Option Nat := none
  periods : List Nat := []
  /-- Instant, in units, at which READY rises, and at which the buffer was switched off (R312). -/
  readyAt : Nat := 0
  offAt : Option Nat := none
  /-- A housekeeping scan waits for a user conversion; start of the scan in progress; previous reading of 0x060 (R313, R314). -/
  hkDue : Bool := false
  hkAt : Nat := 0
  refPrev : Option Int := none
  /-- A run starts at the next tick boundary; slots measured by the run in progress (R316–R320). -/
  runDue : Bool := false
  runSlots : Nat := 0
  /-- Sets in use on the field half, by place; the accepted set that is not stored yet, with the instant of its acceptance (R322). -/
  sets : List (Nat × CalSet) := []
  newSet : Option (Nat × CalSet) := none
  /-- Places whose digest failed at load. -/
  badPlaces : List Nat := []
  /-- Image arriving at the field half, and at the host half: place, total length, bytes (R326). -/
  rx : Option (Nat × Nat × List Byte) := none
  hrx : Option (Nat × Nat × List Byte) := none
  /-- The eight set places of the configuration store (R322). -/
  store : List (Nat × List Byte) := []
  /-- A bank is being built: start in units and Tb; a further build is due; the bank that is ready and the instant (R324). -/
  build : Option (Nat × Int) := none
  again : Bool := false
  ready : Option (Nat × BankSt) := none
  /-- De-skew runs of pass 2 and the accepted run's swap, due with the next bank (R319). -/
  deskew : List (Nat × List Nat) := []
  accepted : Bool := false
  deriving DecidableEq, Repr

/-- A drive of the record store (R373–R379). -/
structure DriveSt where
  /-- The link is up, and the drive was accepted. -/
  link : Bool := false
  accepted : Bool := false
  /-- Namespace 1 size in bytes, bytes of a Write or Read, and the superblock that it carries (R374, R375). -/
  size : Nat := 0
  cmd : Nat := 131072
  super : Option (List Byte) := none
  /-- Units that wait to be written, oldest first: number of the stripe since FORMAT, bytes left (R380). -/
  q : List (Nat × Nat) := []
  /-- A command was aborted and its Abort has not completed (R374). -/
  aborting : Bool := false
  deriving DecidableEq, Repr

/-- An open record block (R383): era and items, oldest first: kind, T64, bytes. -/
structure OpenBlk where
  era : Nat
  items : List (Nat × Nat × List Byte) := []
  deriving DecidableEq, Repr

/-- A closed record block (R382), without its packing; T64_FIRST and T64_LAST of a filler or loss block are given. -/
structure RBlock where
  stream : Nat
  bflags : Nat
  seq : Nat
  era : Nat
  items : List (Nat × Nat × List Byte)
  first : Nat
  last : Nat
  sealNo : Nat
  prev : List Byte
  deriving DecidableEq, Repr

/-- A seal instant whose seal is not issued (R384): the instant S, what the record holds of it, drives whose Flush is outstanding, and
the T64 of the request to the Mint. -/
structure SealSt where
  era : Nat
  t64 : Nat
  cover : Nat
  coverAbs : Nat
  epoch : Nat
  /-- SEQ that follows the last covered block, its CHAIN, the stripes queued so far, the write pointer. -/
  next : Nat
  chain : List Byte
  run : Nat
  wp : Nat
  waits : List Nat
  asked : Option Nat := none
  eraClose : Bool := false
  noStore : Bool := false
  deriving DecidableEq, Repr

/-- Blocks that a loss of power took from the record (R393): first and last T64, blocks, bytes, the SEQ that follows the last, first and last tick across
eras. -/
structure LostSpan where
  first : Nat
  last : Nat
  blocks : Nat
  bytes : Nat
  next : Nat
  from_ : Nat
  to_ : Nat
  deriving DecidableEq, Repr

/-- The record store (R372–R395). -/
structure StoreSt where
  drives : Vector DriveSt 4 := Vector.replicate 4 {}
  /-- The formatted store: STORE_ID, layout, FORMAT_T64 and its era, port of each position (R375, R377). -/
  id : Option (List Byte) := none
  layout : Nat := 0
  fmtT64 : Nat := 0
  fmtEra : Nat := 0
  ports : List Nat := []
  /-- Positions lost; the store has FAILED (R378). -/
  lost : List Nat := []
  failed : Bool := false
  /-- Rebuild: position, stripes to rebuild (R379). -/
  rebuild : Option (Nat × Nat) := none
  /-- Open blocks of ORDERED and LATE (R383). -/
  openO : Option OpenBlk := none
  openL : Option OpenBlk := none
  /-- Blocks of the stripe in progress, in slot order; stripes completed since FORMAT. -/
  stripe : List RBlock := []
  run : Nat := 0
  /-- Retained stripes, newest first: stripe, its blocks. -/
  held : List (Nat × List RBlock) := []
  /-- CHAIN of the latest block (R382). -/
  chain : List Byte := List.replicate 32 0
  /-- Durable head (R393): next SEQ, CHAIN, write pointer. -/
  durNext : Nat := 0
  durChain : List Byte := List.replicate 32 0
  durWp : Nat := 0
  /-- Pins: first and last SEQ, stripes; placement marks, newest first: SEQ, stripe (R387, R388). -/
  pins : List (Nat × Nat × List Nat) := []
  marks : List (Nat × Nat) := []
  /-- Episode of discarded blocks (R381): blocks, bytes, first and last T64, first and last tick across eras. -/
  loss : Option (Nat × Nat × Nat × Nat × Nat × Nat) := none
  /-- Seals held, newest first (R386); the seal in progress; SEAL_NOW; tick of the latest seal instant. -/
  seals : List (List Byte) := []
  pend : Option SealSt := none
  sealNow : Bool := false
  lastInst : Option Nat := none
  /-- Seals abandoned and blocks discarded since the previous seal (R385). -/
  merged : Nat := 0
  discarded : Nat := 0
  /-- Ledger entries in blocks that are not durable: index, SEQ; indices above LDG_SPILLED that are durable (R392). -/
  toSpill : List (Nat × Nat) := []
  spilled : List Nat := []
  /-- The read in progress: first SEQ, blocks, destination; blocks of it whose Read failed (R389). -/
  read : Option (Nat × Nat × Nat) := none
  readBad : List Nat := []
  /-- The store resumes with a loss block, and the Ledger is handed to Clearing again (R393). -/
  resume : Bool := false
  restart : Option LostSpan := none
  deriving DecidableEq, Repr

/-- A SENTINEL tick that waits to be judged (R449): tick across eras, and what is known of it. -/
structure TickRec where
  abs : Nat
  quiet : Bool := false
  down : Bool := false
  reported : Bool := false
  gap : Bool := false
  loss : Bool := false
  deriving DecidableEq, Repr

/-- Availability accounting (R449–R451). -/
structure AvailSt where
  /-- Ticks to be judged, oldest first. -/
  recs : List TickRec := []
  /-- Episode in progress: first tick, last tick, causes. -/
  ep : Option (Nat × Nat × Nat) := none
  /-- Uncovered ticks by day: number of the day across eras, sum. -/
  days : List (Nat × Nat) := []
  /-- Spans of ticks that loss records name. -/
  losses : List (Nat × Nat) := []
  /-- COVER of the latest seal without NO_STORE, as a tick across eras. -/
  cover : Nat := 0
  /-- A module reset happened at this tick and its span is not yet recorded again (R450). -/
  reset : Option (Nat × Nat) := none
  /-- SENTINEL was in force when 12 V was lost (R449). -/
  sentinel : Bool := false
  deriving DecidableEq, Repr

/-- An operation of a change packet (R404). -/
inductive EscOp where
  | write (addr mask value : Nat)
  | image (words : List Word)
  | enrol (slot : Nat) (key : List Byte)
  | revoke (slot : Nat)
  | rotate
  deriving DecidableEq, Repr

/-- An Escrow slot beside its registers (R404–R411). -/
structure EscSlot where
  ops : List EscOp := []
  digest : List Byte := []
  base : List Byte := []
  signer : Nat := 0
  /-- COMMIT_AT as a tick across eras; 0 none. -/
  commitAt : Nat := 0
  /-- Expiry, tick across eras. -/
  expiry : Nat := 0
  /-- The check has ended and the slot becomes STAGED at this tick. -/
  stageAt : Option Nat := none
  /-- The slot is reserved by a packet. -/
  used : Bool := false
  /-- APPROVE is verified. -/
  approved : Bool := false
  /-- The packet enrols the first keys (R413). -/
  first : Bool := false
  /-- Held writes whose answer is outstanding; the answer to the go arrived; commit tick c across eras (R409). -/
  waits : Nat := 0
  answered : Bool := false
  goSent : Bool := false
  /-- FCTL_ESC_DONE has been asked for; what it showed: the field part applied; host tick, across eras, of the prepare. -/
  asked : Bool := false
  fieldDone : Option Bool := none
  prepAt : Nat := 0
  commit : Nat := 0
  deriving DecidableEq, Repr

/-- A copy of the protection set in the configuration store (R401): PL words, customer bank, keys. -/
structure PsetCopy where
  words : List (Nat × Word) := []
  bank : List (Nat × Word) := []
  keys : List (Nat × List Byte) := []
  deriving DecidableEq, Repr

/-- The security island beside its registers (R397–R415). -/
structure SecSt where
  /-- Enrolled public keys: 0–7 makers, 8–15 checkers, 16 the owner. -/
  keys : List (Nat × List Byte) := []
  slots : List EscSlot := [{}, {}, {}, {}]
  /-- A packet or a token is being verified: its bytes (R405, R407). -/
  pkt : Option (List Byte) := none
  tok : Option (List Byte) := none
  /-- Record Seal certificates made by ROTATE_SEAL, newest first; keys rotated so far (R399). -/
  certs : List (List Byte) := []
  rotations : Nat := 0
  /-- The bytes of the latest audit report (R414). -/
  report : List Byte := []
  /-- Protection-set copies in the configuration store, newest first (R401). -/
  copies : List PsetCopy := []
  deriving DecidableEq, Repr

/-- Start-up, the configuration store's image slots and the supplies (R416–R427, R482, R483). -/
structure StartSt where
  /-- The field supply is in range (R427, R482). -/
  supply : Bool := true
  /-- 12 V is present. -/
  power : Bool := true
  /-- Image slots: each byte that is not erased, by offset, as its complement; the slot marked active for the next start-up (R416, R424). -/
  slot0 : List Host.Cell := []
  slot1 : List Host.Cell := []
  active : Nat := 0
  /-- Erase or program in progress (1 erase; 2 program with its offset and words); a check is in progress (R424). -/
  imgOp : Option (Nat × Nat × List Word) := none
  imgCheck : Bool := false
  /-- Step of start-up in progress, 1–9, 10 for the records behind the MODE record, 0 when it has ended or has not begun; records of the image
  still to apply: index, header and data (R417, R423). -/
  step : Nat := 0
  recs : List (Nat × List Byte) := []
  /-- The next record waits for this tick, counted across eras (DELAY); the tunnel write whose response the next record waits for: TAG, address, mask,
  value. -/
  holdTo : Option Nat := none
  waiting : Option (Nat × Nat × Nat × Nat) := none
  /-- The mode that the image names; SERVICE without an image (R422). -/
  imgMode : Nat := 1
  /-- The mode of step 9 has been requested. -/
  asked : Bool := false
  /-- An admitted move: mode, tick of its boundary across eras (R431). The field half has still to stop what the mode does not permit. -/
  moving : Option (Nat × Nat) := none
  stopsDue : Bool := false
  /-- Field shutdown was raised at this field tick across eras; F2–F11 have switched off for it (R483). -/
  fieldHot : Option Nat := none
  fieldOff : Bool := false
  /-- Host shutdown: the tick across eras at which H3 and H5 switch off at the latest; they have switched off for it (R448). -/
  hostHot : Option Nat := none
  hostOff : Bool := false
  deriving DecidableEq, Repr
/-- A firmware bank (R455): its state (0 EMPTY, 1 STAGED, 2 TRIAL, 3 ACTIVE, 4 PREVIOUS), whether it still holds what was programmed at manufacture, and each
byte programmed since that is not erased, by offset, as its complement. -/
structure FwBank where
  st : Nat := 0
  factory : Bool := false
  bytes : List Host.Cell := []
  deriving DecidableEq, Repr

/-- A firmware part that crosses to the field half (R48): part code, total length, bytes so far. -/
structure FwPart where
  code : Nat
  total : Nat
  data : List Byte
  deriving DecidableEq, Repr

/-- The coordinated update (R453–R468). -/
structure UpdSt where
  bankA : FwBank := { st := 3, factory := true }
  bankB : FwBank := {}
  /-- Erase (1), program (2) with its offset and words, or verification (3) in progress. -/
  op : Option (Nat × Nat × List Word) := none
  /-- Parts are being distributed (R457). -/
  dist : Bool := false
  /-- Field half: parts in the inactive banks, the manifest first as code 0; parts that run and those that ran before, by code with their digest. -/
  rx : List FwPart := []
  run : List (Nat × List Byte) := []
  old : List (Nat × List Byte) := []
  /-- Vendor region as loaded from a part, and as it was before (R158). -/
  vendor : Option (List Byte) := none
  oldVendor : Option (List Byte) := none
  /-- The activation record (R465): ticks, across eras, of A, of the decision sample's boundary and of the commit sample's boundary. -/
  act : Option (Nat × Nat × Nat) := none
  /-- From the decision sample until the end of the field stage (R466). -/
  holding : Bool := false
  /-- The host stage has ended; the field stage has ended; its end in field ticks across eras, until which the pins hold. -/
  hostDone : Bool := false
  fieldDone : Bool := false
  holdTo : Option Nat := none
  /-- Health has failed: no boundary b within 1 s (R461). -/
  failed : Bool := false
  /-- Mode in force and RECORDING before A; fault sources raised since A, watched while `watch` (R462). -/
  modeWas : Nat := 0
  recWas : Bool := false
  watch : Bool := false
  raised : List Nat := []
  /-- A revert runs its stages; a loss of 12 V or a module reset has brought a revert about that is still to be recorded (R464, R465); the module holds
  CELL_SYNC low until this tick's commit sample. -/
  reverting : Bool := false
  lost : Bool := false
  lowTo : Option Nat := none
  /-- FW_COMMITs that the pod managers owe: slot, digest of the part (R461, R464, R467). -/
  commits : List (Nat × List Byte) := []
  deriving DecidableEq, Repr
/-- The state of the module: the register file, the blocks, and the queue of waiting commands. -/
structure State where
  /-- The registers that differ from their reset values: (address, word), addresses strictly rising. -/
  regs : List (Nat × Word) := []
  io : IoSt := {}
  time : TimeSt := {}
  plan : PlanSt := {}
  link : LinkSt := {}
  clr : ClrSt := {}
  ledger : LedgerSt := {}
  fault : FaultSt := {}
  seq : SeqSt := {}
  hdma : HdmaSt := {}
  /-- Acquisition memory: (address, byte), addresses rising; an unlisted byte reads 0. -/
  mem : List Host.Cell := []
  /-- Generators G0–G47. -/
  gens : Vector GenSt 48 := Vector.replicate 48 {}
  /-- Lanes L0–L47. -/
  lanes : Vector LaneSt 48 := Vector.replicate 48 {}
  /-- Reductions of lanes L0–L47. -/
  reds : Vector RedSt 48 := Vector.replicate 48 {}
  acq : AcqSt := {}
  /-- Items of the correction bank in force, from sets that are usable (R323). -/
  bank : List BankItem := []
  /-- Pod managers of S0–S15. -/
  pods : Vector PodSt 16 := Vector.replicate 16 {}
  cmp : CmpSt := {}
  grd : GuardSt := {}
  met : MetSt := {}
  store : StoreSt := {}
  avail : AvailSt := {}
  sec : SecSt := {}
  start : StartSt := {}
  upd : UpdSt := {}
  /-- Free values used so far: the model's own counter, which numbers the open values of the specification. -/
  freeCount : Nat := 0
  /-- The commands that wait, first in first out. -/
  pending : List Instr := []
  deriving DecidableEq, Repr

/-- Reasons the machine stops with a fault. No meaning raises one: the specification ends no operation of the module by stopping it
(safe: the constructor is never answered). -/
inductive Fault where
  /-- Raised by no command; kept so that the type names what a stop would be. Safe. -/
  | stopped
  deriving DecidableEq, Repr

/-- Reasons a command has no meaning in the model. -/
inductive Refusal where
  /-- Raised by an arm of exec whose command the model does not cover; it carries the mnemonic. Safe. -/
  | notModelled (mnemonic : String)
  deriving DecidableEq, Repr

/-- The module right after reset: every register at the Reset column of its table, nothing in progress, an empty queue. [DESIGN CHOICE, log 4, unsafe; DESIGN CHOICE, log 5, unsafe; DESIGN CHOICE, log 6, unsafe; DESIGN CHOICE, log 7, unsafe] -/
def State.reset : State := {}

end Sys2Proof.Machine
end

