-- ==== Sys2Proof/Machine/Ops.lean ====
section
/-! DEFINITION. The named operations over the state: registers and fields, counters and results, time, barrier messages, events,
Clearing's staging, the event queue and the Ledger. Every meaning is written over these. -/

namespace Sys2Proof.Machine

/-! ### The register file

A list of (address, word) pairs with addresses strictly rising and no entry equal to its register's reset value. -/

/-- The word listed at an address. -/
def regsFind : List (Nat × Word) → Nat → Option Word
  | [], _ => none
  | (b, v) :: r, a => if a = b then some v else regsFind r a

/-- The list without what it lists at an address. -/
def regsErase : List (Nat × Word) → Nat → List (Nat × Word)
  | [], _ => []
  | (b, v) :: r, a => if a = b then regsErase r a else (b, v) :: regsErase r a

/-- The list with a word placed before the first address above its own. -/
def regsInsert : List (Nat × Word) → Nat → Word → List (Nat × Word)
  | [], a, x => [(a, x)]
  | (b, v) :: r, a, x => if a < b then (a, x) :: (b, v) :: r else (b, v) :: regsInsert r a x

/-- The register word at an address: the listed word, or the reset value. -/
def regsGet (l : List (Nat × Word)) (a : Nat) : Word := (regsFind l a).getD (regReset a)

/-- The list after a write; writing the reset value removes the entry. -/
def regsSet (l : List (Nat × Word)) (a : Nat) (x : Word) : List (Nat × Word) :=
  if x = regReset a then regsErase l a else regsInsert (regsErase l a) a x

/-- Every address listed is above `b`, addresses rise, and no entry equals its reset value. -/
def regsWfFrom : Option Nat → List (Nat × Word) → Bool
  | _, [] => true
  | b, (a, x) :: r => (b.all (fun n => n < a)) && (x != regReset a) && regsWfFrom (some a) r

/-- The canonical form of the register file. -/
def regsWf (l : List (Nat × Word)) : Bool := regsWfFrom none l

/-- The word of a register. -/
def State.rd (s : State) (a : Nat) : Word := regsGet s.regs a

/-- Write a register's word. -/
def State.wr (s : State) (a : Nat) (x : Word) : State := { s with regs := regsSet s.regs a x }

/-- A register as a number. -/
def State.val (s : State) (a : Nat) : Nat := (s.rd a).toNat

/-- Write a number to a register, modulo 2^32. -/
def State.put (s : State) (a v : Nat) : State := s.wr a (BitVec.ofNat 32 v)

/-- A field of a register. -/
def State.get (s : State) (f : Fld) : Nat := fieldOf (s.rd f.addr) f.lo f.w

/-- Write a field of a register, modulo 2^w; the register's other bits stay. -/
def State.set (s : State) (f : Fld) (v : Nat) : State := s.wr f.addr (withField (s.rd f.addr) f.lo f.w v)

/-- A one-bit field reads 1. -/
def State.is (s : State) (f : Fld) : Bool := s.get f == 1

/-- A field read as a signed number. -/
def State.sget (s : State) (f : Fld) : Int := signedOf f.w (s.get f)

/-- A register read as a signed 32-bit number. -/
def State.sval (s : State) (a : Nat) : Int := signedOf 32 (s.val a)

/-- A register pair, low word first (R9). -/
def State.val64 (s : State) (a : Nat) : Nat := s.val a + 2 ^ 32 * s.val (a + 4)

/-- Write a register pair. -/
def State.put64 (s : State) (a v : Nat) : State := (s.put a v).put (a + 4) (v / 2 ^ 32)

/-- Write the same value to each register of a list. -/
def State.putAll (s : State) (l : List Nat) (v : Nat) : State := l.foldl (fun t a => t.put a v) s

/-- Write the same value to each field of a list. -/
def State.setAll (s : State) (l : List Fld) (v : Nat) : State := l.foldl (fun t f => t.set f v) s

/-- Return every register of an address range to its reset value, but for those that `keep` names. -/
def State.resetRange (s : State) (lo hi : Nat) (keep : Nat → Bool) : State :=
  { s with regs := s.regs.filter (fun p => p.1 < lo || hi < p.1 || keep p.1) }

/-- Change every listed register by `f`; `f` must leave reset values as they are. -/
def State.mapRegs (s : State) (f : Nat → Word → Word) : State :=
  { s with regs := s.regs.filterMap (fun p => let y := f p.1 p.2; if y = regReset p.1 then none else some (p.1, y)) }

/-! ### Acquisition memory: bytes by address, listed where they are not 0 -/

/-- The byte at an address: the listed one, or 0. [DESIGN CHOICE, log 4, unsafe] -/
def memFind : List Host.Cell → Nat → Byte
  | [], _ => 0
  | (b, v) :: r, a => if a = b then v else memFind r a

/-- The memory without what it lists at an address. -/
def memErase : List Host.Cell → Nat → List Host.Cell
  | [], _ => []
  | (b, v) :: r, a => if a = b then memErase r a else (b, v) :: memErase r a

/-- The memory with a byte placed before the first address above its own. -/
def memInsert : List Host.Cell → Nat → Byte → List Host.Cell
  | [], a, x => [(a, x)]
  | (b, v) :: r, a, x => if a < b then (a, x) :: (b, v) :: r else (b, v) :: memInsert r a x

/-- The memory after one byte is written; a 0 removes the entry. -/
def memSet (m : List Host.Cell) (a : Nat) (x : Byte) : List Host.Cell := if x = 0 then memErase m a else memInsert (memErase m a) a x

/-- The memory after bytes are written from an address on. -/
def memWrite : List Host.Cell → Nat → List Byte → List Host.Cell
  | m, _, [] => m
  | m, a, x :: xs => memWrite (memSet m a x) (a + 1) xs

/-- `n` bytes of memory from an address on. -/
def memRead (m : List Host.Cell) (a : Nat) : Nat → List Byte
  | 0 => []
  | n + 1 => memFind m a :: memRead m (a + 1) n

/-- Addresses rise above `b` and no entry is 0. -/
def memWfFrom : Option Nat → List Host.Cell → Bool
  | _, [] => true
  | b, (a, x) :: r => (b.all (fun n => n < a)) && (x != 0) && memWfFrom (some a) r

/-- The canonical form of acquisition memory. -/
def Memory.wf (m : List Host.Cell) : Bool := memWfFrom none m

/-- Bytes of acquisition memory that are fitted. -/
def memBytes : Nat := Config.memGiB * 2 ^ 30

/-- First byte of Clearing's staging area, the top 256 MiB (R356). -/
def stagingBase : Nat := (Config.memGiB * 4 - 1) * 268435456

/-- First byte of the record store's write queue, directly below the staging area (R380). -/
def State.wqBase (s : State) : Nat := (Config.memGiB * 4 - 1 - 4 * s.get R.STOR_CFG_WQ_GIB) * 268435456

/-! ### The common fields

The host half's queue of commands is touched by `step` alone: every meaning hands on the queue it was given. -/

/-- The next state `t` of a meaning run on `s`, with the queue of `s`. [DESIGN CHOICE, log 12, safe] -/
def done (s t : State) : Host.Outcome State Fault Refusal := .next { t with pending := s.pending }

/-- A fresh free value below `2 ^ w` (AN open value of the specification), and the state that has used it up. [DESIGN CHOICE, log 8, safe] -/
def State.fresh (s : State) (w : Nat) : Nat × State :=
  (Config.freeValue s.freeCount % 2 ^ w, { s with freeCount := s.freeCount + 1 })

/-! ### Time -/

/-- Host T64 now. -/
def State.hNow (s : State) : T64 := ⟨s.time.hTick, s.time.hUnit / 256, s.time.hUnit % 256⟩

/-- Field T64 now. -/
def State.fNow (s : State) : T64 := ⟨s.time.fTick, s.time.fUnit / 256, s.time.fUnit % 256⟩

/-- Field time now as one count of fraction units across eras (R69). -/
def State.fU (s : State) : Nat := (s.time.fEra * ticksPerEra + s.time.fTick) * unitsPerTick + s.time.fUnit

/-- The boundary of the field tick in progress, in units across eras. -/
def State.fTickU (s : State) : Nat := (s.time.fEra * ticksPerEra + s.time.fTick) * unitsPerTick

/-- Move the host half on to an instant of its tick; an instant that has passed moves nothing. [DESIGN CHOICE, log 1, unsafe] -/
def State.atH (s : State) (u : Sub) : State := { s with time := { s.time with hUnit := max s.time.hUnit u.val } }

/-- Move the field half on to an instant of its tick; an instant that has passed moves nothing. [DESIGN CHOICE, log 1, unsafe] -/
def State.atF (s : State) (u : Sub) : State := { s with time := { s.time with fUnit := max s.time.fUnit u.val } }

/-- The current era (TIME_ERA). -/
def State.era (s : State) : Nat := s.val R.TIME_ERA

/-- The era of an item with this tick, by comparison with host tick `c` in era `e` (R72). -/
def eraOf (c e tick : Nat) : Nat :=
  let d := (c + ticksPerEra - tick % ticksPerEra) % ticksPerEra
  if d < 2 ^ 43 then (if tick ≤ c then e else e - 1)
  else (if c ≤ tick then e else e + 1)

/-- An instant of an era as one count of ticks, for comparison across eras (R69). -/
def absTick (era tick : Nat) : Nat := era * ticksPerEra + tick

/-! ### Power domains (R17, R18) and address blocks (R20) -/

/-- A domain is on: bit of SYS_PWR_STAT (H1 bit 0, Hn bit n − 1, Fn bit 8 + n − 1). -/
def State.domOn (s : State) (bit : Nat) : Bool := (s.rd R.SYS_PWR_STAT).getLsbD bit

/-- The bit of SYS_PWR_STAT for Hn. -/
def domH (n : Nat) : Nat := n - 1

/-- The bit of SYS_PWR_STAT for Fn. -/
def domF (n : Nat) : Nat := 7 + n

/-- The domain bit of the block that holds an address (R20); none outside every block. Lane and generator blocks lie in F5–F10 by
group, pins in F3 and F4. -/
def domainOf (a : Nat) : Option Nat :=
  if a ≤ 0x1FFFF then some 0
  else if a ≤ 0x3FFFF then some (domH 2)
  else if a ≤ 0x5FFFF then some (domH 4)
  else if a ≤ 0x7FFFF then some (domH 5)
  else if a ≤ 0xAFFFF then some 0
  else if a ≤ 0xBFFFF then some (domH 2)
  else if a ≤ 0xFFFFF then some (domH 6)
  else if a ≤ 0x10FFFF then some (domH 7)
  else if a < 0x1000000 then none
  else if a ≤ 0x13FFFFF then some (domF 1)
  else if a ≤ 0x147FFFF then some (domF 3)
  else if a ≤ 0x14FFFFF then some (domF 4)
  else if a < 0x1800000 then none
  else if a ≤ 0x18BFFFF then some (domF (5 + (a - 0x1800000) / 0x20000))
  else if a < 0x1A00000 then none
  else if a ≤ 0x1A2FFFF then some (domF (5 + (a - 0x1A00000) / 0x8000))
  else if a ≤ 0x1AFFFFF then some (domF 1)
  else if a ≤ 0x1DFFFFF then some (domF 11)
  else if a ≤ 0x1EFFFFF then some (domF 12)
  else if a ≤ 0x1FFFFFF then some (domF 1)
  else none

/-- The address lies in a field block. -/
def isFieldAddr (a : Nat) : Bool := 0x1000000 ≤ a && a ≤ 0x1FFFFFF && (domainOf a).isSome

/-- The register's domain is on (R19). -/
def State.powered (s : State) (a : Nat) : Bool := (domainOf a).any (fun d => s.domOn d)

/-- The last address of the block that holds an address (R20). -/
def blockEnd (a : Nat) : Nat :=
  if a ≤ 0xFFFF then 0xFFFF else if a ≤ 0x1FFFF then 0x1FFFF else if a ≤ 0x3FFFF then 0x3FFFF else if a ≤ 0x5FFFF then 0x5FFFF
  else if a ≤ 0x7FFFF then 0x7FFFF else if a ≤ 0x9FFFF then 0x9FFFF else if a ≤ 0xAFFFF then 0xAFFFF else if a ≤ 0xBFFFF then 0xBFFFF
  else if a ≤ 0xFFFFF then 0xFFFFF else if a ≤ 0x10FFFF then 0x10FFFF
  else if a ≤ 0x10FFFFF then 0x10FFFFF else if a ≤ 0x11FFFFF then 0x11FFFFF else if a ≤ 0x13FFFFF then 0x13FFFFF
  else if a ≤ 0x14FFFFF then 0x14FFFFF else if a ≤ 0x18BFFFF then 0x18BFFFF else if a ≤ 0x1AFFFFF then 0x1AFFFFF
  else if a ≤ 0x1BFFFFF then 0x1BFFFFF else if a ≤ 0x1CFFFFF then 0x1CFFFFF else if a ≤ 0x1DFFFFF then 0x1DFFFFF
  else if a ≤ 0x1E7FFFF then 0x1E7FFFF else if a ≤ 0x1EFFFFF then 0x1EFFFFF else 0x1FFFFFF

/-- The block code of an address (R20). -/
def blockCode (a : Nat) : Nat :=
  if a ≤ 0xFFFF then 0 else if a ≤ 0x1FFFF then 1 else if a ≤ 0x3FFFF then 2 else if a ≤ 0x5FFFF then 3
  else if a ≤ 0x7FFFF then 4 else if a ≤ 0x9FFFF then 5 else if a ≤ 0xAFFFF then 6 else if a ≤ 0xBFFFF then 7
  else if a ≤ 0xFFFFF then 8 else if a ≤ 0x10FFFF then 9
  else if a ≤ 0x10FFFFF then 0x10 else if a ≤ 0x11FFFFF then 0x11 else if a ≤ 0x13FFFFF then 0x12
  else if a ≤ 0x14FFFFF then 0x13 else if a ≤ 0x18BFFFF then 0x14 else if a ≤ 0x1AFFFFF then 0x15
  else if a ≤ 0x1BFFFFF then 0x16 else if a ≤ 0x1CFFFFF then 0x17 else if a ≤ 0x1DFFFFF then 0x18
  else if a ≤ 0x1E7FFFF then 0x19 else if a ≤ 0x1EFFFFF then 0x1A else 0x1B

/-- The mode in force (SYS_MODE.MODE). -/
def State.mode (s : State) : Nat := s.get R.SYS_MODE_MODE

/-- Modes that permit the sequencer and the generators (R429): STIMULATE, REPLAY, SHADOW and SENTINEL. -/
def modeDrives (m : Nat) : Bool := 4 ≤ m && m ≤ 7

/-- Modes that permit streams, capture and Tally (R429): CALIBRATE and above. -/
def modeStreams (m : Nat) : Bool := 2 ≤ m && m ≤ 7

/-- Modes that permit compare pairs (R429): REPLAY, SHADOW and SENTINEL. -/
def modeCompares (m : Nat) : Bool := 5 ≤ m && m ≤ 7

/-- The barrier link is up (ISO_STAT.STATE UP or RECONFIG, R22, R25). -/
def State.linkUp (s : State) : Bool := s.get R.ISO_STAT_STATE == 2 || s.get R.ISO_STAT_STATE == 3

/-! ### Counters and results (R12–R15, R85) -/

/-- Count `n` in a SAT counter of `w` bits at `a`; the count that first reaches the maximum sets the block's SATURATED bit and answers
true, so that the block's event is raised once (R13, R86). -/
def State.satCount (s : State) (a w n : Nat) (evt : Fld) : State × Bool :=
  let old := s.val a
  let new := satAdd w old n
  let hit := decide (old < 2 ^ w - 1 ∧ new = 2 ^ w - 1)
  (if hit then (s.put a new).set evt 1 else s.put a new, hit)

/-- Count `n` in a 48-bit SAT counter, low word at `a` (R12, R13). -/
def State.satCount48 (s : State) (a n : Nat) (evt : Fld) : State × Bool :=
  let old := s.val64 a
  let new := satAdd 48 old n
  let hit := decide (old < 2 ^ 48 - 1 ∧ new = 2 ^ 48 - 1)
  (if hit then (s.put64 a new).set evt 1 else s.put64 a new, hit)

/-- Count in a SAT field of a register. -/
def State.satField (s : State) (f : Fld) (n : Nat) (evt : Fld) : State × Bool :=
  let old := s.get f
  let new := satAdd f.w old n
  let hit := decide (old < 2 ^ f.w - 1 ∧ new = 2 ^ f.w - 1)
  (if hit then (s.set f new).set evt 1 else s.set f new, hit)

/-- Count `n` in a 32-bit WRAP counter. -/
def State.wrapCount (s : State) (a n : Nat) : State := s.put a (s.val a + n)

/-- Count `n` in a 64-bit WRAP counter, low word at `a`. -/
def State.wrapCount64 (s : State) (a n : Nat) : State := s.put64 a (s.val64 a + n)

/-- Replace a wide result: low word at `lo`, high word at `lo + 4`, GEN word at `gen` with its count advanced and VALID set; the GEN
word's other bits take `bits` (R85). -/
def State.replaceResult (s : State) (lo gen v : Nat) (bits : Nat := 0) : State :=
  (s.put64 lo v).put gen ((fieldOf (s.rd gen) 16 16 + 1) % 2 ^ 16 * 2 ^ 16 + bits + 1)

/-! ### Barrier messages (R32–R36) -/

end Sys2Proof.Machine

namespace Sys2Proof

/-- Bytes of a whole message: header, payload and trailer. -/
def Msg.size (m : Msg) : Nat := 20 + m.len

/-- The 16 header bytes of a message (R32). -/
def Msg.header (m : Msg) : List Byte :=
  leBytes 1 m.ty ++ leBytes 1 (m.vc % 8 + 8 * m.flags) ++ leBytes 2 m.len ++ leBytes 2 m.seq ++ leBytes 2 m.rsv ++ leBytes 8 m.t64

end Sys2Proof

namespace Sys2Proof.Machine

/-- FLAGS bits of R33. -/
def flagSOM : Nat := 1
def flagEOM : Nat := 2
def flagDEFER : Nat := 4
def flagGAP : Nat := 8

/-- Capacity of the Float: 48 MiB. -/
def floatSize : Nat := 50331648

/-- Bytes that wait in the Float: messages held by the field half and burst blocks. -/
def State.floatFill (s : State) : Nat :=
  if s.get R.ISO_STAT_STATE = 2 then s.link.floatBurst
  else s.link.floatBurst + (s.link.outFH.map Msg.size).foldl (· + ·) 0

/-- The message that the sender makes: sequence number of its channel, length and trailer filled in (R34, R35). -/
def mkMsg (ty vc flags seq t64 : Nat) (payload : List Byte) : Msg :=
  let m : Msg := { ty := ty, vc := vc, flags := flags, len := payload.length, seq := seq, rsv := 0, t64 := t64, payload := payload, trailer := 0 }
  { m with trailer := crc32c (m.header ++ m.payload) }

/-- FLAGS of a field message: single-message unit, with DEFER for deferred work (in a tick after an overrun, content of an earlier tick), and GAP while the
field half is not aligned or after a gap of the channel (R33, R60, R66). [DEDUCED, log 22, unsafe] -/
def State.fieldFlags (s : State) (vc t64 : Nat) : Nat :=
  flagSOM + flagEOM + (if s.time.deferring && decide ((T64.unpack t64).tick ≠ s.time.fTick) then flagDEFER else 0)
    + (if s.link.gapFH.contains vc || !s.time.fAligned then flagGAP else 0)

/-- Send a message from the field half: on the link, or into the Float while the link is down or reconfigures (R26, R29). A message that
finds the Float full is lost, and the channel's next message carries GAP. FLAGS takes the bits of `extra` and loses those of `drop`. -/
def State.sendFH (s : State) (ty vc t64 : Nat) (payload : List Byte) (extra : Nat := 0) (drop : Nat := 0) : State :=
  if s.get R.ISO_STAT_STATE ≠ 2 ∧ floatSize < s.floatFill + 20 + payload.length then
    { s with link := { s.link with gapFH := vc :: s.link.gapFH.erase vc, floatLoss := true } }
  else
    let seq := s.link.txFH.getD vc 0
    let m := mkMsg ty vc ((s.fieldFlags vc t64 ||| extra) &&& (15 ^^^ drop)) seq t64 payload
    { s with link := { s.link with outFH := s.link.outFH ++ [m], txFH := s.link.txFH.set vc ((seq + 1) % 2 ^ 16),
                                   gapFH := s.link.gapFH.erase vc, vc4Tick := s.link.vc4Tick + (if vc = 4 then m.size else 0) } }

/-- Send a message from the host half; while the link is down nothing is queued but what the caller queues itself. TX bytes count. -/
def State.sendHF (s : State) (ty vc t64 : Nat) (payload : List Byte) (extra : Nat := 0) : State :=
  let seq := s.link.txHF.getD vc 0
  let m := mkMsg ty vc (flagSOM + flagEOM + extra) seq t64 payload
  let s1 := { s with link := { s.link with outHF := s.link.outHF ++ [m], txHF := s.link.txHF.set vc ((seq + 1) % 2 ^ 16) } }
  s1.wrapCount64 R.ISO_TX_BYTES_LO m.size

/-! ### Events (R47), Clearing's staging (R79, R83) and the event queue (R367–R370) -/

/-- The 32 bytes of an event record (R47); `data` is its bytes 16–31. -/
def eventBytes (blk code inst t64 : Nat) (data : List Byte) : List Byte :=
  leBytes 2 blk ++ leBytes 2 code ++ leBytes 4 inst ++ leBytes 8 t64 ++ (data ++ List.replicate 16 0).take 16

/-- Raise MSI-X vectors: masked vectors set their pending bit instead (R369). -/
def State.msix (s : State) (v : Nat) : State :=
  if s.hdma.msixMask.testBit v then { s with hdma := { s.hdma with msixPend := s.hdma.msixPend ||| 2 ^ v } }
  else { s with hdma := { s.hdma with msixSent := s.hdma.msixSent ++ [v] } }

/-- Set an HDMA_EVT bit, with its vector 18 (R369). -/
def State.hdmaEvt (s : State) (f : Fld) : State := (s.set f 1).msix 18

/-- Put an item into Clearing: staged, or late when it is stamped before the release point (R79, R80, R83). -/
def State.toClearing (s : State) (era t64 cls inst src : Nat) (bytes : List Byte) : State :=
  let it : Item := { era := era, t64 := t64, cls := cls, inst := inst, src := src, arr := s.clr.arr, bytes := bytes }
  let tick := (T64.unpack t64).tick
  let rel := absTick s.clr.relEra s.clr.relTick
  let here := absTick era tick
  let s1 := { s with clr := { s.clr with arr := s.clr.arr + 1 } }
  if here < rel then
    let late := min (rel - here) (2 ^ 32 - 1)
    let s2 := { s1 with clr := { s1.clr with late := (s.hNow.pack, late, it) :: s1.clr.late } }
    let s3 := (s2.satCount R.CLR_LATE_COUNT 32 1 R.CLR_EVT_SATURATED).1
    let s4 := (s3.satCount R.CLR_LATE_MAX 32 (late - s3.val R.CLR_LATE_MAX) R.CLR_EVT_SATURATED).1
    s4.set R.CLR_EVT_LATE 1
  else { s1 with clr := { s1.clr with staged := s1.clr.staged ++ [it] } }

/-- Raise the moderated event-queue vector of block code `blk` for one written entry (R370). -/
def State.eqVector (s : State) (blk : Nat) : State :=
  let v := fieldOf (s.rd (R.HDMA_EVEC (blk % 32))) 0 6
  let cnt := max 1 (s.get R.HDMA_EQ_MOD_COUNT)
  let cur := (s.hdma.eqMod.find? (fun p => p.1 == v)).getD (v, 0, s.time.hTick)
  let n := cur.2.1 + 1
  let rest := s.hdma.eqMod.filter (fun p => p.1 != v)
  if cnt ≤ n then ({ s with hdma := { s.hdma with eqMod := rest } }).msix v
  else { s with hdma := { s.hdma with eqMod := (v, n, if cur.2.1 = 0 then s.time.hTick else cur.2.2) :: rest } }

/-- Enter an event record into the event queue in host memory (R367, R368). -/
def State.toEventQueue (s : State) (blk : Nat) (rcd : List Byte) : State :=
  if s.domOn (domH 4) && s.is R.HDMA_CTRL_EQ_EN && (s.rd R.HDMA_EQ_MASK).getLsbD (blk % 32) then
    let size := s.val R.HDMA_EQ_SIZE
    let tail := s.get R.HDMA_EQ_TAIL_INDEX
    if (tail + 1) % size = s.get R.HDMA_EQ_HEAD_INDEX % size then
      let s1 := (s.satCount R.HDMA_EQ_LOST 32 1 R.HDMA_EVT_SATURATED).1
      if s1.hdma.eqLost then s1 else ({ s1 with hdma := { s1.hdma with eqLost := true } }).hdmaEvt R.HDMA_EVT_EQ_LOST
    else
      let phase := s.get R.HDMA_EQ_TAIL_PHASE
      let entry := rcd ++ leBytes 8 s.hNow.pack ++ leBytes 4 s.hdma.eqCount
        ++ leBytes 1 (phase + (if s.hdma.eqLost then 2 else 0)) ++ List.replicate 19 0
      let addr := s.val64 R.HDMA_EQ_BASE_LO / 4096 * 4096 + 64 * tail
      let s1 := { s with hdma := { s.hdma with hostWrites := s.hdma.hostWrites ++ [(addr, entry)],
                                               eqCount := (s.hdma.eqCount + 1) % 2 ^ 32, eqLost := false } }
      let s2 := s1.set R.HDMA_EQ_TAIL_INDEX ((tail + 1) % size)
      let s3 := if tail + 1 = size then s2.set R.HDMA_EQ_TAIL_PHASE (1 - phase) else s2
      s3.eqVector blk
  else s

/-- Raise an event in a host block: it enters the record through Clearing, wrapped as an XM_EVENT message on VC 4 with SEQ 0 (R79),
and the event queue (R367). -/
def State.hostEvent (s : State) (blk code inst t64 : Nat) (data : List Byte) : State :=
  let rcd := eventBytes blk code inst t64 data
  let m := mkMsg 0x40 4 (flagSOM + flagEOM) 0 t64 rcd
  (s.toClearing s.era t64 1 inst 1 (m.header ++ rcd ++ leBytes 4 m.trailer)).toEventQueue blk rcd

/-- Raise an event in a field block: one XM_EVENT on VC 4 (R47). -/
def State.fieldEvent (s : State) (blk code inst t64 : Nat) (data : List Byte) : State :=
  s.sendFH 0x40 4 t64 (eventBytes blk code inst t64 data)

/-! ### The Ledger (R390–R392) -/

/-- The 64 bytes of a Ledger entry (R390). -/
def LEntry.bytes (e : LEntry) : List Byte :=
  leBytes 8 e.t64 ++ leBytes 2 e.era ++ leBytes 1 e.source ++ leBytes 1 e.lflags ++ leBytes 2 e.code ++ leBytes 2 e.inst
    ++ leBytes 8 e.index ++ (e.data ++ List.replicate 40 0).take 40

/-- Slots of the Ledger ring. -/
def ringSlots : Nat := 524288

/-- Write a Ledger entry into the ring: it takes the next index, extends the chain (whose head LDG_HEAD shows), moves base and spill marks past an overwritten entry,
and goes to Clearing as a class-0 item (R391, R392). -/
def State.ledgerWrite (s : State) (e0 : LEntry) : State :=
  let i := s.val64 R.LDG_NEXT_LO
  let e := { e0 with index := i }
  let h := Config.shake256 (s.ledger.head ++ e.bytes)
  let base := s.val64 R.LDG_BASE_LO
  let isOver := decide (base + ringSlots ≤ i)
  let unspilled := decide (isOver = true ∧ s.val64 R.LDG_SPILLED_LO ≤ base)
  let s1 := { s with ledger := { s.ledger with ring := e :: s.ledger.ring.take (ringSlots - 1), head := h } }
  let s2 := s1.put64 R.LDG_NEXT_LO (i + 1)
  let s4 := s2.put64 R.LDG_HEAD_IDX_LO i
  let s5 := if isOver then
      let oldBytes := ((s.ledger.ring.find? (fun x => x.index == base)).map LEntry.bytes).getD []
      ({ s4 with ledger := { s4.ledger with baseHead := Config.shake256 (s4.ledger.baseHead ++ oldBytes) } }).put64 R.LDG_BASE_LO (base + 1)
    else s4
  let s6 := if unspilled then
      let t := (s5.satCount R.LDG_OVERWRITTEN 32 1 R.LDG_EVT_SATURATED).1
      let t := (t.put64 R.LDG_SPILLED_LO (base + 1)).set R.LDG_EVT_OVERWRITE 1
      let t := t.hostEvent 0x08 0x0001 0 s.hNow.pack (leBytes 4 (t.val R.LDG_OVERWRITTEN))
      { t with ledger := { t.ledger with overwriteDue := true } }
    else s5
  let s7 := s6.set R.LDG_STAT_RING_FULL (if s6.val64 R.LDG_NEXT_LO - s6.val64 R.LDG_SPILLED_LO ≥ ringSlots then 1 else 0)
  s7.toClearing e.era e.t64 0 e.inst 1 e.bytes

/-- Appends that the Ledger takes in one second (R391). -/
def ledgerRate : Nat := 250000

/-- Entries that the append queue holds (R391). -/
def ledgerQueue : Nat := 16384

/-- Append an entry to the Ledger: at once within the second's rate, else through the append queue, else merged (R391). [DEDUCED, log 65, unsafe] -/
def State.ledger1 (s : State) (e : LEntry) : State :=
  if s.ledger.rate < ledgerRate ∧ s.ledger.queue = [] ∧ s.ledger.merge = none then
    ({ s with ledger := { s.ledger with rate := s.ledger.rate + 1 } }).ledgerWrite e
  else if s.ledger.queue.length < ledgerQueue ∧ s.ledger.merge = none then
    ({ s with ledger := { s.ledger with queue := s.ledger.queue ++ [e] } }).set R.LDG_STAT_QUEUED 1
  else
    let m := match s.ledger.merge with
      | some (n, f, fe, _) => (n + 1, f, fe, e.t64)
      | none => (1, e.t64, e.era, e.t64)
    let s1 := { s with ledger := { s.ledger with merge := some m } }
    let s2 := (s1.satCount R.LDG_MERGED 32 1 R.LDG_EVT_SATURATED).1
    s2.set R.LDG_EVT_MERGED 1

/-- Append an entry of the host half with the host T64 now. [DESIGN CHOICE, log 20, unsafe] -/
def State.ledgerH (s : State) (source code inst : Nat) (data : List Byte) : State :=
  s.ledger1 { t64 := s.hNow.pack, era := s.era, source := source, code := code, inst := inst % 2 ^ 16, data := data }

/-- Append an entry whose content has a field T64. [DESIGN CHOICE, log 20, unsafe] -/
def State.ledgerF (s : State) (source code inst : Nat) (data : List Byte) : State :=
  s.ledger1 { t64 := s.fNow.pack, era := eraOf s.time.hTick s.era s.time.fTick, source := source, code := code, inst := inst % 2 ^ 16, data := data }

/-- The STOP entry of R87: stop T64, units cancelled, index of a generator's cut list entry. -/
def State.stopEntry (s : State) (source inst t64 cancelled cut : Nat) : State :=
  s.ledger1 { t64 := t64, era := eraOf s.time.hTick s.era (T64.unpack t64).tick, source := source, code := 0x8010, inst := inst,
              data := leBytes 8 t64 ++ leBytes 4 cancelled ++ leBytes 4 cut }

end Sys2Proof.Machine
end

