-- ==== Sys2Proof/Machine/Stops.lean ====
section
/-! DEFINITION. What stops a block, wherever the order comes from: drivers off, generators to their stop point, the sequencer's stop and
its block reset, pod hold, the host link's reset. The fault reactions, mode changes, power domains and the barrier use these. -/

namespace Sys2Proof.Machine

/-! ### Channels -/

/-- The address is a PIN_STAT register. -/
def isPinStat (a : Nat) : Bool := 0x1400000 ≤ a && a < 0x1500000 && a % 0x1000 == 4

/-- The runtime of a channel. -/
def State.pinRt (s : State) (p : Nat) : PinRt := ((s.seq.pins.find? (fun x => x.1 == p)).map Prod.snd).getD {}

/-- Replace the runtime of a channel. -/
def State.setPinRt (s : State) (p : Nat) (r : PinRt) : State :=
  { s with seq := { s.seq with pins := (p, r) :: s.seq.pins.filter (fun x => x.1 != p) } }

/-- Every driver is off and every termination disconnected: drive-off (R105). -/
def State.driversOff (s : State) : State :=
  let s1 := s.mapRegs (fun a x => if isPinStat a then withField x 4 1 0 else x)
  { s1 with seq := { s1.seq with pins := s1.seq.pins.map (fun x => (x.1, { x.2 with term := false, wave := [] })) } }

/-- One channel enters drive-off (R105). -/
def State.driverOff (s : State) (p : Nat) : State :=
  let s1 := if s.is (R.PIN_STAT_DRV_ON p) then s.set (R.PIN_STAT_DRV_ON p) 0 else s
  s1.setPinRt p { s1.pinRt p with term := false, wave := [] }

/-! ### Generators (R200) -/

/-- The generator's state beside its registers. -/
def State.gen (s : State) (g : Nat) : GenSt := s.gens.getD g {}

/-- Replace a generator's state beside its registers. -/
def State.setGen (s : State) (g : Nat) (x : GenSt) : State := { s with gens := s.gens.setIfInBounds g x }

/-- EN is cleared: the generator stops at the next tick boundary, BUSY until then (R87, R200). -/
def State.genStop (s : State) (g : Nat) : State :=
  if s.is (R.GEN_CTRL_EN g) then
    ((s.set (R.GEN_CTRL_EN g) 0).set (R.GEN_STAT_BUSY g) 1).setGen g { s.gen g with stopping := true, stopAt := s.fTickU + unitsPerTick }
  else s

/-- Every generator stops (R200, R446). -/
def State.genStopAll (s : State) : State := (List.range 48).foldl (fun t g => t.genStop g) s

/-! ### The sequencer -/

/-- Sequencer states of SEQ_STAT.STATE. -/
def seqIdle : Nat := 0
def seqRunning : Nat := 1
def seqPaused : Nat := 2
def seqHalted : Nat := 3

/-- STATE of the sequencer. -/
def State.seqState (s : State) : Nat := s.get R.SEQ_STAT_STATE

/-- A stop of the sequencer with a cause (R147, R148, R446): a vector-class request; outside RUNNING and PAUSED it does nothing. -/
def State.seqStop (s : State) (cause : Nat) : State :=
  if s.seqState = seqRunning ∨ s.seqState = seqPaused then
    if s.seq.stopReq.isSome then s else { s with seq := { s.seq with stopReq := some cause } }
  else s

/-- The address is a SAT counter that a block reset keeps (R441): of the sequencer, its fail unit, the pod slots and HDMA. -/
def isSat (a : Nat) : Bool :=
  a == R.SEQ_REFILL_REJ || a == R.SEQ_UNDERRUN || a == R.SEQ_OD_COUNT || a == R.SEQ_FAIL_VEC_LO || a == R.SEQ_FAIL_VEC_HI
    || a == R.SEQ_FAIL_LOST_LO || a == R.SEQ_FAIL_LOST_HI || a == R.SEQ_FAIL_UNFWD
    || (0x1F01000 ≤ a && a < 0x1F02000 && (a % 0x100 == 0x68 || a % 0x100 == 0x6C))
    || a == R.HDMA_BAR2_ERR || a == R.HDMA_CPL_DROP || a == R.HDMA_BAR0_ERR || a == R.HDMA_EQ_LOST
    || (0x41000 ≤ a && a < 0x42000 && (a % 0x100 == 0x34 || a % 0x100 == 0x3C))

/-- The sequencer enters HALTED with a cause: STATE, SEQ_HALT_CAUSE, EVT.HALTED and the event HALTED with SEQ_VADDR (R144, R166, R173). -/
def State.seqEnterHalt (s : State) (cause : Nat) : State :=
  let s1 := ((s.set R.SEQ_STAT_STATE seqHalted).put R.SEQ_HALT_CAUSE cause).set R.SEQ_EVT_HALTED 1
  s1.fieldEvent 0x11 0x0001 0 s1.fNow.pack (leBytes 4 cause ++ leBytes 5 (s1.val64 R.SEQ_VADDR_LO))

/-- A block reset of the sequencer (R441): units in progress are discarded, its registers return to reset values but for SAT counters,
it is HALTED with cause 0x11 and the pins are in drive-off. Resident frames and the fail region empty with their registers. -/
def State.seqBlockReset (s : State) : State :=
  let s1 := s.resetRange 0x1100000 0x11FFFFF isSat
  let s2 := { s1 with seq := { inhPin := s.seq.inhPin, inhField := s.seq.inhField, relDue := s.seq.relDue,
                               bank0 := s.seq.bank0, bank1 := s.seq.bank1,
                               pins := s.seq.pins, fail := { recno := s.seq.fail.recno } } }
  (s2.driversOff).seqEnterHalt 0x11

/-! ### Pods (R330) -/

/-- HOLD_N goes low on every slot: each pod that is present is held to sense-only. -/
def State.podHoldAll (s : State) : State :=
  (List.range 16).foldl (fun t q => if t.is (R.POD_S_STAT_PRESENT q) then t.set (R.POD_S_STAT_HELD q) 1 else t) s

/-- A block reset of a slot (R441): power off at once; the pod detaches as on removal at the next tick boundary. -/
def State.slotBlockReset (s : State) (q : Nat) : State :=
  { s.set (R.POD_S_STAT_POWERED q) 0 with fault := { s.fault with podReset := q :: s.fault.podReset.erase q } }

/-- A block reset of pod power (R441): every powered slot. -/
def State.podPowerReset (s : State) : State :=
  (List.range 16).foldl (fun t q => if t.is (R.POD_S_STAT_POWERED q) then t.slotBlockReset q else t) s

/-! ### The host link (R354) -/

/-- A channel of the bus-master engine. -/
def State.chan (s : State) (c : Nat) : ChanSt := s.hdma.chans.getD c {}

/-- Replace a channel's state. -/
def State.setChan (s : State) (c : Nat) (x : ChanSt) : State := { s with hdma := { s.hdma with chans := s.hdma.chans.setIfInBounds c x } }

/-- The host link is reset: channels stop as under ABORT, records and entries that cannot be written count in HDMA_CPL_DROP, every HDMA
register returns to its reset value (a block reset under R441 keeps its SAT counters), ring indices return to 0 with phase 1. -/
def State.hdmaReset (s : State) (keepSat : Bool) : State :=
  let lost := (s.hdma.chans.toList.map (fun c => c.fly.length)).foldl (· + ·) 0
  let s1 := (s.satCount R.HDMA_CPL_DROP 32 lost R.HDMA_EVT_SATURATED).1
  let s2 := s1.resetRange 0x40000 0x5FFFF (fun a => keepSat && isSat a)
  { s2 with hdma := { s2.hdma with chans := Vector.replicate 16 {}, eqMod := [], eqLost := false, eqCount := 0, msixMask := 0, msixPend := 0 } }

/-! ### The processors (R441) -/

/-- The field control processor restarts: pins in drive-off and generators at GEN_REST for at most 500 ticks. -/
def State.fcpReset (s : State) : State :=
  { s.driversOff with fault := { s.fault with fcpUntil := some (s.time.fTick + 500) } }

/-- The management core restarts: Clearing holds its staging. -/
def State.mgmtReset (s : State) : State := { s with fault := { s.fault with mgmtDown := true } }

/-- Code under which a block reset in progress is listed. -/
def resetCode : Config.FaultBlock → Nat
  | .sequencer => 0x11 | .fieldProcessor => 0x10 | .managementCore => 0x05 | .hostLink => 0x03 | .podPower => 0x1B | .slot q => 0x80 + q

/-- Take a block reset, unless one of that block is in progress (R440, R441). -/
def State.blockReset (s : State) (b : Config.FaultBlock) : State :=
  if s.fault.resetting.any (fun p => p.1 == resetCode b) then s
  else
    let s0 := { s with fault := { s.fault with resetting := (resetCode b, (if resetCode b < 0x10 then s.time.hTick else s.time.fTick) + 2) :: s.fault.resetting } }
    match b with
    | .sequencer =>
      if s.is R.SEQ_STAT_CUST_RUN then
        (({ s0 with seq := { s0.seq with svc := s0.seq.svc ++ [(s.fU, SvcReq.blockReset)] } }).set R.SEQ_STAT_SVC_PENDING 1)
      else s0.seqBlockReset
    | .fieldProcessor => s0.fcpReset
    | .managementCore => s0.mgmtReset
    | .hostLink => s0.hdmaReset true
    | .podPower => s0.podPowerReset
    | .slot q => s0.slotBlockReset q

/-- Drive that a Fatal fault takes away in the field half (R446, R55): pods held, drivers off, generators to their stop point, the
sequencer stopped with cause 0x02; FCTL_STAT.FATAL and FATAL_ID are set, and EVT.FATAL as FATAL rises. -/
def State.fatalField (s : State) (id : Nat) : State :=
  let s1 := ((s.podHoldAll).driversOff.genStopAll).seqStop 0x02
  let s2 := if s1.is R.FCTL_STAT_FATAL then s1 else s1.set R.FCTL_EVT_FATAL 1
  (s2.set R.FCTL_STAT_FATAL 1).set R.FCTL_STAT_FATAL_ID id

/-- A calibration run in progress is to abort with a result (R320). -/
def State.calAbort (s : State) (result : Nat) : State :=
  if s.get R.MET_CAL_STAT_STATE ≠ 0 ∧ s.fault.calAbort = none then
    ({ s with fault := { s.fault with calAbort := some result } }).set R.MET_CAL_STAT_STATE 2
  else s

end Sys2Proof.Machine
end

