-- ==== Sys2Proof/Machine/Faults.lean ====
section
/-! DEFINITION. The fault collector (R435–R446): raising a field source and a host source, the reactions, the Fatal state, the two
fault pins, and the drive inhibit's changes, which every chapter uses. -/

namespace Sys2Proof.Machine

/-- FLT_PEND holds the source's bit. -/
def State.faultPend (s : State) (id : Nat) : Bool := (s.rd (R.FLT_PEND (id / 32))).getLsbD (id % 32)

/-- The reactions chosen for a source: FLT_ACT bits [5:0], only those that it can take (R440). -/
def State.faultAct (s : State) (id : Nat) : Nat := s.get (R.FLT_ACT_REACT id) &&& Config.faultActMask id

/-- SYS_STAT.FAULT_HOLD (R446). -/
def State.faultHold (s : State) : Bool := s.is R.FLT_STAT_FAULT_HOLD

/-- Bit numbers of the reactions (R440). -/
def reactI : Nat := 0
def reactN : Nat := 1
def reactB : Nat := 2
def reactM : Nat := 3
def reactF : Nat := 4
def reactX : Nat := 5

/-- The condition of a fault pin (R444): a pending source selects it, or FAULT_HOLD reads 1 and a Fatal source selects it. -/
def State.pinCondition (s : State) (bit : Nat) : Bool :=
  (List.range 0x90).any (fun id => (s.faultAct id).testBit bit && (s.faultPend id || (s.faultHold && Config.faultClass id == 3)))

/-- FAULT_N falls, if it is not low already. -/
def State.dropFaultN (s : State) : State :=
  if s.fault.faultN.isSome then s
  else { s.set R.FLT_STAT_FAULT_N 1 with fault := { s.fault with faultN := some s.time.hTick } }

/-- FIELD_FAULT_N falls, if it is not low already. -/
def State.dropFieldFaultN (s : State) : State :=
  if s.fault.fieldFaultN.isSome then s
  else { s.set R.FLT_STAT_FIELD_FAULT_N 1 with fault := { s.fault with fieldFaultN := some s.time.fTick } }

/-- Module resets taken by reaction within the 24 hours before the host tick now (R442). -/
def State.recentResets (s : State) : List Nat := s.fault.resets.filter (fun t => s.time.hTick < t + 8640000000)

/-- The module-reset reaction (R442, R446): at most 3 within 24 hours, none in the Fatal state. -/
def State.moduleResetReaction (s : State) (id : Nat) : State :=
  if s.faultHold then s
  else if 3 ≤ s.recentResets.length then s.set R.FLT_STAT_RESET_LIMIT 1
  else { s with fault := { s.fault with resets := s.time.hTick :: s.recentResets, resetDue := some id } }

/-- Bytes 16–31 of a fault event (R438): data word, class, reactions taken, FORCED, RAISES. [DESIGN CHOICE, log 72, unsafe] -/
def faultData (id data taken : Nat) (forced : Bool) (raises : Nat) : List Byte :=
  leBytes 4 data ++ leBytes 1 (Config.faultClass id) ++ leBytes 1 taken ++ leBytes 1 (if forced then 1 else 0) ++ leBytes 1 0
    ++ leBytes 4 raises ++ leBytes 4 0

/-- The mirror entry of a fault event (R438): every Contained or Fatal event; a Corrected source at most once per 100,000 ticks, with the
raises since its previous entry. -/
def State.faultMirror (s : State) (id t64 era raises : Nat) (bytes : List Byte) : State :=
  let entry (d : List Byte) : LEntry := { t64 := t64, era := era, source := 6, code := 0x100 + id, data := d }
  if Config.faultClass id = 1 then
    let old := s.ledger.mirrored.find? (fun p => p.1 == id)
    let n := raises + (old.map (fun p => p.2.2)).getD 0
    let rest := s.ledger.mirrored.filter (fun p => p.1 != id)
    let due := match old with
      | some p => decide (p.2.1 + 100000 ≤ absTick s.era s.time.hTick)
      | none => true
    if due then
      ({ s with ledger := { s.ledger with mirrored := (id, absTick s.era s.time.hTick, 0) :: rest } }).ledger1
        (entry (bytes ++ List.replicate 12 0 ++ leBytes 4 n))
    else { s with ledger := { s.ledger with mirrored := (id, (old.map (fun p => p.2.1)).getD 0, n) :: rest } }
  else s.ledger1 (entry bytes)

/-- FLT_FIRST or FLT_LAST takes a raise. -/
def State.faultLatch (s : State) (idR lo gen id t64 : Nat) : State := (s.put idR id).replaceResult lo gen t64

/-- The Fatal state at the collector (R446): FAULT_HOLD, FLT_FATAL, the run's abort and the fault seal. -/
def State.enterFatal (s : State) (id t64 data : Nat) : State :=
  let s1 := (((s.set R.SYS_STAT_FAULT_HOLD 1).set R.FLT_STAT_FAULT_HOLD 1).set R.FLT_EVT_FATAL 1).put R.FLT_FATAL_ID id
  let s2 := ((s1.put64 R.FLT_FATAL_LO t64).put R.FLT_FATAL_DATA data).calAbort 5
  { s2 with fault := { s2.fault with faultSeal := true } }

/-- What the collector does at a raise (R438), but for the event and the block reset: counts, pending bit, latches, mirror entry, edge
reactions, and the Fatal state. -/
def State.collect (s : State) (id t64 era data raises : Nat) (forced : Bool) (taken : Nat) : State :=
  let s0 := if s.upd.watch then { s with upd := { s.upd with raised := id :: s.upd.raised.erase id } } else s
  let s1 := (s0.satCount (R.FLT_CNT id) 32 raises R.FLT_EVT_SATURATED).1
  let s2 := s1.wr (R.FLT_PEND (id / 32)) (s1.rd (R.FLT_PEND (id / 32)) ||| BitVec.twoPow 32 (id % 32))
  let s3 := s2.faultLatch R.FLT_LAST_ID R.FLT_LAST_LO R.FLT_LAST_GEN id t64
  let s4 := if s3.is R.FLT_FIRST_GEN_VALID then s3 else s3.faultLatch R.FLT_FIRST_ID R.FLT_FIRST_LO R.FLT_FIRST_GEN id t64
  let s5 := (s4.set R.FLT_EVT_RAISED 1).faultMirror id t64 era raises (faultData id data taken forced raises)
  let s6 := if Config.faultClass id = 3 then s5.enterFatal id t64 data else s5
  let s7 := if taken.testBit reactI then s6.msix 0 else s6
  let s8 := if taken.testBit reactN then { s7 with fault := { s7.fault with traps := s7.fault.traps + 1 } } else s7
  let s9 := if taken.testBit reactM then s8.moduleResetReaction id else s8
  if taken.testBit reactF then s9.dropFaultN else s9

/-- The reactions that a raise takes (R440): the edge reactions when the pending bit was 0, the block reset at each raise. -/
def State.reactions (s : State) (id : Nat) (edge : Bool) : Nat :=
  let act := s.faultAct id
  let b := if act.testBit reactB &&
      !((Config.faultBlock id).any (fun b => s.fault.resetting.any (fun p => p.1 == resetCode b))) then 2 ^ reactB else 0
  (if edge then act &&& 0x3B else 0) + b

/-- Take the block reset among the reactions. -/
def State.takeBlockReset (s : State) (id taken : Nat) : State :=
  if taken.testBit reactB then
    match Config.faultBlock id with
    | some b => s.blockReset b
    | none => s
  else s

/-- A host source is raised (R438): at once at the collector, with its event under block code 0x06. A Fatal source also has the island
write FCTL_FATAL (R446). [DESIGN CHOICE, log 72, unsafe; DEDUCED, log 73, unsafe] -/
def State.hostFault (s : State) (id data : Nat) (forced : Bool := false) : State :=
  let taken := s.reactions id (!s.faultPend id)
  let t64 := s.hNow.pack
  let s1 := s.collect id t64 s.era data 1 forced taken
  let s2 := s1.hostEvent 0x06 (0x100 + id) 0 t64 (faultData id data taken forced 1)
  let s3 := s2.takeBlockReset id taken
  let s4 := if taken.testBit reactX && s3.linkUp then s3.dropFieldFaultN else s3
  if Config.faultClass id = 3 && s4.linkUp then
    s4.sendHF 0x11 1 t64 (leBytes 2 (7 * 2 ^ 13) ++ leBytes 2 1 ++ leBytes 4 R.FCTL_FATAL ++ leBytes 4 id)
  else s4

/-- A field source is raised in the field half (R438): its event is composed by cycle 3,968 of the tick of the first raise, and counts the
tick's raises; the field reactions B and X and the Fatal measures are taken at detection (R440, R446). [DESIGN CHOICE, log 72, unsafe] -/
def State.fieldFault (s : State) (id data : Nat) (forced : Bool := false) : State :=
  match s.fault.field.find? (fun r => r.id == id) with
  | some r =>
    let b := s.reactions id false
    let raised := s.fault.field.map (fun x => if x.id == id then { r with raises := r.raises + 1, react := r.react ||| b } else x)
    let s1 := { s with fault := { s.fault with field := raised } }
    s1.takeBlockReset id b
  | none =>
    let taken := s.reactions id (!s.faultPend id)
    let r : FRaise := { id := id, t64 := s.fNow.pack, data := data, raises := 1, forced := forced, react := taken }
    let s1 := { s with fault := { s.fault with field := s.fault.field ++ [r] } }
    let s2 := s1.takeBlockReset id taken
    let s3 := if taken.testBit reactX then s2.dropFieldFaultN else s2
    if Config.faultClass id = 3 then s3.fatalField id else s3

/-- Raise a source in the half that it belongs to (R436). -/
def State.raiseFault (s : State) (id data : Nat) (forced : Bool := false) : State :=
  if Config.faultIsField id then s.fieldFault id data forced else s.hostFault id data forced

/-- Send the events of the tick's field raises (R438). -/
def State.sendFieldFaults (s : State) : State :=
  let s1 := s.fault.field.foldl (fun t r =>
    t.fieldEvent 0x06 (0x100 + r.id) 0 r.t64 (faultData r.id r.data r.react r.forced r.raises)) s
  { s1 with fault := { s1.fault with field := [] } }

/-- The collector receives the event of a field source (R438). -/
def State.collectEvent (s : State) (id t64 : Nat) (d : List Byte) : State :=
  s.collect id t64 (eraOf s.time.hTick s.era (T64.unpack t64).tick) (leAt d 0 4) (leAt d 8 4) (leAt d 6 1 % 2 == 1) (leAt d 5 1)

/-- The Ledger's overwrite of an unspilled entry raises source 0x11 (R392). -/
def State.takeOverwrite (s : State) : State :=
  if s.ledger.overwriteDue then ({ s with ledger := { s.ledger with overwriteDue := false } }).hostFault 0x11 0 else s

/-- The loss in the Float raises source 0x48 once per episode (R436). -/
def State.takeFloatLoss (s : State) : State :=
  if s.link.floatLoss then
    if s.link.floatEpisode then { s with link := { s.link with floatLoss := false } }
    else ({ s with link := { s.link with floatLoss := false, floatEpisode := true } }).fieldFault 0x48 0
  else if s.link.floatEpisode && decide (s.floatFill * 4 < floatSize * 3) then { s with link := { s.link with floatEpisode := false } }
  else s

/-! ### The drive inhibit (R104, R433) -/

/-- Causes of a change of SYS_DRIVE_INH.INH (R433). -/
inductive InhCause where
  | release | write | guard | linkHold
  deriving DecidableEq, Repr

/-- SYS_DRIVE_INH.INH becomes 1, with the bit that tells the cause; a change of INH sets INH_CHANGE and appends its Ledger entry (R433). -/
def State.inhibitOn (s : State) (c : InhCause) : State :=
  let s1 := match c with
    | .guard => s.set R.SYS_DRIVE_INH_GUARD 1
    | .linkHold => s.set R.SYS_DRIVE_INH_LINK_HOLD 1
    | _ => s
  if s1.is R.SYS_DRIVE_INH_INH then s1
  else ((s1.set R.SYS_DRIVE_INH_INH 1).set R.SYS_EVT_INH_CHANGE 1).ledgerH 0x00 0x80FF 0
    (leBytes 4 (Config.causeCode 433 (match c with | .release => 0 | .write => 1 | .guard => 2 | .linkHold => 3)))

/-- An accepted release clears INH, GUARD and LINK_HOLD together (R433). -/
def State.inhibitRelease (s : State) : State :=
  let s1 := ((s.set R.SYS_DRIVE_INH_INH 0).set R.SYS_DRIVE_INH_GUARD 0).set R.SYS_DRIVE_INH_LINK_HOLD 0
  if s.is R.SYS_DRIVE_INH_INH then (s1.set R.SYS_EVT_INH_CHANGE 1).ledgerH 0x00 0x80FF 0 (leBytes 4 (Config.causeCode 433 0)) else s1

/-- A channel may be driven: neither the pin nor SYS_DRIVE_INH, no Fatal fault, no expired link hold, no restart of the field control
processor takes drive away (R103, R104, R429, R441); SEALED acts as the inhibit does. -/
def State.driveAllowed (s : State) : Bool :=
  s.mode != 0 && !s.seq.inhPin && !s.seq.inhField && !s.is R.FCTL_STAT_FATAL && !s.link.holdExpired && s.fault.fcpUntil.isNone

end Sys2Proof.Machine
end

