-- ==== Sys2Proof/Machine/Planner.lean ====
section
/-! DEFINITION. The tick planner (R63–R65, R89): what the configuration costs, whether it fits every tick, admission and refusal, and
the XM_TICK_PLAN that carries an admitted plan to the field half. -/

namespace Sys2Proof.Machine

/-- Quotient rounded up. -/
def ceilDiv (a b : Nat) : Nat := if b = 0 then 0 else (a + b - 1) / b

/-! ### Lanes -/

/-- A lane beside its registers. -/
def State.lane (s : State) (l : Nat) : LaneSt := s.lanes.getD l {}

/-- Replace a lane's state beside its registers. -/
def State.setLane (s : State) (l : Nat) (x : LaneSt) : State := { s with lanes := s.lanes.setIfInBounds l x }

/-- Fusion factor of a FUSE code (R209). -/
def fuseFactor (f : Nat) : Nat := if f = 1 then 2 else if f = 2 then 4 else 1

/-- RANGE, FUSE and DEC_K of a LANE_CFG or LANE_ACTIVE word. -/
def cfgRange (w : Word) : Nat := fieldOf w 0 3
def cfgFuse (w : Word) : Nat := fieldOf w 4 2
def cfgDeck (w : Word) : Nat := fieldOf w 8 4

/-- Fields of a LANE_FILT word (R217, R230). -/
def filtFirEn (w : Word) : Bool := w.getLsbD 31
def filtRankEn (w : Word) : Bool := w.getLsbD 30
def filtRankFirst (w : Word) : Bool := w.getLsbD 29
def filtAlign (w : Word) : Nat := fieldOf w 16 7
def filtTaps (w : Word) : Nat := fieldOf w 8 8
def filtRankR (w : Word) : Nat := fieldOf w 0 4

/-- Rank window of a RANK_W code: 3, 5, 7, 9 or 15. -/
def filtW (w : Word) : Nat :=
  match fieldOf w 4 3 with
  | 0 => 3 | 1 => 5 | 2 => 7 | 3 => 9 | 4 => 15 | _ => 3

/-- DEC samples per tick of a lane set (R216). -/
def decSamples (cfg : Word) : Nat := 6400 * fuseFactor (cfgFuse cfg) / 2 ^ cfgDeck cfg

/-- Engine cycles per tick of a lane set (R218). -/
def engineCost (cfg filt : Word) : Nat :=
  if !filtFirEn filt && !filtRankEn filt then 0
  else
    let n := decSamples cfg
    16 + (if filtFirEn filt then ceilDiv (filtTaps filt * n) 256 else 0) + (if filtRankEn filt then ceilDiv (filtW filt * n) 256 else 0)

/-- The sets of a lane that the plan must carry: the one in force, and a pending one. -/
def State.laneSets (s : State) (l : Nat) : List (Word × Word) :=
  (s.rd (R.LANE_ACTIVE l), s.rd (R.LANE_FILT_ACT l)) :: ((s.lane l).pend.map (fun p => (p.cfg, p.filt))).toList

/-- The largest value of a cost over a list. -/
def maxOf {α : Type} (f : α → Nat) (l : List α) : Nat := (l.map f).foldl max 0

/-- Sum of a cost over `0 … n − 1`. -/
def sumTo (n : Nat) (f : Nat → Nat) : Nat := ((List.range n).map f).foldl (· + ·) 0

/-- Message bytes per tick of a RAW block (R220). -/
def rawBytes (cfg : Word) : Nat := 84 + 2 * 6400 * fuseFactor (cfgFuse cfg)

/-- Message bytes per tick of a DEC or FILT block. -/
def decBytes (cfg : Word) : Nat := 84 + 2 * decSamples cfg

/-- The planner has shed a stream (R27): kind 0 RAW, 1 DEC, 2 FILT with its lane, 3 PIN_EDGES with its slot. -/
def State.isShed (s : State) (kind i : Nat) : Bool := s.link.shed.contains (kind, i)

/-- LANE_STREAM bits of a lane that is no member, without streams that have been shed. -/
def State.streamBits (s : State) (l : Nat) : Nat :=
  if s.is (R.LANE_STAT_MEMBER l) then 0
  else
    let b := s.val (R.LANE_STREAM l)
    let m := (if s.isShed 0 l then 0 else 3) + (if s.isShed 1 l then 0 else 4) + (if s.isShed 2 l then 0 else 8)
    b &&& m

/-- Bytes per tick of a lane's streams; burst RAW counts 0 (R225). -/
def State.laneLoad (s : State) (l : Nat) : Nat :=
  let b := s.streamBits l
  if b = 0 then 0
  else
    let sets := s.laneSets l
    (if b % 4 = 1 then maxOf (fun p => rawBytes p.1) sets else 0)
      + (if b / 4 % 2 = 1 then maxOf (fun p => decBytes p.1) sets else 0)
      + (if b / 8 % 2 = 1 then maxOf (fun p => decBytes p.1) sets else 0)

/-- Engine cycles per tick that the plan must carry for a lane. -/
def State.laneCost (s : State) (l : Nat) : Nat :=
  if s.is (R.LANE_STAT_MEMBER l) then 0 else maxOf (fun p => engineCost p.1 p.2) (s.laneSets l)

/-! ### Transition capture (R122) -/

/-- Bytes per tick of a slot's PIN_EDGES block: 4 per budgeted transition, block header and framing, when a port captures. -/
def State.edgeLoad (s : State) (q : Nat) : Nat :=
  let ports := (List.range 16).filter (fun i => s.is (R.PIN_CAPT_EN (16 * q + i)))
  if ports.isEmpty || s.isShed 3 q then 0 else 84 + 4 * (ports.map (fun i => s.get (R.PIN_CAPT_BUDGET (16 * q + i)))).foldl (· + ·) 0

/-! ### Reductions (R256) -/

/-- Fields of a reduction set (R250). -/
def RedSet.frame (x : RedSet) : Nat := fieldOf x.ctrl 30 2
def RedSet.group (x : RedSet) : Nat := fieldOf x.ctrl 28 2
def RedSet.src (x : RedSet) : Nat := fieldOf x.ctrl 26 2
def RedSet.sel (x : RedSet) : Nat := fieldOf x.ctrl 16 8
def RedSet.ticks (x : RedSet) : Nat := max 1 (fieldOf x.ctrl 0 16)
/-- Bucket size N, 1 to 65,536: ACQ_RED_BUCKET.N_M1 holds N − 1. -/
def RedSet.n (x : RedSet) : Nat := x.bucket % 65536 + 1

/-- Bytes of an entry of a reduction (R251). -/
def entryBytes (code : Nat) : Nat :=
  match code with
  | 0 => 2 | 1 => 2 | 2 => 4 | 3 => 4 | 4 => 4 | 5 => 2 | 6 => 8 | _ => 48

/-- Entries of a reduction over `m` source samples. -/
def RedSet.entries (x : RedSet) (code m : Nat) : Nat :=
  if code = 0 then m else if code = 6 then x.edgeMax else if code = 7 then 1 else ceilDiv m x.n

/-- Message bytes of an item: its entries, and 52 bytes for each message of at most 65,535 bytes (R253, R256). -/
def itemBytes (esz entries : Nat) : Nat :=
  let per := (65535 - 32) / esz
  entries * esz + 52 * max 1 (ceilDiv entries per)

/-- Samples per tick of a lane's reduction source. -/
def State.srcSamples (s : State) (l src : Nat) : Nat :=
  let a := s.rd (R.LANE_ACTIVE l)
  if src = 0 then 6400 * fuseFactor (cfgFuse a) else decSamples a

/-- Fraction units between samples of a lane's source (R216). -/
def State.srcPeriod (s : State) (l src : Nat) : Nat := 1024000 / max 1 (s.srcSamples l src)

/-- The reductions of a lane. -/
def State.red (s : State) (l : Nat) : RedSt := s.reds.getD l {}

/-- Replace the reductions of a lane. -/
def State.setRed (s : State) (l : Nat) (x : RedSt) : State := { s with reds := s.reds.setIfInBounds l x }

/-- The sets of a lane that the plan must carry. -/
def State.redSets (s : State) (l : Nat) : List RedSet := (s.red l).act :: (s.red l).pend.toList

/-- Bytes of a lane's items of the codes that `pick` keeps, over `m` source samples. -/
def RedSet.itemsBytes (x : RedSet) (m : Nat) (pick : Nat → Bool) : Nat :=
  sumTo 8 (fun c => if x.sel.testBit c && pick c then itemBytes (entryBytes c) (x.entries c m) else 0)

/-- Bytes per tick of a lane's interval frames. -/
def State.intervalLoad (s : State) (l : Nat) : Nat :=
  maxOf (fun x => if x.frame = 1 then ceilDiv (x.itemsBytes (x.ticks * s.srcSamples l x.src) (fun _ => true)) x.ticks else 0) (s.redSets l)

/-- Samples of a lane's part of a segment (R245). -/
def State.partSamples (s : State) (n l src : Nat) : Nat :=
  ceilDiv (s.val (R.ACQ_GRP_PRE n) + s.val (R.ACQ_GRP_POST n)) (s.srcPeriod l src)

/-- ACC_N of a group: 1 to 2^24. -/
def State.accN (s : State) (n : Nat) : Nat := max 1 (s.val (R.ACQ_GRP_ACC_N n))

/-- SPACING of a group, 0 taken as 1 (R246). -/
def State.spacing (s : State) (n : Nat) : Nat := max 1 (s.get (R.ACQ_GRP_CTRL_SPACING n))

/-- Bytes of one segment of a group, accumulated parts apart, and bytes of its accumulated output (R255, R256). -/
def State.segmentBytes (s : State) (n : Nat) : Nat × Nat :=
  let acc := s.is (R.ACQ_GRP_CTRL_ACC_EN n)
  let one (l : Nat) (x : RedSet) : Nat × Nat :=
    if x.frame = 2 ∧ x.group = n then
      let m := s.partSamples n l x.src
      if acc then (x.itemsBytes m (fun c => 1 < c), sumTo 2 (fun c => if x.sel.testBit c then itemBytes 8 (x.entries c m) else 0))
      else (x.itemsBytes m (fun _ => true), 0)
    else (0, 0)
  let lanes := (List.range 48).map (fun l => ((maxOf (fun x => (one l x).1) (s.redSets l)), maxOf (fun x => (one l x).2) (s.redSets l)))
  let seg := (lanes.map Prod.fst).foldl (· + ·) 0
  let ac := (lanes.map Prod.snd).foldl (· + ·) 0
  (84 + seg, if acc then 84 + ac else 0)

/-- Bytes per tick of a capture group. -/
def State.groupLoad (s : State) (n : Nat) : Nat :=
  if s.is (R.ACQ_GRP_CTRL_EN n) then
    let b := s.segmentBytes n
    ceilDiv b.1 (s.spacing n) + ceilDiv b.2 (s.accN n * s.spacing n)
  else 0

/-! ### Tally (R260), forwarded records (R126, R280) and the whole -/

/-- Bytes per tick of the Tally snapshots. -/
def State.tallyLoad (s : State) : Nat :=
  sumTo 48 (fun h => if s.is (R.TLY_H_CTRL_EN h) then ceilDiv 24640 (s.val (R.TLY_H_SNAP h)) else 0)
    + sumTo 8 (fun m => if s.is (R.TLY_M_CTRL_EN m) then ceilDiv 2100480 (s.val (R.TLY_M_SNAP m)) else 0)

/-- Field-to-host bytes per tick of the configuration in a mode: the reserves of R38 and R300, and what the mode runs. [DESIGN CHOICE, log 46, unsafe] -/
def State.fhLoad (s : State) (mode : Nat) : Nat :=
  8000 + 3328
    + (if modeStreams mode then
        sumTo 48 s.laneLoad + sumTo 16 s.edgeLoad + sumTo 48 s.intervalLoad + sumTo 4 s.groupLoad + s.tallyLoad
      else 0)
    + (if modeDrives mode then 84 * s.get R.SEQ_FAIL_CTRL_FWD_MAX else 0)
    + (if modeCompares mode && (List.range 128).any (fun p => s.is (R.CMP_P_CTRL_EN p)) then 84 * s.get R.CMP_CTRL_FWD_MAX else 0)
    + (s.plan.held.map (fun h => h.1)).foldl (· + ·) 0

/-- Filter-engine cycles per tick of the configuration in a mode. [DESIGN CHOICE, log 46, unsafe] -/
def State.feLoad (s : State) (mode : Nat) : Nat :=
  (if modeStreams mode then sumTo 48 s.laneCost else 0) + (s.plan.held.map (fun h => h.2.1)).foldl (· + ·) 0

/-- Host-to-field bytes per tick: the reserve of R38, and the refill allocation where the mode runs refill consumers. [DESIGN CHOICE, log 46, unsafe] -/
def State.hfLoad (mode : Nat) : Nat := 8000 + (if modeDrives mode then 200000 else 0)

/-- The field-to-host budget (R63): by the width that counts, or 375,000 with PLAN_FOR_12. -/
def State.fhBudget (s : State) : Nat :=
  let w := if s.linkUp then s.get R.ISO_STAT_FH_WIDTH else s.plan.trainedFH
  if w = 12 || s.is R.TIME_CTRL_PLAN_FOR_12 then 375000 else 500000

/-- The host-to-field budget. -/
def State.hfBudget (s : State) : Nat :=
  let w := if s.linkUp then s.get R.ISO_STAT_HF_WIDTH else s.plan.trainedHF
  if w = 12 || s.is R.TIME_CTRL_PLAN_FOR_12 then 375000 else 500000

/-- The excess of the burst check of R226; 0 when it holds. -/
def State.burstExcess (s : State) (mode fh : Nat) : Nat :=
  let lanes := (List.range 48).filter (fun l => s.streamBits l % 4 == 2)
  if !modeStreams mode || lanes.isEmpty then 0
  else
    let sum := (lanes.map (fun l => maxOf (fun p => rawBytes p.1) (s.laneSets l))).foldl (· + ·) 0
    let free := s.fhBudget - fh
    let ticks := maxOf (fun l => max 1 (s.get (R.LANE_RAW_BURST_TICKS l))) lanes
    (sum - free) * ticks - 50331648

/-- The first failing budget of the configuration in a mode: reason of R63 and excess; none when all hold. The Tally units, the
generator lists' dwell and the field control processor cannot fail: the units are no more than the limits, a DWELL of 0 is taken
as 1, and the specification charges nothing to the field control processor. [DESIGN CHOICE, log 46, unsafe] -/
def State.planCheck (s : State) (mode : Nat) : Option (Nat × Nat) :=
  let fh := s.fhLoad mode
  let hf := State.hfLoad mode
  let fe := s.feLoad mode
  if s.fhBudget < fh then some (1, fh - s.fhBudget)
  else if s.burstExcess mode fh ≠ 0 then some (1, s.burstExcess mode fh)
  else if s.hfBudget < hf then some (2, hf - s.hfBudget)
  else if 10000 < fe then some (4, fe - 10000)
  else none

/-! ### Admission and refusal -/

/-- A refusal (R64): RESULT, REASON, SHORT, the event bit and the Ledger entry. -/
def State.planRefuse (s : State) (r : Nat × Nat) : State :=
  ((((s.set R.TIME_PLAN_STAT_RESULT 2).set R.TIME_PLAN_STAT_REASON r.1).put R.TIME_PLAN_SHORT r.2).set R.TIME_EVT_PLAN_REFUSED 1).ledgerH
    0x01 0x8005 0 (leBytes 1 r.1 ++ leBytes 3 0 ++ leBytes 4 r.2)

/-- The 256-byte payload of an XM_TICK_PLAN (R43): the shared allocations of VC0 and VC1, the allocations of the other channels and the
engine grant. The field-to-host data allocation stands under VC2, events under VC4. -/
def State.planPayload (s : State) (p : Plan) : List Byte :=
  let mode := s.mode
  let flags := (if s.fhBudget = 375000 then 1 else 0) + (if s.hfBudget = 375000 then 2 else 0)
  let vc2 := if modeStreams mode then sumTo 48 s.laneLoad + sumTo 16 s.edgeLoad else 0
  let vc3 := if modeStreams mode then sumTo 48 s.intervalLoad + sumTo 4 s.groupLoad + s.tallyLoad else 0
  let vc4 := p.fh - 8000 - vc2 - vc3
  let refill := State.hfLoad mode - 8000
  leBytes 4 p.id ++ leBytes 4 flags
    ++ (leBytes 4 8000 ++ leBytes 4 0 ++ leBytes 4 vc2 ++ leBytes 4 vc3 ++ leBytes 4 vc4 ++ leBytes 4 0 ++ leBytes 4 0 ++ leBytes 4 0)
    ++ (leBytes 4 8000 ++ leBytes 4 0 ++ leBytes 4 0 ++ leBytes 4 0 ++ leBytes 4 0 ++ leBytes 4 refill ++ leBytes 4 refill ++ leBytes 4 0)
    ++ leBytes 4 p.fe ++ leBytes 4 3600 ++ leBytes 4 (s.get R.ISO_CTRL_LINK_HOLD) ++ List.replicate 172 0

/-- Send a plan to the field half for a tick, if the link is up (R65). -/
def State.sendPlan (s : State) (p : Plan) (tick : Nat) : State :=
  if s.linkUp then s.sendHF 0x02 0 (T64.pack ⟨tick % ticksPerEra, 0, 0⟩) (s.planPayload p) else s

/-- The first tick boundary at least `n` ticks after now on the host half: number and era. -/
def State.boundaryAfter (s : State) (n : Nat) : Nat × Nat :=
  let t := s.time.hTick + n + (if s.time.hUnit = 0 then 0 else 1)
  (t % ticksPerEra, s.era + t / ticksPerEra)

/-- Admit a configuration change: the plan is in force from the boundary four ticks after admission (R65). -/
def State.planAdmit (s : State) (acts : List PlanAct) (mode : Nat) : State :=
  let id := s.plan.lastId + 1
  let b := s.boundaryAfter 4
  let mk (a : PlanAct) : Plan := { id := id % 2 ^ 32, tick := b.1, era := b.2, act := a, fh := s.fhLoad mode, fe := s.feLoad mode }
  let ps := acts.map mk
  let s1 := { s with plan := { s.plan with lastId := id, host := s.plan.host ++ ps, sent := s.plan.sent ++ ps } }
  let s2 := (s1.set R.TIME_PLAN_STAT_RESULT 1).set R.TIME_PLAN_STAT_REASON 0
  match ps with
  | p :: _ => s2.sendPlan p b.1
  | [] => s2

/-- Submit a change: `t` is the state with the change made. Admitted it answers true and carries the plan; refused it answers false,
and the configuration stays that of `s` (R63, R64). -/
def State.submit (s t : State) (acts : List PlanAct) : State × Bool :=
  match t.planCheck s.mode with
  | none => (t.planAdmit acts s.mode, true)
  | some r => (s.planRefuse r, false)

/-- A disabled function keeps its budget until the first plan that takes effect after BUSY reads 0 at the next boundary; the planner
issues that plan (R89). `s` is the state before the disable, `t` after. -/
def State.releaseBudget (s t : State) : State :=
  let fh := s.fhLoad s.mode - t.fhLoad t.mode
  let fe := s.feLoad s.mode - t.feLoad t.mode
  if fh = 0 ∧ fe = 0 then t
  else
    let t1 := { t with plan := { t.plan with held := (fh, fe, absTick t.era t.time.hTick + 1) :: t.plan.held } }
    let id := t1.plan.lastId + 1
    let b := t1.boundaryAfter 4
    let p : Plan := { id := id % 2 ^ 32, tick := b.1, era := b.2, act := .release, fh := t.fhLoad t.mode, fe := t.feLoad t.mode }
    ({ t1 with plan := { t1.plan with lastId := id, host := t1.plan.host ++ [p], sent := t1.plan.sent ++ [p] } }).sendPlan p b.1

/-- The plans due at the host half's boundary, in order of admission, and the state without them. -/
def State.duePlans (s : State) : List Plan × State :=
  let now := absTick s.era s.time.hTick
  let due := s.plan.host.filter (fun p => decide (absTick p.era p.tick ≤ now))
  let rest := s.plan.host.filter (fun p => !decide (absTick p.era p.tick ≤ now))
  (due, { s with plan := { s.plan with host := rest } })

end Sys2Proof.Machine
end

