-- ==== Sys2Proof/Machine/Flags.lean ====
section
/-! DEFINITION. Status and event flags: the event bit of a block with its event record (R129, R173, R201, R229, R263, R288, R305, R327, R349), and
the SAT counters that raise the block's SATURATED event (R13, R86). -/

namespace Sys2Proof.Machine

/-- Set an event bit of a field block and raise its event, stamped with the field T64 now. -/
def State.evt (s : State) (f : Fld) (blk code inst : Nat) (data : State → List Byte) : State :=
  let s1 := s.set f 1
  s1.fieldEvent blk code inst s1.fNow.pack (data s1)

/-- A channel's event: PIN_EVT after the event in bytes 16–19 (R129). -/
def State.pinEvt (s : State) (p : Nat) (f : Fld) (code : Nat) : State :=
  s.evt f 0x13 code p (fun t => leBytes 4 (t.val (R.PIN_EVT p)))

/-- Count in a SAT counter of a channel; its saturation raises SATURATED (R127, R129). -/
def State.pinCount (s : State) (p a n : Nat) : State :=
  let r := s.satCount a 32 n (R.PIN_EVT_SATURATED p)
  if r.2 then r.1.pinEvt p (R.PIN_EVT_SATURATED p) 0x0005 else r.1

/-- Count a failing vector of a port in its 48-bit counter. -/
def State.pinFailCount (s : State) (p : Nat) : State :=
  let r := s.satCount48 (R.PIN_FAIL_CNT_LO p) 1 (R.PIN_EVT_SATURATED p)
  if r.2 then r.1.pinEvt p (R.PIN_EVT_SATURATED p) 0x0005 else r.1

/-- An event of the sequencer: event bits in bytes 16–19 where its table gives none other (R173). -/
def State.seqEvt (s : State) (f : Fld) (code : Nat) (data : List Byte) : State := s.evt f 0x11 code 0 (fun _ => data)

/-- An event of the fail unit: SEQ_FAIL_EVT in bytes 16–19 (R129). -/
def State.failEvt (s : State) (f : Fld) (code : Nat) : State := s.evt f 0x11 code 0 (fun t => leBytes 4 (t.val R.SEQ_FAIL_EVT))

/-- A generator's event: four bytes of its table, then the index of the entry in use (R201). -/
def State.genEvt (s : State) (g : Nat) (f : Fld) (code b16 : Nat) : State :=
  s.evt f 0x15 code g (fun t => leBytes 4 b16 ++ leBytes 2 (t.val (R.GEN_CUR g)))

/-- Count in a SAT counter of a generator. -/
def State.genCount (s : State) (g a n : Nat) : State :=
  let r := s.satCount a 32 n (R.GEN_EVT_SATURATED g)
  if r.2 then r.1.genEvt g (R.GEN_EVT_SATURATED g) 0x0009 (r.1.val (R.GEN_EVT g)) else r.1

/-- A lane's event: four bytes of its table, then LANE_CFG_SEQ (R229). -/
def State.laneEvt (s : State) (l : Nat) (f : Fld) (code b16 : Nat) : State :=
  s.evt f 0x14 code l (fun t => leBytes 4 b16 ++ leBytes 4 (t.val (R.LANE_CFG_SEQ l)))

/-- Count in a SAT counter of a lane. -/
def State.laneCount (s : State) (l a n : Nat) : State :=
  let r := s.satCount a 32 n (R.LANE_EVT_SATURATED l)
  if r.2 then r.1.laneEvt l (R.LANE_EVT_SATURATED l) 0x0007 (r.1.val (R.LANE_EVT l)) else r.1

/-- An event of the acquisition engine, stamped at an instant (R263). -/
def State.acqEvt (s : State) (f : Fld) (code inst t64 b16 : Nat) : State := (s.set f 1).fieldEvent 0x16 code inst t64 (leBytes 4 b16)

/-- Count in a SAT counter of the acquisition engine. -/
def State.acqCount (s : State) (a n : Nat) : State :=
  let r := s.satCount a 32 n R.ACQ_EVT_SATURATED
  if r.2 then r.1.acqEvt R.ACQ_EVT_SATURATED 0x0008 0 r.1.fNow.pack (r.1.val R.ACQ_EVT) else r.1

/-- A refusal of the acquisition engine: reason, event bit and event for a unit number (R244, R263). -/
def State.acqRefuse (s : State) (inst reason : Nat) : State :=
  (s.set R.ACQ_STAT_REFUSE reason).acqEvt R.ACQ_EVT_REFUSED 0x0007 inst s.fNow.pack reason

/-- An event of Tally (R263). -/
def State.tlyEvt (s : State) (f : Fld) (code inst b16 : Nat) : State := (s.set f 1).fieldEvent 0x17 code inst s.fNow.pack (leBytes 4 b16)

/-- Bins at maximum of a Tally unit: a histogram, or a map from 0x100 on. -/
def State.tlySat (s : State) (unit : Nat) : Nat :=
  if unit < 0x100 then s.val (R.TLY_H_SATBINS unit) else s.val (R.TLY_M_SATBINS (unit - 0x100))

/-- Count in a SAT counter of a Tally unit. -/
def State.tlyCount (s : State) (unit a n : Nat) : State :=
  let r := s.satCount a 32 n R.TLY_EVT_SATURATED
  if r.2 then r.1.tlyEvt R.TLY_EVT_SATURATED 0x0002 unit (r.1.tlySat unit) else r.1

end Sys2Proof.Machine
end

