-- ==== Sys2Proof/Machine/TrigOps.lean ====
section
/-! DEFINITION. Sources of the combiners (R237–R240): which inputs select a source, the latency of each path, and the presentation of an
event or a level to the combiners. Every family that makes such events uses these. -/

namespace Sys2Proof.Machine

/-- A combiner, a lane trigger, a selector and a group, beside their registers. -/
def State.comb (s : State) (c : Nat) : CombSt := s.acq.combs.getD c {}
def State.setComb (s : State) (c : Nat) (x : CombSt) : State := { s with acq := { s.acq with combs := s.acq.combs.setIfInBounds c x } }
def State.ltrig (s : State) (l : Nat) : LTrigSt := s.acq.ltrigs.getD l {}
def State.setLtrig (s : State) (l : Nat) (x : LTrigSt) : State := { s with acq := { s.acq with ltrigs := s.acq.ltrigs.setIfInBounds l x } }
def State.pe (s : State) (k : Nat) : PeSt := s.acq.pes.getD k {}
def State.setPe (s : State) (k : Nat) (x : PeSt) : State := { s with acq := { s.acq with pes := s.acq.pes.setIfInBounds k x } }
def State.group (s : State) (n : Nat) : GroupSt := s.acq.groups.getD n {}
def State.setGroup (s : State) (n : Nat) (x : GroupSt) : State := { s with acq := { s.acq with groups := s.acq.groups.setIfInBounds n x } }

/-- Fields of a combiner's words in force (R264). -/
def CombSt.en (c : CombSt) : Bool := c.ctrl.getLsbD 31
def CombSt.align (c : CombSt) : Bool := c.ctrl.getLsbD 30
def CombSt.seqMode (c : CombSt) : Bool := c.ctrl.getLsbD 29
def CombSt.evtEn (c : CombSt) : Bool := c.ctrl.getLsbD 28
def CombSt.holdMode (c : CombSt) : Nat := fieldOf c.ctrl 24 2
def CombSt.levelCyc (c : CombSt) : Nat := max 1 (fieldOf c.ctrl 0 16)
def CombSt.sel (c : CombSt) (i : Nat) : Nat := fieldOf c.inw (8 * i) 8
/-- USE of an input in force; in SEQUENCE mode USE 1 on I2 or I3 acts as 0 (R239). -/
def CombSt.useOf (c : CombSt) (i : Nat) : Nat :=
  let u := fieldOf c.use (4 * i) 2
  if c.seqMode && u == 1 && 2 ≤ i then 0 else u
def CombSt.inv (c : CombSt) (i : Nat) : Bool := c.use.getLsbD (4 * i + 2)

/-- The A item of a lane in the bank in force, by class and range; none when no usable set gives it (R321, R323). -/
def State.bankA (s : State) (cls lane range : Nat) : Option Int :=
  (s.bank.find? (fun i => i.id / 2 ^ 28 == cls && i.id / 2 ^ 20 % 256 == lane && (cls == 3 || i.id / 2 ^ 16 % 16 == range))).map CalItem.a

/-- Sense-path delay of a lane on its active range, in 1/64 fraction unit; 0 with no usable item (R240). -/
def State.senseDelay (s : State) (l : Nat) : Int := (s.bankA 2 l (s.get (R.LANE_ACTIVE_RANGE l))).getD 0

/-- Latency in cycles of a lane stream (R240). -/
def State.streamLat (s : State) (l src : Nat) : Nat :=
  let period := s.srcPeriod l src
  if src = 0 then
    let d := s.senseDelay l
    48 + (if d ≤ 8192 * 64 then 0 else ceilDiv (d - 8192 * 64).toNat (64 * 256))
  else if src = 1 then 48 + ceilDiv (14 * period) 256
  else 4096 + 5 * l + ceilDiv (2 * period) 256

/-- Latency in cycles of a source that is no combiner (R240). -/
def State.sourceLat (s : State) (code : Nat) : Nat :=
  if code < 0x30 then s.streamLat code (fieldOf (s.ltrig code).cfg 26 2)
  else if code < 0x40 then
    let w := (s.pe (code - 0x30)).word
    let p := fieldOf w 0 8
    if fieldOf w 8 3 = 0 then 32 + ceilDiv (s.get (R.PIN_DESKEW_CMP p)) 256 else 16 + s.get (R.PIN_CAPT_FILT p)
  else if code < 0x80 then 16
  else if code < 0x88 then 4
  else if code < 0x8C then 8
  else 0

/-- Effective latency of each combiner input: of the source, of a lower combiner its own effective latency plus 1; with ALIGN the largest
among the used inputs (R240). The list grows from C0 up. -/
def State.combLats (s : State) : List Nat :=
  (List.range 16).foldl (fun lats c =>
    let k := s.comb c
    let one (i : Nat) : Nat :=
      let code := k.sel i
      if 0x90 ≤ code ∧ code < 0xA0 then lats.getD (code - 0x90) 0 + 1 else s.sourceLat code
    let used := (List.range 4).filter (fun i => k.useOf i == 1 || k.useOf i == 2)
    let m := maxOf one used
    lats ++ [m]) []

/-- Latency of input `i` of combiner `c`. -/
def State.inputLat (s : State) (c i : Nat) : Nat :=
  let k := s.comb c
  let lats := s.combLats
  if k.align then lats.getD c 0
  else
    let code := k.sel i
    if 0x90 ≤ code ∧ code < 0xA0 then lats.getD (code - 0x90) 0 + 1 else s.sourceLat code

/-- A source event with its STAMP in 1/256 fraction unit: it is on its way to every enabled combiner that takes it as an event input. -/
def State.sourceEvent (s : State) (code stamp : Nat) : State :=
  (List.range 16).foldl (fun t c =>
    let k := t.comb c
    if k.en then
      let new := ((List.range 4).filter (fun i => k.useOf i == 1 && k.sel i == code)).map
        (fun i => ({ input := i, code := code, stamp := stamp, at_ := stamp + t.inputLat c i * 65536 } : SrcEvt))
      if new.isEmpty then t else t.setComb c { k with q := k.q ++ new }
    else t) s

/-- The level of a source changes at an instant in 1/256 fraction unit. -/
def State.sourceLevel (s : State) (code at_ : Nat) (v : Bool) : State :=
  { s with acq := { s.acq with levels := (code, at_, v) :: s.acq.levels } }

/-- The level of a source at an instant: the latest change not after it; before any change 0. -/
def State.levelAt (s : State) (code at_ : Nat) : Bool :=
  match s.acq.levels.find? (fun x => x.1 == code && decide (x.2.1 ≤ at_)) with
  | some x => x.2.2
  | none => false

/-- The selector is on and watches the port (R237). -/
def State.peWatches (s : State) (k p : Nat) : Bool := (s.pe k).word.getLsbD 31 && fieldOf (s.pe k).word 0 8 == p

/-- A port's comparator state changes: selectors on transitions of the port give their event and level (R237). -/
def State.pinTransitionSources (s : State) (p st at_ : Nat) : State :=
  (List.range 16).foldl (fun t k =>
    if t.peWatches k p then
      let e := fieldOf (t.pe k).word 8 3
      let hit := (e = 1 ∧ st = 2) ∨ (e = 2 ∧ st = 1) ∨ (e = 3 ∧ st = 0) ∨ e = 4
      let lv := (e = 1 ∧ st = 2) ∨ (e = 2 ∧ st = 1) ∨ (e = 3 ∧ st = 0) ∨ (e = 4 ∧ st = 2)
      let t1 := if 1 ≤ e ∧ e ≤ 4 then t.sourceLevel (0x30 + k) (at_ * 256) (decide lv) else t
      if hit then t1.sourceEvent (0x30 + k) (at_ * 256) else t1
    else t) s

/-- A port fails in a vector: selectors of event FAIL (R237). -/
def State.pinFailSources (s : State) (p at_ : Nat) : State :=
  (List.range 16).foldl (fun t k =>
    if t.peWatches k p && fieldOf (t.pe k).word 8 3 == 0 then t.sourceEvent (0x30 + k) (at_ * 256) else t) s

end Sys2Proof.Machine
end

