-- ==== Sys2Proof/Machine/Operands.lean ====
section
/-! DEFINITION. Operand forms: vector characters (R106, R107), formats and edges (R96–R102), comparison windows (R109), levels and their clamps (R111,
R113, R118), and the values that registers store for out-of-range writes. -/

namespace Sys2Proof.Machine

/-! ### Vector characters (R106, R107) -/

/-- What a character expects of the comparator. -/
inductive Expect where
  | low | high | mid | lowOrHigh
  deriving DecidableEq, Repr

/-- The data that a character drives; none when the vector does not drive. -/
def charDrive (c : Nat) : Option Nat :=
  match c with
  | 0x0 => some 0 | 0x1 => some 1 | 0x9 => some 0 | 0xA => some 1 | _ => none

/-- The expect part of a character. -/
def charExpect (c : Nat) : Option Expect :=
  match c with
  | 0x2 => some .low | 0x3 => some .high | 0x5 => some .mid | 0x6 => some .mid | 0x7 => some .lowOrHigh
  | 0x9 => some .low | 0xA => some .high | _ => none

/-- A reserved character: off, no expectation, BAD_CHAR. -/
def charBad (c : Nat) : Bool := 0xB ≤ c

/-- The character that a channel executes: K repeats the last other character, X in the first vector after a start (R107). -/
def effChar (last : Option Nat) (c : Nat) : Nat := if c = 0x8 then last.getD 0x4 else c

/-- Character of a port in a vector's characters: four bits a port. -/
def charOf (chars p : Nat) : Nat := chars / 2 ^ (4 * p) % 16

/-- The comparator state meets the expectation. -/
def meets (e : Expect) (c : CmpState) : Bool :=
  match e, c with
  | .low, .low => true | .high, .high => true | .mid, .mid => true
  | .lowOrHigh, .low => true | .lowOrHigh, .high => true
  | _, _ => false

/-! ### Edges and formats (R96–R102) -/

/-- The six edges of a timing set, its mode word and its period. -/
structure TSet where
  don : Nat
  ddata : Nat
  dret : Nat
  doff : Nat
  copen : Nat
  cclose : Nat
  fmt : Nat
  window : Bool
  periodM1 : Nat
  deriving DecidableEq, Repr

/-- Formats of R100. -/
def fmtOff : Nat := 0
def fmtNrz : Nat := 1
def fmtDnrz : Nat := 2
def fmtRz : Nat := 3
def fmtRo : Nat := 4
def fmtSbc : Nat := 5

/-- A pulse format: RZ, RO or SBC. -/
def fmtPulse (f : Nat) : Bool := f == 3 || f == 4 || f == 5

/-- Value outside the pulse: 0 in RZ, 1 in RO, the complement of the data in SBC. -/
def nonPulse (f d : Nat) : Nat := if f = 3 then 0 else if f = 4 then 1 else 1 - d

/-- An edge occurs in the vector: it does not exceed PERIOD_M1 (R97). -/
def TSet.occurs (t : TSet) (e : Nat) : Bool := e ≤ t.periodM1

/-- The edges that a driving vector uses (R100). -/
def TSet.drivesUse (t : TSet) : List Nat :=
  if t.fmt = fmtOff then []
  else if t.fmt = fmtNrz then [t.don]
  else if t.fmt = fmtDnrz then [t.don, t.ddata]
  else [t.don, t.ddata, t.dret]

/-- The pulse is void: D_RET is not later than D_DATA (R101). -/
def TSet.voidPulse (t : TSet) : Bool := fmtPulse t.fmt && t.dret ≤ t.ddata

/-- Drive value at the start of a driving vector, and the changes of value at D_DATA and D_RET that occur (R100, R101). -/
def TSet.values (t : TSet) (d prev : Nat) : Nat × List (Nat × Nat) :=
  if t.fmt = fmtNrz then (d, [])
  else if t.fmt = fmtDnrz then (prev, if t.occurs t.ddata then [(t.ddata, d)] else [])
  else if t.voidPulse then (nonPulse t.fmt d, [])
  else
    (nonPulse t.fmt d,
      (if t.occurs t.ddata then [(t.ddata, d)] else []) ++ (if t.occurs t.dret then [(t.dret, nonPulse t.fmt d)] else []))

/-- Insert an action into a wave ordered by instant; actions at one instant keep the order they are inserted in (R99). -/
def waveInsert (x : Nat × PinAct) : List (Nat × PinAct) → List (Nat × PinAct)
  | [] => [x]
  | y :: r => if x.1 < y.1 then x :: y :: r else y :: waveInsert x r

/-- The drive actions of a vector that drives data `d`: the value at its start, D_ON, then the value edges, ordered by instant and then as
R99 orders them. -/
def TSet.wave (t : TSet) (d prev : Nat) (wasOn : Bool) : List (Nat × PinAct) :=
  let v := t.values d prev
  let base := [(0, PinAct.value v.1)]
  let w1 := if !wasOn && t.occurs t.don then waveInsert (t.don, .on) base else base
  v.2.foldl (fun w e => waveInsert (e.1, .value e.2) w) w1

/-- Drive value at the end of a driving vector. -/
def TSet.lastValue (t : TSet) (d prev : Nat) : Nat := ((t.values d prev).2.getLast?.map Prod.snd).getD (t.values d prev).1

/-! ### Comparison (R109) -/

/-- How a compare is performed: not at all, at C_OPEN, or over the window. -/
inductive CompareKind where
  | none | edge | window
  deriving DecidableEq, Repr

/-- The compare that the set performs, and whether an edge was skipped (R97, R109). -/
def TSet.compare (t : TSet) : CompareKind × Bool :=
  if !t.occurs t.copen then (.none, true)
  else if !t.window then (.edge, false)
  else if !t.occurs t.cclose then (.edge, true)
  else if t.cclose < t.copen + 128 then (.edge, false)
  else (.window, false)

/-- Longest departure from the expectation in a window, in picoseconds: contiguous spans that miss it add up. [DESIGN CHOICE, log 49, safe] -/
def longestMiss (e : Expect) : List (CmpState × Nat) → Nat → Nat → Nat
  | [], cur, best => max cur best
  | (c, d) :: r, cur, best => if meets e c then longestMiss e r 0 (max cur best) else longestMiss e r (cur + d) best

/-! ### Levels (R111, R113, R118) -/

/-- Half span of a lane range in µV (R204). -/
def rangeSpan (r : Nat) : Int :=
  match r with
  | 0 => 500000 | 1 => 2000000 | 2 => 10000000 | 3 => 25000000 | _ => 60000000

/-- Roles of R92. -/
def roleNone : Nat := 0
def roleRemote : Nat := 1
def roleLaneCmp : Nat := 2
def roleLaneDrv : Nat := 3

/-- The lane of a lane port: l = 8s + j for ports 16s + 2j and 16s + 2j + 1. -/
def laneOfPort (p : Nat) : Nat := 8 * (p / 16) + p % 16 / 2

/-- Role of a port. -/
def State.role (s : State) (p : Nat) : Nat := s.get (R.PIN_STAT_ROLE p)

/-- The role has a comparator; the role has a driver. -/
def roleCompares (r : Nat) : Bool := r == 1 || r == 2
def roleDrives (r : Nat) : Bool := r == 1 || r == 3

/-- Range of levels of a role in µV; none for role NONE (R111). -/
def State.roleRange (s : State) (p : Nat) : Option (Int × Int) :=
  if s.role p = roleRemote then some (-5000000, 60000000)
  else if s.role p = roleLaneDrv then some (-12000000, 12000000)
  else if s.role p = roleLaneCmp then
    let h := rangeSpan (s.get (R.LANE_ACTIVE_RANGE (laneOfPort p)))
    some (-h, h)
  else none

/-- The register of a level. -/
def levelAddr (p : Nat) (w : LevelReg) : Nat :=
  match w with
  | .drvHi => R.PIN_DRV_HI p | .drvLo => R.PIN_DRV_LO p | .cmpHi => R.PIN_CMP_HI p | .cmpLo => R.PIN_CMP_LO p | .term => R.PIN_TERM p

/-- A drive or termination level, which the limits of the port clamp. -/
def levelIsDrive (w : LevelReg) : Bool :=
  match w with
  | .drvHi => true | .drvLo => true | .term => true | _ => false

/-- The level after its clamps, and whether a clamp changed it (R111). [DESIGN CHOICE, log 53, safe] -/
def State.clampLevel (s : State) (p : Nat) (w : LevelReg) (v : Int) : Int × Bool :=
  let v1 := if levelIsDrive w then clampI (s.sval (R.PIN_LIMIT_LO p)) (s.sval (R.PIN_LIMIT_HI p)) v else v
  let v2 := match s.roleRange p with
    | some (lo, hi) => clampI lo hi v1
    | none => v1
  (v2, v2 != v)

/-- Store a level: clamped, rounded to the DAC's code where a DAC sets it, with LEVEL_CLAMP on a clamp (R111). [DESIGN CHOICE, log 53, safe] -/
def State.storeLevel (s : State) (p : Nat) (w : LevelReg) (v : Int) : State :=
  let c := s.clampLevel p w v
  let applied := if s.role p = roleNone then c.1 else Config.dacLevel p c.1
  let s1 := s.put (levelAddr p w) (codeOf 32 applied)
  if c.2 then s1.pinEvt p (R.PIN_EVT_LEVEL_CLAMP p) 0x0003 else s1

/-- Driver current limit in mA: 1–100 on REMOTE, 1–50 on LANE_DRV (R113). -/
def ilimClamp (role v : Nat) : Nat := if role = roleRemote then clampN 1 100 v else if role = roleLaneDrv then clampN 1 50 v else v

/-- A power of two from 16 to 4,096, the next lower one for other values (R371). -/
def ringSize (v : Nat) : Nat :=
  if 4096 ≤ v then 4096 else if 2048 ≤ v then 2048 else if 1024 ≤ v then 1024 else if 512 ≤ v then 512 else if 256 ≤ v then 256
  else if 128 ≤ v then 128 else if 64 ≤ v then 64 else if 32 ≤ v then 32 else 16

end Sys2Proof.Machine
end

