-- ==== Sys2Proof/Machine/Replay.lean ====
section
/-! DEFINITION. Compare records (R279, R280) and the replay timeline (R284): what every family that makes a stimulus gap uses. -/

namespace Sys2Proof.Machine

/-- A pair beside its registers. -/
def State.pair (s : State) (p : Nat) : PairSt := s.cmp.pairs.getD p {}

/-- Replace a pair's state beside its registers. -/
def State.setPair (s : State) (p : Nat) (x : PairSt) : State := { s with cmp := { s.cmp with pairs := s.cmp.pairs.setIfInBounds p x } }

/-- An event of the compare engine (R288), unless the pair's DIS_EVT suppresses it (R287). -/
def State.cmpEvt (s : State) (p code b16 : Nat) : State :=
  if s.is (R.CMP_P_CFG_DIS_EVT p) then s else s.fieldEvent 0x18 code p s.fNow.pack (leBytes 4 b16)

/-- Count in a 32-bit SAT counter of the compare block. -/
def State.cmpCount (s : State) (p a n : Nat) : State :=
  let r := s.satCount a 32 n R.CMP_EVT_SATURATED
  if r.2 then r.1.fieldEvent 0x18 0x0006 p r.1.fNow.pack (leBytes 4 (r.1.val R.CMP_EVT)) else r.1

/-- The T64 of an instant in units across eras. -/
def t64At (u : Nat) : Nat := (T64.ofUnits (u % (ticksPerEra * unitsPerTick))).pack

/-- The T64 of a signed instant; one before the start of time reads as 0. -/
def t64AtI (u : Int) : Nat := t64At u.toNat

/-- What a compare record says beside its pair's own numbers (R279). -/
structure CRec where
  cause : Nat
  d : Int
  ref : Option CItem := none
  cand : Option CItem := none
  /-- REF_T64 or CAND_T64 of a record that names no item (GAP). -/
  refT64 : Nat := 0
  candT64 : Nat := 0
  delta : Int := 0
  lat : Int := 0
  count : Nat := 0
  eom : Bool := false
  deriving DecidableEq, Repr

/-- A cause that is a discrepancy; the others are INFO. -/
def causeIsDisc (c : Nat) : Bool := 1 ≤ c && c ≤ 5

/-- The pair's reference is recorded. -/
def State.pairRecorded (s : State) (p : Nat) : Bool := s.get (R.CMP_P_REF_TYPE p) == 3

/-- A value of a compare record: for ENV minimum and maximum (R279). -/
def State.recValue (s : State) (p : Nat) (i : Option CItem) : Nat :=
  match i with
  | none => 0
  | some x =>
    if s.get (R.CMP_P_CFG_KIND p) ≠ 2 then 0
    else if s.get (R.CMP_P_CFG_RED p) = 2 then codeOf 16 x.v1 + 65536 * codeOf 16 x.v2
    else codeOf 32 x.v1

/-- The 64-byte payload of an XM_CMP (R279). -/
def State.cmpPayload (s : State) (p : Nat) (r : CRec) (supp since : Nat) : List Byte :=
  let kind := s.get (R.CMP_P_CFG_KIND p)
  let st (o : Option CItem) : Nat := (o.map (fun i => i.st)).getD 15
  let flags := (if s.pairRecorded p then 1 else 0) + (if causeIsDisc r.cause then 0 else 2) + (if r.ref.isSome then 4 else 0)
    + (if r.cand.isSome then 8 else 0)
  let tol := if kind = 2 then s.val (R.CMP_P_BAND_ABS p) else s.val (R.CMP_P_TOL p)
  leBytes 8 ((r.ref.map (fun i => i.t64)).getD r.refT64) ++ leBytes 8 ((r.cand.map (fun i => i.t64)).getD r.candT64)
    ++ leBytes 2 p ++ leBytes 1 r.cause ++ leBytes 1 flags ++ leBytes 2 ((r.ref.map (fun i => i.era)).getD 0)
    ++ leBytes 1 kind ++ leBytes 1 (st r.ref % 16 + 16 * (st r.cand % 16)) ++ leBytes 4 (codeOf 32 r.delta) ++ leBytes 4 (codeOf 32 r.lat)
    ++ leBytes 4 tol ++ leBytes 4 (s.recValue p r.ref) ++ leBytes 4 (s.recValue p r.cand) ++ leBytes 4 (s.val (R.CMP_P_SEQ p))
    ++ leBytes 4 r.count ++ leBytes 4 supp ++ leBytes 4 since ++ leBytes 4 0

/-- Send a record: the pair's SUPPRESSED and MATCHES start again. -/
def State.cmpSend (s : State) (p : Nat) (r : CRec) : State :=
  let x := s.pair p
  let s1 := s.sendFH 0x42 4 (t64AtI r.d) (s.cmpPayload p r x.supp (min x.since (2 ^ 32 - 1))) (if r.eom then flagEOM else 0)
  let s2 := s1.setPair p { x with supp := 0, since := 0 }
  s2.wrapCount (R.CMP_P_SEQ p) 1

/-- A record beyond FWD_MAX in the tick is not sent (R280). -/
def State.cmpSuppress (s : State) (p : Nat) : State :=
  let x := s.pair p
  let s1 := (s.setPair p { x with supp := x.supp + 1, since := 0 }).wrapCount (R.CMP_P_SEQ p) 1
  ((s1.cmpCount p (R.CMP_P_SUPPR p) 1).cmpCount p R.CMP_SUPPR 1).set R.CMP_EVT_SUPPR 1

/-- Produce a record (R279, R280): discrepancies count, replace LAST, raise the fault source of R287 and are forwarded up to FWD_MAX in the
tick; INFO records always leave. -/
def State.cmpRecord (s : State) (p : Nat) (r : CRec) : State :=
  if causeIsDisc r.cause then
    let s1 := (s.cmpCount p (R.CMP_P_DISC p) 1).wrapCount64 R.CMP_DISC_LO 1
    let s2 := (s1.replaceResult (R.CMP_P_LAST_LO p) (R.CMP_P_LAST_GEN p) (t64AtI r.d)).set R.CMP_EVT_DISC 1
    let s3 := if s2.is (R.CMP_P_CFG_FLT_EN p) then s2.fieldFault 0x4A p else s2
    if s3.cmp.sent < s3.get R.CMP_CTRL_FWD_MAX then
      let s4 := s3.cmpSend p r
      { s4 with cmp := { s4.cmp with sent := s4.cmp.sent + 1 } }
    else s3.cmpSuppress p
  else s.cmpSend p r

/-- Number of a stimulus stream that CMP_RPL_LINK names: generator g, or 48 for the sequencer. -/
def State.linked (s : State) (k : Nat) : Bool :=
  if k < 32 then (s.rd R.CMP_RPL_LINK_LO).getLsbD k
  else if k < 48 then (s.rd R.CMP_RPL_LINK_HI).getLsbD (k - 32)
  else s.is R.CMP_RPL_LINK_HI_VEC

/-- Streams that are linked. -/
def State.linkCount (s : State) : Nat := ((List.range 49).filter (fun k => s.linked k)).length

/-- Pairs that run with a recorded reference. -/
def State.recordedPairs (s : State) : List Nat :=
  (List.range 128).filter (fun p => s.pairRecorded p && (1 ≤ s.get (R.CMP_P_STAT_STATE p) && s.get (R.CMP_P_STAT_STATE p) ≤ 4))

/-- One side of a pair is absent from an instant on (R269): its crossing detector resets. -/
def State.sideAbsent (s : State) (p : Nat) (isRef : Bool) (t : Int) : State :=
  let x := s.pair p
  if (if isRef then x.absRef else x.absCand).isSome then s
  else
    let x1 := if isRef then { x with absRef := some t, refDet := {} } else { x with absCand := some t, candDet := {} }
    (s.setPair p x1).set (R.CMP_P_STAT_ABSENT p) 1

/-- The reference side of a pair is absent from an instant on (R269). -/
def State.refAbsent (s : State) (p : Nat) (t : Int) : State := s.sideAbsent p true t

/-- The span of absence of one side ends at an instant, without its record. -/
def State.closeSpan (s : State) (p : Nat) (isRef : Bool) (a t : Int) : State :=
  let x := s.pair p
  let x1 := if isRef then { x with absRef := none, spans := (a, t) :: x.spans } else { x with absCand := none, spans := (a, t) :: x.spans }
  let s1 := s.setPair p x1
  if x1.absRef.isNone && x1.absCand.isNone then s1.set (R.CMP_P_STAT_ABSENT p) 0 else s1

/-- The state of a pair's side now: of a port its live state, of a lane LOW after a reset of its detector, of a recording unknown (R268, R273). -/
def State.sideState (s : State) (p : Nat) (isRef : Bool) : Nat :=
  let ty := s.get (if isRef then R.CMP_P_REF_TYPE p else R.CMP_P_CAND_TYPE p)
  let k := s.get (if isRef then R.CMP_P_REF_INSTANCE p else R.CMP_P_CAND_INSTANCE p)
  if ty = 1 then s.get (R.PIN_STAT_CMP_LIVE k) else if ty = 2 then 1 else 15

/-- A state pair knows the state of a side from an instant on. -/
def State.sideKnown (s : State) (p : Nat) (isRef : Bool) (t : Int) : State :=
  if s.get (R.CMP_P_CFG_KIND p) = 1 then
    let x := s.pair p
    let i : CItem := { t := t, st := s.sideState p isRef, t64 := t64AtI t }
    s.setPair p (if isRef then { x with ref := x.ref ++ [i] } else { x with cand := x.cand ++ [i] })
  else s

/-- STATE of a pair changes; when a pair leaves RUN, the FROM_PAIR pairs that follow it wait for its latency (R276). -/
def State.pairState (s : State) (p v : Nat) : State :=
  let s1 := s.set (R.CMP_P_STAT_STATE p) v
  if s.get (R.CMP_P_STAT_STATE p) = 2 ∧ v ≠ 2 then
    (List.range 128).foldl (fun t q =>
      if t.get (R.CMP_P_CFG_LAT_MODE q) = 2 ∧ t.get (R.CMP_P_CFG_LAT_PAIR q) = p ∧ t.get (R.CMP_P_STAT_STATE q) = 2 then
        t.set (R.CMP_P_STAT_STATE q) 3
      else t) s1
  else s1

/-- Ticks of a span, rounded up. -/
def spanTicks (a t : Int) : Nat := ((t - a).toNat + unitsPerTick - 1) / unitsPerTick

/-- The span of absence of one side ends: one record of cause GAP with its start, its end and its length in ticks (R269). A span that a full queue
made ends with its OVERFLOW record instead (R281). -/
def State.sideBack (s : State) (p : Nat) (isRef : Bool) (t : Int) : State :=
  let x := s.pair p
  match (if isRef then x.absRef else x.absCand) with
  | none => s
  | some a =>
    if x.lost ≠ 0 then s
    else
      let s1 := ((s.closeSpan p isRef a t).sideKnown p isRef t).cmpCount p (R.CMP_P_GAP_TICKS p) (spanTicks a t)
      s1.cmpRecord p { cause := 0x07, d := t, lat := s1.sval (R.CMP_P_LAT_ACT p), refT64 := t64AtI a, candT64 := t64AtI t, count := spanTicks a t }

/-- Items of a pair source wait, at most 2,048 (R281). -/
def pairQueue : Nat := 2048

/-- Items that the engine handles in a tick (R281). -/
def engineItems : Nat := 64000

/-- A list of items cut to its newest `n`, with the state that the cut ones leave. -/
def cutItems (n : Nat) (st : Nat) (l : List CItem) : Nat × List CItem :=
  let k := l.length - n
  (((l.take k).getLast?.map CItem.st).getD st, l.drop k)

/-- An item reaches one side of a pair. A full queue, or a full engine, discards it and those after it until the pair's OVERFLOW record, and their span
is absent (R281). A learning pair stores its items, and a waiting one the newest. -/
def State.pairItem (s : State) (p : Nat) (isRef : Bool) (i : CItem) : State :=
  let x := s.pair p
  let st := s.get (R.CMP_P_STAT_STATE p)
  if x.lost ≠ 0 ∨ engineItems ≤ s.cmp.items ∨ (st = 2 ∧ pairQueue ≤ x.ref.length + x.cand.length + x.wait.length) then
    let x1 := { x with lost := x.lost + 1, lostAt := if x.lost = 0 then i.t else x.lostAt, lostTo := i.t }
    let x2 := if isRef then { x1 with absRef := some (x.absRef.getD i.t) } else { x1 with absCand := some (x.absCand.getD i.t) }
    (s.setPair p x2).set (R.CMP_P_STAT_ABSENT p) 1
  else
    let x1 := if isRef then { x with ref := x.ref ++ [i] } else { x with cand := x.cand ++ [i] }
    let r := cutItems 1024 x1.refSt x1.ref
    let c := cutItems 1024 x1.candSt x1.cand
    let x2 := if st = 3 then { x1 with refSt := r.1, ref := r.2, candSt := c.1, cand := c.2 } else x1
    { s.setPair p x2 with cmp := { (s.setPair p x2).cmp with items := s.cmp.items + 1 } }

/-- A pair takes items: enabled and in LEARNING, RUN or WAIT_LAT (R266, R286). -/
def State.pairLive (s : State) (p : Nat) : Bool :=
  s.is (R.CMP_P_CTRL_EN p) && (1 ≤ s.get (R.CMP_P_STAT_STATE p) && s.get (R.CMP_P_STAT_STATE p) ≤ 3)

/-- A transition of a port reaches the pairs that name the port (R267). -/
def State.pinPairs (s : State) (p st at_ : Nat) : State :=
  (List.range 128).foldl (fun t k =>
    if t.pairLive k then
      let i : CItem := { t := at_, st := st, t64 := t64At at_ }
      let t1 := if t.get (R.CMP_P_REF_TYPE k) = 1 ∧ t.get (R.CMP_P_REF_INSTANCE k) = p then t.pairItem k true i else t
      if t1.get (R.CMP_P_CAND_TYPE k) = 1 ∧ t1.get (R.CMP_P_CAND_INSTANCE k) = p then t1.pairItem k false i else t1
    else t) s

/-- A port's comparator can be trusted: its role has one and its de-skew is valid (R269). -/
def State.pinTrusted (s : State) (p : Nat) : Bool :=
  (s.get (R.PIN_STAT_ROLE p) == 1 || s.get (R.PIN_STAT_ROLE p) == 2) && s.is (R.PIN_STAT_DESKEW_VALID p)

/-- Pairs that name a port find it absent or back (R269). -/
def State.pinPairCheck (s : State) (p : Nat) : State :=
  (List.range 128).foldl (fun t k =>
    if t.pairLive k then
      let side (t : State) (isRef : Bool) : State := if t.pinTrusted p then t.sideBack k isRef t.fU else t.sideAbsent k isRef t.fU
      let t1 := if t.get (R.CMP_P_REF_TYPE k) = 1 ∧ t.get (R.CMP_P_REF_INSTANCE k) = p then side t true else t
      if t1.get (R.CMP_P_CAND_TYPE k) = 1 ∧ t1.get (R.CMP_P_CAND_INSTANCE k) = p then side t1 false else t1
    else t) s

/-- The overdraft of a stimulus stream starts a gap (R284): with one linked stream the recorded pairs are absent, with more they enter
BROKEN; their records follow when the gap's length is known. -/
def State.replayBreak (s : State) (k start : Nat) : State :=
  if s.linked k then
    let ps := s.recordedPairs
    let s1 := { s with cmp := { s.cmp with gaps := (k, start) :: s.cmp.gaps.filter (fun x => x.1 != k) } }
    if s.linkCount = 1 then ps.foldl (fun t p => t.refAbsent p start) s1
    else
      let s2 := if ps.isEmpty then s1 else s1.set R.CMP_EVT_REPLAY_BREAK 1
      ps.foldl (fun t p =>
        let t1 := (t.refAbsent p start).pairState p 5
        (t1.setPair p { t1.pair p with broke := true }).cmpEvt p 0x0003 0x0C) s2
  else s

/-- Items of a recording that lie at or after an instant move by a length: their live instants follow CMP_RPL_ADJ (R283, R284). -/
def PairSt.shift (x : PairSt) (start length : Int) : PairSt :=
  let mv (i : CItem) : CItem := if start ≤ i.t then { i with t := i.t + length } else i
  { x with ref := x.ref.map mv, wait := x.wait.map mv, rdEnd := x.rdEnd.map (fun e => if start ≤ e then e + length else e),
           rdFrom := x.rdFrom.map (fun e => if start ≤ e then e + length else e) }

/-- The gap of a stimulus stream ends (R284): with one linked stream CMP_RPL_ADJ grows by its length and judging resumes 2 ticks later;
with more, each recorded pair in BROKEN produces its record. -/
def State.replayGapEnd (s : State) (k length stop : Nat) : State :=
  match s.cmp.gaps.find? (fun x => x.1 == k) with
  | none => s
  | some g =>
    let s1 := { s with cmp := { s.cmp with gaps := s.cmp.gaps.filter (fun x => x.1 != k) } }
    if s.linkCount = 1 then
      let s2 := (s1.put64 R.CMP_RPL_ADJ_LO ((s1.val64 R.CMP_RPL_ADJ_LO + length) % 2 ^ 64)).set R.CMP_EVT_RESHIFT 1
      let s3 := s2.recordedPairs.foldl (fun t p => t.setPair p ((t.pair p).shift g.2 length)) s2
      { s3 with cmp := { s3.cmp with ended := s3.cmp.ended ++ [(k, length, stop)] } }
    else
      let ps := (List.range 128).filter (fun p => (s1.pair p).broke)
      ps.foldl (fun t p =>
        (t.setPair p { t.pair p with broke := false }).cmpRecord p
          { cause := 0x0C, d := stop, lat := t.sval (R.CMP_P_LAT_ACT p), count := (length + unitsPerTick - 1) / unitsPerTick }) s1

end Sys2Proof.Machine
end

