-- ==== Sys2Proof/Machine/Pins.lean ====
section
/-! DEFINITION. Pin channels (R92–R131): the drive inhibit, levels, de-skew, enabling and disabling, and transition capture. -/

namespace Sys2Proof.Machine

/-- Run `f` where the domain of an address is on; a write to a block that is off is discarded (R19). [DESIGN CHOICE, log 12, safe; DEDUCED, log 13, unsafe] -/
def State.ifOn (s : State) (a : Nat) (f : State → State) : State := if s.powered a then f s else s

/-! ### Drive inhibit (R104, R433) -/

/-- Both copies of the DRIVE_INH pin's level (R434). -/
def State.showInhPin (s : State) (v : Nat) : State := (s.set R.SYS_STAT_DRIVE_INH_PIN v).set R.SYS_DRIVE_INH_PIN v

/-- DRIVE_INH_ASSERT (R104): every driver turns off, and source 0x4C is raised. -/
def State.doDriveInhAssert (s : State) : State :=
  if s.seq.inhPin then s
  else
    let s1 := ({ s with seq := { s.seq with inhPin := true } }).driversOff
    (s1.showInhPin 1).fieldFault 0x4C 0

/-- DRIVE_INH_ASSERT. -/
def execDriveInhAssert (u : Sub) (s : State) : Host.Outcome State Fault Refusal := done s (s.atF u).doDriveInhAssert

/-- DRIVE_INH_PIN_RELEASE (R104): drivers turn on again at the D_ON of the next vector that drives. -/
def execDriveInhPinRelease (u : Sub) (s : State) : Host.Outcome State Fault Refusal :=
  done s (({ s.atF u with seq := { s.seq with inhPin := false } }).showInhPin 0)

/-- A write of 1 to SYS_DRIVE_INH (R104): the field half treats it as active and every driver turns off; a level crossing on VC1 needs the
link. -/
def State.doDriveInhSet (s : State) : State :=
  let s1 := s.inhibitOn .write
  if s1.linkUp then ({ s1 with seq := { s1.seq with inhField := true, relDue := false } }).driversOff else s1

/-- SYS_DRIVE_INH_SET. -/
def execSysDriveInhSet (u : Sub) (s : State) : Host.Outcome State Fault Refusal := done s (s.atH u).doDriveInhSet

/-- A window with INHIBIT in force has output 1 (R433). -/
def State.guardHolds (s : State) : Bool :=
  (List.range 64).any (fun w => s.is (R.GRD_W_ACT_INHIBIT w) && s.is (R.GRD_W_STAT_OUT w))

/-- The conditions of a release (R433). -/
def State.releaseAllowed (s : State) : Bool :=
  !s.seq.inhPin && !s.guardHolds && s.linkUp && s.mode != 0 && !s.is R.SYS_STAT_FAULT_HOLD

/-- A write of 0 to SYS_DRIVE_INH (R433). -/
def State.doDriveInhRelease (s : State) : State :=
  if s.releaseAllowed then
    let t := s.inhibitRelease
    { t with seq := { t.seq with relDue := true } }
  else s.set R.SYS_EVT_INH_REFUSED 1

/-- DRIVE_INH_RELEASE. -/
def execDriveInhRelease (u : Sub) (s : State) : Host.Outcome State Fault Refusal := done s (s.atH u).doDriveInhRelease

/-- FIELD_INHIBIT_END (R433): the field half ends the inhibit at the first tick boundary after the release arrives, unless a guard reaction or
a write has set it again. -/
def State.doFieldInhibitEnd (s : State) : State :=
  if s.seq.relDue then
    let inh := s.is R.SYS_DRIVE_INH_INH
    { s with seq := { s.seq with relDue := false, inhField := inh }, link := { s.link with holdExpired := s.link.holdExpired && inh } }
  else s

/-- FIELD_INHIBIT_END. -/
def execFieldInhibitEnd (s : State) : Host.Outcome State Fault Refusal := done s s.doFieldInhibitEnd

/-! ### Pod managers' view that channels need -/

/-- A slot's pod manager beside its registers. -/
def State.pod (s : State) (q : Nat) : PodSt := s.pods.getD q {}

/-- Replace it. -/
def State.setPod (s : State) (q : Nat) (x : PodSt) : State := { s with pods := s.pods.setIfInBounds q x }

/-- The slot holds an attached pod (STATE ATTACHED, or LINK_LOST which keeps roles, R336). -/
def State.podHere (s : State) (q : Nat) : Bool := s.get (R.POD_S_STAT_STATE q) == 4 || s.get (R.POD_S_STAT_STATE q) == 6

/-- The slot holds a negotiated A8. -/
def State.podA8 (s : State) (q : Nat) : Bool := s.podHere q && s.get (R.POD_S_STAT_TYPE q) == 1

/-! ### Levels (R111, R112) -/

/-- Start of the next field tick, in units. -/
def State.nextTickU (s : State) : Nat := s.fTickU + unitsPerTick

/-- A write of a level (R111, R112): clamped and rounded; on a REMOTE port a LEVEL request carries it to the pod, on a lane role it is in
force from the next tick boundary. -/
def State.doLevelWrite (s : State) (p : Port) (w : LevelReg) (v : Word) : State :=
  s.ifOn (levelAddr p w) (fun s =>
    let s1 := s.storeLevel p w (signedOf 32 v.toNat)
    if s1.role p = roleRemote then
      let q := p.val / 16
      let x := s1.pod q
      (s1.set (R.PIN_STAT_LVL_PENDING p) 1).setPod q { x with levels := x.levels.filter (fun y => y != (p, w)) ++ [(p, w)] }
    else if s1.role p = roleNone then s1
    else (s1.set (R.PIN_STAT_LVL_PENDING p) 1).setPinRt p { s1.pinRt p with lvlFrom := s1.nextTickU })

/-- PIN_LEVEL_WRITE. -/
def execPinLevelWrite (u : Sub) (p : Port) (which : LevelReg) (v : Word) (s : State) : Host.Outcome State Fault Refusal :=
  done s ((s.atF u).doLevelWrite p which v)

/-- LANE_LEVEL_APPLY (R112): at the tick boundary LVL_PENDING of a lane role falls. -/
def State.doLaneLevelApply (s : State) (p : Port) : State :=
  if 2 ≤ s.role p ∧ (s.pinRt p).lvlFrom ≤ s.fU then s.set (R.PIN_STAT_LVL_PENDING p) 0 else s

/-- LANE_LEVEL_APPLY. -/
def execLaneLevelApply (p : Port) (s : State) : Host.Outcome State Fault Refusal := done s (s.doLaneLevelApply p)

/-! ### De-skew (R114, R115, R119) -/

/-- Length of a de-skew measurement: 20 ticks. -/
def deskewUnits : Nat := 20 * unitsPerTick

/-- Start a measurement. -/
def State.deskewStart (s : State) (p : Nat) : State :=
  (s.set (R.PIN_STAT_DESKEW_BUSY p) 1).setPinRt p { s.pinRt p with deskewEnd := s.fU + deskewUnits }

/-- A write of 1 to DESKEW (R114): refused while the channel is busy or takes part in running vectors, or with no attached pod. -/
def State.doDeskew (s : State) (p : Nat) : State :=
  s.ifOn (R.PIN_CTRL p) (fun s =>
    let running := s.is R.SEQ_STAT_BUSY && s.is (R.PIN_CTRL_EN p)
    if s.is (R.PIN_STAT_BUSY p) || running || !s.podHere (p / 16) then
      s.pinEvt p (R.PIN_EVT_DESKEW_FAIL p) 0x0002
    else s.deskewStart p)

/-- DESKEW. -/
def execDeskew (u : Sub) (p : Port) (s : State) : Host.Outcome State Fault Refusal := done s ((s.atF u).doDeskew p)

/-- The role that the slot's pod gives a port (R92). -/
def State.podRole (s : State) (p : Nat) : Nat :=
  if !s.podHere (p / 16) then 0
  else if s.get (R.POD_S_STAT_TYPE (p / 16)) = 2 then 1
  else if s.get (R.POD_S_STAT_TYPE (p / 16)) = 1 ∧ p < 96 then (if p % 2 = 0 then 2 else 3)
  else 0

/-- The role of a port changes: levels are clamped again for the new role, and a role with a comparator shows its state. -/
def State.setRole (s : State) (p r : Nat) : State :=
  if s.role p = r then s
  else
    let s1 := s.set (R.PIN_STAT_ROLE p) r
    let s2 := s1.set (R.PIN_STAT_CMP_LIVE p) (if roleCompares r then (if s.get (R.PIN_STAT_CMP_LIVE p) = 3 then 0 else s.get (R.PIN_STAT_CMP_LIVE p)) else 3)
    if r = 0 then (s2.driverOff p).pinPairCheck p
    else
      let lv := [LevelReg.drvHi, .drvLo, .cmpHi, .cmpLo, .term]
      let s3 := lv.foldl (fun t w => t.storeLevel p w (t.sval (levelAddr p w))) s2
      s3.put (R.PIN_PROT p) (s3.val (R.PIN_PROT p) / 65536 * 65536 + ilimClamp r (s3.val (R.PIN_PROT p) % 65536))

/-- A measurement has failed (R115). -/
def State.deskewFail (s : State) (p : Nat) : State :=
  ((s.set (R.PIN_STAT_DESKEW_VALID p) 0).pinEvt p (R.PIN_EVT_DESKEW_FAIL p) 0x0002).pinPairCheck p

/-- A measurement has succeeded (R115): the role returns with it (R94). -/
def State.deskewOk (s : State) (p cmp drv : Nat) : State :=
  let s1 := (s.set (R.PIN_DESKEW_CMP p) cmp).set (R.PIN_DESKEW_DRV p) drv
  ((s1.set (R.PIN_STAT_DESKEW_VALID p) 1).set (R.PIN_EVT_DESKEW_DONE p) 1).setRole p (s1.podRole p) |>.pinPairCheck p

/-- The mean of the 16 runs in units; the rounding of a mean that is no whole number is a free value. [DESIGN CHOICE, log 54, safe] -/
def State.deskewMean (s : State) (runs : List Nat) : Nat × State :=
  let sum := runs.foldl (· + ·) 0
  if sum % 16 = 0 then (sum / 16, s) else let f := s.fresh 1; (sum / 16 + f.1, f.2)

/-- A measurement on a REMOTE port ends (R115). -/
def State.deskewRemote (s : State) (p : Nat) (runs : List Nat) : State :=
  let sum : Int := (runs.foldl (· + ·) 0 : Nat)
  let m := s.deskewMean runs
  let s1 := m.2
  let dD : Int := s1.get (R.POD_S_DELAY_DD (p / 16))
  let dC : Int := s1.get (R.POD_S_DELAY_DC (p / 16))
  let tR : Int := m.1
  let drv := -((-(tR + dD - dC)) / 2)
  let cmp := (tR - dD + dC) / 2
  let spread := runs.any (fun r => decide (128 < (16 * (r : Int) - sum).natAbs))
  if runs.length ≠ 16 ∨ spread ∨ drv < 0 ∨ 65535 < drv ∨ cmp < 0 ∨ 65535 < cmp then s1.deskewFail p
  else (s1.put (R.PIN_DESKEW_RT p) m.1).deskewOk p cmp.toNat drv.toNat

/-- A measurement on a lane role ends (R119): the delay comes from the bank in force, in whole units of the 1/64-unit items. -/
def State.deskewLane (s : State) (p : Nat) : State :=
  let l := laneOfPort p
  let range := s.get (R.LANE_ACTIVE_RANGE l)
  let drives := p % 2 == 1
  match s.bankA 1 l range, s.bankA 2 l range, s.bankA 3 l 0 with
  | some _, some d2, o3 =>
    if drives then
      match o3 with
      | some d3 => s.deskewOk p 0 (clampI 0 65535 (d3 / 64)).toNat
      | none => s.deskewFail p
    else s.deskewOk p (clampI 0 65535 (d2 / 64)).toNat 0
  | _, _, _ => s.deskewFail p

/-- DESKEW_DONE (R114, R115, R119): 20 ticks after its start the measurement ends, with the round trips of its 16 runs. -/
def State.doDeskewDone (s : State) (p : Nat) (runs : List Nat) : State :=
  if s.is (R.PIN_STAT_DESKEW_BUSY p) ∧ (s.pinRt p).deskewEnd ≤ s.fU then
    let s1 := s.set (R.PIN_STAT_DESKEW_BUSY p) 0
    if !s1.podHere (p / 16) then s1.deskewFail p
    else if s1.get (R.POD_S_STAT_TYPE (p / 16)) = 2 then s1.deskewRemote p runs
    else s1.deskewLane p
  else s

/-- DESKEW_DONE. -/
def execDeskewDone (u : Sub) (p : Port) (runs : List Nat) (s : State) : Host.Outcome State Fault Refusal :=
  done s ((s.atF u).doDeskewDone p runs)

/-! ### Enabling and disabling (R116, R117, R128) -/

/-- 64 vector-clock cycles in units. -/
def lead64 : Nat := 64 * 256

/-- A generator owns the drive DAC of lane `l`: G(l), or the even generator before it in a pair mode (R117, R188). -/
def State.genOwns (s : State) (l : Nat) : Bool :=
  s.is (R.GEN_STAT_OWNER l)
    || (l % 2 == 1 && s.is (R.GEN_STAT_OWNER (l - 1)) && (s.get (R.GEN_CFG_MODE (l - 1)) == 2 || s.get (R.GEN_CFG_MODE (l - 1)) == 3))

/-- A pin channel owns the drive DAC of lane `l`: its drive port is enabled or busy as a lane drive channel. -/
def State.pinOwns (s : State) (l : Nat) : Bool :=
  let p := 16 * (l / 8) + 2 * (l % 8) + 1
  s.role p == roleLaneDrv && (s.is (R.PIN_CTRL_EN p) || s.is (R.PIN_STAT_BUSY p))

/-- EN is written with 1 (R88, R116, R117, R128). -/
def State.doPinEnable (s : State) (p : Nat) : State :=
  s.ifOn (R.PIN_CTRL p) (fun s =>
    if s.is (R.PIN_CTRL_EN p) || s.is (R.PIN_STAT_BUSY p) then s
    else if s.role p ≠ roleNone ∧ !s.is (R.PIN_STAT_DESKEW_VALID p) then s
    else if s.role p = roleLaneDrv ∧ s.genOwns (laneOfPort p) then s.pinEvt p (R.PIN_EVT_LANE_CONFLICT p) 0x0004
    else
      let s1 := s.set (R.PIN_CTRL_EN p) 1
      s1.setPinRt p { s1.pinRt p with enFrom := if s.is R.SEQ_STAT_BUSY then s.fU + lead64 else 0 })

/-- PIN_ENABLE. -/
def execPinEnable (u : Sub) (p : Port) (s : State) : Host.Outcome State Fault Refusal := done s ((s.atF u).doPinEnable p)

/-- A disabled channel stops at the end of its vector: drive-off, BUSY falls, and the Ledger takes the stop (R87, R128). -/
def State.pinStop (s : State) (p stop : Nat) : State :=
  let s1 := (s.driverOff p).set (R.PIN_STAT_BUSY p) 0
  (s1.setPinRt p { s1.pinRt p with stopping := false }).stopEntry 0x13 p (t64At stop) 0 0

/-- EN is written with 0 (R128): the vector in progress completes with the channel taking part. -/
def State.doPinDisable (s : State) (p : Nat) : State :=
  s.ifOn (R.PIN_CTRL p) (fun s =>
    if s.is (R.PIN_CTRL_EN p) then
      let s1 := s.set (R.PIN_CTRL_EN p) 0
      if s.fU < s.seq.endAt then (s1.set (R.PIN_STAT_BUSY p) 1).setPinRt p { s1.pinRt p with stopping := true }
      else s1.pinStop p s.fU
    else s)

/-- PIN_DISABLE. -/
def execPinDisable (u : Sub) (p : Port) (s : State) : Host.Outcome State Fault Refusal := done s ((s.atF u).doPinDisable p)

/-- Channels that were disabled in the vector that ends at or before `t` stop (R128). -/
def State.pinSettle (s : State) (t : Nat) : State :=
  if s.seq.endAt ≤ t then
    (s.seq.pins.filter (fun x => x.2.stopping)).foldl (fun t x => t.pinStop x.1 s.seq.endAt) s
  else s

/-- A write of 1 to PIN_CTRL.CLR_STATS (R130). -/
def State.doPinClrStats (s : State) (p : Nat) : State :=
  s.ifOn (R.PIN_CTRL p) (fun s =>
    (s.putAll [R.PIN_FAIL_CNT_LO p, R.PIN_FAIL_CNT_HI p, R.PIN_SUPPR_CNT p, R.PIN_EDGE_SKIP p, R.PIN_EDGE_LOST p] 0).set
      (R.PIN_FIRST_FAIL_GEN_VALID p) 0)

/-- PIN_CLR_STATS. -/
def execPinClrStats (p : Port) (s : State) : Host.Outcome State Fault Refusal := done s (s.doPinClrStats p)

/-! ### Transitions (R120–R122, R237) -/

/-- Code of a comparator state (CMP_LIVE, STATE of R120). -/
def cmpCode : CmpState → Nat
  | .mid => 0 | .low => 1 | .high => 2

/-- A comparator state of a port that has persisted for FILT cycles; `at_` is the instant at which it began, at the terminal (R121). -/
def State.doPinTransition (s : State) (p st at_ : Nat) : State :=
  if !roleCompares (s.role p) then s
  else
    let s1 := s.set (R.PIN_STAT_CMP_LIVE p) st
    let s2 := (s1.pinTransitionSources p st at_).pinPairs p st at_
    if !s2.is (R.PIN_CAPT_EN p) || decide (s2.fU < (s2.pinRt p).captFrom) then s2
    else if floatSize < s2.floatFill + 4 then
      let s3 := s2.pinCount p (R.PIN_EDGE_LOST p) 1
      { s3 with link := { s3.link with gapFH := 2 :: s3.link.gapFH.erase 2, floatLoss := true } }
    else
      let x := s2.pinRt p
      s2.setPinRt p { x with capt := x.capt ++ [(at_, st)] }

/-- PIN_TRANSITION: at instant `u` of the tick the state has persisted; it began FILT cycles earlier, and PIN_DESKEW.CMP refers the instant
to the terminal (R121). -/
def execPinTransition (u : Sub) (p : Port) (st : CmpState) (s : State) : Host.Outcome State Fault Refusal :=
  let s1 := s.atF u
  done s (s1.doPinTransition p (cmpCode st) (s1.fU - s1.get (R.PIN_CAPT_FILT p) * 256 - s1.get (R.PIN_DESKEW_CMP p)))

end Sys2Proof.Machine
end

