-- ==== Sys2Proof/Machine/Sampling.lean ====
section
/-! DEFINITION. Samples of the lanes (R205, R216, R222–R224) as they reach the field half: the crossing detector (R233, R234), the lane
triggers (R231–R236), the compare pairs' detectors (R268), the reductions' buffers (R247, R252) and Tally's (R258, R259). Every command that
carries samples hands them to `takeSamples`. -/

namespace Sys2Proof.Machine

/-! ### The crossing detector (R233, R234) -/

/-- 6 × 256³ times the cubic of R234 at position `k` / 256, through the samples at −1, 0, 1 and 2. -/
def cubic (a b c d k : Int) : Int :=
  -(a * k * (k - 256) * (k - 512)) + 3 * b * (k + 256) * (k - 256) * (k - 512) - 3 * c * (k + 256) * k * (k - 512)
    + d * (k + 256) * k * (k - 256)

/-- Bisection steps of R234: the largest position found to lie before the crossing. -/
def bisect (before : Nat → Bool) : Nat → Nat → Nat → Nat
  | 0, lo, _ => lo
  | n + 1, lo, hi => if before ((lo + hi) / 2) then bisect before n ((lo + hi) / 2) hi else bisect before n lo ((lo + hi) / 2)

/-- SUBPOS of a crossing of `level` between the middle two of four samples (R234). -/
def subPos (a b c d level : Int) (rising : Bool) : Nat :=
  bisect (fun k =>
    let v := cubic a b c d k
    let t := level * (6 * 256 ^ 3)
    if rising then decide (v < t) else decide (t ≤ v)) 8 0 256

/-- A rising or a falling crossing of a level between a sample and the next (R233); none when there is none. -/
def crossKind (x0 x1 level : Int) : Option Bool :=
  if x0 < level ∧ level ≤ x1 then some true else if level ≤ x0 ∧ x1 < level then some false else none

/-- The detector takes the next present sample, at instant `t`: its new state, and the counted crossing it completes, as its instant in 1/256
unit and whether it rises (R233, R234). -/
def CrossSt.step (x : CrossSt) (level hyst : Int) (period t : Nat) (c : Int) : CrossSt × Option (Nat × Bool) :=
  let hit := match x.last with
    | x1 :: x0 :: xm :: _ =>
      (crossKind x0 x1 level).bind (fun r =>
        if hyst = 0 ∨ (r = true ∧ x.armR = true) ∨ (r = false ∧ x.armF = true) then
          some ((t - 2 * period) * 256 + subPos xm x0 x1 c level r * period, r)
        else none)
    | _ => none
  let keepR := x.armR && !(hit.any (fun h => h.2))
  let keepF := x.armF && !(hit.any (fun h => !h.2))
  ({ last := (c :: x.last).take 3, armR := keepR || decide (c ≤ level - hyst), armF := keepF || decide (level + hyst ≤ c) }, hit)

/-! ### Lane triggers (R231–R236) -/

/-- Fields of a trigger's words in force. -/
def LTrigSt.en (x : LTrigSt) : Bool := x.cfg.getLsbD 31
def LTrigSt.src (x : LTrigSt) : Nat := fieldOf x.cfg 26 2
def LTrigSt.kind (x : LTrigSt) : Nat := fieldOf x.cfg 23 3
def LTrigSt.pol (x : LTrigSt) : Nat := fieldOf x.cfg 21 2
def LTrigSt.wcond (x : LTrigSt) : Nat := fieldOf x.cfg 19 2
def LTrigSt.hyst (x : LTrigSt) : Int := fieldOf x.cfg 0 16
def LTrigSt.l1 (x : LTrigSt) : Int := signedOf 16 (fieldOf x.lvl 0 16)
def LTrigSt.l2 (x : LTrigSt) : Int := signedOf 16 (fieldOf x.lvl 16 16)

/-- A duration in fraction units meets WCOND (R232). -/
def LTrigSt.meets (x : LTrigSt) (d : Nat) : Bool :=
  match x.wcond with
  | 0 => decide (d < x.t1)
  | 1 => decide (x.t1 < d)
  | 2 => decide (x.t1 ≤ d ∧ d ≤ x.t2)
  | _ => decide (d < x.t1 ∨ x.t2 < d)

/-- POL takes in rising or positive; falling or negative. -/
def LTrigSt.up (x : LTrigSt) : Bool := x.pol != 1
def LTrigSt.down (x : LTrigSt) : Bool := x.pol != 0

/-- The trigger takes a counted crossing of L1 (`one`) or L2: its new state and the event it makes. -/
def LTrigSt.cross (x : LTrigSt) (one : Bool) (h : Nat × Bool) : LTrigSt × Option Nat :=
  let st := h.1
  let since (o : Option Nat) : Bool := o.any (fun a => x.meets ((st - a) / 256))
  let evt (b : Bool) : Option Nat := if b then some st else none
  match x.kind, one, h.2 with
  | 0, true, r => (x, evt (if x.pol = 1 then !r else r))
  | 1, true, r => (x, evt (if r then x.up else x.down))
  | 2, true, r => (x, evt (if r then x.down else x.up))
  | 2, false, r => (x, evt (if r then x.up else x.down))
  | 3, false, true => ({ x with r2 := some st }, none)
  | 3, true, true => ({ x with r2 := none, f1 := none }, evt (x.up && since x.r2))
  | 3, true, false => ({ x with f1 := some st }, none)
  | 3, false, false => ({ x with r2 := none, f1 := none }, evt (x.down && since x.f1))
  | 4, true, true => ({ x with r1 := some st, f1 := none }, evt (x.down && since x.f1))
  | 4, true, false => ({ x with f1 := some st, r1 := none }, evt (x.up && since x.r1))
  | 5, false, true => ({ x with runtUp := true }, none)
  | 5, true, true => ({ x with runtUp := false, runtDn := false }, evt (x.down && x.runtDn))
  | 5, true, false => ({ x with runtDn := true }, none)
  | 5, false, false => ({ x with runtUp := false, runtDn := false }, evt (x.up && x.runtUp))
  | _, _, _ => (x, none)

/-- The level output after a present sample (R232, R233). -/
def LTrigSt.level (x : LTrigSt) (c : Int) : Bool :=
  match x.kind with
  | 0 => if x.pol = 1 then decide (c < x.l1) else decide (x.l1 ≤ c)
  | 1 => decide (x.l1 ≤ c)
  | 2 => decide (x.l2 ≤ c ∧ c < x.l1)
  | _ => false

/-- The trigger takes a present sample: its new state and the STAMPs of its events, in order (R232). -/
def LTrigSt.sample (x : LTrigSt) (period t : Nat) (c : Int) : LTrigSt × List Nat :=
  let a := x.d1.step x.l1 x.hyst period t c
  let b := x.d2.step x.l2 x.hyst period t c
  let two : Bool := x.kind == 2 || x.kind == 3 || x.kind == 5
  let c1 := (a.2.map (fun h => (true, h))).toList
  let c2 := if two then (b.2.map (fun h => (false, h))).toList else []
  let first : Bool := match a.2, b.2 with
    | some p, some q => decide (p.1 ≤ q.1)
    | _, _ => true
  let hs := if first then c1 ++ c2 else c2 ++ c1
  let x0 := { x with d1 := a.1, d2 := b.1, lastTick := t / unitsPerTick }
  let r := hs.foldl (fun (acc : LTrigSt × List Nat) h =>
    let n := acc.1.cross h.1 h.2
    (n.1, acc.2 ++ n.2.toList)) (x0, [])
  let opening := x.kind = 0 ∧ x.lastTick ≠ t / unitsPerTick ∧ x.level c = true
  (r.1, r.2 ++ (if opening then [t * 256] else []))

/-- The trigger's state after an absent sample, or after its configuration takes effect (R236, R244). -/
def LTrigSt.fresh (x : LTrigSt) : LTrigSt :=
  { cfg := x.cfg, lvl := x.lvl, t1 := x.t1, t2 := x.t2, dirty := x.dirty, lastTick := x.lastTick }

/-- The trigger of a lane finds an absent sample at an instant: state and level output reset (R236). -/
def State.ltrigAbsent (s : State) (l t : Nat) : State :=
  (s.setLtrig l (s.ltrig l).fresh).sourceLevel l (t * 256) false

/-- Events of a lane trigger: counted, and on their way to the combiners (R232, R240, R264). -/
def State.ltrigEvents (s : State) (l : Nat) (es : List Nat) : State :=
  es.foldl (fun t e => (t.acqCount (R.ACQ_LTRIG_CNT l) 1).sourceEvent l e) s

/-- The trigger of a lane takes samples of its source (R231, R236). -/
def State.feedTrigger (s : State) (l period : Nat) (xs : List Smp) : State :=
  xs.foldl (fun t x =>
    if !x.ok then t.ltrigAbsent l x.t
    else
      let k := t.ltrig l
      let r := k.sample period x.t x.c
      let lv := r.1.level x.c
      let t1 := t.setLtrig l r.1
      let t2 := if t1.levelAt l (x.t * 256) == lv then t1 else t1.sourceLevel l (x.t * 256) lv
      t2.ltrigEvents l r.2) s

/-! ### Compare pairs (R267–R269, R274) -/

/-- A side of a pair takes a lane and a stream. -/
def State.pairTakes (s : State) (k : Nat) (isRef : Bool) (l src : Nat) : Bool :=
  if isRef then s.get (R.CMP_P_REF_TYPE k) == 2 && s.get (R.CMP_P_REF_INSTANCE k) == l && s.get (R.CMP_P_REF_SRC k) == src
  else s.get (R.CMP_P_CAND_TYPE k) == 2 && s.get (R.CMP_P_CAND_INSTANCE k) == l && s.get (R.CMP_P_CAND_SRC k) == src

/-- Level and hysteresis of a side (R268). -/
def State.pairLevel (s : State) (k : Nat) (isRef : Bool) : Int × Int :=
  if isRef then (signedOf 16 (s.get (R.CMP_P_LVL_REF k)), s.get (R.CMP_P_HYST_REF k))
  else (signedOf 16 (s.get (R.CMP_P_LVL_CAND k)), s.get (R.CMP_P_HYST_CAND k))

/-- One sample reaches a side of an edge or state pair. -/
def State.pairSample (s : State) (k : Nat) (isRef : Bool) (period : Nat) (x : Smp) : State :=
  if !x.ok then
    let s1 := s.sideAbsent k isRef x.t
    let y := s1.pair k
    s1.setPair k (if isRef then { y with refThru := x.t } else { y with candThru := x.t })
  else
    let s1 := s.sideBack k isRef x.t
    let y := s1.pair k
    let lh := s1.pairLevel k isRef
    let r := (if isRef then y.refDet else y.candDet).step lh.1 lh.2 period x.t x.c
    let thru : Int := x.t - period
    let s2 := s1.setPair k (if isRef then { y with refDet := r.1, refThru := thru } else { y with candDet := r.1, candThru := thru })
    match r.2 with
    | some h => s2.pairItem k isRef { t := (h.1 / 256 : Nat), st := if h.2 then 2 else 1, t64 := t64At (h.1 / 256) }
    | none => s2

/-- Samples of a lane stream reach the edge and state pairs that name it. -/
def State.feedPairs (s : State) (l src period : Nat) (xs : List Smp) : State :=
  (List.range 128).foldl (fun t k =>
    if t.pairLive k && t.get (R.CMP_P_CFG_KIND k) != 2 then
      let t1 := if t.pairTakes k true l src then xs.foldl (fun u x => u.pairSample k true period x) t else t
      if t1.pairTakes k false l src then xs.foldl (fun u x => u.pairSample k false period x) t1 else t1
    else t) s

/-! ### Bucketed values (R251) -/

/-- Insert a number into an ascending list. -/
def insertAsc (x : Int) : List Int → List Int
  | [] => [x]
  | y :: r => if x ≤ y then x :: y :: r else y :: insertAsc x r

/-- A list of numbers in ascending order. -/
def sortAsc (l : List Int) : List Int := l.foldl (fun a x => insertAsc x a) []

/-- Sum of a list. -/
def sumI (l : List Int) : Int := l.foldl (· + ·) 0

/-- Quotient rounded to nearest, ties away from zero. -/
def divRound (a : Int) (b : Nat) : Int :=
  if 0 ≤ a then (2 * a + b) / (2 * b) else -((2 * (-a) + b) / (2 * b))

/-- Largest number whose square is at most `n`, by `fuel` bits from the highest. -/
def isqrt (n : Nat) : Nat → Nat → Nat
  | 0, r => r
  | f + 1, r => if (r + 2 ^ f) * (r + 2 ^ f) ≤ n then isqrt n f (r + 2 ^ f) else isqrt n f r

/-- Root of the mean square of `m` codes in 1/65,536 code, rounded to nearest: the root of q = SUMSQ·2³²/m lies nearest to r when
(2r − 1)² ≤ 4q < (2r + 1)². -/
def rmsOf (sumsq m : Nat) : Nat :=
  if m = 0 then 0
  else
    let q4 := 4 * sumsq * 2 ^ 32 / m
    (isqrt q4 40 0 + 1) / 2

/-- The value of reduction code `k` over a bucket's settled codes in order; for ENV minimum and maximum (R251). -/
def bucketValue (k : Nat) (cs : List Int) : Int × Int :=
  let m := cs.length
  let lo := cs.foldl min (cs.headD 0)
  let hi := cs.foldl max (cs.headD 0)
  match k with
  | 1 => (cs.headD 0, 0)
  | 2 => (lo, hi)
  | 3 => (if m = 0 then 0 else divRound (65536 * sumI cs) m, 0)
  | 4 => (rmsOf (sumI (cs.map (fun c => c * c))).toNat m, 0)
  | 5 => ((sortAsc cs).getD ((m - 1) / 2) 0, 0)
  | _ => (0, 0)

/-- Settled codes of samples. -/
def settled (xs : List Smp) : List Int := (xs.filter (fun x => x.ok)).map Smp.c

/-- A whole bucket of a lane's reduction reaches the band pairs that name the lane and stream (R274): an entry touched by unsettled samples
is absent. -/
def State.feedBand (s : State) (l src period : Nat) (xs : List Smp) : State :=
  let t0 := (xs.head?.map Smp.t).getD 0
  let stop := t0 + xs.length * period
  (List.range 128).foldl (fun t k =>
    if t.pairLive k && t.get (R.CMP_P_CFG_KIND k) == 2 then
      let one (u : State) (isRef : Bool) : State :=
        if u.pairTakes k isRef l src then
          let u1 := if xs.all (fun x => x.ok) then
              let v := bucketValue (u.get (R.CMP_P_CFG_RED k)) (settled xs)
              (u.sideBack k isRef t0).pairItem k isRef { t := (t0 : Nat), st := 15, t64 := t64At t0, v1 := v.1, v2 := v.2 }
            else u.sideAbsent k isRef t0
          let y := u1.pair k
          u1.setPair k (if isRef then { y with refThru := stop } else { y with candThru := stop })
        else u
      one (one t true) false
    else t) s

/-! ### Reductions (R247, R252) and Tally (R258, R259) -/

/-- The history ring of a lane's reductions holds 65,536 samples for each lane of its group (R247). -/
def ringLen (f : Nat) : Nat := 65536 * f

/-- Samples of a lane's reduction source: the history ring, the interval frame in progress, and the buckets of band pairs. -/
def State.feedReduction (s : State) (l src period f : Nat) (xs : List Smp) : State :=
  let r := s.red l
  if r.act.frame = 0 ∨ r.act.src ≠ src then s
  else
    let first := (xs.head?.map Smp.t).getD 0
    let back := r.gapped && !xs.isEmpty
    let r1 := { r with ring := (xs.reverse ++ r.ring).take (ringLen f), gapped := r.gapped && xs.isEmpty,
                       breaks := if back then (first :: r.breaks).take 64 else r.breaks }
    if r.act.frame = 1 then
      let all := r1.bucket ++ xs
      let whole := all.length / r.act.n
      let r2 := { r1 with frame := r1.frame ++ xs, bucket := all.drop (whole * r.act.n) }
      (List.range whole).foldl (fun t i => t.feedBand l src period ((all.drop (i * r.act.n)).take r.act.n)) (s.setRed l r2)
    else s.setRed l r1

/-- Tally takes at most 160 MS/s: of a stream of r × 160 MS/s, sample r·m + (m mod r) for each m; `i` is the sample's index in its tick (R258). -/
def tallyTakes (period i : Nat) : Bool :=
  let r := 640 / period
  r ≤ 1 || i % r == i / r % r

/-- Index of a sample in its tick. -/
def tickIndex (period t : Nat) : Nat := t % unitsPerTick / period

/-- A Tally histogram and a persistence map beside their registers. -/
def State.hist (s : State) (h : Nat) : HistSt := s.acq.hists.getD h {}
def State.setHist (s : State) (h : Nat) (x : HistSt) : State := { s with acq := { s.acq with hists := s.acq.hists.setIfInBounds h x } }
def State.map (s : State) (m : Nat) : MapSt := s.acq.maps.getD m {}
def State.setMap (s : State) (m : Nat) (x : MapSt) : State := { s with acq := { s.acq with maps := s.acq.maps.setIfInBounds m x } }

/-- Samples of a lane stream wait in the Tally units of the lane, and of its fusion members, for the next merge. -/
def State.feedTally (s : State) (l src period f : Nat) (xs : List Smp) : State :=
  let ys := xs.filter (fun x => tallyTakes period (tickIndex period x.t))
  let s1 := (List.range f).foldl (fun t i =>
    let h := t.hist (l + i)
    if h.on && t.get (R.TLY_H_CTRL_SRC (l + i)) == src then
      t.setHist (l + i) { h with buf := h.buf ++ ys.filter (fun x => decide (h.from_ ≤ x.t)) }
    else t) s
  (List.range 8).foldl (fun t m =>
    let x := t.map m
    let k := t.get (R.TLY_M_CTRL_LANE m)
    if x.on && t.get (R.TLY_M_CTRL_SRC m) == src && decide (l ≤ k ∧ k < l + f) then
      t.setMap m { x with buf := x.buf ++ ys.filter (fun y => decide (x.from_ ≤ y.t)) }
    else t) s1

/-- Samples of a lane stream reach everything in the field half that reads the stream. -/
def State.feed (s : State) (l src period : Nat) (xs : List Smp) : State :=
  if xs.isEmpty then s
  else
    let f := fuseFactor (cfgFuse (s.rd (R.LANE_ACTIVE l)))
    let s1 := if (s.ltrig l).en && (s.ltrig l).src == src then s.feedTrigger l period xs else s
    ((s1.feedPairs l src period xs).feedReduction l src period f xs).feedTally l src period f xs

/-! ### Streams -/

/-- A lane's stream by number: 0 RAW, 1 DEC, 2 FILT. -/
def LaneSt.stream (x : LaneSt) (src : Nat) : StreamSt := if src = 0 then x.raw else if src = 1 then x.dec else x.filt
def LaneSt.setStream (x : LaneSt) (src : Nat) (y : StreamSt) : LaneSt :=
  if src = 0 then { x with raw := y } else if src = 1 then { x with dec := y } else { x with filt := y }

/-- A code limited to 16 bits, and whether the limit changed it (R205). -/
def limit16 (c : Int) : Int × Bool := (clampI (-32768) 32767 c, decide (c < -32768 ∨ 32767 < c))

/-- Samples of a stream from values, the first at `t0`; the first `unset` of them are unsettled. -/
def mkSamples (t0 period unset : Nat) (cs : List Int) : List Smp :=
  cs.zipIdx.map (fun x => { t := t0 + x.2 * period, c := (limit16 x.1).1, ok := decide (unset ≤ x.2), sat := (limit16 x.1).2 })

/-- Saturated samples count in LANE_OVR_CNT and raise OVR at most once in a tick (R205, R229). -/
def State.countOvr (s : State) (l : Nat) (xs : List Smp) : State :=
  let n := (xs.filter (fun x => x.sat)).length
  if n = 0 then s
  else
    let s1 := s.laneCount l (R.LANE_OVR_CNT l) n
    if (s1.lane l).ovrTick = some s1.time.fTick then s1.set (R.LANE_EVT_OVR l) 1
    else (s1.setLane l { s1.lane l with ovrTick := some s1.time.fTick }).laneEvt l (R.LANE_EVT_OVR l) 0x0004 n

/-- LANE_UNSET_LEFT shows what remains of the longest run (R224). -/
def State.showUnset (s : State) (l : Nat) : State :=
  let x := s.lane l
  s.put (R.LANE_UNSET_LEFT l) (max x.raw.unset (max x.dec.unset x.filt.unset))

/-- Generators in mode 3 whose excitation lane is `l` (R189). -/
def State.excGens (s : State) (l : Nat) : List Nat :=
  (List.range 48).filter (fun g => s.is (R.GEN_CTRL_EN g) && s.get (R.GEN_CFG_MODE g) == 3 && s.get (R.GEN_CFG_EXC_LANE g) == l)

/-- The excitation is invalid: EXC_LOST reads 1 and is raised once (R190). -/
def State.excLost (s : State) (l : Nat) : State :=
  (s.excGens l).foldl (fun t g =>
    if t.is (R.GEN_STAT_EXC_LOST g) then t else (t.set (R.GEN_STAT_EXC_LOST g) 1).genEvt g (R.GEN_EVT_EXC_LOST g) 0x0006 l) s

/-- The excitation is valid again (R190). -/
def State.excBack (s : State) (l : Nat) : State := (s.excGens l).foldl (fun t g => t.set (R.GEN_STAT_EXC_LOST g) 0) s

/-- A stream converts values, the first at `t0`: unsettled samples count down, and every reader takes the samples. -/
def State.convert (s : State) (l src t0 period : Nat) (cs : List Int) : State :=
  if cs.isEmpty then s
  else
    let x := s.lane l
    let y := x.stream src
    let xs := mkSamples t0 period y.unset cs
    let s1 := s.setLane l (x.setStream src { y with unset := y.unset - cs.length, buf := if src = 2 then y.buf else y.buf ++ xs })
    let s2 := (((s1.showUnset l).countOvr l xs).feed l src period xs)
    if src = 0 then (if xs.any (fun x => x.ok) then s2.excBack l else s2.excLost l) else s2

/-- A lane converts: its pod is negotiated, its domain on for 20 ticks, and it is no fusion member (R211, R303, R491). -/
def State.laneConverts (s : State) (l : Nat) : Bool :=
  s.is (R.LANE_STAT_PRESENT l) && !s.is (R.LANE_STAT_MEMBER l) && s.powered (R.LANE_CTRL l) && !(s.lane l).inGap
    && decide ((s.lane l).readyAt ≤ s.fU)

/-- Samples that one lane has converted since its latest samples in this tick, at most what the tick still holds. At DEC_K 0 the DEC stream
equals the raw stream (R216). [DEDUCED, log 51, safe] -/
def State.takeLane (s : State) (x : LaneIn) : State :=
  let l := x.lane.val
  if s.laneConverts l then
    let a := s.rd (R.LANE_ACTIVE l)
    let nr := s.srcSamples l 0
    let nd := s.srcSamples l 1
    let pr := 1024000 / nr
    let pd := 1024000 / max 1 nd
    let hr := (s.lane l).raw.buf.length
    let hd := (s.lane l).dec.buf.length
    let raw := x.raw.take (nr - hr)
    let dec := if cfgDeck a = 0 then raw else x.dec.take (nd - hd)
    let s1 := s.convert l 0 (s.fTickU + hr * pr) pr raw
    s1.convert l 1 (s.fTickU + hd * pd) pd dec
  else s

/-- Samples of lanes. [DESIGN CHOICE, log 50, safe] -/
def State.takeSamples (s : State) (xs : List LaneIn) : State := xs.foldl State.takeLane s

/-! ### Gaps (R347, R236, R269) -/

/-- A gap of a lane's streams starts at an instant: the next block of each stream carries GAP and SOM, and every reader sees absent
samples. -/
def State.laneGap (s : State) (l t : Nat) : State :=
  let x := s.lane l
  let mark (y : StreamSt) : StreamSt := { y with gap := true, som := true }
  let s1 := (s.setLane l { x with raw := mark x.raw, dec := mark x.dec, filt := mark x.filt, decHist := [] }).excLost l
  let s2 := if (s1.ltrig l).en then s1.ltrigAbsent l t else s1
  let s3 := (List.range 128).foldl (fun u k =>
    if u.pairLive k then
      let one (v : State) (isRef : Bool) : State :=
        if (List.range 3).any (fun src => v.pairTakes k isRef l src) then v.sideAbsent k isRef t else v
      one (one u true) false
    else u) s2
  let r := s3.red l
  let s4 := s3.setRed l { r with gapped := true, gap := true, bucket := [], breaks := (t :: r.breaks).take 64 }
  let f := fuseFactor (cfgFuse (s4.rd (R.LANE_ACTIVE l)))
  let s5 := (List.range f).foldl (fun u i => u.setHist (l + i) { u.hist (l + i) with gap := true }) s4
  (List.range 8).foldl (fun u m =>
    let k := u.get (R.TLY_M_CTRL_LANE m)
    if l ≤ k ∧ k < l + f then u.setMap m { u.map m with gap := true } else u) s5

end Sys2Proof.Machine
end

