-- ==== Sys2Proof/Machine/Guard.lean ====
section
/-! DEFINITION. The correction bank as lanes show it (R207, R316, R323), and the guard windows (R290–R301, R305): levels and their codes, one
sample of every window, the majority filter and the reactions. -/

namespace Sys2Proof.Machine

/-! ### The bank in force -/

/-- The lead of the group that a lane belongs to: a member's lead, else the lane itself (R209). -/
def State.leadOf (s : State) (l : Nat) : Nat :=
  if !s.is (R.LANE_STAT_MEMBER l) then l
  else if s.get (R.LANE_ACTIVE_FUSE (l / 4 * 4)) = 2 then l / 4 * 4
  else l / 2 * 2

/-- LANE_ILV shows the corrections of a lane's own four sub-converters in the active configuration: offset 0, gain 1.0 and delay 0 with no
usable item (R210, R323). -/
def State.showIlv (s : State) (l : Nat) : State :=
  let k := s.leadOf l
  let range := s.get (R.LANE_ACTIVE_RANGE k)
  let fuse := s.get (R.LANE_ACTIVE_FUSE k)
  (List.range 4).foldl (fun t i =>
    let id := 2 ^ 28 + l * 2 ^ 20 + range * 2 ^ 16 + fuse * 2 ^ 12 + i * 2 ^ 8
    let x := (t.bank.find? (fun b => b.id == id)).getD ⟨id, 0, 0x400000, 0⟩
    ((t.put (R.LANE_ILV_OFS l i) (codeOf 16 x.a)).put (R.LANE_ILV_GAIN l i) (codeOf 24 x.b)).put (R.LANE_ILV_SKEW l i) (codeOf 16 x.c)) s

/-! ### Levels (R291–R293) -/

/-- A window beside its registers. -/
def State.win (s : State) (w : Nat) : GrdSt := s.grd.wins.getD w {}
def State.setWin (s : State) (w : Nat) (x : GrdSt) : State := { s with grd := { s.grd with wins := s.grd.wins.setIfInBounds w x } }

/-- Span of a window's lane in µV. -/
def State.winSpan (s : State) (w : Nat) : Int := rangeSpan (s.get (R.LANE_ACTIVE_RANGE (s.leadOf w)))

/-- The nearest code of a level, before its clamp: lanes in steps of span × 16/7 / 4,096, rails in steps of 10 mV (R291). -/
def State.winCode (s : State) (w : Nat) (v : Int) : Int :=
  if w < 48 then divRound (v * 1792) (s.winSpan w).toNat else divRound v 10000

/-- The level of a code in µV, to the nearest. -/
def State.winLevel (s : State) (w : Nat) (c : Int) : Int :=
  if w < 48 then divRound (c * s.winSpan w) 1792 else c * 10000

/-- The code limited to the DAC's span (R291). -/
def winClamp (w : Nat) (c : Int) : Int := if w < 48 then clampI (-2048) 2047 c else clampI 0 4095 c

/-- HI, LO and HYST as applied, in codes, and whether a clamp or the rounding of HYST sets CLAMP (R291, R292). [DESIGN CHOICE, log 53, safe] -/
def State.winLevels (s : State) (w : Nat) (hi lo : Int) (hyst : Nat) : (Int × Int × Int) × Bool :=
  let h0 := s.winCode w hi
  let l0 := s.winCode w lo
  let h := winClamp w h0
  let l := winClamp w l0
  let y0 := s.winCode w hyst
  let y := clampI 0 (max 0 ((h - l - 1) / 2)) y0
  ((h, l, y), h != h0 || l != l0 || s.winLevel w y != (hyst : Int))

/-- HI lies fewer than three steps above LO (R292). -/
def State.grdWinBad (s : State) (w : Nat) : Bool :=
  decide (s.winCode w (s.sval (R.GRD_W_HI w)) - s.winCode w (s.sval (R.GRD_W_LO w)) < 3)

/-- K limited to the span floor(N / 2) + 1 to N (R296). -/
def winK (n k : Nat) : Nat := clampN (n / 2 + 1) n k

/-- A window's levels and filter are applied: from a commit, at start-up, or for a new range (R291–R293, R296). -/
def State.winApply (s : State) (w : Nat) : State :=
  let r := s.winLevels w (s.sval (R.GRD_W_HI w)) (s.sval (R.GRD_W_LO w)) (s.val (R.GRD_W_HYST w))
  let n := max 1 (s.get (R.GRD_W_CFG_N w))
  let s1 := (s.put (R.GRD_W_HI w) (codeOf 32 (s.winLevel w r.1.1))).put (R.GRD_W_LO w) (codeOf 32 (s.winLevel w r.1.2.1))
  let s2 := s1.put (R.GRD_W_HYST w) (codeOf 32 (s.winLevel w r.1.2.2))
  let s3 := (s2.set (R.GRD_W_CFG_N w) n).set (R.GRD_W_CFG_K w) (winK n (s.get (R.GRD_W_CFG_K w)))
  let s4 := if r.2 then s3.set (R.GRD_W_EVT_CLAMP w) 1 else s3
  if s4.grdWinBad w then (s4.set (R.GRD_W_EVT_CFG_ERR w) 1).set R.GRD_EVT_CFG_ERR 1 else s4

/-! ### Output, events and reactions (R296, R299–R301) -/

/-- An event of a window, with GRD_W_STAT after it; `always` for the OUT events of INHIBIT (R301). -/
def State.winEvent (s : State) (w code t64 : Nat) (always : Bool := false) : State :=
  if s.is (R.GRD_W_CTRL_EVT_EN w) || always then s.fieldEvent 0x19 code w t64 (leBytes 4 (s.val (R.GRD_W_STAT w))) else s

/-- Count in a SAT counter of a window. -/
def State.winCount (s : State) (w a n t64 : Nat) : State :=
  let r := s.satCount a 32 n (R.GRD_W_EVT_SATURATED w)
  if r.2 then (r.1.set R.GRD_EVT_SATURATED 1).winEvent w 0x0007 t64 else r.1

/-- The output of a window changes at an instant in units: LAST, events, the reactions of a rise, the combiners and the wake logic. -/
def State.winChange (s : State) (w : Nat) (out : Bool) (at_ : Nat) : State :=
  let t64 := t64At at_
  let s1 := (s.set (R.GRD_W_STAT_OUT w) (if out then 1 else 0)).replaceResult (R.GRD_W_LAST_LO w) (R.GRD_W_LAST_GEN w) t64
  let s2 := (s1.set R.GRD_EVT_CHANGE 1).set (if out then R.GRD_W_EVT_OUT w else R.GRD_W_EVT_IN w) 1
  let inh := s2.is (R.GRD_W_ACT_INHIBIT w)
  let s3 := s2.winEvent w (if out then 0x0001 else 0x0002) t64 (out && inh)
  let s4 := (s3.sourceLevel (0x40 + w) (at_ * 256) out).sourceEvent (0x40 + w) (at_ * 256)
  if !out then s4
  else
    let s5 := if inh then { s4 with grd := { s4.grd with inhDue := true } } else s4
    let s6 := if s5.is (R.GRD_W_ACT_FAULT w) then s5.fieldFault 0x49 w else s5
    if s6.is R.GRD_QUIET_ACTIVE && s6.is (R.GRD_W_CTRL_WAKE_EN w) && s6.grd.wake.isNone then
      { s6 with grd := { s6.grd with wake := some (w, s6.time.fTick) } }
    else s6

/-- A window stops sampling: its output falls, with event IN if it was 1 (R298, R300). -/
def State.winStop (s : State) (w at_ : Nat) : State :=
  let s1 := if s.is (R.GRD_W_STAT_OUT w) then s.winChange w false at_ else s
  s1.setWin w {}

/-- A lane window is absent without pod power or a negotiated A8, and during the lane's RAW unsettled run; a rail window while its slot is not
powered (R293, R298). -/
def State.winAbsent (s : State) (w : Nat) : Bool :=
  if w < 48 then !s.domOn (domF 13) || !s.podA8 (w / 8) || decide (0 < (s.lane (s.leadOf w)).raw.unset)
  else !s.is (R.POD_S_STAT_POWERED (w - 48))

/-- Raw states: 0 INSIDE, 1 BELOW, 2 ABOVE. The next state from the previous one and the input (R295). -/
def rawNext (prev : Nat) (v hi lo hyst : Int) : Nat :=
  match prev with
  | 2 => if hi - hyst < v then 2 else if v < lo then 1 else 0
  | 1 => if hi < v then 2 else if v < lo + hyst then 1 else 0
  | _ => if hi < v then 2 else if v < lo then 1 else 0

/-- Thresholds that a change of the raw state passes (R295). -/
def rawPassed (a b : Nat) : Nat := if a = b then 0 else if a = 0 ∨ b = 0 then 1 else 2

/-- The input lies in the upper or the lower hysteresis band (R295). -/
def inBand (v hi lo hyst : Int) : Bool := decide ((hi - hyst < v ∧ v ≤ hi) ∨ (lo ≤ v ∧ v < lo + hyst))

/-- The raw state of a window's first sample (R297). -/
def rawFirst (v hi lo hyst : Int) : Nat :=
  if hi - hyst < v ∧ v ≤ hi then (if 2 * (hi - v) ≤ hyst then 2 else 0)
  else if lo ≤ v ∧ v < lo + hyst then (if 2 * (v - lo) ≤ hyst then 1 else 0)
  else rawNext 0 v hi lo hyst

/-- The raw state and the bits show. -/
def State.winShow (s : State) (w st ones : Nat) : State :=
  let s1 := (s.set (R.GRD_W_STAT_STATE w) st).set (R.GRD_W_STAT_ONES w) ones
  if st = 0 then s1 else s1.set (R.GRD_W_STAT_SIDE w) (if st = 2 then 1 else 0)

/-- One present sample of an enabled window (R292, R295–R297). -/
def State.winSample (s : State) (w at_ : Nat) (v : Int) : State :=
  let hi := s.sval (R.GRD_W_HI w)
  let lo := s.sval (R.GRD_W_LO w)
  let hy : Int := s.val (R.GRD_W_HYST w)
  let n := max 1 (s.get (R.GRD_W_CFG_N w))
  let k := winK n (s.get (R.GRD_W_CFG_K w))
  let x := s.win w
  let bad := s.grdWinBad w
  let band := !bad && inBand v hi lo hy
  let s0 := s.set (R.GRD_W_STAT_ABSENT w) 0
  let s1 := if x.start then
      let st := if bad then 2 else rawFirst v hi lo hy
      let r := st != 0
      let t := (s0.setWin w { start := false, bits := List.replicate n r }).winShow w st (if r then n else 0)
      let t1 := ((t.set (R.GRD_W_STAT_OUT w) (if r then 1 else 0)).set (R.GRD_W_STAT_INDET w) (if band then 1 else 0))
      t1.sourceLevel (0x40 + w) (at_ * 256) r
    else
      let prev := s0.get (R.GRD_W_STAT_STATE w)
      let st := if bad then 2 else rawNext prev v hi lo hy
      let bits := (decide (st ≠ 0) :: x.bits).take n
      let ones := (bits.filter (fun b => b)).length
      let t := ((s0.setWin w { x with bits := bits }).winShow w st ones).winCount w (R.GRD_W_XCNT w) (rawPassed prev st) (t64At at_)
      let old := t.is (R.GRD_W_STAT_OUT w)
      let out := if k ≤ ones then true else if k ≤ n - ones then false else old
      let t1 := if out != old then t.winChange w out at_ else t
      if t1.is (R.GRD_W_STAT_INDET w) && !band then
        ((t1.set (R.GRD_W_STAT_INDET w) 0).set (R.GRD_W_EVT_INDET_CLEAR w) 1).winEvent w 0x0003 (t64At at_)
      else t1
  if s1.is (R.GRD_W_STAT_OUT w) then s1.winCount w (R.GRD_W_OUTT w) 1 (t64At at_) else s1

/-- One sampling instant of a window. -/
def State.winTick (s : State) (vs : List GuardIn) (w at_ : Nat) : State :=
  if !s.is (R.GRD_W_CFG_EN w) then s
  else if s.winAbsent w then
    let s1 := s.winStop w at_
    if s1.is (R.GRD_W_STAT_ABSENT w) then s1
    else ((s1.set (R.GRD_W_STAT_ABSENT w) 1).set (R.GRD_W_EVT_ABSENT w) 1).winEvent w 0x0004 (t64At at_)
  else
    match vs.find? (fun g => g.win.val == w) with
    | some g => s.winSample w at_ g.v
    | none => let f := s.fresh 32; f.2.winSample w at_ (signedOf 32 f.1)

/-- GRD_STAT and GRD_OUT show the windows (R305). -/
def State.winSummary (s : State) : State :=
  let outs := (List.range 64).filter (fun w => s.is (R.GRD_W_STAT_OUT w))
  let indets := (List.range 64).filter (fun w => s.is (R.GRD_W_STAT_INDET w))
  let mask := (outs.map (fun w => 2 ^ w)).foldl (· + ·) 0
  ((s.set R.GRD_STAT_OUT_COUNT outs.length).set R.GRD_STAT_INDET_COUNT indets.length).put64 R.GRD_OUT_LO mask

/-- GUARD_SAMPLE (R294): at cycle 160 of a tick in which domain F12 is on. [DESIGN CHOICE, log 50, safe] -/
def State.doGuardSample (s : State) (vs : List GuardIn) : State :=
  if s.domOn (domF 12) && decide (s.time.fUnit ≤ 40960) then
    let s1 := { s with time := { s.time with fUnit := max s.time.fUnit 40960 } }
    ((List.range 64).foldl (fun t w => t.winTick vs w (t.fTickU + 40960)) s1).winSummary
  else s

/-- GUARD_SAMPLE. -/
def execGuardSample (vs : List GuardIn) (s : State) : Host.Outcome State Fault Refusal := done s (s.doGuardSample vs)

/-- At the tick boundary after a rise that takes INHIBIT, the field half treats SYS_DRIVE_INH as active (R299). -/
def State.guardInhibit (s : State) : State :=
  if s.grd.inhDue then
    ({ s with grd := { s.grd with inhDue := false }, seq := { s.seq with inhField := true, relDue := false } }).driversOff
  else s

/-- GRD_CTRL.CLR_STATS (R305). -/
def State.doGrdClrStats (s : State) : State :=
  s.ifOn R.GRD_CTRL (fun s => (List.range 64).foldl (fun t w => (t.put (R.GRD_W_XCNT w) 0).put (R.GRD_W_OUTT w) 0) s)

/-- GRD_CLR_STATS. -/
def execGrdClrStats (s : State) : Host.Outcome State Fault Refusal := done s s.doGrdClrStats

end Sys2Proof.Machine
end

