-- ==== Sys2Proof/Machine/Reduce.lean ====
section
/-! DEFINITION. Reductions, segments and accumulation (R245–R257, R264): the entries of each reduction, items and their messages, interval
frames, capture groups. -/

namespace Sys2Proof.Machine

/-! ### Entries (R251, R254) -/

/-- Samples cut into buckets of `n`, in order. -/
def buckets (n : Nat) (xs : List Smp) : List (List Smp) :=
  (List.range (ceilDiv xs.length n)).map (fun i => (xs.drop (i * n)).take n)

/-- Crossings counted in samples whose first lies at `t0`: position in 1/256 period with bit 63 for falling (R251). -/
def edgeEntries (level hyst : Int) (period t0 : Nat) (xs : List Smp) : List Nat :=
  (xs.foldl (fun (acc : CrossSt × List Nat) x =>
    if !x.ok then ({}, acc.2)
    else
      let r := acc.1.step level hyst period x.t x.c
      (r.1, match r.2 with
        | some h => acc.2 ++ [(h.1 - t0 * 256) / max 1 period + (if h.2 then 0 else 2 ^ 63)]
        | none => acc.2)) (({} : CrossSt), [])).2

/-- The STAT entry (R251). -/
def statEntry (xs : List Smp) (absent : Nat) : List Byte :=
  let cs := settled xs
  let lo := cs.foldl min (cs.headD 0)
  let hi := cs.foldl max (cs.headD 0)
  leBytes 8 cs.length ++ leBytes 8 (codeOf 64 (sumI cs)) ++ leBytes 8 (sumI (cs.map (fun c => c * c))).toNat
    ++ leBytes 2 (codeOf 16 lo) ++ leBytes 2 (codeOf 16 hi) ++ leBytes 4 (xs.filter (fun x => x.sat)).length
    ++ leBytes 4 (xs.length - cs.length) ++ leBytes 4 absent ++ leBytes 8 0

/-- The bytes of a bucketed entry. -/
def bucketBytes (code : Nat) (v : Int × Int) : List Byte :=
  match code with
  | 2 => leBytes 2 (codeOf 16 v.1) ++ leBytes 2 (codeOf 16 v.2)
  | 3 => leBytes 4 (codeOf 32 v.1)
  | 4 => leBytes 4 (codeOf 32 v.1)
  | _ => leBytes 2 (codeOf 16 v.1)

/-- The entries of a reduction over a frame's samples: bytes of each, and whether unsettled samples touch it (R251, R254). Crossings are those
within the frame, at most EDGE_MAX. -/
def RedSet.entriesOf (x : RedSet) (code period absent : Nat) (xs : List Smp) : List (List Byte × Bool) :=
  let t0 := (xs.head?.map Smp.t).getD 0
  if code = 0 then xs.map (fun s => (leBytes 2 (codeOf 16 s.c), !s.ok))
  else if code = 6 then
    ((edgeEntries (signedOf 16 (x.edge % 65536)) (x.edge / 65536) period t0 xs).take x.edgeMax).map (fun e => (leBytes 8 e, false))
  else if code = 7 then [(statEntry xs absent, false)]
  else (buckets x.n xs).map (fun b => (bucketBytes code (bucketValue code (settled b)), b.any (fun s => !s.ok)))

/-- Fraction units between entries (R253). -/
def RedSet.entryPeriod (x : RedSet) (code period : Nat) : Nat :=
  if code = 0 then period else if code = 6 ∨ code = 7 then 0 else x.n * period

/-! ### Items (R253) -/

/-- The 32-byte header of a reduction message. -/
def redHeader (kind rflags lane src frameNo t64 ep first ustart ucount : Nat) : List Byte :=
  leBytes 1 kind ++ leBytes 1 rflags ++ leBytes 1 lane ++ leBytes 1 src ++ leBytes 4 frameNo ++ leBytes 8 t64 ++ leBytes 4 ep
    ++ leBytes 4 first ++ leBytes 4 ustart ++ leBytes 4 ucount

/-- Send an item: messages of as many whole entries as fit in 65,535 bytes, SOM on the first, EOM on the last (R253). -/
def State.sendItem (s : State) (kind rflags lane src frameNo t64 ep esz : Nat) (es : List (List Byte × Bool)) : State :=
  let per := (65535 - 32) / esz
  let n := max 1 (ceilDiv es.length per)
  (List.range n).foldl (fun t i =>
    let part := (es.drop (i * per)).take per
    let hit := part.map Prod.snd
    let count := (hit.filter (fun b => b)).length
    let start := if count = 0 then 0 else hit.findIdx (fun b => b)
    let pl := redHeader kind rflags lane src frameNo t64 ep (i * per) start count ++ (part.map Prod.fst).flatten
    let drop := (if i = 0 then 0 else flagSOM) + (if i + 1 = n then 0 else flagEOM)
    t.sendFH 0x30 3 t64 pl 0 drop) s

/-- RFLAGS bits (R253). -/
def rfSEG : Nat := 1
def rfACC : Nat := 2
def rfOVR : Nat := 4
def rfGAP : Nat := 8
def rfCUT : Nat := 16

/-- The items of a lane's frame, in ascending code, of the codes that `pick` keeps; crossings beyond EDGE_MAX count in EDGE_LOST and raise
EDGE_LOST once (R251). -/
def State.sendFrame (s : State) (l : Nat) (x : RedSet) (pick : Nat → Bool) (frameNo rflags period t0 absent : Nat) (xs : List Smp) : State :=
  let fl := rflags + (if xs.any (fun y => y.sat) then rfOVR else 0)
  (List.range 8).foldl (fun t c =>
    if x.sel.testBit c && pick c then
      let t1 := t.sendItem c fl l x.src frameNo (t64At t0) (x.entryPeriod c period) (entryBytes c) (x.entriesOf c period absent xs)
      if c = 6 then
        let lost := (edgeEntries (signedOf 16 (x.edge % 65536)) (x.edge / 65536) period t0 xs).length - x.edgeMax
        if lost = 0 then t1
        else (t1.acqCount (R.ACQ_RED_EDGE_LOST l) lost).acqEvt R.ACQ_EVT_EDGE_LOST 0x0006 l t1.fNow.pack lost
      else t1
    else t) s

/-! ### Interval frames (R252) -/

/-- Runs of samples without a gap between them, in order. -/
def runsOf (period : Nat) : List Smp → List (List Smp)
  | [] => []
  | x :: r =>
    match runsOf period r with
    | (y :: ys) :: rest => if y.t = x.t + period then (x :: y :: ys) :: rest else [x] :: (y :: ys) :: rest
    | rest => [x] :: rest

/-- The tick boundary, in units, that ends the interval frame which holds an instant (R252). -/
def frameEndOf (ticks t : Nat) : Nat :=
  let n := t / unitsPerTick
  (n + ticks - n % ticksPerEra % ticks) * unitsPerTick

/-- Send a frame's samples up to `stop`, as one frame, or as its parts around gaps (R252); `cut` when it ends before its time. -/
def State.sendInterval (s : State) (l stop : Nat) (cut : Bool) : State :=
  let r := s.red l
  let period := s.srcPeriod l r.act.src
  let xs := r.frame.filter (fun x => decide (x.t < stop))
  let parts := runsOf period xs
  let n := parts.length
  let s1 := parts.zipIdx.foldl (fun t p =>
    let t0 := (p.1.head?.map Smp.t).getD 0
    let prevEnd := match p.2 with
      | 0 => t0
      | i + 1 => ((((parts.getD i []).getLast?).map Smp.t).getD t0) + period
    let fl := (if p.2 = 0 ∧ r.gap = false then 0 else rfGAP) + (if r.cut || cut || decide (1 < n) then rfCUT else 0)
    let no := t0 / unitsPerTick % ticksPerEra / r.act.ticks
    t.sendFrame l r.act (fun _ => true) (no % 2 ^ 32) fl period t0 ((t0 - prevEnd) / max 1 period) p.1) s
  let r1 := s1.red l
  s1.setRed l { r1 with frame := r1.frame.filter (fun x => decide (stop ≤ x.t)), cut := false, gap := r1.gapped }

/-- FRAME_END (R252): a frame whose end has passed, and whose samples have arrived, is sent. -/
def State.doFrameEnd (s : State) (l : Nat) : State :=
  let r := s.red l
  match r.frame with
  | [] => s
  | x :: _ =>
    let stop := frameEndOf r.act.ticks x.t
    let lag := if r.act.src = 2 then 2 * unitsPerTick else 0
    if r.act.frame = 1 ∧ stop + lag ≤ s.fTickU then s.sendInterval l stop false else s

/-- FRAME_END. -/
def execFrameEnd (l : Lane) (s : State) : Host.Outcome State Fault Refusal := done s (s.doFrameEnd l)

/-- A change of a lane's configuration or reduction set at a tick boundary ends the frame, and the next frame and parts start there
(R247, R252). -/
def State.redBreak (s : State) (l : Nat) : State :=
  let s1 := if (s.red l).act.frame = 1 ∧ (s.red l).frame ≠ [] then s.sendInterval l (s.fTickU + unitsPerTick) true else s
  let r := s1.red l
  s1.setRed l { r with cut := true, frame := [], bucket := [], breaks := (s.fTickU :: r.breaks).take 64 }

/-! ### Reduction sets (R250) -/

/-- A reduction set is refused (R250, R263). -/
def State.redRefuse (s : State) (l reason : Nat) : State := (s.set (R.ACQ_RED_STAT_REFUSE l) reason).acqRefuse (0x300 + l) reason

/-- The staged set of a lane. -/
def State.redStaged (s : State) (l : Nat) : RedSet :=
  { ctrl := s.rd (R.ACQ_RED_CTRL l), bucket := s.val (R.ACQ_RED_BUCKET l), edge := s.val (R.ACQ_RED_EDGE l), edgeMax := max 1 (s.val (R.ACQ_RED_EDGE_MAX l)) }

/-- Store the RW fields of an ACQ_RED_CTRL word: FRAME 3 as 0, SRC 3 as given, INT_TICKS 0 is taken as 1 when used (R264). -/
def redCtrlStored (v : Word) : Word :=
  let w := v &&& 0xFCFFFFFF#32
  if fieldOf w 30 2 = 3 then withField w 30 2 0 else w

/-- A write of 1 to APPLY (R250). -/
def State.doRedApply (s : State) (l : Nat) (v : Word) : State :=
  s.ifOn (R.ACQ_RED_CTRL l) (fun s =>
    let s1 := s.wr (R.ACQ_RED_CTRL l) (redCtrlStored v)
    let x := s1.redStaged l
    if 6 < popCount 8 x.sel then s1.redRefuse l 2
    else if x.sel.testBit 5 ∧ 4096 < x.n then s1.redRefuse l 3
    else if s1.is (R.LANE_STAT_MEMBER l) ∨ !s1.podA8 (l / 8) then s1.redRefuse l 4
    else
      let t := (s1.setRed l { s1.red l with pend := some x }).set (R.ACQ_RED_STAT_PENDING l) 1
      let t1 := if x.frame = 0 ∧ (s1.red l).act.frame ≠ 0 then t.set (R.ACQ_RED_STAT_BUSY l) 1 else t
      let r := s1.submit t1 [.red l]
      if r.2 then r.1 else r.1.redRefuse l 1)

/-- RED_APPLY. -/
def execRedApply (u : Sub) (l : Lane) (v : Word) (s : State) : Host.Outcome State Fault Refusal := done s ((s.atF u).doRedApply l v)

/-- An admitted set takes effect whole at its plan boundary (R250); clearing FRAME ends the lane's frames under R87 (R257). -/
def State.redEffect (s : State) (l : Nat) : State :=
  match (s.red l).pend with
  | none => s
  | some x =>
    let s1 := s.redBreak l
    let stops := decide ((s.red l).act.frame ≠ 0 ∧ x.frame = 0)
    let r := s1.red l
    let keep := r.act.src == x.src
    let s2 := s1.setRed l { r with act := x, pend := none, ring := if keep then r.ring else [] }
    let s3 := (s2.wr (R.ACQ_RED_ACT l) (x.ctrl &&& 0xFCFFFFFF#32)).set (R.ACQ_RED_STAT_PENDING l) 0
    let s4 := s3.set (R.ACQ_RED_STAT_BUSY l) 0
    if stops then s.releaseBudget (s4.stopEntry 0x16 (0x300 + l) (t64At s.fTickU) 0 0) else s4

/-- ACQ_RED_CTRL.CLR_STATS (R264). -/
def State.doRedClrStats (s : State) (l : Nat) : State := s.ifOn (R.ACQ_RED_CTRL l) (fun s => s.put (R.ACQ_RED_EDGE_LOST l) 0)

/-- RED_CLR_STATS. -/
def execRedClrStats (l : Lane) (s : State) : Host.Outcome State Fault Refusal := done s (s.doRedClrStats l)

/-! ### Capture groups (R245–R249, R255, R257, R264) -/

/-- The lanes of a group (R245). -/
def State.groupLanes (s : State) (n : Nat) : List Nat :=
  (List.range 48).filter (fun l => (s.red l).act.frame == 2 && (s.red l).act.group == n)

/-- NSEG of a group: 1 to 2^24. -/
def State.nSeg (s : State) (n : Nat) : Nat := max 1 (s.val (R.ACQ_GRP_NSEG n))

/-- SLOT and NSLOT of a group's region (R249). -/
def State.slotBytes (s : State) (n : Nat) : Nat :=
  let b := s.segmentBytes n
  ceilDiv (if s.is (R.ACQ_GRP_CTRL_ACC_EN n) then b.2 else b.1) 4096 * 4096
def State.nSlot (s : State) (n : Nat) : Nat :=
  min (s.nSeg n) (s.val (R.ACQ_GRP_MEM_SIZE n) * 2 ^ 20 / max 1 (s.slotBytes n))

/-- Accumulator entries of a group (R255). -/
def State.accEntries (s : State) (n : Nat) : Nat :=
  (s.groupLanes n).foldl (fun a l =>
    let x := (s.red l).act
    let m := s.partSamples n l x.src
    a + sumTo 2 (fun c => if x.sel.testBit c then x.entries c m else 0)) 0

/-- The group's region is too small, beyond the memory, in Clearing's staging area or the write queue, or overlaps another group's (reason 6 of R263). -/
def State.regionBad (s : State) (n : Nat) : Bool :=
  let base := s.val (R.ACQ_GRP_MEM_BASE n) * 2 ^ 20
  let size := s.val (R.ACQ_GRP_MEM_SIZE n) * 2 ^ 20
  let slots := size / max 1 (s.slotBytes n)
  decide (slots < 1) || (!s.is (R.ACQ_GRP_CTRL_RING n) && decide (slots < s.nSeg n)) || decide (s.wqBase < base + size)
    || (List.range 4).any (fun k => k != n && s.is (R.ACQ_GRP_CTRL_EN k) &&
      decide (s.val (R.ACQ_GRP_MEM_BASE k) * 2 ^ 20 < base + size ∧
        base < s.val (R.ACQ_GRP_MEM_BASE k) * 2 ^ 20 + s.val (R.ACQ_GRP_MEM_SIZE k) * 2 ^ 20))

/-- A group's enable is refused (R263). -/
def State.groupRefuse (s : State) (n reason : Nat) : State := (s.set (R.ACQ_GRP_STAT_REFUSE n) reason).acqRefuse (0x200 + n) reason

/-- Setting EN (R264): the word's other fields are written with it; a busy group takes no enable (R88), and no group runs in SEALED or SERVICE
(R257). -/
def State.doGroupEnable (s : State) (n : Nat) (v : Word) : State :=
  s.ifOn (R.ACQ_GRP_CTRL n) (fun s =>
    if s.is (R.ACQ_GRP_CTRL_EN n) then s
    else
      let s1 := s.wr (R.ACQ_GRP_CTRL n) (v &&& 0x600FFFFF#32)
      if s1.is (R.ACQ_GRP_STAT_BUSY n) || !modeStreams s1.mode then s1
      else
        let pre := s1.val (R.ACQ_GRP_PRE n)
        let post := s1.val (R.ACQ_GRP_POST n)
        let t := s1.set (R.ACQ_GRP_CTRL_EN n) 1
        if 10485760 < pre ∨ pre + post = 0 ∨ (s1.is (R.ACQ_GRP_CTRL_ACC_EN n) ∧ 1048576 < s1.accEntries n) then s1.groupRefuse n 5
        else if s1.regionBad n then s1.groupRefuse n 6
        else
          let r := s1.submit t [.group n]
          if r.2 then r.1 else r.1.groupRefuse n 1)

/-- GROUP_ENABLE. -/
def execGroupEnable (u : Sub) (n : Fin 4) (v : Word) (s : State) : Host.Outcome State Fault Refusal := done s ((s.atF u).doGroupEnable n v)

/-- The group is ARMED from its plan boundary (R264): segment numbers start at 0. -/
def State.groupArm (s : State) (n : Nat) : State :=
  if s.is (R.ACQ_GRP_CTRL_EN n) then
    ((s.set (R.ACQ_GRP_STAT_STATE n) 1).put (R.ACQ_GRP_SEGS n) 0).setGroup n { slot := 0 }
  else s

/-- A firing that the group does not accept (R246): counted, with SEG_MISS at most once in a tick. -/
def State.groupMiss (s : State) (n : Nat) : State :=
  let g := s.group n
  let s1 := (s.setGroup n { g with missed := g.missed + 1, missTick := some s.time.fTick }).acqCount (R.ACQ_GRP_MISS n) 1
  if g.missTick = some s.time.fTick then s1 else s1.acqEvt R.ACQ_EVT_SEG_MISS 0x0003 n s1.fNow.pack (s1.val (R.ACQ_GRP_MISS n))

/-- A firing of the group's combiner reaches an ARMED group (R246): `fire` in cycles, `stamp` in 1/256 unit. -/
def State.groupFire (s : State) (n stamp input code fire : Nat) : State :=
  if s.is (R.ACQ_GRP_CTRL_EN n) && s.get (R.ACQ_GRP_STAT_STATE n) == 1 then
    let g := s.group n
    let spaced := match g.prevFire with
      | some f => decide (f + s.spacing n * 4000 ≤ fire)
      | none => true
    let clear := match g.prevEnd with
      | some e => decide (e < stamp)
      | none => true
    if spaced && clear then
      let no := s.val (R.ACQ_GRP_SEGS n)
      let seg : SegSt := { segNo := no, stamp := stamp, input := input, code := code, fire := fire, missed := g.missed }
      let g1 := { g with open_ := g.open_ ++ [seg], prevFire := some fire, prevEnd := some (stamp + s.val (R.ACQ_GRP_POST n) * 256), missed := 0 }
      let s1 := ((s.setGroup n g1).wrapCount (R.ACQ_GRP_SEGS n) 1).set (R.ACQ_GRP_STAT_IN_SEG n) 1
      if !s1.is (R.ACQ_GRP_CTRL_RING n) && decide (s1.nSeg n ≤ no + 1) then
        (s1.set (R.ACQ_GRP_STAT_STATE n) 2).acqEvt R.ACQ_EVT_SEG_DONE 0x0002 n s1.fNow.pack (no + 1)
      else s1
    else s.groupMiss n
  else s

/-- A lane's part of a segment (R245, R247): its samples, the first sample's instant, the whole length, and whether the part is cut. -/
def State.partOf (s : State) (n l stamp : Nat) : List Smp × Nat × Nat × Bool :=
  let r := s.red l
  let p := max 1 (s.srcPeriod l r.act.src)
  let len := s.partSamples n l r.act.src
  let first := ceilDiv (stamp - s.val (R.ACQ_GRP_PRE n) * 256) (p * 256) * p
  let at_ := stamp / 256
  let begin_ := max first ((r.breaks.filter (fun b => decide (b ≤ at_))).foldl max 0)
  let stop := ((r.breaks.filter (fun b => decide (at_ < b))).foldl min (first + len * p))
  let xs := (r.ring.filter (fun x => decide (begin_ ≤ x.t ∧ x.t < stop ∧ x.t < first + len * p))).reverse
  let run := (runsOf p xs).headD []
  (run, (run.head?.map Smp.t).getD begin_, len, decide (run.length < len))

/-- The segment header (R248). -/
def State.segHeader (s : State) (n : Nat) (g : SegSt) (sflags segNo accCount : Nat) : List Byte :=
  let lanes := s.groupLanes n
  leBytes 1 8 ++ leBytes 1 sflags ++ leBytes 1 n ++ leBytes 1 (s.get (R.ACQ_GRP_CTRL_COMB n)) ++ leBytes 4 segNo ++ leBytes 8 (t64At (g.stamp / 256))
    ++ leBytes 1 g.stamp ++ leBytes 1 g.input ++ leBytes 1 g.code ++ leBytes 1 0 ++ leBytes 8 (t64At (g.fire * 256))
    ++ leBytes 4 (s.val (R.ACQ_GRP_PRE n)) ++ leBytes 4 (s.val (R.ACQ_GRP_POST n))
    ++ leBytes 8 ((lanes.map (fun l => 2 ^ l)).foldl (· + ·) 0) ++ leBytes 4 g.missed ++ leBytes 4 accCount ++ leBytes 12 0

/-- The value of a RAW or DEC entry of a part. -/
def RedSet.accValues (x : RedSet) (code : Nat) (xs : List Smp) : List Int :=
  if code = 0 then xs.map Smp.c else (buckets x.n xs).map (fun b => (bucketValue 1 (settled b)).1)

/-- Add two lists entry by entry; the first may be empty. -/
def addLists (a b : List Int) : List Int := if a = [] then b else (a.zip b).map (fun p => p.1 + p.2)

/-- The accumulators after a segment is added (R255). -/
def State.accAdd (s : State) (n stamp : Nat) : List (Nat × Nat × List Int) :=
  ((s.groupLanes n).map (fun l =>
    ((List.range 2).filter (fun c => (s.red l).act.sel.testBit c)).map (fun c =>
      let old := (((s.group n).acc.find? (fun a => a.1 == l && a.2.1 == c)).map (fun a => a.2.2)).getD []
      (l, c, addLists old ((s.red l).act.accValues c (s.partOf n l stamp).1))))).flatten

/-- The accumulated output of a group is sent and the accumulators are cleared (R255). -/
def State.accSend (s : State) (n : Nat) (g : SegSt) (final : Bool) : State :=
  let x := s.group n
  let s1 := s.sendFH 0x30 3 (t64At (g.stamp / 256)) (s.segHeader n g 4 g.segNo x.accCount)
  let s2 := x.acc.foldl (fun t a =>
    let period := t.srcPeriod a.1 (t.red a.1).act.src
    let part := t.partOf n a.1 g.stamp
    t.sendItem a.2.1 (rfSEG + rfACC) a.1 (t.red a.1).act.src g.segNo (t64At part.2.1) ((t.red a.1).act.entryPeriod a.2.1 period) 8
      (a.2.2.map (fun v => (leBytes 8 (codeOf 64 v), false)))) s1
  let s3 := s2.setGroup n { s2.group n with acc := [], accCount := 0 }
  if final then s3 else s3.acqEvt R.ACQ_EVT_ACC_DONE 0x0004 n s3.fNow.pack x.accCount

/-- The items of one completed segment (R248, R255). -/
def State.segmentSend (s : State) (n : Nat) (g : SegSt) : State :=
  let lanes := s.groupLanes n
  let parts := lanes.map (fun l => (l, s.partOf n l g.stamp))
  let cut := parts.any (fun p => p.2.2.2.2)
  let gap := lanes.any (fun l => (s.red l).gapped)
  let acc := s.is (R.ACQ_GRP_CTRL_ACC_EN n)
  let s1 := s.sendFH 0x30 3 (t64At (g.stamp / 256)) (s.segHeader n g ((if gap then 1 else 0) + (if cut then 2 else 0)) g.segNo 1)
  let s2 := parts.foldl (fun t p =>
    let x := (t.red p.1).act
    let period := t.srcPeriod p.1 x.src
    t.sendFrame p.1 x (fun c => !(acc && decide (c < 2))) (g.segNo % 2 ^ 32)
      (rfSEG + (if p.2.2.2.2 then rfCUT else 0)) period p.2.2.1 (p.2.2.2.1 - p.2.1.length) p.2.1) s1
  if !acc then s2
  else if cut || parts.any (fun p => p.2.1.any (fun x => !x.ok)) then
    let s3 := s2.acqCount (R.ACQ_GRP_ACC_SKIP n) 1
    s3.acqEvt R.ACQ_EVT_ACC_SKIP 0x0005 n s3.fNow.pack (s3.val (R.ACQ_GRP_ACC_SKIP n))
  else
    let y := s2.group n
    let s3 := s2.setGroup n { y with acc := s2.accAdd n g.stamp, accCount := y.accCount + 1 }
    if s3.accN n ≤ y.accCount + 1 then s3.accSend n g false else s3

/-- A stopping group has completed its segments (R257): an accumulation in progress is sent, BUSY falls, and the Ledger takes the stop. -/
def State.groupStopped (s : State) (n : Nat) (last : SegSt) : State :=
  let x := s.group n
  let s1 := if x.accCount = 0 then s else s.accSend n last true
  let s2 := ((s1.set (R.ACQ_GRP_STAT_BUSY n) 0).set (R.ACQ_GRP_STAT_STATE n) 0).setGroup n {}
  s2.stopEntry 0x16 (0x200 + n) s2.fNow.pack 0 0

/-- SEGMENT_COMPLETE (R248): the oldest open segment whose span has ended is sent. -/
def State.doSegmentComplete (s : State) (n : Nat) : State :=
  match (s.group n).open_ with
  | [] => s
  | g :: rest =>
    if g.stamp + s.val (R.ACQ_GRP_POST n) * 256 ≤ s.fU * 256 then
      let s1 := s.segmentSend n g
      let s2 := s1.setGroup n { s1.group n with open_ := rest }
      let s3 := s2.set (R.ACQ_GRP_STAT_IN_SEG n) (if rest = [] then 0 else 1)
      if (s3.group n).stopping && rest.isEmpty then s3.groupStopped n g else s3
    else s

/-- SEGMENT_COMPLETE, with the samples that have come since. -/
def execSegmentComplete (u : Sub) (n : Fin 4) (env : List LaneIn) (s : State) : Host.Outcome State Fault Refusal :=
  done s (((s.takeSamples env).atF u).doSegmentComplete n)

/-- Clearing EN (R257): no firing is accepted; the segment in progress completes. -/
def State.groupStop (s : State) (n : Nat) : State :=
  if s.is (R.ACQ_GRP_CTRL_EN n) then
    let s1 := s.releaseBudget ((s.set (R.ACQ_GRP_CTRL_EN n) 0).set (R.ACQ_GRP_STAT_BUSY n) 1)
    let g := s1.group n
    match g.open_ with
    | [] => s1.groupStopped n { segNo := s1.val (R.ACQ_GRP_SEGS n) - 1, stamp := s1.fU * 256, input := 0, code := 0, fire := s1.fU / 256, missed := 0 }
    | _ => (s1.set (R.ACQ_GRP_STAT_STATE n) 0).setGroup n { g with stopping := true }
  else s

/-- GROUP_DISABLE. -/
def execGroupDisable (u : Sub) (n : Fin 4) (s : State) : Host.Outcome State Fault Refusal :=
  done s ((s.atF u).ifOn (R.ACQ_GRP_CTRL n) (fun s => s.groupStop n))

/-- ACQ_GRP_CTRL.CLR_STATS (R264). -/
def State.doGrpClrStats (s : State) (n : Nat) : State :=
  s.ifOn (R.ACQ_GRP_CTRL n) (fun s => (s.put (R.ACQ_GRP_MISS n) 0).put (R.ACQ_GRP_ACC_SKIP n) 0)

/-- GRP_CLR_STATS. -/
def execGrpClrStats (n : Fin 4) (s : State) : Host.Outcome State Fault Refusal := done s (s.doGrpClrStats n)

/-! ### The host half's segment store (R249) -/

/-- The host half stores a group's XM_REDUCE payload: a segment header starts the next slot, whose tail is zeroed; with accumulation on only
accumulated outputs are stored (R249). -/
def State.storeSegment (s : State) (n : Nat) (pl : List Byte) : State :=
  let isHead := leAt pl 0 1 == 8
  let acc := s.is (R.ACQ_GRP_CTRL_ACC_EN n)
  let g := s.group n
  let base := s.val (R.ACQ_GRP_MEM_BASE n) * 2 ^ 20
  let size := s.slotBytes n
  let slots := max 1 (s.nSlot n)
  let put (t : State) (slot ofs : Nat) : State :=
    let bytes := (leBytes 4 pl.length ++ pl).take (size - ofs)
    { t with mem := memWrite t.mem (base + slot * size + ofs) bytes }
  if isHead then
    let isAcc := leAt pl 1 1 / 4 % 2 == 1
    if acc && !isAcc then s.setGroup n { g with slotOfs := 0 }
    else
      let k := if isAcc then g.stored else leAt pl 4 4
      let slot := k % slots
      let lo := base + slot * size
      let s1 := { s with mem := s.mem.filter (fun c => decide (c.1 < lo ∨ lo + size ≤ c.1)) }
      let s2 := put s1 slot 0
      s2.setGroup n { g with slot := slot, slotOfs := 4 + pl.length, stored := if isAcc then g.stored + 1 else g.stored }
  else if g.slotOfs = 0 then s
  else (put s g.slot g.slotOfs).setGroup n { g with slotOfs := g.slotOfs + 4 + pl.length }

end Sys2Proof.Machine
end

