-- ==== Sys2Proof/Machine/Lanes.lean ====
section
/-! DEFINITION. Lanes (R204–R230): applying a configuration, streams and their blocks, the filter engine, unsettled runs, raw bursts. -/

namespace Sys2Proof.Machine

/-! ### The filter engine (R217, R219) -/

/-- A sum in units of 2⁻¹⁷ rounded to a code; half-way sums round as `Config.roundTie` says. [DESIGN CHOICE, log 11, safe] -/
def firRound (v : Int) : Int :=
  let q := v / 131072
  let r := v % 131072
  if r < 65536 then q else if r = 65536 then (if Config.roundTie v then q + 1 else q) else q + 1

/-- One output of the FIR stage over its inputs, newest first; the result limited to 16 bits. -/
def firOne (hs xs : List Int) : Int := (limit16 (firRound (sumI ((hs.zip xs).map (fun p => p.1 * p.2))))).1

/-- Outputs of the FIR stage, newest first. -/
def firAll (hs : List Int) : List Int → List Int
  | [] => []
  | x :: r => firOne hs (x :: r) :: firAll hs r

/-- Outputs of the rank stage, newest first: the sample of rank `k` among the last `w` inputs. [DEDUCED, log 51, safe] -/
def rankAll (w k : Nat) : List Int → List Int
  | [] => []
  | x :: r => (sortAsc ((x :: r).take w)).getD k 0 :: rankAll w k r

/-- Coefficients in force, as signed numbers. -/
def State.firCoefs (s : State) (l : Nat) : List Int :=
  (List.range (filtTaps (s.rd (R.LANE_FILT_ACT l)))).map (fun k => signedOf 18 (s.val (R.LANE_FIR_ACT l k)))

/-- Both stages over DEC samples, newest first (R217). [DEDUCED, log 51, safe] -/
def State.filterAll (s : State) (l : Nat) (xs : List Int) : List Int :=
  let f := s.rd (R.LANE_FILT_ACT l)
  let fir (y : List Int) : List Int := if filtFirEn f then firAll (s.firCoefs l) y else y
  let rank (y : List Int) : List Int := if filtRankEn f then rankAll (filtW f) (filtRankR f) y else y
  if filtRankFirst f then fir (rank xs) else rank (fir xs)

/-- The lane has a FILT stream: a stage is on (R217). -/
def hasFilt (f : Word) : Bool := filtFirEn f || filtRankEn f

/-- Places that an output's time-stamp lies back (R217). -/
def filtShift (f : Word) : Nat := (if filtFirEn f then filtAlign f else 0) + (if filtRankEn f then (filtW f - 1) / 2 else 0)

/-- Ticks after its own in which a FILT block is composed: the engine's tick, and more where the time-stamps lie further back. -/
def filtLag (f : Word) (n : Nat) : Nat := max 1 (ceilDiv (filtShift f) (max 1 n))

/-- Release of FILT samples: 10,200 ns and 12.5 ns for each lane number (R219). -/
def filtRelease (l : Nat) : Nat := 1044480 + 1280 * l

/-! ### Sample blocks (R220–R222) -/

/-- The 64-byte header and samples of a block. -/
def State.blockBytes (s : State) (l src bflags t0 period cal ovr blockNo ustart ucount : Nat) (xs : List Smp) : List Byte :=
  let a := s.rd (R.LANE_ACTIVE l)
  let f := s.rd (R.LANE_FILT_ACT l)
  let fb := (if filtFirEn f then 1 else 0) + (if filtRankEn f then 2 else 0) + (if filtRankFirst f then 4 else 0)
  leBytes 1 (src + 1) ++ leBytes 1 bflags ++ leBytes 2 l ++ leBytes 4 xs.length ++ leBytes 8 (t64At t0) ++ leBytes 4 period
    ++ leBytes 1 (cfgRange a) ++ leBytes 1 (cfgFuse a) ++ leBytes 1 (cfgDeck a) ++ leBytes 1 fb ++ leBytes 4 ustart ++ leBytes 4 ucount
    ++ leBytes 4 cal ++ leBytes 4 (s.val (R.LANE_CFG_SEQ l)) ++ leBytes 8 blockNo ++ leBytes 4 ovr
    ++ leBytes 4 (if src = 2 then 1280 * l else 0) ++ leBytes 8 0 ++ (xs.map (fun x => leBytes 2 (codeOf 16 x.c))).flatten

/-- CAL_SET at the first sample of a tick (R221). -/
def State.calSetAt (s : State) (l tick : Nat) : Nat :=
  match (s.lane l).calSets.find? (fun c => c.1 == tick) with
  | some c => c.2
  | none => s.val R.MET_BANK_ID

/-- A block of a stream from the samples of one tick; a stopping stream ends with the last sample before the stop (R222). Answers the message
flags, the T64 and the payload, and the state with the stream's marks used. -/
def State.composeBlock (s : State) (l src tick : Nat) (xs : List Smp) : (Nat × Nat × List Byte) × State :=
  let x := s.lane l
  let y := x.stream src
  let period := s.srcPeriod l src
  let ys := match y.stopAt with
    | some t => xs.filter (fun z => decide (z.t < t))
    | none => xs
  let t0 := (xs.head?.map Smp.t).getD (tick * unitsPerTick)
  let ucount : Nat := (ys.filter (fun z => !z.ok)).length
  let ovr : Nat := (ys.filter (fun z => z.sat)).length
  let more := decide (0 < ucount) && ys.all (fun z => !z.ok) && decide (0 < y.unset)
  let bflags := (if ovr = 0 then 0 else 1) + (if cfgFuse (s.rd (R.LANE_ACTIVE l)) = 0 then 0 else 2)
    + (if src = 0 ∧ y.on = 2 then 4 else 0) + (if more then 8 else 0)
  let flags := (if y.som then flagSOM else 0) + (if y.gap then flagGAP else 0) + (if y.stopAt.isSome then flagEOM else 0)
  let pl := s.blockBytes l src bflags t0 period (s.calSetAt l tick) ovr y.blocks (if ys.isEmpty then 0 else ys.findIdx (fun z => !z.ok) % max 1 ys.length) ucount ys
  let y1 := { y with som := false, gap := false, blocks := (y.blocks + 1) % 2 ^ 64,
                     on := if y.stopAt.isSome then 0 else y.on, stopAt := none }
  ((flags, t64At t0, pl), s.setLane l ((s.lane l).setStream src y1))

/-- Send a block. -/
def State.sendBlock (s : State) (b : Nat × Nat × List Byte) : State :=
  s.sendFH 0x20 2 b.2.1 b.2.2 b.1 ((flagSOM + flagEOM) &&& (15 ^^^ b.1))

/-- BUSY falls when no stream of the lane stops any more, and the Ledger takes the stop (R87). -/
def State.laneBusyEnd (s : State) (l t64 : Nat) : State :=
  let x := s.lane l
  if s.is (R.LANE_STAT_BUSY l) && x.raw.stopAt.isNone && x.dec.stopAt.isNone && x.filt.stopAt.isNone then
    (s.set (R.LANE_STAT_BUSY l) 0).stopEntry 0x14 l t64 0 0
  else s

/-- The stream sends a block for its tick: it is on, and a burst is running where RAW is in burst mode. -/
def LaneSt.sends (x : LaneSt) (src : Nat) : Bool :=
  let y := x.stream src
  if src = 0 then y.on == 1 || (y.on == 2 && decide (0 < x.burstLeft)) else y.on == 1

/-- A burst block waits in the Float; when the Float is full its samples are lost, and the next block carries GAP (R225, R227). -/
def State.sendBurst (s : State) (l : Nat) (b : Nat × Nat × List Byte) : State :=
  let size := 20 + b.2.2.length
  let x := s.lane l
  if floatSize < s.floatFill + size then
    ({ s with link := { s.link with floatLoss := true } }).setLane l { x with raw := { x.raw with gap := true, som := true } }
  else
    let s1 := s.sendBlock b
    let ahead := s1.link.floatBurst + size
    let s2 := { s1 with link := { s1.link with floatBurst := ahead } }
    (s2.setLane l { s2.lane l with burstSent := x.burstSent + 1, burstAhead := ahead }).set (R.LANE_STAT_BURST_DRAIN l) 1

/-- The RAW or DEC block of the tick that has ended. -/
def State.tickBlock (s : State) (l src : Nat) : State :=
  let x := s.lane l
  let y := x.stream src
  let s1 := if x.sends src && !y.buf.isEmpty && !s.isShed src l then
      let stop := (y.stopAt.map t64At).getD 0
      let r := s.composeBlock l src (s.fTickU / unitsPerTick) y.buf
      let t := if src = 0 ∧ y.on = 2 then
          let t1 := r.2.sendBurst l r.1
          t1.setLane l { t1.lane l with burstLeft := x.burstLeft - 1 }
        else r.2.sendBlock r.1
      t.laneBusyEnd l stop
    else if y.stopAt.isSome then
      (s.setLane l (x.setStream src { y with on := 0, stopAt := none })).laneBusyEnd l ((y.stopAt.map t64At).getD 0)
    else s
  s1.setLane l ((s1.lane l).setStream src { (s1.lane l).stream src with buf := [] })

/-- The FILT samples of a tick: values whose time-stamps fall in the tick, by the filter over the DEC samples of the ticks up to `now`; a value
whose input has not come is a free value (R217, R220). -/
def State.filtSamples (s : State) (l tick now : Nat) : List Smp × State :=
  let f := s.rd (R.LANE_FILT_ACT l)
  let n := s.srcSamples l 1
  let period := 1024000 / max 1 n
  let hist := (s.lane l).decHist
  let ys := s.filterAll l hist
  let back := (now - tick) * n
  let a := filtShift f
  let newest := back - n
  let r := (List.range n).foldl (fun (acc : List (Option Int) × State) i =>
    let pos := newest + (n - 1 - i)
    if pos < a then let w := acc.2.fresh 16; (acc.1 ++ [some (signedOf 16 w.1)], w.2)
    else (acc.1 ++ [ys[pos - a]?], acc.2)) (([] : List (Option Int)), s)
  let unset := (r.2.lane l).filt.unset
  let xs := (r.1.zipIdx.filterMap (fun v => v.1.map (fun c => (v.2, c))))
  (xs.map (fun (v : Nat × Int) => ({ t := tick * unitsPerTick + v.1 * period, c := v.2, ok := decide (unset ≤ v.1), sat := decide (v.2 = 32767 ∨ v.2 = -32768) } : Smp)), r.2)

/-- Compose the FILT block of a tick: every reader takes the samples, and the block leaves at its due boundary (R219). -/
def State.filtBlock (s : State) (l tick now due : Nat) : State :=
  let r := s.filtSamples l tick now
  let s1 := r.2
  let n := s1.srcSamples l 1
  let x := s1.lane l
  let s2 := s1.setLane l { x with filtNext := tick + 1, filt := { x.filt with unset := x.filt.unset - n } }
  let s3 := (s2.showUnset l).feed l 2 (1024000 / max 1 n) r.1
  let y := (s3.lane l).filt
  if y.on = 1 ∧ r.1 ≠ [] ∧ s.isShed 2 l = false then
    let stop := y.stopAt
    let final := stop.any (fun t => decide (t ≤ (tick + 1) * unitsPerTick))
    let s4 := if final then s3 else s3.setLane l { s3.lane l with filt := { y with stopAt := none } }
    let b := s4.composeBlock l 2 tick r.1
    let s5 := b.2
    let s6 := if final then s5 else s5.setLane l { s5.lane l with filt := { (s5.lane l).filt with stopAt := stop } }
    let s7 := s6.setLane l { s6.lane l with filtOut := (s6.lane l).filtOut ++ [(due, b.1.1, b.1.2.1, b.1.2.2)] }
    s7.laneBusyEnd l ((stop.map t64At).getD 0)
  else s3

/-- Send the FILT blocks that are due. -/
def State.filtSend (s : State) (l now : Nat) : State :=
  let x := s.lane l
  let due := x.filtOut.filter (fun b => decide (b.1 ≤ now))
  let s1 := s.setLane l { x with filtOut := x.filtOut.filter (fun b => !decide (b.1 ≤ now)) }
  due.foldl (fun t b => t.sendBlock b.2) s1

/-- The ticks from `a` up to `b`. -/
def ticksUpTo (a b : Nat) : List Nat := (List.range (b - a)).map (fun i => a + i)

/-- A lane's work at the boundary that begins tick `now` (counted across eras): the samples of the ended tick join the filter's history, its blocks are
sent, and a tick whose samples stop short begins a gap. -/
def State.laneTick (s : State) (l now : Nat) : State :=
  let x := s.lane l
  let f := s.rd (R.LANE_FILT_ACT l)
  let nr := s.srcSamples l 0
  let nd := s.srcSamples l 1
  let got := x.raw.buf.length
  let stop := (now - 1) * unitsPerTick + got * (1024000 / nr)
  let keep := if hasFilt f then (filtLag f nd + 2) * nd + 160 else 160
  let x1 := { x with decHist := ((x.dec.buf.map Smp.c).reverse ++ x.decHist).take keep, calSets := ((now - 1, s.val R.MET_BANK_ID) :: x.calSets).take 16 }
  let group := fuseFactor (cfgFuse (s.rd (R.LANE_ACTIVE l)))
  let s0 := (List.range group).foldl (fun t i => t.wrapCount64 (R.LANE_SAMPLES_LO (l + i)) (got / group)) (s.setLane l x1)
  let s1 := (s0.tickBlock l 0).tickBlock l 1
  let whole := decide (nr ≤ got)
  let s2 := if whole then s1 else s1.laneGap l stop
  let s3 := if hasFilt f && whole then
      let lag := filtLag f nd
      let from_ := max (s2.lane l).filtNext (now - 1 - lag - 8)
      (ticksUpTo from_ (now - lag)).foldl (fun t k => t.filtBlock l k now (k + 1 + lag)) s2
    else s2.setLane l { s2.lane l with filtNext := now }
  s3.filtSend l now

/-- Every lane's work at a tick boundary, before the field time moves on; `fTickU` is the boundary of the tick that ends. -/
def State.lanesTick (s : State) : State :=
  let now := s.fTickU / unitsPerTick + 1
  (List.range 48).foldl (fun t l => if t.laneConverts l then t.laneTick l now else t.filtSend l now) s

/-- Burst blocks leave the Float in field-to-host bytes that the plan leaves unallocated (R225). -/
def State.drainBursts (s : State) : State :=
  if s.linkUp ∧ s.link.floatBurst ≠ 0 then
    let free := s.fhBudget - s.fhLoad s.mode
    let s1 := { s with link := { s.link with floatBurst := s.link.floatBurst - free } }
    { s1 with lanes := s1.lanes.map (fun x => { x with burstAhead := x.burstAhead - free }) }
  else s

/-! ### Transition capture's blocks (R120, R122) -/

/-- The entry of a captured transition. -/
def edgeEntry (at_ st line : Nat) : Nat := at_ % unitsPerTick / 256 * 2 ^ 20 + at_ % 256 * 2 ^ 12 + line * 256 + st * 64

/-- The PIN_EDGES block of a slot for one tick, marked as a gap during a calibration run (R317); transitions of equal instants run in order of line. -/
def State.edgeBlock (s : State) (q tick : Nat) (es : List (Nat × Nat × Nat)) : State :=
  let sorted := es.foldl (fun acc e =>
    acc.takeWhile (fun f => decide (f.1 < e.1 ∨ (f.1 = e.1 ∧ f.2.2 ≤ e.2.2))) ++ [e]
      ++ acc.dropWhile (fun f => decide (f.1 < e.1 ∨ (f.1 = e.1 ∧ f.2.2 ≤ e.2.2)))) []
  let pl := leBytes 1 0x10 ++ leBytes 1 0 ++ leBytes 2 q ++ leBytes 4 sorted.length ++ leBytes 8 (t64At (tick * unitsPerTick)) ++ leBytes 48 0
    ++ (sorted.map (fun e => leBytes 4 (edgeEntry e.1 e.2.1 e.2.2))).flatten
  s.sendBlock (if s.is R.MET_MC_STAT_RUN_OWNS then flagGAP else 0, t64At (tick * unitsPerTick), pl)

/-- A slot's blocks at a boundary: each capturing port sends up to BUDGET transitions, the rest wait (R122); a transition that began in an
earlier tick travels in a block of that tick. -/
def State.slotEdges (s : State) (q : Nat) : State :=
  let tick := s.fTickU / unitsPerTick
  let ports := (List.range 16).map (fun i => 16 * q + i)
  let on := ports.any (fun p => s.is (R.PIN_CAPT_EN p))
  let es := (ports.map (fun p => ((s.pinRt p).capt.take (s.get (R.PIN_CAPT_BUDGET p))).map (fun c => (c.1, c.2, p % 16)))).flatten
  if (!on && es.isEmpty) || s.isShed 3 q then s
  else
    let s1 := ports.foldl (fun t p =>
      let x := t.pinRt p
      if x.capt.isEmpty then t else t.setPinRt p { x with capt := x.capt.drop (t.get (R.PIN_CAPT_BUDGET p)) }) s
    let old := (es.map (fun e => e.1 / unitsPerTick)).filter (fun k => k != tick)
    let ticks := (old.foldl (fun acc k => if acc.contains k then acc else acc ++ [k]) []) ++ [tick]
    ticks.foldl (fun t k => t.edgeBlock q k (es.filter (fun e => e.1 / unitsPerTick == k))) s1

/-- The PIN_EDGES blocks of every slot. -/
def State.edgesTick (s : State) : State := (List.range 16).foldl State.slotEdges s

/-! ### Applying a configuration (R213–R215) -/

/-- Members that a lead's group takes in. -/
def membersOf (l fuse : Nat) : List Nat := (List.range (fuseFactor fuse - 1)).map (fun i => l + 1 + i)

/-- Largest DEC_K of a fusion (R216). -/
def maxDeck (fuse : Nat) : Nat := if fuse = 1 then 9 else if fuse = 2 then 10 else 8

/-- The staged set of a lane. -/
def State.laneStaged (s : State) (l : Nat) : LaneSet :=
  { cfg := s.rd (R.LANE_CFG l), filt := s.rd (R.LANE_FILT l), coefs := (List.range 128).map (fun k => s.val (R.LANE_FIR_COEF l k)) }

/-- The first refusal reason that applies, of 8 and then 2 to 7 (R213). -/
def State.laneReason (s : State) (l : Nat) (x : LaneSet) : Option Nat :=
  let range := cfgRange x.cfg
  let fuse := cfgFuse x.cfg
  let q := l / 8
  let group := l :: membersOf l fuse
  let exc := group.any (fun k => !(s.excGens k).isEmpty)
  if !s.is (R.LANE_STAT_PRESENT l) ∨ !s.powered (R.LANE_CTRL l) then some 8
  else if 4 < range ∨ (s.get (R.POD_S_CAPS_RANGES q)).testBit range = false then some 2
  else if fuse ≠ 0 ∧ (!s.is (R.POD_S_CAPS_FUSION q) ∨ l % fuseFactor fuse ≠ 0 ∨
      (membersOf l fuse).any (fun k => s.get (R.LANE_ACTIVE_FUSE k) != 0)) then some 3
  else if (fuse ≠ 0 ∧ exc) ∨ (range ≠ s.get (R.LANE_ACTIVE_RANGE l) ∧ !(s.excGens l).isEmpty) then some 4
  else if s.is (R.LANE_STAT_MEMBER l) then some 5
  else if maxDeck fuse < cfgDeck x.cfg then some 6
  else if (filtRankEn x.filt ∧ filtW x.filt ≤ filtRankR x.filt) ∨ (filtFirEn x.filt ∧ filtTaps x.filt ≤ filtAlign x.filt) then some 7
  else none

/-- A set, or a stream, is refused: REFUSE, EVT.REFUSED and the event (R213, R214). -/
def State.laneRefuse (s : State) (l reason : Nat) : State :=
  (s.set (R.LANE_STAT_REFUSE l) reason).laneEvt l (R.LANE_EVT_REFUSED l) 0x0002 reason

/-- APPLY_PENDING, and CTRL.APPLY which reads 1 while it does. -/
def State.lanePending (s : State) (l v : Nat) : State := (s.set (R.LANE_STAT_APPLY_PENDING l) v).set (R.LANE_CTRL_APPLY l) v

/-- A write of 1 to LANE_CTRL.APPLY (R213, R214). -/
def State.doLaneApply (s : State) (l : Nat) : State :=
  s.ifOn (R.LANE_CTRL l) (fun s =>
    if s.is (R.LANE_STAT_APPLY_PENDING l) then s.laneRefuse l 1
    else
      let x := s.laneStaged l
      match s.laneReason l x with
      | some r => s.laneRefuse l r
      | none =>
        let a := s.rd (R.LANE_ACTIVE l)
        let needs := decide (cfgRange a ≠ cfgRange x.cfg ∨ cfgFuse a ≠ cfgFuse x.cfg)
        let y := { s.lane l with pend := some x, planned := false, acked := !needs, ackBy := s.time.fTick + 200 }
        let t := (s.setLane l y).lanePending l 1
        let r := s.submit t [.laneApply l]
        if !r.2 then r.1.laneRefuse l 1
        else if needs then r.1.setPod (l / 8) { r.1.pod (l / 8) with cfg := true }
        else r.1)

/-- LANE_APPLY. -/
def execLaneApply (u : Sub) (l : Lane) (s : State) : Host.Outcome State Fault Refusal := done s ((s.atF u).doLaneApply l)

/-- The plan boundary of a pending set is reached. [DEDUCED, log 52, unsafe] -/
def State.lanePlanned (s : State) (l : Nat) : State := s.setLane l { s.lane l with planned := true }

/-- Unsettled runs of a change, in samples of RAW, DEC and FILT (R223): `kind` 3 range or fusion, 2 decimation, 1 filter only. -/
def runLens (kind settle : Nat) (x : LaneSet) : Nat × Nat × Nat :=
  let f := fuseFactor (cfgFuse x.cfg)
  let d := 2 ^ cfgDeck x.cfg
  let fd := if cfgDeck x.cfg = 0 then 0 else 12
  let ff := (if filtFirEn x.filt then filtTaps x.filt - 1 else 0) + (if filtRankEn x.filt then filtW x.filt - 1 else 0)
  let raw := if kind = 3 then settle * f else 0
  let dec := if kind = 3 then ceilDiv (settle * f) d + fd else if kind = 2 then fd else 0
  (raw, dec, if kind = 0 then 0 else if hasFilt x.filt then dec + ff else 0)

/-- The last block of a stream that has been queued at this boundary becomes the final one: it carries EOM (R87, R211, R222). -/
def State.markFinal (s : State) (l src : Nat) : State :=
  let isIt (m : Msg) : Bool := m.ty == 0x20 && leAt m.payload 0 1 == src + 1 && leAt m.payload 2 2 == l
  let n := s.link.outFH.length
  match (List.range n).reverse.find? (fun i => (s.link.outFH[i]?).any isIt) with
  | none => s
  | some i =>
    match s.link.outFH[i]? with
    | none => s
    | some m =>
      let m1 := { m with flags := m.flags ||| flagEOM }
      { s with link := { s.link with outFH := s.link.outFH.set i { m1 with trailer := crc32c (m1.header ++ m1.payload) } } }

/-- Every stream of a lane stops, with the instant now as the stop instant (R87): at a tick boundary the blocks just queued are the last, within
a tick the block in progress is. LANE_STREAM reads 0. -/
def State.laneStopAll (s : State) (l : Nat) : State :=
  if s.val (R.LANE_STREAM l) = 0 then s
  else
    let s1 := s.releaseBudget (s.put (R.LANE_STREAM l) 0)
    let x := s1.lane l
    let some_ := decide (x.raw.on ≠ 0 ∨ x.dec.on ≠ 0 ∨ x.filt.on ≠ 0)
    if s1.time.fUnit = 0 then
      let s2 := (List.range 2).foldl (fun t src => if (t.lane l).sends src then t.markFinal l src else t) s1
      let y := s2.lane l
      let filt := if y.filt.on = 0 then y.filt else { y.filt with stopAt := some s2.fU }
      let s3 := s2.setLane l { y with raw := { y.raw with on := 0 }, dec := { y.dec with on := 0 }, filt := filt }
      if y.filt.on ≠ 0 then s3.set (R.LANE_STAT_BUSY l) 1 else if some_ then s3.stopEntry 0x14 l (t64At s3.fU) 0 0 else s3
    else
      let stop (z : StreamSt) : StreamSt := if z.on = 0 then z else { z with stopAt := some s1.fU }
      let s2 := s1.setLane l { x with raw := stop x.raw, dec := stop x.dec, filt := stop x.filt }
      if some_ then s2.set (R.LANE_STAT_BUSY l) 1 else s2

/-- Membership of a group's lanes changes with the lead's fusion (R209, R211). -/
def State.regroup (s : State) (l old new : Nat) : State :=
  let s1 := (membersOf l old).foldl (fun t k => t.set (R.LANE_STAT_MEMBER k) 0) s
  let s2 := (membersOf l new).foldl (fun t k => (t.laneStopAll k).set (R.LANE_STAT_MEMBER k) 1) s1
  s2.set (R.LANE_STAT_LEAD l) (if new = 0 then 0 else 1)

/-- A set takes effect at this boundary (R213, R223, R224, R293). [DEDUCED, log 52, unsafe] -/
def State.laneTakeEffect (s : State) (l : Nat) (x : LaneSet) : State :=
  let a := s.rd (R.LANE_ACTIVE l)
  let f := s.rd (R.LANE_FILT_ACT l)
  let now := s.fTickU / unitsPerTick
  let kind := if cfgRange a ≠ cfgRange x.cfg ∨ cfgFuse a ≠ cfgFuse x.cfg then 3 else if cfgDeck a ≠ cfgDeck x.cfg then 2
    else if f ≠ x.filt ∨ (List.range 128).any (fun k => s.val (R.LANE_FIR_ACT l k) != x.coefs.getD k 0) then 1 else 0
  let oldR := s.srcPeriod l 0
  let oldD := s.srcPeriod l 1
  let lag := filtLag f (s.srcSamples l 1)
  let s1 := if hasFilt f then (ticksUpTo (max (s.lane l).filtNext (now - 1 - lag)) now).foldl (fun t k => t.filtBlock l k now (k + 1 + lag)) s else s
  let s2 := (s1.redBreak l).regroup l (cfgFuse a) (cfgFuse x.cfg)
  let s3 := ((s2.wr (R.LANE_ACTIVE l) (x.cfg &&& 0x00000F37#32)).wr (R.LANE_FILT_ACT l) x.filt)
  let s4 := (List.range 128).foldl (fun t k => t.put (R.LANE_FIR_ACT l k) (x.coefs.getD k 0)) s3
  let settle := s4.val (R.POD_S_SETTLE (l / 8) (cfgRange x.cfg))
  let s5 := (s4.put (R.LANE_SETTLE l) settle).set (R.LANE_COST_ACTIVE l) (engineCost x.cfg x.filt)
  let lens := runLens kind settle x
  let newR := s5.srcPeriod l 0
  let newD := s5.srcPeriod l 1
  let y := s5.lane l
  let left (z : StreamSt) (old new len : Nat) : Nat := max len (ceilDiv (z.unset * old) new)
  let r := left y.raw oldR newR lens.1
  let d := left y.dec oldD newD lens.2.1
  let g := if hasFilt x.filt then left y.filt oldD newD lens.2.2 else 0
  let last (n p extra : Nat) : Nat := if n = 0 then 0 else s5.fTickU + (n - 1) * p + extra
  let stop := max (last r newR 0) (max (last d newD 0) (last g newD (filtRelease l)))
  let mark (z : StreamSt) (n : Nat) : StreamSt := { z with unset := n, som := true }
  let s6 := s5.setLane l { y with pend := none, planned := false, acked := false, raw := mark y.raw r, dec := mark y.dec d, filt := mark y.filt g,
                                  runLen := max r (max d g), runEnd := max y.runEnd stop, decHist := if kind < 2 then y.decHist else [], filtNext := now }
  let s7 := if 0 < max r (max d g) then (s6.set (R.LANE_STAT_UNSETTLED l) 1).excLost l else s6
  let s8 := ((s7.showUnset l).lanePending l 0).wrapCount (R.LANE_CFG_SEQ l) 1
  let s9 := s8.laneEvt l (R.LANE_EVT_APPLIED l) 0x0001 (s8.val (R.LANE_ACTIVE l))
  let cmp := 16 * (l / 8) + 2 * (l % 8)
  let s10 := if cfgRange a = cfgRange x.cfg then s9
    else if s9.role cmp = roleLaneCmp then
      (s9.storeLevel cmp .cmpHi (s9.sval (R.PIN_CMP_HI cmp))).storeLevel cmp .cmpLo (s9.sval (R.PIN_CMP_LO cmp))
    else s9
  let s11 := if kind = 3 then (l :: membersOf l (cfgFuse x.cfg)).foldl (fun t w => t.winApply w) s10 else s10
  (List.range 4).foldl (fun t i => t.showIlv (l / 4 * 4 + i)) s11

/-- LANE_APPLY_EFFECT (R213): at a tick boundary, once the plan boundary is reached and the pod has acknowledged. -/
def State.doLaneApplyEffect (s : State) (l : Nat) : State :=
  match (s.lane l).pend with
  | some x => if (s.lane l).planned && (s.lane l).acked && s.time.fUnit == 0 then s.laneTakeEffect l x else s
  | none => s

/-- LANE_APPLY_EFFECT. -/
def execLaneApplyEffect (l : Lane) (s : State) : Host.Outcome State Fault Refusal := done s (s.doLaneApplyEffect l)

/-- LANE_APPLY_WITHDRAW (R214): no acknowledgement within 200 ticks, or the pod manager reports the pod gone or its link lost. -/
def State.doLaneApplyWithdraw (s : State) (l : Nat) : State :=
  let x := s.lane l
  let gone := s.get (R.POD_S_STAT_STATE (l / 8)) != 4
  if x.pend.isSome && !x.acked && (gone || decide (x.ackBy ≤ s.time.fTick)) && s.time.fUnit == 0 then
    (s.releaseBudget ((s.setLane l { x with pend := none, planned := false }).lanePending l 0)).laneRefuse l 8
  else s

/-- LANE_APPLY_WITHDRAW. -/
def execLaneApplyWithdraw (l : Lane) (s : State) : Host.Outcome State Fault Refusal := done s (s.doLaneApplyWithdraw l)

/-! ### Stream enables (R211, R214, R225, R491) -/

/-- The LANE_STREAM word as stored: RAW 3 as 0 (R230). -/
def streamStored (v : Word) : Nat := let b := fieldOf v 0 4; if b % 4 = 3 then b - 3 else b

/-- A stream of a lane stops with the block in progress (R87). -/
def State.streamStop (s : State) (l src : Nat) : State :=
  let x := s.lane l
  let y := x.stream src
  if y.on = 0 then s
  else (s.setLane l (x.setStream src { y with stopAt := some s.fU })).set (R.LANE_STAT_BUSY l) 1

/-- A write to LANE_STREAM: cleared enables stop their streams, set ones go to the planner; refused ones read 0 (R214, R225). -/
def State.doLaneStreamWrite (s : State) (l : Nat) (v : Word) : State :=
  s.ifOn (R.LANE_CTRL l) (fun s =>
    let new0 := streamStored v
    let old := s.val (R.LANE_STREAM l)
    if s.is (R.LANE_STAT_MEMBER l) then s
    else if !modeStreams s.mode then (if new0 = 0 then s else s.put (R.LANE_STREAM l) 0)
    else
      let new := if s.is (R.LANE_STAT_BUSY l) then new0 &&& old else new0
      let kept := (if old % 4 ≠ 0 ∧ new % 4 = 0 then 0 else old % 4) + ((old &&& new) &&& 12)
      let s1 := s.put (R.LANE_STREAM l) kept
      let s2 := if old % 4 ≠ 0 ∧ new % 4 = 0 then s1.streamStop l 0 else s1
      let s3 := if old.testBit 2 ∧ ¬ new.testBit 2 then s2.streamStop l 1 else s2
      let s4 := if old.testBit 3 ∧ ¬ new.testBit 3 then s3.streamStop l 2 else s3
      let s5 := s.releaseBudget s4
      if new = kept then s5
      else
        let r := s5.submit (s5.put (R.LANE_STREAM l) new) [.laneStream l]
        if r.2 then r.1 else r.1.laneRefuse l 1)

/-- LANE_STREAM_WRITE. -/
def execLaneStreamWrite (u : Sub) (l : Lane) (v : Word) (s : State) : Host.Outcome State Fault Refusal := done s ((s.atF u).doLaneStreamWrite l v)

/-- Streams that an admitted plan enables start with the block of this boundary's tick (R222). -/
def State.streamsStart (s : State) (l : Nat) : State :=
  let b := s.val (R.LANE_STREAM l)
  let x := s.lane l
  let start (y : StreamSt) (on : Nat) : StreamSt := if on ≠ 0 ∧ y.on ≠ on ∧ y.stopAt = none then { y with on := on, som := true } else y
  s.setLane l { x with raw := start x.raw (b % 4), dec := start x.dec (b / 4 % 2), filt := start x.filt (b / 8 % 2) }

/-! ### Raw bursts (R225, R227) -/

/-- A burst start comes (R227): ignored and counted while the lane's burst runs or its blocks wait in the Float. -/
def State.burstRequest (s : State) (l : Nat) : State :=
  if (s.lane l).raw.on ≠ 2 then s
  else if s.is (R.LANE_STAT_BURST_ACTIVE l) || s.is (R.LANE_STAT_BURST_DRAIN l) then
    let s1 := s.laneCount l (R.LANE_BURST_MISS l) 1
    s1.laneEvt l (R.LANE_EVT_BURST_MISS l) 0x0006 (s1.val (R.LANE_BURST_MISS l))
  else s.setLane l { s.lane l with burstDue := true }

/-- A write of 1 to LANE_CTRL.BURST_GO, with START_SEL 16 (R227). -/
def State.doBurstGo (s : State) (l : Nat) : State :=
  s.ifOn (R.LANE_CTRL l) (fun s => if s.get (R.LANE_RAW_START_SEL l) = 16 then s.burstRequest l else s)

/-- BURST_GO. -/
def execBurstGo (u : Sub) (l : Lane) (s : State) : Host.Outcome State Fault Refusal := done s ((s.atF u).doBurstGo l)

/-- A firing of a combiner starts the bursts that name it. -/
def State.burstFire (s : State) (c : Nat) : State :=
  (List.range 48).foldl (fun t l => if t.get (R.LANE_RAW_START_SEL l) = c then t.burstRequest l else t) s

/-- BURST_START (R227): at the tick boundary after the start. -/
def State.doBurstStart (s : State) (l : Nat) : State :=
  let x := s.lane l
  if x.burstDue && s.time.fUnit == 0 then
    let left := max 1 (s.get (R.LANE_RAW_BURST_TICKS l))
    (s.setLane l { x with burstDue := false, burstLeft := left, burstSent := 0, raw := { x.raw with som := true } }).set (R.LANE_STAT_BURST_ACTIVE l) 1
  else s

/-- BURST_START. -/
def execBurstStart (l : Lane) (s : State) : Host.Outcome State Fault Refusal := done s (s.doBurstStart l)

/-- BURST_END (R225): after BURST_TICKS ticks. -/
def State.doBurstEnd (s : State) (l : Nat) : State :=
  if s.is (R.LANE_STAT_BURST_ACTIVE l) ∧ (s.lane l).burstLeft = 0 then s.set (R.LANE_STAT_BURST_ACTIVE l) 0 else s

/-- BURST_END. -/
def execBurstEnd (l : Lane) (s : State) : Host.Outcome State Fault Refusal := done s (s.doBurstEnd l)

/-- BURST_DONE (R227): the last block has left the Float. -/
def State.doBurstDone (s : State) (l : Nat) : State :=
  let x := s.lane l
  if s.is (R.LANE_STAT_BURST_DRAIN l) && !s.is (R.LANE_STAT_BURST_ACTIVE l) && x.burstAhead == 0 then
    (s.set (R.LANE_STAT_BURST_DRAIN l) 0).laneEvt l (R.LANE_EVT_BURST_DONE l) 0x0005 x.burstSent
  else s

/-- BURST_DONE. -/
def execBurstDone (u : Sub) (l : Lane) (s : State) : Host.Outcome State Fault Refusal := done s ((s.atF u).doBurstDone l)

/-! ### The end of unsettled runs, and counters -/

/-- UNSETTLED_END (R224): the last run has ended; in the FILT stream at its release instant. -/
def State.doUnsettledEnd (s : State) (l : Nat) : State :=
  let x := s.lane l
  if s.is (R.LANE_STAT_UNSETTLED l) ∧ x.raw.unset = 0 ∧ x.dec.unset = 0 ∧ x.runEnd ≤ s.fU then
    ((s.set (R.LANE_STAT_UNSETTLED l) 0).put (R.LANE_UNSET_LEFT l) 0).laneEvt l (R.LANE_EVT_UNSETTLED_END l) 0x0003 x.runLen
  else s

/-- UNSETTLED_END. -/
def execUnsettledEnd (u : Sub) (l : Lane) (s : State) : Host.Outcome State Fault Refusal := done s ((s.atF u).doUnsettledEnd l)

/-- LANE_CTRL.CLR_STATS (R230). -/
def State.doLaneClrStats (s : State) (l : Nat) : State :=
  s.ifOn (R.LANE_CTRL l) (fun s => (s.put (R.LANE_OVR_CNT l) 0).put (R.LANE_BURST_MISS l) 0)

/-- LANE_CLR_STATS. -/
def execLaneClrStats (l : Lane) (s : State) : Host.Outcome State Fault Refusal := done s (s.doLaneClrStats l)

end Sys2Proof.Machine
end

