-- ==== Sys2Proof/Machine/FailUnit.lean ====
section
/-! DEFINITION. The fail unit (R123–R127, R131): fail records, the fail region, forwarding and dumps. -/

namespace Sys2Proof.Machine

/-- Count in a 48-bit SAT counter of the fail unit. -/
def State.failCount48 (s : State) (a n : Nat) : State := (s.satCount48 a n R.SEQ_FAIL_EVT_SATURATED).1

/-- The 32 bytes of a pin map: bit (p mod 8) of byte p div 8 for each failing port. -/
def pinmapBytes (ports : List Nat) : List Byte := leBytes 32 ((ports.map (fun p => 2 ^ p)).foldl (· + ·) 0)

/-- The 64 bytes of a fail record (R123). -/
def FailRec.bytes (r : FailRec) : List Byte :=
  leBytes 8 r.t64 ++ leBytes 5 r.vaddr ++ leBytes 1 r.tset ++ leBytes 2 r.flags ++ pinmapBytes r.pinmap ++ leBytes 8 r.vcount
    ++ leBytes 4 r.rep ++ leBytes 4 r.recno

/-- Records that the region in force holds (R125). -/
def FailSt.capacity (f : FailSt) : Nat := f.size * 16384

/-- Change the fail unit's state. -/
def State.setFail (s : State) (f : FailSt) : State := { s with seq := { s.seq with fail := f } }

/-- A failing vector (R123, R127): it takes the next RECNO and counts in SEQ_FAIL_VEC; its record is not yet complete. -/
def State.failOpen (s : State) (r : FailRec) : State :=
  let f := s.seq.fail
  let s1 := s.setFail { f with open_ := f.open_ ++ [{ r with recno := f.recno }], recno := (f.recno + 1) % 2 ^ 32 }
  s1.failCount48 R.SEQ_FAIL_VEC_LO 1

/-- The region is full for the first time since CLEAR (R125, R129). -/
def State.failFull (s : State) : State :=
  if s.is R.SEQ_FAIL_STAT_FULL ∨ s.seq.fail.stored.length < s.seq.fail.capacity then s
  else (s.set R.SEQ_FAIL_STAT_FULL 1).failEvt R.SEQ_FAIL_EVT_FULL 0x0100

/-- Store a complete record first-N and offer it for forwarding (R124, R125). -/
def State.failStore (s : State) (r : FailRec) : State :=
  let f := s.seq.fail
  let s1 :=
    if f.stored.length < f.capacity then
      (s.setFail { f with stored := f.stored ++ [r], fwd := f.fwd ++ [r] }).put R.SEQ_FAIL_STORED (f.stored.length + 1)
    else (s.setFail { f with fwd := f.fwd ++ [r] }).failCount48 R.SEQ_FAIL_LOST_LO 1
  s1.failFull

/-- The oldest open record is complete (R124). -/
def State.doFailComplete (s : State) : State :=
  match s.seq.fail.open_ with
  | [] => s
  | r :: rs => (s.setFail { s.seq.fail with open_ := rs }).failStore r

/-- FAIL_RECORD_COMPLETE. -/
def execFailRecordComplete (u : Sub) (s : State) : Host.Outcome State Fault Refusal := done s (s.atF u).doFailComplete

/-- The new region leaves vector memory, or overlaps the resident window in force (R125, R152). -/
def State.failRegionBad (s : State) (base size : Nat) : Bool :=
  16384 < base + size ||
    (size != 0 && decide (base < 9 * (s.seq.winBase + s.seq.winCount)) && decide (9 * s.seq.winBase < base + size))

/-- The clear takes effect (R125): records of earlier vectors are complete before it; the region empties, takes the latest BASE and SIZE, and
its counters are zero. -/
def State.failClear (s : State) : State :=
  let s0 := s.seq.fail.open_.foldl (fun t _ => t.doFailComplete) s
  let base := s0.val R.SEQ_FAIL_BASE
  let size := s0.val R.SEQ_FAIL_SIZE
  let bad := s0.failRegionBad base size
  let s1 := s0.setFail { s0.seq.fail with stored := [], recno := 0, clearReq := false, base := base, size := if bad then 0 else size }
  let s2 := (s1.putAll [R.SEQ_FAIL_STORED, R.SEQ_FAIL_VEC_LO, R.SEQ_FAIL_VEC_HI, R.SEQ_FAIL_LOST_LO, R.SEQ_FAIL_LOST_HI] 0).set R.SEQ_FAIL_STAT_FULL 0
  if bad then s2.set R.SEQ_FAIL_EVT_CFG_ERR 1 else s2

/-- A write of 1 to SEQ_FAIL_CTRL.CLEAR (R125): at once while no instances run, else at the next vector boundary. -/
def State.doFailClear (s : State) : State :=
  s.ifOn R.SEQ_FAIL_CTRL (fun s =>
    if s.is R.SEQ_STAT_BUSY then s.setFail { s.seq.fail with clearReq := true } else s.failClear)

/-- FAIL_CLEAR. -/
def execFailClear (u : Sub) (s : State) : Host.Outcome State Fault Refusal := done s (s.atF u).doFailClear

/-- A waiting clear takes effect at a vector boundary. -/
def State.doFailClearApply (s : State) : State := if s.seq.fail.clearReq then s.failClear else s

/-- FAIL_CLEAR_APPLY. -/
def execFailClearApply (u : Sub) (s : State) : Host.Outcome State Fault Refusal := done s (s.atF u).doFailClearApply

/-- A write of 1 to SEQ_FAIL_CTRL.DUMP (R126): the records stored now are to be sent. -/
def State.doFailDump (s : State) : State :=
  s.ifOn R.SEQ_FAIL_CTRL (fun s =>
    if s.is R.SEQ_FAIL_STAT_DUMP_BUSY then s
    else (s.setFail { s.seq.fail with dump := s.seq.fail.stored }).set R.SEQ_FAIL_STAT_DUMP_BUSY 1)

/-- FAIL_DUMP. -/
def execFailDump (u : Sub) (s : State) : Host.Outcome State Fault Refusal := done s (s.atF u).doFailDump

/-- Bytes of the VC4 allocation in force: the reserve and the records that the planner charges to VC4 (R38, R126, R280). [DEDUCED, log 30, unsafe] -/
def State.vc4Alloc (s : State) : Nat :=
  3328 + (if modeDrives s.mode then 84 * s.seq.fail.fwdMax else 0)
    + (if modeCompares s.mode && (List.range 128).any (fun p => s.is (R.CMP_P_CTRL_EN p)) then 84 * s.get R.CMP_CTRL_FWD_MAX else 0)

/-- Send as many records of the dump as fit in what remains of the tick's VC4 allocation (R126). -/
def State.dumpSend : Nat → State → State
  | 0, s => s
  | n + 1, s =>
    match s.seq.fail.dump with
    | [] => s
    | r :: rs =>
      if s.link.vc4Tick + 84 ≤ s.vc4Alloc then
        let s1 := s.setFail { s.seq.fail with dump := rs }
        (s1.sendFH 0x41 4 r.t64 ({ r with flags := r.flags ||| 8 } : FailRec).bytes).dumpSend n
      else s

/-- Forwarding of the tick (R126): up to the limit in force as XM_FAIL, the rest counts in SEQ_FAIL_UNFWD. -/
def State.failForward (s : State) : State :=
  let f := s.seq.fail
  let s1 := s.setFail { f with fwd := [] }
  let s2 := (f.fwd.take f.fwdMax).foldl (fun t r => t.sendFH 0x41 4 r.t64 r.bytes) s1
  let n := f.fwd.length - f.fwdMax
  if n = 0 then s2 else (s2.satCount R.SEQ_FAIL_UNFWD 32 n R.SEQ_FAIL_EVT_SATURATED).1

/-- The last dumped record has been sent (R126). -/
def State.doDumpDone (s : State) : State :=
  if s.is R.SEQ_FAIL_STAT_DUMP_BUSY ∧ s.seq.fail.dump = [] then
    (s.set R.SEQ_FAIL_STAT_DUMP_BUSY 0).failEvt R.SEQ_FAIL_EVT_DUMP_DONE 0x0101
  else s

/-- DUMP_DONE: what remains of the tick's allocation takes dumped records; after the last the dump ends. -/
def execDumpDone (u : Sub) (s : State) : Host.Outcome State Fault Refusal :=
  let s1 := s.atF u
  done s ((s1.dumpSend s1.seq.fail.dump.length).doDumpDone)

/-- A write that changes FWD_MAX (R126): submitted to the planner; refused, it returns to the value in force. -/
def State.doFwdMax (s : State) (n : Nat) : State :=
  s.ifOn R.SEQ_FAIL_CTRL (fun s =>
    if s.get R.SEQ_FAIL_CTRL_FWD_MAX = n then s
    else
      let r := s.submit (s.set R.SEQ_FAIL_CTRL_FWD_MAX n) [.fwdMax]
      if r.2 then r.1 else r.1.set R.SEQ_FAIL_CTRL_FWD_MAX r.1.seq.fail.fwdMax)

/-- FWD_MAX_WRITE. -/
def execFwdMaxWrite (u : Sub) (n : Fin 256) (s : State) : Host.Outcome State Fault Refusal := done s ((s.atF u).doFwdMax n)

/-- A write of 1 to SEQ_FAIL_CTRL.CLR_STATS (R131). -/
def State.doFailClrStats (s : State) : State := s.ifOn R.SEQ_FAIL_CTRL (fun s => s.put R.SEQ_FAIL_UNFWD 0)

/-- SEQ_FAIL_CLR_STATS. -/
def execSeqFailClrStats (s : State) : Host.Outcome State Fault Refusal := done s s.doFailClrStats

end Sys2Proof.Machine
end

