-- ==== Sys2Proof/Machine/SeqOps.lean ====
section
/-! DEFINITION. What the sequencer's commands share (R132–R156): timing sets in force, the resident window, the pin pipeline, halting and pausing,
the loop and call stacks, the flags and the step requests. -/

namespace Sys2Proof.Machine

/-! ### Timing registers (R95, R98) -/

/-- A timing register's word for a vector that starts at an instant: a write applies to vectors that start at least 64 cycles after it. -/
def State.tsAt (s : State) (a start : Nat) : Word :=
  match s.seq.tsOld.find? (fun x => x.1 == a && decide (start < x.2.2)) with
  | some x => x.2.1
  | none => s.rd a

/-- A timing register is written: the value that it had holds for 64 cycles; values whose time has passed are dropped. -/
def State.tsWrite (s : State) (a : Nat) (v : Word) : State :=
  let keep := s.seq.tsOld.filter (fun x => decide (s.fU < x.2.2))
  ({ s with seq := { s.seq with tsOld := keep ++ [(a, s.rd a, s.fU + lead64)] } }).wr a v

/-- Period in units of a timing set for a vector that starts at an instant. -/
def State.periodAt (s : State) (k start : Nat) : Nat := (s.tsAt (R.SEQ_PERIOD k) start).toNat + 1

/-- The timing set of a channel for a vector that starts at an instant (R96, R100, R109). -/
def State.tsetAt (s : State) (p k start : Nat) : TSet :=
  let e (a : Nat) : Nat := (s.tsAt a start).toNat
  let mode := s.tsAt (R.PIN_TS_MODE p k) start
  { don := e (R.PIN_TS_DON p k), ddata := e (R.PIN_TS_DDATA p k), dret := e (R.PIN_TS_DRET p k), doff := e (R.PIN_TS_DOFF p k),
    copen := e (R.PIN_TS_COPEN p k), cclose := e (R.PIN_TS_CCLOSE p k), fmt := fieldOf mode 0 4, window := mode.getLsbD 4,
    periodM1 := (s.tsAt (R.SEQ_PERIOD k) start).toNat }

/-! ### Vector addresses and the resident window (R133, R150) -/

/-- Addresses are modulo 2^40. -/
def addr40 (a : Nat) : Nat := a % 2 ^ 40

/-- The successor of an address. -/
def succAddr (a : Nat) : Nat := addr40 (a + 1)

/-- Segment and index of an address. -/
def segOf (a : Nat) : Nat := a / 65536
def idxOf (a : Nat) : Nat := a % 65536

/-- Frame of a segment in the window in force. -/
def State.frameOf (s : State) (seg : Nat) : Nat := s.seq.winBase + (if s.seq.winCount = 0 then 0 else seg % s.seq.winCount)

/-- TAG and FILL of a frame that has taken a refill since WIN_APPLY. -/
def State.frameInfo (s : State) (f : Nat) : Option (Nat × Nat) := (s.seq.frames.find? (fun x => x.1 == f)).map Prod.snd

/-- The address is resident. -/
def State.resident (s : State) (a : Nat) : Bool :=
  match s.frameInfo (s.frameOf (segOf a)) with
  | some (tag, fill) => tag == segOf a && decide (idxOf a < fill)
  | none => false

/-- Place of an address in vector memory. -/
def State.vmemKey (s : State) (a : Nat) : Nat := s.frameOf (segOf a) * 65536 + idxOf a

/-- The vector held at a place; one never written reads as zeros. -/
def vmemFind : List (Nat × Vec) → Nat → Option Vec
  | [], _ => none
  | (b, v) :: r, a => if a = b then some v else if a < b then none else vmemFind r a

/-- Vector memory with a vector written. -/
def vmemSet : List (Nat × Vec) → Nat → Vec → List (Nat × Vec)
  | [], a, v => [(a, v)]
  | (b, w) :: r, a, v => if a = b then (a, v) :: r else if a < b then (a, v) :: (b, w) :: r else (b, w) :: vmemSet r a v

/-- The vector at a resident address. -/
def State.fetchVec (s : State) (a : Nat) : Option Vec :=
  if s.resident a then some ((vmemFind s.seq.vmem (s.vmemKey a)).getD ⟨0, 0, 0, 0, 0, 0⟩) else none

/-- The vector in 144 bytes (R132). -/
def parseVec (b : List Byte) : Vec :=
  { chars := leAt b 0 128, opcode := leAt b 128 1, tset := leAt b 129 1, opa := leAt b 130 2, opb := leAt b 132 4, opc := leAt b 136 8 }

/-! ### The pin pipeline (R135, R136, R143) -/

/-- 192 vector-clock cycles in units. -/
def lead192 : Nat := 192 * 256

/-- First instant with a cycle of the tick and fraction 0 that is not earlier than `t` (R143). -/
def alignUp (t c : Nat) : Nat :=
  let a := t / unitsPerTick * unitsPerTick + (if 3999 < c then 0 else c) * 256
  if t ≤ a then a else a + unitsPerTick

/-- Start of an instance whose predecessor ends at `prev`. -/
def instStart (prev : Nat) (i : Inst) : Nat :=
  let base := match i.startAt with
    | some t => max t prev
    | none => prev
  match i.align with
  | some c => alignUp base c
  | none => base

/-- End of the last instance of the pipeline. -/
def State.pipeEnd (s : State) : Nat :=
  s.seq.pipe.foldl (fun e i => instStart e i + i.reps * s.periodAt i.tset (instStart e i)) s.seq.endAt

/-- The window in which an instance enters the pipeline is open (R135). -/
def State.windowOpen (s : State) : Bool := max s.pipeEnd (s.seq.startAt.getD 0) ≤ s.fU + lead192

/-- Change the sequencer's state. -/
def State.setSeq (s : State) (q : SeqSt) : State := { s with seq := q }

/-- STEP issues one instance and pauses again (R147). -/
def State.afterStep (s : State) : State :=
  if s.seq.stepping ∧ !s.is R.SEQ_STAT_CUST_RUN then s.setSeq { s.seq with stepping := false, ending := some (seqPaused, 0) } else s

/-- Issue instances (R135, R136): they enter the pipeline with the flag changes and step requests that wait; under STEP only the first. -/
def State.issue (s : State) (i : Inst) : State :=
  let q := s.seq
  let n := if q.stepping then min 1 i.reps else i.reps
  let start := match q.startAt with
    | some t => some t
    | none => if q.fresh then some (max ((s.fU / 256 + 64) * 256) ((s.upd.holdTo.getD 0) * unitsPerTick)) else none
  let i1 := { i with reps := n, startAt := start, resumed := q.resumed, fset := (q.pendSet ||| i.fset), fclr := (q.pendClr ||| i.fclr),
                     gstep := q.pendStep ||| i.gstep }
  let q1 := { q with pipe := q.pipe ++ [i1], fresh := false, resumed := false, startAt := none, pendSet := 0, pendClr := 0, pendStep := 0,
                     issued := (q.issued + n) % 2 ^ 32, left := i.reps - n, rep := i.rep0 + n }
  let s1 := ((s.setSeq q1).set R.SEQ_STAT_BUSY 1).set R.SEQ_STAT_OVERDRAFT 0
  s1.afterStep

/-! ### Halting and pausing (R144–R149, R166, R195) -/

/-- SEQ_VADDR in HALTED: the instruction with which RESUME continues (R149): the current one while it still repeats. -/
def State.resumeAddr (s : State) : Nat :=
  if s.seq.left ≠ 0 ∨ s.seq.inWait ∨ s.seq.matching ∨ s.get R.SEQ_STAT_RSTR_STATE = 1 then s.val64 R.SEQ_VADDR_LO else s.seq.next

/-- The channels that are enabled enter drive-off (R195). -/
def State.enabledOff (s : State) : State :=
  (s.seq.pins.filter (fun x => s.is (R.PIN_CTRL_EN x.1))).foldl (fun t x => t.driverOff x.1) s

/-- The pipeline has run out: the sequencer enters the state that was ordered. -/
def State.seqArrive (s : State) (st cause : Nat) : State :=
  if st = seqPaused then ((s.setSeq { s.seq with ending := none, fresh := true }).set R.SEQ_STAT_STATE seqPaused).set R.SEQ_EVT_PAUSED 1
  else
    let a := s.resumeAddr
    let s1 := if cause = 0x0F ∨ cause = 0x12 then s.enabledOff else s
    let s2 := (s1.put64 R.SEQ_VADDR_LO a).set R.SEQ_STAT_OVERDRAFT 0
    let q := { s2.seq with ending := none, stopReq := none, stepping := false, left := 0, inWait := false, matching := false, results := [],
                           next := if s.get R.SEQ_STAT_RSTR_STATE = 1 then s2.seq.next else a, fresh := true, startAt := none, stalled := false }
    (s2.setSeq q).seqEnterHalt cause

/-- What has come about by now: BUSY and WAITING, channels that stop, and the state that was ordered once the last instance has ended. -/
def State.seqSettle (s : State) : State :=
  let ran := decide (s.seq.endAt ≤ s.fU)
  let s1 := if s.seq.pipe = [] ∧ ran then (s.pinSettle s.fU).set R.SEQ_STAT_BUSY 0 else s.pinSettle s.fU
  let wait := s1.seq.inWait || (ran && (s1.seq.pipe.head?.any (fun i => i.align.isSome)))
  let s2 := s1.set R.SEQ_STAT_WAITING (if wait then 1 else 0)
  match s2.seq.ending with
  | some (st, cause) => if s2.seq.pipe = [] ∧ ran then s2.seqArrive st cause else s2
  | none => s2

/-- The field half reaches an instant of the tick, and the sequencer's state follows. -/
def State.atSeq (s : State) (u : Sub) : State := (s.atF u).seqSettle

/-- The sequencer is to halt or pause: issue stops, issued instances run in full (R147, R166). -/
def State.seqEnd (s : State) (st cause : Nat) : State := (s.setSeq { s.seq with ending := some (st, cause) }).seqSettle

/-- Instances of the last entry of the pipeline that have entered it by now: the others are cut and come again when issue continues
(R146: requests are sampled before each ISSUE). -/
def State.cutPipe (s : State) : State :=
  match s.seq.pipe.reverse with
  | [] => s
  | i :: r =>
    let before := (s.setSeq { s.seq with pipe := r.reverse }).pipeEnd
    let t0 := instStart before i
    let period := s.periodAt i.tset t0
    let entered := if s.fU + lead192 < t0 then 0 else (s.fU + lead192 - t0) / period + 1
    let n := min i.reps (max entered (if i.rep0 = 0 then 1 else 0))
    if n = i.reps then s
    else
      s.setSeq { s.seq with pipe := r.reverse ++ (if n = 0 then [] else [{ i with reps := n }]), left := i.reps - n, rep := i.rep0 + n,
                            issued := s.seq.issued - (i.reps - n) }

/-! ### Stacks (R138–R140) -/

/-- A stack error (R140): no instance, a halt with the stack's cause, and source 0x43. The instruction is the one that RESUME would name. -/
def State.stackError (s : State) (cause : Nat) : State :=
  let a := s.val64 R.SEQ_VADDR_LO
  let s1 := (s.setSeq { s.seq with next := a, left := 0, inWait := false, matching := false, stalled := false }).set R.SEQ_STAT_CUST_RUN 0
  (s1.fieldFault 0x43 cause).seqEnd seqHalted cause

/-- The top loop frame, the last of the list. -/
def State.topLoop (s : State) : Option LoopFrame := s.seq.loops.getLast?

/-- Index of the top loop frame, 0 with none (R138). -/
def State.loopIdx (s : State) : Nat := (s.topLoop.map LoopFrame.idx).getD 0

/-- The loop decision (R138): the state with the next instruction set. -/
def State.loopDecide (s : State) (f : LoopFrame) : State :=
  let rest := s.seq.loops.dropLast
  if 1 < f.rem then
    s.setSeq { s.seq with loops := rest ++ [{ f with rem := f.rem - 1, idx := (f.idx + 1) % 2 ^ 32 }], next := f.addr, byLoop := true }
  else s.setSeq { s.seq with loops := rest }

/-! ### Flags and step requests (R137, R238, R183) -/

/-- The flags change at an instant: each is a source of the combiners. -/
def State.setFlags (s : State) (fset fclr at_ : Nat) : State :=
  let old := s.val R.SEQ_FLAGS
  let new := (Nat.land old (255 - fclr % 256)) ||| (fset % 256)
  (List.range 8).foldl (fun t n =>
    if old.testBit n = new.testBit n then t
    else
      let t1 := t.sourceLevel (0x80 + n) (at_ * 256) (new.testBit n)
      if new.testBit n then t1.sourceEvent (0x80 + n) (at_ * 256) else t1) (s.put R.SEQ_FLAGS new)

/-- A trigger reaches a generator whose entry in use waits for it: the first at or after the entry's own step instant counts (R183). -/
def State.genTrigger (s : State) (g sel at_ : Nat) : State :=
  let x := s.gen g
  match x.cur with
  | some e =>
    if (s.get (R.GEN_STAT_STATE g) = 2 ∨ s.get (R.GEN_STAT_STATE g) = 3) ∧ leAt e 0 1 = 1 ∧ leAt e 1 1 % 2 = 1 ∧ leAt e 2 1 % 32 = sel ∧ x.stepAt ≤ at_ ∧ x.trigAt = none then
      s.setGen g { x with trigAt := some at_ }
    else s
  | none => s

/-- A GEN_STEP request (R137, R183). -/
def State.genStepRequest (s : State) (mask at_ : Nat) : State :=
  (bitsOf 48 mask).foldl (fun t g => t.genTrigger g 16 at_) s

/-! ### Dispatch (R134, R146) -/

/-- No request waits and the next instruction may be dispatched now: RUNNING, no routine or repetition in progress, the issue window open. -/
def State.atDispatch (s : State) : Bool :=
  s.seqState == seqRunning && s.seq.ending.isNone && !s.is R.SEQ_STAT_CUST_RUN && s.seq.svc.isEmpty && s.seq.stopReq.isNone
    && !s.seq.jumpReq && (s.seq.stepping || !s.is R.SEQ_CTRL_PAUSE) && !s.is R.USTORE_STAT_CUST_PENDING
    && s.windowOpen

/-- A new instruction may be dispatched: nothing of the preceding one remains. -/
def State.canDispatch (s : State) : Bool := s.atDispatch && s.seq.left == 0 && !s.seq.inWait && !s.seq.matching

/-- The instruction that is dispatched now, when it has an opcode that `ok` takes. -/
def State.dispatchVec (s : State) (ok : Nat → Bool) : Option Vec :=
  if s.canDispatch then (s.fetchVec s.seq.next).filter (fun v => ok v.opcode) else none

/-- Dispatch: SEQ_VADDR reads the instruction, NEXT is the successor, what a routine left is gone (R160, R169). -/
def State.dispatch (s : State) (v : Vec) : State :=
  let a := s.seq.next
  let q := { s.seq with cur := some v, next := succAddr a, issued := 0, effSet := 0, effClr := 0, effStep := false, effEvents := 0, rep := 0 }
  ((s.put64 R.SEQ_VADDR_LO a).set R.SEQ_STAT_RSTR_STATE 0).setSeq q

/-- The 144 bytes of a vector. -/
def vecBytes (v : Vec) : List Byte :=
  leBytes 128 v.chars ++ leBytes 1 v.opcode ++ leBytes 1 v.tset ++ leBytes 2 v.opa ++ leBytes 4 v.opb ++ leBytes 8 v.opc

/-- One instance of the current instruction. -/
def State.plainInst (s : State) (v : Vec) : Inst :=
  { addr := s.val64 R.SEQ_VADDR_LO, chars := v.chars, tset := v.tset % 64, loopIdx := s.loopIdx }

/-- The bytes of a tunnel response: TAG, COUNT, STATUS and data (R45). -/
def rspBytes (tag status : Nat) (ws : List Word) : List Byte :=
  leBytes 2 tag ++ leBytes 2 ws.length ++ leBytes 4 status ++ (ws.map (fun w => leBytes 4 w.toNat)).flatten

/-- Send a tunnel response (R45). -/
def State.sendRsp (s : State) (tag status : Nat) (ws : List Word) : State := s.sendFH 0x12 1 s.fNow.pack (rspBytes tag status ws)

end Sys2Proof.Machine
end

