-- ==== Sys2Proof/Machine/Tally.lean ====
section
/-! DEFINITION. Tally (R257–R265): histograms and persistence maps, their merges, snapshots and stops. -/

namespace Sys2Proof.Machine

/-! ### Bins -/

/-- Add 1 to a bin of a list with rising bins; answers whether the bin is one that held `full − 1` before. -/
def binAdd (full b : Nat) : List (Nat × Nat) → List (Nat × Nat) × Bool
  | [] => ([(b, 1)], decide (full ≤ 1))
  | (k, n) :: r =>
    if b = k then ((k, min full (n + 1)) :: r, decide (n < full ∧ full ≤ n + 1))
    else if b < k then ((b, 1) :: (k, n) :: r, decide (full ≤ 1))
    else let q := binAdd full b r; ((k, n) :: q.1, q.2)

/-- Add 1 to each of several bins; answers how many reached the maximum. -/
def binsAdd (full : Nat) (l : List (Nat × Nat)) (bs : List Nat) : List (Nat × Nat) × Nat :=
  bs.foldl (fun acc b => let q := binAdd full b acc.1; (q.1, acc.2 + if q.2 then 1 else 0)) (l, 0)

/-- The count of a bin. -/
def binCount (l : List (Nat × Nat)) (b : Nat) : Nat := ((l.find? (fun x => x.1 == b)).map Prod.snd).getD 0

/-- The histogram bin of a code: 4,096 counts underflow and 4,097 overflow (R258). -/
def State.histBin (s : State) (h : Nat) (c : Int) : Nat :=
  let b := (c - signedOf 16 (s.get (R.TLY_H_CTRL_BIN_LO h))) / (2 ^ s.get (R.TLY_H_CTRL_SHIFT h) : Nat)
  if b < 0 then 4096 else if 4095 < b then 4097 else b.toNat

/-- The amplitude bin of a code; none outside 0–511 (R259). -/
def State.mapBin (s : State) (m : Nat) (c : Int) : Option Nat :=
  let a := (c - signedOf 16 (s.val (R.TLY_M_AMP m))) / (2 ^ s.get (R.TLY_M_CTRL_AMP_SHIFT m) : Nat)
  if 0 ≤ a ∧ a ≤ 511 then some a.toNat else none

/-- The time bin of an instant in a sweep; none outside 0–1,023 (R259). -/
def State.timeBin (s : State) (m stamp t : Nat) : Option Nat :=
  let i := ((t : Int) - stamp - s.sval (R.TLY_M_TOFS m)) / (max 1 (s.val (R.TLY_M_TBIN m)) : Nat)
  if 0 ≤ i ∧ i ≤ 1023 then some i.toNat else none

/-- End of a sweep, in units. -/
def State.sweepEnd (s : State) (m stamp : Nat) : Int := (stamp : Int) + s.sval (R.TLY_M_TOFS m) + 1024 * max 1 (s.val (R.TLY_M_TBIN m))

/-! ### Units by number: a histogram h, or a map as 0x100 + m -/

/-- The event instance of a unit (R263). -/
def unitNo : TallyUnit → Nat
  | .hist h => h
  | .map m => 0x100 + m

/-- The unit's CTRL register. -/
def unitCtrl : TallyUnit → Nat
  | .hist h => R.TLY_H_CTRL h
  | .map m => R.TLY_M_CTRL m

/-- The unit's EN. -/
def unitEn : TallyUnit → Fld
  | .hist h => R.TLY_H_CTRL_EN h
  | .map m => R.TLY_M_CTRL_EN m

/-- The lane that a unit names. -/
def State.unitLane (s : State) : TallyUnit → Nat
  | .hist h => h
  | .map m => s.get (R.TLY_M_CTRL_LANE m)

/-- Every unit. -/
def allUnits : List TallyUnit := (List.finRange 48).map .hist ++ (List.finRange 8).map .map

/-- A refusal of Tally (R263). -/
def State.tlyRefuse (s : State) (t : TallyUnit) (reason : Nat) : State :=
  (s.set R.TLY_STAT_REFUSE reason).tlyEvt R.TLY_EVT_REFUSED 0x0003 (unitNo t) reason

/-- The words that CTRL stores beside EN: SHIFT above 4 is stored as 4; CLEAR is no field that stays. -/
def unitWord (t : TallyUnit) (v : Word) : Word :=
  match t with
  | .hist _ => let w := v &&& 0x700FFFFF#32; withField w 16 4 (min 4 (fieldOf w 16 4))
  | .map _ => v &&& 0x703F1F07#32

/-- The lane has a negotiated A8 and is no fusion member (R263 reason 4). -/
def State.laneFree (s : State) (l : Nat) : Bool := decide (l < 48) && s.is (R.LANE_STAT_PRESENT l) && !s.is (R.LANE_STAT_MEMBER l)

/-- TOFS and the sweep length are in range (R259). -/
def State.sweepOk (s : State) (m : Nat) : Bool :=
  decide (-10485760 ≤ s.sval (R.TLY_M_TOFS m) ∧ 1024 * max 1 (s.val (R.TLY_M_TBIN m)) ≤ 2 ^ 32 - 1)

/-- The unit's stop is in progress (R87). -/
def State.unitBusy (s : State) : TallyUnit → Bool
  | .hist h => (s.hist h).stopping
  | .map m => (s.map m).stopping

/-- Setting a unit's EN (R265): the checks of R263, then the planner. -/
def State.doTallyEnable (s : State) (t : TallyUnit) (v : Word) : State :=
  s.ifOn (unitCtrl t) (fun s =>
    if s.is (unitEn t) then s
    else
      let s1 := s.wr (unitCtrl t) (unitWord t v)
      let range := match t with
        | .hist _ => true
        | .map m => s1.sweepOk m
      if s1.unitBusy t || !modeStreams s1.mode then s1
      else if !s1.laneFree (s1.unitLane t) then s1.tlyRefuse t 4
      else if !range then s1.tlyRefuse t 5
      else
        let r := s1.submit (s1.set (unitEn t) 1) [match t with | .hist h => .tallyH h | .map m => .tallyM m]
        if r.2 then r.1 else r.1.tlyRefuse t 1)

/-- TALLY_ENABLE. -/
def execTallyEnable (u : Sub) (t : TallyUnit) (v : Word) (s : State) : Host.Outcome State Fault Refusal :=
  done s ((s.atF u).doTallyEnable t v)

/-- The unit counts from its plan boundary (R265). -/
def State.tallyStart (s : State) (t : TallyUnit) : State :=
  if s.is (unitEn t) then
    match t with
    | .hist h => s.setHist h { s.hist h with on := true, from_ := s.fTickU, buf := [], held := none, asked := false, skipped := false, gap := false }
    | .map m =>
      let x := { s.map m with on := true, from_ := s.fTickU, buf := [], old := [], sweeps := [] }
      s.setMap m { x with held := none, asked := false, skipped := false, gap := false }
  else s

/-- Clearing EN (R257): the final snapshot follows at the next tick boundary. -/
def State.tallyStop (s : State) (t : TallyUnit) : State :=
  if s.is (unitEn t) then
    let s1 := s.releaseBudget (s.set (unitEn t) 0)
    match t with
    | .hist h => if (s1.hist h).on then s1.setHist h { s1.hist h with stopping := true } else s1
    | .map m => if (s1.map m).on then s1.setMap m { s1.map m with stopping := true } else s1
  else s

/-- Every unit stops, as on entry to SEALED or SERVICE (R257). -/
def State.tallyStopAll (s : State) : State := allUnits.foldl State.tallyStop s

/-- CLEAR (R262): bins and counters of the unit to 0, and SATURATED armed. -/
def State.doTallyClear (s : State) (t : TallyUnit) : State :=
  s.ifOn (unitCtrl t) (fun s =>
    match t with
    | .hist h =>
      (s.putAll [R.TLY_H_SATBINS h, R.TLY_H_FED_LO h, R.TLY_H_FED_HI h, R.TLY_H_UNSET h] 0).setHist h { s.hist h with bins := [], satDone := false }
    | .map m =>
      (s.putAll [R.TLY_M_SWEEPS m, R.TLY_M_MISS m, R.TLY_M_OUTSIDE m, R.TLY_M_SATBINS m] 0).setMap m { s.map m with bins := [], satDone := false })

/-- TALLY_CLEAR. -/
def execTallyClear (u : Sub) (t : TallyUnit) (s : State) : Host.Outcome State Fault Refusal := done s ((s.atF u).doTallyClear t)

/-- TLY_CTRL.SNAP (R260): every enabled unit takes a snapshot at the next tick boundary. -/
def State.doTallySnap (s : State) : State :=
  s.ifOn R.TLY_CTRL (fun s => allUnits.foldl (fun u t =>
    match t with
    | .hist h => if (u.hist h).on then u.setHist h { u.hist h with asked := true } else u
    | .map m => if (u.map m).on then u.setMap m { u.map m with asked := true } else u) s)

/-- TALLY_SNAP. -/
def execTallySnap (u : Sub) (s : State) : Host.Outcome State Fault Refusal := done s (s.atF u).doTallySnap

/-! ### Snapshots (R260) -/

/-- The tick boundary now is a snapshot instant for a period. -/
def State.snapInstant (s : State) (period : Nat) : Bool := decide (period ≠ 0) && decide (s.time.fTick % period = 0)

/-- A unit takes its snapshot at the boundary now, or skips it while one is held; a final one waits for the held one instead. -/
def State.doTallySnapshot (s : State) (t : TallyUnit) : State :=
  if s.time.fUnit ≠ 0 then s
  else
    match t with
    | .hist h =>
      let x := s.hist h
      if x.on && decide (x.snapAt ≠ s.fTickU) && (x.asked || x.stopping || s.snapInstant (s.get ⟨R.TLY_H_SNAP h, 0, 16⟩)) then
        let y := { x with asked := false, snapAt := s.fTickU, snapNo := (x.snapNo + 1) % 2 ^ 32 }
        if x.held.isSome then (s.setHist h { y with skipped := true }).set R.TLY_EVT_SKIPPED 1
        else s.setHist h { y with held := some ⟨s.fTickU, x.snapNo, x.gap, x.skipped, x.stopping⟩, skipped := false, gap := false }
      else s
    | .map m =>
      let x := s.map m
      if x.on && decide (x.snapAt ≠ s.fTickU) && (x.asked || x.stopping || s.snapInstant (s.get ⟨R.TLY_M_SNAP m, 0, 16⟩)) then
        let y := { x with asked := false, snapAt := s.fTickU, snapNo := (x.snapNo + 1) % 2 ^ 32 }
        if x.held.isSome then (s.setMap m { y with skipped := true }).set R.TLY_EVT_SKIPPED 1
        else s.setMap m { y with held := some ⟨s.fTickU, x.snapNo, x.gap, x.skipped, x.stopping⟩, skipped := false, gap := false }
      else s

/-- TALLY_SNAPSHOT. -/
def execTallySnapshot (t : TallyUnit) (s : State) : Host.Outcome State Fault Refusal := done s (s.doTallySnapshot t)

/-- The header of an XM_TALLY (R261). -/
def tallyHeader (unit flags number lane no t64 first count a b : Nat) : List Byte :=
  leBytes 1 unit ++ leBytes 1 flags ++ leBytes 1 number ++ leBytes 1 lane ++ leBytes 4 no ++ leBytes 8 t64 ++ leBytes 4 first ++ leBytes 4 count
    ++ leBytes 4 a ++ leBytes 4 b

/-- TFLAGS of a snapshot. -/
def tallyFlags (mode sat : Nat) (k : HeldSnap) : Nat :=
  mode % 2 + (if sat = 0 then 0 else 2) + (if k.skipped then 4 else 0) + (if k.gap then 8 else 0)

/-- The entries of bins `0 … n − 1` from bin `b0` on, each of `esz` bytes. -/
def binBytes (esz n : Nat) (l : List (Nat × Nat)) (b0 : Nat) : List Byte :=
  let part := l.filter (fun x => decide (b0 ≤ x.1 ∧ x.1 < b0 + n))
  ((List.range n).map (fun i => leBytes esz (binCount part (b0 + i)))).flatten

/-- Send the held snapshot of a histogram: one message of 4,098 entries. -/
def State.histSend (s : State) (h lane : Nat) (k : HeldSnap) : State :=
  let x := s.hist h
  let sat := s.val (R.TLY_H_SATBINS h)
  let mode := s.get (R.TLY_H_CTRL_MODE h)
  let pl := tallyHeader 1 (tallyFlags mode sat k) h lane k.no (t64At k.at_) 0 4098 sat (s.val (R.TLY_H_UNSET h)) ++ binBytes 6 4098 x.bins 0
  let s1 := s.sendFH 0x31 3 (t64At k.at_) pl
  let y := { x with held := none, satDone := false, bins := if mode = 1 then [] else x.bins }
  let s2 := (if mode = 1 then s1.put (R.TLY_H_SATBINS h) 0 else s1).setHist h y
  let s3 := s2.tlyEvt R.TLY_EVT_SNAP_DONE 0x0001 h k.no
  if k.final then (s3.setHist h { s3.hist h with on := false, stopping := false, buf := [] }).stopEntry 0x17 h (t64At k.at_) 0 0 else s3

/-- Send the held snapshot of a map: 64 messages of 16 time bins, SOM on the first and EOM on the last. -/
def State.mapSend (s : State) (m : Nat) (k : HeldSnap) : State :=
  let x := s.map m
  let sat := s.val (R.TLY_M_SATBINS m)
  let mode := s.get (R.TLY_M_CTRL_MODE m)
  let lane := s.get (R.TLY_M_CTRL_LANE m)
  let one (t : State) (i : Nat) : State :=
    let pl := tallyHeader 2 (tallyFlags mode sat k) m lane k.no (t64At k.at_) (16 * i) 16 (s.val (R.TLY_M_SWEEPS m)) (s.val (R.TLY_M_OUTSIDE m))
      ++ binBytes 4 8192 x.bins (8192 * i)
    t.sendFH 0x31 3 (t64At k.at_) pl 0 ((if i = 0 then 0 else flagSOM) + (if i = 63 then 0 else flagEOM))
  let s1 := (List.range 64).foldl one s
  let y := { x with held := none, satDone := false, bins := if mode = 1 then [] else x.bins }
  let s2 := (if mode = 1 then s1.put (R.TLY_M_SATBINS m) 0 else s1).setMap m y
  let s3 := s2.tlyEvt R.TLY_EVT_SNAP_DONE 0x0001 (0x100 + m) k.no
  if k.final then
    (s3.setMap m { s3.map m with on := false, stopping := false, buf := [], old := [], sweeps := [] }).stopEntry 0x17 (0x100 + m) (t64At k.at_) 0 0
  else s3

/-! ### Merges (R62, R258, R259, R262) -/

/-- Bins reached their maximum: SATBINS, and SATURATED at most once between two snapshots. -/
def State.binsFull (s : State) (unit satReg n : Nat) (already : Bool) : State :=
  if n = 0 then s
  else
    let s1 := s.put satReg (s.val satReg + n)
    if already then s1 else s1.tlyEvt R.TLY_EVT_SATURATED 0x0002 unit (s1.val satReg)

/-- A histogram merges samples. -/
def State.histMerge (s : State) (h : Nat) (xs : List Smp) : State :=
  if xs.isEmpty then s
  else
    let x := s.hist h
    let r := binsAdd (2 ^ 48 - 1) x.bins ((settled xs).map (fun c => s.histBin h c))
    let s1 := s.setHist h { x with bins := r.1, satDone := x.satDone || decide (r.2 ≠ 0) }
    let s2 := (s1.wrapCount64 (R.TLY_H_FED_LO h) xs.length).tlyCount h (R.TLY_H_UNSET h) (xs.filter (fun y => !y.ok)).length
    s2.binsFull h (R.TLY_H_SATBINS h) r.2 x.satDone

/-- Bins of samples in sweeps, and the samples of a sweep that lie outside the amplitude bins. -/
def State.sweepBins (s : State) (m : Nat) (ws : List Sweep) (xs : List Smp) : List (Option Nat) :=
  ((xs.filter (fun x => x.ok)).map (fun x => ws.filterMap (fun w =>
    (s.timeBin m w.stamp x.t).map (fun i => (s.mapBin m x.c).map (fun a => 512 * i + a))))).flatten

/-- A map merges samples: new ones into every sweep, earlier ones into sweeps that began since. -/
def State.mapMerge (s : State) (m : Nat) (old xs : List Smp) : State :=
  let x := s.map m
  let bs := s.sweepBins m (x.sweeps.filter (fun w => w.fresh)) old ++ s.sweepBins m x.sweeps xs
  let r := binsAdd (2 ^ 32 - 1) x.bins (bs.filterMap (fun b => b))
  let s1 := s.setMap m { x with bins := r.1, satDone := x.satDone || decide (r.2 ≠ 0) }
  let s2 := s1.tlyCount (0x100 + m) (R.TLY_M_OUTSIDE m) (bs.filter (fun b => b.isNone)).length
  s2.binsFull (0x100 + m) (R.TLY_M_SATBINS m) r.2 x.satDone

/-- Every sample of a lane's stream that is stamped before an instant has been taken: those of RAW and DEC at once, those of FILT when their block
is composed. -/
def State.takenBefore (s : State) (l src at_ : Nat) : Bool :=
  src ≠ 2 || !s.laneConverts l || decide (at_ ≤ (s.lane l).filtNext * unitsPerTick)

/-- The lead of the group that a lane belongs to (R209). -/
def State.groupLead (s : State) (l : Nat) : Nat :=
  if !s.is (R.LANE_STAT_MEMBER l) then l
  else if s.get (R.LANE_ACTIVE_FUSE (l / 4 * 4)) = 2 then l / 4 * 4
  else l / 2 * 2

/-- The merge of a histogram: up to a held snapshot's instant, the snapshot once its last sample is in, and the rest. -/
def State.histTurn (s : State) (h : Nat) : State :=
  let x := s.hist h
  let lane := s.groupLead h
  if !x.on then s
  else
    let s0 := s.setHist h { x with buf := [] }
    match x.held with
    | none => s0.histMerge h x.buf
    | some k =>
      let s1 := s0.histMerge h (x.buf.filter (fun y => decide (y.t < k.at_)))
      if s1.takenBefore lane (s1.get (R.TLY_H_CTRL_SRC h)) k.at_ then
        let s2 := s1.histSend h lane k
        if k.final then s2 else s2.histMerge h (x.buf.filter (fun y => !decide (y.t < k.at_)))
      else s1.setHist h { s1.hist h with buf := x.buf.filter (fun y => !decide (y.t < k.at_)) }

/-- After a merge, samples that a later sweep may reach are kept, and sweeps that no sample can reach are dropped. -/
def State.mapKeep (s : State) (m : Nat) (all : List Smp) : State :=
  let x := s.map m
  let back := (-(s.sval (R.TLY_M_TOFS m))).toNat + 4 * unitsPerTick
  let keep := all.filter (fun y => decide (s.fU ≤ y.t + back))
  let ws := x.sweeps.filter (fun w => !w.counted || decide ((s.fU : Int) < s.sweepEnd m w.stamp + 32 * unitsPerTick))
  s.setMap m { x with old := if s.sval (R.TLY_M_TOFS m) < 0 then keep else [], sweeps := ws.map (fun w => { w with fresh := false }) }

/-- The merge of a map. -/
def State.mapTurn (s : State) (m : Nat) : State :=
  let x := s.map m
  let lane := s.groupLead (s.get (R.TLY_M_CTRL_LANE m))
  if !x.on then s
  else
    let s0 := s.setMap m { x with buf := [] }
    match x.held with
    | none => (s0.mapMerge m x.old x.buf).mapKeep m (x.old ++ x.buf)
    | some k =>
      let early (ys : List Smp) : List Smp := ys.filter (fun y => decide (y.t < k.at_))
      let late (ys : List Smp) : List Smp := ys.filter (fun y => !decide (y.t < k.at_))
      let s1 := s0.mapMerge m (early x.old) (early x.buf)
      if s1.takenBefore lane (s1.get (R.TLY_M_CTRL_SRC m)) k.at_ then
        let s2 := s1.mapSend m k
        if k.final then s2 else (s2.mapMerge m (late x.old) (late x.buf)).mapKeep m (x.old ++ x.buf)
      else
        let s2 := s1.mapKeep m (x.old ++ early x.buf)
        s2.setMap m { s2.map m with buf := late x.buf }

/-- TALLY_MERGE (R62): at cycle 3,840 every unit merges the counts of the tick, with the samples that have come since. -/
def State.doTallyMerge (s : State) : State :=
  let s1 := (List.range 48).foldl State.histTurn s
  (List.range 8).foldl State.mapTurn s1

/-- TALLY_MERGE. -/
def execTallyMerge (env : List LaneIn) (s : State) : Host.Outcome State Fault Refusal :=
  done s ((s.takeSamples env).atF ⟨3840 * 256, by decide⟩).doTallyMerge

/-! ### Sweeps (R259) -/

/-- A sweep of a map starts at a STAMP; during a sweep it starts nothing and counts in TLY_M_MISS. -/
def State.sweepStart (s : State) (m stamp : Nat) : State :=
  let x := s.map m
  if !x.on then s
  else if x.sweeps.any (fun w => decide ((stamp : Int) < s.sweepEnd m w.stamp)) then s.tlyCount (0x100 + m) (R.TLY_M_MISS m) 1
  else s.setMap m { x with sweeps := x.sweeps ++ [{ stamp := stamp }] }

/-- The tick boundary now starts a sweep of the maps whose TRIG is 16. -/
def State.tickSweeps (s : State) : State :=
  (List.range 8).foldl (fun t m => if t.get (R.TLY_M_CTRL_TRIG m) = 16 then t.sweepStart m t.fTickU else t) s

/-- SWEEP_END: the oldest sweep whose last time bin has passed counts in TLY_M_SWEEPS. -/
def State.doSweepEnd (s : State) (m : Nat) : State :=
  let x := s.map m
  match x.sweeps.find? (fun w => !w.counted && decide (s.sweepEnd m w.stamp ≤ s.fU)) with
  | none => s
  | some w =>
    (s.setMap m { x with sweeps := x.sweeps.map (fun v => if v.stamp = w.stamp then { v with counted := true } else v) }).tlyCount (0x100 + m)
      (R.TLY_M_SWEEPS m) 1

/-- SWEEP_END. -/
def execSweepEnd (u : Sub) (m : Fin 8) (s : State) : Host.Outcome State Fault Refusal := done s ((s.atF u).doSweepEnd m)

end Sys2Proof.Machine
end

