-- ==== Sys2Proof/Machine/Trigger.lean ====
section
/-! DEFINITION. The trigger unit (R231–R244): lane-trigger events, the external inputs, the combiners' firings with holdoff and output levels, and
configuration changes at tick boundaries. -/

namespace Sys2Proof.Machine

/-- LANE_TRIGGER_EVENT (R232): samples reach the triggers, and each event a trigger finds is stamped and on its way to the combiners. -/
def execLaneTriggerEvent (u : Sub) (env : List LaneIn) (s : State) : Host.Outcome State Fault Refusal := done s ((s.takeSamples env).atF u)

/-- The instant now, down to its vector-clock cycle, in 1/256 unit. -/
def State.cycleStamp (s : State) : Nat := s.fU / 256 * 65536

/-- A change of TRIG_IN0–3 (R238): a rising edge is an event stamped to the vector-clock cycle; the level is the input's. -/
def State.doTrigIn (s : State) (i : Nat) (rising : Bool) : State :=
  if !s.domOn (domF 11) then s
  else
    let m := s.acq.trigIn
    let m1 := if rising then m ||| 2 ^ i else (if m.testBit i then m - 2 ^ i else m)
    let s1 := ({ s with acq := { s.acq with trigIn := m1 } }).sourceLevel (0x88 + i) s.cycleStamp rising
    if rising && !m.testBit i then s1.sourceEvent (0x88 + i) s1.cycleStamp else s1

/-- TRIG_IN_EDGE. -/
def execTrigInEdge (u : Sub) (i : Fin 4) (rising : Bool) (s : State) : Host.Outcome State Fault Refusal := done s ((s.atF u).doTrigIn i rising)

/-- HOST_TRIG (R238): a write of 1 to ACQ_CTRL.HOST_TRIG, stamped at its cycle. -/
def execHostTrig (u : Sub) (s : State) : Host.Outcome State Fault Refusal :=
  let s1 := s.atF u
  done s (s1.ifOn R.ACQ_CTRL (fun t => t.sourceEvent 0x8C t.cycleStamp))

/-! ### Levels and qualifiers (R238–R240, R243) -/

/-- The output level of a combiner at an instant in 1/256 unit: it falls LEVEL_CYC cycles after the latest FIRE (R243). -/
def State.combLevelAt (s : State) (c at_ : Nat) : Bool :=
  s.levelAt (0x90 + c) at_ && decide (at_ / 65536 < (s.comb c).levelUntil)

/-- The level of a source as it is presented to a combiner at an instant (R240, R243). -/
def State.presentedLevel (s : State) (c i at_ : Nat) : Bool :=
  let code := (s.comb c).sel i
  if 0x90 ≤ code ∧ code < 0xA0 then s.combLevelAt (code - 0x90) (at_ - 65536)
  else s.levelAt code (at_ - s.inputLat c i * 65536)

/-- Every qualifier reads 1 at an instant (R239). -/
def State.qualified (s : State) (c at_ : Nat) : Bool :=
  let k := s.comb c
  (List.range 4).all (fun i => k.useOf i != 2 || (s.presentedLevel c i at_ != k.inv i))

/-- A firing: FIRE in cycles, and its completing event. -/
structure Firing where
  fire : Nat
  input : Nat
  code : Nat
  stamp : Nat
  deriving DecidableEq, Repr

/-- Everything that a firing of combiner `c` feeds (R240): cascaded combiners, the sequencer's waits, generators, bursts, groups, maps and state
pairs. -/
def State.fireConsumers (s : State) (c : Nat) (f : Firing) : State :=
  let s1 := s.sourceEvent (0x90 + c) f.stamp
  let q := s1.seq
  let s2 := if q.waitFrom.any (fun t => decide (t ≤ f.fire * 256)) then { s1 with seq := { q with fired := q.fired ||| 2 ^ c } } else s1
  let s3 := (List.range 48).foldl (fun t g => t.genTrigger g c (f.fire * 256)) s2
  let s4 := s3.burstFire c
  let s5 := (List.range 4).foldl (fun t n =>
    if t.get (R.ACQ_GRP_CTRL_COMB n) = c then t.groupFire n f.stamp f.input f.code f.fire else t) s4
  let s6 := (List.range 8).foldl (fun t m => if t.get (R.TLY_M_CTRL_TRIG m) = c then t.sweepStart m (f.stamp / 256) else t) s5
  (List.range 128).foldl (fun t p =>
    if t.pairLive p && t.is (R.CMP_P_CFG_SMODE p) && t.get (R.CMP_P_CFG_SCOMB p) == c && t.get (R.CMP_P_CFG_KIND p) == 1 then
      t.setPair p { t.pair p with fires := (t.pair p).fires ++ [((f.stamp / 256 : Nat) : Int)] }
    else t) s6

/-- The combiner fires (R240, R243, R263, R264). -/
def State.fire (s : State) (c : Nat) (f : Firing) : State :=
  let k := s.comb c
  let hold := match k.holdMode with
    | 1 => f.fire + k.hold / 4096 * 4000 + min 3999 (k.hold % 4096)
    | _ => 0
  let k1 := { k with lastFire := some f.fire, levelUntil := f.fire + k.levelCyc, armed := none, holdUntil := hold,
                     holdLeft := if k.holdMode = 2 then k.hold else 0, needRearm := k.holdMode == 3 }
  let s1 := (s.setComb c k1).acqCount (R.ACQ_COMB_FIRES c) 1
  let s2 := (s1.replaceResult (R.ACQ_COMB_LAST_LO c) (R.ACQ_COMB_LAST_GEN c) (t64At (f.stamp / 256))).put (R.ACQ_COMB_LAT c) (s.inputLat c f.input)
  let lv := s2.get R.ACQ_STAT_COMB_LEVEL
  let s3 := (s2.set R.ACQ_STAT_COMB_LEVEL (lv ||| 2 ^ c)).set R.ACQ_EVT_FIRE 1
  let s4 := s3.sourceLevel (0x90 + c) (f.fire * 65536) true
  let s5 := if k.evtEn then
      s4.acqEvt R.ACQ_EVT_FIRE 0x0001 c (t64At (f.stamp / 256)) (f.stamp % 256 + f.input * 256 + f.code * 65536)
    else s4
  s5.fireConsumers c f

/-- Events that do not fire under R241 and R242. -/
def State.held (s : State) (c n : Nat) : State := if n = 0 then s else s.acqCount (R.ACQ_COMB_HELD c) n

/-- Holdoff prevents an event presented at an instant from firing (R242). -/
def CombSt.holds (k : CombSt) (at_ : Nat) : Bool :=
  decide (at_ < k.holdUntil * 65536) || decide (0 < k.holdLeft) || k.needRearm

/-- A completing event meets holdoff: it fires, or it counts in HELD (R242). -/
def State.complete (s : State) (c : Nat) (e : SrcEvt) (cyc : Nat) : State :=
  let k := s.comb c
  if k.holds e.at_ then (s.setComb c { k with holdLeft := k.holdLeft - 1 }).held c 1
  else s.fire c { fire := cyc, input := e.input, code := e.code, stamp := e.stamp }

/-- Of two events of one cycle, the first is that on the lower input, then with the earlier STAMP (R241). -/
def evtBefore (a b : SrcEvt) : Bool := decide (a.input < b.input ∨ (a.input = b.input ∧ a.stamp ≤ b.stamp))

/-- The first event of a list by R241. -/
def firstEvt : List SrcEvt → Option SrcEvt
  | [] => none
  | e :: r => match firstEvt r with
    | some x => if evtBefore e x then some e else some x
    | none => some e

/-- The events presented in one cycle (R239, R241). -/
def State.combCycle (s : State) (c cyc : Nat) (es : List SrcEvt) : State :=
  let ok := es.filter (fun e => s.qualified c e.at_)
  let k := s.comb c
  if !k.seqMode then
    match firstEvt ok with
    | none => s
    | some e => (s.complete c e cyc).held c (ok.length - 1)
  else
    let arms := ok.filter (fun e => e.input == 0)
    let comps := ok.filter (fun e => e.input == 1)
    let live (t : State) (e : SrcEvt) : Bool := (t.comb c).armed.any (fun a => decide (e.at_ ≤ a * 65536))
    let s1 := match firstEvt comps with
      | some e => if live s e then (s.complete c e cyc).held c (comps.length - 1) else s
      | none => s
    match arms.getLast? with
    | some e => s1.setComb c { s1.comb c with armed := some (ceilDiv e.at_ 65536 + max 1 (s1.comb c).seqwin) }
    | none => s1

/-- The events of a combiner presented up to now, cycle by cycle. -/
def State.combRun (c : Nat) : Nat → State → State
  | 0, s => s
  | fuel + 1, s =>
    let k := s.comb c
    let due := k.q.filter (fun e => decide (e.at_ ≤ s.fU * 256))
    match due with
    | [] => s
    | e0 :: r =>
      let cyc := r.foldl (fun a e => min a (ceilDiv e.at_ 65536)) (ceilDiv e0.at_ 65536)
      let here := due.filter (fun e => ceilDiv e.at_ 65536 == cyc)
      let rest := k.q.filter (fun e => ceilDiv e.at_ 65536 != cyc)
      State.combRun c fuel ((s.setComb c { k with q := rest }).combCycle c cyc here)

/-- COMBINER_FIRE (R240): every event presented to the combiner up to the instant is taken, in order of presentation. -/
def execCombinerFire (u : Sub) (c : Idx16) (s : State) : Host.Outcome State Fault Refusal :=
  let s1 := s.atF u
  done s (State.combRun c (s1.comb c).q.length s1)

/-- HOLDOFF_EXPIRY (R242): a TIME holdoff ends. -/
def State.doHoldoffExpiry (s : State) (c : Nat) : State :=
  let k := s.comb c
  if k.holdUntil * 256 ≤ s.fU then s.setComb c { k with holdUntil := 0 } else s

/-- HOLDOFF_EXPIRY. -/
def execHoldoffExpiry (u : Sub) (c : Idx16) (s : State) : Host.Outcome State Fault Refusal := done s ((s.atF u).doHoldoffExpiry c)

/-- SEQUENCE_WINDOW_EXPIRY (R239): the window has passed without an I1 event. -/
def State.doSeqWindowExpiry (s : State) (c : Nat) : State :=
  let k := s.comb c
  if k.armed.any (fun a => decide (a * 256 < s.fU)) then s.setComb c { k with armed := none } else s

/-- SEQUENCE_WINDOW_EXPIRY. -/
def execSequenceWindowExpiry (u : Sub) (c : Idx16) (s : State) : Host.Outcome State Fault Refusal := done s ((s.atF u).doSeqWindowExpiry c)

/-- The output level of a combiner falls at an instant in 1/256 unit. -/
def State.combFall (s : State) (c at_ : Nat) : State :=
  let lv := s.get R.ACQ_STAT_COMB_LEVEL
  if lv.testBit c then (s.set R.ACQ_STAT_COMB_LEVEL (lv - 2 ^ c)).sourceLevel (0x90 + c) at_ false else s

/-- COMB_LEVEL_FALL (R243): LEVEL_CYC cycles after the latest FIRE. -/
def State.doCombLevelFall (s : State) (c : Nat) : State :=
  let k := s.comb c
  if k.levelUntil * 256 ≤ s.fU then s.combFall c (k.levelUntil * 65536) else s

/-- COMB_LEVEL_FALL. -/
def execCombLevelFall (u : Sub) (c : Idx16) (s : State) : Host.Outcome State Fault Refusal := done s ((s.atF u).doCombLevelFall c)

/-- A write of 1 to REARM (R242). -/
def execCombRearm (u : Sub) (c : Idx16) (s : State) : Host.Outcome State Fault Refusal :=
  done s ((s.atF u).ifOn (R.ACQ_COMB_CTRL c) (fun t => t.setComb c { t.comb c with needRearm := false }))

/-- A write of 1 to ACQ_COMB_CTRL.CLR_STATS (R264). -/
def execCombClrStats (u : Sub) (c : Idx16) (s : State) : Host.Outcome State Fault Refusal :=
  done s ((s.atF u).ifOn (R.ACQ_COMB_CTRL c) (fun t => (t.put (R.ACQ_COMB_FIRES c) 0).put (R.ACQ_COMB_HELD c) 0))

/-! ### Configuration at a tick boundary (R244) -/

/-- The enable of a combiner breaks a rule of R239 (reason 8): an input selects its own or a higher combiner, an input has USE 3, or SEQUENCE lacks
event inputs I0 and I1. -/
def combBad (c : Nat) (ctrl inw use : Word) : Bool :=
  let u (i : Nat) : Nat := fieldOf use (4 * i) 2
  let sel (i : Nat) : Nat := fieldOf inw (8 * i) 8
  (List.range 4).any (fun i => u i == 3 || (u i != 0 && decide (0x90 + c ≤ sel i ∧ sel i < 0xA0)))
    || (ctrl.getLsbD 29 && (u 0 != 1 || u 1 != 1))

/-- A combiner's words take effect and its state resets. -/
def State.combEffect (s : State) (c : Nat) : State :=
  let ctrl := s.rd (R.ACQ_COMB_CTRL c)
  let bad := ctrl.getLsbD 31 && combBad c ctrl (s.rd (R.ACQ_COMB_IN c)) (s.rd (R.ACQ_COMB_USE c))
  let s1 := if bad then (s.set (R.ACQ_COMB_CTRL_EN c) 0).acqRefuse (0x100 + c) 8 else s
  let k : CombSt := { ctrl := s1.rd (R.ACQ_COMB_CTRL c), inw := s1.rd (R.ACQ_COMB_IN c), use := s1.rd (R.ACQ_COMB_USE c),
                      hold := s1.val (R.ACQ_COMB_HOLD c), seqwin := s1.val (R.ACQ_COMB_SEQWIN c) }
  let s2 := (s1.combFall c (s1.fU * 256)).setComb c k
  if k.align then s2.put (R.ACQ_COMB_LAT c) (s2.combLats.getD c 0) else s2

/-- The enable of a lane trigger is refused with reason 7 (R232). -/
def ltrigBad (x : LTrigSt) : Bool :=
  decide (6 ≤ x.kind) || ((x.kind == 2 || x.kind == 3 || x.kind == 5) && decide (x.l1 ≤ x.l2))

/-- A lane trigger's words take effect and its state resets. -/
def State.ltrigEffect (s : State) (l : Nat) : State :=
  let x : LTrigSt := { cfg := s.rd (R.ACQ_LTRIG_CFG l), lvl := s.rd (R.ACQ_LTRIG_LVL l), t1 := s.val (R.ACQ_LTRIG_T1 l), t2 := s.val (R.ACQ_LTRIG_T2 l) }
  let bad := x.en && ltrigBad x
  let s1 := if bad then (s.set (R.ACQ_LTRIG_CFG_EN l) 0).acqRefuse l 7 else s
  (s1.sourceLevel l (s1.fU * 256) false).setLtrig l { x with cfg := s1.rd (R.ACQ_LTRIG_CFG l) }

/-- A selector's word takes effect; its level is that of the port's comparator state (R237). -/
def State.peEffect (s : State) (k : Nat) : State :=
  let w := s.rd (R.ACQ_PE k)
  let st := s.get (R.PIN_STAT_CMP_LIVE (fieldOf w 0 8))
  let e := fieldOf w 8 3
  let lv := w.getLsbD 31 && ((e == 1 && st == 2) || (e == 2 && st == 1) || (e == 3 && st == 0) || (e == 4 && st == 2))
  (s.setPe k { word := w }).sourceLevel (0x30 + k) (s.fU * 256) lv

/-- ACQ_CONFIG_EFFECT (R244): at the tick boundary every written unit takes its words and resets. -/
def State.doAcqConfigEffect (s : State) : State :=
  if s.time.fUnit = 0 then
    let s1 := (List.range 48).foldl (fun t l => if (t.ltrig l).dirty then t.ltrigEffect l else t) s
    let s2 := (List.range 16).foldl (fun t k => if (t.pe k).dirty then t.peEffect k else t) s1
    (List.range 16).foldl (fun t c => if (t.comb c).dirty then t.combEffect c else t) s2
  else s

/-- ACQ_CONFIG_EFFECT. -/
def execAcqConfigEffect (s : State) : Host.Outcome State Fault Refusal := done s s.doAcqConfigEffect

end Sys2Proof.Machine
end

