-- ==== Sys2Proof/Machine/Compare.lean ====
section
/-! DEFINITION. The compare engine (R266–R289): enabling and stopping pairs, decisions, latency, reference records and the replay timeline. -/

namespace Sys2Proof.Machine

/-! ### Enabling (R285) -/

/-- A side of a pair is invalid under R267. -/
def State.sideBad (s : State) (p : Nat) (isRef : Bool) : Bool :=
  let ty := s.get (if isRef then R.CMP_P_REF_TYPE p else R.CMP_P_CAND_TYPE p)
  let k := s.get (if isRef then R.CMP_P_REF_INSTANCE p else R.CMP_P_CAND_INSTANCE p)
  let src := s.get (if isRef then R.CMP_P_REF_SRC p else R.CMP_P_CAND_SRC p)
  match ty with
  | 0 => true
  | 1 => !roleCompares (s.role k)
  | 2 => !s.laneFree k || src == 3
  | _ => !(isRef && s.mode == 5)

/-- Entry period of a lane side of a band pair; none when its reduction is not selected with FRAME 1 on the pair's stream (R274). -/
def State.sidePeriod (s : State) (p : Nat) (isRef : Bool) : Option Nat :=
  let k := s.get (if isRef then R.CMP_P_REF_INSTANCE p else R.CMP_P_CAND_INSTANCE p)
  let src := s.get (if isRef then R.CMP_P_REF_SRC p else R.CMP_P_CAND_SRC p)
  let x := (s.red k).act
  let c := s.get (R.CMP_P_CFG_RED p)
  if x.frame = 1 ∧ x.src = src ∧ x.sel.testBit c = true ∧ 1 ≤ c ∧ c ≤ 5 then some (x.entryPeriod c (s.srcPeriod k src)) else none

/-- The kind does not fit the sources (reason 3). -/
def State.kindBad (s : State) (p : Nat) : Bool :=
  let kind := s.get (R.CMP_P_CFG_KIND p)
  let rt := s.get (R.CMP_P_REF_TYPE p)
  let ct := s.get (R.CMP_P_CAND_TYPE p)
  if kind = 3 then true
  else if kind = 2 then
    rt == 1 || ct == 1 || (s.sidePeriod p false).isNone || (rt == 2 && s.sidePeriod p true != s.sidePeriod p false)
  else false

/-- The latency mode is not allowed (reason 4). -/
def State.latBad (s : State) (p : Nat) : Bool :=
  let m := s.get (R.CMP_P_CFG_LAT_MODE p)
  let q := s.get (R.CMP_P_CFG_LAT_PAIR p)
  m == 3 || (m == 1 && s.get (R.CMP_P_CFG_KIND p) == 2) || (m == 2 && (q == p || decide (2 ≤ s.get (R.CMP_P_CFG_LAT_MODE q))))

/-- A refusal of an enable (R285). -/
def State.pairRefuse (s : State) (p reason : Nat) : State :=
  (((s.set (R.CMP_P_STAT_REFUSE p) reason).set R.CMP_STAT_REFUSE reason).set R.CMP_EVT_REFUSED 1).cmpEvt p 0x0005 reason

/-- Setting a pair's EN (R285): reasons 2 to 5, then the planner. -/
def State.doPairEnable (s : State) (p : Nat) : State :=
  s.ifOn (R.CMP_P_CTRL p) (fun s =>
    if s.is (R.CMP_P_CTRL_EN p) || s.is (R.CMP_P_STAT_BUSY p) then s
    else if s.sideBad p true || s.sideBad p false then s.pairRefuse p 2
    else if s.kindBad p then s.pairRefuse p 3
    else if s.latBad p then s.pairRefuse p 4
    else if !modeCompares s.mode then s.pairRefuse p 5
    else
      let s1 := s.put (R.CMP_P_NEAR p) (max (s.val (R.CMP_P_NEAR p)) (s.val (R.CMP_P_TOL p)))
      let r := s1.submit (s1.set (R.CMP_P_CTRL_EN p) 1) [.pair p]
      if r.2 then r.1 else r.1.pairRefuse p 1)

/-- PAIR_ENABLE. -/
def execPairEnable (u : Sub) (p : PairNo) (s : State) : Host.Outcome State Fault Refusal := done s ((s.atF u).doPairEnable p)

/-- A band pair's L′: L rounded to the nearest multiple of the entry period, ties towards zero (R274); other pairs take L. -/
def State.pairLat (s : State) (p : Nat) (l : Int) : Int :=
  if s.get (R.CMP_P_CFG_KIND p) = 2 then
    let n : Int := ((s.sidePeriod p false).getD 1 : Nat)
    let a := (l.natAbs : Int)
    let q := (2 * a + n - 1) / (2 * n) * n
    if l < 0 then -q else q
  else l

/-- The pair judges with latency L from an instant on (R276, R277): earlier reference edges are dropped. -/
def State.pairRun (s : State) (p : Nat) (at_ l : Int) : State :=
  let x := s.pair p
  let kind := s.get (R.CMP_P_CFG_KIND p)
  let early := x.ref.filter (fun i => decide (i.t < at_))
  let x1 := { x with refSt := if kind = 1 then (early.getLast?.map CItem.st).getD x.refSt else x.refSt,
                     ref := if kind = 1 then x.ref.filter (fun i => decide (at_ ≤ i.t)) else x.ref, wait := [], run := 0, runDone := false }
  let x2 := { x1 with nextAt := at_, fires := x1.fires.filter (fun t => decide (at_ ≤ t)), judgeFrom := at_, latAt := at_.toNat, told := false }
  (((s.setPair p x2).put (R.CMP_P_LAT_ACT p) (codeOf 32 (s.pairLat p l)))).pairState p 2

/-- From its plan boundary an enabled pair is in LEARNING, RUN or WAIT_LAT (R285). -/
def State.pairStart (s : State) (p : Nat) : State :=
  if s.is (R.CMP_P_CTRL_EN p) && modeCompares s.mode then
    let b := s.fTickU
    let x : PairSt := { refSt := s.sideState p true, candSt := s.sideState p false, learnAt := b, refThru := b, candThru := b,
                        rdAddr := s.val64 (R.CMP_P_RADDR_LO p) }
    let s1 := ((s.setPair p x).put (R.CMP_P_SEQ p) 0).set (R.CMP_P_STAT_ABSENT p) 0
    let absent (t : State) (isRef : Bool) : State :=
      let ty := t.get (if isRef then R.CMP_P_REF_TYPE p else R.CMP_P_CAND_TYPE p)
      let k := t.get (if isRef then R.CMP_P_REF_INSTANCE p else R.CMP_P_CAND_INSTANCE p)
      if (ty = 1 ∧ t.pinTrusted k = false) ∨ (ty = 2 ∧ t.laneConverts k = false) then t.sideAbsent p isRef b else t
    let s2 := absent (absent s1 true) false
    match s2.get (R.CMP_P_CFG_LAT_MODE p) with
    | 0 => s2.pairRun p b (s2.sval (R.CMP_P_LAT p))
    | 1 => s2.pairState p 1
    | _ =>
      let q := s2.get (R.CMP_P_CFG_LAT_PAIR p)
      if s2.get (R.CMP_P_STAT_STATE q) = 2 then s2.pairRun p b (s2.sval (R.CMP_P_LAT_ACT q)) else s2.pairState p 3
  else s

/-! ### Presentation and absence (R269, R272) -/

/-- Latency of a side in units (R240). -/
def State.sideLat (s : State) (p : Nat) (isRef : Bool) : Nat :=
  let ty := s.get (if isRef then R.CMP_P_REF_TYPE p else R.CMP_P_CAND_TYPE p)
  let k := s.get (if isRef then R.CMP_P_REF_INSTANCE p else R.CMP_P_CAND_INSTANCE p)
  let src := s.get (if isRef then R.CMP_P_REF_SRC p else R.CMP_P_CAND_SRC p)
  if ty = 1 then 256 * (16 + s.get (R.PIN_CAPT_FILT k))
  else if ty = 2 then 256 * s.streamLat k src
  else 0

/-- The instant through which a side has been presented; a recorded side has been read 2 ticks ahead (R272, R283). -/
def State.sideThru (s : State) (p : Nat) (isRef : Bool) : Int :=
  let x := s.pair p
  let ty := s.get (if isRef then R.CMP_P_REF_TYPE p else R.CMP_P_CAND_TYPE p)
  let now : Int := (s.fU : Int) - s.sideLat p isRef
  if ty = 3 then (s.fU : Int) + 2 * unitsPerTick
  else if (if isRef then x.absRef else x.absCand).isSome then now
  else if ty = 1 then now
  else min now (if isRef then x.refThru else x.candThru)

/-- Start of an absent span of either side that holds an instant. -/
def PairSt.absentAt (x : PairSt) (d : Int) : Option Int :=
  let open_ (o : Option Int) : Option Int := o.filter (fun a => decide (a ≤ d))
  match open_ x.absRef, open_ x.absCand with
  | some a, _ => some a
  | none, some a => some a
  | none, none => (x.spans.find? (fun p => decide (p.1 ≤ d ∧ d < p.2))).map Prod.fst

/-- A decision instant is presented, or lies before the instant at which EN was cleared: `d` the instant, `r` the latest reference instant that
the decision uses. -/
def State.presented (s : State) (p : Nat) (limit : Option Int) (d r : Int) : Bool :=
  match limit with
  | some x => decide (d < x)
  | none => decide (max d r ≤ s.sideThru p true) && decide (d ≤ s.sideThru p false)

/-- One decision instant is not judged (R269). -/
def State.pairSkip (s : State) (p : Nat) : State := s.cmpCount p (R.CMP_P_SKIP p) 1

/-- A decision is counted. -/
def State.pairDecide (s : State) (p : Nat) : State := s.setPair p { s.pair p with decisions := (s.pair p).decisions + 1 }

/-- A match or a pass (R270, R279). -/
def State.pairMatch (s : State) (p : Nat) : State :=
  (s.setPair p { s.pair p with since := (s.pair p).since + 1 }).wrapCount64 (R.CMP_P_MATCH_LO p) 1

/-- The record of a run that had one ends with RUN_END (R275). -/
def State.runEnds (s : State) (p : Nat) (at_ : Int) : State :=
  let x := s.pair p
  let s1 := s.setPair p { x with run := 0, runDone := false }
  if x.runDone then s1.cmpRecord p { cause := 0x06, d := at_, lat := s1.sval (R.CMP_P_LAT_ACT p), count := x.run } else s1

/-- A judged instant or entry fails: the run grows, and its record leaves when PERSIST is reached, stamped with the first member (R275). -/
def State.runFails (s : State) (p cause : Nat) (d : Int) (r c : CItem) : State :=
  let x := s.pair p
  let x1 := if x.run = 0 then { x with runD := d, runRef := some r, runCand := some c, runDone := false } else x
  let x2 := { x1 with run := x.run + 1 }
  let persist := max 1 (s.get (R.CMP_P_CFG_PERSIST p))
  if x2.run = persist then
    (s.setPair p { x2 with runDone := true }).cmpRecord p
      { cause := cause, d := x2.runD, ref := x2.runRef, cand := x2.runCand, lat := s.sval (R.CMP_P_LAT_ACT p), count := persist }
  else s.setPair p x2

/-! ### Edge pairs (R270–R272) -/

/-- The earliest candidate edge of a kind in a span, and the list without it. -/
def claim (lo hi : Int) (st : Nat) : List CItem → Option (CItem × List CItem)
  | [] => none
  | c :: r =>
    if lo ≤ c.t ∧ c.t ≤ hi ∧ c.st = st then some (c, r)
    else (claim lo hi st r).map (fun q => (q.1, c :: q.2))

/-- A candidate that no judged reference edge could claim, or that lies after the end of the recording, is not judged (R277, R282). -/
def PairSt.ignores (x : PairSt) (l near : Int) (c : CItem) : Bool :=
  decide (c.t < x.judgeFrom + l - near) || x.rdEnd.any (fun e => decide (e < c.t))

/-- The next decision of an edge pair: its instant and class (0 in-window, 1 TIMING or MISSING, 2 EXTRA), the least first (R272). -/
def PairSt.nextEdge (x : PairSt) (l tol near : Int) : Option (Int × Nat) :=
  let a := (x.ref.head?.map (fun i => (i.t + l + tol, 0))).toList
  let b := (x.wait.head?.map (fun i => (i.t + l + near, 1))).toList
  let c := (x.cand.head?.map (fun i => (i.t + 2 * near, 2))).toList
  (a ++ b ++ c).foldl (fun m e => match m with
    | none => some e
    | some y => if e.1 < y.1 then some e else some y) none

/-- One decision of an edge pair; none when none is due. -/
def State.edgeStep (s : State) (p : Nat) (limit : Option Int) : Option State :=
  let l := s.sval (R.CMP_P_LAT_ACT p)
  let tol : Int := s.val (R.CMP_P_TOL p)
  let near : Int := max (s.val (R.CMP_P_NEAR p)) (s.val (R.CMP_P_TOL p))
  let x0 := s.pair p
  let x := { x0 with ref := x0.ref.filter (fun i => decide (x0.judgeFrom ≤ i.t)), cand := x0.cand.filter (fun c => !x0.ignores l near c) }
  let s0 := s.setPair p x
  match x.nextEdge l tol near with
  | none => none
  | some (d, k) =>
    if !s0.presented p limit d (d - l - tol) then none
    else
      let gone := (x.absentAt d).isSome
      let rc (cause : Nat) : CRec := { cause := cause, d := d, lat := l }
      match k, x.ref, x.wait, x.cand with
      | 0, r :: rs, _, _ =>
        if gone then some ((s0.setPair p { x with ref := rs }).pairSkip p)
        else
          match claim (r.t + l - tol) (r.t + l + tol) r.st x.cand with
          | some q => some (((s0.setPair p { x with ref := rs, cand := q.2 }).pairDecide p).pairMatch p)
          | none => some ((s0.setPair p { x with ref := rs, wait := x.wait ++ [r] }).pairDecide p)
      | 1, _, r :: rs, _ =>
        if gone then some ((s0.setPair p { x with wait := rs }).pairSkip p)
        else
          match claim (r.t + l - near) (r.t + l + near) r.st x.cand with
          | some q =>
            let t := (s0.setPair p { x with wait := rs, cand := q.2 }).pairDecide p
            some (t.cmpRecord p { rc 0x03 with ref := some r, cand := some q.1, delta := q.1.t - r.t - l })
          | none => some (((s0.setPair p { x with wait := rs }).pairDecide p).cmpRecord p { rc 0x01 with ref := some r })
      | 2, _, _, c :: cs =>
        if gone then some ((s0.setPair p { x with cand := cs }).pairSkip p)
        else some (((s0.setPair p { x with cand := cs }).pairDecide p).cmpRecord p { rc 0x02 with cand := some c })
      | _, _, _, _ => none

/-! ### State pairs (R273, R275) -/

/-- The state after the items up to an instant, and the items after it. -/
def stateUpTo (st : Nat) (t : Int) (l : List CItem) : Nat × List CItem :=
  (((l.filter (fun i => decide (i.t ≤ t))).getLast?.map CItem.st).getD st, l.filter (fun i => !decide (i.t ≤ t)))

/-- The shift of a recording: from its own time to live time, in units (R283). -/
def State.replayShift (s : State) : Int := signedOf 64 (s.val64 R.CMP_RPL_SHIFT_LO) * unitsPerTick + signedOf 64 (s.val64 R.CMP_RPL_ADJ_LO)

/-- The T64 and era that a pair's record gives a reference instant: of a recording in its own time (R279). -/
def State.refStamp (s : State) (p : Nat) (t : Int) : Nat × Nat :=
  if s.pairRecorded p then
    let u := (t - s.replayShift).toNat
    (t64At u, u / (ticksPerEra * unitsPerTick))
  else (t64AtI t, 0)

/-- The next state instant of a pair: periodic from each tick boundary, or a firing (R273). -/
def State.nextState (s : State) (p : Nat) : Option Int :=
  let x := s.pair p
  if s.is (R.CMP_P_CFG_SMODE p) then x.fires.head? else some x.nextAt

/-- The pair without its next state instant. -/
def State.popState (s : State) (p : Nat) (t : Int) : PairSt :=
  let x := s.pair p
  if s.is (R.CMP_P_CFG_SMODE p) then { x with fires := x.fires.drop 1 }
  else
    let bound := (t / unitsPerTick + 1) * unitsPerTick
    { x with nextAt := min (t + max 2560 (s.val (R.CMP_P_SPER p))) bound }

/-- One decision of a state pair. -/
def State.stateStep (s : State) (p : Nat) (limit : Option Int) : Option State :=
  let l := s.sval (R.CMP_P_LAT_ACT p)
  match s.nextState p with
  | none => none
  | some t =>
    let d := t + l
    let x0 := s.pair p
    if x0.rdEnd.any (fun e => decide (e < t)) || !s.presented p limit d t then none
    else
      let r := stateUpTo x0.refSt t x0.ref
      let c := stateUpTo x0.candSt d x0.cand
      let x := { s.popState p t with refSt := r.1, ref := r.2, candSt := c.1, cand := c.2 }
      let s1 := s.setPair p x
      match x.absentAt d with
      | some a => some ((s1.runEnds p (max a x.runD)).pairSkip p)
      | none =>
        if r.1 = 15 ∨ c.1 = 15 then some (s1.pairSkip p)
        else if r.1 = c.1 then some (((s1.pairDecide p).pairMatch p).runEnds p d)
        else
          let ts := s1.refStamp p t
          some ((s1.pairDecide p).runFails p 0x04 d { t := t, st := r.1, t64 := ts.1, era := ts.2 } { t := d, st := c.1, t64 := t64AtI d })

/-! ### Band pairs (R274, R275) -/

/-- An entry passes the band test; ENV tests minimum and maximum (R274). -/
def State.bandPass (s : State) (p : Nat) (r c : CItem) : Bool :=
  let abs_ : Int := s.val (R.CMP_P_BAND_ABS p)
  let rel : Int := s.get ⟨R.CMP_P_BAND_REL p, 0, 16⟩
  let one (a b : Int) : Bool := decide (((b - a).natAbs : Int) ≤ abs_ + (rel * (a.natAbs : Int)) / 65536)
  one r.v1 c.v1 && (s.get (R.CMP_P_CFG_RED p) != 2 || one r.v2 c.v2)

/-- One decision of a band pair. -/
def State.bandStep (s : State) (p : Nat) (limit : Option Int) : Option State :=
  let l := s.sval (R.CMP_P_LAT_ACT p)
  let x0 := s.pair p
  let n : Int := ((s.sidePeriod p false).getD 0 : Nat)
  match x0.cand.filter (fun c => decide (x0.judgeFrom ≤ c.t) && !x0.rdEnd.any (fun e => decide (e < c.t))) with
  | [] => none
  | c :: cs =>
    let d := c.t + n
    if !s.presented p limit d (c.t - l + n) then none
    else
      let r := x0.ref.find? (fun i => i.t == c.t - l)
      let s1 := s.setPair p { x0 with cand := cs, ref := x0.ref.filter (fun i => decide (c.t - l < i.t)) }
      match x0.absentAt d, r with
      | some a, _ => some ((s1.runEnds p (max a x0.runD)).pairSkip p)
      | none, none => some (s1.pairSkip p)
      | none, some i =>
        if s1.bandPass p i c then some (((s1.pairDecide p).pairMatch p).runEnds p d) else some ((s1.pairDecide p).runFails p 0x05 d i c)

/-! ### Decisions (R272) -/

/-- One decision of a pair in RUN. -/
def State.pairStep (s : State) (p : Nat) (limit : Option Int) : Option State :=
  match s.get (R.CMP_P_CFG_KIND p) with
  | 0 => s.edgeStep p limit
  | 1 => s.stateStep p limit
  | _ => s.bandStep p limit

/-- The recording has ended and its last decision is made: DONE (R282, R288). -/
def State.pairFinish (s : State) (p : Nat) : State :=
  let x := s.pair p
  match x.rdEnd with
  | none => s
  | some e =>
    let kind := s.get (R.CMP_P_CFG_KIND p)
    let over_ := if kind = 1 then (if s.is (R.CMP_P_CFG_SMODE p) then x.fires.all (fun t => decide (e < t)) else decide (e < x.nextAt))
      else (kind == 2 || x.ref.isEmpty) && x.wait.isEmpty && x.cand.all (fun c => decide (e < c.t))
    if s.get (R.CMP_P_STAT_STATE p) = 2 ∧ over_ = true ∧ e < s.sideThru p false then
      let s1 := s.pairState p 6
      s1.cmpEvt p 0x0004 (s1.val (R.CMP_P_DISC p))
    else s

/-- COMPARE_DECISION: the pair makes its next decision once both sources are presented through what it uses. -/
def State.doCompareDecision (s : State) (p : Nat) : State :=
  if s.get (R.CMP_P_STAT_STATE p) = 2 then ((s.pairStep p none).getD s).pairFinish p else s

/-- COMPARE_DECISION, with the samples that have come since. -/
def execCompareDecision (u : Sub) (p : PairNo) (env : List LaneIn) (s : State) : Host.Outcome State Fault Refusal :=
  done s (((s.takeSamples env).atF u).doCompareDecision p)

/-- Every decision of a pair before an instant. -/
def State.pairSteps (p : Nat) (limit : Int) : Nat → State → State
  | 0, s => s
  | n + 1, s => match s.pairStep p (some limit) with
    | some t => State.pairSteps p limit n t
    | none => s

/-- Decisions that may remain before an instant: two for each item, and one for each state instant. -/
def State.pairLeft (s : State) (p : Nat) (limit : Int) : Nat :=
  let x := s.pair p
  2 * (x.ref.length + x.cand.length + x.wait.length + x.fires.length) + ((limit - x.nextAt - s.sval (R.CMP_P_LAT_ACT p)).toNat / 2560 + 2)

/-! ### Stopping (R286) -/

/-- A pair's EN is cleared: the decisions before the clear are made, the rest discarded, and STOPPED is produced (R286, R87). -/
def State.pairStop (s : State) (p : Nat) : State :=
  if s.is (R.CMP_P_CTRL_EN p) then
    let s1 := s.releaseBudget (s.set (R.CMP_P_CTRL_EN p) 0)
    if s1.get (R.CMP_P_STAT_STATE p) = 0 then s1
    else
      let now : Int := s1.fU
      let s2 := if s1.get (R.CMP_P_STAT_STATE p) = 2 then State.pairSteps p now (s1.pairLeft p now) s1 else s1
      let x := s2.pair p
      let rest := x.ref.length + x.cand.length + x.wait.length + x.fires.length
      let s3 := s2.cmpRecord p { cause := 0x0E, d := now, lat := s2.sval (R.CMP_P_LAT_ACT p), count := min x.decisions (2 ^ 32 - 1), eom := true }
      let s4 := ((s3.pairState p 0).set (R.CMP_P_STAT_ABSENT p) 0).setPair p {}
      s4.stopEntry 0x18 p s4.fNow.pack rest 0
  else s

/-- Every pair stops: SYS_MODE leaves REPLAY, SHADOW and SENTINEL (R286). -/
def State.pairStopAll (s : State) : State := (List.range 128).foldl State.pairStop s

/-- PAIR_DISABLE, with the samples that have come since. -/
def execPairDisable (u : Sub) (p : PairNo) (env : List LaneIn) (s : State) : Host.Outcome State Fault Refusal :=
  done s (((s.takeSamples env).atF u).ifOn (R.CMP_P_CTRL p) (fun t => t.pairStop p))

/-! ### Learning (R277, R278) and FROM_PAIR (R276) -/

/-- LEARN_TICKS, 0 taken as 1. -/
def State.learnTicks (s : State) (p : Nat) : Nat := max 1 (s.val (R.CMP_P_LEARN_TICKS p))

/-- The freezing boundary, in units. -/
def State.freezeAt (s : State) (p : Nat) : Nat :=
  let reach := (s.sval (R.CMP_P_LAT p) + s.val (R.CMP_P_LEARN_SPAN p)).toNat
  (s.pair p).learnAt + (s.learnTicks p + ceilDiv reach unitsPerTick + 1) * unitsPerTick

/-- The candidate edge of a kind that is nearest to an instant, within a span; the earlier of two equally near (R277). -/
def nearest (at_ span : Int) (st : Nat) (l : List CItem) : Option Int :=
  l.foldl (fun b c =>
    if c.st = st ∧ ((c.t - at_).natAbs : Int) ≤ span then
      match b with
      | none => some c.t
      | some y => if (c.t - at_).natAbs < (y - at_).natAbs then some c.t else some y
    else b) none

/-- The deltas of the learning window, at most 4,096 (R277). -/
def State.learnDeltas (s : State) (p : Nat) : List Int :=
  let x := s.pair p
  let lat := s.sval (R.CMP_P_LAT p)
  let b : Int := x.learnAt
  let e : Int := x.learnAt + s.learnTicks p * unitsPerTick
  ((x.ref.filter (fun r => decide (b ≤ r.t ∧ r.t < e))).filterMap
    (fun r => (nearest (r.t + lat) (s.val (R.CMP_P_LEARN_SPAN p)) r.st x.cand).map (fun c => c - r.t))).take 4096

/-- LEARN_FREEZE (R277): at the freezing boundary the pair enters RUN with the lower median of its deltas, or FAILED. -/
def State.doLearnFreeze (s : State) (p : Nat) : State :=
  if s.time.fUnit = 0 ∧ s.get (R.CMP_P_STAT_STATE p) = 1 ∧ s.freezeAt p ≤ s.fTickU then
    let ds := s.learnDeltas p
    let n := ds.length
    let l := (sortAsc ds).getD ((n - 1) / 2) 0
    let ok := (ds.filter (fun d => decide (((d - l).natAbs : Int) ≤ s.val (R.CMP_P_TOL p)))).length
    let s1 := ((s.set (R.CMP_P_LEARN_N_N p) n).set (R.CMP_P_LEARN_N_IN_TOL p) ok).set R.CMP_EVT_LEARN 1
    if max 1 (s.get (R.CMP_P_LEARN_MIN_N p)) ≤ n ∧ s.get (R.CMP_P_LEARN_MIN_PCT p) * n ≤ 100 * ok then
      let s2 := s1.pairRun p s.fTickU l
      (s2.cmpRecord p { cause := 0x0A, d := s.fTickU, lat := l, count := n }).cmpEvt p 0x0001 (codeOf 32 l)
    else
      let s2 := (s1.pairState p 4).setPair p { s1.pair p with ref := [], cand := [], wait := [] }
      (s2.cmpRecord p { cause := 0x0B, d := s.fTickU, lat := s2.sval (R.CMP_P_LAT_ACT p), count := n }).cmpEvt p 0x0002 n
  else s

/-- LEARN_FREEZE. -/
def execLearnFreeze (p : PairNo) (s : State) : Host.Outcome State Fault Refusal := done s (s.doLearnFreeze p)

/-- RELEARN (R278): a learning pair in RUN or FAILED asks for a new window. -/
def State.doRelearn (s : State) (p : Nat) : State :=
  s.ifOn (R.CMP_P_CTRL p) (fun s =>
    let st := s.get (R.CMP_P_STAT_STATE p)
    if (st = 2 ∨ st = 4) ∧ s.get (R.CMP_P_CFG_LAT_MODE p) = 1 then s.setPair p { s.pair p with relearn := true } else s)

/-- RELEARN. -/
def execRelearn (u : Sub) (p : PairNo) (s : State) : Host.Outcome State Fault Refusal := done s ((s.atF u).doRelearn p)

/-- RELEARN_START (R278): at the next tick boundary judging stops and the window starts. -/
def State.doRelearnStart (s : State) (p : Nat) : State :=
  let x := s.pair p
  if s.time.fUnit = 0 ∧ x.relearn = true ∧ s.is (R.CMP_P_CTRL_EN p) = true then
    (s.pairState p 1).setPair p { x with relearn := false, learnAt := s.fTickU, ref := [], wait := [], run := 0, runDone := false }
  else s

/-- RELEARN_START. -/
def execRelearnStart (p : PairNo) (s : State) : Host.Outcome State Fault Refusal := done s (s.doRelearnStart p)

/-- LATENCY_FOLLOW (R276): at the tick boundary after its source pair took a new L, a FROM_PAIR pair takes it. -/
def State.doLatencyFollow (s : State) (p : Nat) : State :=
  let q := s.get (R.CMP_P_CFG_LAT_PAIR p)
  let st := s.get (R.CMP_P_STAT_STATE p)
  if s.time.fUnit = 0 ∧ s.is (R.CMP_P_CTRL_EN p) = true ∧ s.get (R.CMP_P_CFG_LAT_MODE p) = 2 ∧ s.get (R.CMP_P_STAT_STATE q) = 2
      ∧ (s.pair q).latAt < s.fTickU then
    let l := s.sval (R.CMP_P_LAT_ACT q)
    if st = 3 then s.pairRun p s.fTickU l
    else if st = 2 then s.put (R.CMP_P_LAT_ACT p) (codeOf 32 (s.pairLat p l))
    else s
  else s

/-- LATENCY_FOLLOW. -/
def execLatencyFollow (p : PairNo) (s : State) : Host.Outcome State Fault Refusal := done s (s.doLatencyFollow p)

/-! ### Reference records (R282, R283) -/

/-- A reference record (R282). -/
structure RefRec where
  kind : Nat
  count : Nat
  period : Nat
  /-- BASE as one count of units in the recording's time. -/
  base : Nat
  bytes : List Byte
  deriving DecidableEq, Repr

/-- The reference record in a 144-byte slot. -/
def refRec (b : List Byte) : RefRec :=
  { kind := leAt b 0 1, count := leAt b 1 1, period := leAt b 4 4,
    base := leAt b 2 2 * (ticksPerEra * unitsPerTick) + (T64.unpack (leAt b 8 8)).units, bytes := b.drop 16 }

/-- The record is bad for a pair of a kind (R282). -/
def RefRec.bad (r : RefRec) (kind : Nat) (prev : Option Nat) : Bool :=
  let back := prev.any (fun b => decide (r.base < b))
  if r.kind = 1 then kind == 2 || back || decide (r.count = 0 ∨ 32 < r.count)
  else if r.kind = 2 then kind == 2 || back || decide (r.count = 0 ∨ 64 < r.count)
  else if r.kind = 3 then kind != 2 || back || decide (r.count = 0 ∨ 32 < r.count)
  else if r.kind = 0xFF then back
  else r.kind != 0

/-- The live instant of a recorded instant (R283). -/
def State.liveAt (s : State) (u : Nat) : Int := (u : Int) + s.replayShift

/-- An item at a recorded instant. -/
def State.recItem (s : State) (u st : Nat) (v1 v2 : Int) : CItem :=
  { t := s.liveAt u, st := st, t64 := t64At u, era := u / (ticksPerEra * unitsPerTick), v1 := v1, v2 := v2 }

/-- Values of an entry of a reduction in 4 bytes: two codes for ENV, a code for DEC and MED, signed for MEAN, unsigned for RMS. -/
def entryValues (red v : Nat) : Int × Int :=
  if red = 2 then (signedOf 16 (v % 65536), signedOf 16 (v / 65536))
  else if red = 4 then (v, 0)
  else (signedOf 32 v, 0)

/-- The items of a record, and the crossing detector after it (R268, R282). -/
def State.refItems (s : State) (p : Nat) (r : RefRec) : List CItem × CrossSt :=
  let x := s.pair p
  let at_ (i : Nat) : Nat := r.base + i * r.period
  if r.kind = 1 then
    (((List.range r.count).map (fun i =>
      let e := leAt r.bytes (4 * i) 4
      s.recItem (r.base / unitsPerTick * unitsPerTick + e / 2 ^ 20 * 256 + e / 2 ^ 12 % 256) (e / 64 % 4) 0 0)), x.refDet)
  else if r.kind = 2 then
    let lh := s.pairLevel p true
    (List.range r.count).foldl (fun acc i =>
      let q := acc.2.step lh.1 lh.2 (max 1 r.period) (at_ i) (signedOf 16 (leAt r.bytes (2 * i) 2))
      match q.2 with
      | some h => (acc.1 ++ [s.recItem (h.1 / 256) (if h.2 then 2 else 1) 0 0], q.1)
      | none => (acc.1, q.1)) (([] : List CItem), x.refDet)
  else
    (((List.range r.count).map (fun i =>
      let v := entryValues (s.get (R.CMP_P_CFG_RED p)) (leAt r.bytes (4 * i) 4)
      s.recItem (at_ i) 15 v.1 v.2)), x.refDet)

/-- A bad record: BROKEN, one record of cause FORMAT (R282). -/
def State.refBroken (s : State) (p addr : Nat) : State :=
  let s1 := (s.pairState p 5).cmpEvt p 0x0003 0x0D
  s1.cmpRecord p { cause := 0x0D, d := s1.fU, lat := s1.sval (R.CMP_P_LAT_ACT p), count := addr % 2 ^ 32 }

/-- A record that was late has become resident: REF_GAP, and the pair continues at least 1 tick later (R283). -/
def State.refGapEnds (s : State) (p : Nat) : State :=
  let x := s.pair p
  match x.rdAbs with
  | none => s
  | some a =>
    let from_ : Int := s.fU + unitsPerTick
    let s1 := (s.closeSpan p true a from_).cmpCount p (R.CMP_P_GAP_TICKS p) (spanTicks a s.fU)
    let s2 := s1.setPair p { s1.pair p with rdAbs := none, rdFrom := some from_, refDet := {}, refSt := 15 }
    s2.cmpRecord p { cause := 0x08, d := s2.fU, lat := s2.sval (R.CMP_P_LAT_ACT p), count := spanTicks a from_ }

/-- A record is taken: its items join the reference, a first sample of a state pair gives the state, an end of stream ends the reference. -/
def State.refTake (s : State) (p : Nat) (r : RefRec) : State :=
  let x := s.pair p
  if r.kind = 0xFF then s.setPair p { x with rdEnd := some (s.liveAt r.base), rdBase := some r.base }
  else
    let q := s.refItems p r
    let s1 := s.setPair p { x with rdBase := some r.base, refDet := q.2, rdAddr := succAddr x.rdAddr,
                                   refSt := if r.kind = 2 ∧ x.refSt = 15 then 1 else x.refSt }
    (q.1.filter (fun i => !x.rdFrom.any (fun f => decide (i.t < f)))).foldl (fun t i => t.pairItem p true i) s1

/-- REFERENCE_READ (R283): the record at the pair's next address is read from 2 ticks before the live instant of its BASE on. `late`: live time has
reached that instant, which a record that is not resident does not show. -/
def State.doReferenceRead (s : State) (p : Nat) (late : Bool) : State :=
  let x := s.pair p
  if s.pairRecorded p && s.pairLive p && x.rdEnd.isNone then
    match s.fetchVec x.rdAddr with
    | none => if late && x.rdAbs.isNone then (s.refAbsent p s.fU).setPair p { (s.refAbsent p s.fU).pair p with rdAbs := some s.fU } else s
    | some v =>
      let r := refRec (vecBytes v)
      if r.kind = 0 then s.setPair p { x with rdAddr := succAddr x.rdAddr }
      else if r.bad (s.get (R.CMP_P_CFG_KIND p)) x.rdBase then s.refBroken p x.rdAddr
      else if s.liveAt r.base - 2 * unitsPerTick ≤ s.fU then (s.refGapEnds p).refTake p r
      else s.refGapEnds p
  else s

/-- REFERENCE_READ. -/
def execReferenceRead (u : Sub) (p : PairNo) (late : Bool) (s : State) : Host.Outcome State Fault Refusal :=
  done s (((s.atF u).doReferenceRead p late).pairFinish p)

/-- REPLAY_RESUME (R284): 2 ticks after the gap of the one linked stream has ended, its recorded pairs are judged again. -/
def State.doReplayResume (s : State) : State :=
  match s.cmp.ended with
  | [] => s
  | g :: rest =>
    if g.2.2 + 2 * unitsPerTick ≤ s.fU then
      let s1 := { s with cmp := { s.cmp with ended := rest } }
      let s2 := s1.cmpCount 0 R.CMP_RPL_GAPS 1
      s2.recordedPairs.foldl (fun t p => if (t.pair p).rdAbs.isSome then t else t.sideBack p true t.fU) s2
    else s

/-- REPLAY_RESUME. -/
def execReplayResume (u : Sub) (s : State) : Host.Outcome State Fault Refusal := done s (s.atF u).doReplayResume

/-- OVERFLOW (R281): the queue has fallen below half, and the pair takes items again. -/
def State.doOverflow (s : State) (p : Nat) : State :=
  let x := s.pair p
  if x.lost ≠ 0 ∧ x.ref.length + x.cand.length + x.wait.length < pairQueue / 2 then
    let one (t : State) (isRef : Bool) : State :=
      match (if isRef then (t.pair p).absRef else (t.pair p).absCand) with
      | some a => (t.closeSpan p isRef a (x.lostTo + 1)).sideKnown p isRef (x.lostTo + 1)
      | none => t
    let s1 := one (one s true) false
    let s2 := s1.setPair p { s1.pair p with lost := 0 }
    s2.cmpRecord p { cause := 0x09, d := s2.fU, lat := s2.sval (R.CMP_P_LAT_ACT p), count := x.lost }
  else s

/-- OVERFLOW. -/
def execOverflow (u : Sub) (p : PairNo) (s : State) : Host.Outcome State Fault Refusal := done s ((s.atF u).doOverflow p)

/-! ### Registers (R289) -/

/-- CMP_RPL_SHIFT, ADJ and LINK by word. -/
def rplAddr (k : Nat) : Nat := R.CMP_RPL_SHIFT_LO + 4 * k

/-- A pair with a recorded source has EN at 1. -/
def State.recordedOn (s : State) : Bool := (List.range 128).any (fun p => s.pairRecorded p && s.is (R.CMP_P_CTRL_EN p))

/-- A write to the replay registers: discarded while a recorded pair is enabled. -/
def State.doRplWrite (s : State) (k : Nat) (v : Word) : State :=
  s.ifOn (rplAddr k) (fun s =>
    if s.recordedOn then s else s.wr (rplAddr k) (if k = 5 then v &&& 0x1FFFF#32 else v))

/-- CMP_RPL_WRITE. -/
def execCmpRplWrite (u : Sub) (k : Fin 6) (v : Word) (s : State) : Host.Outcome State Fault Refusal := done s ((s.atF u).doRplWrite k v)

/-- CMP_CTRL.CLR_STATS. -/
def execCmpClrStats (u : Sub) (s : State) : Host.Outcome State Fault Refusal :=
  done s ((s.atF u).ifOn R.CMP_CTRL (fun t => t.putAll [R.CMP_SUPPR, R.CMP_RPL_GAPS] 0))

/-- CMP_P_CTRL.CLR_STATS. -/
def execCmpPClrStats (u : Sub) (p : PairNo) (s : State) : Host.Outcome State Fault Refusal :=
  done s ((s.atF u).ifOn (R.CMP_P_CTRL p) (fun t => t.putAll [R.CMP_P_DISC p, R.CMP_P_SKIP p, R.CMP_P_SUPPR p, R.CMP_P_GAP_TICKS p] 0))

end Sys2Proof.Machine
end

