-- ==== Sys2Proof/Machine/Metrology.lean ====
section
/-! DEFINITION. The metrology converter, the reference buffer, housekeeping, the diagnostic DAC (R306–R315), and conversions' results (R327). -/

namespace Sys2Proof.Machine

/-- Replace the metrology state beside its registers. -/
def State.setMet (s : State) (x : MetSt) : State := { s with met := x }

/-- An event of the MET block (R327): bytes 16–19, then MET_TM. -/
def State.metEvt (s : State) (f : Fld) (code b16 : Nat) : State :=
  (s.set f 1).fieldEvent 0x1A code 0 s.fNow.pack (leBytes 4 b16 ++ leBytes 4 (s.val R.MET_TM))

/-- The same with its Ledger entry. -/
def State.metEvtL (s : State) (f : Fld) (code b16 : Nat) : State :=
  (s.metEvt f code b16).ledgerF 0x1A code 0 (leBytes 4 b16 ++ leBytes 4 (s.val R.MET_TM))

/-- Count in a SAT counter of the block. -/
def State.metCount (s : State) (a n : Nat) : State :=
  let r := s.satCount a 32 n R.MET_EVT_SATURATED
  if r.2 then r.1.metEvt R.MET_EVT_SATURATED 0x0008 (r.1.val R.MET_EVT) else r.1

/-! ### Due causes (R325) -/

/-- DUE_CAUSE takes new bits; each rise raises CAL_DUE with a Ledger entry. -/
def State.setDue (s : State) (new : Nat) : State :=
  let old := s.get R.MET_CAL_STAT_DUE_CAUSE
  let s1 := (s.set R.MET_CAL_STAT_DUE_CAUSE new).set R.MET_CAL_STAT_CAL_DUE (if new = 0 then 0 else 1)
  (bitsOf 5 new).foldl (fun t b => if old.testBit b then t else t.metEvtL R.MET_EVT_CAL_DUE 0x0005 new) s1

/-- One bit of DUE_CAUSE. -/
def State.setDueBit (s : State) (b : Nat) (v : Bool) : State :=
  let old := s.get R.MET_CAL_STAT_DUE_CAUSE
  if old.testBit b = v then s else s.setDue (if v then old + 2 ^ b else old - 2 ^ b)

/-- Cause 0: no run accepted, or the temperature has moved by more than CAL_DT since the latest. -/
def State.dueTemp (s : State) : Bool :=
  s.val R.MET_CAL_COUNT == 0
    || (s.val R.MET_TM != 0x80000000 && decide (s.get ⟨R.MET_CAL_DT, 0, 16⟩ < (s.sval R.MET_TM - s.sval R.MET_CAL_LAST_TEMP).natAbs))

/-! ### The converter (R306–R310) -/

/-- The input needs the pod of this slot; none when it needs none (R306). -/
def selSlot (sel : Nat) : Option Nat :=
  if sel ≤ 0x2F then some (sel / 8)
  else if 0x40 ≤ sel ∧ sel ≤ 0x4F then some (sel - 0x40)
  else if 0x50 ≤ sel ∧ sel ≤ 0x5F then some (sel - 0x50)
  else if 0x200 ≤ sel ∧ sel ≤ 0x25F then some ((sel - 0x200) / 16)
  else none

/-- The code stands in the table of R306. -/
def selKnown (sel : Nat) : Bool :=
  decide (sel ≤ 0x2F ∨ (0x40 ≤ sel ∧ sel ≤ 0x64) ∨ (0x100 ≤ sel ∧ sel ≤ 0x1FF) ∨ (0x200 ≤ sel ∧ sel ≤ 0x25F) ∨ (0x300 ≤ sel ∧ sel ≤ 0x30F)
    ∨ (0x310 ≤ sel ∧ sel ≤ 0x317))

/-- Why a user conversion is refused (MET_MC_STAT.REFUSE); 0 when it is not. -/
def State.mcRefuse (s : State) : Nat :=
  let sel := s.get ⟨R.MET_SEL, 0, 12⟩
  if s.is R.MET_MC_STAT_RUN_OWNS then 1
  else if !selKnown sel then 2
  else if (selSlot sel).any (fun q => !s.podHere q) then 3
  else 0

/-- The line period in use, in cycles, and whether it is a fallback (R308). -/
def State.linePeriod (s : State) : Nat × Bool :=
  match s.get R.MET_MC_CFG_LINE_SRC with
  | 0 => (8000000, false)
  | 1 => (6666667, false)
  | _ =>
    let ps := s.met.periods
    let mean := if ps.isEmpty then 8000000 else (2 * ps.foldl (· + ·) 0 + ps.length) / (2 * ps.length)
    (mean, !s.is R.MET_LINE_LOCK)

/-- MET_LINE shows the line period in use. -/
def State.showLine (s : State) : State := s.set R.MET_LINE_PERIOD s.linePeriod.1

/-- NPLC and ORDER as stored. -/
def State.nplc (s : State) : Nat := clampN 1 1000 (s.get R.MET_MC_CFG_NPLC)
def State.mcOrder (s : State) : Nat := clampN 1 4 (s.get R.MET_MC_CFG_ORDER)

/-- Integration length of NPLC / 10 line periods in units, to the nearest cycle (R308). -/
def integUnits (nplc period : Nat) : Nat := (2 * nplc * period + 10) / 20 * 256

/-- Conversion period: integration and 40 ticks. -/
def convUnits (nplc period : Nat) : Nat := integUnits nplc period + 40 * unitsPerTick

/-- The reference buffer had settled at an instant (R312). -/
def State.refSettled (s : State) (t : Nat) : Bool :=
  match s.met.offAt with
  | none => s.is R.MET_REF_MC_REFBUF && decide (s.met.readyAt ≤ t)
  | some o => decide (s.met.readyAt ≤ t ∧ t < o) || (s.is R.MET_REF_MC_REFBUF && decide (s.met.readyAt ≤ t ∧ o < s.met.readyAt))

/-- BUSY, SETTLING and SETTLE_LEFT show the reading in progress. -/
def State.mcShow (s : State) : State :=
  let busy := s.met.conv.isSome
  let left := if busy then s.mcOrder - s.met.hist.length else 0
  ((s.set R.MET_MC_STAT_BUSY (if busy then 1 else 0)).set R.MET_MC_STAT_SETTLING (if left = 0 then 0 else 1)).set R.MET_MC_STAT_SETTLE_LEFT left

/-- A user conversion starts, or is refused and the request ends (R306, R310). -/
def State.convStart (s : State) : State :=
  let r := s.mcRefuse
  if r ≠ 0 then
    let s1 := (s.set R.MET_MC_STAT_REFUSE r).set R.MET_MC_CTRL_CONT 0
    (s1.setMet { s1.met with conv := none, want := false, hist := [] }).mcShow
  else
    let lp := s.linePeriod
    let c : ConvSt := { sel := s.get ⟨R.MET_SEL, 0, 12⟩, cfg := s.rd R.MET_MC_CFG, at_ := s.fU, len := convUnits s.nplc lp.1, integ := integUnits s.nplc lp.1,
                        unsettled := !s.refSettled s.fU, fallback := lp.2 }
    ((s.setMet { s.met with conv := some c }).showLine).mcShow

/-- A request starts the converter, unless a conversion or a scan is in progress. -/
def State.convKick (s : State) : State :=
  if s.met.conv.isNone && !s.is R.MET_MC_STAT_HK then s.convStart else s

/-- MC_START (R310). -/
def State.doMcStart (s : State) : State :=
  s.ifOn R.MET_MC_CTRL (fun s =>
    let r := s.mcRefuse
    if r ≠ 0 then s.set R.MET_MC_STAT_REFUSE r else (s.setMet { s.met with want := true }).convKick)

/-- MC_START. -/
def execMcStart (u : Sub) (s : State) : Host.Outcome State Fault Refusal := done s (s.atF u).doMcStart

/-- MC_CONT (R310): refused, CONT stays 0. -/
def State.doMcCont (s : State) : State :=
  s.ifOn R.MET_MC_CTRL (fun s =>
    let r := s.mcRefuse
    if s.is R.MET_MC_CTRL_CONT then s
    else if r ≠ 0 then s.set R.MET_MC_STAT_REFUSE r
    else (s.set R.MET_MC_CTRL_CONT 1).convKick)

/-- MC_CONT. -/
def execMcCont (u : Sub) (s : State) : Host.Outcome State Fault Refusal := done s (s.atF u).doMcCont

/-- MC_ABORT (R310): the conversion in progress is discarded; with CONT at 1 the next one starts. -/
def State.doMcAbort (s : State) : State :=
  s.ifOn R.MET_MC_CTRL (fun s =>
    let s1 := (s.setMet { s.met with conv := none, want := false }).mcShow
    if s1.is R.MET_MC_CTRL_CONT && s.met.conv.isSome then s1.convKick else s1)

/-- MC_ABORT. -/
def execMcAbort (u : Sub) (s : State) : Host.Outcome State Fault Refusal := done s (s.atF u).doMcAbort

/-- Input, range, NPLC, ORDER or line period has changed (R309): the conversion in progress completes and does not count. -/
def State.mcChanged (s : State) : State :=
  (s.setMet { s.met with hist := [], conv := s.met.conv.map (fun c => { c with stale := true }) }).mcShow

/-- One stage of the filter over values newest first: the mean of the last `n`, or of those there are, in 1/12 of the input's unit (R309). -/
def avgStage (n : Nat) : List Int → List Int
  | [] => []
  | x :: r =>
    let w := (x :: r).take n
    (sumI w * (12 / w.length : Nat)) :: avgStage n r

/-- `k` stages. -/
def avgStages (n : Nat) : Nat → List Int → List Int
  | 0, l => l
  | k + 1, l => avgStages n k (avgStage n l)

/-- The filtered code: ORDER stages over the codes since the change, rounded to nearest. -/
def filtCode (order : Nat) (hist : List Int) : Int := divRound ((avgStages order order hist).headD 0) (12 ^ order)

/-- The class 0x7 item of a converter range, or of a divider tap (index 1 and 2), in the bank in force; offset 0 and gain 1.0 without (R316). [DESIGN CHOICE, log 55, safe] -/
def State.metItem (s : State) (range idx : Nat) : Int × Int :=
  match s.bank.find? (fun i => i.id == 7 * 2 ^ 28 + range * 2 ^ 16 + idx * 2 ^ 8) with
  | some i => (i.a, i.b)
  | none => (0, 0x400000)

/-- The range of a converter range code in µV. -/
def metRange (r : Nat) : Nat := if r = 0 then 1000000 else if r = 1 then 10000000 else 50000000

/-- VALUE of a code (R306, R307): at the converter's own input the corrected code × range / 8,000,000 to the nearest µV; elsewhere on the scale of the
input. -/
def State.metValue (s : State) (sel range : Nat) (code : Int) : Int :=
  let it := s.metItem range 0
  let corr := (code - it.1) * it.2
  if (0x40 ≤ sel ∧ sel ≤ 0x63) ∨ (0x310 ≤ sel ∧ sel ≤ 0x317) then divRound (corr * metRange range) (8000000 * 0x400000)
  else Config.metScale sel range (s.get (R.LANE_ACTIVE_RANGE (s.leadOf (if sel ≤ 0x2F then sel else if 0x200 ≤ sel then (sel - 0x200) / 2 % 48 else sel % 48)))) corr

/-- A settled reading replaces MET_RES and MET_RES_T64 in one step, with RESULT (R310, R327). [DESIGN CHOICE, log 55, safe] -/
def State.metResult (s : State) (c : ConvSt) (code : Int) (ovr : Bool) : State :=
  let range := fieldOf c.cfg 4 2
  let v := s.metValue c.sel range code
  let hi := codeOf 24 code + (if ovr then 2 ^ 24 else 0) + (if c.unsettled then 2 ^ 25 else 0) + (if c.fallback then 2 ^ 26 else 0)
  let mid := c.at_ + Config.metZeroFirst % (40 * unitsPerTick + 1) + c.integ / 2
  let s1 := s.replaceResult R.MET_RES_LO R.MET_RES_GEN (codeOf 32 v + 2 ^ 32 * hi) (16 * c.sel)
  let s2 := s1.replaceResult R.MET_RES_T64_LO R.MET_RES_T64_GEN (t64At mid) (16 * c.sel)
  if s2.is R.MET_MC_CTRL_EVT_EN then s2.metEvt R.MET_EVT_RESULT 0x0001 (codeOf 32 v) else s2.set R.MET_EVT_RESULT 1

/-- A housekeeping scan starts (R313): user readings settle again after it. -/
def State.hkStart (s : State) : State :=
  (s.set R.MET_MC_STAT_HK 1).setMet { s.met with hkDue := false, hkAt := s.fU, hist := [] }

/-- CONVERSION_DONE (R309, R310): the conversion completes with its code; the filter updates, a settled reading replaces the result, and the next
conversion, or a waiting scan, starts. [DESIGN CHOICE, log 50, safe] -/
def State.doConversionDone (s : State) (code : Int) : State :=
  match s.met.conv with
  | none => s
  | some c =>
    if c.at_ + c.len ≤ s.fU then
      let k := clampI (-8388607) 8388607 code
      let hist := if c.stale then [] else (k :: s.met.hist).take 16
      let s1 := s.setMet { s.met with conv := none, hist := hist }
      let order := clampN 1 4 (fieldOf c.cfg 0 3)
      let full := !c.stale && decide (order ≤ hist.length)
      let s2 := if full then s1.metResult c (filtCode order hist) (k == 8388607 || k == -8388607) else s1
      let s3 := if full then s2.setMet { s2.met with want := false } else s2
      if s3.met.hkDue then s3.hkStart.mcShow
      else if s3.met.want || s3.is R.MET_MC_CTRL_CONT then s3.convKick
      else s3.mcShow
    else s

/-- CONVERSION_DONE. -/
def execConversionDone (u : Sub) (code : Int) (s : State) : Host.Outcome State Fault Refusal := done s ((s.atF u).doConversionDone code)

/-! ### LINE_SYNC (R308) -/

/-- A LINE_SYNC edge: a period within 45–65 Hz joins the average of 16 and sets LOCK. -/
def State.doLineEdge (s : State) : State :=
  if s.domOn (domF 12) then
    let s0 := s.setMet { s.met with edge := some s.fU }
    match s.met.edge with
    | none => s0
    | some e =>
      let n := (2 * (s.fU - e) + 256) / 512
      if 6153846 ≤ n ∧ n ≤ 8888889 then
        let s1 := s0.setMet { s0.met with periods := (n :: s.met.periods).take 16 }
        if s1.get R.MET_MC_CFG_LINE_SRC = 2 then
          let t := ((s1.set R.MET_LINE_LOCK 1).set R.MET_LINE_LOST 0).showLine
          if s.is R.MET_LINE_LOST then t.mcChanged else t
        else s1
      else s0
  else s

/-- LINE_SYNC_EDGE. -/
def execLineSyncEdge (u : Sub) (s : State) : Host.Outcome State Fault Refusal := done s (s.atF u).doLineEdge

/-- LINE_LOST: no edge for 100 ms. -/
def State.doLineLost (s : State) : State :=
  let late := match s.met.edge with
    | some e => decide (e + 10000 * unitsPerTick ≤ s.fU)
    | none => true
  if s.domOn (domF 12) && s.get R.MET_MC_CFG_LINE_SRC == 2 && late && !s.is R.MET_LINE_LOST then
    (((s.set R.MET_LINE_LOCK 0).set R.MET_LINE_LOST 1).showLine.mcChanged).metEvt R.MET_EVT_LINE_LOST 0x0007 0
  else s

/-- LINE_LOST. -/
def execLineLost (u : Sub) (s : State) : Host.Outcome State Fault Refusal := done s (s.atF u).doLineLost

/-! ### The reference buffer (R312) -/

/-- Ticks until READY. -/
def refWait : Nat := 10000

/-- REFBUF_ON. -/
def State.doRefbufOn (s : State) : State :=
  s.ifOn R.MET_REF (fun s =>
    if s.is R.MET_REF_MC_REFBUF then s
    else ((s.set R.MET_REF_MC_REFBUF 1).set R.MET_REF_WAIT refWait).setMet { s.met with readyAt := s.fU + refWait * unitsPerTick })

/-- REFBUF_ON. -/
def execRefbufOn (u : Sub) (s : State) : Host.Outcome State Fault Refusal := done s (s.atF u).doRefbufOn

/-- REF_READY. -/
def State.doRefReady (s : State) : State :=
  if s.is R.MET_REF_MC_REFBUF && !s.is R.MET_REF_READY && decide (s.met.readyAt ≤ s.fU) && s.powered R.MET_REF then
    ((s.set R.MET_REF_READY 1).set R.MET_REF_WAIT 0).metEvt R.MET_EVT_REF_READY 0x0002 0
  else s

/-- REF_READY. -/
def execRefReady (u : Sub) (s : State) : Host.Outcome State Fault Refusal := done s (s.atF u).doRefReady

/-- MET_REF.WAIT at a tick boundary. -/
def State.refTick (s : State) : State :=
  if s.is R.MET_REF_MC_REFBUF && !s.is R.MET_REF_READY then s.set R.MET_REF_WAIT (ceilDiv (s.met.readyAt - s.fU) unitsPerTick) else s

/-- The buffer is switched off: READY drops, and a run is to abort with result 5. -/
def State.refbufOff (s : State) : State :=
  if s.is R.MET_REF_MC_REFBUF then
    let s1 := ((s.set R.MET_REF_MC_REFBUF 0).set R.MET_REF_READY 0).set R.MET_REF_WAIT 0
    (s1.setMet { s1.met with offAt := some s1.fU }).calAbort 5
  else s

/-- REFBUF_OFF. -/
def execRefbufOff (u : Sub) (s : State) : Host.Outcome State Fault Refusal := done s ((s.atF u).ifOn R.MET_REF State.refbufOff)

/-! ### Housekeeping (R313, R314) -/

/-- MET_HK.PERIOD as stored. -/
def State.hkPeriod (s : State) : Nat := clampN 10000 6000000 (s.get R.MET_HK_PERIOD)

/-- HK_SCAN_START: at a period boundary, or after the user conversion that was in progress then. -/
def State.doHkScanStart (s : State) : State :=
  let boundary := decide (s.time.fUnit = 0 ∧ s.time.fTick % s.hkPeriod = 0)
  if s.powered R.MET_HK && !s.is R.MET_MC_STAT_HK && !s.is R.MET_MC_STAT_RUN_OWNS && (boundary || s.met.hkDue) then
    if s.met.conv.isSome then s.setMet { s.met with hkDue := true } else s.hkStart
  else s

/-- HK_SCAN_START. -/
def execHkScanStart (u : Sub) (s : State) : Host.Outcome State Fault Refusal := done s (s.atF u).doHkScanStart

/-- A new bank is to be built with the latest temperature (R324); a trigger during a build makes a further one. -/
def State.bankTrigger (s : State) : State :=
  let best := s.met.sets.foldl (fun (m : Option CalSet) x => match m with
    | none => some x.2
    | some y => if y.count < x.2.count then some x.2 else some y) (s.met.newSet.map Prod.snd)
  let tb := if s.val R.MET_TM = 0x80000000 then (best.map CalSet.temp).getD (s.sval R.MET_TM) else s.sval R.MET_TM
  if s.met.build.isSome ∨ s.met.ready.isSome then s.setMet { s.met with again := true }
  else s.setMet { s.met with build := some (s.fU, tb) }

/-- MET_TM after a scan: the mean of T0–T7; bank and due causes follow (R313, R324, R325). -/
def State.newTm (s : State) (tm : Int) : State :=
  let s1 := s.put R.MET_TM (codeOf 32 tm)
  let s2 := s1.setDueBit 0 s1.dueTemp
  if 250 ≤ (tm - s2.sval R.MET_BANK_TEMP).natAbs then s2.bankTrigger else s2

/-- The reading of 0x060 agrees with MET_CAL_REFV within ±1,000 ppm. -/
def State.refNear (s : State) (v : Int) : Bool :=
  decide ((v - (s.val R.MET_CAL_REFV : Nat)).natAbs * 1000000 ≤ 1000 * s.val R.MET_CAL_REFV)

/-- A REF_WATCH reading (R314). -/
def State.refReading (s : State) (v : Int) : State :=
  let near := match s.met.refPrev with
    | some w => s.refNear w && decide ((v - w).natAbs * 1000000 ≤ 20 * s.val R.MET_CAL_REFV)
    | none => false
  let two := s.met.refPrev.isSome
  let s1 := s.setMet { s.met with refPrev := some v }
  if s.refNear v && near then s1.set R.MET_CAL_STAT_REF_PRESENT 1
  else if !s.refNear v || two then s1.set R.MET_CAL_STAT_REF_PRESENT 0
  else s1

/-- HK_SCAN_DONE (R313): the sensors' readings in m°C, and with REF_WATCH the reading of 0x060 in µV. -/
def State.doHkScanDone (s : State) (temps : List Int) (refuv : Option Int) : State :=
  let tc := convUnits 10 s.linePeriod.1
  let watch := s.is R.MET_HK_REF_WATCH
  if s.is R.MET_MC_STAT_HK && decide (s.met.hkAt + (if watch then 17 else 16) * tc ≤ s.fU) then
    let s0 := s.set R.MET_MC_STAT_HK 0
    let good (k : Nat) : Bool := decide (k < temps.length) && s.refSettled (s.met.hkAt + k * tc)
    let s1 := (List.range 16).foldl (fun t k => if good k then t.put (R.MET_TEMP k) (codeOf 32 (temps.getD k 0)) else t) s0
    let s2 := if (List.range 8).all good then s1.newTm (divRound (sumI (temps.take 8)) 8) else s1
    let s3 := match watch, refuv with
      | true, some v => s2.refReading v
      | _, _ => s2
    if s3.met.want || s3.is R.MET_MC_CTRL_CONT then s3.convKick else s3.mcShow
  else s

/-- HK_SCAN_DONE. -/
def execHkScanDone (u : Sub) (temps : List Int) (refuv : Option Int) (s : State) : Host.Outcome State Fault Refusal :=
  done s ((s.atF u).doHkScanDone temps refuv)

/-! ### The diagnostic DAC (R315) -/

/-- Injection into a lane starts or stops: the next block of each of its streams carries GAP, and the Ledger takes the T64. -/
def State.ddacSet (s : State) (en : Nat) : State :=
  if s.get R.MET_DDAC_EN = en then s
  else
    let l := s.leadOf (s.get R.MET_DDAC_LANE)
    let s1 := s.set R.MET_DDAC_EN en
    let x := s1.lane l
    let mark (y : StreamSt) : StreamSt := { y with gap := true }
    (s1.setLane l { x with raw := mark x.raw, dec := mark x.dec, filt := mark x.filt }).ledgerF 0x1A 0x80FF 0 (leBytes 8 s1.fNow.pack)

/-- DDAC_ENABLE: a write of MET_DDAC. EN is accepted only in SERVICE or CALIBRATE while no run is in progress. -/
def State.doDdacEnable (s : State) (v : Word) : State :=
  s.ifOn R.MET_DDAC (fun s =>
    let en := fieldOf v 31 1
    let ok := (s.mode == 1 || s.mode == 2) && s.get R.MET_CAL_STAT_STATE == 0 && !s.met.runDue
    let s0 := if fieldOf v 16 6 ≠ s.get R.MET_DDAC_LANE then s.ddacSet 0 else s
    let s1 := (s0.set R.MET_DDAC_LANE (fieldOf v 16 6)).set R.MET_DDAC_CODE (fieldOf v 0 12)
    if en = 0 then s1.ddacSet 0 else if ok then s1.ddacSet 1 else s1)

/-- DDAC_ENABLE. -/
def execDdacEnable (u : Sub) (v : Word) (s : State) : Host.Outcome State Fault Refusal := done s ((s.atF u).doDdacEnable v)

end Sys2Proof.Machine
end

