-- ==== Sys2Proof/Machine/Calibration.lean ====
section
/-! DEFINITION. Calibration runs, correction sets and the bank in force (R316–R326): a run's start and end, acceptance, the image of a set on its way
between the halves, interpolation and the bank swap. -/

namespace Sys2Proof.Machine

/-! ### Items (R316, R319, R321) -/

/-- Class and lane or port of an item. -/
def itemClass (id : Nat) : Nat := id / 2 ^ 28
def itemUnit (id : Nat) : Nat := id / 2 ^ 20 % 256

/-- The slot whose pod an item belongs to; none for class 0x7. -/
def itemSlot (id : Nat) : Option Nat :=
  if itemClass id = 5 then some (itemUnit id / 16) else if itemClass id = 7 then none else some (itemUnit id / 8)

/-- The item belongs to a slot of a mask, or to none. -/
def itemIn (slots id : Nat) : Bool := (itemSlot id).all (fun q => slots.testBit q)

/-- What kind of quantity each field of an item is: offset, gain or ratio, skew or delay, or nothing (R316). -/
inductive CalField where
  | ofs | gain | skew | none
  deriving DecidableEq, Repr

/-- The three fields of a class. -/
def fieldKinds (cls : Nat) : List CalField :=
  match cls with
  | 1 => [.ofs, .gain, .skew]
  | 2 => [.skew, .none, .none]
  | 3 => [.ofs, .gain, .skew]
  | 4 => [.ofs, .gain, .none]
  | 5 => [.ofs, .gain, .none]
  | 7 => [.ofs, .gain, .none]
  | _ => [.none, .none, .none]

/-- The difference of one field of the two passes lies within MET_CAL_TOL. -/
def State.calAgrees (s : State) (id : Nat) (k : CalField) (d : Int) : Bool :=
  match k with
  | .ofs =>
    if itemClass id = 1 then decide (d.natAbs ≤ s.get R.MET_CAL_TOL_OFS)
    else if itemClass id = 7 then decide (16 * d.natAbs ≤ s.get R.MET_CAL_TOL_OFS)
    else decide (16 * d.natAbs ≤ s.get R.MET_CAL_TOL_OFS * Config.calStepUv id)
  | .gain => decide (d.natAbs * 1000000 ≤ s.get R.MET_CAL_TOL_GAIN_PPM * 0x400000)
  | .skew => decide (d.natAbs ≤ s.get R.MET_CAL_TOL_SKEW)
  | .none => true

/-- The fields of an item. -/
def itemFields (i : CalItem) : List Int := [i.a, i.b, i.c]

/-- The first field in which two passes of an item disagree: its number from 1 and the difference pass 2 minus pass 1. -/
def State.itemFail (s : State) (x y : CalItem) : Option (Nat × Int) :=
  let ds := (itemFields y).zip (itemFields x) |>.map (fun p => p.1 - p.2)
  let row := ((List.range 3).zip (fieldKinds (itemClass x.id))).zip ds
  (row.find? (fun r => !s.calAgrees x.id r.1.2 r.2)).map (fun r => (r.1.1 + 1, r.2))

/-- Span of the DAC that an item's offset belongs to, in µV. -/
def dacSpan (id : Nat) : Int :=
  match itemClass id with
  | 3 => 24000000
  | 4 => 2 * rangeSpan (id / 2 ^ 16 % 16)
  | _ => 65000000

/-- Nominal gain or ratio: the taps of class 0x7 divide by 8 and by 32. -/
def nominalGain (id : Nat) : Int :=
  if itemClass id = 7 ∧ id / 2 ^ 8 % 16 = 1 then 0x400000 / 8 else if itemClass id = 7 ∧ id / 2 ^ 8 % 16 = 2 then 0x400000 / 32 else 0x400000

/-- An item lies within its span (R319, R208): gains within 5 %, skews of sub-converters within 50 ps, offsets within 2,048 codes or 2 % of the DAC span. -/
def itemInSpan (i : CalItem) : Bool :=
  let gain := decide (19 * nominalGain i.id ≤ 20 * i.b ∧ 20 * i.b ≤ 21 * nominalGain i.id)
  match itemClass i.id with
  | 1 => gain && decide (i.a.natAbs ≤ 2048 * 16 ∧ i.c.natAbs ≤ 327)
  | 7 => gain && decide (i.a.natAbs ≤ 2048)
  | 2 => true
  | _ => gain && decide (50 * (i.a.natAbs : Int) ≤ dacSpan i.id)

/-- The mean of an item's two measurements. -/
def itemMean (x y : CalItem) : CalItem := ⟨x.id, divRound (x.a + y.a) 2, divRound (x.b + y.b) 2, divRound (x.c + y.c) 2⟩

/-- The item in ascending order of ITEM_ID. -/
def itemInsert (x : CalItem) : List CalItem → List CalItem
  | [] => [x]
  | y :: r => if x.id < y.id then x :: y :: r else if x.id = y.id then x :: r else y :: itemInsert x r

/-- A list of items in ascending order, one of each identity. -/
def itemSort (l : List CalItem) : List CalItem := l.foldr itemInsert []

/-! ### The image of a set (R321) -/

/-- The 16 bytes of an item. -/
def calItemBytes (i : CalItem) : List Byte :=
  leBytes 4 i.id ++ leBytes 4 (codeOf 32 i.a) ++ leBytes 4 (codeOf 32 i.b) ++ leBytes 4 (codeOf 32 i.c)

/-- Sixteen bytes, padded with 0. -/
def pad16 (b : List Byte) : List Byte := (b ++ List.replicate 16 0).take 16

/-- The image of a set: header and items. -/
def CalSet.image (x : CalSet) : List Byte :=
  let items := (x.items.map calItemBytes).flatten
  leBytes 4 1 ++ leBytes 4 x.items.length ++ leBytes 4 x.count ++ leBytes 2 x.era ++ leBytes 2 0 ++ leBytes 8 x.t64
    ++ leBytes 4 (codeOf 32 x.temp) ++ leBytes 4 x.refv ++ leBytes 2 x.slots ++ List.replicate 30 0
    ++ ((Config.shake256 items ++ List.replicate 32 0).take 32) ++ (((List.range 16).map (fun q => pad16 (x.ids.getD q []))).flatten) ++ items

/-- The item in 16 bytes. -/
def itemOf (b : List Byte) : CalItem := ⟨leAt b 0 4, signedOf 32 (leAt b 4 4), signedOf 32 (leAt b 8 4), signedOf 32 (leAt b 12 4)⟩

/-- FORMAT, the length and ITEMS_DIGEST of an image are right. -/
def imageGood (b : List Byte) : Bool :=
  let n := leAt b 4 4
  leAt b 0 4 == 1 && decide (n ≤ 5120) && b.length == 352 + 16 * n
    && (b.drop 64).take 32 == (Config.shake256 (b.drop 352) ++ List.replicate 32 0).take 32

/-- The set in an image. -/
def setOf (b : List Byte) : CalSet :=
  { count := leAt b 8 4, era := leAt b 12 2, t64 := leAt b 16 8, temp := signedOf 32 (leAt b 24 4), refv := leAt b 28 4, slots := leAt b 32 2,
    ids := (List.range 16).map (fun q => (b.drop (96 + 16 * q)).take 16), items := (List.range (leAt b 4 4)).map (fun i => itemOf (b.drop (352 + 16 * i))) }

/-- The 16-byte header of XM_CAL (R326). -/
def calHeader (kind place offset total : Nat) : List Byte :=
  leBytes 2 kind ++ leBytes 2 place ++ leBytes 4 offset ++ leBytes 4 total ++ leBytes 4 0

/-- Image bytes in one message. -/
def imagePiece : Nat := 65519

/-- The SET_IMAGE payloads of an image. -/
def imageMessages (place : Nat) (b : List Byte) : List (List Byte) :=
  (List.range (ceilDiv b.length imagePiece)).map (fun i =>
    calHeader 1 place (i * imagePiece) b.length ++ (b.drop (i * imagePiece)).take imagePiece)

/-! ### Usable sets (R323, R325) -/

/-- Every set in use: by place, and the accepted one that is not stored yet under place 15. [DESIGN CHOICE, log 57, unsafe] -/
def State.calSets (s : State) : List (Nat × CalSet) := s.met.sets ++ (s.met.newSet.map (fun p => (15, p.2))).toList

/-- A set's POD_ID matches the pod fitted in a slot. -/
def State.setFits (s : State) (x : CalSet) (q : Nat) : Bool :=
  x.slots.testBit q && s.podHere q && pad16 ((s.pod q).digest.take 16) == pad16 (x.ids.getD q [])

/-- An item of a set is usable. -/
def State.itemUsable (s : State) (x : CalSet) (id : Nat) : Bool := (itemSlot id).all (fun q => s.setFits x q)

/-- Slots with usable sets. -/
def State.usableSlots (s : State) : Nat :=
  ((List.range 16).filter (fun q => s.calSets.any (fun p => s.setFits p.2 q))).foldl (fun m q => m + 2 ^ q) 0

/-- DUE_CAUSE bits 1 and 2 follow the sets in use and the fitted pods. -/
def State.dueSets (s : State) : State :=
  let no := (List.range 16).any (fun q => s.podHere q && !s.usableSlots.testBit q)
  (s.setDueBit 1 no).setDueBit 2 s.calSets.isEmpty

/-! ### Interpolation (R323) -/

/-- Of sets with a value at or below `tb` the hottest, and of those at or above it the coldest. -/
def sidesOf (tb : Int) (l : List (Nat × CalSet)) : Option (Nat × CalSet) × Option (Nat × CalSet) :=
  let pick (better : Int → Int → Bool) (ok : Int → Bool) : Option (Nat × CalSet) :=
    l.foldl (fun m x => if ok x.2.temp then (match m with
      | none => some x
      | some y => if better x.2.temp y.2.temp then some x else some y) else m) none
  (pick (fun a b => decide (b < a)) (fun t => decide (t ≤ tb)), pick (fun a b => decide (a < b)) (fun t => decide (tb ≤ t)))

/-- Linear interpolation of one field, to the nearest, ties away from zero. -/
def lerp (tl th tb a b : Int) : Int := if th ≤ tl then a else divRound (a * (th - tl) + (b - a) * (tb - tl)) (th - tl).toNat

/-- An item at the bank temperature from the usable sets that hold it. -/
def State.bankItem (s : State) (tb : Int) (id : Nat) : Option CalItem :=
  let l := s.calSets.filter (fun p => s.itemUsable p.2 id && p.2.items.any (fun i => i.id == id))
  let it (p : Nat × CalSet) : CalItem := (p.2.items.find? (fun i => i.id == id)).getD ⟨id, 0, 0x400000, 0⟩
  match sidesOf tb l with
  | (some x, some y) =>
    let f (g : CalItem → Int) : Int := lerp x.2.temp y.2.temp tb (g (it x)) (g (it y))
    some ⟨id, f CalItem.a, f CalItem.b, f CalItem.c⟩
  | (some x, none) => some (it x)
  | (none, some y) => some (it y)
  | (none, none) => none

/-- The bank for a temperature: its items, MET_BANK_SRC, and the state after the free value that the weight takes with an upper place alone. [DESIGN CHOICE, log 57, unsafe] -/
def State.bankBuild (s : State) (tb : Int) : BankSt × State :=
  let ids := (s.calSets.map (fun p => p.2.items.map CalItem.id)).flatten.foldl (fun (m : List Nat) i => if m.contains i then m else i :: m) []
  let items := itemSort (ids.filterMap (fun id => s.bankItem tb id))
  let used := s.calSets.filter (fun p => p.2.items.any (fun i => s.itemUsable p.2 i.id))
  let w : Nat × Nat × Nat × State := match sidesOf tb used with
    | (some x, some y) =>
      (x.1, y.1, if y.2.temp ≤ x.2.temp then 0 else min 65535 (divRound ((tb - x.2.temp) * 65536) (y.2.temp - x.2.temp).toNat).toNat, s)
    | (some x, none) => (x.1, 15, 0, s)
    | (none, some y) => let f := s.fresh 16; (15, y.1, f.1, f.2)
    | (none, none) => (15, 15, 0, s)
  ({ tb := tb, src := w.2.2.1 * 65536 + w.2.1 * 16 + w.1, slots := s.usableSlots, items := items, accepted := s.met.accepted }, w.2.2.2)

/-- BANK_READY (R324): the bank that is being built is ready; a trigger since its start begins a further build. -/
def State.doBankReady (s : State) : State :=
  match s.met.build with
  | some (_, tb) =>
    let r := s.bankBuild tb
    let s1 := r.2.setMet { r.2.met with build := none, ready := some (s.fU, r.1), accepted := false }
    if s.met.again then
      let t := s1.setMet { s1.met with again := false, ready := none }
      let u := t.bankTrigger
      u.setMet { u.met with ready := some (s.fU, r.1) }
    else s1
  | none => s

/-- BANK_READY. -/
def execBankReady (u : Sub) (s : State) : Host.Outcome State Fault Refusal := done s (s.atF u).doBankReady

/-- Corrected level codes of a REMOTE port travel to its pod (R112, R324). -/
def State.levelsAgain (s : State) (p : Port) : State :=
  let lv := [LevelReg.drvHi, .drvLo, .cmpHi, .cmpLo, .term]
  let q := p.val / 16
  let x := s.pod q
  (s.set (R.PIN_STAT_LVL_PENDING p) 1).setPod q { x with levels := x.levels.filter (fun y => y.1 != p) ++ lv.map (fun w => (p, w)) }

/-- De-skew values of an accepted run, and those of lane roles, follow the bank (R119, R319). -/
def State.bankDeskew (s : State) (accepted : Bool) (runs : List (Nat × List Nat)) : State :=
  (List.range 256).foldl (fun t p =>
    if t.role p = roleLaneCmp ∨ t.role p = roleLaneDrv then t.deskewLane p
    else if accepted && t.role p == roleRemote then
      match runs.find? (fun r => r.1 == p) with
      | some r => t.deskewRemote p r.2
      | none => t
    else t) s

/-- BANK_SWAP (R324): at the first tick boundary after a bank is ready it takes effect. -/
def State.doBankSwap (s : State) : State :=
  match s.met.ready with
  | some (t, b) =>
    if s.time.fUnit = 0 ∧ t < s.fU then
      let s1 := ({ s with bank := b.items }).setMet { s.met with ready := none, deskew := if b.accepted then [] else s.met.deskew }
      let s2 := ((s1.put R.MET_BANK_ID (s.val R.MET_BANK_ID + 1)).put R.MET_BANK_TEMP (codeOf 32 b.tb)).put R.MET_BANK_SRC b.src
      let s3 := (List.range 48).foldl State.showIlv s2
      let s4 := (List.finRange 256).foldl (fun u p => if u.role p = roleRemote then u.levelsAgain p else u) s3
      let s5 := s4.bankDeskew b.accepted s.met.deskew
      let s6 := if b.accepted then s5.replaceResult R.MET_CAL_LAST_LO R.MET_CAL_LAST_GEN s5.fNow.pack else s5
      let pl (n : Nat) : Nat := if n = 15 then 0xFF else n
      let d := leBytes 4 (s6.val R.MET_BANK_ID) ++ leBytes 4 (codeOf 32 b.tb) ++ leBytes 1 (pl (b.src % 16)) ++ leBytes 1 (pl (b.src / 16 % 16))
        ++ leBytes 2 (b.src / 65536) ++ leBytes 2 b.slots ++ List.replicate 18 0
      let s7 := s6.sendFH 0x71 7 s6.fNow.pack (calHeader 3 0xFFFF 0 0 ++ d)
      (s7.metEvtL R.MET_EVT_BANK_SWAP 0x0006 (s7.val R.MET_BANK_ID)).dueSets
    else s
  | none => s

/-! ### Runs (R317–R320) -/

/-- A run is refused (R317). -/
def State.runRefused (s : State) : Bool :=
  s.mode != 2 || s.upd.holding || s.met.runDue || s.get R.MET_CAL_STAT_STATE != 0 || !s.is R.MET_REF_READY
    || (List.range 48).any (fun g => s.is (R.GEN_CTRL_EN g))
    || (List.range 256).any (fun p => s.role p == roleLaneDrv && s.is (R.PIN_CTRL_EN p)) || s.is R.MET_DDAC_EN

/-- A run is started, to begin at the next tick boundary (R317, R318). -/
def State.runRequest (s : State) : State :=
  if s.runRefused then s.set R.MET_CAL_STAT_RESULT 6
  else ((s.set R.MET_CAL_CTRL_RUN 1).set R.MET_CAL_STAT_STATE 1).setMet { s.met with runDue := true }

/-- CAL_RUN. -/
def execCalRun (u : Sub) (s : State) : Host.Outcome State Fault Refusal := done s ((s.atF u).ifOn R.MET_CAL_CTRL State.runRequest)

/-- CAL_AUTO_START (R317). -/
def State.doCalAutoStart (s : State) : State :=
  let due := s.get R.MET_CAL_STAT_DUE_CAUSE
  if s.powered R.MET_CAL_CTRL && s.is R.MET_CAL_CTRL_AUTO_EN && (due.testBit 0 || due.testBit 1) && s.is R.MET_CAL_STAT_REF_PRESENT
      && s.is R.MET_REF_READY && s.mode == 2 then s.runRequest else s

/-- CAL_AUTO_START. -/
def execCalAutoStart (u : Sub) (s : State) : Host.Outcome State Fault Refusal := done s (s.atF u).doCalAutoStart

/-- A run ends: XM_CAL RUN_END, CAL_DONE, the pods reconnect and the converter is free again (R319, R320, R326). -/
def State.runFinish (s : State) (res : Nat) (temp : Int) (items : Nat) : State :=
  let s1 := ((s.set R.MET_CAL_STAT_STATE 0).set R.MET_CAL_STAT_PASS 0).set R.MET_CAL_STAT_RESULT res
  let s2 := (s1.set R.MET_CAL_CTRL_RUN 0).set R.MET_MC_STAT_RUN_OWNS 0
  let s3 := (List.range 48).foldl (fun t l => if t.podHere (l / 8) then t.setLane l { t.lane l with inGap := false } else t) s2
  let d := leBytes 4 res ++ leBytes 4 (s3.val R.MET_CAL_FAIL_ITEM) ++ leBytes 4 (s3.val R.MET_CAL_FAIL_DIFF) ++ leBytes 4 (codeOf 32 temp)
    ++ leBytes 4 (s3.val R.MET_CAL_COUNT) ++ leBytes 2 s.met.runSlots ++ leBytes 2 0 ++ leBytes 4 items ++ leBytes 4 0
  let s4 := (s3.sendFH 0x71 7 s3.fNow.pack (calHeader 4 0xFFFF 0 0 ++ d)).metEvt R.MET_EVT_CAL_DONE 0x0004 res
  let s5 := { s4 with fault := { s4.fault with calAbort := none }, met := { s4.met with runDue := false, runSlots := 0 } }
  if s5.met.want || s5.is R.MET_MC_CTRL_CONT then s5.convKick else s5

/-- A run that is due begins at a tick boundary; without a negotiated pod it ends at once (R317, R318). -/
def State.runStart (s : State) : State :=
  if s.met.runDue then
    let slots := (List.range 16).filter (fun q => s.get (R.POD_S_STAT_STATE q) == 4)
    let s1 := s.setMet { s.met with runDue := false, runSlots := slots.foldl (fun m q => m + 2 ^ q) 0 }
    let s2 := s1.metEvtL R.MET_EVT_CAL_START 0x0003 (s1.val R.MET_CAL_COUNT)
    if slots.isEmpty then s2.runFinish 8 0 0
    else
      let s3 := ((s2.set R.MET_MC_STAT_RUN_OWNS 1).set R.MET_CAL_STAT_PASS 1).setMet { s2.met with conv := none, hist := [], hkDue := false }
      let s4 := (s3.set R.MET_MC_STAT_HK 0).mcShow
      (List.range 48).foldl (fun t l =>
        if t.is (R.LANE_STAT_PRESENT l) then let u := t.laneGap l t.fU; u.setLane l { u.lane l with inGap := true } else t) s4
  else s

/-- Nominal level of a threshold DAC of a window (R291, R304): HI, HI − HYST, LO + HYST, LO. -/
def State.dacNominal (s : State) (w d : Nat) : Int :=
  let hi := s.sval (R.GRD_W_HI w)
  let lo := s.sval (R.GRD_W_LO w)
  let y : Int := s.val (R.GRD_W_HYST w)
  match d with
  | 0 => hi
  | 1 => hi - y
  | 2 => lo + y
  | _ => lo

/-- The readback of a window's threshold DACs (R304): beyond 1.5 steps + 2 mV it fails. -/
def State.readbackWindow (s : State) (dacs : List (Nat × Int)) (w : Nat) : State :=
  let mine := dacs.filter (fun x => x.1 / 4 == w)
  let step2 : Int := 3 * (s.winLevel w 1)
  let bad := mine.any (fun x => decide (step2 + 4000 < 2 * ((x.2 - s.dacNominal w (x.1 % 4)).natAbs : Int)))
  if mine.isEmpty then s
  else if bad then
    ((s.set (R.GRD_W_STAT_RB_FAIL w) 1).winEvent w 0x0006 s.fNow.pack true).fieldFault 0x52 w
  else s.set (R.GRD_W_STAT_RB_FAIL w) 0

/-- Why two passes are rejected: result, item with its field, difference (R319). [DEDUCED, log 56, unsafe] -/
def State.runVerdict (s : State) (pairs : List (CalItem × CalItem)) (t1 t2 : Int) : Option (Nat × Nat × Int) :=
  match pairs.findSome? (fun p => (s.itemFail p.1 p.2).map (fun f => (p.1.id + f.1, f.2))) with
  | some (i, d) => some (2, i, d)
  | none =>
    if s.get ⟨R.MET_CAL_DT, 0, 16⟩ < 2 * (t2 - t1).natAbs then some (3, 0, 0)
    else if pairs.any (fun p => !itemInSpan (itemMean p.1 p.2)) then some (7, 0, 0)
    else none

/-- The run is accepted (R319, R322, R324): its set comes into use and travels to the host half, and a new bank is built. -/
def State.runAccept (s : State) (items : List CalItem) (temp : Int) (deskew : List (Nat × List Nat)) : State :=
  let s1 := (s.metCount R.MET_CAL_COUNT 1).put R.MET_CAL_LAST_TEMP (codeOf 32 temp)
  let ids := (List.range 16).map (fun q => if s.met.runSlots.testBit q then pad16 ((s.pod q).digest.take 16) else List.replicate 16 0)
  let x : CalSet := { count := s1.val R.MET_CAL_COUNT, era := s.time.fEra, t64 := s.fNow.pack, temp := temp, refv := s.val R.MET_CAL_REFV,
                      slots := s.met.runSlots, ids := ids, items := items }
  let s2 := s1.setMet { s1.met with newSet := some (s.fU, x), deskew := deskew, accepted := true }
  let s3 := (imageMessages 0xFFFF x.image).foldl (fun t pl => t.sendFH 0x71 7 t.fNow.pack pl) s2
  (((s3.setDueBit 0 false).setDueBit 2 false).bankTrigger).dueSets

/-- CAL_RUN_END (R319, R304, R326): the two passes are compared and the set is accepted or rejected. -/
def State.doCalRunEnd (s : State) (r : CalRun) : State :=
  if s.get R.MET_CAL_STAT_STATE = 1 ∧ s.get R.MET_MC_STAT_RUN_OWNS = 1 then
    let first := itemSort (r.p1.items.filter (fun i => itemIn s.met.runSlots i.id))
    let pairs := first.filterMap (fun x => (r.p2.items.find? (fun y => y.id == x.id)).map (fun y => (x, y)))
    let temp := divRound (r.p1.temp + r.p2.temp) 2
    let s1 := (List.range 64).foldl (fun t w => t.readbackWindow r.dacs w) s
    let s2 := if s1.is R.MET_CAL_CTRL_REPORT_PTS then
        r.points.foldl (fun t p => t.sendItem 7 0 p.1 0 (0x80000000 + p.2.1) t.fNow.pack 0 (max 1 p.2.2.length) [(p.2.2, false)]) s1
      else s1
    let s3 := s2.newTm r.p2.temp
    match s3.runVerdict pairs r.p1.temp r.p2.temp with
    | some (res, item, d) =>
      let t := if res = 2 then (s3.put R.MET_CAL_FAIL_ITEM item).put R.MET_CAL_FAIL_DIFF (codeOf 32 d) else s3
      (t.metCount R.MET_CAL_REJ 1).runFinish res temp pairs.length
    | none =>
      let t := s3.runAccept (pairs.map (fun p => itemMean p.1 p.2)) temp (r.deskew.map (fun d => (d.1.val, d.2)))
      t.runFinish 1 temp pairs.length
  else s

/-- CAL_RUN_END. -/
def execCalRunEnd (u : Sub) (r : CalRun) (s : State) : Host.Outcome State Fault Refusal := done s ((s.atF u).doCalRunEnd r)

/-- CAL_ABORT: ABORT requests the abort of a run (R320). -/
def execCalAbort (u : Sub) (s : State) : Host.Outcome State Fault Refusal := done s ((s.atF u).ifOn R.MET_CAL_CTRL (fun t => t.calAbort 5))

/-- CAL_ABORT_DONE (R320): at the end of the measurement point the run ends with the result of its abort; with `refLost` because a reading
showed the reference absent or off. -/
def State.doCalAbortDone (s : State) (refLost : Bool) : State :=
  if s.get R.MET_CAL_STAT_STATE = 0 then s
  else
    match s.fault.calAbort with
    | some res => s.runFinish res 0 0
    | none => if refLost then (s.set R.MET_CAL_STAT_REF_PRESENT 0).runFinish 4 0 0 else s

/-- CAL_ABORT_DONE. -/
def execCalAbortDone (u : Sub) (refLost : Bool) (s : State) : Host.Outcome State Fault Refusal := done s ((s.atF u).doCalAbortDone refLost)

/-- SET_STORE_TIMEOUT (R322): 100,000 ticks after its acceptance a set is not stored. -/
def State.doSetStoreTimeout (s : State) : State :=
  match s.met.newSet with
  | some (t, _) => if t + 100000 * unitsPerTick ≤ s.fU then s.setDueBit 4 true else s
  | none => s

/-- SET_STORE_TIMEOUT. -/
def execSetStoreTimeout (u : Sub) (s : State) : Host.Outcome State Fault Refusal := done s (s.atF u).doSetStoreTimeout

/-- MET_CAL_CLR_STATS (R328). -/
def execMetCalClrStats (u : Sub) (s : State) : Host.Outcome State Fault Refusal :=
  done s ((s.atF u).ifOn R.MET_CAL_CTRL (fun t => t.put R.MET_CAL_REJ 0))

/-! ### Sets on their way (R322, R326) -/

/-- MET_SETS, SET_TEMP and SET_COUNT show the set of a place. [DESIGN CHOICE, log 57, unsafe] -/
def State.showSet (s : State) (k : Nat) : State :=
  match s.met.sets.find? (fun p => p.1 == k) with
  | some (_, x) => ((s.set ⟨R.MET_SETS, k, 1⟩ 1).put (R.MET_SET_TEMP k) (codeOf 32 x.temp)).put (R.MET_SET_COUNT k) x.count
  | none => ((s.set ⟨R.MET_SETS, k, 1⟩ 0).put (R.MET_SET_TEMP k) 0).put (R.MET_SET_COUNT k) 0

/-- A set comes into use in a place. -/
def State.placeSet (s : State) (k : Nat) (x : CalSet) : State :=
  ((s.setMet { s.met with sets := (k, x) :: s.met.sets.filter (fun p => p.1 != k) }).showSet k).set ⟨R.MET_SETS, 8 + k, 1⟩ 1

/-- An image has arrived whole at the field half: it is used, or its place has failed its digest. -/
def State.imageLoaded (s : State) (k : Nat) (b : List Byte) : State :=
  if imageGood b then
    let x := setOf b
    let s1 := s.placeSet k x
    let s2 := if s1.val R.MET_CAL_COUNT ≤ x.count then (s1.put R.MET_CAL_COUNT x.count).put R.MET_CAL_LAST_TEMP (codeOf 32 x.temp) else s1
    ((s2.setDueBit 0 s2.dueTemp).bankTrigger).dueSets
  else (s.setMet { s.met with badPlaces := k :: s.met.badPlaces.erase k }).setDueBit 3 true

/-- The KIND of an XM_CAL and its length fit (R326). -/
def calFits (pl : List Byte) (toField : Bool) : Bool :=
  let n := pl.length
  match leAt pl 0 2 with
  | 1 => decide (17 ≤ n ∧ n ≤ 16 + imagePiece)
  | 2 => toField && n == 16
  | 3 => !toField && n == 48
  | 4 => !toField && n == 48
  | 5 => toField && n == 16
  | _ => false

/-- A piece of an image joins those that came before it; a piece out of order starts nothing. -/
def imageJoin (old : Option (Nat × Nat × List Byte)) (pl : List Byte) : Option (Nat × Nat × List Byte) :=
  let place := leAt pl 2 2
  let ofs := leAt pl 4 4
  let total := leAt pl 8 4
  if ofs = 0 then some (place, total, pl.drop 16)
  else
    match old with
    | some (p, t, b) => if p = place ∧ t = total ∧ b.length = ofs then some (p, t, b ++ pl.drop 16) else none
    | none => none

/-- The field half drops a place (R326); a place that held no set is one whose digest failed at load (R322). -/
def State.setDrop (s : State) (k : Nat) : State :=
  if s.met.sets.any (fun p => p.1 == k) then
    (((s.setMet { s.met with sets := s.met.sets.filter (fun p => p.1 != k) }).showSet k).set ⟨R.MET_SETS, 8 + k, 1⟩ 0).dueSets
  else (s.setMet { s.met with badPlaces := k :: s.met.badPlaces.erase k }).setDueBit 3 true

/-- The management core has stored the accepted set in a place (R322, R325). -/
def State.setStored (s : State) (k : Nat) : State :=
  let s1 := match s.met.newSet with
    | some (_, x) => (s.setMet { s.met with newSet := none }).placeSet k x
    | none => s.set ⟨R.MET_SETS, 8 + k, 1⟩ 1
  let s2 := s1.setDueBit 4 false
  if s2.met.badPlaces.contains k then
    let t := s2.setMet { s2.met with badPlaces := s2.met.badPlaces.erase k }
    t.setDueBit 3 !t.met.badPlaces.isEmpty
  else s2

/-- An XM_CAL with a KIND or LENGTH that does not fit is discarded, and the Ledger names the KIND (R326). -/
def State.calBad (s : State) (pl : List Byte) : State := s.ledgerF 0x1A 0x80FF 0 (leBytes 4 (leAt pl 0 2))

/-- The field half takes an XM_CAL. -/
def State.calToField (s : State) (pl : List Byte) : State :=
  let k := leAt pl 2 2
  if !calFits pl true || 8 ≤ k then s.calBad pl
  else
    match leAt pl 0 2 with
    | 1 =>
      match imageJoin s.met.rx pl with
      | some (p, t, b) =>
        if t ≤ b.length then (s.setMet { s.met with rx := none }).imageLoaded p b else s.setMet { s.met with rx := some (p, t, b) }
      | none => s.setMet { s.met with rx := none }
    | 2 => s.setDrop k
    | 5 => s.setStored k
    | _ => s

/-- The place for a new image (R322): nearest within CAL_DT / 2, else free, else the lowest CAL_COUNT of neither highest nor lowest temperature. -/
def State.choosePlace (s : State) (temp : Int) : Nat :=
  let held := s.met.store.map (fun p => (p.1, setOf p.2))
  let dist (x : CalSet) : Nat := (x.temp - temp).natAbs
  let least (f : Nat × CalSet → Nat) (l : List (Nat × CalSet)) : Option Nat :=
    (l.foldl (fun (m : Option (Nat × CalSet)) x => match m with
      | none => some x
      | some y => if f x < f y ∨ (f x = f y ∧ x.1 < y.1) then some x else some y) none).map Prod.fst
  match least (fun x => dist x.2) (held.filter (fun x => decide (2 * dist x.2 ≤ s.get ⟨R.MET_CAL_DT, 0, 16⟩))) with
  | some k => k
  | none =>
    match (List.range 8).find? (fun k => !held.any (fun x => x.1 == k)) with
    | some k => k
    | none =>
      let inner := held.filter (fun x => held.any (fun y => decide (y.2.temp < x.2.temp)) && held.any (fun y => decide (x.2.temp < y.2.temp)))
      (least (fun x => x.2.count) inner).getD 0

/-- An accepted set's image has arrived whole at the host half (R322): it is written to its place, with a Ledger entry, and STORED is sent. -/
def State.imageStore (s : State) (b : List Byte) : State :=
  let k := s.choosePlace (setOf b).temp
  let s1 := s.setMet { s.met with store := (k, b) :: s.met.store.filter (fun p => p.1 != k) }
  let s2 := s1.ledgerH 0x1A 0x80FF 0 (leBytes 4 (leAt (Config.shake256 b) 0 4) ++ leBytes 4 k)
  s2.sendHF 0x71 7 s2.hNow.pack (calHeader 5 k 0 0)

/-- The host half takes an XM_CAL. -/
def State.calToHost (s : State) (pl : List Byte) : State :=
  if !calFits pl false then s.calBad pl
  else if leAt pl 0 2 = 1 then
    match imageJoin s.met.hrx pl with
    | some (p, t, b) => if t ≤ b.length then (s.setMet { s.met with hrx := none }).imageStore b else s.setMet { s.met with hrx := some (p, t, b) }
    | none => s.setMet { s.met with hrx := none }
  else s

end Sys2Proof.Machine
end

