-- ==== Sys2Proof/Machine/Avail.lean ====
section
/-! DEFINITION. Availability accounting (R449–R451): the ticks of SENTINEL, what is known of each, the judgement at a seal, episodes and
daily sums. -/

namespace Sys2Proof.Machine

/-- Ticks of a day, and days of an era that hold whole days and the rest (R451). -/
def ticksPerDay : Nat := 8640000000
def daysPerEra : Nat := ticksPerEra / ticksPerDay + 1

/-- The day of a tick counted across eras; days run from tick 0 of the era (R451). -/
def dayOf (t : Nat) : Nat := t / ticksPerEra * daysPerEra + t % ticksPerEra / ticksPerDay

/-- Host tick now across eras. -/
def State.hAbs (s : State) : Nat := absTick s.era s.time.hTick

/-- Count in a 64-bit SAT counter of the FLT block. -/
def State.availCount (s : State) (a n : Nat) : State :=
  let old := s.val64 a
  let new := satAdd 64 old n
  if old < 2 ^ 64 - 1 ∧ new = 2 ^ 64 - 1 then (s.put64 a new).set R.FLT_EVT_SATURATED 1 else s.put64 a new

/-- SENTINEL is in force, or was when the module reset whose start-up runs was taken (R442, R449, R451). -/
def State.counting (s : State) : Bool := s.mode == 7 || s.avail.sentinel

/-- A tick of SENTINEL begins (R449): it waits for its judgement, or counts as unpowered. `supply`: the field supply is present. -/
def State.availTick (s : State) (supply : Bool) : State :=
  let s1 := s.set R.AVAIL_STAT_COUNTING (if s.counting then 1 else 0)
  if !s.counting then s1
  else if supply then
    let r : TickRec := { abs := s.hAbs, quiet := s.is R.GRD_QUIET_ACTIVE, down := !s.linkUp, gap := s.link.gapFrom.isSome }
    { s1 with avail := { s1.avail with recs := s1.avail.recs ++ [r] } }
  else s1.availCount R.AVAIL_UNPOWERED_LO 1

/-- Change what is known of a tick. -/
def State.availNote (s : State) (t : Nat) (f : TickRec → TickRec) : State :=
  { s with avail := { s.avail with recs := s.avail.recs.map (fun r => if r.abs == t then f r else r) } }

/-- The ticks from `a` to `b`, counted across eras, are a gap of a stream. -/
def State.availGap (s : State) (a b : Nat) : State :=
  { s with avail := { s.avail with recs := s.avail.recs.map (fun r => if a ≤ r.abs && r.abs ≤ b then { r with gap := true } else r) } }

/-- Bits of AVAIL_STAT.CAUSE (R450): 0 LINK, 1 GAP, 2 LOSS, 3 UNSEALED, 4 RESET; 0 for a covered tick. -/
def AvailSt.causes (a : AvailSt) (r : TickRec) : Nat :=
  (if r.down || !r.reported then 1 else 0) + (if r.gap then 2 else 0)
    + (if r.loss || a.losses.any (fun p => p.1 ≤ r.abs && r.abs ≤ p.2) then 4 else 0)
    + (if a.cover ≤ r.abs then 8 else 0)
    + (if a.reset.any (fun p => p.1 ≤ r.abs && r.abs ≤ p.2) then 16 else 0)

/-- AVAIL_YEAR_UNCOV and AVAIL_BUDGET_LEFT from the newest complete days, at most 365 (R451). -/
def State.availYear (s : State) : State :=
  let today := dayOf s.hAbs
  let sum := ((s.avail.days.filter (fun p => p.1 < today && today ≤ p.1 + 365)).map Prod.snd).foldl (· + ·) 0
  (s.put R.AVAIL_YEAR_UNCOV (min sum (2 ^ 32 - 1))).put R.AVAIL_BUDGET_LEFT (codeOf 32 ((3153600 : Int) - (sum : Nat)))

/-- One more uncovered tick in its day's sum; days older than a year leave. -/
def dayAdd (l : List (Nat × Nat)) (d : Nat) : List (Nat × Nat) :=
  match l with
  | [] => [(d, 1)]
  | (e, n) :: r => if e = d then (e, n + 1) :: r else (e, n) :: dayAdd r d

/-- An episode of uncovered ticks ends (R450): AVAIL_EPISODES, AVAIL_WORST and the Ledger entry with its first and last tick and its causes. -/
def State.availEpisodeEnd (s : State) : State :=
  match s.avail.ep with
  | none => s
  | some (a, b, c) =>
    let s1 := (s.satCount R.AVAIL_EPISODES 32 1 R.FLT_EVT_SATURATED).1
    let s2 := s1.put R.AVAIL_WORST (max (s1.val R.AVAIL_WORST) (min (b - a + 1) (2 ^ 32 - 1)))
    let s3 := ({ s2 with avail := { s2.avail with ep := none } }).set R.AVAIL_STAT_IN_EPISODE 0
    s3.ledgerH 0x06 0x80FF 0 (leBytes 8 ((T64.mk (a % ticksPerEra) 0 0).pack) ++ leBytes 8 ((T64.mk (b % ticksPerEra) 0 0).pack) ++ leBytes 4 c)

/-- Judge one tick (R449). -/
def State.availJudge1 (s : State) (r : TickRec) : State :=
  let s1 := s.availCount R.AVAIL_TICKS_LO 1
  let s2 := if r.quiet then s1.availCount R.AVAIL_QUIET_LO 1 else s1
  let c := s2.avail.causes r
  if c = 0 then (s2.availCount R.AVAIL_COVERED_LO 1).availEpisodeEnd
  else
    let s3 := s2.availCount R.AVAIL_UNCOVERED_LO 1
    let s4 := match s3.avail.ep with
      | some (a, b, k) => if b + 1 = r.abs then { s3 with avail := { s3.avail with ep := some (a, r.abs, k ||| c) } }
          else let t := s3.availEpisodeEnd; { t with avail := { t.avail with ep := some (r.abs, r.abs, c) } }
      | none => { s3 with avail := { s3.avail with ep := some (r.abs, r.abs, c) } }
    let causes := (s4.avail.ep.map (fun e => e.2.2)).getD 0
    let s5 := { s4 with avail := { s4.avail with days := dayAdd s4.avail.days (dayOf r.abs) } }
    (s5.set R.AVAIL_STAT_IN_EPISODE 1).set R.AVAIL_STAT_CAUSE causes

/-- At a seal of instant `t` every tick at least 1,000,000 ticks older is judged, and its counts never change again (R449). -/
def State.availJudge (s : State) (t : Nat) : State :=
  let due := s.avail.recs.filter (fun r => r.abs + 1000000 ≤ t)
  let s1 := { s with avail := { s.avail with recs := s.avail.recs.filter (fun r => !(r.abs + 1000000 ≤ t)) } }
  if due.isEmpty then s1 else (due.foldl State.availJudge1 s1).availYear

/-- Clear every AVAIL counter and daily sum (R451, AVAIL_CTRL.CLR by commit). -/
def State.availClear (s : State) : State :=
  let s1 := [R.AVAIL_TICKS_LO, R.AVAIL_COVERED_LO, R.AVAIL_UNCOVERED_LO, R.AVAIL_UNPOWERED_LO, R.AVAIL_QUIET_LO].foldl (fun t a => t.put64 a 0) s
  let s2 := s1.putAll [R.AVAIL_EPISODES, R.AVAIL_WORST] 0
  ({ s2 with avail := { s2.avail with days := [] } }).availYear

end Sys2Proof.Machine
end

