-- ==== Sys2Proof/Machine/Pods.lean ====
section
/-! DEFINITION. Jigaet pods (R329–R350, R485): pod power, the management link and its requests, attaching, identity, the stress ledger, removal. -/

namespace Sys2Proof.Machine

/-! ### What a slot shows -/

/-- States of a slot. -/
def podEmpty : Nat := 0
def podDebounce : Nat := 1
def podPowering : Nat := 2
def podNegotiating : Nat := 3
def podAttached : Nat := 4
def podRefused : Nat := 5
def podLinkLost : Nat := 6
def podOff : Nat := 7

/-- Declared power of a slot in the sum of R332: 4,500 mW until CAPS have been read. -/
def State.slotPower (s : State) (q : Nat) : Nat :=
  if s.is (R.POD_S_STAT_POWERED q) then (if s.get (R.POD_S_CAPS_DECL_MW q) = 0 then 4500 else s.get (R.POD_S_CAPS_DECL_MW q)) else 0

/-- POD_STAT and POD_PWR_USED show the slots. -/
def State.podShow (s : State) : State :=
  let bits (f : Nat → Bool) : Nat := ((List.range 16).filter f).foldl (fun m q => m + 2 ^ q) 0
  let s1 := s.set R.POD_STAT_POWERED (bits (fun q => s.is (R.POD_S_STAT_POWERED q)))
  (s1.set R.POD_STAT_ATTACHED (bits (fun q => s.get (R.POD_S_STAT_STATE q) == podAttached))).put R.POD_PWR_USED (sumTo 16 s.slotPower)

/-- A slot changes STATE. -/
def State.podState (s : State) (q st : Nat) : State :=
  if s.get (R.POD_S_STAT_STATE q) = st then s else ((s.set (R.POD_S_STAT_STATE q) st).set R.POD_EVT_CHANGE 1).podShow

/-- An event of a slot (R349). -/
def State.podEvt (s : State) (q : Nat) (f : Fld) (code : Nat) : State := s.evt f 0x1B code q (fun t => leBytes 4 (t.val (R.POD_S_STAT q)))

/-- Count in a SAT counter of a slot. -/
def State.podCount (s : State) (q a n : Nat) : State :=
  let r := s.satCount a 32 n (R.POD_S_EVT_SATURATED q)
  if r.2 then (r.1.set R.POD_EVT_SATURATED 1).podEvt q (R.POD_S_EVT_SATURATED q) 0x000A else r.1

/-- The drivers of a slot's ports are off: the pod is sense-only. -/
def State.slotSense (s : State) (q : Nat) : State := (List.range 16).foldl (fun t i => t.driverOff (16 * q + i)) s

/-- HOLD_N is low for a slot (R330). -/
def State.holdLow (s : State) (q : Nat) : Bool :=
  let x := s.pod q
  !x.released || x.lossHeld || s.is (R.POD_S_STAT_EXHAUSTED q) || s.is (R.POD_S_CTRL_HOLD q) || s.is R.FCTL_STAT_FATAL

/-- HELD shows HOLD_N while the slot holds a pod; a pod that becomes held is sense-only. -/
def State.showHeld (s : State) (q : Nat) : State :=
  let low := s.is (R.POD_S_STAT_PRESENT q) && s.holdLow q
  let s1 := s.set (R.POD_S_STAT_HELD q) (if low then 1 else 0)
  if low && !s.is (R.POD_S_STAT_HELD q) then s1.slotSense q else s1

/-- What the pod declared is forgotten. -/
def State.podForget (s : State) (q : Nat) : State :=
  let regs := [R.POD_S_INFO q, R.POD_S_CAPS q, R.POD_S_DELAY q, R.POD_S_GDELAY q]
    ++ (List.range 4).map (fun k => R.POD_S_SERIAL q k) ++ (List.range 5).map (fun r => R.POD_S_SETTLE q r)
    ++ (List.range 4).map (fun k => R.POD_S_STRESS q k) ++ (List.range 4).map (fun k => R.POD_S_EOL q k) ++ [R.POD_S_LEDGER_IDX q]
  (((s.putAll regs 0).set (R.POD_S_STAT_WORN q) 0).set (R.POD_S_STAT_EXHAUSTED q) 0).set (R.POD_S_STAT_AUTH_OK q) 0

/-! ### Leaving service (R94, R115, R347) -/

/-- The streams of a slot's lanes and ports become a gap from the instant now. -/
def State.podGap (s : State) (q : Nat) : State :=
  let s1 := if q < 6 then
      (List.range 8).foldl (fun t i =>
        let l := 8 * q + i
        if t.is (R.LANE_STAT_PRESENT l) && !(t.lane l).inGap then let v := t.laneGap l t.fU; v.setLane l { v.lane l with inGap := true } else t) s
    else s
  let s2 := { s1 with link := { s1.link with gapFH := 2 :: s1.link.gapFH.erase 2 } }
  s2.setMet { s2.met with runSlots := s2.met.runSlots &&& (65535 ^^^ 2 ^ q) }

/-- Roles become NONE, de-skew values are no longer valid, and the slot's lanes have no pod. -/
def State.podUnrole (s : State) (q : Nat) : State :=
  let s1 := (List.range 16).foldl (fun t i =>
    let p := 16 * q + i
    ((t.set (R.PIN_STAT_DESKEW_VALID p) 0).set (R.PIN_STAT_DESKEW_BUSY p) 0).setRole p roleNone) s
  if q < 6 then (List.range 8).foldl (fun t i => t.set (R.LANE_STAT_PRESENT (8 * q + i)) 0) s1 else s1

/-- Power off: the link is silent and the pod's declarations go. -/
def State.podPowerOff (s : State) (q : Nat) : State :=
  let x := s.pod q
  let s1 := ((s.podForget q).set (R.POD_S_STAT_POWERED q) 0).set (R.POD_S_STAT_LINK_UP q) 0
  let s2 := s1.setPod q { x with cur := none, hold := none, cfg := false, levels := [], poll := false, stress := false, chalDue := false, asked := [],
                                 step := 0, attachDue := false, lostAt := none, reneg := false, selfHeld := false, lossHeld := false,
                                 released := false, recheckAt := none, recheckFails := 0, sig := none }
  (s2.set (R.POD_S_STAT_RATE q) 0).podShow.showHeld q

/-- A pod is refused: its slot leaves service and is powered off (R339, R343). -/
def State.podRefuse (s : State) (q reason : Nat) (evt : Bool := true) : State :=
  let s1 := if s.podHere q then ((s.podGap q).podState q podRefused).podUnrole q else s.podState q podRefused
  let s2 := ((s1.podPowerOff q).set (R.POD_S_STAT_REFUSE q) reason).dueSets
  let s3 := s2.podEvt q (R.POD_S_EVT_REFUSED q) 0x0003
  if evt then s3.fieldFault (0x80 + q) 0 else s3

/-! ### The management link (R333–R337) -/

/-- Response time of a command in units (R337). -/
def podWait (cmd : Nat) : Nat :=
  match cmd with
  | 0x05 => 20 * unitsPerTick
  | 0x06 => 5000 * unitsPerTick
  | 0x07 => 50 * unitsPerTick
  | 0x09 => 100 * unitsPerTick
  | 0x0C => 200 * unitsPerTick
  | 0x0D => 50000 * unitsPerTick
  | _ => 5 * unitsPerTick

/-- The internal request of a command that is due on a slot, with its payload; none when the manager has no cause to send it. [DESIGN CHOICE, log 58, safe] -/
def State.podCause (s : State) (q cmd : Nat) (data : List Byte) : Option (List Byte) :=
  let x := s.pod q
  let attached := s.get (R.POD_S_STAT_STATE q) == podAttached
  match cmd with
  | 0x01 => if x.step = 3 then some [] else none
  | 0x02 => if (x.step = 4 || (attached && x.step == 0 && decide (x.cap < s.get (R.POD_S_STAT_RATE q)))) &&
              (s.get (R.POD_S_STAT_RATE q) != x.cand || x.cand == 0) then some (leBytes 1 x.cand) else none
  | 0x03 => if x.step = 4 ∧ x.cand ≠ 0 ∧ s.get (R.POD_S_STAT_RATE q) = x.cand then some data else none
  | 0x04 => if x.step = 5 then some [] else none
  | 0x05 => if x.step = 6 then some (leBytes 4 x.cert.length ++ leBytes 2 (min 4096 (5325 - x.cert.length))) else none
  | 0x06 =>
    let busy := s.is R.MET_MC_STAT_RUN_OWNS && s.met.runSlots.testBit q
    if x.step = 7 || (attached && x.chalDue && !busy) then some data else none
  | 0x07 => if x.step = 8 || (attached && x.stress) then some (leBytes 4 (s.val (R.POD_S_LEDGER_IDX q)) ++ leBytes 1 63) else none
  | 0x08 => if attached && x.poll then some (leBytes 8 s.fNow.pack) else none
  | 0x09 => if x.step = 9 || (attached && x.cfg) then some [] else none
  | 0x0A =>
    match x.levels with
    | (p, w) :: _ =>
      if attached then
        let dac := match w with
          | .drvHi => 0 | .drvLo => 1 | .cmpHi => 2 | .cmpLo => 3 | .term => 4
        some (leBytes 1 (p.val % 16) ++ leBytes 1 dac ++ leBytes 2 (codeOf 16 (Config.dacLevel p (s.sval (levelAddr p w)))))
      else none
    | [] => none
  | 0x0B => if attached then x.hold.map (leBytes 1) else none
  | 0x0C => if attached || x.step == 9 then some data else none
  | 0x0D => if attached || x.step == 9 then some data else none
  | _ => none

/-- A request of a higher priority waits (R337): HOLD, then CONFIG and LEVEL, then POLL, then all others. -/
def PodSt.above (x : PodSt) (cmd : Nat) : Bool :=
  if cmd = 0x0B then false
  else if cmd = 0x09 ∨ cmd = 0x0A then x.hold.isSome
  else if cmd = 0x08 then x.hold.isSome || x.cfg || !x.levels.isEmpty
  else x.hold.isSome || x.cfg || !x.levels.isEmpty || x.poll

/-- The request that the manager sends for a command: its own cause first, else the oldest of the host half with that command. -/
def State.podNext (s : State) (q cmd : Nat) (data : List Byte) : Option PodReq :=
  let x := s.pod q
  let attached := s.get (R.POD_S_STAT_STATE q) == podAttached
  if x.cur.isSome || !s.is (R.POD_S_STAT_POWERED q) || !s.powered (R.POD_S_STAT q) || (attached && x.above cmd) then none
  else
    match s.podCause q cmd data with
    | some pl => some { cmd := cmd, payload := pl, at_ := s.fU }
    | none => if attached then (x.asked.find? (fun r => r.cmd == cmd)).map (fun r => { r with at_ := s.fU }) else none

/-- A request is on its way: SEQ advances by 1 modulo 8 (R335). -/
def State.podSend (s : State) (q : Nat) (r : PodReq) : State :=
  let x := s.pod q
  s.setPod q { x with seq := (x.seq + 1) % 8, cur := some r, asked := if r.host then x.asked.erase r else x.asked }

/-- XM_POD RESPONSE to the host half (R346). -/
def State.podRelay (s : State) (q tag cmd status : Nat) (pl : List Byte) : State :=
  s.sendFH 0x70 7 s.fNow.pack (leBytes 1 q ++ leBytes 1 2 ++ leBytes 2 tag ++ leBytes 1 cmd ++ leBytes 1 status ++ leBytes 2 0 ++ pl)

/-- The attach goes to a step. -/
def State.podStep (s : State) (q step : Nat) : State := s.setPod q { s.pod q with step := step, stepAt := s.fU, tests := 0 }

/-- The link of a slot that was attached is lost (R336, R343). -/
def State.podLost (s : State) (q : Nat) : State :=
  let x := s.pod q
  let check := x.chalDue
  let s1 := s.setPod q { x with cur := none, lostAt := some s.fU, renegAt := s.fU + 100000 * unitsPerTick, step := 0, reneg := false, chalDue := false,
                                poll := false, recheckFails := x.recheckFails + (if check then 1 else 0),
                                recheckAt := if check then some (s.fU + 1000000 * unitsPerTick) else x.recheckAt }
  let s2 := ((s1.podState q podLinkLost).set (R.POD_S_STAT_LINK_UP q) 0).podEvt q (R.POD_S_EVT_LINK_LOST q) 0x0009
  let s3 := s2.fieldFault (0x80 + q) 0
  if 3 ≤ (s3.pod q).recheckFails then
    ((s3.podRefuse q 3 false).set (R.POD_S_STAT_AUTH_OK q) 0 |>.podEvt q (R.POD_S_EVT_AUTH_FAIL q) 0x0004).fieldFault (0x80 + q) 0
  else s3

/-- An attach or a renegotiation has had no answer: a renegotiation waits for its next turn, an attach ends with reason 7. -/
def State.podSilent (s : State) (q : Nat) : State :=
  let x := s.pod q
  if x.reneg then s.setPod q { x with cur := none, step := 0, reneg := false }
  else s.podRefuse q 7

/-! ### Identity (R341–R343) and the stress ledger (R344, R345) -/

/-- Type codes that a slot accepts: A8 in S0–S5, D16 in every slot (R2). -/
def slotAccepts (q code : Nat) : Bool := (code == 1 && decide (q < 6)) || code == 2

/-- A certificate is valid for a slot (R341). -/
def State.certGood (s : State) (q : Nat) (b : List Byte) : Bool :=
  b.length == 5325 && leAt b 0 2 == 1 && leAt b 2 1 == s.get (R.POD_S_STAT_TYPE q)
    && (b.drop 28).take 32 == Config.shake256 (Config.publicKey 0) && Config.mldsaVerify (Config.publicKey 0) (b.take 2016) (b.drop 2016)

/-- The stress chain that the module holds for the slot's pod: entries read, and the CHAIN of the last. -/
def State.podChain (s : State) (q : Nat) : Nat × List Byte :=
  let d := (s.pod q).digest
  match ((s.pods.toList.map PodSt.chains).flatten.filter (fun c => c.1 == d)).foldl (fun (m : Option (List Byte × Nat × List Byte)) c => match m with
    | none => some c
    | some y => if y.2.1 < c.2.1 then some c else some y) none with
  | some c => c.2
  | none => (0, List.replicate 32 0)

/-- The stress chain of the slot's pod is this far. -/
def State.setChain (s : State) (q n : Nat) (h : List Byte) : State :=
  let x := s.pod q
  (s.setPod q { x with chains := (x.digest, n, h) :: x.chains.filter (fun c => c.1 != x.digest) }).put (R.POD_S_LEDGER_IDX q) n

/-- A signature over the challenge and the stress chain's head verifies under the pod's key (R342). -/
def State.sigGood (s : State) (q : Nat) (sig : List Byte) : Bool :=
  Config.mldsaVerify (((s.pod q).cert.drop 64).take 1952) ((s.pod q).challenge ++ (s.podChain q).2) sig

/-- A challenge has succeeded: POD_S_AUTH_LAST is replaced, the next is due in 24 hours. -/
def State.authOk (s : State) (q : Nat) : State :=
  let x := s.pod q
  ((s.setPod q { x with chalDue := false, sig := none, recheckAt := none, recheckFails := 0, challengeAt := s.fU + 8640000000 * unitsPerTick }).set
    (R.POD_S_STAT_AUTH_OK q) 1).replaceResult (R.POD_S_AUTH_LAST_LO q) (R.POD_S_AUTH_LAST_GEN q) s.fNow.pack

/-- A recheck has failed (R343). -/
def State.recheckFail (s : State) (q : Nat) : State :=
  let x := s.pod q
  let s1 := s.set (R.POD_S_STAT_AUTH_OK q) 0
  if 2 ≤ x.recheckFails then
    ((s1.podRefuse q 3 false).podEvt q (R.POD_S_EVT_AUTH_FAIL q) 0x0004).fieldFault (0x80 + q) 0
  else s1.setPod q { x with chalDue := false, recheckFails := x.recheckFails + 1, recheckAt := some (s.fU + 1000000 * unitsPerTick) }

/-- The pod becomes worn, or exhausted (R344). -/
def State.podWorn (s : State) (q : Nat) : State :=
  if s.is (R.POD_S_STAT_WORN q) then s else (s.set (R.POD_S_STAT_WORN q) 1).podEvt q (R.POD_S_EVT_WORN q) 0x0007
def State.podExhausted (s : State) (q : Nat) : State :=
  if s.is (R.POD_S_STAT_EXHAUSTED q) then s
  else (((s.set (R.POD_S_STAT_EXHAUSTED q) 1).podEvt q (R.POD_S_EVT_EXHAUSTED q) 0x0008).fieldFault (0x80 + q) 0).showHeld q

/-- Totals against the declared thresholds. -/
def State.podWear (s : State) (q : Nat) : State :=
  let at_ (f : Nat → Nat → Bool) : Bool := (List.range 4).any (fun k => s.val (R.POD_S_EOL q k) != 0 && f (s.val (R.POD_S_STRESS q k)) (s.val (R.POD_S_EOL q k)))
  let s1 := if at_ (fun t e => decide (8 * e ≤ 10 * t)) then s.podWorn q else s
  if at_ (fun t e => decide (e ≤ t)) then s1.podExhausted q else s1

/-- One entry of the stress ledger: its INDEX and CHAIN are checked (R345); the flag says whether it fits. -/
def State.stressEntry (s : State) (q : Nat) (e : List Byte) : State × Bool :=
  let c := s.podChain q
  let h := (Config.shake256 (c.2 ++ e.take 24) ++ List.replicate 32 0).take 32
  if e.length = 64 ∧ leAt e 0 4 = c.1 ∧ (e.drop 24).take 32 = h then
    let k := leAt e 4 1
    let s1 := s.setChain q (c.1 + 1) h
    let s2 := if k < 4 then s1.put (R.POD_S_STRESS q k) (leAt e 20 4) else s1
    (s2, true)
  else (s, false)

/-- Entries of an answer, in order, until one does not fit. -/
def State.stressEntries (s : State) (q : Nat) : List (List Byte) → State × List (List Byte) × Bool
  | [] => (s, [], true)
  | e :: r =>
    let a := s.stressEntry q e
    if a.2 then let b := a.1.stressEntries q r; (b.1, e :: b.2.1, b.2.2) else (a.1, [], false)

/-- Cut a payload into entries of 64 bytes. -/
def entries64 (pl : List Byte) : List (List Byte) := (List.range (pl.length / 64)).map (fun i => (pl.drop (64 * i)).take 64)

/-- The first attach of a chain that is held: the totals stand in entries read before; the manager shows what it reads. -/
def State.stressDone (s : State) (q : Nat) (es : List (List Byte)) : State :=
  let s1 := if es.isEmpty then s
    else s.sendFH 0x70 7 s.fNow.pack (leBytes 1 q ++ leBytes 1 3 ++ leBytes 2 0 ++ leBytes 1 7 ++ leBytes 1 0 ++ leBytes 2 0 ++ es.flatten)
  let kinds := es.map (fun e => leAt e 4 1)
  let s2 := s1.podWear q
  let s3 := if kinds.contains 0x10 then s2.podWorn q else s2
  if kinds.contains 0x11 then s3.podExhausted q else s3

/-! ### Steps of the attach (R339) -/

/-- Budget of R485 without the field input's derating, which POD_BUDGET_CHECK evaluates. -/
def State.podBudget (s : State) : Nat := min (s.val R.POD_PWR_BUDGET) 72000

/-- Step 2: the budget is checked and the slot powered. -/
def State.podPowerOn (s : State) (q : Nat) : State :=
  if s.podBudget < sumTo 16 s.slotPower + 4500 then s.podRefuse q 5
  else
    let s1 := ((s.set (R.POD_S_STAT_POWERED q) 1).podState q podPowering).podShow
    ((s1.setPod q { s1.pod q with cert := [], released := false, selfHeld := false }).podStep q 3).showHeld q

/-- The attach begins with the presence contact closed. -/
def State.podBegin (s : State) (q : Nat) : State :=
  let s1 := (s.set (R.POD_S_STAT_REFUSE q) 0).podState q podDebounce
  (s1.setPod q { s1.pod q with cap := 2, detachDue := false }).podStep q 1

/-- Step 9 has been acknowledged: HOLD_N is released, and ATTACHED is reported at the next tick boundary. -/
def State.podConfigured (s : State) (q : Nat) : State :=
  let x := s.pod q
  (s.setPod q { x with released := true, step := 10, stepAt := s.fU, attachDue := true, cfg := false }).showHeld q

/-- HELLO is answered (R337, R339). -/
def State.onHello (s : State) (q : Nat) (pl : List Byte) : State :=
  let top := min (min (leAt pl 4 1) (s.get (R.POD_S_CTRL_MAX_RATE q))) (s.pod q).cap
  let s1 := (List.range 4).foldl (fun t k => t.put (R.POD_S_SERIAL q k) (leAt pl (6 + 4 * k) 4)) (s.set (R.POD_S_INFO_FW_LEVEL q) (leAt pl 2 2))
  let s2 := (s1.set (R.POD_S_STAT_LINK_UP q) 1).set (R.POD_S_STAT_RATE q) 0
  let s3 := if (s2.pod q).reneg then s2 else s2.podState q podNegotiating
  if top = 0 then s3.podStep q 5 else (s3.setPod q { s3.pod q with cand := top }).podStep q 4

/-- A rate under trial has failed: the next lower one. -/
def State.rateFail (s : State) (q : Nat) : State :=
  let x := s.pod q
  s.setPod q { x with cand := x.cand - 1, tests := 0, cur := none }

/-- SET_RATE is answered. -/
def State.onRate (s : State) (q : Nat) : State :=
  let x := s.pod q
  let s1 := (s.set (R.POD_S_STAT_RATE q) x.cand).setPod q { x with tests := 0, retries := [] }
  if x.step = 4 ∧ x.cand = 0 then s1.podStep q 5 else s1

/-- LINK_TEST is answered: 16 without error confirm the rate. -/
def State.onTest (s : State) (q : Nat) (sent pl : List Byte) : State :=
  let x := s.pod q
  if pl ≠ sent then s.rateFail q
  else if x.tests + 1 = 16 then s.podStep q 5
  else s.setPod q { x with tests := x.tests + 1 }

/-- CAPS are answered: declarations, negotiated mode, firmware check (R338–R340). -/
def State.onCaps (s : State) (q : Nat) (pl : List Byte) : State :=
  let ranges := leAt pl 2 1 % 32 &&& s.get (R.POD_S_POLICY_RANGES q)
  let level := s.get (R.POD_S_INFO_FW_LEVEL q)
  let s1 := ((s.set (R.POD_S_CAPS_DECL_MW q) (leAt pl 0 2)).set (R.POD_S_CAPS_RANGES q) ranges).set (R.POD_S_CAPS_FUSION q) (if q < 6 then leAt pl 3 1 % 2 else 0)
  let s2 := (s1.set (R.POD_S_DELAY_DD q) (leAt pl 18 2)).set (R.POD_S_DELAY_DC q) (leAt pl 20 2)
  let s3 := (List.range 5).foldl (fun t r => t.put (R.POD_S_SETTLE q r) (leAt pl (4 + 2 * r) 2)) s2
  let s4 := (s3.set (R.POD_S_GDELAY_GD3 q) (leAt pl 14 2)).set (R.POD_S_GDELAY_GD4 q) (leAt pl 16 2)
  let s5 := (List.range 4).foldl (fun t k => t.put (R.POD_S_EOL q k) (leAt pl (22 + 4 * k) 4)) s4
  let s6 := s5.set (R.POD_S_INFO_FEATURE q) (min level (Config.podLevel (s.get (R.POD_S_STAT_TYPE q))))
  let s7 := (s6.setPod q { s6.pod q with bootTicks := some (leAt pl 42 2), cert := [] }).podShow
  if s7.podBudget < s7.val R.POD_PWR_USED then s7.podRefuse q 5
  else if level < s.get (R.POD_S_POLICY_MIN_FW q) then s7.podRefuse q 4
  else s7.podStep q 6

/-- CERT_READ is answered: the whole certificate is verified (R341, R336). -/
def State.onCert (s : State) (q : Nat) (pl : List Byte) : State :=
  let x := s.pod q
  let b := x.cert ++ pl
  if pl.length ≠ min 4096 (5325 - x.cert.length) then s.podRefuse q 2
  else if b.length < 5325 then s.setPod q { x with cert := b }
  else if !s.certGood q b then s.podRefuse q 2
  else
    let d := Config.shake256 b
    if x.reneg && x.digest != d then
      let s1 := ((s.podGap q).podUnrole q).podEvt q (R.POD_S_EVT_DETACH q) 0x0002
      (((s1.podPowerOff q).podState q podEmpty).podBegin q).dueSets
    else
      let s1 := s.setPod q { x with cert := b, digest := d }
      (s1.put (R.POD_S_LEDGER_IDX q) (s1.podChain q).1).podStep q 7

/-- CHALLENGE is answered (R342, R343). During an attach the entries that the module has not read may stand between its head and the pod's: the
signature then waits for step 8. -/
def State.onChallenge (s : State) (q : Nat) (pl : List Byte) : State :=
  let good := s.sigGood q pl
  if (s.pod q).step = 7 then
    if good then (s.authOk q).podStep q 8
    else let t := s.podStep q 8; t.setPod q { t.pod q with sig := some pl }
  else if good then s.authOk q else s.recheckFail q

/-- STRESS_READ is answered (R344, R345). -/
def State.onStress (s : State) (q : Nat) (pl : List Byte) : State :=
  let r := s.stressEntries q (entries64 pl)
  let s1 := r.1.stressDone q r.2.1
  if !r.2.2 || pl.length % 64 != 0 then s1.podRefuse q 8
  else
    let more := decide (63 ≤ r.2.1.length)
    let s2 := s1.setPod q { s1.pod q with stress := more }
    if (s2.pod q).step = 8 ∧ !more then
      match (s2.pod q).sig with
      | some sig => if s2.sigGood q sig then (s2.authOk q).podStep q 9 else s2.podRefuse q 3
      | none => s2.podStep q 9
    else s2

/-- POLL is answered (R337, R345). -/
def State.onPoll (s : State) (q : Nat) (pl : List Byte) : State :=
  let b := leAt pl 0 1
  let s1 := s.setPod q { s.pod q with poll := false, selfHeld := b.testBit 0, stress := (s.pod q).stress || decide (0 < leAt pl 2 2) }
  let s2 := if b.testBit 0 then s1.slotSense q else s1
  let s3 := if b.testBit 1 then s2.podExhausted q else s2
  if b.testBit 2 then s3.podWorn q else s3

/-- CONFIG is acknowledged: pending sets of the slot's lanes may take effect (R213). -/
def State.onConfig (s : State) (q : Nat) : State :=
  let s1 := if q < 6 then (List.range 8).foldl (fun t i =>
      let x := t.lane (8 * q + i)
      if x.pend.isSome then t.setLane (8 * q + i) { x with acked := true } else t) s
    else s
  if (s.pod q).step = 9 then s1.podConfigured q else s1.setPod q { s1.pod q with cfg := false }

/-- LEVEL is acknowledged (R112). -/
def State.onLevel (s : State) (q : Nat) : State :=
  let x := s.pod q
  match x.levels with
  | [] => s
  | (p, _) :: r =>
    let s1 := s.setPod q { x with levels := r }
    if r.any (fun y => y.1 == p) then s1 else s1.set (R.PIN_STAT_LVL_PENDING p) 0

/-- FW_COMMIT is accepted (R337): the streams are a gap until the pod is attached again, from step 3. -/
def State.onCommit (s : State) (q : Nat) : State :=
  let s1 := if s.podHere q then (s.podGap q).podUnrole q else s
  let s2 := s1.podState q podNegotiating
  let x := s2.pod q
  let s3 := s2.setPod q { x with released := false, cert := [], hold := none, cfg := false, levels := [], poll := false, stress := false, chalDue := false,
                                 attachDue := false, fwGot := 0 }
  let s4 := { s3 with upd := { s3.upd with commits := s3.upd.commits.filter (fun p => p.1 != q) } }
  ((s4.set (R.POD_S_STAT_LINK_UP q) 0).podStep q 3).showHeld q

/-- A request has its answer. A request of the host half is relayed; of the manager's own, one with a STATUS other than OK fails the attach step
that needs it, and stays due elsewhere. [DESIGN CHOICE, log 58, safe] -/
def State.podAnswer (s : State) (q : Nat) (r : PodReq) (status : Nat) (pl : List Byte) : State :=
  let x := s.pod q
  let s1 := s.setPod q { x with cur := none }
  if r.host then s1.podRelay q r.tag r.cmd status pl
  else if status ≠ 0 then
    match r.cmd with
    | 0x01 => s1.podSilent q
    | 0x02 => s1.rateFail q
    | 0x03 => s1.rateFail q
    | 0x04 => s1.podRefuse q 4
    | 0x05 => s1.podRefuse q 2
    | 0x06 => if x.step = 7 then s1.podRefuse q 3 else s1.recheckFail q
    | 0x07 => if x.step = 8 then s1.podRefuse q 8 else s1
    | 0x0C => s1.setPod q { s1.pod q with fwBad := true }
    | 0x0D => s1.setPod q { s1.pod q with fwBad := true }
    | _ => s1
  else
    match r.cmd with
    | 0x01 => s1.onHello q pl
    | 0x02 => s1.onRate q
    | 0x03 => s1.onTest q r.payload pl
    | 0x04 => s1.onCaps q pl
    | 0x05 => s1.onCert q pl
    | 0x06 => s1.onChallenge q pl
    | 0x07 => s1.onStress q pl
    | 0x08 => s1.onPoll q pl
    | 0x09 => s1.onConfig q
    | 0x0A => s1.onLevel q
    | 0x0B => s1.setPod q { s1.pod q with hold := none, selfHeld := leAt r.payload 0 1 == 1 }
    | 0x0C => s1.setPod q { s1.pod q with fwGot := max (s1.pod q).fwGot (leAt r.payload 0 4 + (r.payload.length - 4)) }
    | 0x0D => s1.onCommit q
    | _ => s1

/-- A command on a slot's link: sent when the manager has cause, and answered where `ans` gives the pod's answer. [DESIGN CHOICE, log 50, safe; DESIGN CHOICE, log 58, safe] -/
def State.podExchange (s : State) (q cmd : Nat) (data : List Byte) (ans : Option PodAns) : State :=
  match s.podNext q cmd data with
  | none => s
  | some r =>
    let s1 := s.podSend q r
    match ans with
    | some a => s1.podAnswer q r (a.status % 256) (a.payload.take 4096)
    | none => s1

/-- HELLO. -/
def execHello (u : Sub) (q : Idx16) (ans : Option PodAns) (s : State) : Host.Outcome State Fault Refusal := done s ((s.atF u).podExchange q 0x01 [] ans)

/-- SET_RATE. -/
def execSetRate (u : Sub) (q : Idx16) (ans : Option PodAns) (s : State) : Host.Outcome State Fault Refusal := done s ((s.atF u).podExchange q 0x02 [] ans)

/-- LINK_TEST, with the 64 bytes sent. -/
def execLinkTest (u : Sub) (q : Idx16) (data : List Byte) (ans : Option PodAns) (s : State) : Host.Outcome State Fault Refusal :=
  done s ((s.atF u).podExchange q 0x03 ((data ++ List.replicate 64 0).take 64) ans)

/-- CAPS. -/
def execCaps (u : Sub) (q : Idx16) (ans : Option PodAns) (s : State) : Host.Outcome State Fault Refusal := done s ((s.atF u).podExchange q 0x04 [] ans)

/-- CERT_READ. -/
def execCertRead (u : Sub) (q : Idx16) (ans : Option PodAns) (s : State) : Host.Outcome State Fault Refusal := done s ((s.atF u).podExchange q 0x05 [] ans)

/-- CHALLENGE (R342): the island draws a nonce, a free value, and the 64 bytes are made from it. -/
def State.doChallenge (s : State) (q : Nat) (ans : Option PodAns) : State :=
  let n := s.fresh 256
  let m := leBytes 4 0x5243474A ++ leBytes 1 q ++ leBytes 3 0 ++ leBytes 32 n.1 ++ leBytes 8 s.fNow.pack ++ leBytes 16 0
  if (s.podCause q 0x06 []).isSome && (s.podNext q 0x06 []).isSome then
    let s1 := n.2.setPod q { n.2.pod q with challenge := m }
    s1.podExchange q 0x06 m ans
  else s

/-- CHALLENGE. -/
def execChallenge (u : Sub) (q : Idx16) (ans : Option PodAns) (s : State) : Host.Outcome State Fault Refusal := done s ((s.atF u).doChallenge q ans)

/-- STRESS_READ. -/
def execStressRead (u : Sub) (q : Idx16) (ans : Option PodAns) (s : State) : Host.Outcome State Fault Refusal := done s ((s.atF u).podExchange q 0x07 [] ans)

/-- POLL. -/
def execPoll (u : Sub) (q : Idx16) (ans : Option PodAns) (s : State) : Host.Outcome State Fault Refusal := done s ((s.atF u).podExchange q 0x08 [] ans)

/-- CONFIG. -/
def execConfig (u : Sub) (q : Idx16) (ans : Option PodAns) (s : State) : Host.Outcome State Fault Refusal := done s ((s.atF u).podExchange q 0x09 [] ans)

/-- LEVEL. -/
def execLevel (u : Sub) (q : Idx16) (ans : Option PodAns) (s : State) : Host.Outcome State Fault Refusal := done s ((s.atF u).podExchange q 0x0A [] ans)

/-- HOLD. -/
def execHold (u : Sub) (q : Idx16) (ans : Option PodAns) (s : State) : Host.Outcome State Fault Refusal := done s ((s.atF u).podExchange q 0x0B [] ans)

/-- FW_WRITE. -/
def execFwWrite (u : Sub) (q : Idx16) (ofs : Nat) (data : List Byte) (ans : Option PodAns) (s : State) : Host.Outcome State Fault Refusal :=
  done s ((s.atF u).podExchange q 0x0C (leBytes 4 ofs ++ data.take 4088) ans)

/-- FW_COMMIT. -/
def execFwCommit (u : Sub) (q : Idx16) (digest : List Byte) (ans : Option PodAns) (s : State) : Host.Outcome State Fault Refusal :=
  done s ((s.atF u).podExchange q 0x0D ((digest ++ List.replicate 32 0).take 32) ans)

/-! ### Responses, retries and the loss of a link (R334–R336) -/

/-- POD_RESPONSE (R334, R335): a frame answers the request in progress when its SYNC, direction, SEQ, CMD, length and CRC are right; any other frame is no
response. -/
def State.doPodResponse (s : State) (q : Nat) (f : List Byte) : State :=
  let x := s.pod q
  match x.cur with
  | none => s
  | some r =>
    let n := leAt f 4 2
    let good := leAt f 0 1 == 0xC5 && leAt f 1 1 == 0x80 + 16 * x.seq && leAt f 2 1 == r.cmd && decide (n ≤ 4096) && f.length == 10 + n
      && leAt f (6 + n) 4 == crc32c (f.take (6 + n))
    if good then s.podAnswer q r (leAt f 3 1) ((f.drop 6).take n) else s

/-- POD_RESPONSE. -/
def execPodResponse (u : Sub) (q : Idx16) (frame : List Byte) (s : State) : Host.Outcome State Fault Refusal := done s ((s.atF u).doPodResponse q frame)

/-- A retry is counted; eight within 100,000 ticks at one rate lower it (R335, R336). -/
def State.podRetried (s : State) (q : Nat) : State :=
  let s1 := s.podCount q (R.POD_S_LINK_ERR q) 1
  let x := s1.pod q
  let rs := s.fU :: x.retries.filter (fun t => decide (s.fU < t + 100000 * unitsPerTick))
  let rate := s1.get (R.POD_S_STAT_RATE q)
  if 8 ≤ rs.length ∧ rate ≠ 0 ∧ x.step = 0 then
    (s1.setPod q { x with retries := [], cap := rate - 1, cand := rate - 1 }).podEvt q (R.POD_S_EVT_RATE_DOWN q) 0x0006
  else s1.setPod q { x with retries := rs }

/-- POD_RESPONSE_TIMEOUT (R335): no valid response within the response time: the same SEQ again, at most 3 times; then the link is lost (R336). -/
def State.doPodTimeout (s : State) (q : Nat) : State :=
  let x := s.pod q
  match x.cur with
  | none => s
  | some r =>
    if s.fU < r.at_ + podWait r.cmd then s
    else if r.cmd = 0x03 ∧ x.step = 4 then (s.podRetried q).rateFail q
    else if 0 < r.tries then
      let s1 := s.podRetried q
      s1.setPod q { s1.pod q with cur := some { r with tries := r.tries - 1, at_ := s.fU } }
    else
      let s1 := s.setPod q { x with cur := none }
      let s2 := if r.host then s1.podRelay q r.tag r.cmd 0x80 [] else s1
      if x.step = 3 then s2
      else if x.step = 0 ∧ s.get (R.POD_S_STAT_STATE q) = podAttached then s2.podLost q
      else s2.podSilent q

/-- POD_RESPONSE_TIMEOUT. -/
def execPodResponseTimeout (u : Sub) (q : Idx16) (s : State) : Host.Outcome State Fault Refusal := done s ((s.atF u).doPodTimeout q)

/-- HELLO_TIMEOUT (R339): no HELLO answer within BOOT_TICKS, or 20,000 ticks. -/
def State.doHelloTimeout (s : State) (q : Nat) : State :=
  let x := s.pod q
  if x.step = 3 ∧ x.stepAt + x.bootTicks.getD 20000 * unitsPerTick ≤ s.fU then s.podSilent q else s

/-- HELLO_TIMEOUT. -/
def execHelloTimeout (u : Sub) (q : Idx16) (s : State) : Host.Outcome State Fault Refusal := done s ((s.atF u).doHelloTimeout q)

/-- RENEGOTIATE (R336): every 100,000 ticks a lost link begins again at 1 Mbit/s. -/
def State.doRenegotiate (s : State) (q : Nat) : State :=
  let x := s.pod q
  if s.get (R.POD_S_STAT_STATE q) = podLinkLost ∧ x.renegAt ≤ s.fU ∧ x.step = 0 then
    let s1 := s.set (R.POD_S_STAT_RATE q) 0
    (s1.setPod q { x with reneg := true, renegAt := s.fU + 100000 * unitsPerTick, cur := none, cert := [] }).podStep q 3
  else s

/-- RENEGOTIATE. -/
def execRenegotiate (u : Sub) (q : Idx16) (s : State) : Host.Outcome State Fault Refusal := done s ((s.atF u).doRenegotiate q)

/-- LINK_LOSS_HOLD (R330). -/
def State.doLinkLossHold (s : State) (q : Nat) : State :=
  let x := s.pod q
  match x.lostAt with
  | some t =>
    if s.get (R.POD_S_STAT_STATE q) = podLinkLost ∧ t + 100000 * unitsPerTick ≤ s.fU then (s.setPod q { x with lossHeld := true }).showHeld q else s
  | none => s

/-- LINK_LOSS_HOLD. -/
def execLinkLossHold (u : Sub) (q : Idx16) (s : State) : Host.Outcome State Fault Refusal := done s ((s.atF u).doLinkLossHold q)

/-- POD_SELF_HOLD (R330): a powered pod has received no valid frame for 200 ms. -/
def State.doPodSelfHold (s : State) (q : Nat) : State :=
  if s.is (R.POD_S_STAT_POWERED q) then (s.setPod q { s.pod q with selfHeld := true }).slotSense q else s

/-- POD_SELF_HOLD. -/
def execPodSelfHold (u : Sub) (q : Idx16) (s : State) : Host.Outcome State Fault Refusal := done s ((s.atF u).doPodSelfHold q)

/-- POLL_INTERVAL (R337). -/
def State.doPollInterval (s : State) (q : Nat) : State :=
  let x := s.pod q
  if s.get (R.POD_S_STAT_STATE q) = podAttached ∧ x.pollAt ≤ s.fU then s.setPod q { x with poll := true, pollAt := s.fU + 100 * unitsPerTick } else s

/-- POLL_INTERVAL. -/
def execPollInterval (u : Sub) (q : Idx16) (s : State) : Host.Outcome State Fault Refusal := done s ((s.atF u).doPollInterval q)

/-- CHALLENGE_DUE (R342). -/
def State.doChallengeDue (s : State) (q : Nat) : State :=
  let x := s.pod q
  if s.get (R.POD_S_STAT_STATE q) = podAttached ∧ x.challengeAt ≤ s.fU ∧ x.recheckAt = none then s.setPod q { x with chalDue := true } else s

/-- CHALLENGE_DUE. -/
def execChallengeDue (u : Sub) (q : Idx16) (s : State) : Host.Outcome State Fault Refusal := done s ((s.atF u).doChallengeDue q)

/-- RECHECK_RETRY (R343): 10 s after a failed check it is repeated. -/
def State.doRecheckRetry (s : State) (q : Nat) : State :=
  let x := s.pod q
  match x.recheckAt with
  | some t => if s.get (R.POD_S_STAT_STATE q) = podAttached ∧ t ≤ s.fU then s.setPod q { x with chalDue := true, recheckAt := none } else s
  | none => s

/-- RECHECK_RETRY. -/
def execRecheckRetry (u : Sub) (q : Idx16) (s : State) : Host.Outcome State Fault Refusal := done s ((s.atF u).doRecheckRetry q)

/-! ### Insertion, attach and removal (R339, R347, R348) -/

/-- POD_INSERT: the presence contact closes. -/
def State.doPodInsert (s : State) (q : Nat) : State :=
  if s.is (R.POD_S_STAT_PRESENT q) || !s.powered (R.POD_S_STAT q) then s
  else
    let s1 := s.set (R.POD_S_STAT_PRESENT q) 1
    let s2 := s1.setPod q { s1.pod q with bootTicks := none }
    if s2.is (R.POD_S_CTRL_POWER_OFF q) then (s2.podState q podOff).showHeld q else (s2.podBegin q).showHeld q

/-- POD_INSERT. -/
def execPodInsert (u : Sub) (q : Idx16) (s : State) : Host.Outcome State Fault Refusal := done s ((s.atF u).doPodInsert q)

/-- DEBOUNCE_DONE (R339, R2, R329, R332): the coding contacts are read, and the slot is powered or the pod refused. -/
def State.doDebounceDone (s : State) (q code : Nat) : State :=
  if s.get (R.POD_S_STAT_STATE q) = podDebounce ∧ (s.pod q).stepAt + 5000 * unitsPerTick ≤ s.fU ∧ s.domOn (domF 13) = true then
    let s1 := s.set (R.POD_S_STAT_TYPE q) code
    if !slotAccepts q code || !(s.get (R.POD_S_POLICY_ACCEPT q)).testBit (code - 1) then s1.podRefuse q 1
    else s1.podPowerOn q
  else s

/-- DEBOUNCE_DONE. -/
def execDebounceDone (u : Sub) (q : Idx16) (code : Fin 4) (s : State) : Host.Outcome State Fault Refusal := done s ((s.atF u).doDebounceDone q code)

/-- The range that replaces a lane's range which has left the negotiated set (R340): the nearest wider, else the widest. -/
def rangeFor (ranges r : Nat) : Nat :=
  if ranges.testBit r || ranges % 32 == 0 then r
  else
    match ((List.range 5).filter (fun k => decide (r < k) && ranges.testBit k)).head? with
    | some k => k
    | none => ((List.range 5).filter (fun k => ranges.testBit k)).getLast?.getD r

/-- A lane of a slot that attaches (R340, R348): its configuration in force takes effect again as a range change. -/
def State.laneAttach (s : State) (l : Nat) : State :=
  let a := s.rd (R.LANE_ACTIVE l)
  let r := rangeFor (s.get (R.POD_S_CAPS_RANGES (l / 8))) (cfgRange a)
  let s1 := (s.set (R.LANE_STAT_PRESENT l) 1).setLane l { s.lane l with inGap := false }
  if s1.is (R.LANE_STAT_MEMBER l) then s1
  else
    let s2 := if r = cfgRange a then s1
      else s1.ledgerF 0x1B 0x80FF (l / 8) (leBytes 4 l ++ leBytes 4 r)
    let set_ : LaneSet := { cfg := withField a 0 3 r, filt := s2.rd (R.LANE_FILT_ACT l), coefs := (List.range 128).map (fun k => s2.val (R.LANE_FIR_ACT l k)) }
    let s3 := if r = cfgRange a then s2
      else
        let keep := s2.lane l
        let t := s2.laneTakeEffect l set_
        t.setLane l { t.lane l with pend := keep.pend, planned := keep.planned, acked := keep.acked }
    let settle := s3.val (R.POD_S_SETTLE (l / 8) r)
    let s4 := s3.put (R.LANE_SETTLE l) settle
    let lens := runLens 3 settle set_
    let y := s4.lane l
    let mark (z : StreamSt) (n : Nat) : StreamSt := { z with unset := n, som := true, gap := true }
    let now := s4.fTickU / unitsPerTick
    let s5 := s4.setLane l { y with raw := mark y.raw lens.1, dec := mark y.dec lens.2.1, filt := mark y.filt lens.2.2, decHist := [], filtNext := now,
                                    runLen := max lens.1 (max lens.2.1 lens.2.2),
                                    runEnd := max y.runEnd (s4.fTickU + lens.1 * s4.srcPeriod l 0) }
    let s6 := if 0 < lens.1 + lens.2.1 + lens.2.2 then s5.set (R.LANE_STAT_UNSETTLED l) 1 else s5
    ((s6.showUnset l).winApply l).showIlv l

/-- POD_ATTACHED (R339, R348): at the tick boundary after step 9 ATTACHED is reported. A renegotiated link returns without a gap (R336). -/
def State.doPodAttached (s : State) (q : Nat) : State :=
  let x := s.pod q
  if x.attachDue && s.time.fUnit == 0 then
    let s1 := s.setPod q { x with attachDue := false, step := 0, lostAt := none, reneg := false, lossHeld := false, pollAt := s.fU }
    let s2 := (s1.podState q podAttached).showHeld q
    if x.reneg then s2
    else
      let s3 := if q < 6 ∧ s.get (R.POD_S_STAT_TYPE q) = 1 then (List.range 8).foldl (fun t i => t.laneAttach (8 * q + i)) s2 else s2
      let s4 := (List.range 16).foldl (fun t i =>
        let p := 16 * q + i
        if t.podRole p = roleNone then t else t.deskewStart p) s3
      ((((s4.podCount q (R.POD_S_ATTACH_CNT q) 1).podEvt q (R.POD_S_EVT_ATTACH q) 0x0001).bankTrigger).dueSets)
  else s

/-- POD_ATTACHED. -/
def execPodAttached (q : Idx16) (s : State) : Host.Outcome State Fault Refusal := done s (s.doPodAttached q)

/-- POD_REMOVAL (R347): the presence contact opens; an attach in progress ends at once. -/
def State.doPodRemoval (s : State) (q : Nat) : State :=
  if s.is (R.POD_S_STAT_PRESENT q) && s.powered (R.POD_S_STAT q) then
    let s1 := s.set (R.POD_S_STAT_PRESENT q) 0
    let s2 := s1.setPod q { s1.pod q with bootTicks := none }
    if s2.podHere q then
      let t := s2.podGap q
      t.setPod q { t.pod q with detachDue := true, cur := none, step := 0, attachDue := false }
    else ((s2.podPowerOff q).podState q (if s2.is (R.POD_S_CTRL_POWER_OFF q) then podOff else podEmpty)).set (R.POD_S_STAT_REFUSE q) 0 |>.set (R.POD_S_STAT_TYPE q) 0
  else s

/-- POD_REMOVAL. -/
def execPodRemoval (u : Sub) (q : Idx16) (s : State) : Host.Outcome State Fault Refusal := done s ((s.atF u).doPodRemoval q)

/-- What a detach does at its tick boundary (R347). -/
def State.podDetach (s : State) (q st : Nat) : State :=
  let s1 := (((s.podState q st).podUnrole q).podPowerOff q)
  ((s1.setPod q { s1.pod q with detachDue := false }).podEvt q (R.POD_S_EVT_DETACH q) 0x0002).dueSets

/-- DETACH: at the tick boundary after the removal. -/
def State.doDetach (s : State) (q : Nat) : State :=
  if (s.pod q).detachDue && s.time.fUnit == 0 then
    let st := if s.is (R.POD_S_CTRL_POWER_OFF q) then podOff else podEmpty
    let s1 := s.podDetach q st
    if s1.is (R.POD_S_STAT_PRESENT q) then s1 else s1.set (R.POD_S_STAT_TYPE q) 0
  else s

/-- DETACH. -/
def execDetach (q : Idx16) (s : State) : Host.Outcome State Fault Refusal := done s (s.doDetach q)

/-- Slots of a block reset detach at the tick boundary and attach again from step 2 (R441). -/
def State.podResets (s : State) : State :=
  let qs := s.fault.podReset
  let s0 := { s with fault := { s.fault with podReset := [] } }
  qs.foldl (fun t q =>
    let t1 := if t.podHere q then (t.podGap q).podDetach q podEmpty else t.podPowerOff q
    if !t1.is (R.POD_S_STAT_PRESENT q) || t1.is (R.POD_S_CTRL_POWER_OFF q) then t1
    else
      let t2 := t1.set (R.POD_S_STAT_REFUSE q) 0
      let code := t2.get (R.POD_S_STAT_TYPE q)
      if !slotAccepts q code || !(t2.get (R.POD_S_POLICY_ACCEPT q)).testBit (code - 1) then t2.podBegin q else t2.podPowerOn q) s0

/-- POWER_TRIP (R331). -/
def State.doPowerTrip (s : State) (q : Nat) : State :=
  if s.is (R.POD_S_STAT_POWERED q) then
    let s1 := if s.podHere q then ((s.podGap q).podState q podRefused).podUnrole q else s.podState q podRefused
    let s2 := ((s1.podPowerOff q).set (R.POD_S_STAT_REFUSE q) 6).dueSets
    (s2.podEvt q (R.POD_S_EVT_POWER_TRIP q) 0x0005).fieldFault (0x80 + q) 0
  else s

/-- POWER_TRIP. -/
def execPowerTrip (u : Sub) (q : Idx16) (s : State) : Host.Outcome State Fault Refusal := done s ((s.atF u).doPowerTrip q)

/-- POD_RETRY: a write of 1 to RETRY restarts the attach of a refused or tripped slot (R339). -/
def State.doPodRetry (s : State) (q : Nat) : State :=
  if s.get (R.POD_S_STAT_STATE q) = podRefused ∧ s.is (R.POD_S_STAT_PRESENT q) ∧ s.is (R.POD_S_CTRL_POWER_OFF q) = false then s.podBegin q else s

/-- POD_RETRY. -/
def execPodRetry (u : Sub) (q : Idx16) (s : State) : Host.Outcome State Fault Refusal :=
  done s ((s.atF u).ifOn (R.POD_S_CTRL q) (fun t => t.doPodRetry q))

/-- POD_RECHECK: a write of 1 to RECHECK runs a challenge (R342). -/
def State.doPodRecheck (s : State) (q : Nat) : State :=
  if s.get (R.POD_S_STAT_STATE q) = podAttached then s.setPod q { s.pod q with chalDue := true } else s

/-- POD_RECHECK. -/
def execPodRecheck (u : Sub) (q : Idx16) (s : State) : Host.Outcome State Fault Refusal :=
  done s ((s.atF u).ifOn (R.POD_S_CTRL q) (fun t => t.doPodRecheck q))

/-- POD_HOLD_WRITE: a write of HOLD drives or releases HOLD_N, and the pod's software hold follows (R330, R337). -/
def State.doPodHold (s : State) (q : Nat) (h : Bool) : State :=
  let s1 := s.set (R.POD_S_CTRL_HOLD q) (if h then 1 else 0)
  let s2 := if s.is (R.POD_S_CTRL_HOLD q) = h then s1 else s1.setPod q { s1.pod q with hold := some (if h then 1 else 0) }
  s2.showHeld q

/-- POD_HOLD_WRITE. -/
def execPodHoldWrite (u : Sub) (q : Idx16) (hold : Bool) (s : State) : Host.Outcome State Fault Refusal :=
  done s ((s.atF u).ifOn (R.POD_S_CTRL q) (fun t => t.doPodHold q hold))

/-- POD_POWER_OFF: setting POWER_OFF detaches the slot's pod and keeps the slot unpowered; clearing it lets the pod attach (R347). -/
def State.doPodPowerOff (s : State) (q : Nat) (off : Bool) : State :=
  if s.is (R.POD_S_CTRL_POWER_OFF q) = off then s
  else if off then
    let s1 := s.set (R.POD_S_CTRL_POWER_OFF q) 1
    if s1.podHere q then
      let t := s1.podGap q
      t.setPod q { t.pod q with detachDue := true, cur := none, step := 0, attachDue := false }
    else (s1.podPowerOff q).podState q podOff
  else
    let s1 := s.set (R.POD_S_CTRL_POWER_OFF q) 0
    if s1.get (R.POD_S_STAT_STATE q) ≠ podOff then s1
    else if s1.is (R.POD_S_STAT_PRESENT q) then s1.podBegin q
    else s1.podState q podEmpty

/-- POD_POWER_OFF. -/
def execPodPowerOff (u : Sub) (q : Idx16) (off : Bool) (s : State) : Host.Outcome State Fault Refusal :=
  done s ((s.atF u).ifOn (R.POD_S_CTRL q) (fun t => t.doPodPowerOff q off))

/-- POD_CLR_STATS (R350). -/
def State.doPodClrStats (s : State) : State :=
  (List.range 16).foldl (fun t q => ((t.put (R.POD_S_LINK_ERR q) 0).put (R.POD_S_ATTACH_CNT q) 0).set (R.POD_S_PWR_PEAK q) 0) s

/-- POD_CLR_STATS. -/
def execPodClrStats (u : Sub) (s : State) : Host.Outcome State Fault Refusal := done s ((s.atF u).ifOn R.POD_CTRL State.doPodClrStats)

/-- Slots are powered off in descending order until the sum fits (R485). -/
def State.podShed (s : State) (beff : Nat) : List Nat → State
  | [] => s
  | q :: r =>
    if s.val R.POD_PWR_USED ≤ beff then s
    else if s.is (R.POD_S_STAT_POWERED q) then
      let s1 := if s.podHere q then (s.podGap q).podEvt q (R.POD_S_EVT_DETACH q) 0x0002 else s
      (s1.podRefuse q 5).podShed beff r
    else s.podShed beff r

/-- POD_BUDGET_CHECK (R485): at every tick boundary whose number is a multiple of 100, with the lowest average of the field input in mV over the
latest 100,000 ticks and the slots' averages in mW. -/
def State.doPodBudget (s : State) (mv : Nat) (mw : List (Idx16 × Nat)) : State :=
  if s.time.fUnit = 0 ∧ s.time.fTick % 100 = 0 ∧ s.powered R.POD_CTRL = true then
    let s1 := mw.foldl (fun t m =>
      let q := m.1.val
      if t.is (R.POD_S_STAT_POWERED q) then
        let t1 := t.set (R.POD_S_PWR_NOW q) (min m.2 65535)
        t1.set (R.POD_S_PWR_PEAK q) (max (t1.get (R.POD_S_PWR_PEAK q)) (min m.2 65535))
      else t) s
    s1.podShed (min s1.podBudget (5 * mv - 48000)) ((List.range 16).reverse)
  else s

/-- POD_BUDGET_CHECK. -/
def execPodBudgetCheck (mv : Nat) (mw : List (Idx16 × Nat)) (s : State) : Host.Outcome State Fault Refusal := done s (s.doPodBudget mv mw)

/-- The field half takes an XM_POD REQUEST (R346). [DESIGN CHOICE, log 41, safe] -/
def State.podRequest (s : State) (pl : List Byte) : State :=
  let q := leAt pl 0 1
  let tag := leAt pl 2 2
  let cmd := leAt pl 4 1
  if !([0x01, 0x04, 0x05, 0x07, 0x08].contains cmd) then s.podRelay q tag cmd 0x81 []
  else if 16 ≤ q ∨ s.get (R.POD_S_STAT_STATE q) ≠ podAttached then s.podRelay q tag cmd 0x80 []
  else
    let x := s.pod q
    s.setPod q { x with asked := x.asked ++ [{ cmd := cmd, payload := pl.drop 8, host := true, tag := tag }] }

end Sys2Proof.Machine
end

