-- ==== Sys2Proof/Machine/Link.lean ====
section
/-! DEFINITION. The optical barrier's link (R22–R30, R54): training, its loss, lane failures, shedding, the link-hold timer. -/

namespace Sys2Proof.Machine

/-- Count in a SAT counter of the ISO block (R54). [DESIGN CHOICE, log 21, unsafe] -/
def State.isoCount (s : State) (a n : Nat) : State := (s.satCount a 32 n R.ISO_EVT_SATURATED).1

/-- Width of a direction from the number of lanes that pass (R22). [DEDUCED, log 45, safe] -/
def widthOf (lanes : Nat) : Nat :=
  let n := popCount 16 lanes
  if n = 16 then 16 else if 12 ≤ n then 12 else 0

/-- Payload bytes per tick of a width (R23). -/
def widthBudget (w : Nat) : Nat := if w = 16 then 500000 else if w = 12 then 375000 else 0

/-- The lanes in use of a direction: all at width 16, else the twelve lowest that are good. -/
def usedLanes (good w : Nat) : Nat := if w = 0 then 0 else ((bitsOf 16 good).take w).foldl (fun m k => m + 2 ^ k) 0

/-- Widths, lanes and budgets in ISO_STAT, ISO_LANES and ISO_BUDGET. -/
def State.showWidths (s : State) (fh hf fhUsed hfUsed : Nat) : State :=
  let s1 := (s.set R.ISO_STAT_FH_WIDTH fh).set R.ISO_STAT_HF_WIDTH hf
  let s2 := s1.set R.ISO_STAT_DEGRADED (if fh = 12 ∨ hf = 12 then 1 else 0)
  let s3 := (s2.set R.ISO_LANES_USED_FH fhUsed).set R.ISO_LANES_USED_HF hfUsed
  (s3.put R.ISO_BUDGET_FH (widthBudget fh)).put R.ISO_BUDGET_HF (widthBudget hf)

/-- A training attempt starts (R24). -/
def State.trainStart (s : State) : State :=
  let s1 := (s.isoCount R.ISO_TRAIN_COUNT 1).set R.ISO_STAT_STATE 1
  { s1 with link := { s1.link with training := true, attemptTick := absTick s1.era s1.time.hTick } }

/-- LINK_HOLD; 0 is treated as 1. -/
def State.linkHoldTicks (s : State) : Nat := max 1 (s.get R.ISO_CTRL_LINK_HOLD)

/-- The link is lost (R29, R30): the host half's fault source, Ledger entry and gap mark; the field half's fault source and link-hold timer. Messages of
the host half that have not crossed are lost with it; those of the field half wait in the Float. The first attempt starts at once. [DESIGN CHOICE, log 44, unsafe] -/
def State.linkLoss (s : State) : State :=
  let s1 := (s.showWidths 0 0 0 0).set R.ISO_STAT_STATE 0
  let s2 := (s1.put R.ISO_LANES_GOOD 0).set R.ISO_EVT_LINK_DOWN 1
  let s3 := { s2 with link := { s2.link with fUp := false, outHF := [], shedDue := false, gapFrom := some s2.link.lastRx,
                                             hold := some (s2.fU + s2.linkHoldTicks * unitsPerTick) } }
  let last := (T64.unpack s3.link.lastRx).tick
  let s3 := s3.availGap (absTick (eraOf s3.time.hTick s3.era last) last) s3.hAbs
  let s4 := (s3.hostFault 0x14 0).ledgerH 0x09 0x8001 0 (leBytes 8 s3.link.lastRx)
  (s4.fieldFault 0x40 0).trainStart

/-- LINK_DOWN. -/
def State.doLinkDown (s : State) : State := if s.linkUp then s.linkLoss else s

/-- LINK_DOWN. -/
def execLinkDown (u : Sub) (s : State) : Host.Outcome State Fault Refusal := done s ((s.atH u).atF u).doLinkDown

/-- ISO_RETRAIN: a write of 1 to RETRAIN (R24). -/
def State.doRetrain (s : State) : State := if s.linkUp then s.linkLoss else s.trainStart

/-- ISO_RETRAIN. -/
def execIsoRetrain (u : Sub) (s : State) : Host.Outcome State Fault Refusal := done s ((s.atH u).ifOn R.ISO_CTRL State.doRetrain)

/-- TRAINING_RETRY_TIMER (R24): 100 ms after the start of the latest attempt. -/
def State.doTrainRetry (s : State) : State :=
  if !s.linkUp && !s.link.training && s.powered R.ISO_CTRL && decide (s.link.attemptTick + 10000 ≤ absTick s.era s.time.hTick) then s.trainStart else s

/-- TRAINING_RETRY_TIMER. -/
def execTrainingRetryTimer (u : Sub) (s : State) : Host.Outcome State Fault Refusal := done s (s.atH u).doTrainRetry

/-- Messages that wait are numbered anew from 0 on each channel (R24, R35). -/
def renumber (l : List Msg) : List Msg × List Nat :=
  l.foldl (fun acc m =>
    let n := acc.2.getD m.vc 0
    let m1 := { m with seq := n }
    (acc.1 ++ [{ m1 with trailer := crc32c (m1.header ++ m1.payload) }], acc.2.set m.vc ((n + 1) % 2 ^ 16))) ([], List.replicate 8 0)

/-- A stream that was shed returns: its next block carries SOM and GAP (R27). -/
def State.unshed (s : State) : State :=
  let s1 := s.link.shed.foldl (fun t k =>
    if k.1 < 3 then
      let x := t.lane k.2
      let y := x.stream k.1
      t.setLane k.2 (x.setStream k.1 { y with som := true, gap := true })
    else { t with link := { t.link with gapFH := 2 :: t.link.gapFH.erase 2 } }) s
  { s1 with link := { s1.link with shed := [] } }

/-- TRAINING_DONE (R22, R24, R60, R65): an attempt ends with the lanes that passed. On success the sequence numbers restart, the field half loads its
tick from the next host beacon, and the plan in force is sent again. [DESIGN CHOICE, log 27, safe; DEDUCED, log 45, safe] -/
def State.doTrainingDone (s : State) (fh hf : Nat) : State :=
  if s.link.training then
    let wf := widthOf fh
    let wh := widthOf hf
    let s0 := { s with link := { s.link with training := false } }
    if wf = 0 ∨ wh = 0 then s0.set R.ISO_STAT_STATE 0
    else
      let s1 := ((s0.showWidths wf wh (usedLanes fh wf) (usedLanes hf wh)).set R.ISO_STAT_STATE 2).set R.ISO_EVT_LINK_UP 1
      let s2 := (s1.set R.ISO_LANES_GOOD_FH (fh % 65536)).set R.ISO_LANES_GOOD_HF (hf % 65536)
      let s3 := if wf = 12 ∨ wh = 12 then (s2.set R.ISO_EVT_DEGRADED 1).hostFault 0x15 0 else s2
      let q := renumber s3.link.outFH
      let b := s3.boundaryAfter 2
      let s4 := { s3 with
        link := { s3.link with fUp := true, hold := none, outFH := q.1, txFH := q.2, outHF := [], txHF := List.replicate 8 0,
                               rxFH := List.replicate 8 0, rxHF := List.replicate 8 0, shedDue := wf == 12 },
        plan := { s3.plan with trainedFH := wf, trainedHF := wh },
        time := { s3.time with fAwaitLoad := true, fAligned := false, overruns := 0 } }
      let path := s4.fresh 32
      let s5 := (((path.2.put R.TIME_PATH path.1).set R.FCTL_STAT_ALIGNED 0).set R.TIME_STAT_FIELD_ALIGNED 0).unshed
      let p : Plan := { id := s5.val R.TIME_PLAN_ID, tick := b.1, era := b.2, act := .resend, fh := s5.fhLoad s5.mode, fe := s5.feLoad s5.mode }
      ({ s5 with plan := { s5.plan with sent := s5.plan.sent ++ [p] } }).sendPlan p b.1
  else s

/-- LINK_HOLD_EXPIRY (R29, R170, R433): every channel goes to drive-off and every generator to its rest value, until drive is re-enabled. [DESIGN CHOICE, log 44, unsafe] -/
def State.doLinkHoldExpiry (s : State) : State :=
  match s.link.hold with
  | some t =>
    if !s.link.fUp && decide (t ≤ s.fU) then
      let s1 := ({ s with link := { s.link with hold := none, holdExpired := true } }).driversOff
      let s2 := (List.range 48).foldl (fun v g => v.setGen g { v.gen g with rest := true }) s1
      let s3 := if s2.is R.SEQ_STAT_CUST_RUN then
          ({ s2 with seq := { s2.seq with svc := s2.seq.svc ++ [(s2.fU, SvcReq.linkHold)] } }).set R.SEQ_STAT_SVC_PENDING 1
        else if s2.seqState = seqRunning ∨ s2.seqState = seqPaused then s2.seqEnd seqHalted 0x10
        else s2
      s3.inhibitOn .linkHold
    else s
  | none => s

/-- LINK_HOLD_EXPIRY. -/
def execLinkHoldExpiry (u : Sub) (s : State) : Host.Outcome State Fault Refusal := done s ((s.atH u).atF u).doLinkHoldExpiry

/-- Host time now as one count of fraction units across eras. -/
def State.hU (s : State) : Nat := s.hAbs * unitsPerTick + s.time.hUnit

/-- A reconfiguration begins: the time that tunnel accesses wait stops counting (R51). -/
def State.tunPause (s : State) : State :=
  { s with link := { s.link with inFlight := s.link.inFlight.map (fun t => { t with left := t.left - (s.hU - t.since), since := s.hU }) } }

/-- A reconfiguration ends, and the time counts again. -/
def State.tunResume (s : State) : State :=
  { s with link := { s.link with inFlight := s.link.inFlight.map (fun t => { t with since := s.hU }) } }

/-- LANE_FAILURE (R25): a lane of a direction fails. In use, it is replaced or the width changes while messages are held; with fewer than 12 good lanes
the link is lost. -/
def State.doLaneFailure (s : State) (fh : Bool) (k : Nat) : State :=
  if s.linkUp then
    let g := if fh then R.ISO_LANES_GOOD_FH else R.ISO_LANES_GOOD_HF
    let used := s.get (if fh then R.ISO_LANES_USED_FH else R.ISO_LANES_USED_HF)
    let good := s.get g &&& (65535 ^^^ 2 ^ k)
    let s1 := s.set g good
    if !used.testBit k then s1
    else if popCount 16 good < 12 then s1.linkLoss
    else if s.get R.ISO_STAT_STATE = 3 then s1
    else s1.tunPause.set R.ISO_STAT_STATE 3
  else s

/-- LANE_FAILURE. -/
def execLaneFailure (u : Sub) (fh : Bool) (k : Idx16) (s : State) : Host.Outcome State Fault Refusal :=
  done s (((s.atH u).atF u).doLaneFailure fh k)

/-- What one direction runs after a reconfiguration: width, lanes in use, whether a lane was replaced at the same width. -/
def reconfigured (w good used : Nat) : Nat × Nat × Bool :=
  if used &&& (65535 ^^^ good) = 0 then (w, used, false)
  else if w = 16 then (12, usedLanes good 12, false)
  else
    let keep := used &&& good
    let free := bitsOf 16 (good &&& (65535 ^^^ keep))
    (12, (free.take (12 - popCount 16 keep)).foldl (fun m k => m + 2 ^ k) keep, true)

/-- RECONFIG_DONE (R25, R26, R27): the replacement or width change is complete. -/
def State.doReconfigDone (s : State) : State :=
  if s.get R.ISO_STAT_STATE = 3 then
    let f := reconfigured (s.get R.ISO_STAT_FH_WIDTH) (s.get R.ISO_LANES_GOOD_FH) (s.get R.ISO_LANES_USED_FH)
    let h := reconfigured (s.get R.ISO_STAT_HF_WIDTH) (s.get R.ISO_LANES_GOOD_HF) (s.get R.ISO_LANES_USED_HF)
    let fell := decide (f.1 < s.get R.ISO_STAT_FH_WIDTH)
    let fellH := decide (h.1 < s.get R.ISO_STAT_HF_WIDTH)
    let s1 := (s.showWidths f.1 h.1 f.2.1 h.2.1).set R.ISO_STAT_STATE 2
    let s2 := if f.2.2 || h.2.2 then s1.set R.ISO_EVT_LANE_SUBST 1 else s1
    let s3 := if fell || fellH then s2.set R.ISO_EVT_DEGRADED 1 else s2
    (({ s3 with link := { s3.link with shedDue := s3.link.shedDue || fell } }).tunResume).hostFault 0x15 0
  else s

/-- RECONFIG_DONE. -/
def execReconfigDone (u : Sub) (s : State) : Host.Outcome State Fault Refusal := done s ((s.atH u).atF u).doReconfigDone

/-- The load that a stream puts on the barrier. -/
def State.shedLoad (s : State) (kind i : Nat) : Nat :=
  s.fhLoad s.mode - ({ s with link := { s.link with shed := (kind, i) :: s.link.shed } }).fhLoad s.mode

/-- The order in which the planner sheds: RAW, DEC, FILT by lane and PIN_EDGES by slot, each highest number first (R27). -/
def shedOrder : List (Nat × Nat) :=
  ((List.range 3).map (fun k => ((List.range 48).reverse).map (fun l => (k, l)))).flatten ++ ((List.range 16).reverse).map (fun q => (3, q))

/-- Shed streams in order until the configuration fits. -/
def State.shedUntil (s : State) : List (Nat × Nat) → State
  | [] => s
  | k :: r =>
    if s.fhLoad s.mode ≤ s.fhBudget then s
    else if s.shedLoad k.1 k.2 = 0 then s.shedUntil r
    else ({ s with link := { s.link with shed := k :: s.link.shed } }).shedUntil r

/-- SHED (R27): at the first tick boundary after the field-to-host direction falls to width 12 the budget is applied. -/
def State.doShed (s : State) : State :=
  if s.link.shedDue && s.time.fUnit == 0 then
    let s0 := { s with link := { s.link with shedDue := false } }
    let s1 := s0.shedUntil shedOrder
    let new := s1.link.shed.filter (fun k => !s.link.shed.contains k)
    let mask (kind : Nat) : Nat := (new.filter (fun k => k.1 == kind)).foldl (fun m k => m + 2 ^ k.2) 0
    if new.isEmpty then s1
    else s1.ledgerH 0x09 0x8002 0 (leBytes 8 (mask 0) ++ leBytes 8 (mask 1) ++ leBytes 8 (mask 2) ++ leBytes 2 (mask 3))
  else s

/-- SHED. -/
def execShed (s : State) : Host.Outcome State Fault Refusal := done s s.doShed

/-- FRAME_REPLAY (R28): a corrupted lane frame of one direction is resent `n` times, at most 3; `lost` is the message that is lost when the third
replay fails. -/
def State.doFrameReplay (s : State) (fh : Bool) (n : Nat) (lost : Option Msg) : State :=
  if s.linkUp && decide (0 < n) then
    let gone := if n = 3 then lost else none
    let s1 := (s.wrapCount R.ISO_REPLAY n).isoCount R.ISO_CRC_ERR (n + (if gone.isSome then 1 else 0))
    match gone with
    | some m =>
      if fh then { s1 with link := { s1.link with outFH := s1.link.outFH.erase m } } else { s1 with link := { s1.link with outHF := s1.link.outHF.erase m } }
    | none => s1
  else s

/-- FRAME_REPLAY. -/
def execFrameReplay (u : Sub) (fh : Bool) (n : Fin 4) (lost : Option Msg) (s : State) : Host.Outcome State Fault Refusal :=
  done s ((s.atH u).doFrameReplay fh n lost)

/-- SAT counters of the ISO block. -/
def isoSats : List Nat := [R.ISO_HDROP, R.ISO_FDROP, R.ISO_CRC_ERR, R.ISO_SEQ_GAP, R.ISO_TRAIN_COUNT, R.ISO_TUN_TIMEOUT]

/-- ISO_CLR_STATS (R54). -/
def execIsoClrStats (u : Sub) (s : State) : Host.Outcome State Fault Refusal :=
  done s ((s.atH u).ifOn R.ISO_CTRL (fun t => (t.putAll isoSats 0).put R.ISO_TUN_LAT_MAX 0))

end Sys2Proof.Machine
end

