-- ==== Sys2Proof/Machine/Vectors.lean ====
section
/-! DEFINITION. The vector opcodes (R132–R144) and the instances at the pins (R96–R110, R123). One opcode command is one dispatch; a WAIT_TRIG or
MATCH command is one repetition. -/

namespace Sys2Proof.Machine

/-- A count or limit of 0 is taken as 1 (R134). -/
def count1 (n : Nat) : Nat := max 1 n

/-- Dispatch an instruction of an opcode and go on with `f`; nothing happens where it cannot be dispatched. -/
def State.opcode (s : State) (op : Nat) (f : State → Vec → State) : State :=
  match s.dispatchVec (fun o => o == op) with
  | some v => f (s.dispatch v) v
  | none => s

/-- NEXT. -/
def execOpNext (u : Sub) (s : State) : Host.Outcome State Fault Refusal :=
  done s ((s.atSeq u).opcode 0x00 (fun t v => t.issue (t.plainInst v)))

/-- REPEAT: N instances; after a pause between repetitions, the rest. -/
def State.doRepeat (s : State) : State :=
  if s.atDispatch ∧ s.seq.left ≠ 0 then
    match s.seq.cur with
    | some v => s.issue { s.plainInst v with reps := s.seq.left, rep0 := s.seq.rep, repeating := true }
    | none => s
  else s.opcode 0x01 (fun t v => t.issue { t.plainInst v with reps := count1 v.opb, repeating := true })

/-- REPEAT. -/
def execOpRepeat (u : Sub) (s : State) : Host.Outcome State Fault Refusal := done s (s.atSeq u).doRepeat

/-- LOOP: pushes a frame, unless the loop decision of its own frame has led back to it, then one instance (R138). -/
def State.doLoop (s : State) : State :=
  s.opcode 0x02 (fun t v =>
    if t.seq.byLoop then (t.setSeq { t.seq with byLoop := false }).issue (t.plainInst v)
    else if 16 ≤ t.seq.loops.length then t.stackError 0x04
    else
      let t1 := t.setSeq { t.seq with loops := t.seq.loops ++ [{ addr := t.val64 R.SEQ_VADDR_LO, rem := count1 v.opb, idx := 0 }] }
      t1.issue (t1.plainInst v))

/-- LOOP. -/
def execOpLoop (u : Sub) (s : State) : Host.Outcome State Fault Refusal := done s (s.atSeq u).doLoop

/-- ENDLOOP: one instance, then the loop decision. -/
def State.doEndloop (s : State) : State :=
  s.opcode 0x03 (fun t v =>
    match t.topLoop with
    | none => t.stackError 0x05
    | some f => (t.issue (t.plainInst v)).loopDecide f)

/-- ENDLOOP. -/
def execOpEndloop (u : Sub) (s : State) : Host.Outcome State Fault Refusal := done s (s.atSeq u).doEndloop

/-- The next instruction is an address. -/
def State.goTo (s : State) (a : Nat) : State := s.setSeq { s.seq with next := addr40 a, byLoop := false }

/-- JUMP. -/
def execOpJump (u : Sub) (s : State) : Host.Outcome State Fault Refusal :=
  done s ((s.atSeq u).opcode 0x04 (fun t v => (t.issue (t.plainInst v)).goTo v.opc))

/-- CALL: pushes the successor. -/
def State.doCall (s : State) : State :=
  s.opcode 0x05 (fun t v =>
    if 16 ≤ t.seq.calls.length then t.stackError 0x06
    else ((t.setSeq { t.seq with calls := t.seq.calls ++ [t.seq.next] }).issue (t.plainInst v)).goTo v.opc)

/-- CALL. -/
def execOpCall (u : Sub) (s : State) : Host.Outcome State Fault Refusal := done s (s.atSeq u).doCall

/-- RET: the next instruction is the address popped. -/
def State.doRet (s : State) : State :=
  s.opcode 0x06 (fun t v =>
    match t.seq.calls.getLast? with
    | none => t.stackError 0x07
    | some a => ((t.setSeq { t.seq with calls := t.seq.calls.dropLast }).issue (t.plainInst v)).goTo a)

/-- RET. -/
def execOpRet (u : Sub) (s : State) : Host.Outcome State Fault Refusal := done s (s.atSeq u).doRet

/-- WAIT_TRIG in progress ends: the next instruction is `a`. -/
def State.waitEnd (s : State) (a : Nat) : State := (s.setSeq { s.seq with inWait := false, waitFrom := none, fired := 0 }).goTo a

/-- WAIT_TRIG (R141): the first repetition at its dispatch; before each further one the test of its trigger set; a repetition that the
timeout forbids is left to WAIT_TIMEOUT. -/
def State.doWaitTrig (s : State) : State :=
  if s.atDispatch ∧ s.seq.inWait ∧ s.seq.left = 0 then
    match s.seq.cur with
    | some v =>
      if Nat.land s.seq.fired v.opa ≠ 0 then s.waitEnd s.seq.next
      else if v.opb ≠ 0 ∧ v.opb ≤ s.seq.issued then s
      else s.issue { s.plainInst v with isWait := true }
    | none => s
  else
    s.opcode 0x07 (fun t v =>
      (t.setSeq { t.seq with inWait := true, waitFrom := none, fired := 0 }).issue { t.plainInst v with isWait := true })

/-- WAIT_TRIG. -/
def execOpWaitTrig (u : Sub) (s : State) : Host.Outcome State Fault Refusal := done s ((s.atSeq u).doWaitTrig).seqSettle

/-- WAIT_TIMEOUT (R141): OPB repetitions have been issued without a trigger. -/
def State.doWaitTimeout (s : State) : State :=
  if s.atDispatch ∧ s.seq.inWait ∧ s.seq.left = 0 then
    match s.seq.cur with
    | some v =>
      if v.opb ≠ 0 ∧ v.opb ≤ s.seq.issued ∧ Nat.land s.seq.fired v.opa = 0 then
        let s1 := s.seqEvt R.SEQ_EVT_WAIT_TIMEOUT 0x0003 (leBytes 4 s.seq.issued ++ leBytes 5 (s.val64 R.SEQ_VADDR_LO))
        s1.waitEnd (if v.opc / 2 ^ 63 = 1 then v.opc else s1.seq.next)
      else s
    | none => s
  else s

/-- WAIT_TIMEOUT. -/
def execWaitTimeout (u : Sub) (s : State) : Host.Outcome State Fault Refusal := done s ((s.atSeq u).doWaitTimeout).seqSettle

/-- A repetition of the MATCH has passed, and its result is known (R142). -/
def State.matchPassed (s : State) : Bool := s.seq.results.any (fun r => r.2 && decide (r.1 ≤ s.fU))

/-- Every result of the MATCH at its limit is known to fail. -/
def State.matchFailed (s : State) : Bool :=
  s.seq.results.length == s.seq.issued && s.seq.results.all (fun r => !r.2 && decide (r.1 ≤ s.fU))

/-- The MATCH is complete: SEQ_MATCH_REPS, and after a wait at the limit the next instance starts afresh. -/
def State.matchEnd (s : State) : State :=
  let dry := s.seq.pipe.isEmpty && decide (s.seq.endAt ≤ s.fU + lead64)
  (s.put R.SEQ_MATCH_REPS s.seq.issued).setSeq { s.seq with matching := false, results := [], fresh := s.seq.fresh || dry }

/-- MATCH (R142): the first repetition at its dispatch; before each further one the known results; at the limit it waits. -/
def State.doMatch (s : State) : State :=
  if s.atDispatch ∧ s.seq.matching ∧ s.seq.left = 0 then
    match s.seq.cur with
    | some v =>
      if s.matchPassed then s.matchEnd
      else if count1 v.opb ≤ s.seq.issued then s
      else s.issue { s.plainInst v with isMatch := true }
    | none => s
  else
    s.opcode 0x08 (fun t v =>
      (t.setSeq { t.seq with matching := true, results := [], matchLast := none }).issue { t.plainInst v with isMatch := true })

/-- MATCH. -/
def execOpMatch (u : Sub) (s : State) : Host.Outcome State Fault Refusal := done s (s.atSeq u).doMatch

/-- A port has failed in a vector that is recorded (R110, R123, R127): PIN_FAIL_CNT, PIN_FIRST_FAIL and EVT.FAIL. -/
def State.portFail (s : State) (p t64 : Nat) : State :=
  let s1 := (s.pinFailCount p).set (R.PIN_EVT_FAIL p) 1
  if s1.is (R.PIN_FIRST_FAIL_GEN_VALID p) then s1 else s1.replaceResult (R.PIN_FIRST_FAIL_LO p) (R.PIN_FIRST_FAIL_GEN p) t64

/-- A failing vector is recorded. -/
def State.vectorFail (s : State) (r : FailRec) : State := (r.pinmap.foldl (fun t p => t.portFail p r.t64) s).failOpen r

/-- MATCH_LIMIT (R142): every result is known to fail, so the last repetition is recorded. -/
def State.doMatchLimit (s : State) : State :=
  if s.atDispatch ∧ s.seq.matching ∧ s.matchFailed then
    match s.seq.cur with
    | some v =>
      if count1 v.opb ≤ s.seq.issued then
        let s1 := match s.seq.matchLast with
          | some r => s.vectorFail r
          | none => s
        let s2 := (s1.seqEvt R.SEQ_EVT_MATCH_LIMIT 0x0004 (leBytes 4 s1.seq.issued ++ leBytes 5 (s1.val64 R.SEQ_VADDR_LO))).matchEnd
        if v.opa % 2 = 1 then s2.seqEnd seqHalted 0x0E else s2
      else s
    | none => s
  else s

/-- MATCH_LIMIT. -/
def execMatchLimit (u : Sub) (s : State) : Host.Outcome State Fault Refusal := done s (s.atSeq u).doMatchLimit

/-- SYNC_TICK (R143). -/
def execOpSyncTick (u : Sub) (s : State) : Host.Outcome State Fault Refusal :=
  done s ((s.atSeq u).opcode 0x09 (fun t v => t.issue { t.plainInst v with align := some (v.opa % 4096) })).seqSettle

/-- FLAG (R137). -/
def execOpFlag (u : Sub) (s : State) : Host.Outcome State Fault Refusal :=
  done s ((s.atSeq u).opcode 0x0A (fun t v =>
    t.issue { t.plainInst v with fset := v.opa % 256, fclr := v.opa / 256, fevt := v.opb % 2 == 1 }))

/-- GEN_STEP (R137). -/
def execOpGenStep (u : Sub) (s : State) : Host.Outcome State Fault Refusal :=
  done s ((s.atSeq u).opcode 0x0B (fun t v => t.issue { t.plainInst v with gstep := v.opc % 2 ^ 48 }))

/-- CUSTOM (R134, R160, R164): the routine starts at its entry; an entry in the vendor region halts. -/
def State.doCustom (s : State) : State :=
  s.opcode 0x0C (fun t v =>
    let e := v.opb % 65536
    if e < 0xC000 then (t.setSeq { t.seq with next := t.val64 R.SEQ_VADDR_LO }).seqEnd seqHalted 0x09
    else (t.setSeq { t.seq with mpc := e, micro := [], stalled := false }).set R.SEQ_STAT_CUST_RUN 1)

/-- CUSTOM. -/
def execOpCustom (u : Sub) (s : State) : Host.Outcome State Fault Refusal := done s (s.atSeq u).doCustom

/-- HALT (R144): one instance, then the sequencer halts. -/
def execOpHalt (u : Sub) (s : State) : Host.Outcome State Fault Refusal :=
  done s ((s.atSeq u).opcode 0x0D (fun t v => (t.issue (t.plainInst v)).seqEnd seqHalted 0x01))

/-- A reserved opcode (R134): no instance, and a halt with cause 0x08. -/
def State.doReserved (s : State) : State :=
  match s.dispatchVec (fun o => 0x0E ≤ o) with
  | some v =>
    let t := s.dispatch v
    (t.setSeq { t.seq with next := t.val64 R.SEQ_VADDR_LO }).seqEnd seqHalted 0x08
  | none => s

/-- RESERVED_OPCODE. -/
def execReservedOpcode (u : Sub) (s : State) : Host.Outcome State Fault Refusal := done s (s.atSeq u).doReserved

/-! ### An instance at the pins -/

/-- What came of a vector on one channel. -/
structure ChanOut where
  fail : Bool := false
  suppr : Bool := false
  skip : Bool := false
  /-- Instant of the failing compare, in units from vector start. -/
  at_ : Nat := 0
  deriving DecidableEq, Repr

/-- The driver may be on, but for EN and the format (R103). -/
def State.portMayDrive (s : State) (p : Nat) : Bool :=
  s.driveAllowed && s.is (R.PIN_PROT_DRV_PERMIT p) && !s.is (R.POD_S_STAT_HELD (p / 16)) && !(s.pod (p / 16)).selfHeld

/-- Termination of a D16 line after a vector (R105, R106): Z connects it, TERM_EN whenever the driver is off. -/
def State.setTerm (s : State) (p c : Nat) : State :=
  let x := s.pinRt p
  let on := s.is (R.PIN_STAT_DRV_ON p)
  s.setPinRt p { x with term := s.role p == roleRemote && !on && (c == 5 || s.is (R.PIN_CTRL_TERM_EN p)) }

/-- A vector that drives data `d` on a channel with a driver (R100–R103). -/
def State.driveVector (s : State) (p : Nat) (t : TSet) (d : Nat) : State × ChanOut :=
  let used := if t.voidPulse then [t.don] else t.drivesUse
  let skip := used.any (fun e => !t.occurs e)
  let s0 := if t.voidPulse then s.set (R.PIN_EVT_EDGE_ORDER p) 1 else s
  if s0.portMayDrive p then
    let on := s0.is (R.PIN_STAT_DRV_ON p)
    let x := s0.pinRt p
    let prev := if on then x.value else 0
    let s1 := s0.setPinRt p { x with value := t.lastValue d prev, wave := t.wave d prev on }
    ((s1.set (R.PIN_STAT_DRV_ON p) (if on || t.occurs t.don then 1 else 0)).set (R.PIN_STAT_DRV_SUPPR p) 0, { skip := skip })
  else
    let s1 := (s0.driverOff p).set (R.PIN_STAT_DRV_SUPPR p) 1
    (s1.pinCount p (R.PIN_SUPPR_CNT p) 1, { suppr := true, skip := skip })

/-- A vector that does not drive on a channel with a driver (R102): the driver turns off at D_OFF; with format OFF it is never on. -/
def State.idleVector (s : State) (p : Nat) (t : TSet) : State × ChanOut :=
  let s0 := s.set (R.PIN_STAT_DRV_SUPPR p) 0
  let x := s0.pinRt p
  if t.fmt = fmtOff then ((s0.setPinRt p { x with wave := [(0, .off)], value := 0 }).set (R.PIN_STAT_DRV_ON p) 0, {})
  else if t.occurs t.doff then
    let w := if s0.is (R.PIN_STAT_DRV_ON p) then [(t.doff, PinAct.off)] else []
    ((s0.setPinRt p { x with wave := w, value := 0 }).set (R.PIN_STAT_DRV_ON p) 0, {})
  else (s0.setPinRt p { x with wave := [] }, { skip := true })

/-- Least time of a departure that is always detected, and of one that may be, in picoseconds (R109). [DESIGN CHOICE, log 49, safe] -/
def missAlways : Nat := 250
/-- missMaybe. [DESIGN CHOICE, log 49, safe] -/
def missMaybe : Nat := 100

/-- The comparison of a vector that expects `e` (R109, R110): a departure between the two widths is detected or not, a free value. [DESIGN CHOICE, log 49, safe] -/
def State.compareVector (s : State) (p : Nat) (t : TSet) (e : Expect) (obs : List PortObs) : State × ChanOut :=
  let k := t.compare
  let o := obs.find? (fun x => x.port.val == p)
  let first := (o.map (fun x => x.atOpen)).getD .mid
  let spans := (o.map (fun x => x.spans)).getD []
  let live := !s.is (R.PIN_CTRL_CMP_MASK p)
  match k.1 with
  | .none => (s, { skip := k.2 })
  | .edge => (s, { fail := live && !meets e first, skip := k.2, at_ := t.copen })
  | .window =>
    let m := longestMiss e spans 0 0
    let r := if missAlways ≤ m then (1, s) else if m < missMaybe then (0, s) else s.fresh 1
    (r.2, { fail := live && r.1 == 1, skip := k.2, at_ := t.cclose })

/-- Join what drive and compare gave. -/
def ChanOut.join (a b : ChanOut) : ChanOut :=
  { fail := a.fail || b.fail, suppr := a.suppr || b.suppr, skip := a.skip || b.skip, at_ := max a.at_ b.at_ }

/-- The channel takes part in a vector that starts at an instant (R93, R128). -/
def State.takesPart (s : State) (p start : Nat) : Bool :=
  s.role p != roleNone && (s.is (R.PIN_CTRL_EN p) || s.is (R.PIN_STAT_BUSY p)) && decide ((s.pinRt p).enFrom ≤ start)

/-- One channel's part in a vector (R96–R113). -/
def State.channelVector (s : State) (p chars k start : Nat) (obs : List PortObs) (ilim : List Port) : State × ChanOut :=
  if !s.takesPart p start then (s, {})
  else
    let raw := charOf chars p
    let x := s.pinRt p
    let c := effChar x.lastChar raw
    let s1 := s.setPinRt p { x with lastChar := if raw = 8 then x.lastChar else some raw }
    let s2 := if charBad c then s1.set (R.PIN_EVT_BAD_CHAR p) 1 else s1
    let t := s2.tsetAt p k start
    let role := s2.role p
    let d := if roleDrives role then
        (match (if t.fmt = fmtOff then none else charDrive c) with
         | some b => s2.driveVector p t b
         | none => s2.idleVector p t)
      else (s2, {})
    let s3 := d.1.setTerm p c
    let e := if roleCompares role then
        (match charExpect c with
         | some x => s3.compareVector p t x obs
         | none => (s3, {}))
      else (s3, {})
    let o := d.2.join e.2
    let s4 := if o.skip then (e.1.pinCount p (R.PIN_EDGE_SKIP p) 1).set (R.PIN_EVT_EDGE_SKIP p) 1 else e.1
    let lim := ilim.any (fun y => y.val == p) && s4.is (R.PIN_STAT_DRV_ON p)
    let s5 := if lim then (s4.pinEvt p (R.PIN_EVT_ILIM p) 0x0001).fieldFault 0x4B p else s4
    (if o.fail then s5.pinFailSources p (start + o.at_) else s5, o)

/-- Latest instant at which the vector's compares are known, in units from its start: 32 cycles after the last compare edge reaches the
module (R142). -/
def State.knownAfter (s : State) (k start : Nat) : Nat :=
  let ports := (s.seq.pins.map Prod.fst).filter (fun p => s.takesPart p start && roleCompares (s.role p))
  maxOf (fun p =>
    let t := s.tsetAt p k start
    (match t.compare.1 with | .none => 0 | .edge => t.copen | .window => t.cclose) + s.get (R.PIN_DESKEW_CMP p)) ports + 32 * 256

/-- Every channel's part in a vector: the ports that fail, and whether any drive was suppressed or any edge skipped. -/
def State.channels (s : State) (chars k start : Nat) (obs : List PortObs) (ilim : List Port) : State × List Nat × Bool × Bool :=
  (List.range 256).foldl (fun a p =>
    let r := a.1.channelVector p chars k start obs ilim
    (r.1, (if r.2.fail then a.2.1 ++ [p] else a.2.1), a.2.2.1 || r.2.suppr, a.2.2.2 || r.2.skip)) (s, [], false, false)

/-- The gap of an overdraft ends at the start of the first instance after it (R197, R284). -/
def State.gapEnd (s : State) (start : Nat) : State :=
  match s.seq.odGap with
  | none => s
  | some g =>
    let e : LEntry := { t64 := t64At start, era := eraOf s.time.hTick s.era (T64.unpack (t64At start)).tick, source := 0x11, code := 0x8011,
                        data := leBytes 8 (t64At g) ++ leBytes 8 (t64At start) ++ leBytes 2 s.seq.loops.length }
    ((s.setSeq { s.seq with odGap := none }).ledger1 e).replayGapEnd 48 (start - g) start

/-- Start of the first instance of a pipeline entry. -/
def State.headStart (s : State) (i : Inst) : Nat := instStart s.seq.endAt i

/-- The instance at the head of the pipeline starts (R96, R123, R137): flags and step requests take effect, every channel executes its character,
the vector counts, and a failing vector is recorded; a repetition of a MATCH gives a result instead. -/
def State.startInstance (s : State) (i : Inst) (obs : List PortObs) (ilim : List Port) : State :=
  let start := s.headStart i
  let t64 := t64At start
  let s1 := s.pinSettle start
  let s2 := s1.doFailClearApply
  let s3 := s2.gapEnd start
  let s4 := if i.fset ≠ 0 ∨ i.fclr ≠ 0 then s3.setFlags i.fset i.fclr start else s3
  let s5 := if i.fevt then s4.fieldEvent 0x11 0x0005 0 t64 (leBytes 4 (s4.val R.SEQ_FLAGS) ++ leBytes 5 i.addr) else s4
  let s6 := if i.gstep ≠ 0 then s5.genStepRequest i.gstep start else s5
  let known := start + s6.knownAfter i.tset start
  let c := s6.channels i.chars i.tset start obs ilim
  let flags := (if c.2.2.1 then 1 else 0) + (if i.resumed then 2 else 0) + (if c.2.2.2 then 4 else 0)
  let r : FailRec := { t64 := t64, vaddr := i.addr, tset := i.tset, flags := flags, pinmap := c.2.1, vcount := c.1.val64 R.SEQ_VCOUNT_LO,
                       rep := if i.repeating then i.rep0 else i.loopIdx }
  let pass := c.2.1.isEmpty
  let q := c.1.seq
  let pipe := if i.reps ≤ 1 then q.pipe.drop 1
    else { i with reps := i.reps - 1, rep0 := i.rep0 + 1, startAt := none, align := none, fset := 0, fclr := 0, fevt := false,
                  gstep := 0, resumed := false } :: q.pipe.drop 1
  let q1 := { q with pipe := pipe, endAt := start + s6.periodAt i.tset start, lastStart := start, lastAddr := i.addr, lastResult := some (known, pass),
                     waitFrom := if i.isWait && q.inWait && q.waitFrom.isNone then some start else q.waitFrom,
                     results := if i.isMatch && q.matching then q.results ++ [(known, pass)] else q.results,
                     matchLast := if i.isMatch then some r else q.matchLast }
  let s7 := (c.1.setSeq q1).wrapCount64 R.SEQ_VCOUNT_LO 1
  let s8 := s7.set R.SEQ_STAT_BUSY 1
  if pass || i.isMatch then s8 else s8.vectorFail r

/-- The field half reaches an instant in units of its tick in progress. -/
def State.reachF (s : State) (t : Nat) : State :=
  { s with time := { s.time with fUnit := max s.time.fUnit (min (t - s.fTickU) (unitsPerTick - 1)) } }

/-- The instance at the head of the pipeline starts in the field tick in progress, or was due before. -/
def State.doInstanceStart (s : State) (obs : List PortObs) (ilim : List Port) : State :=
  match s.seq.pipe with
  | [] => s
  | i :: _ => if s.headStart i < s.nextTickU then (s.reachF (s.headStart i)).startInstance i obs ilim else s

/-- INSTANCE_START, with what the comparators showed in the vector and the ports whose driver reached its current limit. -/
def execInstanceStart (obs : List PortObs) (ilim : List Port) (s : State) : Host.Outcome State Fault Refusal := done s (s.doInstanceStart obs ilim)

/-- UNDERRUN (R135): a routine has issued no instance 64 cycles before the running one ends. -/
def State.doUnderrun (s : State) : State :=
  if s.seqState = seqRunning ∧ s.is R.SEQ_STAT_CUST_RUN ∧ s.seq.pipe = [] ∧ !s.seq.fresh ∧ s.seq.endAt ≤ s.fU + lead64 ∧ s.seq.ending = none then
    ((s.satCount R.SEQ_UNDERRUN 32 1 R.SEQ_EVT_SATURATED).1.set R.SEQ_EVT_UNDERRUN 1).setSeq { s.seq with fresh := true }
  else s

/-- UNDERRUN. -/
def execUnderrun (u : Sub) (s : State) : Host.Outcome State Fault Refusal := done s (s.atSeq u).doUnderrun

end Sys2Proof.Machine
end

