-- ==== Sys2Proof/Machine/SeqControl.lean ====
section
/-! DEFINITION. Control of the sequencer (R145–R156, R159, R174, R194–R197): start, pause, step, stop, jump, resume, the resident window, overdrafts
and the switch of the customer bank. -/

namespace Sys2Proof.Machine

/-- An address in a register pair of 40 bits. -/
def State.addrReg (s : State) (a : Nat) : Nat := addr40 (s.val64 a)

/-- The conditions of R145 other than STATE. -/
def State.mayRun (s : State) : Bool := s.domOn (domF 2) && s.is R.USTORE_STAT_VEND_OK && modeDrives s.mode

/-- Registers of the restart record. -/
def rstrRegs : List Nat := (List.range 32).map R.SEQ_RSTR

/-- First tick boundary at least `c` vector-clock cycles after now, in units. -/
def State.boundaryFrom (s : State) (c : Nat) : Nat := ceilDiv (s.fU + c * 256) unitsPerTick * unitsPerTick

/-- START is accepted (R145). -/
def State.seqLaunch (s : State) : State :=
  let a := s.addrReg R.SEQ_START_ADDR_LO
  let s1 := s.setFlags 0 0xFF s.fU
  let q := { s1.seq with loops := [], calls := [], micro := [], patches := [], next := a, byLoop := false, left := 0, rep := 0, issued := 0, inWait := false,
                         matching := false, results := [], stopReq := none, jumpReq := false, stepping := false, ending := none, commits := 0,
                         fresh := false, resumed := false, startAt := some (s.boundaryFrom 192), pendSet := 0, pendClr := 0, pendStep := 0,
                         stalled := false, cur := none, pins := s1.seq.pins.map (fun x => (x.1, { x.2 with lastChar := none })) }
  let s2 := ((s1.setSeq q).putAll rstrRegs 0).set R.SEQ_STAT_RSTR_STATE 0
  ((s2.put64 R.SEQ_VCOUNT_LO 0).put64 R.SEQ_VADDR_LO a).set R.SEQ_STAT_STATE seqRunning

/-- A write of 1 to START (R145). -/
def State.doSeqStart (s : State) : State :=
  s.ifOn R.SEQ_CTRL (fun s =>
    if (s.seqState = seqIdle ∨ s.seqState = seqHalted) ∧ s.mayRun then s.seqLaunch else s.set R.SEQ_EVT_REFUSED 1)

/-- SEQ_START. -/
def execSeqStart (u : Sub) (s : State) : Host.Outcome State Fault Refusal := done s (s.atSeq u).doSeqStart

/-- PAUSE is written with 1: the request is taken at the next vector-instruction boundary (R146, R147). -/
def State.doPause (s : State) : State := s.ifOn R.SEQ_CTRL (fun s => s.set R.SEQ_CTRL_PAUSE 1)

/-- PAUSE. -/
def execSeqPause (u : Sub) (s : State) : Host.Outcome State Fault Refusal := done s (s.atSeq u).doPause

/-- PAUSE is written with 0: issue continues without an underrun (R147). -/
def State.doPauseClear (s : State) : State :=
  s.ifOn R.SEQ_CTRL (fun s =>
    let s1 := s.set R.SEQ_CTRL_PAUSE 0
    if s1.seqState = seqPaused then (s1.setSeq { s1.seq with fresh := true }).set R.SEQ_STAT_STATE seqRunning
    else
      match s1.seq.ending with
      | some (st, _) => if st = seqPaused then s1.setSeq { s1.seq with ending := none, fresh := true } else s1
      | none => s1)

/-- PAUSE_CLEAR. -/
def execPauseClear (u : Sub) (s : State) : Host.Outcome State Fault Refusal := done s (s.atSeq u).doPauseClear

/-- STEP (R147): one instance in PAUSED; refused in any other state. -/
def State.doStep (s : State) : State :=
  s.ifOn R.SEQ_CTRL (fun s =>
    if s.seqState = seqPaused then (s.setSeq { s.seq with stepping := true, fresh := true }).set R.SEQ_STAT_STATE seqRunning
    else s.set R.SEQ_EVT_REFUSED 1)

/-- STEP. -/
def execSeqStep (u : Sub) (s : State) : Host.Outcome State Fault Refusal := done s (s.atSeq u).doStep

/-- STOP. -/
def execSeqStop (u : Sub) (s : State) : Host.Outcome State Fault Refusal :=
  done s ((s.atSeq u).ifOn R.SEQ_CTRL (fun s => s.seqStop 0x02))

/-- HOST_JUMP (R147): waits for the next point before a dispatch. -/
def execHostJump (u : Sub) (s : State) : Host.Outcome State Fault Refusal :=
  done s ((s.atSeq u).ifOn R.SEQ_CTRL (fun s => s.setSeq { s.seq with jumpReq := true }))

/-- No customer routine runs, so a vector-class request can be sampled (R146). -/
def State.atVectorPoint (s : State) : Bool := !s.is R.SEQ_STAT_CUST_RUN && s.seq.ending.isNone

/-- A pending vector-class request acts (R147): stop before pause before jump. -/
def State.takeVectorRequest (s : State) : State :=
  if !s.atVectorPoint then s
  else
    match s.seq.stopReq with
    | some c =>
      if s.seqState = seqRunning ∨ s.seqState = seqPaused then
        ((s.cutPipe).setSeq { s.cutPipe.seq with stopReq := none }).seqEnd seqHalted c
      else s.setSeq { s.seq with stopReq := none }
    | none =>
      if s.seqState = seqRunning ∧ s.is R.SEQ_CTRL_PAUSE ∧ !s.seq.stepping then s.cutPipe.seqEnd seqPaused 0
      else if s.seqState = seqRunning ∧ s.seq.jumpReq ∧ s.seq.left = 0 ∧ !s.seq.inWait ∧ !s.seq.matching then
        (s.setSeq { s.seq with jumpReq := false, next := s.addrReg R.SEQ_JUMP_ADDR_LO, byLoop := false }).set R.SEQ_STAT_OVERDRAFT 0
      else s

/-- VECTOR_REQUEST_TAKEN. -/
def execVectorRequestTaken (u : Sub) (s : State) : Host.Outcome State Fault Refusal := done s (s.atSeq u).takeVectorRequest

/-- Halt causes after which RESUME is refused (R149). -/
def noResume (c : Nat) : Bool := (4 ≤ c && c ≤ 0x0D) || c == 0x11

/-- A write of 1 to RESUME (R149). -/
def State.doSeqResume (s : State) : State :=
  s.ifOn R.SEQ_CTRL (fun s =>
    if s.seqState = seqHalted ∧ !noResume (s.val R.SEQ_HALT_CAUSE) ∧ s.get R.SEQ_STAT_RSTR_STATE ≠ 2 ∧ s.mayRun then
      let exact := s.get R.SEQ_STAT_RSTR_STATE = 1
      let q := { s.seq with fresh := true, resumed := true, startAt := none, stepping := false, stalled := false,
                            mpc := if exact then fieldOf (s.rd (R.SEQ_RSTR 0)) 0 16 else s.seq.mpc,
                            next := if exact then s.seq.next else s.addrReg R.SEQ_VADDR_LO }
      ((s.setSeq q).set R.SEQ_STAT_CUST_RUN (if exact then 1 else 0)).set R.SEQ_STAT_STATE seqRunning
    else s.set R.SEQ_EVT_REFUSED 1)

/-- SEQ_RESUME. -/
def execSeqResume (u : Sub) (s : State) : Host.Outcome State Fault Refusal := done s (s.atSeq u).doSeqResume

/-- The window of SEQ_WIN_BASE and SEQ_WIN_COUNT cannot be applied (R151). -/
def State.winBad (s : State) : Bool :=
  let b := s.val R.SEQ_WIN_BASE
  let c := s.val R.SEQ_WIN_COUNT
  let f := s.seq.fail
  !(s.seqState == seqIdle || s.seqState == seqHalted) || c == 0 || decide (1820 < b + c)
    || (f.size != 0 && decide (f.base < 9 * (b + c)) && decide (9 * b < f.base + f.size))

/-- A write of 1 to WIN_APPLY (R151): the window is in force and every frame is empty. -/
def State.doWinApply (s : State) : State :=
  s.ifOn R.SEQ_CTRL (fun s =>
    if s.winBad then s.set R.SEQ_EVT_WIN_CFG_ERR 1
    else s.setSeq { s.seq with winBase := s.val R.SEQ_WIN_BASE, winCount := s.val R.SEQ_WIN_COUNT, frames := [] })

/-- WIN_APPLY. -/
def execWinApply (u : Sub) (s : State) : Host.Outcome State Fault Refusal := done s (s.atSeq u).doWinApply

/-- A write of 1 to SEQ_CTRL.CLR_STATS (R174). -/
def State.doSeqClrStats (s : State) : State :=
  s.ifOn R.SEQ_CTRL (fun s => s.putAll [R.SEQ_REFILL_REJ, R.SEQ_UNDERRUN, R.SEQ_OD_COUNT] 0)

/-- SEQ_CLR_STATS. -/
def execSeqClrStats (s : State) : Host.Outcome State Fault Refusal := done s s.doSeqClrStats

/-- The latest instant at which the next instruction's first instance could enter the pipeline has passed (R155). -/
def State.issueTooLate (s : State) : Bool :=
  match s.seq.startAt with
  | some t => decide (t ≤ s.fU + lead64)
  | none => s.seq.fresh || (s.seq.pipe.isEmpty && decide (s.seq.endAt ≤ s.fU + lead64))

/-- An overdraft (R155, R194, R195, R197): it counts, replaces SEQ_OD_LAST and raises OVERDRAFT; the sequencer stalls, or halts with the enabled
channels in drive-off; the replay timeline breaks where its stream is linked (R284). -/
def State.doSeqOverdraft (s : State) : State :=
  if s.seqState = seqRunning ∧ !s.is R.SEQ_STAT_OVERDRAFT ∧ s.seq.ending = none ∧ !s.is R.SEQ_STAT_CUST_RUN ∧ s.seq.left = 0 ∧ !s.seq.inWait ∧
      !s.seq.matching ∧ s.seq.stopReq = none ∧ !s.resident s.seq.next ∧ s.issueTooLate then
    let gap := if s.seq.startAt.isSome then s.fU else s.seq.endAt
    let s1 := (s.satCount R.SEQ_OD_COUNT 32 1 R.SEQ_EVT_SATURATED).1
    let s2 := s1.replaceResult R.SEQ_OD_LAST_LO R.SEQ_OD_LAST_GEN s.fNow.pack
    let s3 := s2.seqEvt R.SEQ_EVT_OVERDRAFT 0x0002 (leBytes 4 0 ++ leBytes 5 s.seq.next)
    let s4 := s3.setSeq { s3.seq with fresh := true, resumed := true, startAt := none, odGap := some (s3.seq.odGap.getD gap) }
    let s5 := s4.replayBreak 48 gap
    if s5.is R.SEQ_CTRL_OD_ACTION then (s5.set R.SEQ_STAT_RSTR_STATE 0).seqEnd seqHalted 0x0F else s5.set R.SEQ_STAT_OVERDRAFT 1
  else s

/-- SEQ_OVERDRAFT. -/
def execSeqOverdraft (u : Sub) (s : State) : Host.Outcome State Fault Refusal := done s (s.atSeq u).doSeqOverdraft

/-- The microword of a customer bank at an address of the customer region (R159). -/
def State.custWord (s : State) (bank a : Nat) : Word :=
  let l := if bank = 0 then s.seq.bank0 else s.seq.bank1
  (regsFind l (a - 0xC000)).getD (Config.customerWord bank (a - 0xC000))

/-- The bytes of a customer bank. -/
def State.bankBytes (s : State) (bank : Nat) : List Byte :=
  ((List.range 16384).map (fun k => leBytes 4 (s.custWord bank (0xC000 + k)).toNat)).flatten

/-- Write the 32 bytes of a digest to 8 registers. -/
def State.putDigest (s : State) (r : Nat → Nat) (d : List Byte) : State :=
  (List.range 8).foldl (fun t k => t.put (r k) (leAt d (4 * k) 4)) s

/-- The committed customer bank becomes active (R159). -/
def State.doCustSwitch (s : State) : State :=
  if s.is R.USTORE_STAT_CUST_PENDING ∧ !s.is R.SEQ_STAT_CUST_RUN then
    let b := 1 - s.get R.USTORE_STAT_CUST_BANK
    let s1 := ((s.set R.USTORE_STAT_CUST_BANK b).set R.USTORE_STAT_CUST_PENDING 0).set R.USTORE_EVT_CUST_SWITCH 1
    s1.putDigest R.USTORE_CUST_DIGEST (Config.shake256 (s1.bankBytes b))
  else s

/-- CUST_SWITCH. -/
def execCustSwitch (u : Sub) (s : State) : Host.Outcome State Fault Refusal := done s (s.atSeq u).doCustSwitch

end Sys2Proof.Machine
end

