-- ==== Sys2Proof/Machine/Hdma.lean ====
section
/-! DEFINITION. The host link and the bus-master transfers (R351–R371): resets of the link, BAR2, descriptors and their completion,
stopping a channel, tap buffers and the moderated event vectors. -/

namespace Sys2Proof.Machine

/-- Count in a SAT counter of the HDMA block; reaching the maximum sets HDMA_EVT.SATURATED with its vector (R13, R369). -/
def State.hdmaCount (s : State) (a n : Nat) : State :=
  let r := s.satCount a 32 n R.HDMA_EVT_SATURATED
  if r.2 then r.1.msix 18 else r.1

/-- A cause of a host-link reset (R354). -/
inductive LinkResetCause where
  | flr | hot | down | domainOff
  deriving DecidableEq, Repr

/-- The host link is reset and the Ledger takes an entry with the cause (R354); source 0x0C stands for a link reset (R436). -/
def State.hostLinkReset (s : State) (c : LinkResetCause) : State :=
  let k := match c with | .flr => 0 | .hot => 1 | .down => 2 | .domainOff => 3
  (((s.hdmaReset false).ledgerH 0x03 0x80FF 0 (leBytes 4 (Config.causeCode 354 k)))).hostFault 0x0C 0

/-! ### Descriptors (R357–R359) -/

/-- Descriptor fields from the 64 bytes at ring index `idx`. -/
def parseWork (idx : Nat) (d : List Byte) : Work :=
  { idx := idx, op := leAt d 0 1, dflags := leAt d 1 1, tag := leAt d 2 2, length := leAt d 4 4, addr := leAt d 8 8,
    stream := leAt d 16 1, first := leAt d 24 8, user := leAt d 32 8 }

/-- Bytes of an item of a refill stream (R358). -/
def itemSize (stream : Nat) : Nat := if stream = 0 then 144 else 32

/-- A reserved byte or bit of the descriptor is not 0 (R357). -/
def reservedSet (d : List Byte) (w : Work) : Bool :=
  (w.dflags / 4 != 0) || (leAt d 17 7 != 0) || (leAt d 40 24 != 0)
    || (w.op != 1 && w.stream != 0)
    || (w.op == 1 && w.stream == 0 && w.first / 2 ^ 40 != 0)
    || (w.op == 1 && w.stream != 0 && w.first / 2 ^ 13 != 0)
    || ((w.op == 0 || w.op == 3) && w.first != 0)

/-- A REFILL to the stream is in progress on another channel (R359 reason 5). -/
def State.streamBusy (s : State) (c stream : Nat) : Bool :=
  (List.range 16).any (fun k => k != c && (s.chan k).fly.any (fun w => w.op == 1 && w.stream == stream && w.ended.isNone))

/-- The first reason of R359 that applies; 0 for a good descriptor. -/
def State.descReason (s : State) (c : Nat) (d : List Byte) (w : Work) : Nat :=
  if 3 < w.op || reservedSet d w then 1
  else if w.op = 0 then 0
  else if w.length = 0 || (w.op == 1 && w.length % itemSize w.stream != 0) || (w.op == 2 && w.length % 4 != 0)
      || (w.op == 3 && w.length < 65568) then 2
  else if w.addr % 4 ≠ 0 || 2 ^ 64 < w.addr + w.length then 3
  else if w.op = 1 && 48 < w.stream then 4
  else if w.op = 1 && s.streamBusy c w.stream then 5
  else if w.op = 2 && s.wqBase < w.first + w.length then 6
  else 0

/-- The channel can fetch the descriptor at HEAD: enabled, no stop, a posted descriptor, room for one more (R361, R362), and for FENCE
every earlier descriptor completed (R357). -/
def State.canFetch (s : State) (c : Nat) (w : Work) : Bool :=
  s.domOn (domH 4) && s.is (R.HDMA_C_CTRL_EN c) && !s.is (R.HDMA_C_STAT_BUSY c) && !s.is (R.HDMA_C_STAT_ERR c)
    && s.val (R.HDMA_C_HEAD c) != s.val (R.HDMA_C_TAIL c) && decide ((s.chan c).fly.length < 256)
    && (w.dflags / 2 % 2 == 0 || (s.chan c).fly.isEmpty)

/-- Show the channel's descriptors in progress in INFLIGHT. -/
def State.showInflight (s : State) (c : Nat) : State := s.set (R.HDMA_C_STAT_INFLIGHT c) (s.chan c).fly.length

/-- Fetch the descriptor at HEAD: HEAD advances and the work joins the channel; a bad descriptor ends at once (R359, R361). [DESIGN CHOICE, log 59, safe] -/
def State.fetchDesc (s : State) (c : Nat) (w : Work) (reason : Nat) : State :=
  let head := s.val (R.HDMA_C_HEAD c)
  let w1 := if reason ≠ 0 then { w with ended := some (2, reason) } else if w.op = 0 then { w with ended := some (0, 0) } else w
  let s1 := s.put (R.HDMA_C_HEAD c) ((head + 1) % s.val (R.HDMA_C_SIZE c))
  (s1.setChan c { s1.chan c with fly := (s1.chan c).fly ++ [w1] }).showInflight c

/-- Replace the work of ring index `w.idx`. -/
def State.setWork (s : State) (c : Nat) (w : Work) : State :=
  s.setChan c { s.chan c with fly := (s.chan c).fly.map (fun x => if x.idx == w.idx then w else x) }

/-! ### Refill messages (R176, R177) -/

/-- The runs of a vector refill: at most 454 vectors each, none past index 0xFFFF of a segment. -/
def vecRuns : Nat → Nat → Nat → List (Nat × Nat)
  | 0, _, _ => []
  | f + 1, first, n =>
    if n = 0 then []
    else
      let k := min n (min 454 (65536 - first % 65536))
      (first, k) :: vecRuns f (first + k) (n - k)

/-- The runs of a list refill: at most 2,047 entries each, none past index LEN − 1; a streamed list continues at index 0. -/
def genRuns : Nat → Nat → Bool → Nat → Nat → List (Nat × Nat)
  | 0, _, _, _, _ => []
  | f + 1, len, ring, first, n =>
    if n = 0 then []
    else
      let room := if first < len then len - first else 2047
      let k := min n (min 2047 room)
      let next := first + k
      (first, k) :: genRuns f len ring (if ring && next == len then 0 else next) (n - k)

/-- Send whole items of a refill, the first of which is item number `at0` of the descriptor (R46, R176). -/
def State.sendRefill (s : State) (w : Work) (at0 : Nat) (bytes : List Byte) : State :=
  let isz := itemSize w.stream
  let n := bytes.length / isz
  if w.stream = 0 then
    (vecRuns (n + 1) ((w.first + at0) % 2 ^ 40) n).foldl (fun (p : State × List Byte) r =>
      (p.1.sendHF 0x50 5 s.hNow.pack
        (leBytes 8 r.1 ++ leBytes 2 r.2 ++ leBytes 2 w.tag ++ leBytes 4 0 ++ p.2.take (r.2 * isz)), p.2.drop (r.2 * isz))) (s, bytes) |>.1
  else
    let g := w.stream - 1
    let len := s.get (R.GEN_LIST_LEN g)
    let ring := s.is (R.GEN_CTRL_STREAM g)
    let first := if ring then (w.first + at0) % len else w.first + at0
    (genRuns (n + 1) len ring first n).foldl (fun (p : State × List Byte) r =>
      (p.1.sendHF 0x60 6 s.hNow.pack
        (leBytes 1 g ++ leBytes 1 0 ++ leBytes 2 r.1 ++ leBytes 2 r.2 ++ leBytes 2 0 ++ leBytes 2 w.tag ++ leBytes 6 0
          ++ p.2.take (r.2 * isz)), p.2.drop (r.2 * isz))) (s, bytes) |>.1

/-- Data arrives for a REFILL: whole items go out in messages, the rest is kept. [DESIGN CHOICE, log 59, safe] -/
def State.refillData (s : State) (c : Nat) (w : Work) (data : List Byte) : State :=
  let isz := itemSize w.stream
  let all := w.part ++ data.take (w.length - w.moved - w.part.length)
  let n := all.length / isz * isz
  (s.sendRefill w (w.moved / isz) (all.take n)).setWork c { w with moved := w.moved + n, part := all.drop n }

/-- COPY_OUT moves `n` more bytes of acquisition memory to host memory. -/
def State.copyData (s : State) (c : Nat) (w : Work) (n : Nat) : State :=
  let k := min n (w.length - w.moved)
  let bytes := memRead s.mem (w.first + w.moved) k
  let s1 := { s with hdma := { s.hdma with hostWrites := s.hdma.hostWrites ++ [(w.addr + w.moved, bytes)] } }
  s1.setWork c { w with moved := w.moved + k }

/-- A descriptor in progress moves on: a REFILL by the data that arrived, a COPY_OUT by `n` bytes. -/
def State.moveWork (s : State) (c : Nat) (w : Work) (data : List Byte) (n : Nat) : State :=
  if w.ended.isSome then s
  else if w.op = 1 then s.refillData c w data
  else if w.op = 2 then s.copyData c w n
  else s

/-! ### Completion (R360) -/

/-- The 32 bytes of a completion record. -/
def cplBytes (w : Work) (phase t64 : Nat) : List Byte :=
  let e := w.ended.getD (1, 0)
  leBytes 2 w.idx ++ leBytes 1 e.1 ++ leBytes 1 phase ++ leBytes 4 (if w.op = 0 then 0 else w.moved) ++ leBytes 8 t64 ++ leBytes 8 w.user
    ++ leBytes 2 w.tag ++ leBytes 1 w.stream ++ leBytes 1 e.2 ++ leBytes 4 0

/-- Write a descriptor's completion record: its slot is its ring index, the next index and phase follow; the bytes count in DONE, the
channel's vector is raised on request (R360, R361, R369). [DESIGN CHOICE, log 59, safe] -/
def State.writeCpl (s : State) (c : Nat) (w : Work) : State :=
  let size := s.val (R.HDMA_C_SIZE c)
  let phase := s.get (R.HDMA_C_CPL_IDX_PHASE c)
  let base := s.val64 (R.HDMA_C_CPL_LO c) / 4096 * 4096
  let s1 := { s with hdma := { s.hdma with hostWrites := s.hdma.hostWrites ++ [(base + 32 * w.idx, cplBytes w phase s.hNow.pack)] } }
  let s2 := s1.set (R.HDMA_C_CPL_IDX_INDEX c) ((w.idx + 1) % size)
  let s3 := if w.idx + 1 = size then s2.set (R.HDMA_C_CPL_IDX_PHASE c) (1 - phase) else s2
  let s4 := s3.wrapCount64 (R.HDMA_C_DONE_LO c) w.moved
  let s5 := if (w.ended.map Prod.fst) = some 2 then s4.set (R.HDMA_C_EVT_BAD_DESC c) 1 else s4
  if w.dflags % 2 = 1 || s5.is (R.HDMA_C_CTRL_IRQ_ALL c) then s5.msix (2 + c) else s5

/-- The front work of a channel, if it has ended, is completed and leaves. -/
def State.retire (s : State) (c : Nat) : State :=
  match (s.chan c).fly with
  | w :: r => if w.ended.isSome then ((s.writeCpl c w).setChan c { s.chan c with fly := r }).showInflight c else s
  | [] => s

/-! ### Tap buffers (R366) -/

/-- Pad an item with zeros to a multiple of 8 bytes. -/
def padTo8 (b : List Byte) : List Byte := b ++ List.replicate ((8 - b.length % 8) % 8) 0

/-- Write an item into the first tap buffer that has room; buffers that it does not fit complete. False when no buffer is left. -/
def tapInto (now : Nat) (b : List Byte) : List Work → List Work × Option (Nat × List Byte)
  | [] => ([], none)
  | w :: r =>
    if w.op = 3 ∧ w.ended = none then
      if w.moved + b.length ≤ w.length then ({ w with moved := w.moved + b.length, lastAdd := now } :: r, some (w.addr + w.moved, b))
      else let p := tapInto now b r; ({ w with ended := some (0, 0) } :: p.1, p.2)
    else let p := tapInto now b r; (w :: p.1, p.2)

/-- Clearing releases an item of a class (6: late entries): every channel that selects it receives it or counts it missed. -/
def State.tapItem (s : State) (cls : Nat) (bytes : List Byte) : State :=
  (List.range 16).foldl (fun t c =>
    if (t.rd (R.HDMA_C_TAP c)).getLsbD cls then
      let p := tapInto t.time.hTick (padTo8 bytes) (t.chan c).fly
      let t1 := t.setChan c { t.chan c with fly := p.1 }
      match p.2 with
      | some wr => { t1 with hdma := { t1.hdma with hostWrites := t1.hdma.hostWrites ++ [wr] } }
      | none => (t1.satCount (R.HDMA_C_TAP_MISS c) 32 1 (R.HDMA_C_EVT_SATURATED c)).1
    else t) s

/-! ### The commands -/

/-- Start a stop of a channel: the TAIL in force bounds what is cancelled (R364). -/
def State.startStop (s : State) (c : Nat) (abort : Bool) : State :=
  let s1 := (((s.set (R.HDMA_C_STAT_BUSY c) 1).set (R.HDMA_C_STAT_ABORTING c) (if abort then 1 else 0)).set
    (R.HDMA_C_STAT_DRAINING c) (if abort then 0 else 1))
  match (s.chan c).stopTail with
  | some _ => s1
  | none => s1.setChan c { s1.chan c with stopTail := some (s.val (R.HDMA_C_TAIL c)) }

/-- Work in progress that ABORT stops is CANCELLED with the bytes it has moved; a partial item is discarded (R364, R365). -/
def State.cancelFly (s : State) (c : Nat) : State :=
  s.setChan c { s.chan c with fly := (s.chan c).fly.map (fun w => if w.ended.isSome then w else { w with ended := some (1, 0), part := [] }) }

/-- ABORT of a channel. -/
def State.abortChan (s : State) (c : Nat) (data : List Byte) (n : Nat) : State :=
  let s1 := match (s.chan c).fly.find? (fun w => w.ended.isNone) with
    | some w => s.moveWork c w data n
    | none => s
  (s1.cancelFly c).startStop c true

def doFunctionLevelReset (u : Sub) (s : State) : State := (s.atH u).hostLinkReset .flr
/-- FUNCTION_LEVEL_RESET (R354). -/
def execFunctionLevelReset (u : Sub) (s : State) : Host.Outcome State Fault Refusal := done s (doFunctionLevelReset u s)

def doHotReset (u : Sub) (s : State) : State := (s.atH u).hostLinkReset .hot
/-- HOT_RESET (R354). -/
def execHotReset (u : Sub) (s : State) : Host.Outcome State Fault Refusal := done s (doHotReset u s)

def doHostLinkDown (u : Sub) (s : State) : State := (s.atH u).hostLinkReset .down
/-- HOST_LINK_DOWN (R354). -/
def execHostLinkDown (u : Sub) (s : State) : Host.Outcome State Fault Refusal := done s (doHostLinkDown u s)

/-- The link retrains: RETRAINS counts in 16 bits, SPEED and WIDTH show the result, DEGRADED below 32 GT/s × 8. -/
def doHostLinkRetrain (u : Sub) (speed : Fin 6) (width : Fin 9) (s : State) : State :=
  let s1 := s.atH u
  let r := s1.satField R.HDMA_LINK_RETRAINS 1 R.HDMA_EVT_SATURATED
  let s2 := if r.2 then r.1.msix 18 else r.1
  let s3 := ((s2.set R.HDMA_LINK_SPEED speed.val).set R.HDMA_LINK_WIDTH width.val).set R.HDMA_LINK_DEGRADED
    (if speed.val = 5 ∧ width.val = 8 then 0 else 1)
  s3.hdmaEvt R.HDMA_EVT_LINK_CHANGE
/-- HOST_LINK_RETRAIN (R353). -/
def execHostLinkRetrain (u : Sub) (speed : Fin 6) (width : Fin 9) (s : State) : Host.Outcome State Fault Refusal :=
  done s (doHostLinkRetrain u speed width s)

/-- A correctable AER error raises source 0x0B, an uncorrectable one 0x0C (R354, R436). -/
def doAerError (u : Sub) (correctable : Bool) (s : State) : State :=
  (s.atH u).hostFault (if correctable then 0x0B else 0x0C) 0
/-- AER_ERROR (R354). -/
def execAerError (u : Sub) (correctable : Bool) (s : State) : Host.Outcome State Fault Refusal := done s (doAerError u correctable s)

/-- A word of a BAR2 read: memory, or all ones beyond the fitted memory, in the staging area or in the write queue (R356, R380). [DESIGN CHOICE, log 60, safe] -/
def State.bar2Word (s : State) (a : Nat) : Word :=
  if a + 4 ≤ s.wqBase then BitVec.ofNat 32 (ofBytes (memRead s.mem a 4)) else 0xFFFFFFFF

def doBar2Access (u : Sub) (write : Bool) (off : BitVec 32) (words : Nat) (s : State) : State :=
  let s1 := s.atH u
  let base := s1.val R.HDMA_WIN_BASE % 256 * 2 ^ 30 + off.toNat
  let bad := write || decide (s1.wqBase < base + 4 * words)
  let s2 := if write then s1
    else { s1 with hdma := { s1.hdma with bar2Data := (List.range words).map (fun k => s1.bar2Word (base + 4 * k)) } }
  if bad then (s2.hdmaCount R.HDMA_BAR2_ERR 1).hdmaEvt R.HDMA_EVT_BAR2_ERR else s2
/-- BAR2_ACCESS (R356): a read returns memory as it stands, a write is discarded; a bad access counts once. -/
def execBar2Access (u : Sub) (write : Bool) (off : BitVec 32) (words : Nat) (s : State) : Host.Outcome State Fault Refusal :=
  done s (doBar2Access u write off words s)

def doDescriptorPost (u : Sub) (c : Idx16) (tail : Fin 4096) (s : State) : State :=
  if s.domOn (domH 4) then (s.atH u).put (R.HDMA_C_TAIL c) tail.val else s.atH u
/-- DESCRIPTOR_POST (R361): TAIL is stored; what it covers can be fetched while the channel is enabled. -/
def execDescriptorPost (u : Sub) (c : Idx16) (tail : Fin 4096) (s : State) : Host.Outcome State Fault Refusal :=
  done s (doDescriptorPost u c tail s)

/-- Fetch of the descriptor at HEAD when it carries one of the given operations; `f` starts its work. -/
def State.runDesc (s : State) (c : Nat) (d : List Byte) (mine : Nat → Bool) (f : State → Work → State) : State :=
  let w := parseWork (s.val (R.HDMA_C_HEAD c)) d
  let reason := s.descReason c d w
  if mine w.op && s.canFetch c w then
    if reason = 0 then f (s.fetchDesc c w 0) w else s.fetchDesc c w reason
  else s

def doHdmaNop (u : Sub) (c : Idx16) (d : List Byte) (s : State) : State :=
  (s.atH u).runDesc c d (fun op => op == 0 || 3 < op) (fun t _ => t)
/-- HDMA_NOP (R358): the descriptor completes at once with BYTES 0; a descriptor of no operation is bad (R359). -/
def execHdmaNop (u : Sub) (c : Idx16) (d : List Byte) (s : State) : Host.Outcome State Fault Refusal := done s (doHdmaNop u c d s)

def doRefill (u : Sub) (c : Idx16) (d data : List Byte) (s : State) : State :=
  let s1 := s.atH u
  if s1.linkUp then s1.runDesc c d (fun op => op == 1) (fun t w => t.refillData c w data) else s1
/-- REFILL (R358): host data goes to the stream as refill messages; refill stops while the link is down (R29). -/
def execRefill (u : Sub) (c : Idx16) (d data : List Byte) (s : State) : Host.Outcome State Fault Refusal := done s (doRefill u c d data s)

def doCopyOut (u : Sub) (c : Idx16) (d : List Byte) (n : Nat) (s : State) : State :=
  (s.atH u).runDesc c d (fun op => op == 2) (fun t w => t.copyData c w n)
/-- COPY_OUT (R358): acquisition memory goes to host memory. -/
def execCopyOut (u : Sub) (c : Idx16) (d : List Byte) (n : Nat) (s : State) : Host.Outcome State Fault Refusal := done s (doCopyOut u c d n s)

def doTap (u : Sub) (c : Idx16) (d : List Byte) (s : State) : State :=
  (s.atH u).runDesc c d (fun op => op == 3) (fun t _ => t)
/-- TAP (R366): the descriptor's buffer waits for items that Clearing releases. -/
def execTap (u : Sub) (c : Idx16) (d : List Byte) (s : State) : Host.Outcome State Fault Refusal := done s (doTap u c d s)

/-- The front descriptor's work ends: a REFILL with the rest of its data while the link is up, a COPY_OUT with the rest of its bytes. -/
def State.finishFront (s : State) (c : Nat) (data : List Byte) : State :=
  match (s.chan c).fly with
  | w :: _ =>
    if w.ended.isSome ∨ w.op = 3 ∨ (w.op = 1 ∧ !s.linkUp) then s
    else
      let s1 := s.moveWork c w data (w.length - w.moved)
      match (s1.chan c).fly with
      | w1 :: _ => if w1.moved = w1.length then s1.setWork c { w1 with ended := some (0, 0) } else s1
      | [] => s1
  | [] => s

def doDescriptorComplete (u : Sub) (c : Idx16) (data : List Byte) (s : State) : State := ((s.atH u).finishFront c data).retire c
/-- DESCRIPTOR_COMPLETE (R360): the front descriptor's work ends and its completion record is written, in descriptor order. -/
def execDescriptorComplete (u : Sub) (c : Idx16) (data : List Byte) (s : State) : Host.Outcome State Fault Refusal :=
  done s (doDescriptorComplete u c data s)

/-- A host error (R363): the descriptor completes with HOST_ERR and the bytes before it, the channel stops as under ABORT with ERR. -/
def doHostErr (u : Sub) (c : Idx16) (data : List Byte) (n : Nat) (s : State) : State :=
  let s1 := s.atH u
  match (s1.chan c).fly.find? (fun w => w.ended.isNone) with
  | none => s1
  | some w =>
    let s2 := s1.moveWork c w data n
    let w2 := (((s2.chan c).fly.find? (fun x => x.idx == w.idx))).getD w
    let s3 := s2.setWork c { w2 with ended := some (3, 0), part := [] }
    let s4 := ((s3.cancelFly c).startStop c true).set (R.HDMA_C_STAT_ERR c) 1
    let s5 := (s4.satCount (R.HDMA_C_ERR_CNT c) 32 1 (R.HDMA_C_EVT_SATURATED c)).1
    (s5.set (R.HDMA_C_EVT_HOST_ERR c) 1).hdmaEvt R.HDMA_EVT_CHAN_ERR
/-- HOST_ERR (R363). -/
def execHostErr (u : Sub) (c : Idx16) (data : List Byte) (n : Nat) (s : State) : Host.Outcome State Fault Refusal :=
  done s (doHostErr u c data n s)

def doHdmaChannelEnable (u : Sub) (c : Idx16) (s : State) : State :=
  let s1 := s.atH u
  if s1.is (R.HDMA_C_STAT_BUSY c) || !s1.domOn (domH 4) then s1 else (s1.set (R.HDMA_C_CTRL_EN c) 1).set (R.HDMA_C_STAT_ERR c) 0
/-- HDMA_CHANNEL_ENABLE (R361, R88): EN is set unless the channel is BUSY, and ERR clears. -/
def execHdmaChannelEnable (u : Sub) (c : Idx16) (s : State) : Host.Outcome State Fault Refusal := done s (doHdmaChannelEnable u c s)

def doHdmaDrain (u : Sub) (c : Idx16) (s : State) : State :=
  let s1 := s.atH u
  if s1.is (R.HDMA_C_CTRL_EN c) && !s1.is (R.HDMA_C_STAT_BUSY c) then s1.startStop c false else s1
/-- HDMA_DRAIN (R364): descriptors in progress complete in full, the rest is cancelled when the stop completes. -/
def execHdmaDrain (u : Sub) (c : Idx16) (s : State) : Host.Outcome State Fault Refusal := done s (doHdmaDrain u c s)

def doHdmaAbort (u : Sub) (c : Idx16) (data : List Byte) (n : Nat) (s : State) : State :=
  let s1 := s.atH u
  if s1.is (R.HDMA_C_CTRL_EN c) && !s1.is (R.HDMA_C_STAT_ABORTING c) then s1.abortChan c data n else s1
/-- HDMA_ABORT (R364, R365): descriptors stop at the next 4 KiB boundary; `data` or `n` is what still arrived up to it. -/
def execHdmaAbort (u : Sub) (c : Idx16) (data : List Byte) (n : Nat) (s : State) : Host.Outcome State Fault Refusal :=
  done s (doHdmaAbort u c data n s)

/-- Cancel the descriptors posted and not fetched, from HEAD up to the TAIL in force, with their records in order. -/
def State.cancelPosted (s : State) (c stop : Nat) : Nat → List (List Byte) → State
  | 0, _ => s
  | f + 1, ds =>
    let head := s.val (R.HDMA_C_HEAD c)
    if head = stop then s
    else
      let w := { parseWork head (ds.headD []) with ended := some (1, 0) }
      let s1 := (s.writeCpl c w).put (R.HDMA_C_HEAD c) ((head + 1) % s.val (R.HDMA_C_SIZE c))
      s1.cancelPosted c stop f ds.tail

def doChannelStopped (u : Sub) (c : Idx16) (descs : List (List Byte)) (s : State) : State :=
  let s1 := s.atH u
  match (s1.chan c).stopTail, (s1.chan c).fly with
  | some stop, [] =>
    let s2 := s1.cancelPosted c stop 4096 descs
    let s3 := ((((s2.put (R.HDMA_C_HEAD c) stop).set (R.HDMA_C_STAT_BUSY c) 0).set (R.HDMA_C_STAT_ABORTING c) 0).set
      (R.HDMA_C_STAT_DRAINING c) 0).set (R.HDMA_C_CTRL_EN c) 0
    (s3.set (R.HDMA_C_EVT_STOPPED c) 1).setChan c { s3.chan c with stopTail := none }
  | _, _ => s1
/-- CHANNEL_STOPPED (R364): with no descriptor in progress, the posted ones are cancelled and the channel is off; `descs` are the posted
descriptors as they stand in host memory. -/
def execChannelStopped (u : Sub) (c : Idx16) (descs : List (List Byte)) (s : State) : Host.Outcome State Fault Refusal :=
  done s (doChannelStopped u c descs s)

def doTapFlush (u : Sub) (c : Idx16) (s : State) : State :=
  let s1 := s.atH u
  let ft := s1.get (R.HDMA_C_TAP_FLUSH_TICKS c)
  match (s1.chan c).fly.find? (fun w => w.op == 3 && w.ended.isNone) with
  | some w => if ft ≠ 0 ∧ 0 < w.moved ∧ w.lastAdd + ft ≤ s1.time.hTick then s1.setWork c { w with ended := some (0, 0) } else s1
  | none => s1
/-- TAP_FLUSH (R366): a partly filled buffer completes after FLUSH_TICKS ticks without an item. -/
def execTapFlush (u : Sub) (c : Idx16) (s : State) : Host.Outcome State Fault Refusal := done s (doTapFlush u c s)

def doEqVectorTimer (u : Sub) (s : State) : State :=
  let s1 := s.atH u
  let ticks := s1.get R.HDMA_EQ_MOD_TICKS
  let due := s1.hdma.eqMod.filter (fun p => ticks != 0 && decide (p.2.2 + ticks ≤ s1.time.hTick))
  let rest := s1.hdma.eqMod.filter (fun p => !(ticks != 0 && decide (p.2.2 + ticks ≤ s1.time.hTick)))
  due.foldl (fun t p => t.msix p.1) { s1 with hdma := { s1.hdma with eqMod := rest } }
/-- EQ_VECTOR_TIMER (R370): vectors whose first unannounced entry is HDMA_EQ_MOD.TICKS ticks old are raised. -/
def execEqVectorTimer (u : Sub) (s : State) : Host.Outcome State Fault Refusal := done s (doEqVectorTimer u s)

def doHdmaClrStats (u : Sub) (s : State) : State :=
  let s0 := s.atH u
  if s0.domOn (domH 4) then
    let s1 := s0.putAll [R.HDMA_BAR2_ERR, R.HDMA_CPL_DROP, R.HDMA_BAR0_ERR, R.HDMA_EQ_LOST] 0
    let s2 := s1.putAll ((List.range 16).flatMap (fun c => [R.HDMA_C_ERR_CNT c, R.HDMA_C_TAP_MISS c])) 0
    s2.set R.HDMA_LINK_RETRAINS 0
  else s0
/-- HDMA_CLR_STATS (R371): every SAT counter of the block clears. -/
def execHdmaClrStats (u : Sub) (s : State) : Host.Outcome State Fault Refusal := done s (doHdmaClrStats u s)

def doHdmaCClrStats (u : Sub) (c : Idx16) (s : State) : State :=
  if s.domOn (domH 4) then (s.atH u).putAll [R.HDMA_C_ERR_CNT c, R.HDMA_C_TAP_MISS c] 0 else s.atH u
/-- HDMA_C_CLR_STATS (R371). -/
def execHdmaCClrStats (u : Sub) (c : Idx16) (s : State) : Host.Outcome State Fault Refusal := done s (doHdmaCClrStats u c s)

end Sys2Proof.Machine
end

