-- ==== Sys2Proof/Machine/Store.lean ====
section
/-! DEFINITION. The record store, its seals, and the host's side of the Ledger (R372–R396): drives, layout, record blocks, the write queue,
seal instants and seal records, pins, reading, notes. -/

namespace Sys2Proof.Machine

/-! ### Events and counters of the block (R394) -/

/-- Raise an event of the store. -/
def State.storEvt (s : State) (code inst data : Nat) (f : Fld) : State :=
  (s.set f 1).hostEvent 0x04 code inst s.hNow.pack (leBytes 4 data)

/-- Count in a SAT counter of the store; saturation raises SATURATED with STOR_EVT. -/
def State.storCount (s : State) (a n : Nat) : State :=
  let r := s.satCount a 32 n R.STOR_EVT_SATURATED
  if r.2 then r.1.storEvt 7 0 (r.1.val R.STOR_EVT) R.STOR_EVT_SATURATED else r.1

/-- Something is refused: REFUSED with the port, or 0xFF for the store, and the reason. -/
def State.storRefuse (s : State) (inst reason : Nat) : State := s.storEvt 6 inst reason R.STOR_EVT_REFUSED

/-! ### Drives and state -/

/-- A drive of the store. -/
def State.drive (s : State) (d : Nat) : DriveSt := s.store.drives.getD d {}
/-- Replace a drive. -/
def State.setDrive (s : State) (d : Nat) (x : DriveSt) : State := { s with store := { s.store with drives := s.store.drives.setIfInBounds d x } }

/-- Positions of the store, 0 to N − 1. -/
def State.positions (s : State) : List Nat := List.range s.store.ports.length
/-- The port at a position. -/
def State.portOf (s : State) (p : Nat) : Nat := s.store.ports.getD p 0
/-- The position of a port. -/
def State.posOf (s : State) (d : Nat) : Option Nat := s.positions.find? (fun p => s.portOf p == d)
/-- Positions that are in the store and not lost, with their drive's link up. -/
def State.livePos (s : State) : List Nat := s.positions.filter (fun p => !s.store.lost.contains p && (s.drive (s.portOf p)).link)

/-- Data units of a stripe: 3 with PARITY, N with STRIPED (R376). -/
def State.stripeWidth (s : State) : Nat := if s.store.layout = 1 then 3 else s.store.ports.length

/-- STOR_STAT.STATE: 0 ABSENT, 1 UNFORMATTED, 2 READY, 3 RUNNING, 4 DEGRADED, 5 REBUILDING, 6 FAILED. -/
def State.storState (s : State) : Nat :=
  if s.store.id.isNone then (if s.store.drives.toList.any (fun x => x.link && x.accepted) then 1 else 0)
  else if s.store.failed then 6
  else if s.store.rebuild.isSome then 5
  else if s.livePos.length + s.store.lost.length < s.store.ports.length then 0
  else if s.store.lost.isEmpty then (if s.is R.STOR_CTRL_EN then 3 else 2)
  else 4

/-- The store records: enabled, in domain H5, and RUNNING, DEGRADED or REBUILDING. -/
def State.recording (s : State) : Bool :=
  s.domOn (domH 5) && s.is R.STOR_CTRL_EN && decide (3 ≤ s.storState ∧ s.storState ≤ 5)

/-- Units in the write queue: closed blocks of the stripe in progress, and units that the drives have not taken (R380). [DESIGN CHOICE, log 60, safe] -/
def State.wqFill (s : State) : Nat := s.store.stripe.length + (s.store.drives.toList.map (fun x => x.q.length)).foldl (· + ·) 0
/-- Units that fit the queue outside the 64 MiB kept for filler and loss blocks. -/
def State.wqRoom (s : State) : Nat := s.get R.STOR_CFG_WQ_GIB * 1024 - 64 - s.wqFill

/-- The oldest retained SEQ; the next SEQ while nothing is retained (R388). -/
def State.tailSeq (s : State) : Nat :=
  ((s.store.held.flatMap Prod.snd).map RBlock.seq).foldl min (s.val64 R.STOR_SEQ_LO)

/-- Show the store's state in its registers. -/
def State.showStore (s : State) : State :=
  let s1 := s.set R.STOR_STAT_STATE s.storState
  let s2 := s1.set R.STOR_STAT_DRIVES ((s1.positions.filter (fun p => !s1.store.lost.contains p)).foldl (fun m p => m ||| 2 ^ (s1.portOf p)) 0)
  let s3 := (s2.set R.STOR_STAT_LAYOUT (if s2.store.id.isSome then s2.store.layout else 0)).put R.STOR_WQ_FILL s2.wqFill
  (s3.put64 R.STOR_TAIL_SEQ_LO s3.tailSeq).set R.LDG_STAT_NO_STORE (if s3.recording then 0 else 1)

/-! ### Record blocks (R382) -/

/-- An item with its tag, padded to a multiple of 8 bytes. -/
def taggedItem (kind : Nat) (b : List Byte) : List Byte := leBytes 4 b.length ++ leBytes 1 kind ++ leBytes 3 0 ++ padTo8 b
/-- Bytes that an item takes in a block. -/
def taggedSize (b : List Byte) : Nat := 8 + (b.length + 7) / 8 * 8
/-- Bytes of a block for items. -/
def blockRoom : Nat := 1048320

/-- The bytes from byte 256 up to the end of the last item. -/
def RBlock.payload (b : RBlock) : List Byte := b.items.flatMap (fun i => taggedItem i.1 i.2.2)

/-- Bytes 0–159 of a block's header. -/
def RBlock.head (b : RBlock) (id : List Byte) : List Byte :=
  leBytes 4 0x42524347 ++ leBytes 2 1 ++ leBytes 1 b.stream ++ leBytes 1 b.bflags ++ leBytes 8 b.seq ++ leBytes 2 b.era ++ leBytes 2 0
    ++ leBytes 4 b.items.length ++ leBytes 8 b.first ++ leBytes 8 b.last ++ leBytes 4 b.payload.length ++ leBytes 4 0 ++ id
    ++ leBytes 8 b.sealNo ++ List.replicate 24 0 ++ Config.shake256 b.payload ++ b.prev

/-- CHAIN of a block: the digest of bytes 0–159. -/
def RBlock.chain (b : RBlock) (id : List Byte) : List Byte := Config.shake256 (b.head id)

/-- The first `n` bytes of a list, zeros behind its end. -/
def padTo (n : Nat) (l : List Byte) : List Byte := l.take n ++ List.replicate (n - l.length) 0

/-- The 1 MiB of a block. -/
def RBlock.bytes (b : RBlock) (id : List Byte) : List Byte :=
  padTo 1048576 (padTo 256 (b.head id ++ b.chain id) ++ b.payload)

/-- The store's identifier; zeros while none is formatted. -/
def State.storeId (s : State) : List Byte := s.store.id.getD (List.replicate 16 0)

/-! ### Stripes (R376, R387, R388) -/

/-- A pin holds the stripe. -/
def State.pinned (s : State) (k : Nat) : Bool := s.store.pins.any (fun p => p.2.2.contains k)

/-- The first stripe from `k` on that no pin holds; after stripe U − 1 follows stripe 0. -/
def State.nextFree (s : State) (k : Nat) : Nat → Nat
  | 0 => k
  | f + 1 => if s.pinned k then s.nextFree ((k + 1) % max 1 (s.val R.STOR_UNITS)) f else k

/-- Move the write pointer past a stripe, with a placement mark at a wrap or a skip; the 256 newest marks are kept. -/
def State.advance (s : State) (k : Nat) : State :=
  let u := max 1 (s.val R.STOR_UNITS)
  let n := (k + 1) % u
  let m := s.nextFree n u
  let s1 := s.put R.STOR_WP m
  if m ≠ k + 1 then { s1 with store := { s1.store with marks := ((s1.val64 R.STOR_SEQ_LO, m) :: s1.store.marks).take 256 } } else s1

/-- The stripe in progress is whole: it replaces what the stripe held, and its units queue for the drives that are not lost (R378, R383). [DESIGN CHOICE, log 60, safe] -/
def State.stripeDone (s : State) : State :=
  let k := s.val R.STOR_WP
  let blocks := s.store.stripe
  let s1 := { s with store := { s.store with held := (k, blocks) :: s.store.held.filter (fun p => p.1 != k), stripe := [], run := s.store.run + 1 } }
  let s2 := s1.livePos.foldl (fun t p =>
    let d := t.portOf p
    t.setDrive d { t.drive d with q := (t.drive d).q ++ [(t.store.run, 1048576)] }) s1
  s2.advance k

/-- A block takes the next SEQ and its place in the chain, and enters the stripe in progress (R383). Ledger entries in it wait to be
durable (R392). -/
def State.placeBlock (s : State) (stream bflags era : Nat) (items : List (Nat × Nat × List Byte)) (first last : Nat) : State :=
  let seq := s.val64 R.STOR_SEQ_LO
  let b : RBlock := { stream := stream, bflags := bflags + (if s.storState = 4 then 4 else 0), seq := seq, era := era, items := items,
                      first := first, last := last, sealNo := s.val64 R.STOR_SEAL_NO_LO, prev := s.store.chain }
  let idx : List (Nat × Nat) := (items.filter (fun i => i.1 == 3)).map (fun i => (leAt i.2.2 16 8, seq))
    ++ (items.filter (fun i => i.1 == 2 && decide (i.2.2.length = 80))).map (fun i => (leAt i.2.2 32 8, seq))
  let s1 := (s.put64 R.STOR_SEQ_LO (seq + 1))
  let s2 : State := { s1 with store := { s1.store with stripe := s1.store.stripe ++ [b], chain := b.chain s1.storeId,
                                                       toSpill := s1.store.toSpill ++ idx } }
  if s2.stripeWidth ≤ s2.store.stripe.length then s2.stripeDone else s2

/-- Smallest and largest T64 of items. -/
def itemSpan (items : List (Nat × Nat × List Byte)) : Nat × Nat :=
  match items with
  | [] => (0, 0)
  | i :: r => (r.foldl (fun m x => min m x.2.1) i.2.1, r.foldl (fun m x => max m x.2.1) i.2.1)

/-! ### Discards (R381) -/

/-- A loss record's 64 bytes (R393): cause, first and last T64, blocks, bytes, SEQ range lost. -/
def lossRecord (cause first last blocks bytes a b : Nat) : List Byte :=
  leBytes 1 cause ++ List.replicate 7 0 ++ leBytes 8 first ++ leBytes 8 last ++ leBytes 4 blocks ++ leBytes 4 0 ++ leBytes 8 bytes
    ++ leBytes 8 a ++ leBytes 8 b ++ List.replicate 8 0

/-- A closing block is discarded before it takes a SEQ: the episode begins or goes on. [DESIGN CHOICE, log 61, unsafe] -/
def State.discardBlock (s : State) (b : OpenBlk) : State :=
  let sp := itemSpan b.items
  let n := (b.items.map (fun i => taggedSize i.2.2)).foldl (· + ·) 0
  let a1 := absTick b.era (T64.unpack sp.1).tick
  let a2 := absTick b.era (T64.unpack sp.2).tick
  let s1 := s.storCount R.STOR_LOST 1
  let s2 := { s1 with store := { s1.store with discarded := s1.store.discarded + 1 } }
  match s2.store.loss with
  | some (k, m, f, l, x, y) =>
    { s2 with store := { s2.store with loss := some (k + 1, m + n, if a1 < x then sp.1 else f, if y < a2 then sp.2 else l, min a1 x, max a2 y) } }
  | none =>
    (({ s2 with store := { s2.store with loss := some (1, n, sp.1, sp.2, a1, a2) } }).set R.STOR_EVT_LOSS 1).hostFault 0x0F 0

/-- The episode ends: one loss block from the reserve while the store records, LOSS, and its Ledger entry. [DESIGN CHOICE, log 61, unsafe] -/
def State.lossEnd (s : State) : State :=
  match s.store.loss with
  | none => s
  | some (k, m, f, l, x, y) =>
    let s1 := { s with store := { s.store with loss := none }, avail := { s.avail with losses := (x, y) :: s.avail.losses } }
    let s2 := if s1.recording then s1.placeBlock 5 0 (x / ticksPerEra) [(5, f, lossRecord 1 f l k m 0 0)] f l else s1
    let s3 := s2.storEvt 4 0 k R.STOR_EVT_LOSS
    s3.ledgerH 0x04 0x0004 0 (leBytes 4 k ++ List.replicate 12 0 ++ leBytes 8 k ++ leBytes 8 m)

/-- An open block closes (R383): it takes its SEQ, or is discarded while the queue has no room or the store has FAILED. -/
def State.closeBlock (s : State) (stream bflags : Nat) (b : OpenBlk) : State :=
  if s.store.failed || s.store.loss.isSome || s.wqRoom = 0 then s.discardBlock b
  else let sp := itemSpan b.items; s.placeBlock stream bflags b.era b.items sp.1 sp.2

/-- Close the open ORDERED block. -/
def State.closeO (s : State) (bflags : Nat) : State :=
  match s.store.openO with
  | some b => ({ s with store := { s.store with openO := none } }).closeBlock 1 bflags b
  | none => s
/-- Close the open LATE block. -/
def State.closeL (s : State) (bflags : Nat) : State :=
  match s.store.openL with
  | some b => ({ s with store := { s.store with openL := none } }).closeBlock 2 bflags b
  | none => s

/-- The block holds no room for the item, or holds another era. -/
def OpenBlk.full (b : OpenBlk) (era : Nat) (bytes : List Byte) : Bool :=
  b.era != era || decide (blockRoom < (b.items.map (fun i => taggedSize i.2.2)).foldl (· + ·) 0 + taggedSize bytes)

/-- An item enters ORDERED. -/
def State.storeO (s : State) (era kind t64 : Nat) (bytes : List Byte) : State :=
  let s1 := match s.store.openO with
    | some b => if b.full era bytes then s.closeO 0 else s
    | none => s
  let b := s1.store.openO.getD { era := era }
  { s1 with store := { s1.store with openO := some { b with items := b.items ++ [(kind, t64, bytes)] } } }
/-- A late entry enters LATE. -/
def State.storeL (s : State) (era t64 : Nat) (bytes : List Byte) : State :=
  let s1 := match s.store.openL with
    | some b => if b.full era bytes then s.closeL 0 else s
    | none => s
  let b := s1.store.openL.getD { era := era }
  { s1 with store := { s1.store with openL := some { b with items := b.items ++ [(2, t64, bytes)] } } }

/-- The bytes of an item as the record and the taps hold it: a message without its trailer (R366, R382). -/
def Item.body (i : Item) : List Byte := if i.cls = 0 then i.bytes else i.bytes.take (i.bytes.length - 4)

/-- Clearing releases an item: to the taps, and to the store; an item that no store takes leaves its tick unrecorded (R366, R383, R449). -/
def State.releaseItem (s : State) (i : Item) : State :=
  let s1 := s.tapItem i.cls i.body
  if s1.recording || (s1.is R.STOR_CTRL_EN && s1.store.failed) then s1.storeO i.era (if i.cls = 0 then 3 else 1) i.t64 i.body
  else s1.availNote (absTick i.era (T64.unpack i.t64).tick) (fun r => { r with loss := true })

/-- The late-entries stream takes an entry: the 16-byte prefix and the item (R83). -/
def State.releaseLate (s : State) (arrival late : Nat) (i : Item) : State :=
  let b := leBytes 8 arrival ++ leBytes 2 i.era ++ leBytes 2 0 ++ leBytes 4 late ++ i.body
  let s1 := s.tapItem 6 b
  if s1.recording || (s1.is R.STOR_CTRL_EN && s1.store.failed) then s1.storeL i.era i.t64 b
  else s1.availNote (absTick i.era (T64.unpack i.t64).tick) (fun r => { r with loss := true })

/-! ### Drive loss (R378) -/

/-- A drive is lost: the store becomes DEGRADED or FAILED; DRIVE_LOST, the fault sources and the Ledger entry with the retained SEQ range. -/
def State.driveLost (s : State) (d : Nat) : State :=
  let s0 := s.set (R.STOR_D_STAT_STATE d) 5
  match s0.posOf d with
  | none => s0
  | some p =>
    if s0.store.lost.contains p && s0.store.rebuild.all (fun r => r.1 != p) then s0
    else
      let again := s0.store.rebuild.isSome || !s0.store.lost.isEmpty || s0.store.layout == 0
      let was := s0.store.failed
      let s1 := { s0 with store := { s0.store with lost := p :: s0.store.lost.erase p, failed := was || again, rebuild := none } }
      let s2 := (s1.setDrive d { s1.drive d with q := [], aborting := false }).showStore
      let s3 := s2.storEvt 1 d s2.storState R.STOR_EVT_DRIVE_LOST
      let s4 := s3.hostFault 0x0D d
      let s5 := if again && !was then s4.hostFault 0x0E 0 else s4
      let s6 := s5.ledgerH 0x04 0x0001 d (leBytes 4 s2.storState ++ List.replicate 12 0 ++ leBytes 8 s2.tailSeq ++ leBytes 8 (s2.val64 R.STOR_SEQ_LO - 1))
      { s6 with store := { s6.store with pend := s6.store.pend.map (fun x => { x with waits := x.waits.erase d }) } }

/-! ### Seals (R384–R386) -/

/-- The Mint can sign: neither it nor the island has failed (R448). -/
def State.mintOk (s : State) : Bool := !s.faultPend 0x00 && !s.faultPend 0x01

/-- One more request waits at the Mint. -/
def State.mintAsk (s : State) : State :=
  let n := s.get R.SEC_MINT_QUEUE_NOW + 1
  (s.set R.SEC_MINT_QUEUE_NOW n).set R.SEC_MINT_QUEUE_MAX (max n (s.get R.SEC_MINT_QUEUE_MAX))
/-- The Mint has signed a request. -/
def State.mintDone (s : State) : State :=
  (s.set R.SEC_MINT_QUEUE_NOW (s.get R.SEC_MINT_QUEUE_NOW - 1)).wrapCount64 R.SEC_MINT_COUNT_LO 1

/-- LDG_SPILLED moves over durable entries, never below LDG_BASE (R392). -/
def State.spillOn (s : State) : Nat → State
  | 0 => s
  | f + 1 =>
    let i := s.val64 R.LDG_SPILLED_LO
    if s.store.spilled.contains i then
      (({ s with store := { s.store with spilled := s.store.spilled.erase i } }).put64 R.LDG_SPILLED_LO (i + 1)).spillOn f
    else s

/-- Every Flush of the seal has completed (R384 step 3): the durable head is recorded, Ledger entries in durable blocks are spilled, and the
Mint is asked. -/
def State.sealAsk (s : State) (x : SealSt) : State :=
  let s1 := if x.noStore then s
    else
      let s2 : State := { s with store := { s.store with durNext := x.next, durChain := x.chain, durWp := x.wp,
                                                         spilled := s.store.spilled ++ (s.store.toSpill.filter (fun p => p.2 < x.next)).map Prod.fst,
                                                         toSpill := s.store.toSpill.filter (fun p => !(p.2 < x.next)) } }
      let base := s2.val64 R.LDG_BASE_LO
      let s3 := { s2 with store := { s2.store with spilled := s2.store.spilled.filter (fun i => max base (s2.val64 R.LDG_SPILLED_LO) ≤ i) } }
      let s4 := s3.spillOn (s3.store.spilled.length + 1)
      s4.set R.LDG_STAT_RING_FULL (if s4.val64 R.LDG_NEXT_LO - s4.val64 R.LDG_SPILLED_LO ≥ ringSlots then 1 else 0)
  ({ s1 with store := { s1.store with pend := some { x with asked := some s1.hNow.pack } } }).mintAsk

/-- The seal in progress goes on to the Mint once no Flush is outstanding. -/
def State.sealNext (s : State) : State :=
  match s.store.pend with
  | some x => if x.asked.isNone && x.waits.isEmpty then s.sealAsk x else s
  | none => s

/-- Fill the stripe in progress with filler blocks (R383). -/
def State.fillStripe (s : State) (t64 : Nat) (bflags : Nat) : Nat → State
  | 0 => s
  | f + 1 =>
    if s.store.stripe.isEmpty then s
    else ((s.placeBlock 4 bflags s.era [] t64 t64).storCount R.STOR_FILLERS 1).fillStripe t64 bflags f

/-- A seal instant (R384): an unissued previous seal is abandoned; the open blocks close, the stripe is completed, and a Flush follows on every
drive. Without a recording store the Mint is asked at once. -/
def State.sealInstant (s : State) (eraClose : Bool) : State :=
  let t64 := s.hNow.pack
  let s1 := if s.store.pend.isSome then
      let t := (({ s with store := { s.store with pend := none, merged := s.store.merged + 1 } }).storCount R.STOR_MERGED 1).set R.SEC_MINT_QUEUE_NOW
        (if (s.store.pend.bind SealSt.asked).isSome then s.get R.SEC_MINT_QUEUE_NOW - 1 else s.get R.SEC_MINT_QUEUE_NOW)
      (t.storEvt 5 0 (t.val R.STOR_SEAL_NO_LO) R.STOR_EVT_SEAL_MERGED).hostFault 0x10 0
    else s
  let fl := 2 + (if eraClose then 1 else 0)
  let rec_ := s1.recording
  let s2 := if rec_ then ((s1.closeO fl).closeL fl).fillStripe t64 2 4 else s1
  let x : SealSt :=
    { era := s2.era, t64 := t64, cover := (T64.mk s2.clr.relTick 0 0).pack, coverAbs := absTick s2.clr.relEra s2.clr.relTick,
      epoch := if s2.is R.TIME_STAT_EPOCH_VALID then s2.val64 R.TIME_EPOCH_LO else 0,
      next := s2.val64 R.STOR_SEQ_LO, chain := s2.store.chain, run := s2.store.run, wp := s2.val R.STOR_WP,
      waits := if rec_ then s2.livePos.map s2.portOf else [], eraClose := eraClose, noStore := !rec_ }
  let s3 := { s2 with store := { s2.store with pend := some x, sealNow := false, lastInst := some s2.hAbs }, fault := { s2.fault with faultSeal := false } }
  s3.showStore.sealNext

/-- The tick boundary is a seal instant: a multiple of STOR_SEAL_INT, SEAL_NOW, or the first boundary after a Fatal raise (R384, R446). [DEDUCED, log 64, unsafe] -/
def State.sealDue (s : State) : Bool :=
  s.time.hUnit == 0 && s.mintOk && s.store.lastInst != some s.hAbs
    && (s.time.hTick % max 1 (s.val R.STOR_SEAL_INT) == 0 || s.store.sealNow || s.fault.faultSeal)

/-- SEAL_INSTANT (R384). -/
def execSealInstant (s : State) : Host.Outcome State Fault Refusal := done s (if s.sealDue then s.sealInstant false else s)

/-- SEAL_NOW (R384): the next tick boundary is a seal instant. -/
def execSealNow (u : Sub) (s : State) : Host.Outcome State Fault Refusal :=
  done s ((s.atH u).ifOn R.STOR_CTRL (fun t => { t with store := { t.store with sealNow := true } }))

/-- The 5,325 bytes of the Record Seal certificate in force (R398, R399). -/
def State.sealCert (s : State) : List Byte :=
  s.sec.certs.headD (((List.range 1332).flatMap (fun k => leBytes 4 (Config.certWord 3 k).toNat)).take 5325)

/-- DEVICE_ID: the digest of the Device Identity certificate (R398). -/
def deviceId : List Byte := (List.range 8).flatMap (fun k => leBytes 4 (Config.deviceIdWord k).toNat)

/-- Bytes 0–255 of a seal record (R385). [DEDUCED, log 63, unsafe] -/
def State.sealBody (s : State) (x : SealSt) : List Byte :=
  let prev := match s.store.seals with
    | b :: _ => Config.shake256 (b.take 3565)
    | [] => List.replicate 32 0
  let head := if x.noStore then s.store.durChain else x.chain
  let last := (if x.noStore then s.store.durNext else x.next) - 1
  leBytes 4 0x4C534347 ++ leBytes 2 1 ++ leBytes 2 x.era ++ leBytes 8 (s.val64 R.STOR_SEAL_NO_LO + 1) ++ leBytes 8 x.t64 ++ leBytes 8 x.cover
    ++ leBytes 8 (x.asked.getD 0) ++ leBytes 8 x.epoch ++ leBytes 8 last ++ head ++ leBytes 8 (s.val64 R.LDG_NEXT_LO) ++ s.ledger.head ++ prev
    ++ Config.shake256 s.sealCert ++ deviceId
    ++ leBytes 4 ((if x.noStore then 1 else 0) + (if x.eraClose then 2 else 0) + (if s.faultHold then 4 else 0) + (if x.epoch ≠ 0 then 8 else 0)
        + (if s.storState = 4 then 16 else 0))
    ++ leBytes 4 s.store.merged ++ leBytes 4 s.store.discarded ++ List.replicate 20 0

/-- Number of the signing key of record seals: 16 and the keys that ROTATE_SEAL has made. -/
def State.sealKey (s : State) : Nat := 16 + s.sec.rotations

/-- The Mint has signed the seal (R385, R386): the record joins the next ORDERED block and the control area, and older ticks are judged (R449). [DEDUCED, log 63, unsafe] -/
def State.doSealIssued (s : State) : State :=
  match s.store.pend with
  | none => s
  | some x =>
    if x.asked.isNone || !s.mintOk then s
    else
      let body := s.sealBody x
      let full := padTo 4096 (body ++ padTo 3309 (Config.mldsaSign s.sealKey body))
      let s1 := (s.wrapCount64 R.STOR_SEAL_NO_LO 1).replaceResult R.STOR_SEAL_LAST_LO R.STOR_SEAL_LAST_GEN x.t64
      let s2 := { s1 with store := { s1.store with pend := none, merged := 0, discarded := 0, seals := (full :: s1.store.seals).take 8 } }
      let s3 := if s2.recording then s2.storeO x.era 4 x.t64 full else s2
      let s4 := if x.noStore then s3 else { s3 with avail := { s3.avail with cover := max s3.avail.cover x.coverAbs } }
      s4.mintDone.availJudge (absTick x.era (T64.unpack x.t64).tick)

/-- SEAL_ISSUED (R385). -/
def execSealIssued (u : Sub) (s : State) : Host.Outcome State Fault Refusal := done s (s.atH u).doSealIssued

/-! ### NVMe commands (R374, R380) -/

/-- A drive has taken `n` bytes of its oldest unit; an episode of discards ends when the queue has room for four blocks (R381). -/
def State.unitTaken (s : State) (d n : Nat) : State :=
  let x := s.drive d
  match x.q with
  | [] => s
  | (k, left) :: r =>
    let q := if left ≤ n then r else (k, left - n) :: r
    let s1 := ((s.setDrive d { x with q := q }).wrapCount64 R.STOR_BYTES_LO (min n left)).showStore
    if s1.store.loss.isSome && !s1.store.failed && decide (4 ≤ s1.wqRoom) then s1.lossEnd.showStore else s1

/-- A Flush of a seal completes on a drive that has taken every unit queued before the seal (R384). -/
def State.flushed (s : State) (d : Nat) : State :=
  match s.store.pend with
  | some x =>
    if x.waits.contains d && !((s.drive d).q.any (fun (p : Nat × Nat) => p.1 ≤ x.run)) then
      ({ s with store := { s.store with pend := some { x with waits := x.waits.erase d } } }).sealNext
    else s
  | none => s

/-- An NVMe command completes: it counts; a Write or Flush with an error status loses the drive, a Read error counts (R374). -/
def State.doNvme (s : State) (d : Nat) (op : NvmeOp) (ok : Bool) : State :=
  if !(s.domOn (domH 5) && (s.drive d).link) then s
  else
    let s1 := s.wrapCount (R.STOR_D_CMDS d) 1
    match op with
    | .write => if ok then s1.unitTaken d (s1.drive d).cmd else (s1.driveLost d).sealNext
    | .rebuild => if ok then s1.wrapCount64 R.STOR_BYTES_LO (s1.drive d).cmd else (s1.driveLost d).sealNext
    | .flush => if ok then s1.flushed d else (s1.driveLost d).sealNext
    | .read b => if ok then s1 else
        let t := s1.storCount (R.STOR_D_ERR d) 1
        { t with store := { t.store with readBad := b.val :: t.store.readBad } }
    | .abort => s1.setDrive d { s1.drive d with aborting := false }
    | .other => s1

/-- NVME_COMPLETION (R374). -/
def execNvmeCompletion (u : Sub) (d : Fin 4) (op : NvmeOp) (ok : Bool) (s : State) : Host.Outcome State Fault Refusal :=
  done s ((s.atH u).doNvme d op ok)

/-- A command is aborted after 5 s; an abort not completed within a further 5 s loses the drive (R374). -/
def State.doNvmeTimeout (s : State) (d : Nat) (abort : Bool) : State :=
  if !(s.domOn (domH 5) && (s.drive d).link) then s
  else if abort then (if (s.drive d).aborting then (s.driveLost d).sealNext else s)
  else s.setDrive d { s.drive d with aborting := true }

/-- NVME_COMMAND_TIMEOUT (R374). -/
def execNvmeCommandTimeout (u : Sub) (d : Fin 4) (abort : Bool) (s : State) : Host.Outcome State Fault Refusal :=
  done s ((s.atH u).doNvmeTimeout d abort)

/-! ### Formatting (R375–R377) -/

/-- U: the smallest namespace in units, minus 1, with N × (U + 1) MiB at most 32 × 10^12 bytes (R376). -/
def unitsFor (sizes : List Nat) : Nat :=
  let n := max 1 sizes.length
  let u := (sizes.map (fun b => b / 1048576)).foldl min (sizes.headD 0 / 1048576) - 1
  min u (32000000000000 / (n * 1048576) - 1)

/-- The superblock of a position (R375). -/
def State.superblock (s : State) (p : Nat) : List Byte :=
  let b := leBytes 4 0x54534347 ++ leBytes 2 1 ++ leBytes 1 s.store.layout ++ leBytes 1 s.store.ports.length ++ leBytes 1 p ++ List.replicate 7 0
    ++ s.storeId ++ leBytes 8 (s.val R.STOR_UNITS) ++ leBytes 8 s.store.fmtT64 ++ leBytes 2 s.store.fmtEra ++ List.replicate 14 0 ++ deviceId
  b ++ Config.shake256 b

/-- A drive holds a superblock. -/
def DriveSt.holds (x : DriveSt) : Bool := x.super.any (fun b => leAt b 0 4 == 0x54534347 && leAt b 4 2 == 1)

/-- Ports of accepted drives, in port order. -/
def State.acceptedPorts (s : State) : List Nat := (List.range 4).filter (fun d => (s.drive d).link && (s.drive d).accepted)

/-- Reason for which FORMAT is refused; 0 none (R377). [DESIGN CHOICE, log 62, unsafe] -/
def State.formatReason (s : State) : Nat :=
  let l := s.acceptedPorts
  if s.is R.STOR_CTRL_EN then 1
  else if (s.is R.STOR_CFG_LAYOUT && l.length != 4) || l.isEmpty then 2
  else if l.any (fun d => (s.drive d).holds) && !s.is R.STOR_FMT_PERMIT then 3
  else 0

/-- FORMAT: every accepted drive joins the store in port order; pins, chain, SEQ and marks start again, and the Ledger takes the entry. -/
def State.doFormat (s : State) : State :=
  let why := s.formatReason
  if why ≠ 0 then (s.set R.STOR_STAT_REFUSE why).storRefuse 0xFF why
  else
    let ports := s.acceptedPorts
    let u := unitsFor (ports.map (fun d => (s.drive d).size))
    let idr := s.lossEnd.fresh 128
    let s1 := idr.2
    let lay := s1.get R.STOR_CFG_LAYOUT
    let st : StoreSt := { drives := s1.store.drives.map (fun x => { x with q := [] }), id := some (leBytes 16 idr.1), layout := lay,
                          fmtT64 := s1.hNow.pack, fmtEra := s1.era, ports := ports, marks := [(0, 0)], seals := s1.store.seals,
                          pend := s1.store.pend, sealNow := s1.store.sealNow, lastInst := s1.store.lastInst, merged := s1.store.merged,
                          discarded := s1.store.discarded }
    let s2 := (({ s1 with store := st }).put R.STOR_UNITS u).put R.STOR_SLOTS ((if lay = 1 then 3 else ports.length) * u)
    let s3 := ((((s2.put64 R.STOR_SEQ_LO 0).put R.STOR_WP 0).put R.STOR_REBUILD_POS 0).set R.STOR_PIN_STAT_COUNT 0).set R.STOR_STAT_REFUSE 0
    let s4 := s3.positions.foldl (fun t p =>
      let d := t.portOf p
      ((t.setDrive d { t.drive d with super := some (t.superblock p) }).set (R.STOR_D_STAT_STATE d) 3).set (R.STOR_D_STAT_POSITION d) p) s3
    s4.showStore.ledgerH 0x04 0x8006 0xFF (leBytes 1 0xFF)

/-- STOR_FORMAT (R377). -/
def execStorFormat (u : Sub) (s : State) : Host.Outcome State Fault Refusal := done s ((s.atH u).ifOn R.STOR_CTRL State.doFormat)

/-! ### Drives come and go (R373, R374, R379) -/

/-- First reason of R373 for which the drive is refused; 0 none. -/
def State.driveReason (s : State) (x : DriveInfo) : Nat :=
  let y : DriveSt := { super := x.super }
  if !x.ready then 1
  else if !x.nsOk then 2
  else if x.size < 17179869184 || (s.store.id.isSome && decide (x.size < (s.val R.STOR_UNITS + 1) * 1048576)) then 3
  else if y.holds && x.super.map (fun b => (b.drop 16).take 16) != s.store.id && !s.is R.STOR_FMT_PERMIT then 4
  else if x.mqes.val < 255 then 5
  else 0

/-- Show what was found on a drive. -/
def State.showDrive (s : State) (d : Nat) (x : DriveInfo) : State :=
  let s1 := ((s.set (R.STOR_D_STAT_SPEED d) x.speed.val).set (R.STOR_D_STAT_WIDTH d) x.width.val).put64 (R.STOR_D_CAP_LO d) x.size
  let s2 := (s1.put (R.STOR_D_DEPTH d) (min 4096 x.mqes.val)).put (R.STOR_D_WEAR d) x.wear.val
  (List.range 5).foldl (fun t k => t.put (R.STOR_D_SERIAL d k) (leAt x.serial (4 * k) 4)) s2

/-- A drive at the port of a lost position is adopted: superblock and, in PARITY, rebuild of the stripes written earlier (R379). -/
def State.adopt (s : State) (d p : Nat) : State :=
  let n := s.store.held.length
  let s1 := { s with store := { s.store with lost := s.store.lost.erase p, rebuild := some (p, n) } }
  let s2 := ((s1.setDrive d { s1.drive d with super := some (s1.superblock p) }).set (R.STOR_D_STAT_STATE d) 4).put R.STOR_REBUILD_POS 0
  let s3 := ((s2.set (R.STOR_D_STAT_POSITION d) p).showStore).storEvt 2 d p R.STOR_EVT_DRIVE_ADOPTED
  s3.ledgerH 0x04 0x0002 d (leBytes 4 p ++ List.replicate 12 0 ++ leBytes 8 s3.tailSeq ++ leBytes 8 (s3.val64 R.STOR_SEQ_LO - 1))

/-- An accepted drive takes its place: back at its position, adopted at a lost one, or beside the store. -/
def State.joinDrive (s : State) (d : Nat) : State :=
  match s.posOf d with
  | none => s.showStore
  | some p =>
    if s.store.lost.contains p then (if s.store.layout = 1 ∧ !s.store.failed then s.adopt d p else s.showStore)
    else if (s.drive d).super = some (s.superblock p) then ((s.set (R.STOR_D_STAT_STATE d) 3).set (R.STOR_D_STAT_POSITION d) p).showStore
    else s.showStore

/-- A storage port links up: the drive is examined (R373). -/
def State.doDriveUp (s : State) (d : Nat) (x : DriveInfo) : State :=
  if !s.domOn (domH 5) || (s.drive d).link then s
  else
    let s1 := s.showDrive d x
    let why := s1.driveReason x
    let cmd := if x.mdts = 0 then 131072 else min 131072 x.mdts
    let y : DriveSt := { link := true, accepted := why == 0, size := x.size, cmd := cmd, super := x.super }
    let s2 := (s1.setDrive d y).set (R.STOR_D_STAT_REFUSE d) why
    if why ≠ 0 then ((s2.set (R.STOR_D_STAT_STATE d) 6).storRefuse d why).showStore
    else (s2.set (R.STOR_D_STAT_STATE d) 2).joinDrive d

/-- DRIVE_LINK_UP (R373). -/
def execDriveLinkUp (u : Sub) (d : Fin 4) (x : DriveInfo) (s : State) : Host.Outcome State Fault Refusal := done s ((s.atH u).doDriveUp d x)

/-- A drive's link goes down, or the drive is removed: a drive of the store is lost, any other port is empty (R374). -/
def State.doDriveDown (s : State) (d : Nat) : State :=
  if !(s.drive d).link then s
  else
    let inStore := (s.posOf d).isSome && decide (s.get (R.STOR_D_STAT_STATE d) = 3 ∨ s.get (R.STOR_D_STAT_STATE d) = 4)
    let s1 := ((s.setDrive d {}).set (R.STOR_D_STAT_SPEED d) 0).set (R.STOR_D_STAT_WIDTH d) 0
    if inStore then (s1.driveLost d).sealNext else (s1.set (R.STOR_D_STAT_STATE d) (if s.get (R.STOR_D_STAT_STATE d) = 5 then 5 else 0)).showStore

/-- DRIVE_LINK_DOWN (R374). -/
def execDriveLinkDown (u : Sub) (d : Fin 4) (s : State) : Host.Outcome State Fault Refusal := done s ((s.atH u).doDriveDown d)

/-- The last stripe is rebuilt (R379): STATE reads RUNNING and REBUILD_DONE tells the stripes rebuilt. -/
def State.doRebuildDone (s : State) : State :=
  match s.store.rebuild with
  | none => s
  | some (p, n) =>
    let d := s.portOf p
    let s1 := ({ s with store := { s.store with rebuild := none } }).set (R.STOR_D_STAT_STATE d) 3
    let s2 := ((s1.put R.STOR_REBUILD_POS n).showStore).storEvt 3 d n R.STOR_EVT_REBUILD_DONE
    s2.ledgerH 0x04 0x0003 d (leBytes 4 n ++ List.replicate 12 0 ++ leBytes 8 s2.tailSeq ++ leBytes 8 (s2.val64 R.STOR_SEQ_LO - 1))

/-- REBUILD_DONE (R379). -/
def execRebuildDone (u : Sub) (s : State) : Host.Outcome State Fault Refusal := done s (s.atH u).doRebuildDone

/-! ### Recording on and off -/

/-- A write of STOR_CTRL.EN: clearing it closes the open blocks and enters the stop in the Ledger (R87, R383). -/
def State.doStorEn (s : State) (en : Bool) : State :=
  if en then (s.set R.STOR_CTRL_EN 1).showStore
  else if s.is R.STOR_CTRL_EN then
    let s1 := if s.recording || s.store.failed then ((s.closeO 0).closeL 0) else s
    let s2 := ({ s1.lossEnd with store := { s1.lossEnd.store with openO := none, openL := none } }).set R.STOR_CTRL_EN 0
    s2.showStore.stopEntry 0x04 0 s2.hNow.pack 0 0
  else s

/-- STOR_EN_WRITE (R383). -/
def execStorEnWrite (u : Sub) (en : Bool) (s : State) : Host.Outcome State Fault Refusal :=
  done s ((s.atH u).ifOn R.STOR_CTRL (fun t => t.doStorEn en))

/-! ### Pins and reading (R387–R389) -/

/-- Stripes that hold a block of a SEQ range, and the blocks of the range that are retained. -/
def State.rangeStripes (s : State) (a b : Nat) : List Nat :=
  (s.store.held.filter (fun p => p.2.any (fun x => a ≤ x.seq && x.seq ≤ b))).map Prod.fst
def State.rangeHeld (s : State) (a b : Nat) : Nat := ((s.store.held.flatMap Prod.snd).filter (fun x => a ≤ x.seq && x.seq ≤ b)).length

/-- Why a pin is refused; 0 when it is not (R387). -/
def State.pinReason (s : State) (a b : Nat) : Nat :=
  let ks := (s.store.pins.flatMap (fun p => p.2.2) ++ s.rangeStripes a b).eraseDups
  if b < a || s.rangeHeld a b != b - a + 1 then 1
  else if 32 ≤ s.store.pins.length then 2
  else if s.val R.STOR_UNITS < ks.length + 1024 then 3
  else 0

/-- A pin holds the stripes of the staged range, or is refused (R387). -/
def State.doPinAdd (s : State) : State :=
  let a := s.val64 R.STOR_PIN_FIRST_LO
  let b := s.val64 R.STOR_PIN_LAST_LO
  let why := s.pinReason a b
  if why ≠ 0 then (s.set R.STOR_PIN_STAT_REFUSE why).storRefuse 0xFF why
  else
    let s1 := { s with store := { s.store with pins := s.store.pins ++ [(a, b, s.rangeStripes a b)] } }
    let s2 := (s1.set R.STOR_PIN_STAT_COUNT s1.store.pins.length).set R.STOR_PIN_STAT_REFUSE 0
    s2.ledgerH 0x04 0x8005 0xFF (leBytes 1 0xFF ++ List.replicate 15 0 ++ leBytes 8 a ++ leBytes 8 b)

/-- PIN_ADD (R387). -/
def execPinAdd (u : Sub) (s : State) : Host.Outcome State Fault Refusal := done s ((s.atH u).ifOn R.STOR_PIN_CTRL State.doPinAdd)

/-- An Escrow commit that writes STOR_PIN_DROP removes a pin (R387). -/
def State.pinDrop (s : State) (i : Nat) : State :=
  let s1 := { s with store := { s.store with pins := s.store.pins.eraseIdx i } }
  s1.set R.STOR_PIN_STAT_COUNT s1.store.pins.length

/-- Two ranges of bytes share a byte. -/
def rangesMeet (a n b m : Nat) : Bool := decide (a < b + m ∧ b < a + n)

/-- GO (R389): the read starts, or is refused when its destination is not free. -/
def State.doStoreRead (s : State) : State :=
  let n := s.get R.STOR_RD_CTRL_COUNT
  let base := s.val R.STOR_RD_BASE % 256 * 2 ^ 30
  let bad := decide (s.wqBase < base + n * 1048576) || (List.range 4).any (fun k => s.is (R.ACQ_GRP_CTRL_EN k) &&
    rangesMeet base (n * 1048576) (s.val (R.ACQ_GRP_MEM_BASE k) * 2 ^ 20) (s.val (R.ACQ_GRP_MEM_SIZE k) * 2 ^ 20))
  if s.store.read.isSome then s
  else if bad then (s.set R.STOR_RD_STAT_REFUSE 1).storRefuse 0xFF 1
  else
    let s1 := (s.put R.STOR_RD_STAT 0).set R.STOR_RD_CTRL_GO 1
    { s1 with store := { s1.store with read := some (s.val64 R.STOR_RD_SEQ_LO, n, base), readBad := [] } }

/-- STORE_READ (R389). -/
def execStoreRead (u : Sub) (s : State) : Host.Outcome State Fault Refusal := done s ((s.atH u).ifOn R.STOR_RD_CTRL State.doStoreRead)

/-- The retained block of a SEQ that lies on the drives, with its stripe and slot. -/
def State.findBlock (s : State) (seq : Nat) : Option (Nat × Nat × RBlock) :=
  (s.store.held.findSome? (fun p => (p.2.zipIdx.find? (fun x => x.1.seq == seq)).map (fun x => (p.1, x.2, x.1))))

/-- The position that holds a data slot of a stripe (R376). -/
def State.slotPos (s : State) (k j : Nat) : Nat := if s.store.layout = 1 then (3 - k % 4 + 1 + j) % 4 else j

/-- A unit can be read: its drive is there and its Read did not fail, or parity gives it from the other three (R378). -/
def State.unitGood (s : State) (i k j : Nat) : Bool :=
  let here := s.livePos.contains (s.slotPos k j) && s.store.rebuild.all (fun r => r.1 != s.slotPos k j)
  (here && !s.store.readBad.contains i)
    || (s.store.layout == 1 && decide (3 ≤ (s.livePos.filter (fun p => p != s.slotPos k j && s.store.rebuild.all (fun r => r.1 != p))).length))

/-- Land block `i` of the read: its bytes, zeros with MISSING for a SEQ that is not retained, 0xFF with BAD for an unreadable unit. -/
def State.landBlock (s : State) (seq base i : Nat) : State :=
  let put (t : State) (b : List Byte) : State :=
    if t.domOn (domH 3) then { t with mem := memWrite t.mem (base + i * 1048576) b } else t
  match s.findBlock (seq + i) with
  | none => (put s (List.replicate 1048576 0)).set R.STOR_RD_STAT_MISSING 1
  | some (k, j, b) =>
    if s.unitGood i k j then put s (b.bytes s.storeId) else (put s (List.replicate 1048576 0xFF)).set R.STOR_RD_STAT_BAD 1

/-- The blocks have landed and GO falls (R389). -/
def State.doStoreReadDone (s : State) : State :=
  match s.store.read with
  | none => s
  | some (seq, n, base) =>
    let s1 := (List.range n).foldl (fun t i => t.landBlock seq base i) s
    let s2 := (s1.set R.STOR_RD_STAT_DONE n).set R.STOR_RD_CTRL_GO 0
    { s2 with store := { s2.store with read := none, readBad := [] } }

/-- STORE_READ_DONE (R389). -/
def execStoreReadDone (u : Sub) (s : State) : Host.Outcome State Fault Refusal := done s (s.atH u).doStoreReadDone

/-- STOR_CLR_STATS (R395). -/
def execStorClrStats (u : Sub) (s : State) : Host.Outcome State Fault Refusal :=
  done s ((s.atH u).ifOn R.STOR_CTRL (fun t =>
    t.putAll [R.STOR_LOST, R.STOR_FILLERS, R.STOR_MERGED, R.STOR_D_ERR 0, R.STOR_D_ERR 1, R.STOR_D_ERR 2, R.STOR_D_ERR 3] 0))

/-! ### Power loss and restart (R393) -/

/-- The blocks beyond the durable head, which a loss of power takes away. -/
def State.lostSpan (s : State) : Option LostSpan :=
  let bs := (s.store.stripe ++ s.store.held.flatMap Prod.snd).filter (fun b => s.store.durNext ≤ b.seq)
  match bs with
  | [] => none
  | b :: r =>
    let items := bs.flatMap (fun x => x.items)
    let ends := bs.map (fun x => (absTick x.era (T64.unpack x.first).tick, x.first, absTick x.era (T64.unpack x.last).tick, x.last))
    let lo := ends.foldl (fun m x => if x.1 < m.1 then (x.1, x.2.1) else m) (absTick b.era (T64.unpack b.first).tick, b.first)
    let hi := ends.foldl (fun m x => if m.1 < x.2.2.1 then (x.2.2.1, x.2.2.2) else m) (absTick b.era (T64.unpack b.last).tick, b.last)
    some { first := lo.2, last := hi.2, blocks := r.length + 1, bytes := (items.map (fun i => taggedSize i.2.2)).foldl (· + ·) 0,
           next := s.val64 R.STOR_SEQ_LO, from_ := lo.1, to_ := hi.1 }

/-- H5 loses power: drives, queue and open blocks are gone; what the drives hold up to the durable head stays. -/
def State.storePowerOff (s : State) : State :=
  let keep := (s.store.held.map (fun p => (p.1, p.2.filter (fun b => b.seq < s.store.durNext)))).filter (fun p => !p.2.isEmpty)
  let lost := s.lostSpan
  let s1 := { s with store := { s.store with drives := Vector.replicate 4 {}, openO := none, openL := none, stripe := [], held := keep, pend := none,
                                             loss := none, read := none, readBad := [], rebuild := none, toSpill := [], spilled := [],
                                             resume := true, restart := if lost.isSome then lost else s.store.restart } }
  (List.range 4).foldl (fun t d => (((t.put (R.STOR_D_STAT d) 0).put64 (R.STOR_D_CAP_LO d) 0).put (R.STOR_D_DEPTH d) 0)) s1

/-- Power returns: SEQ, chain and write pointer are those of the durable head. -/
def State.storeResume (s : State) : State :=
  if s.store.id.isNone then s
  else
    let s1 := (s.put64 R.STOR_SEQ_LO s.store.durNext).put R.STOR_WP s.store.durWp
    ({ s1 with store := { s1.store with chain := s1.store.durChain } }).showStore

/-- The Ledger from LDG_SPILLED on goes to Clearing again, with REPLAYED. -/
def State.ledgerReplay (s : State) : State :=
  let es := (s.ledger.ring.filter (fun e => s.val64 R.LDG_SPILLED_LO ≤ e.index)).reverse
  es.foldl (fun t e => let r := { e with lflags := 1 }; t.toClearing r.era r.t64 0 r.inst 1 r.bytes) s

/-- The store records again after a loss of power: its first block is a loss block with cause RESTART, and the Ledger is handed on again. -/
def State.storeRestart (s : State) : State :=
  if s.store.resume && s.recording then
    let s1 := { s with store := { s.store with resume := false, restart := none } }
    let s2 := match s.store.restart with
      | some r =>
        let s3 := { s1 with avail := { s1.avail with losses := (r.from_, r.to_) :: s1.avail.losses } }
        s3.placeBlock 5 0 (r.from_ / ticksPerEra)
          [(5, r.first, lossRecord 2 r.first r.last r.blocks r.bytes s.store.durNext (r.next - 1))] r.first r.last
      | none => s1
    s2.showStore.ledgerReplay
  else s

/-! ### The Ledger (R391, R392, R396) -/

/-- MERGED_APPEND (R391): the queue has room again, the merge closes and its entry is appended. -/
def State.doMergedAppend (s : State) : State :=
  match s.ledger.merge with
  | some (n, f, fe, l) =>
    if s.ledger.queue.length < ledgerQueue then
      let s1 := { s with ledger := { s.ledger with merge := none } }
      let s2 := s1.ledger1 { t64 := f, era := fe, source := 8, code := 0x8002, data := leBytes 4 n ++ leBytes 4 0 ++ leBytes 8 f ++ leBytes 8 l }
      s2.hostEvent 0x08 0x0002 0 s2.hNow.pack (leBytes 4 n)
    else s
  | none => s

/-- MERGED_APPEND (R391). -/
def execMergedAppend (u : Sub) (s : State) : Host.Outcome State Fault Refusal := done s (s.atH u).doMergedAppend

/-- The host's note: 40 bytes of LDG_NOTE (R392). -/
def State.doNote (s : State) : State := s.ledgerH 0x08 0x8001 0 ((List.range 10).flatMap (fun k => leBytes 4 (s.val (R.LDG_NOTE k))))

/-- LDG_NOTE (R392). -/
def execLdgNote (u : Sub) (s : State) : Host.Outcome State Fault Refusal := done s ((s.atH u).ifOn R.LDG_CTRL State.doNote)

/-- LDG_CLR_STATS (R396). -/
def execLdgClrStats (u : Sub) (s : State) : Host.Outcome State Fault Refusal :=
  done s ((s.atH u).ifOn R.LDG_CTRL (fun t => t.putAll [R.LDG_OVERWRITTEN, R.LDG_MERGED] 0))

end Sys2Proof.Machine
end

