-- ==== Sys2Proof/Machine/Domains.lean ====
section
/-! DEFINITION. The power domains (R17, R18, R427): requests, what a domain's switch-off stops, what comes on with it; and the quiet state of
SENTINEL (R302, R303). -/

namespace Sys2Proof.Machine

/-- Highest bit of SYS_PWR_STAT that stands for a domain: F13. -/
def domLast : Nat := 20
/-- The bits that stand for domains, in the order of the table of R17. -/
def domBits : List Nat := [0, 1, 2, 3, 4, 5, 6, 8, 9, 10, 11, 12, 13, 14, 15, 16, 17, 18, 19, 20]

/-- The domain that a domain requires (R17), by bit. -/
def domNeeds (d : Nat) : Option Nat :=
  if d = 0 then none
  else if d = domH 2 ∨ d = domH 6 then some (domH 1)
  else if d = domF 1 then some (domH 7)
  else if d < 7 then some (domH 2)
  else some (domF 1)

/-- Every domain that a domain requires, directly or not, is on; F1 also needs the field supply (R17, R427). -/
def State.needsOn (s : State) (d : Nat) : Bool :=
  (domNeeds d).all (fun r => s.domOn r) && (d != domF 1 || s.start.supply)

/-- A domain requires another, directly or through others. -/
def domUses (d r : Nat) : Bool :=
  match domNeeds d with
  | none => false
  | some a => a == r || (match domNeeds a with
    | none => false
    | some b => b == r || (match domNeeds b with
      | none => false
      | some c => c == r || domNeeds c == some r))

/-! ### What a switch-off stops (R427) -/

/-- A reduction's frames stop: the frame is cut, and FRAME reads 0 (R257). -/
def State.redStop (s : State) (l : Nat) : State :=
  let r := s.red l
  if r.act.frame = 0 then s
  else
    let s1 := if r.frame ≠ [] then s.sendInterval l (s.fU + 1) true else s
    let act := { (s1.red l).act with ctrl := withField (s1.red l).act.ctrl 30 2 0 }
    let s2 := (s1.setRed l { s1.red l with act := act, pend := none, frame := [], cut := true }).wr (R.ACQ_RED_ACT l) (act.ctrl &&& 0xFCFFFFFF#32)
    let s3 := (s2.wr (R.ACQ_RED_CTRL l) (withField (s2.rd (R.ACQ_RED_CTRL l)) 30 2 0)).set (R.ACQ_RED_STAT_PENDING l) 0
    s.releaseBudget (s3.stopEntry 0x16 (0x300 + l) (t64At s.fU) 0 0)

/-- Streams, reductions, groups and Tally stop (R257, R491). -/
def State.acqStop (s : State) : State :=
  let s1 := (List.range 48).foldl (fun t l => (t.laneStopAll l).redStop l) s
  ((List.range 4).foldl (fun t n => t.groupStop n) s1).tallyStopAll

/-- Pins of a group (0: P0–P127, 1: P128–P255) stop: drivers off, EN and the capture's EN read 0. [DEDUCED, log 38, unsafe] -/
def State.pinGroupOff (s : State) (g : Nat) : State :=
  let lo := 0x1400000 + 0x80000 * g
  let s1 := s.mapRegs (fun a x =>
    if lo ≤ a && a < lo + 0x80000 then
      (if a % 0x1000 == R.PIN_CTRL 0 % 0x1000 then withField x (R.PIN_CTRL_EN 0).lo 1 0
       else if a % 0x1000 == R.PIN_CAPT 0 % 0x1000 then withField x (R.PIN_CAPT_EN 0).lo 1 0
       else if isPinStat a then withField x 4 1 0 else x)
    else x)
  { s1 with seq := { s1.seq with pins := s1.seq.pins.map (fun p => if p.1 / 128 = g then (p.1, { p.2 with term := false, wave := [], stopping := false }) else p) } }

/-- The sequencer halts with cause 0x12 when vector memory goes: issued instances run in full first. -/
def State.vmemOff (s : State) : State :=
  let s1 := if s.seqState = seqRunning ∨ s.seqState = seqPaused then s.seqEnd seqHalted 0x12 else s
  ({ s1 with seq := { s1.seq with vmem := [], frames := s1.seq.frames.map (fun (f : Nat × Nat × Nat) => (f.1, f.2.1, 0)) } }).failClear

/-- Guard windows stop, the metrology converter, its buffer and the diagnostic DAC, and a calibration run aborts. [DEDUCED, log 38, unsafe] -/
def State.guardOff (s : State) : State :=
  let s1 := (List.range 64).foldl (fun t w => t.winStop w t.fU) s
  let s2 := (s1.calAbort 5).refbufOff
  (s2.setMet { s2.met with conv := none, hist := [], want := false, hkDue := false }).ddacSet 0

/-- Pods lose their power: attached pods leave service as on removal. [DEDUCED, log 38, unsafe] -/
def State.podsOff (s : State) : State :=
  (List.range 16).foldl (fun t q => if t.podHere q then (t.podGap q).podDetach q podEmpty else (t.podPowerOff q).podState q podEmpty) s

/-- What stops when a domain switches off. [DEDUCED, log 38, unsafe] -/
def State.offEffect (s : State) (d : Nat) : State :=
  if d = domH 2 then s.mgmtReset
  else if d = domH 3 then
    let s1 := s.clr.staged.foldl (fun t i => t.availNote (absTick i.era (T64.unpack i.t64).tick) (fun r => { r with loss := true })) s
    { s1 with mem := [], clr := { s1.clr with staged := [], late := [] } }
  else if d = domH 4 then s.hostLinkReset .domainOff
  else if d = domH 5 then (s.doStorEn false).storePowerOff.showStore
  else if d = domH 7 then (if s.linkUp then s.linkLoss else s)
  else if d = domF 1 then
    let s1 := if s.linkUp then s.linkLoss else s
    let s2 := { s1 with time := { s1.time with fAligned := false }, fault := { s1.fault with field := [], fcpUntil := none } }
    let s3 := ((s2.seqBlockReset).set R.FCTL_STAT_FATAL 0).set R.FCTL_STAT_FATAL_ID 0
    { s3 with link := { s3.link with outFH := [], hold := none, holdExpired := false, held := [{}, {}, {}, {}], goAt := [] } }
  else if d = domF 2 then s.vmemOff
  else if d = domF 3 then s.pinGroupOff 0
  else if d = domF 4 then s.pinGroupOff 1
  else if domF 5 ≤ d ∧ d ≤ domF 10 then
    (List.range 8).foldl (fun t i => let l := 8 * (d - domF 5) + i; (t.laneStopAll l).genStop l) s
  else if d = domF 11 then s.acqStop.pairStopAll
  else if d = domF 12 then s.guardOff
  else if d = domF 13 then s.podsOff
  else s

/-- Switch one domain off: its functions stop, then SYS_PWR_STAT shows it off. -/
def State.domOff1 (s : State) (d : Nat) : State :=
  if s.domOn d then (let t := s.offEffect d; t.wr R.SYS_PWR_STAT (t.rd R.SYS_PWR_STAT &&& ~~~(BitVec.twoPow 32 d))) else s

/-- Switch a domain off; every domain that requires it goes first, in reverse order of the table (R18). -/
def State.domOff (s : State) (d : Nat) : State :=
  ((domBits.reverse.filter (fun x => domUses x d)).foldl State.domOff1 s).domOff1 d

/-- What comes on with a domain (R24, R303, R393, R427). [DEDUCED, log 38, unsafe] -/
def State.onEffect (s : State) (d : Nat) : State :=
  if d = domH 2 then { s with fault := { s.fault with mgmtDown := false } }
  else if d = domH 5 then s.storeResume
  else if d = domH 7 then s.trainStart
  else if d = domF 1 then
    let s1 := (s.set R.SEQ_STAT_STATE seqIdle).put R.SEQ_HALT_CAUSE 0
    if s1.linkUp then s1 else s1.trainStart
  else if domF 5 ≤ d ∧ d ≤ domF 10 then
    (List.range 8).foldl (fun t i =>
      let l := 8 * (d - domF 5) + i
      t.setLane l { t.lane l with readyAt := t.fU + 20 * unitsPerTick }) s
  else if d = domF 13 then
    (List.range 16).foldl (fun t q =>
      if t.is (R.POD_S_STAT_PRESENT q) && !t.is (R.POD_S_CTRL_POWER_OFF q) then t.podBegin q else t) s
  else s

/-- A domain comes on: SYS_PWR_STAT shows it, and its functions are available. -/
def State.domOn1 (s : State) (d : Nat) : State :=
  (s.wr R.SYS_PWR_STAT (s.rd R.SYS_PWR_STAT ||| BitVec.twoPow 32 d)).onEffect d

/-! ### Requests (R18, R427) -/

/-- Requests for F2–F13 cross the tunnel. -/
def fieldDom (d : Nat) : Bool := decide (domF 1 < d)

/-- One bit of a SYS_PWR_REQ write: a switch-on whose required domain is off is refused; a switch-off acts at once, over the link for a field
domain. -/
def State.pwrBit (v : Word) (s : State) (d : Nat) : State :=
  let want := v.getLsbD d
  let was := (s.rd R.SYS_PWR_REQ).getLsbD d
  if want then
    if was then s
    else if (domNeeds d).all (fun r => s.domOn r) then s.wr R.SYS_PWR_REQ (s.rd R.SYS_PWR_REQ ||| BitVec.twoPow 32 d)
    else s.set R.SYS_EVT_PWR_REFUSED 1
  else
    let s1 := s.wr R.SYS_PWR_REQ (s.rd R.SYS_PWR_REQ &&& ~~~(BitVec.twoPow 32 d))
    if fieldDom d && !s1.linkUp then s1 else s1.domOff d

/-- A write of SYS_PWR_REQ; H1 is always on. -/
def State.doPwrRequest (s : State) (v : Word) : State := (domBits.filter (fun d => d != 0)).foldl (State.pwrBit v) s

/-- POWER_DOMAIN_REQUEST (R18). -/
def execPowerDomainRequest (u : Sub) (v : Word) (s : State) : Host.Outcome State Fault Refusal := done s ((s.atH u).doPwrRequest v)

/-- The quiet state holds the domain off (R302). -/
def State.quietHolds (s : State) (d : Nat) : Bool := s.is R.GRD_QUIET_ACTIVE && s.grd.off.testBit d

/-- A temperature shutdown holds the domain off (R448, R483). -/
def State.hotHolds (s : State) (d : Nat) : Bool :=
  (s.start.fieldOff && decide (domF 2 ≤ d ∧ d ≤ domF 11)) || (s.start.hostOff && (d == domH 3 || d == domH 5))

/-- A requested domain's supplies settle (R427), or a field domain's switch-off reaches it. -/
def State.doDomainPowered (s : State) (d : Nat) : State :=
  if !domBits.contains d || d = 0 then s
  else if (s.rd R.SYS_PWR_REQ).getLsbD d then
    if s.domOn d || d = domH 3 || !s.needsOn d || (fieldDom d && !s.linkUp) || s.quietHolds d || s.hotHolds d then s else s.domOn1 d
  else if s.domOn d && fieldDom d && s.linkUp then s.domOff d
  else s

/-- Memory training ends: H3 is on (R427). -/
def State.doH3Trained (s : State) : State :=
  if (s.rd R.SYS_PWR_REQ).getLsbD (domH 3) && !s.domOn (domH 3) && s.needsOn (domH 3) && !s.hotHolds (domH 3) then s.domOn1 (domH 3) else s

/-- H3_TRAINING_DONE (R427). -/
def execH3TrainingDone (u : Sub) (s : State) : Host.Outcome State Fault Refusal := done s (s.atH u).doH3Trained

/-! ### The quiet state (R302, R303) -/

/-- A write of 1 to GRD_QUIET.REQ: requested in SENTINEL unless a generator is enabled or the sequencer runs; KEEP_H4 is stored. -/
def State.doQuietRequest (s : State) (v : Word) : State :=
  s.ifOn R.GRD_QUIET (fun s =>
    let s1 := s.set R.GRD_QUIET_KEEP_H4 (fieldOf v 2 1)
    if s1.mode ≠ 7 || s1.is R.GRD_QUIET_ACTIVE then s1
    else if (List.range 48).any (fun g => s1.is (R.GEN_CTRL_EN g)) || s1.seqState == seqRunning || s1.seqState == seqPaused then
      (s1.set R.GRD_QUIET_REQ 0).set R.GRD_EVT_QUIET_REFUSED 1
    else (({ s1 with grd := { s1.grd with enterDue := true } }).set R.GRD_QUIET_REQ 1))

/-- QUIET_REQUEST (R302). -/
def execQuietRequest (u : Sub) (v : Word) (s : State) : Host.Outcome State Fault Refusal := done s ((s.atF u).doQuietRequest v)

/-- What runs, kept for the return from the quiet state (R303). -/
def State.quietSave (s : State) : State :=
  let on (l : List Nat) (f : Nat → Bool) : List Nat := l.filter f
  { s with grd := { s.grd with
    streams := ((List.range 48).filter (fun l => s.val (R.LANE_STREAM l) != 0)).map (fun l => (l, s.val (R.LANE_STREAM l))),
    frames := ((List.range 48).filter (fun l => (s.red l).act.frame != 0)).map (fun l => (l, (s.red l).act.frame)),
    hists := on (List.range 48) (fun h => s.is (R.TLY_H_CTRL_EN h)), maps := on (List.range 8) (fun m => s.is (R.TLY_M_CTRL_EN m)),
    pairs := on (List.range 128) (fun p => s.is (R.CMP_P_CTRL_EN p)), groups := on (List.range 4) (fun n => s.is (R.ACQ_GRP_CTRL_EN n)) } }

/-- At the tick boundary everything stops and the domains switch off (R302). -/
def State.doQuietEnter (s : State) : State :=
  if s.grd.enterDue && s.time.fUnit == 0 then
    let s1 := (s.quietSave.acqStop).pairStopAll
    let ds := ((List.range 10).map (fun k => domF (11 - k)) ++ (if s1.is R.GRD_QUIET_KEEP_H4 then [] else [domH 4])).filter (fun d => s1.domOn d)
    let s2 := ds.foldl State.domOff s1
    let off := ds.foldl (fun m d => m ||| 2 ^ d) 0
    ({ s2 with grd := { s2.grd with enterDue := false, off := off, wake := none, restoreBy := none } }).set R.GRD_QUIET_ACTIVE 1
  else s

/-- QUIET_ENTER (R302). -/
def execQuietEnter (s : State) : Host.Outcome State Fault Refusal := done s s.doQuietEnter

/-- The quiet state ends: its domains may come on, and the configuration returns within 500 ticks (R303). -/
def State.quietOver (s : State) : State :=
  ({ s with grd := { s.grd with wake := none, restoreBy := some (absTick s.time.fEra s.time.fTick + 500) } }).setAll [R.GRD_QUIET_ACTIVE, R.GRD_QUIET_REQ] 0

/-- A window with WAKE_EN has risen: WAKE in the tick after the sampling instant (R303). -/
def State.doWake (s : State) : State :=
  match s.grd.wake with
  | some (w, t) =>
    if s.is R.GRD_QUIET_ACTIVE && s.time.fTick != t then
      let s1 := s.quietOver.set R.GRD_EVT_WAKE 1
      s1.winEvent w 0x0005 s1.fNow.pack
    else s
  | none => s

/-- WAKE (R303). -/
def execWake (u : Sub) (s : State) : Host.Outcome State Fault Refusal := done s (s.atF u).doWake

/-- A write of 0 to GRD_QUIET.REQ (R303). -/
def State.doQuietEnd (s : State) : State :=
  s.ifOn R.GRD_QUIET (fun s =>
    if s.is R.GRD_QUIET_ACTIVE then s.quietOver
    else ({ s with grd := { s.grd with enterDue := false } }).set R.GRD_QUIET_REQ 0)

/-- QUIET_END (R303). -/
def execQuietEnd (u : Sub) (s : State) : Host.Outcome State Fault Refusal := done s ((s.atF u).doQuietEnd)

/-- The enables return as they were, under one new plan: streams restart with SOM at its boundary (R303). -/
def State.doQuietRestore (s : State) : State :=
  if s.grd.restoreBy.isSome && domBits.all (fun d => !s.grd.off.testBit d || s.domOn d) then
    let g := s.grd
    let s1 := g.streams.foldl (fun t p => t.put (R.LANE_STREAM p.1) p.2) s
    let s2 := g.frames.foldl (fun t p =>
      let x := { (t.red p.1).act with ctrl := withField (t.red p.1).act.ctrl 30 2 p.2 }
      ((t.setRed p.1 { t.red p.1 with pend := some x }).wr (R.ACQ_RED_CTRL p.1) (withField (t.rd (R.ACQ_RED_CTRL p.1)) 30 2 p.2)).set
        (R.ACQ_RED_STAT_PENDING p.1) 1) s1
    let s3 := g.hists.foldl (fun t h => t.set (R.TLY_H_CTRL_EN h) 1) s2
    let s4 := g.maps.foldl (fun t m => t.set (R.TLY_M_CTRL_EN m) 1) s3
    let s5 := g.pairs.foldl (fun t p => t.set (R.CMP_P_CTRL_EN p) 1) s4
    let s6 := g.groups.foldl (fun t n => t.set (R.ACQ_GRP_CTRL_EN n) 1) s5
    let acts := g.streams.map (fun p => PlanAct.laneStream p.1) ++ g.frames.map (fun p => PlanAct.red p.1) ++ g.hists.map PlanAct.tallyH
      ++ g.maps.map PlanAct.tallyM ++ g.pairs.map PlanAct.pair ++ g.groups.map PlanAct.group ++ [PlanAct.quiet true]
    ({ s6 with grd := { s6.grd with off := 0, restoreBy := none, streams := [], frames := [], hists := [], maps := [], pairs := [], groups := [] } }).planAdmit
      acts s6.mode
  else s

/-- QUIET_RESTORE_COMPLETE (R303). -/
def execQuietRestoreComplete (u : Sub) (s : State) : Host.Outcome State Fault Refusal := done s (((s.atH u).atF u).doQuietRestore)

end Sys2Proof.Machine
end

