-- ==== Sys2Proof/Machine/Sec.lean ====
section
/-! DEFINITION. The security island (R397–R413, R415): the protection set and what loosens it, change packets and tokens, the four Escrow slots,
held writes and the commit in both halves, keys and the Record Seal certificate. -/

namespace Sys2Proof.Machine

/-! ### The protection set (R401, R402) -/

/-- The register is FLT_ACT of a source that is not of the protection class: its REACT is RW (R443). -/
def plainAct (a : Nat) : Bool := 0xA0400 ≤ a && a < 0xA0640 && !Config.faultProt ((a - 0xA0400) / 4)

/-- The bits of a register that an access code gives. -/
def accMask (l : List FieldRow) (c : Access) : Word :=
  (l.filter (fun f => f.acc == c)).foldl (fun m f => m ||| (maskW f.w <<< f.lo)) 0#32

/-- The PL bits of a register. -/
def plMask (a : Nat) : Word := if plainAct a then 0 else ((rowAt a).map (fun r => accMask r.fields .pl)).getD 0

/-- Registers with PL fields but for the customer region, in ascending order (R401). -/
def plAddrs : List Nat :=
  [R.STOR_FMT, R.STOR_PIN_DROP, R.SEC_MODE_PERMIT, R.AVAIL_CTRL]
    ++ ((List.range 144).filter Config.faultProt).map R.FLT_ACT ++ [R.ISO_CTRL]
    ++ (List.range 256).flatMap (fun p => [R.PIN_PROT p, R.PIN_LIMIT_HI p, R.PIN_LIMIT_LO p])
    ++ (List.range 64).flatMap (fun w => [R.GRD_W_CFG w, R.GRD_W_HI w, R.GRD_W_LO w, R.GRD_W_HYST w, R.GRD_W_ACT w])
    ++ [R.POD_PWR_BUDGET] ++ (List.range 16).map R.POD_S_POLICY

/-- The address is a customer microword, USTORE_CWORD. -/
def isCword (a : Nat) : Bool := R.USTORE_CWORD 0 ≤ a && a < R.USTORE_CWORD 0 + 65536

/-- The customer bank that commits have brought about last: the one that awaits its switch, or the active one (R159). -/
def State.custBank (s : State) : Nat :=
  if s.is R.USTORE_STAT_CUST_PENDING then 1 - s.get R.USTORE_STAT_CUST_BANK else s.get R.USTORE_STAT_CUST_BANK

/-- A key slot's public key; none when it is empty. -/
def State.keyOf (s : State) (k : Nat) : Option (List Byte) := (s.sec.keys.find? (fun p => p.1 == k)).map Prod.snd

/-- The protection-set image (R401). -/
def State.psetImage (s : State) : List Byte :=
  plAddrs.flatMap (fun a => leBytes 4 a ++ leBytes 4 (s.rd a &&& plMask a).toNat) ++ s.bankBytes s.custBank
    ++ (List.range 17).flatMap (fun k => match s.keyOf k with
      | some b => Config.shake256 b
      | none => List.replicate 32 0)

/-- A register's PL bits change from `old` to `new` in the direction that loosens the set (R402, R443). -/
def loosensReg (a : Nat) (old new : Word) : Bool :=
  let o := old.toNat
  let n := new.toNat
  let bitsRise := decide ((new &&& ~~~old).toNat ≠ 0)
  let bitsFall := decide ((old &&& ~~~new).toNat ≠ 0)
  if old = new then false
  else if 0x1400000 ≤ a ∧ a < 0x1500000 then
    if a % 0x1000 = 0x24 then (!old.getLsbD 31 && new.getLsbD 31) || decide (o % 65536 < n % 65536)
    else if a % 0x1000 = 0x28 then decide (signedOf 32 o < signedOf 32 n)
    else decide (signedOf 32 n < signedOf 32 o)
  else if 0x1E01000 ≤ a ∧ a < 0x1E02000 then
    if a % 0x40 = 0x0C then (old.getLsbD 31 && !new.getLsbD 31)
      || decide (winK (max 1 (fieldOf old 8 4)) (fieldOf old 0 4) < winK (max 1 (fieldOf new 8 4)) (fieldOf new 0 4))
    else if a % 0x40 = 0x10 then decide (signedOf 32 o < signedOf 32 n)
    else if a % 0x40 = 0x14 then decide (signedOf 32 n < signedOf 32 o)
    else if a % 0x40 = 0x18 then decide (n < o)
    else bitsFall
  else if a = R.ISO_CTRL ∨ a = R.POD_PWR_BUDGET then decide (o < n)
  else if 0x1F01000 ≤ a ∧ a < 0x1F02000 then
    decide (((new &&& ~~~old) &&& 0x031F0000#32).toNat ≠ 0) || decide (n % 65536 < o % 65536)
  else if a = R.SEC_MODE_PERMIT ∨ a = R.STOR_FMT then bitsRise
  else if 0xA0400 ≤ a ∧ a < 0xA0640 then bitsFall
  else true

/-- The value a WRITE leaves in a register: the bits of MASK from VALUE. -/
def mergeBits (old : Word) (mask value : Nat) : Word :=
  (old &&& ~~~(BitVec.ofNat 32 mask)) ||| (BitVec.ofNat 32 value &&& BitVec.ofNat 32 mask)

/-- An operation loosens the set against the values in force (R402). -/
def State.opLoosens (s : State) : EscOp → Bool
  | .write a m v =>
    if a = R.STOR_PIN_DROP then (mergeBits (s.rd a) m v).getLsbD 31 && decide ((mergeBits (s.rd a) m v).toNat % 32 < s.store.pins.length)
    else if isCword a then mergeBits (s.custWord s.custBank (0xC000 + (a - R.USTORE_CWORD 0) / 4)) m v != s.custWord s.custBank (0xC000 + (a - R.USTORE_CWORD 0) / 4)
    else loosensReg a (s.rd a &&& plMask a) (mergeBits (s.rd a) m v &&& plMask a)
  | .image ws => ws.any (fun w => w != 0) && ws.flatMap (fun w => leBytes 4 w.toNat) != s.bankBytes s.custBank
  | _ => true

/-- A slot of Escrow. -/
def State.esc (s : State) (k : Nat) : EscSlot := s.sec.slots.getD k {}
/-- Replace a slot. -/
def State.setEsc (s : State) (k : Nat) (x : EscSlot) : State := { s with sec := { s.sec with slots := s.sec.slots.set k x } }

/-- The packet of a slot loosens the set. -/
def State.slotLoosens (s : State) (k : Nat) : Bool := (s.esc k).ops.any s.opLoosens

/-- A digest in 8 registers. -/
def State.digestAt (s : State) (r : Nat → Nat) : List Byte := (List.range 8).flatMap (fun k => leBytes 4 (s.val (r k)))

/-! ### Packets (R404, R405) -/

/-- The operations of a packet's body; none when one breaks a rule of R404. -/
def parseOps : Nat → List Byte → Option (List EscOp)
  | 0, b => if b.isEmpty then some [] else none
  | n + 1, b =>
    let kind := leAt b 0 1
    let target := leAt b 4 4
    let x := leAt b 8 4
    let y := leAt b 12 4
    let rest := b.drop 16
    let cons (o : EscOp) (r : List Byte) : Option (List EscOp) := (parseOps n r).map (fun l => o :: l)
    if b.length < 16 ∨ leAt b 1 3 ≠ 0 then none
    else if kind = 1 then cons (.write target x y) rest
    else if kind = 2 then
      if target = 0 ∧ x = 65536 ∧ y = 0 ∧ 65536 ≤ rest.length then
        cons (.image ((List.range 16384).map (fun i => BitVec.ofNat 32 (leAt rest (4 * i) 4)))) (rest.drop 65536)
      else none
    else if kind = 3 then
      if target ≤ 16 ∧ x = 1952 ∧ y = 0 ∧ 1952 ≤ rest.length then cons (.enrol target (rest.take 1952)) (rest.drop 1952) else none
    else if kind = 4 then (if target ≤ 16 ∧ x = 0 ∧ y = 0 then cons (.revoke target) rest else none)
    else if kind = 5 then (if target = 0 ∧ x = 0 ∧ y = 0 then cons .rotate rest else none)
    else none

/-- Key slots that operations name. -/
def keySlots (ops : List EscOp) : List Nat :=
  ops.filterMap (fun o => match o with | .enrol k _ => some k | .revoke k => some k | _ => none)

/-- At most one image, at most one rotation, no key slot twice (R404). -/
def opsRules (ops : List EscOp) : Bool :=
  decide ((ops.filter (fun o => match o with | .image _ => true | _ => false)).length ≤ 1)
    && decide ((ops.filter (fun o => match o with | .rotate => true | _ => false)).length ≤ 1)
    && (keySlots ops).eraseDups.length == (keySlots ops).length

/-- The operations of a well-formed packet (reason 1 of R405). -/
def packetOps (b : List Byte) (len : Nat) : Option (List EscOp) :=
  let n := leAt b 6 2
  let body := leAt b 60 4
  if 98304 < len ∨ len ≠ 128 + body + 3309 ∨ leAt b 0 4 ≠ 0x50434347 ∨ leAt b 4 2 ≠ 1 ∨ n = 0 ∨ 1024 < n then none
  else match parseOps n ((b.drop 128).take body) with
    | some ops => if opsRules ops then some ops else none
    | none => none

/-- Keys enrolled after a list of operations. -/
def keysAfter (keys : List (Nat × List Byte)) (ops : List EscOp) : List (Nat × List Byte) :=
  ops.foldl (fun l o => match o with
    | .enrol k b => (k, b) :: l.filter (fun p => p.1 != k)
    | .revoke k => l.filter (fun p => p.1 != k)
    | _ => l) keys

/-- Some maker key and some checker key are enrolled. -/
def bothClasses (keys : List (Nat × List Byte)) : Bool := keys.any (fun p => p.1 < 8) && keys.any (fun p => 8 ≤ p.1 && p.1 < 16)

/-- The protection set is new: no maker and no checker key is enrolled (R413). -/
def State.psetNew (s : State) : Bool := !s.sec.keys.any (fun p => p.1 < 16)

/-- The packet is a first enrolment: nothing but ENROL, at least one maker and one checker key, signed by a maker key it enrols (R413). -/
def firstEnrol (ops : List EscOp) (signer : Nat) : Bool :=
  ops.all (fun o => match o with | .enrol _ _ => true | _ => false) && bothClasses (keysAfter [] ops)
    && decide (signer < 8) && (keysAfter [] ops).any (fun p => p.1 == signer)

/-- The key that a packet is verified with: the signer's, or for a first enrolment the one that it enrols. -/
def State.signerKey (s : State) (ops : List EscOp) (signer : Nat) : Option (List Byte) :=
  if s.psetNew then ((keysAfter [] ops).find? (fun p => p.1 == signer)).map Prod.snd
  else if 15 < signer then none else s.keyOf signer

/-- A WRITE names a register outside R20, or bits that are not PL (reason 6). -/
def badWrite : EscOp → Bool
  | .write a m _ => m = 0 || (domainOf a).isNone || decide ((BitVec.ofNat 32 m &&& ~~~(plMask a)).toNat ≠ 0)
  | _ => false

/-- COMMIT_AT as a tick across eras; 0 for as soon as possible. -/
def packetCommit (b : List Byte) : Nat := if leAt b 48 8 = 0 then 0 else absTick (leAt b 56 2) (T64.unpack (leAt b 48 8)).tick

/-- The first reason of R405 for which a packet is refused; 0 none. -/
def State.packetReason (s : State) (b : List Byte) (len : Nat) (service : Bool) : Nat :=
  let signer := leAt b 58 1
  match packetOps b len with
  | none => 1
  | some ops =>
    let key := s.signerKey ops signer
    if (b.drop 8).take 32 ≠ deviceId then 2
    else if leAt b 40 8 ≤ s.val64 R.SEC_PKT_HWM_LO then 3
    else if key.isNone then 4
    else if !Config.mldsaVerify (key.getD []) (b.take (len - 3309)) ((b.drop (len - 3309)).take 3309) then 5
    else if ops.any badWrite then 6
    else if s.hAbs + 8640000000 < packetCommit b then 7
    else if s.sec.slots.all (fun x => x.used) then 8
    else if s.psetNew && !(firstEnrol ops signer && service) then 9
    else if !bothClasses (keysAfter s.sec.keys ops) then 10
    else 0

/-- Count a refusal (R405). -/
def State.secRefused (s : State) : State := (s.satCount R.SEC_REFUSALS 32 1 R.SEC_EVT_SATURATED).1

/-- A Ledger entry of the island: 4 bytes for each value (R390). [DESIGN CHOICE, log 20, unsafe] -/
def State.secEntry (s : State) (inst : Nat) (vs : List Nat) : State := s.ledgerH 0x05 0x80FF inst (vs.flatMap (fun v => leBytes 4 v))
/-- The first word of a digest. -/
def digestWord (d : List Byte) : Nat := leAt d 0 4

/-- SUBMIT: the packet in the window is being verified, unless a check is in progress. [DESIGN CHOICE, log 17, unsafe] -/
def State.doPacketSubmit (s : State) (service : Bool) : State :=
  let s0 := s.set R.SEC_STAT_SERVICE_EN (if service then 1 else 0)
  if s0.is R.SEC_STAT_VERIFY_BUSY then s0
  else
    let len := s0.val R.SEC_PKT_LEN
    let b := (List.range (min 24576 ((len + 3) / 4))).flatMap (fun k => leBytes 4 (s0.val (R.SEC_PKT_WORD k)))
    ({ s0 with sec := { s0.sec with pkt := some b } }).set R.SEC_STAT_VERIFY_BUSY 1

/-- PACKET_SUBMIT (R405). -/
def execPacketSubmit (u : Sub) (service : Bool) (s : State) : Host.Outcome State Fault Refusal :=
  done s ((s.atH u).ifOn R.SEC_CTRL (fun t => t.doPacketSubmit service))

/-- The check ends: the packet is refused with a reason, or reserves the lowest free slot (R405). -/
def State.doPacketCheck (s : State) : State :=
  match s.sec.pkt with
  | none => s
  | some b =>
    let len := s.val R.SEC_PKT_LEN
    let s1 := ({ s with sec := { s.sec with pkt := none } }).set R.SEC_STAT_VERIFY_BUSY 0
    let digest := Config.shake256 (b.take (len - 3309))
    let why := s1.packetReason b len (s1.is R.SEC_STAT_SERVICE_EN)
    if why ≠ 0 then
      (((s1.set R.SEC_STAT_PKT_REFUSE why).set R.SEC_EVT_PKT_REFUSED 1).secRefused).secEntry 0 [digestWord digest]
    else
      let ops := (packetOps b len).getD []
      let k := (s1.sec.slots.findIdx? (fun x => !x.used)).getD 0
      let x : EscSlot := { ops := ops, digest := digest, base := (b.drop 64).take 32, signer := leAt b 58 1, commitAt := packetCommit b,
                           stageAt := some (s1.hAbs + 1), used := true, first := s1.psetNew }
      let s2 := (s1.setEsc k x).put64 R.SEC_PKT_HWM_LO (leAt b 40 8)
      ((s2.put64 (R.SEC_ESC_SEQ_LO k) (leAt b 40 8)).putDigest (R.SEC_ESC_DIGEST k) digest).put (R.SEC_ESC_SIGNER k) (0xFFFF0000 + leAt b 58 1)

/-- PACKET_CHECK_DONE (R405). -/
def execPacketCheckDone (u : Sub) (s : State) : Host.Outcome State Fault Refusal := done s (s.atH u).doPacketCheck

/-! ### Prepare and go (R409) -/

/-- Operations with a target in a field block. -/
def opField : EscOp → Bool
  | .write a _ _ => isFieldAddr a
  | .image _ => true
  | _ => false

/-- The TAG of the island for a slot (R45): REQ 7, the slot, and a number of its choice. [DESIGN CHOICE, log 66, safe] -/
def escTag (k i : Nat) : Nat := 7 * 8192 + k * 2048 + i % 2048
/-- Numbers of the go and of the read of FCTL_ESC_DONE. -/
def tagGo : Nat := 2047
def tagDone : Nat := 2046

/-- The payload of a tunnel write. -/
def wrPayload (tag addr : Nat) (ws : List Word) : List Byte :=
  leBytes 2 tag ++ leBytes 2 ws.length ++ leBytes 4 addr ++ ws.flatMap (fun w => leBytes 4 w.toNat)

/-- Held writes of a packet: number, address, words. A WRITE sends VALUE; the image goes in 256 requests of 64 words. [DESIGN CHOICE, log 66, safe] -/
def heldMessages (ops : List EscOp) : List (Nat × Nat × List Word) :=
  ops.zipIdx.flatMap (fun p => match p.1 with
    | .write a _ v => if isFieldAddr a then [(p.2, a, [BitVec.ofNat 32 v])] else []
    | .image ws => (List.range 256).map (fun j => (1024 + j, R.USTORE_CWORD (64 * j), (ws.drop (64 * j)).take 64))
    | _ => [])

/-- Step 1: the island sends the held writes of an APPROVED packet with field targets, once the link is up. -/
def State.escPrepare (s : State) (k : Nat) : State :=
  let x := s.esc k
  if s.get (R.SEC_ESC_STAT_STATE k) = 2 ∧ s.is (R.SEC_ESC_STAT_FIELD k) ∧ s.linkUp then
    let ms := heldMessages x.ops
    let s1 := ms.foldl (fun t m => t.sendHF 0x11 1 t.hNow.pack (wrPayload (escTag k m.1) m.2.1 m.2.2)) s
    (s1.setEsc k { x with waits := ms.length, goSent := false, answered := false, asked := false, fieldDone := none, prepAt := s1.hAbs }).set
      (R.SEC_ESC_STAT_STATE k) 3
  else s

/-- Step 2: after the last answer the island sends the go with the commit tick. -/
def State.escGo (s : State) (k : Nat) : State :=
  let x := s.esc k
  let b := s.boundaryAfter 2
  let c := max (absTick b.2 b.1) x.commitAt
  let s1 := s.sendHF 0x11 1 (T64.mk (c % ticksPerEra) 0 0).pack (wrPayload (escTag k tagGo) R.FCTL_ESC_GO [BitVec.ofNat 32 k])
  (s1.setEsc k { x with goSent := true, commit := c }).put64 (R.SEC_ESC_COMMIT_LO k) (c % ticksPerEra)

/-- An answer to a request of the island arrives: of a held write, of the go, or of the read of FCTL_ESC_DONE. -/
def State.escAnswer (s : State) (tag : Nat) (ws : List Word) : State :=
  let k := tag / 2048 % 4
  let i := tag % 2048
  let x := s.esc k
  if s.get (R.SEC_ESC_STAT_STATE k) ≠ 3 then s
  else if i = tagGo then s.setEsc k { x with answered := true }
  else if i = tagDone then
    let g := ws.getD 2 0
    let c := (ws.getD 0 0).toNat + 2 ^ 32 * (ws.getD 1 0).toNat
    if fieldOf g 4 2 = k ∧ c = x.commit % ticksPerEra ∧ g.getLsbD 0 then s.setEsc k { x with fieldDone := some (g.getLsbD 3) }
    else s.setEsc k { x with fieldDone := some false }
  else if x.waits = 0 then s
  else
    let s1 := s.setEsc k { x with waits := x.waits - 1 }
    if x.waits = 1 then s1.escGo k else s1

/-! ### Staging and tokens (R406–R408) -/

/-- A slot is ready to commit: it only tightens, or it is approved and, where an owner key is enrolled, co-signed (R406, R408). -/
def State.escReady (s : State) (k : Nat) (loosens : Bool) : Bool :=
  !loosens || ((s.esc k).approved && ((s.keyOf 16).isNone || s.is (R.SEC_ESC_STAT_COSIGNED k)))

/-- The slot becomes APPROVED, and a packet with field targets is prepared. -/
def State.escApprove (s : State) (k : Nat) : State :=
  (((s.set (R.SEC_ESC_STAT_STATE k) 2).set R.SEC_EVT_APPROVED 1).secEntry k [digestWord (s.esc k).digest]).escPrepare k

/-- The slot empties with a result. -/
def State.escEnd (s : State) (k result : Nat) : State :=
  let s1 := (s.setEsc k {}).put (R.SEC_ESC_STAT k) (result * 2 ^ 28)
  let s2 := (s1.put (R.SEC_ESC_SIGNER k) 0xFFFFFFFF).put64 (R.SEC_ESC_SEQ_LO k) 0
  ((s2.put64 (R.SEC_ESC_STAGED_LO k) 0).put64 (R.SEC_ESC_COMMIT_LO k) 0).putAll ((List.range 8).map (R.SEC_ESC_DIGEST k)) 0

/-- A slot ends without a commit: ENDED and its Ledger entry (R408, R409, R410). -/
def State.escFail (s : State) (k result : Nat) : State :=
  ((s.secEntry k [digestWord (s.esc k).digest, result]).escEnd k result).set R.SEC_EVT_ENDED 1

/-- At the tick boundary after the check the slot is STAGED and classified (R405, R406). -/
def State.doSlotStaged (s : State) (k : Nat) : State :=
  let x := s.esc k
  if x.stageAt.any (fun t => t ≤ s.hAbs) && s.time.hUnit == 0 then
    let s1 := s.setEsc k { x with stageAt := none, expiry := s.hAbs + 8640000000 }
    let loose := s1.slotLoosens k
    let s2 := ((s1.put (R.SEC_ESC_STAT k) 1).set (R.SEC_ESC_STAT_LOOSENS k) (if loose then 1 else 0)).set (R.SEC_ESC_STAT_FIELD k)
      (if x.ops.any opField then 1 else 0)
    let s3 := ((s2.put64 (R.SEC_ESC_STAGED_LO k) s2.hNow.pack).set R.SEC_EVT_STAGED 1).secEntry k [digestWord x.digest]
    if loose then s3 else s3.escApprove k
  else s

/-- SLOT_STAGED (R406). -/
def execSlotStaged (k : Fin 4) (s : State) : Host.Outcome State Fault Refusal := done s (s.doSlotStaged k)

/-- TOKEN: the token in the window is being verified. -/
def State.doTokenSubmit (s : State) : State :=
  if s.is R.SEC_STAT_VERIFY_BUSY then s
  else
    let b := (List.range 1024).flatMap (fun k => leBytes 4 (s.val (R.SEC_TOK_WORD k)))
    ({ s with sec := { s.sec with tok := some (b.take 3437) } }).set R.SEC_STAT_VERIFY_BUSY 1

/-- TOKEN_SUBMIT (R407). -/
def execTokenSubmit (u : Sub) (s : State) : Host.Outcome State Fault Refusal := done s ((s.atH u).ifOn R.SEC_CTRL State.doTokenSubmit)

/-- Keys against which tokens for a slot are checked: those of the packet for a first enrolment. -/
def State.tokenKeys (s : State) (k : Nat) : List (Nat × List Byte) :=
  if (s.esc k).first then keysAfter [] (s.esc k).ops else s.sec.keys

/-- The first reason of R407 for which a token is refused; 0 none. -/
def State.tokenReason (s : State) (b : List Byte) (service : Bool) : Nat :=
  let k := leAt b 6 1
  let slot := leAt b 7 1
  let kind := leAt b 8 1
  let x := s.esc k
  let keys := s.tokenKeys k
  let key := (keys.find? (fun p => p.1 == slot)).map Prod.snd
  let st := s.get (R.SEC_ESC_STAT_STATE k)
  let classOk := if kind = 1 then decide (8 ≤ slot ∧ slot < 16) else if kind = 2 then slot == 16 else true
  let signer := (keys.find? (fun p => p.1 == x.signer)).map Prod.snd
  if leAt b 0 4 ≠ 0x50414347 ∨ leAt b 4 2 ≠ 1 ∨ 3 < k ∨ kind = 0 ∨ 3 < kind ∨ leAt b 9 7 ≠ 0 ∨ ((b.drop 80).take 48).any (fun y => y != 0) then 1
  else if (b.drop 48).take 32 ≠ deviceId ∨ (b.drop 16).take 32 ≠ x.digest then 2
  else if st ≠ 1 ∧ st ≠ 2 then 3
  else if !classOk || key.isNone || (signer.isNone && kind != 3) || (x.first && kind == 1 && !service) then 4
  else if !Config.mldsaVerify (key.getD []) (b.take 128) ((b.drop 128).take 3309) then 5
  else if kind = 1 ∧ key.map Config.shake256 = signer.map Config.shake256 then 6
  else if x.expiry ≤ s.hAbs then 7
  else 0

/-- The token's check ends (R407, R408). [DESIGN CHOICE, log 17, unsafe] -/
def State.doTokenCheck (s : State) (service : Bool) : State :=
  match s.sec.tok with
  | none => s
  | some b =>
    let s1 := (({ s with sec := { s.sec with tok := none } }).set R.SEC_STAT_VERIFY_BUSY 0).set R.SEC_STAT_SERVICE_EN (if service then 1 else 0)
    let why := s1.tokenReason b service
    let k := leAt b 6 1
    if why ≠ 0 then ((s1.set R.SEC_STAT_TOK_REFUSE why).set R.SEC_EVT_TOK_REFUSED 1).secRefused
    else if leAt b 8 1 = 3 then s1.escFail k 6
    else
      let s2 := if leAt b 8 1 = 1 then (s1.setEsc k { s1.esc k with approved := true }).set (R.SEC_ESC_SIGNER_APPROVER k) (leAt b 7 1)
        else s1.set (R.SEC_ESC_STAT_COSIGNED k) 1
      if s2.get (R.SEC_ESC_STAT_STATE k) = 1 ∧ s2.escReady k (s2.slotLoosens k) ∧ !s2.faultHold then s2.escApprove k else s2

/-- TOKEN_CHECK_DONE (R408). -/
def execTokenCheckDone (u : Sub) (service : Bool) (s : State) : Host.Outcome State Fault Refusal := done s ((s.atH u).doTokenCheck service)

/-- A slot that has not committed at its expiry empties with EXPIRED (R408). -/
def State.doSlotExpiry (s : State) (k : Nat) : State :=
  let st := s.get (R.SEC_ESC_STAT_STATE k)
  if st ≠ 0 ∧ st ≠ 4 ∧ (s.esc k).expiry ≤ s.hAbs then s.escFail k 5 else s

/-- SLOT_EXPIRY (R408). -/
def execSlotExpiry (k : Fin 4) (s : State) : Host.Outcome State Fault Refusal := done s (s.doSlotExpiry k)

/-! ### What a commit writes (R411) -/

/-- A PL register takes the bits of MASK from VALUE, with what follows from it in its block. [DEDUCED, log 68, unsafe] -/
def State.plWrite (s : State) (a mask value : Nat) : State :=
  let new := mergeBits (s.rd a) (mask &&& (plMask a).toNat) value
  if a = R.STOR_PIN_DROP then (if new.getLsbD 31 && decide (new.toNat % 32 < s.store.pins.length) then s.pinDrop (new.toNat % 32) else s)
  else if a = R.AVAIL_CTRL then (if new.getLsbD 0 then s.availClear else s)
  else if 0x1400000 ≤ a ∧ a < 0x1500000 ∧ a % 0x1000 = 0x24 then
    let p := (a - 0x1400000) / 0x1000
    let s1 := s.put a (new.toNat / 65536 * 65536 + ilimClamp (s.role p) (new.toNat % 65536))
    if new.getLsbD 31 then s1 else s1.driverOff p
  else if 0x1E01000 ≤ a ∧ a < 0x1E02000 then
    let w := (a - 0x1E01000) / 0x40
    let was := s.is (R.GRD_W_CFG_EN w)
    let s1 := s.wr a new
    let s2 := if was && !s1.is (R.GRD_W_CFG_EN w) then s1.winStop w s1.fU else s1
    if a % 0x40 = 0x1C then s2 else s2.winApply w
  else s.wr a new

/-- The inactive customer bank takes an image and awaits its switch (R159). -/
def State.bankCommit (s : State) (ws : List Word) : State :=
  let b := 1 - s.get R.USTORE_STAT_CUST_BANK
  let l := ws.zipIdx.map (fun p => (p.2, p.1))
  let s1 := if b = 0 then { s with seq := { s.seq with bank0 := l } } else { s with seq := { s.seq with bank1 := l } }
  let s2 := s1.set R.USTORE_STAT_CUST_PENDING 1
  if s2.seqState = seqIdle ∨ s2.seqState = seqHalted then s2.doCustSwitch else s2

/-- The words of the customer bank after single microwords are written. -/
def State.bankWith (s : State) (l : List (Nat × Nat × Nat)) : List Word :=
  (List.range 16384).map (fun i =>
    l.foldl (fun w p => if p.1 = R.USTORE_CWORD i then mergeBits w p.2.1 p.2.2 else w) (s.custWord s.custBank (0xC000 + i)))

/-- Held writes of a slot apply in the field half (R409 step 3). -/
def State.heldApply (s : State) (h : HeldBuf) : State :=
  let micro := h.writes.filter (fun p => isCword p.1)
  let s1 := (h.writes.filter (fun p => !isCword p.1)).foldl (fun t p => t.plWrite p.1 p.2.1 p.2.2) s
  match h.image with
  | some ws => s1.bankCommit ws
  | none => if micro.isEmpty then s1 else s1.bankCommit (s1.bankWith micro)

/-! ### The checks immediately before the commit (R410) -/

/-- Result of the checks: 0 commit, 1 back to STAGED, 2 STALE, 3 UNPOWERED. -/
def State.escCheck (s : State) (k : Nat) : Nat :=
  let x := s.esc k
  let loose := s.slotLoosens k
  if loose && (!s.escReady k loose || s.faultHold) then 1
  else if x.base.any (fun b => b != 0) && x.base != s.digestAt R.SEC_PSET_DIGEST then 2
  else if x.ops.any (fun o => match o with
      | .write a _ _ => isFieldAddr a && !s.powered a
      | .image _ => !s.domOn (domF 1)
      | _ => false) then 3
  else 0

/-! ### The field half (R55, R409) -/

/-- Held writes of a slot. -/
def State.heldBuf (s : State) (k : Nat) : HeldBuf := s.link.held.getD k {}
/-- Replace them, and show their number. -/
def State.setHeld (s : State) (k : Nat) (h : HeldBuf) : State :=
  ({ s with link := { s.link with held := s.link.held.set k h } }).put (R.FCTL_ESC_HELD k)
    (h.writes.length + (if h.image.isSome then 2 ^ 31 else 0))

/-- A held write arrives from the island: it is held and answered OK. The mask is that of the operation which TAG names. [DESIGN CHOICE, log 66, safe] -/
def State.heldTake (s : State) (tag addr : Nat) (ws : List Word) : State :=
  let k := tag / 2048 % 4
  let h := s.heldBuf k
  let h0 := if h.writes.isEmpty && h.image.isNone then { h with prep := absTick s.time.fEra s.time.fTick } else h
  if 1024 ≤ tag % 2048 then s.setHeld k { h0 with image := some ((h0.image.getD []) ++ ws) }
  else match (s.esc k).ops[tag % 2048]? with
    | some (.write _ m v) => s.setHeld k { h0 with writes := h0.writes ++ [(addr, m, v)] }
    | _ => s

/-- FCTL_ESC_DONE is replaced: slot, commit tick, and whether the held writes applied. -/
def State.escDone (s : State) (k tick : Nat) (applied : Bool) : State :=
  (s.replaceResult R.FCTL_ESC_DONE_LO R.FCTL_ESC_DONE_GEN tick (k * 16 + (if applied then 8 else 0))).set R.FCTL_EVT_ESC_DONE 1

/-- The go of the island arrives: the held writes apply at the boundary that it names, or nothing does. -/
def State.goArrive (s : State) (k t64 : Nat) : State :=
  let c := (T64.unpack t64).tick
  let h := s.heldBuf k
  let at_ := absTick (eraOf s.time.fTick s.time.fEra c) c
  let now := absTick s.time.fEra s.time.fTick
  let passed := decide (at_ < now ∨ (at_ = now ∧ 0 < s.time.fUnit))
  if (h.writes.isEmpty && h.image.isNone) || passed then (s.setHeld k {}).escDone k c false
  else { s with link := { s.link with goAt := s.link.goAt.filter (fun p => p.1 != k) ++ [(k, at_)] } }

/-- The message is the island's go for a slot. -/
def isGo (k : Nat) (m : Msg) : Bool :=
  m.ty == 0x11 && leAt m.payload 4 4 == R.FCTL_ESC_GO && leAt m.payload 0 2 / 8192 == 7 && leAt m.payload 8 4 % 4 == k

/-- FCTL_ESC_GO (R409): the go that waits on the barrier arrives and is answered. [DESIGN CHOICE, log 21, unsafe] -/
def State.doEscGo (s : State) (k : Nat) : State :=
  if !s.linkUp then s
  else match s.link.outHF.find? (isGo k) with
    | some m =>
      let s1 := { s with link := { s.link with outHF := s.link.outHF.erase m, rxHF := s.link.rxHF.set m.vc ((m.seq + 1) % 2 ^ 16) } }
      (s1.goArrive k m.t64).sendRsp (leAt m.payload 0 2) 0 []
    | none => s

/-- FCTL_ESC_GO. -/
def execFctlEscGo (u : Sub) (k : Fin 4) (s : State) : Host.Outcome State Fault Refusal := done s ((s.atF u).doEscGo k)

/-- One slot applies: only a packet that passes the checks of R410. -/
def State.escApply1 (s : State) (p : Nat × Nat) : State :=
  let ok := s.escCheck p.1 == 0 && s.get (R.SEC_ESC_STAT_STATE p.1) == 3
  let h := s.heldBuf p.1
  let s1 := s.setHeld p.1 {}
  (if ok then s1.heldApply h else s1).escDone p.1 (p.2 % ticksPerEra) ok

/-- Slots by number. -/
def insertSlot (p : Nat × Nat) : List (Nat × Nat) → List (Nat × Nat)
  | [] => [p]
  | q :: r => if p.1 ≤ q.1 then p :: q :: r else q :: insertSlot p r

/-- ESC_APPLY (R409, R410): at the commit tick the held writes apply, in ascending slot order. -/
def State.doEscApply (s : State) : State :=
  let now := absTick s.time.fEra s.time.fTick
  let due := (s.link.goAt.filter (fun p => p.2 ≤ now)).foldr insertSlot []
  if s.time.fUnit = 0 ∧ !s.upd.holding then
    due.foldl State.escApply1 { s with link := { s.link with goAt := s.link.goAt.filter (fun p => !(p.2 ≤ now)) } }
  else s

/-- ESC_APPLY. -/
def execEscApply (s : State) : Host.Outcome State Fault Refusal := done s s.doEscApply

/-- Held writes without a go 64 ticks after their prepare are discarded (R409). [DESIGN CHOICE, log 67, unsafe] -/
def State.doHeldDiscard (s : State) (k : Nat) : State :=
  let h := s.heldBuf k
  if !(h.writes.isEmpty && h.image.isNone) && !s.link.goAt.any (fun p => p.1 == k) && decide (h.prep + 64 ≤ absTick s.time.fEra s.time.fTick) then
    (s.setHeld k {}).set R.FCTL_EVT_HELD_DISCARD 1
  else s

/-- HELD_WRITE_DISCARD. -/
def execHeldWriteDiscard (k : Fin 4) (s : State) : Host.Outcome State Fault Refusal := done s (s.doHeldDiscard k)

/-! ### The commit on the host half (R399, R410, R411) -/

/-- SEC_KEYS and PSET_NEW from the enrolled keys. -/
def State.showKeys (s : State) : State :=
  (s.put R.SEC_KEYS (s.sec.keys.foldl (fun m p => m ||| 2 ^ p.1) 0)).set R.SEC_STAT_PSET_NEW (if s.psetNew then 1 else 0)

/-- ROTATE_SEAL: a new Record Seal Key, certified by the Device Identity Key (R399). -/
def State.rotateSeal (s : State) : State :=
  let f := s.fresh (8 * 1952)
  let s1 := f.2
  let old := s1.sealCert
  let secs := if s1.is R.TIME_STAT_EPOCH_VALID then (s1.val64 R.TIME_EPOCH_LO + s1.time.hTick * 10000) / 1000000000 else 0
  let body := leBytes 2 2 ++ leBytes 1 0x11 ++ leBytes 1 0 ++ (List.range 4).flatMap (fun k => leBytes 4 (Config.serialWord k).toNat)
    ++ leBytes 8 secs ++ Config.shake256 (Config.publicKey 5) ++ leBytes 4 0 ++ leBytes 1952 f.1
  let cert := body ++ padTo 3309 (Config.mldsaSign 15 body)
  let s2 := { s1 with sec := { s1.sec with certs := ((cert :: s1.sec.certs)).take 4, rotations := s1.sec.rotations + 1 } }
  ((s2.mintAsk.mintDone).set R.SEC_EVT_SEAL_ROTATED 1).secEntry 0 [digestWord (Config.shake256 old), digestWord (Config.shake256 cert)]

/-- A host-half operation of a commit. -/
def State.opApply (s : State) (o : EscOp) : State :=
  match o with
  | .write a m v => if isFieldAddr a then s else s.plWrite a m v
  | .image _ => s
  | .enrol k b => ({ s with sec := { s.sec with keys := keysAfter s.sec.keys [.enrol k b] } }).showKeys
  | .revoke k => ({ s with sec := { s.sec with keys := keysAfter s.sec.keys [.revoke k] } }).showKeys
  | .rotate => s.rotateSeal

/-- The copy of the protection set that the island writes (R401). -/
def State.psetCopy (s : State) : PsetCopy :=
  { words := plAddrs.map (fun a => (a, s.rd a &&& plMask a)),
    bank := (List.range 16384).map (fun i => (i, s.custWord s.custBank (0xC000 + i))), keys := s.sec.keys }

/-- The commit applies on the host half, in the order of R411; `c` is its commit tick across eras. -/
def State.escCommit (s : State) (k c : Nat) : State :=
  let x := s.esc k
  let s1 := (x.ops.foldl State.opApply s).wrapCount64 R.SEC_PSET_SEQ_LO 1
  let s2 := s1.putDigest R.SEC_PSET_DIGEST (Config.shake256 s1.psetImage)
  let s3 := { s2 with sec := { s2.sec with copies := (s2.psetCopy :: s2.sec.copies).take 2 } }
  let appr := s3.get (R.SEC_ESC_SIGNER_APPROVER k)
  let seq := s3.val (R.SEC_ESC_SEQ_LO k)
  let s4 := (s3.escEnd k 1).set R.SEC_EVT_COMMITTED 1
  s4.ledgerH 0x05 0x80FF k (leBytes 4 seq ++ leBytes 4 (digestWord x.digest) ++ leBytes 4 x.signer ++ leBytes 4 appr
    ++ leBytes 8 (T64.mk (c % ticksPerEra) 0 0).pack ++ leBytes 4 (s4.hAbs - c))

/-- What the checks of R410 decide for a slot that does not commit. -/
def State.escTurned (s : State) (k why : Nat) : State :=
  if why = 1 then
    (s.set (R.SEC_ESC_STAT_STATE k) 1).set (R.SEC_ESC_STAT_LOOSENS k) 1
  else s.escFail k why

/-- One slot at a host tick boundary. [DESIGN CHOICE, log 67, unsafe] -/
def State.escBoundary (s : State) (k : Nat) : State :=
  let x := s.esc k
  let st := s.get (R.SEC_ESC_STAT_STATE k)
  if st = 2 ∧ !s.is (R.SEC_ESC_STAT_FIELD k) then
    if s.hAbs < x.commitAt then s
    else
      let why := s.escCheck k
      let s1 := s.put64 (R.SEC_ESC_COMMIT_LO k) (s.hAbs % ticksPerEra)
      if why = 0 then s1.escCommit k s1.hAbs else s1.escTurned k why
  else if st = 2 then s.escPrepare k
  else if st = 3 then
    if !x.goSent then
      if x.prepAt + 64 < s.hAbs then (s.set (R.SEC_ESC_STAT_STATE k) 2).escPrepare k else s
    else if s.hAbs < x.commit then s
    else if x.answered && s.hAbs == x.commit then
      let why := s.escCheck k
      if why = 0 then s.escCommit k x.commit else s.escTurned k why
    else match x.fieldDone with
      | some true => s.escCommit k x.commit
      | some false => s.escFail k 4
      | none =>
        if s.linkUp && !x.asked then
          (s.setEsc k { x with asked := true }).sendHF 0x10 1 s.hNow.pack
            (leBytes 2 (escTag k tagDone) ++ leBytes 2 3 ++ leBytes 4 R.FCTL_ESC_DONE_LO)
        else if s.linkUp then s else s.setEsc k { x with asked := false }
  else s

/-- ESCROW_COMMIT (R409–R411): slots in ascending order, at a host tick boundary while the island and the Mint work (R448). -/
def State.doEscrowCommit (s : State) : State :=
  if s.time.hUnit = 0 ∧ s.mintOk ∧ !s.upd.holding then (List.range 4).foldl State.escBoundary s else s

/-- ESCROW_COMMIT. -/
def execEscrowCommit (s : State) : Host.Outcome State Fault Refusal := done s s.doEscrowCommit

/-- SEC_CLR_STATS (R415). -/
def execSecClrStats (u : Sub) (s : State) : Host.Outcome State Fault Refusal :=
  done s ((s.atH u).ifOn R.SEC_CTRL (fun t => t.put R.SEC_REFUSALS 0))

end Sys2Proof.Machine
end

