-- ==== Sys2Proof/Machine/Image.lean ====
section
/-! DEFINITION. The configuration store's image slots (R416, R420–R424): the bytes of a slot, the records of an image, the checks of R422, and the
commands that erase, program and activate the inactive slot. -/

namespace Sys2Proof.Machine

/-! ### Flash: bytes are kept as their complements, so that what is erased is not listed -/

/-- `n` bytes of flash from an offset on. -/
def flashRead (m : List Host.Cell) (a n : Nat) : List Byte := (memRead m a n).map (fun b => b ^^^ 0xFF#8)
/-- Flash after bytes are programmed. [DESIGN CHOICE, log 75, unsafe] -/
def flashProg (m : List Host.Cell) (a : Nat) (bs : List Byte) : List Host.Cell := memWrite m a (bs.map (fun b => b ^^^ 0xFF#8))

/-- Bytes of an image slot (R416). -/
def slotSize : Nat := 6291456
/-- Bytes of a slot. -/
def State.imgSlot (s : State) (k : Nat) : List Host.Cell := if k = 0 then s.start.slot0 else s.start.slot1
/-- Replace a slot. -/
def State.setImgSlot (s : State) (k : Nat) (m : List Host.Cell) : State :=
  if k = 0 then { s with start := { s.start with slot0 := m } } else { s with start := { s.start with slot1 := m } }

/-! ### Records (R421) -/

/-- The kind of a record, and its fields. -/
def recKind (r : List Byte) : Nat := leAt r 0 1
def recTarget (r : List Byte) : Nat := leAt r 4 4
def recMask (r : List Byte) : Nat := leAt r 8 4
def recArg (r : List Byte) : Nat := leAt r 12 4

/-- Bytes of data behind a record's header: LEN padded to a multiple of 16. -/
def recData (kind len : Nat) : Nat := if kind = 3 ∨ kind = 4 then (len + 15) / 16 * 16 else 0

/-- A WRITE may not name PL bits, the SEC or UPD block, the SYS_IMG registers, SYS_MODE or a SAT counter. -/
def writeAllowed (a mask : Nat) : Bool :=
  (BitVec.ofNat 32 mask &&& plMask a) == 0#32 && !(0x80000 ≤ a && a ≤ 0x9FFFF) && !(0xB0000 ≤ a && a ≤ 0xBFFFF)
    && !((R.SYS_IMG_CTRL ≤ a && a < R.SYS_IMG_DIGEST 8) || (R.SYS_IMG_WORD 0 ≤ a && a < R.SYS_IMG_WORD 4096)) && a != R.SYS_MODE && !isSat a

/-- The record keeps the rules of its kind. -/
def recGood (r : List Byte) : Bool :=
  let t := recTarget r
  let x := recMask r
  let y := recArg r
  leAt r 1 3 == 0 && (match recKind r with
    | 1 => writeAllowed t x
    | 2 => t == 0 && y == 0
    | 3 => decide (t % 256 < 48) && decide ((t / 256) % 256 = 0) && decide (t / 2 ^ 29 = 0) && x % 32 == 0 && x != 0 && y == 0
    | 4 => x % 144 == 0 && x != 0 && y == 0
    | 5 => t == 0 && x == 0 && decide (y < 16)
    | 0xFF => t == 0 && x == 0 && y == 0
    | _ => false)

/-- The records of `b`, `n` of them: none when one breaks a rule, or when END is not the last. -/
def parseRecs : Nat → List Byte → Option (List (List Byte))
  | 0, b => if b.isEmpty then some [] else none
  | n + 1, b =>
    if b.length < 16 then none
    else
      let len := 16 + recData (recKind b) (recMask b)
      let r := b.take len
      if !recGood r || r.length ≠ len || (recKind r == 0xFF) != (n == 0) then none
      else (parseRecs n (b.drop len)).map (fun l => r :: l)

/-- The records of an image with exactly one MODE record (cause 2 of R422). -/
def imageRecs (b : List Byte) (n : Nat) : Option (List (List Byte)) :=
  match parseRecs n b with
  | some l => if (l.filter (fun r => recKind r == 5)).length = 1 then some l else none
  | none => none

/-! ### The checks (R420, R422) -/

/-- The header of the image in a slot. -/
def State.imgHeader (s : State) (k : Nat) : List Byte := flashRead (s.imgSlot k) 0 128
/-- Bytes of the records. -/
def imgLen (h : List Byte) : Nat := leAt h 16 4
/-- SEQ of an image. -/
def imgSeq (h : List Byte) : Nat := leAt h 8 8
/-- All bytes of the image in a slot. -/
def State.imgBytes (s : State) (k : Nat) : List Byte := flashRead (s.imgSlot k) 0 (128 + imgLen (s.imgHeader k) + 3309)

/-- The first cause of R422 that a slot fails for; 0 when it passes. [DEDUCED, log 78, unsafe] -/
def State.imgCause (s : State) (k : Nat) : Nat :=
  let h := s.imgHeader k
  let len := imgLen h
  if leAt h 0 4 ≠ 0x49434347 then 1
  else if leAt h 4 2 ≠ 1 ∨ leAt h 7 1 ≠ 0 ∨ slotSize < 128 + len + 3309 ∨ (h.drop 88).any (fun b => b != 0)
      ∨ imageRecs (flashRead (s.imgSlot k) 128 len) (leAt h 20 4) = none then 2
  else if (h.drop 24).take 32 ≠ deviceId then 3
  else
    let b := s.imgBytes k
    let key := if 15 < leAt h 6 1 then none else s.keyOf (leAt h 6 1)
    if !(key.any (fun p => Config.mldsaVerify p (b.take (128 + len)) (b.drop (128 + len)))) then 4
    else if ((h.drop 56).take 32).any (fun x => x != 0) && (h.drop 56).take 32 != s.digestAt R.SEC_PSET_DIGEST then 5
    else 0

/-! ### Writing a new image (R424) -/

/-- The slot that is not marked for the next start-up. -/
def State.imgSpare (s : State) : Nat := 1 - s.start.active

/-- ERASE, PROG and ACTIVATE have no effect while BUSY reads 1, and need H6 and H2. -/
def State.imgBusy (s : State) : Bool := s.is R.SYS_IMG_STAT_BUSY || !s.domOn (domH 6) || !s.domOn (domH 2)

/-- SYS_IMG_CTRL.ERASE. -/
def State.doImgErase (s : State) : State :=
  if s.imgBusy then s else ({ s with start := { s.start with imgOp := some (1, 0, []) } }).set R.SYS_IMG_STAT_BUSY 1

/-- IMG_ERASE (R424). -/
def execImgErase (u : Sub) (s : State) : Host.Outcome State Fault Refusal := done s ((s.atH u).ifOn R.SYS_IMG_CTRL State.doImgErase)

/-- SYS_IMG_CTRL.PROG: the window's words, as many as WORDS says. -/
def State.doImgProg (s : State) (words : Nat) : State :=
  let s1 := s.set R.SYS_IMG_CTRL_WORDS words
  if s1.imgBusy then s1
  else
    let ws := (List.range (min words 4096)).map (fun k => s1.rd (R.SYS_IMG_WORD k))
    ({ s1 with start := { s1.start with imgOp := some (2, s1.val R.SYS_IMG_OFS / 4 * 4, ws) } }).set R.SYS_IMG_STAT_BUSY 1

/-- IMG_PROG (R424). -/
def execImgProg (u : Sub) (words : Fin 8192) (s : State) : Host.Outcome State Fault Refusal :=
  done s ((s.atH u).ifOn R.SYS_IMG_CTRL (fun t => t.doImgProg words))

/-- The erase or program of the inactive slot completes. [DESIGN CHOICE, log 75, unsafe] -/
def State.doImgOpDone (s : State) : State :=
  match s.start.imgOp with
  | none => s
  | some (k, ofs, ws) =>
    let s1 := ({ s with start := { s.start with imgOp := none } }).set R.SYS_IMG_STAT_BUSY 0
    if k = 1 then s1.setImgSlot s1.imgSpare []
    else s1.setImgSlot s1.imgSpare
      (flashProg (s1.imgSlot s1.imgSpare) ofs ((ws.flatMap (fun w => leBytes 4 w.toNat)).take (slotSize - ofs)))

/-- IMG_ERASE_PROG_DONE (R424). -/
def execImgEraseProgDone (u : Sub) (s : State) : Host.Outcome State Fault Refusal := done s (s.atH u).doImgOpDone

/-- SYS_IMG_CTRL.ACTIVATE: the check of the inactive slot starts. -/
def State.doImgActivate (s : State) : State :=
  if s.imgBusy then s else ({ s with start := { s.start with imgCheck := true } }).set R.SYS_IMG_STAT_BUSY 1

/-- IMG_ACTIVATE (R424). -/
def execImgActivate (u : Sub) (s : State) : Host.Outcome State Fault Refusal := done s ((s.atH u).ifOn R.SYS_IMG_CTRL State.doImgActivate)

/-- Cause of refusal of the inactive slot: R422, or 6 for a SEQ not above that of the image in use. [DEDUCED, log 78, unsafe] -/
def State.imgRefusal (s : State) : Nat :=
  let c := s.imgCause s.imgSpare
  if c = 0 ∧ s.is R.SYS_STAT_IMG_LOADED ∧ imgSeq (s.imgHeader s.imgSpare) ≤ s.val64 R.SYS_IMG_SEQ_LO then 6 else c

/-- The check ends: the slot is marked active for the next start-up, with its digest and SEQ in the Ledger, or refused. -/
def State.doImgCheckDone (s : State) : State :=
  if s.start.imgCheck then
    let c := s.imgRefusal
    let s1 := (({ s with start := { s.start with imgCheck := false } }).set R.SYS_IMG_STAT_BUSY 0).set R.SYS_IMG_STAT_CAUSE c
    if c = 0 then
      let k := s1.imgSpare
      let s2 := ({ s1 with start := { s1.start with active := k } }).set R.SYS_IMG_STAT_ACTIVE_SLOT k
      (s2.set R.SYS_IMG_STAT_RESULT 1).ledgerH 0x00 0x80FF 0
        (leBytes 4 (digestWord (Config.shake256 (s2.imgBytes k))) ++ leBytes 4 (imgSeq (s2.imgHeader k)))
    else s1.set R.SYS_IMG_STAT_RESULT 2
  else s

/-- IMG_CHECK_DONE (R424). -/
def execImgCheckDone (u : Sub) (s : State) : Host.Outcome State Fault Refusal := done s (s.atH u).doImgCheckDone

end Sys2Proof.Machine
end

