-- ==== Sys2Proof/Machine/Modes.lean ====
section
/-! DEFINITION. The modes (R425, R429–R432): what a mode permits and needs, requests, the move at the plan boundary, and RECORDING. -/

namespace Sys2Proof.Machine

/-- SEC_MODE_PERMIT permits a mode; SEALED and SERVICE always (R403). -/
def State.modePermitted (s : State) (m : Nat) : Bool := decide (m < 2) || (s.rd R.SEC_MODE_PERMIT).getLsbD m

/-- Domains that a mode needs: those of the services that R429 permits in it (R428). SEALED and SERVICE need the minimum service set alone. [DEDUCED, log 70, unsafe] -/
def modeDomains (m : Nat) : List Nat :=
  if m < 2 then [0, domH 2, domH 4, domH 6]
  else [0, domH 2, domH 4, domH 6, domH 7, domF 1, domF 13, domF 11]
    ++ (if m = 2 then [domF 12] else []) ++ (if modeDrives m then [domF 2] else [])

/-- Every domain that a mode needs is on, with one of F3–F10 for the field services, and the link is up (reason 3 of R431). [DEDUCED, log 70, unsafe] -/
def State.modeServed (s : State) (m : Nat) : Bool :=
  decide (m < 2) || ((modeDomains m).all (fun d => s.domOn d) && (List.range 8).any (fun i => s.domOn (domF 3 + i)) && s.linkUp)

/-- A move that R430 permits. -/
def moveAllowed (old new : Nat) : Bool := old != 0 || new == 1

/-- The first reason of R431 for which a request is refused before the planner sees it; 0 none. -/
def State.modeReason (s : State) (m : Nat) : Nat :=
  if m < 8 ∧ !s.modePermitted m then 1
  else if 8 ≤ m ∨ !moveAllowed s.mode m then 2
  else if !s.modeServed m then 3
  else if s.start.moving.isSome ∨ s.upd.holding then 4
  else if s.faultHold ∧ m ≠ 0 then 5
  else 0

/-- A refusal. -/
def State.modeRefuse (s : State) (why : Nat) : State := (s.set R.SYS_STAT_MODE_REFUSE why).set R.SYS_EVT_MODE_REFUSED 1

/-- The move is admitted: it completes at this tick. -/
def State.modeAdmit (s : State) (m t : Nat) : State :=
  ({ s with start := { s.start with moving := some (m, t) } }).set R.SYS_STAT_MODE_PENDING 1

/-- A write of SYS_MODE.REQ (R431, R466). With the link down a move to SEALED or SERVICE waits for the next host tick boundary alone. -/
def State.doModeRequest (s : State) (m : Nat) : State :=
  let s0 := s.set R.SYS_MODE_REQ m
  let why := s0.modeReason m
  if why ≠ 0 then s0.modeRefuse why
  else if m < 2 ∧ !s0.linkUp then s0.modeAdmit m (s0.hAbs + 1)
  else
    let b := s0.boundaryAfter 4
    match (if m < 2 then none else s0.planCheck m) with
    | some r => (s0.planRefuse r).modeRefuse 6
    | none => (s0.planAdmit [.mode m] m).modeAdmit m (absTick b.2 b.1)

/-- MODE_REQUEST (R431). -/
def execModeRequest (u : Sub) (m : Idx16) (s : State) : Host.Outcome State Fault Refusal :=
  done s ((s.atH u).ifOn R.SYS_MODE (fun t => t.doModeRequest m))

/-- What the new mode does not permit stops (R148, R200, R257, R286, R315, R320, R429, R491). -/
def State.modeStops (s : State) (m : Nat) : State :=
  let s1 := if modeDrives m then s else (s.seqStop 0x03).genStopAll
  let s2 := if modeStreams m then s1 else s1.acqStop
  let s3 := if modeCompares m then s2 else s2.pairStopAll
  let s4 := if m = 2 then s3 else s3.calAbort 5
  let s5 := if m = 1 ∨ m = 2 then s4 else s4.ddacSet 0
  if m = 0 then s5.driversOff else s5

/-- The first reason of R432 for which the move is abandoned at its boundary; 0 none. -/
def State.moveReason (s : State) (m : Nat) : Nat :=
  if !s.modePermitted m then 1 else if !s.modeServed m then 3 else if s.faultHold ∧ m ≠ 0 then 5 else 0

/-- The move at its boundary (R431, R432): commits of the same boundary first. With the link down the field half goes on as it was until the first plan
after the link is up. [DESIGN CHOICE, log 21, unsafe] -/
def State.doModeChange (s : State) : State :=
  match s.start.moving with
  | some (m, t) =>
    if s.time.hUnit = 0 ∧ t ≤ s.hAbs then
      let s0 := s.doEscApply.doEscrowCommit
      let s1 := ({ s0 with start := { s0.start with moving := none } }).set R.SYS_STAT_MODE_PENDING 0
      let why := s1.moveReason m
      if why ≠ 0 then s1.modeRefuse why
      else
        let old := s1.mode
        let s2 := if s1.linkUp then s1.modeStops m else { s1 with start := { s1.start with stopsDue := true } }
        ((s2.set R.SYS_MODE_MODE m).set R.SYS_EVT_MODE_CHANGED 1).ledgerH 0x00 0x80FF 0
          (leBytes 4 old ++ leBytes 4 m ++ leBytes 8 s2.hNow.pack)
    else s
  | none => s

/-- SYS_CLR_STATS (R434). -/
def execSysClrStats (u : Sub) (s : State) : Host.Outcome State Fault Refusal :=
  done s ((s.atH u).ifOn R.SYS_CTRL (fun t => t.put R.SYS_SEALED_REJ 0))

/-- Clearing releases items into the record: its domains are on and the management core runs (R428, R441). [DEDUCED, log 28, unsafe] -/
def State.clearingRuns (s : State) : Bool :=
  [domH 2, domH 3, domH 4, domH 5, domH 6].all (fun d => s.domOn d) && !s.fault.mgmtDown

/-- The three conditions of RECORDING (R425). [DEDUCED, log 70, unsafe] -/
def State.recordsNow (s : State) : Bool :=
  s.is R.SYS_STAT_IMG_LOADED && s.mode == s.start.imgMode
    && (decide (s.get R.STOR_STAT_STATE = 3 ∨ s.get R.STOR_STAT_STATE = 4) || !s.is R.STOR_CTRL_EN) && s.clearingRuns

/-- RECORDING and FIELD_UP at a host tick boundary; SYS_READY takes the first rise, and the span of a module reset ends (R425, R450). [DEDUCED, log 70, unsafe] -/
def State.showRecording (s : State) : State :=
  let s0 := s.set R.SYS_STAT_FIELD_UP (if s.linkUp && s.is R.FCTL_STAT_FW_OK then 1 else 0)
  if s0.recordsNow then
    if s0.is R.SYS_STAT_RECORDING then s0
    else
      let s1 := (s0.set R.SYS_STAT_RECORDING 1).set R.SYS_EVT_RECORDING 1
      let s2 := { s1 with avail := { s1.avail with reset := s1.avail.reset.map (fun p => (p.1, min p.2 s1.hAbs)) } }
      if s2.is R.SYS_READY_GEN_VALID then s2 else s2.replaceResult R.SYS_READY_LO R.SYS_READY_GEN s2.hNow.pack
  else s0.set R.SYS_STAT_RECORDING 0

end Sys2Proof.Machine
end

