-- ==== Sys2Proof/Machine/Update.lean ====
section
/-! DEFINITION. The coordinated firmware update (R453–R468, R158): manifests and banks, staging and distribution, arming and CELL_SYNC, the switch, health,
commit and revert. -/

namespace Sys2Proof.Machine

/-! ### Banks and manifests (R453–R455) -/

/-- Bytes of a firmware bank. -/
def fwBankSize : Nat := 25165824
/-- A bank. -/
def State.fwBank (s : State) (k : Nat) : FwBank := if k = 0 then s.upd.bankA else s.upd.bankB
/-- Replace a bank. -/
def State.setFwBank (s : State) (k : Nat) (b : FwBank) : State :=
  if k = 0 then { s with upd := { s.upd with bankA := b } } else { s with upd := { s.upd with bankB := b } }
/-- Change the state of a bank. -/
def State.bankState (s : State) (k st : Nat) : State := s.setFwBank k { s.fwBank k with st := st }
/-- The bank that is ACTIVE, and the other. -/
def State.activeBank (s : State) : Nat := if s.upd.bankB.st = 3 then 1 else 0
def State.spareBank (s : State) : Nat := 1 - s.activeBank
/-- `n` bytes of a bank from an offset on. -/
def State.bankRead (s : State) (k a n : Nat) : List Byte :=
  if (s.fwBank k).factory then (List.range n).map (fun i => Config.factoryByte (a + i)) else flashRead (s.fwBank k).bytes a n

/-- Number of part entries that a manifest's header gives; a manifest has at most 16. -/
def manParts (b : List Byte) : Nat := min 16 (leAt b 6 2)
/-- Bytes of a manifest. -/
def manLen (b : List Byte) : Nat := 128 + 64 * manParts b + 3309
/-- The manifest in a bank. -/
def State.manifest (s : State) (k : Nat) : List Byte := s.bankRead k 0 (manLen (s.bankRead k 0 128))
/-- The part entries of a manifest. -/
def manEntries (b : List Byte) : List (List Byte) := (List.range (manParts b)).map (fun i => (b.drop (128 + 64 * i)).take 64)
/-- Code, length, version and digest of an entry. -/
def entCode (e : List Byte) : Nat := leAt e 0 4
def entLen (e : List Byte) : Nat := leAt e 4 4
def entVersion (e : List Byte) : Nat := leAt e 8 8
def entDigest (e : List Byte) : List Byte := (e.drop 16).take 32

/-- Each part with its offset in the bank: from the next 4 KiB boundary at or after 0x2000 on, in manifest order (R455). -/
def partOffsets : Nat → List (List Byte) → List (List Byte × Nat)
  | _, [] => []
  | a, e :: r => (e, (a + 4095) / 4096 * 4096) :: partOffsets ((a + 4095) / 4096 * 4096 + entLen e) r

/-- The parts of a bank. -/
def State.bankParts (s : State) (k : Nat) : List (List Byte × Nat) := partOffsets 0x2000 (manEntries (s.manifest k))
/-- The entry of a part code in a bank's manifest. -/
def State.bankEntry (s : State) (k code : Nat) : Option (List Byte) := (manEntries (s.manifest k)).find? (fun e => entCode e == code)

/-- The first cause of R457 for which a bank fails, 2–6; 1 when it passes. -/
def State.bankVerify (s : State) (k : Nat) : Nat :=
  let m := s.manifest k
  let parts := s.bankParts k
  let codes := (manEntries m).map entCode
  let signed := 128 + 64 * manParts m
  let variants := leAt m 24 1
  if !Config.mldsaVerify (Config.publicKey 2) (m.take signed) (m.drop signed) then 2
  else if parts.any (fun p => Config.shake256 (s.bankRead k p.2 (entLen p.1)) != entDigest p.1) then 3
  else if leAt m 8 8 ≤ s.val64 R.UPD_FLOOR_LO then 4
  else if !variants.testBit (if Config.variantM2 then 1 else 0) || decide (Config.hwRev.toNat < leAt m 25 1) then 5
  else if leAt m 0 4 ≠ 0x4D554347 ∨ leAt m 4 2 ≠ 1 ∨ leAt m 6 2 = 0 ∨ 16 < leAt m 6 2 ∨ !codes.contains 1 ∨ !codes.contains 2
      ∨ codes.eraseDups.length ≠ codes.length ∨ parts.any (fun p => decide (fwBankSize < p.2 + entLen p.1)) then 6
  else 1

/-! ### State and events (R466, R468) -/

/-- UPD_STAT.STATE. -/
def State.updState (s : State) : Nat := s.get R.UPD_STAT_STATE
def updIdle : Nat := 0
def updStaging : Nat := 1
def updStaged : Nat := 2
def updArmed : Nat := 3
def updActivating : Nat := 4
def updChecking : Nat := 5

/-- A transition of STATE appends a Ledger entry with the manifest digest. -/
def State.updMove (s : State) (st : Nat) : State :=
  if s.updState = st then s else (s.set R.UPD_STAT_STATE st).ledgerH 0x07 0x80FF 0 (leBytes 4 (s.val (R.UPD_DIGEST 0)))

/-- An event of the update unit: the bit of UPD_EVT, and the record with UPD_STAT. -/
def State.updEvt (s : State) (f : Fld) (code : Nat) : State :=
  (s.set f 1).hostEvent 0x07 code 0 s.hNow.pack (leBytes 4 (s.val R.UPD_STAT))

/-! ### Staging (R456) -/

/-- ERASE, PROG and VERIFY have no effect while BUSY reads 1 or an activation is armed or runs. -/
def State.updBusy (s : State) : Bool :=
  s.is R.UPD_STAT_BUSY || decide (updArmed ≤ s.updState) || s.upd.reverting || !s.domOn (domH 6)

/-- UPD_CTRL.ERASE: the bank that is not ACTIVE becomes EMPTY. [DEDUCED, log 76, unsafe] -/
def State.doUpdErase (s : State) : State :=
  if s.updBusy then s
  else
    let s1 := ({ s with upd := { s.upd with op := some (1, 0, []) } }).set R.UPD_STAT_BUSY 1
    ((s1.setFwBank s1.spareBank {}).updMove updStaging)

/-- UPD_ERASE. -/
def execUpdErase (u : Sub) (s : State) : Host.Outcome State Fault Refusal := done s ((s.atH u).ifOn R.UPD_CTRL State.doUpdErase)

/-- UPD_CTRL.PROG: the words of the window, as many as WORDS says. -/
def State.doUpdProg (s : State) (words : Nat) : State :=
  let s1 := s.set R.UPD_CTRL_WORDS words
  if s1.updBusy then s1
  else
    let ws := (List.range (min words 4096)).map (fun k => s1.rd (R.UPD_WORD k))
    ({ s1 with upd := { s1.upd with op := some (2, s1.val R.UPD_OFS / 4 * 4, ws) } }).set R.UPD_STAT_BUSY 1

/-- UPD_PROG. -/
def execUpdProg (u : Sub) (words : Fin 8192) (s : State) : Host.Outcome State Fault Refusal :=
  done s ((s.atH u).ifOn R.UPD_CTRL (fun t => t.doUpdProg words))

/-- The erase or program of the bank completes. [DESIGN CHOICE, log 75, unsafe] -/
def State.doUpdOpDone (s : State) : State :=
  match s.upd.op with
  | none => s
  | some (k, ofs, ws) =>
    let s1 := ({ s with upd := { s.upd with op := none } }).set R.UPD_STAT_BUSY 0
    let b := s1.fwBank s1.spareBank
    if k = 1 then s1
    else s1.setFwBank s1.spareBank
      { b with bytes := flashProg b.bytes ofs ((ws.flatMap (fun w => leBytes 4 w.toNat)).take (fwBankSize - ofs)) }

/-- UPD_ERASE_PROG_DONE (R456). -/
def execUpdEraseProgDone (u : Sub) (s : State) : Host.Outcome State Fault Refusal := done s (s.atH u).doUpdOpDone

/-! ### Verification and distribution (R48, R457) -/

/-- The chunks of a part as XM_FW payloads: header, and data padded with zeros to a multiple of 64 bytes. -/
def fwChunks (code : Nat) (b : List Byte) : List (List Byte) :=
  (List.range ((b.length + 65471) / 65472)).map (fun i =>
    let d := (b.drop (65472 * i)).take 65472
    leBytes 4 code ++ leBytes 4 (65472 * i) ++ leBytes 4 b.length ++ List.replicate 20 0
      ++ d ++ List.replicate ((64 - d.length % 64) % 64) 0)

/-- Send the manifest and the field parts of a bank to the field half (R417, R457). -/
def State.sendFw (s : State) (k : Nat) : State :=
  let field := (s.bankParts k).filter (fun p => 2 ≤ entCode p.1 && entCode p.1 ≤ 4)
  let msgs := fwChunks 0 (s.manifest k) ++ field.flatMap (fun p => fwChunks (entCode p.1) (s.bankRead k p.2 (entLen p.1)))
  msgs.foldl (fun t m => t.sendHF 0x72 7 t.hNow.pack m) s

/-- UPD_CTRL.VERIFY. [DEDUCED, log 76, unsafe] -/
def State.doUpdVerify (s : State) : State :=
  if s.updBusy then s
  else
    let k := s.spareBank
    let v := s.bankVerify k
    let s1 := s.set R.UPD_STAT_VRESULT v
    if v ≠ 1 then s1
    else
      let m := s1.manifest k
      let s2 := ((s1.bankState k 1).put64 R.UPD_SEQ_LO (leAt m 8 8)).putDigest R.UPD_DIGEST (Config.shake256 m)
      let s3 := (List.range 16).foldl (fun t q => t.setPod q { t.pod q with fwGot := 0, fwBad := false }) s2
      let s4 := (({ s3 with upd := { s3.upd with dist := true, rx := [] } }).set R.UPD_STAT_BUSY 1).updMove updStaging
      if s4.linkUp then s4.sendFw k else s4

/-- UPD_VERIFY. -/
def execUpdVerify (u : Sub) (s : State) : Host.Outcome State Fault Refusal := done s ((s.atH u).ifOn R.UPD_CTRL State.doUpdVerify)

/-- The part that the field half holds in its inactive bank. -/
def State.fwPart (s : State) (code : Nat) : Option FwPart := s.upd.rx.find? (fun p => p.code == code)
/-- A part has arrived whole. -/
def FwPart.whole (p : FwPart) : Bool := decide (p.total ≤ p.data.length)

/-- A chunk arrives: the field half writes it into the inactive bank. The first chunk of a manifest begins a new transfer. -/
def State.fwTake (s : State) (pl : List Byte) : State :=
  let code := leAt pl 0 4
  let ofs := leAt pl 4 4
  let total := leAt pl 8 4
  let rx := if code = 0 ∧ ofs = 0 then [] else s.upd.rx
  let old := ((rx.find? (fun p => p.code == code)).map FwPart.data).getD []
  let d := pl.drop 32
  let new := (((old ++ List.replicate (ofs - old.length) 0xFF#8).take ofs) ++ d ++ old.drop (ofs + d.length)).take total
  { s with upd := { s.upd with rx := rx.filter (fun p => p.code != code) ++ [{ code := code, total := total, data := new }] } }

/-- Entries of the field parts in the manifest that the field half holds. -/
def State.fwEntries (s : State) : List (List Byte) :=
  ((s.fwPart 0).map (fun p => (manEntries p.data).filter (fun e => 2 ≤ entCode e && entCode e ≤ 4))).getD []

/-- The manifest and every field part it names have crossed. -/
def State.fwWhole (s : State) : Bool :=
  (s.fwPart 0).any FwPart.whole && s.fwEntries.all (fun e => (s.fwPart (entCode e)).any FwPart.whole)
/-- A part agrees with the manifest. -/
def State.fwGood (s : State) (e : List Byte) : Bool :=
  (s.fwPart (entCode e)).any (fun p => p.total == entLen e && Config.shake256 p.data == entDigest e)

/-- The part for the pod in a slot, by its type. -/
def State.podPart (s : State) (k q : Nat) : Option (List Byte) :=
  match s.get (R.POD_S_STAT_TYPE q) with
  | 1 => s.bankEntry k 0x11
  | 2 => s.bankEntry k 0x12
  | _ => none
/-- A slot's pod is attached. -/
def State.podIn (s : State) (q : Nat) : Bool := s.get (R.POD_S_STAT_STATE q) == podAttached

/-- Distribution fails (VRESULT 7). -/
def State.stagingFail (s : State) : State :=
  (({ s with upd := { s.upd with dist := false } }).set R.UPD_STAT_VRESULT 7).set R.UPD_STAT_BUSY 0

/-- STAGING_COMPLETE (R457): every copy matches, or one has failed. -/
def State.doStagingComplete (s : State) : State :=
  if !s.upd.dist then s
  else
    let k := s.spareBank
    let slots := (List.range 16).filter (fun q => s.podIn q && (s.podPart k q).isSome)
    let podWhole (q : Nat) : Bool := (s.podPart k q).all (fun e => decide (entLen e ≤ (s.pod q).fwGot))
    if !s.linkUp || slots.any (fun q => (s.pod q).fwBad) then s.stagingFail
    else if !s.fwWhole || !slots.all podWhole then s
    else if !s.fwEntries.all s.fwGood then s.stagingFail
    else
      let s1 := (({ s with upd := { s.upd with dist := false } }).set R.UPD_STAT_BUSY 0).updMove updStaged
      s1.updEvt R.UPD_EVT_VERIFIED 1

/-- STAGING_COMPLETE. -/
def execStagingComplete (u : Sub) (s : State) : Host.Outcome State Fault Refusal := done s (s.atH u).doStagingComplete

/-! ### Arming (R458–R460) -/

/-- TAI now in nanoseconds, under the epoch in force. -/
def State.taiNow (s : State) : Nat := s.val64 R.TIME_EPOCH_LO + s.time.hTick * 10000 + s.time.hUnit * 10000 / unitsPerTick

/-- The tick at a TAI second, counted across eras: the one that holds its PPS edge, or under the epoch alone the first at or after it. -/
def State.tickAtSec (s : State) (sec : Nat) : Nat :=
  let ns := sec * 1000000000 - s.val64 R.TIME_EPOCH_LO
  s.era * ticksPerEra + (if s.is R.TIME_STAT_PPS_LOCK then ns / 10000 else ceilDiv ns 10000)

/-- UPD_CTRL.ARM. -/
def State.doUpdArm (s : State) (cell : Bool) : State :=
  let s0 := s.set R.UPD_CTRL_CELL_EN (if cell then 1 else 0)
  let sec := s0.val64 R.UPD_ACT_SEC_LO
  let ahead := decide (s0.taiNow + 10000000000 ≤ sec * 1000000000 ∧ sec * 1000000000 ≤ s0.taiNow + 86400000000000)
  if s0.updState = updStaged ∧ s0.is R.TIME_STAT_EPOCH_VALID ∧ ahead ∧ !s0.faultHold
      ∧ (!cell || (s0.is R.TIME_STAT_PPS_LOCK && s0.is R.TIME_STAT_TOD_OK)) then
    let a := s0.tickAtSec sec
    let s1 := { s0 with upd := { s0.upd with act := some (a, s0.tickAtSec (sec - 1), s0.tickAtSec (sec + s0.val R.UPD_CHECK)), failed := false } }
    let s2 := (s1.set R.UPD_STAT_HEALTH 0).replaceResult R.UPD_ACT_T64_LO R.UPD_ACT_T64_GEN (T64.mk (a % ticksPerEra) 0 0).pack
    (s2.updMove updArmed).updEvt R.UPD_EVT_ARMED 2
  else s0.set R.UPD_STAT_ARESULT 1

/-- UPD_ARM. -/
def execUpdArm (u : Sub) (cell : Bool) (s : State) : Host.Outcome State Fault Refusal :=
  done s ((s.atH u).ifOn R.UPD_CTRL (fun t => t.doUpdArm cell))

/-- UPD_CTRL.CANCEL: before the decision sample. -/
def State.doUpdCancel (s : State) : State :=
  if s.updState = updArmed ∧ !s.upd.holding then ({ s with upd := { s.upd with act := none } }).updMove updStaged else s

/-- UPD_CANCEL. -/
def execUpdCancel (u : Sub) (s : State) : Host.Outcome State Fault Refusal := done s ((s.atH u).ifOn R.UPD_CTRL State.doUpdCancel)

/-- Every staged copy still matches: the bank by its digests, the field half's copies, the pods'. -/
def State.copiesMatch (s : State) : Bool :=
  let k := s.spareBank
  Config.shake256 (s.manifest k) == s.digestAt R.UPD_DIGEST
    && (s.bankParts k).all (fun p => Config.shake256 (s.bankRead k p.2 (entLen p.1)) == entDigest p.1)
    && s.fwWhole && s.fwEntries.all s.fwGood

/-- The slots of UPD_POD_MASK. -/
def State.maskSlots (s : State) : List Nat := (List.range 16).filter (fun q => (s.rd R.UPD_POD_MASK).getLsbD q)

/-- An armed module is ready (R459). -/
def State.updReady (s : State) : Bool :=
  s.copiesMatch && !s.faultHold && s.linkUp && s.get R.MET_CAL_STAT_STATE == 0 && s.maskSlots.all s.podIn

/-- The module starts: start-up has not ended (R459). -/
def State.starting (s : State) : Bool := !s.start.power || !s.is R.SYS_STAT_BOOT_DONE

/-- The module pulls CELL_SYNC low (R459, R460, R464, R465). -/
def State.pullsLow (s : State) : Bool :=
  s.starting || (s.updState == updArmed && (s.upd.holding || !s.updReady)) || s.updState == updActivating
    || (s.updState == updChecking && (!s.is R.UPD_STAT_HEALTH || s.upd.reverting)) || s.upd.lost
    || s.upd.lowTo.any (fun t => s.hAbs ≤ t)

/-- DRIVING changes at cycle 0 of a tick; LINE is the level that results, `line` telling whether every other module releases CELL_SYNC. [DEDUCED, log 77, unsafe] -/
def State.showCellSync (s : State) (line : Bool) : State :=
  let d := s.pullsLow
  (s.set R.UPD_STAT_DRIVING (if d then 1 else 0)).set R.UPD_STAT_LINE (if line && !d then 1 else 0)

/-- Cycle 2,000 of a tick. -/
def midTick : Sub := ⟨2000 * 256, by decide⟩

/-- The level that the module samples: the line, or with CELL_EN 0 a condition of its own. [DEDUCED, log 77, unsafe] -/
def State.cellLevel (s : State) (line own : Bool) : Bool :=
  if s.is R.UPD_CTRL_CELL_EN then line && !s.is R.UPD_STAT_DRIVING else own

/-- DECISION_SAMPLE (R460). -/
def State.doDecision (s : State) (line : Bool) : State :=
  match s.upd.act with
  | some (_, d, _) =>
    if s.updState = updArmed ∧ !s.upd.holding ∧ d ≤ s.hAbs then
      let s0 := s.set R.UPD_STAT_LINE (if line && !s.is R.UPD_STAT_DRIVING then 1 else 0)
      if s0.cellLevel line s0.updReady then { s0 with upd := { s0.upd with holding := true } }
      else
        let s1 := ({ s0 with upd := { s0.upd with act := none } }).set R.UPD_STAT_ARESULT 2
        (s1.updMove updStaged).updEvt R.UPD_EVT_ABORTED 3
    else s
  | none => s

/-- DECISION_SAMPLE. -/
def execDecisionSample (line : Bool) (s : State) : Host.Outcome State Fault Refusal := done s ((s.atH midTick).doDecision line)

/-! ### The switch (R461) -/

/-- ACTIVATION: at A the bank becomes TRIAL and the host stage begins. -/
def State.doActivation (s : State) : State :=
  match s.upd.act with
  | some (a, _, _) =>
    if s.updState = updArmed ∧ s.upd.holding ∧ a ≤ s.hAbs ∧ s.time.hUnit = 0 then
      let s1 := (s.bankState s.spareBank 2).mgmtReset
      let s2 := { s1 with upd := { s1.upd with hostDone := false, fieldDone := false, failed := false, watch := true, raised := [], modeWas := s1.mode,
                                               recWas := s1.is R.SYS_STAT_RECORDING } }
      s2.updMove updActivating
    else s
  | none => s

/-- ACTIVATION. -/
def execActivation (s : State) : Host.Outcome State Fault Refusal := done s s.doActivation

/-- The management core runs again from the TRIAL bank, or on a revert from the old one. -/
def State.doHostStage (s : State) : State :=
  if (s.updState = updActivating ∨ s.upd.reverting) ∧ !s.upd.hostDone then
    let k := if s.upd.reverting then s.activeBank else s.spareBank
    let s1 := ({ s with upd := { s.upd with hostDone := true }, fault := { s.fault with mgmtDown := false } }).set R.SYS_BOOT_BANK k
    if s1.upd.reverting ∧ s1.upd.fieldDone then ({ s1 with upd := { s1.upd with reverting := false } }).updMove updStaged else s1
  else s

/-- HOST_STAGE_DONE (R461). -/
def execHostStageDone (u : Sub) (s : State) : Host.Outcome State Fault Refusal := done s (s.atH u).doHostStage

/-- What the sequencer and the pins have still to do moves behind the two ticks of drive hold that begin at `b` (R105, R461). [DEDUCED, log 48, unsafe] -/
def State.driveHold (s : State) (b : Nat) : State :=
  let d := 2 * unitsPerTick
  let q := s.seq
  let mv (t : Nat) : Nat := if b ≤ t then t + d else t
  let running := decide (b < q.endAt)
  let pins := q.pins.map (fun (p : Nat × PinRt) =>
    (p.1, { p.2 with wave := if running then p.2.wave.map (fun w => (if b ≤ q.lastStart + w.1 then w.1 + d else w.1, w.2)) else p.2.wave }))
  { s with
    seq := { q with endAt := if running then q.endAt + d else q.endAt, startAt := q.startAt.map mv,
                    pipe := q.pipe.map (fun i => { i with startAt := i.startAt.map mv }),
                    results := q.results.map (fun r => (mv r.1, r.2)), lastResult := q.lastResult.map (fun r => (mv r.1, r.2)), pins := pins }
    upd := { s.upd with holdTo := some (absTick s.time.fEra s.time.fTick + 2) } }

/-- The vendor region is loaded from its part: a digest that does not agree leaves it unusable (R158). -/
def State.vendorLoad (s : State) (e : List Byte) : State :=
  match s.fwPart 3 with
  | some p =>
    if Config.shake256 p.data = entDigest e then
      (({ s with upd := { s.upd with oldVendor := s.upd.vendor, vendor := some p.data } }).set R.USTORE_STAT_VEND_OK 1).put R.USTORE_VEND_VER
        (entVersion e)
    else ((s.set R.USTORE_STAT_VEND_OK 0).set R.USTORE_EVT_VEND_BAD 1).fieldFault 0x46 0
  | none => s

/-- The parts that run once the field half's banks have switched: those of the manifest, the old ones elsewhere. -/
def State.fwRunning (s : State) : List (Nat × List Byte) :=
  let new := s.fwEntries.map (fun e => (entCode e, entDigest e))
  new ++ s.upd.run.filter (fun p => !new.any (fun q => q.1 == p.1))

/-- The FW_COMMITs that the switch asks of the slots of UPD_POD_MASK, from a bank's manifest. -/
def State.maskCommits (s : State) (k : Nat) : List (Nat × List Byte) :=
  s.maskSlots.filterMap (fun q => (s.podPart k q).map (fun e => (q, entDigest e)))

/-- FIELD_STAGE (R461, R464): at a tick boundary after the host stage at which no CUSTOM routine runs the field parts switch together. -/
def State.doFieldStage (s : State) : State :=
  let inTime := s.upd.act.any (fun p => decide (s.hAbs ≤ p.1 + 100000)) || s.upd.reverting
  if s.upd.hostDone ∧ !s.upd.fieldDone ∧ s.time.fUnit = 0 ∧ !s.is R.SEQ_STAT_CUST_RUN ∧ s.linkUp ∧ inTime ∧ !s.upd.failed then
    let s1 := s.driveHold s.fTickU
    let s2 := s1.set R.FCTL_STAT_FW_BANK (1 - s1.get R.FCTL_STAT_FW_BANK)
    if s.upd.reverting then
      let s3 := if s2.upd.oldVendor = s2.upd.vendor then s2 else s2.set R.USTORE_STAT_VEND_OK 1
      { s3 with upd := { s3.upd with fieldDone := true, run := s3.upd.old, old := s3.upd.run, vendor := s3.upd.oldVendor,
                                     commits := s3.maskCommits s3.activeBank } }
    else
      let s3 := { s2 with upd := { s2.upd with fieldDone := true, old := s2.upd.run, run := s2.fwRunning, oldVendor := s2.upd.vendor,
                                               commits := s2.maskCommits s2.spareBank } }
      match s3.fwEntries.find? (fun e => entCode e == 3) with
      | some e => s3.vendorLoad e
      | none => s3
  else s

/-- FIELD_STAGE. -/
def execFieldStage (s : State) : Host.Outcome State Fault Refusal := done s s.doFieldStage

/-- The drive hold ends at b + 2, and with it the field stage (R461, R464); called at each field tick boundary. [DEDUCED, log 77, unsafe] -/
def State.fieldStageEnd (s : State) : State :=
  match s.upd.holdTo with
  | some t =>
    if t ≤ absTick s.time.fEra s.time.fTick then
      let s1 := { s with upd := { s.upd with holdTo := none, holding := false } }
      if s1.upd.reverting then ({ s1 with upd := { s1.upd with reverting := false } }).updMove updStaged
      else (s1.updMove updChecking).updEvt R.UPD_EVT_SWITCHED 4
    else s
  | none => s

/-- FIELD_STAGE_TIMEOUT (R461): no boundary b within 1 s of A, so health fails. -/
def State.doFieldTimeout (s : State) : State :=
  match s.upd.act with
  | some (a, _, _) =>
    if s.updState = updActivating ∧ !s.upd.fieldDone ∧ a + 100000 < s.hAbs then
      ({ s with upd := { s.upd with failed := true, holding := false } }).updMove updChecking
    else s
  | none => s

/-- FIELD_STAGE_TIMEOUT. -/
def execFieldStageTimeout (s : State) : Host.Outcome State Fault Refusal := done s s.doFieldTimeout

/-! ### Health, commit and revert (R462–R465) -/

/-- Sources whose raise since A fails health. -/
def healthSources : List Nat := [0x05, 0x14, 0x40, 0x43, 0x46, 0x47, 0x54]

/-- The conditions of health (R462). -/
def State.healthy (s : State) : Bool :=
  !s.upd.failed && s.upd.hostDone && s.upd.fieldDone && s.upd.commits.isEmpty && s.fwEntries.all (fun e => s.upd.run.contains (entCode e, entDigest e))
    && s.linkUp && s.mode == s.upd.modeWas && s.is R.SYS_STAT_RECORDING == s.upd.recWas && s.maskSlots.all s.podIn && !s.faultHold
    && !s.upd.raised.any (fun i => healthSources.contains i)

/-- HEALTH_PASS: health that has passed stays passed. -/
def State.doHealthPass (s : State) : State :=
  if s.updState = updChecking ∧ !s.upd.reverting ∧ s.healthy then s.set R.UPD_STAT_HEALTH 1 else s

/-- HEALTH_PASS. -/
def execHealthPass (s : State) : Host.Outcome State Fault Refusal := done s s.doHealthPass

/-- A revert is recorded: the TRIAL bank is STAGED again, REVERTED and source 0x1A. -/
def State.revertRecord (s : State) : State :=
  let s1 := (s.bankState s.spareBank 1).set R.UPD_STAT_ARESULT 4
  (s1.updEvt R.UPD_EVT_REVERTED 6).hostFault 0x1A 0

/-- A revert starts: its stages run back to the old parts, and CELL_SYNC stays low until the commit sample (R464). -/
def State.revert (s : State) : State :=
  let s1 := s.revertRecord
  let s2 := { s1 with upd := { s1.upd with reverting := true, hostDone := false, fieldDone := !s1.upd.fieldDone, watch := false, failed := false,
                                           lowTo := s1.upd.act.map (fun (p : Nat × Nat × Nat) => p.2.2), act := none } }
  s2.mgmtReset

/-- A Fatal raise in CHECKING starts the revert at once (R464). -/
def State.fatalRevert (s : State) : State :=
  if s.faultHold && s.updState == updChecking && !s.upd.reverting then s.revert else s

/-- COMMIT_SAMPLE (R463–R465). -/
def State.doCommitSample (s : State) (line : Bool) : State :=
  match s.upd.act with
  | some (_, _, c) =>
    if c ≤ s.hAbs ∧ s.upd.lost then ({ s with upd := { s.upd with lost := false, act := none } }).revertRecord
    else if s.updState = updChecking ∧ !s.upd.reverting ∧ c ≤ s.hAbs then
      let s0 := s.set R.UPD_STAT_LINE (if line && !s.is R.UPD_STAT_DRIVING then 1 else 0)
      if s0.cellLevel line (s0.is R.UPD_STAT_HEALTH) then
        let new := s0.spareBank
        let old := s0.activeBank
        let s1 := ((s0.bankState new 3).bankState old 4).put64 R.UPD_FLOOR_LO (s0.val64 R.UPD_SEQ_LO)
        let rest := (List.range 16).filter (fun q => !(s1.rd R.UPD_POD_MASK).getLsbD q)
        let owed := rest.filterMap (fun q => (s1.podPart new q).map (fun e => (q, entDigest e)))
        let s2 := { s1 with upd := { s1.upd with act := none, watch := false, commits := s1.upd.commits ++ owed } }
        ((s2.set R.UPD_STAT_ARESULT 3).updMove updIdle).updEvt R.UPD_EVT_COMMITTED 5
      else s0.revert
    else s
  | none => s

/-- COMMIT_SAMPLE. -/
def execCommitSample (line : Bool) (s : State) : Host.Outcome State Fault Refusal := done s ((s.atH midTick).doCommitSample line)

end Sys2Proof.Machine
end

