-- ==== Sys2Proof/Machine/Audit.lean ====
section
/-! DEFINITION. The audit report (R414). -/

namespace Sys2Proof.Machine

/-- The 48-byte entries of the ACTIVE parts; bit 0 says that the bank in use is the ACTIVE bank, verified at boot. -/
def State.reportParts (s : State) : List Byte :=
  let k := s.activeBank
  let ok := if s.get R.SYS_BOOT_BANK = k ∧ !s.is R.SYS_BOOT_RECOVERY then 1 else 0
  (manEntries (s.manifest k)).flatMap (fun e => leBytes 4 (entCode e) ++ leBytes 4 ok ++ leBytes 8 (entVersion e) ++ entDigest e)

/-- The 64-byte entry of a slot. -/
def State.reportSlot (s : State) (q : Nat) : List Byte :=
  let st := s.rd (R.POD_S_STAT q)
  leBytes 1 (s.get (R.POD_S_STAT_STATE q)) ++ leBytes 1 (s.get (R.POD_S_STAT_TYPE q))
    ++ leBytes 1 (fieldOf st 11 1 + 2 * fieldOf st 10 1 + 4 * fieldOf st 7 1) ++ leBytes 1 0
    ++ leBytes 4 (s.get (R.POD_S_INFO_FW_LEVEL q)) ++ padTo 32 (s.pod q).digest
    ++ (List.range 4).flatMap (fun k => leBytes 4 (s.val (R.POD_S_STRESS q k))) ++ leBytes 8 (s.val64 (R.POD_S_AUTH_LAST_LO q))

/-- An update is staged: the bank that is not ACTIVE is STAGED or TRIAL (R466). -/
def State.updShown (s : State) : Bool := decide ((s.fwBank s.spareBank).st = 1 ∨ (s.fwBank s.spareBank).st = 2)

/-- Bytes 0–2,431 of an audit report at this instant. -/
def State.reportBody (s : State) : List Byte :=
  let bit (b : Bool) (n : Nat) : Nat := if b then 2 ^ n else 0
  let valid := s.is R.TIME_STAT_EPOCH_VALID
  let parts := s.reportParts
  let newest := s.store.seals.headD []
  leBytes 4 0x52414347 ++ leBytes 2 1 ++ leBytes 2 s.era ++ leBytes 8 s.hNow.pack
    ++ leBytes 8 (if valid then s.val64 R.TIME_EPOCH_LO else 0) ++ s.digestAt R.SEC_NONCE ++ deviceId
    ++ (List.range 4).flatMap (fun k => leBytes 4 (Config.serialWord k).toNat)
    ++ leBytes 1 s.mode
    ++ leBytes 1 (bit s.faultHold 0 + bit valid 1 + bit s.psetNew 2 + bit (s.is R.SEC_STAT_SERVICE_EN) 3 + bit s.updShown 4)
    ++ leBytes 2 (parts.length / 48) ++ leBytes 4 0 ++ padTo 768 parts
    ++ s.digestAt R.SYS_IMG_DIGEST ++ s.digestAt R.SEC_PSET_DIGEST ++ leBytes 8 (s.val64 R.SEC_PSET_SEQ_LO)
    ++ (List.range 4).flatMap (fun k => leBytes 1 (s.get (R.SEC_ESC_STAT_STATE k))) ++ leBytes 4 0
    ++ (List.range 16).flatMap s.reportSlot
    ++ leBytes 4 (s.val R.MET_BANK_ID) ++ leBytes 4 (s.val R.MET_CAL_COUNT) ++ leBytes 8 (s.val64 R.MET_CAL_LAST_LO)
    ++ leBytes 4 (s.get R.MET_CAL_STAT_DUE_CAUSE) ++ leBytes 4 (s.val R.MET_BANK_TEMP)
    ++ (List.range 8).flatMap (fun k => padTo 32 (((s.met.store.find? (fun p => p.1 == k)).map (fun p => (p.2.drop 64).take 32)).getD []))
    ++ leBytes 8 (leAt newest 8 8) ++ (if newest.isEmpty then List.replicate 32 0 else Config.shake256 (newest.take 3565))
    ++ leBytes 8 (leAt newest 48 8) ++ padTo 32 ((newest.drop 56).take 32)
    ++ leBytes 8 (s.val64 R.LDG_NEXT_LO) ++ s.ledger.head ++ Config.shake256 s.sealCert ++ List.replicate 16 0

/-- A write of 1 to AR_GO: the report is taken at this instant and waits for its signature. [DEDUCED, log 69, unsafe] -/
def State.doArGo (s : State) : State :=
  if s.is R.SEC_STAT_AR_BUSY then s
  else
    let s1 := { s with sec := { s.sec with report := s.reportBody } }
    (s1.set R.SEC_STAT_AR_BUSY 1).mintAsk

/-- AR_GO (R414). -/
def execArGo (u : Sub) (s : State) : Host.Outcome State Fault Refusal := done s ((s.atH u).ifOn R.SEC_CTRL State.doArGo)

/-- The Device Identity Key has signed the report: it appears in the window, and the Ledger takes the nonce's digest. [DEDUCED, log 69, unsafe] -/
def State.doReportReady (s : State) : State :=
  if s.is R.SEC_STAT_AR_BUSY ∧ s.mintOk then
    let nonce := (s.sec.report.drop 24).take 32
    let s1 := { s with sec := { s.sec with report := s.sec.report ++ padTo 3309 (Config.mldsaSign 15 s.sec.report) } }
    (((s1.mintDone).set R.SEC_STAT_AR_BUSY 0).set R.SEC_EVT_AR_DONE 1).secEntry 0 [digestWord (Config.shake256 nonce)]
  else s

/-- AUDIT_REPORT_READY (R414). -/
def execAuditReportReady (u : Sub) (s : State) : Host.Outcome State Fault Refusal := done s (s.atH u).doReportReady

end Sys2Proof.Machine
end

