-- ==== Sys2Proof/Machine/Clearing.lean ====
section
/-! DEFINITION. Clearing (R79–R83, R91): the order of release, the release point and its horizon, the squeeze, the late entries. -/

namespace Sys2Proof.Machine

/-- Lexicographic order of keys. -/
def keyBefore : List Nat → List Nat → Bool
  | [], _ => false
  | _, [] => false
  | a :: r, b :: t => decide (a < b) || (a == b && keyBefore r t)

/-- The key of an item (R79): era, T64, class, instance, source, arrival order. -/
def Item.key (i : Item) : List Nat := [i.era, i.t64, i.cls, i.inst, i.src, i.arr]

/-- Insert an item into a list ordered by key. -/
def insertItem (i : Item) : List Item → List Item
  | [] => [i]
  | x :: r => if keyBefore i.key x.key then i :: x :: r else x :: insertItem i r

/-- The items in order of their keys. -/
def sortItems (l : List Item) : List Item := l.foldr insertItem []

/-- The tick of an item, across eras. -/
def Item.abs (i : Item) : Nat := absTick i.era (T64.unpack i.t64).tick

/-- The release point as a tick across eras (R80). -/
def State.relAbs (s : State) : Nat := absTick s.clr.relEra s.clr.relTick

/-- Capacity of the staging area: 256 MiB. -/
def stagingSize : Nat := 268435456

/-- Bytes that the staging area holds. -/
def State.stagingFill (s : State) : Nat := (s.clr.staged.map (fun i => i.bytes.length)).foldl (· + ·) 0

/-- The late items enter their stream in order of arrival (R83). -/
def State.releaseLates (s : State) : State :=
  s.clr.late.reverse.foldl (fun t (x : Nat × Nat × Item) => t.releaseLate x.1 x.2.1 x.2.2) { s with clr := { s.clr with late := [] } }

/-- The release point moves to a tick; every item stamped before it is released in order (R79, R80). -/
def State.releaseTo (s : State) (t : Nat) : State :=
  let s1 := { s with clr := { s.clr with relTick := t % ticksPerEra, relEra := t / ticksPerEra,
                                         staged := s.clr.staged.filter (fun i => !decide (i.abs < t)) } }
  let s2 := (s1.put64 R.CLR_RELEASE_LO (T64.mk (t % ticksPerEra) 0 0).pack).set R.CLR_STAT_EFF_HORIZON (min 127 (s1.hAbs - t))
  let due := sortItems (s.clr.staged.filter (fun i => decide (i.abs < t)))
  (due.foldl (fun v i => (v.wrapCount64 R.CLR_ITEMS_LO 1).releaseItem i) s2).releaseLates

/-- The release point by the horizon; it never moves back (R80, R81). -/
def State.relNormal (s : State) : Nat := max s.relAbs (s.hAbs - s.clr.horizon)

/-- A squeeze episode begins when the staging area is full (R82, source 0x0A). [DEDUCED, log 28, unsafe] -/
def State.squeezeStart (s : State) : State :=
  if !s.clr.squeeze && decide (stagingSize ≤ s.stagingFill) then
    let s1 := ({ s with clr := { s.clr with squeeze := true } }).set R.CLR_EVT_SQUEEZE 1
    ((s1.satCount R.CLR_SQUEEZE_COUNT 32 1 R.CLR_EVT_SATURATED).1).hostFault 0x0A 0
  else s

/-- Clearing at a host tick boundary (R80, R82): while a squeeze lasts the release point moves one tick more. [DEDUCED, log 28, unsafe] -/
def State.clearTick (s : State) : State :=
  if s.clearingRuns then
    let s1 := s.squeezeStart
    let t := if s1.clr.squeeze then min s1.hAbs (max s1.relNormal (s1.relAbs + 1) + 1) else s1.relNormal
    let s2 := s1.releaseTo t
    if s2.clr.squeeze && decide (s2.stagingFill * 4 < stagingSize * 3) then { s2 with clr := { s2.clr with squeeze := false } } else s2
  else s

/-- A horizon as it is stored: 2–64 (R81). -/
def horizonClamp (v : Nat) : Nat := clampN 2 64 v

/-- HORIZON_CHANGE (R81): the written horizon takes effect at a host tick boundary; a lower one releases at once. -/
def State.doHorizonChange (s : State) : State :=
  let h := horizonClamp (s.get R.CLR_CTRL_HORIZON)
  if s.time.hUnit = 0 ∧ h ≠ s.clr.horizon ∧ s.powered R.CLR_CTRL then
    let s1 := { s with clr := { s.clr with horizon := h } }
    if s1.clearingRuns then s1.releaseTo s1.relNormal else s1
  else s

/-- HORIZON_CHANGE. -/
def execHorizonChange (s : State) : Host.Outcome State Fault Refusal := done s s.doHorizonChange

/-- CLR_CTRL_CLR_STATS (R91). -/
def execClrCtrlClrStats (u : Sub) (s : State) : Host.Outcome State Fault Refusal :=
  done s ((s.atH u).ifOn R.CLR_CTRL (fun t => t.putAll [R.CLR_LATE_COUNT, R.CLR_LATE_MAX, R.CLR_SQUEEZE_COUNT] 0))

end Sys2Proof.Machine
end

