-- ==== Sys2Proof/Machine/Micro.lean ====
section
/-! DEFINITION. The micro-sequencer (R157–R172): the micro-ops of a customer routine, stalls, the restart record and the service-class requests. -/

namespace Sys2Proof.Machine

/-- A microword (R161). -/
structure MicroWord where
  mop : Nat
  d : Nat
  a : Nat
  x : Nat
  imm : Nat
  deriving DecidableEq, Repr

/-- The fields of a microword. -/
def parseMicro (w : Word) : MicroWord :=
  { mop := fieldOf w 26 6, d := fieldOf w 22 4, a := fieldOf w 18 4, x := fieldOf w 16 2, imm := fieldOf w 0 16 }

/-- The microword at the micro-program counter, from the active customer bank. -/
def State.microNow (s : State) : MicroWord := parseMicro (s.custWord (s.get R.USTORE_STAT_CUST_BANK) s.seq.mpc)

/-- A micro-register: U0 reads 0. -/
def State.ureg (s : State) (k : Nat) : Nat := if k = 0 then 0 else s.val (R.SEQ_UREG k)

/-- Write a micro-register: a write to U0 is discarded. -/
def State.setUreg (s : State) (k v : Nat) : State := if k = 0 then s else s.put (R.SEQ_UREG k) v

/-- A customer routine runs and its next micro-op may be executed. -/
def State.microRuns (s : State) : Bool :=
  s.is R.SEQ_STAT_CUST_RUN && s.seqState == seqRunning && s.seq.ending.isNone

/-- A micro-fault (R166): the routine stops, the restart record is abandoned, source 0x43 is raised, and the sequencer halts. -/
def State.microFault (s : State) (cause : Nat) : State :=
  let s1 := (((s.set R.USTORE_MFAULT_CAUSE cause).set R.USTORE_MFAULT_MPC s.seq.mpc).set R.USTORE_EVT_MFAULT 1).set R.SEQ_STAT_RSTR_STATE 2
  let q := { s1.seq with micro := [], stalled := false, next := s1.val64 R.SEQ_VADDR_LO }
  (((s1.setSeq q).set R.SEQ_STAT_CUST_RUN 0).fieldFault 0x43 cause).seqEnd seqHalted cause

/-- Go on at a microword; below 0xC000 or past 0xFFFF it is a customer privilege fault (R164). -/
def State.microGo (s : State) (a : Nat) : State :=
  if a < 0xC000 ∨ 0xFFFF < a then s.microFault 0x0B else s.setSeq { s.seq with mpc := a }

/-- Go on at the next microword. -/
def State.microStep (s : State) : State := s.microGo (s.seq.mpc + 1)

/-- Execute the micro-op at the micro-program counter when it has code `c` and is not stalled. -/
def State.micro (s : State) (c : Nat) (f : State → MicroWord → State) : State :=
  if s.microRuns ∧ !s.seq.stalled ∧ s.microNow.mop = c then f s s.microNow else s

/-- Sign extension of the immediate to 32 bits. -/
def sext16 (v : Nat) : Nat := if v < 0x8000 then v else v + 0xFFFF0000

/-- Operand B of ADD to SHR (R161). -/
def State.opB (s : State) (w : MicroWord) : Nat := if w.x % 2 = 1 then s.ureg (w.imm % 16) else sext16 w.imm

/-- A micro-op that writes D with a function of A and B. -/
def State.arith (s : State) (w : MicroWord) (f : Nat → Nat → Nat) : State :=
  (s.setUreg w.d (f (s.ureg w.a) (s.opB w) % 2 ^ 32)).microStep

/-- NOP. -/
def execUNop (u : Sub) (s : State) : Host.Outcome State Fault Refusal := done s ((s.atSeq u).micro 0x00 (fun t _ => t.microStep))
/-- LDI. -/
def execULdi (u : Sub) (s : State) : Host.Outcome State Fault Refusal :=
  done s ((s.atSeq u).micro 0x01 (fun t w => (t.setUreg w.d w.imm).microStep))
/-- LDH. -/
def execULdh (u : Sub) (s : State) : Host.Outcome State Fault Refusal :=
  done s ((s.atSeq u).micro 0x02 (fun t w => (t.setUreg w.d (t.ureg w.d % 65536 + 65536 * w.imm)).microStep))
/-- ADD. -/
def execUAdd (u : Sub) (s : State) : Host.Outcome State Fault Refusal := done s ((s.atSeq u).micro 0x03 (fun t w => t.arith w (fun a b => a + b)))
/-- SUB. -/
def execUSub (u : Sub) (s : State) : Host.Outcome State Fault Refusal :=
  done s ((s.atSeq u).micro 0x04 (fun t w => t.arith w (fun a b => a + 2 ^ 32 - b)))
/-- AND. -/
def execUAnd (u : Sub) (s : State) : Host.Outcome State Fault Refusal := done s ((s.atSeq u).micro 0x05 (fun t w => t.arith w Nat.land))
/-- OR. -/
def execUOr (u : Sub) (s : State) : Host.Outcome State Fault Refusal := done s ((s.atSeq u).micro 0x06 (fun t w => t.arith w Nat.lor))
/-- XOR. -/
def execUXor (u : Sub) (s : State) : Host.Outcome State Fault Refusal := done s ((s.atSeq u).micro 0x07 (fun t w => t.arith w Nat.xor))
/-- SHL. -/
def execUShl (u : Sub) (s : State) : Host.Outcome State Fault Refusal :=
  done s ((s.atSeq u).micro 0x08 (fun t w => t.arith w (fun a b => a * 2 ^ (b % 32))))
/-- SHR. -/
def execUShr (u : Sub) (s : State) : Host.Outcome State Fault Refusal :=
  done s ((s.atSeq u).micro 0x09 (fun t w => t.arith w (fun a b => a / 2 ^ (b % 32))))

/-- The special sources of RDS (R163); any other reads 0. -/
def State.special (s : State) (k : Nat) : Nat :=
  let v := s.seq.cur.getD ⟨0, 0, 0, 0, 0, 0⟩
  let a := s.val64 R.SEQ_VADDR_LO
  if k = 0x00 then v.opa
  else if k = 0x01 then v.opb
  else if k = 0x02 then v.opc % 2 ^ 32
  else if k = 0x03 then v.opc / 2 ^ 32
  else if k = 0x04 then a % 2 ^ 32
  else if k = 0x05 then a / 2 ^ 32 % 256
  else if k = 0x06 then (s.topLoop.map LoopFrame.rem).getD 0
  else if k = 0x07 then s.loopIdx
  else if k = 0x08 then s.seq.loops.length + 2 ^ 8 * s.seq.calls.length + 2 ^ 16 * s.seq.micro.length
  else if k = 0x09 then s.time.fUnit / 256
  else if k = 0x0A then s.val R.SEQ_FLAGS
  else if k = 0x0B then v.tset % 64
  else if k = 0x0C then s.seq.issued
  else 0

/-- RDS. -/
def execURds (u : Sub) (s : State) : Host.Outcome State Fault Refusal :=
  done s ((s.atSeq u).micro 0x0A (fun t w => (t.setUreg w.d (t.special (w.imm % 256))).microStep))

/-- Whether BR is taken (R162). -/
def brTaken (x a : Nat) : Bool :=
  match x with
  | 0 => true
  | 1 => a == 0
  | 2 => a != 0
  | _ => decide (2 ^ 31 ≤ a)

/-- BR. -/
def execUBr (u : Sub) (s : State) : Host.Outcome State Fault Refusal :=
  done s ((s.atSeq u).micro 0x0B (fun t w => if brTaken w.x (t.ureg w.a) then t.microGo w.imm else t.microStep))

/-- MCALL: a ninth entry is a micro-fault (R165). -/
def State.doMcall (s : State) (w : MicroWord) : State :=
  if 8 ≤ s.seq.micro.length then s.microFault 0x0C
  else if w.imm < 0xC000 then s.microFault 0x0B
  else (s.setSeq { s.seq with micro := s.seq.micro ++ [(s.seq.mpc + 1) % 65536] }).microGo w.imm

/-- MCALL. -/
def execUMcall (u : Sub) (s : State) : Host.Outcome State Fault Refusal := done s ((s.atSeq u).micro 0x0C (fun t w => t.doMcall w))

/-- MRET: a pop of the empty stack is a micro-fault (R165). -/
def State.doMret (s : State) : State :=
  match s.seq.micro.getLast? with
  | none => s.microFault 0x0C
  | some a => if a < 0xC000 then s.microFault 0x0B else (s.setSeq { s.seq with micro := s.seq.micro.dropLast }).microGo a

/-- MRET. -/
def execUMret (u : Sub) (s : State) : Host.Outcome State Fault Refusal := done s ((s.atSeq u).micro 0x0D (fun t _ => t.doMret))

/-- Characters with the patches applied (R162). -/
def patched (chars : Nat) (ps : List (Nat × Nat)) : Nat :=
  ps.foldl (fun c p => c - charOf c p.1 * 2 ^ (4 * p.1) + p.2 % 16 * 2 ^ (4 * p.1)) chars

/-- Every issued instance has ended. -/
def State.drained (s : State) : Bool := s.seq.pipe.isEmpty && decide (s.seq.endAt ≤ s.fU)

/-- The condition for which a micro-op that stalls waits (R162). -/
def State.stallOver (s : State) (w : MicroWord) : Bool :=
  if w.mop = 0x0E then s.windowOpen
  else if w.mop = 0x10 then s.seq.pipe.isEmpty && (match s.seq.lastResult with | some r => decide (r.1 ≤ s.fU) | none => true)
  else s.drained

/-- ISSUE: one instance of the current vector, patched and with its timing set as X says. -/
def State.microIssue (s : State) (w : MicroWord) : State :=
  let v := s.seq.cur.getD ⟨0, 0, 0, 0, 0, 0⟩
  let i := s.plainInst v
  (s.issue { i with chars := if w.x % 2 = 1 then patched v.chars s.seq.patches else v.chars,
                    tset := if 2 ≤ w.x then s.ureg w.a % 64 else v.tset % 64 }).microStep

/-- CMPW: whether the latest issued instance passes; with none issued since START a free value. -/
def State.microCmpw (s : State) (w : MicroWord) : State :=
  match s.seq.lastResult with
  | some r => (s.setUreg w.d (if r.2 then 1 else 0)).microStep
  | none => let f := s.fresh 1; (f.2.setUreg w.d f.1).microStep

/-- HLT: the routine ends with cause 0x80 + IMM[6:0]. -/
def State.microHlt (s : State) (w : MicroWord) : State :=
  let q := { s.seq with micro := [], patches := [] }
  (((s.setSeq q).set R.SEQ_STAT_CUST_RUN 0).set R.SEQ_STAT_RSTR_STATE 0).seqEnd seqHalted (0x80 + w.imm % 128)

/-- What a micro-op that can stall does once it need not wait. -/
def State.runStallOp (s : State) (w : MicroWord) : State :=
  if w.mop = 0x0E then s.microIssue w
  else if w.mop = 0x10 then s.microCmpw w
  else if w.mop = 0x12 then s.microStep
  else if w.mop = 0x1D then s.microHlt w
  else s

/-- A micro-op that can stall runs at once or stalls (R160). -/
def State.mayStall (s : State) (w : MicroWord) : State :=
  if s.stallOver w then s.runStallOp w else s.setSeq { s.seq with stalled := true }

/-- ISSUE. -/
def execUIssue (u : Sub) (s : State) : Host.Outcome State Fault Refusal := done s ((s.atSeq u).micro 0x0E (fun t w => t.mayStall w))

/-- PATCH. -/
def State.microPatch (s : State) (w : MicroWord) : State :=
  let p := s.ureg w.a % 256
  let ps := if w.x = 0 then s.seq.patches.filter (fun y => y.1 != p) ++ [(p, w.imm % 16)] else if w.x = 1 then [] else s.seq.patches
  (s.setSeq { s.seq with patches := ps }).microStep

/-- PATCH. -/
def execUPatch (u : Sub) (s : State) : Host.Outcome State Fault Refusal := done s ((s.atSeq u).micro 0x0F (fun t w => t.microPatch w))
/-- CMPW. -/
def execUCmpw (u : Sub) (s : State) : Host.Outcome State Fault Refusal := done s ((s.atSeq u).micro 0x10 (fun t w => t.mayStall w))

/-- Output levels of the 16 combiners (R243). -/
def State.combOutputs (s : State) : Nat :=
  ((List.range 16).map (fun c => if (s.comb c).lastFire.isSome && decide (s.fU / 256 < (s.comb c).levelUntil) then 2 ^ c else 0)).foldl (· + ·) 0

/-- TRIG. -/
def execUTrig (u : Sub) (s : State) : Host.Outcome State Fault Refusal :=
  done s ((s.atSeq u).micro 0x11 (fun t w => (t.setUreg w.d t.combOutputs).microStep))
/-- DRAIN. -/
def execUDrain (u : Sub) (s : State) : Host.Outcome State Fault Refusal := done s ((s.atSeq u).micro 0x12 (fun t w => t.mayStall w))

/-- LPUSH. -/
def State.microLpush (s : State) (w : MicroWord) : State :=
  if 16 ≤ s.seq.loops.length then s.stackError 0x04
  else (s.setSeq { s.seq with loops := s.seq.loops ++ [{ addr := s.val64 R.SEQ_VADDR_LO, rem := s.ureg w.a, idx := 0 }] }).microStep

/-- LPUSH. -/
def execULpush (u : Sub) (s : State) : Host.Outcome State Fault Refusal := done s ((s.atSeq u).micro 0x13 (fun t w => t.microLpush w))

/-- LEND: the loop decision sets NEXT. -/
def State.microLend (s : State) : State :=
  match s.topLoop with
  | none => s.stackError 0x05
  | some f => (s.loopDecide f).microStep

/-- LEND. -/
def execULend (u : Sub) (s : State) : Host.Outcome State Fault Refusal := done s ((s.atSeq u).micro 0x14 (fun t _ => t.microLend))

/-- CPUSH: the successor of the instruction. -/
def State.microCpush (s : State) : State :=
  if 16 ≤ s.seq.calls.length then s.stackError 0x06
  else (s.setSeq { s.seq with calls := s.seq.calls ++ [succAddr (s.val64 R.SEQ_VADDR_LO)] }).microStep

/-- CPUSH. -/
def execUCpush (u : Sub) (s : State) : Host.Outcome State Fault Refusal := done s ((s.atSeq u).micro 0x15 (fun t _ => t.microCpush))

/-- CPOP: NEXT is the address popped. -/
def State.microCpop (s : State) : State :=
  match s.seq.calls.getLast? with
  | none => s.stackError 0x07
  | some a => ((s.setSeq { s.seq with calls := s.seq.calls.dropLast }).goTo a).microStep

/-- CPOP. -/
def execUCpop (u : Sub) (s : State) : Host.Outcome State Fault Refusal := done s ((s.atSeq u).micro 0x16 (fun t _ => t.microCpop))

/-- SETNX. -/
def State.microSetnx (s : State) (w : MicroWord) : State :=
  let a := s.val64 R.SEQ_VADDR_LO
  let v := s.seq.cur.getD ⟨0, 0, 0, 0, 0, 0⟩
  let t := if w.x = 0 then s.goTo (succAddr a) else if w.x = 1 then s.goTo v.opc
    else if w.x = 2 then s.goTo (codeOf 40 (a + signedOf 32 (s.ureg w.a))) else s
  t.microStep

/-- SETNX. -/
def execUSetnx (u : Sub) (s : State) : Host.Outcome State Fault Refusal := done s ((s.atSeq u).micro 0x17 (fun t w => t.microSetnx w))

/-- FLAG: at the start of the next issued instance (R162). -/
def State.microFlag (s : State) (w : MicroWord) : State :=
  let fs := w.imm % 256
  let fc := w.imm / 256
  let q := s.seq
  (s.setSeq { q with pendSet := Nat.land q.pendSet (255 - fc) ||| fs, pendClr := q.pendClr ||| fc, effSet := q.effSet ||| fs,
                     effClr := q.effClr ||| fc }).microStep

/-- MOP_FLAG. -/
def execUFlag (u : Sub) (s : State) : Host.Outcome State Fault Refusal := done s ((s.atSeq u).micro 0x18 (fun t w => t.microFlag w))

/-- GSTEP. -/
def State.microGstep (s : State) : State :=
  let v := s.seq.cur.getD ⟨0, 0, 0, 0, 0, 0⟩
  (s.setSeq { s.seq with pendStep := s.seq.pendStep ||| (v.opc % 2 ^ 48), effStep := true }).microStep

/-- GSTEP. -/
def execUGstep (u : Sub) (s : State) : Host.Outcome State Fault Refusal := done s ((s.atSeq u).micro 0x19 (fun t _ => t.microGstep))

/-- EVT (R173). -/
def State.microEvt (s : State) (w : MicroWord) : State :=
  let s1 := s.fieldEvent 0x11 (0x200 + w.imm % 256) 0 s.fNow.pack (leBytes 4 (s.ureg w.a) ++ leBytes 5 (s.val64 R.SEQ_VADDR_LO))
  (s1.setSeq { s1.seq with effEvents := min 255 (s1.seq.effEvents + 1) }).microStep

/-- EVT. -/
def execUEvt (u : Sub) (s : State) : Host.Outcome State Fault Refusal := done s ((s.atSeq u).micro 0x1A (fun t w => t.microEvt w))

/-! ### The restart record and service-class requests (R167–R171) -/

/-- Start of the last issued instance. -/
def State.lastIssuedStart (s : State) : Nat :=
  (s.seq.pipe.foldl (fun (a : Nat × Nat) i =>
    let t := instStart a.1 i
    (t + i.reps * s.periodAt i.tset t, t + (i.reps - 1) * s.periodAt i.tset t)) (s.seq.endAt, s.seq.lastStart)).2

/-- The 128 bytes of the restart record (R169). -/
def State.restartBytes (s : State) (mpc point : Nat) : List Byte :=
  let q := s.seq
  leBytes 2 mpc ++ leBytes 1 1 ++ leBytes 1 point ++ leBytes 4 q.commits ++ leBytes 8 s.fNow.pack ++ leBytes 5 (s.val64 R.SEQ_VADDR_LO) ++ leBytes 3 0
    ++ ((q.micro.map (fun a => leBytes 2 a)).flatten ++ List.replicate 16 0).take 16 ++ leBytes 4 q.issued
    ++ leBytes 4 (q.effSet + 2 ^ 8 * q.effClr + (if q.effStep then 2 ^ 16 else 0) + 2 ^ 24 * q.effEvents)
    ++ leBytes 8 (t64At s.lastIssuedStart) ++ leBytes 8 0 ++ ((List.range 15).map (fun k => leBytes 4 (s.ureg (k + 1)))).flatten ++ leBytes 4 0

/-- Commit the restart record (R169). -/
def State.commitRestart (s : State) (mpc point : Nat) : State :=
  let s1 := s.setSeq { s.seq with commits := (s.seq.commits + 1) % 2 ^ 32 }
  let b := s1.restartBytes mpc point
  ((List.range 32).foldl (fun t k => t.put (R.SEQ_RSTR k) (leAt b (4 * k) 4)) s1).set R.SEQ_STAT_RSTR_STATE 1

/-- The vendor microword at an address: from the part loaded last, else from the factory's (R158). -/
def State.vendorMicro (s : State) (a : Nat) : Word :=
  match s.upd.vendor with
  | some b => BitVec.ofNat 32 (leAt b (4 * a) 4)
  | none => Config.vendorWord a

/-- The word of the control store at an address (R157). [DESIGN CHOICE, log 5, unsafe] -/
def State.ustoreWord (s : State) (a : Nat) : Word :=
  if a < 0xC000 then s.vendorMicro a else s.custWord (s.get R.USTORE_STAT_CUST_BANK) a

/-- Serve one service-class request (R167, R170). -/
def State.serve (s : State) (r : SvcReq) : State :=
  match r with
  | .uregRead _ tag k n => s.sendRsp tag 0 ((List.range n).map (fun i => BitVec.ofNat 32 (s.ureg (k + i))))
  | .uregWrite _ tag k ws =>
    ((List.range ws.length).foldl (fun t i => t.setUreg (k + i) (ws.getD i 0).toNat) s).sendRsp tag 0 []
  | .ustoreRead _ tag a n => s.sendRsp tag 0 ((List.range n).map (fun i => s.ustoreWord (a + i)))
  | .blockReset =>
    let s1 := ((s.set R.USTORE_MFAULT_CAUSE 0x11).set R.USTORE_MFAULT_MPC s.seq.mpc).set R.USTORE_EVT_MFAULT 1
    s1.seqBlockReset.set R.SEQ_STAT_RSTR_STATE 2
  | .linkHold =>
    if (s.seqState = seqRunning ∨ s.seqState = seqPaused) ∧ s.seq.ending.all (fun e => e.1 != seqHalted) then
      ((s.setSeq { s.seq with stalled := false }).set R.SEQ_STAT_CUST_RUN 0).seqEnd seqHalted 0x10
    else s

/-- Every waiting request is taken, first in first out, and the longest wait is noted. -/
def State.serveAll (s : State) : State :=
  let l := s.seq.svc
  let wait := maxOf (fun r => (s.fU - r.1) / 256) l
  let s1 := ((s.setSeq { s.seq with svc := [] }).set R.SEQ_STAT_SVC_PENDING 0).put R.USTORE_SVC_MAX (max (s.val R.USTORE_SVC_MAX) wait)
  l.foldl (fun t r => t.serve r.2) s1

/-- SAFE (R168, R169): commits the restart record and takes pending requests. -/
def State.microSafe (s : State) : State :=
  let s1 := s.commitRestart (s.seq.mpc + 1) 0
  let s2 := s1.microStep
  if s2.seq.svc.isEmpty then s2 else s2.serveAll

/-- SAFE. -/
def execUSafe (u : Sub) (s : State) : Host.Outcome State Fault Refusal := done s ((s.atSeq u).micro 0x1B (fun t _ => t.microSafe))

/-- END (R162, R165): the instruction ends, patches and micro-stack are empty, and a step ends with it. -/
def State.microEnd (s : State) : State :=
  let q := s.seq
  let s1 := ((s.setSeq { q with patches := [], micro := [] }).set R.SEQ_STAT_CUST_RUN 0).set R.SEQ_STAT_RSTR_STATE 0
  if q.stepping then (s1.setSeq { s1.seq with stepping := false }).seqEnd seqPaused 0 else s1

/-- END. -/
def execUEnd (u : Sub) (s : State) : Host.Outcome State Fault Refusal := done s ((s.atSeq u).micro 0x1C (fun t _ => t.microEnd))
/-- HLT. -/
def execUHlt (u : Sub) (s : State) : Host.Outcome State Fault Refusal := done s ((s.atSeq u).micro 0x1D (fun t w => t.mayStall w))

/-- A code that is not in the table (R162). -/
def State.doIllegalMicro (s : State) : State :=
  if s.microRuns ∧ !s.seq.stalled ∧ 0x1E ≤ s.microNow.mop then s.microFault 0x0A else s

/-- ILLEGAL_MICRO_OP. -/
def execIllegalMicroOp (u : Sub) (s : State) : Host.Outcome State Fault Refusal := done s (s.atSeq u).doIllegalMicro

/-- A stalled micro-op goes on once its condition is met (R160). -/
def State.doStallRelease (s : State) : State :=
  if s.microRuns ∧ s.seq.stalled ∧ s.stallOver s.microNow then (s.setSeq { s.seq with stalled := false }).runStallOp s.microNow else s

/-- STALL_RELEASE. -/
def execStallRelease (u : Sub) (s : State) : Host.Outcome State Fault Refusal := done s (s.atSeq u).doStallRelease

/-- A pending service-class request is taken outside a routine, or at a stall, which commits a restart record naming the stalled
micro-op (R168). -/
def State.doServiceTaken (s : State) : State :=
  if s.seq.svc.isEmpty then s
  else if !s.is R.SEQ_STAT_CUST_RUN then s.serveAll
  else if s.seq.stalled then (s.commitRestart s.seq.mpc 1).serveAll
  else s

/-- SERVICE_REQUEST_TAKEN. -/
def execServiceRequestTaken (u : Sub) (s : State) : Host.Outcome State Fault Refusal := done s (s.atSeq u).doServiceTaken

/-- A request has waited SAFE_WDOG cycles (R171): the routine is abandoned, and the request is then served. [DESIGN CHOICE, log 47, unsafe] -/
def State.doSvcOverdue (s : State) : State :=
  if s.is R.SEQ_STAT_CUST_RUN ∧ s.seq.svc.any (fun r => decide (r.1 + s.val R.USTORE_SAFE_WDOG * 256 ≤ s.fU)) then
    let s1 := ((s.satCount R.USTORE_OVERDUE 32 1 R.USTORE_EVT_SATURATED).1.set R.SEQ_EVT_SVC_OVERDUE 1).microFault 0x0D
    s1.serveAll
  else s

/-- SVC_OVERDUE. -/
def execSvcOverdue (u : Sub) (s : State) : Host.Outcome State Fault Refusal := done s (s.atSeq u).doSvcOverdue

/-- A write of 1 to USTORE_CTRL.CLR_STATS (R175). -/
def State.doUstoreClrStats (s : State) : State := s.ifOn R.USTORE_CTRL (fun s => s.putAll [R.USTORE_OVERDUE, R.USTORE_SVC_MAX] 0)

/-- USTORE_CLR_STATS. -/
def execUstoreClrStats (s : State) : Host.Outcome State Fault Refusal := done s s.doUstoreClrStats

end Sys2Proof.Machine
end

