-- ==== Sys2Proof/Machine/Time.lean ====
section
/-! DEFINITION. The tick keeper (R56–R78): clock sources, beacons and the field half's step, the tick mark, the era wrap, the epoch, PPS and time of day,
tick overruns and XM_HEALTH. -/

namespace Sys2Proof.Machine

/-! ### Clock sources (R56–R59) -/

/-- A write of TIME_CTRL.SRC: a change goes to the on-module oscillator until the PLL locks to the selected source (R57, R59). [DESIGN CHOICE, log 24, unsafe] -/
def State.doClockSelect (s : State) (src : Nat) : State :=
  if s.get R.TIME_CTRL_SRC = src then s
  else (s.set R.TIME_CTRL_SRC src).setAll [R.TIME_STAT_SRC_ACTIVE, R.TIME_STAT_PLL_LOCK, R.TIME_STAT_HOLDOVER] 0

/-- CLOCK_SOURCE_SELECT (R59). -/
def execClockSourceSelect (u : Sub) (src : Fin 4) (s : State) : Host.Outcome State Fault Refusal :=
  done s ((s.atH u).ifOn R.TIME_CTRL (fun t => t.doClockSelect src))

/-- The PLL runs on the selected source from now on. -/
def State.pllOn (s : State) : State :=
  (((s.set R.TIME_STAT_SRC_ACTIVE (s.get R.TIME_CTRL_SRC)).set R.TIME_STAT_PLL_LOCK 1).set R.TIME_STAT_HOLDOVER 0).set R.TIME_EVT_REF_LOCK 1

/-- PLL_LOCK (R57). [DESIGN CHOICE, log 24, unsafe] -/
def State.doPllLock (s : State) : State :=
  if s.get R.TIME_CTRL_SRC ≠ 0 ∧ !s.is R.TIME_STAT_PLL_LOCK ∧ !s.is R.TIME_STAT_HOLDOVER then s.pllOn else s

/-- PLL_LOCK. -/
def execPllLock (u : Sub) (s : State) : Host.Outcome State Fault Refusal := done s ((s.atH u).ifOn R.TIME_CTRL State.doPllLock)

/-- REF_LOST (R58, source 0x04). -/
def State.doRefLost (s : State) : State :=
  if s.get R.TIME_CTRL_SRC ≠ 0 ∧ !s.is R.TIME_STAT_HOLDOVER then
    (((s.setAll [R.TIME_STAT_SRC_ACTIVE, R.TIME_STAT_PLL_LOCK] 0).set R.TIME_STAT_HOLDOVER 1).set R.TIME_EVT_REF_LOST 1).hostFault 0x04 0
  else s

/-- REF_LOST. -/
def execRefLost (u : Sub) (s : State) : Host.Outcome State Fault Refusal := done s ((s.atH u).ifOn R.TIME_CTRL State.doRefLost)

/-- HOLDOVER_RETURN (R59). -/
def State.doHoldoverReturn (s : State) : State := if s.is R.TIME_STAT_HOLDOVER then s.pllOn else s

/-- HOLDOVER_RETURN. -/
def execHoldoverReturn (u : Sub) (s : State) : Host.Outcome State Fault Refusal := done s ((s.atH u).ifOn R.TIME_CTRL State.doHoldoverReturn)

/-! ### Beacons (R42, R44, R60) -/

/-- The 32-byte XM_TIME payload (R42). -/
def timePayload (kind era epoch path : Nat) : List Byte :=
  leBytes 2 kind ++ leBytes 2 era ++ leBytes 4 0 ++ leBytes 8 epoch ++ leBytes 8 path ++ leBytes 8 0

/-- The 64-byte XM_HEALTH payload (R44). [DESIGN CHOICE, log 23, unsafe] -/
def healthPayload (plan status drops dropLast gaps lanes fill overruns : Nat) : List Byte :=
  leBytes 4 plan ++ leBytes 4 status ++ leBytes 4 drops ++ leBytes 4 dropLast ++ leBytes 4 gaps ++ leBytes 4 lanes ++ leBytes 8 fill
    ++ leBytes 8 overruns ++ List.replicate 24 0

/-- Lanes good and in use of a direction, as XM_HEALTH gives them. -/
def lanesWord (good used : Nat) : Nat := good + used * 65536

/-- HOST_BEACON_SEND: every 100 ticks a host beacon and the host half's XM_HEALTH (R44, R60). -/
def State.doHostBeacon (s : State) : State :=
  if s.time.hUnit = 0 ∧ s.time.hTick % 100 = 0 ∧ s.linkUp then
    let s1 := s.sendHF 0x01 0 s.hNow.pack (timePayload 2 s.era (s.val64 R.TIME_EPOCH_LO) (s.val R.TIME_PATH))
    s1.sendHF 0x03 0 s.hNow.pack
      (healthPayload (s.val R.TIME_PLAN_ID) 0 (s.val R.ISO_HDROP) s.link.hDropLast (s.val R.ISO_SEQ_GAP)
        (lanesWord (s.get R.ISO_LANES_GOOD_FH) (s.get R.ISO_LANES_USED_FH)) 0 0)
  else s

/-- HOST_BEACON_SEND. -/
def execHostBeaconSend (s : State) : Host.Outcome State Fault Refusal := done s s.doHostBeacon

/-- Set the field half's time to a count of units across eras. -/
def State.setFieldTime (s : State) (u : Nat) : State :=
  { s with time := { s.time with fTick := u / unitsPerTick % ticksPerEra, fUnit := u % unitsPerTick, fEra := u / unitsPerTick / ticksPerEra } }

/-- FIELD_ALIGNED on both halves. -/
def State.showAligned (s : State) (b : Bool) : State :=
  let v := if b then 1 else 0
  (s.set R.TIME_STAT_FIELD_ALIGNED v).set R.FCTL_STAT_ALIGNED v

/-- A host beacon reaches the field half (R60): the first after a training loads tick, era and epoch; a later one shows the deviation, which is
corrected at the next tick boundary when it exceeds 64 units. [DESIGN CHOICE, log 23, unsafe] -/
def State.hostBeaconArrive (s : State) (m : Msg) : State :=
  let era := leAt m.payload 2 2
  let host := (T64.unpack m.t64).units + era * ticksPerEra * unitsPerTick + leAt m.payload 16 8
  let s1 := { s with time := { s.time with fEpoch := leAt m.payload 8 8 } }
  if s.time.fAwaitLoad then
    let s2 := s1.setFieldTime host
    ({ s2 with time := { s2.time with fAwaitLoad := false, fAligned := true, fStep := 0 } }.put R.TIME_FIELD_OFS 0).showAligned true
  else
    let ofs : Int := (s.fU : Int) - (host : Nat)
    let s2 := s1.put R.TIME_FIELD_OFS (codeOf 32 ofs)
    if -64 ≤ ofs ∧ ofs ≤ 64 then ({ s2 with time := { s2.time with fAligned := true } }).showAligned true
    else ({ s2 with time := { s2.time with fStep := -ofs } }).showAligned false

/-- FIELD_STEP (R60): at a field tick boundary the pending step is made, with TIME_EVT.FIELD_STEP and its Ledger entry. [DESIGN CHOICE, log 23, unsafe] -/
def State.doFieldStep (s : State) : State :=
  if s.time.fStep ≠ 0 ∧ s.time.fUnit = 0 then
    let step := s.time.fStep
    let s1 := ({ s with time := { s.time with fStep := 0 } }).setFieldTime ((s.fU : Int) + step).toNat
    (s1.set R.TIME_EVT_FIELD_STEP 1).ledgerF 0x01 0x8004 0 (leBytes 4 (codeOf 32 step))
  else s

/-- FIELD_STEP. -/
def execFieldStep (s : State) : Host.Outcome State Fault Refusal := done s s.doFieldStep

/-! ### Overruns and health (R44, R62, R66–R68) -/

/-- Cycle 3,968 of a tick. -/
def healthSub : Sub := ⟨3968 * 256, by decide⟩

/-- HEALTH_COMPOSE (R44, R62, R438): at cycle 3,968 the field half sends the events of the tick's fault raises and its XM_HEALTH. -/
def State.doHealthCompose (s : State) : State :=
  if s.time.fUnit < 3968 * 256 then
    let s1 := (s.atF healthSub).sendFieldFaults
    let status := (if s1.time.overran then 1 else 0) + (if s1.plan.late then 2 else 0)
      + (if floatSize * 3 < s1.floatFill * 4 then 4 else 0) + (if s1.link.hold.isSome then 8 else 0)
    let s2 := s1.sendFH 0x03 0 s1.fNow.pack
      (healthPayload s1.plan.fieldId status s1.link.fDrop s1.link.fDropLast s1.link.fSeqGap
        (lanesWord (s1.get R.ISO_LANES_GOOD_HF) (s1.get R.ISO_LANES_USED_HF)) s1.floatFill s1.time.overruns)
    { s2 with plan := { s2.plan with late := false } }
  else s

/-- HEALTH_COMPOSE. -/
def execHealthCompose (s : State) : Host.Outcome State Fault Refusal := done s (s.ifOn R.FCTL_STAT State.doHealthCompose)

/-- TICK_OVERRUN (R66, R68): the overrun check at a field tick boundary finds work of the tick before; it continues first, its messages carry DEFER. -/
def State.doTickOverrun (s : State) : State :=
  if s.time.fUnit = 0 ∧ !s.time.overran then
    let streak := s.time.streak + 1
    let s1 := { s with time := { s.time with overran := true, deferring := true, overruns := (s.time.overruns + 1) % 2 ^ 64, streak := streak } }
    let s2 := ((s1.satCount R.TIME_OVERRUN 32 1 R.TIME_EVT_SATURATED).1.satCount R.TIME_OVR_STREAK 32 1 R.TIME_EVT_SATURATED).1
    let s3 := ((s2.replaceResult R.TIME_OVR_LAST_LO R.TIME_OVR_LAST_GEN s2.fNow.pack).set R.TIME_EVT_OVERRUN 1).fieldFault 0x41 0
    if 16 ≤ streak ∧ !s.time.streakRaised then
      (({ s3 with time := { s3.time with streakRaised := true } }).set R.TIME_EVT_OVERRUN_STREAK 1).fieldFault 0x42 0
    else s3
  else s

/-- TICK_OVERRUN. -/
def execTickOverrun (s : State) : Host.Outcome State Fault Refusal := done s (s.ifOn R.FCTL_STAT State.doTickOverrun)

/-- A field tick begins: a tick without an overrun ends the streak (R68). -/
def State.overrunNext (s : State) : State :=
  if s.time.overran then { s with time := { s.time with overran := false, deferring := false } }
  else ({ s with time := { s.time with streak := 0, streakRaised := false } }).put R.TIME_OVR_STREAK 0

/-- TIME_CLR_STATS (R90). -/
def execTimeClrStats (u : Sub) (s : State) : Host.Outcome State Fault Refusal :=
  done s ((s.atH u).ifOn R.TIME_CTRL (fun t => t.put R.TIME_OVERRUN 0))

/-! ### The count (R70–R73) -/

/-- TICK_MARK_WRITE (R73). -/
def State.doTickMark (s : State) : State :=
  if s.time.hUnit = 0 ∧ s.time.hTick % 100000 = 0 then { s with time := { s.time with markTick := s.time.hTick, markEra := s.era } } else s

/-- TICK_MARK_WRITE. -/
def execTickMarkWrite (s : State) : Host.Outcome State Fault Refusal := done s (s.ifOn R.TIME_CTRL State.doTickMark)

/-- Nanoseconds of an era: 2^44 ticks of 10,000 ns. -/
def eraNs : Nat := 175921860444160000

/-- The host half's tick counter wraps (R70, R71): Clearing closes the open blocks and asks for a seal; TIME_ERA and TIME_EPOCH advance; ERA_WRAP is the first
Ledger entry of the new era. [DEDUCED, log 26, safe] -/
def State.eraWrap (s : State) : State :=
  let s0 := if s.mintOk then s.sealInstant true else if s.recording then (s.closeO 1).closeL 1 else s
  let s1 := s0.set R.CLR_EVT_ERA_CLOSE 1
  let s2 := { s1 with time := { s1.time with hTick := 0, hUnit := 0 } }
  let s3 := (s2.satCount R.TIME_ERA 16 1 R.TIME_EVT_SATURATED).1
  let s4 := (s3.put64 R.TIME_EPOCH_LO (s3.val64 R.TIME_EPOCH_LO + eraNs)).set R.TIME_EVT_ERA_WRAP 1
  s4.ledgerH 0x01 0x8001 0 (leBytes 2 s4.era ++ leBytes 6 0 ++ leBytes 8 (s4.val64 R.TIME_EPOCH_LO))

/-- The host half's next tick begins. -/
def State.hostNextTick (s : State) : State :=
  if s.time.hTick + 1 = ticksPerEra then s.eraWrap else { s with time := { s.time with hTick := s.time.hTick + 1, hUnit := 0 } }

/-- The field half's next tick begins. -/
def State.fieldNextTick (s : State) : State :=
  if s.time.fTick + 1 = ticksPerEra then
    { s with time := { s.time with fTick := 0, fUnit := 0, fEra := s.time.fEra + 1, fEpoch := (s.time.fEpoch + eraNs) % 2 ^ 64 } }
  else { s with time := { s.time with fTick := s.time.fTick + 1, fUnit := 0 } }

/-! ### The epoch (R74–R78) -/

/-- EPOCH_LOAD (R75): TIME_EPOCH_SET is loaded at the next host tick boundary. -/
def State.doEpochLoad (s : State) : State :=
  ({ s with time := { s.time with epochReq := some (s.val64 R.TIME_EPOCH_SET_LO, s.hAbs) } }).set R.TIME_CTRL_EPOCH_LOAD 1

/-- EPOCH_LOAD. -/
def execEpochLoad (u : Sub) (s : State) : Host.Outcome State Fault Refusal := done s ((s.atH u).ifOn R.TIME_CTRL State.doEpochLoad)

/-- EPOCH_SET (R75): a new epoch takes effect at a host tick boundary. [DEDUCED, log 26, safe] -/
def State.doEpochSet (s : State) : State :=
  match s.time.epochReq with
  | some (e, t) =>
    if s.time.hUnit = 0 ∧ t < s.hAbs then
      let new := if s.is R.TIME_CTRL_EPOCH_LOAD then s.val64 R.TIME_EPOCH_SET_LO else e
      let old := s.val64 R.TIME_EPOCH_LO
      let s1 := ({ s with time := { s.time with epochReq := none } }).set R.TIME_CTRL_EPOCH_LOAD 0
      let s2 := ((s1.put64 R.TIME_EPOCH_LO new).set R.TIME_STAT_EPOCH_VALID 1).set R.TIME_EVT_EPOCH_SET 1
      let s3 := s2.ledgerH 0x01 0x8003 0 (leBytes 8 old ++ leBytes 8 new)
      if s3.linkUp then s3.sendHF 0x01 0 s3.hNow.pack (timePayload 3 s3.era new (s3.val R.TIME_PATH)) else s3
    else s
  | none => s

/-- EPOCH_SET. -/
def execEpochSet (s : State) : Host.Outcome State Fault Refusal := done s (s.ifOn R.TIME_CTRL State.doEpochSet)

/-- One step of the CRC of a time-of-day message. -/
def ccittStep (c : Nat) : Nat := if c.testBit 15 then ((2 * c) ^^^ 0x1021) % 65536 else 2 * c % 65536
/-- CRC-16/CCITT-FALSE (R76). -/
def crc16 (b : List Byte) : Nat := b.foldl (fun c x => (List.range 8).foldl (fun d _ => ccittStep d) (c ^^^ (x.toNat * 256))) 0xFFFF

/-- A valid time-of-day message, and its SECONDS (R76). [DESIGN CHOICE, log 25, unsafe] -/
def todSeconds (b : List Byte) : Option Nat :=
  if b.length = 14 ∧ leAt b 0 2 = 0x5447 ∧ leAt b 10 1 < 2 ∧ leAt b 11 1 = 0 ∧ leAt b 12 2 = crc16 (b.take 12) then some (leAt b 2 8) else none

/-- TOD_MESSAGE (R77, R78). -/
def State.doTod (s : State) (b : List Byte) : State :=
  match todSeconds b with
  | some sec =>
    if s.time.todLast.any (fun p => p + 1 == sec) then
      ({ s with time := { s.time with todLast := some sec, todPair := some sec } }).set R.TIME_STAT_TOD_OK 1
    else { s with time := { s.time with todLast := some sec, todPair := none } }
  | none => ({ s with time := { s.time with todLast := none, todPair := none } }).set R.TIME_STAT_TOD_OK 0

/-- TOD_MESSAGE. -/
def execTodMessage (u : Sub) (b : List Byte) (s : State) : Host.Outcome State Fault Refusal := done s ((s.atH u).ifOn R.TIME_CTRL (fun t => t.doTod b))

/-- `n / d` rounded to the nearest integer; which way a tie goes is open. -/
def State.roundNear (s : State) (n : Int) (d : Nat) : Int × State :=
  let q := n / (d : Int)
  let r := n % (d : Int)
  if 2 * r = d then let f := s.fresh 1; (q + (f.1 : Int), f.2) else (if 2 * r < d then q else q + 1, s)

/-- The residual of an edge against the nearest TAI second, in fraction units: whole units below it or above it, where it is not whole. Without an epoch there
is no expected instant, and the value is open (R77). -/
def State.ppsResid (s : State) : Int × State :=
  if s.is R.TIME_STAT_EPOCH_VALID then
    let sec : Nat := 512000000000
    let x := (s.val64 R.TIME_EPOCH_LO * 512 + 5 * s.hNow.units) % sec
    let r : Int := if 2 * x < sec then (x : Int) else (x : Int) - (sec : Int)
    if r % 5 = 0 then (r / 5, s) else let f := s.fresh 1; (r / 5 + (f.1 : Int), f.2)
  else let f := s.fresh 32; (signedOf 32 f.1, f.2)

/-- The edge comes one second of the count after the edge before it, within 1 µs (R56). -/
def State.ppsInTime (s : State) : Bool :=
  s.is R.TIME_PPS_GEN_VALID &&
    (let p := T64.unpack (s.val64 R.TIME_PPS_LO)
     let before := absTick (eraOf s.time.hTick s.era p.tick) 0 * unitsPerTick + p.units
     let d : Int := ((absTick s.era 0 * unitsPerTick + s.hNow.units : Nat) : Int) - ((before + 102400000000 : Nat) : Int)
     decide (-102400 ≤ d ∧ d ≤ 102400))

/-- The epoch that a pair of time-of-day messages gives at this edge (R77). -/
def State.pairEpoch (s : State) (sec : Nat) : Int × State := s.roundNear (((sec * 1000000000 * 512 : Nat) : Int) - ((s.hNow.units * 5 : Nat) : Int)) 512

/-- The module sets the epoch itself at this edge: with SRC 3 and TOD_EN, when none is set or after a slip (R75, R78). [DESIGN CHOICE, log 25, unsafe] -/
def State.ppsSets (s : State) : Bool :=
  s.get R.TIME_CTRL_SRC == 3 && s.is R.TIME_CTRL_TOD_EN && (!s.is R.TIME_STAT_EPOCH_VALID || s.time.slipReset)

/-- The third second in a row with a residual beyond 256 units (R78). -/
def State.ppsSlip (s : State) (resid : Int) : State :=
  if resid < -256 ∨ 256 < resid then
    if s.time.residBad + 1 < 3 then { s with time := { s.time with residBad := s.time.residBad + 1 } }
    else ({ s with time := { s.time with residBad := 0, slipReset := true } }).set R.TIME_EVT_SYNC_SLIP 1
  else { s with time := { s.time with residBad := 0 } }

/-- PPS_EDGE (R77, R78). [DESIGN CHOICE, log 25, unsafe] -/
def State.doPps (s : State) : State :=
  let r := s.ppsResid
  let s1 := r.2.set R.TIME_STAT_PPS_LOCK (if s.ppsInTime then 1 else 0)
  let s2 := (s1.replaceResult R.TIME_PPS_LO R.TIME_PPS_GEN s1.hNow.pack).put R.TIME_PPS_RESID (codeOf 32 r.1)
  match s.time.todPair with
  | some sec =>
    let s3 := { s2 with time := { s2.time with todPair := none } }
    if s.ppsSets then
      let e := s3.pairEpoch sec
      { e.2 with time := { e.2.time with epochReq := some (codeOf 64 e.1, e.2.hAbs), slipReset := false, residBad := 0 } }
    else if s.is R.TIME_STAT_EPOCH_VALID then s3.ppsSlip r.1 else s3
  | none => if s.is R.TIME_STAT_EPOCH_VALID then s2.ppsSlip r.1 else s2

/-- PPS_EDGE. -/
def execPpsEdge (u : Sub) (s : State) : Host.Outcome State Fault Refusal := done s ((s.atH u).ifOn R.TIME_CTRL State.doPps)

/-- PPS_MISSING (R78). -/
def State.doPpsMissing (s : State) : State :=
  ({ s with time := { s.time with todPair := none, residBad := 0 } }).set R.TIME_STAT_PPS_LOCK 0

/-- PPS_MISSING. -/
def execPpsMissing (u : Sub) (s : State) : Host.Outcome State Fault Refusal := done s ((s.atH u).ifOn R.TIME_CTRL State.doPpsMissing)

end Sys2Proof.Machine
end

