-- ==== Sys2Proof/Machine/Access.lean ====
section
/-! DEFINITION. Register accesses (R4–R11, R19, R21, R84, R490): what a read of each register returns, what a write does field by field, and the accesses of the
host link to BAR0. -/

namespace Sys2Proof.Machine

/-! ### What a read returns -/

/-- TAG.REQ of a requester (R45). -/
def reqNo : Requester → Nat
  | .host => 0
  | .mgmt => 1
  | .island => 7

/-- A word made of bits given as numbers. -/
def wordOf (n : Nat) : Word := BitVec.ofNat 32 n

/-- The `k`-th word of bytes; 0 past their end. -/
def wordAt (b : List Byte) (k : Nat) : Word := wordOf (leAt b (4 * k) 4)

/-- The low or the high word of a 64-bit value, by the address read. -/
def halfOf (a lo v : Nat) : Word := if a = lo then wordOf v else wordOf (v / 2 ^ 32)

/-- Certificate shown for a selection (SEC_CERT_SEL); none when it is empty. -/
def State.certBytes (s : State) (sel : Nat) : List Byte :=
  let fixed (k : Nat) : List Byte := ((List.range 1332).flatMap (fun i => leBytes 4 (Config.certWord k i).toNat)).take 5325
  if sel ≤ 2 ∨ sel = 7 ∨ sel = 8 then fixed sel
  else if sel ≤ 6 then
    if sel - 3 < s.sec.certs.length then s.sec.certs.getD (sel - 3) []
    else if sel - 3 = s.sec.certs.length then fixed 3 else []
  else []

/-- The ring's entry with an index. -/
def State.ringEntry (s : State) (i : Nat) : Option LEntry := s.ledger.ring.find? (fun e => e.index == i)

/-- A read of a host register as it stands (R10), with the words that are views of the blocks' contents. [DESIGN CHOICE, log 5, unsafe] -/
def State.viewHost (s : State) (a : Nat) : Word :=
  if a = R.SYS_ID then wordOf (0x25480000 + (if Config.variantM2 then 2 else 1) * 256 + Config.hwRev.toNat)
  else if a = R.SYS_STAT then
    withField (s.rd a) 2 1 (if s.linkUp && s.is R.FCTL_STAT_FW_OK && s.fault.fcpUntil.isNone then 1 else 0)
  else if R.SYS_SERIAL 0 ≤ a ∧ a ≤ R.SYS_SERIAL 3 then Config.serialWord ((a - R.SYS_SERIAL 0) / 4)
  else if a = R.TIME_NOW_LO ∨ a = R.TIME_NOW_HI then halfOf a R.TIME_NOW_LO s.hNow.pack
  else if a = R.CLR_STAT then withField (s.rd a) 16 16 (min 256 (s.stagingFill / 2 ^ 20))
  else if a = R.HDMA_STAT then
    wordOf ((List.range 16).foldl (fun w c => w + s.get (R.HDMA_C_CTRL_EN c) * 2 ^ c + s.get (R.HDMA_C_STAT_BUSY c) * 2 ^ (16 + c)) 0)
  else if R.STOR_PIN_FIRST_LO ≤ a ∧ a ≤ R.STOR_PIN_LAST_HI then
    match s.store.pins[s.get R.STOR_PIN_CTRL_SEL]? with
    | some p => if a ≤ R.STOR_PIN_FIRST_HI then halfOf a R.STOR_PIN_FIRST_LO p.1 else halfOf a R.STOR_PIN_LAST_LO p.2.1
    | none => s.rd a
  else if R.LDG_HEAD 0 ≤ a ∧ a ≤ R.LDG_HEAD 7 then wordAt s.ledger.head ((a - R.LDG_HEAD 0) / 4)
  else if a = R.LDG_RD_STAT then (if (s.ringEntry (s.val64 R.LDG_RD_IDX_LO)).isSome then 1 else 0)
  else if R.LDG_RD_WORD 0 ≤ a ∧ a ≤ R.LDG_RD_WORD 15 then
    match s.ringEntry (s.val64 R.LDG_RD_IDX_LO) with
    | some e => wordAt e.bytes ((a - R.LDG_RD_WORD 0) / 4)
    | none => 0
  else if R.LDG_SEAL_WORD 0 ≤ a ∧ a ≤ R.LDG_SEAL_WORD 1023 then
    wordAt (s.store.seals.getD (s.get ⟨R.LDG_SEAL_SEL, 0, 3⟩) []) ((a - R.LDG_SEAL_WORD 0) / 4)
  else if R.SEC_DEVICE_ID 0 ≤ a ∧ a ≤ R.SEC_DEVICE_ID 7 then Config.deviceIdWord ((a - R.SEC_DEVICE_ID 0) / 4)
  else if a = R.SEC_CERT_LEN then wordOf (s.certBytes (s.val R.SEC_CERT_SEL)).length
  else if R.SEC_CERT_WORD 0 ≤ a ∧ a ≤ R.SEC_CERT_WORD 2047 then wordAt (s.certBytes (s.val R.SEC_CERT_SEL)) ((a - R.SEC_CERT_WORD 0) / 4)
  else if R.SEC_AR_WORD 0 ≤ a ∧ a ≤ R.SEC_AR_WORD 2047 then
    (if s.is R.SEC_STAT_AR_BUSY then 0 else wordAt s.sec.report ((a - R.SEC_AR_WORD 0) / 4))
  else if a = R.FLT_STAT then
    withField (s.rd a) 16 16 ((List.range 5).foldl (fun n k => n + popCount 32 (s.val (R.FLT_PEND k))) 0)
  else if a = R.ISO_TUN_STAT then withField (s.rd a) 8 6 s.link.inFlight.length
  else s.rd a

/-- Words of the sequencer that are views of its stacks and frames (R174). -/
def State.viewSeq (s : State) (a : Nat) : Word :=
  let q := s.seq
  if a = R.SEQ_STACK then wordOf (q.loops.length * 2 ^ 16 + q.calls.length * 2 ^ 8 + q.micro.length)
  else if a = R.SEQ_FRAME_TAG then
    match q.frames.find? (fun f => f.1 == s.val R.SEQ_FRAME_SEL) with
    | some f => wordOf (2 ^ 31 + f.2.1)
    | none => 0
  else if a = R.SEQ_FRAME_FILL then
    match q.frames.find? (fun f => f.1 == s.val R.SEQ_FRAME_SEL) with
    | some f => wordOf f.2.2
    | none => 0
  else if R.SEQ_LSTK_ADDR_LO 0 ≤ a ∧ a ≤ R.SEQ_LSTK_IDX 15 then
    let k := (a - R.SEQ_LSTK_ADDR_LO 0) / 16
    if k < q.loops.length then
      let f := q.loops.getD k ⟨0, 0, 0⟩
      match (a % 16) / 4 with
      | 0 => wordOf f.addr
      | 1 => wordOf (f.addr / 2 ^ 32)
      | 2 => wordOf f.rem
      | _ => wordOf f.idx
    else 0
  else if R.SEQ_CSTK_LO 0 ≤ a ∧ a ≤ R.SEQ_CSTK_HI 15 then
    let k := (a - R.SEQ_CSTK_LO 0) / 8
    if k < q.calls.length then
      let c := q.calls.getD k 0
      if a % 8 = 0 then wordOf c else wordOf (c / 2 ^ 32)
    else 0
  else s.rd a

/-- Drive of a generator's output is suppressed (R103, R187): its output is on and a condition fails. -/
def State.genSuppressed (s : State) (g : Nat) : Bool :=
  s.is (R.GEN_CTRL_EN g) && !s.portMayDrive (16 * (g / 8) + 2 * (g % 8) + 1)

/-- A read of a field register as it stands. [DESIGN CHOICE, log 5, unsafe] -/
def State.viewField (s : State) (a : Nat) : Word :=
  if 0x1100000 ≤ a ∧ a < 0x1110000 then s.viewSeq a
  else if 0x1200000 ≤ a ∧ a < 0x1240000 then s.ustoreWord ((a - 0x1200000) / 4)
  else if a = R.USTORE_VEND_VER then (if s.upd.vendor.isNone then Config.vendorVersion else s.rd a)
  else if 0x1A00000 ≤ a ∧ a < 0x1A30000 then
    let g := (a - 0x1A00000) / 0x1000
    if a = R.GEN_STAT g then withField (s.rd a) 6 1 (if s.genSuppressed g then 1 else 0)
    else if R.GEN_LIST_WORD g 0 ≤ a ∧ a ≤ R.GEN_LIST_WORD g 7 then
      let i := s.val (R.GEN_LIST_SEL g)
      match (s.gen g).entries.find? (fun e => e.1 == i) with
      | some e => wordAt e.2 ((a - R.GEN_LIST_WORD g 0) / 4)
      | none => 0
    else s.rd a
  else if 0x1800000 ≤ a ∧ a < 0x18C0000 then
    let l := (a - 0x1800000) / 0x4000
    if a = R.LANE_COST l then withField (s.rd a) 16 16 (engineCost (s.rd (R.LANE_CFG l)) (s.rd (R.LANE_FILT l))) else s.rd a
  else if 0x1C01000 ≤ a ∧ a < 0x1C01C00 then
    let h := (a - 0x1C01000) / 0x40
    if a = R.TLY_H_BIN_LO h ∨ a = R.TLY_H_BIN_HI h then halfOf a (R.TLY_H_BIN_LO h) (binCount (s.hist h).bins (s.val (R.TLY_H_SEL h)))
    else s.rd a
  else if 0x1C04000 ≤ a ∧ a < 0x1C04200 then
    let m := (a - 0x1C04000) / 0x40
    if a = R.TLY_M_BIN m then wordOf (binCount (s.map m).bins (s.get (R.TLY_M_SEL_TIME m) * 512 + s.get (R.TLY_M_SEL_AMP m))) else s.rd a
  else if a = R.CMP_STAT then withField (s.rd a) 0 8 ((List.range 128).filter (fun p => s.is (R.CMP_P_CTRL_EN p))).length
  else if 0x1F01000 ≤ a ∧ a < 0x1F02000 then
    let q := (a - 0x1F01000) / 0x100
    let o := a % 0x100
    if s.get (R.POD_S_STAT_STATE q) ≠ 4 ∧ ((0x10 ≤ o ∧ o ≤ 0x18) ∨ (0x20 ≤ o ∧ o ≤ 0x64)) then 0 else s.rd a
  else s.rd a

/-- A register's word now: an address without a register reads 0 (R7), and so do write-only fields; a register whose domain is off reads all ones (R19), as
every address of a field block whose domain is off does (R45, status UNPOWERED). [DEDUCED, log 14, unsafe] -/
def State.view (s : State) (a : Nat) : Word :=
  if (rowAt a).isNone then (if isFieldAddr a && (domainOf a).isSome && !s.powered a then 0xFFFFFFFF#32 else 0)
  else if !s.powered a then 0xFFFFFFFF#32
  else if isFieldAddr a then s.viewField a else s.viewHost a

/-- The snapshot that a requester holds of a partner word (R11, R84). -/
def State.snapOf (s : State) (r a : Nat) : Option Word := (s.io.snaps.find? (fun x => x.1 == r && x.2.1 == a)).map (fun x => x.2.2)

/-- The snapshots of a requester's partner words are replaced. -/
def State.snapTake (s : State) (r a : Nat) : State :=
  (rsPartners a).foldl (fun t p =>
    { t with io := { t.io with snaps := (r, p, s.view p) :: t.io.snaps.filter (fun x => !(x.1 == r && x.2.1 == p)) } }) s

/-- A read by a requester: the word it returns, and the state with the snapshots that a read of an RS word takes (R10, R11, R84). [DEDUCED, log 14, unsafe] -/
def State.readReg (s : State) (r a : Nat) : Word × State :=
  if !s.powered a || (rowAt a).isNone then (s.view a, s)
  else if rsPartners a ≠ [] then (s.view a, s.snapTake r a)
  else ((s.snapOf r a).getD (s.view a), s)

/-- The word returned to a requester. -/
def State.ioGive (s : State) (r : Nat) (w : Word) : State :=
  if r = 0 then { s with io := { s.io with host := w } }
  else if r = 7 then { s with io := { s.io with island := w } }
  else { s with io := { s.io with mgmt := w } }

end Sys2Proof.Machine
end

