-- ==== Sys2Proof/Machine/FaultCmds.lean ====
section
/-! DEFINITION. The commands of the fault collector (R438–R448, R451, R452, R482, R483): raises, the end of a block reset, pending bits and pins, forcing,
temperature limits, supplies, and the daily sums. -/

namespace Sys2Proof.Machine

/-- The management core has stopped for good: a Fatal source in H2, or the host shutdown limit (R448). -/
def State.coreDead (s : State) : Bool := s.faultHold && (s.val R.FLT_FATAL_ID == 0x07 || s.val R.FLT_FATAL_ID == 0x19)

/-- What a Fatal source of the host half stops beside R446 (R448); in CHECKING the update reverts (R464). -/
def State.hostStops (s : State) (id : Nat) : State := (if id = 0x07 ∨ id = 0x19 then s.mgmtReset else s).fatalRevert

/-- A host source is detected. -/
def State.doFaultRaise (s : State) (id data : Nat) : State :=
  if s.start.power && Config.faultClass id != 0 && !Config.faultIsField id then (s.hostFault id data).hostStops id else s

/-- FAULT_RAISE (R438). -/
def execFaultRaise (u : Sub) (id : Fin 64) (data : Word) (s : State) : Host.Outcome State Fault Refusal :=
  done s ((s.atH u).doFaultRaise id data.toNat)

/-- A field source is detected; the field half raises it while F1 is on. -/
def State.doFieldRaise (s : State) (id data : Nat) : State :=
  if s.domOn (domF 1) && Config.faultClass id != 0 && Config.faultIsField id then s.fieldFault id data else s

/-- FIELD_FAULT_RAISE (R438). -/
def execFieldFaultRaise (u : Sub) (id : Fin 256) (data : Word) (s : State) : Host.Outcome State Fault Refusal :=
  done s ((s.atF u).doFieldRaise id data.toNat)

/-- The block resumes (R441). -/
def State.doBlockResetEnd (s : State) (blk : Nat) : State :=
  if s.fault.resetting.any (fun p => p.1 == blk) then
    let s1 := { s with fault := { s.fault with resetting := s.fault.resetting.filter (fun p => p.1 != blk) } }
    if blk = 0x05 then (if s1.coreDead then s1 else { s1 with fault := { s1.fault with mgmtDown := false } })
    else if blk = 0x10 then { s1 with fault := { s1.fault with fcpUntil := none } }
    else s1
  else s

/-- BLOCK_RESET_END (R441). -/
def execBlockResetEnd (u : Sub) (blk : Fin 256) (s : State) : Host.Outcome State Fault Refusal :=
  done s (((s.atH u).atF u).doBlockResetEnd blk)

/-- The bits of a pending word that stand for Fatal sources. -/
def fatalBits (k : Nat) : Word :=
  (List.range 32).foldl (fun m i => if Config.faultClass (32 * k + i) = 3 then m ||| BitVec.twoPow 32 i else m) 0#32

/-- FLT_PEND_CLEAR (R444). -/
def execFltPendClear (u : Sub) (k : Fin 5) (v : Word) (s : State) : Host.Outcome State Fault Refusal :=
  done s ((s.atH u).ifOn (R.FLT_PEND k) (fun t => t.wr (R.FLT_PEND k) (t.rd (R.FLT_PEND k) &&& ~~~(v &&& ~~~(fatalBits k)))))

/-- A fault pin rises: its condition has ended, and 10 ms have passed since it fell (R444). -/
def State.doPinRelease (s : State) (field : Bool) : State :=
  if field then
    match s.fault.fieldFaultN with
    | some t =>
      if s.linkUp && !s.pinCondition reactX && decide (t + 1000 ≤ s.time.fTick ∨ s.time.fTick < t) then
        ({ s with fault := { s.fault with fieldFaultN := none } }).set R.FLT_STAT_FIELD_FAULT_N 0
      else s
    | none => s
  else
    match s.fault.faultN with
    | some t =>
      if !s.pinCondition reactF && decide (t + 1000 ≤ s.time.hTick ∨ s.time.hTick < t) then
        ({ s with fault := { s.fault with faultN := none } }).set R.FLT_STAT_FAULT_N 0
      else s
    | none => s

/-- FAULT_PIN_RELEASE (R444). -/
def execFaultPinRelease (u : Sub) (field : Bool) (s : State) : Host.Outcome State Fault Refusal :=
  done s (((s.atH u).atF u).doPinRelease field)

/-- One source is forced (R445): a reserved ID is discarded; a Fatal source needs SEALED or SERVICE and the SERVICE_EN pin. A field source is raised in the
field half, or at the collector while F1 is off. [DESIGN CHOICE, log 17, unsafe; DESIGN CHOICE, log 71, unsafe] -/
def State.forceOne (s : State) (service : Bool) (id : Nat) : State :=
  let c := Config.faultClass id
  if c = 0 then s
  else if c = 3 ∧ !(decide (s.mode < 2) && service) then s.set R.FLT_EVT_FORCE_REFUSED 1
  else if Config.faultIsField id && s.domOn (domF 1) then s.fieldFault id 0 true
  else (s.hostFault id 0 true).hostStops id

/-- A write of FLT_FORCE. -/
def State.doForce (s : State) (k : Nat) (v : Word) (service : Bool) : State :=
  ((List.range 32).filter (fun i => v.getLsbD i)).foldl (fun t i => t.forceOne service (32 * k + i))
    (s.set R.SEC_STAT_SERVICE_EN (if service then 1 else 0))

/-- FAULT_FORCE (R445). -/
def execFaultForce (u : Sub) (k : Fin 5) (v : Word) (service : Bool) (s : State) : Host.Outcome State Fault Refusal :=
  done s (((s.atH u).atF u).ifOn (R.FLT_FORCE k) (fun t => t.doForce k v service))

/-- FLT_CLR_STATS (R452). -/
def execFltClrStats (u : Sub) (s : State) : Host.Outcome State Fault Refusal :=
  done s ((s.atH u).ifOn R.FLT_CTRL (fun t => t.putAll ((List.range 144).map R.FLT_CNT) 0))

/-- CLR_FIRST (R452). -/
def execClrFirst (u : Sub) (s : State) : Host.Outcome State Fault Refusal :=
  done s ((s.atH u).ifOn R.FLT_CTRL (fun t => t.set R.FLT_FIRST_GEN_VALID 0))

/-! ### Temperature (R448, R483) -/

/-- A limit is reached. [DESIGN CHOICE, log 74, safe] -/
def State.doTemperature (s : State) (field shutdown : Bool) : State :=
  if field then
    if s.domOn (domF 1) then
      let s1 := s.fieldFault (if shutdown then 0x4F else 0x4E) 0
      if shutdown && s1.start.fieldHot.isNone then
        { s1 with start := { s1.start with fieldHot := some (absTick s1.time.fEra s1.time.fTick) } }
      else s1
    else s
  else if s.start.power then
    let id := if shutdown then 0x19 else 0x18
    let s1 := (s.hostFault id 0).hostStops id
    if shutdown && s1.start.hostHot.isNone then { s1 with start := { s1.start with hostHot := some (s1.hAbs + 200000) } } else s1
  else s

/-- TEMPERATURE_LIMIT (R483). -/
def execTemperatureLimit (u : Sub) (field shutdown : Bool) (s : State) : Host.Outcome State Fault Refusal :=
  done s (((s.atH u).atF u).doTemperature field shutdown)

/-- Two ticks after a field shutdown raise F2–F11 switch off (R483). -/
def State.doFieldShutdown (s : State) : State :=
  match s.start.fieldHot with
  | some t =>
    if t + 2 ≤ absTick s.time.fEra s.time.fTick ∧ !s.start.fieldOff then
      ((List.range 10).map (fun k => domF (11 - k))).foldl State.domOff { s with start := { s.start with fieldOff := true } }
    else s
  | none => s

/-- FIELD_SHUTDOWN_POWER_OFF (R483). -/
def execFieldShutdownPowerOff (s : State) : Host.Outcome State Fault Refusal := done s s.doFieldShutdown

/-- After a host shutdown raise H3 and H5 switch off once the fault seal is durable, or after 2 s (R448). -/
def State.hostShutdown (s : State) : State :=
  match s.start.hostHot with
  | some t =>
    if !s.start.hostOff && (decide (t ≤ s.hAbs) || (!s.fault.faultSeal && s.store.pend.isNone)) then
      (({ s with start := { s.start with hostOff := true } }).domOff (domH 5)).domOff (domH 3)
    else s
  | none => s

/-! ### Supplies (R427, R482) -/

/-- HOST_SUPPLY_FAULT (R482). -/
def execHostSupplyFault (u : Sub) (s : State) : Host.Outcome State Fault Refusal := done s ((s.atH u).doFaultRaise 0x17 0)

/-- FIELD_SUPPLY_IN_RANGE (R427, R482): F1 may come on. -/
def execFieldSupplyInRange (u : Sub) (s : State) : Host.Outcome State Fault Refusal :=
  done s { s.atH u with start := { s.start with supply := true } }

/-- The field input leaves the range: F1, with every field domain, switches off. [DESIGN CHOICE, log 74, safe] -/
def State.doSupplyOut (s : State) : State := ({ s with start := { s.start with supply := false } }).domOff (domF 1)

/-- FIELD_SUPPLY_OUT_OF_RANGE (R427, R482). -/
def execFieldSupplyOutOfRange (u : Sub) (s : State) : Host.Outcome State Fault Refusal := done s ((s.atH u).atF u).doSupplyOut

/-- FIELD_SUPPLY_FAULT (R482). -/
def execFieldSupplyFault (u : Sub) (s : State) : Host.Outcome State Fault Refusal := done s ((s.atF u).doFieldRaise 0x4D 0)

/-! ### Availability (R451) -/

/-- At a day's first boundary the sums move on. -/
def State.doDayRoll (s : State) : State := if s.time.hUnit = 0 ∧ s.time.hTick % ticksPerDay = 0 then s.availYear else s

/-- AVAIL_DAY_ROLL (R451). -/
def execAvailDayRoll (s : State) : Host.Outcome State Fault Refusal := done s s.doDayRoll

end Sys2Proof.Machine
end

