-- ==== Sys2Proof/Machine/Generators.lean ====
section
/-! DEFINITION. Generators and their lists (R178–R203): enabling, starting, stepping, playback, overdrafts and stopping. -/

namespace Sys2Proof.Machine

/-! ### Entries (R178, R180, R181) -/

def entryKind (e : List Byte) : Nat := leAt e 0 1
def entryWait (e : List Byte) : Bool := leAt e 1 1 % 2 == 1
def entryMark (e : List Byte) : Bool := leAt e 1 1 / 2 % 2 == 1
def entryDwell (e : List Byte) : Nat := leAt e 4 4
def entryFreq (e : List Byte) : Nat := leAt e 8 6 % 2 ^ 47
def entryPhase (e : List Byte) : Nat := leAt e 16 4
def entryAmp (e : List Byte) : Nat := leAt e 20 4 % 2 ^ 20
def entryOffset (e : List Byte) : Nat := leAt e 24 4 % 2 ^ 20
def entryRatio (e : List Byte) : Nat := leAt e 28 4
/-- Samples of a DATA entry, 0 to 15. -/
def entryCount (e : List Byte) : Nat := min 15 (leAt e 1 1)

/-- Kinds of R180. -/
def kindSet : Nat := 1
def kindData : Nat := 2
def kindStop : Nat := 3

/-- Generator states of R202. -/
def genIdle : Nat := 0
def genArmed : Nat := 1
def genRunning : Nat := 2
def genWaiting : Nat := 3
def genStopped : Nat := 4
def genEnded : Nat := 5

/-- MODE codes of R186. -/
def modeDC : Nat := 0
def modePair : Nat := 2
def modeModPair : Nat := 3
def modePlayback : Nat := 4

def State.genState (s : State) (g : Nat) : Nat := s.get (R.GEN_STAT_STATE g)
def State.genLen (s : State) (g : Nat) : Nat := max 1 (s.get (R.GEN_LIST_LEN g))
def State.genStream (s : State) (g : Nat) : Bool := s.is (R.GEN_CTRL_STREAM g)
def State.genPlayback (s : State) (g : Nat) : Bool := s.get (R.GEN_CFG_MODE g) == modePlayback

/-- Entries held in a streamed list: WR − DONE modulo 2^32. -/
def State.genHeld (s : State) (g : Nat) : Nat := (s.val (R.GEN_WR_COUNT g) + 2 ^ 32 - s.val (R.GEN_DONE_COUNT g)) % 2 ^ 32

/-- Index of the entry that follows the one in use, or of the first entry (R178). -/
def State.genNextIdx (s : State) (g : Nat) : Nat :=
  let n := s.genLen g
  if s.genStream g then (s.val (R.GEN_DONE_COUNT g) + (if (s.gen g).inUse then 1 else 0)) % n
  else if (s.gen g).cur.isNone then 0
  else if s.val (R.GEN_CUR g) + 1 < n then s.val (R.GEN_CUR g) + 1
  else if s.get (R.GEN_LIST_LOOP g) < n then s.get (R.GEN_LIST_LOOP g) else 0

/-- The next entry, when it is held (R198). -/
def State.genNextEntry (s : State) (g : Nat) : Option (List Byte) :=
  let x := s.gen g
  let held := if s.genStream g then (if x.inUse then 1 else 0) < s.genHeld g else true
  if held then (x.entries.find? (fun e => e.1 == s.genNextIdx g)).map Prod.snd else none

/-- The use of the entry in use ends (R178). -/
def State.genUseEnds (s : State) (g : Nat) : State :=
  if (s.gen g).inUse then (s.setGen g { s.gen g with inUse := false }).wrapCount (R.GEN_DONE_COUNT g) 1 else s

/-- Units between output samples. -/
def gridUnits : Nat := 160

/-- The next instant of the sample grid at or after `t` (R182). -/
def gridUp (t : Nat) : Nat := ceilDiv t gridUnits * gridUnits

/-- Phase accumulator at an instant (R184). -/
def GenSt.accumAt (x : GenSt) (t : Nat) : Nat := (x.acc + (t - x.accAt) / gridUnits * x.freq) % 2 ^ 48

/-- Playback rate in 2^-32 input samples per output sample: RATIO 0 means exactly 1. -/
def GenSt.rate (x : GenSt) : Nat := if x.ratio = 0 then 2 ^ 32 else x.ratio

/-- Playback position at an instant. -/
def GenSt.posTo (x : GenSt) (t : Nat) : Nat := if x.frozen then x.pos else x.pos + (t - x.posAt) / gridUnits * x.rate

/-! ### Overdrafts (R198, R199) -/

/-- An overdraft at an instant: `sample` when the resampler needs a sample, else at a step. -/
def State.genOverdraft (s : State) (g t : Nat) (sample : Bool) : State :=
  let act := s.get (R.GEN_CTRL_OD_ACTION g)
  let idx := s.genNextIdx g
  let s1 := (s.genCount g (R.GEN_OD_COUNT g) 1).replaceResult (R.GEN_OD_LAST_LO g) (R.GEN_OD_LAST_GEN g) (t64At t)
  let s2 := (s1.genEvt g (R.GEN_EVT_OVERDRAFT g) 0x0001 act).set (R.GEN_STAT_OVERDRAFT g) 1
  let x := s2.gen g
  let x1 := { x with od := some (t, 0, idx), odSample := sample, readyAt := none, pos := x.posTo t, posAt := t, frozen := x.frozen || s.genPlayback g }
  let s3 := s2.replayBreak g t
  if act = 0 then s3.setGen g x1
  else if act = 1 then s3.setGen g { x1 with rest := true }
  else
    let s4 := (s3.setGen g { x1 with rest := true, odStop := true }).set (R.GEN_STAT_STATE g) genStopped
    if sample then s4 else s4.genUseEnds g

/-- The overdraft ends at an instant (R199, R284). -/
def State.genOdEnd (s : State) (g t : Nat) : State :=
  let x := s.gen g
  match x.od with
  | none => s
  | some (t0, ticks, idx) =>
    let s1 := (s.setGen g { x with od := none, odStop := false, readyAt := none, resume := false }).set (R.GEN_STAT_OVERDRAFT g) 0
    let s2 := s1.genEvt g (R.GEN_EVT_RESUMED g) 0x0002 ticks
    let e : LEntry := { t64 := t64At t, era := eraOf s.time.hTick s.era (T64.unpack (t64At t)).tick, source := 0x15, code := 0x8011, inst := g,
                        data := leBytes 8 (t64At t0) ++ leBytes 8 (t64At t) ++ leBytes 2 idx }
    (s2.ledger1 e).replayGapEnd g (ticks * unitsPerTick) t

/-! ### Steps (R182–R184, R193) -/

/-- A STOP entry, or an entry that acts as one (R180, R193). -/
def State.genEnd (s : State) (g idx : Nat) (bad : Option Nat) : State :=
  let s0 := s.put (R.GEN_CUR g) idx
  let s1 := match bad with
    | some b => s0.genEvt g (R.GEN_EVT_BAD_ENTRY g) 0x0005 b
    | none => s0
  let x := s1.gen g
  let s2 := (s1.setGen g { x with cur := none, inUse := false, rest := true, inRun := false, sets := [], frozen := false, trigAt := none }).wrapCount
    (R.GEN_DONE_COUNT g) 1
  (s2.set (R.GEN_STAT_STATE g) genEnded).genEvt g (R.GEN_EVT_ENDED g) 0x0008 0

/-- Lowest and highest output code of a lane's drive port in µV (R187). -/
def State.genLimits (s : State) (l : Nat) : Int × Int :=
  let p := 16 * (l / 8) + 2 * (l % 8) + 1
  (max (-12000000) (s.sval (R.PIN_LIMIT_LO p)), min 12000000 (s.sval (R.PIN_LIMIT_HI p)))

/-- The DC level of an entry lies outside the clamp: OFFSET × 12 V / 524,288 in µV (R186, R187). -/
def State.dcClips (s : State) (g offset : Nat) : Bool :=
  let v := signedOf 20 offset * 12000000
  let lim := s.genLimits g
  decide (v < lim.1 * 524288) || decide (lim.2 * 524288 < v)

/-- A clamp of the output is noted once for an entry in use (R187). -/
def State.genClip (s : State) (g : Nat) (seen : Bool) : State :=
  let x := s.gen g
  let dc := s.get (R.GEN_CFG_MODE g) == modeDC && s.dcClips g x.offset
  if x.cur.isSome && !x.rest && !x.clipped && (seen || dc) then
    (s.setGen g { x with clipped := true }).genEvt g (R.GEN_EVT_CLIP g) 0x0007 0
  else s

/-- A SET entry becomes the entry in use (R180, R182, R184, R191). -/
def State.genSet (s : State) (g idx : Nat) (e : List Byte) (t : Nat) : State :=
  let x := s.gen g
  let key := (entryFreq e, entryPhase e)
  let reset := x.last != some key
  let x1 := { x with cur := some e, inUse := true, stepAt := t, trigAt := none, clipped := false, last := some key,
                     acc := if reset then entryPhase e * 2 ^ 16 else x.accumAt t, accAt := t, freq := entryFreq e, amp := entryAmp e,
                     offset := entryOffset e, ratio := entryRatio e, rest := s.genPlayback g, frozen := false }
  let s1 := ((s.setGen g x1).put (R.GEN_CUR g) idx).set (R.GEN_STAT_STATE g) (if entryWait e then genWaiting else genRunning)
  let s2 := if entryMark e then s1.genEvt g (R.GEN_EVT_MARK g) 0x0004 0 else s1
  if s2.genPlayback g ∧ !entryWait e then
    match s2.genNextEntry g with
    | none => s2.genOverdraft g t true
    | some n =>
      if entryKind n = kindData then s2.setGen g { s2.gen g with inRun := true, pos := entryPhase e, posAt := t, readN := 0, sets := [], rest := false }
      else s2
  else s2

/-- A DATA entry is taken by the resampler: its samples follow those read so far (R181, R191). -/
def State.genData (s : State) (g idx : Nat) (e : List Byte) (t : Nat) : State :=
  let x := s.gen g
  let x0 := if x.inRun then x else { x with inRun := true, pos := 0, posAt := t, readN := 0, sets := [], stepAt := t }
  ((s.setGen g { x0 with cur := some e, inUse := true, readN := x0.readN + entryCount e, rest := false }).put (R.GEN_CUR g) idx).set
    (R.GEN_STAT_STATE g) genRunning

/-- A step at an instant (R182): the next entry becomes the entry in use, the one it leaves has ended; an entry that is not held is an
overdraft. -/
def State.genStepTo (s : State) (g t : Nat) : State :=
  match s.genNextEntry g with
  | none => s.genOverdraft g t false
  | some e =>
    let idx := s.genNextIdx g
    let s1 := (s.genUseEnds g).genOdEnd g t
    if entryKind e = kindSet then s1.genSet g idx e t
    else if entryKind e = kindData ∧ s1.genPlayback g then s1.genData g idx e t
    else if entryKind e = kindStop then s1.genEnd g idx none
    else s1.genEnd g idx (some (entryKind e))

/-- The first entry after START or GO: R184 resets the accumulator whatever went before (R192). -/
def State.genFirst (s : State) (g t : Nat) : State :=
  let x := s.gen g
  let c := if s.genStream g then x.cur else none
  (s.setGen g { x with startAt := none, last := none, inRun := false, frozen := false, sets := [], cur := c, inUse := false, trigAt := none }).genStepTo g t

/-- Tick boundary at which the DWELL of the entry in use ends (R182, R183). -/
def GenSt.dueAt (x : GenSt) : Nat :=
  match x.cur with
  | some e => (x.stepAt / unitsPerTick + (if entryWait e then entryDwell e else max 1 (entryDwell e))) * unitsPerTick
  | none => 0

/-! ### Playback (R191) -/

/-- Instant of the first output sample at which the position reaches `p`. -/
def GenSt.whenPos (x : GenSt) (p : Nat) : Nat := x.posAt + (if p ≤ x.pos then 0 else ceilDiv (p - x.pos) x.rate) * gridUnits

/-- A SET entry between DATA entries acts: without WAIT it changes RATIO, AMP and OFFSET; with WAIT it holds the output until its step. -/
def State.playSet (s : State) (g : Nat) (e : List Byte) (t : Nat) : State :=
  let x := s.gen g
  let x1 := { x with pos := x.posTo t, posAt := t, ratio := entryRatio e, amp := entryAmp e, offset := entryOffset e, sets := x.sets.drop 1 }
  if entryWait e then
    (s.setGen g { x1 with frozen := true, cur := some e, inUse := true, stepAt := t, trigAt := none, clipped := false }).set (R.GEN_STAT_STATE g) genWaiting
  else s.setGen g { x1 with clipped := false }

/-- The resampler needs the next entry at an instant: 16 samples ahead of the position. -/
def State.playRead (s : State) (g t : Nat) : State :=
  match s.genNextEntry g with
  | none => s.genOverdraft g t true
  | some e =>
    let idx := s.genNextIdx g
    let s1 := s.genUseEnds g
    let x := s1.gen g
    if entryKind e = kindData then s1.genData g idx e t
    else if entryKind e = kindSet then
      let s2 := (s1.setGen g { x with sets := x.sets ++ [(x.readN, e)], cur := some e, inUse := true }).put (R.GEN_CUR g) idx
      if entryWait e then s2 else s2.genUseEnds g
    else
      let s2 := s1.setGen g { x with sets := x.sets ++ [(x.readN, e)], cur := some e, inUse := false }
      s2.put (R.GEN_CUR g) idx

/-- Playback up to an instant: in order of time, SET entries whose position is reached act, a STOP entry ends the list, and the resampler reads
entries 16 samples ahead; it reads past no SET entry that waits and no STOP entry. -/
def State.playRun : Nat → State → Nat → Nat → State
  | 0, s, _, _ => s
  | n + 1, s, g, limit =>
    let x := s.gen g
    if !x.inRun || x.frozen || x.od.isSome then s
    else
      match x.sets with
      | (at_, e) :: _ =>
        let t := x.whenPos (at_ * 2 ^ 32)
        if limit < t then
          if entryKind e = kindSet ∧ !entryWait e ∧ x.readN = at_ ∧ x.whenPos ((x.readN - 15) * 2 ^ 32) ≤ limit then
            (s.playRead g (x.whenPos ((x.readN - 15) * 2 ^ 32))).playRun n g limit
          else s
        else if entryKind e = kindSet then (s.playSet g e t).playRun n g limit
        else s.genEnd g (s.val (R.GEN_CUR g)) (if entryKind e = kindStop then none else some (entryKind e))
      | [] =>
        let t := x.whenPos ((x.readN - 15) * 2 ^ 32)
        if limit < t then
          if x.whenPos ((x.readN - 16) * 2 ^ 32) ≤ limit then s.genUseEnds g else s
        else (s.playRead g t).playRun n g limit

/-! ### Commands -/

/-- A refusal that only the status shows (R188). -/
def State.genRefuse (s : State) (g reason : Nat) : State := (s.set (R.GEN_STAT_REFUSE g) reason).set (R.GEN_EVT_REFUSED g) 1

/-- Configuration may change: IDLE with EN 0 (R186, R202). -/
def State.genConfigurable (s : State) (g : Nat) : Bool := s.genState g == genIdle && !s.is (R.GEN_CTRL_EN g)

/-- A write to GEN_CFG. -/
def State.doGenCfg (s : State) (g : Nat) (v : Word) : State :=
  s.ifOn (R.GEN_CTRL g) (fun s =>
    if s.genConfigurable g then (s.set (R.GEN_CFG_EXC_LANE g) (fieldOf v 16 6)).set (R.GEN_CFG_MODE g) (fieldOf v 0 3) else s.genRefuse g 6)

/-- GEN_CFG_WRITE. -/
def execGenCfgWrite (u : Sub) (g : Lane) (v : Word) (s : State) : Host.Outcome State Fault Refusal := done s ((s.atF u).doGenCfg g v)

/-- A write to GEN_LIST: LEN 0 is stored as 1 and a larger value as 8,192. -/
def State.doGenList (s : State) (g : Nat) (v : Word) : State :=
  s.ifOn (R.GEN_CTRL g) (fun s =>
    if s.genConfigurable g then
      (s.set (R.GEN_LIST_LOOP g) (fieldOf v 16 13)).set (R.GEN_LIST_LEN g) (clampN 1 8192 (fieldOf v 0 14))
    else s.genRefuse g 6)

/-- GEN_LIST_WRITE. -/
def execGenListWrite (u : Sub) (g : Lane) (v : Word) (s : State) : Host.Outcome State Fault Refusal := done s ((s.atF u).doGenList g v)

/-- The generator's mode takes two lanes. -/
def State.genTwoLanes (s : State) (g : Nat) : Bool := s.get (R.GEN_CFG_MODE g) == modePair || s.get (R.GEN_CFG_MODE g) == modeModPair

/-- Lanes whose DAC the generator needs. -/
def State.genLanes (s : State) (g : Nat) : List Nat := if s.genTwoLanes g then [g, g + 1] else [g]

/-- A lane is a fusion lead or member in force (R209). -/
def State.laneFused (s : State) (l : Nat) : Bool := s.is (R.LANE_STAT_LEAD l) || s.is (R.LANE_STAT_MEMBER l)

/-- The lowest reason of R188 for refusing EN; 0 for none. -/
def State.genEnableReason (s : State) (g : Nat) : Nat :=
  let mode := s.get (R.GEN_CFG_MODE g)
  let exc := s.get (R.GEN_CFG_EXC_LANE g)
  if (s.genLanes g).any (fun l => s.pinOwns l || s.genOwns l) then 1
  else if (s.genLanes g).any (fun l => !s.podA8 (l / 8)) then 2
  else if s.is (R.GEN_STAT_BUSY g) then 3
  else if mode = modeModPair ∧ (exc = g ∨ exc = g + 1 ∨ 48 ≤ exc ∨ !s.podA8 (exc / 8) ∨ s.laneFused exc) then 4
  else if 5 ≤ mode ∨ (s.genTwoLanes g ∧ g % 2 = 1) then 5
  else 0

/-- EN is written with 1 (R117, R188). -/
def State.doGenEnable (s : State) (g : Nat) : State :=
  s.ifOn (R.GEN_CTRL g) (fun s =>
    if s.is (R.GEN_CTRL_EN g) then s
    else
      let r := s.genEnableReason g
      if r ≠ 0 then s.genRefuse g r
      else ((s.set (R.GEN_CTRL_EN g) 1).set (R.GEN_STAT_OWNER g) 1).setGen g { s.gen g with rest := true })

/-- GEN_ENABLE. -/
def execGenEnable (u : Sub) (g : Lane) (s : State) : Host.Outcome State Fault Refusal := done s ((s.atF u).doGenEnable g)

/-- GEN_DISABLE (R87, R200). -/
def execGenDisable (u : Sub) (g : Lane) (s : State) : Host.Outcome State Fault Refusal :=
  done s ((s.atF u).ifOn (R.GEN_CTRL g) (fun s => s.genStop g))

/-- The stop boundary (R200): one sample at GEN_REST, then drive-off; the DACs are released, a streamed list's entries not yet started are
cancelled, and the Ledger takes the stop. -/
def State.doGenStopPoint (s : State) (g : Nat) : State :=
  let x := s.gen g
  if x.stopping ∧ x.stopAt ≤ s.fU then
    let cancelled := if s.genStream g then s.genHeld g - (if x.inUse then 1 else 0) else 0
    let s1 := if s.genStream g then s.put (R.GEN_DONE_COUNT g) (s.val (R.GEN_WR_COUNT g)) else s.genUseEnds g
    let s2 := ((s1.set (R.GEN_STAT_OWNER g) 0).set (R.GEN_STAT_BUSY g) 0).set (R.GEN_STAT_STATE g) genIdle
    let s3 := (s2.set (R.GEN_STAT_OVERDRAFT g) 0).set (R.GEN_STAT_EXC_LOST g) 0
    (s3.setGen g { entries := x.entries, rest := true }).stopEntry 0x15 g (t64At x.stopAt) cancelled (s.val (R.GEN_CUR g))
  else s

/-- GEN_STOP_POINT. -/
def execGenStopPoint (u : Sub) (g : Lane) (s : State) : Host.Outcome State Fault Refusal := done s ((s.atF u).doGenStopPoint g)

/-- The conditions of a start (R192). -/
def State.genMayStart (s : State) (g : Nat) : Bool :=
  s.is (R.GEN_CTRL_EN g) && (s.genState g == genIdle || s.genState g == genStopped || s.genState g == genEnded) && modeDrives s.mode

/-- A write of 1 to START (R192). -/
def State.doGenStart (s : State) (g : Nat) : State :=
  s.ifOn (R.GEN_CTRL g) (fun s =>
    if s.genMayStart g then s.setGen g { s.gen g with startAt := some (s.boundaryFrom 64), resume := false } else s.genRefuse g 7)

/-- GEN_START. -/
def execGenStart (u : Sub) (g : Lane) (s : State) : Host.Outcome State Fault Refusal := done s ((s.atF u).doGenStart g)

/-- A write of 1 to RESUME (R199): a generator stopped by an overdraft continues at the next tick boundary. -/
def State.doGenResume (s : State) (g : Nat) : State :=
  s.ifOn (R.GEN_CTRL g) (fun s =>
    if s.genState g = genStopped ∧ (s.gen g).odStop then s.setGen g { s.gen g with resume := true, startAt := some s.nextTickU } else s)

/-- GEN_RESUME. -/
def execGenResume (u : Sub) (g : Lane) (s : State) : Host.Outcome State Fault Refusal := done s ((s.atF u).doGenResume g)

/-- A write of 1 to LIST_CLR: in IDLE with EN 0 (R202). -/
def State.doGenListClr (s : State) (g : Nat) : State :=
  s.ifOn (R.GEN_CTRL g) (fun s =>
    if s.genConfigurable g then ((s.put (R.GEN_WR_COUNT g) 0).put (R.GEN_DONE_COUNT g) 0).setGen g { s.gen g with entries := [] } else s)

/-- GEN_LIST_CLR. -/
def execGenListClr (u : Sub) (g : Lane) (s : State) : Host.Outcome State Fault Refusal := done s ((s.atF u).doGenListClr g)

/-- A write of 1 to GEN_CTRL.CLR_STATS. -/
def State.doGenClrStats (s : State) (g : Nat) : State :=
  s.ifOn (R.GEN_CTRL g) (fun s => s.putAll [R.GEN_OD_COUNT g, R.GEN_OD_TICKS g, R.GEN_REFILL_REJ g] 0)

/-- GEN_CLR_STATS. -/
def execGenClrStats (g : Lane) (s : State) : Host.Outcome State Fault Refusal := done s (s.doGenClrStats g)

/-- Generators of GEN_GO_MASK. -/
def State.goMask (s : State) : List Nat := bitsOf 48 (s.val R.GEN_GO_MASK_LO + 2 ^ 32 * s.val R.GEN_GO_MASK_HI)

/-- The boundary that the T64 in GEN_GO_TICK names, in the field half's era, in units; its cycle and fraction are not used (R192). -/
def State.goAt (s : State) : Nat := (s.time.fEra * ticksPerEra + (T64.unpack (s.val64 R.GEN_GO_TICK_LO)).tick) * unitsPerTick

/-- A write of 1 to ARM (R192): a tick that has passed makes the start late, at the next tick boundary, and the Ledger records it. -/
def State.doGoArm (s : State) : State :=
  s.ifOn R.GEN_GO_CTRL (fun s =>
    let gs := s.goMask.filter (fun g => s.powered (R.GEN_CTRL g) && s.genMayStart g)
    let late := decide (s.goAt < s.fU)
    let at_ := if late then s.nextTickU else s.goAt
    let s1 := gs.foldl (fun t g =>
      (t.setGen g { t.gen g with before := t.genState g, startAt := some at_ }).set (R.GEN_STAT_STATE g) genArmed) (s.set R.GEN_GO_CTRL_ARM 1)
    if late && !gs.isEmpty then s1.ledgerF 0x15 0x80FF 0 (leBytes 4 (Config.causeCode 192 0)) else s1)

/-- GEN_GO_ARM. -/
def execGenGoArm (u : Sub) (s : State) : Host.Outcome State Fault Refusal := done s (s.atF u).doGoArm

/-- Every ARMED generator takes its first entry at the GO boundary (R192): a shared reset. ARM reads 1 until then. -/
def State.doGo (s : State) : State :=
  let due := (List.range 48).any (fun g => (s.gen g).startAt.any (fun b => decide (b ≤ s.fU)) && s.genState g == genArmed)
  let s1 := (List.range 48).foldl (fun t g =>
    match (t.gen g).startAt with
    | some b => if t.genState g = genArmed ∧ b ≤ t.fU then t.genFirst g b else t
    | none => t) s
  if due then s1.set R.GEN_GO_CTRL_ARM 0 else s1

/-- GEN_GO. -/
def execGenGo (u : Sub) (s : State) : Host.Outcome State Fault Refusal := done s (s.atF u).doGo

/-- A write of 1 to CANCEL (R192). -/
def State.doGoCancel (s : State) : State :=
  s.ifOn R.GEN_GO_CTRL (fun s =>
    (List.range 48).foldl (fun t g =>
      if t.genState g = genArmed then (t.setGen g { t.gen g with startAt := none }).set (R.GEN_STAT_STATE g) (t.gen g).before else t)
      (s.set R.GEN_GO_CTRL_ARM 0))

/-- GEN_GO_CANCEL. -/
def execGenGoCancel (u : Sub) (s : State) : Host.Outcome State Fault Refusal := done s (s.atF u).doGoCancel

/-- Fuel of the playback of one command: more than the entries that a tick of samples can need. -/
def playFuel : Nat := 20000

/-- A generator stopped by an overdraft continues at its boundary, at the same exact entry or sample (R199). -/
def State.genContinue (s : State) (g t : Nat) : State :=
  let x := s.gen g
  let s0 := s.setGen g { x with startAt := none, resume := false, readyAt := none }
  if x.odSample then
    match s0.genNextEntry g with
    | none => s0.genOverdraft g t true
    | some e =>
      let s1 := s0.genOdEnd g t
      let y := s1.gen g
      let started := y.inRun || entryKind e != kindData
      let y1 := if started then y else { y with inRun := true, pos := (y.last.map Prod.snd).getD 0, readN := 0 }
      ((s1.setGen g { y1 with frozen := false, posAt := t, rest := false }).set (R.GEN_STAT_STATE g) genRunning).playRun playFuel g t
  else s0.genStepTo g t

/-- GENERATOR_STEP (R182, R191): the first entry at its boundary, the step where the DWELL has ended, the progress of playback, and a clamp of
the output (`clip`) that the drive path showed. -/
def State.doGenStep (s : State) (g : Nat) (clip : Bool) : State :=
  let x := s.gen g
  let s1 := match x.startAt with
    | some b =>
      if s.genState g ≠ genArmed ∧ b ≤ s.fU then (if x.resume then s.genContinue g b else s.genFirst g b) else s
    | none =>
      if x.inRun then s.playRun playFuel g s.fU
      else if s.genState g = genRunning ∧ x.od = none ∧ x.cur.isSome ∧ x.dueAt ≤ s.fU then s.genStepTo g x.dueAt
      else s
  s1.genClip g clip

/-- GENERATOR_STEP. -/
def execGeneratorStep (u : Sub) (g : Lane) (clip : Bool) (s : State) : Host.Outcome State Fault Refusal := done s ((s.atF u).doGenStep g clip)

/-- The entry that waited steps at an instant: in a playback run the held output goes on (R191). -/
def State.genWaitOver (s : State) (g t : Nat) : State :=
  let x := s.gen g
  if x.inRun then
    (((s.setGen g { x with frozen := false, posAt := t, trigAt := none }).genUseEnds g).set (R.GEN_STAT_STATE g) genRunning).playRun playFuel g t
  else s.genStepTo g t

/-- A WAIT entry steps 24 cycles after its trigger, on the grid (R182, R183). -/
def State.doTriggeredStep (s : State) (g : Nat) : State :=
  match (s.gen g).trigAt with
  | some t0 =>
    let t := gridUp (t0 + 24 * 256)
    if s.genState g = genWaiting ∧ (s.gen g).od = none ∧ t < s.nextTickU then (s.reachF t).genWaitOver g t else s
  | none => s

/-- TRIGGERED_STEP. -/
def execTriggeredStep (g : Lane) (s : State) : Host.Outcome State Fault Refusal := done s (s.doTriggeredStep g)

/-- A WAIT entry with no trigger steps at the last of its DWELL boundaries (R183). -/
def State.doTrigTimeout (s : State) (g : Nat) : State :=
  let x := s.gen g
  match x.cur with
  | some e =>
    if s.genState g = genWaiting ∧ x.od = none ∧ x.trigAt = none ∧ entryDwell e ≠ 0 ∧ x.dueAt ≤ s.fU then
      (s.set (R.GEN_EVT_TRIG_TIMEOUT g) 1).genWaitOver g x.dueAt
    else s
  | none => s

/-- TRIG_TIMEOUT. -/
def execTrigTimeout (u : Sub) (g : Lane) (s : State) : Host.Outcome State Fault Refusal := done s ((s.atF u).doTrigTimeout g)

/-- Under HOLD and REST the generator continues at the first tick boundary after the missing entry is accepted (R199). -/
def State.doGenOdEnd (s : State) (g : Nat) : State :=
  let x := s.gen g
  match x.od, x.readyAt with
  | some _, some b => if !x.odStop ∧ b ≤ s.fU then s.genContinue g b else s
  | _, _ => s

/-- GEN_OVERDRAFT_END. -/
def execGenOverdraftEnd (u : Sub) (g : Lane) (s : State) : Host.Outcome State Fault Refusal := done s ((s.atF u).doGenOdEnd g)

/-- Ticks in overdraft count at each tick boundary (R198, R199). -/
def State.genTickAll (s : State) : State :=
  (List.range 48).foldl (fun t g =>
    match (t.gen g).od with
    | some (t0, n, i) => (t.setGen g { t.gen g with od := some (t0, n + 1, i) }).genCount g (R.GEN_OD_TICKS g) 1
    | none => t) s

/-! ### Refill (R179) -/

/-- The first reason of R179 for refusing a refill of `n` entries from index `i`, `given` entries long; 0 for none. -/
def State.genRefillReason (s : State) (g i n given : Nat) : Nat :=
  let len := s.genLen g
  let x := s.gen g
  let cur := s.val (R.GEN_CUR g)
  if 47 < g then 5
  else if len < i + n then 1
  else if s.genStream g ∧ i ≠ s.val (R.GEN_WR_COUNT g) % len then 2
  else if (!s.genStream g ∧ x.cur.isSome ∧ i ≤ cur ∧ cur < i + n) ∨ (s.genStream g ∧ len - s.genHeld g < n) then 3
  else if s.is (R.GEN_STAT_BUSY g) then 4
  else if given ≠ n then 5
  else 0

/-- Write entries from an index on. -/
def putEntries : List (Nat × List Byte) → Nat → Nat → List Byte → List (Nat × List Byte)
  | l, _, 0, _ => l
  | l, i, n + 1, b => putEntries ((i, b.take 32) :: l.filter (fun x => x.1 != i)) (i + 1) n (b.drop 32)

/-- A list refill is accepted whole or rejected whole (R179). -/
def State.genRefill (s : State) (g i n tag given : Nat) (bytes : List Byte) : State :=
  let r := s.genRefillReason g i n given
  if r ≠ 0 then
    let s1 := if 47 < g then s else s.genCount g (R.GEN_REFILL_REJ g) 1
    let d := tag % 65536 + 65536 * r
    if 47 < g then s1.fieldEvent 0x15 0x0003 g s1.fNow.pack (leBytes 4 d) else s1.genEvt g (R.GEN_EVT_REFILL_REJ g) 0x0003 d
  else
    let x := s.gen g
    let s1 := (s.setGen g { x with entries := putEntries x.entries i n bytes }).wrapCount (R.GEN_WR_COUNT g) n
    let y := s1.gen g
    if y.od.isSome && y.readyAt.isNone && (s1.genNextEntry g).isSome then s1.setGen g { y with readyAt := some s1.nextTickU } else s1

end Sys2Proof.Machine
end

