-- ==== Sys2Proof/Machine/RegWrite.lean ====
section
/-! DEFINITION. Register writes (R8, R10, R490): each field of a register acts by its access code; a field that a row of the operation table names acts as
that row's command; and the accesses of the host link. -/

namespace Sys2Proof.Machine

/-- The state that a command's meaning hands on. [DESIGN CHOICE, log 16, unsafe] -/
def State.after (s : State) (c : State → Host.Outcome State Fault Refusal) : State :=
  match c s with
  | .next t => t
  | _ => s

/-- A command that a written 1 brings about. [DESIGN CHOICE, log 16, unsafe] -/
def State.sc (s : State) (v : Word) (b : Nat) (c : State → Host.Outcome State Fault Refusal) : State :=
  if v.getLsbD b then s.after c else s

/-- The word of a register after a write: RW fields take the value, ones clear W1C bits, every other field stays (R10). -/
def plainWord (r : RegRow) (old v : Word) : Word :=
  let rw := accMask r.fields .rw
  let w1c := accMask r.fields .w1c
  ((old &&& ~~~rw) ||| (v &&& rw)) &&& ~~~(v &&& w1c)

/-- RW and W1C fields of a register act on a write; nothing happens where no register is (R7). -/
def State.plainWrite (s : State) (a : Nat) (v : Word) : State :=
  match rowAt a with
  | some r => s.wr a (plainWord r (s.rd a) v)
  | none => s

/-- A plain write that leaves some bits of the register as they are. -/
def State.plainBut (s : State) (a : Nat) (keep v : Word) : State := s.plainWrite a ((v &&& ~~~keep) ||| (s.rd a &&& keep &&& ~~~(((rowAt a).map (fun r => accMask r.fields .w1c)).getD 0)))

/-- A value within limits. -/
def clampTo (lo hi v : Nat) : Nat := max lo (min hi v)

/-- A field of a written word with its value replaced. -/
def reField (v : Word) (lo w : Nat) (f : Nat → Nat) : Word := withField v lo w (f (fieldOf v lo w))

/-- Numbers of the rows' operands from a register's address. -/
def finOf (n : Nat) [NeZero n] (k : Nat) : Fin n := Fin.ofNat n k

/-! ### Host blocks -/

/-- A write to SYS. -/
def State.writeSys (s : State) (u : Sub) (a : Nat) (v : Word) : State :=
  if a = R.SYS_CTRL then s.sc v 0 (execSysClrStats u)
  else if a = R.SYS_MODE then s.after (execModeRequest u (finOf 16 (fieldOf v 8 4)))
  else if a = R.SYS_DRIVE_INH then (if v.getLsbD 0 then s.after (execSysDriveInhSet u) else s.after (execDriveInhRelease u))
  else if a = R.SYS_PWR_REQ then s.after (execPowerDomainRequest u v)
  else if a = R.SYS_IMG_CTRL then
    (((s.plainWrite a v).sc v 29 (execImgErase u)).sc v 30 (execImgProg u (finOf 8192 (fieldOf v 0 13)))).sc v 31 (execImgActivate u)
  else if a = R.SYS_IMG_OFS then s.plainWrite a (v &&& 0xFFFFFFFC#32)
  else s.plainWrite a v

/-- A write to TIME. -/
def State.writeTime (s : State) (u : Sub) (a : Nat) (v : Word) : State :=
  if a = R.TIME_CTRL then
    let s1 := (s.plainBut a 3#32 v).after (execClockSourceSelect u (finOf 4 (fieldOf v 0 2)))
    (s1.sc v 9 (execTimeClrStats u)).sc v 10 (execEpochLoad u)
  else s.plainWrite a v

/-- A write to CLR. -/
def State.writeClr (s : State) (u : Sub) (a : Nat) (v : Word) : State :=
  if a = R.CLR_CTRL then (s.plainWrite a v).sc v 7 (execClrCtrlClrStats u) else s.plainWrite a v

/-- A write to a bus-master channel's registers. [DESIGN CHOICE, log 16, unsafe; DESIGN CHOICE, log 18, unsafe] -/
def State.writeChan (s : State) (u : Sub) (a : Nat) (v : Word) : State :=
  let c := finOf 16 ((a - 0x41000) / 0x100)
  if a = R.HDMA_C_CTRL c then
    let s1 := (s.plainBut a 1#32 v).sc v 7 (execHdmaCClrStats u c)
    let s2 := if v.getLsbD 0 then s1.after (execHdmaChannelEnable u c) else s1.after (execHdmaDrain u c)
    (s2.sc v 5 (execHdmaDrain u c)).sc v 6 (execHdmaAbort u c [] 0)
  else if a = R.HDMA_C_SIZE c then
    (if s.is (R.HDMA_C_CTRL_EN c) || s.is (R.HDMA_C_STAT_BUSY c) then s else s.plainWrite a (wordOf (ringSize (fieldOf v 0 13))))
  else if a = R.HDMA_C_TAIL c then s.after (execDescriptorPost u c (finOf 4096 (fieldOf v 0 12)))
  else s.plainWrite a v

/-- A write to HDMA (R371). -/
def State.writeHdma (s : State) (u : Sub) (a : Nat) (v : Word) : State :=
  if 0x41000 ≤ a ∧ a < 0x42000 then s.writeChan u a v
  else if a = R.HDMA_CTRL then
    let on := v.getLsbD 0 && !s.is R.HDMA_CTRL_EQ_EN
    let s1 := s.plainWrite a v
    let s2 := if on then { s1 with hdma := { s1.hdma with eqCount := 0 } } else s1
    s2.sc v 1 (execHdmaClrStats u)
  else if a = R.HDMA_EQ_SIZE then (if s.is R.HDMA_CTRL_EQ_EN then s else s.plainWrite a (wordOf (ringSize (fieldOf v 0 13))))
  else if R.HDMA_EVEC 0 ≤ a ∧ a ≤ R.HDMA_EVEC 31 then
    s.plainWrite a (reField v 0 6 (fun n => if n = 0 ∨ (2 ≤ n ∧ n ≤ 18) then 1 else n))
  else s.plainWrite a v

/-- A write to STOR (R395). -/
def State.writeStor (s : State) (u : Sub) (a : Nat) (v : Word) : State :=
  if a = R.STOR_CTRL then
    let s1 := s.sc v 3 (execStorClrStats u)
    let s2 := if (v.getLsbD 0) == s1.is R.STOR_CTRL_EN then s1 else s1.after (execStorEnWrite u (v.getLsbD 0))
    (s2.sc v 1 (execStorFormat u)).sc v 2 (execSealNow u)
  else if a = R.STOR_CFG then
    (if s.is R.STOR_CTRL_EN then s.plainBut a 0x7F00#32 v else s.plainWrite a (reField v 8 7 (clampTo 1 64)))
  else if a = R.STOR_SEAL_INT then s.plainWrite a (wordOf (clampTo 10000 6000000 v.toNat))
  else if a = R.STOR_PIN_CTRL then (s.plainWrite a v).sc v 8 (execPinAdd u)
  else if a = R.STOR_RD_CTRL then
    (if s.is R.STOR_RD_CTRL_GO then s else s.plainWrite a (reField v 0 11 (clampTo 1 1024))).sc v 31 (execStoreRead u)
  else s.plainWrite a v

/-- A write to LDG. -/
def State.writeLdg (s : State) (u : Sub) (a : Nat) (v : Word) : State :=
  if a = R.LDG_CTRL then (s.sc v 0 (execLdgClrStats u)).sc v 1 (execLdgNote u) else s.plainWrite a v

/-- A write to SEC: the windows take no write while their contents are verified; SUBMIT finds SERVICE_EN as SEC_STAT shows it. -/
def State.writeSec (s : State) (u : Sub) (a : Nat) (v : Word) : State :=
  if a = R.SEC_CTRL then
    (((s.sc v 3 (execSecClrStats u)).sc v 1 (execPacketSubmit u (s.is R.SEC_STAT_SERVICE_EN))).sc v 2 (execTokenSubmit u)).sc v 0 (execArGo u)
  else if R.SEC_TOK_WORD 0 ≤ a ∧ s.is R.SEC_STAT_VERIFY_BUSY then s
  else if a = R.SEC_PKT_LEN ∧ s.is R.SEC_STAT_VERIFY_BUSY then s
  else if R.SEC_NONCE 0 ≤ a ∧ a ≤ R.SEC_NONCE 7 ∧ s.is R.SEC_STAT_AR_BUSY then s
  else s.plainWrite a v

/-- A write to FLT and AVAIL (R443, R452): the REACT field of a source outside the protection class is RW, in the bits that the source can take. -/
def State.writeFlt (s : State) (u : Sub) (a : Nat) (v : Word) : State :=
  if a = R.FLT_CTRL then (s.sc v 0 (execFltClrStats u)).sc v 1 (execClrFirst u)
  else if R.FLT_PEND 0 ≤ a ∧ a ≤ R.FLT_PEND 4 then s.after (execFltPendClear u (finOf 5 ((a - R.FLT_PEND 0) / 4)) v)
  else if R.FLT_FORCE 0 ≤ a ∧ a ≤ R.FLT_FORCE 4 then
    s.after (execFaultForce u (finOf 5 ((a - R.FLT_FORCE 0) / 4)) v (s.is R.SEC_STAT_SERVICE_EN))
  else if plainAct a then
    let id := (a - R.FLT_ACT 0) / 4
    s.set (R.FLT_ACT_REACT id) (fieldOf v 0 6 &&& Config.faultActMask id)
  else s.plainWrite a v

/-- The update states in which UPD_CHECK takes no write: ARMED, ACTIVATING and CHECKING. -/
def State.checkFixed (s : State) : Bool :=
  let st := s.get R.UPD_STAT_STATE
  st == updArmed || st == updActivating || st == updChecking

/-- A write to UPD (R468). -/
def State.writeUpd (s : State) (u : Sub) (a : Nat) (v : Word) : State :=
  if a = R.UPD_CTRL then
    let s1 := (((s.plainWrite a v).sc v 1 (execUpdErase u)).sc v 2 (execUpdProg u (finOf 8192 (fieldOf v 16 13)))).sc v 3 (execUpdVerify u)
    (s1.sc v 4 (execUpdArm u (v.getLsbD 6))).sc v 5 (execUpdCancel u)
  else if a = R.UPD_OFS then s.plainWrite a (v &&& 0xFFFFFFFC#32)
  else if a = R.UPD_CHECK then (if s.checkFixed then s else s.plainWrite a (reField v 0 16 (clampTo 10 600)))
  else if a = R.UPD_ACT_SEC_LO ∨ a = R.UPD_ACT_SEC_HI then (if s.get R.UPD_STAT_STATE = updStaged then s.plainWrite a v else s)
  else s.plainWrite a v

/-- A write to ISO. -/
def State.writeIso (s : State) (u : Sub) (a : Nat) (v : Word) : State :=
  if a = R.ISO_CTRL then (s.sc v 1 (execIsoClrStats u)).sc v 0 (execIsoRetrain u) else s.plainWrite a v

/-- A write to a host block. -/
def State.writeHost (s : State) (u : Sub) (a : Nat) (v : Word) : State :=
  match blockCode a with
  | 0 => s.writeSys u a v
  | 1 => s.writeTime u a v
  | 2 => s.writeClr u a v
  | 3 => s.writeHdma u a v
  | 4 => s.writeStor u a v
  | 5 => s.writeSec u a v
  | 6 => s.writeFlt u a v
  | 7 => s.writeUpd u a v
  | 8 => s.writeLdg u a v
  | _ => s.writeIso u a v

/-! ### Field blocks -/

/-- A write to SEQ (R131, R174). -/
def State.writeSeq (s : State) (u : Sub) (a : Nat) (v : Word) : State :=
  if a = R.SEQ_CTRL then
    let s1 := (s.plainBut a 0x10#32 v).sc v 11 (execSeqClrStats)
    let s2 := (s1.sc v 5 (execWinApply u)).sc v 6 (execSeqStart u)
    let s3 := if v.getLsbD 4 then s2.after (execSeqPause u) else if s2.is R.SEQ_CTRL_PAUSE then s2.after (execPauseClear u) else s2
    (((s3.sc v 7 (execSeqStop u)).sc v 8 (execSeqStep u)).sc v 9 (execHostJump u)).sc v 10 (execSeqResume u)
  else if a = R.SEQ_FAIL_CTRL then
    let s1 := (s.sc v 2 execSeqFailClrStats).after (execFwdMaxWrite u (finOf 256 (fieldOf v 8 8)))
    (s1.sc v 0 (execFailClear u)).sc v 1 (execFailDump u)
  else if a = R.SEQ_FAIL_SIZE then s.plainWrite a (reField v 0 11 (min 1024))
  else if a = R.SEQ_WIN_COUNT then s.plainWrite a (reField v 0 11 (clampTo 1 1820))
  else if R.SEQ_PERIOD 0 ≤ a ∧ a ≤ R.SEQ_PERIOD 63 then s.tsWrite a (wordOf (max 255 (fieldOf v 0 24)))
  else if R.SEQ_UREG 1 ≤ a ∧ a ≤ R.SEQ_UREG 15 then s.setUreg ((a - R.SEQ_UREG 0) / 4) v.toNat
  else s.plainWrite a v

/-- A write to USTORE. -/
def State.writeUstore (s : State) (a : Nat) (v : Word) : State :=
  if a = R.USTORE_CTRL then s.sc v 0 execUstoreClrStats
  else if a = R.USTORE_SAFE_WDOG then s.plainWrite a (reField v 0 12 (clampTo 64 4000))
  else s.plainWrite a v

/-- A write to PIN_CAPT: an EN that is set, or a BUDGET that changes while it is, goes to the tick planner (R63, R122). -/
def State.writeCapt (s : State) (p : Nat) (v : Word) : State :=
  let w := v &&& 0x8FFF00FF#32
  let old := s.rd (R.PIN_CAPT p)
  if !w.getLsbD 31 then s.releaseBudget (s.wr (R.PIN_CAPT p) w)
  else if !modeStreams s.mode then s.wr (R.PIN_CAPT p) (w &&& 0x7FFFFFFF#32)
  else if old.getLsbD 31 && fieldOf old 16 12 == fieldOf w 16 12 then s.wr (R.PIN_CAPT p) w
  else
    let b := s.boundaryAfter 4
    let r := s.submit (s.wr (R.PIN_CAPT p) w) [.capture p]
    if r.2 then
      (if old.getLsbD 31 then r.1
       else r.1.setPinRt p { r.1.pinRt p with captFrom := absTick b.2 b.1 * unitsPerTick })
    else r.1.wr (R.PIN_CAPT p) ((old &&& 0x8FFF0000#32) ||| (w &&& 0xFF#32))

/-- A write to a channel (R130). [DESIGN CHOICE, log 16, unsafe] -/
def State.writePin (s : State) (u : Sub) (a : Nat) (v : Word) : State :=
  let p := finOf 256 ((a - 0x1400000) / 0x1000)
  if a = R.PIN_CTRL p then
    let s1 := (s.plainBut a 1#32 v).sc v 2 (execPinClrStats p)
    let s2 := if v.getLsbD 0 then s1.after (execPinEnable u p) else s1.after (execPinDisable u p)
    s2.sc v 3 (execDeskew u p)
  else if a = R.PIN_DRV_HI p then s.after (execPinLevelWrite u p .drvHi v)
  else if a = R.PIN_DRV_LO p then s.after (execPinLevelWrite u p .drvLo v)
  else if a = R.PIN_CMP_HI p then s.after (execPinLevelWrite u p .cmpHi v)
  else if a = R.PIN_CMP_LO p then s.after (execPinLevelWrite u p .cmpLo v)
  else if a = R.PIN_TERM p then s.after (execPinLevelWrite u p .term v)
  else if a = R.PIN_CAPT p then s.writeCapt p v
  else if R.PIN_TS_DON p 0 ≤ a ∧ a < R.PIN_TS_MODE p 0 then s.tsWrite a (v &&& 0xFFFFFF#32)
  else if R.PIN_TS_MODE p 0 ≤ a ∧ a ≤ R.PIN_TS_MODE p 63 then
    s.tsWrite a ((reField v 0 4 (fun n => if 6 ≤ n then 0 else n)) &&& 0x1F#32)
  else s.plainWrite a v

/-- A write to GEN (R202). [DESIGN CHOICE, log 16, unsafe] -/
def State.writeGen (s : State) (u : Sub) (a : Nat) (v : Word) : State :=
  if a = R.GEN_GO_CTRL then (s.sc v 0 (execGenGoArm u)).sc v 1 (execGenGoCancel u)
  else if 0x1A30000 ≤ a then s.plainWrite a v
  else
    let g := finOf 48 ((a - 0x1A00000) / 0x1000)
    if a = R.GEN_CTRL g then
      let keep : Word := if s.genState g = 0 then 1#32 else 0x11#32
      let s1 := ((s.plainBut a keep v).sc v 7 (execGenClrStats g)).sc v 8 (execGenListClr u g)
      let s2 := if v.getLsbD 0 then s1.after (execGenEnable u g) else if s1.is (R.GEN_CTRL_EN g) then s1.after (execGenDisable u g) else s1
      (s2.sc v 5 (execGenStart u g)).sc v 6 (execGenResume u g)
    else if a = R.GEN_CFG g then s.after (execGenCfgWrite u g v)
    else if a = R.GEN_LIST g then s.after (execGenListWrite u g v)
    else s.plainWrite a v

/-- A write to LANE (R230). -/
def State.writeLane (s : State) (u : Sub) (a : Nat) (v : Word) : State :=
  let l := finOf 48 ((a - 0x1800000) / 0x4000)
  if a = R.LANE_CTRL l then ((s.sc v 1 (execLaneClrStats l)).sc v 0 (execLaneApply u l)).sc v 2 (execBurstGo u l)
  else if a = R.LANE_CFG l then s.plainWrite a (reField v 4 2 (fun n => if n = 3 then 0 else n))
  else if a = R.LANE_FILT l then
    s.plainWrite a (reField (reField v 8 8 (clampTo 1 128)) 4 3 (fun n => if 5 ≤ n then 0 else n))
  else if a = R.LANE_STREAM l then s.after (execLaneStreamWrite u l v)
  else if a = R.LANE_RAW l then s.plainWrite a (reField v 0 16 (max 1))
  else s.plainWrite a v

/-- A trigger's, selector's or combiner's words have changed and act at the next tick boundary (R244). -/
def State.acqDirty (s : State) (a : Nat) : State :=
  if a < 0x1B01800 then
    let l := (a - 0x1B01000) / 0x20
    s.setLtrig l { s.ltrig l with dirty := true }
  else if a < 0x1B02000 then
    let k := (a - 0x1B01800) / 4
    s.setPe k { s.pe k with dirty := true }
  else
    let c := (a - 0x1B02000) / 0x40
    s.setComb c { s.comb c with dirty := true }

/-- A capture group's configuration changes only while its EN reads 0 (R264). -/
def State.writeGroup (s : State) (u : Sub) (a : Nat) (v : Word) : State :=
  let n := finOf 4 ((a - 0x1B03000) / 0x40)
  let on := s.is (R.ACQ_GRP_CTRL_EN n)
  if a = R.ACQ_GRP_CTRL n then
    let s1 := s.sc v 28 (execGrpClrStats n)
    if on then (if v.getLsbD 31 then s1 else s1.after (execGroupDisable u n))
    else if v.getLsbD 31 then s1.after (execGroupEnable u n v) else s1.plainWrite a v
  else if on then s
  else if a = R.ACQ_GRP_NSEG n ∨ a = R.ACQ_GRP_ACC_N n then s.plainWrite a (reField v 0 25 (clampTo 1 16777216))
  else s.plainWrite a v

/-- A write to ACQ (R264). -/
def State.writeAcq (s : State) (u : Sub) (a : Nat) (v : Word) : State :=
  if a = R.ACQ_CTRL then s.sc v 0 (execHostTrig u)
  else if 0x1B01000 ≤ a ∧ a < 0x1B02000 ∧ (rowAt a).isSome then
    (if a % 0x20 = 0 ∧ a < 0x1B01800 then s.plainWrite a (reField (reField v 26 2 (fun n => if n = 3 then 0 else n)) 21 2 (min 2))
     else s.plainWrite a v).acqDirty a
  else if 0x1B02000 ≤ a ∧ a < 0x1B02400 then
    let c := finOf 16 ((a - 0x1B02000) / 0x40)
    if a = R.ACQ_COMB_CTRL c then
      let s1 := s.plainWrite a v
      let s2 := if s1.rd a = s.rd a then s1 else s1.acqDirty a
      (s2.sc v 26 (execCombClrStats u c)).sc v 27 (execCombRearm u c)
    else if a ≤ R.ACQ_COMB_SEQWIN c ∧ (rowAt a).isSome then (s.plainWrite a v).acqDirty a
    else s.plainWrite a v
  else if 0x1B03000 ≤ a ∧ a < 0x1B03100 then s.writeGroup u a v
  else if 0x1B04000 ≤ a ∧ a < 0x1B04600 then
    let l := finOf 48 ((a - 0x1B04000) / 0x20)
    if a = R.ACQ_RED_CTRL l then
      let s1 := s.sc v 24 (execRedClrStats l)
      if v.getLsbD 25 then s1.after (execRedApply u l v) else s1.wr a (redCtrlStored v)
    else if a = R.ACQ_RED_EDGE_MAX l then s.plainWrite a (reField v 0 16 (max 1))
    else s.plainWrite a v
  else s.plainWrite a v

/-- A write to a Tally unit: its configuration takes no write while EN reads 1, but for the selection of the bin shown (R265). -/
def State.writeUnit (s : State) (u : Sub) (t : TallyUnit) (a : Nat) (v : Word) : State :=
  let on := s.is (unitEn t)
  if a = unitCtrl t then
    let s1 := s.sc v 27 (execTallyClear u t)
    if on then (if v.getLsbD 31 then s1 else s1.tallyStop t)
    else if v.getLsbD 31 then s1.after (execTallyEnable u t v) else s1.wr a (unitWord t v &&& 0x7FFFFFFF#32)
  else
    match t with
    | .hist h => if a = R.TLY_H_SEL h then s.plainWrite a v else if on then s else s.plainWrite a v
    | .map m =>
      if a = R.TLY_M_SEL m then s.plainWrite a v
      else if on then s
      else if a = R.TLY_M_TBIN m then s.plainWrite a (wordOf (max 1 v.toNat))
      else s.plainWrite a v

/-- A write to TLY (R265). -/
def State.writeTly (s : State) (u : Sub) (a : Nat) (v : Word) : State :=
  if a = R.TLY_CTRL then s.sc v 0 (execTallySnap u)
  else if 0x1C01000 ≤ a ∧ a < 0x1C01C00 then s.writeUnit u (.hist (finOf 48 ((a - 0x1C01000) / 0x40))) a v
  else if 0x1C04000 ≤ a ∧ a < 0x1C04200 then s.writeUnit u (.map (finOf 8 ((a - 0x1C04000) / 0x40))) a v
  else s.plainWrite a v

/-- A write to a compare pair: its configuration takes no write while EN reads 1 (R285). [DESIGN CHOICE, log 18, unsafe] -/
def State.writePair (s : State) (u : Sub) (a : Nat) (v : Word) : State :=
  let p := finOf 128 ((a - 0x1D01000) / 0x80)
  let on := s.is (R.CMP_P_CTRL_EN p)
  if a = R.CMP_P_CTRL p then
    let s1 := s.sc v 1 (execCmpPClrStats u p)
    let s2 := if v.getLsbD 0 then s1.after (execPairEnable u p) else if on then s1.after (execPairDisable u p []) else s1
    s2.sc v 2 (execRelearn u p)
  else if on then s
  else if a = R.CMP_P_SPER p then s.plainWrite a (wordOf (max 2560 v.toNat))
  else if a = R.CMP_P_NEAR p then s.plainWrite a (wordOf (max (s.val (R.CMP_P_TOL p)) v.toNat))
  else if a = R.CMP_P_LEARN p then s.plainWrite a (reField (reField v 16 16 (clampTo 1 4096)) 8 8 (clampTo 1 100))
  else s.plainWrite a v

/-- A write to CMP (R289). -/
def State.writeCmp (s : State) (u : Sub) (a : Nat) (v : Word) : State :=
  if a = R.CMP_CTRL then (s.plainWrite a v).sc v 0 (execCmpClrStats u)
  else if R.CMP_RPL_SHIFT_LO ≤ a ∧ a ≤ R.CMP_RPL_LINK_HI then s.after (execCmpRplWrite u (finOf 6 ((a - R.CMP_RPL_SHIFT_LO) / 4)) v)
  else if 0x1D01000 ≤ a ∧ a < 0x1D05000 then s.writePair u a v
  else s.plainWrite a v

/-- A write to GRD (R305). -/
def State.writeGrd (s : State) (u : Sub) (a : Nat) (v : Word) : State :=
  if a = R.GRD_CTRL then s.sc v 0 execGrdClrStats
  else if a = R.GRD_QUIET then (if v.getLsbD 0 then s.after (execQuietRequest u v) else (s.plainBut a 1#32 v).after (execQuietEnd u))
  else s.plainWrite a v

/-- A run is in progress, and the registers that R328 names take no write. -/
def State.runHolds (s : State) : Bool := s.get R.MET_CAL_STAT_STATE != 0

/-- A write to MET (R328). -/
def State.writeMet (s : State) (u : Sub) (a : Nat) (v : Word) : State :=
  if a = R.MET_MC_CTRL then
    let s1 := (s.plainBut a 2#32 v).sc v 2 (execMcAbort u)
    let s2 := if v.getLsbD 1 then s1.after (execMcCont u) else s1.set R.MET_MC_CTRL_CONT 0
    s2.sc v 0 (execMcStart u)
  else if a = R.MET_SEL then
    (if s.runHolds then s
     else let s1 := s.plainWrite a v
          if s1.rd a = s.rd a then s1 else s1.mcChanged)
  else if a = R.MET_MC_CFG then
    (if s.runHolds then s
     else
       let w := reField (reField (reField (reField v 16 10 (clampTo 1 1000)) 8 2 (min 2)) 4 2 (min 2)) 0 3 (clampTo 1 4)
       let s1 := s.plainWrite a w
       if s1.rd a = s.rd a then s1 else s1.mcChanged)
  else if a = R.MET_CAL_TOL ∨ a = R.MET_CAL_REFV then (if s.runHolds then s else s.plainWrite a v)
  else if a = R.MET_CAL_DT then (if s.runHolds then s else s.plainWrite a (reField v 0 16 (clampTo 100 20000)))
  else if a = R.MET_REF then (if v.getLsbD 0 then s.after (execRefbufOn u) else s.after (execRefbufOff u))
  else if a = R.MET_DDAC then s.after (execDdacEnable u v)
  else if a = R.MET_HK then s.plainWrite a (reField v 0 23 (clampTo 10000 6000000))
  else if a = R.MET_CAL_CTRL then (((s.plainWrite a v).sc v 4 (execMetCalClrStats u)).sc v 0 (execCalRun u)).sc v 1 (execCalAbort u)
  else s.plainWrite a v

/-- A write to POD (R350). -/
def State.writePod (s : State) (u : Sub) (a : Nat) (v : Word) : State :=
  if a = R.POD_CTRL then s.sc v 0 (execPodClrStats u)
  else if 0x1F01000 ≤ a ∧ a < 0x1F02000 then
    let q := finOf 16 ((a - 0x1F01000) / 0x100)
    if a = R.POD_S_CTRL q then
      let s1 := (s.plainBut a 0x60#32 (reField v 0 2 (min 2))).after (execPodHoldWrite u q (v.getLsbD 6))
      ((s1.after (execPodPowerOff u q (v.getLsbD 5))).sc v 7 (execPodRetry u q)).sc v 8 (execPodRecheck u q)
    else s.plainWrite a v
  else s.plainWrite a v

/-- A write to a field block. -/
def State.writeField (s : State) (u : Sub) (a : Nat) (v : Word) : State :=
  match blockCode a with
  | 0x11 => s.writeSeq u a v
  | 0x12 => s.writeUstore a v
  | 0x13 => s.writePin u a v
  | 0x14 => s.writeLane u a v
  | 0x15 => s.writeGen u a v
  | 0x16 => s.writeAcq u a v
  | 0x17 => s.writeTly u a v
  | 0x18 => s.writeCmp u a v
  | 0x19 => s.writeGrd u a v
  | 0x1A => s.writeMet u a v
  | 0x1B => s.writePod u a v
  | _ => s.plainWrite a v

/-! ### Writes with their protection (R490) -/

/-- A write outside an Escrow commit would change a protection-locked bit; FCTL_ESC_GO and FCTL_FATAL take writes of the island alone (R55). -/
def State.plReject (s : State) (r : Requester) (a : Nat) (v : Word) : Bool :=
  if a = R.FCTL_ESC_GO ∨ a = R.FCTL_FATAL then reqNo r != 7
  else if isCword a then s.custWord (s.get R.USTORE_STAT_CUST_BANK) (0xC000 + (a - R.USTORE_CWORD 0) / 4) != v
  else (s.rd a ^^^ v) &&& plMask a != 0

/-- The PL_REJECT entry of a rejected write: address and value. -/
def State.plEntry (s : State) (a : Nat) (v : Word) : State :=
  let d := leBytes 4 a ++ leBytes 4 v.toNat
  if isFieldAddr a then s.ledgerF (blockCode a) 0x8012 0 d else s.ledgerH (blockCode a) 0x8012 0 d

/-- A write reaches its register at an instant of the half's tick: discarded where the domain is off (R19) or no register is (R7). The answer is the STATUS
of R45. -/
def State.writeReg (s : State) (u : Sub) (r : Requester) (a : Nat) (v : Word) : State × Nat :=
  let field := isFieldAddr a
  let s0 := if field then (if blockCode a = 0x11 ∨ blockCode a = 0x12 then s.atSeq u else s.atF u) else s.atH u
  if !s0.powered a then (s0, if field then 1 else 0)
  else if (rowAt a).isNone then (s0, 0)
  else
    let bad := s0.plReject r a v
    let s1 := if bad then s0.plEntry a v else s0
    (if field then s1.writeField u a v else s1.writeHost u a v, if bad then 2 else 0)

/-- A field access of the host half in SEALED is answered there and counted (R429). [DEDUCED, log 19, safe] -/
def State.sealedReject (s : State) : State :=
  (s.satCount R.SYS_SEALED_REJ 32 1 R.SYS_EVT_SATURATED).1

/-- REGISTER_WRITE (R10): the write reaches its register. A write to a field block needs the link, and in SEALED it is discarded and counted (R429). [DESIGN CHOICE, log 15, unsafe] -/
def execRegisterWrite (u : Sub) (r : Requester) (a : Nat) (v : Word) (s : State) : Host.Outcome State Fault Refusal :=
  done s (if isFieldAddr a then
      (if s.mode = 0 ∧ r = .host then (s.atH u).sealedReject else if s.linkUp then (s.writeReg u r a v).1 else s.atH u)
    else (s.writeReg u r a v).1)

/-- RS_READ (R11): a read returns the word, and a read of an RS word snapshots its partner words for the requester. [DESIGN CHOICE, log 15, unsafe] -/
def execRsRead (u : Sub) (r : Requester) (a : Nat) (s : State) : Host.Outcome State Fault Refusal :=
  done s (if isFieldAddr a then
      (if s.mode = 0 ∧ r = .host then ((s.atH u).sealedReject).ioGive (reqNo r) 0xFFFFFFFF#32
       else if !s.linkUp then (s.atH u).ioGive (reqNo r) 0xFFFFFFFF#32
       else
         let s1 := if blockCode a = 0x11 ∨ blockCode a = 0x12 then s.atSeq u else s.atF u
         let x := s1.readReg (reqNo r) a
         x.2.ioGive (reqNo r) x.1)
    else
      let s1 := s.atH u
      let x := s1.readReg (reqNo r) a
      x.2.ioGive (reqNo r) x.1)

end Sys2Proof.Machine
end

