-- ==== Sys2Proof/Machine/Tunnel.lean ====
section
/-! DEFINITION. What crosses the barrier at a half: the fixed filter (R39–R41), sequence numbers (R35), the register tunnel of the host half (R49–R52). -/

namespace Sys2Proof.Machine

/-! ### The fixed filter (R39–R41) -/

/-- A type of the catalogue: its virtual channel, and whether it may go to the host half and to the field half (R41). -/
def catalogue (ty : Nat) : Option (Nat × Bool × Bool) :=
  match ty with
  | 0x01 => some (0, true, true)
  | 0x02 => some (0, false, true)
  | 0x03 => some (0, true, true)
  | 0x10 => some (1, false, true)
  | 0x11 => some (1, false, true)
  | 0x12 => some (1, true, false)
  | 0x20 => some (2, true, false)
  | 0x30 => some (3, true, false)
  | 0x31 => some (3, true, false)
  | 0x40 => some (4, true, false)
  | 0x41 => some (4, true, false)
  | 0x42 => some (4, true, false)
  | 0x50 => some (5, false, true)
  | 0x60 => some (6, false, true)
  | 0x70 => some (7, true, true)
  | 0x71 => some (7, true, true)
  | 0x72 => some (7, false, true)
  | _ => none

/-- LENGTH is `base + step × n` with n from `lo` to `hi`. -/
def stepped (len base step lo hi : Nat) : Bool :=
  decide (base + step * lo ≤ len) && decide (len ≤ base + step * hi) && (len - base) % step == 0

/-- LENGTH is in the permitted set of the type (R41). -/
def lengthOk (ty len : Nat) : Bool :=
  match ty with
  | 0x01 => len == 32
  | 0x02 => len == 256
  | 0x03 => len == 64
  | 0x10 => len == 8
  | 0x11 => stepped len 8 4 1 64
  | 0x12 => stepped len 8 4 0 64
  | 0x20 => decide (64 ≤ len ∧ len ≤ 65535)
  | 0x30 => decide (32 ≤ len ∧ len ≤ 65535)
  | 0x31 => decide (32 ≤ len ∧ len ≤ 65535)
  | 0x40 => len == 32
  | 0x41 => len == 64
  | 0x42 => len == 64
  | 0x50 => stepped len 16 144 1 454
  | 0x60 => stepped len 16 32 1 2047
  | 0x70 => decide (8 ≤ len ∧ len ≤ 4104)
  | 0x71 => decide (16 ≤ len ∧ len ≤ 65535)
  | 0x72 => stepped len 32 64 1 1023
  | _ => false

/-- The reason for which the filter discards a received message (R39); 0 for a message that it passes. -/
def filterReason (m : Msg) (toHost : Bool) : Nat :=
  match catalogue m.ty with
  | none => 1
  | some (vc, h, f) =>
    if m.vc ≠ vc then 2
    else if (if toHost then h else f) = false then 3
    else if !lengthOk m.ty m.len || m.payload.length != m.len then 4
    else if m.rsv ≠ 0 ∨ m.flags.testBit 4 then 5
    else if m.trailer ≠ crc32c (m.header ++ m.payload) then 6
    else if m.ty = 1 ∧ !(decide (1 ≤ leAt m.payload 0 2 ∧ leAt m.payload 0 2 ≤ 3)) then 7
    else 0

/-- ISO_DROP_LAST of a received message that a filter discards: `side` 0 host half, 1 field half. -/
def dropWord (side reason : Nat) (m : Msg) : Nat :=
  side * 2 ^ 31 + 2 ^ 30 + m.vc % 8 * 2 ^ 27 + reason % 8 * 2 ^ 24 + m.ty % 256 * 2 ^ 16 + m.len % 65536

/-- The tick of a message, counted across eras by the host half (R72). -/
def State.msgAbs (s : State) (m : Msg) : Nat :=
  let t := (T64.unpack m.t64).tick
  absTick (eraOf s.time.hTick s.era t) t

/-- The host half's filter discards a message (R40). -/
def State.hostDrop (s : State) (m : Msg) (reason : Nat) : State :=
  let w := dropWord 0 reason m
  let s1 := ((s.isoCount R.ISO_HDROP 1).set R.ISO_EVT_DROP 1).put R.ISO_DROP_LAST w
  { s1 with link := { s1.link with hDropLast := w } }

/-- The field half's filter discards a message; XM_HEALTH reports it (R40, R44). -/
def State.fieldDrop (s : State) (m : Msg) (reason : Nat) : State :=
  { s with link := { s.link with fDrop := min (s.link.fDrop + 1) (2 ^ 32 - 1), fDropLast := dropWord 1 reason m } }

/-- The host half checks a message's sequence number (R35): an unexpected one is accepted, counted, and marks the stream as a gap up to the message. -/
def State.hostSeq (s : State) (m : Msg) : State :=
  let s1 := { s with link := { s.link with rxFH := s.link.rxFH.set m.vc ((m.seq + 1) % 2 ^ 16), lastRx := m.t64 } }
  if m.seq = s.link.rxFH.getD m.vc 0 then s1
  else
    let last := (T64.unpack s.link.lastRx).tick
    ((s1.isoCount R.ISO_SEQ_GAP 1).set R.ISO_EVT_SEQ_GAP 1).availGap (absTick (eraOf s.time.hTick s.era last) last) (s.msgAbs m)

/-- The field half checks a message's sequence number (R35). -/
def State.fieldSeq (s : State) (m : Msg) : State :=
  let gap := if m.seq = s.link.rxHF.getD m.vc 0 then 0 else 1
  { s with link := { s.link with rxHF := s.link.rxHF.set m.vc ((m.seq + 1) % 2 ^ 16), fSeqGap := min (s.link.fSeqGap + gap) (2 ^ 32 - 1) } }

/-- A message with FLAGS.GAP: a gap precedes it in its stream (R33). [DEDUCED, log 39, unsafe] -/
def State.gapNoted (s : State) (m : Msg) : State :=
  if m.flags.testBit 3 then s.availGap (s.msgAbs m) (s.msgAbs m) else s

/-- The host half receives a message of the field half: filter, sequence number, gap flag, then its effect, when it is one that the command stands for.
While a reconfiguration lasts, messages wait (R26). [DEDUCED, log 39, unsafe] -/
def State.hostTake (s : State) (m : Msg) (want : Bool) (f : State → State) : State :=
  if s.get R.ISO_STAT_STATE ≠ 2 then s
  else
    let r := filterReason m true
    if r = 0 ∧ !want then s
    else
      let s1 := ({ s with link := { s.link with outFH := s.link.outFH.erase m } }).wrapCount64 R.ISO_RX_BYTES_LO m.size
      if r ≠ 0 then s1.hostDrop m r else f ((s1.hostSeq m).gapNoted m)

/-- The field half receives a message of the host half. [DEDUCED, log 39, unsafe] -/
def State.fieldTake (s : State) (m : Msg) (want : Bool) (f : State → State) : State :=
  if s.get R.ISO_STAT_STATE ≠ 2 then s
  else
    let r := filterReason m false
    if r = 0 ∧ !want then s
    else
      let s1 := { s with link := { s.link with outHF := s.link.outHF.erase m } }
      if r ≠ 0 then s1.fieldDrop m r else f (s1.fieldSeq m)

/-- Class of an item by its virtual channel (R79). -/
def clsOf (vc : Nat) : Nat :=
  match vc with
  | 4 => 1
  | 3 => 2
  | 2 => 3
  | 7 => 4
  | _ => 5

/-- Header, payload and trailer of a message. -/
def msgBytes (m : Msg) : List Byte := m.header ++ m.payload ++ leBytes 4 m.trailer

/-- A field message passes to Clearing, with its instance (R79). -/
def State.toRecord (s : State) (m : Msg) (inst : Nat) : State :=
  s.toClearing (eraOf s.time.hTick s.era (T64.unpack m.t64).tick) m.t64 (clsOf m.vc) inst 0 (msgBytes m)

/-! ### The tunnel of the host half (R45, R49–R52) -/

/-- A TAG that no access uses: REQ in bits [15:13] and the lowest free number. [DESIGN CHOICE, log 40, unsafe] -/
def State.freeTag (s : State) (req : Nat) : Nat :=
  let used (t : Nat) : Bool :=
    s.link.inFlight.any (fun x => x.tag == t) || s.link.waiting.any (fun x => x.tag == t) || s.link.expired.any (fun x => x.1 == t)
  ((List.range 8192).find? (fun n => !used (req * 8192 + n))).getD 0 + req * 8192

/-- The request of an access crosses when the link is up; it is in flight from now on. -/
def State.tunIssue (s : State) (t : Tun) : State :=
  let x := { t with issued := s.hU, since := s.hU, left := 2048000 }
  let s1 := { s with link := { s.link with inFlight := s.link.inFlight ++ [x] } }
  let head := leBytes 2 t.tag ++ leBytes 2 t.count ++ leBytes 4 t.addr
  if !s1.linkUp then s1
  else if t.write then s1.sendHF 0x11 1 s1.hNow.pack (head ++ t.data.flatMap (fun w => leBytes 4 w.toNat))
  else s1.sendHF 0x10 1 s1.hNow.pack head

/-- Accesses that wait are issued in order while fewer than 32 are in flight (R49). -/
def State.tunNext (s : State) : State :=
  match s.link.waiting with
  | t :: r => if s.link.inFlight.length < 32 then ({ s with link := { s.link with waiting := r } }).tunIssue t else s
  | [] => s

/-- An access to a field block: its TAG, and the state in which it is in flight or waits. -/
def State.tunSubmit (s : State) (req addr count : Nat) (data : Option (List Word)) : Nat × State :=
  let tag := s.freeTag req
  let t : Tun := { req := req, tag := tag, write := data.isSome, addr := addr, count := count, data := data.getD [] }
  (tag, if s.link.inFlight.length < 32 ∧ s.link.waiting = [] then s.tunIssue t
        else { s with link := { s.link with waiting := s.link.waiting ++ [t] } })

/-- An access completes to its requester with a status and its data (R45, R51). -/
def State.tunComplete (s : State) (t : Tun) (status : Nat) (ws : List Word) : State :=
  let s1 := ({ s with link := { s.link with inFlight := s.link.inFlight.filter (fun x => x.tag != t.tag) } }).set R.ISO_TUN_STAT_LAST_STATUS status
  let s2 := if t.write then s1
    else match ws.getLast? with
      | some w => s1.ioGive t.req w
      | none => s1
  s2.tunNext

/-- The response of an access arrives; the longest single-word access is noted. -/
def State.tunAnswer (s : State) (t : Tun) (status : Nat) (ws : List Word) : State :=
  let lat := (s.hU - t.issued) / 256
  let s1 := if t.count = 1 then s.put R.ISO_TUN_LAT_MAX (max (s.val R.ISO_TUN_LAT_MAX) lat) else s
  s1.tunComplete t status ws

/-- An access that has waited 2 ticks since its issue, reconfigurations apart (R51). -/
def State.tunOverdue (s : State) (tag : Nat) : Option Tun :=
  s.link.inFlight.find? (fun t => t.tag == tag && s.get R.ISO_STAT_STATE != 3 && decide (t.left ≤ s.hU - t.since))

/-- The timeout of an access (R51). -/
def State.tunTimeout (s : State) (t : Tun) : State :=
  let s1 := (s.isoCount R.ISO_TUN_TIMEOUT 1).set R.ISO_EVT_TUN_TIMEOUT 1
  ({ s1 with link := { s1.link with expired := s1.link.expired ++ [(t.tag, s1.hU)] } }).tunComplete t 4 [0xFFFFFFFF#32]

end Sys2Proof.Machine
end

