-- ==== Sys2Proof/Machine/Startup.lean ====
section
/-! DEFINITION. Start-up (R416–R428): the steps of R417, the protection set (R419), the configuration image and its records (R420–R423); the domains that come
on; power-up, the loss of 12 V, the module reset (R73, R442, R447, R482). -/

namespace Sys2Proof.Machine

/-! ### The image's records (R421, R423) -/

/-- A record that names a register: WRITE. -/
def isWriteRec (r : List Byte) : Bool := recKind r == 1
/-- A WRITE that applies at step 3: its register lies in a host block and is not SYS_DRIVE_INH. -/
def isHostRec (r : List Byte) : Bool := isWriteRec r && !isFieldAddr (recTarget r) && recTarget r != R.SYS_DRIVE_INH

/-- The word that a WRITE writes: the bits set in MASK take VALUE, every other bit keeps what the register holds; bits that act on a 1 take 0. -/
def State.recWord (s : State) (r : List Byte) : Word :=
  let a := recTarget r
  let m := BitVec.ofNat 32 (recMask r)
  let acts := match rowAt a with
    | some x => accMask x.fields .w1c ||| accMask x.fields .sc ||| accMask x.fields .wo
    | none => 0
  (s.rd a &&& ~~~acts &&& ~~~m) ||| (BitVec.ofNat 32 (recArg r) &&& m)

/-- An enable that a WRITE sets was refused: a one-bit RW field that it sets to 1 reads 0 afterwards; or SYS_DRIVE_INH was not released. [DESIGN CHOICE, log 33, unsafe] -/
def State.recRefused (s : State) (r : List Byte) : Bool :=
  let a := recTarget r
  let set := BitVec.ofNat 32 (recMask r) &&& BitVec.ofNat 32 (recArg r)
  (match rowAt a with
    | some x => x.fields.any (fun f => f.w == 1 && f.acc == .rw && set.getLsbD f.lo && !(s.rd a).getLsbD f.lo)
    | none => false)
    || (a == R.SYS_DRIVE_INH && (recMask r).testBit 0 && !(recArg r).testBit 0 && s.is R.SYS_DRIVE_INH_INH)

/-- A record failed (R423): SYS_BOOT.IMG_ERR and a Ledger entry with its index. [DESIGN CHOICE, log 33, unsafe] -/
def State.recFail (s : State) (i : Nat) : State :=
  ((s.satField R.SYS_BOOT_IMG_ERR 1 R.SYS_EVT_SATURATED).1).ledgerH 0x00 0x80FF 0 (leBytes 4 i)

/-- A record of a host register applies. -/
def State.hostRec (s : State) (x : Nat × List Byte) : State :=
  let s1 := (s.writeReg ⟨0, by decide⟩ .mgmt (recTarget x.2) (s.recWord x.2)).1
  if s1.recRefused x.2 then s1.recFail x.1 else s1

/-- Records before the MODE record, and from it on. [DESIGN CHOICE, log 31, unsafe] -/
def splitMode (l : List (Nat × List Byte)) : List (Nat × List Byte) × List (Nat × List Byte) :=
  (l.takeWhile (fun x => recKind x.2 != 5), l.dropWhile (fun x => recKind x.2 != 5))

/-- Step 3's records that `pick` takes apply in image order; the others stay. -/
def State.hostRecs (s : State) (pick : Nat × List Byte → Bool) : State :=
  let p := splitMode s.start.recs
  let now := p.1.filter (fun x => isHostRec x.2 && pick x)
  now.foldl State.hostRec { s with start := { s.start with recs := p.1.filter (fun x => !(isHostRec x.2 && pick x)) ++ p.2 } }

/-- A LIST or VECTORS record goes out as refill messages whose tag is the record's number (R46, R423). -/
def State.refillRec (s : State) (x : Nat × List Byte) : State :=
  let t := recTarget x.2
  let n := recMask x.2
  let w : Work :=
    if recKind x.2 = 3 then { idx := 0, op := 1, tag := x.1 % 65536, length := n, stream := t % 256 + 1, first := t / 65536 % 8192 }
    else { idx := 0, op := 1, tag := x.1 % 65536, length := n, stream := 0, first := t * 65536 % 2 ^ 40 }
  s.sendRefill w 0 ((x.2.drop 16).take n)

/-- One record of step 8 or behind the MODE record applies; a field WRITE travels as a tunnel write, whose response the next record waits for. [DESIGN CHOICE, log 31, unsafe] -/
def State.applyRec (s : State) (x : Nat × List Byte) (rest : List (Nat × List Byte)) : State :=
  let drop : State := { s with start := { s.start with recs := rest } }
  match recKind x.2 with
  | 1 =>
    if isFieldAddr (recTarget x.2) then
      let v := s.recWord x.2
      let p := s.tunSubmit 1 (recTarget x.2) 1 (some [v])
      { p.2 with start := { p.2.start with waiting := some (p.1, recTarget x.2, recMask x.2, recArg x.2) } }
    else drop.hostRec x
  | 2 => { drop with start := { drop.start with holdTo := some (drop.hAbs + recMask x.2) } }
  | 3 => drop.refillRec x
  | 4 => drop.refillRec x
  | _ => drop

/-- The response of the tunnel write that a record waits for: a status other than OK, or a refused enable, is a failure. -/
def State.recAnswered (s : State) (tag status : Nat) : State :=
  match s.start.waiting, s.start.recs with
  | some w, x :: rest =>
    if w.1 = tag then
      let s1 := { s with start := { s.start with waiting := none, recs := rest } }
      if status ≠ 0 ∨ s1.recRefused x.2 then s1.recFail x.1 else s1
    else s
  | _, _ => s

/-- A refill of a record was refused: the event of the refusal carries its tag (R423). [DESIGN CHOICE, log 33, unsafe] -/
def State.recRefill (s : State) (tag : Nat) : State :=
  if 8 ≤ s.start.step ∧ s.start.step ≤ 10 then s.recFail tag else s

/-! ### The steps (R417) -/

/-- A step of start-up begins. -/
def State.toStep (s : State) (n : Nat) : State := { s with start := { s.start with step := n } }

/-- Step at which start-up stays for good: its step never ends. [DESIGN CHOICE, log 34, unsafe] -/
def stepStopped : Nat := 11

/-- The field firmware has crossed whole (R417 step 5): verified it runs, and the vendor region is loaded (R158); else source 0x54. [DESIGN CHOICE, log 34, unsafe] -/
def State.fieldVerified (s : State) : State :=
  if s.fwEntries.all s.fwGood then
    let s1 := s.set R.FCTL_STAT_FW_OK 1
    let s2 := { s1 with upd := { s1.upd with run := s1.fwEntries.map (fun e => (entCode e, entDigest e)) } }
    match s2.fwEntries.find? (fun e => entCode e == 3) with
    | some e => (s2.vendorLoad e).toStep 6
    | none => (s2.set R.USTORE_STAT_VEND_OK 1).toStep 6
  else (s.fieldFault 0x54 0).toStep stepStopped

/-- The firmware bank in use. [DESIGN CHOICE, log 34, unsafe] -/
def State.bootBank (s : State) : Nat := s.get R.SYS_BOOT_BANK

/-- Step 7: the management core checks every calibration place and sends the valid images; a place that fails is dropped (R322). [DESIGN CHOICE, log 34, unsafe] -/
def State.calLoad (s : State) : State :=
  let good := s.met.store.filter (fun p => imageGood p.2)
  let bad := s.met.store.filter (fun p => !imageGood p.2)
  let s1 := good.foldl (fun t p => (imageMessages p.1 p.2).foldl (fun v m => v.sendHF 0x71 7 v.hNow.pack m) t) s
  if bad.isEmpty then s1
  else (s1.setMet { s1.met with store := good, badPlaces := bad.map Prod.fst }).setDueBit 3 true

/-- Step 9 has ended: SYS_STAT.BOOT_DONE. -/
def State.bootDone (s : State) : State :=
  let s1 := ((s.set R.SYS_STAT_BOOT_DONE 1).set R.SYS_EVT_BOOT_DONE 1).toStep 10
  { s1 with avail := { s1.avail with sentinel := false } }

/-- One step of start-up ends and the next begins; none when start-up waits. [DESIGN CHOICE, log 31, unsafe; DEDUCED, log 32, unsafe; DEDUCED, log 37, safe] -/
def State.startOne (s : State) : Option State :=
  match s.start.step with
  | 3 => if s.domOn (domH 7) then some ((s.hostRecs (fun _ => true)).toStep 4) else none
  | 4 => if s.linkUp then some (s.toStep 5) else none
  | 5 =>
    if (s.fwBank s.bootBank).factory then
      (if s.linkUp then some (((s.set R.FCTL_STAT_FW_OK 1).set R.USTORE_STAT_VEND_OK 1).toStep 6) else none)
    else if s.fwWhole then some s.fieldVerified
    else if s.linkUp && !s.link.outHF.any (fun m => m.ty == 0x72) then some (s.sendFw s.bootBank)
    else none
  | 6 => some (((s.set R.SYS_MODE_MODE 1).toStep 7).calLoad)
  | 7 =>
    if s.met.store.isEmpty ∨ s.rd R.MET_BANK_ID ≠ regReset R.MET_BANK_ID ∨ !(s.rd R.SYS_PWR_REQ).getLsbD (domF 12) then some (s.toStep 8) else none
  | 8 =>
    if s.start.waiting.isSome ∨ s.start.holdTo.any (fun t => decide (s.hAbs < t)) then none
    else match s.start.recs with
      | [] => some (s.toStep 9)
      | x :: rest => if recKind x.2 = 5 then some (({ s with start := { s.start with recs := rest, holdTo := none } } : State).toStep 9) else some (s.applyRec x rest)
  | 9 =>
    if !s.start.asked then some (({ s with start := { s.start with asked := true } } : State).doModeRequest s.start.imgMode)
    else if s.start.moving.isNone then some s.bootDone
    else none
  | 10 =>
    if s.start.waiting.isSome ∨ s.start.holdTo.any (fun t => decide (s.hAbs < t)) then none
    else match s.start.recs with
      | [] => some (s.toStep 0)
      | x :: rest => some (s.applyRec x rest)
  | _ => none

/-- Start-up goes on as far as it can: at most `n` steps and records. [DESIGN CHOICE, log 31, unsafe] -/
def State.startGo : Nat → State → State
  | 0, s => s
  | n + 1, s =>
    match s.startOne with
    | some t => t.startGo n
    | none => s

/-- Start-up goes on. -/
def State.startAdvance (s : State) : State := if s.start.step = 0 then s else State.startGo (s.start.recs.length + 16) s

/-! ### Steps 2 and 3: boot verification, protection set, image (R418, R419, R422) -/

/-- Domains that are on for good from here: H1 with those of a list. -/
def State.domsOn (s : State) (l : List Nat) : State := l.foldl (fun t d => if t.domOn d then t else t.domOn1 d) s

/-- The protection set is loaded from a copy: every PL field, and the customer region (R401, R419). -/
def State.psetLoad (s : State) (c : PsetCopy) : State :=
  let s1 := c.words.foldl (fun t (p : Nat × Word) => t.wr p.1 ((t.rd p.1 &&& ~~~(plMask p.1)) ||| (p.2 &&& plMask p.1))) s
  { s1 with seq := { s1.seq with bank0 := c.bank, bank1 := [] } }

/-- Step 3's protection set (R419): the newer copy that verifies; none and no keys enrolled: reset values. -/
def State.psetStart (s : State) (b : BootIn) : State :=
  let s1 := s.showKeys
  let s2 :=
    if s1.psetNew then s1
    else match (if b.copy0 then s1.sec.copies.head? else none), (if b.copy1 then s1.sec.copies.tail.head? else none) with
      | some c, _ => s1.psetLoad c
      | none, some c => s1.psetLoad c
      | none, none => ((s1.set R.SYS_BOOT_PSET_BAD 1).ledgerH 0x00 0x80FF 0 []).hostFault 0x03 0
  s2.putDigest R.SEC_PSET_DIGEST (Config.shake256 s2.psetImage)

/-- The slot whose image is in use: the active one, else the other (R422). -/
def State.imgChoose (s : State) : Option Nat :=
  if s.imgCause s.start.active = 0 then some s.start.active else if s.imgCause (1 - s.start.active) = 0 then some (1 - s.start.active) else none

/-- The records of the image with their indices, but for END. [DEDUCED, log 32, unsafe] -/
def State.imgRecords (s : State) (k : Nat) : List (Nat × List Byte) :=
  let h := s.imgHeader k
  let l := (imageRecs (flashRead (s.imgSlot k) 128 (imgLen h)) (leAt h 20 4)).getD []
  ((List.range l.length).zip l).filter (fun x => recKind x.2 != 0xFF)

/-- Step 3's image: it is read once; the records of host registers whose domain is on apply, and step 3 runs until H7 is on. -/
def State.imgStart (s : State) : State :=
  let s0 := s.set R.SYS_IMG_STAT_ACTIVE_SLOT s.start.active
  match s0.imgChoose with
  | some k =>
    let rs := s0.imgRecords k
    let m := ((rs.find? (fun x => recKind x.2 == 5)).map (fun x => recArg x.2)).getD 1
    let s1 := { s0 with start := { s0.start with recs := rs, imgMode := m } }
    let s2 := ((s1.set R.SYS_STAT_IMG_LOADED 1).set R.SYS_BOOT_IMG_SLOT k).put64 R.SYS_IMG_SEQ_LO (imgSeq (s1.imgHeader k))
    (s2.putDigest R.SYS_IMG_DIGEST (Config.shake256 (s2.imgBytes k))).hostRecs (fun x => s2.powered (recTarget x.2))
  | none =>
    ((({ s0 with start := { s0.start with recs := [], imgMode := 1 } }).set R.SYS_BOOT_IMG_CAUSE (s0.imgCause s0.start.active))).hostFault 0x12 0

/-- The bank that the boot ROM boots: the active one, else the other in state PREVIOUS; none when both fail (R418, R455). -/
def State.bootChoose (s : State) (b : BootIn) : Option Nat :=
  let ok (k : Nat) : Bool := if k = 0 then b.bankA else b.bankB
  let a := s.activeBank
  if ok a && (s.fwBank a).st == 3 then some a
  else if ok (1 - a) && (s.fwBank (1 - a)).st == 4 then some (1 - a)
  else none

/-- Start-up from step 2 on (R417, R418): H6, the firmware bank, H2, then the protection set and the image; with no bank the recovery loader. [DESIGN CHOICE, log 34, unsafe] -/
def State.bootFrom2 (s : State) (b : BootIn) (note : State → State) : State :=
  let s1 := note (s.domsOn [domH 6])
  match s1.bootChoose b with
  | none => ((s1.set R.SYS_BOOT_RECOVERY 1).put R.SYS_PWR_REQ 0x2B).domsOn [domH 2, domH 4]
  | some k =>
    let s2 := s1.set R.SYS_BOOT_BANK k
    let s3 := if k = s2.activeBank then s2 else (s2.ledgerH 0x00 0x80FF 0 (leBytes 4 (1 - k))).hostFault 0x02 0
    (((s3.domsOn [domH 2]).toStep 3).psetStart b).imgStart.startAdvance

/-! ### Power (R73, R417, R442, R447, R482) -/

/-- Registers that the Ledger's MRAM, the Vault and the configuration store keep without power. [DESIGN CHOICE, log 35, unsafe] -/
def keptPower (a : Nat) : Bool :=
  (R.LDG_NEXT_LO ≤ a && a ≤ R.LDG_BASE_HI) || (R.LDG_HEAD 0 ≤ a && a ≤ R.LDG_HEAD_IDX_HI)
    || (R.AVAIL_TICKS_LO ≤ a && a ≤ R.AVAIL_BUDGET_LEFT) || (R.FLT_FATAL_ID ≤ a && a ≤ R.FLT_FATAL_DATA)
    || a == R.SEC_KEYS || a == R.SEC_PSET_SEQ_LO || a == R.SEC_PSET_SEQ_HI || a == R.SEC_MINT_COUNT_LO || a == R.SEC_MINT_COUNT_HI
    || a == R.SEC_PKT_HWM_LO || a == R.SEC_PKT_HWM_HI || a == R.STOR_SEAL_NO_LO || a == R.STOR_SEAL_NO_HI
    || a == R.UPD_FLOOR_LO || a == R.UPD_FLOOR_HI

/-- Registers that keep their values over a module reset (R442): those, TIME and SEC in H1, and the counts of the fault collector. [DESIGN CHOICE, log 35, unsafe] -/
def keptReset (a : Nat) : Bool :=
  keptPower a || (0x10000 ≤ a && a ≤ 0x1FFFF) || (0x80000 ≤ a && a ≤ 0x9FFFF) || (R.FLT_FIRST_ID ≤ a && a ≤ R.FLT_FATAL_DATA)
    || (R.FLT_CNT 0 ≤ a && a ≤ R.FLT_CNT 143)

/-- An activation that a loss of power or a module reset meets (R465): between A and the commit sample it is to be reverted, before A it is gone. -/
def State.updLost (s : State) : UpdSt :=
  let on := s.upd.act.isSome && (s.updState == updActivating || s.updState == updChecking || s.upd.holding || s.upd.lost)
  { bankA := s.upd.bankA, bankB := s.upd.bankB, act := if on then s.upd.act else none, lost := on }

/-- What is left when every domain but H1, and the blocks in them, are without power: the register file that `keep` names, MRAM, flash and the drives. [DESIGN CHOICE, log 35, unsafe] -/
def State.bare (s : State) (keep : Nat → Bool) : State :=
  let t : State := {
    regs := s.regs.filter (fun p => keep p.1), time := { markTick := s.time.markTick, markEra := s.time.markEra },
    ledger := { ring := s.ledger.ring, head := s.ledger.head, baseHead := s.ledger.baseHead },
    seq := { inhPin := s.seq.inhPin }, hdma := { hostWrites := s.hdma.hostWrites, msixSent := s.hdma.msixSent },
    acq := { trigIn := s.acq.trigIn }, met := { store := s.met.store }, store := s.store, avail := s.avail,
    sec := { keys := s.sec.keys, certs := s.sec.certs, rotations := s.sec.rotations, copies := s.sec.copies },
    start := { supply := s.start.supply, power := s.start.power, slot0 := s.start.slot0, slot1 := s.start.slot1, active := s.start.active },
    upd := s.updLost, freeCount := s.freeCount, pending := s.pending }
  let v := if s.seq.inhPin then 1 else 0
  (t.set R.SYS_STAT_DRIVE_INH_PIN v).set R.SYS_DRIVE_INH_PIN v

/-- FAULT_HOLD as it is kept. [DESIGN CHOICE, log 35, unsafe] -/
def State.keepHold (s : State) (hold : Bool) : State :=
  if hold then (s.set R.FLT_STAT_FAULT_HOLD 1).set R.SYS_STAT_FAULT_HOLD 1 else (s.set R.FLT_STAT_FAULT_HOLD 0).set R.SYS_STAT_FAULT_HOLD 0

/-- 12 V is lost: everything stops; 100 ms without it clear FAULT_HOLD (R447). [DESIGN CHOICE, log 35, unsafe] -/
def State.powerLoss (s : State) (long : Bool) : State :=
  if !s.start.power then (if long then s.keepHold false else s)
  else
    let s1 := s.storePowerOff
    let s2 := ((s1.bare keptPower).keepHold (s.faultHold && !long)).put R.SYS_PWR_STAT 0
    { s2 with start := { s2.start with power := false }, avail := { s2.avail with sentinel := s.counting } }

/-- POWER_LOSS_12V (R447). -/
def execPowerLoss12v (u : Sub) (long : Bool) (s : State) : Host.Outcome State Fault Refusal := done s ((s.atH u).powerLoss long)

/-- HOST_INPUT_LOW (R482): the host half switches off. -/
def execHostInputLow (u : Sub) (s : State) : Host.Outcome State Fault Refusal := done s ((s.atH u).powerLoss false)

/-- The tick at which counting resumes, across eras: the stored tick and 100,000, rounded up to a multiple of 100,000 (R73). -/
def State.resumeTick (s : State) : Nat :=
  let t := s.time.markTick + 100000
  absTick s.time.markEra ((t + 99999) / 100000 * 100000)

/-- The record marks the interval since the stored tick as a gap: the next block of every lane stream carries GAP (R73). [DESIGN CHOICE, log 36, unsafe] -/
def State.resumeGap (s : State) : State :=
  (List.range 48).foldl (fun t l =>
    let x := t.lane l
    t.setLane l { x with raw := { x.raw with gap := true }, dec := { x.dec with gap := true }, filt := { x.filt with gap := true } }) s

/-- A tick of SENTINEL before the loss of power that has not been judged belongs to the interval of R73 from the stored tick on (R449). [DESIGN CHOICE, log 36, unsafe] -/
def State.resumeAvail (s : State) (mark t : Nat) : State :=
  let s1 := { s with avail := { s.avail with recs := s.avail.recs.filter (fun r => decide (r.abs < mark)), sentinel := false } }
  if s.avail.sentinel then s1.availCount R.AVAIL_UNPOWERED_LO (t - mark) else s1

/-- The tick keeper resumes its count (R73): TIME_START, and the Ledger's RESUME entry. -/
def State.resumeTime (s : State) : State :=
  let t := s.resumeTick
  let s1 := ({ s with time := { markTick := s.time.markTick, markEra := s.time.markEra, hTick := t % ticksPerEra } }).put R.TIME_ERA (t / ticksPerEra)
  (s1.put64 R.TIME_START_LO s1.hNow.pack).resumeGap.resumeAvail (absTick s.time.markEra s.time.markTick) t

/-- The RESUME entry: the last stored tick, and TIME_START. -/
def State.resumeEntry (s : State) : State :=
  s.ledgerH 0x01 0x8002 0 (leBytes 8 (T64.mk s.time.markTick 0 0).pack ++ leBytes 8 (s.val64 R.TIME_START_LO))

/-- Start-up may begin: 12 V was absent, or the module has just been made. [DESIGN CHOICE, log 6, unsafe] -/
def State.mayStart (s : State) : Bool :=
  !s.start.power || (s.start.step == 0 && !s.is R.SYS_STAT_BOOT_DONE && !s.is R.SYS_BOOT_RECOVERY)

/-- 12 V rises: H1 and the tick keeper, the self-test, then step 2 (R417). A failed self-test leaves H1 and H6 on and start-up in step 1 (R448). -/
def State.doPowerUp (s : State) (b : BootIn) : State :=
  if s.mayStart then
    let s0 := ((s.storePowerOff.bare keptPower).keepHold s.faultHold).put R.SYS_PWR_STAT 1
    let s1 := { s0 with start := { s0.start with power := true } }
    let s2 := s1.resumeTime
    if b.selfTest then s2.bootFrom2 b State.resumeEntry
    else ((((s2.domsOn [domH 6]).resumeEntry).hostFault 0x00 0).toStep stepStopped)
  else s

/-- POWER_UP (R417). -/
def execPowerUp (b : BootIn) (s : State) : Host.Outcome State Fault Refusal := done s (s.doPowerUp b)

/-- A module reset (R442): every domain but H1 switches off, and start-up runs from step 2; the tick count goes on. -/
def State.doModuleReset (s : State) (b : BootIn) : State :=
  match s.fault.resetDue with
  | some id =>
    let s1 := (s.domOff (domH 2)).domOff (domH 6)
    let s2 := ((s1.bare keptReset).keepHold s.faultHold).put R.SYS_PWR_STAT 1
    let s3 := { s2 with
      io := s.io, sec := s.sec, fault := { resets := s.fault.resets }, plan := { lastId := s.plan.lastId },
      time := { s.time with fAwaitLoad := false, fAligned := false, fStep := 0, streak := 0, streakRaised := false, overran := false, overruns := 0,
                            deferring := false },
      avail := { s2.avail with reset := some (s.hAbs, 2 ^ 64), sentinel := s.counting } }
    let s4 := s3.setAll [R.TIME_STAT_FIELD_ALIGNED, R.TIME_PLAN_STAT_RESULT, R.TIME_PLAN_STAT_REASON] 0
    let s5 := if s4.pinCondition reactF then s4.dropFaultN else s4
    s5.bootFrom2 b (fun t => t.ledgerH 0x06 0x80FF 0 (leBytes 4 id))
  | none => s

/-- MODULE_RESET (R442). -/
def execModuleReset (b : BootIn) (s : State) : Host.Outcome State Fault Refusal := done s (s.doModuleReset b)

/-! ### Commands after which start-up goes on -/

/-- A domain may come on in the step of start-up in progress (R17, R417, R418): host domains in the order of the table; F2–F13 from step 6 on; in recovery
H2, H4 and H6 alone; none without 12 V. -/
def State.mayPower (s : State) (d : Nat) : Bool :=
  let waits (r : Nat) : Bool := (s.rd R.SYS_PWR_REQ).getLsbD r && !s.domOn r
  s.start.power && !(s.is R.SYS_BOOT_RECOVERY && d != domH 2 && d != domH 4 && d != domH 6)
    && (s.start.step == 0 || decide (6 ≤ s.start.step ∧ s.start.step ≤ 10)
        || (decide (3 ≤ s.start.step ∧ s.start.step ≤ 5) && !fieldDom d
            && !(d == domH 5 && waits (domH 4)) && !(d == domH 7 && (waits (domH 4) || waits (domH 5)))
            && !(d == domF 1 && s.start.step == 3)))

/-- A domain comes on, and start-up goes on. -/
def State.powerStep (s : State) (d : Nat) (f : State → State) : State := if s.mayPower d || !(s.rd R.SYS_PWR_REQ).getLsbD d then (f s).startAdvance else s

/-- DOMAIN_POWERED (R427). -/
def execDomainPowered (u : Sub) (d : Fin 21) (s : State) : Host.Outcome State Fault Refusal :=
  done s (((s.atH u).atF u).powerStep d (fun t => t.doDomainPowered d))

/-- TRAINING_DONE (R22, R24). -/
def execTrainingDone (u : Sub) (fh hf : Nat) (s : State) : Host.Outcome State Fault Refusal :=
  done s (((s.atH u).atF u).doTrainingDone fh hf).startAdvance

/-- BANK_SWAP (R324). -/
def execBankSwap (s : State) : Host.Outcome State Fault Refusal := done s s.doBankSwap.startAdvance

/-- MODE_CHANGE (R432). -/
def execModeChange (s : State) : Host.Outcome State Fault Refusal := done s s.doModeChange.startAdvance

end Sys2Proof.Machine
end

