-- ==== Sys2Proof/Machine/Barrier.lean ====
section
/-! DEFINITION. The messages of the barrier as they arrive (R32–R48), the register tunnel at both halves (R45, R49–R53), the host link's accesses to BAR0
(R4–R6), and the host Fatal write (R446). -/

namespace Sys2Proof.Machine

/-! ### Field to host -/

/-- The host half receives a field beacon: it enters the record (R42, R79). A message of another KIND that passes the filter has no further effect here. -/
def execXmTimeFieldBeacon (u : Sub) (m : Msg) (s : State) : Host.Outcome State Fault Refusal :=
  done s ((s.atH u).hostTake m (m.ty == 0x01) (fun t => t.toRecord m 0))

/-- The field half's filter has discarded more messages than the host half knew: ISO_FDROP, ISO_EVT.DROP and ISO_DROP_LAST (R40, R44). -/
def State.mirrorDrops (s : State) (n last : Nat) : State :=
  if n = s.val R.ISO_FDROP then s
  else
    let s1 := ((s.put R.ISO_FDROP n).put R.ISO_DROP_LAST last).set R.ISO_EVT_DROP 1
    if n = 2 ^ 32 - 1 then s1.set R.ISO_EVT_SATURATED 1 else s1

/-- The host half receives the field half's health (R30, R44, R449): discards are mirrored, the field half has reported its tick, and the gap of a link loss
ends. [DEDUCED, log 42, unsafe] -/
def State.healthToHost (s : State) (m : Msg) : State :=
  let s1 := (s.toRecord m 0).mirrorDrops (leAt m.payload 8 4) (leAt m.payload 12 4)
  let s2 := { s1 with link := { s1.link with gapFrom := none } }
  s2.availNote (s2.msgAbs m) (fun r => { r with reported := true })

/-- XM_HEALTH (R44): at the field half it has no effect beyond its reception. -/
def execXmHealth (u : Sub) (toHost : Bool) (m : Msg) (s : State) : Host.Outcome State Fault Refusal :=
  done s (if toHost then (s.atH u).hostTake m (m.ty == 0x03) (fun t => t.healthToHost m)
    else (s.atF u).fieldTake m (m.ty == 0x03) (fun t => t))

/-- XM_SAMPLES (R221): a sample block passes to Clearing. -/
def execXmSamples (u : Sub) (m : Msg) (s : State) : Host.Outcome State Fault Refusal :=
  done s ((s.atH u).hostTake m (m.ty == 0x20) (fun t => t.toRecord m (leAt m.payload 2 2)))

/-- A reduction item (R249, R253): it enters the record, and the segments of a group are stored in its region of acquisition memory. -/
def State.reduceToHost (s : State) (m : Msg) : State :=
  let s1 := s.toRecord m (leAt m.payload 2 1)
  if leAt m.payload 0 1 = 8 then s1.storeSegment (leAt m.payload 2 1 % 4) m.payload
  else if leAt m.payload 1 1 % 2 = 1 then s1.storeSegment (fieldOf (s1.rd (R.ACQ_RED_ACT (leAt m.payload 2 1))) 28 2) m.payload
  else s1

/-- XM_REDUCE (R249). -/
def execXmReduce (u : Sub) (m : Msg) (s : State) : Host.Outcome State Fault Refusal :=
  done s ((s.atH u).hostTake m (m.ty == 0x30) (fun t => t.reduceToHost m))

/-- XM_TALLY (R261): a Tally snapshot passes to Clearing. -/
def execXmTally (u : Sub) (m : Msg) (s : State) : Host.Outcome State Fault Refusal :=
  done s ((s.atH u).hostTake m (m.ty == 0x31) (fun t => t.toRecord m (leAt m.payload 2 1)))

/-- The collector takes the event of a field fault source (R438), and a Fatal one reverts an update in CHECKING (R464). -/
def State.faultToHost (s : State) (m : Msg) : State :=
  let code := leAt m.payload 2 2
  if 0x100 ≤ code ∧ code < 0x190 then (s.collectEvent (code - 0x100) (leAt m.payload 8 8) (m.payload.drop 16)).fatalRevert else s

/-- What the host half does at a field event beside the record and the event queue: fault sources, the inhibit of a guard window's rise (R299, R433), and
refills that an image's records asked for and the field half refused (R423). -/
def State.eventEffect (s : State) (m : Msg) : State :=
  let blk := leAt m.payload 0 2
  let code := leAt m.payload 2 2
  let inst := leAt m.payload 4 4
  if blk = 0x06 then s.faultToHost m
  else if blk = 0x19 ∧ code = 1 ∧ inst < 64 ∧ s.is (R.GRD_W_ACT_INHIBIT inst) then s.inhibitOn .guard
  else if (blk = 0x11 ∧ code = 0x0006) ∨ (blk = 0x15 ∧ code = 0x0003) then s.recRefill (leAt m.payload 16 2)
  else s

/-- XM_EVENT (R47): the record is that of the payload. -/
def execXmEvent (u : Sub) (m : Msg) (s : State) : Host.Outcome State Fault Refusal :=
  done s ((s.atH u).hostTake m (m.ty == 0x40) (fun t =>
    (((t.toRecord m (leAt m.payload 4 4)).toEventQueue (leAt m.payload 0 2) m.payload).eventEffect m)))

/-- XM_FAIL (R123): a fail record passes to Clearing. -/
def execXmFail (u : Sub) (m : Msg) (s : State) : Host.Outcome State Fault Refusal :=
  done s ((s.atH u).hostTake m (m.ty == 0x41) (fun t => t.toRecord m 0))

/-- A Ledger entry of a compare pair, with the discrepancies since the previous entry. [DESIGN CHOICE, log 43, unsafe] -/
def State.cmpEntry (s : State) (m : Msg) (p n : Nat) : State :=
  s.ledger1 { t64 := m.t64, era := eraOf s.time.hTick s.era (T64.unpack m.t64).tick, source := 0x18, code := 0x80FF, inst := p, data := leBytes 4 n }

/-- A compare record (R280): a Ledger entry for the first discrepancy of a pair after it enters RUN, then at most one per pair in 100,000 ticks with the
number since; one for every INFO record but RUN_END. -/
def State.cmpToHost (s : State) (m : Msg) : State :=
  let p := leAt m.payload 16 2
  let s1 := s.toRecord m p
  if 128 ≤ p then s1
  else if (leAt m.payload 19 1).testBit 1 then (if leAt m.payload 18 1 = 0x06 then s1 else s1.cmpEntry m p (leAt m.payload 48 4))
  else
    let x := s1.pair p
    let n := x.untold + 1
    if !x.told || decide (x.toldTick + 100000 ≤ s1.hAbs) then
      (s1.setPair p { x with told := true, toldTick := s1.hAbs, untold := 0 }).cmpEntry m p n
    else s1.setPair p { x with untold := n }

/-- XM_CMP (R280). -/
def execXmCmp (u : Sub) (m : Msg) (s : State) : Host.Outcome State Fault Refusal :=
  done s ((s.atH u).hostTake m (m.ty == 0x42) (fun t => t.cmpToHost m))

/-- XM_POD RESPONSE (R346): a pod's answer passes to Clearing. -/
def execXmPodResponse (u : Sub) (m : Msg) (s : State) : Host.Outcome State Fault Refusal :=
  done s ((s.atH u).hostTake m (m.ty == 0x70 && leAt m.payload 1 1 != 3) (fun t => t.toRecord m (leAt m.payload 0 1)))

/-- The Ledger entry of a stress entry (R345): index, kind, line, T64, amount, total and the first word of CHAIN. [DESIGN CHOICE, log 43, unsafe] -/
def State.stressToLedger (s : State) (q : Nat) (e : List Byte) : State :=
  s.ledgerH 0x1B 0x80FF q (leBytes 4 (leAt e 0 4) ++ leBytes 4 (leAt e 4 1) ++ leBytes 4 (leAt e 5 1) ++ leBytes 8 (leAt e 8 8)
    ++ leBytes 4 (leAt e 16 4) ++ leBytes 4 (leAt e 20 4) ++ leBytes 4 (leAt e 24 4))

/-- Stress entries of a pod enter the record and the Ledger (R345). -/
def State.stressToHost (s : State) (m : Msg) : State :=
  (List.range (min 63 ((m.payload.length - 8) / 64))).foldl (fun t i => t.stressToLedger (leAt m.payload 0 1) (m.payload.drop (8 + 64 * i)))
    (s.toRecord m (leAt m.payload 0 1))

/-- XM_POD LEDGER (R345). -/
def execXmPodLedger (u : Sub) (m : Msg) (s : State) : Host.Outcome State Fault Refusal :=
  done s ((s.atH u).hostTake m (m.ty == 0x70 && leAt m.payload 1 1 == 3) (fun t => t.stressToHost m))

/-- KIND of an XM_CAL (R326). [DESIGN CHOICE, log 41, safe] -/
def calKind (m : Msg) : Nat := leAt m.payload 0 2

/-- XM_CAL SET_IMAGE (R322, R326) at either half; a KIND that the half does not take is discarded there. -/
def execXmCalSetImage (u : Sub) (toField : Bool) (m : Msg) (s : State) : Host.Outcome State Fault Refusal :=
  done s (if toField then
      (s.atF u).fieldTake m (m.ty == 0x71 && calKind m != 2 && calKind m != 5) (fun t => t.calToField m.payload)
    else (s.atH u).hostTake m (m.ty == 0x71 && calKind m != 3 && calKind m != 4) (fun t => (t.toRecord m 0).calToHost m.payload))

/-- XM_CAL SET_DROP (R326). -/
def execXmCalSetDrop (u : Sub) (m : Msg) (s : State) : Host.Outcome State Fault Refusal :=
  done s ((s.atF u).fieldTake m (m.ty == 0x71 && calKind m == 2) (fun t => t.calToField m.payload))

/-- XM_CAL BANK (R326). -/
def execXmCalBank (u : Sub) (m : Msg) (s : State) : Host.Outcome State Fault Refusal :=
  done s ((s.atH u).hostTake m (m.ty == 0x71 && calKind m == 3) (fun t => (t.toRecord m 0).calToHost m.payload))

/-- XM_CAL RUN_END (R326). -/
def execXmCalRunEnd (u : Sub) (m : Msg) (s : State) : Host.Outcome State Fault Refusal :=
  done s ((s.atH u).hostTake m (m.ty == 0x71 && calKind m == 4) (fun t => (t.toRecord m 0).calToHost m.payload))

/-- XM_CAL STORED (R322). -/
def execXmCalStored (u : Sub) (m : Msg) (s : State) : Host.Outcome State Fault Refusal :=
  done s ((s.atF u).fieldTake m (m.ty == 0x71 && calKind m == 5) (fun t => t.calToField m.payload))

/-! ### Host to field -/

/-- XM_TIME host beacon (R60). -/
def execXmTimeHostBeacon (u : Sub) (m : Msg) (s : State) : Host.Outcome State Fault Refusal :=
  done s ((s.atF u).fieldTake m (m.ty == 0x01 && leAt m.payload 0 2 == 2) (fun t => t.hostBeaconArrive m))

/-- XM_TIME epoch set (R75): the field half takes the epoch. -/
def execXmTimeEpochSet (u : Sub) (m : Msg) (s : State) : Host.Outcome State Fault Refusal :=
  done s ((s.atF u).fieldTake m (m.ty == 0x01 && leAt m.payload 0 2 == 3)
    (fun t => { t with time := { t.time with fEpoch := leAt m.payload 8 8 } }))

/-- A tick plan arrives (R43): the changes up to its identifier wait for their boundary; one whose tick has passed is reported as a late start. [DEDUCED, log 42, unsafe] -/
def State.planArrive (s : State) (m : Msg) : State :=
  let id := leAt m.payload 0 4
  let tick := (T64.unpack m.t64).tick
  let at_ := absTick (eraOf s.time.fTick s.time.fEra tick) tick * unitsPerTick
  { s with plan := { s.plan with sent := s.plan.sent.filter (fun p => !decide (p.id ≤ id)),
                                 field := s.plan.field ++ s.plan.sent.filter (fun p => decide (p.id ≤ id)),
                                 late := s.plan.late || decide (at_ < s.fU) } }

/-- XM_TICK_PLAN (R43). -/
def execXmTickPlan (u : Sub) (m : Msg) (s : State) : Host.Outcome State Fault Refusal :=
  done s ((s.atF u).fieldTake m (m.ty == 0x02) (fun t => t.planArrive m))

/-! #### Vector refills (R150, R153, R154) -/

/-- Frames that are protected (R154): those of the executing instance, the instances in the pin pipeline and the instruction dispatched. -/
def State.protectedFrames (s : State) : List Nat :=
  let run := if s.seq.endAt ≤ s.fU then [] else [s.seq.lastAddr]
  let cur := if s.seqState = seqRunning ∨ s.seqState = seqPaused then [s.val64 R.SEQ_VADDR_LO] else []
  (run ++ cur ++ s.seq.pipe.map (fun i => i.addr)).map (fun a => s.frameOf (segOf a))

/-- The reason for which a refill of `n` vectors from an address on is rejected (R153); 0 for one that is accepted. -/
def State.refillReason (s : State) (a n : Nat) : Nat :=
  let f := s.frameOf (segOf a)
  if 65536 < idxOf a + n then 1
  else if idxOf a = 0 then (if s.protectedFrames.contains f then 3 else 0)
  else match s.frameInfo f with
    | some (tag, fill) => if tag = segOf a ∧ fill = idxOf a then 0 else 2
    | none => 2

/-- Vectors written from an address on. -/
def putVecs (s : State) : Nat → Nat → List Byte → List (Nat × Vec) → List (Nat × Vec)
  | 0, _, _, l => l
  | n + 1, a, b, l => putVecs s n (a + 1) (b.drop 144) (vmemSet l (s.vmemKey a) (parseVec (b.take 144)))

/-- A vector refill arrives: accepted whole or rejected whole. [DESIGN CHOICE, log 41, safe] -/
def State.refillVec (s : State) (pl : List Byte) : State :=
  let a := leAt pl 0 8 % 2 ^ 40
  let n := (pl.length - 16) / 144
  let tag := leAt pl 10 2
  let r := s.refillReason a n
  if r ≠ 0 then
    let s1 := (s.satCount R.SEQ_REFILL_REJ 32 1 R.SEQ_EVT_SATURATED).1
    s1.seqEvt R.SEQ_EVT_REFILL_REJ 0x0006 (leBytes 4 (tag + 65536 * r) ++ leBytes 5 (s1.val64 R.SEQ_VADDR_LO))
  else
    let f := s.frameOf (segOf a)
    s.setSeq { s.seq with frames := (f, segOf a, idxOf a + n) :: s.seq.frames.filter (fun x => x.1 != f), vmem := putVecs s n a (pl.drop 16) s.seq.vmem }

/-- XM_REFILL_VEC (R153); without vector memory nothing takes it (R428). -/
def execXmRefillVec (u : Sub) (m : Msg) (s : State) : Host.Outcome State Fault Refusal :=
  done s ((s.atSeq u).fieldTake m (m.ty == 0x50) (fun t => if t.domOn (domF 2) then t.refillVec m.payload else t))

/-- XM_REFILL_GEN (R179). -/
def execXmRefillGen (u : Sub) (m : Msg) (s : State) : Host.Outcome State Fault Refusal :=
  done s ((s.atF u).fieldTake m (m.ty == 0x60) (fun t =>
    let pl := m.payload
    t.genRefill (leAt pl 0 1) (leAt pl 2 2) (leAt pl 4 2) (leAt pl 8 2) ((pl.length - 16) / 32) (pl.drop 16)))

/-- XM_POD REQUEST (R346). -/
def execXmPodRequest (u : Sub) (m : Msg) (s : State) : Host.Outcome State Fault Refusal :=
  done s ((s.atF u).fieldTake m (m.ty == 0x70) (fun t => if leAt m.payload 1 1 = 1 then t.podRequest m.payload else t))

/-- XM_FW (R48): a chunk goes into the inactive bank; with the last one start-up goes on (R417). -/
def execXmFw (u : Sub) (m : Msg) (s : State) : Host.Outcome State Fault Refusal :=
  done s ((s.atF u).fieldTake m (m.ty == 0x72) (fun t => (t.fwTake m.payload).startAdvance))

/-! ### Tunnel requests at the field half (R45, R55) -/

/-- Who a TAG names; none for REQ 2–6. -/
def tagReq (tag : Nat) : Option Requester :=
  match tag / 8192 with
  | 0 => some .host
  | 1 => some .mgmt
  | 7 => some .island
  | _ => none

/-- The addresses of a request. -/
def tunAddrs (a n : Nat) : List Nat := (List.range n).map (fun i => a + 4 * i)

/-- A request runs past the end of its block, or lies in no block (STATUS 3). -/
def tunRange (a n : Nat) : Bool := !isFieldAddr a || decide (blockEnd a < a + 4 * n - 1) || n == 0 || decide (64 < n) || a % 4 != 0

/-- The access reaches micro-registers or the control store while a customer routine runs: it becomes a service-class request (R167). -/
def State.tunSvc (s : State) (a n : Nat) : Bool × Bool :=
  let urun := s.is R.SEQ_STAT_CUST_RUN
  (urun && decide (R.SEQ_UREG 0 ≤ a ∧ a + 4 * n ≤ R.SEQ_UREG 15 + 4), urun && decide (0x1200000 ≤ a ∧ a + 4 * n ≤ 0x1240000))

/-- A service-class request waits (R167). -/
def State.svcAdd (s : State) (r : SvcReq) : State :=
  ({ s with seq := { s.seq with svc := s.seq.svc ++ [(s.fU, r)] } }).set R.SEQ_STAT_SVC_PENDING 1

/-- The words of a read, in ascending order, for a requester. -/
def State.readAll (s : State) (r : Nat) (l : List Nat) : List Word × State :=
  l.foldl (fun (acc : List Word × State) a => let x := acc.2.readReg r a; (acc.1 ++ [x.1], x.2)) ([], s)

/-- A read request arrives. -/
def State.tunRead (s : State) (pl : List Byte) : State :=
  let tag := leAt pl 0 2
  let n := leAt pl 2 2
  let a := leAt pl 4 4
  match tagReq tag with
  | none => s.sendRsp tag 3 []
  | some r =>
    if tunRange a n then s.sendRsp tag 3 []
    else if (s.tunSvc a n).1 then s.svcAdd (.uregRead (reqNo r) tag ((a - R.SEQ_UREG 0) / 4) n)
    else if (s.tunSvc a n).2 then s.svcAdd (.ustoreRead (reqNo r) tag ((a - 0x1200000) / 4) n)
    else
      let x := s.readAll (reqNo r) (tunAddrs a n)
      x.2.sendRsp tag (if (tunAddrs a n).any (fun b => !s.powered b) then 1 else 0) x.1

/-- XM_REG_RD (R45). -/
def execXmRegRd (u : Sub) (m : Msg) (s : State) : Host.Outcome State Fault Refusal :=
  done s ((s.atSeq u).fieldTake m (m.ty == 0x10) (fun t => t.tunRead m.payload))

/-- The status of a write of several registers: UNPOWERED, then PL_REJECT, then OK. [DESIGN CHOICE, log 40, unsafe] -/
def worstStatus (l : List Nat) : Nat := if l.contains 1 then 1 else if l.contains 2 then 2 else 0

/-- The words of a write, in ascending order. -/
def State.writeAll (s : State) (u : Sub) (r : Requester) (l : List (Nat × Word)) : List Nat × State :=
  l.foldl (fun (acc : List Nat × State) x => let y := acc.2.writeReg u r x.1 x.2; (acc.1 ++ [y.2], y.1)) ([], s)

/-- A write of the security island (R55): a go, a host Fatal, or a held write. -/
def State.islandWrite (s : State) (m : Msg) (tag a : Nat) (ws : List Word) : State :=
  if a = R.FCTL_ESC_GO then (s.goArrive (fieldOf (ws.getD 0 0) 0 2) m.t64).sendRsp tag 0 []
  else if a = R.FCTL_FATAL then (s.fatalField (fieldOf (ws.getD 0 0) 0 8)).sendRsp tag 0 []
  else (s.heldTake tag a ws).sendRsp tag 0 []

/-- A write request arrives. -/
def State.tunWrite (s : State) (u : Sub) (m : Msg) : State :=
  let pl := m.payload
  let tag := leAt pl 0 2
  let n := leAt pl 2 2
  let a := leAt pl 4 4
  let ws := (List.range ((pl.length - 8) / 4)).map (fun i => wordAt (pl.drop 8) i)
  match tagReq tag with
  | none => s.sendRsp tag 3 []
  | some r =>
    if reqNo r = 7 then s.islandWrite m tag a ws
    else if tunRange a n || n != ws.length then s.sendRsp tag 3 []
    else if (s.tunSvc a n).1 then s.svcAdd (.uregWrite (reqNo r) tag ((a - R.SEQ_UREG 0) / 4) ws)
    else
      let x := s.writeAll u r ((tunAddrs a n).zip ws)
      x.2.sendRsp tag (worstStatus x.1) []

/-- XM_REG_WR (R45, R53). -/
def execXmRegWr (u : Sub) (m : Msg) (s : State) : Host.Outcome State Fault Refusal :=
  done s ((s.atSeq u).fieldTake m (m.ty == 0x11) (fun t => t.tunWrite u m))

/-! ### Responses and accesses at the host half (R45, R49–R52) -/

/-- A response arrives: of the security island, of an access in flight, or after its timeout. -/
def State.rspArrive (s : State) (pl : List Byte) : State :=
  let tag := leAt pl 0 2
  let status := leAt pl 4 4
  let ws := (List.range ((pl.length - 8) / 4)).map (fun i => wordAt (pl.drop 8) i)
  if tag / 8192 = 7 then s.escAnswer tag ws
  else match s.link.inFlight.find? (fun t => t.tag == tag) with
    | some t => ((s.tunAnswer t status ws).recAnswered tag status).startAdvance
    | none => { s with link := { s.link with expired := s.link.expired.filter (fun x => x.1 != tag) } }

/-- XM_REG_RSP (R45, R51). -/
def execXmRegRsp (u : Sub) (m : Msg) (s : State) : Host.Outcome State Fault Refusal :=
  done s ((s.atH u).hostTake m (m.ty == 0x12) (fun t => t.rspArrive m.payload))

/-- An access of the host link or of the management core to a field block (R21, R45, R49, R429). [DEDUCED, log 19, safe] -/
def State.tunAccess (s : State) (r : Requester) (a n : Nat) (ws : Option (List Word)) : State :=
  let count := if r = .host then 1 else n
  if r = .island ∨ a % 4 ≠ 0 ∨ count = 0 ∨ 64 < count ∨ ws.any (fun l => l.length != count) then s
  else if (domainOf a).isNone then (if ws.isNone then s.ioGive (reqNo r) 0 else s)
  else if !isFieldAddr a then s
  else if s.mode = 0 ∧ r = .host then (if ws.isNone then s.sealedReject.ioGive (reqNo r) 0xFFFFFFFF#32 else s.sealedReject)
  else (s.tunSubmit (reqNo r) a count ws).2

/-- TUNNEL_ACCESS (R49). -/
def execTunnelAccess (u : Sub) (r : Requester) (a n : Nat) (ws : Option (List Word)) (s : State) : Host.Outcome State Fault Refusal :=
  done s ((s.atH u).tunAccess r a n ws)

/-- TUNNEL_TIMEOUT (R51). -/
def State.doTunTimeout (s : State) (tag : Nat) : State :=
  match s.tunOverdue tag with
  | some t => ((s.tunTimeout t).recAnswered tag 4).startAdvance
  | none => s

/-- TUNNEL_TIMEOUT. -/
def execTunnelTimeout (u : Sub) (tag : Nat) (s : State) : Host.Outcome State Fault Refusal := done s ((s.atH u).doTunTimeout tag)

/-- One 32-bit access of the host link to BAR0 (R4). -/
def State.barAccess (s : State) (u : Sub) (a : Nat) (w : Option Word) : State :=
  if isFieldAddr a ∨ (domainOf a).isNone then s.tunAccess .host a 1 (w.map (fun x => [x]))
  else match w with
    | some v => (s.writeReg u .host a v).1
    | none => let x := s.readReg 0 a; x.2.ioGive 0 x.1

/-- HOST_64BIT_ACCESS (R5): two 32-bit accesses, low word first. Another alignment is BAR0_BAD_ACCESS. -/
def execHost64bitAccess (u : Sub) (a : Nat) (w : Option (Word × Word)) (s : State) : Host.Outcome State Fault Refusal :=
  done s (let t := s.atH u
    if a % 8 = 0 then (t.barAccess u a (w.map Prod.fst)).barAccess u (a + 4) (w.map Prod.snd) else t)

/-- BAR0_BAD_ACCESS (R6): no register is touched; a read returns all ones. -/
def State.doBadAccess (s : State) (read : Bool) : State :=
  let s1 := (s.hdmaCount R.HDMA_BAR0_ERR 1).hdmaEvt R.HDMA_EVT_BAR0_ERR
  if read then s1.ioGive 0 0xFFFFFFFF#32 else s1

/-- BAR0_BAD_ACCESS. -/
def execBar0BadAccess (u : Sub) (read : Bool) (s : State) : Host.Outcome State Fault Refusal :=
  done s ((s.atH u).ifOn R.HDMA_BAR0_ERR (fun t => t.doBadAccess read))

/-- The message is the island's write of a Fatal source. -/
def isFatalWrite (id : Nat) (m : Msg) : Bool :=
  m.ty == 0x11 && leAt m.payload 4 4 == R.FCTL_FATAL && leAt m.payload 0 2 / 8192 == 7 && leAt m.payload 8 4 % 256 == id

/-- FCTL_FATAL (R446): the host Fatal write that waits on the barrier arrives. [DEDUCED, log 73, unsafe] -/
def State.doFctlFatal (s : State) (id : Nat) : State :=
  match s.link.outHF.find? (isFatalWrite id) with
  | some m => s.fieldTake m true (fun t => (t.fatalField id).sendRsp (leAt m.payload 0 2) 0 [])
  | none => s

/-- FCTL_FATAL. -/
def execFctlFatal (u : Sub) (id : Fin 256) (s : State) : Host.Outcome State Fault Refusal := done s ((s.atF u).doFctlFatal id)

end Sys2Proof.Machine
end

