-- ==== Sys2Proof/Machine/Boundary.lean ====
section
/-! DEFINITION. The tick boundaries of the two halves (R62, R65, R70, R80): what the fixed schedule runs at each, and the plans that take effect there. -/

namespace Sys2Proof.Machine

/-! ### Plans in force (R43, R63–R65, R89) -/

/-- An admitted change takes effect in the field half at its boundary (R65). What a plan changes in the host half alone, and a change that has a command of its
own, does nothing here. -/
def State.planEffect (s : State) : PlanAct → State
  | .resend => if s.start.stopsDue then ({ s with start := { s.start with stopsDue := false } }).modeStops s.mode else s
  | .laneApply l => s.lanePlanned l
  | .laneStream l => s.streamsStart l
  | .fwdMax => s.setFail { s.seq.fail with fwdMax := s.get R.SEQ_FAIL_CTRL_FWD_MAX }
  | .group n => s.groupArm n
  | .red l => s.redEffect l
  | .tallyH h => if r : h < 48 then s.tallyStart (.hist ⟨h, r⟩) else s
  | .tallyM m => if r : m < 8 then s.tallyStart (.map ⟨m, r⟩) else s
  | .pair p => s.pairStart p
  | .mode _ => s
  | .capture _ => s
  | .quiet _ => s
  | .release => s

/-- The boundary of a plan has been reached, by a count of ticks across eras. -/
def Plan.dueAt (now : Nat) (p : Plan) : Bool := decide (absTick p.era p.tick ≤ now)

/-- The field half puts the plans of this boundary in force, in order of admission; one that started late is among them (R43). -/
def State.fieldPlans (s : State) : State :=
  let now := s.fTickU / unitsPerTick
  let due := s.plan.field.filter (Plan.dueAt now)
  due.foldl (fun t p => ({ t with plan := { t.plan with fieldId := p.id } }).planEffect p.act)
    { s with plan := { s.plan with field := s.plan.field.filter (fun p => !p.dueAt now) } }

/-- The host half puts the plans of this boundary in force, whether or not the link is up: TIME_PLAN_ID, and the budget of functions whose BUSY has fallen
(R65, R89). -/
def State.hostPlans (s : State) : State :=
  let d := s.duePlans
  d.1.foldl (fun t p =>
    ({ t with plan := { t.plan with held := t.plan.held.filter (fun x => decide (t.hAbs < x.2.2)) } }).put R.TIME_PLAN_ID p.id) d.2

/-- PLAN_TAKES_EFFECT (R65): at a boundary of each half its plans take effect. [DESIGN CHOICE, log 29, unsafe] -/
def State.doPlans (s : State) : State :=
  let s1 := if s.time.hUnit = 0 ∧ s.powered R.TIME_CTRL then s.hostPlans else s
  if s1.time.fUnit = 0 ∧ s1.domOn (domF 1) then s1.fieldPlans else s1

/-- PLAN_TAKES_EFFECT. -/
def execPlanTakesEffect (s : State) : Host.Outcome State Fault Refusal := done s s.doPlans

/-! ### The field half's boundary (R62) -/

/-- A port's channel commands drive-off, and its role has a readback (R105, R437). -/
def State.readsBack (s : State) (p : Port) : Bool :=
  (s.role p == roleRemote || s.role p == roleLaneDrv) && !s.is (R.PIN_STAT_DRV_ON p)

/-- DRIVE_READBACK_CHECK (R437): the ports whose readback sees drive against the command; at the 4th boundary in a row source 0x50 with the port. -/
def State.driveReadback (s : State) (drive : List Port) : State :=
  let seen := drive.eraseDups.filter s.readsBack
  let count (p : Port) : Nat := ((s.fault.readback.find? (fun x => x.1 == p.val)).map Prod.snd).getD 0 + 1
  let s1 := seen.foldl (fun t p => if count p = 4 then t.fieldFault 0x50 p else t) s
  { s1 with fault := { s1.fault with readback := seen.map (fun p => (p.val, min 5 (count p))) } }

/-- The field beacon goes to the head of VC0 (R42, R62). -/
def State.fieldBeacon (s : State) : State :=
  s.sendFH 0x01 0 s.fNow.pack (timePayload 1 s.time.fEra s.time.fEpoch (s.val R.TIME_PATH))

/-- The field control processor runs again 500 ticks after its block reset at the latest (R441). [DEDUCED, log 30, unsafe] -/
def State.fcpBack (s : State) : State :=
  if s.fault.fcpUntil.any (fun t => t % ticksPerEra == s.time.fTick) then { s with fault := { s.fault with fcpUntil := none } } else s

/-- The tick that ends: its samples, the events of its fault raises that no XM_HEALTH has taken with it, its blocks (R120, R220, R438). -/
def State.tickEnds (s : State) (env : List LaneIn) : State :=
  ((s.takeSamples env).sendFieldFaults.lanesTick.edgesTick)

/-- The count moves on, and the overrun result of the tick that has ended is cleared (R66, R68); the counts of the tick start at 0 (R126, R280, R281). -/
def State.tickBegins (s : State) : State :=
  let s1 := s.overrunNext.fieldNextTick
  { s1 with cmp := { s1.cmp with sent := 0, items := 0 } }

/-- What leaves at the boundary: the beacon, bursts from the Float, fail records and the dump (R62, R126, R225); the dump takes what the tick that has ended
leaves of its allocation. -/
def State.tickSends (s : State) : State :=
  let s1 := s.fieldBeacon.drainBursts.failForward
  let s2 := s1.dumpSend s1.seq.fail.dump.length
  { s2 with link := { s2.link with vc4Tick := 0 } }

/-- What follows the count in each unit: the plans, bank swap and commits of this boundary; generators, sweeps and the tick's trigger event; the inhibits, pods
and reference that act at boundaries; a run that is due; the end of the field stage (R62). -/
def State.tickEffects (s : State) (drive : List Port) : State :=
  let s1 := s.fieldPlans.doBankSwap.doEscApply
  let s2 := ((s1.genTickAll.sourceEvent 0x8D (s1.fU * 256)).tickSweeps).seqSettle
  ((s2.guardInhibit.podResets.refTick.runStart.fieldStageEnd.fcpBack).driveReadback drive).takeFloatLoss

/-- TICK_BOUNDARY (R62). [DESIGN CHOICE, log 29, unsafe] -/
def State.doTickBoundary (s : State) (env : List LaneIn) (drive : List Port) : State :=
  if s.domOn (domF 1) then ((s.tickEnds env).tickBegins.tickSends).tickEffects drive else s

/-- TICK_BOUNDARY. -/
def execTickBoundary (env : List LaneIn) (drive : List Port) (s : State) : Host.Outcome State Fault Refusal := done s (s.doTickBoundary env drive)

/-! ### The host half's boundary (R70, R80) -/

/-- The Ledger appends 250,000 entries in a second of module time; what waits in the queue goes first (R391). [DEDUCED, log 65, unsafe] -/
def State.ledgerSecond (s : State) : State :=
  if s.time.hTick % 100000 = 0 then
    let q := s.ledger.queue
    let now := q.take ledgerRate
    let s1 := { s with ledger := { s.ledger with rate := now.length, queue := q.drop ledgerRate } }
    let s2 := now.foldl State.ledgerWrite s1
    if s2.ledger.queue = [] then s2.set R.LDG_STAT_QUEUED 0 else s2
  else s

/-- What takes effect at the boundary: plans, the epoch, CELL_SYNC (R65, R75, R459), shutdown and revert that wait for it (R448, R464). -/
def State.hostEffects (s : State) (line : Bool) : State :=
  ((s.doTickMark.ledgerSecond.hostPlans.doEpochSet).showCellSync line).hostShutdown.fatalRevert

/-- What follows each tick: the store's return to recording, the Ledger's overwrite, the availability count, Clearing, RECORDING, start-up (R80, R392, R425,
R449). -/
def State.hostFollows (s : State) : State :=
  ((s.storeRestart.takeOverwrite).availTick s.start.supply).clearTick.showRecording.startAdvance

/-- HOST_TICK_BOUNDARY (R80). [DESIGN CHOICE, log 29, unsafe] -/
def State.doHostTick (s : State) (line : Bool) : State :=
  if s.start.power then (s.hostNextTick.hostEffects line).hostFollows else s

/-- HOST_TICK_BOUNDARY. -/
def execHostTickBoundary (line : Bool) (s : State) : Host.Outcome State Fault Refusal := done s (s.doHostTick line)

/-- ERA_WRAP (R70, R71): the boundary after the last tick of an era. -/
def State.doEraWrap (s : State) : State :=
  if s.time.hTick + 1 = ticksPerEra then s.doHostTick (s.is R.UPD_STAT_LINE || s.is R.UPD_STAT_DRIVING) else s

/-- ERA_WRAP. -/
def execEraWrap (s : State) : Host.Outcome State Fault Refusal := done s s.doEraWrap

end Sys2Proof.Machine
end

