-- ==== Sys2Proof/Machine/Dispatch.lean ====
section
/-! DEFINITION. What each command does: one arm per constructor, each one direct call of the command's meaning. -/

namespace Sys2Proof.Machine

def exec (i : Instr) (s : State) : Host.Outcome State Fault Refusal :=
  match i with
  | .host64bitAccess u a w => Sys2Proof.Machine.execHost64bitAccess u a w s
  | .bar0BadAccess u read => Sys2Proof.Machine.execBar0BadAccess u read s
  | .registerWrite u r a v => Sys2Proof.Machine.execRegisterWrite u r a v s
  | .rsRead u r a => Sys2Proof.Machine.execRsRead u r a s
  | .powerDomainRequest u v => Sys2Proof.Machine.execPowerDomainRequest u v s
  | .domainPowered u d => Sys2Proof.Machine.execDomainPowered u d s
  | .h3TrainingDone u => Sys2Proof.Machine.execH3TrainingDone u s
  | .trainingDone u fh hf => Sys2Proof.Machine.execTrainingDone u fh hf s
  | .trainingRetryTimer u => Sys2Proof.Machine.execTrainingRetryTimer u s
  | .isoRetrain u => Sys2Proof.Machine.execIsoRetrain u s
  | .linkDown u => Sys2Proof.Machine.execLinkDown u s
  | .linkHoldExpiry u => Sys2Proof.Machine.execLinkHoldExpiry u s
  | .laneFailure u fh k => Sys2Proof.Machine.execLaneFailure u fh k s
  | .reconfigDone u => Sys2Proof.Machine.execReconfigDone u s
  | .shed => Sys2Proof.Machine.execShed s
  | .frameReplay u fh n lost => Sys2Proof.Machine.execFrameReplay u fh n lost s
  | .isoClrStats u => Sys2Proof.Machine.execIsoClrStats u s
  | .xmTimeFieldBeacon u m => Sys2Proof.Machine.execXmTimeFieldBeacon u m s
  | .xmTimeHostBeacon u m => Sys2Proof.Machine.execXmTimeHostBeacon u m s
  | .xmTimeEpochSet u m => Sys2Proof.Machine.execXmTimeEpochSet u m s
  | .xmTickPlan u m => Sys2Proof.Machine.execXmTickPlan u m s
  | .xmHealth u toHost m => Sys2Proof.Machine.execXmHealth u toHost m s
  | .xmRegRd u m => Sys2Proof.Machine.execXmRegRd u m s
  | .xmRegWr u m => Sys2Proof.Machine.execXmRegWr u m s
  | .xmRegRsp u m => Sys2Proof.Machine.execXmRegRsp u m s
  | .xmSamples u m => Sys2Proof.Machine.execXmSamples u m s
  | .xmReduce u m => Sys2Proof.Machine.execXmReduce u m s
  | .xmTally u m => Sys2Proof.Machine.execXmTally u m s
  | .xmEvent u m => Sys2Proof.Machine.execXmEvent u m s
  | .xmFail u m => Sys2Proof.Machine.execXmFail u m s
  | .xmCmp u m => Sys2Proof.Machine.execXmCmp u m s
  | .xmRefillVec u m => Sys2Proof.Machine.execXmRefillVec u m s
  | .xmRefillGen u m => Sys2Proof.Machine.execXmRefillGen u m s
  | .xmPodRequest u m => Sys2Proof.Machine.execXmPodRequest u m s
  | .xmPodResponse u m => Sys2Proof.Machine.execXmPodResponse u m s
  | .xmPodLedger u m => Sys2Proof.Machine.execXmPodLedger u m s
  | .xmCalSetImage u toField m => Sys2Proof.Machine.execXmCalSetImage u toField m s
  | .xmCalSetDrop u m => Sys2Proof.Machine.execXmCalSetDrop u m s
  | .xmCalBank u m => Sys2Proof.Machine.execXmCalBank u m s
  | .xmCalRunEnd u m => Sys2Proof.Machine.execXmCalRunEnd u m s
  | .xmCalStored u m => Sys2Proof.Machine.execXmCalStored u m s
  | .xmFw u m => Sys2Proof.Machine.execXmFw u m s
  | .tunnelAccess u r a n ws => Sys2Proof.Machine.execTunnelAccess u r a n ws s
  | .tunnelTimeout u tag => Sys2Proof.Machine.execTunnelTimeout u tag s
  | .fctlEscGo u k => Sys2Proof.Machine.execFctlEscGo u k s
  | .heldWriteDiscard k => Sys2Proof.Machine.execHeldWriteDiscard k s
  | .escApply => Sys2Proof.Machine.execEscApply s
  | .fctlFatal u id => Sys2Proof.Machine.execFctlFatal u id s
  | .clockSourceSelect u src => Sys2Proof.Machine.execClockSourceSelect u src s
  | .pllLock u => Sys2Proof.Machine.execPllLock u s
  | .refLost u => Sys2Proof.Machine.execRefLost u s
  | .holdoverReturn u => Sys2Proof.Machine.execHoldoverReturn u s
  | .hostBeaconSend => Sys2Proof.Machine.execHostBeaconSend s
  | .fieldStep => Sys2Proof.Machine.execFieldStep s
  | .tickBoundary env drive => Sys2Proof.Machine.execTickBoundary env drive s
  | .healthCompose => Sys2Proof.Machine.execHealthCompose s
  | .tallyMerge env => Sys2Proof.Machine.execTallyMerge env s
  | .tickOverrun => Sys2Proof.Machine.execTickOverrun s
  | .planTakesEffect => Sys2Proof.Machine.execPlanTakesEffect s
  | .eraWrap => Sys2Proof.Machine.execEraWrap s
  | .tickMarkWrite => Sys2Proof.Machine.execTickMarkWrite s
  | .epochLoad u => Sys2Proof.Machine.execEpochLoad u s
  | .epochSet => Sys2Proof.Machine.execEpochSet s
  | .todMessage u b => Sys2Proof.Machine.execTodMessage u b s
  | .ppsEdge u => Sys2Proof.Machine.execPpsEdge u s
  | .ppsMissing u => Sys2Proof.Machine.execPpsMissing u s
  | .timeClrStats u => Sys2Proof.Machine.execTimeClrStats u s
  | .hostTickBoundary line => Sys2Proof.Machine.execHostTickBoundary line s
  | .horizonChange => Sys2Proof.Machine.execHorizonChange s
  | .clrCtrlClrStats u => Sys2Proof.Machine.execClrCtrlClrStats u s
  | .driveInhAssert u => Sys2Proof.Machine.execDriveInhAssert u s
  | .driveInhPinRelease u => Sys2Proof.Machine.execDriveInhPinRelease u s
  | .sysDriveInhSet u => Sys2Proof.Machine.execSysDriveInhSet u s
  | .driveInhRelease u => Sys2Proof.Machine.execDriveInhRelease u s
  | .fieldInhibitEnd => Sys2Proof.Machine.execFieldInhibitEnd s
  | .pinLevelWrite u p which v => Sys2Proof.Machine.execPinLevelWrite u p which v s
  | .laneLevelApply p => Sys2Proof.Machine.execLaneLevelApply p s
  | .deskew u p => Sys2Proof.Machine.execDeskew u p s
  | .deskewDone u p runs => Sys2Proof.Machine.execDeskewDone u p runs s
  | .pinEnable u p => Sys2Proof.Machine.execPinEnable u p s
  | .pinDisable u p => Sys2Proof.Machine.execPinDisable u p s
  | .pinClrStats p => Sys2Proof.Machine.execPinClrStats p s
  | .pinTransition u p st => Sys2Proof.Machine.execPinTransition u p st s
  | .failRecordComplete u => Sys2Proof.Machine.execFailRecordComplete u s
  | .failClear u => Sys2Proof.Machine.execFailClear u s
  | .failClearApply u => Sys2Proof.Machine.execFailClearApply u s
  | .failDump u => Sys2Proof.Machine.execFailDump u s
  | .dumpDone u => Sys2Proof.Machine.execDumpDone u s
  | .fwdMaxWrite u n => Sys2Proof.Machine.execFwdMaxWrite u n s
  | .seqFailClrStats => Sys2Proof.Machine.execSeqFailClrStats s
  | .opNext u => Sys2Proof.Machine.execOpNext u s
  | .opRepeat u => Sys2Proof.Machine.execOpRepeat u s
  | .opLoop u => Sys2Proof.Machine.execOpLoop u s
  | .opEndloop u => Sys2Proof.Machine.execOpEndloop u s
  | .opJump u => Sys2Proof.Machine.execOpJump u s
  | .opCall u => Sys2Proof.Machine.execOpCall u s
  | .opRet u => Sys2Proof.Machine.execOpRet u s
  | .opWaitTrig u => Sys2Proof.Machine.execOpWaitTrig u s
  | .waitTimeout u => Sys2Proof.Machine.execWaitTimeout u s
  | .opMatch u => Sys2Proof.Machine.execOpMatch u s
  | .matchLimit u => Sys2Proof.Machine.execMatchLimit u s
  | .opSyncTick u => Sys2Proof.Machine.execOpSyncTick u s
  | .opFlag u => Sys2Proof.Machine.execOpFlag u s
  | .opGenStep u => Sys2Proof.Machine.execOpGenStep u s
  | .opCustom u => Sys2Proof.Machine.execOpCustom u s
  | .opHalt u => Sys2Proof.Machine.execOpHalt u s
  | .reservedOpcode u => Sys2Proof.Machine.execReservedOpcode u s
  | .instanceStart obs ilim => Sys2Proof.Machine.execInstanceStart obs ilim s
  | .underrun u => Sys2Proof.Machine.execUnderrun u s
  | .seqStart u => Sys2Proof.Machine.execSeqStart u s
  | .seqPause u => Sys2Proof.Machine.execSeqPause u s
  | .pauseClear u => Sys2Proof.Machine.execPauseClear u s
  | .seqStep u => Sys2Proof.Machine.execSeqStep u s
  | .seqStop u => Sys2Proof.Machine.execSeqStop u s
  | .hostJump u => Sys2Proof.Machine.execHostJump u s
  | .vectorRequestTaken u => Sys2Proof.Machine.execVectorRequestTaken u s
  | .seqResume u => Sys2Proof.Machine.execSeqResume u s
  | .winApply u => Sys2Proof.Machine.execWinApply u s
  | .seqClrStats => Sys2Proof.Machine.execSeqClrStats s
  | .seqOverdraft u => Sys2Proof.Machine.execSeqOverdraft u s
  | .custSwitch u => Sys2Proof.Machine.execCustSwitch u s
  | .uNop u => Sys2Proof.Machine.execUNop u s
  | .uLdi u => Sys2Proof.Machine.execULdi u s
  | .uLdh u => Sys2Proof.Machine.execULdh u s
  | .uAdd u => Sys2Proof.Machine.execUAdd u s
  | .uSub u => Sys2Proof.Machine.execUSub u s
  | .uAnd u => Sys2Proof.Machine.execUAnd u s
  | .uOr u => Sys2Proof.Machine.execUOr u s
  | .uXor u => Sys2Proof.Machine.execUXor u s
  | .uShl u => Sys2Proof.Machine.execUShl u s
  | .uShr u => Sys2Proof.Machine.execUShr u s
  | .uRds u => Sys2Proof.Machine.execURds u s
  | .uBr u => Sys2Proof.Machine.execUBr u s
  | .uMcall u => Sys2Proof.Machine.execUMcall u s
  | .uMret u => Sys2Proof.Machine.execUMret u s
  | .uIssue u => Sys2Proof.Machine.execUIssue u s
  | .uPatch u => Sys2Proof.Machine.execUPatch u s
  | .uCmpw u => Sys2Proof.Machine.execUCmpw u s
  | .uTrig u => Sys2Proof.Machine.execUTrig u s
  | .uDrain u => Sys2Proof.Machine.execUDrain u s
  | .uLpush u => Sys2Proof.Machine.execULpush u s
  | .uLend u => Sys2Proof.Machine.execULend u s
  | .uCpush u => Sys2Proof.Machine.execUCpush u s
  | .uCpop u => Sys2Proof.Machine.execUCpop u s
  | .uSetnx u => Sys2Proof.Machine.execUSetnx u s
  | .uFlag u => Sys2Proof.Machine.execUFlag u s
  | .uGstep u => Sys2Proof.Machine.execUGstep u s
  | .uEvt u => Sys2Proof.Machine.execUEvt u s
  | .uSafe u => Sys2Proof.Machine.execUSafe u s
  | .uEnd u => Sys2Proof.Machine.execUEnd u s
  | .uHlt u => Sys2Proof.Machine.execUHlt u s
  | .illegalMicroOp u => Sys2Proof.Machine.execIllegalMicroOp u s
  | .stallRelease u => Sys2Proof.Machine.execStallRelease u s
  | .serviceRequestTaken u => Sys2Proof.Machine.execServiceRequestTaken u s
  | .svcOverdue u => Sys2Proof.Machine.execSvcOverdue u s
  | .ustoreClrStats => Sys2Proof.Machine.execUstoreClrStats s
  | .genCfgWrite u g v => Sys2Proof.Machine.execGenCfgWrite u g v s
  | .genListWrite u g v => Sys2Proof.Machine.execGenListWrite u g v s
  | .genEnable u g => Sys2Proof.Machine.execGenEnable u g s
  | .genDisable u g => Sys2Proof.Machine.execGenDisable u g s
  | .genStopPoint u g => Sys2Proof.Machine.execGenStopPoint u g s
  | .genStart u g => Sys2Proof.Machine.execGenStart u g s
  | .genResume u g => Sys2Proof.Machine.execGenResume u g s
  | .genListClr u g => Sys2Proof.Machine.execGenListClr u g s
  | .genClrStats g => Sys2Proof.Machine.execGenClrStats g s
  | .genGoArm u => Sys2Proof.Machine.execGenGoArm u s
  | .genGo u => Sys2Proof.Machine.execGenGo u s
  | .genGoCancel u => Sys2Proof.Machine.execGenGoCancel u s
  | .generatorStep u g clip => Sys2Proof.Machine.execGeneratorStep u g clip s
  | .triggeredStep g => Sys2Proof.Machine.execTriggeredStep g s
  | .trigTimeout u g => Sys2Proof.Machine.execTrigTimeout u g s
  | .genOverdraftEnd u g => Sys2Proof.Machine.execGenOverdraftEnd u g s
  | .laneApply u l => Sys2Proof.Machine.execLaneApply u l s
  | .laneApplyEffect l => Sys2Proof.Machine.execLaneApplyEffect l s
  | .laneApplyWithdraw l => Sys2Proof.Machine.execLaneApplyWithdraw l s
  | .laneStreamWrite u l v => Sys2Proof.Machine.execLaneStreamWrite u l v s
  | .burstGo u l => Sys2Proof.Machine.execBurstGo u l s
  | .burstStart l => Sys2Proof.Machine.execBurstStart l s
  | .burstEnd l => Sys2Proof.Machine.execBurstEnd l s
  | .burstDone u l => Sys2Proof.Machine.execBurstDone u l s
  | .unsettledEnd u l => Sys2Proof.Machine.execUnsettledEnd u l s
  | .laneClrStats l => Sys2Proof.Machine.execLaneClrStats l s
  | .laneTriggerEvent u env => Sys2Proof.Machine.execLaneTriggerEvent u env s
  | .trigInEdge u k rising => Sys2Proof.Machine.execTrigInEdge u k rising s
  | .hostTrig u => Sys2Proof.Machine.execHostTrig u s
  | .combinerFire u c => Sys2Proof.Machine.execCombinerFire u c s
  | .holdoffExpiry u c => Sys2Proof.Machine.execHoldoffExpiry u c s
  | .sequenceWindowExpiry u c => Sys2Proof.Machine.execSequenceWindowExpiry u c s
  | .combLevelFall u c => Sys2Proof.Machine.execCombLevelFall u c s
  | .combRearm u c => Sys2Proof.Machine.execCombRearm u c s
  | .combClrStats u c => Sys2Proof.Machine.execCombClrStats u c s
  | .acqConfigEffect => Sys2Proof.Machine.execAcqConfigEffect s
  | .segmentComplete u n env => Sys2Proof.Machine.execSegmentComplete u n env s
  | .groupEnable u n v => Sys2Proof.Machine.execGroupEnable u n v s
  | .groupDisable u n => Sys2Proof.Machine.execGroupDisable u n s
  | .grpClrStats n => Sys2Proof.Machine.execGrpClrStats n s
  | .redApply u l v => Sys2Proof.Machine.execRedApply u l v s
  | .redClrStats l => Sys2Proof.Machine.execRedClrStats l s
  | .frameEnd l => Sys2Proof.Machine.execFrameEnd l s
  | .tallyEnable u t v => Sys2Proof.Machine.execTallyEnable u t v s
  | .tallyClear u t => Sys2Proof.Machine.execTallyClear u t s
  | .tallySnap u => Sys2Proof.Machine.execTallySnap u s
  | .tallySnapshot t => Sys2Proof.Machine.execTallySnapshot t s
  | .sweepEnd u m => Sys2Proof.Machine.execSweepEnd u m s
  | .pairEnable u p => Sys2Proof.Machine.execPairEnable u p s
  | .pairDisable u p env => Sys2Proof.Machine.execPairDisable u p env s
  | .compareDecision u p env => Sys2Proof.Machine.execCompareDecision u p env s
  | .learnFreeze p => Sys2Proof.Machine.execLearnFreeze p s
  | .relearn u p => Sys2Proof.Machine.execRelearn u p s
  | .relearnStart p => Sys2Proof.Machine.execRelearnStart p s
  | .latencyFollow p => Sys2Proof.Machine.execLatencyFollow p s
  | .referenceRead u p late => Sys2Proof.Machine.execReferenceRead u p late s
  | .replayResume u => Sys2Proof.Machine.execReplayResume u s
  | .overflow u p => Sys2Proof.Machine.execOverflow u p s
  | .cmpRplWrite u k v => Sys2Proof.Machine.execCmpRplWrite u k v s
  | .cmpClrStats u => Sys2Proof.Machine.execCmpClrStats u s
  | .cmpPClrStats u p => Sys2Proof.Machine.execCmpPClrStats u p s
  | .guardSample vs => Sys2Proof.Machine.execGuardSample vs s
  | .quietRequest u v => Sys2Proof.Machine.execQuietRequest u v s
  | .quietEnter => Sys2Proof.Machine.execQuietEnter s
  | .wake u => Sys2Proof.Machine.execWake u s
  | .quietEnd u => Sys2Proof.Machine.execQuietEnd u s
  | .quietRestoreComplete u => Sys2Proof.Machine.execQuietRestoreComplete u s
  | .grdClrStats => Sys2Proof.Machine.execGrdClrStats s
  | .mcStart u => Sys2Proof.Machine.execMcStart u s
  | .mcCont u => Sys2Proof.Machine.execMcCont u s
  | .mcAbort u => Sys2Proof.Machine.execMcAbort u s
  | .conversionDone u code => Sys2Proof.Machine.execConversionDone u code s
  | .lineLost u => Sys2Proof.Machine.execLineLost u s
  | .refbufOn u => Sys2Proof.Machine.execRefbufOn u s
  | .refReady u => Sys2Proof.Machine.execRefReady u s
  | .refbufOff u => Sys2Proof.Machine.execRefbufOff u s
  | .hkScanStart u => Sys2Proof.Machine.execHkScanStart u s
  | .hkScanDone u temps refuv => Sys2Proof.Machine.execHkScanDone u temps refuv s
  | .ddacEnable u v => Sys2Proof.Machine.execDdacEnable u v s
  | .calRun u => Sys2Proof.Machine.execCalRun u s
  | .calAutoStart u => Sys2Proof.Machine.execCalAutoStart u s
  | .calRunEnd u r => Sys2Proof.Machine.execCalRunEnd u r s
  | .calAbort u => Sys2Proof.Machine.execCalAbort u s
  | .calAbortDone u refLost => Sys2Proof.Machine.execCalAbortDone u refLost s
  | .setStoreTimeout u => Sys2Proof.Machine.execSetStoreTimeout u s
  | .bankReady u => Sys2Proof.Machine.execBankReady u s
  | .bankSwap => Sys2Proof.Machine.execBankSwap s
  | .metCalClrStats u => Sys2Proof.Machine.execMetCalClrStats u s
  | .podInsert u q => Sys2Proof.Machine.execPodInsert u q s
  | .debounceDone u q code => Sys2Proof.Machine.execDebounceDone u q code s
  | .hello u q ans => Sys2Proof.Machine.execHello u q ans s
  | .setRate u q ans => Sys2Proof.Machine.execSetRate u q ans s
  | .linkTest u q data ans => Sys2Proof.Machine.execLinkTest u q data ans s
  | .caps u q ans => Sys2Proof.Machine.execCaps u q ans s
  | .certRead u q ans => Sys2Proof.Machine.execCertRead u q ans s
  | .challenge u q ans => Sys2Proof.Machine.execChallenge u q ans s
  | .stressRead u q ans => Sys2Proof.Machine.execStressRead u q ans s
  | .poll u q ans => Sys2Proof.Machine.execPoll u q ans s
  | .config u q ans => Sys2Proof.Machine.execConfig u q ans s
  | .level u q ans => Sys2Proof.Machine.execLevel u q ans s
  | .hold u q ans => Sys2Proof.Machine.execHold u q ans s
  | .fwWrite u q ofs data ans => Sys2Proof.Machine.execFwWrite u q ofs data ans s
  | .fwCommit u q digest ans => Sys2Proof.Machine.execFwCommit u q digest ans s
  | .podResponse u q frame => Sys2Proof.Machine.execPodResponse u q frame s
  | .podResponseTimeout u q => Sys2Proof.Machine.execPodResponseTimeout u q s
  | .helloTimeout u q => Sys2Proof.Machine.execHelloTimeout u q s
  | .renegotiate u q => Sys2Proof.Machine.execRenegotiate u q s
  | .linkLossHold u q => Sys2Proof.Machine.execLinkLossHold u q s
  | .podSelfHold u q => Sys2Proof.Machine.execPodSelfHold u q s
  | .pollInterval u q => Sys2Proof.Machine.execPollInterval u q s
  | .challengeDue u q => Sys2Proof.Machine.execChallengeDue u q s
  | .recheckRetry u q => Sys2Proof.Machine.execRecheckRetry u q s
  | .podAttached q => Sys2Proof.Machine.execPodAttached q s
  | .podRemoval u q => Sys2Proof.Machine.execPodRemoval u q s
  | .detach q => Sys2Proof.Machine.execDetach q s
  | .powerTrip u q => Sys2Proof.Machine.execPowerTrip u q s
  | .podRetry u q => Sys2Proof.Machine.execPodRetry u q s
  | .podRecheck u q => Sys2Proof.Machine.execPodRecheck u q s
  | .podHoldWrite u q hold => Sys2Proof.Machine.execPodHoldWrite u q hold s
  | .podPowerOff u q off => Sys2Proof.Machine.execPodPowerOff u q off s
  | .podClrStats u => Sys2Proof.Machine.execPodClrStats u s
  | .podBudgetCheck mv mw => Sys2Proof.Machine.execPodBudgetCheck mv mw s
  | .functionLevelReset u => Sys2Proof.Machine.execFunctionLevelReset u s
  | .hotReset u => Sys2Proof.Machine.execHotReset u s
  | .hostLinkDown u => Sys2Proof.Machine.execHostLinkDown u s
  | .hostLinkRetrain u speed width => Sys2Proof.Machine.execHostLinkRetrain u speed width s
  | .aerError u correctable => Sys2Proof.Machine.execAerError u correctable s
  | .bar2Access u write off words => Sys2Proof.Machine.execBar2Access u write off words s
  | .descriptorPost u c tail => Sys2Proof.Machine.execDescriptorPost u c tail s
  | .hdmaNop u c d => Sys2Proof.Machine.execHdmaNop u c d s
  | .refill u c d data => Sys2Proof.Machine.execRefill u c d data s
  | .copyOut u c d n => Sys2Proof.Machine.execCopyOut u c d n s
  | .tap u c d => Sys2Proof.Machine.execTap u c d s
  | .descriptorComplete u c data => Sys2Proof.Machine.execDescriptorComplete u c data s
  | .hostErr u c data n => Sys2Proof.Machine.execHostErr u c data n s
  | .hdmaChannelEnable u c => Sys2Proof.Machine.execHdmaChannelEnable u c s
  | .hdmaDrain u c => Sys2Proof.Machine.execHdmaDrain u c s
  | .hdmaAbort u c data n => Sys2Proof.Machine.execHdmaAbort u c data n s
  | .channelStopped u c descs => Sys2Proof.Machine.execChannelStopped u c descs s
  | .tapFlush u c => Sys2Proof.Machine.execTapFlush u c s
  | .eqVectorTimer u => Sys2Proof.Machine.execEqVectorTimer u s
  | .hdmaClrStats u => Sys2Proof.Machine.execHdmaClrStats u s
  | .hdmaCClrStats u c => Sys2Proof.Machine.execHdmaCClrStats u c s
  | .driveLinkUp u d x => Sys2Proof.Machine.execDriveLinkUp u d x s
  | .driveLinkDown u d => Sys2Proof.Machine.execDriveLinkDown u d s
  | .nvmeCompletion u d op ok => Sys2Proof.Machine.execNvmeCompletion u d op ok s
  | .nvmeCommandTimeout u d abort => Sys2Proof.Machine.execNvmeCommandTimeout u d abort s
  | .rebuildDone u => Sys2Proof.Machine.execRebuildDone u s
  | .storFormat u => Sys2Proof.Machine.execStorFormat u s
  | .storEnWrite u en => Sys2Proof.Machine.execStorEnWrite u en s
  | .sealInstant => Sys2Proof.Machine.execSealInstant s
  | .sealNow u => Sys2Proof.Machine.execSealNow u s
  | .sealIssued u => Sys2Proof.Machine.execSealIssued u s
  | .pinAdd u => Sys2Proof.Machine.execPinAdd u s
  | .storeRead u => Sys2Proof.Machine.execStoreRead u s
  | .storeReadDone u => Sys2Proof.Machine.execStoreReadDone u s
  | .storClrStats u => Sys2Proof.Machine.execStorClrStats u s
  | .mergedAppend u => Sys2Proof.Machine.execMergedAppend u s
  | .ldgNote u => Sys2Proof.Machine.execLdgNote u s
  | .ldgClrStats u => Sys2Proof.Machine.execLdgClrStats u s
  | .packetSubmit u service => Sys2Proof.Machine.execPacketSubmit u service s
  | .packetCheckDone u => Sys2Proof.Machine.execPacketCheckDone u s
  | .slotStaged k => Sys2Proof.Machine.execSlotStaged k s
  | .tokenSubmit u => Sys2Proof.Machine.execTokenSubmit u s
  | .tokenCheckDone u service => Sys2Proof.Machine.execTokenCheckDone u service s
  | .slotExpiry k => Sys2Proof.Machine.execSlotExpiry k s
  | .escrowCommit => Sys2Proof.Machine.execEscrowCommit s
  | .arGo u => Sys2Proof.Machine.execArGo u s
  | .auditReportReady u => Sys2Proof.Machine.execAuditReportReady u s
  | .secClrStats u => Sys2Proof.Machine.execSecClrStats u s
  | .powerUp b => Sys2Proof.Machine.execPowerUp b s
  | .powerLoss12v u long => Sys2Proof.Machine.execPowerLoss12v u long s
  | .hostInputLow u => Sys2Proof.Machine.execHostInputLow u s
  | .hostSupplyFault u => Sys2Proof.Machine.execHostSupplyFault u s
  | .fieldSupplyInRange u => Sys2Proof.Machine.execFieldSupplyInRange u s
  | .fieldSupplyOutOfRange u => Sys2Proof.Machine.execFieldSupplyOutOfRange u s
  | .fieldSupplyFault u => Sys2Proof.Machine.execFieldSupplyFault u s
  | .imgErase u => Sys2Proof.Machine.execImgErase u s
  | .imgProg u words => Sys2Proof.Machine.execImgProg u words s
  | .imgActivate u => Sys2Proof.Machine.execImgActivate u s
  | .imgCheckDone u => Sys2Proof.Machine.execImgCheckDone u s
  | .modeRequest u m => Sys2Proof.Machine.execModeRequest u m s
  | .modeChange => Sys2Proof.Machine.execModeChange s
  | .sysClrStats u => Sys2Proof.Machine.execSysClrStats u s
  | .moduleReset b => Sys2Proof.Machine.execModuleReset b s
  | .faultRaise u id data => Sys2Proof.Machine.execFaultRaise u id data s
  | .fieldFaultRaise u id data => Sys2Proof.Machine.execFieldFaultRaise u id data s
  | .blockResetEnd u blk => Sys2Proof.Machine.execBlockResetEnd u blk s
  | .fltPendClear u k v => Sys2Proof.Machine.execFltPendClear u k v s
  | .faultPinRelease u field => Sys2Proof.Machine.execFaultPinRelease u field s
  | .faultForce u k v service => Sys2Proof.Machine.execFaultForce u k v service s
  | .fltClrStats u => Sys2Proof.Machine.execFltClrStats u s
  | .clrFirst u => Sys2Proof.Machine.execClrFirst u s
  | .temperatureLimit u field shutdown => Sys2Proof.Machine.execTemperatureLimit u field shutdown s
  | .fieldShutdownPowerOff => Sys2Proof.Machine.execFieldShutdownPowerOff s
  | .availDayRoll => Sys2Proof.Machine.execAvailDayRoll s
  | .updErase u => Sys2Proof.Machine.execUpdErase u s
  | .updProg u words => Sys2Proof.Machine.execUpdProg u words s
  | .updVerify u => Sys2Proof.Machine.execUpdVerify u s
  | .stagingComplete u => Sys2Proof.Machine.execStagingComplete u s
  | .updArm u cell => Sys2Proof.Machine.execUpdArm u cell s
  | .updCancel u => Sys2Proof.Machine.execUpdCancel u s
  | .decisionSample line => Sys2Proof.Machine.execDecisionSample line s
  | .activation => Sys2Proof.Machine.execActivation s
  | .fieldStage => Sys2Proof.Machine.execFieldStage s
  | .fieldStageTimeout => Sys2Proof.Machine.execFieldStageTimeout s
  | .healthPass => Sys2Proof.Machine.execHealthPass s
  | .commitSample line => Sys2Proof.Machine.execCommitSample line s
  | .lineSyncEdge u => Sys2Proof.Machine.execLineSyncEdge u s
  | .imgEraseProgDone u => Sys2Proof.Machine.execImgEraseProgDone u s
  | .updEraseProgDone u => Sys2Proof.Machine.execUpdEraseProgDone u s
  | .hostStageDone u => Sys2Proof.Machine.execHostStageDone u s

end Sys2Proof.Machine
end

