-- ==== Sys2Proof/Laws/Regs.lean ====
section
/-! SUPPORT. The register file and acquisition memory: what a read answers after a write, and that every operation keeps the canonical form. -/

namespace Sys2Proof.Machine

/-! ### Reads after writes, in every list -/

theorem regsFind_erase_self (l : List (Nat × Word)) (a : Nat) : regsFind (regsErase l a) a = none := by
  induction l with
  | nil => rfl
  | cons p r ih =>
    obtain ⟨b, v⟩ := p
    by_cases h : a = b
    · simpa [regsErase, h] using (h ▸ ih)
    · simpa [regsErase, regsFind, h] using ih

theorem regsFind_erase_ne (l : List (Nat × Word)) {a b : Nat} (h : b ≠ a) : regsFind (regsErase l a) b = regsFind l b := by
  induction l with
  | nil => rfl
  | cons p r ih =>
    obtain ⟨c, v⟩ := p
    by_cases hc : a = c
    · subst hc; simp [regsErase, regsFind, h, ih]
    · by_cases hb : b = c
      · simp [regsErase, regsFind, hc, hb]
      · simp [regsErase, regsFind, hc, hb, ih]

theorem regsFind_insert_self (l : List (Nat × Word)) (a : Nat) (x : Word) (h : regsFind l a = none) : regsFind (regsInsert l a x) a = some x := by
  induction l with
  | nil => simp [regsInsert, regsFind]
  | cons p r ih =>
    obtain ⟨c, v⟩ := p
    by_cases hc : a = c
    · simp [regsFind, hc] at h
    · simp only [regsFind, hc, if_false] at h
      by_cases hl : a < c
      · simp [regsInsert, regsFind, hl]
      · simp [regsInsert, regsFind, hl, hc, ih h]

theorem regsFind_insert_ne (l : List (Nat × Word)) {a b : Nat} (x : Word) (h : b ≠ a) : regsFind (regsInsert l a x) b = regsFind l b := by
  induction l with
  | nil => simp [regsInsert, regsFind, h]
  | cons p r ih =>
    obtain ⟨c, v⟩ := p
    by_cases hl : a < c
    · simp [regsInsert, regsFind, hl, h]
    · by_cases hb : b = c
      · simp [regsInsert, regsFind, hl, hb]
      · simp [regsInsert, regsFind, hl, hb, ih]

/-- A register reads what was last written to it. -/
theorem regsGet_set_self (l : List (Nat × Word)) (a : Nat) (x : Word) : regsGet (regsSet l a x) a = x := by
  unfold regsGet regsSet
  split
  · simp [regsFind_erase_self, *]
  · simp [regsFind_insert_self _ _ _ (regsFind_erase_self l a)]

/-- A write changes no other register. -/
theorem regsGet_set_ne (l : List (Nat × Word)) {a b : Nat} (x : Word) (h : b ≠ a) : regsGet (regsSet l a x) b = regsGet l b := by
  unfold regsGet regsSet
  split
  · simp [regsFind_erase_ne _ h]
  · simp [regsFind_insert_ne _ _ h, regsFind_erase_ne _ h]

@[simp] theorem State.rd_wr_self (s : State) (a : Nat) (x : Word) : (s.wr a x).rd a = x := regsGet_set_self _ _ _

@[simp] theorem State.rd_wr_ne (s : State) {a b : Nat} (x : Word) (h : b ≠ a) : (s.wr a x).rd b = s.rd b := regsGet_set_ne _ _ h

theorem State.rd_wr (s : State) (a b : Nat) (x : Word) : (s.wr a x).rd b = if b = a then x else s.rd b := by
  split
  · simp [*]
  · simp [*]

@[simp] theorem State.rd_put_self (s : State) (a v : Nat) : (s.put a v).rd a = BitVec.ofNat 32 v := State.rd_wr_self _ _ _

@[simp] theorem State.rd_put_ne (s : State) {a b : Nat} (v : Nat) (h : b ≠ a) : (s.put a v).rd b = s.rd b := State.rd_wr_ne _ _ h

@[simp] theorem State.rd_set_self (s : State) (f : Fld) (v : Nat) : (s.set f v).rd f.addr = withField (s.rd f.addr) f.lo f.w v :=
  State.rd_wr_self _ _ _

@[simp] theorem State.rd_set_ne (s : State) (f : Fld) {b : Nat} (v : Nat) (h : b ≠ f.addr) : (s.set f v).rd b = s.rd b := State.rd_wr_ne _ _ h

/-! ### The canonical form of the register file -/

theorem regsWfFrom_iff (l : List (Nat × Word)) : ∀ b : Option Nat, regsWfFrom b l = true ↔
    (∀ n, b = some n → ∀ p ∈ l, n < p.1) ∧ l.Pairwise (fun p q => p.1 < q.1) ∧ ∀ p ∈ l, p.2 ≠ regReset p.1 := by
  induction l with
  | nil => intro b; simp [regsWfFrom]
  | cons q r ih =>
    intro b
    obtain ⟨a, x⟩ := q
    simp only [regsWfFrom, Bool.and_eq_true, ih, List.pairwise_cons, List.mem_cons, forall_eq_or_imp, bne_iff_ne, ne_eq, Option.some.injEq, forall_eq']
    constructor
    · rintro ⟨⟨hb, hx⟩, ha, hp, hv⟩
      refine ⟨?_, ⟨ha, hp⟩, hx, hv⟩
      rintro n rfl
      have hn : n < a := by simpa using hb
      exact ⟨hn, fun p hp' => lt_trans hn (ha p hp')⟩
    · rintro ⟨hb, ⟨ha, hp⟩, hx, hv⟩
      refine ⟨⟨?_, hx⟩, ha, hp, hv⟩
      cases b with
      | none => rfl
      | some n => simpa using (hb n rfl).1

/-- The canonical form: addresses rise, and no entry equals its register's reset value. -/
theorem regsWf_iff (l : List (Nat × Word)) :
    regsWf l = true ↔ l.Pairwise (fun p q => p.1 < q.1) ∧ ∀ p ∈ l, p.2 ≠ regReset p.1 := by
  simp [regsWf, regsWfFrom_iff]

theorem regsErase_eq_filter (l : List (Nat × Word)) (a : Nat) : regsErase l a = l.filter (fun p => p.1 != a) := by
  induction l with
  | nil => rfl
  | cons p r ih =>
    obtain ⟨b, v⟩ := p
    by_cases h : a = b
    · subst h; simp [regsErase, ih]
    · simp [regsErase, h, ih, Ne.symm h]

theorem mem_regsInsert {l : List (Nat × Word)} {a : Nat} {x : Word} {p : Nat × Word} : p ∈ regsInsert l a x → p = (a, x) ∨ p ∈ l := by
  induction l with
  | nil => simp [regsInsert]
  | cons q r ih =>
    obtain ⟨b, v⟩ := q
    by_cases h : a < b
    · simp [regsInsert, h]
    · simp only [regsInsert, h, if_false, List.mem_cons]
      rintro (rfl | hp)
      · exact .inr (.inl rfl)
      · exact (ih hp).imp id .inr

theorem regsWf_filter {l : List (Nat × Word)} (k : Nat × Word → Bool) (h : regsWf l = true) : regsWf (l.filter k) = true := by
  rw [regsWf_iff] at h ⊢
  exact ⟨h.1.filter _, fun p hp => h.2 p (List.mem_of_mem_filter hp)⟩

theorem regsWf_insert {l : List (Nat × Word)} {a : Nat} {x : Word} (hx : x ≠ regReset a) (ha : ∀ p ∈ l, p.1 ≠ a) (h : regsWf l = true) :
    regsWf (regsInsert l a x) = true := by
  rw [regsWf_iff] at h ⊢
  refine ⟨?_, ?_⟩
  · induction l with
    | nil => simp [regsInsert]
    | cons q r ih =>
      obtain ⟨b, v⟩ := q
      obtain ⟨hp, hv⟩ := h
      rw [List.pairwise_cons] at hp
      by_cases hl : a < b
      · simp only [regsInsert, hl, if_true, List.pairwise_cons, List.mem_cons]
        refine ⟨?_, hp.1, hp.2⟩
        rintro p (rfl | hpr)
        · exact hl
        · exact lt_trans hl (hp.1 p hpr)
      · have hab : b < a := lt_of_le_of_ne (Nat.le_of_not_lt hl) (ha (b, v) (by simp))
        simp only [regsInsert, hl, if_false, List.pairwise_cons]
        refine ⟨?_, ih (fun p hpr => ha p (by simp [hpr])) ⟨hp.2, fun p hpr => hv p (by simp [hpr])⟩⟩
        intro p hpi
        rcases mem_regsInsert hpi with rfl | hpr
        · exact hab
        · exact hp.1 p hpr
  · intro p hp
    rcases mem_regsInsert hp with rfl | hpr
    · exact hx
    · exact h.2 p hpr

/-- A write keeps the canonical form. -/
theorem regsWf_set {l : List (Nat × Word)} (a : Nat) (x : Word) (h : regsWf l = true) : regsWf (regsSet l a x) = true := by
  have he : regsWf (regsErase l a) = true := by rw [regsErase_eq_filter]; exact regsWf_filter _ h
  unfold regsSet
  split
  · exact he
  · refine regsWf_insert ‹_› ?_ he
    intro p hp
    rw [regsErase_eq_filter] at hp
    simpa using (List.mem_filter.mp hp).2

theorem regsWf_filterMap {l : List (Nat × Word)} (f : Nat → Word → Word) (h : regsWf l = true) :
    regsWf (l.filterMap (fun p => let y := f p.1 p.2; if y = regReset p.1 then none else some (p.1, y))) = true := by
  rw [regsWf_iff] at h ⊢
  refine ⟨?_, ?_⟩
  · refine List.Pairwise.filterMap _ ?_ h.1
    intro p q hpq p' hp q' hq
    simp only at hp hq
    split at hp <;> simp at hp
    split at hq <;> simp at hq
    rw [← hp, ← hq]; exact hpq
  · intro p hp
    obtain ⟨q, _, hq⟩ := List.mem_filterMap.mp hp
    simp only at hq
    split at hq <;> simp at hq
    rw [← hq]; assumption

/-! ### Acquisition memory -/

theorem memFind_erase (m : List Host.Cell) (a b : Nat) : memFind (memErase m a) b = if b = a then 0 else memFind m b := by
  induction m with
  | nil => simp [memErase, memFind]
  | cons p r ih =>
    obtain ⟨c, v⟩ := p
    by_cases hc : a = c
    · subst hc
      by_cases hb : b = a
      · subst hb; simpa [memErase] using ih
      · simpa [memErase, memFind, hb] using ih
    · by_cases hb : b = c
      · subst hb; simp [memErase, memFind, hc, Ne.symm hc]
      · simp [memErase, memFind, hc, hb, ih]

theorem memFind_insert (m : List Host.Cell) (a b : Nat) (x : Byte) (h : ∀ p ∈ m, p.1 ≠ a) :
    memFind (memInsert m a x) b = if b = a then x else memFind m b := by
  induction m with
  | nil => simp [memInsert, memFind]
  | cons p r ih =>
    obtain ⟨c, v⟩ := p
    have hc : c ≠ a := h (c, v) (by simp)
    have ih := ih (fun q hq => h q (by simp [hq]))
    by_cases hl : a < c
    · simp [memInsert, memFind, hl]
    · by_cases hb : b = c
      · subst hb; simp [memInsert, memFind, hl, hc]
      · simp [memInsert, memFind, hl, hb, ih]

theorem memErase_eq_filter (m : List Host.Cell) (a : Nat) : memErase m a = m.filter (fun p => p.1 != a) := by
  induction m with
  | nil => rfl
  | cons p r ih =>
    obtain ⟨b, v⟩ := p
    by_cases h : a = b
    · subst h; simp [memErase, ih]
    · simp [memErase, h, ih, Ne.symm h]

/-- A byte reads what was last written to it, and a write changes no other byte. -/
theorem memFind_set (m : List Host.Cell) (a b : Nat) (x : Byte) : memFind (memSet m a x) b = if b = a then x else memFind m b := by
  unfold memSet
  by_cases h0 : x = 0
  · simp only [h0, if_true, memFind_erase]
  · simp only [h0, if_false]
    rw [memFind_insert, memFind_erase]
    · split <;> rfl
    · intro p hp
      rw [memErase_eq_filter] at hp
      simpa using (List.mem_filter.mp hp).2

/-- What a write of several bytes leaves unchanged: everything outside it. -/
theorem memFind_write_ne (bs : List Byte) : ∀ (m : List Host.Cell) (a b : Nat), b < a ∨ a + bs.length ≤ b → memFind (memWrite m a bs) b = memFind m b := by
  induction bs with
  | nil => intros; rfl
  | cons x r ih =>
    intro m a b h
    have hlen : (x :: r).length = r.length + 1 := rfl
    rw [memWrite, ih _ _ _ (by omega), memFind_set, if_neg (by omega)]

/-- What a write of several bytes stores. -/
theorem memFind_write (bs : List Byte) : ∀ (m : List Host.Cell) (a i : Nat), i < bs.length → memFind (memWrite m a bs) (a + i) = bs.getD i 0 := by
  induction bs with
  | nil => intro m a i h; simp at h
  | cons x r ih =>
    intro m a i h
    cases i with
    | zero => rw [memWrite, memFind_write_ne _ _ _ _ (by omega), memFind_set]; simp
    | succ k =>
      have hk : k < r.length := by simpa using h
      have := ih (memSet m a x) (a + 1) k hk
      rw [memWrite, show a + (k + 1) = a + 1 + k by omega, this]; simp

theorem memWfFrom_iff (l : List Host.Cell) : ∀ b : Option Nat, memWfFrom b l = true ↔
    (∀ n, b = some n → ∀ p ∈ l, n < p.1) ∧ l.Pairwise (fun p q => p.1 < q.1) ∧ ∀ p ∈ l, p.2 ≠ 0 := by
  induction l with
  | nil => intro b; simp [memWfFrom]
  | cons q r ih =>
    intro b
    obtain ⟨a, x⟩ := q
    simp only [memWfFrom, Bool.and_eq_true, ih, List.pairwise_cons, List.mem_cons, forall_eq_or_imp, bne_iff_ne, ne_eq, Option.some.injEq, forall_eq']
    constructor
    · rintro ⟨⟨hb, hx⟩, ha, hp, hv⟩
      refine ⟨?_, ⟨ha, hp⟩, hx, hv⟩
      rintro n rfl
      have hn : n < a := by simpa using hb
      exact ⟨hn, fun p hp' => lt_trans hn (ha p hp')⟩
    · rintro ⟨hb, ⟨ha, hp⟩, hx, hv⟩
      refine ⟨⟨?_, hx⟩, ha, hp, hv⟩
      cases b with
      | none => rfl
      | some n => simpa using (hb n rfl).1

/-- The canonical form: addresses rise, and no byte listed is 0. -/
theorem Memory.wf_iff (m : List Host.Cell) : Memory.wf m = true ↔ m.Pairwise (fun p q => p.1 < q.1) ∧ ∀ p ∈ m, p.2 ≠ 0 := by
  simp [Memory.wf, memWfFrom_iff]

theorem mem_memInsert {l : List Host.Cell} {a : Nat} {x : Byte} {p : Host.Cell} : p ∈ memInsert l a x → p = (a, x) ∨ p ∈ l := by
  induction l with
  | nil => simp [memInsert]
  | cons q r ih =>
    obtain ⟨b, v⟩ := q
    by_cases h : a < b
    · simp [memInsert, h]
    · simp only [memInsert, h, if_false, List.mem_cons]
      rintro (rfl | hp)
      · exact .inr (.inl rfl)
      · exact (ih hp).imp id .inr

theorem Memory.wf_insert {l : List Host.Cell} {a : Nat} {x : Byte} (hx : x ≠ 0) (ha : ∀ p ∈ l, p.1 ≠ a) (h : Memory.wf l = true) :
    Memory.wf (memInsert l a x) = true := by
  rw [Memory.wf_iff] at h ⊢
  refine ⟨?_, ?_⟩
  · induction l with
    | nil => simp [memInsert]
    | cons q r ih =>
      obtain ⟨b, v⟩ := q
      obtain ⟨hp, hv⟩ := h
      rw [List.pairwise_cons] at hp
      by_cases hl : a < b
      · simp only [memInsert, hl, if_true, List.pairwise_cons, List.mem_cons]
        refine ⟨?_, hp.1, hp.2⟩
        rintro p (rfl | hpr)
        · exact hl
        · exact lt_trans hl (hp.1 p hpr)
      · have hab : b < a := lt_of_le_of_ne (Nat.le_of_not_lt hl) (ha (b, v) (by simp))
        simp only [memInsert, hl, if_false, List.pairwise_cons]
        refine ⟨?_, ih (fun p hpr => ha p (by simp [hpr])) ⟨hp.2, fun p hpr => hv p (by simp [hpr])⟩⟩
        intro p hpi
        rcases mem_memInsert hpi with rfl | hpr
        · exact hab
        · exact hp.1 p hpr
  · intro p hp
    rcases mem_memInsert hp with rfl | hpr
    · exact hx
    · exact h.2 p hpr

/-- A write of one byte keeps the canonical form. -/
theorem Memory.wf_set {m : List Host.Cell} (a : Nat) (x : Byte) (h : Memory.wf m = true) : Memory.wf (memSet m a x) = true := by
  have he : Memory.wf (memErase m a) = true := by
    rw [memErase_eq_filter, Memory.wf_iff] at *
    exact ⟨h.1.filter _, fun p hp => h.2 p (List.mem_of_mem_filter hp)⟩
  unfold memSet
  split
  · exact he
  · refine Memory.wf_insert ‹_› ?_ he
    intro p hp
    rw [memErase_eq_filter] at hp
    simpa using (List.mem_filter.mp hp).2

/-- A write of several bytes keeps the canonical form. -/
theorem Memory.wf_write (bs : List Byte) : ∀ {m : List Host.Cell} (a : Nat), Memory.wf m = true → Memory.wf (memWrite m a bs) = true := by
  induction bs with
  | nil => intro m a h; exact h
  | cons x r ih => intro m a h; exact ih _ (Memory.wf_set a x h)

end Sys2Proof.Machine
end

