-- ==== Sys2Proof/Laws/State.lean ====
section
/-! SUPPORT. What each named update of the state leaves as it was, field by field. -/

namespace Sys2Proof.Machine

/-! ### wr -/

@[simp] theorem State.wr_io (s : State) (a : Nat) (x : Word) : (s.wr a x).io = s.io := rfl
@[simp] theorem State.wr_time (s : State) (a : Nat) (x : Word) : (s.wr a x).time = s.time := rfl
@[simp] theorem State.wr_plan (s : State) (a : Nat) (x : Word) : (s.wr a x).plan = s.plan := rfl
@[simp] theorem State.wr_link (s : State) (a : Nat) (x : Word) : (s.wr a x).link = s.link := rfl
@[simp] theorem State.wr_clr (s : State) (a : Nat) (x : Word) : (s.wr a x).clr = s.clr := rfl
@[simp] theorem State.wr_ledger (s : State) (a : Nat) (x : Word) : (s.wr a x).ledger = s.ledger := rfl
@[simp] theorem State.wr_fault (s : State) (a : Nat) (x : Word) : (s.wr a x).fault = s.fault := rfl
@[simp] theorem State.wr_seq (s : State) (a : Nat) (x : Word) : (s.wr a x).seq = s.seq := rfl
@[simp] theorem State.wr_hdma (s : State) (a : Nat) (x : Word) : (s.wr a x).hdma = s.hdma := rfl
@[simp] theorem State.wr_mem (s : State) (a : Nat) (x : Word) : (s.wr a x).mem = s.mem := rfl
@[simp] theorem State.wr_gens (s : State) (a : Nat) (x : Word) : (s.wr a x).gens = s.gens := rfl
@[simp] theorem State.wr_lanes (s : State) (a : Nat) (x : Word) : (s.wr a x).lanes = s.lanes := rfl
@[simp] theorem State.wr_reds (s : State) (a : Nat) (x : Word) : (s.wr a x).reds = s.reds := rfl
@[simp] theorem State.wr_acq (s : State) (a : Nat) (x : Word) : (s.wr a x).acq = s.acq := rfl
@[simp] theorem State.wr_bank (s : State) (a : Nat) (x : Word) : (s.wr a x).bank = s.bank := rfl
@[simp] theorem State.wr_pods (s : State) (a : Nat) (x : Word) : (s.wr a x).pods = s.pods := rfl
@[simp] theorem State.wr_cmp (s : State) (a : Nat) (x : Word) : (s.wr a x).cmp = s.cmp := rfl
@[simp] theorem State.wr_grd (s : State) (a : Nat) (x : Word) : (s.wr a x).grd = s.grd := rfl
@[simp] theorem State.wr_met (s : State) (a : Nat) (x : Word) : (s.wr a x).met = s.met := rfl
@[simp] theorem State.wr_store (s : State) (a : Nat) (x : Word) : (s.wr a x).store = s.store := rfl
@[simp] theorem State.wr_avail (s : State) (a : Nat) (x : Word) : (s.wr a x).avail = s.avail := rfl
@[simp] theorem State.wr_sec (s : State) (a : Nat) (x : Word) : (s.wr a x).sec = s.sec := rfl
@[simp] theorem State.wr_start (s : State) (a : Nat) (x : Word) : (s.wr a x).start = s.start := rfl
@[simp] theorem State.wr_upd (s : State) (a : Nat) (x : Word) : (s.wr a x).upd = s.upd := rfl
@[simp] theorem State.wr_freeCount (s : State) (a : Nat) (x : Word) : (s.wr a x).freeCount = s.freeCount := rfl
@[simp] theorem State.wr_pending (s : State) (a : Nat) (x : Word) : (s.wr a x).pending = s.pending := rfl

/-! ### put -/

@[simp] theorem State.put_io (s : State) (a v : Nat) : (s.put a v).io = s.io := rfl
@[simp] theorem State.put_time (s : State) (a v : Nat) : (s.put a v).time = s.time := rfl
@[simp] theorem State.put_plan (s : State) (a v : Nat) : (s.put a v).plan = s.plan := rfl
@[simp] theorem State.put_link (s : State) (a v : Nat) : (s.put a v).link = s.link := rfl
@[simp] theorem State.put_clr (s : State) (a v : Nat) : (s.put a v).clr = s.clr := rfl
@[simp] theorem State.put_ledger (s : State) (a v : Nat) : (s.put a v).ledger = s.ledger := rfl
@[simp] theorem State.put_fault (s : State) (a v : Nat) : (s.put a v).fault = s.fault := rfl
@[simp] theorem State.put_seq (s : State) (a v : Nat) : (s.put a v).seq = s.seq := rfl
@[simp] theorem State.put_hdma (s : State) (a v : Nat) : (s.put a v).hdma = s.hdma := rfl
@[simp] theorem State.put_mem (s : State) (a v : Nat) : (s.put a v).mem = s.mem := rfl
@[simp] theorem State.put_gens (s : State) (a v : Nat) : (s.put a v).gens = s.gens := rfl
@[simp] theorem State.put_lanes (s : State) (a v : Nat) : (s.put a v).lanes = s.lanes := rfl
@[simp] theorem State.put_reds (s : State) (a v : Nat) : (s.put a v).reds = s.reds := rfl
@[simp] theorem State.put_acq (s : State) (a v : Nat) : (s.put a v).acq = s.acq := rfl
@[simp] theorem State.put_bank (s : State) (a v : Nat) : (s.put a v).bank = s.bank := rfl
@[simp] theorem State.put_pods (s : State) (a v : Nat) : (s.put a v).pods = s.pods := rfl
@[simp] theorem State.put_cmp (s : State) (a v : Nat) : (s.put a v).cmp = s.cmp := rfl
@[simp] theorem State.put_grd (s : State) (a v : Nat) : (s.put a v).grd = s.grd := rfl
@[simp] theorem State.put_met (s : State) (a v : Nat) : (s.put a v).met = s.met := rfl
@[simp] theorem State.put_store (s : State) (a v : Nat) : (s.put a v).store = s.store := rfl
@[simp] theorem State.put_avail (s : State) (a v : Nat) : (s.put a v).avail = s.avail := rfl
@[simp] theorem State.put_sec (s : State) (a v : Nat) : (s.put a v).sec = s.sec := rfl
@[simp] theorem State.put_start (s : State) (a v : Nat) : (s.put a v).start = s.start := rfl
@[simp] theorem State.put_upd (s : State) (a v : Nat) : (s.put a v).upd = s.upd := rfl
@[simp] theorem State.put_freeCount (s : State) (a v : Nat) : (s.put a v).freeCount = s.freeCount := rfl
@[simp] theorem State.put_pending (s : State) (a v : Nat) : (s.put a v).pending = s.pending := rfl

/-! ### set -/

@[simp] theorem State.set_io (s : State) (f : Fld) (v : Nat) : (s.set f v).io = s.io := rfl
@[simp] theorem State.set_time (s : State) (f : Fld) (v : Nat) : (s.set f v).time = s.time := rfl
@[simp] theorem State.set_plan (s : State) (f : Fld) (v : Nat) : (s.set f v).plan = s.plan := rfl
@[simp] theorem State.set_link (s : State) (f : Fld) (v : Nat) : (s.set f v).link = s.link := rfl
@[simp] theorem State.set_clr (s : State) (f : Fld) (v : Nat) : (s.set f v).clr = s.clr := rfl
@[simp] theorem State.set_ledger (s : State) (f : Fld) (v : Nat) : (s.set f v).ledger = s.ledger := rfl
@[simp] theorem State.set_fault (s : State) (f : Fld) (v : Nat) : (s.set f v).fault = s.fault := rfl
@[simp] theorem State.set_seq (s : State) (f : Fld) (v : Nat) : (s.set f v).seq = s.seq := rfl
@[simp] theorem State.set_hdma (s : State) (f : Fld) (v : Nat) : (s.set f v).hdma = s.hdma := rfl
@[simp] theorem State.set_mem (s : State) (f : Fld) (v : Nat) : (s.set f v).mem = s.mem := rfl
@[simp] theorem State.set_gens (s : State) (f : Fld) (v : Nat) : (s.set f v).gens = s.gens := rfl
@[simp] theorem State.set_lanes (s : State) (f : Fld) (v : Nat) : (s.set f v).lanes = s.lanes := rfl
@[simp] theorem State.set_reds (s : State) (f : Fld) (v : Nat) : (s.set f v).reds = s.reds := rfl
@[simp] theorem State.set_acq (s : State) (f : Fld) (v : Nat) : (s.set f v).acq = s.acq := rfl
@[simp] theorem State.set_bank (s : State) (f : Fld) (v : Nat) : (s.set f v).bank = s.bank := rfl
@[simp] theorem State.set_pods (s : State) (f : Fld) (v : Nat) : (s.set f v).pods = s.pods := rfl
@[simp] theorem State.set_cmp (s : State) (f : Fld) (v : Nat) : (s.set f v).cmp = s.cmp := rfl
@[simp] theorem State.set_grd (s : State) (f : Fld) (v : Nat) : (s.set f v).grd = s.grd := rfl
@[simp] theorem State.set_met (s : State) (f : Fld) (v : Nat) : (s.set f v).met = s.met := rfl
@[simp] theorem State.set_store (s : State) (f : Fld) (v : Nat) : (s.set f v).store = s.store := rfl
@[simp] theorem State.set_avail (s : State) (f : Fld) (v : Nat) : (s.set f v).avail = s.avail := rfl
@[simp] theorem State.set_sec (s : State) (f : Fld) (v : Nat) : (s.set f v).sec = s.sec := rfl
@[simp] theorem State.set_start (s : State) (f : Fld) (v : Nat) : (s.set f v).start = s.start := rfl
@[simp] theorem State.set_upd (s : State) (f : Fld) (v : Nat) : (s.set f v).upd = s.upd := rfl
@[simp] theorem State.set_freeCount (s : State) (f : Fld) (v : Nat) : (s.set f v).freeCount = s.freeCount := rfl
@[simp] theorem State.set_pending (s : State) (f : Fld) (v : Nat) : (s.set f v).pending = s.pending := rfl

/-! ### put64 -/

@[simp] theorem State.put64_io (s : State) (a v : Nat) : (s.put64 a v).io = s.io := rfl
@[simp] theorem State.put64_time (s : State) (a v : Nat) : (s.put64 a v).time = s.time := rfl
@[simp] theorem State.put64_plan (s : State) (a v : Nat) : (s.put64 a v).plan = s.plan := rfl
@[simp] theorem State.put64_link (s : State) (a v : Nat) : (s.put64 a v).link = s.link := rfl
@[simp] theorem State.put64_clr (s : State) (a v : Nat) : (s.put64 a v).clr = s.clr := rfl
@[simp] theorem State.put64_ledger (s : State) (a v : Nat) : (s.put64 a v).ledger = s.ledger := rfl
@[simp] theorem State.put64_fault (s : State) (a v : Nat) : (s.put64 a v).fault = s.fault := rfl
@[simp] theorem State.put64_seq (s : State) (a v : Nat) : (s.put64 a v).seq = s.seq := rfl
@[simp] theorem State.put64_hdma (s : State) (a v : Nat) : (s.put64 a v).hdma = s.hdma := rfl
@[simp] theorem State.put64_mem (s : State) (a v : Nat) : (s.put64 a v).mem = s.mem := rfl
@[simp] theorem State.put64_gens (s : State) (a v : Nat) : (s.put64 a v).gens = s.gens := rfl
@[simp] theorem State.put64_lanes (s : State) (a v : Nat) : (s.put64 a v).lanes = s.lanes := rfl
@[simp] theorem State.put64_reds (s : State) (a v : Nat) : (s.put64 a v).reds = s.reds := rfl
@[simp] theorem State.put64_acq (s : State) (a v : Nat) : (s.put64 a v).acq = s.acq := rfl
@[simp] theorem State.put64_bank (s : State) (a v : Nat) : (s.put64 a v).bank = s.bank := rfl
@[simp] theorem State.put64_pods (s : State) (a v : Nat) : (s.put64 a v).pods = s.pods := rfl
@[simp] theorem State.put64_cmp (s : State) (a v : Nat) : (s.put64 a v).cmp = s.cmp := rfl
@[simp] theorem State.put64_grd (s : State) (a v : Nat) : (s.put64 a v).grd = s.grd := rfl
@[simp] theorem State.put64_met (s : State) (a v : Nat) : (s.put64 a v).met = s.met := rfl
@[simp] theorem State.put64_store (s : State) (a v : Nat) : (s.put64 a v).store = s.store := rfl
@[simp] theorem State.put64_avail (s : State) (a v : Nat) : (s.put64 a v).avail = s.avail := rfl
@[simp] theorem State.put64_sec (s : State) (a v : Nat) : (s.put64 a v).sec = s.sec := rfl
@[simp] theorem State.put64_start (s : State) (a v : Nat) : (s.put64 a v).start = s.start := rfl
@[simp] theorem State.put64_upd (s : State) (a v : Nat) : (s.put64 a v).upd = s.upd := rfl
@[simp] theorem State.put64_freeCount (s : State) (a v : Nat) : (s.put64 a v).freeCount = s.freeCount := rfl
@[simp] theorem State.put64_pending (s : State) (a v : Nat) : (s.put64 a v).pending = s.pending := rfl

/-! ### resetRange -/

@[simp] theorem State.resetRange_io (s : State) (lo hi : Nat) (k : Nat → Bool) : (s.resetRange lo hi k).io = s.io := rfl
@[simp] theorem State.resetRange_time (s : State) (lo hi : Nat) (k : Nat → Bool) : (s.resetRange lo hi k).time = s.time := rfl
@[simp] theorem State.resetRange_plan (s : State) (lo hi : Nat) (k : Nat → Bool) : (s.resetRange lo hi k).plan = s.plan := rfl
@[simp] theorem State.resetRange_link (s : State) (lo hi : Nat) (k : Nat → Bool) : (s.resetRange lo hi k).link = s.link := rfl
@[simp] theorem State.resetRange_clr (s : State) (lo hi : Nat) (k : Nat → Bool) : (s.resetRange lo hi k).clr = s.clr := rfl
@[simp] theorem State.resetRange_ledger (s : State) (lo hi : Nat) (k : Nat → Bool) : (s.resetRange lo hi k).ledger = s.ledger := rfl
@[simp] theorem State.resetRange_fault (s : State) (lo hi : Nat) (k : Nat → Bool) : (s.resetRange lo hi k).fault = s.fault := rfl
@[simp] theorem State.resetRange_seq (s : State) (lo hi : Nat) (k : Nat → Bool) : (s.resetRange lo hi k).seq = s.seq := rfl
@[simp] theorem State.resetRange_hdma (s : State) (lo hi : Nat) (k : Nat → Bool) : (s.resetRange lo hi k).hdma = s.hdma := rfl
@[simp] theorem State.resetRange_mem (s : State) (lo hi : Nat) (k : Nat → Bool) : (s.resetRange lo hi k).mem = s.mem := rfl
@[simp] theorem State.resetRange_gens (s : State) (lo hi : Nat) (k : Nat → Bool) : (s.resetRange lo hi k).gens = s.gens := rfl
@[simp] theorem State.resetRange_lanes (s : State) (lo hi : Nat) (k : Nat → Bool) : (s.resetRange lo hi k).lanes = s.lanes := rfl
@[simp] theorem State.resetRange_reds (s : State) (lo hi : Nat) (k : Nat → Bool) : (s.resetRange lo hi k).reds = s.reds := rfl
@[simp] theorem State.resetRange_acq (s : State) (lo hi : Nat) (k : Nat → Bool) : (s.resetRange lo hi k).acq = s.acq := rfl
@[simp] theorem State.resetRange_bank (s : State) (lo hi : Nat) (k : Nat → Bool) : (s.resetRange lo hi k).bank = s.bank := rfl
@[simp] theorem State.resetRange_pods (s : State) (lo hi : Nat) (k : Nat → Bool) : (s.resetRange lo hi k).pods = s.pods := rfl
@[simp] theorem State.resetRange_cmp (s : State) (lo hi : Nat) (k : Nat → Bool) : (s.resetRange lo hi k).cmp = s.cmp := rfl
@[simp] theorem State.resetRange_grd (s : State) (lo hi : Nat) (k : Nat → Bool) : (s.resetRange lo hi k).grd = s.grd := rfl
@[simp] theorem State.resetRange_met (s : State) (lo hi : Nat) (k : Nat → Bool) : (s.resetRange lo hi k).met = s.met := rfl
@[simp] theorem State.resetRange_store (s : State) (lo hi : Nat) (k : Nat → Bool) : (s.resetRange lo hi k).store = s.store := rfl
@[simp] theorem State.resetRange_avail (s : State) (lo hi : Nat) (k : Nat → Bool) : (s.resetRange lo hi k).avail = s.avail := rfl
@[simp] theorem State.resetRange_sec (s : State) (lo hi : Nat) (k : Nat → Bool) : (s.resetRange lo hi k).sec = s.sec := rfl
@[simp] theorem State.resetRange_start (s : State) (lo hi : Nat) (k : Nat → Bool) : (s.resetRange lo hi k).start = s.start := rfl
@[simp] theorem State.resetRange_upd (s : State) (lo hi : Nat) (k : Nat → Bool) : (s.resetRange lo hi k).upd = s.upd := rfl
@[simp] theorem State.resetRange_freeCount (s : State) (lo hi : Nat) (k : Nat → Bool) : (s.resetRange lo hi k).freeCount = s.freeCount := rfl
@[simp] theorem State.resetRange_pending (s : State) (lo hi : Nat) (k : Nat → Bool) : (s.resetRange lo hi k).pending = s.pending := rfl

/-! ### mapRegs -/

@[simp] theorem State.mapRegs_io (s : State) (f : Nat → Word → Word) : (s.mapRegs f).io = s.io := rfl
@[simp] theorem State.mapRegs_time (s : State) (f : Nat → Word → Word) : (s.mapRegs f).time = s.time := rfl
@[simp] theorem State.mapRegs_plan (s : State) (f : Nat → Word → Word) : (s.mapRegs f).plan = s.plan := rfl
@[simp] theorem State.mapRegs_link (s : State) (f : Nat → Word → Word) : (s.mapRegs f).link = s.link := rfl
@[simp] theorem State.mapRegs_clr (s : State) (f : Nat → Word → Word) : (s.mapRegs f).clr = s.clr := rfl
@[simp] theorem State.mapRegs_ledger (s : State) (f : Nat → Word → Word) : (s.mapRegs f).ledger = s.ledger := rfl
@[simp] theorem State.mapRegs_fault (s : State) (f : Nat → Word → Word) : (s.mapRegs f).fault = s.fault := rfl
@[simp] theorem State.mapRegs_seq (s : State) (f : Nat → Word → Word) : (s.mapRegs f).seq = s.seq := rfl
@[simp] theorem State.mapRegs_hdma (s : State) (f : Nat → Word → Word) : (s.mapRegs f).hdma = s.hdma := rfl
@[simp] theorem State.mapRegs_mem (s : State) (f : Nat → Word → Word) : (s.mapRegs f).mem = s.mem := rfl
@[simp] theorem State.mapRegs_gens (s : State) (f : Nat → Word → Word) : (s.mapRegs f).gens = s.gens := rfl
@[simp] theorem State.mapRegs_lanes (s : State) (f : Nat → Word → Word) : (s.mapRegs f).lanes = s.lanes := rfl
@[simp] theorem State.mapRegs_reds (s : State) (f : Nat → Word → Word) : (s.mapRegs f).reds = s.reds := rfl
@[simp] theorem State.mapRegs_acq (s : State) (f : Nat → Word → Word) : (s.mapRegs f).acq = s.acq := rfl
@[simp] theorem State.mapRegs_bank (s : State) (f : Nat → Word → Word) : (s.mapRegs f).bank = s.bank := rfl
@[simp] theorem State.mapRegs_pods (s : State) (f : Nat → Word → Word) : (s.mapRegs f).pods = s.pods := rfl
@[simp] theorem State.mapRegs_cmp (s : State) (f : Nat → Word → Word) : (s.mapRegs f).cmp = s.cmp := rfl
@[simp] theorem State.mapRegs_grd (s : State) (f : Nat → Word → Word) : (s.mapRegs f).grd = s.grd := rfl
@[simp] theorem State.mapRegs_met (s : State) (f : Nat → Word → Word) : (s.mapRegs f).met = s.met := rfl
@[simp] theorem State.mapRegs_store (s : State) (f : Nat → Word → Word) : (s.mapRegs f).store = s.store := rfl
@[simp] theorem State.mapRegs_avail (s : State) (f : Nat → Word → Word) : (s.mapRegs f).avail = s.avail := rfl
@[simp] theorem State.mapRegs_sec (s : State) (f : Nat → Word → Word) : (s.mapRegs f).sec = s.sec := rfl
@[simp] theorem State.mapRegs_start (s : State) (f : Nat → Word → Word) : (s.mapRegs f).start = s.start := rfl
@[simp] theorem State.mapRegs_upd (s : State) (f : Nat → Word → Word) : (s.mapRegs f).upd = s.upd := rfl
@[simp] theorem State.mapRegs_freeCount (s : State) (f : Nat → Word → Word) : (s.mapRegs f).freeCount = s.freeCount := rfl
@[simp] theorem State.mapRegs_pending (s : State) (f : Nat → Word → Word) : (s.mapRegs f).pending = s.pending := rfl

/-! ### wrapCount -/

@[simp] theorem State.wrapCount_io (s : State) (a n : Nat) : (s.wrapCount a n).io = s.io := rfl
@[simp] theorem State.wrapCount_time (s : State) (a n : Nat) : (s.wrapCount a n).time = s.time := rfl
@[simp] theorem State.wrapCount_plan (s : State) (a n : Nat) : (s.wrapCount a n).plan = s.plan := rfl
@[simp] theorem State.wrapCount_link (s : State) (a n : Nat) : (s.wrapCount a n).link = s.link := rfl
@[simp] theorem State.wrapCount_clr (s : State) (a n : Nat) : (s.wrapCount a n).clr = s.clr := rfl
@[simp] theorem State.wrapCount_ledger (s : State) (a n : Nat) : (s.wrapCount a n).ledger = s.ledger := rfl
@[simp] theorem State.wrapCount_fault (s : State) (a n : Nat) : (s.wrapCount a n).fault = s.fault := rfl
@[simp] theorem State.wrapCount_seq (s : State) (a n : Nat) : (s.wrapCount a n).seq = s.seq := rfl
@[simp] theorem State.wrapCount_hdma (s : State) (a n : Nat) : (s.wrapCount a n).hdma = s.hdma := rfl
@[simp] theorem State.wrapCount_mem (s : State) (a n : Nat) : (s.wrapCount a n).mem = s.mem := rfl
@[simp] theorem State.wrapCount_gens (s : State) (a n : Nat) : (s.wrapCount a n).gens = s.gens := rfl
@[simp] theorem State.wrapCount_lanes (s : State) (a n : Nat) : (s.wrapCount a n).lanes = s.lanes := rfl
@[simp] theorem State.wrapCount_reds (s : State) (a n : Nat) : (s.wrapCount a n).reds = s.reds := rfl
@[simp] theorem State.wrapCount_acq (s : State) (a n : Nat) : (s.wrapCount a n).acq = s.acq := rfl
@[simp] theorem State.wrapCount_bank (s : State) (a n : Nat) : (s.wrapCount a n).bank = s.bank := rfl
@[simp] theorem State.wrapCount_pods (s : State) (a n : Nat) : (s.wrapCount a n).pods = s.pods := rfl
@[simp] theorem State.wrapCount_cmp (s : State) (a n : Nat) : (s.wrapCount a n).cmp = s.cmp := rfl
@[simp] theorem State.wrapCount_grd (s : State) (a n : Nat) : (s.wrapCount a n).grd = s.grd := rfl
@[simp] theorem State.wrapCount_met (s : State) (a n : Nat) : (s.wrapCount a n).met = s.met := rfl
@[simp] theorem State.wrapCount_store (s : State) (a n : Nat) : (s.wrapCount a n).store = s.store := rfl
@[simp] theorem State.wrapCount_avail (s : State) (a n : Nat) : (s.wrapCount a n).avail = s.avail := rfl
@[simp] theorem State.wrapCount_sec (s : State) (a n : Nat) : (s.wrapCount a n).sec = s.sec := rfl
@[simp] theorem State.wrapCount_start (s : State) (a n : Nat) : (s.wrapCount a n).start = s.start := rfl
@[simp] theorem State.wrapCount_upd (s : State) (a n : Nat) : (s.wrapCount a n).upd = s.upd := rfl
@[simp] theorem State.wrapCount_freeCount (s : State) (a n : Nat) : (s.wrapCount a n).freeCount = s.freeCount := rfl
@[simp] theorem State.wrapCount_pending (s : State) (a n : Nat) : (s.wrapCount a n).pending = s.pending := rfl

/-! ### wrapCount64 -/

@[simp] theorem State.wrapCount64_io (s : State) (a n : Nat) : (s.wrapCount64 a n).io = s.io := rfl
@[simp] theorem State.wrapCount64_time (s : State) (a n : Nat) : (s.wrapCount64 a n).time = s.time := rfl
@[simp] theorem State.wrapCount64_plan (s : State) (a n : Nat) : (s.wrapCount64 a n).plan = s.plan := rfl
@[simp] theorem State.wrapCount64_link (s : State) (a n : Nat) : (s.wrapCount64 a n).link = s.link := rfl
@[simp] theorem State.wrapCount64_clr (s : State) (a n : Nat) : (s.wrapCount64 a n).clr = s.clr := rfl
@[simp] theorem State.wrapCount64_ledger (s : State) (a n : Nat) : (s.wrapCount64 a n).ledger = s.ledger := rfl
@[simp] theorem State.wrapCount64_fault (s : State) (a n : Nat) : (s.wrapCount64 a n).fault = s.fault := rfl
@[simp] theorem State.wrapCount64_seq (s : State) (a n : Nat) : (s.wrapCount64 a n).seq = s.seq := rfl
@[simp] theorem State.wrapCount64_hdma (s : State) (a n : Nat) : (s.wrapCount64 a n).hdma = s.hdma := rfl
@[simp] theorem State.wrapCount64_mem (s : State) (a n : Nat) : (s.wrapCount64 a n).mem = s.mem := rfl
@[simp] theorem State.wrapCount64_gens (s : State) (a n : Nat) : (s.wrapCount64 a n).gens = s.gens := rfl
@[simp] theorem State.wrapCount64_lanes (s : State) (a n : Nat) : (s.wrapCount64 a n).lanes = s.lanes := rfl
@[simp] theorem State.wrapCount64_reds (s : State) (a n : Nat) : (s.wrapCount64 a n).reds = s.reds := rfl
@[simp] theorem State.wrapCount64_acq (s : State) (a n : Nat) : (s.wrapCount64 a n).acq = s.acq := rfl
@[simp] theorem State.wrapCount64_bank (s : State) (a n : Nat) : (s.wrapCount64 a n).bank = s.bank := rfl
@[simp] theorem State.wrapCount64_pods (s : State) (a n : Nat) : (s.wrapCount64 a n).pods = s.pods := rfl
@[simp] theorem State.wrapCount64_cmp (s : State) (a n : Nat) : (s.wrapCount64 a n).cmp = s.cmp := rfl
@[simp] theorem State.wrapCount64_grd (s : State) (a n : Nat) : (s.wrapCount64 a n).grd = s.grd := rfl
@[simp] theorem State.wrapCount64_met (s : State) (a n : Nat) : (s.wrapCount64 a n).met = s.met := rfl
@[simp] theorem State.wrapCount64_store (s : State) (a n : Nat) : (s.wrapCount64 a n).store = s.store := rfl
@[simp] theorem State.wrapCount64_avail (s : State) (a n : Nat) : (s.wrapCount64 a n).avail = s.avail := rfl
@[simp] theorem State.wrapCount64_sec (s : State) (a n : Nat) : (s.wrapCount64 a n).sec = s.sec := rfl
@[simp] theorem State.wrapCount64_start (s : State) (a n : Nat) : (s.wrapCount64 a n).start = s.start := rfl
@[simp] theorem State.wrapCount64_upd (s : State) (a n : Nat) : (s.wrapCount64 a n).upd = s.upd := rfl
@[simp] theorem State.wrapCount64_freeCount (s : State) (a n : Nat) : (s.wrapCount64 a n).freeCount = s.freeCount := rfl
@[simp] theorem State.wrapCount64_pending (s : State) (a n : Nat) : (s.wrapCount64 a n).pending = s.pending := rfl

/-! ### replaceResult -/

@[simp] theorem State.replaceResult_io (s : State) (lo g v b : Nat) : (s.replaceResult lo g v b).io = s.io := rfl
@[simp] theorem State.replaceResult_time (s : State) (lo g v b : Nat) : (s.replaceResult lo g v b).time = s.time := rfl
@[simp] theorem State.replaceResult_plan (s : State) (lo g v b : Nat) : (s.replaceResult lo g v b).plan = s.plan := rfl
@[simp] theorem State.replaceResult_link (s : State) (lo g v b : Nat) : (s.replaceResult lo g v b).link = s.link := rfl
@[simp] theorem State.replaceResult_clr (s : State) (lo g v b : Nat) : (s.replaceResult lo g v b).clr = s.clr := rfl
@[simp] theorem State.replaceResult_ledger (s : State) (lo g v b : Nat) : (s.replaceResult lo g v b).ledger = s.ledger := rfl
@[simp] theorem State.replaceResult_fault (s : State) (lo g v b : Nat) : (s.replaceResult lo g v b).fault = s.fault := rfl
@[simp] theorem State.replaceResult_seq (s : State) (lo g v b : Nat) : (s.replaceResult lo g v b).seq = s.seq := rfl
@[simp] theorem State.replaceResult_hdma (s : State) (lo g v b : Nat) : (s.replaceResult lo g v b).hdma = s.hdma := rfl
@[simp] theorem State.replaceResult_mem (s : State) (lo g v b : Nat) : (s.replaceResult lo g v b).mem = s.mem := rfl
@[simp] theorem State.replaceResult_gens (s : State) (lo g v b : Nat) : (s.replaceResult lo g v b).gens = s.gens := rfl
@[simp] theorem State.replaceResult_lanes (s : State) (lo g v b : Nat) : (s.replaceResult lo g v b).lanes = s.lanes := rfl
@[simp] theorem State.replaceResult_reds (s : State) (lo g v b : Nat) : (s.replaceResult lo g v b).reds = s.reds := rfl
@[simp] theorem State.replaceResult_acq (s : State) (lo g v b : Nat) : (s.replaceResult lo g v b).acq = s.acq := rfl
@[simp] theorem State.replaceResult_bank (s : State) (lo g v b : Nat) : (s.replaceResult lo g v b).bank = s.bank := rfl
@[simp] theorem State.replaceResult_pods (s : State) (lo g v b : Nat) : (s.replaceResult lo g v b).pods = s.pods := rfl
@[simp] theorem State.replaceResult_cmp (s : State) (lo g v b : Nat) : (s.replaceResult lo g v b).cmp = s.cmp := rfl
@[simp] theorem State.replaceResult_grd (s : State) (lo g v b : Nat) : (s.replaceResult lo g v b).grd = s.grd := rfl
@[simp] theorem State.replaceResult_met (s : State) (lo g v b : Nat) : (s.replaceResult lo g v b).met = s.met := rfl
@[simp] theorem State.replaceResult_store (s : State) (lo g v b : Nat) : (s.replaceResult lo g v b).store = s.store := rfl
@[simp] theorem State.replaceResult_avail (s : State) (lo g v b : Nat) : (s.replaceResult lo g v b).avail = s.avail := rfl
@[simp] theorem State.replaceResult_sec (s : State) (lo g v b : Nat) : (s.replaceResult lo g v b).sec = s.sec := rfl
@[simp] theorem State.replaceResult_start (s : State) (lo g v b : Nat) : (s.replaceResult lo g v b).start = s.start := rfl
@[simp] theorem State.replaceResult_upd (s : State) (lo g v b : Nat) : (s.replaceResult lo g v b).upd = s.upd := rfl
@[simp] theorem State.replaceResult_freeCount (s : State) (lo g v b : Nat) : (s.replaceResult lo g v b).freeCount = s.freeCount := rfl
@[simp] theorem State.replaceResult_pending (s : State) (lo g v b : Nat) : (s.replaceResult lo g v b).pending = s.pending := rfl

/-! ### atH -/

@[simp] theorem State.atH_regs (s : State) (u : Sub) : (s.atH u).regs = s.regs := rfl
@[simp] theorem State.atH_io (s : State) (u : Sub) : (s.atH u).io = s.io := rfl
@[simp] theorem State.atH_plan (s : State) (u : Sub) : (s.atH u).plan = s.plan := rfl
@[simp] theorem State.atH_link (s : State) (u : Sub) : (s.atH u).link = s.link := rfl
@[simp] theorem State.atH_clr (s : State) (u : Sub) : (s.atH u).clr = s.clr := rfl
@[simp] theorem State.atH_ledger (s : State) (u : Sub) : (s.atH u).ledger = s.ledger := rfl
@[simp] theorem State.atH_fault (s : State) (u : Sub) : (s.atH u).fault = s.fault := rfl
@[simp] theorem State.atH_seq (s : State) (u : Sub) : (s.atH u).seq = s.seq := rfl
@[simp] theorem State.atH_hdma (s : State) (u : Sub) : (s.atH u).hdma = s.hdma := rfl
@[simp] theorem State.atH_mem (s : State) (u : Sub) : (s.atH u).mem = s.mem := rfl
@[simp] theorem State.atH_gens (s : State) (u : Sub) : (s.atH u).gens = s.gens := rfl
@[simp] theorem State.atH_lanes (s : State) (u : Sub) : (s.atH u).lanes = s.lanes := rfl
@[simp] theorem State.atH_reds (s : State) (u : Sub) : (s.atH u).reds = s.reds := rfl
@[simp] theorem State.atH_acq (s : State) (u : Sub) : (s.atH u).acq = s.acq := rfl
@[simp] theorem State.atH_bank (s : State) (u : Sub) : (s.atH u).bank = s.bank := rfl
@[simp] theorem State.atH_pods (s : State) (u : Sub) : (s.atH u).pods = s.pods := rfl
@[simp] theorem State.atH_cmp (s : State) (u : Sub) : (s.atH u).cmp = s.cmp := rfl
@[simp] theorem State.atH_grd (s : State) (u : Sub) : (s.atH u).grd = s.grd := rfl
@[simp] theorem State.atH_met (s : State) (u : Sub) : (s.atH u).met = s.met := rfl
@[simp] theorem State.atH_store (s : State) (u : Sub) : (s.atH u).store = s.store := rfl
@[simp] theorem State.atH_avail (s : State) (u : Sub) : (s.atH u).avail = s.avail := rfl
@[simp] theorem State.atH_sec (s : State) (u : Sub) : (s.atH u).sec = s.sec := rfl
@[simp] theorem State.atH_start (s : State) (u : Sub) : (s.atH u).start = s.start := rfl
@[simp] theorem State.atH_upd (s : State) (u : Sub) : (s.atH u).upd = s.upd := rfl
@[simp] theorem State.atH_freeCount (s : State) (u : Sub) : (s.atH u).freeCount = s.freeCount := rfl
@[simp] theorem State.atH_pending (s : State) (u : Sub) : (s.atH u).pending = s.pending := rfl

/-! ### atF -/

@[simp] theorem State.atF_regs (s : State) (u : Sub) : (s.atF u).regs = s.regs := rfl
@[simp] theorem State.atF_io (s : State) (u : Sub) : (s.atF u).io = s.io := rfl
@[simp] theorem State.atF_plan (s : State) (u : Sub) : (s.atF u).plan = s.plan := rfl
@[simp] theorem State.atF_link (s : State) (u : Sub) : (s.atF u).link = s.link := rfl
@[simp] theorem State.atF_clr (s : State) (u : Sub) : (s.atF u).clr = s.clr := rfl
@[simp] theorem State.atF_ledger (s : State) (u : Sub) : (s.atF u).ledger = s.ledger := rfl
@[simp] theorem State.atF_fault (s : State) (u : Sub) : (s.atF u).fault = s.fault := rfl
@[simp] theorem State.atF_seq (s : State) (u : Sub) : (s.atF u).seq = s.seq := rfl
@[simp] theorem State.atF_hdma (s : State) (u : Sub) : (s.atF u).hdma = s.hdma := rfl
@[simp] theorem State.atF_mem (s : State) (u : Sub) : (s.atF u).mem = s.mem := rfl
@[simp] theorem State.atF_gens (s : State) (u : Sub) : (s.atF u).gens = s.gens := rfl
@[simp] theorem State.atF_lanes (s : State) (u : Sub) : (s.atF u).lanes = s.lanes := rfl
@[simp] theorem State.atF_reds (s : State) (u : Sub) : (s.atF u).reds = s.reds := rfl
@[simp] theorem State.atF_acq (s : State) (u : Sub) : (s.atF u).acq = s.acq := rfl
@[simp] theorem State.atF_bank (s : State) (u : Sub) : (s.atF u).bank = s.bank := rfl
@[simp] theorem State.atF_pods (s : State) (u : Sub) : (s.atF u).pods = s.pods := rfl
@[simp] theorem State.atF_cmp (s : State) (u : Sub) : (s.atF u).cmp = s.cmp := rfl
@[simp] theorem State.atF_grd (s : State) (u : Sub) : (s.atF u).grd = s.grd := rfl
@[simp] theorem State.atF_met (s : State) (u : Sub) : (s.atF u).met = s.met := rfl
@[simp] theorem State.atF_store (s : State) (u : Sub) : (s.atF u).store = s.store := rfl
@[simp] theorem State.atF_avail (s : State) (u : Sub) : (s.atF u).avail = s.avail := rfl
@[simp] theorem State.atF_sec (s : State) (u : Sub) : (s.atF u).sec = s.sec := rfl
@[simp] theorem State.atF_start (s : State) (u : Sub) : (s.atF u).start = s.start := rfl
@[simp] theorem State.atF_upd (s : State) (u : Sub) : (s.atF u).upd = s.upd := rfl
@[simp] theorem State.atF_freeCount (s : State) (u : Sub) : (s.atF u).freeCount = s.freeCount := rfl
@[simp] theorem State.atF_pending (s : State) (u : Sub) : (s.atF u).pending = s.pending := rfl

/-! ### A fresh free value -/

@[simp] theorem State.fresh_regs (s : State) (w : Nat) : (s.fresh w).2.regs = s.regs := rfl
@[simp] theorem State.fresh_io (s : State) (w : Nat) : (s.fresh w).2.io = s.io := rfl
@[simp] theorem State.fresh_time (s : State) (w : Nat) : (s.fresh w).2.time = s.time := rfl
@[simp] theorem State.fresh_plan (s : State) (w : Nat) : (s.fresh w).2.plan = s.plan := rfl
@[simp] theorem State.fresh_link (s : State) (w : Nat) : (s.fresh w).2.link = s.link := rfl
@[simp] theorem State.fresh_clr (s : State) (w : Nat) : (s.fresh w).2.clr = s.clr := rfl
@[simp] theorem State.fresh_ledger (s : State) (w : Nat) : (s.fresh w).2.ledger = s.ledger := rfl
@[simp] theorem State.fresh_fault (s : State) (w : Nat) : (s.fresh w).2.fault = s.fault := rfl
@[simp] theorem State.fresh_seq (s : State) (w : Nat) : (s.fresh w).2.seq = s.seq := rfl
@[simp] theorem State.fresh_hdma (s : State) (w : Nat) : (s.fresh w).2.hdma = s.hdma := rfl
@[simp] theorem State.fresh_mem (s : State) (w : Nat) : (s.fresh w).2.mem = s.mem := rfl
@[simp] theorem State.fresh_gens (s : State) (w : Nat) : (s.fresh w).2.gens = s.gens := rfl
@[simp] theorem State.fresh_lanes (s : State) (w : Nat) : (s.fresh w).2.lanes = s.lanes := rfl
@[simp] theorem State.fresh_reds (s : State) (w : Nat) : (s.fresh w).2.reds = s.reds := rfl
@[simp] theorem State.fresh_acq (s : State) (w : Nat) : (s.fresh w).2.acq = s.acq := rfl
@[simp] theorem State.fresh_bank (s : State) (w : Nat) : (s.fresh w).2.bank = s.bank := rfl
@[simp] theorem State.fresh_pods (s : State) (w : Nat) : (s.fresh w).2.pods = s.pods := rfl
@[simp] theorem State.fresh_cmp (s : State) (w : Nat) : (s.fresh w).2.cmp = s.cmp := rfl
@[simp] theorem State.fresh_grd (s : State) (w : Nat) : (s.fresh w).2.grd = s.grd := rfl
@[simp] theorem State.fresh_met (s : State) (w : Nat) : (s.fresh w).2.met = s.met := rfl
@[simp] theorem State.fresh_store (s : State) (w : Nat) : (s.fresh w).2.store = s.store := rfl
@[simp] theorem State.fresh_avail (s : State) (w : Nat) : (s.fresh w).2.avail = s.avail := rfl
@[simp] theorem State.fresh_sec (s : State) (w : Nat) : (s.fresh w).2.sec = s.sec := rfl
@[simp] theorem State.fresh_start (s : State) (w : Nat) : (s.fresh w).2.start = s.start := rfl
@[simp] theorem State.fresh_upd (s : State) (w : Nat) : (s.fresh w).2.upd = s.upd := rfl
@[simp] theorem State.fresh_pending (s : State) (w : Nat) : (s.fresh w).2.pending = s.pending := rfl
@[simp] theorem State.fresh_freeCount (s : State) (w : Nat) : (s.fresh w).2.freeCount = s.freeCount + 1 := rfl

/-! ### Reads that time does not change -/

@[simp] theorem State.rd_atH (s : State) (u : Sub) (a : Nat) : (s.atH u).rd a = s.rd a := rfl
@[simp] theorem State.rd_atF (s : State) (u : Sub) (a : Nat) : (s.atF u).rd a = s.rd a := rfl
@[simp] theorem State.get_atH (s : State) (u : Sub) (f : Fld) : (s.atH u).get f = s.get f := rfl
@[simp] theorem State.get_atF (s : State) (u : Sub) (f : Fld) : (s.atF u).get f = s.get f := rfl
@[simp] theorem State.val_atH (s : State) (u : Sub) (a : Nat) : (s.atH u).val a = s.val a := rfl
@[simp] theorem State.val_atF (s : State) (u : Sub) (a : Nat) : (s.atF u).val a = s.val a := rfl
@[simp] theorem State.is_atH (s : State) (u : Sub) (f : Fld) : (s.atH u).is f = s.is f := rfl
@[simp] theorem State.is_atF (s : State) (u : Sub) (f : Fld) : (s.atF u).is f = s.is f := rfl
@[simp] theorem State.powered_atH (s : State) (u : Sub) (a : Nat) : (s.atH u).powered a = s.powered a := rfl
@[simp] theorem State.powered_atF (s : State) (u : Sub) (a : Nat) : (s.atF u).powered a = s.powered a := rfl

end Sys2Proof.Machine
end

