-- ==== Sys2Proof/Safety.lean ====
section
/-! DEFINITION. What claims about runs are stated in: that a command answers a next state of which something holds, and what a command leaves unchanged. -/

namespace Sys2Proof.Machine

/-- The command runs in `s`, and `P` holds of the state it answers. -/
def Answers (c : Instr) (s : State) (P : State → Prop) : Prop := ∃ t, exec c s = .next t ∧ P t

/-- A run of `n` steps ends neither in a fault nor in a refusal, and `P` holds of the state it ends in. -/
def RunsTo : Nat → State → (State → Prop) → Prop
  | 0, s, P => P s
  | n + 1, s, P => ∃ t, step s = .next t ∧ RunsTo n t P

/-- Every register of the map but those that `written` names reads as before. -/
def RegsKept (s t : State) (written : Nat → Prop) : Prop := ∀ a, ¬ written a → t.rd a = s.rd a

/-- Acquisition memory reads as before at every address. -/
def MemKept (s t : State) : Prop := ∀ a, memFind t.mem a = memFind s.mem a

/-- The access of the host link to a 32-bit word of BAR0 as a command: a write of `x`, or a read; a field block is reached through the tunnel (R21, R49). [DESIGN CHOICE, log 15, unsafe] -/
def hostAccess (u : Sub) (a : Nat) (x : Option Word) : Instr :=
  if isFieldAddr a then .tunnelAccess u .host a 1 (x.map (fun v => [v]))
  else match x with
    | some v => .registerWrite u .host a v
    | none => .rsRead u .host a

/-- What every state of a run keeps: the canonical forms of the register file and of acquisition memory, and time inside its fields (R61, R69). -/
def State.Inv (s : State) : Prop :=
  regsWf s.regs = true ∧ Memory.wf s.mem = true ∧ s.time.hTick < ticksPerEra ∧ s.time.hUnit < unitsPerTick
    ∧ s.time.fTick < ticksPerEra ∧ s.time.fUnit < unitsPerTick

/-- Commands that may write acquisition memory, or take it away with the power of domain H3: segments and read blocks arrive (R249, R389), domains switch
(R18), power goes or comes, and what start-up, a register write or a boundary leads to such a switch. -/
def mayStore : Instr → Bool
  | .xmReduce .. | .storeReadDone .. => true
  | .powerDomainRequest .. | .domainPowered .. | .fieldSupplyOutOfRange .. | .fieldShutdownPowerOff | .quietEnter => true
  | .powerUp .. | .powerLoss12v .. | .hostInputLow .. | .moduleReset .. => true
  | .registerWrite .. | .host64bitAccess .. | .xmRegWr .. => true
  | .trainingDone .. | .xmFw .. | .xmRegRsp .. | .tunnelTimeout .. | .bankSwap | .modeChange => true
  | .hostTickBoundary .. | .eraWrap => true
  | _ => false

end Sys2Proof.Machine
end

