-- ==== Sys2Proof/WellFormed.lean ====
section
/-! DEFINITION. Which commands the hardware can be given: operands within the widths that the specification gives them. -/

namespace Sys2Proof

/-- Bytes of BAR0 (R355). -/
def barSize : Nat := 67108864

/-- A message whose header, payload and trailer fit their fields (R32–R34). -/
def Msg.wf (m : Msg) : Bool :=
  m.ty < 2 ^ 8 && m.vc < 2 ^ 3 && m.flags < 2 ^ 5 && m.len < 2 ^ 16 && m.seq < 2 ^ 16 && m.rsv < 2 ^ 16 && m.t64 < 2 ^ 64
    && m.payload.length < 2 ^ 16 && m.trailer < 2 ^ 32

/-- Samples of lanes, each lane at most once. -/
def lanesWf (env : List LaneIn) : Bool := (env.map (fun x => x.lane)).Nodup

/-- The answer of a pod: STATUS is a byte, the payload at most 65,535 bytes (R334). -/
def ansWf (a : Option PodAns) : Bool := a.all (fun x => x.status < 256 && x.payload.length < 65536)

/-- A descriptor has 64 bytes (R357). -/
def descWf (d : List Byte) : Bool := d.length == 64

/-- The command's operands are within their ranges. -/
def Instr.wf : Instr → Bool
  | .host64bitAccess _ a _ => a % 8 == 0 && a < barSize
  | .bar0BadAccess _ _ => true
  | .registerWrite _ _ a _ => a % 4 == 0 && a < barSize
  | .rsRead _ _ a => a % 4 == 0 && a < barSize
  | .powerDomainRequest _ _ => true
  | .domainPowered _ _ => true
  | .h3TrainingDone _ => true
  | .trainingDone _ fh hf => fh < 65536 && hf < 65536
  | .trainingRetryTimer _ => true
  | .isoRetrain _ => true
  | .linkDown _ => true
  | .linkHoldExpiry _ => true
  | .laneFailure _ _ _ => true
  | .reconfigDone _ => true
  | .shed => true
  | .frameReplay _ _ _ lost => lost.all Msg.wf
  | .isoClrStats _ => true
  | .xmTimeFieldBeacon _ m => m.wf
  | .xmTimeHostBeacon _ m => m.wf
  | .xmTimeEpochSet _ m => m.wf
  | .xmTickPlan _ m => m.wf
  | .xmHealth _ _ m => m.wf
  | .xmRegRd _ m => m.wf
  | .xmRegWr _ m => m.wf
  | .xmRegRsp _ m => m.wf
  | .xmSamples _ m => m.wf
  | .xmReduce _ m => m.wf
  | .xmTally _ m => m.wf
  | .xmEvent _ m => m.wf
  | .xmFail _ m => m.wf
  | .xmCmp _ m => m.wf
  | .xmRefillVec _ m => m.wf
  | .xmRefillGen _ m => m.wf
  | .xmPodRequest _ m => m.wf
  | .xmPodResponse _ m => m.wf
  | .xmPodLedger _ m => m.wf
  | .xmCalSetImage _ _ m => m.wf
  | .xmCalSetDrop _ m => m.wf
  | .xmCalBank _ m => m.wf
  | .xmCalRunEnd _ m => m.wf
  | .xmCalStored _ m => m.wf
  | .xmFw _ m => m.wf
  | .tunnelAccess _ _ a n ws => a % 4 == 0 && a + 4 * n ≤ barSize && 1 ≤ n && n ≤ 64 && ws.all (fun l => l.length == n)
  | .tunnelTimeout _ tag => tag < 65536
  | .fctlEscGo _ _ => true
  | .heldWriteDiscard _ => true
  | .escApply => true
  | .fctlFatal _ _ => true
  | .clockSourceSelect _ _ => true
  | .pllLock _ => true
  | .refLost _ => true
  | .holdoverReturn _ => true
  | .hostBeaconSend => true
  | .fieldStep => true
  | .tickBoundary env _ => lanesWf env
  | .healthCompose => true
  | .tallyMerge env => lanesWf env
  | .tickOverrun => true
  | .planTakesEffect => true
  | .eraWrap => true
  | .tickMarkWrite => true
  | .epochLoad _ => true
  | .epochSet => true
  | .todMessage _ _ => true
  | .ppsEdge _ => true
  | .ppsMissing _ => true
  | .timeClrStats _ => true
  | .hostTickBoundary _ => true
  | .horizonChange => true
  | .clrCtrlClrStats _ => true
  | .driveInhAssert _ => true
  | .driveInhPinRelease _ => true
  | .sysDriveInhSet _ => true
  | .driveInhRelease _ => true
  | .fieldInhibitEnd => true
  | .pinLevelWrite _ _ _ _ => true
  | .laneLevelApply _ => true
  | .deskew _ _ => true
  | .deskewDone _ _ runs => runs.length == 16
  | .pinEnable _ _ => true
  | .pinDisable _ _ => true
  | .pinClrStats _ => true
  | .pinTransition _ _ _ => true
  | .failRecordComplete _ => true
  | .failClear _ => true
  | .failClearApply _ => true
  | .failDump _ => true
  | .dumpDone _ => true
  | .fwdMaxWrite _ _ => true
  | .seqFailClrStats => true
  | .opNext _ => true
  | .opRepeat _ => true
  | .opLoop _ => true
  | .opEndloop _ => true
  | .opJump _ => true
  | .opCall _ => true
  | .opRet _ => true
  | .opWaitTrig _ => true
  | .waitTimeout _ => true
  | .opMatch _ => true
  | .matchLimit _ => true
  | .opSyncTick _ => true
  | .opFlag _ => true
  | .opGenStep _ => true
  | .opCustom _ => true
  | .opHalt _ => true
  | .reservedOpcode _ => true
  | .instanceStart obs _ => (obs.map (fun o => o.port)).Nodup
  | .underrun _ => true
  | .seqStart _ => true
  | .seqPause _ => true
  | .pauseClear _ => true
  | .seqStep _ => true
  | .seqStop _ => true
  | .hostJump _ => true
  | .vectorRequestTaken _ => true
  | .seqResume _ => true
  | .winApply _ => true
  | .seqClrStats => true
  | .seqOverdraft _ => true
  | .custSwitch _ => true
  | .uNop _ => true
  | .uLdi _ => true
  | .uLdh _ => true
  | .uAdd _ => true
  | .uSub _ => true
  | .uAnd _ => true
  | .uOr _ => true
  | .uXor _ => true
  | .uShl _ => true
  | .uShr _ => true
  | .uRds _ => true
  | .uBr _ => true
  | .uMcall _ => true
  | .uMret _ => true
  | .uIssue _ => true
  | .uPatch _ => true
  | .uCmpw _ => true
  | .uTrig _ => true
  | .uDrain _ => true
  | .uLpush _ => true
  | .uLend _ => true
  | .uCpush _ => true
  | .uCpop _ => true
  | .uSetnx _ => true
  | .uFlag _ => true
  | .uGstep _ => true
  | .uEvt _ => true
  | .uSafe _ => true
  | .uEnd _ => true
  | .uHlt _ => true
  | .illegalMicroOp _ => true
  | .stallRelease _ => true
  | .serviceRequestTaken _ => true
  | .svcOverdue _ => true
  | .ustoreClrStats => true
  | .genCfgWrite _ _ _ => true
  | .genListWrite _ _ _ => true
  | .genEnable _ _ => true
  | .genDisable _ _ => true
  | .genStopPoint _ _ => true
  | .genStart _ _ => true
  | .genResume _ _ => true
  | .genListClr _ _ => true
  | .genClrStats _ => true
  | .genGoArm _ => true
  | .genGo _ => true
  | .genGoCancel _ => true
  | .generatorStep _ _ _ => true
  | .triggeredStep _ => true
  | .trigTimeout _ _ => true
  | .genOverdraftEnd _ _ => true
  | .laneApply _ _ => true
  | .laneApplyEffect _ => true
  | .laneApplyWithdraw _ => true
  | .laneStreamWrite _ _ _ => true
  | .burstGo _ _ => true
  | .burstStart _ => true
  | .burstEnd _ => true
  | .burstDone _ _ => true
  | .unsettledEnd _ _ => true
  | .laneClrStats _ => true
  | .laneTriggerEvent _ env => lanesWf env
  | .trigInEdge _ _ _ => true
  | .hostTrig _ => true
  | .combinerFire _ _ => true
  | .holdoffExpiry _ _ => true
  | .sequenceWindowExpiry _ _ => true
  | .combLevelFall _ _ => true
  | .combRearm _ _ => true
  | .combClrStats _ _ => true
  | .acqConfigEffect => true
  | .segmentComplete _ _ env => lanesWf env
  | .groupEnable _ _ _ => true
  | .groupDisable _ _ => true
  | .grpClrStats _ => true
  | .redApply _ _ _ => true
  | .redClrStats _ => true
  | .frameEnd _ => true
  | .tallyEnable _ _ _ => true
  | .tallyClear _ _ => true
  | .tallySnap _ => true
  | .tallySnapshot _ => true
  | .sweepEnd _ _ => true
  | .pairEnable _ _ => true
  | .pairDisable _ _ env => lanesWf env
  | .compareDecision _ _ env => lanesWf env
  | .learnFreeze _ => true
  | .relearn _ _ => true
  | .relearnStart _ => true
  | .latencyFollow _ => true
  | .referenceRead _ _ _ => true
  | .replayResume _ => true
  | .overflow _ _ => true
  | .cmpRplWrite _ _ _ => true
  | .cmpClrStats _ => true
  | .cmpPClrStats _ _ => true
  | .guardSample vs => (vs.map (fun g => g.win)).Nodup
  | .quietRequest _ _ => true
  | .quietEnter => true
  | .wake _ => true
  | .quietEnd _ => true
  | .quietRestoreComplete _ => true
  | .grdClrStats => true
  | .mcStart _ => true
  | .mcCont _ => true
  | .mcAbort _ => true
  | .conversionDone _ _ => true
  | .lineLost _ => true
  | .refbufOn _ => true
  | .refReady _ => true
  | .refbufOff _ => true
  | .hkScanStart _ => true
  | .hkScanDone _ temps _ => temps.length == 16
  | .ddacEnable _ _ => true
  | .calRun _ => true
  | .calAutoStart _ => true
  | .calRunEnd _ _ => true
  | .calAbort _ => true
  | .calAbortDone _ _ => true
  | .setStoreTimeout _ => true
  | .bankReady _ => true
  | .bankSwap => true
  | .metCalClrStats _ => true
  | .podInsert _ _ => true
  | .debounceDone _ _ _ => true
  | .hello _ _ ans => ansWf ans
  | .setRate _ _ ans => ansWf ans
  | .linkTest _ _ data ans => data.length == 1024 && ansWf ans
  | .caps _ _ ans => ansWf ans
  | .certRead _ _ ans => ansWf ans
  | .challenge _ _ ans => ansWf ans
  | .stressRead _ _ ans => ansWf ans
  | .poll _ _ ans => ansWf ans
  | .config _ _ ans => ansWf ans
  | .level _ _ ans => ansWf ans
  | .hold _ _ ans => ansWf ans
  | .fwWrite _ _ ofs data ans => ofs < 2 ^ 32 && data.length ≤ 1024 && ansWf ans
  | .fwCommit _ _ digest ans => digest.length == 32 && ansWf ans
  | .podResponse _ _ frame => frame.length ≤ 65536
  | .podResponseTimeout _ _ => true
  | .helloTimeout _ _ => true
  | .renegotiate _ _ => true
  | .linkLossHold _ _ => true
  | .podSelfHold _ _ => true
  | .pollInterval _ _ => true
  | .challengeDue _ _ => true
  | .recheckRetry _ _ => true
  | .podAttached _ => true
  | .podRemoval _ _ => true
  | .detach _ => true
  | .powerTrip _ _ => true
  | .podRetry _ _ => true
  | .podRecheck _ _ => true
  | .podHoldWrite _ _ _ => true
  | .podPowerOff _ _ _ => true
  | .podClrStats _ => true
  | .podBudgetCheck _ mw => (mw.map Prod.fst).Nodup
  | .functionLevelReset _ => true
  | .hotReset _ => true
  | .hostLinkDown _ => true
  | .hostLinkRetrain _ _ _ => true
  | .aerError _ _ => true
  | .bar2Access _ _ _ n => 1 ≤ n && n ≤ 1024
  | .descriptorPost _ _ _ => true
  | .hdmaNop _ _ d => descWf d
  | .refill _ _ d _ => descWf d
  | .copyOut _ _ d _ => descWf d
  | .tap _ _ d => descWf d
  | .descriptorComplete _ _ _ => true
  | .hostErr _ _ _ _ => true
  | .hdmaChannelEnable _ _ => true
  | .hdmaDrain _ _ => true
  | .hdmaAbort _ _ _ _ => true
  | .channelStopped _ _ ds => ds.all descWf
  | .tapFlush _ _ => true
  | .eqVectorTimer _ => true
  | .hdmaClrStats _ => true
  | .hdmaCClrStats _ _ => true
  | .driveLinkUp _ _ _ => true
  | .driveLinkDown _ _ => true
  | .nvmeCompletion _ _ _ _ => true
  | .nvmeCommandTimeout _ _ _ => true
  | .rebuildDone _ => true
  | .storFormat _ => true
  | .storEnWrite _ _ => true
  | .sealInstant => true
  | .sealNow _ => true
  | .sealIssued _ => true
  | .pinAdd _ => true
  | .storeRead _ => true
  | .storeReadDone _ => true
  | .storClrStats _ => true
  | .mergedAppend _ => true
  | .ldgNote _ => true
  | .ldgClrStats _ => true
  | .packetSubmit _ _ => true
  | .packetCheckDone _ => true
  | .slotStaged _ => true
  | .tokenSubmit _ => true
  | .tokenCheckDone _ _ => true
  | .slotExpiry _ => true
  | .escrowCommit => true
  | .arGo _ => true
  | .auditReportReady _ => true
  | .secClrStats _ => true
  | .powerUp _ => true
  | .powerLoss12v _ _ => true
  | .hostInputLow _ => true
  | .hostSupplyFault _ => true
  | .fieldSupplyInRange _ => true
  | .fieldSupplyOutOfRange _ => true
  | .fieldSupplyFault _ => true
  | .imgErase _ => true
  | .imgProg _ _ => true
  | .imgActivate _ => true
  | .imgCheckDone _ => true
  | .modeRequest _ _ => true
  | .modeChange => true
  | .sysClrStats _ => true
  | .moduleReset _ => true
  | .faultRaise _ _ _ => true
  | .fieldFaultRaise _ _ _ => true
  | .blockResetEnd _ _ => true
  | .fltPendClear _ _ _ => true
  | .faultPinRelease _ _ => true
  | .faultForce _ _ _ _ => true
  | .fltClrStats _ => true
  | .clrFirst _ => true
  | .temperatureLimit _ _ _ => true
  | .fieldShutdownPowerOff => true
  | .availDayRoll => true
  | .updErase _ => true
  | .updProg _ _ => true
  | .updVerify _ => true
  | .stagingComplete _ => true
  | .updArm _ _ => true
  | .updCancel _ => true
  | .decisionSample _ => true
  | .activation => true
  | .fieldStage => true
  | .fieldStageTimeout => true
  | .healthPass => true
  | .commitSample _ => true
  | .lineSyncEdge _ => true
  | .imgEraseProgDone _ => true
  | .updEraseProgDone _ => true
  | .hostStageDone _ => true

end Sys2Proof
end

