-- ==== Sys2Proof/Certificates/Slice0/Obligations.lean ====
section
/-! DEFINITION. The statements for the provers. -/

set_option linter.unusedVariables false

open Sys2Proof Sys2Proof.Machine

/-- Resets of the host link, its retraining and AER errors, and the memory window BAR2 (R353, R354, R356, R380, R436). -/
def Obligations.HostLinkAndWindow : Prop :=
  (∀ (s : State) (u : Sub),
    Answers (.functionLevelReset u) s (fun t => t.hdma.chans = Vector.replicate 16 {} ∧ t.faultPend 0x0C = true)) ∧
  (∀ (s : State) (u : Sub),
    Answers (.hotReset u) s (fun t => t.hdma.chans = Vector.replicate 16 {} ∧ t.faultPend 0x0C = true)) ∧
  (∀ (s : State) (u : Sub),
    Answers (.hostLinkDown u) s (fun t => t.hdma.chans = Vector.replicate 16 {} ∧ t.faultPend 0x0C = true)) ∧
  (∀ (s : State) (u : Sub) (speed : Fin 6) (width : Fin 9),
    Answers (.hostLinkRetrain u speed width) s (fun t => t.get R.HDMA_LINK_SPEED = speed.val ∧ t.get R.HDMA_LINK_WIDTH = width.val ∧ t.is R.HDMA_EVT_LINK_CHANGE = true)) ∧
  (∀ (s : State) (u : Sub) (correctable : Bool),
    Answers (.aerError u correctable) s (fun t => t.faultPend (if correctable then 0x0B else 0x0C) = true)) ∧
  (∀ (s : State) (u : Sub) (off : BitVec 32) (words : Nat),
    (s.val R.HDMA_WIN_BASE % 256 * 2 ^ 30 + off.toNat) + 4 * words ≤ s.wqBase →
    Answers (.bar2Access u false off words) s (fun t => t.hdma.bar2Data = (List.range words).map (fun k => BitVec.ofNat 32 (ofBytes (memRead s.mem (s.val R.HDMA_WIN_BASE % 256 * 2 ^ 30 + off.toNat + 4 * k) 4))) ∧ t.regs = s.regs ∧ t.mem = s.mem)) ∧
  (∀ (s : State) (u : Sub) (off : BitVec 32) (words : Nat),
    Answers (.bar2Access u true off words) s (fun t => t.is R.HDMA_EVT_BAR2_ERR = true ∧ t.mem = s.mem ∧ t.hdma.bar2Data = s.hdma.bar2Data))

/-- A posted descriptor is fetched: HEAD advances and the work joins the channel (R357, R358, R361, R366). -/
def Obligations.ChannelFetch : Prop :=
  (∀ (s : State) (u : Sub) (c : Idx16) (tail : Fin 4096),
    s.domOn (domH 4) = true →
    Answers (.descriptorPost u c tail) s (fun t => t.val (R.HDMA_C_TAIL c) = tail.val ∧ RegsKept s t (fun a => a = R.HDMA_C_TAIL c) ∧ t.mem = s.mem)) ∧
  (∀ (s : State) (u : Sub) (c : Idx16) (d : List Byte),
    s.val (R.HDMA_C_SIZE c) ≠ 0 →
    s.canFetch c (parseWork (s.val (R.HDMA_C_HEAD c)) d) = true →
    s.descReason c d (parseWork (s.val (R.HDMA_C_HEAD c)) d) = 0 →
    leAt d 0 1 = 0 →
    Answers (.hdmaNop u c d) s (fun t => t.val (R.HDMA_C_HEAD c) = (s.val (R.HDMA_C_HEAD c) + 1) % s.val (R.HDMA_C_SIZE c) ∧ (t.chan c).fly = (s.chan c).fly ++ [{ parseWork (s.val (R.HDMA_C_HEAD c)) d with ended := some (0, 0) }] ∧ t.mem = s.mem)) ∧
  (∀ (s : State) (u : Sub) (c : Idx16) (d : List Byte) (data : List Byte),
    s.val (R.HDMA_C_SIZE c) ≠ 0 →
    s.canFetch c (parseWork (s.val (R.HDMA_C_HEAD c)) d) = true →
    s.descReason c d (parseWork (s.val (R.HDMA_C_HEAD c)) d) = 0 →
    leAt d 0 1 = 1 →
    s.linkUp = true →
    Answers (.refill u c d data) s (fun t => t.val (R.HDMA_C_HEAD c) = (s.val (R.HDMA_C_HEAD c) + 1) % s.val (R.HDMA_C_SIZE c) ∧ t.mem = s.mem)) ∧
  (∀ (s : State) (u : Sub) (c : Idx16) (d : List Byte) (n : Nat),
    s.val (R.HDMA_C_SIZE c) ≠ 0 →
    s.canFetch c (parseWork (s.val (R.HDMA_C_HEAD c)) d) = true →
    s.descReason c d (parseWork (s.val (R.HDMA_C_HEAD c)) d) = 0 →
    leAt d 0 1 = 2 →
    Answers (.copyOut u c d n) s (fun t => t.val (R.HDMA_C_HEAD c) = (s.val (R.HDMA_C_HEAD c) + 1) % s.val (R.HDMA_C_SIZE c) ∧ t.hdma.hostWrites = s.hdma.hostWrites ++ [(leAt d 8 8, memRead s.mem (leAt d 24 8) (min n (leAt d 4 4)))] ∧ t.mem = s.mem)) ∧
  (∀ (s : State) (u : Sub) (c : Idx16) (d : List Byte),
    s.val (R.HDMA_C_SIZE c) ≠ 0 →
    s.canFetch c (parseWork (s.val (R.HDMA_C_HEAD c)) d) = true →
    s.descReason c d (parseWork (s.val (R.HDMA_C_HEAD c)) d) = 0 →
    leAt d 0 1 = 3 →
    Answers (.tap u c d) s (fun t => t.val (R.HDMA_C_HEAD c) = (s.val (R.HDMA_C_HEAD c) + 1) % s.val (R.HDMA_C_SIZE c) ∧ (t.chan c).fly = (s.chan c).fly ++ [parseWork (s.val (R.HDMA_C_HEAD c)) d] ∧ t.mem = s.mem))

/-- Descriptors complete in order, and a channel stops (R360, R361, R363, R364, R366). -/
def Obligations.ChannelCompletion : Prop :=
  (∀ (s : State) (u : Sub) (c : Idx16) (data : List Byte) (w : Work) (r : List Work),
    (s.chan c).fly = w :: r →
    w.ended.isSome = true →
    Answers (.descriptorComplete u c data) s (fun t => (t.chan c).fly = r ∧ t.hdma.hostWrites = s.hdma.hostWrites ++ [(s.val64 (R.HDMA_C_CPL_LO c) / 4096 * 4096 + 32 * w.idx, cplBytes w (s.get (R.HDMA_C_CPL_IDX_PHASE c)) (s.atH u).hNow.pack)] ∧ t.mem = s.mem)) ∧
  (∀ (s : State) (u : Sub) (c : Idx16) (data : List Byte) (n : Nat),
    ((s.chan c).fly.find? (fun w => w.ended.isNone)).isSome = true →
    Answers (.hostErr u c data n) s (fun t => t.is (R.HDMA_C_STAT_ERR c) = true ∧ t.is (R.HDMA_C_EVT_HOST_ERR c) = true ∧ t.mem = s.mem)) ∧
  (∀ (s : State) (u : Sub) (c : Idx16) (w : Work),
    (s.chan c).fly.find? (fun w => w.op == 3 && w.ended.isNone) = some w →
    s.get (R.HDMA_C_TAP_FLUSH_TICKS c) ≠ 0 ∧ 0 < w.moved ∧ w.lastAdd + s.get (R.HDMA_C_TAP_FLUSH_TICKS c) ≤ s.time.hTick →
    Answers (.tapFlush u c) s (fun t => (t.chan c).fly = (s.chan c).fly.map (fun x => if x.idx == w.idx then { w with ended := some (0, 0) } else x) ∧ t.regs = s.regs ∧ t.mem = s.mem)) ∧
  (∀ (s : State) (u : Sub) (c : Idx16) (descs : List (List Byte)) (stop : Nat),
    (s.chan c).stopTail = some stop →
    (s.chan c).fly = [] →
    stop < 2 ^ 32 →
    Answers (.channelStopped u c descs) s (fun t => t.val (R.HDMA_C_HEAD c) = stop ∧ t.is (R.HDMA_C_CTRL_EN c) = false ∧ t.is (R.HDMA_C_STAT_BUSY c) = false ∧ t.is (R.HDMA_C_EVT_STOPPED c) = true ∧ t.mem = s.mem))

/-- A channel is enabled, drained and aborted; the event timer and the statistics of the block (R88, R361, R364, R370, R371). -/
def Obligations.ChannelControl : Prop :=
  (∀ (s : State) (u : Sub) (c : Idx16),
    s.is (R.HDMA_C_STAT_BUSY c) = false →
    s.domOn (domH 4) = true →
    Answers (.hdmaChannelEnable u c) s (fun t => t.is (R.HDMA_C_CTRL_EN c) = true ∧ t.is (R.HDMA_C_STAT_ERR c) = false ∧ RegsKept s t (fun a => a = R.HDMA_C_CTRL c ∨ a = R.HDMA_C_STAT c) ∧ t.mem = s.mem)) ∧
  (∀ (s : State) (u : Sub) (c : Idx16),
    s.is (R.HDMA_C_CTRL_EN c) = true →
    s.is (R.HDMA_C_STAT_BUSY c) = false →
    Answers (.hdmaDrain u c) s (fun t => t.is (R.HDMA_C_STAT_BUSY c) = true ∧ t.is (R.HDMA_C_STAT_DRAINING c) = true ∧ t.is (R.HDMA_C_STAT_ABORTING c) = false ∧ RegsKept s t (fun a => a = R.HDMA_C_STAT c) ∧ t.mem = s.mem)) ∧
  (∀ (s : State) (u : Sub) (c : Idx16) (data : List Byte) (n : Nat),
    s.is (R.HDMA_C_CTRL_EN c) = true →
    s.is (R.HDMA_C_STAT_ABORTING c) = false →
    Answers (.hdmaAbort u c data n) s (fun t => t.is (R.HDMA_C_STAT_BUSY c) = true ∧ t.is (R.HDMA_C_STAT_ABORTING c) = true ∧ t.mem = s.mem)) ∧
  (∀ (s : State) (u : Sub) (v : Nat) (k : Nat) (first : Nat),
    s.hdma.eqMod = [(v, k, first)] →
    s.get R.HDMA_EQ_MOD_TICKS ≠ 0 →
    first + s.get R.HDMA_EQ_MOD_TICKS ≤ s.time.hTick →
    s.hdma.msixMask.testBit v = false →
    Answers (.eqVectorTimer u) s (fun t => t.hdma.msixSent = s.hdma.msixSent ++ [v] ∧ t.hdma.eqMod = [] ∧ t.regs = s.regs ∧ t.mem = s.mem)) ∧
  (∀ (s : State) (u : Sub),
    s.domOn (domH 4) = true →
    Answers (.hdmaClrStats u) s (fun t => t.val R.HDMA_BAR2_ERR = 0 ∧ t.val R.HDMA_CPL_DROP = 0 ∧ t.val R.HDMA_BAR0_ERR = 0 ∧ t.val R.HDMA_EQ_LOST = 0 ∧ t.get R.HDMA_LINK_RETRAINS = 0 ∧ t.mem = s.mem)) ∧
  (∀ (s : State) (u : Sub) (c : Idx16),
    s.domOn (domH 4) = true →
    Answers (.hdmaCClrStats u c) s (fun t => t.val (R.HDMA_C_ERR_CNT c) = 0 ∧ t.val (R.HDMA_C_TAP_MISS c) = 0 ∧ RegsKept s t (fun a => a = R.HDMA_C_ERR_CNT c ∨ a = R.HDMA_C_TAP_MISS c) ∧ t.mem = s.mem))

/-- The drive inhibit: pin, register, release and its end in the field half (R104, R433). -/
def Obligations.DriveInhibit : Prop :=
  (∀ (s : State) (u : Sub),
    s.seq.inhPin = false →
    Answers (.driveInhAssert u) s (fun t => t.seq.inhPin = true ∧ t.is R.SYS_STAT_DRIVE_INH_PIN = true ∧ t.is R.SYS_DRIVE_INH_PIN = true ∧ (∀ p, p < 256 → t.is (R.PIN_STAT_DRV_ON p) = false) ∧ t.mem = s.mem)) ∧
  (∀ (s : State) (u : Sub),
    Answers (.driveInhPinRelease u) s (fun t => t.seq.inhPin = false ∧ t.is R.SYS_STAT_DRIVE_INH_PIN = false ∧ t.is R.SYS_DRIVE_INH_PIN = false ∧ RegsKept s t (fun a => a = R.SYS_STAT ∨ a = R.SYS_DRIVE_INH) ∧ t.mem = s.mem)) ∧
  (∀ (s : State) (u : Sub),
    Answers (.sysDriveInhSet u) s (fun t => t.is R.SYS_DRIVE_INH_INH = true ∧ t.mem = s.mem)) ∧
  (∀ (s : State) (u : Sub),
    s.releaseAllowed = true →
    Answers (.driveInhRelease u) s (fun t => t.is R.SYS_DRIVE_INH_INH = false ∧ t.is R.SYS_DRIVE_INH_GUARD = false ∧ t.is R.SYS_DRIVE_INH_LINK_HOLD = false ∧ t.seq.relDue = true ∧ t.mem = s.mem)) ∧
  (∀ (s : State) (u : Sub),
    s.releaseAllowed = false →
    Answers (.driveInhRelease u) s (fun t => t.is R.SYS_EVT_INH_REFUSED = true ∧ RegsKept s t (fun a => a = R.SYS_EVT) ∧ t.mem = s.mem)) ∧
  (∀ (s : State),
    s.seq.relDue = true →
    Answers .fieldInhibitEnd s (fun t => t.seq.relDue = false ∧ t.seq.inhField = s.is R.SYS_DRIVE_INH_INH ∧ t.regs = s.regs ∧ t.mem = s.mem))

/-- Levels, de-skew, enabling and disabling of a pin channel (R112, R114, R115, R116, R128, R130). -/
def Obligations.PinChannel : Prop :=
  (∀ (s : State) (u : Sub) (p : Port) (which : LevelReg) (v : Word),
    s.powered (levelAddr p which) = true →
    s.role p = roleLaneCmp ∨ s.role p = roleLaneDrv →
    Answers (.pinLevelWrite u p which v) s (fun t => t.is (R.PIN_STAT_LVL_PENDING p) = true ∧ (t.pinRt p).lvlFrom = s.nextTickU ∧ t.mem = s.mem)) ∧
  (∀ (s : State) (p : Port),
    2 ≤ s.role p →
    (s.pinRt p).lvlFrom ≤ s.fU →
    Answers (.laneLevelApply p) s (fun t => t.is (R.PIN_STAT_LVL_PENDING p) = false ∧ RegsKept s t (fun a => a = R.PIN_STAT p) ∧ t.mem = s.mem)) ∧
  (∀ (s : State) (u : Sub) (p : Port),
    s.powered (R.PIN_CTRL p) = true →
    s.podHere (p.val / 16) = true →
    s.is (R.PIN_STAT_BUSY p) = false →
    s.is R.SEQ_STAT_BUSY = false →
    Answers (.deskew u p) s (fun t => t.is (R.PIN_STAT_DESKEW_BUSY p) = true ∧ (t.pinRt p).deskewEnd = (s.atF u).fU + 20 * unitsPerTick ∧ RegsKept s t (fun a => a = R.PIN_STAT p) ∧ t.mem = s.mem)) ∧
  (∀ (s : State) (u : Sub) (p : Port) (r : Nat),
    s.is (R.PIN_STAT_DESKEW_BUSY p) = true →
    (s.pinRt p).deskewEnd ≤ s.fU →
    s.podHere (p.val / 16) = true →
    s.get (R.POD_S_STAT_TYPE (p.val / 16)) = 2 →
    s.get (R.POD_S_DELAY_DC (p.val / 16)) ≤ r + s.get (R.POD_S_DELAY_DD (p.val / 16)) →
    s.get (R.POD_S_DELAY_DD (p.val / 16)) ≤ r + s.get (R.POD_S_DELAY_DC (p.val / 16)) →
    r + s.get (R.POD_S_DELAY_DD (p.val / 16)) ≤ 65535 →
    r + s.get (R.POD_S_DELAY_DC (p.val / 16)) ≤ 65535 →
    Answers (.deskewDone u p (List.replicate 16 r)) s (fun t => t.get (R.PIN_DESKEW_DRV p) = (r + s.get (R.POD_S_DELAY_DD (p.val / 16)) - s.get (R.POD_S_DELAY_DC (p.val / 16)) + 1) / 2 ∧ t.get (R.PIN_DESKEW_DRV p) + t.get (R.PIN_DESKEW_CMP p) = r ∧ t.val (R.PIN_DESKEW_RT p) = r ∧ t.is (R.PIN_STAT_DESKEW_VALID p) = true ∧ t.is (R.PIN_STAT_DESKEW_BUSY p) = false ∧ t.mem = s.mem)) ∧
  (∀ (s : State) (u : Sub) (p : Port),
    s.powered (R.PIN_CTRL p) = true →
    s.is (R.PIN_CTRL_EN p) = false →
    s.is (R.PIN_STAT_BUSY p) = false →
    s.role p = roleNone ∨ s.is (R.PIN_STAT_DESKEW_VALID p) = true →
    ¬ (s.role p = roleLaneDrv ∧ s.genOwns (laneOfPort p) = true) →
    Answers (.pinEnable u p) s (fun t => t.is (R.PIN_CTRL_EN p) = true ∧ RegsKept s t (fun a => a = R.PIN_CTRL p) ∧ t.mem = s.mem)) ∧
  (∀ (s : State) (u : Sub) (p : Port),
    s.powered (R.PIN_CTRL p) = true →
    s.is (R.PIN_CTRL_EN p) = true →
    (s.atF u).fU < s.seq.endAt →
    Answers (.pinDisable u p) s (fun t => t.is (R.PIN_CTRL_EN p) = false ∧ t.is (R.PIN_STAT_BUSY p) = true ∧ RegsKept s t (fun a => a = R.PIN_CTRL p ∨ a = R.PIN_STAT p) ∧ t.mem = s.mem)) ∧
  (∀ (s : State) (u : Sub) (p : Port),
    s.powered (R.PIN_CTRL p) = true →
    s.is (R.PIN_CTRL_EN p) = true →
    s.seq.endAt ≤ s.fU →
    Answers (.pinDisable u p) s (fun t => t.is (R.PIN_CTRL_EN p) = false ∧ t.is (R.PIN_STAT_BUSY p) = false ∧ t.is (R.PIN_STAT_DRV_ON p) = false ∧ t.mem = s.mem)) ∧
  (∀ (s : State) (p : Port),
    s.powered (R.PIN_CTRL p) = true →
    Answers (.pinClrStats p) s (fun t => t.val (R.PIN_FAIL_CNT_LO p) = 0 ∧ t.val (R.PIN_FAIL_CNT_HI p) = 0 ∧ t.val (R.PIN_SUPPR_CNT p) = 0 ∧ t.val (R.PIN_EDGE_SKIP p) = 0 ∧ t.val (R.PIN_EDGE_LOST p) = 0 ∧ t.is (R.PIN_FIRST_FAIL_GEN_VALID p) = false ∧ t.mem = s.mem)) ∧
  (∀ (s : State) (u : Sub) (p : Port) (st : CmpState),
    roleCompares (s.role p) = true →
    s.is (R.PIN_CAPT_EN p) = false →
    Answers (.pinTransition u p st) s (fun t => t.get (R.PIN_STAT_CMP_LIVE p) = cmpCode st ∧ t.mem = s.mem))

/-- Fail records: completion, the region, the dump and forwarding (R124, R125, R126, R131). -/
def Obligations.FailUnit : Prop :=
  (∀ (s : State) (u : Sub) (r : FailRec) (rs : List FailRec),
    s.seq.fail.open_ = r :: rs →
    s.seq.fail.stored.length < s.seq.fail.capacity →
    s.seq.fail.stored.length < 2 ^ 31 →
    Answers (.failRecordComplete u) s (fun t => t.seq.fail.stored = s.seq.fail.stored ++ [r] ∧ t.seq.fail.open_ = rs ∧ t.val R.SEQ_FAIL_STORED = s.seq.fail.stored.length + 1 ∧ t.mem = s.mem)) ∧
  (∀ (s : State) (u : Sub),
    s.powered R.SEQ_FAIL_CTRL = true →
    s.is R.SEQ_STAT_BUSY = false →
    Answers (.failClear u) s (fun t => t.seq.fail.stored = [] ∧ t.val R.SEQ_FAIL_STORED = 0 ∧ t.val R.SEQ_FAIL_VEC_LO = 0 ∧ t.val R.SEQ_FAIL_LOST_LO = 0 ∧ t.is R.SEQ_FAIL_STAT_FULL = false ∧ t.mem = s.mem)) ∧
  (∀ (s : State) (u : Sub),
    s.powered R.SEQ_FAIL_CTRL = true →
    s.is R.SEQ_STAT_BUSY = true →
    Answers (.failClear u) s (fun t => t.seq.fail.clearReq = true ∧ t.regs = s.regs ∧ t.mem = s.mem)) ∧
  (∀ (s : State) (u : Sub),
    s.seq.fail.clearReq = true →
    Answers (.failClearApply u) s (fun t => t.seq.fail.stored = [] ∧ t.seq.fail.clearReq = false ∧ t.val R.SEQ_FAIL_STORED = 0 ∧ t.mem = s.mem)) ∧
  (∀ (s : State) (u : Sub),
    s.powered R.SEQ_FAIL_CTRL = true →
    s.is R.SEQ_FAIL_STAT_DUMP_BUSY = false →
    Answers (.failDump u) s (fun t => t.seq.fail.dump = s.seq.fail.stored ∧ t.is R.SEQ_FAIL_STAT_DUMP_BUSY = true ∧ RegsKept s t (fun a => a = R.SEQ_FAIL_STAT) ∧ t.mem = s.mem)) ∧
  (∀ (s : State) (u : Sub),
    s.is R.SEQ_FAIL_STAT_DUMP_BUSY = true →
    s.seq.fail.dump = [] →
    Answers (.dumpDone u) s (fun t => t.is R.SEQ_FAIL_STAT_DUMP_BUSY = false ∧ t.is R.SEQ_FAIL_EVT_DUMP_DONE = true ∧ t.mem = s.mem)) ∧
  (∀ (s : State) (u : Sub) (n : Fin 256),
    s.powered R.SEQ_FAIL_CTRL = true →
    s.get R.SEQ_FAIL_CTRL_FWD_MAX ≠ n.val →
    ((s.atF u).set R.SEQ_FAIL_CTRL_FWD_MAX n.val).planCheck s.mode = none →
    Answers (.fwdMaxWrite u n) s (fun t => t.get R.SEQ_FAIL_CTRL_FWD_MAX = n.val ∧ t.get R.TIME_PLAN_STAT_RESULT = 1 ∧ t.get R.TIME_PLAN_STAT_REASON = 0 ∧ t.plan.lastId = s.plan.lastId + 1 ∧ t.mem = s.mem)) ∧
  (∀ (s : State),
    s.powered R.SEQ_FAIL_CTRL = true →
    Answers .seqFailClrStats s (fun t => t.val R.SEQ_FAIL_UNFWD = 0 ∧ RegsKept s t (fun a => a = R.SEQ_FAIL_UNFWD) ∧ t.mem = s.mem))

/-- The vector opcodes that choose the next address (R134, R136, R138, R139, R140, R144). -/
def Obligations.VectorFlow : Prop :=
  (∀ (s : State) (u : Sub) (v : Vec),
    (s.atSeq u).dispatchVec (fun o => o == 0x00) = some v →
    (s.atSeq u).seq.next < 2 ^ 40 →
    Answers (.opNext u) s (fun t => t.val64 R.SEQ_VADDR_LO = (s.atSeq u).seq.next ∧ t.seq.next = succAddr (s.atSeq u).seq.next ∧ (t.seq.pipe.getLast?.map (fun i => (i.addr, i.chars, i.tset, i.reps))) = some ((s.atSeq u).seq.next, v.chars, v.tset % 64, 1) ∧ t.mem = s.mem ∧ RegsKept (s.atSeq u) t (fun a => a = R.SEQ_VADDR_LO ∨ a = R.SEQ_VADDR_HI ∨ a = R.SEQ_STAT))) ∧
  (∀ (s : State) (u : Sub) (v : Vec),
    (s.atSeq u).dispatchVec (fun o => o == 0x01) = some v →
    (s.atSeq u).seq.next < 2 ^ 40 →
    (s.atSeq u).seq.stepping = false →
    (s.atSeq u).seq.left = 0 →
    Answers (.opRepeat u) s (fun t => t.val64 R.SEQ_VADDR_LO = (s.atSeq u).seq.next ∧ t.seq.next = succAddr (s.atSeq u).seq.next ∧ (t.seq.pipe.getLast?.map (fun i => (i.addr, i.chars, i.tset, i.reps))) = some ((s.atSeq u).seq.next, v.chars, v.tset % 64, max 1 v.opb) ∧ t.mem = s.mem ∧ RegsKept (s.atSeq u) t (fun a => a = R.SEQ_VADDR_LO ∨ a = R.SEQ_VADDR_HI ∨ a = R.SEQ_STAT))) ∧
  (∀ (s : State) (u : Sub) (v : Vec),
    (s.atSeq u).dispatchVec (fun o => o == 0x02) = some v →
    (s.atSeq u).seq.next < 2 ^ 40 →
    (s.atSeq u).seq.byLoop = false →
    (s.atSeq u).seq.loops.length < 16 →
    Answers (.opLoop u) s (fun t => t.val64 R.SEQ_VADDR_LO = (s.atSeq u).seq.next ∧ t.seq.next = succAddr (s.atSeq u).seq.next ∧ (t.seq.pipe.getLast?.map (fun i => (i.addr, i.chars, i.tset, i.reps))) = some ((s.atSeq u).seq.next, v.chars, v.tset % 64, 1) ∧ t.seq.loops = (s.atSeq u).seq.loops ++ [⟨(s.atSeq u).seq.next, max 1 v.opb, 0⟩] ∧ t.mem = s.mem ∧ RegsKept (s.atSeq u) t (fun a => a = R.SEQ_VADDR_LO ∨ a = R.SEQ_VADDR_HI ∨ a = R.SEQ_STAT))) ∧
  (∀ (s : State) (u : Sub) (v : Vec),
    (s.atSeq u).dispatchVec (fun o => o == 0x02) = some v →
    (s.atSeq u).seq.next < 2 ^ 40 →
    (s.atSeq u).seq.byLoop = true →
    Answers (.opLoop u) s (fun t => t.val64 R.SEQ_VADDR_LO = (s.atSeq u).seq.next ∧ t.seq.next = succAddr (s.atSeq u).seq.next ∧ (t.seq.pipe.getLast?.map (fun i => (i.addr, i.chars, i.tset, i.reps))) = some ((s.atSeq u).seq.next, v.chars, v.tset % 64, 1) ∧ t.seq.loops = (s.atSeq u).seq.loops ∧ t.mem = s.mem ∧ RegsKept (s.atSeq u) t (fun a => a = R.SEQ_VADDR_LO ∨ a = R.SEQ_VADDR_HI ∨ a = R.SEQ_STAT))) ∧
  (∀ (s : State) (u : Sub) (v : Vec) (fs : List LoopFrame) (f : LoopFrame),
    (s.atSeq u).dispatchVec (fun o => o == 0x03) = some v →
    (s.atSeq u).seq.next < 2 ^ 40 →
    (s.atSeq u).seq.loops = fs ++ [f] →
    1 < f.rem →
    Answers (.opEndloop u) s (fun t => t.val64 R.SEQ_VADDR_LO = (s.atSeq u).seq.next ∧ t.seq.next = f.addr ∧ (t.seq.pipe.getLast?.map (fun i => (i.addr, i.chars, i.tset, i.reps))) = some ((s.atSeq u).seq.next, v.chars, v.tset % 64, 1) ∧ t.seq.loops = fs ++ [⟨f.addr, f.rem - 1, (f.idx + 1) % 2 ^ 32⟩] ∧ t.mem = s.mem ∧ RegsKept (s.atSeq u) t (fun a => a = R.SEQ_VADDR_LO ∨ a = R.SEQ_VADDR_HI ∨ a = R.SEQ_STAT))) ∧
  (∀ (s : State) (u : Sub) (v : Vec) (fs : List LoopFrame) (f : LoopFrame),
    (s.atSeq u).dispatchVec (fun o => o == 0x03) = some v →
    (s.atSeq u).seq.next < 2 ^ 40 →
    (s.atSeq u).seq.loops = fs ++ [f] →
    f.rem ≤ 1 →
    Answers (.opEndloop u) s (fun t => t.val64 R.SEQ_VADDR_LO = (s.atSeq u).seq.next ∧ t.seq.next = succAddr (s.atSeq u).seq.next ∧ (t.seq.pipe.getLast?.map (fun i => (i.addr, i.chars, i.tset, i.reps))) = some ((s.atSeq u).seq.next, v.chars, v.tset % 64, 1) ∧ t.seq.loops = fs ∧ t.mem = s.mem ∧ RegsKept (s.atSeq u) t (fun a => a = R.SEQ_VADDR_LO ∨ a = R.SEQ_VADDR_HI ∨ a = R.SEQ_STAT))) ∧
  (∀ (s : State) (u : Sub) (v : Vec),
    (s.atSeq u).dispatchVec (fun o => o == 0x04) = some v →
    (s.atSeq u).seq.next < 2 ^ 40 →
    Answers (.opJump u) s (fun t => t.val64 R.SEQ_VADDR_LO = (s.atSeq u).seq.next ∧ t.seq.next = v.opc % 2 ^ 40 ∧ (t.seq.pipe.getLast?.map (fun i => (i.addr, i.chars, i.tset, i.reps))) = some ((s.atSeq u).seq.next, v.chars, v.tset % 64, 1) ∧ t.mem = s.mem ∧ RegsKept (s.atSeq u) t (fun a => a = R.SEQ_VADDR_LO ∨ a = R.SEQ_VADDR_HI ∨ a = R.SEQ_STAT))) ∧
  (∀ (s : State) (u : Sub) (v : Vec),
    (s.atSeq u).dispatchVec (fun o => o == 0x05) = some v →
    (s.atSeq u).seq.next < 2 ^ 40 →
    (s.atSeq u).seq.calls.length < 16 →
    Answers (.opCall u) s (fun t => t.val64 R.SEQ_VADDR_LO = (s.atSeq u).seq.next ∧ t.seq.next = v.opc % 2 ^ 40 ∧ (t.seq.pipe.getLast?.map (fun i => (i.addr, i.chars, i.tset, i.reps))) = some ((s.atSeq u).seq.next, v.chars, v.tset % 64, 1) ∧ t.seq.calls = (s.atSeq u).seq.calls ++ [succAddr (s.atSeq u).seq.next] ∧ t.mem = s.mem ∧ RegsKept (s.atSeq u) t (fun a => a = R.SEQ_VADDR_LO ∨ a = R.SEQ_VADDR_HI ∨ a = R.SEQ_STAT))) ∧
  (∀ (s : State) (u : Sub) (v : Vec) (cs : List Nat) (a : Nat),
    (s.atSeq u).dispatchVec (fun o => o == 0x06) = some v →
    (s.atSeq u).seq.next < 2 ^ 40 →
    (s.atSeq u).seq.calls = cs ++ [a] →
    Answers (.opRet u) s (fun t => t.val64 R.SEQ_VADDR_LO = (s.atSeq u).seq.next ∧ t.seq.next = a % 2 ^ 40 ∧ (t.seq.pipe.getLast?.map (fun i => (i.addr, i.chars, i.tset, i.reps))) = some ((s.atSeq u).seq.next, v.chars, v.tset % 64, 1) ∧ t.seq.calls = cs ∧ t.mem = s.mem ∧ RegsKept (s.atSeq u) t (fun a => a = R.SEQ_VADDR_LO ∨ a = R.SEQ_VADDR_HI ∨ a = R.SEQ_STAT))) ∧
  (∀ (s : State) (u : Sub) (v : Vec),
    (s.atSeq u).dispatchVec (fun o => o == 0x0D) = some v →
    (s.atSeq u).seq.next < 2 ^ 40 →
    Answers (.opHalt u) s (fun t => t.val64 R.SEQ_VADDR_LO = (s.atSeq u).seq.next ∧ t.seq.next = succAddr (s.atSeq u).seq.next ∧ (t.seq.pipe.getLast?.map (fun i => (i.addr, i.chars, i.tset, i.reps))) = some ((s.atSeq u).seq.next, v.chars, v.tset % 64, 1) ∧ t.seq.ending = some (seqHalted, 0x01) ∧ t.mem = s.mem)) ∧
  (∀ (s : State) (u : Sub) (v : Vec),
    (s.atSeq u).dispatchVec (fun o => 0x0E ≤ o) = some v →
    (s.atSeq u).seq.next < 2 ^ 40 →
    (s.atSeq u).seq.pipe ≠ [] →
    Answers (.reservedOpcode u) s (fun t => t.val64 R.SEQ_VADDR_LO = (s.atSeq u).seq.next ∧ t.seq.next = (s.atSeq u).seq.next ∧ t.seq.pipe = (s.atSeq u).seq.pipe ∧ t.seq.ending = some (seqHalted, 0x08) ∧ t.mem = s.mem)) ∧
  (∀ (s : State) (u : Sub) (v : Vec),
    (s.atSeq u).dispatchVec (fun o => 0x0E ≤ o) = some v →
    (s.atSeq u).seq.next < 2 ^ 40 →
    (s.atSeq u).seq.pipe = [] →
    (s.atSeq u).seq.endAt ≤ (s.atSeq u).fU →
    Answers (.reservedOpcode u) s (fun t => t.get R.SEQ_STAT_STATE = 3 ∧ t.val R.SEQ_HALT_CAUSE = 0x08 ∧ t.is R.SEQ_EVT_HALTED = true ∧ t.val64 R.SEQ_VADDR_LO = (s.atSeq u).seq.next ∧ t.mem = s.mem))

/-- The vector opcodes that wait, match, synchronise, signal and call a routine (R134, R135, R137, R141, R142, R143, R160). -/
def Obligations.VectorConditions : Prop :=
  (∀ (s : State) (u : Sub) (v : Vec),
    (s.atSeq u).dispatchVec (fun o => o == 0x07) = some v →
    (s.atSeq u).seq.next < 2 ^ 40 →
    Answers (.opWaitTrig u) s (fun t => t.val64 R.SEQ_VADDR_LO = (s.atSeq u).seq.next ∧ t.seq.next = succAddr (s.atSeq u).seq.next ∧ (t.seq.pipe.getLast?.map (fun i => (i.addr, i.chars, i.tset, i.reps))) = some ((s.atSeq u).seq.next, v.chars, v.tset % 64, 1) ∧ t.seq.inWait = true ∧ t.seq.fired = 0 ∧ t.mem = s.mem)) ∧
  (∀ (s : State) (u : Sub) (v : Vec),
    (s.atSeq u).atDispatch = true →
    (s.atSeq u).seq.inWait = true →
    (s.atSeq u).seq.left = 0 →
    (s.atSeq u).seq.cur = some v →
    Nat.land (s.atSeq u).seq.fired v.opa ≠ 0 →
    Answers (.opWaitTrig u) s (fun t => t.seq.inWait = false ∧ t.seq.next = (s.atSeq u).seq.next % 2 ^ 40 ∧ t.seq.pipe = (s.atSeq u).seq.pipe ∧ t.mem = s.mem)) ∧
  (∀ (s : State) (u : Sub) (v : Vec),
    (s.atSeq u).atDispatch = true →
    (s.atSeq u).seq.inWait = true →
    (s.atSeq u).seq.left = 0 →
    (s.atSeq u).seq.cur = some v →
    Nat.land (s.atSeq u).seq.fired v.opa = 0 →
    v.opb = 0 ∨ (s.atSeq u).seq.issued < v.opb →
    Answers (.opWaitTrig u) s (fun t => t.seq.inWait = true ∧ (t.seq.pipe.getLast?.map (fun i => (i.addr, i.chars, i.tset, i.reps))) = some ((s.atSeq u).val64 R.SEQ_VADDR_LO, v.chars, v.tset % 64, 1) ∧ t.mem = s.mem)) ∧
  (∀ (s : State) (u : Sub) (v : Vec),
    (s.atSeq u).atDispatch = true →
    (s.atSeq u).seq.inWait = true →
    (s.atSeq u).seq.left = 0 →
    (s.atSeq u).seq.cur = some v →
    v.opb ≠ 0 →
    v.opb ≤ (s.atSeq u).seq.issued →
    Nat.land (s.atSeq u).seq.fired v.opa = 0 →
    Answers (.waitTimeout u) s (fun t => t.is R.SEQ_EVT_WAIT_TIMEOUT = true ∧ t.seq.inWait = false ∧ t.seq.next = (if v.opc / 2 ^ 63 = 1 then v.opc else (s.atSeq u).seq.next) % 2 ^ 40 ∧ t.mem = s.mem)) ∧
  (∀ (s : State) (u : Sub) (v : Vec),
    (s.atSeq u).dispatchVec (fun o => o == 0x08) = some v →
    (s.atSeq u).seq.next < 2 ^ 40 →
    (s.atSeq u).seq.matching = false →
    Answers (.opMatch u) s (fun t => t.val64 R.SEQ_VADDR_LO = (s.atSeq u).seq.next ∧ t.seq.next = succAddr (s.atSeq u).seq.next ∧ (t.seq.pipe.getLast?.map (fun i => (i.addr, i.chars, i.tset, i.reps))) = some ((s.atSeq u).seq.next, v.chars, v.tset % 64, 1) ∧ t.seq.matching = true ∧ t.mem = s.mem)) ∧
  (∀ (s : State) (u : Sub) (v : Vec),
    (s.atSeq u).atDispatch = true →
    (s.atSeq u).seq.matching = true →
    (s.atSeq u).seq.left = 0 →
    (s.atSeq u).seq.cur = some v →
    (s.atSeq u).matchPassed = true →
    Answers (.opMatch u) s (fun t => t.seq.matching = false ∧ t.rd R.SEQ_MATCH_REPS = BitVec.ofNat 32 (s.atSeq u).seq.issued ∧ t.seq.next = (s.atSeq u).seq.next ∧ t.mem = s.mem ∧ RegsKept (s.atSeq u) t (fun a => a = R.SEQ_MATCH_REPS))) ∧
  (∀ (s : State) (u : Sub) (v : Vec),
    (s.atSeq u).atDispatch = true →
    (s.atSeq u).seq.matching = true →
    (s.atSeq u).matchFailed = true →
    (s.atSeq u).seq.cur = some v →
    max 1 v.opb ≤ (s.atSeq u).seq.issued →
    v.opa % 2 = 0 →
    Answers (.matchLimit u) s (fun t => t.is R.SEQ_EVT_MATCH_LIMIT = true ∧ t.seq.matching = false ∧ t.rd R.SEQ_MATCH_REPS = BitVec.ofNat 32 (s.atSeq u).seq.issued ∧ t.mem = s.mem)) ∧
  (∀ (s : State) (u : Sub) (v : Vec),
    (s.atSeq u).dispatchVec (fun o => o == 0x09) = some v →
    (s.atSeq u).seq.next < 2 ^ 40 →
    Answers (.opSyncTick u) s (fun t => t.val64 R.SEQ_VADDR_LO = (s.atSeq u).seq.next ∧ t.seq.next = succAddr (s.atSeq u).seq.next ∧ (t.seq.pipe.getLast?.map (fun i => (i.addr, i.chars, i.tset, i.reps))) = some ((s.atSeq u).seq.next, v.chars, v.tset % 64, 1) ∧ (t.seq.pipe.getLast?.bind Inst.align) = some (v.opa % 4096) ∧ t.mem = s.mem)) ∧
  (∀ (s : State) (u : Sub) (v : Vec),
    (s.atSeq u).dispatchVec (fun o => o == 0x0A) = some v →
    (s.atSeq u).seq.next < 2 ^ 40 →
    (s.atSeq u).seq.pendSet = 0 →
    (s.atSeq u).seq.pendClr = 0 →
    Answers (.opFlag u) s (fun t => t.val64 R.SEQ_VADDR_LO = (s.atSeq u).seq.next ∧ t.seq.next = succAddr (s.atSeq u).seq.next ∧ (t.seq.pipe.getLast?.map (fun i => (i.addr, i.chars, i.tset, i.reps))) = some ((s.atSeq u).seq.next, v.chars, v.tset % 64, 1) ∧ (t.seq.pipe.getLast?.map (fun i => (i.fset, i.fclr, i.fevt))) = some (v.opa % 256, v.opa / 256, v.opb % 2 == 1) ∧ t.mem = s.mem ∧ RegsKept (s.atSeq u) t (fun a => a = R.SEQ_VADDR_LO ∨ a = R.SEQ_VADDR_HI ∨ a = R.SEQ_STAT))) ∧
  (∀ (s : State) (u : Sub) (v : Vec),
    (s.atSeq u).dispatchVec (fun o => o == 0x0B) = some v →
    (s.atSeq u).seq.next < 2 ^ 40 →
    (s.atSeq u).seq.pendStep = 0 →
    Answers (.opGenStep u) s (fun t => t.val64 R.SEQ_VADDR_LO = (s.atSeq u).seq.next ∧ t.seq.next = succAddr (s.atSeq u).seq.next ∧ (t.seq.pipe.getLast?.map (fun i => (i.addr, i.chars, i.tset, i.reps))) = some ((s.atSeq u).seq.next, v.chars, v.tset % 64, 1) ∧ (t.seq.pipe.getLast?.map Inst.gstep) = some (v.opc % 2 ^ 48) ∧ t.mem = s.mem ∧ RegsKept (s.atSeq u) t (fun a => a = R.SEQ_VADDR_LO ∨ a = R.SEQ_VADDR_HI ∨ a = R.SEQ_STAT))) ∧
  (∀ (s : State) (u : Sub) (v : Vec),
    (s.atSeq u).dispatchVec (fun o => o == 0x0C) = some v →
    (s.atSeq u).seq.next < 2 ^ 40 →
    0xC000 ≤ v.opb % 65536 →
    Answers (.opCustom u) s (fun t => t.val64 R.SEQ_VADDR_LO = (s.atSeq u).seq.next ∧ t.is R.SEQ_STAT_CUST_RUN = true ∧ t.seq.mpc = v.opb % 65536 ∧ t.seq.micro = [] ∧ t.seq.next = succAddr (s.atSeq u).seq.next ∧ t.mem = s.mem ∧ RegsKept (s.atSeq u) t (fun a => a = R.SEQ_VADDR_LO ∨ a = R.SEQ_VADDR_HI ∨ a = R.SEQ_STAT))) ∧
  (∀ (s : State) (u : Sub) (v : Vec),
    (s.atSeq u).dispatchVec (fun o => o == 0x0C) = some v →
    (s.atSeq u).seq.next < 2 ^ 40 →
    v.opb % 65536 < 0xC000 →
    (s.atSeq u).seq.pipe ≠ [] →
    Answers (.opCustom u) s (fun t => t.seq.ending = some (seqHalted, 0x09) ∧ t.seq.pipe = (s.atSeq u).seq.pipe ∧ t.seq.next = (s.atSeq u).seq.next ∧ t.mem = s.mem)) ∧
  (∀ (s : State) (obs : List PortObs) (ilim : List Port) (i : Inst) (r : List Inst),
    s.seq.pipe = i :: r →
    s.headStart i < s.nextTickU →
    Answers (.instanceStart obs ilim) s (fun t => t.seq.lastStart = s.headStart i ∧ t.seq.lastAddr = i.addr)) ∧
  (∀ (s : State) (u : Sub),
    (s.atSeq u).seqState = seqRunning →
    (s.atSeq u).is R.SEQ_STAT_CUST_RUN = true →
    (s.atSeq u).seq.pipe = [] →
    (s.atSeq u).seq.fresh = false →
    (s.atSeq u).seq.endAt ≤ (s.atSeq u).fU + lead64 →
    (s.atSeq u).seq.ending = none →
    Answers (.underrun u) s (fun t => t.val R.SEQ_UNDERRUN = min ((s.atSeq u).val R.SEQ_UNDERRUN + 1) (2 ^ 32 - 1) ∧ t.is R.SEQ_EVT_UNDERRUN = true ∧ t.seq.fresh = true ∧ t.mem = s.mem ∧ RegsKept (s.atSeq u) t (fun a => a = R.SEQ_UNDERRUN ∨ a = R.SEQ_EVT)))

/-- Start, pause, step, stop, jump, resume, the window and overdrafts (R145, R146, R147, R149, R151, R155, R159, R174, R194). -/
def Obligations.SequencerControl : Prop :=
  (∀ (s : State) (u : Sub),
    (s.atSeq u).powered R.SEQ_CTRL = true →
    (s.atSeq u).seqState = seqIdle ∨ (s.atSeq u).seqState = seqHalted →
    (s.atSeq u).mayRun = true →
    Answers (.seqStart u) s (fun t => t.seqState = seqRunning ∧ t.seq.loops = [] ∧ t.seq.calls = [] ∧ t.seq.next = (s.atSeq u).addrReg R.SEQ_START_ADDR_LO ∧ t.val64 R.SEQ_VCOUNT_LO = 0 ∧ t.seq.startAt = some ((s.atSeq u).boundaryFrom 192) ∧ t.mem = s.mem)) ∧
  (∀ (s : State) (u : Sub),
    (s.atSeq u).powered R.SEQ_CTRL = true →
    ¬ (((s.atSeq u).seqState = seqIdle ∨ (s.atSeq u).seqState = seqHalted) ∧ (s.atSeq u).mayRun = true) →
    Answers (.seqStart u) s (fun t => t.is R.SEQ_EVT_REFUSED = true ∧ t.seq = (s.atSeq u).seq ∧ t.mem = s.mem ∧ RegsKept (s.atSeq u) t (fun a => a = R.SEQ_EVT))) ∧
  (∀ (s : State) (u : Sub),
    (s.atSeq u).powered R.SEQ_CTRL = true →
    Answers (.seqPause u) s (fun t => t.is R.SEQ_CTRL_PAUSE = true ∧ t.seq = (s.atSeq u).seq ∧ t.mem = s.mem ∧ RegsKept (s.atSeq u) t (fun a => a = R.SEQ_CTRL))) ∧
  (∀ (s : State) (u : Sub),
    (s.atSeq u).powered R.SEQ_CTRL = true →
    (s.atSeq u).seqState = seqPaused →
    Answers (.pauseClear u) s (fun t => t.is R.SEQ_CTRL_PAUSE = false ∧ t.seqState = seqRunning ∧ t.mem = s.mem ∧ RegsKept (s.atSeq u) t (fun a => a = R.SEQ_CTRL ∨ a = R.SEQ_STAT))) ∧
  (∀ (s : State) (u : Sub),
    (s.atSeq u).powered R.SEQ_CTRL = true →
    (s.atSeq u).seqState = seqPaused →
    Answers (.seqStep u) s (fun t => t.seq.stepping = true ∧ t.seqState = seqRunning ∧ t.mem = s.mem ∧ RegsKept (s.atSeq u) t (fun a => a = R.SEQ_STAT))) ∧
  (∀ (s : State) (u : Sub),
    (s.atSeq u).powered R.SEQ_CTRL = true →
    (s.atSeq u).seqState ≠ seqPaused →
    Answers (.seqStep u) s (fun t => t.is R.SEQ_EVT_REFUSED = true ∧ t.mem = s.mem ∧ RegsKept (s.atSeq u) t (fun a => a = R.SEQ_EVT))) ∧
  (∀ (s : State) (u : Sub),
    (s.atSeq u).powered R.SEQ_CTRL = true →
    (s.atSeq u).seqState = seqRunning ∨ (s.atSeq u).seqState = seqPaused →
    (s.atSeq u).seq.stopReq = none →
    Answers (.seqStop u) s (fun t => t.seq.stopReq = some 0x02 ∧ t.mem = s.mem ∧ t.regs = (s.atSeq u).regs)) ∧
  (∀ (s : State) (u : Sub),
    (s.atSeq u).powered R.SEQ_CTRL = true →
    Answers (.hostJump u) s (fun t => t.seq.jumpReq = true ∧ t.mem = s.mem ∧ t.regs = (s.atSeq u).regs)) ∧
  (∀ (s : State) (u : Sub) (c : Nat),
    (s.atSeq u).atVectorPoint = true →
    (s.atSeq u).seq.stopReq = some c →
    (s.atSeq u).seqState = seqRunning ∨ (s.atSeq u).seqState = seqPaused →
    (s.atSeq u).seq.pipe = [] →
    (s.atSeq u).seq.endAt ≤ (s.atSeq u).fU →
    c ≠ 0x0F →
    c ≠ 0x12 →
    c < 2 ^ 32 →
    Answers (.vectorRequestTaken u) s (fun t => t.seqState = seqHalted ∧ t.val R.SEQ_HALT_CAUSE = c ∧ t.seq.stopReq = none ∧ t.mem = s.mem)) ∧
  (∀ (s : State) (u : Sub),
    (s.atSeq u).atVectorPoint = true →
    (s.atSeq u).seq.stopReq = none →
    (s.atSeq u).seqState = seqRunning →
    (s.atSeq u).is R.SEQ_CTRL_PAUSE = true →
    (s.atSeq u).seq.stepping = false →
    (s.atSeq u).seq.pipe = [] →
    (s.atSeq u).seq.endAt ≤ (s.atSeq u).fU →
    Answers (.vectorRequestTaken u) s (fun t => t.seqState = seqPaused ∧ t.is R.SEQ_EVT_PAUSED = true ∧ t.mem = s.mem)) ∧
  (∀ (s : State) (u : Sub),
    (s.atSeq u).atVectorPoint = true →
    (s.atSeq u).seq.stopReq = none →
    (s.atSeq u).seqState = seqRunning →
    (s.atSeq u).is R.SEQ_CTRL_PAUSE = false →
    (s.atSeq u).seq.jumpReq = true →
    (s.atSeq u).seq.left = 0 →
    (s.atSeq u).seq.inWait = false →
    (s.atSeq u).seq.matching = false →
    Answers (.vectorRequestTaken u) s (fun t => t.seq.next = (s.atSeq u).addrReg R.SEQ_JUMP_ADDR_LO ∧ t.seq.jumpReq = false ∧ t.mem = s.mem ∧ RegsKept (s.atSeq u) t (fun a => a = R.SEQ_STAT))) ∧
  (∀ (s : State) (u : Sub),
    (s.atSeq u).powered R.SEQ_CTRL = true →
    (s.atSeq u).seqState = seqHalted →
    noResume ((s.atSeq u).val R.SEQ_HALT_CAUSE) = false →
    (s.atSeq u).get R.SEQ_STAT_RSTR_STATE = 0 →
    (s.atSeq u).mayRun = true →
    Answers (.seqResume u) s (fun t => t.seqState = seqRunning ∧ t.seq.next = (s.atSeq u).addrReg R.SEQ_VADDR_LO ∧ t.is R.SEQ_STAT_CUST_RUN = false ∧ t.mem = s.mem ∧ RegsKept (s.atSeq u) t (fun a => a = R.SEQ_STAT))) ∧
  (∀ (s : State) (u : Sub),
    (s.atSeq u).powered R.SEQ_CTRL = true →
    (s.atSeq u).winBad = false →
    Answers (.winApply u) s (fun t => t.seq.winBase = (s.atSeq u).val R.SEQ_WIN_BASE ∧ t.seq.winCount = (s.atSeq u).val R.SEQ_WIN_COUNT ∧ t.seq.frames = [] ∧ t.mem = s.mem ∧ t.regs = (s.atSeq u).regs)) ∧
  (∀ (s : State) (u : Sub),
    (s.atSeq u).powered R.SEQ_CTRL = true →
    (s.atSeq u).winBad = true →
    Answers (.winApply u) s (fun t => t.is R.SEQ_EVT_WIN_CFG_ERR = true ∧ t.seq = (s.atSeq u).seq ∧ t.mem = s.mem ∧ RegsKept (s.atSeq u) t (fun a => a = R.SEQ_EVT))) ∧
  (∀ (s : State),
    s.powered R.SEQ_CTRL = true →
    Answers .seqClrStats s (fun t => t.val R.SEQ_REFILL_REJ = 0 ∧ t.val R.SEQ_UNDERRUN = 0 ∧ t.val R.SEQ_OD_COUNT = 0 ∧ t.mem = s.mem ∧ RegsKept s t (fun a => a = R.SEQ_REFILL_REJ ∨ a = R.SEQ_UNDERRUN ∨ a = R.SEQ_OD_COUNT))) ∧
  (∀ (s : State) (u : Sub),
    (s.atSeq u).seqState = seqRunning →
    (s.atSeq u).is R.SEQ_STAT_OVERDRAFT = false →
    (s.atSeq u).seq.ending = none →
    (s.atSeq u).is R.SEQ_STAT_CUST_RUN = false →
    (s.atSeq u).seq.left = 0 →
    (s.atSeq u).seq.inWait = false →
    (s.atSeq u).seq.matching = false →
    (s.atSeq u).seq.stopReq = none →
    (s.atSeq u).resident (s.atSeq u).seq.next = false →
    (s.atSeq u).issueTooLate = true →
    (s.atSeq u).is R.SEQ_CTRL_OD_ACTION = false →
    Answers (.seqOverdraft u) s (fun t => t.is R.SEQ_STAT_OVERDRAFT = true ∧ t.is R.SEQ_EVT_OVERDRAFT = true ∧ t.val R.SEQ_OD_COUNT = min ((s.atSeq u).val R.SEQ_OD_COUNT + 1) (2 ^ 32 - 1) ∧ t.seqState = seqRunning ∧ t.mem = s.mem)) ∧
  (∀ (s : State) (u : Sub),
    (s.atSeq u).is R.USTORE_STAT_CUST_PENDING = true →
    (s.atSeq u).is R.SEQ_STAT_CUST_RUN = false →
    Answers (.custSwitch u) s (fun t => t.get R.USTORE_STAT_CUST_BANK = 1 - (s.atSeq u).get R.USTORE_STAT_CUST_BANK ∧ t.is R.USTORE_STAT_CUST_PENDING = false ∧ t.is R.USTORE_EVT_CUST_SWITCH = true ∧ t.mem = s.mem))

/-- The micro-ops that compute a micro-register (R161, R162, R163). -/
def Obligations.MicroArithmetic : Prop :=
  (∀ (s : State) (u : Sub) (w : MicroWord),
    (s.atSeq u).microRuns = true →
    (s.atSeq u).seq.stalled = false →
    (s.atSeq u).microNow = w →
    w.mop = 0x00 →
    0xC000 ≤ (s.atSeq u).seq.mpc →
    (s.atSeq u).seq.mpc < 0xFFFF →
    Answers (.uNop u) s (fun t => t.regs = (s.atSeq u).regs ∧ t.seq.mpc = (s.atSeq u).seq.mpc + 1 ∧ t.mem = s.mem ∧ t.seq.pipe = (s.atSeq u).seq.pipe ∧ t.seq.next = (s.atSeq u).seq.next ∧ RegsKept (s.atSeq u) t (fun a => a = R.SEQ_UREG w.d))) ∧
  (∀ (s : State) (u : Sub) (w : MicroWord),
    (s.atSeq u).microRuns = true →
    (s.atSeq u).seq.stalled = false →
    (s.atSeq u).microNow = w →
    w.mop = 0x01 →
    0xC000 ≤ (s.atSeq u).seq.mpc →
    (s.atSeq u).seq.mpc < 0xFFFF →
    Answers (.uLdi u) s (fun t => t.ureg w.d = (if w.d = 0 then 0 else w.imm) ∧ t.seq.mpc = (s.atSeq u).seq.mpc + 1 ∧ t.mem = s.mem ∧ t.seq.pipe = (s.atSeq u).seq.pipe ∧ t.seq.next = (s.atSeq u).seq.next ∧ RegsKept (s.atSeq u) t (fun a => a = R.SEQ_UREG w.d))) ∧
  (∀ (s : State) (u : Sub) (w : MicroWord),
    (s.atSeq u).microRuns = true →
    (s.atSeq u).seq.stalled = false →
    (s.atSeq u).microNow = w →
    w.mop = 0x02 →
    0xC000 ≤ (s.atSeq u).seq.mpc →
    (s.atSeq u).seq.mpc < 0xFFFF →
    Answers (.uLdh u) s (fun t => t.ureg w.d = (if w.d = 0 then 0 else ((s.atSeq u).ureg w.d % 65536 + 65536 * w.imm) % 2 ^ 32) ∧ t.seq.mpc = (s.atSeq u).seq.mpc + 1 ∧ t.mem = s.mem ∧ t.seq.pipe = (s.atSeq u).seq.pipe ∧ t.seq.next = (s.atSeq u).seq.next ∧ RegsKept (s.atSeq u) t (fun a => a = R.SEQ_UREG w.d))) ∧
  (∀ (s : State) (u : Sub) (w : MicroWord),
    (s.atSeq u).microRuns = true →
    (s.atSeq u).seq.stalled = false →
    (s.atSeq u).microNow = w →
    w.mop = 0x03 →
    0xC000 ≤ (s.atSeq u).seq.mpc →
    (s.atSeq u).seq.mpc < 0xFFFF →
    Answers (.uAdd u) s (fun t => t.ureg w.d = (if w.d = 0 then 0 else ((s.atSeq u).ureg w.a + (s.atSeq u).opB w) % 2 ^ 32) ∧ t.seq.mpc = (s.atSeq u).seq.mpc + 1 ∧ t.mem = s.mem ∧ t.seq.pipe = (s.atSeq u).seq.pipe ∧ t.seq.next = (s.atSeq u).seq.next ∧ RegsKept (s.atSeq u) t (fun a => a = R.SEQ_UREG w.d))) ∧
  (∀ (s : State) (u : Sub) (w : MicroWord),
    (s.atSeq u).microRuns = true →
    (s.atSeq u).seq.stalled = false →
    (s.atSeq u).microNow = w →
    w.mop = 0x04 →
    0xC000 ≤ (s.atSeq u).seq.mpc →
    (s.atSeq u).seq.mpc < 0xFFFF →
    Answers (.uSub u) s (fun t => t.ureg w.d = (if w.d = 0 then 0 else ((s.atSeq u).ureg w.a + 2 ^ 32 - (s.atSeq u).opB w) % 2 ^ 32) ∧ t.seq.mpc = (s.atSeq u).seq.mpc + 1 ∧ t.mem = s.mem ∧ t.seq.pipe = (s.atSeq u).seq.pipe ∧ t.seq.next = (s.atSeq u).seq.next ∧ RegsKept (s.atSeq u) t (fun a => a = R.SEQ_UREG w.d))) ∧
  (∀ (s : State) (u : Sub) (w : MicroWord),
    (s.atSeq u).microRuns = true →
    (s.atSeq u).seq.stalled = false →
    (s.atSeq u).microNow = w →
    w.mop = 0x05 →
    0xC000 ≤ (s.atSeq u).seq.mpc →
    (s.atSeq u).seq.mpc < 0xFFFF →
    Answers (.uAnd u) s (fun t => t.ureg w.d = (if w.d = 0 then 0 else Nat.land ((s.atSeq u).ureg w.a) ((s.atSeq u).opB w) % 2 ^ 32) ∧ t.seq.mpc = (s.atSeq u).seq.mpc + 1 ∧ t.mem = s.mem ∧ t.seq.pipe = (s.atSeq u).seq.pipe ∧ t.seq.next = (s.atSeq u).seq.next ∧ RegsKept (s.atSeq u) t (fun a => a = R.SEQ_UREG w.d))) ∧
  (∀ (s : State) (u : Sub) (w : MicroWord),
    (s.atSeq u).microRuns = true →
    (s.atSeq u).seq.stalled = false →
    (s.atSeq u).microNow = w →
    w.mop = 0x06 →
    0xC000 ≤ (s.atSeq u).seq.mpc →
    (s.atSeq u).seq.mpc < 0xFFFF →
    Answers (.uOr u) s (fun t => t.ureg w.d = (if w.d = 0 then 0 else Nat.lor ((s.atSeq u).ureg w.a) ((s.atSeq u).opB w) % 2 ^ 32) ∧ t.seq.mpc = (s.atSeq u).seq.mpc + 1 ∧ t.mem = s.mem ∧ t.seq.pipe = (s.atSeq u).seq.pipe ∧ t.seq.next = (s.atSeq u).seq.next ∧ RegsKept (s.atSeq u) t (fun a => a = R.SEQ_UREG w.d))) ∧
  (∀ (s : State) (u : Sub) (w : MicroWord),
    (s.atSeq u).microRuns = true →
    (s.atSeq u).seq.stalled = false →
    (s.atSeq u).microNow = w →
    w.mop = 0x07 →
    0xC000 ≤ (s.atSeq u).seq.mpc →
    (s.atSeq u).seq.mpc < 0xFFFF →
    Answers (.uXor u) s (fun t => t.ureg w.d = (if w.d = 0 then 0 else Nat.xor ((s.atSeq u).ureg w.a) ((s.atSeq u).opB w) % 2 ^ 32) ∧ t.seq.mpc = (s.atSeq u).seq.mpc + 1 ∧ t.mem = s.mem ∧ t.seq.pipe = (s.atSeq u).seq.pipe ∧ t.seq.next = (s.atSeq u).seq.next ∧ RegsKept (s.atSeq u) t (fun a => a = R.SEQ_UREG w.d))) ∧
  (∀ (s : State) (u : Sub) (w : MicroWord),
    (s.atSeq u).microRuns = true →
    (s.atSeq u).seq.stalled = false →
    (s.atSeq u).microNow = w →
    w.mop = 0x08 →
    0xC000 ≤ (s.atSeq u).seq.mpc →
    (s.atSeq u).seq.mpc < 0xFFFF →
    Answers (.uShl u) s (fun t => t.ureg w.d = (if w.d = 0 then 0 else ((s.atSeq u).ureg w.a * 2 ^ ((s.atSeq u).opB w % 32)) % 2 ^ 32) ∧ t.seq.mpc = (s.atSeq u).seq.mpc + 1 ∧ t.mem = s.mem ∧ t.seq.pipe = (s.atSeq u).seq.pipe ∧ t.seq.next = (s.atSeq u).seq.next ∧ RegsKept (s.atSeq u) t (fun a => a = R.SEQ_UREG w.d))) ∧
  (∀ (s : State) (u : Sub) (w : MicroWord),
    (s.atSeq u).microRuns = true →
    (s.atSeq u).seq.stalled = false →
    (s.atSeq u).microNow = w →
    w.mop = 0x09 →
    0xC000 ≤ (s.atSeq u).seq.mpc →
    (s.atSeq u).seq.mpc < 0xFFFF →
    Answers (.uShr u) s (fun t => t.ureg w.d = (if w.d = 0 then 0 else ((s.atSeq u).ureg w.a / 2 ^ ((s.atSeq u).opB w % 32)) % 2 ^ 32) ∧ t.seq.mpc = (s.atSeq u).seq.mpc + 1 ∧ t.mem = s.mem ∧ t.seq.pipe = (s.atSeq u).seq.pipe ∧ t.seq.next = (s.atSeq u).seq.next ∧ RegsKept (s.atSeq u) t (fun a => a = R.SEQ_UREG w.d))) ∧
  (∀ (s : State) (u : Sub) (w : MicroWord),
    (s.atSeq u).microRuns = true →
    (s.atSeq u).seq.stalled = false →
    (s.atSeq u).microNow = w →
    w.mop = 0x0A →
    0xC000 ≤ (s.atSeq u).seq.mpc →
    (s.atSeq u).seq.mpc < 0xFFFF →
    Answers (.uRds u) s (fun t => t.ureg w.d = (if w.d = 0 then 0 else (s.atSeq u).special (w.imm % 256) % 2 ^ 32) ∧ t.seq.mpc = (s.atSeq u).seq.mpc + 1 ∧ t.mem = s.mem ∧ t.seq.pipe = (s.atSeq u).seq.pipe ∧ t.seq.next = (s.atSeq u).seq.next ∧ RegsKept (s.atSeq u) t (fun a => a = R.SEQ_UREG w.d))) ∧
  (∀ (s : State) (u : Sub) (w : MicroWord),
    (s.atSeq u).microRuns = true →
    (s.atSeq u).seq.stalled = false →
    (s.atSeq u).microNow = w →
    w.mop = 0x11 →
    0xC000 ≤ (s.atSeq u).seq.mpc →
    (s.atSeq u).seq.mpc < 0xFFFF →
    Answers (.uTrig u) s (fun t => t.ureg w.d = (if w.d = 0 then 0 else (s.atSeq u).combOutputs % 2 ^ 32) ∧ t.seq.mpc = (s.atSeq u).seq.mpc + 1 ∧ t.mem = s.mem ∧ t.seq.pipe = (s.atSeq u).seq.pipe ∧ t.seq.next = (s.atSeq u).seq.next ∧ RegsKept (s.atSeq u) t (fun a => a = R.SEQ_UREG w.d))) ∧
  (∀ (s : State) (u : Sub) (w : MicroWord) (r : Nat × Bool),
    (s.atSeq u).microRuns = true →
    (s.atSeq u).seq.stalled = false →
    (s.atSeq u).microNow = w →
    w.mop = 0x10 →
    0xC000 ≤ (s.atSeq u).seq.mpc →
    (s.atSeq u).seq.mpc < 0xFFFF →
    (s.atSeq u).stallOver w = true →
    (s.atSeq u).seq.lastResult = some r →
    Answers (.uCmpw u) s (fun t => t.ureg w.d = (if w.d = 0 then 0 else if r.2 then 1 else 0) ∧ t.seq.mpc = (s.atSeq u).seq.mpc + 1 ∧ t.mem = s.mem ∧ t.seq.pipe = (s.atSeq u).seq.pipe ∧ t.seq.next = (s.atSeq u).seq.next ∧ RegsKept (s.atSeq u) t (fun a => a = R.SEQ_UREG w.d)))

/-- The micro-ops that branch, call and move the loop and call stacks (R162, R165, R166). -/
def Obligations.MicroFlow : Prop :=
  (∀ (s : State) (u : Sub) (w : MicroWord),
    (s.atSeq u).microRuns = true →
    (s.atSeq u).seq.stalled = false →
    (s.atSeq u).microNow = w →
    w.mop = 0x0B →
    0xC000 ≤ (s.atSeq u).seq.mpc →
    (s.atSeq u).seq.mpc < 0xFFFF →
    brTaken w.x ((s.atSeq u).ureg w.a) = true →
    0xC000 ≤ w.imm →
    w.imm ≤ 0xFFFF →
    Answers (.uBr u) s (fun t => t.seq.mpc = w.imm ∧ t.mem = s.mem ∧ t.regs = (s.atSeq u).regs ∧ t.seq.pipe = (s.atSeq u).seq.pipe)) ∧
  (∀ (s : State) (u : Sub) (w : MicroWord),
    (s.atSeq u).microRuns = true →
    (s.atSeq u).seq.stalled = false →
    (s.atSeq u).microNow = w →
    w.mop = 0x0B →
    0xC000 ≤ (s.atSeq u).seq.mpc →
    (s.atSeq u).seq.mpc < 0xFFFF →
    brTaken w.x ((s.atSeq u).ureg w.a) = false →
    Answers (.uBr u) s (fun t => t.seq.mpc = (s.atSeq u).seq.mpc + 1 ∧ t.mem = s.mem ∧ t.regs = (s.atSeq u).regs ∧ t.seq.pipe = (s.atSeq u).seq.pipe)) ∧
  (∀ (s : State) (u : Sub) (w : MicroWord),
    (s.atSeq u).microRuns = true →
    (s.atSeq u).seq.stalled = false →
    (s.atSeq u).microNow = w →
    w.mop = 0x0C →
    0xC000 ≤ (s.atSeq u).seq.mpc →
    (s.atSeq u).seq.mpc < 0xFFFF →
    (s.atSeq u).seq.micro.length < 8 →
    0xC000 ≤ w.imm →
    w.imm ≤ 0xFFFF →
    Answers (.uMcall u) s (fun t => t.seq.mpc = w.imm ∧ t.seq.micro = (s.atSeq u).seq.micro ++ [(s.atSeq u).seq.mpc + 1] ∧ t.mem = s.mem ∧ t.regs = (s.atSeq u).regs ∧ t.seq.pipe = (s.atSeq u).seq.pipe)) ∧
  (∀ (s : State) (u : Sub) (w : MicroWord) (ms : List Nat) (a : Nat),
    (s.atSeq u).microRuns = true →
    (s.atSeq u).seq.stalled = false →
    (s.atSeq u).microNow = w →
    w.mop = 0x0D →
    0xC000 ≤ (s.atSeq u).seq.mpc →
    (s.atSeq u).seq.mpc < 0xFFFF →
    (s.atSeq u).seq.micro = ms ++ [a] →
    0xC000 ≤ a →
    a ≤ 0xFFFF →
    Answers (.uMret u) s (fun t => t.seq.mpc = a ∧ t.seq.micro = ms ∧ t.mem = s.mem ∧ t.regs = (s.atSeq u).regs ∧ t.seq.pipe = (s.atSeq u).seq.pipe)) ∧
  (∀ (s : State) (u : Sub) (w : MicroWord),
    (s.atSeq u).microRuns = true →
    (s.atSeq u).seq.stalled = false →
    (s.atSeq u).microNow = w →
    w.mop = 0x13 →
    0xC000 ≤ (s.atSeq u).seq.mpc →
    (s.atSeq u).seq.mpc < 0xFFFF →
    (s.atSeq u).seq.loops.length < 16 →
    Answers (.uLpush u) s (fun t => t.seq.loops = (s.atSeq u).seq.loops ++ [⟨(s.atSeq u).val64 R.SEQ_VADDR_LO, (s.atSeq u).ureg w.a, 0⟩] ∧ t.seq.mpc = (s.atSeq u).seq.mpc + 1 ∧ t.mem = s.mem ∧ t.regs = (s.atSeq u).regs ∧ t.seq.pipe = (s.atSeq u).seq.pipe)) ∧
  (∀ (s : State) (u : Sub) (w : MicroWord) (fs : List LoopFrame) (f : LoopFrame),
    (s.atSeq u).microRuns = true →
    (s.atSeq u).seq.stalled = false →
    (s.atSeq u).microNow = w →
    w.mop = 0x14 →
    0xC000 ≤ (s.atSeq u).seq.mpc →
    (s.atSeq u).seq.mpc < 0xFFFF →
    (s.atSeq u).seq.loops = fs ++ [f] →
    1 < f.rem →
    Answers (.uLend u) s (fun t => t.seq.next = f.addr ∧ t.seq.loops = fs ++ [⟨f.addr, f.rem - 1, (f.idx + 1) % 2 ^ 32⟩] ∧ t.seq.mpc = (s.atSeq u).seq.mpc + 1 ∧ t.mem = s.mem ∧ t.regs = (s.atSeq u).regs ∧ t.seq.pipe = (s.atSeq u).seq.pipe)) ∧
  (∀ (s : State) (u : Sub) (w : MicroWord) (fs : List LoopFrame) (f : LoopFrame),
    (s.atSeq u).microRuns = true →
    (s.atSeq u).seq.stalled = false →
    (s.atSeq u).microNow = w →
    w.mop = 0x14 →
    0xC000 ≤ (s.atSeq u).seq.mpc →
    (s.atSeq u).seq.mpc < 0xFFFF →
    (s.atSeq u).seq.loops = fs ++ [f] →
    f.rem ≤ 1 →
    Answers (.uLend u) s (fun t => t.seq.next = (s.atSeq u).seq.next ∧ t.seq.loops = fs ∧ t.seq.mpc = (s.atSeq u).seq.mpc + 1 ∧ t.mem = s.mem ∧ t.regs = (s.atSeq u).regs ∧ t.seq.pipe = (s.atSeq u).seq.pipe)) ∧
  (∀ (s : State) (u : Sub) (w : MicroWord),
    (s.atSeq u).microRuns = true →
    (s.atSeq u).seq.stalled = false →
    (s.atSeq u).microNow = w →
    w.mop = 0x15 →
    0xC000 ≤ (s.atSeq u).seq.mpc →
    (s.atSeq u).seq.mpc < 0xFFFF →
    (s.atSeq u).seq.calls.length < 16 →
    Answers (.uCpush u) s (fun t => t.seq.calls = (s.atSeq u).seq.calls ++ [succAddr ((s.atSeq u).val64 R.SEQ_VADDR_LO)] ∧ t.seq.mpc = (s.atSeq u).seq.mpc + 1 ∧ t.mem = s.mem ∧ t.regs = (s.atSeq u).regs ∧ t.seq.pipe = (s.atSeq u).seq.pipe)) ∧
  (∀ (s : State) (u : Sub) (w : MicroWord) (cs : List Nat) (a : Nat),
    (s.atSeq u).microRuns = true →
    (s.atSeq u).seq.stalled = false →
    (s.atSeq u).microNow = w →
    w.mop = 0x16 →
    0xC000 ≤ (s.atSeq u).seq.mpc →
    (s.atSeq u).seq.mpc < 0xFFFF →
    (s.atSeq u).seq.calls = cs ++ [a] →
    Answers (.uCpop u) s (fun t => t.seq.next = a % 2 ^ 40 ∧ t.seq.calls = cs ∧ t.seq.mpc = (s.atSeq u).seq.mpc + 1 ∧ t.mem = s.mem ∧ t.regs = (s.atSeq u).regs ∧ t.seq.pipe = (s.atSeq u).seq.pipe)) ∧
  (∀ (s : State) (u : Sub) (w : MicroWord) (v : Vec),
    (s.atSeq u).microRuns = true →
    (s.atSeq u).seq.stalled = false →
    (s.atSeq u).microNow = w →
    w.mop = 0x17 →
    0xC000 ≤ (s.atSeq u).seq.mpc →
    (s.atSeq u).seq.mpc < 0xFFFF →
    (s.atSeq u).seq.cur = some v →
    Answers (.uSetnx u) s (fun t => t.seq.next = (if w.x = 0 then succAddr ((s.atSeq u).val64 R.SEQ_VADDR_LO) else if w.x = 1 then v.opc % 2 ^ 40 else if w.x = 2 then codeOf 40 ((s.atSeq u).val64 R.SEQ_VADDR_LO + signedOf 32 ((s.atSeq u).ureg w.a)) else (s.atSeq u).seq.next) ∧ t.seq.mpc = (s.atSeq u).seq.mpc + 1 ∧ t.mem = s.mem ∧ t.regs = (s.atSeq u).regs ∧ t.seq.pipe = (s.atSeq u).seq.pipe)) ∧
  (∀ (s : State) (u : Sub) (w : MicroWord),
    (s.atSeq u).microRuns = true →
    (s.atSeq u).seq.stalled = false →
    (s.atSeq u).microNow = w →
    w.mop = 0x1C →
    0xC000 ≤ (s.atSeq u).seq.mpc →
    (s.atSeq u).seq.mpc < 0xFFFF →
    (s.atSeq u).seq.stepping = false →
    Answers (.uEnd u) s (fun t => t.is R.SEQ_STAT_CUST_RUN = false ∧ t.seq.patches = [] ∧ t.seq.micro = [] ∧ t.seq.next = (s.atSeq u).seq.next ∧ t.mem = s.mem ∧ RegsKept (s.atSeq u) t (fun a => a = R.SEQ_STAT))) ∧
  (∀ (s : State) (u : Sub) (w : MicroWord),
    (s.atSeq u).microRuns = true →
    (s.atSeq u).seq.stalled = false →
    (s.atSeq u).microNow = w →
    w.mop = 0x1D →
    0xC000 ≤ (s.atSeq u).seq.mpc →
    (s.atSeq u).seq.mpc < 0xFFFF →
    (s.atSeq u).stallOver w = true →
    Answers (.uHlt u) s (fun t => t.seqState = seqHalted ∧ t.val R.SEQ_HALT_CAUSE = 0x80 + w.imm % 128 ∧ t.is R.SEQ_STAT_CUST_RUN = false ∧ t.mem = s.mem)) ∧
  (∀ (s : State) (u : Sub),
    (s.atSeq u).microRuns = true →
    (s.atSeq u).seq.stalled = false →
    0x1E ≤ (s.atSeq u).microNow.mop →
    (s.atSeq u).seq.pipe = [] →
    (s.atSeq u).seq.endAt ≤ (s.atSeq u).fU →
    ((s.atSeq u).reactions 0x43 true).testBit reactB = false →
    ((s.atSeq u).reactions 0x43 false).testBit reactB = false →
    Answers (.illegalMicroOp u) s (fun t => t.get R.USTORE_MFAULT_CAUSE = 0x0A ∧ t.is R.USTORE_EVT_MFAULT = true ∧ t.is R.SEQ_STAT_CUST_RUN = false ∧ t.get R.SEQ_STAT_RSTR_STATE = 2 ∧ t.seqState = seqHalted ∧ t.mem = s.mem))

/-- The micro-ops that issue, patch, signal and make the routine safe, and the service requests (R160, R162, R167, R168, R169, R171, R173, R175). -/
def Obligations.MicroEffects : Prop :=
  (∀ (s : State) (u : Sub) (w : MicroWord) (v : Vec),
    (s.atSeq u).microRuns = true →
    (s.atSeq u).seq.stalled = false →
    (s.atSeq u).microNow = w →
    w.mop = 0x0E →
    0xC000 ≤ (s.atSeq u).seq.mpc →
    (s.atSeq u).seq.mpc < 0xFFFF →
    (s.atSeq u).stallOver w = true →
    (s.atSeq u).seq.cur = some v →
    Answers (.uIssue u) s (fun t => (t.seq.pipe.getLast?.map (fun i => (i.addr, i.chars, i.tset, i.reps))) = some ((s.atSeq u).val64 R.SEQ_VADDR_LO, (if w.x % 2 = 1 then patched v.chars (s.atSeq u).seq.patches else v.chars), (if 2 ≤ w.x then (s.atSeq u).ureg w.a % 64 else v.tset % 64), 1) ∧ t.seq.mpc = (s.atSeq u).seq.mpc + 1 ∧ t.mem = s.mem)) ∧
  (∀ (s : State) (u : Sub) (w : MicroWord),
    (s.atSeq u).microRuns = true →
    (s.atSeq u).seq.stalled = false →
    (s.atSeq u).microNow = w →
    w.mop = 0x0E →
    0xC000 ≤ (s.atSeq u).seq.mpc →
    (s.atSeq u).seq.mpc < 0xFFFF →
    (s.atSeq u).stallOver w = false →
    Answers (.uIssue u) s (fun t => t.seq.stalled = true ∧ t.regs = (s.atSeq u).regs ∧ t.seq.pipe = (s.atSeq u).seq.pipe ∧ t.mem = s.mem)) ∧
  (∀ (s : State) (u : Sub) (w : MicroWord),
    (s.atSeq u).microRuns = true →
    (s.atSeq u).seq.stalled = false →
    (s.atSeq u).microNow = w →
    w.mop = 0x0F →
    0xC000 ≤ (s.atSeq u).seq.mpc →
    (s.atSeq u).seq.mpc < 0xFFFF →
    w.x = 0 →
    Answers (.uPatch u) s (fun t => t.seq.patches = (s.atSeq u).seq.patches.filter (fun y => y.1 != (s.atSeq u).ureg w.a % 256) ++ [((s.atSeq u).ureg w.a % 256, w.imm % 16)] ∧ t.seq.mpc = (s.atSeq u).seq.mpc + 1 ∧ t.mem = s.mem ∧ t.regs = (s.atSeq u).regs ∧ t.seq.pipe = (s.atSeq u).seq.pipe)) ∧
  (∀ (s : State) (u : Sub) (w : MicroWord),
    (s.atSeq u).microRuns = true →
    (s.atSeq u).seq.stalled = false →
    (s.atSeq u).microNow = w →
    w.mop = 0x0F →
    0xC000 ≤ (s.atSeq u).seq.mpc →
    (s.atSeq u).seq.mpc < 0xFFFF →
    w.x = 1 →
    Answers (.uPatch u) s (fun t => t.seq.patches = [] ∧ t.seq.mpc = (s.atSeq u).seq.mpc + 1 ∧ t.mem = s.mem ∧ t.regs = (s.atSeq u).regs ∧ t.seq.pipe = (s.atSeq u).seq.pipe)) ∧
  (∀ (s : State) (u : Sub) (w : MicroWord),
    (s.atSeq u).microRuns = true →
    (s.atSeq u).seq.stalled = false →
    (s.atSeq u).microNow = w →
    w.mop = 0x12 →
    0xC000 ≤ (s.atSeq u).seq.mpc →
    (s.atSeq u).seq.mpc < 0xFFFF →
    (s.atSeq u).stallOver w = true →
    Answers (.uDrain u) s (fun t => t.seq.stalled = false ∧ t.seq.mpc = (s.atSeq u).seq.mpc + 1 ∧ t.mem = s.mem ∧ t.regs = (s.atSeq u).regs ∧ t.seq.pipe = (s.atSeq u).seq.pipe)) ∧
  (∀ (s : State) (u : Sub) (w : MicroWord),
    (s.atSeq u).microRuns = true →
    (s.atSeq u).seq.stalled = false →
    (s.atSeq u).microNow = w →
    w.mop = 0x18 →
    0xC000 ≤ (s.atSeq u).seq.mpc →
    (s.atSeq u).seq.mpc < 0xFFFF →
    Answers (.uFlag u) s (fun t => t.seq.pendSet = Nat.land (s.atSeq u).seq.pendSet (255 - w.imm / 256) ||| (w.imm % 256) ∧ t.seq.pendClr = (s.atSeq u).seq.pendClr ||| (w.imm / 256) ∧ t.seq.mpc = (s.atSeq u).seq.mpc + 1 ∧ t.mem = s.mem ∧ t.regs = (s.atSeq u).regs ∧ t.seq.pipe = (s.atSeq u).seq.pipe)) ∧
  (∀ (s : State) (u : Sub) (w : MicroWord) (v : Vec),
    (s.atSeq u).microRuns = true →
    (s.atSeq u).seq.stalled = false →
    (s.atSeq u).microNow = w →
    w.mop = 0x19 →
    0xC000 ≤ (s.atSeq u).seq.mpc →
    (s.atSeq u).seq.mpc < 0xFFFF →
    (s.atSeq u).seq.cur = some v →
    Answers (.uGstep u) s (fun t => t.seq.pendStep = (s.atSeq u).seq.pendStep ||| (v.opc % 2 ^ 48) ∧ t.seq.effStep = true ∧ t.seq.mpc = (s.atSeq u).seq.mpc + 1 ∧ t.mem = s.mem ∧ t.regs = (s.atSeq u).regs ∧ t.seq.pipe = (s.atSeq u).seq.pipe)) ∧
  (∀ (s : State) (u : Sub) (w : MicroWord),
    (s.atSeq u).microRuns = true →
    (s.atSeq u).seq.stalled = false →
    (s.atSeq u).microNow = w →
    w.mop = 0x1A →
    0xC000 ≤ (s.atSeq u).seq.mpc →
    (s.atSeq u).seq.mpc < 0xFFFF →
    Answers (.uEvt u) s (fun t => t.seq.effEvents = min 255 ((s.atSeq u).seq.effEvents + 1) ∧ t.seq.mpc = (s.atSeq u).seq.mpc + 1 ∧ t.mem = s.mem ∧ t.regs = (s.atSeq u).regs)) ∧
  (∀ (s : State) (u : Sub) (w : MicroWord),
    (s.atSeq u).microRuns = true →
    (s.atSeq u).seq.stalled = false →
    (s.atSeq u).microNow = w →
    w.mop = 0x1B →
    0xC000 ≤ (s.atSeq u).seq.mpc →
    (s.atSeq u).seq.mpc < 0xFFFF →
    (s.atSeq u).seq.svc = [] →
    Answers (.uSafe u) s (fun t => t.get R.SEQ_STAT_RSTR_STATE = 1 ∧ t.seq.commits = ((s.atSeq u).seq.commits + 1) % 2 ^ 32 ∧ t.seq.mpc = (s.atSeq u).seq.mpc + 1 ∧ t.mem = s.mem)) ∧
  (∀ (s : State) (u : Sub),
    (s.atSeq u).microRuns = true →
    (s.atSeq u).seq.stalled = true →
    (s.atSeq u).stallOver (s.atSeq u).microNow = true →
    (s.atSeq u).microNow.mop = 0x12 →
    0xC000 ≤ (s.atSeq u).seq.mpc →
    (s.atSeq u).seq.mpc < 0xFFFF →
    Answers (.stallRelease u) s (fun t => t.seq.stalled = false ∧ t.seq.mpc = (s.atSeq u).seq.mpc + 1 ∧ t.mem = s.mem ∧ t.regs = (s.atSeq u).regs ∧ t.seq.pipe = (s.atSeq u).seq.pipe)) ∧
  (∀ (s : State) (u : Sub) (at_ : Nat) (who : Nat) (tag : Nat) (k : Nat) (ws : List Word),
    (s.atSeq u).is R.SEQ_STAT_CUST_RUN = false →
    (s.atSeq u).seq.svc = [(at_, .uregWrite who tag k ws)] →
    1 ≤ k →
    k + ws.length ≤ 16 →
    Answers (.serviceRequestTaken u) s (fun t => t.seq.svc = [] ∧ t.is R.SEQ_STAT_SVC_PENDING = false ∧ ∀ i ∈ List.range ws.length, t.ureg (k + i) = (ws.getD i 0).toNat ∧ t.mem = s.mem)) ∧
  (∀ (s : State) (u : Sub) (at_ : Nat),
    (s.atSeq u).is R.SEQ_STAT_CUST_RUN = true →
    (s.atSeq u).seq.svc = [(at_, .linkHold)] →
    at_ + (s.atSeq u).val R.USTORE_SAFE_WDOG * 256 ≤ (s.atSeq u).fU →
    ((s.atSeq u).reactions 0x43 true).testBit reactB = false →
    ((s.atSeq u).reactions 0x43 false).testBit reactB = false →
    Answers (.svcOverdue u) s (fun t => t.val R.USTORE_OVERDUE = min ((s.atSeq u).val R.USTORE_OVERDUE + 1) (2 ^ 32 - 1) ∧ t.is R.SEQ_STAT_CUST_RUN = false ∧ t.seq.svc = [] ∧ t.mem = s.mem)) ∧
  (∀ (s : State),
    s.powered R.USTORE_CTRL = true →
    Answers .ustoreClrStats s (fun t => t.val R.USTORE_OVERDUE = 0 ∧ t.val R.USTORE_SVC_MAX = 0 ∧ t.mem = s.mem ∧ RegsKept s t (fun a => a = R.USTORE_OVERDUE ∨ a = R.USTORE_SVC_MAX)))

/-- Configuring, enabling, starting and stopping a generator (R186, R188, R192, R199, R200, R202). -/
def Obligations.GeneratorControl : Prop :=
  (∀ (s : State) (u : Sub) (g : Lane) (v : Word),
    s.powered (R.GEN_CTRL g) = true →
    (s.atF u).genConfigurable g = true →
    Answers (.genCfgWrite u g v) s (fun t => t.get (R.GEN_CFG_MODE g) = fieldOf v 0 3 ∧ t.get (R.GEN_CFG_EXC_LANE g) = fieldOf v 16 6 ∧ t.mem = s.mem ∧ RegsKept s t (fun a => a = R.GEN_CFG g))) ∧
  (∀ (s : State) (u : Sub) (g : Lane) (v : Word),
    s.powered (R.GEN_CTRL g) = true →
    (s.atF u).genConfigurable g = false →
    Answers (.genCfgWrite u g v) s (fun t => t.get (R.GEN_STAT_REFUSE g) = 6 ∧ t.is (R.GEN_EVT_REFUSED g) = true ∧ t.mem = s.mem ∧ RegsKept s t (fun a => a = R.GEN_STAT g ∨ a = R.GEN_EVT g))) ∧
  (∀ (s : State) (u : Sub) (g : Lane) (v : Word),
    s.powered (R.GEN_CTRL g) = true →
    (s.atF u).genConfigurable g = true →
    Answers (.genListWrite u g v) s (fun t => t.get (R.GEN_LIST_LEN g) = min 8192 (max 1 (fieldOf v 0 14)) ∧ t.get (R.GEN_LIST_LOOP g) = fieldOf v 16 13 ∧ t.mem = s.mem ∧ RegsKept s t (fun a => a = R.GEN_LIST g))) ∧
  (∀ (s : State) (u : Sub) (g : Lane),
    s.powered (R.GEN_CTRL g) = true →
    s.is (R.GEN_CTRL_EN g) = false →
    (s.atF u).genEnableReason g = 0 →
    Answers (.genEnable u g) s (fun t => t.is (R.GEN_CTRL_EN g) = true ∧ t.is (R.GEN_STAT_OWNER g) = true ∧ (t.gen g).rest = true ∧ t.mem = s.mem ∧ RegsKept s t (fun a => a = R.GEN_CTRL g ∨ a = R.GEN_STAT g))) ∧
  (∀ (s : State) (u : Sub) (g : Lane),
    s.powered (R.GEN_CTRL g) = true →
    s.is (R.GEN_CTRL_EN g) = false →
    (s.atF u).genEnableReason g ≠ 0 →
    Answers (.genEnable u g) s (fun t => t.is (R.GEN_CTRL_EN g) = false ∧ t.get (R.GEN_STAT_REFUSE g) = (s.atF u).genEnableReason g % 8 ∧ t.is (R.GEN_EVT_REFUSED g) = true ∧ t.mem = s.mem ∧ RegsKept s t (fun a => a = R.GEN_STAT g ∨ a = R.GEN_EVT g))) ∧
  (∀ (s : State) (u : Sub) (g : Lane),
    s.powered (R.GEN_CTRL g) = true →
    s.is (R.GEN_CTRL_EN g) = true →
    Answers (.genDisable u g) s (fun t => t.is (R.GEN_CTRL_EN g) = false ∧ t.is (R.GEN_STAT_BUSY g) = true ∧ (t.gen g).stopping = true ∧ (t.gen g).stopAt = s.nextTickU ∧ t.mem = s.mem ∧ RegsKept s t (fun a => a = R.GEN_CTRL g ∨ a = R.GEN_STAT g))) ∧
  (∀ (s : State) (u : Sub) (g : Lane),
    (s.gen g).stopping = true →
    (s.gen g).stopAt ≤ (s.atF u).fU →
    Answers (.genStopPoint u g) s (fun t => t.get (R.GEN_STAT_STATE g) = genIdle ∧ t.is (R.GEN_STAT_BUSY g) = false ∧ t.is (R.GEN_STAT_OWNER g) = false ∧ (t.gen g).stopping = false ∧ (t.gen g).rest = true ∧ t.mem = s.mem)) ∧
  (∀ (s : State) (u : Sub) (g : Lane),
    s.powered (R.GEN_CTRL g) = true →
    (s.atF u).genMayStart g = true →
    Answers (.genStart u g) s (fun t => (t.gen g).startAt = some ((s.atF u).boundaryFrom 64) ∧ t.regs = s.regs ∧ t.mem = s.mem)) ∧
  (∀ (s : State) (u : Sub) (g : Lane),
    s.powered (R.GEN_CTRL g) = true →
    (s.atF u).genMayStart g = false →
    Answers (.genStart u g) s (fun t => t.get (R.GEN_STAT_REFUSE g) = 7 ∧ t.is (R.GEN_EVT_REFUSED g) = true ∧ t.mem = s.mem ∧ RegsKept s t (fun a => a = R.GEN_STAT g ∨ a = R.GEN_EVT g))) ∧
  (∀ (s : State) (u : Sub) (g : Lane),
    s.powered (R.GEN_CTRL g) = true →
    s.genState g = genStopped →
    (s.gen g).odStop = true →
    Answers (.genResume u g) s (fun t => (t.gen g).startAt = some s.nextTickU ∧ (t.gen g).resume = true ∧ t.mem = s.mem)) ∧
  (∀ (s : State) (u : Sub) (g : Lane),
    s.powered (R.GEN_CTRL g) = true →
    (s.atF u).genConfigurable g = true →
    Answers (.genListClr u g) s (fun t => (t.gen g).entries = [] ∧ t.val (R.GEN_WR_COUNT g) = 0 ∧ t.val (R.GEN_DONE_COUNT g) = 0 ∧ t.mem = s.mem ∧ RegsKept s t (fun a => a = R.GEN_WR_COUNT g ∨ a = R.GEN_DONE_COUNT g))) ∧
  (∀ (s : State) (g : Lane),
    s.powered (R.GEN_CTRL g) = true →
    Answers (.genClrStats g) s (fun t => t.val (R.GEN_OD_COUNT g) = 0 ∧ t.val (R.GEN_OD_TICKS g) = 0 ∧ t.val (R.GEN_REFILL_REJ g) = 0 ∧ t.mem = s.mem ∧ RegsKept s t (fun a => a = R.GEN_OD_COUNT g ∨ a = R.GEN_OD_TICKS g ∨ a = R.GEN_REFILL_REJ g)))

/-- The armed start, the step of a generator, its trigger and the end of an overdraft (R182, R183, R184, R192, R193, R198, R199). -/
def Obligations.GeneratorSteps : Prop :=
  (∀ (s : State) (u : Sub) (g : Nat),
    s.powered R.GEN_GO_CTRL = true →
    s.goMask = [g] →
    g < 48 →
    s.powered (R.GEN_CTRL g) = true →
    s.genMayStart g = true →
    s.fU ≤ s.goAt →
    u.val = 0 →
    Answers (.genGoArm u) s (fun t => t.is R.GEN_GO_CTRL_ARM = true ∧ t.genState g = genArmed ∧ (t.gen g).startAt = some s.goAt ∧ t.mem = s.mem)) ∧
  (∀ (s : State) (u : Sub) (g : Lane) (b : Nat) (e : List Byte),
    s.genState g = genArmed →
    (s.gen g).startAt = some b →
    b ≤ s.fU →
    (∀ h, h < 48 → h ≠ g → s.genState h ≠ genArmed) →
    ((s.atF u).genNextEntry g) = some e →
    s.gen g = { startAt := some b, entries := (s.gen g).entries } →
    entryKind e = kindSet →
    entryWait e = false →
    entryMark e = false →
    s.genPlayback g = false →
    s.genStream g = false →
    Answers (.genGo u) s (fun t => t.is R.GEN_GO_CTRL_ARM = false ∧ t.genState g = genRunning ∧ (t.gen g).cur = some e ∧ (t.gen g).stepAt = b ∧ (t.gen g).freq = entryFreq e ∧ (t.gen g).acc = entryPhase e * 2 ^ 16 ∧ t.mem = s.mem)) ∧
  (∀ (s : State) (u : Sub),
    s.powered R.GEN_GO_CTRL = true →
    Answers (.genGoCancel u) s (fun t => t.is R.GEN_GO_CTRL_ARM = false ∧ ∀ g ∈ List.range 48, s.genState g = genArmed → (t.gen g).startAt = none ∧ t.genState g = (s.gen g).before % 8 ∧ t.mem = s.mem)) ∧
  (∀ (s : State) (u : Sub) (g : Lane) (clip : Bool) (e : List Byte),
    s.genState g = genRunning →
    (s.gen g).startAt = none →
    (s.gen g).inRun = false →
    (s.gen g).od = none →
    (s.gen g).cur.isSome = true →
    (s.gen g).dueAt ≤ (s.atF u).fU →
    s.genPlayback g = false →
    s.genStream g = false →
    s.genNextEntry g = some e →
    entryKind e = kindSet →
    entryMark e = false →
    clip = false →
    s.get (R.GEN_CFG_MODE g) ≠ modeDC →
    Answers (.generatorStep u g clip) s (fun t => (t.gen g).cur = some e ∧ (t.gen g).stepAt = (s.gen g).dueAt ∧ (t.gen g).amp = entryAmp e ∧ (t.gen g).offset = entryOffset e ∧ t.genState g = (if entryWait e then genWaiting else genRunning) ∧ t.mem = s.mem)) ∧
  (∀ (s : State) (u : Sub) (g : Lane) (clip : Bool),
    s.genState g = genRunning →
    (s.gen g).startAt = none →
    (s.gen g).inRun = false →
    (s.gen g).od = none →
    (s.gen g).cur.isSome = true →
    (s.gen g).dueAt ≤ (s.atF u).fU →
    s.genPlayback g = false →
    s.genStream g = false →
    s.genNextEntry g = none →
    s.get (R.GEN_CTRL_OD_ACTION g) = 0 →
    clip = false →
    s.get (R.GEN_CFG_MODE g) ≠ modeDC →
    Answers (.generatorStep u g clip) s (fun t => t.is (R.GEN_STAT_OVERDRAFT g) = true ∧ t.val (R.GEN_OD_COUNT g) = min (s.val (R.GEN_OD_COUNT g) + 1) (2 ^ 32 - 1) ∧ ((t.gen g).od.map Prod.fst) = some (s.gen g).dueAt ∧ (t.gen g).cur = (s.gen g).cur ∧ t.mem = s.mem)) ∧
  (∀ (s : State) (g : Lane) (t0 : Nat) (e : List Byte),
    s.genState g = genWaiting →
    (s.gen g).od = none →
    (s.gen g).trigAt = some t0 →
    gridUp (t0 + 24 * 256) < s.nextTickU →
    (s.gen g).inRun = false →
    s.genNextEntry g = some e →
    s.genPlayback g = false →
    s.genStream g = false →
    entryKind e = kindSet →
    entryMark e = false →
    Answers (.triggeredStep g) s (fun t => (t.gen g).cur = some e ∧ (t.gen g).stepAt = gridUp (t0 + 24 * 256) ∧ (t.gen g).trigAt = none ∧ t.mem = s.mem)) ∧
  (∀ (s : State) (u : Sub) (g : Lane) (e0 : List Byte) (e : List Byte),
    s.genState g = genWaiting →
    (s.gen g).od = none →
    (s.gen g).trigAt = none →
    (s.gen g).cur = some e0 →
    entryDwell e0 ≠ 0 →
    (s.gen g).dueAt ≤ (s.atF u).fU →
    (s.gen g).inRun = false →
    s.genNextEntry g = some e →
    s.genPlayback g = false →
    s.genStream g = false →
    entryKind e = kindSet →
    entryMark e = false →
    Answers (.trigTimeout u g) s (fun t => t.is (R.GEN_EVT_TRIG_TIMEOUT g) = true ∧ (t.gen g).cur = some e ∧ (t.gen g).stepAt = (s.gen g).dueAt ∧ t.mem = s.mem)) ∧
  (∀ (s : State) (u : Sub) (g : Lane) (t0 : Nat) (n : Nat) (k : Nat) (b : Nat) (e : List Byte),
    (s.gen g).od = some (t0, n, k) →
    (s.gen g).readyAt = some b →
    (s.gen g).odStop = false →
    b ≤ (s.atF u).fU →
    (s.gen g).odSample = false →
    s.genNextEntry g = some e →
    s.genPlayback g = false →
    s.genStream g = false →
    entryKind e = kindSet →
    entryMark e = false →
    Answers (.genOverdraftEnd u g) s (fun t => t.is (R.GEN_STAT_OVERDRAFT g) = false ∧ (t.gen g).od = none ∧ (t.gen g).cur = some e ∧ (t.gen g).stepAt = b ∧ t.mem = s.mem))

/-- Lane configurations and their unsettled run, streams and raw bursts (R211, R213, R214, R215, R222, R223, R224, R225, R227, R230). -/
def Obligations.LaneConfigurationAndStreams : Prop :=
  (∀ (s : State) (u : Sub) (l : Lane),
    s.powered (R.LANE_CTRL l) = true →
    s.is (R.LANE_STAT_APPLY_PENDING l) = true →
    Answers (.laneApply u l) s (fun t => t.get (R.LANE_STAT_REFUSE l) = 1 ∧ t.is (R.LANE_EVT_REFUSED l) = true ∧ t.lane l = s.lane l ∧ t.mem = s.mem ∧ RegsKept s t (fun a => a = R.LANE_STAT l ∨ a = R.LANE_EVT l))) ∧
  (∀ (s : State) (u : Sub) (l : Lane) (r : Nat),
    s.powered (R.LANE_CTRL l) = true →
    s.is (R.LANE_STAT_APPLY_PENDING l) = false →
    (s.atF u).laneReason l (s.laneStaged l) = some r →
    Answers (.laneApply u l) s (fun t => t.get (R.LANE_STAT_REFUSE l) = r ∧ t.is (R.LANE_EVT_REFUSED l) = true ∧ t.lane l = s.lane l ∧ t.mem = s.mem ∧ RegsKept s t (fun a => a = R.LANE_STAT l ∨ a = R.LANE_EVT l))) ∧
  (∀ (s : State) (u : Sub) (l : Lane) (y : LaneSt),
    s.powered (R.LANE_CTRL l) = true →
    s.is (R.LANE_STAT_APPLY_PENDING l) = false →
    (s.atF u).laneReason l (s.laneStaged l) = none →
    y = { s.lane l with pend := some (s.laneStaged l), planned := false, acked := !decide (cfgRange (s.rd (R.LANE_ACTIVE l)) ≠ cfgRange (s.laneStaged l).cfg ∨ cfgFuse (s.rd (R.LANE_ACTIVE l)) ≠ cfgFuse (s.laneStaged l).cfg), ackBy := s.time.fTick + 200 } →
    (((s.atF u).setLane l y).lanePending l 1).planCheck s.mode = none →
    Answers (.laneApply u l) s (fun t => t.lane l = y ∧ t.is (R.LANE_STAT_APPLY_PENDING l) = true ∧ t.get R.TIME_PLAN_STAT_RESULT = 1 ∧ t.mem = s.mem)) ∧
  (∀ (s : State) (l : Lane) (x : LaneSet),
    (s.lane l).pend = some x →
    (s.lane l).planned = true →
    (s.lane l).acked = true →
    s.time.fUnit = 0 →
    Answers (.laneApplyEffect l) s (fun t => t.rd (R.LANE_ACTIVE l) = x.cfg &&& 0x00000F37#32 ∧ t.rd (R.LANE_FILT_ACT l) = x.filt ∧ (t.lane l).pend = none ∧ t.is (R.LANE_STAT_APPLY_PENDING l) = false ∧ t.is (R.LANE_EVT_APPLIED l) = true ∧ t.mem = s.mem)) ∧
  (∀ (s : State) (l : Lane),
    (s.lane l).pend.isSome = true →
    (s.lane l).acked = false →
    s.get (R.POD_S_STAT_STATE (l / 8)) ≠ 4 ∨ (s.lane l).ackBy ≤ s.time.fTick →
    s.time.fUnit = 0 →
    Answers (.laneApplyWithdraw l) s (fun t => (t.lane l).pend = none ∧ t.is (R.LANE_STAT_APPLY_PENDING l) = false ∧ t.get (R.LANE_STAT_REFUSE l) = 8 ∧ t.mem = s.mem)) ∧
  (∀ (s : State) (u : Sub) (l : Lane),
    s.is (R.LANE_STAT_UNSETTLED l) = true →
    (s.lane l).raw.unset = 0 →
    (s.lane l).dec.unset = 0 →
    (s.lane l).runEnd ≤ (s.atF u).fU →
    Answers (.unsettledEnd u l) s (fun t => t.is (R.LANE_STAT_UNSETTLED l) = false ∧ t.val (R.LANE_UNSET_LEFT l) = 0 ∧ t.is (R.LANE_EVT_UNSETTLED_END l) = true ∧ t.mem = s.mem ∧ RegsKept s t (fun a => a = R.LANE_STAT l ∨ a = R.LANE_UNSET_LEFT l ∨ a = R.LANE_EVT l))) ∧
  (∀ (s : State) (l : Lane),
    s.powered (R.LANE_CTRL l) = true →
    Answers (.laneClrStats l) s (fun t => t.val (R.LANE_OVR_CNT l) = 0 ∧ t.val (R.LANE_BURST_MISS l) = 0 ∧ t.mem = s.mem ∧ RegsKept s t (fun a => a = R.LANE_OVR_CNT l ∨ a = R.LANE_BURST_MISS l))) ∧
  (∀ (s : State) (u : Sub) (l : Lane) (v : Word),
    s.powered (R.LANE_CTRL l) = true →
    s.is (R.LANE_STAT_MEMBER l) = false →
    modeStreams s.mode = true →
    s.is (R.LANE_STAT_BUSY l) = false →
    s.val (R.LANE_STREAM l) = 0 →
    streamStored v ≠ 0 →
    (((s.atF u).put (R.LANE_STREAM l) 0).put (R.LANE_STREAM l) (streamStored v)).planCheck s.mode = none →
    Answers (.laneStreamWrite u l v) s (fun t => t.val (R.LANE_STREAM l) = streamStored v ∧ t.get R.TIME_PLAN_STAT_RESULT = 1 ∧ t.mem = s.mem)) ∧
  (∀ (s : State) (u : Sub) (l : Lane) (v : Word),
    s.powered (R.LANE_CTRL l) = true →
    s.is (R.LANE_STAT_MEMBER l) = false →
    modeStreams s.mode = true →
    s.val (R.LANE_STREAM l) = 1 →
    (s.lane l).raw.on ≠ 0 →
    streamStored v = 0 →
    Answers (.laneStreamWrite u l v) s (fun t => t.val (R.LANE_STREAM l) = 0 ∧ (t.lane l).raw.stopAt = some (s.atF u).fU ∧ t.is (R.LANE_STAT_BUSY l) = true ∧ t.mem = s.mem)) ∧
  (∀ (s : State) (u : Sub) (l : Lane),
    s.powered (R.LANE_CTRL l) = true →
    s.get (R.LANE_RAW_START_SEL l) = 16 →
    (s.lane l).raw.on = 2 →
    s.is (R.LANE_STAT_BURST_ACTIVE l) = false →
    s.is (R.LANE_STAT_BURST_DRAIN l) = false →
    Answers (.burstGo u l) s (fun t => (t.lane l).burstDue = true ∧ t.regs = s.regs ∧ t.mem = s.mem)) ∧
  (∀ (s : State) (u : Sub) (l : Lane),
    s.powered (R.LANE_CTRL l) = true →
    s.get (R.LANE_RAW_START_SEL l) = 16 →
    (s.lane l).raw.on = 2 →
    s.is (R.LANE_STAT_BURST_ACTIVE l) = true →
    Answers (.burstGo u l) s (fun t => t.val (R.LANE_BURST_MISS l) = min (s.val (R.LANE_BURST_MISS l) + 1) (2 ^ 32 - 1) ∧ t.is (R.LANE_EVT_BURST_MISS l) = true ∧ t.lane l = s.lane l ∧ t.mem = s.mem ∧ RegsKept s t (fun a => a = R.LANE_BURST_MISS l ∨ a = R.LANE_EVT l))) ∧
  (∀ (s : State) (l : Lane),
    (s.lane l).burstDue = true →
    s.time.fUnit = 0 →
    Answers (.burstStart l) s (fun t => (t.lane l).burstLeft = max 1 (s.get (R.LANE_RAW_BURST_TICKS l)) ∧ (t.lane l).burstDue = false ∧ t.is (R.LANE_STAT_BURST_ACTIVE l) = true ∧ t.mem = s.mem ∧ RegsKept s t (fun a => a = R.LANE_STAT l))) ∧
  (∀ (s : State) (l : Lane),
    s.is (R.LANE_STAT_BURST_ACTIVE l) = true →
    (s.lane l).burstLeft = 0 →
    Answers (.burstEnd l) s (fun t => t.is (R.LANE_STAT_BURST_ACTIVE l) = false ∧ t.mem = s.mem ∧ RegsKept s t (fun a => a = R.LANE_STAT l))) ∧
  (∀ (s : State) (u : Sub) (l : Lane),
    s.is (R.LANE_STAT_BURST_DRAIN l) = true →
    s.is (R.LANE_STAT_BURST_ACTIVE l) = false →
    (s.lane l).burstAhead = 0 →
    Answers (.burstDone u l) s (fun t => t.is (R.LANE_STAT_BURST_DRAIN l) = false ∧ t.is (R.LANE_EVT_BURST_DONE l) = true ∧ t.mem = s.mem ∧ RegsKept s t (fun a => a = R.LANE_STAT l ∨ a = R.LANE_EVT l)))

/-- Reduction sets, interval frames and capture groups (R247, R248, R250, R252, R257, R263, R264). -/
def Obligations.CaptureGroups : Prop :=
  (∀ (s : State) (u : Sub) (l : Lane) (v : Word),
    s.powered (R.ACQ_RED_CTRL l) = true →
    popCount 8 (((s.atF u).wr (R.ACQ_RED_CTRL l) (redCtrlStored v)).redStaged l).sel ≤ 6 →
    (((s.atF u).wr (R.ACQ_RED_CTRL l) (redCtrlStored v)).redStaged l).sel.testBit 5 = false →
    s.is (R.LANE_STAT_MEMBER l) = false →
    ((s.atF u).wr (R.ACQ_RED_CTRL l) (redCtrlStored v)).podA8 (l / 8) = true →
    (((s.atF u).wr (R.ACQ_RED_CTRL l) (redCtrlStored v)).redStaged l).frame ≠ 0 →
    (((((s.atF u).wr (R.ACQ_RED_CTRL l) (redCtrlStored v)).setRed l { s.red l with pend := some (((s.atF u).wr (R.ACQ_RED_CTRL l) (redCtrlStored v)).redStaged l) }).set (R.ACQ_RED_STAT_PENDING l) 1)).planCheck s.mode = none →
    Answers (.redApply u l v) s (fun t => (t.red l).pend = some (((s.atF u).wr (R.ACQ_RED_CTRL l) (redCtrlStored v)).redStaged l) ∧ t.is (R.ACQ_RED_STAT_PENDING l) = true ∧ t.get R.TIME_PLAN_STAT_RESULT = 1 ∧ t.mem = s.mem)) ∧
  (∀ (s : State) (u : Sub) (l : Lane) (v : Word),
    s.powered (R.ACQ_RED_CTRL l) = true →
    6 < popCount 8 (((s.atF u).wr (R.ACQ_RED_CTRL l) (redCtrlStored v)).redStaged l).sel →
    Answers (.redApply u l v) s (fun t => t.get (R.ACQ_RED_STAT_REFUSE l) = 2 ∧ t.get R.ACQ_STAT_REFUSE = 2 ∧ t.is R.ACQ_EVT_REFUSED = true ∧ t.red l = s.red l ∧ t.mem = s.mem ∧ RegsKept s t (fun a => a = R.ACQ_RED_CTRL l ∨ a = R.ACQ_RED_STAT l ∨ a = R.ACQ_STAT ∨ a = R.ACQ_EVT))) ∧
  (∀ (s : State) (l : Lane) (x : Smp) (xs : List Smp),
    (s.red l).frame = x :: xs →
    (s.red l).act.frame = 1 →
    frameEndOf (s.red l).act.ticks x.t + (if (s.red l).act.src = 2 then 2 * unitsPerTick else 0) ≤ s.fTickU →
    Answers (.frameEnd l) s (fun t => (t.red l).frame = (x :: xs).filter (fun y => decide (frameEndOf (s.red l).act.ticks x.t ≤ y.t)) ∧ (t.red l).cut = false ∧ t.mem = s.mem)) ∧
  (∀ (s : State) (l : Lane),
    s.powered (R.ACQ_RED_CTRL l) = true →
    Answers (.redClrStats l) s (fun t => t.val (R.ACQ_RED_EDGE_LOST l) = 0 ∧ t.mem = s.mem ∧ RegsKept s t (fun a => a = R.ACQ_RED_EDGE_LOST l))) ∧
  (∀ (s : State) (u : Sub) (n : Fin 4) (v : Word),
    s.powered (R.ACQ_GRP_CTRL n) = true →
    s.is (R.ACQ_GRP_CTRL_EN n) = false →
    s.is (R.ACQ_GRP_STAT_BUSY n) = false →
    modeStreams s.mode = true →
    s.val (R.ACQ_GRP_PRE n) ≤ 10485760 →
    0 < s.val (R.ACQ_GRP_PRE n) + s.val (R.ACQ_GRP_POST n) →
    ((s.atF u).wr (R.ACQ_GRP_CTRL n) (v &&& 0x600FFFFF#32)).is (R.ACQ_GRP_CTRL_ACC_EN n) = false →
    ((s.atF u).wr (R.ACQ_GRP_CTRL n) (v &&& 0x600FFFFF#32)).regionBad n = false →
    (((s.atF u).wr (R.ACQ_GRP_CTRL n) (v &&& 0x600FFFFF#32)).set (R.ACQ_GRP_CTRL_EN n) 1).planCheck s.mode = none →
    Answers (.groupEnable u n v) s (fun t => t.is (R.ACQ_GRP_CTRL_EN n) = true ∧ t.get R.TIME_PLAN_STAT_RESULT = 1 ∧ t.mem = s.mem)) ∧
  (∀ (s : State) (u : Sub) (n : Fin 4) (v : Word),
    s.powered (R.ACQ_GRP_CTRL n) = true →
    s.is (R.ACQ_GRP_CTRL_EN n) = false →
    s.is (R.ACQ_GRP_STAT_BUSY n) = false →
    modeStreams s.mode = true →
    10485760 < s.val (R.ACQ_GRP_PRE n) ∨ s.val (R.ACQ_GRP_PRE n) + s.val (R.ACQ_GRP_POST n) = 0 →
    Answers (.groupEnable u n v) s (fun t => t.is (R.ACQ_GRP_CTRL_EN n) = false ∧ t.get (R.ACQ_GRP_STAT_REFUSE n) = 5 ∧ t.get R.ACQ_STAT_REFUSE = 5 ∧ t.is R.ACQ_EVT_REFUSED = true ∧ t.mem = s.mem ∧ RegsKept s t (fun a => a = R.ACQ_GRP_CTRL n ∨ a = R.ACQ_GRP_STAT n ∨ a = R.ACQ_STAT ∨ a = R.ACQ_EVT))) ∧
  (∀ (s : State) (u : Sub) (n : Fin 4) (env : List LaneIn) (g : SegSt) (rest : List SegSt),
    (((s.takeSamples env).atF u).group n).open_ = g :: rest →
    (((s.takeSamples env).atF u).group n).stopping = false →
    g.stamp + ((s.takeSamples env).atF u).val (R.ACQ_GRP_POST n) * 256 ≤ ((s.takeSamples env).atF u).fU * 256 →
    Answers (.segmentComplete u n env) s (fun t => (t.group n).open_ = rest ∧ t.is (R.ACQ_GRP_STAT_IN_SEG n) = !rest.isEmpty ∧ t.mem = s.mem)) ∧
  (∀ (s : State) (u : Sub) (n : Fin 4),
    s.powered (R.ACQ_GRP_CTRL n) = true →
    s.is (R.ACQ_GRP_CTRL_EN n) = true →
    (s.group n).open_ = [] →
    (s.group n).accCount = 0 →
    Answers (.groupDisable u n) s (fun t => t.is (R.ACQ_GRP_CTRL_EN n) = false ∧ t.is (R.ACQ_GRP_STAT_BUSY n) = false ∧ t.get (R.ACQ_GRP_STAT_STATE n) = 0 ∧ t.mem = s.mem)) ∧
  (∀ (s : State) (u : Sub) (n : Fin 4) (g : SegSt) (rest : List SegSt),
    s.powered (R.ACQ_GRP_CTRL n) = true →
    s.is (R.ACQ_GRP_CTRL_EN n) = true →
    (s.group n).open_ = g :: rest →
    Answers (.groupDisable u n) s (fun t => t.is (R.ACQ_GRP_CTRL_EN n) = false ∧ t.is (R.ACQ_GRP_STAT_BUSY n) = true ∧ (t.group n).stopping = true ∧ (t.group n).open_ = g :: rest ∧ t.mem = s.mem)) ∧
  (∀ (s : State) (n : Fin 4),
    s.powered (R.ACQ_GRP_CTRL n) = true →
    Answers (.grpClrStats n) s (fun t => t.val (R.ACQ_GRP_MISS n) = 0 ∧ t.val (R.ACQ_GRP_ACC_SKIP n) = 0 ∧ t.mem = s.mem ∧ RegsKept s t (fun a => a = R.ACQ_GRP_MISS n ∨ a = R.ACQ_GRP_ACC_SKIP n)))

/-- Tally: enabling, clearing, snapshots, merges and sweeps (R257, R258, R259, R260, R262, R263, R265). -/
def Obligations.TallyUnits : Prop :=
  (∀ (s : State) (u : Sub) (v : Word) (tu : TallyUnit),
    s.powered (unitCtrl tu) = true →
    s.is (unitEn tu) = false →
    ((s.atF u).wr (unitCtrl tu) (unitWord tu v)).unitBusy tu = false →
    modeStreams s.mode = true →
    ((s.atF u).wr (unitCtrl tu) (unitWord tu v)).laneFree (((s.atF u).wr (unitCtrl tu) (unitWord tu v)).unitLane tu) = true →
    (∀ m, tu = .map m → ((s.atF u).wr (unitCtrl tu) (unitWord tu v)).sweepOk m = true) →
    (((s.atF u).wr (unitCtrl tu) (unitWord tu v)).set (unitEn tu) 1).planCheck s.mode = none →
    Answers (.tallyEnable u tu v) s (fun t => t.is (unitEn tu) = true ∧ t.get R.TIME_PLAN_STAT_RESULT = 1 ∧ t.mem = s.mem)) ∧
  (∀ (s : State) (u : Sub) (v : Word) (tu : TallyUnit),
    s.powered (unitCtrl tu) = true →
    s.is (unitEn tu) = false →
    ((s.atF u).wr (unitCtrl tu) (unitWord tu v)).unitBusy tu = false →
    modeStreams s.mode = true →
    ((s.atF u).wr (unitCtrl tu) (unitWord tu v)).laneFree (((s.atF u).wr (unitCtrl tu) (unitWord tu v)).unitLane tu) = false →
    Answers (.tallyEnable u tu v) s (fun t => t.is (unitEn tu) = false ∧ t.get R.TLY_STAT_REFUSE = 4 ∧ t.is R.TLY_EVT_REFUSED = true ∧ t.mem = s.mem ∧ RegsKept s t (fun a => a = unitCtrl tu ∨ a = R.TLY_STAT ∨ a = R.TLY_EVT))) ∧
  (∀ (s : State) (u : Sub) (h : Lane),
    s.powered (R.TLY_H_CTRL h) = true →
    Answers (.tallyClear u (.hist h)) s (fun t => (t.hist h).bins = [] ∧ t.val (R.TLY_H_SATBINS h) = 0 ∧ t.val64 (R.TLY_H_FED_LO h) = 0 ∧ t.val (R.TLY_H_UNSET h) = 0 ∧ t.mem = s.mem ∧ RegsKept s t (fun a => a = R.TLY_H_SATBINS h ∨ a = R.TLY_H_FED_LO h ∨ a = R.TLY_H_FED_HI h ∨ a = R.TLY_H_UNSET h))) ∧
  (∀ (s : State) (u : Sub) (m : Fin 8),
    s.powered (R.TLY_M_CTRL m) = true →
    Answers (.tallyClear u (.map m)) s (fun t => (t.map m).bins = [] ∧ t.val (R.TLY_M_SWEEPS m) = 0 ∧ t.val (R.TLY_M_MISS m) = 0 ∧ t.val (R.TLY_M_OUTSIDE m) = 0 ∧ t.val (R.TLY_M_SATBINS m) = 0 ∧ t.mem = s.mem ∧ RegsKept s t (fun a => a = R.TLY_M_SWEEPS m ∨ a = R.TLY_M_MISS m ∨ a = R.TLY_M_OUTSIDE m ∨ a = R.TLY_M_SATBINS m))) ∧
  (∀ (s : State) (u : Sub),
    s.powered R.TLY_CTRL = true →
    Answers (.tallySnap u) s (fun t => ∀ h ∈ List.range 48, (s.hist h).on = true → (t.hist h).asked = true ∧ t.regs = s.regs ∧ t.mem = s.mem)) ∧
  (∀ (s : State) (h : Lane),
    s.time.fUnit = 0 →
    (s.hist h).on = true →
    (s.hist h).snapAt ≠ s.fTickU →
    (s.hist h).asked = true →
    (s.hist h).held = none →
    Answers (.tallySnapshot (.hist h)) s (fun t => (t.hist h).held = some ⟨s.fTickU, (s.hist h).snapNo, (s.hist h).gap, (s.hist h).skipped, (s.hist h).stopping⟩ ∧ (t.hist h).asked = false ∧ t.regs = s.regs ∧ t.mem = s.mem)) ∧
  (∀ (s : State) (m : Fin 8),
    s.time.fUnit = 0 →
    (s.map m).on = true →
    (s.map m).snapAt ≠ s.fTickU →
    (s.map m).asked = true →
    (s.map m).held.isSome = true →
    Answers (.tallySnapshot (.map m)) s (fun t => (t.map m).held = (s.map m).held ∧ (t.map m).skipped = true ∧ t.is R.TLY_EVT_SKIPPED = true ∧ t.mem = s.mem ∧ RegsKept s t (fun a => a = R.TLY_EVT))) ∧
  (∀ (s : State) (env : List LaneIn) (h : Lane),
    (((s.takeSamples env).atF ⟨3840 * 256, by decide⟩).hist h).on = true →
    (((s.takeSamples env).atF ⟨3840 * 256, by decide⟩).hist h).held = none →
    (∀ k, k ≠ h.val → (((s.takeSamples env).atF ⟨3840 * 256, by decide⟩).hist k).on = false) →
    (∀ m, (((s.takeSamples env).atF ⟨3840 * 256, by decide⟩).map m).on = false) →
    (((s.takeSamples env).atF ⟨3840 * 256, by decide⟩).hist h).buf ≠ [] →
    Answers (.tallyMerge env) s (fun t => (t.hist h).buf = [] ∧ (t.hist h).bins = (binsAdd (2 ^ 48 - 1) (((s.takeSamples env).atF ⟨3840 * 256, by decide⟩).hist h).bins ((settled (((s.takeSamples env).atF ⟨3840 * 256, by decide⟩).hist h).buf).map (fun c => ((s.takeSamples env).atF ⟨3840 * 256, by decide⟩).histBin h c))).1 ∧ t.val64 (R.TLY_H_FED_LO h) = (((s.takeSamples env).atF ⟨3840 * 256, by decide⟩).val64 (R.TLY_H_FED_LO h) + (((s.takeSamples env).atF ⟨3840 * 256, by decide⟩).hist h).buf.length) % 2 ^ 64)) ∧
  (∀ (s : State) (u : Sub) (m : Fin 8) (w : Sweep),
    (s.map m).sweeps = [w] →
    w.counted = false →
    s.sweepEnd m w.stamp ≤ (s.atF u).fU →
    Answers (.sweepEnd u m) s (fun t => t.val (R.TLY_M_SWEEPS m) = min (s.val (R.TLY_M_SWEEPS m) + 1) (2 ^ 32 - 1) ∧ (t.map m).sweeps = [{ w with counted := true }] ∧ t.mem = s.mem))

/-- Samples, trigger sources, combiners and their holdoff (R236, R237, R238, R239, R240, R241, R242, R243, R244, R264). -/
def Obligations.TriggerUnit : Prop :=
  (∀ (s : State) (u : Sub) (env : List LaneIn) (x : LaneIn),
    env = [x] →
    s.laneConverts x.lane = true →
    Answers (.laneTriggerEvent u env) s (fun t => (t.lane x.lane).raw.buf = (s.lane x.lane).raw.buf ++ mkSamples (s.fTickU + (s.lane x.lane).raw.buf.length * (1024000 / s.srcSamples x.lane 0)) (1024000 / s.srcSamples x.lane 0) (s.lane x.lane).raw.unset (x.raw.take (s.srcSamples x.lane 0 - (s.lane x.lane).raw.buf.length)) ∧ t.mem = s.mem)) ∧
  (∀ (s : State) (u : Sub) (env : List LaneIn) (x : LaneIn) (c : Int),
    env = [x] →
    s.laneConverts x.lane = true →
    x.raw = [c] →
    x.dec = [] →
    cfgDeck (s.rd (R.LANE_ACTIVE x.lane)) ≠ 0 →
    (s.lane x.lane).raw.buf.length < s.srcSamples x.lane 0 →
    (s.lane x.lane).raw.unset = 0 →
    (s.ltrig x.lane).en = true →
    (s.ltrig x.lane).src = 0 →
    Answers (.laneTriggerEvent u env) s (fun t => t.ltrig x.lane = ((s.ltrig x.lane).sample (1024000 / s.srcSamples x.lane 0) (s.fTickU + (s.lane x.lane).raw.buf.length * (1024000 / s.srcSamples x.lane 0)) (limit16 c).1).1 ∧ t.val (R.ACQ_LTRIG_CNT x.lane) = min (s.val (R.ACQ_LTRIG_CNT x.lane) + ((s.ltrig x.lane).sample (1024000 / s.srcSamples x.lane 0) (s.fTickU + (s.lane x.lane).raw.buf.length * (1024000 / s.srcSamples x.lane 0)) (limit16 c).1).2.length) (2 ^ 32 - 1) ∧ t.mem = s.mem)) ∧
  (∀ (s : State) (u : Sub) (k : Fin 4) (rising : Bool),
    s.domOn (domF 11) = true →
    Answers (.trigInEdge u k rising) s (fun t => t.acq.trigIn.testBit k = rising ∧ t.levelAt (0x88 + k) ((s.atF u).cycleStamp) = rising ∧ t.regs = s.regs ∧ t.mem = s.mem)) ∧
  (∀ (s : State) (u : Sub) (c : Idx16) (w : Word) (n : Word),
    s.powered R.ACQ_CTRL = true →
    s.comb c = { ctrl := w, inw := n, use := 1 } →
    w.getLsbD 31 = true →
    fieldOf n 0 8 = 0x8C →
    Answers (.hostTrig u) s (fun t => (t.comb c).q.map SrcEvt.stamp = [(s.atF u).cycleStamp] ∧ t.regs = s.regs ∧ t.mem = s.mem)) ∧
  (∀ (s : State) (u : Sub) (c : Idx16) (e : SrcEvt),
    ((s.atF u).comb c).q = [e] →
    e.at_ ≤ (s.atF u).fU * 256 →
    ((s.atF u).comb c).seqMode = false →
    ((s.atF u).setComb c { (s.atF u).comb c with q := [] }).qualified c e.at_ = true →
    ((s.atF u).comb c).holds e.at_ = false →
    Answers (.combinerFire u c) s (fun t => t.val (R.ACQ_COMB_FIRES c) = min (s.val (R.ACQ_COMB_FIRES c) + 1) (2 ^ 32 - 1) ∧ (t.comb c).lastFire = some (ceilDiv e.at_ 65536) ∧ (t.get R.ACQ_STAT_COMB_LEVEL).testBit c = true ∧ t.is R.ACQ_EVT_FIRE = true ∧ t.mem = s.mem)) ∧
  (∀ (s : State) (u : Sub) (c : Idx16) (e : SrcEvt),
    ((s.atF u).comb c).q = [e] →
    e.at_ ≤ (s.atF u).fU * 256 →
    ((s.atF u).comb c).seqMode = false →
    ((s.atF u).setComb c { (s.atF u).comb c with q := [] }).qualified c e.at_ = true →
    ((s.atF u).comb c).holds e.at_ = true →
    Answers (.combinerFire u c) s (fun t => t.val (R.ACQ_COMB_HELD c) = min (s.val (R.ACQ_COMB_HELD c) + 1) (2 ^ 32 - 1) ∧ t.val (R.ACQ_COMB_FIRES c) = s.val (R.ACQ_COMB_FIRES c) ∧ (t.comb c).q = [] ∧ (t.comb c).holdLeft = (s.comb c).holdLeft - 1 ∧ t.mem = s.mem)) ∧
  (∀ (s : State) (u : Sub) (c : Idx16),
    (s.comb c).holdUntil * 256 ≤ (s.atF u).fU →
    Answers (.holdoffExpiry u c) s (fun t => (t.comb c).holdUntil = 0 ∧ t.regs = s.regs ∧ t.mem = s.mem)) ∧
  (∀ (s : State) (u : Sub) (c : Idx16) (a : Nat),
    (s.comb c).armed = some a →
    a * 256 < (s.atF u).fU →
    Answers (.sequenceWindowExpiry u c) s (fun t => (t.comb c).armed = none ∧ t.regs = s.regs ∧ t.mem = s.mem)) ∧
  (∀ (s : State) (u : Sub) (c : Idx16),
    (s.comb c).levelUntil * 256 ≤ (s.atF u).fU →
    Answers (.combLevelFall u c) s (fun t => (t.get R.ACQ_STAT_COMB_LEVEL).testBit c = false ∧ t.mem = s.mem ∧ RegsKept s t (fun a => a = R.ACQ_STAT))) ∧
  (∀ (s : State) (u : Sub) (c : Idx16),
    s.powered (R.ACQ_COMB_CTRL c) = true →
    Answers (.combRearm u c) s (fun t => (t.comb c).needRearm = false ∧ t.regs = s.regs ∧ t.mem = s.mem)) ∧
  (∀ (s : State) (u : Sub) (c : Idx16),
    s.powered (R.ACQ_COMB_CTRL c) = true →
    Answers (.combClrStats u c) s (fun t => t.val (R.ACQ_COMB_FIRES c) = 0 ∧ t.val (R.ACQ_COMB_HELD c) = 0 ∧ t.mem = s.mem ∧ RegsKept s t (fun a => a = R.ACQ_COMB_FIRES c ∨ a = R.ACQ_COMB_HELD c))) ∧
  (∀ (s : State) (c : Idx16),
    s.time.fUnit = 0 →
    (s.comb c).dirty = true →
    ((s.rd (R.ACQ_COMB_CTRL c)).getLsbD 31 && combBad c (s.rd (R.ACQ_COMB_CTRL c)) (s.rd (R.ACQ_COMB_IN c)) (s.rd (R.ACQ_COMB_USE c))) = false →
    Answers .acqConfigEffect s (fun t => t.comb c = { ctrl := s.rd (R.ACQ_COMB_CTRL c), inw := s.rd (R.ACQ_COMB_IN c), use := s.rd (R.ACQ_COMB_USE c), hold := s.val (R.ACQ_COMB_HOLD c), seqwin := s.val (R.ACQ_COMB_SEQWIN c) } ∧ t.mem = s.mem))

/-- The sample of a guard window and its counters (R294, R295, R296, R297, R305). -/
def Obligations.GuardWindows : Prop :=
  (∀ (s : State) (vs : List GuardIn) (w : Win) (v : Int),
    s.domOn (domF 12) = true →
    s.time.fUnit ≤ 40960 →
    s.is (R.GRD_W_CFG_EN w) = true →
    (∀ k, k < 64 → k ≠ w.val → s.is (R.GRD_W_CFG_EN k) = false) →
    s.winAbsent w = false →
    s.grdWinBad w = false →
    vs = [⟨w, v⟩] →
    (s.win w).start = true →
    Answers (.guardSample vs) s (fun t => t.get (R.GRD_W_STAT_STATE w) = rawFirst v (s.sval (R.GRD_W_HI w)) (s.sval (R.GRD_W_LO w)) (s.val (R.GRD_W_HYST w) : Int) ∧ t.is (R.GRD_W_STAT_OUT w) = decide (rawFirst v (s.sval (R.GRD_W_HI w)) (s.sval (R.GRD_W_LO w)) (s.val (R.GRD_W_HYST w) : Int) ≠ 0) ∧ (t.win w).start = false ∧ t.mem = s.mem)) ∧
  (∀ (s : State) (vs : List GuardIn) (w : Win) (v : Int),
    s.domOn (domF 12) = true →
    s.time.fUnit ≤ 40960 →
    s.is (R.GRD_W_CFG_EN w) = true →
    (∀ k, k < 64 → k ≠ w.val → s.is (R.GRD_W_CFG_EN k) = false) →
    s.winAbsent w = false →
    s.grdWinBad w = false →
    vs = [⟨w, v⟩] →
    (s.win w).start = false →
    (s.win w).bits.length ≤ 1 →
    s.get (R.GRD_W_CFG_N w) ≤ 1 →
    s.is (R.GRD_W_ACT_FAULT w) = false →
    Answers (.guardSample vs) s (fun t => t.get (R.GRD_W_STAT_STATE w) = rawNext (s.get (R.GRD_W_STAT_STATE w)) v (s.sval (R.GRD_W_HI w)) (s.sval (R.GRD_W_LO w)) (s.val (R.GRD_W_HYST w) : Int) ∧ t.is (R.GRD_W_STAT_OUT w) = decide (rawNext (s.get (R.GRD_W_STAT_STATE w)) v (s.sval (R.GRD_W_HI w)) (s.sval (R.GRD_W_LO w)) (s.val (R.GRD_W_HYST w) : Int) ≠ 0) ∧ t.mem = s.mem)) ∧
  (∀ (s : State),
    s.powered R.GRD_CTRL = true →
    Answers .grdClrStats s (fun t => ∀ w ∈ List.range 64, t.val (R.GRD_W_XCNT w) = 0 ∧ t.val (R.GRD_W_OUTT w) = 0 ∧ t.mem = s.mem ∧ RegsKept s t (fun a => ∃ w, w < 64 ∧ (a = R.GRD_W_XCNT w ∨ a = R.GRD_W_OUTT w))))

/-- Enabling a compare pair, its decisions and its end (R272, R273, R275, R285, R286, R289). -/
def Obligations.ComparePairs : Prop :=
  (∀ (s : State) (u : Sub) (p : PairNo),
    s.powered (R.CMP_P_CTRL p) = true →
    s.is (R.CMP_P_CTRL_EN p) = false →
    s.is (R.CMP_P_STAT_BUSY p) = false →
    s.sideBad p true = false →
    s.sideBad p false = false →
    s.kindBad p = false →
    s.latBad p = false →
    modeCompares s.mode = true →
    (((s.atF u).put (R.CMP_P_NEAR p) (max (s.val (R.CMP_P_NEAR p)) (s.val (R.CMP_P_TOL p)))).set (R.CMP_P_CTRL_EN p) 1).planCheck s.mode = none →
    Answers (.pairEnable u p) s (fun t => t.is (R.CMP_P_CTRL_EN p) = true ∧ t.val (R.CMP_P_NEAR p) = max (s.val (R.CMP_P_NEAR p)) (s.val (R.CMP_P_TOL p)) ∧ t.get R.TIME_PLAN_STAT_RESULT = 1 ∧ t.mem = s.mem)) ∧
  (∀ (s : State) (u : Sub) (p : PairNo),
    s.powered (R.CMP_P_CTRL p) = true →
    s.is (R.CMP_P_CTRL_EN p) = false →
    s.is (R.CMP_P_STAT_BUSY p) = false →
    s.sideBad p true = true ∨ s.sideBad p false = true →
    Answers (.pairEnable u p) s (fun t => t.is (R.CMP_P_CTRL_EN p) = false ∧ t.get (R.CMP_P_STAT_REFUSE p) = 2 ∧ t.get R.CMP_STAT_REFUSE = 2 ∧ t.is R.CMP_EVT_REFUSED = true ∧ t.mem = s.mem ∧ RegsKept s t (fun a => a = R.CMP_P_STAT p ∨ a = R.CMP_STAT ∨ a = R.CMP_EVT))) ∧
  (∀ (s : State) (u : Sub) (p : PairNo) (env : List LaneIn) (x : PairSt),
    ((s.takeSamples env).atF u).get (R.CMP_P_STAT_STATE p) = 2 →
    ((s.takeSamples env).atF u).get (R.CMP_P_CFG_KIND p) = 1 →
    ((s.takeSamples env).atF u).is (R.CMP_P_CFG_SMODE p) = false →
    (((s.takeSamples env).atF u).pair p) = x →
    x.rdEnd = none →
    ((s.takeSamples env).atF u).presented p none (x.nextAt + ((s.takeSamples env).atF u).sval (R.CMP_P_LAT_ACT p)) x.nextAt = true →
    x.absentAt (x.nextAt + ((s.takeSamples env).atF u).sval (R.CMP_P_LAT_ACT p)) = none →
    (stateUpTo x.refSt x.nextAt x.ref).1 ≠ 15 →
    (stateUpTo x.candSt (x.nextAt + ((s.takeSamples env).atF u).sval (R.CMP_P_LAT_ACT p)) x.cand).1 ≠ 15 →
    (stateUpTo x.refSt x.nextAt x.ref).1 = (stateUpTo x.candSt (x.nextAt + ((s.takeSamples env).atF u).sval (R.CMP_P_LAT_ACT p)) x.cand).1 →
    x.runDone = false →
    Answers (.compareDecision u p env) s (fun t => t.val64 (R.CMP_P_MATCH_LO p) = (((s.takeSamples env).atF u).val64 (R.CMP_P_MATCH_LO p) + 1) % 2 ^ 64 ∧ (t.pair p).decisions = x.decisions + 1 ∧ (t.pair p).run = 0 ∧ x.nextAt < (t.pair p).nextAt ∧ t.mem = s.mem)) ∧
  (∀ (s : State) (u : Sub) (p : PairNo) (env : List LaneIn) (x : PairSt),
    ((s.takeSamples env).atF u).get (R.CMP_P_STAT_STATE p) = 2 →
    ((s.takeSamples env).atF u).get (R.CMP_P_CFG_KIND p) = 1 →
    ((s.takeSamples env).atF u).is (R.CMP_P_CFG_SMODE p) = false →
    (((s.takeSamples env).atF u).pair p) = x →
    x.rdEnd = none →
    ((s.takeSamples env).atF u).presented p none (x.nextAt + ((s.takeSamples env).atF u).sval (R.CMP_P_LAT_ACT p)) x.nextAt = true →
    x.absentAt (x.nextAt + ((s.takeSamples env).atF u).sval (R.CMP_P_LAT_ACT p)) = none →
    (stateUpTo x.refSt x.nextAt x.ref).1 ≠ 15 →
    (stateUpTo x.candSt (x.nextAt + ((s.takeSamples env).atF u).sval (R.CMP_P_LAT_ACT p)) x.cand).1 ≠ 15 →
    (stateUpTo x.refSt x.nextAt x.ref).1 ≠ (stateUpTo x.candSt (x.nextAt + ((s.takeSamples env).atF u).sval (R.CMP_P_LAT_ACT p)) x.cand).1 →
    x.run + 1 < ((s.takeSamples env).atF u).get (R.CMP_P_CFG_PERSIST p) →
    Answers (.compareDecision u p env) s (fun t => (t.pair p).run = x.run + 1 ∧ (t.pair p).decisions = x.decisions + 1 ∧ t.regs = ((s.takeSamples env).atF u).regs ∧ t.mem = s.mem)) ∧
  (∀ (s : State) (u : Sub) (p : PairNo) (env : List LaneIn),
    ((s.takeSamples env).atF u).powered (R.CMP_P_CTRL p) = true →
    ((s.takeSamples env).atF u).is (R.CMP_P_CTRL_EN p) = true →
    ((s.takeSamples env).atF u).get (R.CMP_P_STAT_STATE p) ≠ 0 →
    ((s.takeSamples env).atF u).get (R.CMP_P_STAT_STATE p) ≠ 2 →
    Answers (.pairDisable u p env) s (fun t => t.is (R.CMP_P_CTRL_EN p) = false ∧ t.get (R.CMP_P_STAT_STATE p) = 0 ∧ t.pair p = {} ∧ t.mem = s.mem)) ∧
  (∀ (s : State) (u : Sub),
    s.powered R.CMP_CTRL = true →
    Answers (.cmpClrStats u) s (fun t => t.val R.CMP_SUPPR = 0 ∧ t.val R.CMP_RPL_GAPS = 0 ∧ t.mem = s.mem ∧ RegsKept s t (fun a => a = R.CMP_SUPPR ∨ a = R.CMP_RPL_GAPS))) ∧
  (∀ (s : State) (u : Sub) (p : PairNo),
    s.powered (R.CMP_P_CTRL p) = true →
    Answers (.cmpPClrStats u p) s (fun t => t.val (R.CMP_P_DISC p) = 0 ∧ t.val (R.CMP_P_SKIP p) = 0 ∧ t.val (R.CMP_P_SUPPR p) = 0 ∧ t.val (R.CMP_P_GAP_TICKS p) = 0 ∧ t.mem = s.mem ∧ RegsKept s t (fun a => a = R.CMP_P_DISC p ∨ a = R.CMP_P_SKIP p ∨ a = R.CMP_P_SUPPR p ∨ a = R.CMP_P_GAP_TICKS p)))

/-- Learned and followed latency, recorded references and the replay timeline (R276, R277, R278, R281, R282, R283, R284, R289). -/
def Obligations.CompareLatency : Prop :=
  (∀ (s : State) (p : PairNo),
    s.time.fUnit = 0 →
    s.get (R.CMP_P_STAT_STATE p) = 1 →
    s.freezeAt p ≤ s.fTickU →
    max 1 (s.get (R.CMP_P_LEARN_MIN_N p)) ≤ (s.learnDeltas p).length →
    s.get (R.CMP_P_LEARN_MIN_PCT p) * (s.learnDeltas p).length ≤ 100 * ((s.learnDeltas p).filter (fun d => decide (((d - ((sortAsc (s.learnDeltas p)).getD (((s.learnDeltas p).length - 1) / 2) 0)).natAbs : Int) ≤ s.val (R.CMP_P_TOL p)))).length →
    Answers (.learnFreeze p) s (fun t => t.get (R.CMP_P_STAT_STATE p) = 2 ∧ t.val (R.CMP_P_LAT_ACT p) = codeOf 32 (s.pairLat p ((sortAsc (s.learnDeltas p)).getD (((s.learnDeltas p).length - 1) / 2) 0)) ∧ t.is R.CMP_EVT_LEARN = true ∧ t.mem = s.mem)) ∧
  (∀ (s : State) (p : PairNo),
    s.time.fUnit = 0 →
    s.get (R.CMP_P_STAT_STATE p) = 1 →
    s.freezeAt p ≤ s.fTickU →
    (s.learnDeltas p).length < max 1 (s.get (R.CMP_P_LEARN_MIN_N p)) →
    Answers (.learnFreeze p) s (fun t => t.get (R.CMP_P_STAT_STATE p) = 4 ∧ (t.pair p).ref = [] ∧ (t.pair p).cand = [] ∧ t.is R.CMP_EVT_LEARN = true ∧ t.mem = s.mem)) ∧
  (∀ (s : State) (u : Sub) (p : PairNo),
    s.powered (R.CMP_P_CTRL p) = true →
    s.get (R.CMP_P_STAT_STATE p) = 2 ∨ s.get (R.CMP_P_STAT_STATE p) = 4 →
    s.get (R.CMP_P_CFG_LAT_MODE p) = 1 →
    Answers (.relearn u p) s (fun t => (t.pair p).relearn = true ∧ t.regs = s.regs ∧ t.mem = s.mem)) ∧
  (∀ (s : State) (p : PairNo),
    s.time.fUnit = 0 →
    (s.pair p).relearn = true →
    s.is (R.CMP_P_CTRL_EN p) = true →
    Answers (.relearnStart p) s (fun t => (t.pair p).relearn = false ∧ (t.pair p).learnAt = s.fTickU ∧ (t.pair p).ref = [] ∧ (t.pair p).wait = [] ∧ t.get (R.CMP_P_STAT_STATE p) = 1 ∧ t.mem = s.mem)) ∧
  (∀ (s : State) (p : PairNo),
    s.time.fUnit = 0 →
    s.is (R.CMP_P_CTRL_EN p) = true →
    s.get (R.CMP_P_CFG_LAT_MODE p) = 2 →
    s.get (R.CMP_P_STAT_STATE (s.get (R.CMP_P_CFG_LAT_PAIR p))) = 2 →
    (s.pair (s.get (R.CMP_P_CFG_LAT_PAIR p))).latAt < s.fTickU →
    s.get (R.CMP_P_STAT_STATE p) = 2 →
    Answers (.latencyFollow p) s (fun t => t.val (R.CMP_P_LAT_ACT p) = codeOf 32 (s.pairLat p (s.sval (R.CMP_P_LAT_ACT (s.get (R.CMP_P_CFG_LAT_PAIR p))))) ∧ t.mem = s.mem ∧ RegsKept s t (fun a => a = R.CMP_P_LAT_ACT p))) ∧
  (∀ (s : State) (u : Sub) (p : PairNo) (late : Bool) (v : Vec),
    (s.atF u).pairRecorded p = true →
    (s.atF u).pairLive p = true →
    (s.pair p).rdEnd = none →
    (s.atF u).fetchVec (s.pair p).rdAddr = some v →
    (refRec (vecBytes v)).kind = 0 →
    Answers (.referenceRead u p late) s (fun t => (t.pair p).rdAddr = succAddr (s.pair p).rdAddr ∧ (t.pair p).ref = (s.pair p).ref ∧ t.mem = s.mem)) ∧
  (∀ (s : State) (u : Sub) (p : PairNo) (late : Bool) (v : Vec),
    (s.atF u).pairRecorded p = true →
    (s.atF u).pairLive p = true →
    (s.pair p).rdEnd = none →
    (s.atF u).fetchVec (s.pair p).rdAddr = some v →
    (refRec (vecBytes v)).kind = 0xFF →
    (refRec (vecBytes v)).bad (s.get (R.CMP_P_CFG_KIND p)) (s.pair p).rdBase = false →
    (s.atF u).liveAt (refRec (vecBytes v)).base - 2 * unitsPerTick ≤ (s.atF u).fU →
    (s.pair p).rdAbs = none →
    Answers (.referenceRead u p late) s (fun t => (t.pair p).rdEnd = some ((s.atF u).liveAt (refRec (vecBytes v)).base) ∧ t.mem = s.mem)) ∧
  (∀ (s : State) (u : Sub) (g : Nat × Nat × Nat) (r : List (Nat × Nat × Nat)),
    s.cmp.ended = g :: r →
    g.2.2 + 2 * unitsPerTick ≤ (s.atF u).fU →
    ((s.atF u).recordedPairs) = [] →
    Answers (.replayResume u) s (fun t => t.cmp.ended = r ∧ t.val R.CMP_RPL_GAPS = min (s.val R.CMP_RPL_GAPS + 1) (2 ^ 32 - 1) ∧ t.mem = s.mem)) ∧
  (∀ (s : State) (u : Sub) (p : PairNo),
    (s.pair p).lost ≠ 0 →
    (s.pair p).ref.length + (s.pair p).cand.length + (s.pair p).wait.length < pairQueue / 2 →
    (s.pair p).absRef = none →
    (s.pair p).absCand = none →
    Answers (.overflow u p) s (fun t => (t.pair p).lost = 0 ∧ (t.pair p).ref = (s.pair p).ref ∧ (t.pair p).cand = (s.pair p).cand ∧ t.mem = s.mem)) ∧
  (∀ (s : State) (u : Sub) (k : Fin 6) (v : Word),
    s.powered (rplAddr k) = true →
    s.recordedOn = false →
    Answers (.cmpRplWrite u k v) s (fun t => t.rd (rplAddr k) = (if k.val = 5 then v &&& 0x1FFFF#32 else v) ∧ t.mem = s.mem ∧ RegsKept s t (fun a => a = rplAddr k))) ∧
  (∀ (s : State) (u : Sub) (k : Fin 6) (v : Word),
    s.powered (rplAddr k) = true →
    s.recordedOn = true →
    Answers (.cmpRplWrite u k v) s (fun t => t.regs = s.regs ∧ t.mem = s.mem))

/-- The metrology converter, LINE_SYNC and the reference buffer (R306, R308, R309, R310, R312, R327). -/
def Obligations.MetrologyConverter : Prop :=
  (∀ (s : State) (u : Sub),
    s.powered R.MET_MC_CTRL = true →
    (s.atF u).mcRefuse = 0 →
    s.met.conv = none →
    s.is R.MET_MC_STAT_HK = false →
    Answers (.mcStart u) s (fun t => t.met.want = true ∧ t.met.conv.map ConvSt.sel = some (s.get ⟨R.MET_SEL, 0, 12⟩) ∧ t.is R.MET_MC_STAT_BUSY = true ∧ t.mem = s.mem ∧ RegsKept s t (fun a => a = R.MET_MC_STAT ∨ a = R.MET_LINE))) ∧
  (∀ (s : State) (u : Sub),
    s.powered R.MET_MC_CTRL = true →
    (s.atF u).mcRefuse ≠ 0 →
    Answers (.mcStart u) s (fun t => t.get R.MET_MC_STAT_REFUSE = (s.atF u).mcRefuse ∧ t.met = s.met ∧ t.mem = s.mem ∧ RegsKept s t (fun a => a = R.MET_MC_STAT))) ∧
  (∀ (s : State) (u : Sub),
    s.powered R.MET_MC_CTRL = true →
    s.is R.MET_MC_CTRL_CONT = false →
    (s.atF u).mcRefuse = 0 →
    s.met.conv = none →
    s.is R.MET_MC_STAT_HK = false →
    Answers (.mcCont u) s (fun t => t.is R.MET_MC_CTRL_CONT = true ∧ t.met.conv.map ConvSt.sel = some (s.get ⟨R.MET_SEL, 0, 12⟩) ∧ t.mem = s.mem ∧ RegsKept s t (fun a => a = R.MET_MC_CTRL ∨ a = R.MET_MC_STAT ∨ a = R.MET_LINE))) ∧
  (∀ (s : State) (u : Sub),
    s.powered R.MET_MC_CTRL = true →
    s.is R.MET_MC_CTRL_CONT = false →
    (s.atF u).mcRefuse ≠ 0 →
    Answers (.mcCont u) s (fun t => t.is R.MET_MC_CTRL_CONT = false ∧ t.get R.MET_MC_STAT_REFUSE = (s.atF u).mcRefuse ∧ t.mem = s.mem ∧ RegsKept s t (fun a => a = R.MET_MC_STAT))) ∧
  (∀ (s : State) (u : Sub),
    s.powered R.MET_MC_CTRL = true →
    s.is R.MET_MC_CTRL_CONT = false →
    Answers (.mcAbort u) s (fun t => t.met.conv = none ∧ t.met.want = false ∧ t.is R.MET_MC_STAT_BUSY = false ∧ t.mem = s.mem ∧ RegsKept s t (fun a => a = R.MET_MC_STAT))) ∧
  (∀ (s : State) (u : Sub) (code : Int) (c : ConvSt),
    s.met.conv = some c →
    c.stale = false →
    s.met.hkDue = false →
    s.is R.MET_MC_CTRL_CONT = false →
    c.at_ + c.len ≤ (s.atF u).fU →
    clampN 1 4 (fieldOf c.cfg 0 3) ≤ (((clampI (-8388607) 8388607 code) :: s.met.hist).take 16).length →
    Answers (.conversionDone u code) s (fun t => t.met.conv = none ∧ t.met.want = false ∧ t.val R.MET_RES_LO = codeOf 32 (s.metValue c.sel (fieldOf c.cfg 4 2) (filtCode (clampN 1 4 (fieldOf c.cfg 0 3)) (((clampI (-8388607) 8388607 code) :: s.met.hist).take 16))) ∧ t.is R.MET_EVT_RESULT = true ∧ t.mem = s.mem)) ∧
  (∀ (s : State) (u : Sub) (code : Int) (c : ConvSt),
    s.met.conv = some c →
    c.stale = false →
    s.met.hkDue = false →
    s.is R.MET_MC_CTRL_CONT = false →
    c.at_ + c.len ≤ (s.atF u).fU →
    (((clampI (-8388607) 8388607 code) :: s.met.hist).take 16).length < clampN 1 4 (fieldOf c.cfg 0 3) →
    s.met.want = false →
    Answers (.conversionDone u code) s (fun t => t.met.hist = ((clampI (-8388607) 8388607 code) :: s.met.hist).take 16 ∧ t.met.conv = none ∧ t.is R.MET_MC_STAT_BUSY = false ∧ t.mem = s.mem ∧ RegsKept s t (fun a => a = R.MET_MC_STAT))) ∧
  (∀ (s : State) (u : Sub) (e : Nat),
    s.domOn (domF 12) = true →
    s.met.edge = some e →
    6153846 ≤ (2 * ((s.atF u).fU - e) + 256) / 512 ∧ (2 * ((s.atF u).fU - e) + 256) / 512 ≤ 8888889 →
    s.get R.MET_MC_CFG_LINE_SRC = 2 →
    Answers (.lineSyncEdge u) s (fun t => t.met.periods = ((2 * ((s.atF u).fU - e) + 256) / 512 :: s.met.periods).take 16 ∧ t.met.edge = some (s.atF u).fU ∧ t.is R.MET_LINE_LOCK = true ∧ t.is R.MET_LINE_LOST = false ∧ t.mem = s.mem ∧ RegsKept s t (fun a => a = R.MET_LINE ∨ a = R.MET_MC_STAT))) ∧
  (∀ (s : State) (u : Sub) (e : Nat),
    s.domOn (domF 12) = true →
    s.get R.MET_MC_CFG_LINE_SRC = 2 →
    s.met.edge = some e →
    e + 10000 * unitsPerTick ≤ (s.atF u).fU →
    s.is R.MET_LINE_LOST = false →
    Answers (.lineLost u) s (fun t => t.is R.MET_LINE_LOCK = false ∧ t.is R.MET_LINE_LOST = true ∧ t.met.hist = [] ∧ t.is R.MET_EVT_LINE_LOST = true ∧ t.mem = s.mem ∧ RegsKept s t (fun a => a = R.MET_LINE ∨ a = R.MET_MC_STAT ∨ a = R.MET_EVT))) ∧
  (∀ (s : State) (u : Sub),
    s.powered R.MET_REF = true →
    s.is R.MET_REF_MC_REFBUF = false →
    Answers (.refbufOn u) s (fun t => t.is R.MET_REF_MC_REFBUF = true ∧ t.get R.MET_REF_WAIT = 10000 ∧ t.met.readyAt = (s.atF u).fU + 10000 * unitsPerTick ∧ t.mem = s.mem ∧ RegsKept s t (fun a => a = R.MET_REF))) ∧
  (∀ (s : State) (u : Sub),
    s.powered R.MET_REF = true →
    s.is R.MET_REF_MC_REFBUF = true →
    s.is R.MET_REF_READY = false →
    s.met.readyAt ≤ (s.atF u).fU →
    Answers (.refReady u) s (fun t => t.is R.MET_REF_READY = true ∧ t.get R.MET_REF_WAIT = 0 ∧ t.is R.MET_EVT_REF_READY = true ∧ t.mem = s.mem ∧ RegsKept s t (fun a => a = R.MET_REF ∨ a = R.MET_EVT))) ∧
  (∀ (s : State) (u : Sub),
    s.powered R.MET_REF = true →
    s.is R.MET_REF_MC_REFBUF = true →
    Answers (.refbufOff u) s (fun t => t.is R.MET_REF_MC_REFBUF = false ∧ t.is R.MET_REF_READY = false ∧ t.met.offAt = some (s.atF u).fU ∧ t.mem = s.mem ∧ RegsKept s t (fun a => a = R.MET_REF ∨ a = R.MET_CAL_STAT)))

/-- Housekeeping scans, the diagnostic DAC, correction banks and calibration runs (R313, R315, R317, R318, R319, R320, R322, R324, R328). -/
def Obligations.HousekeepingAndCalibration : Prop :=
  (∀ (s : State) (u : Sub),
    s.powered R.MET_HK = true →
    s.is R.MET_MC_STAT_HK = false →
    s.is R.MET_MC_STAT_RUN_OWNS = false →
    ((s.atF u).time.fUnit = 0 ∧ s.time.fTick % s.hkPeriod = 0) ∨ s.met.hkDue = true →
    s.met.conv = none →
    Answers (.hkScanStart u) s (fun t => t.is R.MET_MC_STAT_HK = true ∧ t.met.hkAt = (s.atF u).fU ∧ t.met.hkDue = false ∧ t.met.hist = [] ∧ t.mem = s.mem ∧ RegsKept s t (fun a => a = R.MET_MC_STAT))) ∧
  (∀ (s : State) (u : Sub),
    s.powered R.MET_HK = true →
    s.is R.MET_MC_STAT_HK = false →
    s.is R.MET_MC_STAT_RUN_OWNS = false →
    ((s.atF u).time.fUnit = 0 ∧ s.time.fTick % s.hkPeriod = 0) →
    s.met.conv.isSome = true →
    Answers (.hkScanStart u) s (fun t => t.met.hkDue = true ∧ t.regs = s.regs ∧ t.mem = s.mem)) ∧
  (∀ (s : State) (u : Sub) (temps : List Int) (refuv : Option Int),
    s.is R.MET_MC_STAT_HK = true →
    s.is R.MET_HK_REF_WATCH = false →
    s.met.hkAt + 16 * convUnits 10 s.linePeriod.1 ≤ (s.atF u).fU →
    temps.length ≤ 7 →
    s.met.want = false →
    s.is R.MET_MC_CTRL_CONT = false →
    (s.atF u).refSettled s.met.hkAt = true →
    0 < temps.length →
    Answers (.hkScanDone u temps refuv) s (fun t => t.is R.MET_MC_STAT_HK = false ∧ t.val (R.MET_TEMP 0) = codeOf 32 (temps.getD 0 0) ∧ t.rd R.MET_TM = s.rd R.MET_TM ∧ t.mem = s.mem)) ∧
  (∀ (s : State) (u : Sub) (v : Word),
    s.powered R.MET_DDAC = true →
    s.mode = 1 ∨ s.mode = 2 →
    s.get R.MET_CAL_STAT_STATE = 0 →
    s.met.runDue = false →
    fieldOf v 31 1 = 1 →
    Answers (.ddacEnable u v) s (fun t => t.get R.MET_DDAC_EN = 1 ∧ t.get R.MET_DDAC_LANE = fieldOf v 16 6 ∧ t.get R.MET_DDAC_CODE = fieldOf v 0 12 ∧ t.mem = s.mem)) ∧
  (∀ (s : State) (u : Sub) (b : Nat × Int),
    s.met.build = some b →
    s.met.again = false →
    Answers (.bankReady u) s (fun t => t.met.build = none ∧ t.met.ready.map Prod.fst = some (s.atF u).fU ∧ t.met.accepted = false ∧ t.regs = s.regs ∧ t.mem = s.mem)) ∧
  (∀ (s : State) (u : Sub),
    s.powered R.MET_CAL_CTRL = true →
    (s.atF u).runRefused = false →
    Answers (.calRun u) s (fun t => t.is R.MET_CAL_CTRL_RUN = true ∧ t.get R.MET_CAL_STAT_STATE = 1 ∧ t.met.runDue = true ∧ t.mem = s.mem ∧ RegsKept s t (fun a => a = R.MET_CAL_CTRL ∨ a = R.MET_CAL_STAT))) ∧
  (∀ (s : State) (u : Sub),
    s.powered R.MET_CAL_CTRL = true →
    (s.atF u).runRefused = true →
    Answers (.calRun u) s (fun t => t.get R.MET_CAL_STAT_RESULT = 6 ∧ t.met = s.met ∧ t.mem = s.mem ∧ RegsKept s t (fun a => a = R.MET_CAL_STAT))) ∧
  (∀ (s : State) (u : Sub),
    s.powered R.MET_CAL_CTRL = true →
    s.is R.MET_CAL_CTRL_AUTO_EN = true →
    (s.get R.MET_CAL_STAT_DUE_CAUSE).testBit 0 = true ∨ (s.get R.MET_CAL_STAT_DUE_CAUSE).testBit 1 = true →
    s.is R.MET_CAL_STAT_REF_PRESENT = true →
    (s.atF u).runRefused = false →
    Answers (.calAutoStart u) s (fun t => t.get R.MET_CAL_STAT_STATE = 1 ∧ t.met.runDue = true ∧ t.mem = s.mem ∧ RegsKept s t (fun a => a = R.MET_CAL_CTRL ∨ a = R.MET_CAL_STAT))) ∧
  (∀ (s : State) (u : Sub) (r : CalRun),
    s.get R.MET_CAL_STAT_STATE = 1 →
    s.get R.MET_MC_STAT_RUN_OWNS = 1 →
    r.dacs = [] →
    s.is R.MET_CAL_CTRL_REPORT_PTS = false →
    ((s.atF u).newTm r.p2.temp).runVerdict (((itemSort (r.p1.items.filter (fun i => itemIn s.met.runSlots i.id))).filterMap (fun x => (r.p2.items.find? (fun y => y.id == x.id)).map (fun y => (x, y))))) r.p1.temp r.p2.temp = none →
    Answers (.calRunEnd u r) s (fun t => t.get R.MET_CAL_STAT_RESULT = 1 ∧ t.get R.MET_CAL_STAT_STATE = 0 ∧ t.met.newSet.isSome = true ∧ t.is R.MET_MC_STAT_RUN_OWNS = false ∧ t.mem = s.mem)) ∧
  (∀ (s : State) (u : Sub) (r : CalRun) (v : Nat × Nat × Int),
    s.get R.MET_CAL_STAT_STATE = 1 →
    s.get R.MET_MC_STAT_RUN_OWNS = 1 →
    r.dacs = [] →
    s.is R.MET_CAL_CTRL_REPORT_PTS = false →
    ((s.atF u).newTm r.p2.temp).runVerdict (((itemSort (r.p1.items.filter (fun i => itemIn s.met.runSlots i.id))).filterMap (fun x => (r.p2.items.find? (fun y => y.id == x.id)).map (fun y => (x, y))))) r.p1.temp r.p2.temp = some v →
    v.1 < 16 →
    Answers (.calRunEnd u r) s (fun t => t.get R.MET_CAL_STAT_RESULT = v.1 ∧ t.get R.MET_CAL_STAT_STATE = 0 ∧ t.is R.MET_MC_STAT_RUN_OWNS = false ∧ t.mem = s.mem)) ∧
  (∀ (s : State) (u : Sub),
    s.powered R.MET_CAL_CTRL = true →
    s.get R.MET_CAL_STAT_STATE ≠ 0 →
    s.fault.calAbort = none →
    Answers (.calAbort u) s (fun t => t.fault.calAbort = some 5 ∧ t.get R.MET_CAL_STAT_STATE = 2 ∧ t.mem = s.mem ∧ RegsKept s t (fun a => a = R.MET_CAL_STAT))) ∧
  (∀ (s : State) (u : Sub) (refLost : Bool) (res : Nat),
    s.get R.MET_CAL_STAT_STATE ≠ 0 →
    s.fault.calAbort = some res →
    res < 16 →
    Answers (.calAbortDone u refLost) s (fun t => t.get R.MET_CAL_STAT_RESULT = res ∧ t.get R.MET_CAL_STAT_STATE = 0 ∧ t.fault.calAbort = none ∧ t.is R.MET_EVT_CAL_DONE = true ∧ t.mem = s.mem)) ∧
  (∀ (s : State) (u : Sub) (x : Nat × CalSet),
    s.met.newSet = some x →
    x.1 + 100000 * unitsPerTick ≤ (s.atF u).fU →
    (s.get R.MET_CAL_STAT_DUE_CAUSE).testBit 4 = false →
    Answers (.setStoreTimeout u) s (fun t => (t.get R.MET_CAL_STAT_DUE_CAUSE).testBit 4 = true ∧ t.is R.MET_CAL_STAT_CAL_DUE = true ∧ t.is R.MET_EVT_CAL_DUE = true ∧ t.mem = s.mem)) ∧
  (∀ (s : State) (u : Sub),
    s.powered R.MET_CAL_CTRL = true →
    Answers (.metCalClrStats u) s (fun t => t.val R.MET_CAL_REJ = 0 ∧ t.mem = s.mem ∧ RegsKept s t (fun a => a = R.MET_CAL_REJ)))

/-- A request that is due goes to the pod: SEQ advances, and the request waits for its answer (R333, R335, R337). -/
def Obligations.PodRequests : Prop :=
  (∀ (s : State) (u : Sub) (q : Idx16),
    ((s.atF u).podNext q 0x01 []).isSome = true →
    Answers (.hello u q none) s (fun t => (t.pod q).cur = (s.atF u).podNext q 0x01 [] ∧ (t.pod q).seq = ((s.pod q).seq + 1) % 8 ∧ t.regs = s.regs ∧ t.mem = s.mem)) ∧
  (∀ (s : State) (u : Sub) (q : Idx16),
    ((s.atF u).podNext q 0x02 []).isSome = true →
    Answers (.setRate u q none) s (fun t => (t.pod q).cur = (s.atF u).podNext q 0x02 [] ∧ (t.pod q).seq = ((s.pod q).seq + 1) % 8 ∧ t.regs = s.regs ∧ t.mem = s.mem)) ∧
  (∀ (s : State) (u : Sub) (q : Idx16) (data : List Byte),
    ((s.atF u).podNext q 0x03 ((data ++ List.replicate 64 0).take 64)).isSome = true →
    Answers (.linkTest u q data none) s (fun t => (t.pod q).cur = (s.atF u).podNext q 0x03 ((data ++ List.replicate 64 0).take 64) ∧ (t.pod q).seq = ((s.pod q).seq + 1) % 8 ∧ t.regs = s.regs ∧ t.mem = s.mem)) ∧
  (∀ (s : State) (u : Sub) (q : Idx16),
    ((s.atF u).podNext q 0x04 []).isSome = true →
    Answers (.caps u q none) s (fun t => (t.pod q).cur = (s.atF u).podNext q 0x04 [] ∧ (t.pod q).seq = ((s.pod q).seq + 1) % 8 ∧ t.regs = s.regs ∧ t.mem = s.mem)) ∧
  (∀ (s : State) (u : Sub) (q : Idx16),
    ((s.atF u).podNext q 0x05 []).isSome = true →
    Answers (.certRead u q none) s (fun t => (t.pod q).cur = (s.atF u).podNext q 0x05 [] ∧ (t.pod q).seq = ((s.pod q).seq + 1) % 8 ∧ t.regs = s.regs ∧ t.mem = s.mem)) ∧
  (∀ (s : State) (u : Sub) (q : Idx16),
    ((s.atF u).podNext q 0x07 []).isSome = true →
    Answers (.stressRead u q none) s (fun t => (t.pod q).cur = (s.atF u).podNext q 0x07 [] ∧ (t.pod q).seq = ((s.pod q).seq + 1) % 8 ∧ t.regs = s.regs ∧ t.mem = s.mem)) ∧
  (∀ (s : State) (u : Sub) (q : Idx16),
    ((s.atF u).podNext q 0x08 []).isSome = true →
    Answers (.poll u q none) s (fun t => (t.pod q).cur = (s.atF u).podNext q 0x08 [] ∧ (t.pod q).seq = ((s.pod q).seq + 1) % 8 ∧ t.regs = s.regs ∧ t.mem = s.mem)) ∧
  (∀ (s : State) (u : Sub) (q : Idx16),
    ((s.atF u).podNext q 0x09 []).isSome = true →
    Answers (.config u q none) s (fun t => (t.pod q).cur = (s.atF u).podNext q 0x09 [] ∧ (t.pod q).seq = ((s.pod q).seq + 1) % 8 ∧ t.regs = s.regs ∧ t.mem = s.mem)) ∧
  (∀ (s : State) (u : Sub) (q : Idx16),
    ((s.atF u).podNext q 0x0B []).isSome = true →
    Answers (.hold u q none) s (fun t => (t.pod q).cur = (s.atF u).podNext q 0x0B [] ∧ (t.pod q).seq = ((s.pod q).seq + 1) % 8 ∧ t.regs = s.regs ∧ t.mem = s.mem)) ∧
  (∀ (s : State) (u : Sub) (q : Idx16) (ofs : Nat) (data : List Byte),
    ((s.atF u).podNext q 0x0C (leBytes 4 ofs ++ data.take 4088)).isSome = true →
    Answers (.fwWrite u q ofs data none) s (fun t => (t.pod q).cur = (s.atF u).podNext q 0x0C (leBytes 4 ofs ++ data.take 4088) ∧ (t.pod q).seq = ((s.pod q).seq + 1) % 8 ∧ t.regs = s.regs ∧ t.mem = s.mem)) ∧
  (∀ (s : State) (u : Sub) (q : Idx16) (digest : List Byte),
    ((s.atF u).podNext q 0x0D ((digest ++ List.replicate 32 0).take 32)).isSome = true →
    Answers (.fwCommit u q digest none) s (fun t => (t.pod q).cur = (s.atF u).podNext q 0x0D ((digest ++ List.replicate 32 0).take 32) ∧ (t.pod q).seq = ((s.pod q).seq + 1) % 8 ∧ t.regs = s.regs ∧ t.mem = s.mem)) ∧
  (∀ (s : State) (u : Sub) (q : Idx16),
    ((s.atF u).podNext q 0x0A []).isSome = true →
    Answers (.level u q none) s (fun t => (t.pod q).cur = (s.atF u).podNext q 0x0A [] ∧ (t.pod q).seq = ((s.pod q).seq + 1) % 8 ∧ t.regs = s.regs ∧ t.mem = s.mem)) ∧
  (∀ (s : State) (u : Sub) (q : Idx16),
    ((s.atF u).podCause q 0x06 []).isSome = true →
    ((s.atF u).podNext q 0x06 []).isSome = true →
    Answers (.challenge u q none) s (fun t => (t.pod q).cur.isSome = true ∧ (t.pod q).seq = ((s.pod q).seq + 1) % 8 ∧ (t.pod q).challenge.length = 64 ∧ t.regs = s.regs ∧ t.mem = s.mem))

/-- What the answer of a pod does (R336, R337, R338, R341, R343, R345, R457). -/
def Obligations.PodAnswers : Prop :=
  (∀ (s : State) (u : Sub) (q : Idx16) (pl : List Byte),
    ((s.atF u).podNext q 0x01 []).any (fun r => !r.host) = true →
    pl.length ≤ 4096 →
    Answers (.hello u q (some ⟨0, pl⟩)) s (fun t => t.is (R.POD_S_STAT_LINK_UP q) = true ∧ (∀ k : Fin 4, t.val (R.POD_S_SERIAL q k.val) = leAt pl (6 + 4 * k.val) 4) ∧ t.get (R.POD_S_INFO_FW_LEVEL q) = leAt pl 2 2 ∧ (t.pod q).cur = none ∧ t.mem = s.mem)) ∧
  (∀ (s : State) (u : Sub) (q : Idx16) (pl : List Byte),
    ((s.atF u).podNext q 0x02 []).any (fun r => !r.host) = true →
    pl.length ≤ 4096 →
    (s.pod q).cand ≤ 2 →
    (s.pod q).step = 4 →
    (s.pod q).cand ≠ 0 →
    Answers (.setRate u q (some ⟨0, pl⟩)) s (fun t => t.get (R.POD_S_STAT_RATE q) = (s.pod q).cand ∧ (t.pod q).cur = none ∧ (t.pod q).tests = 0 ∧ t.mem = s.mem ∧ RegsKept s t (fun a => a = R.POD_S_STAT q))) ∧
  (∀ (s : State) (u : Sub) (q : Idx16) (data : List Byte) (pl : List Byte),
    ((s.atF u).podNext q 0x03 ((data ++ List.replicate 64 0).take 64)).any (fun r => !r.host) = true →
    pl = ((data ++ List.replicate 64 0).take 64) →
    (s.pod q).tests = 15 →
    Answers (.linkTest u q data (some ⟨0, pl⟩)) s (fun t => (t.pod q).step = 5 ∧ (t.pod q).cur = none ∧ t.regs = s.regs ∧ t.mem = s.mem)) ∧
  (∀ (s : State) (u : Sub) (q : Idx16) (data : List Byte) (pl : List Byte),
    ((s.atF u).podNext q 0x03 ((data ++ List.replicate 64 0).take 64)).any (fun r => !r.host) = true →
    pl.length ≤ 4096 →
    pl ≠ ((data ++ List.replicate 64 0).take 64) →
    Answers (.linkTest u q data (some ⟨0, pl⟩)) s (fun t => (t.pod q).cand = (s.pod q).cand - 1 ∧ (t.pod q).tests = 0 ∧ (t.pod q).cur = none ∧ t.regs = s.regs ∧ t.mem = s.mem)) ∧
  (∀ (s : State) (u : Sub) (q : Idx16) (pl : List Byte),
    ((s.atF u).podNext q 0x04 []).any (fun r => !r.host) = true →
    pl.length ≤ 4096 →
    s.is (R.POD_S_STAT_POWERED q) = true →
    ∀ p : Fin 16, p ≠ q → s.is (R.POD_S_STAT_POWERED p) = false →
    leAt pl 0 2 ≠ 0 →
    leAt pl 0 2 ≤ s.podBudget →
    s.get (R.POD_S_POLICY_MIN_FW q) ≤ s.get (R.POD_S_INFO_FW_LEVEL q) →
    Answers (.caps u q (some ⟨0, pl⟩)) s (fun t => (t.pod q).step = 6 ∧ t.get (R.POD_S_CAPS_DECL_MW q) = leAt pl 0 2 ∧ (∀ k : Fin 4, t.val (R.POD_S_EOL q k.val) = leAt pl (22 + 4 * k.val) 4) ∧ (∀ r : Fin 5, t.val (R.POD_S_SETTLE q r.val) = leAt pl (4 + 2 * r.val) 2) ∧ t.get (R.POD_S_CAPS_RANGES q) = (leAt pl 2 1 % 32 &&& s.get (R.POD_S_POLICY_RANGES q)) ∧ t.val R.POD_PWR_USED = leAt pl 0 2 ∧ t.mem = s.mem)) ∧
  (∀ (s : State) (u : Sub) (q : Idx16) (pl : List Byte),
    ((s.atF u).podNext q 0x05 []).any (fun r => !r.host) = true →
    pl.length = min 4096 (5325 - (s.pod q).cert.length) →
    (s.pod q).cert.length + pl.length < 5325 →
    Answers (.certRead u q (some ⟨0, pl⟩)) s (fun t => (t.pod q).cert = (s.pod q).cert ++ pl ∧ (t.pod q).cur = none ∧ t.regs = s.regs ∧ t.mem = s.mem)) ∧
  (∀ (s : State) (u : Sub) (q : Idx16) (st : Nat),
    ((s.atF u).podCause q 0x06 []).isSome = true →
    ((s.atF u).podNext q 0x06 []).isSome = true →
    (s.pod q).step ≠ 7 →
    (s.pod q).recheckFails < 2 →
    st % 256 ≠ 0 →
    Answers (.challenge u q (some ⟨st, []⟩)) s (fun t => t.is (R.POD_S_STAT_AUTH_OK q) = false ∧ (t.pod q).recheckFails = (s.pod q).recheckFails + 1 ∧ (t.pod q).chalDue = false ∧ (t.pod q).recheckAt = some ((s.atF u).fU + 1000000 * unitsPerTick) ∧ t.mem = s.mem ∧ RegsKept s t (fun a => a = R.POD_S_STAT q))) ∧
  (∀ (s : State) (u : Sub) (q : Idx16) (st : Nat),
    ((s.atF u).podNext q 0x07 []).any (fun r => !r.host) = true →
    (s.pod q).step = 8 →
    st % 256 ≠ 0 →
    s.get (R.POD_S_STAT_STATE q) = 3 →
    Answers (.stressRead u q (some ⟨st, []⟩)) s (fun t => t.get (R.POD_S_STAT_STATE q) = 5 ∧ t.get (R.POD_S_STAT_REFUSE q) = 8 ∧ t.is (R.POD_S_STAT_POWERED q) = false ∧ t.is (R.POD_S_EVT_REFUSED q) = true ∧ t.mem = s.mem)) ∧
  (∀ (s : State) (u : Sub) (q : Idx16) (pl : List Byte),
    ((s.atF u).podNext q 0x08 []).any (fun r => !r.host) = true →
    pl.length ≤ 4096 →
    leAt pl 0 1 % 8 = 0 →
    Answers (.poll u q (some ⟨0, pl⟩)) s (fun t => (t.pod q).poll = false ∧ (t.pod q).selfHeld = false ∧ (t.pod q).cur = none ∧ ((t.pod q).stress = true ↔ ((s.pod q).stress = true ∨ 0 < leAt pl 2 2)) ∧ t.regs = s.regs ∧ t.mem = s.mem)) ∧
  (∀ (s : State) (u : Sub) (q : Idx16) (pl : List Byte),
    ((s.atF u).podNext q 0x08 []).any (fun r => !r.host) = true →
    pl.length ≤ 4096 →
    leAt pl 0 1 % 8 = 1 →
    Answers (.poll u q (some ⟨0, pl⟩)) s (fun t => (t.pod q).poll = false ∧ (t.pod q).selfHeld = true ∧ (t.pod q).cur = none ∧ t.mem = s.mem)) ∧
  (∀ (s : State) (u : Sub) (q : Idx16) (pl : List Byte),
    ((s.atF u).podNext q 0x09 []).any (fun r => !r.host) = true →
    pl.length ≤ 4096 →
    (s.pod q).step ≠ 9 →
    Answers (.config u q (some ⟨0, pl⟩)) s (fun t => (t.pod q).cfg = false ∧ (t.pod q).cur = none ∧ t.regs = s.regs ∧ t.mem = s.mem)) ∧
  (∀ (s : State) (u : Sub) (q : Idx16) (pl : List Byte),
    ((s.atF u).podNext q 0x09 []).any (fun r => !r.host) = true →
    pl.length ≤ 4096 →
    (s.pod q).step = 9 →
    Answers (.config u q (some ⟨0, pl⟩)) s (fun t => (t.pod q).attachDue = true ∧ (t.pod q).released = true ∧ (t.pod q).cur = none ∧ t.mem = s.mem)) ∧
  (∀ (s : State) (u : Sub) (q : Idx16) (pl : List Byte) (p : Port) (w : LevelReg),
    ((s.atF u).podNext q 0x0A []).any (fun r => !r.host) = true →
    pl.length ≤ 4096 →
    (s.pod q).levels = [(p, w)] →
    Answers (.level u q (some ⟨0, pl⟩)) s (fun t => (t.pod q).levels = [] ∧ (t.pod q).cur = none ∧ t.is (R.PIN_STAT_LVL_PENDING p) = false ∧ t.mem = s.mem ∧ RegsKept s t (fun a => a = R.PIN_STAT p))) ∧
  (∀ (s : State) (u : Sub) (q : Idx16) (pl : List Byte) (b : Nat),
    ((s.atF u).podNext q 0x0B []).any (fun r => !r.host) = true →
    pl.length ≤ 4096 →
    (s.pod q).hold = some b →
    b < 256 →
    Answers (.hold u q (some ⟨0, pl⟩)) s (fun t => (t.pod q).hold = none ∧ (t.pod q).selfHeld = (b == 1) ∧ (t.pod q).cur = none ∧ t.regs = s.regs ∧ t.mem = s.mem)) ∧
  (∀ (s : State) (u : Sub) (q : Idx16) (ofs : Nat) (data : List Byte) (st : Nat),
    ((s.atF u).podNext q 0x0C (leBytes 4 ofs ++ data.take 4088)).any (fun r => !r.host) = true →
    st % 256 ≠ 0 →
    Answers (.fwWrite u q ofs data (some ⟨st, []⟩)) s (fun t => (t.pod q).fwBad = true ∧ (t.pod q).cur = none ∧ t.regs = s.regs ∧ t.mem = s.mem)) ∧
  (∀ (s : State) (u : Sub) (q : Idx16) (digest : List Byte) (st : Nat),
    ((s.atF u).podNext q 0x0D ((digest ++ List.replicate 32 0).take 32)).any (fun r => !r.host) = true →
    st % 256 ≠ 0 →
    Answers (.fwCommit u q digest (some ⟨st, []⟩)) s (fun t => (t.pod q).fwBad = true ∧ (t.pod q).cur = none ∧ t.regs = s.regs ∧ t.mem = s.mem)) ∧
  (∀ (s : State) (u : Sub) (q : Idx16) (ofs : Nat) (data : List Byte) (pl : List Byte),
    ((s.atF u).podNext q 0x0C (leBytes 4 ofs ++ data.take 4088)).any (fun r => !r.host) = true →
    pl.length ≤ 4096 →
    ofs < 2 ^ 32 →
    Answers (.fwWrite u q ofs data (some ⟨0, pl⟩)) s (fun t => (t.pod q).fwGot = max (s.pod q).fwGot (ofs + (data.take 4088).length) ∧ (t.pod q).cur = none ∧ t.regs = s.regs ∧ t.mem = s.mem))

/-- Responses, retries, the loss of a pod link, and identity checks that fall due (R330, R335, R336, R339, R342, R343). -/
def Obligations.PodLink : Prop :=
  (∀ (s : State) (u : Sub) (q : Idx16) (frame : List Byte),
    (s.pod q).cur = none ∨ leAt frame 0 1 ≠ 0xC5 ∨ frame.length ≠ 10 + leAt frame 4 2 →
    Answers (.podResponse u q frame) s (fun t => t.pods = s.pods ∧ t.regs = s.regs ∧ t.mem = s.mem)) ∧
  (∀ (s : State) (u : Sub) (q : Idx16) (frame : List Byte) (r : PodReq),
    (s.pod q).cur = some r →
    r.cmd = 0x0B →
    r.host = false →
    leAt frame 0 4 = 0xC5 + 256 * (0x80 + 16 * (s.pod q).seq) + 65536 * 0x0B →
    frame.length = 10 →
    leAt frame 4 2 = 0 →
    leAt frame 6 4 = crc32c (frame.take 6) →
    Answers (.podResponse u q frame) s (fun t => (t.pod q).hold = none ∧ (t.pod q).cur = none ∧ t.regs = s.regs ∧ t.mem = s.mem)) ∧
  (∀ (s : State) (u : Sub) (q : Idx16) (r : PodReq),
    (s.pod q).cur = some r →
    r.at_ + podWait r.cmd ≤ (s.atF u).fU →
    r.cmd ≠ 0x03 →
    0 < r.tries →
    Answers (.podResponseTimeout u q) s (fun t => (t.pod q).cur = some { r with tries := r.tries - 1, at_ := (s.atF u).fU } ∧ (t.pod q).seq = (s.pod q).seq ∧ t.val (R.POD_S_LINK_ERR q) = min (s.val (R.POD_S_LINK_ERR q) + 1) (2 ^ 32 - 1) ∧ t.mem = s.mem)) ∧
  (∀ (s : State) (u : Sub) (q : Idx16) (r : PodReq),
    (s.pod q).cur = some r →
    r.at_ + podWait r.cmd ≤ (s.atF u).fU →
    r.cmd ≠ 0x03 →
    r.tries = 0 →
    r.host = false →
    (s.pod q).step = 0 →
    s.get (R.POD_S_STAT_STATE q) = 4 →
    (s.pod q).recheckFails < 2 →
    Answers (.podResponseTimeout u q) s (fun t => t.get (R.POD_S_STAT_STATE q) = 6 ∧ t.is (R.POD_S_STAT_LINK_UP q) = false ∧ (t.pod q).cur = none ∧ (t.pod q).lostAt = some (s.atF u).fU ∧ t.is (R.POD_S_EVT_LINK_LOST q) = true ∧ t.mem = s.mem)) ∧
  (∀ (s : State) (u : Sub) (q : Idx16),
    (s.pod q).step = 3 →
    (s.pod q).stepAt + (s.pod q).bootTicks.getD 20000 * unitsPerTick ≤ (s.atF u).fU →
    (s.pod q).reneg = false →
    s.get (R.POD_S_STAT_STATE q) = 2 →
    Answers (.helloTimeout u q) s (fun t => t.get (R.POD_S_STAT_STATE q) = 5 ∧ t.get (R.POD_S_STAT_REFUSE q) = 7 ∧ t.is (R.POD_S_STAT_POWERED q) = false ∧ t.mem = s.mem)) ∧
  (∀ (s : State) (u : Sub) (q : Idx16),
    s.get (R.POD_S_STAT_STATE q) = 6 →
    (s.pod q).renegAt ≤ (s.atF u).fU →
    (s.pod q).step = 0 →
    Answers (.renegotiate u q) s (fun t => (t.pod q).step = 3 ∧ (t.pod q).reneg = true ∧ (t.pod q).renegAt = (s.atF u).fU + 100000 * unitsPerTick ∧ t.get (R.POD_S_STAT_RATE q) = 0 ∧ t.mem = s.mem ∧ RegsKept s t (fun a => a = R.POD_S_STAT q))) ∧
  (∀ (s : State) (u : Sub) (q : Idx16) (a : Nat),
    s.get (R.POD_S_STAT_STATE q) = 6 →
    (s.pod q).lostAt = some a →
    a + 100000 * unitsPerTick ≤ (s.atF u).fU →
    s.is (R.POD_S_STAT_PRESENT q) = true →
    Answers (.linkLossHold u q) s (fun t => (t.pod q).lossHeld = true ∧ t.is (R.POD_S_STAT_HELD q) = true ∧ t.mem = s.mem)) ∧
  (∀ (s : State) (u : Sub) (q : Idx16),
    s.is (R.POD_S_STAT_POWERED q) = true →
    Answers (.podSelfHold u q) s (fun t => (t.pod q).selfHeld = true ∧ (t.pod q).seq = (s.pod q).seq ∧ t.mem = s.mem)) ∧
  (∀ (s : State) (u : Sub) (q : Idx16),
    s.get (R.POD_S_STAT_STATE q) = 4 →
    (s.pod q).pollAt ≤ (s.atF u).fU →
    Answers (.pollInterval u q) s (fun t => (t.pod q).poll = true ∧ (t.pod q).pollAt = (s.atF u).fU + 100 * unitsPerTick ∧ t.regs = s.regs ∧ t.mem = s.mem)) ∧
  (∀ (s : State) (u : Sub) (q : Idx16),
    s.get (R.POD_S_STAT_STATE q) = 4 →
    (s.pod q).challengeAt ≤ (s.atF u).fU →
    (s.pod q).recheckAt = none →
    Answers (.challengeDue u q) s (fun t => (t.pod q).chalDue = true ∧ t.regs = s.regs ∧ t.mem = s.mem)) ∧
  (∀ (s : State) (u : Sub) (q : Idx16) (a : Nat),
    s.get (R.POD_S_STAT_STATE q) = 4 →
    (s.pod q).recheckAt = some a →
    a ≤ (s.atF u).fU →
    Answers (.recheckRetry u q) s (fun t => (t.pod q).chalDue = true ∧ (t.pod q).recheckAt = none ∧ t.regs = s.regs ∧ t.mem = s.mem))

/-- Insertion, attach, removal and power of a pod slot (R329, R330, R331, R332, R339, R342, R347, R348, R350, R485). -/
def Obligations.PodSlots : Prop :=
  (∀ (s : State) (u : Sub) (q : Idx16),
    s.is (R.POD_S_STAT_PRESENT q) = false →
    s.powered (R.POD_S_STAT q) = true →
    s.is (R.POD_S_CTRL_POWER_OFF q) = false →
    Answers (.podInsert u q) s (fun t => t.is (R.POD_S_STAT_PRESENT q) = true ∧ t.get (R.POD_S_STAT_STATE q) = 1 ∧ t.get (R.POD_S_STAT_REFUSE q) = 0 ∧ (t.pod q).step = 1 ∧ (t.pod q).stepAt = (s.atF u).fU ∧ t.mem = s.mem)) ∧
  (∀ (s : State) (u : Sub) (q : Idx16) (code : Fin 4),
    s.get (R.POD_S_STAT_STATE q) = 1 →
    (s.pod q).stepAt + 5000 * unitsPerTick ≤ (s.atF u).fU →
    s.domOn (domF 13) = true →
    slotAccepts q code = false ∨ (s.get (R.POD_S_POLICY_ACCEPT q)).testBit (code - 1) = false →
    Answers (.debounceDone u q code) s (fun t => t.get (R.POD_S_STAT_STATE q) = 5 ∧ t.get (R.POD_S_STAT_REFUSE q) = 1 ∧ t.get (R.POD_S_STAT_TYPE q) = code ∧ t.mem = s.mem)) ∧
  (∀ (s : State) (u : Sub) (q : Idx16) (code : Fin 4),
    s.get (R.POD_S_STAT_STATE q) = 1 →
    (s.pod q).stepAt + 5000 * unitsPerTick ≤ (s.atF u).fU →
    s.domOn (domF 13) = true →
    slotAccepts q code = true →
    (s.get (R.POD_S_POLICY_ACCEPT q)).testBit (code - 1) = true →
    sumTo 16 s.slotPower + 4500 ≤ s.podBudget →
    Answers (.debounceDone u q code) s (fun t => t.get (R.POD_S_STAT_STATE q) = 2 ∧ t.is (R.POD_S_STAT_POWERED q) = true ∧ t.get (R.POD_S_STAT_TYPE q) = code ∧ (t.pod q).step = 3 ∧ (t.pod q).stepAt = (s.atF u).fU ∧ t.mem = s.mem)) ∧
  (∀ (s : State) (q : Idx16),
    (s.pod q).attachDue = true →
    s.time.fUnit = 0 →
    (s.pod q).reneg = false →
    Answers (.podAttached q) s (fun t => t.get (R.POD_S_STAT_STATE q) = 4 ∧ (t.pod q).step = 0 ∧ (t.pod q).attachDue = false ∧ t.is (R.POD_S_EVT_ATTACH q) = true ∧ t.val (R.POD_S_ATTACH_CNT q) = min (s.val (R.POD_S_ATTACH_CNT q) + 1) (2 ^ 32 - 1) ∧ t.mem = s.mem)) ∧
  (∀ (s : State) (q : Idx16),
    (s.pod q).attachDue = true →
    s.time.fUnit = 0 →
    (s.pod q).reneg = true →
    Answers (.podAttached q) s (fun t => t.get (R.POD_S_STAT_STATE q) = 4 ∧ (t.pod q).reneg = false ∧ (t.pod q).lostAt = none ∧ t.val (R.POD_S_ATTACH_CNT q) = s.val (R.POD_S_ATTACH_CNT q) ∧ t.mem = s.mem)) ∧
  (∀ (s : State) (u : Sub) (q : Idx16),
    s.is (R.POD_S_STAT_PRESENT q) = true →
    s.powered (R.POD_S_STAT q) = true →
    s.get (R.POD_S_STAT_STATE q) = 4 ∨ s.get (R.POD_S_STAT_STATE q) = 6 →
    Answers (.podRemoval u q) s (fun t => t.is (R.POD_S_STAT_PRESENT q) = false ∧ (t.pod q).detachDue = true ∧ (t.pod q).step = 0 ∧ (t.pod q).cur = none ∧ t.get (R.POD_S_STAT_STATE q) = s.get (R.POD_S_STAT_STATE q) ∧ t.mem = s.mem)) ∧
  (∀ (s : State) (u : Sub) (q : Idx16),
    s.is (R.POD_S_STAT_PRESENT q) = true →
    s.powered (R.POD_S_STAT q) = true →
    s.podHere q = false →
    s.is (R.POD_S_CTRL_POWER_OFF q) = false →
    Answers (.podRemoval u q) s (fun t => t.is (R.POD_S_STAT_PRESENT q) = false ∧ t.get (R.POD_S_STAT_STATE q) = 0 ∧ t.is (R.POD_S_STAT_POWERED q) = false ∧ (t.pod q).step = 0 ∧ t.mem = s.mem)) ∧
  (∀ (s : State) (q : Idx16),
    (s.pod q).detachDue = true →
    s.time.fUnit = 0 →
    s.is (R.POD_S_CTRL_POWER_OFF q) = false →
    Answers (.detach q) s (fun t => t.get (R.POD_S_STAT_STATE q) = 0 ∧ t.is (R.POD_S_STAT_POWERED q) = false ∧ (t.pod q).detachDue = false ∧ t.is (R.POD_S_EVT_DETACH q) = true ∧ t.mem = s.mem)) ∧
  (∀ (s : State) (u : Sub) (q : Idx16),
    s.is (R.POD_S_STAT_POWERED q) = true →
    Answers (.powerTrip u q) s (fun t => t.get (R.POD_S_STAT_STATE q) = 5 ∧ t.get (R.POD_S_STAT_REFUSE q) = 6 ∧ t.is (R.POD_S_STAT_POWERED q) = false ∧ t.is (R.POD_S_EVT_POWER_TRIP q) = true ∧ t.mem = s.mem)) ∧
  (∀ (s : State) (u : Sub) (q : Idx16),
    s.powered (R.POD_S_CTRL q) = true →
    s.get (R.POD_S_STAT_STATE q) = 5 →
    s.is (R.POD_S_STAT_PRESENT q) = true →
    s.is (R.POD_S_CTRL_POWER_OFF q) = false →
    Answers (.podRetry u q) s (fun t => t.get (R.POD_S_STAT_STATE q) = 1 ∧ t.get (R.POD_S_STAT_REFUSE q) = 0 ∧ (t.pod q).step = 1 ∧ t.mem = s.mem ∧ RegsKept s t (fun a => a = R.POD_S_STAT q ∨ a = R.POD_EVT ∨ a = R.POD_STAT ∨ a = R.POD_PWR_USED))) ∧
  (∀ (s : State) (u : Sub) (q : Idx16),
    s.powered (R.POD_S_CTRL q) = true →
    s.get (R.POD_S_STAT_STATE q) = 4 →
    Answers (.podRecheck u q) s (fun t => (t.pod q).chalDue = true ∧ t.regs = s.regs ∧ t.mem = s.mem)) ∧
  (∀ (s : State) (u : Sub) (q : Idx16) (hold : Bool),
    s.powered (R.POD_S_CTRL q) = true →
    s.is (R.POD_S_CTRL_HOLD q) ≠ hold →
    Answers (.podHoldWrite u q hold) s (fun t => t.is (R.POD_S_CTRL_HOLD q) = hold ∧ (t.pod q).hold = some (if hold then 1 else 0) ∧ t.mem = s.mem)) ∧
  (∀ (s : State) (u : Sub) (q : Idx16),
    s.powered (R.POD_S_CTRL q) = true →
    s.is (R.POD_S_CTRL_POWER_OFF q) = false →
    s.podHere q = true →
    Answers (.podPowerOff u q true) s (fun t => t.is (R.POD_S_CTRL_POWER_OFF q) = true ∧ (t.pod q).detachDue = true ∧ (t.pod q).cur = none ∧ t.mem = s.mem)) ∧
  (∀ (s : State) (u : Sub) (q : Idx16),
    s.powered (R.POD_S_CTRL q) = true →
    s.is (R.POD_S_CTRL_POWER_OFF q) = true →
    s.get (R.POD_S_STAT_STATE q) = 7 →
    s.is (R.POD_S_STAT_PRESENT q) = true →
    Answers (.podPowerOff u q false) s (fun t => t.is (R.POD_S_CTRL_POWER_OFF q) = false ∧ t.get (R.POD_S_STAT_STATE q) = 1 ∧ (t.pod q).step = 1 ∧ t.mem = s.mem)) ∧
  (∀ (s : State) (u : Sub),
    s.powered R.POD_CTRL = true →
    Answers (.podClrStats u) s (fun t => ∀ q : Fin 16, t.val (R.POD_S_LINK_ERR q.val) = 0 ∧ t.val (R.POD_S_ATTACH_CNT q.val) = 0 ∧ t.get (R.POD_S_PWR_PEAK q.val) = 0 ∧ t.mem = s.mem)) ∧
  (∀ (s : State) (mv : Nat) (q : Idx16) (w : Nat),
    s.time.fUnit = 0 →
    s.time.fTick % 100 = 0 →
    s.powered R.POD_CTRL = true →
    s.val R.POD_PWR_USED ≤ min s.podBudget (5 * mv - 48000) →
    Answers (.podBudgetCheck mv [(q, w)]) s (fun t => t.get (R.POD_S_PWR_NOW q.val) = (if s.is (R.POD_S_STAT_POWERED q.val) then min w 65535 else s.get (R.POD_S_PWR_NOW q.val)) ∧ t.val R.POD_PWR_USED = s.val R.POD_PWR_USED ∧ t.pods = s.pods ∧ t.mem = s.mem))

/-- The host half takes a message of the field half into the record (R35, R39, R40, R44, R79, R123, R221, R261, R326, R346). -/
def Obligations.HostReceipt : Prop :=
  (∀ (s : State) (u : Sub) (m : Msg),
    s.get R.ISO_STAT_STATE = 2 →
    filterReason m true = 0 →
    m.flags.testBit 3 = false →
    m.seq = s.link.rxFH.getD m.vc 0 →
    s.relAbs ≤ absTick (eraOf s.time.hTick s.era (T64.unpack m.t64).tick) (T64.unpack m.t64).tick →
    m.ty = 0x20 →
    Answers (.xmSamples u m) s (fun t => t.link.rxFH = s.link.rxFH.set m.vc ((m.seq + 1) % 2 ^ 16) ∧ t.link.outFH = s.link.outFH.erase m ∧ t.val64 R.ISO_RX_BYTES_LO = (s.val64 R.ISO_RX_BYTES_LO + m.size) % 2 ^ 64 ∧ t.clr.staged = s.clr.staged ++ [{ era := (eraOf s.time.hTick s.era (T64.unpack m.t64).tick), t64 := m.t64, cls := 3, inst := (leAt m.payload 2 2), src := 0, arr := s.clr.arr, bytes := msgBytes m }] ∧ t.mem = s.mem ∧ RegsKept s t (fun a => a = R.ISO_RX_BYTES_LO ∨ a = R.ISO_RX_BYTES_LO + 4))) ∧
  (∀ (s : State) (u : Sub) (m : Msg),
    s.get R.ISO_STAT_STATE = 2 →
    filterReason m true = 0 →
    m.flags.testBit 3 = false →
    m.seq = s.link.rxFH.getD m.vc 0 →
    s.relAbs ≤ absTick (eraOf s.time.hTick s.era (T64.unpack m.t64).tick) (T64.unpack m.t64).tick →
    m.ty = 0x31 →
    Answers (.xmTally u m) s (fun t => t.link.rxFH = s.link.rxFH.set m.vc ((m.seq + 1) % 2 ^ 16) ∧ t.link.outFH = s.link.outFH.erase m ∧ t.val64 R.ISO_RX_BYTES_LO = (s.val64 R.ISO_RX_BYTES_LO + m.size) % 2 ^ 64 ∧ t.clr.staged = s.clr.staged ++ [{ era := (eraOf s.time.hTick s.era (T64.unpack m.t64).tick), t64 := m.t64, cls := 2, inst := (leAt m.payload 2 1), src := 0, arr := s.clr.arr, bytes := msgBytes m }] ∧ t.mem = s.mem ∧ RegsKept s t (fun a => a = R.ISO_RX_BYTES_LO ∨ a = R.ISO_RX_BYTES_LO + 4))) ∧
  (∀ (s : State) (u : Sub) (m : Msg),
    s.get R.ISO_STAT_STATE = 2 →
    filterReason m true = 0 →
    m.flags.testBit 3 = false →
    m.seq = s.link.rxFH.getD m.vc 0 →
    s.relAbs ≤ absTick (eraOf s.time.hTick s.era (T64.unpack m.t64).tick) (T64.unpack m.t64).tick →
    m.ty = 0x41 →
    Answers (.xmFail u m) s (fun t => t.link.rxFH = s.link.rxFH.set m.vc ((m.seq + 1) % 2 ^ 16) ∧ t.link.outFH = s.link.outFH.erase m ∧ t.val64 R.ISO_RX_BYTES_LO = (s.val64 R.ISO_RX_BYTES_LO + m.size) % 2 ^ 64 ∧ t.clr.staged = s.clr.staged ++ [{ era := (eraOf s.time.hTick s.era (T64.unpack m.t64).tick), t64 := m.t64, cls := 1, inst := 0, src := 0, arr := s.clr.arr, bytes := msgBytes m }] ∧ t.mem = s.mem ∧ RegsKept s t (fun a => a = R.ISO_RX_BYTES_LO ∨ a = R.ISO_RX_BYTES_LO + 4))) ∧
  (∀ (s : State) (u : Sub) (m : Msg),
    s.get R.ISO_STAT_STATE = 2 →
    filterReason m true = 0 →
    m.flags.testBit 3 = false →
    m.seq = s.link.rxFH.getD m.vc 0 →
    s.relAbs ≤ absTick (eraOf s.time.hTick s.era (T64.unpack m.t64).tick) (T64.unpack m.t64).tick →
    m.ty = 0x70 →
    leAt m.payload 1 1 ≠ 3 →
    Answers (.xmPodResponse u m) s (fun t => t.link.rxFH = s.link.rxFH.set m.vc ((m.seq + 1) % 2 ^ 16) ∧ t.link.outFH = s.link.outFH.erase m ∧ t.val64 R.ISO_RX_BYTES_LO = (s.val64 R.ISO_RX_BYTES_LO + m.size) % 2 ^ 64 ∧ t.clr.staged = s.clr.staged ++ [{ era := (eraOf s.time.hTick s.era (T64.unpack m.t64).tick), t64 := m.t64, cls := 4, inst := (leAt m.payload 0 1), src := 0, arr := s.clr.arr, bytes := msgBytes m }] ∧ t.mem = s.mem ∧ RegsKept s t (fun a => a = R.ISO_RX_BYTES_LO ∨ a = R.ISO_RX_BYTES_LO + 4))) ∧
  (∀ (s : State) (u : Sub) (m : Msg),
    s.get R.ISO_STAT_STATE = 2 →
    filterReason m true = 0 →
    m.flags.testBit 3 = false →
    m.seq = s.link.rxFH.getD m.vc 0 →
    s.relAbs ≤ absTick (eraOf s.time.hTick s.era (T64.unpack m.t64).tick) (T64.unpack m.t64).tick →
    m.ty = 0x01 →
    Answers (.xmTimeFieldBeacon u m) s (fun t => t.link.rxFH = s.link.rxFH.set m.vc ((m.seq + 1) % 2 ^ 16) ∧ t.link.outFH = s.link.outFH.erase m ∧ t.val64 R.ISO_RX_BYTES_LO = (s.val64 R.ISO_RX_BYTES_LO + m.size) % 2 ^ 64 ∧ t.clr.staged = s.clr.staged ++ [{ era := (eraOf s.time.hTick s.era (T64.unpack m.t64).tick), t64 := m.t64, cls := 5, inst := 0, src := 0, arr := s.clr.arr, bytes := msgBytes m }] ∧ t.mem = s.mem ∧ RegsKept s t (fun a => a = R.ISO_RX_BYTES_LO ∨ a = R.ISO_RX_BYTES_LO + 4))) ∧
  (∀ (s : State) (u : Sub) (m : Msg),
    s.get R.ISO_STAT_STATE = 2 →
    filterReason m true = 0 →
    m.flags.testBit 3 = false →
    m.seq = s.link.rxFH.getD m.vc 0 →
    s.relAbs ≤ absTick (eraOf s.time.hTick s.era (T64.unpack m.t64).tick) (T64.unpack m.t64).tick →
    m.ty = 0x71 →
    calKind m = 3 →
    m.payload.length = 48 →
    Answers (.xmCalBank u m) s (fun t => t.link.rxFH = s.link.rxFH.set m.vc ((m.seq + 1) % 2 ^ 16) ∧ t.link.outFH = s.link.outFH.erase m ∧ t.val64 R.ISO_RX_BYTES_LO = (s.val64 R.ISO_RX_BYTES_LO + m.size) % 2 ^ 64 ∧ t.clr.staged = s.clr.staged ++ [{ era := (eraOf s.time.hTick s.era (T64.unpack m.t64).tick), t64 := m.t64, cls := 4, inst := 0, src := 0, arr := s.clr.arr, bytes := msgBytes m }] ∧ t.mem = s.mem ∧ RegsKept s t (fun a => a = R.ISO_RX_BYTES_LO ∨ a = R.ISO_RX_BYTES_LO + 4))) ∧
  (∀ (s : State) (u : Sub) (m : Msg),
    s.get R.ISO_STAT_STATE = 2 →
    filterReason m true = 0 →
    m.flags.testBit 3 = false →
    m.seq = s.link.rxFH.getD m.vc 0 →
    s.relAbs ≤ absTick (eraOf s.time.hTick s.era (T64.unpack m.t64).tick) (T64.unpack m.t64).tick →
    m.ty = 0x71 →
    calKind m = 4 →
    m.payload.length = 48 →
    Answers (.xmCalRunEnd u m) s (fun t => t.link.rxFH = s.link.rxFH.set m.vc ((m.seq + 1) % 2 ^ 16) ∧ t.link.outFH = s.link.outFH.erase m ∧ t.val64 R.ISO_RX_BYTES_LO = (s.val64 R.ISO_RX_BYTES_LO + m.size) % 2 ^ 64 ∧ t.clr.staged = s.clr.staged ++ [{ era := (eraOf s.time.hTick s.era (T64.unpack m.t64).tick), t64 := m.t64, cls := 4, inst := 0, src := 0, arr := s.clr.arr, bytes := msgBytes m }] ∧ t.mem = s.mem ∧ RegsKept s t (fun a => a = R.ISO_RX_BYTES_LO ∨ a = R.ISO_RX_BYTES_LO + 4))) ∧
  (∀ (s : State) (u : Sub) (m : Msg),
    s.get R.ISO_STAT_STATE = 2 →
    filterReason m true = 0 →
    m.flags.testBit 3 = false →
    m.seq = s.link.rxFH.getD m.vc 0 →
    s.relAbs ≤ absTick (eraOf s.time.hTick s.era (T64.unpack m.t64).tick) (T64.unpack m.t64).tick →
    m.ty = 0x03 →
    Answers (.xmHealth u true m) s (fun t => t.link.rxFH = s.link.rxFH.set m.vc ((m.seq + 1) % 2 ^ 16) ∧ t.link.outFH = s.link.outFH.erase m ∧ t.val64 R.ISO_RX_BYTES_LO = (s.val64 R.ISO_RX_BYTES_LO + m.size) % 2 ^ 64 ∧ t.clr.staged = s.clr.staged ++ [{ era := (eraOf s.time.hTick s.era (T64.unpack m.t64).tick), t64 := m.t64, cls := 5, inst := 0, src := 0, arr := s.clr.arr, bytes := msgBytes m }] ∧ t.val R.ISO_FDROP = leAt m.payload 8 4 ∧ t.link.gapFrom = none ∧ t.mem = s.mem)) ∧
  (∀ (s : State) (u : Sub) (m : Msg),
    s.get R.ISO_STAT_STATE = 2 →
    filterReason m true ≠ 0 →
    Answers (.xmSamples u m) s (fun t => t.val R.ISO_HDROP = min (s.val R.ISO_HDROP + 1) (2 ^ 32 - 1) ∧ t.is R.ISO_EVT_DROP = true ∧ t.val R.ISO_DROP_LAST = dropWord 0 (filterReason m true) m % 2 ^ 32 ∧ t.link.outFH = s.link.outFH.erase m ∧ t.clr = s.clr ∧ t.mem = s.mem))

/-- What an event, a reduction item, a compare record, a stress entry and a calibration image do at the host half (R47, R249, R280, R299, R326, R345, R391). -/
def Obligations.HostReceiptEffects : Prop :=
  (∀ (s : State) (u : Sub) (m : Msg),
    s.get R.ISO_STAT_STATE = 2 →
    filterReason m true = 0 →
    m.flags.testBit 3 = false →
    m.seq = s.link.rxFH.getD m.vc 0 →
    s.relAbs ≤ absTick (eraOf s.time.hTick s.era (T64.unpack m.t64).tick) (T64.unpack m.t64).tick →
    m.ty = 0x40 →
    leAt m.payload 0 2 = 0x13 →
    Answers (.xmEvent u m) s (fun t => t.link.rxFH = s.link.rxFH.set m.vc ((m.seq + 1) % 2 ^ 16) ∧ t.link.outFH = s.link.outFH.erase m ∧ t.val64 R.ISO_RX_BYTES_LO = (s.val64 R.ISO_RX_BYTES_LO + m.size) % 2 ^ 64 ∧ t.clr.staged = s.clr.staged ++ [{ era := (eraOf s.time.hTick s.era (T64.unpack m.t64).tick), t64 := m.t64, cls := 1, inst := (leAt m.payload 4 4), src := 0, arr := s.clr.arr, bytes := msgBytes m }] ∧ t.mem = s.mem)) ∧
  (∀ (s : State) (u : Sub) (m : Msg),
    s.get R.ISO_STAT_STATE = 2 →
    filterReason m true = 0 →
    m.flags.testBit 3 = false →
    m.seq = s.link.rxFH.getD m.vc 0 →
    s.relAbs ≤ absTick (eraOf s.time.hTick s.era (T64.unpack m.t64).tick) (T64.unpack m.t64).tick →
    m.ty = 0x40 →
    leAt m.payload 0 2 = 0x19 →
    leAt m.payload 2 2 = 1 →
    leAt m.payload 4 4 < 64 →
    s.is (R.GRD_W_ACT_INHIBIT (leAt m.payload 4 4)) = true →
    Answers (.xmEvent u m) s (fun t => t.link.rxFH = s.link.rxFH.set m.vc ((m.seq + 1) % 2 ^ 16) ∧ t.is R.SYS_DRIVE_INH_INH = true ∧ t.is R.SYS_DRIVE_INH_GUARD = true ∧ t.mem = s.mem)) ∧
  (∀ (s : State) (u : Sub) (m : Msg),
    s.get R.ISO_STAT_STATE = 2 →
    filterReason m true = 0 →
    m.flags.testBit 3 = false →
    m.seq = s.link.rxFH.getD m.vc 0 →
    s.relAbs ≤ absTick (eraOf s.time.hTick s.era (T64.unpack m.t64).tick) (T64.unpack m.t64).tick →
    m.ty = 0x30 →
    leAt m.payload 0 1 ≠ 8 →
    leAt m.payload 1 1 % 2 = 0 →
    Answers (.xmReduce u m) s (fun t => t.link.rxFH = s.link.rxFH.set m.vc ((m.seq + 1) % 2 ^ 16) ∧ t.link.outFH = s.link.outFH.erase m ∧ t.val64 R.ISO_RX_BYTES_LO = (s.val64 R.ISO_RX_BYTES_LO + m.size) % 2 ^ 64 ∧ t.clr.staged = s.clr.staged ++ [{ era := (eraOf s.time.hTick s.era (T64.unpack m.t64).tick), t64 := m.t64, cls := 2, inst := (leAt m.payload 2 1), src := 0, arr := s.clr.arr, bytes := msgBytes m }] ∧ t.mem = s.mem ∧ RegsKept s t (fun a => a = R.ISO_RX_BYTES_LO ∨ a = R.ISO_RX_BYTES_LO + 4))) ∧
  (∀ (s : State) (u : Sub) (m : Msg),
    s.get R.ISO_STAT_STATE = 2 →
    filterReason m true = 0 →
    m.flags.testBit 3 = false →
    m.seq = s.link.rxFH.getD m.vc 0 →
    s.relAbs ≤ absTick (eraOf s.time.hTick s.era (T64.unpack m.t64).tick) (T64.unpack m.t64).tick →
    m.ty = 0x42 →
    leAt m.payload 16 2 < 128 →
    (leAt m.payload 19 1).testBit 1 = false →
    (s.pair (leAt m.payload 16 2)).told = false →
    Answers (.xmCmp u m) s (fun t => (t.pair (leAt m.payload 16 2)).told = true ∧ (t.pair (leAt m.payload 16 2)).toldTick = (s.atH u).hAbs ∧ (t.pair (leAt m.payload 16 2)).untold = 0 ∧ t.link.rxFH = s.link.rxFH.set m.vc ((m.seq + 1) % 2 ^ 16) ∧ t.mem = s.mem)) ∧
  (∀ (s : State) (u : Sub) (m : Msg),
    s.get R.ISO_STAT_STATE = 2 →
    filterReason m true = 0 →
    m.flags.testBit 3 = false →
    m.seq = s.link.rxFH.getD m.vc 0 →
    s.relAbs ≤ absTick (eraOf s.time.hTick s.era (T64.unpack m.t64).tick) (T64.unpack m.t64).tick →
    m.ty = 0x42 →
    leAt m.payload 16 2 < 128 →
    (leAt m.payload 19 1).testBit 1 = false →
    (s.pair (leAt m.payload 16 2)).told = true →
    (s.atH u).hAbs < (s.pair (leAt m.payload 16 2)).toldTick + 100000 →
    Answers (.xmCmp u m) s (fun t => (t.pair (leAt m.payload 16 2)).untold = (s.pair (leAt m.payload 16 2)).untold + 1 ∧ (t.pair (leAt m.payload 16 2)).told = true ∧ t.link.rxFH = s.link.rxFH.set m.vc ((m.seq + 1) % 2 ^ 16) ∧ t.link.outFH = s.link.outFH.erase m ∧ t.val64 R.ISO_RX_BYTES_LO = (s.val64 R.ISO_RX_BYTES_LO + m.size) % 2 ^ 64 ∧ t.clr.staged = s.clr.staged ++ [{ era := (eraOf s.time.hTick s.era (T64.unpack m.t64).tick), t64 := m.t64, cls := 1, inst := (leAt m.payload 16 2), src := 0, arr := s.clr.arr, bytes := msgBytes m }] ∧ t.mem = s.mem ∧ RegsKept s t (fun a => a = R.ISO_RX_BYTES_LO ∨ a = R.ISO_RX_BYTES_LO + 4))) ∧
  (∀ (s : State) (u : Sub) (m : Msg),
    s.get R.ISO_STAT_STATE = 2 →
    filterReason m true = 0 →
    m.flags.testBit 3 = false →
    m.seq = s.link.rxFH.getD m.vc 0 →
    s.relAbs ≤ absTick (eraOf s.time.hTick s.era (T64.unpack m.t64).tick) (T64.unpack m.t64).tick →
    m.ty = 0x70 →
    leAt m.payload 1 1 = 3 →
    m.payload.length = 72 →
    s.ledger.rate < ledgerRate →
    s.ledger.queue = [] →
    s.ledger.merge = none →
    Answers (.xmPodLedger u m) s (fun t => t.val64 R.LDG_NEXT_LO = (s.val64 R.LDG_NEXT_LO + 1) % 2 ^ 64 ∧ (t.ledger.ring.head?).map LEntry.source = some 0x1B ∧ t.ledger.rate = s.ledger.rate + 1 ∧ t.mem = s.mem)) ∧
  (∀ (s : State) (u : Sub) (m : Msg),
    s.get R.ISO_STAT_STATE = 2 →
    filterReason m true = 0 →
    m.flags.testBit 3 = false →
    m.seq = s.link.rxFH.getD m.vc 0 →
    s.relAbs ≤ absTick (eraOf s.time.hTick s.era (T64.unpack m.t64).tick) (T64.unpack m.t64).tick →
    m.ty = 0x71 →
    calKind m = 1 →
    17 ≤ m.payload.length ∧ m.payload.length ≤ 16 + imagePiece →
    leAt m.payload 4 4 = 0 →
    m.payload.length - 16 < leAt m.payload 8 4 →
    Answers (.xmCalSetImage u false m) s (fun t => t.met.hrx = some (leAt m.payload 2 2, leAt m.payload 8 4, m.payload.drop 16) ∧ t.link.rxFH = s.link.rxFH.set m.vc ((m.seq + 1) % 2 ^ 16) ∧ t.link.outFH = s.link.outFH.erase m ∧ t.val64 R.ISO_RX_BYTES_LO = (s.val64 R.ISO_RX_BYTES_LO + m.size) % 2 ^ 64 ∧ t.clr.staged = s.clr.staged ++ [{ era := (eraOf s.time.hTick s.era (T64.unpack m.t64).tick), t64 := m.t64, cls := 4, inst := 0, src := 0, arr := s.clr.arr, bytes := msgBytes m }] ∧ t.mem = s.mem ∧ RegsKept s t (fun a => a = R.ISO_RX_BYTES_LO ∨ a = R.ISO_RX_BYTES_LO + 4)))

/-- The field half takes time, plans, calibration and firmware from the host half (R35, R39, R40, R43, R44, R48, R60, R75, R322, R326, R346). -/
def Obligations.FieldReceipt : Prop :=
  (∀ (s : State) (u : Sub) (m : Msg),
    s.get R.ISO_STAT_STATE = 2 →
    filterReason m false = 0 →
    m.ty = 0x01 →
    leAt m.payload 0 2 = 3 →
    Answers (.xmTimeEpochSet u m) s (fun t => t.link.rxHF = s.link.rxHF.set m.vc ((m.seq + 1) % 2 ^ 16) ∧ t.link.outHF = s.link.outHF.erase m ∧ t.time = { (s.atF u).time with fEpoch := leAt m.payload 8 8 } ∧ t.regs = s.regs ∧ t.mem = s.mem)) ∧
  (∀ (s : State) (u : Sub) (m : Msg),
    s.get R.ISO_STAT_STATE = 2 →
    filterReason m false = 0 →
    m.ty = 0x01 →
    leAt m.payload 0 2 = 2 →
    s.time.fAwaitLoad = false →
    -64 ≤ ((s.atF u).fU : Int) - (((T64.unpack m.t64).units + leAt m.payload 2 2 * ticksPerEra * unitsPerTick + leAt m.payload 16 8) : Nat) ∧ ((s.atF u).fU : Int) - (((T64.unpack m.t64).units + leAt m.payload 2 2 * ticksPerEra * unitsPerTick + leAt m.payload 16 8) : Nat) ≤ 64 →
    Answers (.xmTimeHostBeacon u m) s (fun t => t.link.rxHF = s.link.rxHF.set m.vc ((m.seq + 1) % 2 ^ 16) ∧ t.link.outHF = s.link.outHF.erase m ∧ t.time.fEpoch = leAt m.payload 8 8 ∧ t.time.fAligned = true ∧ t.val R.TIME_FIELD_OFS = codeOf 32 (((s.atF u).fU : Int) - (((T64.unpack m.t64).units + leAt m.payload 2 2 * ticksPerEra * unitsPerTick + leAt m.payload 16 8) : Nat)) ∧ t.mem = s.mem)) ∧
  (∀ (s : State) (u : Sub) (m : Msg),
    s.get R.ISO_STAT_STATE = 2 →
    filterReason m false = 0 →
    m.ty = 0x01 →
    leAt m.payload 0 2 = 2 →
    s.time.fAwaitLoad = true →
    Answers (.xmTimeHostBeacon u m) s (fun t => t.link.rxHF = s.link.rxHF.set m.vc ((m.seq + 1) % 2 ^ 16) ∧ t.link.outHF = s.link.outHF.erase m ∧ t.time.fAwaitLoad = false ∧ t.time.fAligned = true ∧ t.val R.TIME_FIELD_OFS = 0 ∧ t.mem = s.mem)) ∧
  (∀ (s : State) (u : Sub) (m : Msg),
    s.get R.ISO_STAT_STATE = 2 →
    filterReason m false = 0 →
    m.ty = 0x02 →
    Answers (.xmTickPlan u m) s (fun t => t.link.rxHF = s.link.rxHF.set m.vc ((m.seq + 1) % 2 ^ 16) ∧ t.link.outHF = s.link.outHF.erase m ∧ t.plan.field = s.plan.field ++ s.plan.sent.filter (fun p => decide (p.id ≤ leAt m.payload 0 4)) ∧ t.plan.sent = s.plan.sent.filter (fun p => !decide (p.id ≤ leAt m.payload 0 4)) ∧ t.regs = s.regs ∧ t.mem = s.mem)) ∧
  (∀ (s : State) (u : Sub) (m : Msg),
    s.get R.ISO_STAT_STATE = 2 →
    filterReason m false = 0 →
    m.ty = 0x03 →
    Answers (.xmHealth u false m) s (fun t => t.link.rxHF = s.link.rxHF.set m.vc ((m.seq + 1) % 2 ^ 16) ∧ t.link.outHF = s.link.outHF.erase m ∧ t.regs = s.regs ∧ t.mem = s.mem)) ∧
  (∀ (s : State) (u : Sub) (m : Msg) (q : Idx16),
    s.get R.ISO_STAT_STATE = 2 →
    filterReason m false = 0 →
    m.ty = 0x70 →
    leAt m.payload 1 1 = 1 →
    leAt m.payload 4 1 = 7 →
    leAt m.payload 0 1 = q.val →
    s.get (R.POD_S_STAT_STATE q) = 4 →
    Answers (.xmPodRequest u m) s (fun t => t.link.rxHF = s.link.rxHF.set m.vc ((m.seq + 1) % 2 ^ 16) ∧ t.link.outHF = s.link.outHF.erase m ∧ (t.pod q).asked = (s.pod q).asked ++ [{ cmd := 7, payload := m.payload.drop 8, host := true, tag := leAt m.payload 2 2 }] ∧ t.regs = s.regs ∧ t.mem = s.mem)) ∧
  (∀ (s : State) (u : Sub) (m : Msg),
    s.get R.ISO_STAT_STATE = 2 →
    filterReason m false = 0 →
    m.ty = 0x70 →
    leAt m.payload 1 1 = 1 →
    leAt m.payload 4 1 = 9 →
    Answers (.xmPodRequest u m) s (fun t => t.link.rxHF = s.link.rxHF.set m.vc ((m.seq + 1) % 2 ^ 16) ∧ t.link.outHF = s.link.outHF.erase m ∧ t.pods = s.pods ∧ (t.link.outFH.getLast?).map Msg.payload = some (leBytes 1 (leAt m.payload 0 1) ++ leBytes 1 2 ++ leBytes 2 (leAt m.payload 2 2) ++ leBytes 1 9 ++ leBytes 1 0x81 ++ leBytes 2 0) ∧ t.regs = s.regs ∧ t.mem = s.mem)) ∧
  (∀ (s : State) (u : Sub) (m : Msg),
    s.get R.ISO_STAT_STATE = 2 →
    filterReason m false = 0 →
    m.ty = 0x71 →
    calKind m = 1 →
    17 ≤ m.payload.length ∧ m.payload.length ≤ 16 + imagePiece →
    leAt m.payload 2 2 < 8 →
    leAt m.payload 4 4 = 0 →
    m.payload.length - 16 < leAt m.payload 8 4 →
    Answers (.xmCalSetImage u true m) s (fun t => t.link.rxHF = s.link.rxHF.set m.vc ((m.seq + 1) % 2 ^ 16) ∧ t.link.outHF = s.link.outHF.erase m ∧ t.met.rx = some (leAt m.payload 2 2, leAt m.payload 8 4, m.payload.drop 16) ∧ t.regs = s.regs ∧ t.mem = s.mem)) ∧
  (∀ (s : State) (u : Sub) (m : Msg),
    s.get R.ISO_STAT_STATE = 2 →
    filterReason m false = 0 →
    m.ty = 0x71 →
    calKind m = 2 →
    m.payload.length = 16 →
    leAt m.payload 2 2 < 8 →
    s.met.sets.any (fun p => p.1 == leAt m.payload 2 2) = true →
    Answers (.xmCalSetDrop u m) s (fun t => t.link.rxHF = s.link.rxHF.set m.vc ((m.seq + 1) % 2 ^ 16) ∧ t.link.outHF = s.link.outHF.erase m ∧ t.met.sets = s.met.sets.filter (fun p => p.1 != leAt m.payload 2 2) ∧ t.mem = s.mem)) ∧
  (∀ (s : State) (u : Sub) (m : Msg),
    s.get R.ISO_STAT_STATE = 2 →
    filterReason m false = 0 →
    m.ty = 0x71 →
    calKind m = 5 →
    m.payload.length = 16 →
    leAt m.payload 2 2 < 8 →
    s.met.newSet.isSome = true →
    Answers (.xmCalStored u m) s (fun t => t.link.rxHF = s.link.rxHF.set m.vc ((m.seq + 1) % 2 ^ 16) ∧ t.link.outHF = s.link.outHF.erase m ∧ t.met.newSet = none ∧ (t.get R.MET_CAL_STAT_DUE_CAUSE).testBit 4 = false ∧ t.mem = s.mem)) ∧
  (∀ (s : State) (u : Sub) (m : Msg),
    s.get R.ISO_STAT_STATE = 2 →
    filterReason m false = 0 →
    m.ty = 0x72 →
    s.start.step = 0 →
    leAt m.payload 0 4 = 5 →
    s.upd.rx = [] →
    leAt m.payload 4 4 = 0 →
    m.payload.length - 32 ≤ leAt m.payload 8 4 →
    Answers (.xmFw u m) s (fun t => t.link.rxHF = s.link.rxHF.set m.vc ((m.seq + 1) % 2 ^ 16) ∧ t.link.outHF = s.link.outHF.erase m ∧ t.upd.rx = [{ code := 5, total := leAt m.payload 8 4, data := m.payload.drop 32 }] ∧ t.regs = s.regs ∧ t.mem = s.mem)) ∧
  (∀ (s : State) (u : Sub) (m : Msg),
    s.get R.ISO_STAT_STATE = 2 →
    filterReason m false ≠ 0 →
    Answers (.xmFw u m) s (fun t => t.link.fDrop = min (s.link.fDrop + 1) (2 ^ 32 - 1) ∧ t.link.fDropLast = dropWord 1 (filterReason m false) m ∧ t.link.outHF = s.link.outHF.erase m ∧ t.upd = s.upd ∧ t.regs = s.regs ∧ t.mem = s.mem))

/-- Refills of the sequencer and the generators, and the register tunnel at the field half (R45, R53, R55, R153, R154, R179, R446). -/
def Obligations.RefillsAndTunnel : Prop :=
  (∀ (s : State) (u : Sub) (m : Msg),
    s.get R.ISO_STAT_STATE = 2 →
    filterReason m false = 0 →
    m.ty = 0x50 →
    (({ s.atSeq u with link := { (s.atSeq u).link with outHF := (s.atSeq u).link.outHF.erase m } } : State).fieldSeq m).domOn (domF 2) = true →
    (({ s.atSeq u with link := { (s.atSeq u).link with outHF := (s.atSeq u).link.outHF.erase m } } : State).fieldSeq m).refillReason (leAt m.payload 0 8 % 2 ^ 40) ((m.payload.length - 16) / 144) = 0 →
    Answers (.xmRefillVec u m) s (fun t => t.link.rxHF = s.link.rxHF.set m.vc ((m.seq + 1) % 2 ^ 16) ∧ t.frameInfo (t.frameOf (segOf (leAt m.payload 0 8 % 2 ^ 40))) = some (segOf (leAt m.payload 0 8 % 2 ^ 40), idxOf (leAt m.payload 0 8 % 2 ^ 40) + ((m.payload.length - 16) / 144)) ∧ t.mem = s.mem)) ∧
  (∀ (s : State) (u : Sub) (m : Msg),
    s.get R.ISO_STAT_STATE = 2 →
    filterReason m false = 0 →
    m.ty = 0x50 →
    (({ s.atSeq u with link := { (s.atSeq u).link with outHF := (s.atSeq u).link.outHF.erase m } } : State).fieldSeq m).domOn (domF 2) = true →
    (({ s.atSeq u with link := { (s.atSeq u).link with outHF := (s.atSeq u).link.outHF.erase m } } : State).fieldSeq m).refillReason (leAt m.payload 0 8 % 2 ^ 40) ((m.payload.length - 16) / 144) ≠ 0 →
    Answers (.xmRefillVec u m) s (fun t => t.val R.SEQ_REFILL_REJ = min ((({ s.atSeq u with link := { (s.atSeq u).link with outHF := (s.atSeq u).link.outHF.erase m } } : State).fieldSeq m).val R.SEQ_REFILL_REJ + 1) (2 ^ 32 - 1) ∧ t.is R.SEQ_EVT_REFILL_REJ = true ∧ t.seq.frames = (({ s.atSeq u with link := { (s.atSeq u).link with outHF := (s.atSeq u).link.outHF.erase m } } : State).fieldSeq m).seq.frames ∧ t.mem = s.mem)) ∧
  (∀ (s : State) (u : Sub) (m : Msg),
    s.get R.ISO_STAT_STATE = 2 →
    filterReason m false = 0 →
    m.ty = 0x60 →
    s.genRefillReason (leAt m.payload 0 1) (leAt m.payload 2 2) (leAt m.payload 4 2) ((m.payload.length - 16) / 32) = 0 →
    Answers (.xmRefillGen u m) s (fun t => t.link.rxHF = s.link.rxHF.set m.vc ((m.seq + 1) % 2 ^ 16) ∧ (t.gen (leAt m.payload 0 1)).entries = putEntries (s.gen (leAt m.payload 0 1)).entries (leAt m.payload 2 2) (leAt m.payload 4 2) (m.payload.drop 16) ∧ t.val (R.GEN_WR_COUNT (leAt m.payload 0 1)) = (s.val (R.GEN_WR_COUNT (leAt m.payload 0 1)) + (leAt m.payload 4 2)) % 2 ^ 32 ∧ t.mem = s.mem ∧ RegsKept s t (fun a => a = R.GEN_WR_COUNT (leAt m.payload 0 1)))) ∧
  (∀ (s : State) (u : Sub) (m : Msg),
    s.get R.ISO_STAT_STATE = 2 →
    filterReason m false = 0 →
    m.ty = 0x60 →
    (leAt m.payload 0 1) ≤ 47 →
    s.genRefillReason (leAt m.payload 0 1) (leAt m.payload 2 2) (leAt m.payload 4 2) ((m.payload.length - 16) / 32) ≠ 0 →
    Answers (.xmRefillGen u m) s (fun t => t.is (R.GEN_EVT_REFILL_REJ (leAt m.payload 0 1)) = true ∧ (t.gen (leAt m.payload 0 1)).entries = (s.gen (leAt m.payload 0 1)).entries ∧ t.val (R.GEN_WR_COUNT (leAt m.payload 0 1)) = s.val (R.GEN_WR_COUNT (leAt m.payload 0 1)) ∧ t.mem = s.mem)) ∧
  (∀ (s : State) (u : Sub) (m : Msg),
    s.get R.ISO_STAT_STATE = 2 →
    filterReason m false = 0 →
    m.ty = 0x10 →
    tagReq (leAt m.payload 0 2) = none ∨ tunRange (leAt m.payload 4 4) (leAt m.payload 2 2) = true →
    Answers (.xmRegRd u m) s (fun t => (t.link.outFH.getLast?).map Msg.payload = some (rspBytes (leAt m.payload 0 2) 3 []) ∧ t.mem = s.mem)) ∧
  (∀ (s : State) (u : Sub) (m : Msg) (r : Requester),
    s.get R.ISO_STAT_STATE = 2 →
    filterReason m false = 0 →
    m.ty = 0x10 →
    tagReq (leAt m.payload 0 2) = some r →
    tunRange (leAt m.payload 4 4) (leAt m.payload 2 2) = false →
    (({ s.atSeq u with link := { (s.atSeq u).link with outHF := (s.atSeq u).link.outHF.erase m } } : State).fieldSeq m).tunSvc (leAt m.payload 4 4) (leAt m.payload 2 2) = (false, false) →
    (tunAddrs (leAt m.payload 4 4) (leAt m.payload 2 2)).all (fun b => (({ s.atSeq u with link := { (s.atSeq u).link with outHF := (s.atSeq u).link.outHF.erase m } } : State).fieldSeq m).powered b) = true →
    Answers (.xmRegRd u m) s (fun t => (t.link.outFH.getLast?).map Msg.payload = some (rspBytes (leAt m.payload 0 2) 0 ((({ s.atSeq u with link := { (s.atSeq u).link with outHF := (s.atSeq u).link.outHF.erase m } } : State).fieldSeq m).readAll (reqNo r) (tunAddrs (leAt m.payload 4 4) (leAt m.payload 2 2))).1) ∧ t.mem = s.mem)) ∧
  (∀ (s : State) (u : Sub) (m : Msg),
    s.get R.ISO_STAT_STATE = 2 →
    filterReason m false = 0 →
    m.ty = 0x11 →
    tagReq (leAt m.payload 0 2) = none →
    Answers (.xmRegWr u m) s (fun t => (t.link.outFH.getLast?).map Msg.payload = some (rspBytes (leAt m.payload 0 2) 3 []) ∧ t.mem = s.mem)) ∧
  (∀ (s : State) (u : Sub) (m : Msg),
    s.get R.ISO_STAT_STATE = 2 →
    filterReason m false = 0 →
    m.ty = 0x11 →
    tagReq (leAt m.payload 0 2) = some .host →
    tunRange (leAt m.payload 4 4) (leAt m.payload 2 2) = false →
    (leAt m.payload 2 2) = ((List.range ((m.payload.length - 8) / 4)).map (fun i => wordAt (m.payload.drop 8) i)).length →
    ((({ s.atSeq u with link := { (s.atSeq u).link with outHF := (s.atSeq u).link.outHF.erase m } } : State).fieldSeq m).tunSvc (leAt m.payload 4 4) (leAt m.payload 2 2)).1 = false →
    Answers (.xmRegWr u m) s (fun t => (t.link.outFH.getLast?).map Msg.payload = some (rspBytes (leAt m.payload 0 2) (worstStatus ((({ s.atSeq u with link := { (s.atSeq u).link with outHF := (s.atSeq u).link.outHF.erase m } } : State).fieldSeq m).writeAll u .host ((tunAddrs (leAt m.payload 4 4) (leAt m.payload 2 2)).zip ((List.range ((m.payload.length - 8) / 4)).map (fun i => wordAt (m.payload.drop 8) i)))).1) []) ∧ t.regs = ((({ s.atSeq u with link := { (s.atSeq u).link with outHF := (s.atSeq u).link.outHF.erase m } } : State).fieldSeq m).writeAll u .host ((tunAddrs (leAt m.payload 4 4) (leAt m.payload 2 2)).zip ((List.range ((m.payload.length - 8) / 4)).map (fun i => wordAt (m.payload.drop 8) i)))).2.regs)) ∧
  (∀ (s : State) (u : Sub) (m : Msg),
    s.get R.ISO_STAT_STATE = 2 →
    filterReason m false = 0 →
    m.ty = 0x11 →
    (leAt m.payload 0 2) / 8192 = 7 →
    (leAt m.payload 4 4) = R.FCTL_FATAL →
    Answers (.xmRegWr u m) s (fun t => t.is R.FCTL_STAT_FATAL = true ∧ t.get R.FCTL_STAT_FATAL_ID = leAt m.payload 8 1 ∧ (t.link.outFH.getLast?).map Msg.payload = some (rspBytes (leAt m.payload 0 2) 0 []) ∧ t.mem = s.mem)) ∧
  (∀ (s : State) (u : Sub) (id : Fin 256) (m : Msg),
    s.link.outHF.find? (isFatalWrite id) = some m →
    s.get R.ISO_STAT_STATE = 2 →
    filterReason m false = 0 →
    Answers (.fctlFatal u id) s (fun t => t.is R.FCTL_STAT_FATAL = true ∧ t.get R.FCTL_STAT_FATAL_ID = id.val ∧ t.link.outHF = s.link.outHF.erase m ∧ t.mem = s.mem))

/-- Reads and writes of registers (R5, R6, R7, R10, R11, R19, R429). -/
def Obligations.RegisterAccess : Prop :=
  (∀ (s : State) (u : Sub) (v : Word) (h : Fin 48),
    s.domOn (domF 11) = true →
    s.linkUp = true →
    s.mode ≠ 0 →
    Answers (.registerWrite u .host (R.TLY_H_SEL h) v) s (fun t => t.val (R.TLY_H_SEL h) = v.toNat % 8192 ∧ t.mem = s.mem ∧ RegsKept s t (fun a => a = R.TLY_H_SEL h))) ∧
  (∀ (s : State) (u : Sub) (r : Requester) (v : Word),
    s.powered R.LDG_RD_IDX_LO = true →
    Answers (.registerWrite u r R.LDG_RD_IDX_LO v) s (fun t => t.val R.LDG_RD_IDX_LO = v.toNat ∧ t.mem = s.mem ∧ RegsKept s t (fun a => a = R.LDG_RD_IDX_LO))) ∧
  (∀ (s : State) (u : Sub) (r : Requester) (a : Nat) (v : Word),
    isFieldAddr a = false →
    (rowAt a).isNone = true ∨ s.powered a = false →
    Answers (.registerWrite u r a v) s (fun t => t.regs = s.regs ∧ t.clr = s.clr ∧ t.hdma = s.hdma ∧ t.mem = s.mem)) ∧
  (∀ (s : State) (u : Sub) (a : Nat) (v : Word),
    isFieldAddr a = true →
    s.mode = 0 →
    Answers (.registerWrite u .host a v) s (fun t => t.val R.SYS_SEALED_REJ = min (s.val R.SYS_SEALED_REJ + 1) (2 ^ 32 - 1) ∧ t.link = s.link ∧ t.mem = s.mem ∧ RegsKept s t (fun a => a = R.SYS_SEALED_REJ ∨ a = R.SYS_EVT))) ∧
  (∀ (s : State) (u : Sub) (a : Nat),
    isFieldAddr a = false →
    rsPartners a = [] →
    (s.atH u).snapOf 0 a = none →
    Answers (.rsRead u .host a) s (fun t => t.io.host = (s.atH u).view a ∧ t.regs = s.regs ∧ t.mem = s.mem)) ∧
  (∀ (s : State) (u : Sub),
    s.domOn 0 = true →
    Answers (.rsRead u .host R.TIME_NOW_LO) s (fun t => t.io.host = BitVec.ofNat 32 (s.atH u).hNow.pack ∧ t.snapOf 0 R.TIME_NOW_HI = some (BitVec.ofNat 32 ((s.atH u).hNow.pack / 2 ^ 32)) ∧ t.regs = s.regs ∧ t.mem = s.mem)) ∧
  (∀ (s : State) (u : Sub) (a : Nat),
    isFieldAddr a = false →
    s.powered a = false →
    (rowAt a).isSome = true →
    (domainOf a).isSome = true →
    Answers (.rsRead u .host a) s (fun t => t.io.host = 0xFFFFFFFF#32 ∧ t.regs = s.regs ∧ t.mem = s.mem)) ∧
  (∀ (s : State) (u : Sub) (a : Nat),
    isFieldAddr a = true →
    s.mode = 0 →
    Answers (.rsRead u .host a) s (fun t => t.io.host = 0xFFFFFFFF#32 ∧ t.val R.SYS_SEALED_REJ = min (s.val R.SYS_SEALED_REJ + 1) (2 ^ 32 - 1) ∧ t.link = s.link ∧ t.mem = s.mem ∧ RegsKept s t (fun a => a = R.SYS_SEALED_REJ ∨ a = R.SYS_EVT))) ∧
  (∀ (s : State) (u : Sub) (x : Word) (y : Word),
    s.powered R.LDG_RD_IDX_LO = true →
    Answers (.host64bitAccess u R.LDG_RD_IDX_LO (some (x, y))) s (fun t => t.val64 R.LDG_RD_IDX_LO = x.toNat + 2 ^ 32 * y.toNat ∧ t.mem = s.mem ∧ RegsKept s t (fun a => a = R.LDG_RD_IDX_LO ∨ a = R.LDG_RD_IDX_HI))) ∧
  (∀ (s : State) (u : Sub) (a : Nat),
    a % 8 = 0 →
    isFieldAddr a = false →
    isFieldAddr (a + 4) = false →
    (domainOf a).isSome = true →
    (domainOf (a + 4)).isSome = true →
    rsPartners a = [] →
    Answers (.host64bitAccess u a none) s (fun t => t.io.host = ((s.atH u).readReg 0 (a + 4)).1 ∧ t.regs = s.regs ∧ t.mem = s.mem)) ∧
  (∀ (s : State) (u : Sub) (read : Bool),
    s.powered R.HDMA_BAR0_ERR = true →
    Answers (.bar0BadAccess u read) s (fun t => t.val R.HDMA_BAR0_ERR = min (s.val R.HDMA_BAR0_ERR + 1) (2 ^ 32 - 1) ∧ t.is R.HDMA_EVT_BAR0_ERR = true ∧ t.io.host = (if read then 0xFFFFFFFF#32 else s.io.host) ∧ t.mem = s.mem ∧ RegsKept s t (fun a => a = R.HDMA_BAR0_ERR ∨ a = R.HDMA_EVT)))

/-- Accesses of the host half through the register tunnel (R21, R45, R49, R51, R429). -/
def Obligations.TunnelOfTheHostHalf : Prop :=
  (∀ (s : State) (u : Sub) (a : Nat) (w : Word),
    isFieldAddr a = true →
    a % 4 = 0 →
    (domainOf a).isSome = true →
    s.mode ≠ 0 →
    s.link.inFlight.length < 32 →
    s.link.waiting = [] →
    Answers (.tunnelAccess u .host a 1 (some [w])) s (fun t => t.link.inFlight = s.link.inFlight ++ [{ req := 0, tag := s.freeTag 0, write := true, addr := a, count := 1, data := [w], issued := (s.atH u).hU, since := (s.atH u).hU, left := 2048000 }] ∧ t.mem = s.mem)) ∧
  (∀ (s : State) (u : Sub) (a : Nat) (n : Nat),
    isFieldAddr a = true →
    a % 4 = 0 →
    (domainOf a).isSome = true →
    n ≠ 0 →
    n ≤ 64 →
    32 ≤ s.link.inFlight.length ∨ s.link.waiting ≠ [] →
    Answers (.tunnelAccess u .mgmt a n none) s (fun t => t.link.waiting.length = s.link.waiting.length + 1 ∧ t.link.inFlight = s.link.inFlight ∧ t.regs = s.regs ∧ t.mem = s.mem)) ∧
  (∀ (s : State) (u : Sub) (a : Nat) (n : Nat),
    isFieldAddr a = true →
    a % 4 = 0 →
    (domainOf a).isSome = true →
    s.mode = 0 →
    Answers (.tunnelAccess u .host a n none) s (fun t => t.io.host = 0xFFFFFFFF#32 ∧ t.val R.SYS_SEALED_REJ = min (s.val R.SYS_SEALED_REJ + 1) (2 ^ 32 - 1) ∧ t.link = s.link ∧ t.mem = s.mem ∧ RegsKept s t (fun a => a = R.SYS_SEALED_REJ ∨ a = R.SYS_EVT))) ∧
  (∀ (s : State) (u : Sub) (m : Msg) (x : Tun),
    s.get R.ISO_STAT_STATE = 2 →
    filterReason m true = 0 →
    m.ty = 0x12 →
    leAt m.payload 0 2 / 8192 ≠ 7 →
    s.link.inFlight.find? (fun x => x.tag == leAt m.payload 0 2) = some x →
    x.req = 0 →
    x.write = false →
    8 < m.payload.length →
    leAt m.payload 4 4 < 8 →
    s.start.step = 0 →
    s.start.waiting = none →
    s.link.waiting = [] →
    Answers (.xmRegRsp u m) s (fun t => t.io.host = BitVec.ofNat 32 (leAt m.payload (m.payload.length - 4) 4) ∧ t.link.inFlight = s.link.inFlight.filter (fun y => y.tag != x.tag) ∧ t.get R.ISO_TUN_STAT_LAST_STATUS = leAt m.payload 4 4 ∧ t.mem = s.mem)) ∧
  (∀ (s : State) (u : Sub) (tag : Nat) (x : Tun),
    (s.atH u).tunOverdue tag = some x →
    x.req = 0 →
    x.write = false →
    s.start.step = 0 →
    s.start.waiting = none →
    s.link.waiting = [] →
    Answers (.tunnelTimeout u tag) s (fun t => t.io.host = 0xFFFFFFFF#32 ∧ t.get R.ISO_TUN_STAT_LAST_STATUS = 4 ∧ t.val R.ISO_TUN_TIMEOUT = min (s.val R.ISO_TUN_TIMEOUT + 1) (2 ^ 32 - 1) ∧ t.is R.ISO_EVT_TUN_TIMEOUT = true ∧ t.link.inFlight = s.link.inFlight.filter (fun y => y.tag != x.tag) ∧ t.mem = s.mem ∧ RegsKept s t (fun a => a = R.ISO_TUN_STAT ∨ a = R.ISO_TUN_TIMEOUT ∨ a = R.ISO_EVT)))

/-- The barrier link: its loss, retraining, attempts, and replays (R22, R24, R28, R29, R54, R60). -/
def Obligations.BarrierLink : Prop :=
  (∀ (s : State) (u : Sub),
    s.linkUp = true →
    Answers (.linkDown u) s (fun t => t.get R.ISO_STAT_STATE = 1 ∧ t.get R.ISO_STAT_FH_WIDTH = 0 ∧ t.link.fUp = false ∧ t.link.training = true ∧ t.link.outHF = [] ∧ t.faultPend 0x14 = true ∧ t.is R.ISO_EVT_LINK_DOWN = true ∧ t.val R.ISO_TRAIN_COUNT = min (s.val R.ISO_TRAIN_COUNT + 1) (2 ^ 32 - 1) ∧ t.link.hold = some (((s.atH u).atF u).fU + s.linkHoldTicks * unitsPerTick) ∧ t.mem = s.mem)) ∧
  (∀ (s : State) (u : Sub),
    s.powered R.ISO_CTRL = true →
    s.linkUp = true →
    Answers (.isoRetrain u) s (fun t => t.get R.ISO_STAT_STATE = 1 ∧ t.get R.ISO_STAT_FH_WIDTH = 0 ∧ t.link.fUp = false ∧ t.link.training = true ∧ t.link.outHF = [] ∧ t.faultPend 0x14 = true ∧ t.is R.ISO_EVT_LINK_DOWN = true ∧ t.val R.ISO_TRAIN_COUNT = min (s.val R.ISO_TRAIN_COUNT + 1) (2 ^ 32 - 1) ∧ t.mem = s.mem)) ∧
  (∀ (s : State) (u : Sub),
    s.powered R.ISO_CTRL = true →
    s.linkUp = false →
    Answers (.isoRetrain u) s (fun t => t.get R.ISO_STAT_STATE = 1 ∧ t.link.training = true ∧ t.link.attemptTick = (s.atH u).hAbs ∧ t.val R.ISO_TRAIN_COUNT = min (s.val R.ISO_TRAIN_COUNT + 1) (2 ^ 32 - 1) ∧ t.mem = s.mem ∧ RegsKept s t (fun a => a = R.ISO_STAT ∨ a = R.ISO_TRAIN_COUNT ∨ a = R.ISO_EVT))) ∧
  (∀ (s : State) (u : Sub),
    s.linkUp = false →
    s.link.training = false →
    s.powered R.ISO_CTRL = true →
    s.link.attemptTick + 10000 ≤ (s.atH u).hAbs →
    Answers (.trainingRetryTimer u) s (fun t => t.get R.ISO_STAT_STATE = 1 ∧ t.link.training = true ∧ t.link.attemptTick = (s.atH u).hAbs ∧ t.val R.ISO_TRAIN_COUNT = min (s.val R.ISO_TRAIN_COUNT + 1) (2 ^ 32 - 1) ∧ t.mem = s.mem ∧ RegsKept s t (fun a => a = R.ISO_STAT ∨ a = R.ISO_TRAIN_COUNT ∨ a = R.ISO_EVT))) ∧
  (∀ (s : State) (u : Sub) (fh : Nat) (hf : Nat),
    s.link.training = true →
    s.start.step = 0 →
    widthOf fh = 0 ∨ widthOf hf = 0 →
    Answers (.trainingDone u fh hf) s (fun t => t.get R.ISO_STAT_STATE = 0 ∧ t.link.training = false ∧ t.mem = s.mem ∧ RegsKept s t (fun a => a = R.ISO_STAT))) ∧
  (∀ (s : State) (u : Sub) (fh : Nat) (hf : Nat),
    s.link.training = true →
    s.start.step = 0 →
    widthOf fh ≠ 0 →
    widthOf hf ≠ 0 →
    Answers (.trainingDone u fh hf) s (fun t => t.get R.ISO_STAT_STATE = 2 ∧ t.get R.ISO_STAT_FH_WIDTH = widthOf fh ∧ t.get R.ISO_STAT_HF_WIDTH = widthOf hf ∧ t.val R.ISO_BUDGET_FH = widthBudget (widthOf fh) ∧ t.link.rxFH = List.replicate 8 0 ∧ t.link.rxHF = List.replicate 8 0 ∧ t.link.hold = none ∧ t.time.fAwaitLoad = true ∧ t.time.fAligned = false ∧ t.is R.ISO_EVT_LINK_UP = true ∧ t.mem = s.mem)) ∧
  (∀ (s : State) (u : Sub) (fh : Bool) (n : Fin 4) (lost : Option Msg),
    s.linkUp = true →
    0 < n.val →
    n.val < 3 ∨ lost = none →
    Answers (.frameReplay u fh n lost) s (fun t => t.val R.ISO_REPLAY = (s.val R.ISO_REPLAY + n.val) % 2 ^ 32 ∧ t.val R.ISO_CRC_ERR = min (s.val R.ISO_CRC_ERR + n.val) (2 ^ 32 - 1) ∧ t.link = s.link ∧ t.mem = s.mem ∧ RegsKept s t (fun a => a = R.ISO_REPLAY ∨ a = R.ISO_CRC_ERR ∨ a = R.ISO_EVT))) ∧
  (∀ (s : State) (u : Sub) (m : Msg),
    s.linkUp = true →
    Answers (.frameReplay u true 3 (some m)) s (fun t => t.val R.ISO_REPLAY = (s.val R.ISO_REPLAY + 3) % 2 ^ 32 ∧ t.val R.ISO_CRC_ERR = min (s.val R.ISO_CRC_ERR + 4) (2 ^ 32 - 1) ∧ t.link.outFH = s.link.outFH.erase m ∧ t.link.outHF = s.link.outHF ∧ t.mem = s.mem ∧ RegsKept s t (fun a => a = R.ISO_REPLAY ∨ a = R.ISO_CRC_ERR ∨ a = R.ISO_EVT))) ∧
  (∀ (s : State) (u : Sub),
    s.powered R.ISO_CTRL = true →
    Answers (.isoClrStats u) s (fun t => (∀ a ∈ isoSats, t.val a = 0) ∧ t.val R.ISO_TUN_LAT_MAX = 0 ∧ t.mem = s.mem ∧ RegsKept s t (fun a => a ∈ isoSats ∨ a = R.ISO_TUN_LAT_MAX)))

/-- Lane failures, reconfiguration, shedding, and the expiry of the link hold (R25, R26, R27, R29, R433). -/
def Obligations.LanesAndHold : Prop :=
  (∀ (s : State) (u : Sub) (k : Idx16),
    s.linkUp = true →
    (s.get R.ISO_LANES_USED_FH).testBit k.val = false →
    Answers (.laneFailure u true k) s (fun t => t.get R.ISO_LANES_GOOD_FH = (s.get R.ISO_LANES_GOOD_FH &&& (65535 ^^^ 2 ^ k.val)) ∧ t.get R.ISO_STAT_STATE = s.get R.ISO_STAT_STATE ∧ t.link = s.link ∧ t.mem = s.mem ∧ RegsKept s t (fun a => a = R.ISO_LANES_GOOD))) ∧
  (∀ (s : State) (u : Sub) (k : Idx16),
    s.get R.ISO_STAT_STATE = 2 →
    (s.get R.ISO_LANES_USED_FH).testBit k.val = true →
    12 ≤ popCount 16 (s.get R.ISO_LANES_GOOD_FH &&& (65535 ^^^ 2 ^ k.val)) →
    Answers (.laneFailure u true k) s (fun t => t.get R.ISO_LANES_GOOD_FH = (s.get R.ISO_LANES_GOOD_FH &&& (65535 ^^^ 2 ^ k.val)) ∧ t.get R.ISO_STAT_STATE = 3 ∧ t.link.outFH = s.link.outFH ∧ t.link.outHF = s.link.outHF ∧ t.mem = s.mem ∧ RegsKept s t (fun a => a = R.ISO_LANES_GOOD ∨ a = R.ISO_STAT))) ∧
  (∀ (s : State) (u : Sub),
    s.get R.ISO_STAT_STATE = 3 →
    s.get R.ISO_STAT_FH_WIDTH = 16 →
    s.get R.ISO_LANES_USED_FH &&& (65535 ^^^ s.get R.ISO_LANES_GOOD_FH) ≠ 0 →
    Answers (.reconfigDone u) s (fun t => t.get R.ISO_STAT_STATE = 2 ∧ t.get R.ISO_STAT_FH_WIDTH = 12 ∧ t.get R.ISO_LANES_USED_FH = usedLanes (s.get R.ISO_LANES_GOOD_FH) 12 ∧ t.val R.ISO_BUDGET_FH = 375000 ∧ t.is R.ISO_STAT_DEGRADED = true ∧ t.is R.ISO_EVT_DEGRADED = true ∧ t.link.shedDue = true ∧ t.faultPend 0x15 = true ∧ t.mem = s.mem)) ∧
  (∀ (s : State) (u : Sub),
    s.get R.ISO_STAT_STATE = 3 →
    s.get R.ISO_LANES_USED_FH &&& (65535 ^^^ s.get R.ISO_LANES_GOOD_FH) = 0 →
    s.get R.ISO_LANES_USED_HF &&& (65535 ^^^ s.get R.ISO_LANES_GOOD_HF) = 0 →
    Answers (.reconfigDone u) s (fun t => t.get R.ISO_STAT_STATE = 2 ∧ t.get R.ISO_STAT_FH_WIDTH = s.get R.ISO_STAT_FH_WIDTH ∧ t.get R.ISO_LANES_USED_FH = s.get R.ISO_LANES_USED_FH ∧ t.link.shedDue = s.link.shedDue ∧ t.mem = s.mem)) ∧
  (∀ (s : State),
    s.link.shedDue = true →
    s.time.fUnit = 0 →
    s.fhLoad s.mode ≤ s.fhBudget →
    Answers .shed s (fun t => t.link.shedDue = false ∧ t.link.shed = s.link.shed ∧ t.regs = s.regs ∧ t.mem = s.mem)) ∧
  (∀ (s : State),
    s.link.shedDue = true →
    s.time.fUnit = 0 →
    Answers .shed s (fun t => t.link.shedDue = false ∧ (∀ k ∈ s.link.shed, k ∈ t.link.shed) ∧ t.mem = s.mem)) ∧
  (∀ (s : State) (u : Sub) (a : Nat),
    s.link.hold = some a →
    s.link.fUp = false →
    a ≤ ((s.atH u).atF u).fU →
    Answers (.linkHoldExpiry u) s (fun t => t.link.hold = none ∧ t.link.holdExpired = true ∧ t.is R.SYS_DRIVE_INH_INH = true ∧ t.is R.SYS_DRIVE_INH_LINK_HOLD = true ∧ (∀ g : Fin 48, (t.gen g).rest = true) ∧ t.mem = s.mem))

/-- Power domains are requested, come on and go off (R17, R18, R427). -/
def Obligations.PowerDomains : Prop :=
  (∀ (s : State) (u : Sub) (v : Word) (d : Nat),
    (∀ e ∈ domBits, e ≠ 0 → (s.rd R.SYS_PWR_REQ).getLsbD e = (v.getLsbD e && e != d)) ∧ d ∈ domBits ∧ d ≠ 0 →
    v.getLsbD d = true →
    ∀ e ∈ domBits, e ≠ 0 → e ≠ d → v.getLsbD e = true →
    (domNeeds d).all (fun r => s.domOn r) = true →
    Answers (.powerDomainRequest u v) s (fun t => (t.rd R.SYS_PWR_REQ).getLsbD d = true ∧ t.rd R.SYS_PWR_STAT = s.rd R.SYS_PWR_STAT ∧ t.mem = s.mem ∧ RegsKept s t (fun a => a = R.SYS_PWR_REQ))) ∧
  (∀ (s : State) (u : Sub) (v : Word) (d : Nat),
    (∀ e ∈ domBits, e ≠ 0 → (s.rd R.SYS_PWR_REQ).getLsbD e = (v.getLsbD e && e != d)) ∧ d ∈ domBits ∧ d ≠ 0 →
    v.getLsbD d = true →
    ∀ e ∈ domBits, e ≠ 0 → e ≠ d → v.getLsbD e = true →
    (domNeeds d).all (fun r => s.domOn r) = false →
    Answers (.powerDomainRequest u v) s (fun t => t.is R.SYS_EVT_PWR_REFUSED = true ∧ t.rd R.SYS_PWR_REQ = s.rd R.SYS_PWR_REQ ∧ t.mem = s.mem ∧ RegsKept s t (fun a => a = R.SYS_EVT))) ∧
  (∀ (s : State) (u : Sub) (v : Word) (d : Nat),
    d ∈ domBits ∧ d ≠ 0 ∧ fieldDom d = false →
    v.getLsbD d = false →
    ∀ e ∈ domBits, e ≠ 0 → e ≠ d → v.getLsbD e = true ∧ (s.rd R.SYS_PWR_REQ).getLsbD e = true →
    Answers (.powerDomainRequest u v) s (fun t => (t.rd R.SYS_PWR_REQ).getLsbD d = false ∧ (t.rd R.SYS_PWR_STAT).getLsbD d = false ∧ (∀ e ∈ domBits, domUses e d = true → (t.rd R.SYS_PWR_STAT).getLsbD e = false))) ∧
  (∀ (s : State) (u : Sub) (d : Fin 21),
    s.start.power = true →
    s.start.step = 0 →
    s.is R.SYS_BOOT_RECOVERY = false →
    d.val ∈ domBits →
    d.val ≠ 0 →
    d.val ≠ domH 3 →
    (s.rd R.SYS_PWR_REQ).getLsbD d.val = true →
    s.domOn d.val = false →
    s.needsOn d.val = true →
    fieldDom d.val = false ∨ s.linkUp = true →
    s.quietHolds d.val = false →
    s.hotHolds d.val = false →
    Answers (.domainPowered u d) s (fun t => (t.rd R.SYS_PWR_STAT).getLsbD d.val = true ∧ (∀ e : Fin 32, e.val ≠ d.val → (t.rd R.SYS_PWR_STAT).getLsbD e.val = (s.rd R.SYS_PWR_STAT).getLsbD e.val) ∧ t.mem = s.mem)) ∧
  (∀ (s : State) (u : Sub),
    (s.rd R.SYS_PWR_REQ).getLsbD (domH 3) = true →
    s.domOn (domH 3) = false →
    s.needsOn (domH 3) = true →
    s.hotHolds (domH 3) = false →
    Answers (.h3TrainingDone u) s (fun t => t.domOn (domH 3) = true ∧ (∀ e : Fin 32, e.val ≠ domH 3 → (t.rd R.SYS_PWR_STAT).getLsbD e.val = (s.rd R.SYS_PWR_STAT).getLsbD e.val) ∧ t.mem = s.mem ∧ RegsKept s t (fun a => a = R.SYS_PWR_STAT)))

/-- The quiet state of SENTINEL (R302, R303). -/
def Obligations.QuietState : Prop :=
  (∀ (s : State) (u : Sub) (v : Word),
    s.powered R.GRD_QUIET = true →
    s.mode = 7 →
    s.is R.GRD_QUIET_ACTIVE = false →
    ((List.range 48).any (fun g => s.is (R.GEN_CTRL_EN g)) || s.seqState == seqRunning || s.seqState == seqPaused) = false →
    Answers (.quietRequest u v) s (fun t => t.is R.GRD_QUIET_REQ = true ∧ t.grd.enterDue = true ∧ t.get R.GRD_QUIET_KEEP_H4 = fieldOf v 2 1 ∧ t.mem = s.mem ∧ RegsKept s t (fun a => a = R.GRD_QUIET))) ∧
  (∀ (s : State) (u : Sub) (v : Word),
    s.powered R.GRD_QUIET = true →
    s.mode = 7 →
    s.is R.GRD_QUIET_ACTIVE = false →
    ((List.range 48).any (fun g => s.is (R.GEN_CTRL_EN g)) || s.seqState == seqRunning || s.seqState == seqPaused) = true →
    Answers (.quietRequest u v) s (fun t => t.is R.GRD_QUIET_REQ = false ∧ t.is R.GRD_EVT_QUIET_REFUSED = true ∧ t.grd = s.grd ∧ t.mem = s.mem ∧ RegsKept s t (fun a => a = R.GRD_QUIET ∨ a = R.GRD_EVT))) ∧
  (∀ (s : State),
    s.grd.enterDue = true →
    s.time.fUnit = 0 →
    Answers .quietEnter s (fun t => t.is R.GRD_QUIET_ACTIVE = true ∧ t.grd.enterDue = false ∧ t.domOn (domF 11) = false ∧ t.domOn (domF 2) = false)) ∧
  (∀ (s : State) (u : Sub) (w : Nat) (a : Nat),
    s.grd.wake = some (w, a) →
    w < 64 →
    s.is R.GRD_QUIET_ACTIVE = true →
    s.time.fTick ≠ a →
    Answers (.wake u) s (fun t => t.is R.GRD_QUIET_ACTIVE = false ∧ t.is R.GRD_QUIET_REQ = false ∧ t.is R.GRD_EVT_WAKE = true ∧ t.grd.wake = none ∧ t.grd.restoreBy = some (absTick s.time.fEra s.time.fTick + 500) ∧ t.mem = s.mem)) ∧
  (∀ (s : State) (u : Sub),
    s.powered R.GRD_QUIET = true →
    s.is R.GRD_QUIET_ACTIVE = true →
    Answers (.quietEnd u) s (fun t => t.is R.GRD_QUIET_ACTIVE = false ∧ t.is R.GRD_QUIET_REQ = false ∧ t.grd.restoreBy = some (absTick s.time.fEra s.time.fTick + 500) ∧ t.mem = s.mem ∧ RegsKept s t (fun a => a = R.GRD_QUIET))) ∧
  (∀ (s : State) (u : Sub) (l : Lane) (w : Nat),
    s.grd.restoreBy.isSome = true →
    domBits.all (fun d => !s.grd.off.testBit d || s.domOn d) = true →
    s.grd.streams = [(l.val, w)] →
    s.grd.frames = [] →
    s.grd.hists = [] →
    s.grd.maps = [] →
    s.grd.pairs = [] →
    s.grd.groups = [] →
    w < 2 ^ 32 →
    Answers (.quietRestoreComplete u) s (fun t => t.val (R.LANE_STREAM l.val) = w ∧ t.grd.restoreBy = none ∧ t.grd.off = 0 ∧ t.grd.streams = [] ∧ t.get R.TIME_PLAN_STAT_RESULT = 1 ∧ t.plan.lastId = s.plan.lastId + 1 ∧ t.mem = s.mem))

/-- Clock sources, beacons, the step of the field half, health and overruns (R44, R57, R58, R59, R60, R62, R66, R68, R90). -/
def Obligations.ClockSourcesAndBeacons : Prop :=
  (∀ (s : State) (u : Sub) (src : Fin 4),
    s.powered R.TIME_CTRL = true →
    s.get R.TIME_CTRL_SRC ≠ src.val →
    Answers (.clockSourceSelect u src) s (fun t => t.get R.TIME_CTRL_SRC = src.val ∧ t.get R.TIME_STAT_SRC_ACTIVE = 0 ∧ t.is R.TIME_STAT_PLL_LOCK = false ∧ t.is R.TIME_STAT_HOLDOVER = false ∧ t.mem = s.mem ∧ RegsKept s t (fun a => a = R.TIME_CTRL ∨ a = R.TIME_STAT))) ∧
  (∀ (s : State) (u : Sub) (src : Fin 4),
    s.powered R.TIME_CTRL = true →
    s.get R.TIME_CTRL_SRC = src.val →
    Answers (.clockSourceSelect u src) s (fun t => t.regs = s.regs ∧ t.mem = s.mem)) ∧
  (∀ (s : State) (u : Sub),
    s.powered R.TIME_CTRL = true →
    s.get R.TIME_CTRL_SRC ≠ 0 →
    s.is R.TIME_STAT_PLL_LOCK = false →
    s.is R.TIME_STAT_HOLDOVER = false →
    Answers (.pllLock u) s (fun t => t.get R.TIME_STAT_SRC_ACTIVE = s.get R.TIME_CTRL_SRC ∧ t.is R.TIME_STAT_PLL_LOCK = true ∧ t.is R.TIME_STAT_HOLDOVER = false ∧ t.is R.TIME_EVT_REF_LOCK = true ∧ t.mem = s.mem ∧ RegsKept s t (fun a => a = R.TIME_STAT ∨ a = R.TIME_EVT))) ∧
  (∀ (s : State) (u : Sub),
    s.powered R.TIME_CTRL = true →
    s.get R.TIME_CTRL_SRC ≠ 0 →
    s.is R.TIME_STAT_HOLDOVER = false →
    Answers (.refLost u) s (fun t => t.get R.TIME_STAT_SRC_ACTIVE = 0 ∧ t.is R.TIME_STAT_PLL_LOCK = false ∧ t.is R.TIME_STAT_HOLDOVER = true ∧ t.is R.TIME_EVT_REF_LOST = true ∧ t.faultPend 0x04 = true ∧ t.mem = s.mem)) ∧
  (∀ (s : State) (u : Sub),
    s.powered R.TIME_CTRL = true →
    s.is R.TIME_STAT_HOLDOVER = true →
    Answers (.holdoverReturn u) s (fun t => t.get R.TIME_STAT_SRC_ACTIVE = s.get R.TIME_CTRL_SRC ∧ t.is R.TIME_STAT_PLL_LOCK = true ∧ t.is R.TIME_STAT_HOLDOVER = false ∧ t.is R.TIME_EVT_REF_LOCK = true ∧ t.mem = s.mem ∧ RegsKept s t (fun a => a = R.TIME_STAT ∨ a = R.TIME_EVT))) ∧
  (∀ (s : State) (u : Sub),
    s.powered R.TIME_CTRL = true →
    Answers (.timeClrStats u) s (fun t => t.val R.TIME_OVERRUN = 0 ∧ t.mem = s.mem ∧ RegsKept s t (fun a => a = R.TIME_OVERRUN))) ∧
  (∀ (s : State),
    s.time.hUnit = 0 →
    s.time.hTick % 100 = 0 →
    s.linkUp = true →
    Answers .hostBeaconSend s (fun t => (t.link.outHF.drop s.link.outHF.length).map Msg.ty = [0x01, 0x03] ∧ t.link.outHF.take s.link.outHF.length = s.link.outHF ∧ ((t.link.outHF.drop s.link.outHF.length).head?).map Msg.payload = some (timePayload 2 s.era (s.val64 R.TIME_EPOCH_LO) (s.val R.TIME_PATH)) ∧ t.mem = s.mem ∧ RegsKept s t (fun a => a = R.ISO_TX_BYTES_LO ∨ a = R.ISO_TX_BYTES_LO + 4))) ∧
  (∀ (s : State),
    s.time.fStep ≠ 0 →
    s.time.fUnit = 0 →
    Answers .fieldStep s (fun t => t.time.fTick = ((s.fU : Int) + s.time.fStep).toNat / unitsPerTick % ticksPerEra ∧ t.time.fUnit = ((s.fU : Int) + s.time.fStep).toNat % unitsPerTick ∧ t.time.fEra = ((s.fU : Int) + s.time.fStep).toNat / unitsPerTick / ticksPerEra ∧ t.time.fStep = 0 ∧ t.is R.TIME_EVT_FIELD_STEP = true ∧ t.mem = s.mem)) ∧
  (∀ (s : State),
    s.powered R.FCTL_STAT = true →
    s.time.fUnit < 3968 * 256 →
    s.fault.field = [] →
    s.get R.ISO_STAT_STATE = 2 →
    Answers .healthCompose s (fun t => (t.link.outFH.getLast?).map Msg.ty = some 0x03 ∧ t.link.outFH.length = s.link.outFH.length + 1 ∧ t.plan.late = false ∧ t.time.fUnit = 3968 * 256 ∧ t.regs = s.regs ∧ t.mem = s.mem)) ∧
  (∀ (s : State),
    s.powered R.FCTL_STAT = true →
    s.time.fUnit = 0 →
    s.time.overran = false →
    s.time.streak < 15 →
    Answers .tickOverrun s (fun t => t.val R.TIME_OVERRUN = min (s.val R.TIME_OVERRUN + 1) (2 ^ 32 - 1) ∧ t.val R.TIME_OVR_STREAK = min (s.val R.TIME_OVR_STREAK + 1) (2 ^ 32 - 1) ∧ t.val64 R.TIME_OVR_LAST_LO = s.fNow.pack ∧ t.time.deferring = true ∧ t.time.overran = true ∧ t.time.streak = s.time.streak + 1 ∧ t.is R.TIME_EVT_OVERRUN = true ∧ t.is R.TIME_EVT_OVERRUN_STREAK = s.is R.TIME_EVT_OVERRUN_STREAK ∧ t.mem = s.mem)) ∧
  (∀ (s : State),
    s.powered R.FCTL_STAT = true →
    s.time.fUnit = 0 →
    s.time.overran = false →
    15 ≤ s.time.streak →
    s.time.streakRaised = false →
    Answers .tickOverrun s (fun t => t.val R.TIME_OVERRUN = min (s.val R.TIME_OVERRUN + 1) (2 ^ 32 - 1) ∧ t.time.streakRaised = true ∧ t.is R.TIME_EVT_OVERRUN_STREAK = true ∧ t.mem = s.mem))

/-- The count across a wrap, the tick mark, and the epoch (R70, R71, R73, R74, R75). -/
def Obligations.TheCountAndTheEpoch : Prop :=
  (∀ (s : State),
    s.start.power = true →
    s.time.hTick + 1 = ticksPerEra →
    Answers .eraWrap s (fun t => t.time.hTick = 0 ∧ t.time.hUnit = 0)) ∧
  (∀ (s : State),
    s.powered R.TIME_CTRL = true →
    s.time.hUnit = 0 →
    s.time.hTick % 100000 = 0 →
    Answers .tickMarkWrite s (fun t => t.time.markTick = s.time.hTick ∧ t.time.markEra = s.era ∧ t.regs = s.regs ∧ t.mem = s.mem)) ∧
  (∀ (s : State) (u : Sub),
    s.powered R.TIME_CTRL = true →
    Answers (.epochLoad u) s (fun t => t.time.epochReq = some (s.val64 R.TIME_EPOCH_SET_LO, (s.atH u).hAbs) ∧ t.is R.TIME_CTRL_EPOCH_LOAD = true ∧ t.mem = s.mem ∧ RegsKept s t (fun a => a = R.TIME_CTRL))) ∧
  (∀ (s : State) (e : Nat) (a : Nat),
    s.powered R.TIME_CTRL = true →
    s.time.epochReq = some (e, a) →
    s.time.hUnit = 0 →
    a < s.hAbs →
    s.is R.TIME_CTRL_EPOCH_LOAD = true →
    Answers .epochSet s (fun t => t.val64 R.TIME_EPOCH_LO = s.val64 R.TIME_EPOCH_SET_LO ∧ t.is R.TIME_STAT_EPOCH_VALID = true ∧ t.is R.TIME_EVT_EPOCH_SET = true ∧ t.time.epochReq = none ∧ t.is R.TIME_CTRL_EPOCH_LOAD = false ∧ t.mem = s.mem)) ∧
  (∀ (s : State) (e : Nat) (a : Nat),
    s.powered R.TIME_CTRL = true →
    s.time.epochReq = some (e, a) →
    s.time.hUnit = 0 →
    a < s.hAbs →
    s.is R.TIME_CTRL_EPOCH_LOAD = false →
    e < 2 ^ 64 →
    Answers .epochSet s (fun t => t.val64 R.TIME_EPOCH_LO = e ∧ t.is R.TIME_STAT_EPOCH_VALID = true ∧ t.time.epochReq = none ∧ t.mem = s.mem))

/-- The pulse per second and the time of day (R56, R75, R76, R77, R78). -/
def Obligations.PulsesAndTimeOfDay : Prop :=
  (∀ (s : State) (u : Sub) (b : List Byte) (sec : Nat),
    s.powered R.TIME_CTRL = true →
    todSeconds b = some sec →
    s.time.todLast = some (sec - 1) →
    0 < sec →
    Answers (.todMessage u b) s (fun t => t.time.todPair = some sec ∧ t.time.todLast = some sec ∧ t.is R.TIME_STAT_TOD_OK = true ∧ t.mem = s.mem ∧ RegsKept s t (fun a => a = R.TIME_STAT))) ∧
  (∀ (s : State) (u : Sub) (b : List Byte) (sec : Nat),
    s.powered R.TIME_CTRL = true →
    todSeconds b = some sec →
    s.time.todLast = none →
    Answers (.todMessage u b) s (fun t => t.time.todPair = none ∧ t.time.todLast = some sec ∧ t.regs = s.regs ∧ t.mem = s.mem)) ∧
  (∀ (s : State) (u : Sub) (b : List Byte),
    s.powered R.TIME_CTRL = true →
    todSeconds b = none →
    Answers (.todMessage u b) s (fun t => t.time.todPair = none ∧ t.time.todLast = none ∧ t.is R.TIME_STAT_TOD_OK = false ∧ t.mem = s.mem ∧ RegsKept s t (fun a => a = R.TIME_STAT))) ∧
  (∀ (s : State) (u : Sub),
    s.powered R.TIME_CTRL = true →
    Answers (.ppsEdge u) s (fun t => t.val64 R.TIME_PPS_LO = (s.atH u).hNow.pack ∧ t.is R.TIME_STAT_PPS_LOCK = (s.atH u).ppsInTime ∧ t.is R.TIME_PPS_GEN_VALID = true ∧ t.time.todPair = none)) ∧
  (∀ (s : State) (u : Sub) (sec : Nat),
    s.powered R.TIME_CTRL = true →
    (s.atH u).ppsSets = true →
    s.time.todPair = some sec →
    Answers (.ppsEdge u) s (fun t => t.time.epochReq.isSome = true ∧ t.time.slipReset = false ∧ t.time.residBad = 0 ∧ t.mem = s.mem)) ∧
  (∀ (s : State) (u : Sub),
    s.powered R.TIME_CTRL = true →
    Answers (.ppsMissing u) s (fun t => t.time.todPair = none ∧ t.time.residBad = 0 ∧ t.is R.TIME_STAT_PPS_LOCK = false ∧ t.mem = s.mem ∧ RegsKept s t (fun a => a = R.TIME_STAT)))

/-- Plans and the boundaries of both halves (R62, R65, R70, R80, R81, R91). -/
def Obligations.PlansAndBoundaries : Prop :=
  (∀ (s : State) (p : Plan),
    s.time.hUnit = 0 →
    s.powered R.TIME_CTRL = true →
    s.plan.host = [p] →
    absTick p.era p.tick ≤ s.hAbs →
    p.id < 2 ^ 32 →
    0 < s.time.fUnit →
    Answers .planTakesEffect s (fun t => t.val R.TIME_PLAN_ID = p.id ∧ t.plan.host = [] ∧ t.plan.field = s.plan.field ∧ t.mem = s.mem ∧ RegsKept s t (fun a => a = R.TIME_PLAN_ID))) ∧
  (∀ (s : State) (p : Plan),
    0 < s.time.hUnit →
    s.time.fUnit = 0 →
    s.domOn (domF 1) = true →
    s.plan.field = [p] →
    p.dueAt (s.fTickU / unitsPerTick) = true →
    p.act = .release →
    Answers .planTakesEffect s (fun t => t.plan.field = [] ∧ t.plan.fieldId = p.id ∧ t.plan.host = s.plan.host ∧ t.regs = s.regs ∧ t.mem = s.mem)) ∧
  (∀ (s : State) (env : List LaneIn) (drive : List Port),
    s.domOn (domF 1) = true →
    Answers (.tickBoundary env drive) s (fun t => t.time.fTick = (if s.time.fTick + 1 = ticksPerEra then 0 else s.time.fTick + 1) ∧ t.time.fUnit = 0 ∧ t.time.overran = false)) ∧
  (∀ (s : State) (line : Bool),
    s.start.power = true →
    s.time.hTick + 1 ≠ ticksPerEra →
    s.start.step = 0 →
    Answers (.hostTickBoundary line) s (fun t => t.time.hTick = s.time.hTick + 1 ∧ t.time.hUnit = 0)) ∧
  (∀ (s : State),
    s.time.hUnit = 0 →
    horizonClamp (s.get R.CLR_CTRL_HORIZON) ≠ s.clr.horizon →
    s.powered R.CLR_CTRL = true →
    Answers .horizonChange s (fun t => t.clr.horizon = horizonClamp (s.get R.CLR_CTRL_HORIZON) ∧ t.mem = s.mem)) ∧
  (∀ (s : State) (u : Sub),
    s.powered R.CLR_CTRL = true →
    Answers (.clrCtrlClrStats u) s (fun t => t.val R.CLR_LATE_COUNT = 0 ∧ t.val R.CLR_LATE_MAX = 0 ∧ t.val R.CLR_SQUEEZE_COUNT = 0 ∧ t.mem = s.mem ∧ RegsKept s t (fun a => a = R.CLR_LATE_COUNT ∨ a = R.CLR_LATE_MAX ∨ a = R.CLR_SQUEEZE_COUNT)))

/-- Raises of fault sources, their pending bits, the pins and forcing (R435, R436, R438, R441, R444, R445, R446, R452). -/
def Obligations.FaultCollector : Prop :=
  (∀ (s : State) (u : Sub) (id : Fin 64) (data : Word),
    s.start.power = true →
    Config.faultClass id.val ≠ 0 →
    Config.faultIsField id.val = false →
    Config.faultClass id.val ≠ 3 →
    s.faultHold = false ∨ s.updState ≠ updChecking →
    Answers (.faultRaise u id data) s (fun t => t.faultPend id.val = true ∧ t.val (R.FLT_CNT id.val) = min (s.val (R.FLT_CNT id.val) + 1) (2 ^ 32 - 1) ∧ t.val R.FLT_LAST_ID = id.val ∧ t.val64 R.FLT_LAST_LO = (s.atH u).hNow.pack ∧ t.is R.FLT_EVT_RAISED = true ∧ t.val R.FLT_FIRST_ID = (if s.is R.FLT_FIRST_GEN_VALID then s.val R.FLT_FIRST_ID else id.val))) ∧
  (∀ (s : State) (u : Sub) (id : Fin 64) (data : Word),
    s.start.power = true →
    Config.faultClass id.val ≠ 0 →
    Config.faultIsField id.val = false →
    Config.faultClass id.val = 3 →
    Answers (.faultRaise u id data) s (fun t => t.faultPend id.val = true ∧ t.faultHold = true ∧ t.val R.FLT_FATAL_ID = id.val ∧ t.val R.FLT_FATAL_DATA = data.toNat ∧ t.is R.FLT_EVT_FATAL = true)) ∧
  (∀ (s : State) (u : Sub) (id : Fin 256) (data : Word),
    s.domOn (domF 1) = true →
    Config.faultClass id.val ≠ 0 →
    Config.faultIsField id.val = true →
    Config.faultClass id.val ≠ 3 →
    s.fault.field = [] →
    Answers (.fieldFaultRaise u id data) s (fun t => t.fault.field.map (fun x => (x.id, x.t64, x.data, x.raises)) = [(id.val, (s.atF u).fNow.pack, data.toNat, 1)])) ∧
  (∀ (s : State) (u : Sub) (id : Fin 256) (data : Word) (x : FRaise),
    s.domOn (domF 1) = true →
    Config.faultClass id.val ≠ 0 →
    Config.faultIsField id.val = true →
    Config.faultClass id.val ≠ 3 →
    s.fault.field = [x] →
    x.id = id.val →
    Answers (.fieldFaultRaise u id data) s (fun t => t.fault.field.map (fun y => (y.id, y.t64, y.data, y.raises)) = [(x.id, x.t64, x.data, x.raises + 1)])) ∧
  (∀ (s : State) (u : Sub) (blk : Fin 256),
    s.fault.resetting.any (fun p => p.1 == blk.val) = true →
    Answers (.blockResetEnd u blk) s (fun t => t.fault.resetting = s.fault.resetting.filter (fun p => p.1 != blk.val) ∧ t.regs = s.regs ∧ t.mem = s.mem)) ∧
  (∀ (s : State) (u : Sub) (k : Fin 5) (v : Word),
    s.powered (R.FLT_PEND k) = true →
    Answers (.fltPendClear u k v) s (fun t => t.rd (R.FLT_PEND k) = s.rd (R.FLT_PEND k) &&& ~~~(v &&& ~~~(fatalBits k)) ∧ t.mem = s.mem ∧ RegsKept s t (fun a => a = R.FLT_PEND k))) ∧
  (∀ (s : State) (u : Sub) (a : Nat),
    s.fault.faultN = some a →
    s.pinCondition reactF = false →
    a + 1000 ≤ s.time.hTick →
    Answers (.faultPinRelease u false) s (fun t => t.fault.faultN = none ∧ t.is R.FLT_STAT_FAULT_N = false ∧ t.mem = s.mem ∧ RegsKept s t (fun a => a = R.FLT_STAT))) ∧
  (∀ (s : State) (u : Sub) (a : Nat),
    s.fault.fieldFaultN = some a →
    s.linkUp = true →
    s.pinCondition reactX = false →
    a + 1000 ≤ s.time.fTick →
    Answers (.faultPinRelease u true) s (fun t => t.fault.fieldFaultN = none ∧ t.is R.FLT_STAT_FIELD_FAULT_N = false ∧ t.mem = s.mem ∧ RegsKept s t (fun a => a = R.FLT_STAT))) ∧
  (∀ (s : State) (u : Sub) (k : Fin 5) (v : Word) (service : Bool) (i : Fin 32),
    s.powered (R.FLT_FORCE k) = true →
    v = BitVec.twoPow 32 i.val →
    Config.faultClass (32 * k.val + i.val) = 3 →
    2 ≤ s.mode ∨ service = false →
    Answers (.faultForce u k v service) s (fun t => t.is R.FLT_EVT_FORCE_REFUSED = true ∧ t.is R.SEC_STAT_SERVICE_EN = service ∧ t.mem = s.mem ∧ RegsKept s t (fun a => a = R.FLT_EVT ∨ a = R.SEC_STAT))) ∧
  (∀ (s : State) (u : Sub) (k : Fin 5) (v : Word) (service : Bool) (i : Fin 32),
    s.powered (R.FLT_FORCE k) = true →
    v = BitVec.twoPow 32 i.val →
    Config.faultClass (32 * k.val + i.val) ≠ 3 →
    Config.faultClass (32 * k.val + i.val) ≠ 0 →
    Config.faultIsField (32 * k.val + i.val) = false →
    s.faultHold = false ∨ s.updState ≠ updChecking →
    Answers (.faultForce u k v service) s (fun t => t.faultPend (32 * k.val + i.val) = true ∧ t.val (R.FLT_CNT (32 * k.val + i.val)) = min (s.val (R.FLT_CNT (32 * k.val + i.val)) + 1) (2 ^ 32 - 1) ∧ t.val R.FLT_LAST_ID = 32 * k.val + i.val)) ∧
  (∀ (s : State) (u : Sub),
    s.powered R.FLT_CTRL = true →
    Answers (.fltClrStats u) s (fun t => ∀ i : Fin 144, t.val (R.FLT_CNT i.val) = 0 ∧ t.mem = s.mem)) ∧
  (∀ (s : State) (u : Sub),
    s.powered R.FLT_CTRL = true →
    Answers (.clrFirst u) s (fun t => t.is R.FLT_FIRST_GEN_VALID = false ∧ t.mem = s.mem ∧ RegsKept s t (fun a => a = R.FLT_FIRST_GEN)))

/-- Temperature limits, shutdowns, supplies and the daily sums (R427, R448, R451, R482, R483). -/
def Obligations.TemperaturesAndSupplies : Prop :=
  (∀ (s : State) (u : Sub),
    s.start.power = true →
    Answers (.temperatureLimit u false false) s (fun t => t.faultPend 0x18 = true ∧ t.start.hostHot = s.start.hostHot)) ∧
  (∀ (s : State) (u : Sub),
    s.start.power = true →
    s.start.hostHot = none →
    Answers (.temperatureLimit u false true) s (fun t => t.faultPend 0x19 = true ∧ t.faultHold = true ∧ t.start.hostHot.isSome = true)) ∧
  (∀ (s : State) (u : Sub),
    s.domOn (domF 1) = true →
    s.start.fieldHot = none →
    s.fault.field.find? (fun x => x.id == 0x4F) = none →
    Answers (.temperatureLimit u true true) s (fun t => t.start.fieldHot = some (absTick s.time.fEra s.time.fTick) ∧ t.is R.FCTL_STAT_FATAL = true)) ∧
  (∀ (s : State) (a : Nat),
    s.start.fieldHot = some a →
    a + 2 ≤ absTick s.time.fEra s.time.fTick →
    s.start.fieldOff = false →
    Answers .fieldShutdownPowerOff s (fun t => t.start.fieldOff = true ∧ (∀ k : Fin 10, t.domOn (domF (k.val + 2)) = false))) ∧
  (∀ (s : State) (u : Sub),
    s.start.power = true →
    Answers (.hostSupplyFault u) s (fun t => t.faultPend 0x17 = true ∧ t.val (R.FLT_CNT 0x17) = min (s.val (R.FLT_CNT 0x17) + 1) (2 ^ 32 - 1))) ∧
  (∀ (s : State) (u : Sub),
    s.domOn (domF 1) = true →
    s.fault.field = [] →
    Answers (.fieldSupplyFault u) s (fun t => t.fault.field.map (fun x => x.id) = [0x4D])) ∧
  (∀ (s : State) (u : Sub),
    Answers (.fieldSupplyInRange u) s (fun t => t.start.supply = true ∧ t.regs = s.regs ∧ t.mem = s.mem)) ∧
  (∀ (s : State) (u : Sub),
    s.domOn (domF 1) = true →
    Answers (.fieldSupplyOutOfRange u) s (fun t => t.start.supply = false ∧ t.domOn (domF 1) = false ∧ (∀ k : Fin 13, t.domOn (domF (k.val + 1)) = false))) ∧
  (∀ (s : State),
    s.time.hUnit = 0 →
    s.time.hTick % ticksPerDay = 0 →
    Answers .availDayRoll s (fun t => t.val R.AVAIL_YEAR_UNCOV = min (((s.avail.days.filter (fun p => p.1 < dayOf s.hAbs && dayOf s.hAbs ≤ p.1 + 365)).map Prod.snd).foldl (· + ·) 0) (2 ^ 32 - 1) ∧ t.mem = s.mem ∧ RegsKept s t (fun a => a = R.AVAIL_YEAR_UNCOV ∨ a = R.AVAIL_BUDGET_LEFT)))

/-- Power-up, the loss of power, and the module reset (R73, R417, R418, R442, R447, R448, R482). -/
def Obligations.PowerAndReset : Prop :=
  (∀ (s : State) (b : BootIn),
    s.mayStart = true →
    b.selfTest = true →
    b.bankA = false →
    b.bankB = false →
    Answers (.powerUp b) s (fun t => t.is R.SYS_BOOT_RECOVERY = true ∧ t.start.power = true ∧ t.time.hTick = s.resumeTick % ticksPerEra ∧ t.start.step = 0 ∧ t.mem = [])) ∧
  (∀ (s : State) (b : BootIn),
    s.mayStart = true →
    b.selfTest = false →
    Answers (.powerUp b) s (fun t => t.faultPend 0 = true ∧ t.start.step = stepStopped ∧ t.time.hTick = s.resumeTick % ticksPerEra ∧ t.domOn (domH 6) = true ∧ t.domOn (domH 2) = false)) ∧
  (∀ (s : State) (u : Sub) (long : Bool),
    s.start.power = true →
    Answers (.powerLoss12v u long) s (fun t => t.start.power = false ∧ t.rd R.SYS_PWR_STAT = 0 ∧ t.mem = [] ∧ t.ledger.ring = s.ledger.ring ∧ t.sec.keys = s.sec.keys ∧ t.start.slot0 = s.start.slot0 ∧ t.faultHold = (s.faultHold && !long))) ∧
  (∀ (s : State) (u : Sub),
    s.start.power = false →
    Answers (.powerLoss12v u true) s (fun t => t.start = s.start ∧ t.faultHold = false ∧ t.mem = s.mem)) ∧
  (∀ (s : State) (u : Sub),
    s.start.power = true →
    Answers (.hostInputLow u) s (fun t => t.start.power = false ∧ t.rd R.SYS_PWR_STAT = 0 ∧ t.mem = [] ∧ t.faultHold = s.faultHold)) ∧
  (∀ (s : State) (b : BootIn) (id : Nat),
    s.fault.resetDue = some id →
    b.bankA = false →
    b.bankB = false →
    Answers (.moduleReset b) s (fun t => t.time.hTick = s.time.hTick ∧ t.fault.resetDue = none ∧ t.is R.SYS_BOOT_RECOVERY = true ∧ t.faultHold = s.faultHold))

/-- Mode requests and changes, the audit report, and the configuration store (R414, R422, R424, R430, R431, R432, R434). -/
def Obligations.ModesAuditAndConfigurationStore : Prop :=
  (∀ (s : State) (u : Sub) (m : Idx16),
    s.powered R.SYS_MODE = true →
    (s.set R.SYS_MODE_REQ m.val).modeReason m.val ≠ 0 →
    Answers (.modeRequest u m) s (fun t => t.get R.SYS_STAT_MODE_REFUSE = (s.set R.SYS_MODE_REQ m.val).modeReason m.val ∧ t.is R.SYS_EVT_MODE_REFUSED = true ∧ t.get R.SYS_MODE_MODE = s.get R.SYS_MODE_MODE ∧ t.start = s.start ∧ t.mem = s.mem ∧ RegsKept s t (fun a => a = R.SYS_MODE ∨ a = R.SYS_STAT ∨ a = R.SYS_EVT))) ∧
  (∀ (s : State) (u : Sub) (m : Idx16),
    s.powered R.SYS_MODE = true →
    (s.set R.SYS_MODE_REQ m.val).modeReason m.val = 0 →
    m.val < 2 →
    s.linkUp = false →
    Answers (.modeRequest u m) s (fun t => t.start.moving = some (m.val, (s.atH u).hAbs + 1) ∧ t.is R.SYS_STAT_MODE_PENDING = true ∧ t.get R.SYS_MODE_REQ = m.val ∧ t.mem = s.mem ∧ RegsKept s t (fun a => a = R.SYS_MODE ∨ a = R.SYS_STAT))) ∧
  (∀ (s : State) (u : Sub) (m : Idx16),
    s.powered R.SYS_MODE = true →
    (s.set R.SYS_MODE_REQ m.val).modeReason m.val = 0 →
    2 ≤ m.val →
    ((s.set R.SYS_MODE_REQ m.val).atH u).planCheck m.val = none →
    Answers (.modeRequest u m) s (fun t => t.start.moving.map Prod.fst = some m.val ∧ t.is R.SYS_STAT_MODE_PENDING = true ∧ t.get R.TIME_PLAN_STAT_RESULT = 1 ∧ t.plan.lastId = s.plan.lastId + 1 ∧ t.mem = s.mem)) ∧
  (∀ (s : State) (m : Nat) (a : Nat),
    s.start.moving = some (m, a) →
    s.time.hUnit = 0 →
    a ≤ s.hAbs →
    (({ (s.doEscApply.doEscrowCommit) with start := { (s.doEscApply.doEscrowCommit).start with moving := none } } : State).set R.SYS_STAT_MODE_PENDING 0).moveReason m = 0 →
    m < 8 →
    s.start.step = 0 →
    Answers .modeChange s (fun t => t.get R.SYS_MODE_MODE = m ∧ t.start.moving = none ∧ t.is R.SYS_STAT_MODE_PENDING = false ∧ t.is R.SYS_EVT_MODE_CHANGED = true ∧ t.mem = s.mem)) ∧
  (∀ (s : State) (m : Nat) (a : Nat),
    s.start.moving = some (m, a) →
    s.time.hUnit = 0 →
    a ≤ s.hAbs →
    (({ (s.doEscApply.doEscrowCommit) with start := { (s.doEscApply.doEscrowCommit).start with moving := none } } : State).set R.SYS_STAT_MODE_PENDING 0).moveReason m ≠ 0 →
    s.start.step = 0 →
    Answers .modeChange s (fun t => t.get R.SYS_STAT_MODE_REFUSE = (({ (s.doEscApply.doEscrowCommit) with start := { (s.doEscApply.doEscrowCommit).start with moving := none } } : State).set R.SYS_STAT_MODE_PENDING 0).moveReason m ∧ t.start.moving = none ∧ t.is R.SYS_STAT_MODE_PENDING = false ∧ t.is R.SYS_EVT_MODE_REFUSED = true ∧ t.mem = s.mem)) ∧
  (∀ (s : State) (u : Sub),
    s.powered R.SEC_CTRL = true →
    s.is R.SEC_STAT_AR_BUSY = false →
    Answers (.arGo u) s (fun t => t.is R.SEC_STAT_AR_BUSY = true ∧ t.sec.report = (s.atH u).reportBody ∧ t.mem = s.mem)) ∧
  (∀ (s : State) (u : Sub),
    s.is R.SEC_STAT_AR_BUSY = true →
    s.mintOk = true →
    Answers (.auditReportReady u) s (fun t => t.is R.SEC_STAT_AR_BUSY = false ∧ t.is R.SEC_EVT_AR_DONE = true ∧ t.sec.report = s.sec.report ++ padTo 3309 (Config.mldsaSign 15 s.sec.report) ∧ t.mem = s.mem)) ∧
  (∀ (s : State) (u : Sub),
    s.powered R.SYS_CTRL = true →
    Answers (.sysClrStats u) s (fun t => t.val R.SYS_SEALED_REJ = 0 ∧ t.mem = s.mem ∧ RegsKept s t (fun a => a = R.SYS_SEALED_REJ))) ∧
  (∀ (s : State) (u : Sub),
    s.powered R.SYS_IMG_CTRL = true →
    s.imgBusy = false →
    Answers (.imgErase u) s (fun t => t.start.imgOp = some (1, 0, []) ∧ t.is R.SYS_IMG_STAT_BUSY = true ∧ t.mem = s.mem ∧ RegsKept s t (fun a => a = R.SYS_IMG_STAT))) ∧
  (∀ (s : State) (u : Sub),
    s.powered R.SYS_IMG_CTRL = true →
    s.imgBusy = true →
    Answers (.imgErase u) s (fun t => t.start = s.start ∧ t.regs = s.regs ∧ t.mem = s.mem)) ∧
  (∀ (s : State) (u : Sub) (words : Fin 8192),
    s.powered R.SYS_IMG_CTRL = true →
    s.imgBusy = false →
    Answers (.imgProg u words) s (fun t => t.start.imgOp = some (2, s.val R.SYS_IMG_OFS / 4 * 4, (List.range (min words.val 4096)).map (fun k => s.rd (R.SYS_IMG_WORD k))) ∧ t.is R.SYS_IMG_STAT_BUSY = true ∧ t.mem = s.mem ∧ RegsKept s t (fun a => a = R.SYS_IMG_STAT ∨ a = R.SYS_IMG_CTRL))) ∧
  (∀ (s : State) (u : Sub),
    s.powered R.SYS_IMG_CTRL = true →
    s.imgBusy = false →
    Answers (.imgActivate u) s (fun t => t.start.imgCheck = true ∧ t.is R.SYS_IMG_STAT_BUSY = true ∧ t.mem = s.mem ∧ RegsKept s t (fun a => a = R.SYS_IMG_STAT))) ∧
  (∀ (s : State) (u : Sub) (o : Nat) (l : List Word),
    s.start.imgOp = some (1, o, l) →
    Answers (.imgEraseProgDone u) s (fun t => t.imgSlot s.imgSpare = [] ∧ t.imgSlot s.start.active = s.imgSlot s.start.active ∧ t.is R.SYS_IMG_STAT_BUSY = false ∧ t.start.imgOp = none ∧ t.mem = s.mem ∧ RegsKept s t (fun a => a = R.SYS_IMG_STAT))) ∧
  (∀ (s : State) (u : Sub) (o : Nat) (l : List Word),
    s.start.imgOp = some (2, o, l) →
    Answers (.imgEraseProgDone u) s (fun t => t.imgSlot s.imgSpare = flashProg (s.imgSlot s.imgSpare) o ((l.flatMap (fun w => leBytes 4 w.toNat)).take (slotSize - o)) ∧ t.is R.SYS_IMG_STAT_BUSY = false ∧ t.start.imgOp = none ∧ t.mem = s.mem ∧ RegsKept s t (fun a => a = R.SYS_IMG_STAT))) ∧
  (∀ (s : State) (u : Sub),
    s.start.imgCheck = true →
    s.imgRefusal ≠ 0 →
    Answers (.imgCheckDone u) s (fun t => t.get R.SYS_IMG_STAT_RESULT = 2 ∧ t.get R.SYS_IMG_STAT_CAUSE = s.imgRefusal ∧ t.is R.SYS_IMG_STAT_BUSY = false ∧ t.start.active = s.start.active ∧ t.mem = s.mem ∧ RegsKept s t (fun a => a = R.SYS_IMG_STAT)))

/-- Erase, program, verify and distribute a firmware bank; arm and cancel (R324, R456, R457, R458, R460, R468, R469). -/
def Obligations.UpdateStaging : Prop :=
  (∀ (s : State) (u : Sub),
    s.powered R.UPD_CTRL = true →
    s.updBusy = false →
    Answers (.updErase u) s (fun t => t.upd.op = some (1, 0, []) ∧ t.is R.UPD_STAT_BUSY = true ∧ t.updState = updStaging ∧ t.fwBank s.spareBank = {} ∧ t.fwBank s.activeBank = s.fwBank s.activeBank ∧ t.mem = s.mem)) ∧
  (∀ (s : State) (u : Sub),
    s.powered R.UPD_CTRL = true →
    s.updBusy = true →
    Answers (.updErase u) s (fun t => t.upd = s.upd ∧ t.regs = s.regs ∧ t.mem = s.mem)) ∧
  (∀ (s : State) (u : Sub) (words : Fin 8192),
    s.powered R.UPD_CTRL = true →
    s.updBusy = false →
    Answers (.updProg u words) s (fun t => t.upd.op = some (2, s.val R.UPD_OFS / 4 * 4, (List.range (min words.val 4096)).map (fun k => s.rd (R.UPD_WORD k))) ∧ t.is R.UPD_STAT_BUSY = true ∧ t.mem = s.mem ∧ RegsKept s t (fun a => a = R.UPD_STAT ∨ a = R.UPD_CTRL))) ∧
  (∀ (s : State) (u : Sub) (words : Fin 8192),
    s.powered R.UPD_CTRL = true →
    s.updBusy = true →
    Answers (.updProg u words) s (fun t => t.upd = s.upd ∧ t.mem = s.mem ∧ RegsKept s t (fun a => a = R.UPD_CTRL))) ∧
  (∀ (s : State) (u : Sub) (o : Nat) (l : List Word),
    s.upd.op = some (1, o, l) →
    Answers (.updEraseProgDone u) s (fun t => t.upd.op = none ∧ t.is R.UPD_STAT_BUSY = false ∧ t.upd.bankA = s.upd.bankA ∧ t.upd.bankB = s.upd.bankB ∧ t.mem = s.mem ∧ RegsKept s t (fun a => a = R.UPD_STAT))) ∧
  (∀ (s : State) (u : Sub) (o : Nat) (l : List Word),
    s.upd.op = some (2, o, l) →
    Answers (.updEraseProgDone u) s (fun t => t.upd.op = none ∧ t.is R.UPD_STAT_BUSY = false ∧ (t.fwBank s.spareBank).bytes = flashProg (s.fwBank s.spareBank).bytes o ((l.flatMap (fun w => leBytes 4 w.toNat)).take (fwBankSize - o)) ∧ t.fwBank s.activeBank = s.fwBank s.activeBank ∧ t.mem = s.mem ∧ RegsKept s t (fun a => a = R.UPD_STAT))) ∧
  (∀ (s : State) (u : Sub),
    s.powered R.UPD_CTRL = true →
    s.updBusy = false →
    Answers (.updVerify u) s (fun t => t.get R.UPD_STAT_VRESULT = s.bankVerify s.spareBank ∧ (if s.bankVerify s.spareBank = 1 then t.updState = updStaging ∧ t.is R.UPD_STAT_BUSY = true ∧ t.upd.dist = true ∧ t.val64 R.UPD_SEQ_LO = leAt (s.manifest s.spareBank) 8 8 ∧ (t.fwBank s.spareBank).st = 1 else t.upd = s.upd ∧ t.link = s.link) ∧ t.mem = s.mem)) ∧
  (∀ (s : State) (u : Sub),
    s.upd.dist = true →
    s.linkUp = false →
    Answers (.stagingComplete u) s (fun t => t.upd.dist = false ∧ t.get R.UPD_STAT_VRESULT = 7 ∧ t.is R.UPD_STAT_BUSY = false ∧ t.updState = s.updState ∧ t.mem = s.mem ∧ RegsKept s t (fun a => a = R.UPD_STAT))) ∧
  (∀ (s : State) (u : Sub),
    s.upd.dist = true →
    s.linkUp = true →
    s.fwWhole = true →
    s.fwEntries.all s.fwGood = true →
    ∀ q : Fin 16, s.podIn q.val = false →
    Answers (.stagingComplete u) s (fun t => t.upd.dist = false ∧ t.updState = updStaged ∧ t.is R.UPD_STAT_BUSY = false ∧ t.is R.UPD_EVT_VERIFIED = true ∧ t.mem = s.mem)) ∧
  (∀ (s : State) (u : Sub) (cell : Bool),
    s.powered R.UPD_CTRL = true →
    s.updState ≠ updStaged →
    Answers (.updArm u cell) s (fun t => t.get R.UPD_STAT_ARESULT = 1 ∧ t.upd = s.upd ∧ t.updState = s.updState ∧ t.is R.UPD_CTRL_CELL_EN = cell ∧ t.mem = s.mem ∧ RegsKept s t (fun a => a = R.UPD_STAT ∨ a = R.UPD_CTRL))) ∧
  (∀ (s : State) (u : Sub),
    s.powered R.UPD_CTRL = true →
    s.updState = updStaged →
    s.is R.TIME_STAT_EPOCH_VALID = true →
    (s.atH u).taiNow + 10000000000 ≤ s.val64 R.UPD_ACT_SEC_LO * 1000000000 →
    s.val64 R.UPD_ACT_SEC_LO * 1000000000 ≤ (s.atH u).taiNow + 86400000000000 →
    s.faultHold = false →
    Answers (.updArm u false) s (fun t => t.updState = updArmed ∧ t.upd.act = some (s.tickAtSec (s.val64 R.UPD_ACT_SEC_LO), s.tickAtSec (s.val64 R.UPD_ACT_SEC_LO - 1), s.tickAtSec (s.val64 R.UPD_ACT_SEC_LO + s.val R.UPD_CHECK)) ∧ t.is R.UPD_STAT_HEALTH = false ∧ t.is R.UPD_EVT_ARMED = true ∧ t.get R.UPD_STAT_ARESULT = s.get R.UPD_STAT_ARESULT ∧ t.mem = s.mem)) ∧
  (∀ (s : State) (u : Sub),
    s.powered R.UPD_CTRL = true →
    s.updState = updStaged →
    s.is R.TIME_STAT_EPOCH_VALID = true →
    (s.atH u).taiNow + 10000000000 ≤ s.val64 R.UPD_ACT_SEC_LO * 1000000000 →
    s.val64 R.UPD_ACT_SEC_LO * 1000000000 ≤ (s.atH u).taiNow + 86400000000000 →
    s.faultHold = false →
    s.is R.TIME_STAT_PPS_LOCK = true →
    s.is R.TIME_STAT_TOD_OK = true →
    Answers (.updArm u true) s (fun t => t.updState = updArmed ∧ t.upd.act = some (s.tickAtSec (s.val64 R.UPD_ACT_SEC_LO), s.tickAtSec (s.val64 R.UPD_ACT_SEC_LO - 1), s.tickAtSec (s.val64 R.UPD_ACT_SEC_LO + s.val R.UPD_CHECK)) ∧ t.is R.UPD_STAT_HEALTH = false ∧ t.is R.UPD_EVT_ARMED = true ∧ t.get R.UPD_STAT_ARESULT = s.get R.UPD_STAT_ARESULT ∧ t.mem = s.mem)) ∧
  (∀ (s : State) (u : Sub),
    s.powered R.UPD_CTRL = true →
    s.updState = updArmed →
    s.upd.holding = false →
    Answers (.updCancel u) s (fun t => t.updState = updStaged ∧ t.upd.act = none ∧ t.mem = s.mem)) ∧
  (∀ (s : State) (u : Sub),
    s.powered R.UPD_CTRL = true →
    s.updState = updArmed →
    s.upd.holding = true →
    Answers (.updCancel u) s (fun t => t.upd = s.upd ∧ t.regs = s.regs ∧ t.mem = s.mem)) ∧
  (∀ (s : State) (a : Nat) (b : BankSt),
    s.met.ready = some (a, b) →
    s.time.fUnit = 0 →
    a < s.fU →
    s.start.step = 0 →
    Answers .bankSwap s (fun t => t.bank = b.items ∧ t.val R.MET_BANK_ID = (s.val R.MET_BANK_ID + 1) % 2 ^ 32 ∧ t.met.ready = none ∧ t.val R.MET_BANK_TEMP = codeOf 32 b.tb ∧ t.is R.MET_EVT_BANK_SWAP = true ∧ t.mem = s.mem))

/-- Decision, switch, health, commit and revert of an update (R459, R460, R461, R462, R463, R464, R468). -/
def Obligations.UpdateSwitch : Prop :=
  (∀ (s : State) (a : Nat) (d : Nat) (c : Nat),
    s.upd.act = some (a, d, c) →
    s.updState = updArmed →
    s.upd.holding = false →
    d ≤ s.hAbs →
    s.is R.UPD_CTRL_CELL_EN = true →
    s.is R.UPD_STAT_DRIVING = false →
    Answers (.decisionSample true) s (fun t => t.upd.holding = true ∧ t.upd.act = s.upd.act ∧ t.updState = updArmed ∧ t.is R.UPD_STAT_LINE = true ∧ t.mem = s.mem ∧ RegsKept s t (fun a => a = R.UPD_STAT))) ∧
  (∀ (s : State) (a : Nat) (d : Nat) (c : Nat),
    s.upd.act = some (a, d, c) →
    s.updState = updArmed →
    s.upd.holding = false →
    d ≤ s.hAbs →
    s.is R.UPD_CTRL_CELL_EN = true →
    Answers (.decisionSample false) s (fun t => t.upd.holding = false ∧ t.upd.act = none ∧ t.updState = updStaged ∧ t.is R.UPD_STAT_LINE = false ∧ t.get R.UPD_STAT_ARESULT = 2 ∧ t.is R.UPD_EVT_ABORTED = true ∧ t.mem = s.mem)) ∧
  (∀ (s : State) (line : Bool) (a : Nat) (d : Nat) (c : Nat),
    s.upd.act = some (a, d, c) →
    s.updState = updArmed →
    s.upd.holding = false →
    d ≤ s.hAbs →
    s.is R.UPD_CTRL_CELL_EN = false →
    Answers (.decisionSample line) s (fun t => t.upd.holding = s.updReady ∧ t.updState = (if s.updReady then updArmed else updStaged) ∧ t.mem = s.mem)) ∧
  (∀ (s : State) (a : Nat) (d : Nat) (c : Nat),
    s.upd.act = some (a, d, c) →
    s.updState = updArmed →
    s.upd.holding = true →
    a ≤ s.hAbs →
    s.time.hUnit = 0 →
    Answers .activation s (fun t => t.updState = updActivating ∧ (t.fwBank s.spareBank).st = 2 ∧ t.upd.hostDone = false ∧ t.upd.fieldDone = false ∧ t.fault.mgmtDown = true ∧ t.upd.modeWas = s.mode ∧ t.mem = s.mem)) ∧
  (∀ (s : State) (u : Sub),
    s.updState = updActivating →
    s.upd.reverting = false →
    s.upd.hostDone = false →
    Answers (.hostStageDone u) s (fun t => t.upd.hostDone = true ∧ t.get R.SYS_BOOT_BANK = s.spareBank ∧ t.fault.mgmtDown = false ∧ t.updState = updActivating ∧ t.mem = s.mem ∧ RegsKept s t (fun a => a = R.SYS_BOOT))) ∧
  (∀ (s : State) (a : Nat) (d : Nat) (c : Nat),
    s.upd.act = some (a, d, c) →
    s.hAbs ≤ a + 100000 →
    s.upd.hostDone = true →
    s.upd.fieldDone = false →
    s.time.fUnit = 0 →
    s.is R.SEQ_STAT_CUST_RUN = false →
    s.linkUp = true →
    s.upd.failed = false →
    s.upd.reverting = false →
    Answers .fieldStage s (fun t => t.upd.fieldDone = true ∧ t.upd.holdTo = some (absTick s.time.fEra s.time.fTick + 2) ∧ t.get R.FCTL_STAT_FW_BANK = 1 - s.get R.FCTL_STAT_FW_BANK ∧ t.updState = s.updState ∧ t.mem = s.mem)) ∧
  (∀ (s : State) (a : Nat) (d : Nat) (c : Nat),
    s.upd.act = some (a, d, c) →
    s.updState = updActivating →
    s.upd.fieldDone = false →
    a + 100000 < s.hAbs →
    Answers .fieldStageTimeout s (fun t => t.upd.failed = true ∧ t.updState = updChecking ∧ t.upd.holding = false ∧ t.mem = s.mem)) ∧
  (∀ (s : State),
    s.updState = updChecking →
    s.upd.reverting = false →
    s.healthy = true →
    Answers .healthPass s (fun t => t.is R.UPD_STAT_HEALTH = true ∧ t.upd = s.upd ∧ t.mem = s.mem ∧ RegsKept s t (fun a => a = R.UPD_STAT))) ∧
  (∀ (s : State) (line : Bool) (a : Nat) (d : Nat) (c : Nat),
    s.upd.act = some (a, d, c) →
    s.updState = updChecking →
    s.upd.reverting = false →
    s.upd.lost = false →
    c ≤ s.hAbs →
    s.is R.UPD_CTRL_CELL_EN = false →
    s.is R.UPD_STAT_HEALTH = true →
    Answers (.commitSample line) s (fun t => t.updState = updIdle ∧ t.get R.UPD_STAT_ARESULT = 3 ∧ (t.fwBank s.spareBank).st = 3 ∧ (t.fwBank s.activeBank).st = 4 ∧ t.val64 R.UPD_FLOOR_LO = s.val64 R.UPD_SEQ_LO ∧ t.is R.UPD_EVT_COMMITTED = true ∧ t.upd.act = none ∧ t.mem = s.mem)) ∧
  (∀ (s : State) (a : Nat) (d : Nat) (c : Nat),
    s.upd.act = some (a, d, c) →
    s.updState = updChecking →
    s.upd.reverting = false →
    s.upd.lost = false →
    c ≤ s.hAbs →
    s.is R.UPD_CTRL_CELL_EN = true →
    s.is R.UPD_STAT_DRIVING = false →
    Answers (.commitSample true) s (fun t => t.updState = updIdle ∧ t.get R.UPD_STAT_ARESULT = 3 ∧ (t.fwBank s.spareBank).st = 3 ∧ (t.fwBank s.activeBank).st = 4 ∧ t.val64 R.UPD_FLOOR_LO = s.val64 R.UPD_SEQ_LO ∧ t.is R.UPD_EVT_COMMITTED = true ∧ t.upd.act = none ∧ t.mem = s.mem)) ∧
  (∀ (s : State) (line : Bool) (a : Nat) (d : Nat) (c : Nat),
    s.upd.act = some (a, d, c) →
    s.updState = updChecking →
    s.upd.reverting = false →
    s.upd.lost = false →
    c ≤ s.hAbs →
    s.is R.UPD_CTRL_CELL_EN = false →
    s.is R.UPD_STAT_HEALTH = false →
    Answers (.commitSample line) s (fun t => t.get R.UPD_STAT_ARESULT = 4 ∧ (t.fwBank s.spareBank).st = 1 ∧ t.fwBank s.activeBank = s.fwBank s.activeBank ∧ t.is R.UPD_EVT_REVERTED = true ∧ t.faultPend 0x1A = true ∧ t.upd.reverting = true ∧ t.upd.hostDone = false ∧ t.upd.lowTo = some c ∧ t.mem = s.mem)) ∧
  (∀ (s : State) (a : Nat) (d : Nat) (c : Nat),
    s.upd.act = some (a, d, c) →
    s.updState = updChecking →
    s.upd.reverting = false →
    s.upd.lost = false →
    c ≤ s.hAbs →
    s.is R.UPD_CTRL_CELL_EN = true →
    Answers (.commitSample false) s (fun t => t.get R.UPD_STAT_ARESULT = 4 ∧ (t.fwBank s.spareBank).st = 1 ∧ t.fwBank s.activeBank = s.fwBank s.activeBank ∧ t.is R.UPD_EVT_REVERTED = true ∧ t.faultPend 0x1A = true ∧ t.upd.reverting = true ∧ t.upd.hostDone = false ∧ t.upd.lowTo = some c ∧ t.mem = s.mem))

/-- Change packets and tokens: submission, check, staging, expiry (R405, R406, R407, R408, R415). -/
def Obligations.EscrowPackets : Prop :=
  (∀ (s : State) (u : Sub) (service : Bool),
    s.powered R.SEC_CTRL = true →
    s.is R.SEC_STAT_VERIFY_BUSY = false →
    Answers (.packetSubmit u service) s (fun t => t.sec.pkt = some ((List.range (min 24576 ((s.val R.SEC_PKT_LEN + 3) / 4))).flatMap (fun k => leBytes 4 (s.val (R.SEC_PKT_WORD k)))) ∧ t.is R.SEC_STAT_VERIFY_BUSY = true ∧ t.is R.SEC_STAT_SERVICE_EN = service ∧ t.sec.slots = s.sec.slots ∧ t.mem = s.mem ∧ RegsKept s t (fun a => a = R.SEC_STAT))) ∧
  (∀ (s : State) (u : Sub) (service : Bool),
    s.powered R.SEC_CTRL = true →
    s.is R.SEC_STAT_VERIFY_BUSY = true →
    Answers (.packetSubmit u service) s (fun t => t.sec = s.sec ∧ t.mem = s.mem ∧ RegsKept s t (fun a => a = R.SEC_STAT))) ∧
  (∀ (s : State) (u : Sub) (b : List Byte),
    s.sec.pkt = some b →
    Answers (.packetCheckDone u) s (fun t => t.sec.pkt = none ∧ t.is R.SEC_STAT_VERIFY_BUSY = false ∧ (if s.packetReason b (s.val R.SEC_PKT_LEN) (s.is R.SEC_STAT_SERVICE_EN) ≠ 0 then t.get R.SEC_STAT_PKT_REFUSE = s.packetReason b (s.val R.SEC_PKT_LEN) (s.is R.SEC_STAT_SERVICE_EN) ∧ t.is R.SEC_EVT_PKT_REFUSED = true ∧ t.val R.SEC_REFUSALS = min (s.val R.SEC_REFUSALS + 1) (2 ^ 32 - 1) ∧ t.sec.slots = s.sec.slots else (t.esc ((s.sec.slots.findIdx? (fun x => !x.used)).getD 0)).used = true ∧ (t.esc ((s.sec.slots.findIdx? (fun x => !x.used)).getD 0)).ops = (packetOps b (s.val R.SEC_PKT_LEN)).getD [] ∧ (t.esc ((s.sec.slots.findIdx? (fun x => !x.used)).getD 0)).stageAt = some (s.hAbs + 1) ∧ (t.esc ((s.sec.slots.findIdx? (fun x => !x.used)).getD 0)).signer = leAt b 58 1 ∧ t.val64 R.SEC_PKT_HWM_LO = leAt b 40 8) ∧ t.mem = s.mem)) ∧
  (∀ (s : State) (k : Fin 4) (a : Nat),
    (s.esc k.val).stageAt = some a →
    a ≤ s.hAbs →
    s.time.hUnit = 0 →
    Answers (.slotStaged k) s (fun t => t.get (R.SEC_ESC_STAT_STATE k) = (if s.slotLoosens k.val then 1 else if ((s.esc k.val).ops.any opField && s.linkUp) = true then 3 else 2) ∧ t.is (R.SEC_ESC_STAT_LOOSENS k) = s.slotLoosens k.val ∧ t.is (R.SEC_ESC_STAT_FIELD k) = (s.esc k.val).ops.any opField ∧ (t.esc k.val).expiry = s.hAbs + 8640000000 ∧ t.val64 (R.SEC_ESC_STAGED_LO k) = s.hNow.pack ∧ t.is R.SEC_EVT_STAGED = true ∧ t.mem = s.mem)) ∧
  (∀ (s : State) (k : Fin 4) (a : Nat),
    (s.esc k.val).stageAt = some a →
    a ≤ s.hAbs →
    s.time.hUnit = 0 →
    s.slotLoosens k.val = false →
    (s.esc k.val).ops.any opField = false →
    Answers (.slotStaged k) s (fun t => t.get (R.SEC_ESC_STAT_STATE k) = 2 ∧ t.is R.SEC_EVT_APPROVED = true ∧ t.mem = s.mem)) ∧
  (∀ (s : State) (u : Sub),
    s.powered R.SEC_CTRL = true →
    s.is R.SEC_STAT_VERIFY_BUSY = false →
    Answers (.tokenSubmit u) s (fun t => t.sec.tok = some (((List.range 1024).flatMap (fun k => leBytes 4 (s.val (R.SEC_TOK_WORD k)))).take 3437) ∧ t.is R.SEC_STAT_VERIFY_BUSY = true ∧ t.mem = s.mem ∧ RegsKept s t (fun a => a = R.SEC_STAT))) ∧
  (∀ (s : State) (u : Sub),
    s.powered R.SEC_CTRL = true →
    s.is R.SEC_STAT_VERIFY_BUSY = true →
    Answers (.tokenSubmit u) s (fun t => t.sec = s.sec ∧ t.regs = s.regs ∧ t.mem = s.mem)) ∧
  (∀ (s : State) (u : Sub) (service : Bool) (b : List Byte),
    s.sec.tok = some b →
    s.sec.slots.length = 4 →
    Answers (.tokenCheckDone u service) s (fun t => t.sec.tok = none ∧ t.is R.SEC_STAT_VERIFY_BUSY = false ∧ (if s.tokenReason b service ≠ 0 then t.get R.SEC_STAT_TOK_REFUSE = s.tokenReason b service ∧ t.is R.SEC_EVT_TOK_REFUSED = true ∧ t.val R.SEC_REFUSALS = min (s.val R.SEC_REFUSALS + 1) (2 ^ 32 - 1) ∧ t.sec.slots = s.sec.slots else if leAt b 8 1 = 3 then t.val (R.SEC_ESC_STAT (leAt b 6 1)) = 6 * 2 ^ 28 ∧ t.esc (leAt b 6 1) = {} ∧ t.is R.SEC_EVT_ENDED = true else if leAt b 8 1 = 1 then (t.esc (leAt b 6 1)).approved = true ∧ t.get (R.SEC_ESC_SIGNER_APPROVER (leAt b 6 1)) = leAt b 7 1 else t.is (R.SEC_ESC_STAT_COSIGNED (leAt b 6 1)) = true) ∧ t.mem = s.mem)) ∧
  (∀ (s : State) (k : Fin 4),
    s.get (R.SEC_ESC_STAT_STATE k) ≠ 0 →
    s.get (R.SEC_ESC_STAT_STATE k) ≠ 4 →
    (s.esc k.val).expiry ≤ s.hAbs →
    Answers (.slotExpiry k) s (fun t => t.val (R.SEC_ESC_STAT k) = 5 * 2 ^ 28 ∧ t.esc k.val = {} ∧ t.is R.SEC_EVT_ENDED = true ∧ t.val64 (R.SEC_ESC_SEQ_LO k) = 0 ∧ t.mem = s.mem)) ∧
  (∀ (s : State) (k : Fin 4),
    s.get (R.SEC_ESC_STAT_STATE k) ≠ 0 →
    s.hAbs < (s.esc k.val).expiry →
    Answers (.slotExpiry k) s (fun t => t.sec = s.sec ∧ t.regs = s.regs ∧ t.mem = s.mem))

/-- The commit of a slot, on the host half and in the field half (R55, R409, R410, R411, R415). -/
def Obligations.EscrowCommits : Prop :=
  (∀ (s : State) (k : Fin 4),
    s.time.hUnit = 0 →
    s.mintOk = true →
    s.upd.holding = false →
    s.get (R.SEC_ESC_STAT_STATE k) = 2 →
    ∀ j : Fin 4, j ≠ k → s.get (R.SEC_ESC_STAT_STATE j.val) = 0 →
    s.is (R.SEC_ESC_STAT_FIELD k) = false →
    (s.esc k.val).commitAt ≤ s.hAbs →
    s.escCheck k.val = 0 →
    Answers .escrowCommit s (fun t => t.val (R.SEC_ESC_STAT k) = 2 ^ 28 ∧ t.esc k.val = {} ∧ t.val64 R.SEC_PSET_SEQ_LO = (s.val64 R.SEC_PSET_SEQ_LO + 1) % 2 ^ 64 ∧ t.is R.SEC_EVT_COMMITTED = true ∧ t.mem = s.mem)) ∧
  (∀ (s : State) (k : Fin 4),
    s.time.hUnit = 0 →
    s.mintOk = true →
    s.upd.holding = false →
    s.get (R.SEC_ESC_STAT_STATE k) = 2 →
    ∀ j : Fin 4, j ≠ k → s.get (R.SEC_ESC_STAT_STATE j.val) = 0 →
    s.is (R.SEC_ESC_STAT_FIELD k) = false →
    s.hAbs < (s.esc k.val).commitAt →
    Answers .escrowCommit s (fun t => t.sec = s.sec ∧ t.regs = s.regs ∧ t.mem = s.mem)) ∧
  (∀ (s : State) (k : Fin 4),
    s.time.hUnit = 0 →
    s.mintOk = true →
    s.upd.holding = false →
    s.get (R.SEC_ESC_STAT_STATE k) = 2 →
    ∀ j : Fin 4, j ≠ k → s.get (R.SEC_ESC_STAT_STATE j.val) = 0 →
    s.is (R.SEC_ESC_STAT_FIELD k) = true →
    s.linkUp = true →
    Answers .escrowCommit s (fun t => t.get (R.SEC_ESC_STAT_STATE k) = 3 ∧ t.link.outHF.length = s.link.outHF.length + (heldMessages (s.esc k.val).ops).length ∧ t.mem = s.mem)) ∧
  (∀ (s : State) (u : Sub) (k : Fin 4) (m : Msg),
    s.linkUp = true →
    s.link.outHF.find? (isGo k.val) = some m →
    (s.heldBuf k.val).writes = [] →
    (s.heldBuf k.val).image = none →
    Answers (.fctlEscGo u k) s (fun t => t.link.outHF = s.link.outHF.erase m ∧ t.is R.FCTL_EVT_ESC_DONE = true ∧ t.link.goAt = s.link.goAt ∧ t.heldBuf k.val = {} ∧ t.link.outFH.length = s.link.outFH.length + 1 ∧ t.mem = s.mem)) ∧
  (∀ (s : State) (u : Sub) (k : Fin 4) (m : Msg),
    s.linkUp = true →
    s.link.outHF.find? (isGo k.val) = some m →
    (s.heldBuf k.val).writes ≠ [] →
    absTick s.time.fEra s.time.fTick < absTick (eraOf s.time.fTick s.time.fEra (T64.unpack m.t64).tick) (T64.unpack m.t64).tick →
    Answers (.fctlEscGo u k) s (fun t => t.link.outHF = s.link.outHF.erase m ∧ t.link.goAt = s.link.goAt.filter (fun p => p.1 != k.val) ++ [(k.val, absTick (eraOf s.time.fTick s.time.fEra (T64.unpack m.t64).tick) (T64.unpack m.t64).tick)] ∧ t.link.held = s.link.held ∧ t.link.outFH.length = s.link.outFH.length + 1 ∧ t.mem = s.mem)) ∧
  (∀ (s : State) (k : Fin 4),
    (s.heldBuf k.val).writes ≠ [] →
    s.link.goAt.any (fun p => p.1 == k.val) = false →
    (s.heldBuf k.val).prep + 64 ≤ absTick s.time.fEra s.time.fTick →
    Answers (.heldWriteDiscard k) s (fun t => t.heldBuf k.val = {} ∧ t.val (R.FCTL_ESC_HELD k) = 0 ∧ t.is R.FCTL_EVT_HELD_DISCARD = true ∧ t.mem = s.mem ∧ RegsKept s t (fun a => a = R.FCTL_ESC_HELD k ∨ a = R.FCTL_EVT))) ∧
  (∀ (s : State) (k : Fin 4),
    (s.heldBuf k.val).writes ≠ [] →
    s.link.goAt.any (fun p => p.1 == k.val) = false →
    absTick s.time.fEra s.time.fTick < (s.heldBuf k.val).prep + 64 →
    Answers (.heldWriteDiscard k) s (fun t => t.link = s.link ∧ t.regs = s.regs ∧ t.mem = s.mem)) ∧
  (∀ (s : State) (k : Fin 4) (c : Nat),
    s.time.fUnit = 0 →
    s.upd.holding = false →
    s.link.goAt = [(k.val, c)] →
    c ≤ absTick s.time.fEra s.time.fTick →
    (s.escCheck k.val == 0 && s.get (R.SEC_ESC_STAT_STATE k) == 3) = false →
    Answers .escApply s (fun t => t.link.goAt = [] ∧ t.heldBuf k.val = {} ∧ t.is R.FCTL_EVT_ESC_DONE = true ∧ t.val64 R.FCTL_ESC_DONE_LO = c % ticksPerEra ∧ t.val R.FCTL_ESC_DONE_GEN % 2 ^ 16 = k.val * 16 + 1 ∧ t.mem = s.mem ∧ RegsKept s t (fun a => a = R.FCTL_ESC_HELD k ∨ a = R.FCTL_EVT ∨ a = R.FCTL_ESC_DONE_LO ∨ a = R.FCTL_ESC_DONE_LO + 4 ∨ a = R.FCTL_ESC_DONE_GEN))) ∧
  (∀ (s : State) (k : Fin 4) (c : Nat) (a : Nat) (m : Nat) (v : Nat),
    s.time.fUnit = 0 →
    s.upd.holding = false →
    s.link.goAt = [(k.val, c)] →
    c ≤ absTick s.time.fEra s.time.fTick →
    (s.escCheck k.val == 0 && s.get (R.SEC_ESC_STAT_STATE k) == 3) = true →
    (s.heldBuf k.val).writes = [(a, m, v)] →
    (s.heldBuf k.val).image = none →
    isCword a = false →
    plMask a ≠ 0 →
    Answers .escApply s (fun t => t.link.goAt = [] ∧ t.heldBuf k.val = {} ∧ t.is R.FCTL_EVT_ESC_DONE = true ∧ t.val64 R.FCTL_ESC_DONE_LO = c % ticksPerEra ∧ t.val R.FCTL_ESC_DONE_GEN % 2 ^ 16 = k.val * 16 + 9 ∧ t.rd a = ((s.setHeld k.val {}).plWrite a m v).rd a ∧ t.mem = s.mem)) ∧
  (∀ (s : State) (u : Sub),
    s.powered R.SEC_CTRL = true →
    Answers (.secClrStats u) s (fun t => t.val R.SEC_REFUSALS = 0 ∧ t.sec = s.sec ∧ t.mem = s.mem ∧ RegsKept s t (fun a => a = R.SEC_REFUSALS)))

/-- Drives of the record store: examination, loss, commands, rebuild and format (R372, R373, R374, R377, R378, R379, R384, R394). -/
def Obligations.StoreDrives : Prop :=
  (∀ (s : State) (u : Sub) (d : Fin 4) (x : DriveInfo),
    s.domOn (domH 5) = true →
    (s.drive d).link = false →
    s.driveReason x ≠ 0 →
    Answers (.driveLinkUp u d x) s (fun t => t.get (R.STOR_D_STAT_STATE d) = 6 ∧ t.get (R.STOR_D_STAT_REFUSE d) = s.driveReason x ∧ (t.drive d).link = true ∧ (t.drive d).accepted = false ∧ t.is R.STOR_EVT_REFUSED = true ∧ t.mem = s.mem)) ∧
  (∀ (s : State) (u : Sub) (d : Fin 4) (x : DriveInfo),
    s.domOn (domH 5) = true →
    (s.drive d).link = false →
    s.driveReason x = 0 →
    s.posOf d.val = none →
    Answers (.driveLinkUp u d x) s (fun t => t.get (R.STOR_D_STAT_STATE d) = 2 ∧ t.get (R.STOR_D_STAT_REFUSE d) = 0 ∧ (t.drive d).link = true ∧ (t.drive d).accepted = true ∧ (t.drive d).size = x.size ∧ t.get (R.STOR_D_STAT_SPEED d) = x.speed.val ∧ t.val (R.STOR_D_WEAR d) = x.wear.val ∧ t.val (R.STOR_D_DEPTH d) = min 4096 x.mqes.val ∧ t.mem = s.mem)) ∧
  (∀ (s : State) (u : Sub) (d : Fin 4) (x : DriveInfo) (p : Nat),
    s.domOn (domH 5) = true →
    (s.drive d).link = false →
    s.driveReason x = 0 →
    s.posOf d.val = some p →
    s.store.lost.contains p = true →
    s.store.layout = 1 →
    s.store.failed = false →
    Answers (.driveLinkUp u d x) s (fun t => t.get (R.STOR_D_STAT_STATE d) = 4 ∧ t.store.rebuild = some (p, s.store.held.length) ∧ t.store.lost = s.store.lost.erase p ∧ t.get (R.STOR_D_STAT_POSITION d) = p % 4 ∧ t.is R.STOR_EVT_DRIVE_ADOPTED = true ∧ t.val R.STOR_REBUILD_POS = 0 ∧ t.mem = s.mem)) ∧
  (∀ (s : State) (u : Sub) (d : Fin 4),
    (s.drive d).link = true →
    s.posOf d.val = none →
    Answers (.driveLinkDown u d) s (fun t => (t.drive d).link = false ∧ t.get (R.STOR_D_STAT_STATE d) = (if s.get (R.STOR_D_STAT_STATE d) = 5 then 5 else 0) ∧ t.get (R.STOR_D_STAT_SPEED d) = 0 ∧ t.get (R.STOR_D_STAT_WIDTH d) = 0 ∧ t.mem = s.mem)) ∧
  (∀ (s : State) (u : Sub) (d : Fin 4) (p : Nat),
    (s.drive d).link = true →
    s.posOf d.val = some p →
    s.store.lost = [] →
    s.store.rebuild = none →
    s.store.layout = 1 →
    s.store.failed = false →
    s.get (R.STOR_D_STAT_STATE d) = 3 →
    Answers (.driveLinkDown u d) s (fun t => t.get (R.STOR_D_STAT_STATE d) = 5 ∧ t.store.lost = [p] ∧ t.store.failed = false ∧ (t.drive d).q = [] ∧ t.is R.STOR_EVT_DRIVE_LOST = true ∧ t.faultPend 0x0D = true ∧ (t.drive d).link = false ∧ t.mem = s.mem)) ∧
  (∀ (s : State) (u : Sub) (d : Fin 4) (k : Nat) (left : Nat) (r : List (Nat × Nat)),
    s.domOn (domH 5) = true →
    (s.drive d).link = true →
    (s.drive d).q = (k, left) :: r →
    s.store.loss = none →
    Answers (.nvmeCompletion u d .write true) s (fun t => (t.drive d).q = (if left ≤ (s.drive d).cmd then r else (k, left - (s.drive d).cmd) :: r) ∧ t.val (R.STOR_D_CMDS d) = (s.val (R.STOR_D_CMDS d) + 1) % 2 ^ 32 ∧ t.val64 R.STOR_BYTES_LO = (s.val64 R.STOR_BYTES_LO + min (s.drive d).cmd left) % 2 ^ 64 ∧ t.mem = s.mem)) ∧
  (∀ (s : State) (u : Sub) (d : Fin 4) (p : Nat),
    s.domOn (domH 5) = true →
    (s.drive d).link = true →
    s.posOf d.val = some p →
    s.store.lost = [] →
    s.store.rebuild = none →
    s.store.layout = 1 →
    s.store.failed = false →
    Answers (.nvmeCompletion u d .write false) s (fun t => t.get (R.STOR_D_STAT_STATE d) = 5 ∧ t.store.lost = [p] ∧ t.store.failed = false ∧ (t.drive d).q = [] ∧ t.is R.STOR_EVT_DRIVE_LOST = true ∧ t.faultPend 0x0D = true ∧ t.val (R.STOR_D_CMDS d) = (s.val (R.STOR_D_CMDS d) + 1) % 2 ^ 32 ∧ t.mem = s.mem)) ∧
  (∀ (s : State) (u : Sub) (d : Fin 4) (p : Nat),
    s.domOn (domH 5) = true →
    (s.drive d).link = true →
    s.posOf d.val = some p →
    s.store.lost = [] →
    s.store.rebuild = none →
    s.store.layout = 1 →
    s.store.failed = false →
    Answers (.nvmeCompletion u d .rebuild false) s (fun t => t.get (R.STOR_D_STAT_STATE d) = 5 ∧ t.store.lost = [p] ∧ t.store.failed = false ∧ (t.drive d).q = [] ∧ t.is R.STOR_EVT_DRIVE_LOST = true ∧ t.faultPend 0x0D = true ∧ t.val (R.STOR_D_CMDS d) = (s.val (R.STOR_D_CMDS d) + 1) % 2 ^ 32 ∧ t.mem = s.mem)) ∧
  (∀ (s : State) (u : Sub) (d : Fin 4) (p : Nat),
    s.domOn (domH 5) = true →
    (s.drive d).link = true →
    s.posOf d.val = some p →
    s.store.lost = [] →
    s.store.rebuild = none →
    s.store.layout = 1 →
    s.store.failed = false →
    Answers (.nvmeCompletion u d .flush false) s (fun t => t.get (R.STOR_D_STAT_STATE d) = 5 ∧ t.store.lost = [p] ∧ t.store.failed = false ∧ (t.drive d).q = [] ∧ t.is R.STOR_EVT_DRIVE_LOST = true ∧ t.faultPend 0x0D = true ∧ t.val (R.STOR_D_CMDS d) = (s.val (R.STOR_D_CMDS d) + 1) % 2 ^ 32 ∧ t.mem = s.mem)) ∧
  (∀ (s : State) (u : Sub) (d : Fin 4),
    s.domOn (domH 5) = true →
    (s.drive d).link = true →
    Answers (.nvmeCompletion u d .rebuild true) s (fun t => t.val (R.STOR_D_CMDS d) = (s.val (R.STOR_D_CMDS d) + 1) % 2 ^ 32 ∧ t.val64 R.STOR_BYTES_LO = (s.val64 R.STOR_BYTES_LO + (s.drive d).cmd) % 2 ^ 64 ∧ t.store = s.store ∧ t.mem = s.mem ∧ RegsKept s t (fun a => a = R.STOR_D_CMDS d ∨ a = R.STOR_BYTES_LO ∨ a = R.STOR_BYTES_LO + 4))) ∧
  (∀ (s : State) (u : Sub) (d : Fin 4) (y : SealSt),
    s.domOn (domH 5) = true →
    (s.drive d).link = true →
    s.store.pend = some y →
    y.waits.contains d.val = true →
    (s.drive d).q.any (fun q => q.1 ≤ y.run) = false →
    Answers (.nvmeCompletion u d .flush true) s (fun t => t.store.pend.map SealSt.waits = some (y.waits.erase d.val) ∧ t.val (R.STOR_D_CMDS d) = (s.val (R.STOR_D_CMDS d) + 1) % 2 ^ 32 ∧ t.mem = s.mem)) ∧
  (∀ (s : State) (u : Sub) (d : Fin 4) (b : Fin 1024),
    s.domOn (domH 5) = true →
    (s.drive d).link = true →
    Answers (.nvmeCompletion u d (.read b) false) s (fun t => t.val (R.STOR_D_CMDS d) = (s.val (R.STOR_D_CMDS d) + 1) % 2 ^ 32 ∧ t.store.readBad = b.val :: s.store.readBad ∧ t.val (R.STOR_D_ERR d) = min (s.val (R.STOR_D_ERR d) + 1) (2 ^ 32 - 1) ∧ t.mem = s.mem)) ∧
  (∀ (s : State) (u : Sub) (d : Fin 4) (b : Fin 1024),
    s.domOn (domH 5) = true →
    (s.drive d).link = true →
    Answers (.nvmeCompletion u d (.read b) true) s (fun t => t.val (R.STOR_D_CMDS d) = (s.val (R.STOR_D_CMDS d) + 1) % 2 ^ 32 ∧ t.store = s.store ∧ t.mem = s.mem ∧ RegsKept s t (fun a => a = R.STOR_D_CMDS d))) ∧
  (∀ (s : State) (u : Sub) (d : Fin 4) (ok : Bool),
    s.domOn (domH 5) = true →
    (s.drive d).link = true →
    Answers (.nvmeCompletion u d .other ok) s (fun t => t.val (R.STOR_D_CMDS d) = (s.val (R.STOR_D_CMDS d) + 1) % 2 ^ 32 ∧ t.store = s.store ∧ t.mem = s.mem ∧ RegsKept s t (fun a => a = R.STOR_D_CMDS d))) ∧
  (∀ (s : State) (u : Sub) (d : Fin 4) (ok : Bool),
    s.domOn (domH 5) = true →
    (s.drive d).link = true →
    Answers (.nvmeCompletion u d .abort ok) s (fun t => t.val (R.STOR_D_CMDS d) = (s.val (R.STOR_D_CMDS d) + 1) % 2 ^ 32 ∧ t.store.drives = s.store.drives.setIfInBounds d.val { s.drive d with aborting := false } ∧ t.mem = s.mem ∧ RegsKept s t (fun a => a = R.STOR_D_CMDS d))) ∧
  (∀ (s : State) (u : Sub) (d : Fin 4),
    s.domOn (domH 5) = true →
    (s.drive d).link = true →
    Answers (.nvmeCommandTimeout u d false) s (fun t => (t.drive d).aborting = true ∧ t.regs = s.regs ∧ t.mem = s.mem)) ∧
  (∀ (s : State) (u : Sub) (d : Fin 4) (p : Nat),
    s.domOn (domH 5) = true →
    (s.drive d).link = true →
    s.posOf d.val = some p →
    s.store.lost = [] →
    s.store.rebuild = none →
    s.store.layout = 1 →
    s.store.failed = false →
    (s.drive d).aborting = true →
    Answers (.nvmeCommandTimeout u d true) s (fun t => t.get (R.STOR_D_STAT_STATE d) = 5 ∧ t.store.lost = [p] ∧ t.store.failed = false ∧ (t.drive d).q = [] ∧ t.is R.STOR_EVT_DRIVE_LOST = true ∧ t.faultPend 0x0D = true ∧ t.mem = s.mem)) ∧
  (∀ (s : State) (u : Sub) (p : Nat) (n : Nat) (d : Fin 4),
    s.store.rebuild = some (p, n) →
    s.portOf p = d.val →
    Answers (.rebuildDone u) s (fun t => t.store.rebuild = none ∧ t.get (R.STOR_D_STAT_STATE d) = 3 ∧ t.val R.STOR_REBUILD_POS = n % 2 ^ 32 ∧ t.is R.STOR_EVT_REBUILD_DONE = true ∧ t.store.lost = s.store.lost ∧ t.mem = s.mem)) ∧
  (∀ (s : State) (u : Sub),
    s.powered R.STOR_CTRL = true →
    s.formatReason ≠ 0 →
    Answers (.storFormat u) s (fun t => t.get R.STOR_STAT_REFUSE = s.formatReason ∧ t.is R.STOR_EVT_REFUSED = true ∧ t.store = s.store ∧ t.mem = s.mem)) ∧
  (∀ (s : State) (u : Sub),
    s.powered R.STOR_CTRL = true →
    s.formatReason = 0 →
    Answers (.storFormat u) s (fun t => t.store.id.isSome = true ∧ t.val64 R.STOR_SEQ_LO = 0 ∧ t.val R.STOR_WP = 0 ∧ t.store.ports = s.acceptedPorts ∧ t.store.pins = [] ∧ t.store.lost = [] ∧ t.store.failed = false ∧ t.store.layout = s.get R.STOR_CFG_LAYOUT ∧ (∀ p : Fin 4, p.val < s.acceptedPorts.length → t.get (R.STOR_D_STAT_STATE (t.portOf p)) = 3 ∧ t.get (R.STOR_D_STAT_POSITION (t.portOf p)) = p.val) ∧ t.mem = s.mem))

/-- Recording, seals, pins, reading blocks, and the Ledger (R383, R384, R385, R387, R389, R391, R392, R395, R396). -/
def Obligations.SealsAndLedger : Prop :=
  (∀ (s : State) (u : Sub),
    s.powered R.STOR_CTRL = true →
    Answers (.storEnWrite u true) s (fun t => t.is R.STOR_CTRL_EN = true ∧ t.get R.STOR_STAT_STATE = (s.set R.STOR_CTRL_EN 1).storState ∧ t.store = s.store ∧ t.mem = s.mem)) ∧
  (∀ (s : State) (u : Sub),
    s.powered R.STOR_CTRL = true →
    s.is R.STOR_CTRL_EN = true →
    Answers (.storEnWrite u false) s (fun t => t.is R.STOR_CTRL_EN = false ∧ t.store.openO = none ∧ t.store.openL = none ∧ t.store.loss = none ∧ t.mem = s.mem)) ∧
  (∀ (s : State),
    s.sealDue = true →
    Answers .sealInstant s (fun t => t.store.pend.map SealSt.t64 = some s.hNow.pack ∧ t.store.lastInst = some s.hAbs ∧ t.store.sealNow = false ∧ t.fault.faultSeal = false ∧ t.mem = s.mem)) ∧
  (∀ (s : State),
    s.sealDue = true →
    s.store.pend.isSome = true →
    Answers .sealInstant s (fun t => t.is R.STOR_EVT_SEAL_MERGED = true ∧ t.faultPend 0x10 = true ∧ t.store.merged = s.store.merged + 1 ∧ t.mem = s.mem)) ∧
  (∀ (s : State),
    s.sealDue = false →
    Answers .sealInstant s (fun t => t.store = s.store ∧ t.regs = s.regs ∧ t.mem = s.mem)) ∧
  (∀ (s : State) (u : Sub),
    s.powered R.STOR_CTRL = true →
    Answers (.sealNow u) s (fun t => t.store.sealNow = true ∧ t.regs = s.regs ∧ t.mem = s.mem)) ∧
  (∀ (s : State) (u : Sub) (x : SealSt),
    s.store.pend = some x →
    x.asked.isSome = true →
    s.mintOk = true →
    Answers (.sealIssued u) s (fun t => t.store.pend = none ∧ t.val64 R.STOR_SEAL_NO_LO = (s.val64 R.STOR_SEAL_NO_LO + 1) % 2 ^ 64 ∧ t.val64 R.STOR_SEAL_LAST_LO = x.t64 % 2 ^ 64 ∧ t.store.merged = 0 ∧ t.mem = s.mem)) ∧
  (∀ (s : State) (u : Sub) (x : SealSt),
    s.store.pend = some x →
    x.asked = none →
    Answers (.sealIssued u) s (fun t => t.store = s.store ∧ t.regs = s.regs ∧ t.mem = s.mem)) ∧
  (∀ (s : State) (u : Sub),
    s.powered R.STOR_PIN_CTRL = true →
    s.pinReason (s.val64 R.STOR_PIN_FIRST_LO) (s.val64 R.STOR_PIN_LAST_LO) ≠ 0 →
    Answers (.pinAdd u) s (fun t => t.get R.STOR_PIN_STAT_REFUSE = s.pinReason (s.val64 R.STOR_PIN_FIRST_LO) (s.val64 R.STOR_PIN_LAST_LO) ∧ t.is R.STOR_EVT_REFUSED = true ∧ t.store = s.store ∧ t.mem = s.mem)) ∧
  (∀ (s : State) (u : Sub),
    s.powered R.STOR_PIN_CTRL = true →
    s.pinReason (s.val64 R.STOR_PIN_FIRST_LO) (s.val64 R.STOR_PIN_LAST_LO) = 0 →
    Answers (.pinAdd u) s (fun t => t.store.pins = s.store.pins ++ [(s.val64 R.STOR_PIN_FIRST_LO, s.val64 R.STOR_PIN_LAST_LO, s.rangeStripes (s.val64 R.STOR_PIN_FIRST_LO) (s.val64 R.STOR_PIN_LAST_LO))] ∧ t.get R.STOR_PIN_STAT_COUNT = s.store.pins.length + 1 ∧ t.get R.STOR_PIN_STAT_REFUSE = 0 ∧ t.mem = s.mem)) ∧
  (∀ (s : State) (u : Sub),
    s.powered R.STOR_RD_CTRL = true →
    s.store.read = none →
    s.val R.STOR_RD_BASE % 256 * 2 ^ 30 + s.get R.STOR_RD_CTRL_COUNT * 1048576 ≤ s.wqBase →
    ∀ k : Fin 4, s.is (R.ACQ_GRP_CTRL_EN k.val) = false →
    Answers (.storeRead u) s (fun t => t.store.read = some (s.val64 R.STOR_RD_SEQ_LO, s.get R.STOR_RD_CTRL_COUNT, s.val R.STOR_RD_BASE % 256 * 2 ^ 30) ∧ t.is R.STOR_RD_CTRL_GO = true ∧ t.val R.STOR_RD_STAT = 0 ∧ t.mem = s.mem ∧ RegsKept s t (fun a => a = R.STOR_RD_CTRL ∨ a = R.STOR_RD_STAT))) ∧
  (∀ (s : State) (u : Sub) (k : Fin 4),
    s.powered R.STOR_RD_CTRL = true →
    s.store.read = none →
    s.is (R.ACQ_GRP_CTRL_EN k) = true →
    rangesMeet (s.val R.STOR_RD_BASE % 256 * 2 ^ 30) (s.get R.STOR_RD_CTRL_COUNT * 1048576) (s.val (R.ACQ_GRP_MEM_BASE k) * 2 ^ 20) (s.val (R.ACQ_GRP_MEM_SIZE k) * 2 ^ 20) = true →
    Answers (.storeRead u) s (fun t => t.get R.STOR_RD_STAT_REFUSE = 1 ∧ t.is R.STOR_EVT_REFUSED = true ∧ t.store = s.store ∧ t.mem = s.mem)) ∧
  (∀ (s : State) (u : Sub),
    s.store.read.isSome = true →
    Answers (.storeRead u) s (fun t => t.store = s.store ∧ t.regs = s.regs ∧ t.mem = s.mem)) ∧
  (∀ (s : State) (u : Sub) (q : Nat) (m : Nat) (b : Nat),
    s.store.read = some (q, m, b) →
    m ≤ 1024 →
    Answers (.storeReadDone u) s (fun t => t.store.read = none ∧ t.is R.STOR_RD_CTRL_GO = false ∧ t.get R.STOR_RD_STAT_DONE = m ∧ (∀ a, (a < b ∨ b + m * 1048576 ≤ a) → memFind t.mem a = memFind s.mem a) ∧ RegsKept s t (fun a => a = R.STOR_RD_CTRL ∨ a = R.STOR_RD_STAT))) ∧
  (∀ (s : State) (u : Sub) (q : Nat) (m : Nat) (b : Nat) (i : Nat),
    s.store.read = some (q, m, b) →
    i < m →
    s.findBlock (q + i) = none →
    Answers (.storeReadDone u) s (fun t => t.is R.STOR_RD_STAT_MISSING = true)) ∧
  (∀ (s : State) (u : Sub),
    s.powered R.STOR_CTRL = true →
    Answers (.storClrStats u) s (fun t => t.val R.STOR_LOST = 0 ∧ t.val R.STOR_FILLERS = 0 ∧ t.val R.STOR_MERGED = 0 ∧ (∀ d : Fin 4, t.val (R.STOR_D_ERR d.val) = 0) ∧ t.mem = s.mem ∧ t.store = s.store ∧ RegsKept s t (fun a => a = R.STOR_LOST ∨ a = R.STOR_FILLERS ∨ a = R.STOR_MERGED ∨ ∃ d : Fin 4, a = R.STOR_D_ERR d.val))) ∧
  (∀ (s : State) (u : Sub) (n : Nat) (f : Nat) (e : Nat) (l : Nat),
    s.ledger.merge = some (n, f, e, l) →
    s.ledger.queue.length < ledgerQueue →
    Answers (.mergedAppend u) s (fun t => t.ledger.merge = none ∧ (if s.ledger.rate < ledgerRate ∧ s.ledger.queue = [] then t.val64 R.LDG_NEXT_LO = (s.val64 R.LDG_NEXT_LO + 1) % 2 ^ 64 else t.ledger.queue.length = s.ledger.queue.length + 1) ∧ t.mem = s.mem)) ∧
  (∀ (s : State) (u : Sub),
    s.powered R.LDG_CTRL = true →
    s.ledger.rate < ledgerRate →
    s.ledger.queue = [] →
    s.ledger.merge = none →
    Answers (.ldgNote u) s (fun t => t.val64 R.LDG_NEXT_LO = (s.val64 R.LDG_NEXT_LO + 1) % 2 ^ 64 ∧ t.ledger.ring.head?.map LEntry.data = some ((List.range 10).flatMap (fun k => leBytes 4 (s.val (R.LDG_NOTE k)))) ∧ t.val64 R.LDG_HEAD_IDX_LO = s.val64 R.LDG_NEXT_LO ∧ t.mem = s.mem)) ∧
  (∀ (s : State) (u : Sub),
    s.powered R.LDG_CTRL = true →
    s.ledger.queue ≠ [] →
    s.ledger.queue.length < ledgerQueue →
    s.ledger.merge = none →
    Answers (.ldgNote u) s (fun t => t.ledger.queue.length = s.ledger.queue.length + 1 ∧ t.is R.LDG_STAT_QUEUED = true ∧ t.ledger.ring = s.ledger.ring ∧ t.mem = s.mem ∧ RegsKept s t (fun a => a = R.LDG_STAT))) ∧
  (∀ (s : State) (u : Sub),
    s.powered R.LDG_CTRL = true →
    Answers (.ldgClrStats u) s (fun t => t.val R.LDG_OVERWRITTEN = 0 ∧ t.val R.LDG_MERGED = 0 ∧ t.ledger = s.ledger ∧ t.mem = s.mem ∧ RegsKept s t (fun a => a = R.LDG_OVERWRITTEN ∨ a = R.LDG_MERGED)))

/-- A step runs the command at the front of the queue with the rest of the queue; an empty queue idles (R10). -/
def Obligations.StepRunsFront : Prop :=
  (∀ (s : State) (c : Instr) (rest : List Instr), s.pending = c :: rest → step s = exec c { s with pending := rest }) ∧
  (∀ s : State, s.pending = [] → step s = .next s)

/-- Every command completes and leaves the waiting queue as it was, so a queue of n commands is empty after n steps (R10). -/
def Obligations.QueueDrains : Prop :=
  (∀ (c : Instr) (s : State), Answers c s (fun t => t.pending = s.pending)) ∧
  (∀ s : State, RunsTo s.pending.length s (fun t => t.pending = []))

/-- Every step keeps the canonical forms and time inside its fields (R61, R69, R71). -/
def Obligations.InvariantKept : Prop :=
  ∀ s t : State, s.Inv → step s = .next t → t.Inv

/-- The state after reset (R90, R91, R130, R350, R395, R415, R434, R436, R469). -/
def Obligations.ResetState : Prop :=
  State.reset.Inv ∧ State.reset.pending = [] ∧ (∀ a, memFind State.reset.mem a = 0) ∧ (∀ a, State.reset.rd a = regReset a) ∧
  State.reset.get R.CLR_CTRL_HORIZON = 8 ∧ State.reset.get R.CLR_STAT_EFF_HORIZON = 8 ∧ State.reset.val R.STOR_SEAL_INT = 100000 ∧ State.reset.is R.SEC_STAT_PSET_NEW = true ∧
  State.reset.get R.SYS_MODE_MODE = 1 ∧ State.reset.is R.UPD_STAT_DRIVING = true ∧ State.reset.val R.UPD_CHECK = 60 ∧
  State.reset.val R.POD_PWR_BUDGET = 72000 ∧ (∀ p : Fin 256, State.reset.get (R.PIN_PROT_ILIM p) = 10) ∧
  State.reset.is R.FLT_STAT_FAULT_HOLD = false ∧ State.reset.get R.TIME_CTRL_SRC = 0 ∧
  (∀ i : Fin 144, State.reset.val (R.FLT_ACT i) = Config.actReset i)

/-- A 64-bit host access is two 32-bit accesses, low word first (R5). -/
def Obligations.TwoAccesses : Prop :=
  ∀ (s : State) (u : Sub) (a : Nat) (w : Option (Word × Word)), a % 8 = 0 → a < barSize →
    ∃ t1 t2, exec (hostAccess u a (w.map Prod.fst)) s = .next t1 ∧ exec (hostAccess u (a + 4) (w.map Prod.snd)) t1 = .next t2 ∧
      exec (.host64bitAccess u a w) s = .next t2

/-- Addresses of BAR0 that hold no register, and addresses outside every range (R7, R21). -/
def Obligations.NoRegister : Prop :=
  (∀ (s : State) (u : Sub) (a : Nat) (v : Word), a < barSize → rowAt a = none → isFieldAddr a = false →
    exec (hostAccess u a none) s = .next ((s.atH u).ioGive 0 0) ∧ exec (hostAccess u a (some v)) s = .next (s.atH u)) ∧
  (∀ (s : State) (u : Sub) (a : Nat) (v : Word), a < barSize → rowAt a = none → isFieldAddr a = true → s.linkUp = true → s.mode ≠ 0 → s.powered a = true →
    Answers (.rsRead u .host a) s (fun t => t.io.host = 0) ∧
    exec (.registerWrite u .host a v) s = .next (if blockCode a = 0x11 ∨ blockCode a = 0x12 then s.atSeq u else s.atF u)) ∧
  (∀ (s : State) (u : Sub) (a : Nat) (x : Option Word), a < barSize → domainOf a = none →
    Answers (hostAccess u a x) s (fun t => t.link = s.link ∧ (x = none → t.io.host = 0) ∧ t.regs = s.regs)) ∧
  (∀ a, (0x110000 ≤ a ∧ a ≤ 0xFFFFFF) ∨ (0x1500000 ≤ a ∧ a ≤ 0x17FFFFF) ∨ (0x18C0000 ≤ a ∧ a ≤ 0x19FFFFF) ∨ (0x2000000 ≤ a ∧ a ≤ 0x3FFFFFF) →
    domainOf a = none)

/-- EN of a pin stays 0 while the port has a role and no de-skew value (R116). -/
def Obligations.NoDeskewNoEnable : Prop :=
  ∀ (s : State) (u : Sub) (p : Port), (s.role p = roleRemote ∨ s.role p = roleLaneCmp ∨ s.role p = roleLaneDrv) →
    s.is (R.PIN_STAT_DESKEW_VALID p) = false → s.is (R.PIN_CTRL_EN p) = false →
    exec (.pinEnable u p) s = .next (s.atF u) ∧
    (∀ (r : Requester) (v : Word), Answers (.registerWrite u r (R.PIN_CTRL p) v) s (fun t => t.is (R.PIN_CTRL_EN p) = false))

/-- Acquisition memory changes only by the commands that store to it or switch its domain (R249, R356, R389). -/
def Obligations.MemoryKept : Prop :=
  ∀ (c : Instr) (s t : State), mayStore c = false → exec c s = .next t → t.mem = s.mem
end

