-- ==== Sys2Proof/Laws/Ops.lean ====
section
/-! SUPPORT. What each shared operation can do, said once: the parts of the state that it may change, the registers that it may write, and that it
keeps the canonical form of the register file. -/

namespace Sys2Proof.Machine

/-! ### Register files -/

/-- The register file `r'` comes from `r` by writes to registers that `w` names: the canonical form stays, and every other register reads as before. -/
def RegsFrom (w : Nat → Prop) (r r' : List (Nat × Word)) : Prop :=
  (regsWf r = true → regsWf r' = true) ∧ ∀ a, ¬ w a → regsGet r' a = regsGet r a

theorem RegsFrom.refl (w : Nat → Prop) (r : List (Nat × Word)) : RegsFrom w r r := ⟨id, fun _ _ => rfl⟩

theorem RegsFrom.trans {w : Nat → Prop} {r r' r'' : List (Nat × Word)} (h : RegsFrom w r r') (h' : RegsFrom w r' r'') : RegsFrom w r r'' :=
  ⟨h'.1 ∘ h.1, fun a ha => (h'.2 a ha).trans (h.2 a ha)⟩

theorem RegsFrom.set {w : Nat → Prop} {a : Nat} (r : List (Nat × Word)) (x : Word) (h : w a) : RegsFrom w r (regsSet r a x) :=
  ⟨regsWf_set a x, fun _ hb => regsGet_set_ne r x (fun e => hb (e ▸ h))⟩

/-! ### The two sides

`OnHost w` is what the operations of the host half may do: registers that `w` names, Clearing, the event queue and the Ledger.
`OnField w` is what those of the field half may do: registers that `w` names, and messages on their way. -/

def OnHost (w : Nat → Prop) (s t : State) : Prop :=
  ∃ r c h l, t = { s with regs := r, clr := c, hdma := h, ledger := l } ∧ RegsFrom w s.regs r

def OnField (w : Nat → Prop) (s t : State) : Prop := ∃ r k, t = { s with regs := r, link := k } ∧ RegsFrom w s.regs r

namespace OnHost
variable {w : Nat → Prop} {s t u : State}

theorem refl (w : Nat → Prop) (s : State) : OnHost w s s := ⟨_, _, _, _, rfl, .refl _ _⟩
theorem trans (h : OnHost w s t) (h' : OnHost w t u) : OnHost w s u := by
  obtain ⟨r, c, d, l, rfl, hr⟩ := h
  obtain ⟨r', c', d', l', rfl, hr'⟩ := h'
  exact ⟨r', c', d', l', rfl, hr.trans hr'⟩
theorem mono {w' : Nat → Prop} (hw : ∀ a, w a → w' a) (h : OnHost w s t) : OnHost w' s t := by
  obtain ⟨r, c, d, l, rfl, hr⟩ := h
  exact ⟨r, c, d, l, rfl, hr.1, fun a ha => hr.2 a (fun x => ha (hw a x))⟩
theorem wr {a : Nat} (s : State) (x : Word) (h : w a) : OnHost w s (s.wr a x) := ⟨_, _, _, _, rfl, .set _ _ h⟩
theorem put {a : Nat} (s : State) (v : Nat) (h : w a) : OnHost w s (s.put a v) := wr s _ h
theorem set (s : State) (f : Fld) (v : Nat) (h : w f.addr) : OnHost w s (s.set f v) := wr s _ h
theorem put64 {a : Nat} (s : State) (v : Nat) (h : w a) (h4 : w (a + 4)) : OnHost w s (s.put64 a v) := (put s _ h).trans (put _ _ h4)
theorem clr (w : Nat → Prop) (s : State) (c : ClrSt) : OnHost w s { s with clr := c } := ⟨_, _, _, _, rfl, .refl _ _⟩
theorem hdma (w : Nat → Prop) (s : State) (h : HdmaSt) : OnHost w s { s with hdma := h } := ⟨_, _, _, _, rfl, .refl _ _⟩
theorem ite (c : Bool) (h : OnHost w s t) : OnHost w s (if c then t else s) := by cases c <;> simp [h, refl]
theorem ledger (w : Nat → Prop) (s : State) (l : LedgerSt) : OnHost w s { s with ledger := l } := ⟨_, _, _, _, rfl, .refl _ _⟩
/-- What such an operation leaves: acquisition memory, time, and every other register. -/
theorem mem (h : OnHost w s t) : t.mem = s.mem := by obtain ⟨_, _, _, _, rfl, _⟩ := h; rfl
theorem time (h : OnHost w s t) : t.time = s.time := by obtain ⟨_, _, _, _, rfl, _⟩ := h; rfl
theorem pending (h : OnHost w s t) : t.pending = s.pending := by obtain ⟨_, _, _, _, rfl, _⟩ := h; rfl
theorem rd (h : OnHost w s t) {a : Nat} (ha : ¬ w a) : t.rd a = s.rd a := by
  obtain ⟨_, _, _, _, rfl, hr⟩ := h; exact hr.2 a ha
theorem inv (h : OnHost w s t) (hs : s.Inv) : t.Inv := by
  obtain ⟨_, _, _, _, rfl, hr⟩ := h; exact ⟨hr.1 hs.1, hs.2⟩
end OnHost

namespace OnField
variable {w : Nat → Prop} {s t u : State}

theorem refl (w : Nat → Prop) (s : State) : OnField w s s := ⟨_, _, rfl, .refl _ _⟩
theorem trans (h : OnField w s t) (h' : OnField w t u) : OnField w s u := by
  obtain ⟨r, k, rfl, hr⟩ := h
  obtain ⟨r', k', rfl, hr'⟩ := h'
  exact ⟨r', k', rfl, hr.trans hr'⟩
theorem mono {w' : Nat → Prop} (hw : ∀ a, w a → w' a) (h : OnField w s t) : OnField w' s t := by
  obtain ⟨r, k, rfl, hr⟩ := h
  exact ⟨r, k, rfl, hr.1, fun a ha => hr.2 a (fun x => ha (hw a x))⟩
theorem wr {a : Nat} (s : State) (x : Word) (h : w a) : OnField w s (s.wr a x) := ⟨_, _, rfl, .set _ _ h⟩
theorem put {a : Nat} (s : State) (v : Nat) (h : w a) : OnField w s (s.put a v) := wr s _ h
theorem set (s : State) (f : Fld) (v : Nat) (h : w f.addr) : OnField w s (s.set f v) := wr s _ h
theorem put64 {a : Nat} (s : State) (v : Nat) (h : w a) (h4 : w (a + 4)) : OnField w s (s.put64 a v) := (put s _ h).trans (put _ _ h4)
theorem link (w : Nat → Prop) (s : State) (k : LinkSt) : OnField w s { s with link := k } := ⟨_, _, rfl, .refl _ _⟩
theorem mem (h : OnField w s t) : t.mem = s.mem := by obtain ⟨_, _, rfl, _⟩ := h; rfl
theorem time (h : OnField w s t) : t.time = s.time := by obtain ⟨_, _, rfl, _⟩ := h; rfl
theorem pending (h : OnField w s t) : t.pending = s.pending := by obtain ⟨_, _, rfl, _⟩ := h; rfl
theorem rd (h : OnField w s t) {a : Nat} (ha : ¬ w a) : t.rd a = s.rd a := by
  obtain ⟨_, _, rfl, hr⟩ := h; exact hr.2 a ha
theorem inv (h : OnField w s t) (hs : s.Inv) : t.Inv := by
  obtain ⟨_, _, rfl, hr⟩ := h; exact ⟨hr.1 hs.1, hs.2⟩
end OnField

/-! ### Reads of fields after writes -/

/-- A field of another register reads as before. -/
@[simp] theorem State.get_wr_ne (s : State) {a : Nat} (x : Word) (f : Fld) (h : f.addr ≠ a) : (s.wr a x).get f = s.get f := by
  simp [State.get, h]
@[simp] theorem State.get_put_ne (s : State) {a : Nat} (v : Nat) (f : Fld) (h : f.addr ≠ a) : (s.put a v).get f = s.get f := State.get_wr_ne s _ f h
@[simp] theorem State.get_set_ne (s : State) (g : Fld) (v : Nat) (f : Fld) (h : f.addr ≠ g.addr) : (s.set g v).get f = s.get f := State.get_wr_ne s _ f h

/-! ### Whole registers -/

/-- Writing reset values back to a range keeps the canonical form; outside the range, and where `keep` says, registers read as before. -/
theorem State.resetRange_regs (s : State) (lo hi : Nat) (keep : Nat → Bool) :
    RegsFrom (fun a => lo ≤ a ∧ a ≤ hi ∧ keep a = false) s.regs (s.resetRange lo hi keep).regs := by
  refine ⟨regsWf_filter _, fun a ha => ?_⟩
  have hk : ∀ l : List (Nat × Word), regsFind (l.filter (fun p => p.1 < lo || hi < p.1 || keep p.1)) a = regsFind l a := by
    intro l
    induction l with
    | nil => rfl
    | cons p r ih =>
      obtain ⟨b, v⟩ := p
      by_cases hb : a = b
      · subst hb
        have hp : (decide (a < lo) || decide (hi < a) || keep a) = true := by
          rcases Bool.eq_false_or_eq_true (keep a) with h | h
          · simp [h]
          · by_cases h1 : a < lo
            · simp [h1]
            · by_cases h2 : hi < a
              · simp [h2]
              · exact absurd ⟨by omega, by omega, h⟩ ha
        simp [hp, regsFind]
      · by_cases hp : (decide (b < lo) || decide (hi < b) || keep b) = true
        · simp [hp, regsFind, hb, ih]
        · simp [hp, regsFind, hb, ih]
  simp only [regsGet, State.resetRange, hk]

/-- In the range, where `keep` does not say otherwise, registers read their reset values. -/
theorem State.rd_resetRange (s : State) (lo hi : Nat) (keep : Nat → Bool) {a : Nat} (hl : lo ≤ a) (hh : a ≤ hi) (hk : keep a = false) :
    (s.resetRange lo hi keep).rd a = regReset a := by
  have : ∀ l : List (Nat × Word), regsFind (l.filter (fun p => p.1 < lo || hi < p.1 || keep p.1)) a = none := by
    intro l
    induction l with
    | nil => rfl
    | cons p r ih =>
      obtain ⟨b, v⟩ := p
      by_cases hp : (decide (b < lo) || decide (hi < b) || keep b) = true
      · have hb : a ≠ b := by
          rintro rfl
          simp [hk, Nat.not_lt.mpr hl, Nat.not_lt.mpr hh] at hp
        simp [hp, regsFind, hb, ih]
      · simp [hp, ih]
  simp [State.rd, regsGet, State.resetRange, this]

/-! ### Counters (R12–R15) and results (R85) -/

theorem State.satCount_field (s : State) (a w n : Nat) (e : Fld) : OnField (fun b => b = a ∨ b = e.addr) s (s.satCount a w n e).1 := by
  unfold State.satCount
  dsimp only
  split
  · exact (OnField.put s _ (.inl rfl)).trans (OnField.set _ e 1 (.inr rfl))
  · exact OnField.put s _ (.inl rfl)

theorem State.satCount_host (s : State) (a w n : Nat) (e : Fld) : OnHost (fun b => b = a ∨ b = e.addr) s (s.satCount a w n e).1 := by
  unfold State.satCount
  dsimp only
  split
  · exact (OnHost.put s _ (.inl rfl)).trans (OnHost.set _ e 1 (.inr rfl))
  · exact OnHost.put s _ (.inl rfl)

/-- The counter after a count: limited at its maximum (R13). -/
theorem State.satCount_rd (s : State) (a w n : Nat) (e : Fld) (h : a ≠ e.addr) :
    (s.satCount a w n e).1.rd a = BitVec.ofNat 32 (satAdd w (s.val a) n) := by
  unfold State.satCount
  dsimp only
  split <;> simp [h]

theorem State.satCount48_field (s : State) (a n : Nat) (e : Fld) :
    OnField (fun b => b = a ∨ b = a + 4 ∨ b = e.addr) s (s.satCount48 a n e).1 := by
  unfold State.satCount48
  dsimp only
  split
  · exact (OnField.put64 s _ (.inl rfl) (.inr (.inl rfl))).trans (OnField.set _ e 1 (.inr (.inr rfl)))
  · exact OnField.put64 s _ (.inl rfl) (.inr (.inl rfl))

theorem State.satField_host (s : State) (f : Fld) (n : Nat) (e : Fld) : OnHost (fun b => b = f.addr ∨ b = e.addr) s (s.satField f n e).1 := by
  unfold State.satField
  dsimp only
  split
  · exact (OnHost.set s f _ (.inl rfl)).trans (OnHost.set _ e 1 (.inr rfl))
  · exact OnHost.set s f _ (.inl rfl)

theorem State.replaceResult_field (s : State) (lo gen v bits : Nat) :
    OnField (fun b => b = lo ∨ b = lo + 4 ∨ b = gen) s (s.replaceResult lo gen v bits) :=
  (OnField.put64 s _ (.inl rfl) (.inr (.inl rfl))).trans (OnField.put _ _ (.inr (.inr rfl)))

theorem State.replaceResult_host (s : State) (lo gen v bits : Nat) :
    OnHost (fun b => b = lo ∨ b = lo + 4 ∨ b = gen) s (s.replaceResult lo gen v bits) :=
  (OnHost.put64 s _ (.inl rfl) (.inr (.inl rfl))).trans (OnHost.put _ _ (.inr (.inr rfl)))

/-! ### Messages -/

/-- A message from the field half changes nothing but what is on its way. -/
theorem State.sendFH_field (s : State) (ty vc t64 : Nat) (pl : List Byte) (extra drop : Nat) :
    OnField (fun _ => False) s (s.sendFH ty vc t64 pl extra drop) := by
  unfold State.sendFH
  split
  · exact OnField.link _ _ _
  · exact OnField.link _ _ _

/-- While the link is up, the message joins those on their way. -/
theorem State.sendFH_up (s : State) (ty vc t64 : Nat) (pl : List Byte) (extra drop : Nat) (h : s.get R.ISO_STAT_STATE = 2) :
    (s.sendFH ty vc t64 pl extra drop).link.outFH
      = s.link.outFH ++ [mkMsg ty vc ((s.fieldFlags vc t64 ||| extra) &&& (15 ^^^ drop)) (s.link.txFH.getD vc 0) t64 pl] := by
  simp [State.sendFH, h]

/-- A message from the host half changes what is on its way and counts its bytes. -/
theorem State.sendHF_field (s : State) (ty vc t64 : Nat) (pl : List Byte) (extra : Nat) :
    OnField (fun a => a = R.ISO_TX_BYTES_LO ∨ a = R.ISO_TX_BYTES_LO + 4) s (s.sendHF ty vc t64 pl extra) :=
  (OnField.link _ _ _).trans (OnField.put64 _ _ (.inl rfl) (.inr rfl))

theorem State.sendHF_out (s : State) (ty vc t64 : Nat) (pl : List Byte) (extra : Nat) :
    (s.sendHF ty vc t64 pl extra).link.outHF
      = s.link.outHF ++ [mkMsg ty vc (flagSOM + flagEOM + extra) (s.link.txHF.getD vc 0) t64 pl] := rfl

/-- An event of a field block is one message. -/
theorem State.fieldEvent_field (s : State) (blk code inst t64 : Nat) (data : List Byte) :
    OnField (fun _ => False) s (s.fieldEvent blk code inst t64 data) := State.sendFH_field _ _ _ _ _ _ _

/-- An event bit of a field block and its event write that bit's register alone. -/
theorem State.evt_field (s : State) (f : Fld) (blk code inst : Nat) (data : State → List Byte) :
    OnField (fun a => a = f.addr) s (s.evt f blk code inst data) :=
  (OnField.set (w := fun a => a = f.addr) s f 1 rfl).trans ((State.fieldEvent_field _ _ _ _ _ _).mono (fun _ h => h.elim))

/-! ### Clearing, the event queue and the Ledger -/

/-- Registers that Clearing's intake writes. -/
def clrRegs : List Nat := [R.CLR_LATE_COUNT, R.CLR_LATE_MAX, R.CLR_EVT]
/-- Registers that the event queue writes. -/
def eqRegs : List Nat := [R.HDMA_EQ_LOST, R.HDMA_EQ_TAIL, R.HDMA_EVT]
/-- Registers that the Ledger's appends write. -/
def ldgRegs : List Nat :=
  [R.LDG_NEXT_LO, R.LDG_NEXT_LO + 4, R.LDG_HEAD_IDX_LO, R.LDG_HEAD_IDX_LO + 4, R.LDG_BASE_LO, R.LDG_BASE_LO + 4, R.LDG_SPILLED_LO,
   R.LDG_SPILLED_LO + 4, R.LDG_OVERWRITTEN, R.LDG_EVT, R.LDG_STAT, R.LDG_MERGED]

/-- An item handed to Clearing is staged or late. -/
theorem State.toClearing_host (s : State) (era t64 cls inst src : Nat) (bs : List Byte) :
    OnHost (fun a => a ∈ clrRegs) s (s.toClearing era t64 cls inst src bs) := by
  unfold State.toClearing
  dsimp only
  split
  · refine (OnHost.clr _ _ _).trans ((OnHost.clr _ _ _).trans (((State.satCount_host _ _ _ _ _).mono ?_).trans
      (((State.satCount_host _ _ _ _ _).mono ?_).trans (OnHost.set _ _ _ ?_))))
    · rintro a (rfl | rfl)
      · exact List.mem_cons_self
      · exact List.mem_cons_of_mem _ (List.mem_cons_of_mem _ List.mem_cons_self)
    · rintro a (rfl | rfl)
      · exact List.mem_cons_of_mem _ List.mem_cons_self
      · exact List.mem_cons_of_mem _ (List.mem_cons_of_mem _ List.mem_cons_self)
    · exact List.mem_cons_of_mem _ (List.mem_cons_of_mem _ List.mem_cons_self)
  · exact (OnHost.clr _ _ _).trans (OnHost.clr _ _ _)

/-- An item on time joins the staging area. -/
theorem State.toClearing_staged (s : State) (era t64 cls inst src : Nat) (bs : List Byte)
    (h : absTick s.clr.relEra s.clr.relTick ≤ absTick era (T64.unpack t64).tick) :
    (s.toClearing era t64 cls inst src bs).clr.staged = s.clr.staged ++ [⟨era, t64, cls, inst, src, s.clr.arr, bs⟩]
      ∧ (s.toClearing era t64 cls inst src bs).regs = s.regs := by
  simp [State.toClearing, Nat.not_lt.mpr h]

theorem State.msix_host (s : State) (v : Nat) : OnHost (fun _ => False) s (s.msix v) := by
  unfold State.msix
  split <;> exact OnHost.hdma _ _ _

theorem State.hdmaEvt_host (s : State) (f : Fld) : OnHost (fun a => a = f.addr) s (s.hdmaEvt f) :=
  (OnHost.set (w := fun a => a = f.addr) s f 1 rfl).trans ((State.msix_host _ _).mono (fun _ h => h.elim))

theorem State.eqVector_host (s : State) (blk : Nat) : OnHost (fun _ => False) s (s.eqVector blk) := by
  unfold State.eqVector
  dsimp only
  split
  · exact (OnHost.hdma _ _ _).trans (State.msix_host _ _)
  · exact OnHost.hdma _ _ _

/-- An event record enters the queue in host memory, or is lost. -/
theorem State.toEventQueue_host (s : State) (blk : Nat) (rcd : List Byte) : OnHost (fun a => a ∈ eqRegs) s (s.toEventQueue blk rcd) := by
  have hl : R.HDMA_EQ_LOST ∈ eqRegs := List.mem_cons_self
  have ht : R.HDMA_EQ_TAIL ∈ eqRegs := List.mem_cons_of_mem _ List.mem_cons_self
  have he : R.HDMA_EVT ∈ eqRegs := List.mem_cons_of_mem _ (List.mem_cons_of_mem _ List.mem_cons_self)
  unfold State.toEventQueue
  dsimp only
  split
  · split
    · have h1 : OnHost (fun a => a ∈ eqRegs) s (s.satCount R.HDMA_EQ_LOST 32 1 R.HDMA_EVT_SATURATED).1 := by
        refine (State.satCount_host _ _ _ _ _).mono ?_
        rintro a (rfl | rfl)
        · exact hl
        · exact he
      split
      · exact h1
      · refine h1.trans ((OnHost.hdma _ _ _).trans ((State.hdmaEvt_host _ _).mono ?_))
        rintro a rfl
        exact he
    · have tail (c : Prop) [Decidable c] (t : State) (v w : Nat) : OnHost (fun a => a ∈ eqRegs) t
          ((if c then (t.set R.HDMA_EQ_TAIL_INDEX v).set R.HDMA_EQ_TAIL_PHASE w else t.set R.HDMA_EQ_TAIL_INDEX v).eqVector blk) := by
        refine OnHost.trans ?_ ((State.eqVector_host _ _).mono (fun _ h => h.elim))
        split
        · exact (OnHost.set _ R.HDMA_EQ_TAIL_INDEX _ ht).trans (OnHost.set _ R.HDMA_EQ_TAIL_PHASE _ ht)
        · exact OnHost.set _ R.HDMA_EQ_TAIL_INDEX _ ht
      exact (OnHost.hdma _ _ _).trans (tail _ _ _ _)
  · exact OnHost.refl _ _

/-- An event of a host block goes to Clearing and to the event queue. -/
theorem State.hostEvent_host (s : State) (blk code inst t64 : Nat) (data : List Byte) :
    OnHost (fun a => a ∈ clrRegs ∨ a ∈ eqRegs) s (s.hostEvent blk code inst t64 data) :=
  ((State.toClearing_host _ _ _ _ _ _ _).mono (fun _ => .inl)).trans ((State.toEventQueue_host _ _ _).mono (fun _ => .inr))

/-- A Ledger entry written to the ring. -/
theorem State.ledgerWrite_host (s : State) (e : LEntry) :
    OnHost (fun a => a ∈ ldgRegs ∨ a ∈ clrRegs ∨ a ∈ eqRegs) s (s.ledgerWrite e) := by
  have m {a : Nat} (h : a ∈ ldgRegs) : a ∈ ldgRegs ∨ a ∈ clrRegs ∨ a ∈ eqRegs := .inl h
  have hs : R.LDG_STAT ∈ ldgRegs := by simp [ldgRegs]
  have he : R.LDG_EVT ∈ ldgRegs := by simp [ldgRegs]
  unfold State.ledgerWrite
  extract_lets i e' h base isOver unspilled l s1 s2 s4 old l5 s5 t1 t2 t3 l6 s6 s7
  have h1 : OnHost (fun a => a ∈ ldgRegs ∨ a ∈ clrRegs ∨ a ∈ eqRegs) s s1 := OnHost.ledger _ _ _
  have h2 : OnHost (fun a => a ∈ ldgRegs ∨ a ∈ clrRegs ∨ a ∈ eqRegs) s s2 := h1.trans (OnHost.put64 (a := R.LDG_NEXT_LO) s1 (i + 1) (m (by simp [ldgRegs])) (m (by simp [ldgRegs])))
  have h4 : OnHost (fun a => a ∈ ldgRegs ∨ a ∈ clrRegs ∨ a ∈ eqRegs) s s4 := h2.trans (OnHost.put64 (a := R.LDG_HEAD_IDX_LO) s2 i (m (by simp [ldgRegs])) (m (by simp [ldgRegs])))
  have h5 : OnHost (fun a => a ∈ ldgRegs ∨ a ∈ clrRegs ∨ a ∈ eqRegs) s4 s5 :=
    .ite isOver ((OnHost.ledger _ s4 _).trans (OnHost.put64 (a := R.LDG_BASE_LO) _ _ (m (by simp [ldgRegs])) (m (by simp [ldgRegs]))))
  have g1 : OnHost (fun a => a ∈ ldgRegs ∨ a ∈ clrRegs ∨ a ∈ eqRegs) s5 t1 := by
    refine (State.satCount_host s5 _ _ _ _).mono ?_
    rintro a (rfl | rfl)
    · exact m (by simp [ldgRegs])
    · exact m he
  have g2 : OnHost (fun a => a ∈ ldgRegs ∨ a ∈ clrRegs ∨ a ∈ eqRegs) s5 t2 := g1.trans ((OnHost.put64 (a := R.LDG_SPILLED_LO) t1 (base + 1) (m (by simp [ldgRegs])) (m (by simp [ldgRegs]))).trans
    (OnHost.set _ R.LDG_EVT_OVERWRITE 1 (m he)))
  have g3 : OnHost (fun a => a ∈ ldgRegs ∨ a ∈ clrRegs ∨ a ∈ eqRegs) s5 t3 := g2.trans ((State.hostEvent_host _ _ _ _ _ _).mono (fun _ => .inr))
  have h6 : OnHost (fun a => a ∈ ldgRegs ∨ a ∈ clrRegs ∨ a ∈ eqRegs) s5 s6 := .ite unspilled (g3.trans (OnHost.ledger _ t3 _))
  clear_value s6 s5 s4
  have h7 : OnHost (fun a => a ∈ ldgRegs ∨ a ∈ clrRegs ∨ a ∈ eqRegs) s s7 := (h4.trans (h5.trans h6)).trans (OnHost.set _ R.LDG_STAT_RING_FULL _ (m hs))
  clear_value s7
  exact h7.trans ((State.toClearing_host _ _ _ _ _ _ _).mono (fun _ h => .inr (.inl h)))

/-- A Ledger entry is written, waits in the queue, or is merged. -/
theorem State.ledger1_host (s : State) (e : LEntry) : OnHost (fun a => a ∈ ldgRegs ∨ a ∈ clrRegs ∨ a ∈ eqRegs) s (s.ledger1 e) := by
  have hs : R.LDG_STAT ∈ ldgRegs := by simp [ldgRegs]
  have he : R.LDG_EVT ∈ ldgRegs := by simp [ldgRegs]
  unfold State.ledger1
  split
  · exact (OnHost.ledger _ _ _).trans (State.ledgerWrite_host _ _)
  · split
    · exact (OnHost.ledger _ _ _).trans (OnHost.set _ R.LDG_STAT_QUEUED _ (.inl hs))
    · dsimp only
      refine (OnHost.ledger _ _ _).trans (((State.satCount_host _ _ _ _ _).mono ?_).trans (OnHost.set _ R.LDG_EVT_MERGED _ (.inl he)))
      rintro a (rfl | rfl)
      · exact .inl (by simp [ldgRegs])
      · exact .inl he

theorem State.ledgerH_host (s : State) (source code inst : Nat) (data : List Byte) :
    OnHost (fun a => a ∈ ldgRegs ∨ a ∈ clrRegs ∨ a ∈ eqRegs) s (s.ledgerH source code inst data) := State.ledger1_host _ _
theorem State.ledgerF_host (s : State) (source code inst : Nat) (data : List Byte) :
    OnHost (fun a => a ∈ ldgRegs ∨ a ∈ clrRegs ∨ a ∈ eqRegs) s (s.ledgerF source code inst data) := State.ledger1_host _ _
theorem State.stopEntry_host (s : State) (source inst t64 cancelled cut : Nat) :
    OnHost (fun a => a ∈ ldgRegs ∨ a ∈ clrRegs ∨ a ∈ eqRegs) s (s.stopEntry source inst t64 cancelled cut) := State.ledger1_host _ _

/-! ### Event bits and counters of the field blocks (Flags.lean) -/

theorem State.pinEvt_field (s : State) (p : Nat) (f : Fld) (code : Nat) : OnField (fun a => a = f.addr) s (s.pinEvt p f code) := State.evt_field _ _ _ _ _ _
theorem State.seqEvt_field (s : State) (f : Fld) (code : Nat) (data : List Byte) : OnField (fun a => a = f.addr) s (s.seqEvt f code data) :=
  State.evt_field _ _ _ _ _ _
theorem State.failEvt_field (s : State) (f : Fld) (code : Nat) : OnField (fun a => a = f.addr) s (s.failEvt f code) := State.evt_field _ _ _ _ _ _
theorem State.genEvt_field (s : State) (g : Nat) (f : Fld) (code b : Nat) : OnField (fun a => a = f.addr) s (s.genEvt g f code b) := State.evt_field _ _ _ _ _ _
theorem State.laneEvt_field (s : State) (l : Nat) (f : Fld) (code b : Nat) : OnField (fun a => a = f.addr) s (s.laneEvt l f code b) := State.evt_field _ _ _ _ _ _
theorem State.acqEvt_field (s : State) (f : Fld) (code inst t64 b : Nat) : OnField (fun a => a = f.addr) s (s.acqEvt f code inst t64 b) :=
  (OnField.set (w := fun a => a = f.addr) s f 1 rfl).trans ((State.fieldEvent_field _ _ _ _ _ _).mono (fun _ h => h.elim))
theorem State.tlyEvt_field (s : State) (f : Fld) (code inst b : Nat) : OnField (fun a => a = f.addr) s (s.tlyEvt f code inst b) :=
  (OnField.set (w := fun a => a = f.addr) s f 1 rfl).trans ((State.fieldEvent_field _ _ _ _ _ _).mono (fun _ h => h.elim))
theorem State.acqRefuse_field (s : State) (inst reason : Nat) :
    OnField (fun a => a = R.ACQ_STAT ∨ a = R.ACQ_EVT) s (s.acqRefuse inst reason) :=
  (OnField.set s R.ACQ_STAT_REFUSE _ (.inl rfl)).trans ((State.acqEvt_field _ _ _ _ _ _).mono (fun _ h => .inr h))

/-- A count of a channel writes its counter and PIN_EVT. -/
theorem State.pinCount_field (s : State) (p a n : Nat) : OnField (fun b => b = a ∨ b = R.PIN_EVT p) s (s.pinCount p a n) := by
  unfold State.pinCount
  dsimp only
  split
  · exact (State.satCount_field _ _ _ _ _).trans ((State.pinEvt_field _ _ _ _).mono (fun _ h => .inr h))
  · exact State.satCount_field _ _ _ _ _
theorem State.genCount_field (s : State) (g a n : Nat) : OnField (fun b => b = a ∨ b = R.GEN_EVT g) s (s.genCount g a n) := by
  unfold State.genCount
  dsimp only
  split
  · exact (State.satCount_field _ _ _ _ _).trans ((State.genEvt_field _ _ _ _ _).mono (fun _ h => .inr h))
  · exact State.satCount_field _ _ _ _ _
theorem State.laneCount_field (s : State) (l a n : Nat) : OnField (fun b => b = a ∨ b = R.LANE_EVT l) s (s.laneCount l a n) := by
  unfold State.laneCount
  dsimp only
  split
  · exact (State.satCount_field _ _ _ _ _).trans ((State.laneEvt_field _ _ _ _ _).mono (fun _ h => .inr h))
  · exact State.satCount_field _ _ _ _ _
theorem State.acqCount_field (s : State) (a n : Nat) : OnField (fun b => b = a ∨ b = R.ACQ_EVT) s (s.acqCount a n) := by
  unfold State.acqCount
  dsimp only
  split
  · exact (State.satCount_field _ _ _ _ _).trans ((State.acqEvt_field _ _ _ _ _ _).mono (fun _ h => .inr h))
  · exact State.satCount_field _ _ _ _ _
theorem State.tlyCount_field (s : State) (unit a n : Nat) : OnField (fun b => b = a ∨ b = R.TLY_EVT) s (s.tlyCount unit a n) := by
  unfold State.tlyCount
  dsimp only
  split
  · exact (State.satCount_field _ _ _ _ _).trans ((State.tlyEvt_field _ _ _ _ _).mono (fun _ h => .inr h))
  · exact State.satCount_field _ _ _ _ _

end Sys2Proof.Machine
end

