-- ==== Sys2Proof/Tests/Slice0.lean ====
section
/-! SUPPORT. The model's own tests: ill-formed operands are refused, single steps on small states, and a state for every premise of the obligations. -/

namespace Sys2Proof.Tests

set_option linter.unusedVariables false
set_option Elab.async false

open Sys2Proof.Machine

/-- The first instant of a tick. -/
def u0 : Sub := ⟨0, by decide⟩

/-- The command answers a next state of which `p` holds. -/
def holds (c : Instr) (s : State) (p : State → Bool) : Bool :=
  match exec c s with
  | .next t => p t
  | _ => false

/-! ### Ill-formed commands are refused, one for each check -/

/-- A message with fields in range. -/
def okMsg : Msg := { ty := 0x01, vc := 2, flags := 3, len := 0, seq := 0, rsv := 0, t64 := 0, payload := [], trailer := 0 }

theorem test_wf_good : okMsg.wf = true ∧ (Instr.registerWrite u0 .host 8 0).wf = true := by decide +kernel
theorem test_wf_address : (Instr.registerWrite u0 .host 3 0).wf = false := by decide +kernel
theorem test_wf_address_end : (Instr.registerWrite u0 .host barSize 0).wf = false := by decide +kernel
theorem test_wf_read_address : (Instr.rsRead u0 .host 2).wf = false := by decide +kernel
theorem test_wf_read_end : (Instr.rsRead u0 .host barSize).wf = false := by decide +kernel
theorem test_wf_access64 : (Instr.host64bitAccess u0 4 none).wf = false := by decide +kernel
theorem test_wf_access64_end : (Instr.host64bitAccess u0 barSize none).wf = false := by decide +kernel
theorem test_wf_training : (Instr.trainingDone u0 65536 0).wf = false := by decide +kernel
theorem test_wf_training_hf : (Instr.trainingDone u0 0 65536).wf = false := by decide +kernel
theorem test_wf_replay : (Instr.frameReplay u0 true 3 (some { okMsg with vc := 8 })).wf = false := by decide +kernel
theorem test_wf_msg_ty : (Instr.xmTickPlan u0 { okMsg with ty := 256 }).wf = false := by decide +kernel
theorem test_wf_msg_vc : (Instr.xmTickPlan u0 { okMsg with vc := 8 }).wf = false := by decide +kernel
theorem test_wf_msg_flags : (Instr.xmTickPlan u0 { okMsg with flags := 32 }).wf = false := by decide +kernel
theorem test_wf_msg_len : (Instr.xmTickPlan u0 { okMsg with len := 65536 }).wf = false := by decide +kernel
theorem test_wf_msg_seq : (Instr.xmTickPlan u0 { okMsg with seq := 65536 }).wf = false := by decide +kernel
theorem test_wf_msg_rsv : (Instr.xmTickPlan u0 { okMsg with rsv := 65536 }).wf = false := by decide +kernel
theorem test_wf_msg_t64 : (Instr.xmTickPlan u0 { okMsg with t64 := 2 ^ 64 }).wf = false := by decide +kernel
theorem test_wf_msg_trailer : (Instr.xmTickPlan u0 { okMsg with trailer := 2 ^ 32 }).wf = false := by decide +kernel
theorem test_wf_tunnel_address : (Instr.tunnelAccess u0 .host 2 1 none).wf = false := by decide +kernel
theorem test_wf_tunnel_end : (Instr.tunnelAccess u0 .host (barSize - 4) 2 none).wf = false := by decide +kernel
theorem test_wf_tunnel_none : (Instr.tunnelAccess u0 .host 4 0 none).wf = false := by decide +kernel
theorem test_wf_tunnel_many : (Instr.tunnelAccess u0 .host 4 65 none).wf = false := by decide +kernel
theorem test_wf_tunnel_words : (Instr.tunnelAccess u0 .host 4 2 (some [1])).wf = false := by decide +kernel
theorem test_wf_timeout_tag : (Instr.tunnelTimeout u0 65536).wf = false := by decide +kernel
theorem test_wf_lanes : (Instr.tickBoundary [⟨0, [], []⟩, ⟨0, [], []⟩] []).wf = false := by decide +kernel
theorem test_wf_deskew_runs : (Instr.deskewDone u0 0 []).wf = false := by decide +kernel
theorem test_wf_guard_twice : (Instr.guardSample [⟨0, 1⟩, ⟨0, 2⟩]).wf = false := by decide +kernel
theorem test_wf_temps : (Instr.hkScanDone u0 [] none).wf = false := by decide +kernel
theorem test_wf_answer_status : (Instr.hello u0 0 (some ⟨256, []⟩)).wf = false := by decide +kernel
theorem test_wf_link_test : (Instr.linkTest u0 0 [] none).wf = false := by decide +kernel
theorem test_wf_fw_offset : (Instr.fwWrite u0 0 (2 ^ 32) [] none).wf = false := by decide +kernel
theorem test_wf_fw_data : (Instr.fwWrite u0 0 0 (List.replicate 1025 0) none).wf = false := by decide +kernel
theorem test_wf_digest : (Instr.fwCommit u0 0 [] none).wf = false := by decide +kernel
theorem test_wf_budget_twice : (Instr.podBudgetCheck 0 [(0, 1), (0, 2)]).wf = false := by decide +kernel
theorem test_wf_bar2_none : (Instr.bar2Access u0 false 0 0).wf = false := by decide +kernel
theorem test_wf_bar2_many : (Instr.bar2Access u0 false 0 1025).wf = false := by decide +kernel
theorem test_wf_descriptor : (Instr.hdmaNop u0 0 []).wf = false := by decide +kernel
theorem test_wf_descriptors : (Instr.channelStopped u0 0 [[]]).wf = false := by decide +kernel
theorem test_wf_msg_payload (l : List Byte) (h : 65536 ≤ l.length) : (Instr.xmTickPlan u0 { okMsg with payload := l }).wf = false := by simp [Instr.wf, Msg.wf, okMsg, h]
theorem test_wf_answer_payload (l : List Byte) (h : 65536 ≤ l.length) : (Instr.hello u0 0 (some ⟨0, l⟩)).wf = false := by simp [Instr.wf, ansWf, h]
theorem test_wf_frame (l : List Byte) (h : 65536 < l.length) : (Instr.podResponse u0 0 l).wf = false := by simp [Instr.wf, h]
theorem test_wf_ports : (Instr.instanceStart [⟨0, .mid, []⟩, ⟨0, .mid, []⟩] []).wf = false := by decide +kernel

/-! ### The write queue's place depends on the memory that is fitted -/

theorem memGiB_ge : 128 ≤ Config.memGiB := by
  unfold Config.memGiB
  split <;> decide

theorem place_ge (m q : Nat) (hm : 128 ≤ m) (hq : q ≤ 64) : 2 ^ 30 ≤ (m * 4 - 1 - 4 * q) * 268435456 := by
  norm_num
  omega

theorem wqBase_ge (s : State) (h : s.get R.STOR_CFG_WQ_GIB ≤ 64) : 2 ^ 30 ≤ s.wqBase := by
  unfold State.wqBase
  exact place_ge Config.memGiB (s.get R.STOR_CFG_WQ_GIB) memGiB_ge h

theorem bar2_room : (({ State.reset with mem := [(5, 7)] } : State).val R.HDMA_WIN_BASE % 256 * 2 ^ 30 + (4 : BitVec 32).toNat) + 4 * 1
    ≤ ({ State.reset with mem := [(5, 7)] } : State).wqBase :=
  le_trans (by decide +kernel) (wqBase_ge _ (by decide +kernel))

/-- A COPY_OUT of 8 bytes from address 0 to address 0. -/
def copyDesc : List Byte := [2, 0, 0, 0, 8, 0, 0, 0] ++ List.replicate 56 0

/-- Channel 0 enabled, with a ring of 16 descriptors of which 3 are posted. -/
def chan0 : State := ((State.reset.set (R.HDMA_C_CTRL_EN 0) 1).put (R.HDMA_C_SIZE 0) 16).put (R.HDMA_C_TAIL 0) 3

theorem copy_good : chan0.descReason 0 copyDesc (parseWork (chan0.val (R.HDMA_C_HEAD 0)) copyDesc) = 0 := by
  have h := wqBase_ge chan0 (by decide +kernel)
  have h8 : (parseWork (chan0.val (R.HDMA_C_HEAD 0)) copyDesc).first + (parseWork (chan0.val (R.HDMA_C_HEAD 0)) copyDesc).length ≤ chan0.wqBase :=
    le_trans (by decide +kernel) h
  unfold State.descReason
  rw [if_neg (by decide +kernel), if_neg (by decide +kernel), if_neg (by decide +kernel), if_neg (by decide +kernel), if_neg (by decide +kernel),
    if_neg (by decide +kernel), if_neg (by simpa using fun _ => h8)]


/-! ### A sequencer that runs -/

/-- An instruction with an opcode and its OPA, OPB and OPC. -/
def ins (op : Nat) (opa opb opc : Nat := 0) : Vec := ⟨0, op, 0, opa, opb, opc⟩

/-- The sequencer runs, the instruction stands at address 0, and the sequencer's state is otherwise `q`. -/
def runs (v : Vec) (q : SeqSt := {}) : State :=
  ({ State.reset with seq := { q with winCount := 1, frames := [(0, 0, 65536)], vmem := [(0, v)] } }).set R.SEQ_STAT_STATE 1

/-- The sequencer runs and the instruction is in progress. -/
def during (v : Vec) (q : SeqSt) : State := runs v { q with cur := some v, next := 1 }

/-- A customer routine runs at the microword. -/
def routine (mop : Nat) (d a x imm : Nat := 0) (q : SeqSt := {}) : State :=
  (during (ins 0x0C 0 0xC000) { q with mpc := 0xC000, bank0 := [(0, BitVec.ofNat 32 (mop * 2 ^ 26 + d * 2 ^ 22 + a * 2 ^ 18 + x * 2 ^ 16 + imm))] }).set
    R.SEQ_STAT_CUST_RUN 1

/-- Mode CALIBRATE, and capture group 0 set up: 1 cycle before, 1 after, 16 MiB at address 0. -/
def grp0 : State := (((State.reset.set R.SYS_MODE_MODE 2).put (R.ACQ_GRP_PRE 0) 1).put (R.ACQ_GRP_POST 0) 1).put (R.ACQ_GRP_MEM_SIZE 0) 16

theorem region_good : ((grp0.atF u0).wr (R.ACQ_GRP_CTRL 0) (0x40000000#32 &&& 0x600FFFFF#32)).regionBad 0 = false := by
  have h := wqBase_ge ((grp0.atF u0).wr (R.ACQ_GRP_CTRL 0) (0x40000000#32 &&& 0x600FFFFF#32)) (by decide +kernel)
  have hb : ((grp0.atF u0).wr (R.ACQ_GRP_CTRL 0) (0x40000000#32 &&& 0x600FFFFF#32)).val (R.ACQ_GRP_MEM_BASE 0) * 2 ^ 20
      + ((grp0.atF u0).wr (R.ACQ_GRP_CTRL 0) (0x40000000#32 &&& 0x600FFFFF#32)).val (R.ACQ_GRP_MEM_SIZE 0) * 2 ^ 20 ≤ 2 ^ 30 := by decide +kernel
  unfold State.regionBad
  simp only [Bool.or_eq_false_iff, decide_eq_false_iff_not]
  exact ⟨⟨⟨by decide +kernel, by decide +kernel⟩, fun c => absurd (lt_of_le_of_lt h c) (not_lt.mpr hb)⟩, by decide +kernel⟩

/-- The instant of the merge. -/
def uMerge : Sub := ⟨3840 * 256, by decide⟩

theorem only_hist : ∀ k, k ≠ 0 →
    ((((State.reset.setHist 0 { on := true, buf := [{ t := 0, c := 7 }] }).takeSamples []).atF uMerge).hist k).on = false := by
  intro k hk
  by_cases h : k < 48
  · exact (by decide +kernel : ∀ k : Fin 48, k.val ≠ 0 →
      ((((State.reset.setHist 0 { on := true, buf := [{ t := 0, c := 7 }] }).takeSamples []).atF uMerge).hist k).on = false) ⟨k, h⟩ hk
  · simp [State.hist, State.atF, State.takeSamples, Vector.getD, h]

theorem no_maps : ∀ m, ((((State.reset.setHist 0 { on := true, buf := [{ t := 0, c := 7 }] }).takeSamples []).atF uMerge).map m).on = false := by
  intro k
  by_cases h : k < 8
  · exact (by decide +kernel : ∀ k : Fin 8,
      ((((State.reset.setHist 0 { on := true, buf := [{ t := 0, c := 7 }] }).takeSamples []).atF uMerge).map k).on = false) ⟨k, h⟩
  · simp [State.map, State.atF, State.takeSamples, Vector.getD, h]

/-- Pair 0 learns, with one pair of edges 5 units apart, and asks for at least `n`. -/
def learn (n : Nat) : State :=
  (((({ State.reset.setPair 0 { learnAt := 0, ref := [{ t := 10, st := 2, t64 := 0 }], cand := [{ t := 15, st := 2, t64 := 0 }] } with time := { fTick := 4 } }).set
    (R.CMP_P_STAT_STATE 0) 1).put (R.CMP_P_LEARN_TICKS 0) 1).put (R.CMP_P_LEARN_SPAN 0) 100).set (R.CMP_P_LEARN_MIN_N 0) n

/-- A message that its sender makes has the trailer that the filter computes. -/
theorem mk_filter (pl : List Byte) (h : pl.length = 256) : filterReason (mkMsg 2 0 3 0 0 pl) false = 0 := by
  have ht : (mkMsg 2 0 3 0 0 pl).trailer = crc32c ((mkMsg 2 0 3 0 0 pl).header ++ (mkMsg 2 0 3 0 0 pl).payload) := rfl
  unfold filterReason
  rw [if_neg (not_not.mpr ht)]
  simp [mkMsg, catalogue, lengthOk, h]
  decide

/-! ### A state that meets the premises of every clause of the obligations, and what the command answers there -/

theorem witness_HostLinkAndWindow_functionLevelReset : ∃ (s : State) (u : Sub),
    holds (.functionLevelReset u) s (fun t => decide (t.hdma.chans = Vector.replicate 16 {} ∧ t.faultPend 0x0C = true)) = true :=
  ⟨State.reset, u0, by decide +kernel⟩

theorem witness_HostLinkAndWindow_hotReset : ∃ (s : State) (u : Sub),
    holds (.hotReset u) s (fun t => decide (t.hdma.chans = Vector.replicate 16 {} ∧ t.faultPend 0x0C = true)) = true :=
  ⟨State.reset, u0, by decide +kernel⟩

theorem witness_HostLinkAndWindow_hostLinkDown : ∃ (s : State) (u : Sub),
    holds (.hostLinkDown u) s (fun t => decide (t.hdma.chans = Vector.replicate 16 {} ∧ t.faultPend 0x0C = true)) = true :=
  ⟨State.reset, u0, by decide +kernel⟩

theorem witness_HostLinkAndWindow_hostLinkRetrain : ∃ (s : State) (u : Sub) (speed : Fin 6) (width : Fin 9),
    holds (.hostLinkRetrain u speed width) s (fun t => decide (t.get R.HDMA_LINK_SPEED = speed.val ∧ t.get R.HDMA_LINK_WIDTH = width.val ∧ t.is R.HDMA_EVT_LINK_CHANGE = true)) = true :=
  ⟨State.reset, u0, ⟨4, by decide⟩, ⟨8, by decide⟩, by decide +kernel⟩

theorem witness_HostLinkAndWindow_aerError : ∃ (s : State) (u : Sub) (correctable : Bool),
    holds (.aerError u correctable) s (fun t => decide (t.faultPend (if correctable then 0x0B else 0x0C) = true)) = true :=
  ⟨State.reset, u0, true, by decide +kernel⟩

theorem witness_HostLinkAndWindow_bar2Access : ∃ (s : State) (u : Sub) (off : BitVec 32) (words : Nat),
    ((s.val R.HDMA_WIN_BASE % 256 * 2 ^ 30 + off.toNat) + 4 * words ≤ s.wqBase) :=
  ⟨{ State.reset with mem := [(5, 7)] }, u0, 4, 1, by exact bar2_room⟩

theorem witness_HostLinkAndWindow_bar2Access2 : ∃ (s : State) (u : Sub) (off : BitVec 32) (words : Nat),
    holds (.bar2Access u true off words) s (fun t => decide (t.is R.HDMA_EVT_BAR2_ERR = true ∧ t.mem = s.mem ∧ t.hdma.bar2Data = s.hdma.bar2Data)) = true :=
  ⟨State.reset, u0, 0, 1, by decide +kernel⟩

theorem witness_ChannelFetch_descriptorPost : ∃ (s : State) (u : Sub) (c : Idx16) (tail : Fin 4096),
    (s.domOn (domH 4) = true) ∧ holds (.descriptorPost u c tail) s (fun t => decide (t.val (R.HDMA_C_TAIL c) = tail.val)) = true :=
  ⟨State.reset, u0, ⟨0, by decide⟩, ⟨5, by decide⟩, by decide +kernel⟩

theorem witness_ChannelFetch_hdmaNop : ∃ (s : State) (u : Sub) (c : Idx16) (d : List Byte),
    (s.val (R.HDMA_C_SIZE c) ≠ 0) ∧ (s.canFetch c (parseWork (s.val (R.HDMA_C_HEAD c)) d) = true) ∧ (s.descReason c d (parseWork (s.val (R.HDMA_C_HEAD c)) d) = 0) ∧ (leAt d 0 1 = 0) ∧ holds (.hdmaNop u c d) s (fun t => decide (t.val (R.HDMA_C_HEAD c) = (s.val (R.HDMA_C_HEAD c) + 1) % s.val (R.HDMA_C_SIZE c) ∧ (t.chan c).fly = (s.chan c).fly ++ [{ parseWork (s.val (R.HDMA_C_HEAD c)) d with ended := some (0, 0) }])) = true :=
  ⟨chan0, u0, ⟨0, by decide⟩, List.replicate 64 0, by decide +kernel⟩

theorem witness_ChannelFetch_refill : ∃ (s : State) (u : Sub) (c : Idx16) (d : List Byte) (data : List Byte),
    (s.val (R.HDMA_C_SIZE c) ≠ 0) ∧ (s.canFetch c (parseWork (s.val (R.HDMA_C_HEAD c)) d) = true) ∧ (s.descReason c d (parseWork (s.val (R.HDMA_C_HEAD c)) d) = 0) ∧ (leAt d 0 1 = 1) ∧ (s.linkUp = true) ∧ holds (.refill u c d data) s (fun t => decide (t.val (R.HDMA_C_HEAD c) = (s.val (R.HDMA_C_HEAD c) + 1) % s.val (R.HDMA_C_SIZE c))) = true :=
  ⟨(chan0).set R.ISO_STAT_STATE 2, u0, ⟨0, by decide⟩, [1, 0, 0, 0, 144, 0, 0, 0] ++ List.replicate 56 0, List.replicate 144 9, by decide +kernel⟩

theorem witness_ChannelFetch_copyOut : ∃ (s : State) (u : Sub) (c : Idx16) (d : List Byte) (n : Nat),
    (s.val (R.HDMA_C_SIZE c) ≠ 0) ∧ (s.canFetch c (parseWork (s.val (R.HDMA_C_HEAD c)) d) = true) ∧ (s.descReason c d (parseWork (s.val (R.HDMA_C_HEAD c)) d) = 0) ∧ (leAt d 0 1 = 2) :=
  ⟨chan0, u0, ⟨0, by decide⟩, copyDesc, 4, by exact ⟨by decide +kernel, by decide +kernel, copy_good, by decide +kernel⟩⟩

theorem witness_ChannelFetch_tap : ∃ (s : State) (u : Sub) (c : Idx16) (d : List Byte),
    (s.val (R.HDMA_C_SIZE c) ≠ 0) ∧ (s.canFetch c (parseWork (s.val (R.HDMA_C_HEAD c)) d) = true) ∧ (s.descReason c d (parseWork (s.val (R.HDMA_C_HEAD c)) d) = 0) ∧ (leAt d 0 1 = 3) ∧ holds (.tap u c d) s (fun t => decide (t.val (R.HDMA_C_HEAD c) = (s.val (R.HDMA_C_HEAD c) + 1) % s.val (R.HDMA_C_SIZE c) ∧ (t.chan c).fly = (s.chan c).fly ++ [parseWork (s.val (R.HDMA_C_HEAD c)) d])) = true :=
  ⟨chan0, u0, ⟨0, by decide⟩, [3, 0, 0, 0, 0, 0, 2, 0] ++ List.replicate 56 0, by decide +kernel⟩

theorem witness_ChannelCompletion_descriptorComplete : ∃ (s : State) (u : Sub) (c : Idx16) (data : List Byte) (w : Work) (r : List Work),
    ((s.chan c).fly = w :: r) ∧ (w.ended.isSome = true) ∧ holds (.descriptorComplete u c data) s (fun t => decide ((t.chan c).fly = r ∧ t.hdma.hostWrites = s.hdma.hostWrites ++ [(s.val64 (R.HDMA_C_CPL_LO c) / 4096 * 4096 + 32 * w.idx, cplBytes w (s.get (R.HDMA_C_CPL_IDX_PHASE c)) (s.atH u).hNow.pack)])) = true :=
  ⟨(chan0).setChan 0 { fly := [{ idx := 0, op := 0, ended := some (0, 0) }] }, u0, ⟨0, by decide⟩, [], { idx := 0, op := 0, ended := some (0, 0) }, [], by decide +kernel⟩

theorem witness_ChannelCompletion_hostErr : ∃ (s : State) (u : Sub) (c : Idx16) (data : List Byte) (n : Nat),
    (((s.chan c).fly.find? (fun w => w.ended.isNone)).isSome = true) ∧ holds (.hostErr u c data n) s (fun t => decide (t.is (R.HDMA_C_STAT_ERR c) = true ∧ t.is (R.HDMA_C_EVT_HOST_ERR c) = true)) = true :=
  ⟨(chan0).setChan 0 { fly := [{ idx := 0, op := 2, length := 8 }] }, u0, ⟨0, by decide⟩, [], 0, by decide +kernel⟩

theorem witness_ChannelCompletion_tapFlush : ∃ (s : State) (u : Sub) (c : Idx16) (w : Work),
    ((s.chan c).fly.find? (fun w => w.op == 3 && w.ended.isNone) = some w) ∧ (s.get (R.HDMA_C_TAP_FLUSH_TICKS c) ≠ 0 ∧ 0 < w.moved ∧ w.lastAdd + s.get (R.HDMA_C_TAP_FLUSH_TICKS c) ≤ s.time.hTick) ∧ holds (.tapFlush u c) s (fun t => decide ((t.chan c).fly = (s.chan c).fly.map (fun x => if x.idx == w.idx then { w with ended := some (0, 0) } else x) ∧ t.regs = s.regs)) = true :=
  ⟨{ (chan0).setChan 0 { fly := [{ idx := 0, op := 3, length := 65568, moved := 8 }] } with time := { hTick := 200000 } }.set (R.HDMA_C_TAP_FLUSH_TICKS 0) 5, u0, ⟨0, by decide⟩, { idx := 0, op := 3, length := 65568, moved := 8 }, by decide +kernel⟩

theorem witness_ChannelCompletion_channelStopped : ∃ (s : State) (u : Sub) (c : Idx16) (descs : List (List Byte)) (stop : Nat),
    ((s.chan c).stopTail = some stop) ∧ ((s.chan c).fly = []) ∧ (stop < 2 ^ 32) ∧ holds (.channelStopped u c descs) s (fun t => decide (t.val (R.HDMA_C_HEAD c) = stop ∧ t.is (R.HDMA_C_CTRL_EN c) = false ∧ t.is (R.HDMA_C_STAT_BUSY c) = false ∧ t.is (R.HDMA_C_EVT_STOPPED c) = true)) = true :=
  ⟨(chan0).setChan 0 { stopTail := some 1 }, u0, ⟨0, by decide⟩, [List.replicate 64 0], 1, by decide +kernel⟩

theorem witness_ChannelControl_hdmaChannelEnable : ∃ (s : State) (u : Sub) (c : Idx16),
    (s.is (R.HDMA_C_STAT_BUSY c) = false) ∧ (s.domOn (domH 4) = true) ∧ holds (.hdmaChannelEnable u c) s (fun t => decide (t.is (R.HDMA_C_CTRL_EN c) = true ∧ t.is (R.HDMA_C_STAT_ERR c) = false)) = true :=
  ⟨State.reset.set (R.HDMA_C_STAT_ERR 0) 1, u0, ⟨0, by decide⟩, by decide +kernel⟩

theorem witness_ChannelControl_hdmaDrain : ∃ (s : State) (u : Sub) (c : Idx16),
    (s.is (R.HDMA_C_CTRL_EN c) = true) ∧ (s.is (R.HDMA_C_STAT_BUSY c) = false) ∧ holds (.hdmaDrain u c) s (fun t => decide (t.is (R.HDMA_C_STAT_BUSY c) = true ∧ t.is (R.HDMA_C_STAT_DRAINING c) = true ∧ t.is (R.HDMA_C_STAT_ABORTING c) = false)) = true :=
  ⟨chan0, u0, ⟨0, by decide⟩, by decide +kernel⟩

theorem witness_ChannelControl_hdmaAbort : ∃ (s : State) (u : Sub) (c : Idx16) (data : List Byte) (n : Nat),
    (s.is (R.HDMA_C_CTRL_EN c) = true) ∧ (s.is (R.HDMA_C_STAT_ABORTING c) = false) ∧ holds (.hdmaAbort u c data n) s (fun t => decide (t.is (R.HDMA_C_STAT_BUSY c) = true ∧ t.is (R.HDMA_C_STAT_ABORTING c) = true)) = true :=
  ⟨chan0, u0, ⟨0, by decide⟩, [], 0, by decide +kernel⟩

theorem witness_ChannelControl_eqVectorTimer : ∃ (s : State) (u : Sub) (v : Nat) (k : Nat) (first : Nat),
    (s.hdma.eqMod = [(v, k, first)]) ∧ (s.get R.HDMA_EQ_MOD_TICKS ≠ 0) ∧ (first + s.get R.HDMA_EQ_MOD_TICKS ≤ s.time.hTick) ∧ (s.hdma.msixMask.testBit v = false) ∧ holds (.eqVectorTimer u) s (fun t => decide (t.hdma.msixSent = s.hdma.msixSent ++ [v] ∧ t.hdma.eqMod = [] ∧ t.regs = s.regs)) = true :=
  ⟨({ State.reset with hdma := { eqMod := [(9, 1, 0)] }, time := { hTick := 50 } }).set R.HDMA_EQ_MOD_TICKS 20, u0, 9, 1, 0, by decide +kernel⟩

theorem witness_ChannelControl_hdmaClrStats : ∃ (s : State) (u : Sub),
    (s.domOn (domH 4) = true) ∧ holds (.hdmaClrStats u) s (fun t => decide (t.val R.HDMA_BAR2_ERR = 0 ∧ t.val R.HDMA_CPL_DROP = 0 ∧ t.val R.HDMA_BAR0_ERR = 0 ∧ t.val R.HDMA_EQ_LOST = 0 ∧ t.get R.HDMA_LINK_RETRAINS = 0)) = true :=
  ⟨State.reset.put R.HDMA_EQ_LOST 3, u0, by decide +kernel⟩

theorem witness_ChannelControl_hdmaCClrStats : ∃ (s : State) (u : Sub) (c : Idx16),
    (s.domOn (domH 4) = true) ∧ holds (.hdmaCClrStats u c) s (fun t => decide (t.val (R.HDMA_C_ERR_CNT c) = 0 ∧ t.val (R.HDMA_C_TAP_MISS c) = 0)) = true :=
  ⟨State.reset.put (R.HDMA_C_ERR_CNT 0) 3, u0, ⟨0, by decide⟩, by decide +kernel⟩

theorem witness_DriveInhibit_driveInhAssert : ∃ (s : State) (u : Sub),
    (s.seq.inhPin = false) ∧ holds (.driveInhAssert u) s (fun t => decide (t.seq.inhPin = true ∧ t.is R.SYS_STAT_DRIVE_INH_PIN = true ∧ t.is R.SYS_DRIVE_INH_PIN = true)) = true :=
  ⟨State.reset, u0, by decide +kernel⟩

theorem witness_DriveInhibit_driveInhPinRelease : ∃ (s : State) (u : Sub),
    holds (.driveInhPinRelease u) s (fun t => decide (t.seq.inhPin = false ∧ t.is R.SYS_STAT_DRIVE_INH_PIN = false ∧ t.is R.SYS_DRIVE_INH_PIN = false)) = true :=
  ⟨{ State.reset with seq := { inhPin := true } }, u0, by decide +kernel⟩

theorem witness_DriveInhibit_sysDriveInhSet : ∃ (s : State) (u : Sub),
    holds (.sysDriveInhSet u) s (fun t => decide (t.is R.SYS_DRIVE_INH_INH = true)) = true :=
  ⟨State.reset, u0, by decide +kernel⟩

theorem witness_DriveInhibit_driveInhRelease : ∃ (s : State) (u : Sub),
    (s.releaseAllowed = true) ∧ holds (.driveInhRelease u) s (fun t => decide (t.is R.SYS_DRIVE_INH_INH = false ∧ t.is R.SYS_DRIVE_INH_GUARD = false ∧ t.is R.SYS_DRIVE_INH_LINK_HOLD = false ∧ t.seq.relDue = true)) = true :=
  ⟨((State.reset.set R.SYS_MODE_MODE 4).set R.ISO_STAT_STATE 2).set R.SYS_DRIVE_INH_GUARD 1, u0, by decide +kernel⟩

theorem witness_DriveInhibit_driveInhRelease2 : ∃ (s : State) (u : Sub),
    (s.releaseAllowed = false) ∧ holds (.driveInhRelease u) s (fun t => decide (t.is R.SYS_EVT_INH_REFUSED = true)) = true :=
  ⟨State.reset, u0, by decide +kernel⟩

theorem witness_DriveInhibit_fieldInhibitEnd : ∃ (s : State),
    (s.seq.relDue = true) ∧ holds .fieldInhibitEnd s (fun t => decide (t.seq.relDue = false ∧ t.seq.inhField = s.is R.SYS_DRIVE_INH_INH ∧ t.regs = s.regs)) = true :=
  ⟨{ State.reset with seq := { relDue := true } }, by decide +kernel⟩

theorem witness_PinChannel_pinLevelWrite : ∃ (s : State) (u : Sub) (p : Port) (which : LevelReg) (v : Word),
    (s.powered (levelAddr p which) = true) ∧ (s.role p = roleLaneCmp ∨ s.role p = roleLaneDrv) :=
  ⟨State.reset.set (R.PIN_STAT_ROLE 0) 2, u0, ⟨0, by decide⟩, .cmpHi, 1000, by decide +kernel⟩

theorem witness_PinChannel_laneLevelApply : ∃ (s : State) (p : Port),
    (2 ≤ s.role p) ∧ ((s.pinRt p).lvlFrom ≤ s.fU) ∧ holds (.laneLevelApply p) s (fun t => decide (t.is (R.PIN_STAT_LVL_PENDING p) = false)) = true :=
  ⟨(State.reset.set (R.PIN_STAT_ROLE 0) 2).set (R.PIN_STAT_LVL_PENDING 0) 1, ⟨0, by decide⟩, by decide +kernel⟩

theorem witness_PinChannel_deskew : ∃ (s : State) (u : Sub) (p : Port),
    (s.powered (R.PIN_CTRL p) = true) ∧ (s.podHere (p.val / 16) = true) ∧ (s.is (R.PIN_STAT_BUSY p) = false) ∧ (s.is R.SEQ_STAT_BUSY = false) ∧ holds (.deskew u p) s (fun t => decide (t.is (R.PIN_STAT_DESKEW_BUSY p) = true ∧ (t.pinRt p).deskewEnd = (s.atF u).fU + 20 * unitsPerTick)) = true :=
  ⟨State.reset.set (R.POD_S_STAT_STATE 0) 4, u0, ⟨0, by decide⟩, by decide +kernel⟩

theorem witness_PinChannel_deskewDone : ∃ (s : State) (u : Sub) (p : Port) (r : Nat),
    (s.is (R.PIN_STAT_DESKEW_BUSY p) = true) ∧ ((s.pinRt p).deskewEnd ≤ s.fU) ∧ (s.podHere (p.val / 16) = true) ∧ (s.get (R.POD_S_STAT_TYPE (p.val / 16)) = 2) ∧ (s.get (R.POD_S_DELAY_DC (p.val / 16)) ≤ r + s.get (R.POD_S_DELAY_DD (p.val / 16))) ∧ (s.get (R.POD_S_DELAY_DD (p.val / 16)) ≤ r + s.get (R.POD_S_DELAY_DC (p.val / 16))) ∧ (r + s.get (R.POD_S_DELAY_DD (p.val / 16)) ≤ 65535) ∧ (r + s.get (R.POD_S_DELAY_DC (p.val / 16)) ≤ 65535) ∧ holds (.deskewDone u p (List.replicate 16 r)) s (fun t => decide (t.get (R.PIN_DESKEW_DRV p) = (r + s.get (R.POD_S_DELAY_DD (p.val / 16)) - s.get (R.POD_S_DELAY_DC (p.val / 16)) + 1) / 2 ∧ t.get (R.PIN_DESKEW_DRV p) + t.get (R.PIN_DESKEW_CMP p) = r ∧ t.val (R.PIN_DESKEW_RT p) = r ∧ t.is (R.PIN_STAT_DESKEW_VALID p) = true ∧ t.is (R.PIN_STAT_DESKEW_BUSY p) = false)) = true :=
  ⟨(((State.reset.set (R.POD_S_STAT_STATE 0) 4).set (R.POD_S_STAT_TYPE 0) 2).set (R.PIN_STAT_DESKEW_BUSY 0) 1).set (R.PIN_STAT_ROLE 0) 1, u0, ⟨0, by decide⟩, 1001, by decide +kernel⟩

theorem witness_PinChannel_pinEnable : ∃ (s : State) (u : Sub) (p : Port),
    (s.powered (R.PIN_CTRL p) = true) ∧ (s.is (R.PIN_CTRL_EN p) = false) ∧ (s.is (R.PIN_STAT_BUSY p) = false) ∧ (s.role p = roleNone ∨ s.is (R.PIN_STAT_DESKEW_VALID p) = true) ∧ (¬ (s.role p = roleLaneDrv ∧ s.genOwns (laneOfPort p) = true)) ∧ holds (.pinEnable u p) s (fun t => decide (t.is (R.PIN_CTRL_EN p) = true)) = true :=
  ⟨State.reset, u0, ⟨0, by decide⟩, by decide +kernel⟩

theorem witness_PinChannel_pinDisable : ∃ (s : State) (u : Sub) (p : Port),
    (s.powered (R.PIN_CTRL p) = true) ∧ (s.is (R.PIN_CTRL_EN p) = true) ∧ ((s.atF u).fU < s.seq.endAt) ∧ holds (.pinDisable u p) s (fun t => decide (t.is (R.PIN_CTRL_EN p) = false ∧ t.is (R.PIN_STAT_BUSY p) = true)) = true :=
  ⟨({ State.reset with seq := { endAt := 1000 } }).set (R.PIN_CTRL_EN 0) 1, u0, ⟨0, by decide⟩, by decide +kernel⟩

theorem witness_PinChannel_pinDisable2 : ∃ (s : State) (u : Sub) (p : Port),
    (s.powered (R.PIN_CTRL p) = true) ∧ (s.is (R.PIN_CTRL_EN p) = true) ∧ (s.seq.endAt ≤ s.fU) ∧ holds (.pinDisable u p) s (fun t => decide (t.is (R.PIN_CTRL_EN p) = false ∧ t.is (R.PIN_STAT_BUSY p) = false ∧ t.is (R.PIN_STAT_DRV_ON p) = false)) = true :=
  ⟨State.reset.set (R.PIN_CTRL_EN 0) 1, u0, ⟨0, by decide⟩, by decide +kernel⟩

theorem witness_PinChannel_pinClrStats : ∃ (s : State) (p : Port),
    (s.powered (R.PIN_CTRL p) = true) ∧ holds (.pinClrStats p) s (fun t => decide (t.val (R.PIN_FAIL_CNT_LO p) = 0 ∧ t.val (R.PIN_FAIL_CNT_HI p) = 0 ∧ t.val (R.PIN_SUPPR_CNT p) = 0 ∧ t.val (R.PIN_EDGE_SKIP p) = 0 ∧ t.val (R.PIN_EDGE_LOST p) = 0 ∧ t.is (R.PIN_FIRST_FAIL_GEN_VALID p) = false)) = true :=
  ⟨State.reset.put (R.PIN_EDGE_LOST 0) 4, ⟨0, by decide⟩, by decide +kernel⟩

theorem witness_PinChannel_pinTransition : ∃ (s : State) (u : Sub) (p : Port) (st : CmpState),
    (roleCompares (s.role p) = true) ∧ (s.is (R.PIN_CAPT_EN p) = false) ∧ holds (.pinTransition u p st) s (fun t => decide (t.get (R.PIN_STAT_CMP_LIVE p) = cmpCode st)) = true :=
  ⟨State.reset.set (R.PIN_STAT_ROLE 0) 1, u0, ⟨0, by decide⟩, .high, by decide +kernel⟩

theorem witness_FailUnit_failRecordComplete : ∃ (s : State) (u : Sub) (r : FailRec) (rs : List FailRec),
    (s.seq.fail.open_ = r :: rs) ∧ (s.seq.fail.stored.length < s.seq.fail.capacity) ∧ (s.seq.fail.stored.length < 2 ^ 31) ∧ holds (.failRecordComplete u) s (fun t => decide (t.seq.fail.stored = s.seq.fail.stored ++ [r] ∧ t.seq.fail.open_ = rs ∧ t.val R.SEQ_FAIL_STORED = s.seq.fail.stored.length + 1)) = true :=
  ⟨{ State.reset with seq := { fail := { open_ := [{ t64 := 0, vaddr := 0, tset := 0 }] } } }, u0, { t64 := 0, vaddr := 0, tset := 0 }, [], by decide +kernel⟩

theorem witness_FailUnit_failClear : ∃ (s : State) (u : Sub),
    (s.powered R.SEQ_FAIL_CTRL = true) ∧ (s.is R.SEQ_STAT_BUSY = false) ∧ holds (.failClear u) s (fun t => decide (t.seq.fail.stored = [] ∧ t.val R.SEQ_FAIL_STORED = 0 ∧ t.val R.SEQ_FAIL_VEC_LO = 0 ∧ t.val R.SEQ_FAIL_LOST_LO = 0 ∧ t.is R.SEQ_FAIL_STAT_FULL = false)) = true :=
  ⟨{ State.reset with seq := { fail := { stored := [{ t64 := 0, vaddr := 0, tset := 0 }] } } }, u0, by decide +kernel⟩

theorem witness_FailUnit_failClear2 : ∃ (s : State) (u : Sub),
    (s.powered R.SEQ_FAIL_CTRL = true) ∧ (s.is R.SEQ_STAT_BUSY = true) ∧ holds (.failClear u) s (fun t => decide (t.seq.fail.clearReq = true ∧ t.regs = s.regs)) = true :=
  ⟨State.reset.set R.SEQ_STAT_BUSY 1, u0, by decide +kernel⟩

theorem witness_FailUnit_failClearApply : ∃ (s : State) (u : Sub),
    (s.seq.fail.clearReq = true) ∧ holds (.failClearApply u) s (fun t => decide (t.seq.fail.stored = [] ∧ t.seq.fail.clearReq = false ∧ t.val R.SEQ_FAIL_STORED = 0)) = true :=
  ⟨{ State.reset with seq := { fail := { stored := [{ t64 := 0, vaddr := 0, tset := 0 }], clearReq := true } } }, u0, by decide +kernel⟩

theorem witness_FailUnit_failDump : ∃ (s : State) (u : Sub),
    (s.powered R.SEQ_FAIL_CTRL = true) ∧ (s.is R.SEQ_FAIL_STAT_DUMP_BUSY = false) ∧ holds (.failDump u) s (fun t => decide (t.seq.fail.dump = s.seq.fail.stored ∧ t.is R.SEQ_FAIL_STAT_DUMP_BUSY = true)) = true :=
  ⟨State.reset, u0, by decide +kernel⟩

theorem witness_FailUnit_dumpDone : ∃ (s : State) (u : Sub),
    (s.is R.SEQ_FAIL_STAT_DUMP_BUSY = true) ∧ (s.seq.fail.dump = []) ∧ holds (.dumpDone u) s (fun t => decide (t.is R.SEQ_FAIL_STAT_DUMP_BUSY = false ∧ t.is R.SEQ_FAIL_EVT_DUMP_DONE = true)) = true :=
  ⟨State.reset.set R.SEQ_FAIL_STAT_DUMP_BUSY 1, u0, by decide +kernel⟩

theorem witness_FailUnit_fwdMaxWrite : ∃ (s : State) (u : Sub) (n : Fin 256),
    (s.powered R.SEQ_FAIL_CTRL = true) ∧ (s.get R.SEQ_FAIL_CTRL_FWD_MAX ≠ n.val) ∧ (((s.atF u).set R.SEQ_FAIL_CTRL_FWD_MAX n.val).planCheck s.mode = none) ∧ holds (.fwdMaxWrite u n) s (fun t => decide (t.get R.SEQ_FAIL_CTRL_FWD_MAX = n.val ∧ t.get R.TIME_PLAN_STAT_RESULT = 1 ∧ t.get R.TIME_PLAN_STAT_REASON = 0 ∧ t.plan.lastId = s.plan.lastId + 1)) = true :=
  ⟨State.reset, u0, ⟨9, by decide⟩, by decide +kernel⟩

theorem witness_FailUnit_seqFailClrStats : ∃ (s : State),
    (s.powered R.SEQ_FAIL_CTRL = true) ∧ holds .seqFailClrStats s (fun t => decide (t.val R.SEQ_FAIL_UNFWD = 0)) = true :=
  ⟨State.reset.put R.SEQ_FAIL_UNFWD 3, by decide +kernel⟩

theorem witness_VectorFlow_opNext : ∃ (s : State) (u : Sub) (v : Vec),
    ((s.atSeq u).dispatchVec (fun o => o == 0x00) = some v) ∧ ((s.atSeq u).seq.next < 2 ^ 40) ∧ holds (.opNext u) s (fun t => decide (t.val64 R.SEQ_VADDR_LO = (s.atSeq u).seq.next ∧ t.seq.next = succAddr (s.atSeq u).seq.next ∧ (t.seq.pipe.getLast?.map (fun i => (i.addr, i.chars, i.tset, i.reps))) = some ((s.atSeq u).seq.next, v.chars, v.tset % 64, 1))) = true :=
  ⟨runs (ins 0x00 ), u0, ins 0x00, by decide +kernel⟩

theorem witness_VectorFlow_opRepeat : ∃ (s : State) (u : Sub) (v : Vec),
    ((s.atSeq u).dispatchVec (fun o => o == 0x01) = some v) ∧ ((s.atSeq u).seq.next < 2 ^ 40) ∧ ((s.atSeq u).seq.stepping = false) ∧ ((s.atSeq u).seq.left = 0) ∧ holds (.opRepeat u) s (fun t => decide (t.val64 R.SEQ_VADDR_LO = (s.atSeq u).seq.next ∧ t.seq.next = succAddr (s.atSeq u).seq.next ∧ (t.seq.pipe.getLast?.map (fun i => (i.addr, i.chars, i.tset, i.reps))) = some ((s.atSeq u).seq.next, v.chars, v.tset % 64, max 1 v.opb))) = true :=
  ⟨runs (ins 0x01 0 7), u0, ins 0x01 0 7, by decide +kernel⟩

theorem witness_VectorFlow_opLoop : ∃ (s : State) (u : Sub) (v : Vec),
    ((s.atSeq u).dispatchVec (fun o => o == 0x02) = some v) ∧ ((s.atSeq u).seq.next < 2 ^ 40) ∧ ((s.atSeq u).seq.byLoop = false) ∧ ((s.atSeq u).seq.loops.length < 16) ∧ holds (.opLoop u) s (fun t => decide (t.val64 R.SEQ_VADDR_LO = (s.atSeq u).seq.next ∧ t.seq.next = succAddr (s.atSeq u).seq.next ∧ (t.seq.pipe.getLast?.map (fun i => (i.addr, i.chars, i.tset, i.reps))) = some ((s.atSeq u).seq.next, v.chars, v.tset % 64, 1) ∧ t.seq.loops = (s.atSeq u).seq.loops ++ [⟨(s.atSeq u).seq.next, max 1 v.opb, 0⟩])) = true :=
  ⟨runs (ins 0x02 0 3), u0, ins 0x02 0 3, by decide +kernel⟩

theorem witness_VectorFlow_opLoop2 : ∃ (s : State) (u : Sub) (v : Vec),
    ((s.atSeq u).dispatchVec (fun o => o == 0x02) = some v) ∧ ((s.atSeq u).seq.next < 2 ^ 40) ∧ ((s.atSeq u).seq.byLoop = true) ∧ holds (.opLoop u) s (fun t => decide (t.val64 R.SEQ_VADDR_LO = (s.atSeq u).seq.next ∧ t.seq.next = succAddr (s.atSeq u).seq.next ∧ (t.seq.pipe.getLast?.map (fun i => (i.addr, i.chars, i.tset, i.reps))) = some ((s.atSeq u).seq.next, v.chars, v.tset % 64, 1) ∧ t.seq.loops = (s.atSeq u).seq.loops)) = true :=
  ⟨runs (ins 0x02 0 3) { byLoop := true, loops := [⟨0, 2, 1⟩] }, u0, ins 0x02 0 3, by decide +kernel⟩

theorem witness_VectorFlow_opEndloop : ∃ (s : State) (u : Sub) (v : Vec) (fs : List LoopFrame) (f : LoopFrame),
    ((s.atSeq u).dispatchVec (fun o => o == 0x03) = some v) ∧ ((s.atSeq u).seq.next < 2 ^ 40) ∧ ((s.atSeq u).seq.loops = fs ++ [f]) ∧ (1 < f.rem) ∧ holds (.opEndloop u) s (fun t => decide (t.val64 R.SEQ_VADDR_LO = (s.atSeq u).seq.next ∧ t.seq.next = f.addr ∧ (t.seq.pipe.getLast?.map (fun i => (i.addr, i.chars, i.tset, i.reps))) = some ((s.atSeq u).seq.next, v.chars, v.tset % 64, 1) ∧ t.seq.loops = fs ++ [⟨f.addr, f.rem - 1, (f.idx + 1) % 2 ^ 32⟩])) = true :=
  ⟨runs (ins 0x03 ) { loops := [⟨5, 2, 0⟩] }, u0, ins 0x03 , [], ⟨5, 2, 0⟩, by decide +kernel⟩

theorem witness_VectorFlow_opEndloop2 : ∃ (s : State) (u : Sub) (v : Vec) (fs : List LoopFrame) (f : LoopFrame),
    ((s.atSeq u).dispatchVec (fun o => o == 0x03) = some v) ∧ ((s.atSeq u).seq.next < 2 ^ 40) ∧ ((s.atSeq u).seq.loops = fs ++ [f]) ∧ (f.rem ≤ 1) ∧ holds (.opEndloop u) s (fun t => decide (t.val64 R.SEQ_VADDR_LO = (s.atSeq u).seq.next ∧ t.seq.next = succAddr (s.atSeq u).seq.next ∧ (t.seq.pipe.getLast?.map (fun i => (i.addr, i.chars, i.tset, i.reps))) = some ((s.atSeq u).seq.next, v.chars, v.tset % 64, 1) ∧ t.seq.loops = fs)) = true :=
  ⟨runs (ins 0x03 ) { loops := [⟨5, 1, 4⟩] }, u0, ins 0x03 , [], ⟨5, 1, 4⟩, by decide +kernel⟩

theorem witness_VectorFlow_opJump : ∃ (s : State) (u : Sub) (v : Vec),
    ((s.atSeq u).dispatchVec (fun o => o == 0x04) = some v) ∧ ((s.atSeq u).seq.next < 2 ^ 40) ∧ holds (.opJump u) s (fun t => decide (t.val64 R.SEQ_VADDR_LO = (s.atSeq u).seq.next ∧ t.seq.next = v.opc % 2 ^ 40 ∧ (t.seq.pipe.getLast?.map (fun i => (i.addr, i.chars, i.tset, i.reps))) = some ((s.atSeq u).seq.next, v.chars, v.tset % 64, 1))) = true :=
  ⟨runs (ins 0x04 0 0 9), u0, ins 0x04 0 0 9, by decide +kernel⟩

theorem witness_VectorFlow_opCall : ∃ (s : State) (u : Sub) (v : Vec),
    ((s.atSeq u).dispatchVec (fun o => o == 0x05) = some v) ∧ ((s.atSeq u).seq.next < 2 ^ 40) ∧ ((s.atSeq u).seq.calls.length < 16) ∧ holds (.opCall u) s (fun t => decide (t.val64 R.SEQ_VADDR_LO = (s.atSeq u).seq.next ∧ t.seq.next = v.opc % 2 ^ 40 ∧ (t.seq.pipe.getLast?.map (fun i => (i.addr, i.chars, i.tset, i.reps))) = some ((s.atSeq u).seq.next, v.chars, v.tset % 64, 1) ∧ t.seq.calls = (s.atSeq u).seq.calls ++ [succAddr (s.atSeq u).seq.next])) = true :=
  ⟨runs (ins 0x05 0 0 9), u0, ins 0x05 0 0 9, by decide +kernel⟩

theorem witness_VectorFlow_opRet : ∃ (s : State) (u : Sub) (v : Vec) (cs : List Nat) (a : Nat),
    ((s.atSeq u).dispatchVec (fun o => o == 0x06) = some v) ∧ ((s.atSeq u).seq.next < 2 ^ 40) ∧ ((s.atSeq u).seq.calls = cs ++ [a]) ∧ holds (.opRet u) s (fun t => decide (t.val64 R.SEQ_VADDR_LO = (s.atSeq u).seq.next ∧ t.seq.next = a % 2 ^ 40 ∧ (t.seq.pipe.getLast?.map (fun i => (i.addr, i.chars, i.tset, i.reps))) = some ((s.atSeq u).seq.next, v.chars, v.tset % 64, 1) ∧ t.seq.calls = cs)) = true :=
  ⟨runs (ins 0x06 ) { calls := [12] }, u0, ins 0x06 , [], 12, by decide +kernel⟩

theorem witness_VectorFlow_opHalt : ∃ (s : State) (u : Sub) (v : Vec),
    ((s.atSeq u).dispatchVec (fun o => o == 0x0D) = some v) ∧ ((s.atSeq u).seq.next < 2 ^ 40) ∧ holds (.opHalt u) s (fun t => decide (t.val64 R.SEQ_VADDR_LO = (s.atSeq u).seq.next ∧ t.seq.next = succAddr (s.atSeq u).seq.next ∧ (t.seq.pipe.getLast?.map (fun i => (i.addr, i.chars, i.tset, i.reps))) = some ((s.atSeq u).seq.next, v.chars, v.tset % 64, 1) ∧ t.seq.ending = some (seqHalted, 0x01))) = true :=
  ⟨runs (ins 0x0D ), u0, ins 0x0D, by decide +kernel⟩

theorem witness_VectorFlow_reservedOpcode : ∃ (s : State) (u : Sub) (v : Vec),
    ((s.atSeq u).dispatchVec (fun o => 0x0E ≤ o) = some v) ∧ ((s.atSeq u).seq.next < 2 ^ 40) ∧ ((s.atSeq u).seq.pipe ≠ []) ∧ holds (.reservedOpcode u) s (fun t => decide (t.val64 R.SEQ_VADDR_LO = (s.atSeq u).seq.next ∧ t.seq.next = (s.atSeq u).seq.next ∧ t.seq.pipe = (s.atSeq u).seq.pipe ∧ t.seq.ending = some (seqHalted, 0x08))) = true :=
  ⟨runs (ins 0x0E ) { pipe := [{ addr := 0, chars := 0, tset := 0 }] }, u0, ins 0x0E, by decide +kernel⟩

theorem witness_VectorFlow_reservedOpcode2 : ∃ (s : State) (u : Sub) (v : Vec),
    ((s.atSeq u).dispatchVec (fun o => 0x0E ≤ o) = some v) ∧ ((s.atSeq u).seq.next < 2 ^ 40) ∧ ((s.atSeq u).seq.pipe = []) ∧ ((s.atSeq u).seq.endAt ≤ (s.atSeq u).fU) ∧ holds (.reservedOpcode u) s (fun t => decide (t.get R.SEQ_STAT_STATE = 3 ∧ t.val R.SEQ_HALT_CAUSE = 0x08 ∧ t.is R.SEQ_EVT_HALTED = true ∧ t.val64 R.SEQ_VADDR_LO = (s.atSeq u).seq.next)) = true :=
  ⟨runs (ins 0x0F ), u0, ins 0x0F, by decide +kernel⟩

theorem witness_VectorConditions_opWaitTrig : ∃ (s : State) (u : Sub) (v : Vec),
    ((s.atSeq u).dispatchVec (fun o => o == 0x07) = some v) ∧ ((s.atSeq u).seq.next < 2 ^ 40) ∧ holds (.opWaitTrig u) s (fun t => decide (t.val64 R.SEQ_VADDR_LO = (s.atSeq u).seq.next ∧ t.seq.next = succAddr (s.atSeq u).seq.next ∧ (t.seq.pipe.getLast?.map (fun i => (i.addr, i.chars, i.tset, i.reps))) = some ((s.atSeq u).seq.next, v.chars, v.tset % 64, 1) ∧ t.seq.inWait = true ∧ t.seq.fired = 0)) = true :=
  ⟨runs (ins 0x07 1), u0, ins 0x07 1, by decide +kernel⟩

theorem witness_VectorConditions_opWaitTrig2 : ∃ (s : State) (u : Sub) (v : Vec),
    ((s.atSeq u).atDispatch = true) ∧ ((s.atSeq u).seq.inWait = true) ∧ ((s.atSeq u).seq.left = 0) ∧ ((s.atSeq u).seq.cur = some v) ∧ (Nat.land (s.atSeq u).seq.fired v.opa ≠ 0) ∧ holds (.opWaitTrig u) s (fun t => decide (t.seq.inWait = false ∧ t.seq.next = (s.atSeq u).seq.next % 2 ^ 40 ∧ t.seq.pipe = (s.atSeq u).seq.pipe)) = true :=
  ⟨during (ins 0x07 1) { inWait := true, fired := 3 }, u0, ins 0x07 1, by decide +kernel⟩

theorem witness_VectorConditions_opWaitTrig3 : ∃ (s : State) (u : Sub) (v : Vec),
    ((s.atSeq u).atDispatch = true) ∧ ((s.atSeq u).seq.inWait = true) ∧ ((s.atSeq u).seq.left = 0) ∧ ((s.atSeq u).seq.cur = some v) ∧ (Nat.land (s.atSeq u).seq.fired v.opa = 0) ∧ (v.opb = 0 ∨ (s.atSeq u).seq.issued < v.opb) ∧ holds (.opWaitTrig u) s (fun t => decide (t.seq.inWait = true ∧ (t.seq.pipe.getLast?.map (fun i => (i.addr, i.chars, i.tset, i.reps))) = some ((s.atSeq u).val64 R.SEQ_VADDR_LO, v.chars, v.tset % 64, 1))) = true :=
  ⟨during (ins 0x07 1 4) { inWait := true, issued := 3 }, u0, ins 0x07 1 4, by decide +kernel⟩

theorem witness_VectorConditions_waitTimeout : ∃ (s : State) (u : Sub) (v : Vec),
    ((s.atSeq u).atDispatch = true) ∧ ((s.atSeq u).seq.inWait = true) ∧ ((s.atSeq u).seq.left = 0) ∧ ((s.atSeq u).seq.cur = some v) ∧ (v.opb ≠ 0) ∧ (v.opb ≤ (s.atSeq u).seq.issued) ∧ (Nat.land (s.atSeq u).seq.fired v.opa = 0) ∧ holds (.waitTimeout u) s (fun t => decide (t.is R.SEQ_EVT_WAIT_TIMEOUT = true ∧ t.seq.inWait = false ∧ t.seq.next = (if v.opc / 2 ^ 63 = 1 then v.opc else (s.atSeq u).seq.next) % 2 ^ 40)) = true :=
  ⟨during (ins 0x07 1 4 (2 ^ 63 + 6)) { inWait := true, issued := 4 }, u0, ins 0x07 1 4 (2 ^ 63 + 6), by decide +kernel⟩

theorem witness_VectorConditions_opMatch : ∃ (s : State) (u : Sub) (v : Vec),
    ((s.atSeq u).dispatchVec (fun o => o == 0x08) = some v) ∧ ((s.atSeq u).seq.next < 2 ^ 40) ∧ ((s.atSeq u).seq.matching = false) ∧ holds (.opMatch u) s (fun t => decide (t.val64 R.SEQ_VADDR_LO = (s.atSeq u).seq.next ∧ t.seq.next = succAddr (s.atSeq u).seq.next ∧ (t.seq.pipe.getLast?.map (fun i => (i.addr, i.chars, i.tset, i.reps))) = some ((s.atSeq u).seq.next, v.chars, v.tset % 64, 1) ∧ t.seq.matching = true)) = true :=
  ⟨runs (ins 0x08 ), u0, ins 0x08, by decide +kernel⟩

theorem witness_VectorConditions_opMatch2 : ∃ (s : State) (u : Sub) (v : Vec),
    ((s.atSeq u).atDispatch = true) ∧ ((s.atSeq u).seq.matching = true) ∧ ((s.atSeq u).seq.left = 0) ∧ ((s.atSeq u).seq.cur = some v) ∧ ((s.atSeq u).matchPassed = true) ∧ holds (.opMatch u) s (fun t => decide (t.seq.matching = false ∧ t.rd R.SEQ_MATCH_REPS = BitVec.ofNat 32 (s.atSeq u).seq.issued ∧ t.seq.next = (s.atSeq u).seq.next)) = true :=
  ⟨during (ins 0x08) { matching := true, issued := 1, results := [(0, true)] }, u0, ins 0x08, by decide +kernel⟩

theorem witness_VectorConditions_matchLimit : ∃ (s : State) (u : Sub) (v : Vec),
    ((s.atSeq u).atDispatch = true) ∧ ((s.atSeq u).seq.matching = true) ∧ ((s.atSeq u).matchFailed = true) ∧ ((s.atSeq u).seq.cur = some v) ∧ (max 1 v.opb ≤ (s.atSeq u).seq.issued) ∧ (v.opa % 2 = 0) ∧ holds (.matchLimit u) s (fun t => decide (t.is R.SEQ_EVT_MATCH_LIMIT = true ∧ t.seq.matching = false ∧ t.rd R.SEQ_MATCH_REPS = BitVec.ofNat 32 (s.atSeq u).seq.issued)) = true :=
  ⟨during (ins 0x08) { matching := true, issued := 1, results := [(0, false)] }, u0, ins 0x08, by decide +kernel⟩

theorem witness_VectorConditions_opSyncTick : ∃ (s : State) (u : Sub) (v : Vec),
    ((s.atSeq u).dispatchVec (fun o => o == 0x09) = some v) ∧ ((s.atSeq u).seq.next < 2 ^ 40) ∧ holds (.opSyncTick u) s (fun t => decide (t.val64 R.SEQ_VADDR_LO = (s.atSeq u).seq.next ∧ t.seq.next = succAddr (s.atSeq u).seq.next ∧ (t.seq.pipe.getLast?.map (fun i => (i.addr, i.chars, i.tset, i.reps))) = some ((s.atSeq u).seq.next, v.chars, v.tset % 64, 1) ∧ (t.seq.pipe.getLast?.bind Inst.align) = some (v.opa % 4096))) = true :=
  ⟨runs (ins 0x09 5), u0, ins 0x09 5, by decide +kernel⟩

theorem witness_VectorConditions_opFlag : ∃ (s : State) (u : Sub) (v : Vec),
    ((s.atSeq u).dispatchVec (fun o => o == 0x0A) = some v) ∧ ((s.atSeq u).seq.next < 2 ^ 40) ∧ ((s.atSeq u).seq.pendSet = 0) ∧ ((s.atSeq u).seq.pendClr = 0) ∧ holds (.opFlag u) s (fun t => decide (t.val64 R.SEQ_VADDR_LO = (s.atSeq u).seq.next ∧ t.seq.next = succAddr (s.atSeq u).seq.next ∧ (t.seq.pipe.getLast?.map (fun i => (i.addr, i.chars, i.tset, i.reps))) = some ((s.atSeq u).seq.next, v.chars, v.tset % 64, 1) ∧ (t.seq.pipe.getLast?.map (fun i => (i.fset, i.fclr, i.fevt))) = some (v.opa % 256, v.opa / 256, v.opb % 2 == 1))) = true :=
  ⟨runs (ins 0x0A 0x0201), u0, ins 0x0A 0x0201, by decide +kernel⟩

theorem witness_VectorConditions_opGenStep : ∃ (s : State) (u : Sub) (v : Vec),
    ((s.atSeq u).dispatchVec (fun o => o == 0x0B) = some v) ∧ ((s.atSeq u).seq.next < 2 ^ 40) ∧ ((s.atSeq u).seq.pendStep = 0) ∧ holds (.opGenStep u) s (fun t => decide (t.val64 R.SEQ_VADDR_LO = (s.atSeq u).seq.next ∧ t.seq.next = succAddr (s.atSeq u).seq.next ∧ (t.seq.pipe.getLast?.map (fun i => (i.addr, i.chars, i.tset, i.reps))) = some ((s.atSeq u).seq.next, v.chars, v.tset % 64, 1) ∧ (t.seq.pipe.getLast?.map Inst.gstep) = some (v.opc % 2 ^ 48))) = true :=
  ⟨runs (ins 0x0B 0 0 5), u0, ins 0x0B 0 0 5, by decide +kernel⟩

theorem witness_VectorConditions_opCustom : ∃ (s : State) (u : Sub) (v : Vec),
    ((s.atSeq u).dispatchVec (fun o => o == 0x0C) = some v) ∧ ((s.atSeq u).seq.next < 2 ^ 40) ∧ (0xC000 ≤ v.opb % 65536) ∧ holds (.opCustom u) s (fun t => decide (t.val64 R.SEQ_VADDR_LO = (s.atSeq u).seq.next ∧ t.is R.SEQ_STAT_CUST_RUN = true ∧ t.seq.mpc = v.opb % 65536 ∧ t.seq.micro = [] ∧ t.seq.next = succAddr (s.atSeq u).seq.next)) = true :=
  ⟨runs (ins 0x0C 0 0xC004), u0, ins 0x0C 0 0xC004, by decide +kernel⟩

theorem witness_VectorConditions_opCustom2 : ∃ (s : State) (u : Sub) (v : Vec),
    ((s.atSeq u).dispatchVec (fun o => o == 0x0C) = some v) ∧ ((s.atSeq u).seq.next < 2 ^ 40) ∧ (v.opb % 65536 < 0xC000) ∧ ((s.atSeq u).seq.pipe ≠ []) ∧ holds (.opCustom u) s (fun t => decide (t.seq.ending = some (seqHalted, 0x09) ∧ t.seq.pipe = (s.atSeq u).seq.pipe ∧ t.seq.next = (s.atSeq u).seq.next)) = true :=
  ⟨runs (ins 0x0C 0 0xBFFF) { pipe := [{ addr := 0, chars := 0, tset := 0 }] }, u0, ins 0x0C 0 0xBFFF, by decide +kernel⟩

theorem witness_VectorConditions_instanceStart : ∃ (s : State) (obs : List PortObs) (ilim : List Port) (i : Inst) (r : List Inst),
    (s.seq.pipe = i :: r) ∧ (s.headStart i < s.nextTickU) ∧ holds (.instanceStart obs ilim) s (fun t => decide (t.seq.lastStart = s.headStart i ∧ t.seq.lastAddr = i.addr)) = true :=
  ⟨runs (ins 0) { pipe := [{ addr := 0, chars := 0, tset := 0 }] }, [], [], { addr := 0, chars := 0, tset := 0 }, [], by decide +kernel⟩

theorem witness_VectorConditions_underrun : ∃ (s : State) (u : Sub),
    ((s.atSeq u).seqState = seqRunning) ∧ ((s.atSeq u).is R.SEQ_STAT_CUST_RUN = true) ∧ ((s.atSeq u).seq.pipe = []) ∧ ((s.atSeq u).seq.fresh = false) ∧ ((s.atSeq u).seq.endAt ≤ (s.atSeq u).fU + lead64) ∧ ((s.atSeq u).seq.ending = none) ∧ holds (.underrun u) s (fun t => decide (t.val R.SEQ_UNDERRUN = min ((s.atSeq u).val R.SEQ_UNDERRUN + 1) (2 ^ 32 - 1) ∧ t.is R.SEQ_EVT_UNDERRUN = true ∧ t.seq.fresh = true)) = true :=
  ⟨(runs (ins 0) { fresh := false }).set R.SEQ_STAT_CUST_RUN 1, u0, by decide +kernel⟩

theorem witness_SequencerControl_seqStart : ∃ (s : State) (u : Sub),
    ((s.atSeq u).powered R.SEQ_CTRL = true) ∧ ((s.atSeq u).seqState = seqIdle ∨ (s.atSeq u).seqState = seqHalted) ∧ ((s.atSeq u).mayRun = true) ∧ holds (.seqStart u) s (fun t => decide (t.seqState = seqRunning ∧ t.seq.loops = [] ∧ t.seq.calls = [] ∧ t.seq.next = (s.atSeq u).addrReg R.SEQ_START_ADDR_LO ∧ t.val64 R.SEQ_VCOUNT_LO = 0 ∧ t.seq.startAt = some ((s.atSeq u).boundaryFrom 192))) = true :=
  ⟨(State.reset.set R.SYS_MODE_MODE 4).set R.USTORE_STAT_VEND_OK 1, u0, by decide +kernel⟩

theorem witness_SequencerControl_seqStart2 : ∃ (s : State) (u : Sub),
    ((s.atSeq u).powered R.SEQ_CTRL = true) ∧ (¬ (((s.atSeq u).seqState = seqIdle ∨ (s.atSeq u).seqState = seqHalted) ∧ (s.atSeq u).mayRun = true)) ∧ holds (.seqStart u) s (fun t => decide (t.is R.SEQ_EVT_REFUSED = true ∧ t.seq = (s.atSeq u).seq)) = true :=
  ⟨State.reset, u0, by decide +kernel⟩

theorem witness_SequencerControl_seqPause : ∃ (s : State) (u : Sub),
    ((s.atSeq u).powered R.SEQ_CTRL = true) ∧ holds (.seqPause u) s (fun t => decide (t.is R.SEQ_CTRL_PAUSE = true ∧ t.seq = (s.atSeq u).seq)) = true :=
  ⟨State.reset, u0, by decide +kernel⟩

theorem witness_SequencerControl_pauseClear : ∃ (s : State) (u : Sub),
    ((s.atSeq u).powered R.SEQ_CTRL = true) ∧ ((s.atSeq u).seqState = seqPaused) ∧ holds (.pauseClear u) s (fun t => decide (t.is R.SEQ_CTRL_PAUSE = false ∧ t.seqState = seqRunning)) = true :=
  ⟨(State.reset.set R.SEQ_STAT_STATE 2).set R.SEQ_CTRL_PAUSE 1, u0, by decide +kernel⟩

theorem witness_SequencerControl_seqStep : ∃ (s : State) (u : Sub),
    ((s.atSeq u).powered R.SEQ_CTRL = true) ∧ ((s.atSeq u).seqState = seqPaused) ∧ holds (.seqStep u) s (fun t => decide (t.seq.stepping = true ∧ t.seqState = seqRunning)) = true :=
  ⟨State.reset.set R.SEQ_STAT_STATE 2, u0, by decide +kernel⟩

theorem witness_SequencerControl_seqStep2 : ∃ (s : State) (u : Sub),
    ((s.atSeq u).powered R.SEQ_CTRL = true) ∧ ((s.atSeq u).seqState ≠ seqPaused) ∧ holds (.seqStep u) s (fun t => decide (t.is R.SEQ_EVT_REFUSED = true)) = true :=
  ⟨State.reset, u0, by decide +kernel⟩

theorem witness_SequencerControl_seqStop : ∃ (s : State) (u : Sub),
    ((s.atSeq u).powered R.SEQ_CTRL = true) ∧ ((s.atSeq u).seqState = seqRunning ∨ (s.atSeq u).seqState = seqPaused) ∧ ((s.atSeq u).seq.stopReq = none) ∧ holds (.seqStop u) s (fun t => decide (t.seq.stopReq = some 0x02)) = true :=
  ⟨runs (ins 0), u0, by decide +kernel⟩

theorem witness_SequencerControl_hostJump : ∃ (s : State) (u : Sub),
    ((s.atSeq u).powered R.SEQ_CTRL = true) ∧ holds (.hostJump u) s (fun t => decide (t.seq.jumpReq = true)) = true :=
  ⟨State.reset, u0, by decide +kernel⟩

theorem witness_SequencerControl_vectorRequestTaken : ∃ (s : State) (u : Sub) (c : Nat),
    ((s.atSeq u).atVectorPoint = true) ∧ ((s.atSeq u).seq.stopReq = some c) ∧ ((s.atSeq u).seqState = seqRunning ∨ (s.atSeq u).seqState = seqPaused) ∧ ((s.atSeq u).seq.pipe = []) ∧ ((s.atSeq u).seq.endAt ≤ (s.atSeq u).fU) ∧ (c ≠ 0x0F) ∧ (c ≠ 0x12) ∧ (c < 2 ^ 32) ∧ holds (.vectorRequestTaken u) s (fun t => decide (t.seqState = seqHalted ∧ t.val R.SEQ_HALT_CAUSE = c ∧ t.seq.stopReq = none)) = true :=
  ⟨runs (ins 0) { stopReq := some 2, jumpReq := true }, u0, 2, by decide +kernel⟩

theorem witness_SequencerControl_vectorRequestTaken2 : ∃ (s : State) (u : Sub),
    ((s.atSeq u).atVectorPoint = true) ∧ ((s.atSeq u).seq.stopReq = none) ∧ ((s.atSeq u).seqState = seqRunning) ∧ ((s.atSeq u).is R.SEQ_CTRL_PAUSE = true) ∧ ((s.atSeq u).seq.stepping = false) ∧ ((s.atSeq u).seq.pipe = []) ∧ ((s.atSeq u).seq.endAt ≤ (s.atSeq u).fU) ∧ holds (.vectorRequestTaken u) s (fun t => decide (t.seqState = seqPaused ∧ t.is R.SEQ_EVT_PAUSED = true)) = true :=
  ⟨(runs (ins 0) { jumpReq := true }).set R.SEQ_CTRL_PAUSE 1, u0, by decide +kernel⟩

theorem witness_SequencerControl_vectorRequestTaken3 : ∃ (s : State) (u : Sub),
    ((s.atSeq u).atVectorPoint = true) ∧ ((s.atSeq u).seq.stopReq = none) ∧ ((s.atSeq u).seqState = seqRunning) ∧ ((s.atSeq u).is R.SEQ_CTRL_PAUSE = false) ∧ ((s.atSeq u).seq.jumpReq = true) ∧ ((s.atSeq u).seq.left = 0) ∧ ((s.atSeq u).seq.inWait = false) ∧ ((s.atSeq u).seq.matching = false) ∧ holds (.vectorRequestTaken u) s (fun t => decide (t.seq.next = (s.atSeq u).addrReg R.SEQ_JUMP_ADDR_LO ∧ t.seq.jumpReq = false)) = true :=
  ⟨runs (ins 0) { jumpReq := true }, u0, by decide +kernel⟩

theorem witness_SequencerControl_seqResume : ∃ (s : State) (u : Sub),
    ((s.atSeq u).powered R.SEQ_CTRL = true) ∧ ((s.atSeq u).seqState = seqHalted) ∧ (noResume ((s.atSeq u).val R.SEQ_HALT_CAUSE) = false) ∧ ((s.atSeq u).get R.SEQ_STAT_RSTR_STATE = 0) ∧ ((s.atSeq u).mayRun = true) ∧ holds (.seqResume u) s (fun t => decide (t.seqState = seqRunning ∧ t.seq.next = (s.atSeq u).addrReg R.SEQ_VADDR_LO ∧ t.is R.SEQ_STAT_CUST_RUN = false)) = true :=
  ⟨(((State.reset.set R.SYS_MODE_MODE 4).set R.USTORE_STAT_VEND_OK 1).set R.SEQ_STAT_STATE 3).put R.SEQ_HALT_CAUSE 1, u0, by decide +kernel⟩

theorem witness_SequencerControl_winApply : ∃ (s : State) (u : Sub),
    ((s.atSeq u).powered R.SEQ_CTRL = true) ∧ ((s.atSeq u).winBad = false) ∧ holds (.winApply u) s (fun t => decide (t.seq.winBase = (s.atSeq u).val R.SEQ_WIN_BASE ∧ t.seq.winCount = (s.atSeq u).val R.SEQ_WIN_COUNT ∧ t.seq.frames = [])) = true :=
  ⟨State.reset, u0, by decide +kernel⟩

theorem witness_SequencerControl_winApply2 : ∃ (s : State) (u : Sub),
    ((s.atSeq u).powered R.SEQ_CTRL = true) ∧ ((s.atSeq u).winBad = true) ∧ holds (.winApply u) s (fun t => decide (t.is R.SEQ_EVT_WIN_CFG_ERR = true ∧ t.seq = (s.atSeq u).seq)) = true :=
  ⟨State.reset.put R.SEQ_WIN_COUNT 1821, u0, by decide +kernel⟩

theorem witness_SequencerControl_seqClrStats : ∃ (s : State),
    (s.powered R.SEQ_CTRL = true) ∧ holds .seqClrStats s (fun t => decide (t.val R.SEQ_REFILL_REJ = 0 ∧ t.val R.SEQ_UNDERRUN = 0 ∧ t.val R.SEQ_OD_COUNT = 0)) = true :=
  ⟨State.reset.put R.SEQ_UNDERRUN 9, by decide +kernel⟩

theorem witness_SequencerControl_seqOverdraft : ∃ (s : State) (u : Sub),
    ((s.atSeq u).seqState = seqRunning) ∧ ((s.atSeq u).is R.SEQ_STAT_OVERDRAFT = false) ∧ ((s.atSeq u).seq.ending = none) ∧ ((s.atSeq u).is R.SEQ_STAT_CUST_RUN = false) ∧ ((s.atSeq u).seq.left = 0) ∧ ((s.atSeq u).seq.inWait = false) ∧ ((s.atSeq u).seq.matching = false) ∧ ((s.atSeq u).seq.stopReq = none) ∧ ((s.atSeq u).resident (s.atSeq u).seq.next = false) ∧ ((s.atSeq u).issueTooLate = true) ∧ ((s.atSeq u).is R.SEQ_CTRL_OD_ACTION = false) ∧ holds (.seqOverdraft u) s (fun t => decide (t.is R.SEQ_STAT_OVERDRAFT = true ∧ t.is R.SEQ_EVT_OVERDRAFT = true ∧ t.val R.SEQ_OD_COUNT = min ((s.atSeq u).val R.SEQ_OD_COUNT + 1) (2 ^ 32 - 1) ∧ t.seqState = seqRunning)) = true :=
  ⟨runs (ins 0) { next := 65536 }, u0, by decide +kernel⟩

theorem witness_SequencerControl_custSwitch : ∃ (s : State) (u : Sub),
    ((s.atSeq u).is R.USTORE_STAT_CUST_PENDING = true) ∧ ((s.atSeq u).is R.SEQ_STAT_CUST_RUN = false) :=
  ⟨State.reset.set R.USTORE_STAT_CUST_PENDING 1, u0, by decide +kernel⟩

theorem witness_MicroArithmetic_uNop : ∃ (s : State) (u : Sub) (w : MicroWord),
    ((s.atSeq u).microRuns = true) ∧ ((s.atSeq u).seq.stalled = false) ∧ ((s.atSeq u).microNow = w) ∧ (w.mop = 0x00) ∧ (0xC000 ≤ (s.atSeq u).seq.mpc) ∧ ((s.atSeq u).seq.mpc < 0xFFFF) ∧ holds (.uNop u) s (fun t => decide (t.regs = (s.atSeq u).regs ∧ t.seq.mpc = (s.atSeq u).seq.mpc + 1)) = true :=
  ⟨routine 0x00 0 0 0 0, u0, ⟨0x00, 0, 0, 0, 0⟩, by decide +kernel⟩

theorem witness_MicroArithmetic_uLdi : ∃ (s : State) (u : Sub) (w : MicroWord),
    ((s.atSeq u).microRuns = true) ∧ ((s.atSeq u).seq.stalled = false) ∧ ((s.atSeq u).microNow = w) ∧ (w.mop = 0x01) ∧ (0xC000 ≤ (s.atSeq u).seq.mpc) ∧ ((s.atSeq u).seq.mpc < 0xFFFF) ∧ holds (.uLdi u) s (fun t => decide (t.ureg w.d = (if w.d = 0 then 0 else w.imm) ∧ t.seq.mpc = (s.atSeq u).seq.mpc + 1)) = true :=
  ⟨routine 0x01 3 0 0 7, u0, ⟨0x01, 3, 0, 0, 7⟩, by decide +kernel⟩

theorem witness_MicroArithmetic_uLdh : ∃ (s : State) (u : Sub) (w : MicroWord),
    ((s.atSeq u).microRuns = true) ∧ ((s.atSeq u).seq.stalled = false) ∧ ((s.atSeq u).microNow = w) ∧ (w.mop = 0x02) ∧ (0xC000 ≤ (s.atSeq u).seq.mpc) ∧ ((s.atSeq u).seq.mpc < 0xFFFF) ∧ holds (.uLdh u) s (fun t => decide (t.ureg w.d = (if w.d = 0 then 0 else ((s.atSeq u).ureg w.d % 65536 + 65536 * w.imm) % 2 ^ 32) ∧ t.seq.mpc = (s.atSeq u).seq.mpc + 1)) = true :=
  ⟨(routine 0x02 2 0 0 7).put (R.SEQ_UREG 2) 0x80000005, u0, ⟨0x02, 2, 0, 0, 7⟩, by decide +kernel⟩

theorem witness_MicroArithmetic_uAdd : ∃ (s : State) (u : Sub) (w : MicroWord),
    ((s.atSeq u).microRuns = true) ∧ ((s.atSeq u).seq.stalled = false) ∧ ((s.atSeq u).microNow = w) ∧ (w.mop = 0x03) ∧ (0xC000 ≤ (s.atSeq u).seq.mpc) ∧ ((s.atSeq u).seq.mpc < 0xFFFF) ∧ holds (.uAdd u) s (fun t => decide (t.ureg w.d = (if w.d = 0 then 0 else ((s.atSeq u).ureg w.a + (s.atSeq u).opB w) % 2 ^ 32) ∧ t.seq.mpc = (s.atSeq u).seq.mpc + 1)) = true :=
  ⟨(routine 0x03 3 2 0 65535).put (R.SEQ_UREG 2) 0x80000005, u0, ⟨0x03, 3, 2, 0, 65535⟩, by decide +kernel⟩

theorem witness_MicroArithmetic_uSub : ∃ (s : State) (u : Sub) (w : MicroWord),
    ((s.atSeq u).microRuns = true) ∧ ((s.atSeq u).seq.stalled = false) ∧ ((s.atSeq u).microNow = w) ∧ (w.mop = 0x04) ∧ (0xC000 ≤ (s.atSeq u).seq.mpc) ∧ ((s.atSeq u).seq.mpc < 0xFFFF) ∧ holds (.uSub u) s (fun t => decide (t.ureg w.d = (if w.d = 0 then 0 else ((s.atSeq u).ureg w.a + 2 ^ 32 - (s.atSeq u).opB w) % 2 ^ 32) ∧ t.seq.mpc = (s.atSeq u).seq.mpc + 1)) = true :=
  ⟨(routine 0x04 3 2 1 2).put (R.SEQ_UREG 2) 0x80000005, u0, ⟨0x04, 3, 2, 1, 2⟩, by decide +kernel⟩

theorem witness_MicroArithmetic_uAnd : ∃ (s : State) (u : Sub) (w : MicroWord),
    ((s.atSeq u).microRuns = true) ∧ ((s.atSeq u).seq.stalled = false) ∧ ((s.atSeq u).microNow = w) ∧ (w.mop = 0x05) ∧ (0xC000 ≤ (s.atSeq u).seq.mpc) ∧ ((s.atSeq u).seq.mpc < 0xFFFF) ∧ holds (.uAnd u) s (fun t => decide (t.ureg w.d = (if w.d = 0 then 0 else Nat.land ((s.atSeq u).ureg w.a) ((s.atSeq u).opB w) % 2 ^ 32) ∧ t.seq.mpc = (s.atSeq u).seq.mpc + 1)) = true :=
  ⟨(routine 0x05 3 2 0 4).put (R.SEQ_UREG 2) 0x80000005, u0, ⟨0x05, 3, 2, 0, 4⟩, by decide +kernel⟩

theorem witness_MicroArithmetic_uOr : ∃ (s : State) (u : Sub) (w : MicroWord),
    ((s.atSeq u).microRuns = true) ∧ ((s.atSeq u).seq.stalled = false) ∧ ((s.atSeq u).microNow = w) ∧ (w.mop = 0x06) ∧ (0xC000 ≤ (s.atSeq u).seq.mpc) ∧ ((s.atSeq u).seq.mpc < 0xFFFF) ∧ holds (.uOr u) s (fun t => decide (t.ureg w.d = (if w.d = 0 then 0 else Nat.lor ((s.atSeq u).ureg w.a) ((s.atSeq u).opB w) % 2 ^ 32) ∧ t.seq.mpc = (s.atSeq u).seq.mpc + 1)) = true :=
  ⟨(routine 0x06 3 2 0 8).put (R.SEQ_UREG 2) 0x80000005, u0, ⟨0x06, 3, 2, 0, 8⟩, by decide +kernel⟩

theorem witness_MicroArithmetic_uXor : ∃ (s : State) (u : Sub) (w : MicroWord),
    ((s.atSeq u).microRuns = true) ∧ ((s.atSeq u).seq.stalled = false) ∧ ((s.atSeq u).microNow = w) ∧ (w.mop = 0x07) ∧ (0xC000 ≤ (s.atSeq u).seq.mpc) ∧ ((s.atSeq u).seq.mpc < 0xFFFF) ∧ holds (.uXor u) s (fun t => decide (t.ureg w.d = (if w.d = 0 then 0 else Nat.xor ((s.atSeq u).ureg w.a) ((s.atSeq u).opB w) % 2 ^ 32) ∧ t.seq.mpc = (s.atSeq u).seq.mpc + 1)) = true :=
  ⟨(routine 0x07 3 2 0 65535).put (R.SEQ_UREG 2) 0x80000005, u0, ⟨0x07, 3, 2, 0, 65535⟩, by decide +kernel⟩

theorem witness_MicroArithmetic_uShl : ∃ (s : State) (u : Sub) (w : MicroWord),
    ((s.atSeq u).microRuns = true) ∧ ((s.atSeq u).seq.stalled = false) ∧ ((s.atSeq u).microNow = w) ∧ (w.mop = 0x08) ∧ (0xC000 ≤ (s.atSeq u).seq.mpc) ∧ ((s.atSeq u).seq.mpc < 0xFFFF) ∧ holds (.uShl u) s (fun t => decide (t.ureg w.d = (if w.d = 0 then 0 else ((s.atSeq u).ureg w.a * 2 ^ ((s.atSeq u).opB w % 32)) % 2 ^ 32) ∧ t.seq.mpc = (s.atSeq u).seq.mpc + 1)) = true :=
  ⟨(routine 0x08 3 2 0 33).put (R.SEQ_UREG 2) 0x80000005, u0, ⟨0x08, 3, 2, 0, 33⟩, by decide +kernel⟩

theorem witness_MicroArithmetic_uShr : ∃ (s : State) (u : Sub) (w : MicroWord),
    ((s.atSeq u).microRuns = true) ∧ ((s.atSeq u).seq.stalled = false) ∧ ((s.atSeq u).microNow = w) ∧ (w.mop = 0x09) ∧ (0xC000 ≤ (s.atSeq u).seq.mpc) ∧ ((s.atSeq u).seq.mpc < 0xFFFF) ∧ holds (.uShr u) s (fun t => decide (t.ureg w.d = (if w.d = 0 then 0 else ((s.atSeq u).ureg w.a / 2 ^ ((s.atSeq u).opB w % 32)) % 2 ^ 32) ∧ t.seq.mpc = (s.atSeq u).seq.mpc + 1)) = true :=
  ⟨(routine 0x09 3 2 0 31).put (R.SEQ_UREG 2) 0x80000005, u0, ⟨0x09, 3, 2, 0, 31⟩, by decide +kernel⟩

theorem witness_MicroArithmetic_uRds : ∃ (s : State) (u : Sub) (w : MicroWord),
    ((s.atSeq u).microRuns = true) ∧ ((s.atSeq u).seq.stalled = false) ∧ ((s.atSeq u).microNow = w) ∧ (w.mop = 0x0A) ∧ (0xC000 ≤ (s.atSeq u).seq.mpc) ∧ ((s.atSeq u).seq.mpc < 0xFFFF) ∧ holds (.uRds u) s (fun t => decide (t.ureg w.d = (if w.d = 0 then 0 else (s.atSeq u).special (w.imm % 256) % 2 ^ 32) ∧ t.seq.mpc = (s.atSeq u).seq.mpc + 1)) = true :=
  ⟨routine 0x0A 3 0 0 1, u0, ⟨0x0A, 3, 0, 0, 1⟩, by decide +kernel⟩

theorem witness_MicroArithmetic_uTrig : ∃ (s : State) (u : Sub) (w : MicroWord),
    ((s.atSeq u).microRuns = true) ∧ ((s.atSeq u).seq.stalled = false) ∧ ((s.atSeq u).microNow = w) ∧ (w.mop = 0x11) ∧ (0xC000 ≤ (s.atSeq u).seq.mpc) ∧ ((s.atSeq u).seq.mpc < 0xFFFF) ∧ holds (.uTrig u) s (fun t => decide (t.ureg w.d = (if w.d = 0 then 0 else (s.atSeq u).combOutputs % 2 ^ 32) ∧ t.seq.mpc = (s.atSeq u).seq.mpc + 1)) = true :=
  ⟨routine 0x11 3 0 0 0, u0, ⟨0x11, 3, 0, 0, 0⟩, by decide +kernel⟩

theorem witness_MicroArithmetic_uCmpw : ∃ (s : State) (u : Sub) (w : MicroWord) (r : Nat × Bool),
    ((s.atSeq u).microRuns = true) ∧ ((s.atSeq u).seq.stalled = false) ∧ ((s.atSeq u).microNow = w) ∧ (w.mop = 0x10) ∧ (0xC000 ≤ (s.atSeq u).seq.mpc) ∧ ((s.atSeq u).seq.mpc < 0xFFFF) ∧ ((s.atSeq u).stallOver w = true) ∧ ((s.atSeq u).seq.lastResult = some r) ∧ holds (.uCmpw u) s (fun t => decide (t.ureg w.d = (if w.d = 0 then 0 else if r.2 then 1 else 0) ∧ t.seq.mpc = (s.atSeq u).seq.mpc + 1)) = true :=
  ⟨routine 0x10 3 0 0 0 { lastResult := some (0, true) }, u0, ⟨0x10, 3, 0, 0, 0⟩, (0, true), by decide +kernel⟩

theorem witness_MicroFlow_uBr : ∃ (s : State) (u : Sub) (w : MicroWord),
    ((s.atSeq u).microRuns = true) ∧ ((s.atSeq u).seq.stalled = false) ∧ ((s.atSeq u).microNow = w) ∧ (w.mop = 0x0B) ∧ (0xC000 ≤ (s.atSeq u).seq.mpc) ∧ ((s.atSeq u).seq.mpc < 0xFFFF) ∧ (brTaken w.x ((s.atSeq u).ureg w.a) = true) ∧ (0xC000 ≤ w.imm) ∧ (w.imm ≤ 0xFFFF) ∧ holds (.uBr u) s (fun t => decide (t.seq.mpc = w.imm)) = true :=
  ⟨routine 0x0B 0 0 1 49168, u0, ⟨0x0B, 0, 0, 1, 49168⟩, by decide +kernel⟩

theorem witness_MicroFlow_uBr2 : ∃ (s : State) (u : Sub) (w : MicroWord),
    ((s.atSeq u).microRuns = true) ∧ ((s.atSeq u).seq.stalled = false) ∧ ((s.atSeq u).microNow = w) ∧ (w.mop = 0x0B) ∧ (0xC000 ≤ (s.atSeq u).seq.mpc) ∧ ((s.atSeq u).seq.mpc < 0xFFFF) ∧ (brTaken w.x ((s.atSeq u).ureg w.a) = false) ∧ holds (.uBr u) s (fun t => decide (t.seq.mpc = (s.atSeq u).seq.mpc + 1)) = true :=
  ⟨routine 0x0B 0 0 2 49168, u0, ⟨0x0B, 0, 0, 2, 49168⟩, by decide +kernel⟩

theorem witness_MicroFlow_uMcall : ∃ (s : State) (u : Sub) (w : MicroWord),
    ((s.atSeq u).microRuns = true) ∧ ((s.atSeq u).seq.stalled = false) ∧ ((s.atSeq u).microNow = w) ∧ (w.mop = 0x0C) ∧ (0xC000 ≤ (s.atSeq u).seq.mpc) ∧ ((s.atSeq u).seq.mpc < 0xFFFF) ∧ ((s.atSeq u).seq.micro.length < 8) ∧ (0xC000 ≤ w.imm) ∧ (w.imm ≤ 0xFFFF) ∧ holds (.uMcall u) s (fun t => decide (t.seq.mpc = w.imm ∧ t.seq.micro = (s.atSeq u).seq.micro ++ [(s.atSeq u).seq.mpc + 1])) = true :=
  ⟨routine 0x0C 0 0 0 49168, u0, ⟨0x0C, 0, 0, 0, 49168⟩, by decide +kernel⟩

theorem witness_MicroFlow_uMret : ∃ (s : State) (u : Sub) (w : MicroWord) (ms : List Nat) (a : Nat),
    ((s.atSeq u).microRuns = true) ∧ ((s.atSeq u).seq.stalled = false) ∧ ((s.atSeq u).microNow = w) ∧ (w.mop = 0x0D) ∧ (0xC000 ≤ (s.atSeq u).seq.mpc) ∧ ((s.atSeq u).seq.mpc < 0xFFFF) ∧ ((s.atSeq u).seq.micro = ms ++ [a]) ∧ (0xC000 ≤ a) ∧ (a ≤ 0xFFFF) ∧ holds (.uMret u) s (fun t => decide (t.seq.mpc = a ∧ t.seq.micro = ms)) = true :=
  ⟨routine 0x0D 0 0 0 0 { micro := [0xC020] }, u0, ⟨0x0D, 0, 0, 0, 0⟩, [], 0xC020, by decide +kernel⟩

theorem witness_MicroFlow_uLpush : ∃ (s : State) (u : Sub) (w : MicroWord),
    ((s.atSeq u).microRuns = true) ∧ ((s.atSeq u).seq.stalled = false) ∧ ((s.atSeq u).microNow = w) ∧ (w.mop = 0x13) ∧ (0xC000 ≤ (s.atSeq u).seq.mpc) ∧ ((s.atSeq u).seq.mpc < 0xFFFF) ∧ ((s.atSeq u).seq.loops.length < 16) ∧ holds (.uLpush u) s (fun t => decide (t.seq.loops = (s.atSeq u).seq.loops ++ [⟨(s.atSeq u).val64 R.SEQ_VADDR_LO, (s.atSeq u).ureg w.a, 0⟩] ∧ t.seq.mpc = (s.atSeq u).seq.mpc + 1)) = true :=
  ⟨(routine 0x13 0 2 0 0).put (R.SEQ_UREG 2) 0x80000005, u0, ⟨0x13, 0, 2, 0, 0⟩, by decide +kernel⟩

theorem witness_MicroFlow_uLend : ∃ (s : State) (u : Sub) (w : MicroWord) (fs : List LoopFrame) (f : LoopFrame),
    ((s.atSeq u).microRuns = true) ∧ ((s.atSeq u).seq.stalled = false) ∧ ((s.atSeq u).microNow = w) ∧ (w.mop = 0x14) ∧ (0xC000 ≤ (s.atSeq u).seq.mpc) ∧ ((s.atSeq u).seq.mpc < 0xFFFF) ∧ ((s.atSeq u).seq.loops = fs ++ [f]) ∧ (1 < f.rem) ∧ holds (.uLend u) s (fun t => decide (t.seq.next = f.addr ∧ t.seq.loops = fs ++ [⟨f.addr, f.rem - 1, (f.idx + 1) % 2 ^ 32⟩] ∧ t.seq.mpc = (s.atSeq u).seq.mpc + 1)) = true :=
  ⟨routine 0x14 0 0 0 0 { loops := [⟨5, 2, 0⟩] }, u0, ⟨0x14, 0, 0, 0, 0⟩, [], ⟨5, 2, 0⟩, by decide +kernel⟩

theorem witness_MicroFlow_uLend2 : ∃ (s : State) (u : Sub) (w : MicroWord) (fs : List LoopFrame) (f : LoopFrame),
    ((s.atSeq u).microRuns = true) ∧ ((s.atSeq u).seq.stalled = false) ∧ ((s.atSeq u).microNow = w) ∧ (w.mop = 0x14) ∧ (0xC000 ≤ (s.atSeq u).seq.mpc) ∧ ((s.atSeq u).seq.mpc < 0xFFFF) ∧ ((s.atSeq u).seq.loops = fs ++ [f]) ∧ (f.rem ≤ 1) ∧ holds (.uLend u) s (fun t => decide (t.seq.next = (s.atSeq u).seq.next ∧ t.seq.loops = fs ∧ t.seq.mpc = (s.atSeq u).seq.mpc + 1)) = true :=
  ⟨routine 0x14 0 0 0 0 { loops := [⟨5, 1, 0⟩] }, u0, ⟨0x14, 0, 0, 0, 0⟩, [], ⟨5, 1, 0⟩, by decide +kernel⟩

theorem witness_MicroFlow_uCpush : ∃ (s : State) (u : Sub) (w : MicroWord),
    ((s.atSeq u).microRuns = true) ∧ ((s.atSeq u).seq.stalled = false) ∧ ((s.atSeq u).microNow = w) ∧ (w.mop = 0x15) ∧ (0xC000 ≤ (s.atSeq u).seq.mpc) ∧ ((s.atSeq u).seq.mpc < 0xFFFF) ∧ ((s.atSeq u).seq.calls.length < 16) ∧ holds (.uCpush u) s (fun t => decide (t.seq.calls = (s.atSeq u).seq.calls ++ [succAddr ((s.atSeq u).val64 R.SEQ_VADDR_LO)] ∧ t.seq.mpc = (s.atSeq u).seq.mpc + 1)) = true :=
  ⟨routine 0x15 0 0 0 0, u0, ⟨0x15, 0, 0, 0, 0⟩, by decide +kernel⟩

theorem witness_MicroFlow_uCpop : ∃ (s : State) (u : Sub) (w : MicroWord) (cs : List Nat) (a : Nat),
    ((s.atSeq u).microRuns = true) ∧ ((s.atSeq u).seq.stalled = false) ∧ ((s.atSeq u).microNow = w) ∧ (w.mop = 0x16) ∧ (0xC000 ≤ (s.atSeq u).seq.mpc) ∧ ((s.atSeq u).seq.mpc < 0xFFFF) ∧ ((s.atSeq u).seq.calls = cs ++ [a]) ∧ holds (.uCpop u) s (fun t => decide (t.seq.next = a % 2 ^ 40 ∧ t.seq.calls = cs ∧ t.seq.mpc = (s.atSeq u).seq.mpc + 1)) = true :=
  ⟨routine 0x16 0 0 0 0 { calls := [77] }, u0, ⟨0x16, 0, 0, 0, 0⟩, [], 77, by decide +kernel⟩

theorem witness_MicroFlow_uSetnx : ∃ (s : State) (u : Sub) (w : MicroWord) (v : Vec),
    ((s.atSeq u).microRuns = true) ∧ ((s.atSeq u).seq.stalled = false) ∧ ((s.atSeq u).microNow = w) ∧ (w.mop = 0x17) ∧ (0xC000 ≤ (s.atSeq u).seq.mpc) ∧ ((s.atSeq u).seq.mpc < 0xFFFF) ∧ ((s.atSeq u).seq.cur = some v) ∧ holds (.uSetnx u) s (fun t => decide (t.seq.next = (if w.x = 0 then succAddr ((s.atSeq u).val64 R.SEQ_VADDR_LO) else if w.x = 1 then v.opc % 2 ^ 40 else if w.x = 2 then codeOf 40 ((s.atSeq u).val64 R.SEQ_VADDR_LO + signedOf 32 ((s.atSeq u).ureg w.a)) else (s.atSeq u).seq.next) ∧ t.seq.mpc = (s.atSeq u).seq.mpc + 1)) = true :=
  ⟨(routine 0x17 0 2 2 0).put (R.SEQ_UREG 2) 0x80000005, u0, ⟨0x17, 0, 2, 2, 0⟩, ins 0x0C 0 0xC000, by decide +kernel⟩

theorem witness_MicroFlow_uEnd : ∃ (s : State) (u : Sub) (w : MicroWord),
    ((s.atSeq u).microRuns = true) ∧ ((s.atSeq u).seq.stalled = false) ∧ ((s.atSeq u).microNow = w) ∧ (w.mop = 0x1C) ∧ (0xC000 ≤ (s.atSeq u).seq.mpc) ∧ ((s.atSeq u).seq.mpc < 0xFFFF) ∧ ((s.atSeq u).seq.stepping = false) ∧ holds (.uEnd u) s (fun t => decide (t.is R.SEQ_STAT_CUST_RUN = false ∧ t.seq.patches = [] ∧ t.seq.micro = [] ∧ t.seq.next = (s.atSeq u).seq.next)) = true :=
  ⟨routine 0x1C 0 0 0 0 { micro := [0xC003] }, u0, ⟨0x1C, 0, 0, 0, 0⟩, by decide +kernel⟩

theorem witness_MicroFlow_uHlt : ∃ (s : State) (u : Sub) (w : MicroWord),
    ((s.atSeq u).microRuns = true) ∧ ((s.atSeq u).seq.stalled = false) ∧ ((s.atSeq u).microNow = w) ∧ (w.mop = 0x1D) ∧ (0xC000 ≤ (s.atSeq u).seq.mpc) ∧ ((s.atSeq u).seq.mpc < 0xFFFF) ∧ ((s.atSeq u).stallOver w = true) ∧ holds (.uHlt u) s (fun t => decide (t.seqState = seqHalted ∧ t.val R.SEQ_HALT_CAUSE = 0x80 + w.imm % 128 ∧ t.is R.SEQ_STAT_CUST_RUN = false)) = true :=
  ⟨routine 0x1D 0 0 0 5, u0, ⟨0x1D, 0, 0, 0, 5⟩, by decide +kernel⟩

theorem witness_MicroFlow_illegalMicroOp : ∃ (s : State) (u : Sub),
    ((s.atSeq u).microRuns = true) ∧ ((s.atSeq u).seq.stalled = false) ∧ (0x1E ≤ (s.atSeq u).microNow.mop) ∧ ((s.atSeq u).seq.pipe = []) ∧ ((s.atSeq u).seq.endAt ≤ (s.atSeq u).fU) ∧ (((s.atSeq u).reactions 0x43 true).testBit reactB = false) ∧ (((s.atSeq u).reactions 0x43 false).testBit reactB = false) ∧ holds (.illegalMicroOp u) s (fun t => decide (t.get R.USTORE_MFAULT_CAUSE = 0x0A ∧ t.is R.USTORE_EVT_MFAULT = true ∧ t.is R.SEQ_STAT_CUST_RUN = false ∧ t.get R.SEQ_STAT_RSTR_STATE = 2 ∧ t.seqState = seqHalted)) = true :=
  ⟨routine 0x1E, u0, by decide +kernel⟩

theorem witness_MicroEffects_uIssue : ∃ (s : State) (u : Sub) (w : MicroWord) (v : Vec),
    ((s.atSeq u).microRuns = true) ∧ ((s.atSeq u).seq.stalled = false) ∧ ((s.atSeq u).microNow = w) ∧ (w.mop = 0x0E) ∧ (0xC000 ≤ (s.atSeq u).seq.mpc) ∧ ((s.atSeq u).seq.mpc < 0xFFFF) ∧ ((s.atSeq u).stallOver w = true) ∧ ((s.atSeq u).seq.cur = some v) ∧ holds (.uIssue u) s (fun t => decide ((t.seq.pipe.getLast?.map (fun i => (i.addr, i.chars, i.tset, i.reps))) = some ((s.atSeq u).val64 R.SEQ_VADDR_LO, (if w.x % 2 = 1 then patched v.chars (s.atSeq u).seq.patches else v.chars), (if 2 ≤ w.x then (s.atSeq u).ureg w.a % 64 else v.tset % 64), 1) ∧ t.seq.mpc = (s.atSeq u).seq.mpc + 1)) = true :=
  ⟨(routine 0x0E 0 2 3 0 { patches := [(1, 3)] }).put (R.SEQ_UREG 2) 0x80000005, u0, ⟨0x0E, 0, 2, 3, 0⟩, ins 0x0C 0 0xC000, by decide +kernel⟩

theorem witness_MicroEffects_uIssue2 : ∃ (s : State) (u : Sub) (w : MicroWord),
    ((s.atSeq u).microRuns = true) ∧ ((s.atSeq u).seq.stalled = false) ∧ ((s.atSeq u).microNow = w) ∧ (w.mop = 0x0E) ∧ (0xC000 ≤ (s.atSeq u).seq.mpc) ∧ ((s.atSeq u).seq.mpc < 0xFFFF) ∧ ((s.atSeq u).stallOver w = false) ∧ holds (.uIssue u) s (fun t => decide (t.seq.stalled = true ∧ t.regs = (s.atSeq u).regs ∧ t.seq.pipe = (s.atSeq u).seq.pipe)) = true :=
  ⟨routine 0x0E 0 0 0 0 { endAt := 1000000 }, u0, ⟨0x0E, 0, 0, 0, 0⟩, by decide +kernel⟩

theorem witness_MicroEffects_uPatch : ∃ (s : State) (u : Sub) (w : MicroWord),
    ((s.atSeq u).microRuns = true) ∧ ((s.atSeq u).seq.stalled = false) ∧ ((s.atSeq u).microNow = w) ∧ (w.mop = 0x0F) ∧ (0xC000 ≤ (s.atSeq u).seq.mpc) ∧ ((s.atSeq u).seq.mpc < 0xFFFF) ∧ (w.x = 0) ∧ holds (.uPatch u) s (fun t => decide (t.seq.patches = (s.atSeq u).seq.patches.filter (fun y => y.1 != (s.atSeq u).ureg w.a % 256) ++ [((s.atSeq u).ureg w.a % 256, w.imm % 16)] ∧ t.seq.mpc = (s.atSeq u).seq.mpc + 1)) = true :=
  ⟨(routine 0x0F 0 2 0 4).put (R.SEQ_UREG 2) 0x80000005, u0, ⟨0x0F, 0, 2, 0, 4⟩, by decide +kernel⟩

theorem witness_MicroEffects_uPatch2 : ∃ (s : State) (u : Sub) (w : MicroWord),
    ((s.atSeq u).microRuns = true) ∧ ((s.atSeq u).seq.stalled = false) ∧ ((s.atSeq u).microNow = w) ∧ (w.mop = 0x0F) ∧ (0xC000 ≤ (s.atSeq u).seq.mpc) ∧ ((s.atSeq u).seq.mpc < 0xFFFF) ∧ (w.x = 1) ∧ holds (.uPatch u) s (fun t => decide (t.seq.patches = [] ∧ t.seq.mpc = (s.atSeq u).seq.mpc + 1)) = true :=
  ⟨routine 0x0F 0 2 1 4 { patches := [(1, 3)] }, u0, ⟨0x0F, 0, 2, 1, 4⟩, by decide +kernel⟩

theorem witness_MicroEffects_uDrain : ∃ (s : State) (u : Sub) (w : MicroWord),
    ((s.atSeq u).microRuns = true) ∧ ((s.atSeq u).seq.stalled = false) ∧ ((s.atSeq u).microNow = w) ∧ (w.mop = 0x12) ∧ (0xC000 ≤ (s.atSeq u).seq.mpc) ∧ ((s.atSeq u).seq.mpc < 0xFFFF) ∧ ((s.atSeq u).stallOver w = true) ∧ holds (.uDrain u) s (fun t => decide (t.seq.stalled = false ∧ t.seq.mpc = (s.atSeq u).seq.mpc + 1)) = true :=
  ⟨routine 0x12 0 0 0 0, u0, ⟨0x12, 0, 0, 0, 0⟩, by decide +kernel⟩

theorem witness_MicroEffects_uFlag : ∃ (s : State) (u : Sub) (w : MicroWord),
    ((s.atSeq u).microRuns = true) ∧ ((s.atSeq u).seq.stalled = false) ∧ ((s.atSeq u).microNow = w) ∧ (w.mop = 0x18) ∧ (0xC000 ≤ (s.atSeq u).seq.mpc) ∧ ((s.atSeq u).seq.mpc < 0xFFFF) ∧ holds (.uFlag u) s (fun t => decide (t.seq.pendSet = Nat.land (s.atSeq u).seq.pendSet (255 - w.imm / 256) ||| (w.imm % 256) ∧ t.seq.pendClr = (s.atSeq u).seq.pendClr ||| (w.imm / 256) ∧ t.seq.mpc = (s.atSeq u).seq.mpc + 1)) = true :=
  ⟨routine 0x18 0 0 0 261 { pendSet := 1 }, u0, ⟨0x18, 0, 0, 0, 261⟩, by decide +kernel⟩

theorem witness_MicroEffects_uGstep : ∃ (s : State) (u : Sub) (w : MicroWord) (v : Vec),
    ((s.atSeq u).microRuns = true) ∧ ((s.atSeq u).seq.stalled = false) ∧ ((s.atSeq u).microNow = w) ∧ (w.mop = 0x19) ∧ (0xC000 ≤ (s.atSeq u).seq.mpc) ∧ ((s.atSeq u).seq.mpc < 0xFFFF) ∧ ((s.atSeq u).seq.cur = some v) ∧ holds (.uGstep u) s (fun t => decide (t.seq.pendStep = (s.atSeq u).seq.pendStep ||| (v.opc % 2 ^ 48) ∧ t.seq.effStep = true ∧ t.seq.mpc = (s.atSeq u).seq.mpc + 1)) = true :=
  ⟨routine 0x19 0 0 0 0, u0, ⟨0x19, 0, 0, 0, 0⟩, ins 0x0C 0 0xC000, by decide +kernel⟩

theorem witness_MicroEffects_uEvt : ∃ (s : State) (u : Sub) (w : MicroWord),
    ((s.atSeq u).microRuns = true) ∧ ((s.atSeq u).seq.stalled = false) ∧ ((s.atSeq u).microNow = w) ∧ (w.mop = 0x1A) ∧ (0xC000 ≤ (s.atSeq u).seq.mpc) ∧ ((s.atSeq u).seq.mpc < 0xFFFF) ∧ holds (.uEvt u) s (fun t => decide (t.seq.effEvents = min 255 ((s.atSeq u).seq.effEvents + 1) ∧ t.seq.mpc = (s.atSeq u).seq.mpc + 1)) = true :=
  ⟨routine 0x1A 0 0 0 0, u0, ⟨0x1A, 0, 0, 0, 0⟩, by decide +kernel⟩

theorem witness_MicroEffects_uSafe : ∃ (s : State) (u : Sub) (w : MicroWord),
    ((s.atSeq u).microRuns = true) ∧ ((s.atSeq u).seq.stalled = false) ∧ ((s.atSeq u).microNow = w) ∧ (w.mop = 0x1B) ∧ (0xC000 ≤ (s.atSeq u).seq.mpc) ∧ ((s.atSeq u).seq.mpc < 0xFFFF) ∧ ((s.atSeq u).seq.svc = []) ∧ holds (.uSafe u) s (fun t => decide (t.get R.SEQ_STAT_RSTR_STATE = 1 ∧ t.seq.commits = ((s.atSeq u).seq.commits + 1) % 2 ^ 32 ∧ t.seq.mpc = (s.atSeq u).seq.mpc + 1)) = true :=
  ⟨routine 0x1B 0 0 0 0, u0, ⟨0x1B, 0, 0, 0, 0⟩, by decide +kernel⟩

theorem witness_MicroEffects_stallRelease : ∃ (s : State) (u : Sub),
    ((s.atSeq u).microRuns = true) ∧ ((s.atSeq u).seq.stalled = true) ∧ ((s.atSeq u).stallOver (s.atSeq u).microNow = true) ∧ ((s.atSeq u).microNow.mop = 0x12) ∧ (0xC000 ≤ (s.atSeq u).seq.mpc) ∧ ((s.atSeq u).seq.mpc < 0xFFFF) ∧ holds (.stallRelease u) s (fun t => decide (t.seq.stalled = false ∧ t.seq.mpc = (s.atSeq u).seq.mpc + 1)) = true :=
  ⟨routine 0x12 0 0 0 0 { stalled := true }, u0, by decide +kernel⟩

theorem witness_MicroEffects_serviceRequestTaken : ∃ (s : State) (u : Sub) (at_ : Nat) (who : Nat) (tag : Nat) (k : Nat) (ws : List Word),
    ((s.atSeq u).is R.SEQ_STAT_CUST_RUN = false) ∧ ((s.atSeq u).seq.svc = [(at_, .uregWrite who tag k ws)]) ∧ (1 ≤ k) ∧ (k + ws.length ≤ 16) ∧ holds (.serviceRequestTaken u) s (fun t => decide (t.seq.svc = [] ∧ t.is R.SEQ_STAT_SVC_PENDING = false ∧ ∀ i ∈ List.range ws.length, t.ureg (k + i) = (ws.getD i 0).toNat)) = true :=
  ⟨{ State.reset with seq := { svc := [(0, .uregWrite 0 3 2 [7, 8])] } }, u0, 0, 0, 3, 2, [7, 8], by decide +kernel⟩

theorem witness_MicroEffects_svcOverdue : ∃ (s : State) (u : Sub) (at_ : Nat),
    ((s.atSeq u).is R.SEQ_STAT_CUST_RUN = true) ∧ ((s.atSeq u).seq.svc = [(at_, .linkHold)]) ∧ (at_ + (s.atSeq u).val R.USTORE_SAFE_WDOG * 256 ≤ (s.atSeq u).fU) ∧ (((s.atSeq u).reactions 0x43 true).testBit reactB = false) ∧ (((s.atSeq u).reactions 0x43 false).testBit reactB = false) ∧ holds (.svcOverdue u) s (fun t => decide (t.val R.USTORE_OVERDUE = min ((s.atSeq u).val R.USTORE_OVERDUE + 1) (2 ^ 32 - 1) ∧ t.is R.SEQ_STAT_CUST_RUN = false ∧ t.seq.svc = [])) = true :=
  ⟨(routine 0x12 0 0 0 0 { svc := [(0, .linkHold)] }).put R.USTORE_SAFE_WDOG 0, u0, 0, by decide +kernel⟩

theorem witness_MicroEffects_ustoreClrStats : ∃ (s : State),
    (s.powered R.USTORE_CTRL = true) ∧ holds .ustoreClrStats s (fun t => decide (t.val R.USTORE_OVERDUE = 0 ∧ t.val R.USTORE_SVC_MAX = 0)) = true :=
  ⟨State.reset.put R.USTORE_OVERDUE 2, by decide +kernel⟩

theorem witness_GeneratorControl_genCfgWrite : ∃ (s : State) (u : Sub) (g : Lane) (v : Word),
    (s.powered (R.GEN_CTRL g) = true) ∧ ((s.atF u).genConfigurable g = true) ∧ holds (.genCfgWrite u g v) s (fun t => decide (t.get (R.GEN_CFG_MODE g) = fieldOf v 0 3 ∧ t.get (R.GEN_CFG_EXC_LANE g) = fieldOf v 16 6)) = true :=
  ⟨State.reset, u0, ⟨0, by decide⟩, 0x00050002, by decide +kernel⟩

theorem witness_GeneratorControl_genCfgWrite2 : ∃ (s : State) (u : Sub) (g : Lane) (v : Word),
    (s.powered (R.GEN_CTRL g) = true) ∧ ((s.atF u).genConfigurable g = false) ∧ holds (.genCfgWrite u g v) s (fun t => decide (t.get (R.GEN_STAT_REFUSE g) = 6 ∧ t.is (R.GEN_EVT_REFUSED g) = true)) = true :=
  ⟨State.reset.set (R.GEN_CTRL_EN 0) 1, u0, ⟨0, by decide⟩, 0, by decide +kernel⟩

theorem witness_GeneratorControl_genListWrite : ∃ (s : State) (u : Sub) (g : Lane) (v : Word),
    (s.powered (R.GEN_CTRL g) = true) ∧ ((s.atF u).genConfigurable g = true) ∧ holds (.genListWrite u g v) s (fun t => decide (t.get (R.GEN_LIST_LEN g) = min 8192 (max 1 (fieldOf v 0 14)) ∧ t.get (R.GEN_LIST_LOOP g) = fieldOf v 16 13)) = true :=
  ⟨State.reset, u0, ⟨0, by decide⟩, 0x00050000, by decide +kernel⟩

theorem witness_GeneratorControl_genEnable : ∃ (s : State) (u : Sub) (g : Lane),
    (s.powered (R.GEN_CTRL g) = true) ∧ (s.is (R.GEN_CTRL_EN g) = false) ∧ ((s.atF u).genEnableReason g = 0) ∧ holds (.genEnable u g) s (fun t => decide (t.is (R.GEN_CTRL_EN g) = true ∧ t.is (R.GEN_STAT_OWNER g) = true ∧ (t.gen g).rest = true)) = true :=
  ⟨((State.reset.set (R.POD_S_STAT_STATE 0) 4).set (R.POD_S_STAT_TYPE 0) 1).set R.SYS_MODE_MODE 4, u0, ⟨0, by decide⟩, by decide +kernel⟩

theorem witness_GeneratorControl_genEnable2 : ∃ (s : State) (u : Sub) (g : Lane),
    (s.powered (R.GEN_CTRL g) = true) ∧ (s.is (R.GEN_CTRL_EN g) = false) ∧ ((s.atF u).genEnableReason g ≠ 0) ∧ holds (.genEnable u g) s (fun t => decide (t.is (R.GEN_CTRL_EN g) = false ∧ t.get (R.GEN_STAT_REFUSE g) = (s.atF u).genEnableReason g % 8 ∧ t.is (R.GEN_EVT_REFUSED g) = true)) = true :=
  ⟨State.reset, u0, ⟨0, by decide⟩, by decide +kernel⟩

theorem witness_GeneratorControl_genDisable : ∃ (s : State) (u : Sub) (g : Lane),
    (s.powered (R.GEN_CTRL g) = true) ∧ (s.is (R.GEN_CTRL_EN g) = true) ∧ holds (.genDisable u g) s (fun t => decide (t.is (R.GEN_CTRL_EN g) = false ∧ t.is (R.GEN_STAT_BUSY g) = true ∧ (t.gen g).stopping = true ∧ (t.gen g).stopAt = s.nextTickU)) = true :=
  ⟨State.reset.set (R.GEN_CTRL_EN 0) 1, u0, ⟨0, by decide⟩, by decide +kernel⟩

theorem witness_GeneratorControl_genStopPoint : ∃ (s : State) (u : Sub) (g : Lane),
    ((s.gen g).stopping = true) ∧ ((s.gen g).stopAt ≤ (s.atF u).fU) ∧ holds (.genStopPoint u g) s (fun t => decide (t.get (R.GEN_STAT_STATE g) = genIdle ∧ t.is (R.GEN_STAT_BUSY g) = false ∧ t.is (R.GEN_STAT_OWNER g) = false ∧ (t.gen g).stopping = false ∧ (t.gen g).rest = true)) = true :=
  ⟨(((((State.reset.set (R.POD_S_STAT_STATE 0) 4).set (R.POD_S_STAT_TYPE 0) 1).set R.SYS_MODE_MODE 4).setGen 0 { stopping := true })).set (R.GEN_STAT_BUSY 0) 1, u0, ⟨0, by decide⟩, by decide +kernel⟩

theorem witness_GeneratorControl_genStart : ∃ (s : State) (u : Sub) (g : Lane),
    (s.powered (R.GEN_CTRL g) = true) ∧ ((s.atF u).genMayStart g = true) ∧ holds (.genStart u g) s (fun t => decide ((t.gen g).startAt = some ((s.atF u).boundaryFrom 64) ∧ t.regs = s.regs)) = true :=
  ⟨(((State.reset.set (R.POD_S_STAT_STATE 0) 4).set (R.POD_S_STAT_TYPE 0) 1).set R.SYS_MODE_MODE 4).set (R.GEN_CTRL_EN 0) 1, u0, ⟨0, by decide⟩, by decide +kernel⟩

theorem witness_GeneratorControl_genStart2 : ∃ (s : State) (u : Sub) (g : Lane),
    (s.powered (R.GEN_CTRL g) = true) ∧ ((s.atF u).genMayStart g = false) ∧ holds (.genStart u g) s (fun t => decide (t.get (R.GEN_STAT_REFUSE g) = 7 ∧ t.is (R.GEN_EVT_REFUSED g) = true)) = true :=
  ⟨State.reset, u0, ⟨0, by decide⟩, by decide +kernel⟩

theorem witness_GeneratorControl_genResume : ∃ (s : State) (u : Sub) (g : Lane),
    (s.powered (R.GEN_CTRL g) = true) ∧ (s.genState g = genStopped) ∧ ((s.gen g).odStop = true) ∧ holds (.genResume u g) s (fun t => decide ((t.gen g).startAt = some s.nextTickU ∧ (t.gen g).resume = true)) = true :=
  ⟨(((((State.reset.set (R.POD_S_STAT_STATE 0) 4).set (R.POD_S_STAT_TYPE 0) 1).set R.SYS_MODE_MODE 4).setGen 0 { odStop := true })).set (R.GEN_STAT_STATE 0) 4, u0, ⟨0, by decide⟩, by decide +kernel⟩

theorem witness_GeneratorControl_genListClr : ∃ (s : State) (u : Sub) (g : Lane),
    (s.powered (R.GEN_CTRL g) = true) ∧ ((s.atF u).genConfigurable g = true) ∧ holds (.genListClr u g) s (fun t => decide ((t.gen g).entries = [] ∧ t.val (R.GEN_WR_COUNT g) = 0 ∧ t.val (R.GEN_DONE_COUNT g) = 0)) = true :=
  ⟨((((State.reset.set (R.POD_S_STAT_STATE 0) 4).set (R.POD_S_STAT_TYPE 0) 1).set R.SYS_MODE_MODE 4).setGen 0 { entries := [(0, ([1, 0, 0, 0, 0, 0, 0, 0, 8] ++ List.replicate 23 0))] }), u0, ⟨0, by decide⟩, by decide +kernel⟩

theorem witness_GeneratorControl_genClrStats : ∃ (s : State) (g : Lane),
    (s.powered (R.GEN_CTRL g) = true) ∧ holds (.genClrStats g) s (fun t => decide (t.val (R.GEN_OD_COUNT g) = 0 ∧ t.val (R.GEN_OD_TICKS g) = 0 ∧ t.val (R.GEN_REFILL_REJ g) = 0)) = true :=
  ⟨State.reset.put (R.GEN_OD_COUNT 0) 6, ⟨0, by decide⟩, by decide +kernel⟩

theorem witness_GeneratorSteps_genGoArm : ∃ (s : State) (u : Sub) (g : Nat),
    (s.powered R.GEN_GO_CTRL = true) ∧ (s.goMask = [g]) ∧ (g < 48) ∧ (s.powered (R.GEN_CTRL g) = true) ∧ (s.genMayStart g = true) ∧ (s.fU ≤ s.goAt) ∧ (u.val = 0) ∧ holds (.genGoArm u) s (fun t => decide (t.is R.GEN_GO_CTRL_ARM = true ∧ t.genState g = genArmed ∧ (t.gen g).startAt = some s.goAt)) = true :=
  ⟨(((((State.reset.set (R.POD_S_STAT_STATE 0) 4).set (R.POD_S_STAT_TYPE 0) 1).set R.SYS_MODE_MODE 4).set (R.GEN_CTRL_EN 0) 1).put R.GEN_GO_MASK_LO 1), u0, 0, by decide +kernel⟩

theorem witness_GeneratorSteps_genGo : ∃ (s : State) (u : Sub) (g : Lane) (b : Nat) (e : List Byte),
    (s.genState g = genArmed) ∧ ((s.gen g).startAt = some b) ∧ (b ≤ s.fU) ∧ ((∀ h, h < 48 → h ≠ g → s.genState h ≠ genArmed)) ∧ (((s.atF u).genNextEntry g) = some e) ∧ (s.gen g = { startAt := some b, entries := (s.gen g).entries }) ∧ (entryKind e = kindSet) ∧ (entryWait e = false) ∧ (entryMark e = false) ∧ (s.genPlayback g = false) ∧ (s.genStream g = false) ∧ holds (.genGo u) s (fun t => decide (t.is R.GEN_GO_CTRL_ARM = false ∧ t.genState g = genRunning ∧ (t.gen g).cur = some e ∧ (t.gen g).stepAt = b ∧ (t.gen g).freq = entryFreq e ∧ (t.gen g).acc = entryPhase e * 2 ^ 16)) = true :=
  ⟨((((((State.reset.set (R.POD_S_STAT_STATE 0) 4).set (R.POD_S_STAT_TYPE 0) 1).set R.SYS_MODE_MODE 4).setGen 0 { entries := [(0, ([1, 0, 0, 0, 0, 0, 0, 0, 8] ++ List.replicate 23 0))], startAt := some 0 })).set (R.GEN_STAT_STATE 0) 1).set R.GEN_GO_CTRL_ARM 1, u0, ⟨0, by decide⟩, 0, ([1, 0, 0, 0, 0, 0, 0, 0, 8] ++ List.replicate 23 0), by decide +kernel⟩

theorem witness_GeneratorSteps_genGoCancel : ∃ (s : State) (u : Sub),
    (s.powered R.GEN_GO_CTRL = true) ∧ holds (.genGoCancel u) s (fun t => decide (t.is R.GEN_GO_CTRL_ARM = false ∧ ∀ g ∈ List.range 48, s.genState g = genArmed → (t.gen g).startAt = none ∧ t.genState g = (s.gen g).before % 8)) = true :=
  ⟨(((((State.reset.set (R.POD_S_STAT_STATE 0) 4).set (R.POD_S_STAT_TYPE 0) 1).set R.SYS_MODE_MODE 4).setGen 0 { startAt := some 9, before := 5 })).set (R.GEN_STAT_STATE 0) 1, u0, by decide +kernel⟩

theorem witness_GeneratorSteps_generatorStep : ∃ (s : State) (u : Sub) (g : Lane) (clip : Bool) (e : List Byte),
    (s.genState g = genRunning) ∧ ((s.gen g).startAt = none) ∧ ((s.gen g).inRun = false) ∧ ((s.gen g).od = none) ∧ ((s.gen g).cur.isSome = true) ∧ ((s.gen g).dueAt ≤ (s.atF u).fU) ∧ (s.genPlayback g = false) ∧ (s.genStream g = false) ∧ (s.genNextEntry g = some e) ∧ (entryKind e = kindSet) ∧ (entryMark e = false) ∧ (clip = false) ∧ (s.get (R.GEN_CFG_MODE g) ≠ modeDC) ∧ holds (.generatorStep u g clip) s (fun t => decide ((t.gen g).cur = some e ∧ (t.gen g).stepAt = (s.gen g).dueAt ∧ (t.gen g).amp = entryAmp e ∧ (t.gen g).offset = entryOffset e ∧ t.genState g = (if entryWait e then genWaiting else genRunning))) = true :=
  ⟨(((({ ((((State.reset.set (R.POD_S_STAT_STATE 0) 4).set (R.POD_S_STAT_TYPE 0) 1).set R.SYS_MODE_MODE 4).setGen 0 { entries := [(1, ([1, 1, 1, 0, 2, 0, 0, 0, 8] ++ List.replicate 23 0))], cur := some ([1, 0, 0, 0, 0, 0, 0, 0, 8] ++ List.replicate 23 0), inUse := true }) with time := { fTick := 2 } }).set (R.GEN_STAT_STATE 0) 2).set (R.GEN_LIST_LEN 0) 2).set (R.GEN_CFG_MODE 0) 1), u0, ⟨0, by decide⟩, false, ([1, 1, 1, 0, 2, 0, 0, 0, 8] ++ List.replicate 23 0), by decide +kernel⟩

theorem witness_GeneratorSteps_generatorStep2 : ∃ (s : State) (u : Sub) (g : Lane) (clip : Bool),
    (s.genState g = genRunning) ∧ ((s.gen g).startAt = none) ∧ ((s.gen g).inRun = false) ∧ ((s.gen g).od = none) ∧ ((s.gen g).cur.isSome = true) ∧ ((s.gen g).dueAt ≤ (s.atF u).fU) ∧ (s.genPlayback g = false) ∧ (s.genStream g = false) ∧ (s.genNextEntry g = none) ∧ (s.get (R.GEN_CTRL_OD_ACTION g) = 0) ∧ (clip = false) ∧ (s.get (R.GEN_CFG_MODE g) ≠ modeDC) ∧ holds (.generatorStep u g clip) s (fun t => decide (t.is (R.GEN_STAT_OVERDRAFT g) = true ∧ t.val (R.GEN_OD_COUNT g) = min (s.val (R.GEN_OD_COUNT g) + 1) (2 ^ 32 - 1) ∧ ((t.gen g).od.map Prod.fst) = some (s.gen g).dueAt ∧ (t.gen g).cur = (s.gen g).cur)) = true :=
  ⟨(((({ ((((State.reset.set (R.POD_S_STAT_STATE 0) 4).set (R.POD_S_STAT_TYPE 0) 1).set R.SYS_MODE_MODE 4).setGen 0 { cur := some ([1, 0, 0, 0, 0, 0, 0, 0, 8] ++ List.replicate 23 0), inUse := true }) with time := { fTick := 2 } }).set (R.GEN_STAT_STATE 0) 2).set (R.GEN_LIST_LEN 0) 2).set (R.GEN_CFG_MODE 0) 1), u0, ⟨0, by decide⟩, false, by decide +kernel⟩

theorem witness_GeneratorSteps_triggeredStep : ∃ (s : State) (g : Lane) (t0 : Nat) (e : List Byte),
    (s.genState g = genWaiting) ∧ ((s.gen g).od = none) ∧ ((s.gen g).trigAt = some t0) ∧ (gridUp (t0 + 24 * 256) < s.nextTickU) ∧ ((s.gen g).inRun = false) ∧ (s.genNextEntry g = some e) ∧ (s.genPlayback g = false) ∧ (s.genStream g = false) ∧ (entryKind e = kindSet) ∧ (entryMark e = false) ∧ holds (.triggeredStep g) s (fun t => decide ((t.gen g).cur = some e ∧ (t.gen g).stepAt = gridUp (t0 + 24 * 256) ∧ (t.gen g).trigAt = none)) = true :=
  ⟨(((({ ((((State.reset.set (R.POD_S_STAT_STATE 0) 4).set (R.POD_S_STAT_TYPE 0) 1).set R.SYS_MODE_MODE 4).setGen 0 { entries := [(1, ([1, 1, 1, 0, 2, 0, 0, 0, 8] ++ List.replicate 23 0))], cur := some ([1, 1, 1, 0, 2, 0, 0, 0, 8] ++ List.replicate 23 0), inUse := true, trigAt := some 1000 }) with time := { fTick := 2 } }).set (R.GEN_STAT_STATE 0) 2).set (R.GEN_LIST_LEN 0) 2).set (R.GEN_STAT_STATE 0) 3), ⟨0, by decide⟩, 1000, ([1, 1, 1, 0, 2, 0, 0, 0, 8] ++ List.replicate 23 0), by decide +kernel⟩

theorem witness_GeneratorSteps_trigTimeout : ∃ (s : State) (u : Sub) (g : Lane) (e0 : List Byte) (e : List Byte),
    (s.genState g = genWaiting) ∧ ((s.gen g).od = none) ∧ ((s.gen g).trigAt = none) ∧ ((s.gen g).cur = some e0) ∧ (entryDwell e0 ≠ 0) ∧ ((s.gen g).dueAt ≤ (s.atF u).fU) ∧ ((s.gen g).inRun = false) ∧ (s.genNextEntry g = some e) ∧ (s.genPlayback g = false) ∧ (s.genStream g = false) ∧ (entryKind e = kindSet) ∧ (entryMark e = false) ∧ holds (.trigTimeout u g) s (fun t => decide (t.is (R.GEN_EVT_TRIG_TIMEOUT g) = true ∧ (t.gen g).cur = some e ∧ (t.gen g).stepAt = (s.gen g).dueAt)) = true :=
  ⟨((({ ((((State.reset.set (R.POD_S_STAT_STATE 0) 4).set (R.POD_S_STAT_TYPE 0) 1).set R.SYS_MODE_MODE 4).setGen 0 { entries := [(1, ([1, 0, 0, 0, 0, 0, 0, 0, 8] ++ List.replicate 23 0))], cur := some ([1, 1, 1, 0, 2, 0, 0, 0, 8] ++ List.replicate 23 0), inUse := true }) with time := { fTick := 2 } }).set (R.GEN_STAT_STATE 0) 2).set (R.GEN_LIST_LEN 0) 2).set (R.GEN_STAT_STATE 0) 3, u0, ⟨0, by decide⟩, ([1, 1, 1, 0, 2, 0, 0, 0, 8] ++ List.replicate 23 0), ([1, 0, 0, 0, 0, 0, 0, 0, 8] ++ List.replicate 23 0), by decide +kernel⟩

theorem witness_GeneratorSteps_genOverdraftEnd : ∃ (s : State) (u : Sub) (g : Lane) (t0 : Nat) (n : Nat) (k : Nat) (b : Nat) (e : List Byte),
    ((s.gen g).od = some (t0, n, k)) ∧ ((s.gen g).readyAt = some b) ∧ ((s.gen g).odStop = false) ∧ (b ≤ (s.atF u).fU) ∧ ((s.gen g).odSample = false) ∧ (s.genNextEntry g = some e) ∧ (s.genPlayback g = false) ∧ (s.genStream g = false) ∧ (entryKind e = kindSet) ∧ (entryMark e = false) ∧ holds (.genOverdraftEnd u g) s (fun t => decide (t.is (R.GEN_STAT_OVERDRAFT g) = false ∧ (t.gen g).od = none ∧ (t.gen g).cur = some e ∧ (t.gen g).stepAt = b)) = true :=
  ⟨((({ ((((State.reset.set (R.POD_S_STAT_STATE 0) 4).set (R.POD_S_STAT_TYPE 0) 1).set R.SYS_MODE_MODE 4).setGen 0 { entries := [(1, ([1, 1, 1, 0, 2, 0, 0, 0, 8] ++ List.replicate 23 0))], cur := some ([1, 0, 0, 0, 0, 0, 0, 0, 8] ++ List.replicate 23 0), inUse := true, od := some (5, 0, 1), readyAt := some 0 }) with time := { fTick := 2 } }).set (R.GEN_STAT_STATE 0) 2).set (R.GEN_LIST_LEN 0) 2), u0, ⟨0, by decide⟩, 5, 0, 1, 0, ([1, 1, 1, 0, 2, 0, 0, 0, 8] ++ List.replicate 23 0), by decide +kernel⟩

theorem witness_LaneConfigurationAndStreams_laneApply : ∃ (s : State) (u : Sub) (l : Lane),
    (s.powered (R.LANE_CTRL l) = true) ∧ (s.is (R.LANE_STAT_APPLY_PENDING l) = true) ∧ holds (.laneApply u l) s (fun t => decide (t.get (R.LANE_STAT_REFUSE l) = 1 ∧ t.is (R.LANE_EVT_REFUSED l) = true ∧ t.lane l = s.lane l)) = true :=
  ⟨State.reset.set (R.LANE_STAT_APPLY_PENDING 0) 1, u0, ⟨0, by decide⟩, by decide +kernel⟩

theorem witness_LaneConfigurationAndStreams_laneApply2 : ∃ (s : State) (u : Sub) (l : Lane) (r : Nat),
    (s.powered (R.LANE_CTRL l) = true) ∧ (s.is (R.LANE_STAT_APPLY_PENDING l) = false) ∧ ((s.atF u).laneReason l (s.laneStaged l) = some r) ∧ holds (.laneApply u l) s (fun t => decide (t.get (R.LANE_STAT_REFUSE l) = r ∧ t.is (R.LANE_EVT_REFUSED l) = true ∧ t.lane l = s.lane l)) = true :=
  ⟨State.reset, u0, ⟨0, by decide⟩, 8, by decide +kernel⟩

theorem witness_LaneConfigurationAndStreams_laneApply3 : ∃ (s : State) (u : Sub) (l : Lane) (y : LaneSt),
    (s.powered (R.LANE_CTRL l) = true) ∧ (s.is (R.LANE_STAT_APPLY_PENDING l) = false) ∧ ((s.atF u).laneReason l (s.laneStaged l) = none) ∧ (y = { s.lane l with pend := some (s.laneStaged l), planned := false, acked := !decide (cfgRange (s.rd (R.LANE_ACTIVE l)) ≠ cfgRange (s.laneStaged l).cfg ∨ cfgFuse (s.rd (R.LANE_ACTIVE l)) ≠ cfgFuse (s.laneStaged l).cfg), ackBy := s.time.fTick + 200 }) ∧ ((((s.atF u).setLane l y).lanePending l 1).planCheck s.mode = none) ∧ holds (.laneApply u l) s (fun t => decide (t.lane l = y ∧ t.is (R.LANE_STAT_APPLY_PENDING l) = true ∧ t.get R.TIME_PLAN_STAT_RESULT = 1)) = true :=
  ⟨((((State.reset.set (R.POD_S_STAT_STATE 0) 4).set (R.POD_S_STAT_TYPE 0) 1).set R.SYS_MODE_MODE 2).set (R.LANE_STAT_PRESENT 0) 1).set (R.POD_S_CAPS_RANGES 0) 31, u0, ⟨0, by decide⟩, { pend := some ((((((State.reset.set (R.POD_S_STAT_STATE 0) 4).set (R.POD_S_STAT_TYPE 0) 1).set R.SYS_MODE_MODE 2).set (R.LANE_STAT_PRESENT 0) 1).set (R.POD_S_CAPS_RANGES 0) 31).laneStaged 0), planned := false, acked := true, ackBy := 200 }, by decide +kernel⟩

theorem witness_LaneConfigurationAndStreams_laneApplyEffect : ∃ (s : State) (l : Lane) (x : LaneSet),
    ((s.lane l).pend = some x) ∧ ((s.lane l).planned = true) ∧ ((s.lane l).acked = true) ∧ (s.time.fUnit = 0) ∧ holds (.laneApplyEffect l) s (fun t => decide (t.rd (R.LANE_ACTIVE l) = x.cfg &&& 0x00000F37#32 ∧ t.rd (R.LANE_FILT_ACT l) = x.filt ∧ (t.lane l).pend = none ∧ t.is (R.LANE_STAT_APPLY_PENDING l) = false ∧ t.is (R.LANE_EVT_APPLIED l) = true)) = true :=
  ⟨(((((State.reset.set (R.POD_S_STAT_STATE 0) 4).set (R.POD_S_STAT_TYPE 0) 1).set R.SYS_MODE_MODE 2).set (R.LANE_STAT_PRESENT 0) 1).set (R.POD_S_CAPS_RANGES 0) 31).setLane 0 { pend := some ((((((State.reset.set (R.POD_S_STAT_STATE 0) 4).set (R.POD_S_STAT_TYPE 0) 1).set R.SYS_MODE_MODE 2).set (R.LANE_STAT_PRESENT 0) 1).set (R.POD_S_CAPS_RANGES 0) 31).laneStaged 0), planned := true, acked := true }, ⟨0, by decide⟩, (((((State.reset.set (R.POD_S_STAT_STATE 0) 4).set (R.POD_S_STAT_TYPE 0) 1).set R.SYS_MODE_MODE 2).set (R.LANE_STAT_PRESENT 0) 1).set (R.POD_S_CAPS_RANGES 0) 31).laneStaged 0, by decide +kernel⟩

theorem witness_LaneConfigurationAndStreams_laneApplyWithdraw : ∃ (s : State) (l : Lane),
    ((s.lane l).pend.isSome = true) ∧ ((s.lane l).acked = false) ∧ (s.get (R.POD_S_STAT_STATE (l / 8)) ≠ 4 ∨ (s.lane l).ackBy ≤ s.time.fTick) ∧ (s.time.fUnit = 0) ∧ holds (.laneApplyWithdraw l) s (fun t => decide ((t.lane l).pend = none ∧ t.is (R.LANE_STAT_APPLY_PENDING l) = false ∧ t.get (R.LANE_STAT_REFUSE l) = 8)) = true :=
  ⟨(((((State.reset.set (R.POD_S_STAT_STATE 0) 4).set (R.POD_S_STAT_TYPE 0) 1).set R.SYS_MODE_MODE 2).set (R.LANE_STAT_PRESENT 0) 1).set (R.POD_S_CAPS_RANGES 0) 31).setLane 0 { pend := some ((((((State.reset.set (R.POD_S_STAT_STATE 0) 4).set (R.POD_S_STAT_TYPE 0) 1).set R.SYS_MODE_MODE 2).set (R.LANE_STAT_PRESENT 0) 1).set (R.POD_S_CAPS_RANGES 0) 31).laneStaged 0) }, ⟨0, by decide⟩, by decide +kernel⟩

theorem witness_LaneConfigurationAndStreams_unsettledEnd : ∃ (s : State) (u : Sub) (l : Lane),
    (s.is (R.LANE_STAT_UNSETTLED l) = true) ∧ ((s.lane l).raw.unset = 0) ∧ ((s.lane l).dec.unset = 0) ∧ ((s.lane l).runEnd ≤ (s.atF u).fU) ∧ holds (.unsettledEnd u l) s (fun t => decide (t.is (R.LANE_STAT_UNSETTLED l) = false ∧ t.val (R.LANE_UNSET_LEFT l) = 0 ∧ t.is (R.LANE_EVT_UNSETTLED_END l) = true)) = true :=
  ⟨State.reset.set (R.LANE_STAT_UNSETTLED 0) 1, u0, ⟨0, by decide⟩, by decide +kernel⟩

theorem witness_LaneConfigurationAndStreams_laneClrStats : ∃ (s : State) (l : Lane),
    (s.powered (R.LANE_CTRL l) = true) ∧ holds (.laneClrStats l) s (fun t => decide (t.val (R.LANE_OVR_CNT l) = 0 ∧ t.val (R.LANE_BURST_MISS l) = 0)) = true :=
  ⟨State.reset.put (R.LANE_OVR_CNT 0) 5, ⟨0, by decide⟩, by decide +kernel⟩

theorem witness_LaneConfigurationAndStreams_laneStreamWrite : ∃ (s : State) (u : Sub) (l : Lane) (v : Word),
    (s.powered (R.LANE_CTRL l) = true) ∧ (s.is (R.LANE_STAT_MEMBER l) = false) ∧ (modeStreams s.mode = true) ∧ (s.is (R.LANE_STAT_BUSY l) = false) ∧ (s.val (R.LANE_STREAM l) = 0) ∧ (streamStored v ≠ 0) ∧ ((((s.atF u).put (R.LANE_STREAM l) 0).put (R.LANE_STREAM l) (streamStored v)).planCheck s.mode = none) ∧ holds (.laneStreamWrite u l v) s (fun t => decide (t.val (R.LANE_STREAM l) = streamStored v ∧ t.get R.TIME_PLAN_STAT_RESULT = 1)) = true :=
  ⟨((((State.reset.set (R.POD_S_STAT_STATE 0) 4).set (R.POD_S_STAT_TYPE 0) 1).set R.SYS_MODE_MODE 2).set (R.LANE_STAT_PRESENT 0) 1).set (R.POD_S_CAPS_RANGES 0) 31, u0, ⟨0, by decide⟩, 0x4, by decide +kernel⟩

theorem witness_LaneConfigurationAndStreams_laneStreamWrite2 : ∃ (s : State) (u : Sub) (l : Lane) (v : Word),
    (s.powered (R.LANE_CTRL l) = true) ∧ (s.is (R.LANE_STAT_MEMBER l) = false) ∧ (modeStreams s.mode = true) ∧ (s.val (R.LANE_STREAM l) = 1) ∧ ((s.lane l).raw.on ≠ 0) ∧ (streamStored v = 0) ∧ holds (.laneStreamWrite u l v) s (fun t => decide (t.val (R.LANE_STREAM l) = 0 ∧ (t.lane l).raw.stopAt = some (s.atF u).fU ∧ t.is (R.LANE_STAT_BUSY l) = true)) = true :=
  ⟨((((((State.reset.set (R.POD_S_STAT_STATE 0) 4).set (R.POD_S_STAT_TYPE 0) 1).set R.SYS_MODE_MODE 2).set (R.LANE_STAT_PRESENT 0) 1).set (R.POD_S_CAPS_RANGES 0) 31).setLane 0 { raw := { on := 1 } }).put (R.LANE_STREAM 0) 1, u0, ⟨0, by decide⟩, 0, by decide +kernel⟩

theorem witness_LaneConfigurationAndStreams_burstGo : ∃ (s : State) (u : Sub) (l : Lane),
    (s.powered (R.LANE_CTRL l) = true) ∧ (s.get (R.LANE_RAW_START_SEL l) = 16) ∧ ((s.lane l).raw.on = 2) ∧ (s.is (R.LANE_STAT_BURST_ACTIVE l) = false) ∧ (s.is (R.LANE_STAT_BURST_DRAIN l) = false) ∧ holds (.burstGo u l) s (fun t => decide ((t.lane l).burstDue = true ∧ t.regs = s.regs)) = true :=
  ⟨((((((State.reset.set (R.POD_S_STAT_STATE 0) 4).set (R.POD_S_STAT_TYPE 0) 1).set R.SYS_MODE_MODE 2).set (R.LANE_STAT_PRESENT 0) 1).set (R.POD_S_CAPS_RANGES 0) 31).setLane 0 { raw := { on := 2 } }).set (R.LANE_RAW_START_SEL 0) 16, u0, ⟨0, by decide⟩, by decide +kernel⟩

theorem witness_LaneConfigurationAndStreams_burstGo2 : ∃ (s : State) (u : Sub) (l : Lane),
    (s.powered (R.LANE_CTRL l) = true) ∧ (s.get (R.LANE_RAW_START_SEL l) = 16) ∧ ((s.lane l).raw.on = 2) ∧ (s.is (R.LANE_STAT_BURST_ACTIVE l) = true) ∧ holds (.burstGo u l) s (fun t => decide (t.val (R.LANE_BURST_MISS l) = min (s.val (R.LANE_BURST_MISS l) + 1) (2 ^ 32 - 1) ∧ t.is (R.LANE_EVT_BURST_MISS l) = true ∧ t.lane l = s.lane l)) = true :=
  ⟨(((((((State.reset.set (R.POD_S_STAT_STATE 0) 4).set (R.POD_S_STAT_TYPE 0) 1).set R.SYS_MODE_MODE 2).set (R.LANE_STAT_PRESENT 0) 1).set (R.POD_S_CAPS_RANGES 0) 31).setLane 0 { raw := { on := 2 } }).set (R.LANE_RAW_START_SEL 0) 16).set (R.LANE_STAT_BURST_ACTIVE 0) 1, u0, ⟨0, by decide⟩, by decide +kernel⟩

theorem witness_LaneConfigurationAndStreams_burstStart : ∃ (s : State) (l : Lane),
    ((s.lane l).burstDue = true) ∧ (s.time.fUnit = 0) ∧ holds (.burstStart l) s (fun t => decide ((t.lane l).burstLeft = max 1 (s.get (R.LANE_RAW_BURST_TICKS l)) ∧ (t.lane l).burstDue = false ∧ t.is (R.LANE_STAT_BURST_ACTIVE l) = true)) = true :=
  ⟨(((((State.reset.set (R.POD_S_STAT_STATE 0) 4).set (R.POD_S_STAT_TYPE 0) 1).set R.SYS_MODE_MODE 2).set (R.LANE_STAT_PRESENT 0) 1).set (R.POD_S_CAPS_RANGES 0) 31).setLane 0 { burstDue := true }, ⟨0, by decide⟩, by decide +kernel⟩

theorem witness_LaneConfigurationAndStreams_burstEnd : ∃ (s : State) (l : Lane),
    (s.is (R.LANE_STAT_BURST_ACTIVE l) = true) ∧ ((s.lane l).burstLeft = 0) ∧ holds (.burstEnd l) s (fun t => decide (t.is (R.LANE_STAT_BURST_ACTIVE l) = false)) = true :=
  ⟨State.reset.set (R.LANE_STAT_BURST_ACTIVE 0) 1, ⟨0, by decide⟩, by decide +kernel⟩

theorem witness_LaneConfigurationAndStreams_burstDone : ∃ (s : State) (u : Sub) (l : Lane),
    (s.is (R.LANE_STAT_BURST_DRAIN l) = true) ∧ (s.is (R.LANE_STAT_BURST_ACTIVE l) = false) ∧ ((s.lane l).burstAhead = 0) ∧ holds (.burstDone u l) s (fun t => decide (t.is (R.LANE_STAT_BURST_DRAIN l) = false ∧ t.is (R.LANE_EVT_BURST_DONE l) = true)) = true :=
  ⟨State.reset.set (R.LANE_STAT_BURST_DRAIN 0) 1, u0, ⟨0, by decide⟩, by decide +kernel⟩

theorem witness_CaptureGroups_redApply : ∃ (s : State) (u : Sub) (l : Lane) (v : Word),
    (s.powered (R.ACQ_RED_CTRL l) = true) ∧ (popCount 8 (((s.atF u).wr (R.ACQ_RED_CTRL l) (redCtrlStored v)).redStaged l).sel ≤ 6) ∧ ((((s.atF u).wr (R.ACQ_RED_CTRL l) (redCtrlStored v)).redStaged l).sel.testBit 5 = false) ∧ (s.is (R.LANE_STAT_MEMBER l) = false) ∧ (((s.atF u).wr (R.ACQ_RED_CTRL l) (redCtrlStored v)).podA8 (l / 8) = true) ∧ ((((s.atF u).wr (R.ACQ_RED_CTRL l) (redCtrlStored v)).redStaged l).frame ≠ 0) ∧ ((((((s.atF u).wr (R.ACQ_RED_CTRL l) (redCtrlStored v)).setRed l { s.red l with pend := some (((s.atF u).wr (R.ACQ_RED_CTRL l) (redCtrlStored v)).redStaged l) }).set (R.ACQ_RED_STAT_PENDING l) 1)).planCheck s.mode = none) ∧ holds (.redApply u l v) s (fun t => decide ((t.red l).pend = some (((s.atF u).wr (R.ACQ_RED_CTRL l) (redCtrlStored v)).redStaged l) ∧ t.is (R.ACQ_RED_STAT_PENDING l) = true ∧ t.get R.TIME_PLAN_STAT_RESULT = 1)) = true :=
  ⟨((((State.reset.set (R.POD_S_STAT_STATE 0) 4).set (R.POD_S_STAT_TYPE 0) 1).set R.SYS_MODE_MODE 2).set (R.LANE_STAT_PRESENT 0) 1).set (R.POD_S_CAPS_RANGES 0) 31, u0, ⟨0, by decide⟩, 0x40000001, by decide +kernel⟩

theorem witness_CaptureGroups_redApply2 : ∃ (s : State) (u : Sub) (l : Lane) (v : Word),
    (s.powered (R.ACQ_RED_CTRL l) = true) ∧ (6 < popCount 8 (((s.atF u).wr (R.ACQ_RED_CTRL l) (redCtrlStored v)).redStaged l).sel) ∧ holds (.redApply u l v) s (fun t => decide (t.get (R.ACQ_RED_STAT_REFUSE l) = 2 ∧ t.get R.ACQ_STAT_REFUSE = 2 ∧ t.is R.ACQ_EVT_REFUSED = true ∧ t.red l = s.red l)) = true :=
  ⟨State.reset, u0, ⟨0, by decide⟩, 0x007F0000, by decide +kernel⟩

theorem witness_CaptureGroups_frameEnd : ∃ (s : State) (l : Lane) (x : Smp) (xs : List Smp),
    ((s.red l).frame = x :: xs) ∧ ((s.red l).act.frame = 1) ∧ (frameEndOf (s.red l).act.ticks x.t + (if (s.red l).act.src = 2 then 2 * unitsPerTick else 0) ≤ s.fTickU) ∧ holds (.frameEnd l) s (fun t => decide ((t.red l).frame = (x :: xs).filter (fun y => decide (frameEndOf (s.red l).act.ticks x.t ≤ y.t)) ∧ (t.red l).cut = false)) = true :=
  ⟨{ State.reset.setRed 0 { act := { ctrl := 0x40000001 }, frame := [{ t := 0, c := 5 }] } with time := { fTick := 5000 } }, ⟨0, by decide⟩, { t := 0, c := 5 }, [], by decide +kernel⟩

theorem witness_CaptureGroups_redClrStats : ∃ (s : State) (l : Lane),
    (s.powered (R.ACQ_RED_CTRL l) = true) ∧ holds (.redClrStats l) s (fun t => decide (t.val (R.ACQ_RED_EDGE_LOST l) = 0)) = true :=
  ⟨State.reset.put (R.ACQ_RED_EDGE_LOST 0) 5, ⟨0, by decide⟩, by decide +kernel⟩

theorem witness_CaptureGroups_groupEnable : ∃ (s : State) (u : Sub) (n : Fin 4) (v : Word),
    (s.powered (R.ACQ_GRP_CTRL n) = true) ∧ (s.is (R.ACQ_GRP_CTRL_EN n) = false) ∧ (s.is (R.ACQ_GRP_STAT_BUSY n) = false) ∧ (modeStreams s.mode = true) ∧ (s.val (R.ACQ_GRP_PRE n) ≤ 10485760) ∧ (0 < s.val (R.ACQ_GRP_PRE n) + s.val (R.ACQ_GRP_POST n)) ∧ (((s.atF u).wr (R.ACQ_GRP_CTRL n) (v &&& 0x600FFFFF#32)).is (R.ACQ_GRP_CTRL_ACC_EN n) = false) ∧ (((s.atF u).wr (R.ACQ_GRP_CTRL n) (v &&& 0x600FFFFF#32)).regionBad n = false) ∧ ((((s.atF u).wr (R.ACQ_GRP_CTRL n) (v &&& 0x600FFFFF#32)).set (R.ACQ_GRP_CTRL_EN n) 1).planCheck s.mode = none) :=
  ⟨grp0, u0, ⟨0, by decide⟩, 0x40000000, by exact ⟨by decide +kernel, by decide +kernel, by decide +kernel, by decide +kernel, by decide +kernel, by decide +kernel, by decide +kernel, region_good, by decide +kernel⟩⟩

theorem witness_CaptureGroups_groupEnable2 : ∃ (s : State) (u : Sub) (n : Fin 4) (v : Word),
    (s.powered (R.ACQ_GRP_CTRL n) = true) ∧ (s.is (R.ACQ_GRP_CTRL_EN n) = false) ∧ (s.is (R.ACQ_GRP_STAT_BUSY n) = false) ∧ (modeStreams s.mode = true) ∧ (10485760 < s.val (R.ACQ_GRP_PRE n) ∨ s.val (R.ACQ_GRP_PRE n) + s.val (R.ACQ_GRP_POST n) = 0) ∧ holds (.groupEnable u n v) s (fun t => decide (t.is (R.ACQ_GRP_CTRL_EN n) = false ∧ t.get (R.ACQ_GRP_STAT_REFUSE n) = 5 ∧ t.get R.ACQ_STAT_REFUSE = 5 ∧ t.is R.ACQ_EVT_REFUSED = true)) = true :=
  ⟨((((State.reset.set (R.POD_S_STAT_STATE 0) 4).set (R.POD_S_STAT_TYPE 0) 1).set R.SYS_MODE_MODE 2).set (R.LANE_STAT_PRESENT 0) 1).set (R.POD_S_CAPS_RANGES 0) 31, u0, ⟨0, by decide⟩, 0, by decide +kernel⟩

theorem witness_CaptureGroups_segmentComplete : ∃ (s : State) (u : Sub) (n : Fin 4) (env : List LaneIn) (g : SegSt) (rest : List SegSt),
    ((((s.takeSamples env).atF u).group n).open_ = g :: rest) ∧ ((((s.takeSamples env).atF u).group n).stopping = false) ∧ (g.stamp + ((s.takeSamples env).atF u).val (R.ACQ_GRP_POST n) * 256 ≤ ((s.takeSamples env).atF u).fU * 256) ∧ holds (.segmentComplete u n env) s (fun t => decide ((t.group n).open_ = rest ∧ t.is (R.ACQ_GRP_STAT_IN_SEG n) = !rest.isEmpty)) = true :=
  ⟨State.reset.setGroup 0 { open_ := [{ segNo := 0, stamp := 0, input := 0, code := 0, fire := 0, missed := 0 }] }, u0, ⟨0, by decide⟩, [], { segNo := 0, stamp := 0, input := 0, code := 0, fire := 0, missed := 0 }, [], by decide +kernel⟩

theorem witness_CaptureGroups_groupDisable : ∃ (s : State) (u : Sub) (n : Fin 4),
    (s.powered (R.ACQ_GRP_CTRL n) = true) ∧ (s.is (R.ACQ_GRP_CTRL_EN n) = true) ∧ ((s.group n).open_ = []) ∧ ((s.group n).accCount = 0) ∧ holds (.groupDisable u n) s (fun t => decide (t.is (R.ACQ_GRP_CTRL_EN n) = false ∧ t.is (R.ACQ_GRP_STAT_BUSY n) = false ∧ t.get (R.ACQ_GRP_STAT_STATE n) = 0)) = true :=
  ⟨(((((State.reset.set (R.POD_S_STAT_STATE 0) 4).set (R.POD_S_STAT_TYPE 0) 1).set R.SYS_MODE_MODE 2).set (R.LANE_STAT_PRESENT 0) 1).set (R.POD_S_CAPS_RANGES 0) 31).set (R.ACQ_GRP_CTRL_EN 0) 1, u0, ⟨0, by decide⟩, by decide +kernel⟩

theorem witness_CaptureGroups_groupDisable2 : ∃ (s : State) (u : Sub) (n : Fin 4) (g : SegSt) (rest : List SegSt),
    (s.powered (R.ACQ_GRP_CTRL n) = true) ∧ (s.is (R.ACQ_GRP_CTRL_EN n) = true) ∧ ((s.group n).open_ = g :: rest) ∧ holds (.groupDisable u n) s (fun t => decide (t.is (R.ACQ_GRP_CTRL_EN n) = false ∧ t.is (R.ACQ_GRP_STAT_BUSY n) = true ∧ (t.group n).stopping = true ∧ (t.group n).open_ = g :: rest)) = true :=
  ⟨((((((State.reset.set (R.POD_S_STAT_STATE 0) 4).set (R.POD_S_STAT_TYPE 0) 1).set R.SYS_MODE_MODE 2).set (R.LANE_STAT_PRESENT 0) 1).set (R.POD_S_CAPS_RANGES 0) 31).setGroup 0 { open_ := [{ segNo := 0, stamp := 0, input := 0, code := 0, fire := 0, missed := 0 }] }).set (R.ACQ_GRP_CTRL_EN 0) 1, u0, ⟨0, by decide⟩, { segNo := 0, stamp := 0, input := 0, code := 0, fire := 0, missed := 0 }, [], by decide +kernel⟩

theorem witness_CaptureGroups_grpClrStats : ∃ (s : State) (n : Fin 4),
    (s.powered (R.ACQ_GRP_CTRL n) = true) ∧ holds (.grpClrStats n) s (fun t => decide (t.val (R.ACQ_GRP_MISS n) = 0 ∧ t.val (R.ACQ_GRP_ACC_SKIP n) = 0)) = true :=
  ⟨State.reset.put (R.ACQ_GRP_MISS 0) 5, ⟨0, by decide⟩, by decide +kernel⟩

theorem witness_TallyUnits_tallyEnable : ∃ (s : State) (u : Sub) (v : Word) (tu : TallyUnit),
    (s.powered (unitCtrl tu) = true) ∧ (s.is (unitEn tu) = false) ∧ (((s.atF u).wr (unitCtrl tu) (unitWord tu v)).unitBusy tu = false) ∧ (modeStreams s.mode = true) ∧ (((s.atF u).wr (unitCtrl tu) (unitWord tu v)).laneFree (((s.atF u).wr (unitCtrl tu) (unitWord tu v)).unitLane tu) = true) ∧ ((∀ m, tu = .map m → ((s.atF u).wr (unitCtrl tu) (unitWord tu v)).sweepOk m = true)) ∧ ((((s.atF u).wr (unitCtrl tu) (unitWord tu v)).set (unitEn tu) 1).planCheck s.mode = none) ∧ holds (.tallyEnable u tu v) s (fun t => decide (t.is (unitEn tu) = true ∧ t.get R.TIME_PLAN_STAT_RESULT = 1)) = true :=
  ⟨((((State.reset.set (R.POD_S_STAT_STATE 0) 4).set (R.POD_S_STAT_TYPE 0) 1).set R.SYS_MODE_MODE 2).set (R.LANE_STAT_PRESENT 0) 1).set (R.POD_S_CAPS_RANGES 0) 31, u0, 0x80000000, .hist ⟨0, by decide⟩, by exact ⟨by decide +kernel, by decide +kernel, by decide +kernel, by decide +kernel, by decide +kernel, by simp, by decide +kernel, by decide +kernel⟩⟩

theorem witness_TallyUnits_tallyEnable2 : ∃ (s : State) (u : Sub) (v : Word) (tu : TallyUnit),
    (s.powered (unitCtrl tu) = true) ∧ (s.is (unitEn tu) = false) ∧ (((s.atF u).wr (unitCtrl tu) (unitWord tu v)).unitBusy tu = false) ∧ (modeStreams s.mode = true) ∧ (((s.atF u).wr (unitCtrl tu) (unitWord tu v)).laneFree (((s.atF u).wr (unitCtrl tu) (unitWord tu v)).unitLane tu) = false) ∧ holds (.tallyEnable u tu v) s (fun t => decide (t.is (unitEn tu) = false ∧ t.get R.TLY_STAT_REFUSE = 4 ∧ t.is R.TLY_EVT_REFUSED = true)) = true :=
  ⟨State.reset.set R.SYS_MODE_MODE 2, u0, 0x80000000, .hist ⟨0, by decide⟩, by decide +kernel⟩

theorem witness_TallyUnits_tallyClear : ∃ (s : State) (u : Sub) (h : Lane),
    (s.powered (R.TLY_H_CTRL h) = true) ∧ holds (.tallyClear u (.hist h)) s (fun t => decide ((t.hist h).bins = [] ∧ t.val (R.TLY_H_SATBINS h) = 0 ∧ t.val64 (R.TLY_H_FED_LO h) = 0 ∧ t.val (R.TLY_H_UNSET h) = 0)) = true :=
  ⟨State.reset.setHist 0 { bins := [(3, 5)] }, u0, ⟨0, by decide⟩, by decide +kernel⟩

theorem witness_TallyUnits_tallyClear2 : ∃ (s : State) (u : Sub) (m : Fin 8),
    (s.powered (R.TLY_M_CTRL m) = true) ∧ holds (.tallyClear u (.map m)) s (fun t => decide ((t.map m).bins = [] ∧ t.val (R.TLY_M_SWEEPS m) = 0 ∧ t.val (R.TLY_M_MISS m) = 0 ∧ t.val (R.TLY_M_OUTSIDE m) = 0 ∧ t.val (R.TLY_M_SATBINS m) = 0)) = true :=
  ⟨State.reset.setMap 0 { bins := [(3, 5)] }, u0, ⟨0, by decide⟩, by decide +kernel⟩

theorem witness_TallyUnits_tallySnap : ∃ (s : State) (u : Sub),
    (s.powered R.TLY_CTRL = true) ∧ holds (.tallySnap u) s (fun t => decide (∀ h ∈ List.range 48, (s.hist h).on = true → (t.hist h).asked = true)) = true :=
  ⟨State.reset.setHist 0 { on := true }, u0, by decide +kernel⟩

theorem witness_TallyUnits_tallySnapshot : ∃ (s : State) (h : Lane),
    (s.time.fUnit = 0) ∧ ((s.hist h).on = true) ∧ ((s.hist h).snapAt ≠ s.fTickU) ∧ ((s.hist h).asked = true) ∧ ((s.hist h).held = none) ∧ holds (.tallySnapshot (.hist h)) s (fun t => decide ((t.hist h).held = some ⟨s.fTickU, (s.hist h).snapNo, (s.hist h).gap, (s.hist h).skipped, (s.hist h).stopping⟩ ∧ (t.hist h).asked = false)) = true :=
  ⟨State.reset.setHist 0 { on := true, asked := true, snapAt := 7 }, ⟨0, by decide⟩, by decide +kernel⟩

theorem witness_TallyUnits_tallySnapshot2 : ∃ (s : State) (m : Fin 8),
    (s.time.fUnit = 0) ∧ ((s.map m).on = true) ∧ ((s.map m).snapAt ≠ s.fTickU) ∧ ((s.map m).asked = true) ∧ ((s.map m).held.isSome = true) ∧ holds (.tallySnapshot (.map m)) s (fun t => decide ((t.map m).held = (s.map m).held ∧ (t.map m).skipped = true ∧ t.is R.TLY_EVT_SKIPPED = true)) = true :=
  ⟨State.reset.setMap 0 { on := true, asked := true, snapAt := 7, held := some ⟨0, 0, false, false, false⟩ }, ⟨0, by decide⟩, by decide +kernel⟩

theorem witness_TallyUnits_tallyMerge : ∃ (s : State) (env : List LaneIn) (h : Lane),
    ((((s.takeSamples env).atF ⟨3840 * 256, by decide⟩).hist h).on = true) ∧ ((((s.takeSamples env).atF ⟨3840 * 256, by decide⟩).hist h).held = none) ∧ ((∀ k, k ≠ h.val → (((s.takeSamples env).atF ⟨3840 * 256, by decide⟩).hist k).on = false)) ∧ ((∀ m, (((s.takeSamples env).atF ⟨3840 * 256, by decide⟩).map m).on = false)) ∧ ((((s.takeSamples env).atF ⟨3840 * 256, by decide⟩).hist h).buf ≠ []) ∧ holds (.tallyMerge env) s (fun t => decide ((t.hist h).buf = [] ∧ (t.hist h).bins = (binsAdd (2 ^ 48 - 1) (((s.takeSamples env).atF ⟨3840 * 256, by decide⟩).hist h).bins ((settled (((s.takeSamples env).atF ⟨3840 * 256, by decide⟩).hist h).buf).map (fun c => ((s.takeSamples env).atF ⟨3840 * 256, by decide⟩).histBin h c))).1 ∧ t.val64 (R.TLY_H_FED_LO h) = (((s.takeSamples env).atF ⟨3840 * 256, by decide⟩).val64 (R.TLY_H_FED_LO h) + (((s.takeSamples env).atF ⟨3840 * 256, by decide⟩).hist h).buf.length) % 2 ^ 64)) = true :=
  ⟨State.reset.setHist 0 { on := true, buf := [{ t := 0, c := 7 }] }, [], ⟨0, by decide⟩, by exact ⟨by decide +kernel, by decide +kernel, only_hist, no_maps, by decide +kernel, by decide +kernel⟩⟩

theorem witness_TallyUnits_sweepEnd : ∃ (s : State) (u : Sub) (m : Fin 8) (w : Sweep),
    ((s.map m).sweeps = [w]) ∧ (w.counted = false) ∧ (s.sweepEnd m w.stamp ≤ (s.atF u).fU) ∧ holds (.sweepEnd u m) s (fun t => decide (t.val (R.TLY_M_SWEEPS m) = min (s.val (R.TLY_M_SWEEPS m) + 1) (2 ^ 32 - 1) ∧ (t.map m).sweeps = [{ w with counted := true }])) = true :=
  ⟨{ State.reset.setMap 0 { on := true, sweeps := [{ stamp := 0 }] } with time := { fTick := 9000 } }, u0, ⟨0, by decide⟩, { stamp := 0 }, by decide +kernel⟩

theorem witness_TriggerUnit_laneTriggerEvent : ∃ (s : State) (u : Sub) (env : List LaneIn) (x : LaneIn),
    (env = [x]) ∧ (s.laneConverts x.lane = true) ∧ holds (.laneTriggerEvent u env) s (fun t => decide ((t.lane x.lane).raw.buf = (s.lane x.lane).raw.buf ++ mkSamples (s.fTickU + (s.lane x.lane).raw.buf.length * (1024000 / s.srcSamples x.lane 0)) (1024000 / s.srcSamples x.lane 0) (s.lane x.lane).raw.unset (x.raw.take (s.srcSamples x.lane 0 - (s.lane x.lane).raw.buf.length)))) = true :=
  ⟨((((State.reset.set (R.POD_S_STAT_STATE 0) 4).set (R.POD_S_STAT_TYPE 0) 1).set R.SYS_MODE_MODE 2).set (R.LANE_STAT_PRESENT 0) 1).set (R.POD_S_CAPS_RANGES 0) 31, u0, [⟨⟨0, by decide⟩, [5, 6], []⟩], ⟨⟨0, by decide⟩, [5, 6], []⟩, by decide +kernel⟩

theorem witness_TriggerUnit_laneTriggerEvent2 : ∃ (s : State) (u : Sub) (env : List LaneIn) (x : LaneIn) (c : Int),
    (env = [x]) ∧ (s.laneConverts x.lane = true) ∧ (x.raw = [c]) ∧ (x.dec = []) ∧ (cfgDeck (s.rd (R.LANE_ACTIVE x.lane)) ≠ 0) ∧ ((s.lane x.lane).raw.buf.length < s.srcSamples x.lane 0) ∧ ((s.lane x.lane).raw.unset = 0) ∧ ((s.ltrig x.lane).en = true) ∧ ((s.ltrig x.lane).src = 0) ∧ holds (.laneTriggerEvent u env) s (fun t => decide (t.ltrig x.lane = ((s.ltrig x.lane).sample (1024000 / s.srcSamples x.lane 0) (s.fTickU + (s.lane x.lane).raw.buf.length * (1024000 / s.srcSamples x.lane 0)) (limit16 c).1).1 ∧ t.val (R.ACQ_LTRIG_CNT x.lane) = min (s.val (R.ACQ_LTRIG_CNT x.lane) + ((s.ltrig x.lane).sample (1024000 / s.srcSamples x.lane 0) (s.fTickU + (s.lane x.lane).raw.buf.length * (1024000 / s.srcSamples x.lane 0)) (limit16 c).1).2.length) (2 ^ 32 - 1))) = true :=
  ⟨((((((State.reset.set (R.POD_S_STAT_STATE 0) 4).set (R.POD_S_STAT_TYPE 0) 1).set R.SYS_MODE_MODE 2).set (R.LANE_STAT_PRESENT 0) 1).set (R.POD_S_CAPS_RANGES 0) 31).setLtrig 0 { cfg := 0x80800000, lastTick := 9 }).set (R.LANE_ACTIVE_DEC_K 0) 1, u0, [⟨⟨0, by decide⟩, [5], []⟩], ⟨⟨0, by decide⟩, [5], []⟩, 5, by decide +kernel⟩

theorem witness_TriggerUnit_trigInEdge : ∃ (s : State) (u : Sub) (k : Fin 4) (rising : Bool),
    (s.domOn (domF 11) = true) ∧ holds (.trigInEdge u k rising) s (fun t => decide (t.acq.trigIn.testBit k = rising ∧ t.levelAt (0x88 + k) ((s.atF u).cycleStamp) = rising)) = true :=
  ⟨State.reset, u0, ⟨0, by decide⟩, true, by decide +kernel⟩

theorem witness_TriggerUnit_hostTrig : ∃ (s : State) (u : Sub) (c : Idx16) (w : Word) (n : Word),
    (s.powered R.ACQ_CTRL = true) ∧ (s.comb c = { ctrl := w, inw := n, use := 1 }) ∧ (w.getLsbD 31 = true) ∧ (fieldOf n 0 8 = 0x8C) ∧ holds (.hostTrig u) s (fun t => decide ((t.comb c).q.map SrcEvt.stamp = [(s.atF u).cycleStamp] ∧ t.regs = s.regs)) = true :=
  ⟨State.reset.setComb 0 { ctrl := 0x80000001, inw := 0xFFFFFF8C, use := 1 }, u0, ⟨0, by decide⟩, 0x80000001, 0xFFFFFF8C, by decide +kernel⟩

theorem witness_TriggerUnit_combinerFire : ∃ (s : State) (u : Sub) (c : Idx16) (e : SrcEvt),
    (((s.atF u).comb c).q = [e]) ∧ (e.at_ ≤ (s.atF u).fU * 256) ∧ (((s.atF u).comb c).seqMode = false) ∧ (((s.atF u).setComb c { (s.atF u).comb c with q := [] }).qualified c e.at_ = true) ∧ (((s.atF u).comb c).holds e.at_ = false) ∧ holds (.combinerFire u c) s (fun t => decide (t.val (R.ACQ_COMB_FIRES c) = min (s.val (R.ACQ_COMB_FIRES c) + 1) (2 ^ 32 - 1) ∧ (t.comb c).lastFire = some (ceilDiv e.at_ 65536) ∧ (t.get R.ACQ_STAT_COMB_LEVEL).testBit c = true ∧ t.is R.ACQ_EVT_FIRE = true)) = true :=
  ⟨State.reset.setComb 0 { ctrl := 0x80000001, inw := 0xFFFFFF8C, use := 1, q := [{ input := 0, code := 0x8C, stamp := 0, at_ := 0 }] }, u0, ⟨0, by decide⟩, { input := 0, code := 0x8C, stamp := 0, at_ := 0 }, by decide +kernel⟩

theorem witness_TriggerUnit_combinerFire2 : ∃ (s : State) (u : Sub) (c : Idx16) (e : SrcEvt),
    (((s.atF u).comb c).q = [e]) ∧ (e.at_ ≤ (s.atF u).fU * 256) ∧ (((s.atF u).comb c).seqMode = false) ∧ (((s.atF u).setComb c { (s.atF u).comb c with q := [] }).qualified c e.at_ = true) ∧ (((s.atF u).comb c).holds e.at_ = true) ∧ holds (.combinerFire u c) s (fun t => decide (t.val (R.ACQ_COMB_HELD c) = min (s.val (R.ACQ_COMB_HELD c) + 1) (2 ^ 32 - 1) ∧ t.val (R.ACQ_COMB_FIRES c) = s.val (R.ACQ_COMB_FIRES c) ∧ (t.comb c).q = [] ∧ (t.comb c).holdLeft = (s.comb c).holdLeft - 1)) = true :=
  ⟨State.reset.setComb 0 { ctrl := 0x80000001, inw := 0xFFFFFF8C, use := 1, q := [{ input := 0, code := 0x8C, stamp := 0, at_ := 0 }], holdLeft := 2 }, u0, ⟨0, by decide⟩, { input := 0, code := 0x8C, stamp := 0, at_ := 0 }, by decide +kernel⟩

theorem witness_TriggerUnit_holdoffExpiry : ∃ (s : State) (u : Sub) (c : Idx16),
    ((s.comb c).holdUntil * 256 ≤ (s.atF u).fU) ∧ holds (.holdoffExpiry u c) s (fun t => decide ((t.comb c).holdUntil = 0)) = true :=
  ⟨State.reset, u0, ⟨0, by decide⟩, by decide +kernel⟩

theorem witness_TriggerUnit_sequenceWindowExpiry : ∃ (s : State) (u : Sub) (c : Idx16) (a : Nat),
    ((s.comb c).armed = some a) ∧ (a * 256 < (s.atF u).fU) ∧ holds (.sequenceWindowExpiry u c) s (fun t => decide ((t.comb c).armed = none)) = true :=
  ⟨{ State.reset.setComb 0 { armed := some 1 } with time := { fTick := 1 } }, u0, ⟨0, by decide⟩, 1, by decide +kernel⟩

theorem witness_TriggerUnit_combLevelFall : ∃ (s : State) (u : Sub) (c : Idx16),
    ((s.comb c).levelUntil * 256 ≤ (s.atF u).fU) ∧ holds (.combLevelFall u c) s (fun t => decide ((t.get R.ACQ_STAT_COMB_LEVEL).testBit c = false)) = true :=
  ⟨State.reset.set R.ACQ_STAT_COMB_LEVEL 3, u0, ⟨0, by decide⟩, by decide +kernel⟩

theorem witness_TriggerUnit_combRearm : ∃ (s : State) (u : Sub) (c : Idx16),
    (s.powered (R.ACQ_COMB_CTRL c) = true) ∧ holds (.combRearm u c) s (fun t => decide ((t.comb c).needRearm = false)) = true :=
  ⟨State.reset.setComb 0 { needRearm := true }, u0, ⟨0, by decide⟩, by decide +kernel⟩

theorem witness_TriggerUnit_combClrStats : ∃ (s : State) (u : Sub) (c : Idx16),
    (s.powered (R.ACQ_COMB_CTRL c) = true) ∧ holds (.combClrStats u c) s (fun t => decide (t.val (R.ACQ_COMB_FIRES c) = 0 ∧ t.val (R.ACQ_COMB_HELD c) = 0)) = true :=
  ⟨State.reset.put (R.ACQ_COMB_HELD 0) 5, u0, ⟨0, by decide⟩, by decide +kernel⟩

theorem witness_TriggerUnit_acqConfigEffect : ∃ (s : State) (c : Idx16),
    (s.time.fUnit = 0) ∧ ((s.comb c).dirty = true) ∧ (((s.rd (R.ACQ_COMB_CTRL c)).getLsbD 31 && combBad c (s.rd (R.ACQ_COMB_CTRL c)) (s.rd (R.ACQ_COMB_IN c)) (s.rd (R.ACQ_COMB_USE c))) = false) ∧ holds .acqConfigEffect s (fun t => decide (t.comb c = { ctrl := s.rd (R.ACQ_COMB_CTRL c), inw := s.rd (R.ACQ_COMB_IN c), use := s.rd (R.ACQ_COMB_USE c), hold := s.val (R.ACQ_COMB_HOLD c), seqwin := s.val (R.ACQ_COMB_SEQWIN c) })) = true :=
  ⟨(State.reset.setComb 3 { dirty := true, armed := some 4 }).put (R.ACQ_COMB_HOLD 3) 6, ⟨3, by decide⟩, by decide +kernel⟩

theorem witness_GuardWindows_guardSample : ∃ (s : State) (vs : List GuardIn) (w : Win) (v : Int),
    (s.domOn (domF 12) = true) ∧ (s.time.fUnit ≤ 40960) ∧ (s.is (R.GRD_W_CFG_EN w) = true) ∧ ((∀ k, k < 64 → k ≠ w.val → s.is (R.GRD_W_CFG_EN k) = false)) ∧ (s.winAbsent w = false) ∧ (s.grdWinBad w = false) ∧ (vs = [⟨w, v⟩]) ∧ ((s.win w).start = true) ∧ holds (.guardSample vs) s (fun t => decide (t.get (R.GRD_W_STAT_STATE w) = rawFirst v (s.sval (R.GRD_W_HI w)) (s.sval (R.GRD_W_LO w)) (s.val (R.GRD_W_HYST w) : Int) ∧ t.is (R.GRD_W_STAT_OUT w) = decide (rawFirst v (s.sval (R.GRD_W_HI w)) (s.sval (R.GRD_W_LO w)) (s.val (R.GRD_W_HYST w) : Int) ≠ 0) ∧ (t.win w).start = false)) = true :=
  ⟨((((((((State.reset.set (R.POD_S_STAT_STATE 0) 4).set (R.POD_S_STAT_TYPE 0) 1).set R.SYS_MODE_MODE 2).set (R.LANE_STAT_PRESENT 0) 1).set (R.POD_S_CAPS_RANGES 0) 31).set (R.GRD_W_CFG_EN 0) 1).put (R.GRD_W_HI 0) 1000000).put (R.GRD_W_LO 0) 100000), [⟨⟨0, by decide⟩, 2000000⟩], ⟨0, by decide⟩, 2000000, by decide +kernel⟩

theorem witness_GuardWindows_guardSample2 : ∃ (s : State) (vs : List GuardIn) (w : Win) (v : Int),
    (s.domOn (domF 12) = true) ∧ (s.time.fUnit ≤ 40960) ∧ (s.is (R.GRD_W_CFG_EN w) = true) ∧ ((∀ k, k < 64 → k ≠ w.val → s.is (R.GRD_W_CFG_EN k) = false)) ∧ (s.winAbsent w = false) ∧ (s.grdWinBad w = false) ∧ (vs = [⟨w, v⟩]) ∧ ((s.win w).start = false) ∧ ((s.win w).bits.length ≤ 1) ∧ (s.get (R.GRD_W_CFG_N w) ≤ 1) ∧ (s.is (R.GRD_W_ACT_FAULT w) = false) ∧ holds (.guardSample vs) s (fun t => decide (t.get (R.GRD_W_STAT_STATE w) = rawNext (s.get (R.GRD_W_STAT_STATE w)) v (s.sval (R.GRD_W_HI w)) (s.sval (R.GRD_W_LO w)) (s.val (R.GRD_W_HYST w) : Int) ∧ t.is (R.GRD_W_STAT_OUT w) = decide (rawNext (s.get (R.GRD_W_STAT_STATE w)) v (s.sval (R.GRD_W_HI w)) (s.sval (R.GRD_W_LO w)) (s.val (R.GRD_W_HYST w) : Int) ≠ 0))) = true :=
  ⟨(((((((((State.reset.set (R.POD_S_STAT_STATE 0) 4).set (R.POD_S_STAT_TYPE 0) 1).set R.SYS_MODE_MODE 2).set (R.LANE_STAT_PRESENT 0) 1).set (R.POD_S_CAPS_RANGES 0) 31).set (R.GRD_W_CFG_EN 0) 1).put (R.GRD_W_HI 0) 1000000).put (R.GRD_W_LO 0) 100000)).setWin 0 { start := false, bits := [false] }, [⟨⟨0, by decide⟩, 2000000⟩], ⟨0, by decide⟩, 2000000, by decide +kernel⟩

theorem witness_GuardWindows_grdClrStats : ∃ (s : State),
    (s.powered R.GRD_CTRL = true) ∧ holds .grdClrStats s (fun t => decide (∀ w ∈ List.range 64, t.val (R.GRD_W_XCNT w) = 0 ∧ t.val (R.GRD_W_OUTT w) = 0)) = true :=
  ⟨State.reset.put (R.GRD_W_XCNT 3) 7, by decide +kernel⟩

theorem witness_ComparePairs_pairEnable : ∃ (s : State) (u : Sub) (p : PairNo),
    (s.powered (R.CMP_P_CTRL p) = true) ∧ (s.is (R.CMP_P_CTRL_EN p) = false) ∧ (s.is (R.CMP_P_STAT_BUSY p) = false) ∧ (s.sideBad p true = false) ∧ (s.sideBad p false = false) ∧ (s.kindBad p = false) ∧ (s.latBad p = false) ∧ (modeCompares s.mode = true) ∧ ((((s.atF u).put (R.CMP_P_NEAR p) (max (s.val (R.CMP_P_NEAR p)) (s.val (R.CMP_P_TOL p)))).set (R.CMP_P_CTRL_EN p) 1).planCheck s.mode = none) ∧ holds (.pairEnable u p) s (fun t => decide (t.is (R.CMP_P_CTRL_EN p) = true ∧ t.val (R.CMP_P_NEAR p) = max (s.val (R.CMP_P_NEAR p)) (s.val (R.CMP_P_TOL p)) ∧ t.get R.TIME_PLAN_STAT_RESULT = 1)) = true :=
  ⟨(((((((State.reset.set R.SYS_MODE_MODE 6).set (R.PIN_STAT_ROLE 2) 2).set (R.PIN_STAT_ROLE 4) 2).set (R.CMP_P_REF_TYPE 0) 1).set (R.CMP_P_CAND_TYPE 0) 1).set (R.CMP_P_REF_INSTANCE 0) 2).set (R.CMP_P_CAND_INSTANCE 0) 4), u0, ⟨0, by decide⟩, by decide +kernel⟩

theorem witness_ComparePairs_pairEnable2 : ∃ (s : State) (u : Sub) (p : PairNo),
    (s.powered (R.CMP_P_CTRL p) = true) ∧ (s.is (R.CMP_P_CTRL_EN p) = false) ∧ (s.is (R.CMP_P_STAT_BUSY p) = false) ∧ (s.sideBad p true = true ∨ s.sideBad p false = true) ∧ holds (.pairEnable u p) s (fun t => decide (t.is (R.CMP_P_CTRL_EN p) = false ∧ t.get (R.CMP_P_STAT_REFUSE p) = 2 ∧ t.get R.CMP_STAT_REFUSE = 2 ∧ t.is R.CMP_EVT_REFUSED = true)) = true :=
  ⟨State.reset, u0, ⟨0, by decide⟩, by decide +kernel⟩

theorem witness_ComparePairs_compareDecision : ∃ (s : State) (u : Sub) (p : PairNo) (env : List LaneIn) (x : PairSt),
    (((s.takeSamples env).atF u).get (R.CMP_P_STAT_STATE p) = 2) ∧ (((s.takeSamples env).atF u).get (R.CMP_P_CFG_KIND p) = 1) ∧ (((s.takeSamples env).atF u).is (R.CMP_P_CFG_SMODE p) = false) ∧ ((((s.takeSamples env).atF u).pair p) = x) ∧ (x.rdEnd = none) ∧ (((s.takeSamples env).atF u).presented p none (x.nextAt + ((s.takeSamples env).atF u).sval (R.CMP_P_LAT_ACT p)) x.nextAt = true) ∧ (x.absentAt (x.nextAt + ((s.takeSamples env).atF u).sval (R.CMP_P_LAT_ACT p)) = none) ∧ ((stateUpTo x.refSt x.nextAt x.ref).1 ≠ 15) ∧ ((stateUpTo x.candSt (x.nextAt + ((s.takeSamples env).atF u).sval (R.CMP_P_LAT_ACT p)) x.cand).1 ≠ 15) ∧ ((stateUpTo x.refSt x.nextAt x.ref).1 = (stateUpTo x.candSt (x.nextAt + ((s.takeSamples env).atF u).sval (R.CMP_P_LAT_ACT p)) x.cand).1) ∧ (x.runDone = false) ∧ holds (.compareDecision u p env) s (fun t => decide (t.val64 (R.CMP_P_MATCH_LO p) = (((s.takeSamples env).atF u).val64 (R.CMP_P_MATCH_LO p) + 1) % 2 ^ 64 ∧ (t.pair p).decisions = x.decisions + 1 ∧ (t.pair p).run = 0 ∧ x.nextAt < (t.pair p).nextAt)) = true :=
  ⟨{ (((((((((State.reset.set R.SYS_MODE_MODE 6).set (R.PIN_STAT_ROLE 2) 2).set (R.PIN_STAT_ROLE 4) 2).set (R.CMP_P_REF_TYPE 0) 1).set (R.CMP_P_CAND_TYPE 0) 1).set (R.CMP_P_REF_INSTANCE 0) 2).set (R.CMP_P_CAND_INSTANCE 0) 4).set (R.CMP_P_CFG_KIND 0) 1).set (R.CMP_P_STAT_STATE 0) 2).setPair 0 { nextAt := 0, refSt := 2, candSt := 2, refThru := 9, candThru := 9 } with time := { fTick := 2 } }, u0, ⟨0, by decide⟩, [], { nextAt := 0, refSt := 2, candSt := 2, refThru := 9, candThru := 9 }, by decide +kernel⟩

theorem witness_ComparePairs_compareDecision2 : ∃ (s : State) (u : Sub) (p : PairNo) (env : List LaneIn) (x : PairSt),
    (((s.takeSamples env).atF u).get (R.CMP_P_STAT_STATE p) = 2) ∧ (((s.takeSamples env).atF u).get (R.CMP_P_CFG_KIND p) = 1) ∧ (((s.takeSamples env).atF u).is (R.CMP_P_CFG_SMODE p) = false) ∧ ((((s.takeSamples env).atF u).pair p) = x) ∧ (x.rdEnd = none) ∧ (((s.takeSamples env).atF u).presented p none (x.nextAt + ((s.takeSamples env).atF u).sval (R.CMP_P_LAT_ACT p)) x.nextAt = true) ∧ (x.absentAt (x.nextAt + ((s.takeSamples env).atF u).sval (R.CMP_P_LAT_ACT p)) = none) ∧ ((stateUpTo x.refSt x.nextAt x.ref).1 ≠ 15) ∧ ((stateUpTo x.candSt (x.nextAt + ((s.takeSamples env).atF u).sval (R.CMP_P_LAT_ACT p)) x.cand).1 ≠ 15) ∧ ((stateUpTo x.refSt x.nextAt x.ref).1 ≠ (stateUpTo x.candSt (x.nextAt + ((s.takeSamples env).atF u).sval (R.CMP_P_LAT_ACT p)) x.cand).1) ∧ (x.run + 1 < ((s.takeSamples env).atF u).get (R.CMP_P_CFG_PERSIST p)) ∧ holds (.compareDecision u p env) s (fun t => decide ((t.pair p).run = x.run + 1 ∧ (t.pair p).decisions = x.decisions + 1 ∧ t.regs = ((s.takeSamples env).atF u).regs)) = true :=
  ⟨({ ({ (((((((((State.reset.set R.SYS_MODE_MODE 6).set (R.PIN_STAT_ROLE 2) 2).set (R.PIN_STAT_ROLE 4) 2).set (R.CMP_P_REF_TYPE 0) 1).set (R.CMP_P_CAND_TYPE 0) 1).set (R.CMP_P_REF_INSTANCE 0) 2).set (R.CMP_P_CAND_INSTANCE 0) 4).set (R.CMP_P_CFG_KIND 0) 1).set (R.CMP_P_STAT_STATE 0) 2).setPair 0 { nextAt := 0, refSt := 2, candSt := 1, refThru := 9, candThru := 9 } with time := { fTick := 2 } } : State) with seq := {} }).set (R.CMP_P_CFG_PERSIST 0) 3, u0, ⟨0, by decide⟩, [], { nextAt := 0, refSt := 2, candSt := 1, refThru := 9, candThru := 9 }, by decide +kernel⟩

theorem witness_ComparePairs_pairDisable : ∃ (s : State) (u : Sub) (p : PairNo) (env : List LaneIn),
    (((s.takeSamples env).atF u).powered (R.CMP_P_CTRL p) = true) ∧ (((s.takeSamples env).atF u).is (R.CMP_P_CTRL_EN p) = true) ∧ (((s.takeSamples env).atF u).get (R.CMP_P_STAT_STATE p) ≠ 0) ∧ (((s.takeSamples env).atF u).get (R.CMP_P_STAT_STATE p) ≠ 2) ∧ holds (.pairDisable u p env) s (fun t => decide (t.is (R.CMP_P_CTRL_EN p) = false ∧ t.get (R.CMP_P_STAT_STATE p) = 0 ∧ t.pair p = {})) = true :=
  ⟨(((((((((State.reset.set R.SYS_MODE_MODE 6).set (R.PIN_STAT_ROLE 2) 2).set (R.PIN_STAT_ROLE 4) 2).set (R.CMP_P_REF_TYPE 0) 1).set (R.CMP_P_CAND_TYPE 0) 1).set (R.CMP_P_REF_INSTANCE 0) 2).set (R.CMP_P_CAND_INSTANCE 0) 4).set (R.CMP_P_CTRL_EN 0) 1).set (R.CMP_P_STAT_STATE 0) 1), u0, ⟨0, by decide⟩, [], by decide +kernel⟩

theorem witness_ComparePairs_cmpClrStats : ∃ (s : State) (u : Sub),
    (s.powered R.CMP_CTRL = true) ∧ holds (.cmpClrStats u) s (fun t => decide (t.val R.CMP_SUPPR = 0 ∧ t.val R.CMP_RPL_GAPS = 0)) = true :=
  ⟨State.reset.put R.CMP_SUPPR 4, u0, by decide +kernel⟩

theorem witness_ComparePairs_cmpPClrStats : ∃ (s : State) (u : Sub) (p : PairNo),
    (s.powered (R.CMP_P_CTRL p) = true) ∧ holds (.cmpPClrStats u p) s (fun t => decide (t.val (R.CMP_P_DISC p) = 0 ∧ t.val (R.CMP_P_SKIP p) = 0 ∧ t.val (R.CMP_P_SUPPR p) = 0 ∧ t.val (R.CMP_P_GAP_TICKS p) = 0)) = true :=
  ⟨State.reset.put (R.CMP_P_DISC 0) 4, u0, ⟨0, by decide⟩, by decide +kernel⟩

theorem witness_CompareLatency_learnFreeze : ∃ (s : State) (p : PairNo),
    (s.time.fUnit = 0) ∧ (s.get (R.CMP_P_STAT_STATE p) = 1) ∧ (s.freezeAt p ≤ s.fTickU) ∧ (max 1 (s.get (R.CMP_P_LEARN_MIN_N p)) ≤ (s.learnDeltas p).length) ∧ (s.get (R.CMP_P_LEARN_MIN_PCT p) * (s.learnDeltas p).length ≤ 100 * ((s.learnDeltas p).filter (fun d => decide (((d - ((sortAsc (s.learnDeltas p)).getD (((s.learnDeltas p).length - 1) / 2) 0)).natAbs : Int) ≤ s.val (R.CMP_P_TOL p)))).length) ∧ holds (.learnFreeze p) s (fun t => decide (t.get (R.CMP_P_STAT_STATE p) = 2 ∧ t.val (R.CMP_P_LAT_ACT p) = codeOf 32 (s.pairLat p ((sortAsc (s.learnDeltas p)).getD (((s.learnDeltas p).length - 1) / 2) 0)) ∧ t.is R.CMP_EVT_LEARN = true)) = true :=
  ⟨learn 1, ⟨0, by decide⟩, by decide +kernel⟩

theorem witness_CompareLatency_learnFreeze2 : ∃ (s : State) (p : PairNo),
    (s.time.fUnit = 0) ∧ (s.get (R.CMP_P_STAT_STATE p) = 1) ∧ (s.freezeAt p ≤ s.fTickU) ∧ ((s.learnDeltas p).length < max 1 (s.get (R.CMP_P_LEARN_MIN_N p))) ∧ holds (.learnFreeze p) s (fun t => decide (t.get (R.CMP_P_STAT_STATE p) = 4 ∧ (t.pair p).ref = [] ∧ (t.pair p).cand = [] ∧ t.is R.CMP_EVT_LEARN = true)) = true :=
  ⟨learn 2, ⟨0, by decide⟩, by decide +kernel⟩

theorem witness_CompareLatency_relearn : ∃ (s : State) (u : Sub) (p : PairNo),
    (s.powered (R.CMP_P_CTRL p) = true) ∧ (s.get (R.CMP_P_STAT_STATE p) = 2 ∨ s.get (R.CMP_P_STAT_STATE p) = 4) ∧ (s.get (R.CMP_P_CFG_LAT_MODE p) = 1) ∧ holds (.relearn u p) s (fun t => decide ((t.pair p).relearn = true)) = true :=
  ⟨(State.reset.set (R.CMP_P_STAT_STATE 0) 4).set (R.CMP_P_CFG_LAT_MODE 0) 1, u0, ⟨0, by decide⟩, by decide +kernel⟩

theorem witness_CompareLatency_relearnStart : ∃ (s : State) (p : PairNo),
    (s.time.fUnit = 0) ∧ ((s.pair p).relearn = true) ∧ (s.is (R.CMP_P_CTRL_EN p) = true) ∧ holds (.relearnStart p) s (fun t => decide ((t.pair p).relearn = false ∧ (t.pair p).learnAt = s.fTickU ∧ (t.pair p).ref = [] ∧ (t.pair p).wait = [] ∧ t.get (R.CMP_P_STAT_STATE p) = 1)) = true :=
  ⟨(State.reset.setPair 0 { relearn := true }).set (R.CMP_P_CTRL_EN 0) 1, ⟨0, by decide⟩, by decide +kernel⟩

theorem witness_CompareLatency_latencyFollow : ∃ (s : State) (p : PairNo),
    (s.time.fUnit = 0) ∧ (s.is (R.CMP_P_CTRL_EN p) = true) ∧ (s.get (R.CMP_P_CFG_LAT_MODE p) = 2) ∧ (s.get (R.CMP_P_STAT_STATE (s.get (R.CMP_P_CFG_LAT_PAIR p))) = 2) ∧ ((s.pair (s.get (R.CMP_P_CFG_LAT_PAIR p))).latAt < s.fTickU) ∧ (s.get (R.CMP_P_STAT_STATE p) = 2) ∧ holds (.latencyFollow p) s (fun t => decide (t.val (R.CMP_P_LAT_ACT p) = codeOf 32 (s.pairLat p (s.sval (R.CMP_P_LAT_ACT (s.get (R.CMP_P_CFG_LAT_PAIR p))))))) = true :=
  ⟨({ (((((State.reset.set (R.CMP_P_CTRL_EN 0) 1).set (R.CMP_P_CFG_LAT_MODE 0) 2).set (R.CMP_P_CFG_LAT_PAIR 0) 3).set (R.CMP_P_STAT_STATE 3) 2).set (R.CMP_P_STAT_STATE 0) 2) with time := { fTick := 4 } }).put (R.CMP_P_LAT_ACT 3) 77, ⟨0, by decide⟩, by decide +kernel⟩

theorem witness_CompareLatency_referenceRead : ∃ (s : State) (u : Sub) (p : PairNo) (late : Bool) (v : Vec),
    ((s.atF u).pairRecorded p = true) ∧ ((s.atF u).pairLive p = true) ∧ ((s.pair p).rdEnd = none) ∧ ((s.atF u).fetchVec (s.pair p).rdAddr = some v) ∧ ((refRec (vecBytes v)).kind = 0) ∧ holds (.referenceRead u p late) s (fun t => decide ((t.pair p).rdAddr = succAddr (s.pair p).rdAddr ∧ (t.pair p).ref = (s.pair p).ref)) = true :=
  ⟨((({ State.reset with seq := { winCount := 1, frames := [(0, 0, 65536)], vmem := [(0, ⟨0, 0, 0, 0, 0, 0⟩)] } }).set (R.CMP_P_REF_TYPE 0) 3).set (R.CMP_P_CTRL_EN 0) 1).set (R.CMP_P_STAT_STATE 0) 2 |>.set R.SYS_MODE_MODE 5, u0, ⟨0, by decide⟩, true, ⟨0, 0, 0, 0, 0, 0⟩, by decide +kernel⟩

theorem witness_CompareLatency_referenceRead2 : ∃ (s : State) (u : Sub) (p : PairNo) (late : Bool) (v : Vec),
    ((s.atF u).pairRecorded p = true) ∧ ((s.atF u).pairLive p = true) ∧ ((s.pair p).rdEnd = none) ∧ ((s.atF u).fetchVec (s.pair p).rdAddr = some v) ∧ ((refRec (vecBytes v)).kind = 0xFF) ∧ ((refRec (vecBytes v)).bad (s.get (R.CMP_P_CFG_KIND p)) (s.pair p).rdBase = false) ∧ ((s.atF u).liveAt (refRec (vecBytes v)).base - 2 * unitsPerTick ≤ (s.atF u).fU) ∧ ((s.pair p).rdAbs = none) ∧ holds (.referenceRead u p late) s (fun t => decide ((t.pair p).rdEnd = some ((s.atF u).liveAt (refRec (vecBytes v)).base))) = true :=
  ⟨((({ State.reset with seq := { winCount := 1, frames := [(0, 0, 65536)], vmem := [(0, ⟨255, 0, 0, 0, 0, 0⟩)] } }).set (R.CMP_P_REF_TYPE 0) 3).set (R.CMP_P_CTRL_EN 0) 1).set (R.CMP_P_STAT_STATE 0) 2 |>.set R.SYS_MODE_MODE 5, u0, ⟨0, by decide⟩, true, ⟨255, 0, 0, 0, 0, 0⟩, by decide +kernel⟩

theorem witness_CompareLatency_replayResume : ∃ (s : State) (u : Sub) (g : Nat × Nat × Nat) (r : List (Nat × Nat × Nat)),
    (s.cmp.ended = g :: r) ∧ (g.2.2 + 2 * unitsPerTick ≤ (s.atF u).fU) ∧ (((s.atF u).recordedPairs) = []) ∧ holds (.replayResume u) s (fun t => decide (t.cmp.ended = r ∧ t.val R.CMP_RPL_GAPS = min (s.val R.CMP_RPL_GAPS + 1) (2 ^ 32 - 1))) = true :=
  ⟨{ State.reset with cmp := { ended := [(0, 0, 0)] }, time := { fTick := 3 } }, u0, (0, 0, 0), [], by decide +kernel⟩

theorem witness_CompareLatency_overflow : ∃ (s : State) (u : Sub) (p : PairNo),
    ((s.pair p).lost ≠ 0) ∧ ((s.pair p).ref.length + (s.pair p).cand.length + (s.pair p).wait.length < pairQueue / 2) ∧ ((s.pair p).absRef = none) ∧ ((s.pair p).absCand = none) ∧ holds (.overflow u p) s (fun t => decide ((t.pair p).lost = 0 ∧ (t.pair p).ref = (s.pair p).ref ∧ (t.pair p).cand = (s.pair p).cand)) = true :=
  ⟨State.reset.setPair 0 { lost := 5 }, u0, ⟨0, by decide⟩, by decide +kernel⟩

theorem witness_CompareLatency_cmpRplWrite : ∃ (s : State) (u : Sub) (k : Fin 6) (v : Word),
    (s.powered (rplAddr k) = true) ∧ (s.recordedOn = false) ∧ holds (.cmpRplWrite u k v) s (fun t => decide (t.rd (rplAddr k) = (if k.val = 5 then v &&& 0x1FFFF#32 else v))) = true :=
  ⟨State.reset, u0, ⟨5, by decide⟩, 0xFFFFFFFF, by decide +kernel⟩

theorem witness_CompareLatency_cmpRplWrite2 : ∃ (s : State) (u : Sub) (k : Fin 6) (v : Word),
    (s.powered (rplAddr k) = true) ∧ (s.recordedOn = true) ∧ holds (.cmpRplWrite u k v) s (fun t => decide (t.regs = s.regs)) = true :=
  ⟨(State.reset.set (R.CMP_P_CTRL_EN 0) 1).set (R.CMP_P_REF_TYPE 0) 3, u0, ⟨0, by decide⟩, 7, by decide +kernel⟩

theorem witness_MetrologyConverter_mcStart : ∃ (s : State) (u : Sub),
    (s.powered R.MET_MC_CTRL = true) ∧ ((s.atF u).mcRefuse = 0) ∧ (s.met.conv = none) ∧ (s.is R.MET_MC_STAT_HK = false) ∧ holds (.mcStart u) s (fun t => decide (t.met.want = true ∧ t.met.conv.map ConvSt.sel = some (s.get ⟨R.MET_SEL, 0, 12⟩) ∧ t.is R.MET_MC_STAT_BUSY = true)) = true :=
  ⟨State.reset.put R.MET_SEL 0x60, u0, by decide +kernel⟩

theorem witness_MetrologyConverter_mcStart2 : ∃ (s : State) (u : Sub),
    (s.powered R.MET_MC_CTRL = true) ∧ ((s.atF u).mcRefuse ≠ 0) ∧ holds (.mcStart u) s (fun t => decide (t.get R.MET_MC_STAT_REFUSE = (s.atF u).mcRefuse ∧ t.met = s.met)) = true :=
  ⟨State.reset.put R.MET_SEL 0x3F, u0, by decide +kernel⟩

theorem witness_MetrologyConverter_mcCont : ∃ (s : State) (u : Sub),
    (s.powered R.MET_MC_CTRL = true) ∧ (s.is R.MET_MC_CTRL_CONT = false) ∧ ((s.atF u).mcRefuse = 0) ∧ (s.met.conv = none) ∧ (s.is R.MET_MC_STAT_HK = false) ∧ holds (.mcCont u) s (fun t => decide (t.is R.MET_MC_CTRL_CONT = true ∧ t.met.conv.map ConvSt.sel = some (s.get ⟨R.MET_SEL, 0, 12⟩))) = true :=
  ⟨State.reset.put R.MET_SEL 0x60, u0, by decide +kernel⟩

theorem witness_MetrologyConverter_mcCont2 : ∃ (s : State) (u : Sub),
    (s.powered R.MET_MC_CTRL = true) ∧ (s.is R.MET_MC_CTRL_CONT = false) ∧ ((s.atF u).mcRefuse ≠ 0) ∧ holds (.mcCont u) s (fun t => decide (t.is R.MET_MC_CTRL_CONT = false ∧ t.get R.MET_MC_STAT_REFUSE = (s.atF u).mcRefuse)) = true :=
  ⟨State.reset.put R.MET_SEL 0x3F, u0, by decide +kernel⟩

theorem witness_MetrologyConverter_mcAbort : ∃ (s : State) (u : Sub),
    (s.powered R.MET_MC_CTRL = true) ∧ (s.is R.MET_MC_CTRL_CONT = false) ∧ holds (.mcAbort u) s (fun t => decide (t.met.conv = none ∧ t.met.want = false ∧ t.is R.MET_MC_STAT_BUSY = false)) = true :=
  ⟨State.reset.setMet { conv := some { sel := 0x60, cfg := 0x21, at_ := 0, len := 5, integ := 4 }, want := true }, u0, by decide +kernel⟩

theorem witness_MetrologyConverter_conversionDone : ∃ (s : State) (u : Sub) (code : Int) (c : ConvSt),
    (s.met.conv = some c) ∧ (c.stale = false) ∧ (s.met.hkDue = false) ∧ (s.is R.MET_MC_CTRL_CONT = false) ∧ (c.at_ + c.len ≤ (s.atF u).fU) ∧ (clampN 1 4 (fieldOf c.cfg 0 3) ≤ (((clampI (-8388607) 8388607 code) :: s.met.hist).take 16).length) :=
  ⟨({ State.reset.setMet { conv := some { sel := 0x60, cfg := 0x21, at_ := 0, len := 5, integ := 4 }, want := true } with time := { fTick := 5 } }), u0, 70, { sel := 0x60, cfg := 0x21, at_ := 0, len := 5, integ := 4 }, by decide +kernel⟩

theorem witness_MetrologyConverter_conversionDone2 : ∃ (s : State) (u : Sub) (code : Int) (c : ConvSt),
    (s.met.conv = some c) ∧ (c.stale = false) ∧ (s.met.hkDue = false) ∧ (s.is R.MET_MC_CTRL_CONT = false) ∧ (c.at_ + c.len ≤ (s.atF u).fU) ∧ ((((clampI (-8388607) 8388607 code) :: s.met.hist).take 16).length < clampN 1 4 (fieldOf c.cfg 0 3)) ∧ (s.met.want = false) ∧ holds (.conversionDone u code) s (fun t => decide (t.met.hist = ((clampI (-8388607) 8388607 code) :: s.met.hist).take 16 ∧ t.met.conv = none ∧ t.is R.MET_MC_STAT_BUSY = false)) = true :=
  ⟨({ State.reset.setMet { conv := some { sel := 0x60, cfg := 0x22, at_ := 0, len := 5, integ := 4 } } with time := { fTick := 5 } }), u0, 70, { sel := 0x60, cfg := 0x22, at_ := 0, len := 5, integ := 4 }, by decide +kernel⟩

theorem witness_MetrologyConverter_lineSyncEdge : ∃ (s : State) (u : Sub) (e : Nat),
    (s.domOn (domF 12) = true) ∧ (s.met.edge = some e) ∧ (6153846 ≤ (2 * ((s.atF u).fU - e) + 256) / 512 ∧ (2 * ((s.atF u).fU - e) + 256) / 512 ≤ 8888889) ∧ (s.get R.MET_MC_CFG_LINE_SRC = 2) ∧ holds (.lineSyncEdge u) s (fun t => decide (t.met.periods = ((2 * ((s.atF u).fU - e) + 256) / 512 :: s.met.periods).take 16 ∧ t.met.edge = some (s.atF u).fU ∧ t.is R.MET_LINE_LOCK = true ∧ t.is R.MET_LINE_LOST = false)) = true :=
  ⟨({ State.reset.setMet { edge := some 0 } with time := { fTick := 2000 } }).set R.MET_MC_CFG_LINE_SRC 2, u0, 0, by decide +kernel⟩

theorem witness_MetrologyConverter_lineLost : ∃ (s : State) (u : Sub) (e : Nat),
    (s.domOn (domF 12) = true) ∧ (s.get R.MET_MC_CFG_LINE_SRC = 2) ∧ (s.met.edge = some e) ∧ (e + 10000 * unitsPerTick ≤ (s.atF u).fU) ∧ (s.is R.MET_LINE_LOST = false) ∧ holds (.lineLost u) s (fun t => decide (t.is R.MET_LINE_LOCK = false ∧ t.is R.MET_LINE_LOST = true ∧ t.met.hist = [] ∧ t.is R.MET_EVT_LINE_LOST = true)) = true :=
  ⟨({ State.reset.setMet { edge := some 0 } with time := { fTick := 20000 } }).set R.MET_MC_CFG_LINE_SRC 2, u0, 0, by decide +kernel⟩

theorem witness_MetrologyConverter_refbufOn : ∃ (s : State) (u : Sub),
    (s.powered R.MET_REF = true) ∧ (s.is R.MET_REF_MC_REFBUF = false) ∧ holds (.refbufOn u) s (fun t => decide (t.is R.MET_REF_MC_REFBUF = true ∧ t.get R.MET_REF_WAIT = 10000 ∧ t.met.readyAt = (s.atF u).fU + 10000 * unitsPerTick)) = true :=
  ⟨State.reset, u0, by decide +kernel⟩

theorem witness_MetrologyConverter_refReady : ∃ (s : State) (u : Sub),
    (s.powered R.MET_REF = true) ∧ (s.is R.MET_REF_MC_REFBUF = true) ∧ (s.is R.MET_REF_READY = false) ∧ (s.met.readyAt ≤ (s.atF u).fU) ∧ holds (.refReady u) s (fun t => decide (t.is R.MET_REF_READY = true ∧ t.get R.MET_REF_WAIT = 0 ∧ t.is R.MET_EVT_REF_READY = true)) = true :=
  ⟨State.reset.set R.MET_REF_MC_REFBUF 1, u0, by decide +kernel⟩

theorem witness_MetrologyConverter_refbufOff : ∃ (s : State) (u : Sub),
    (s.powered R.MET_REF = true) ∧ (s.is R.MET_REF_MC_REFBUF = true) ∧ holds (.refbufOff u) s (fun t => decide (t.is R.MET_REF_MC_REFBUF = false ∧ t.is R.MET_REF_READY = false ∧ t.met.offAt = some (s.atF u).fU)) = true :=
  ⟨(State.reset.set R.MET_REF_MC_REFBUF 1).set R.MET_REF_READY 1, u0, by decide +kernel⟩

theorem witness_HousekeepingAndCalibration_hkScanStart : ∃ (s : State) (u : Sub),
    (s.powered R.MET_HK = true) ∧ (s.is R.MET_MC_STAT_HK = false) ∧ (s.is R.MET_MC_STAT_RUN_OWNS = false) ∧ (((s.atF u).time.fUnit = 0 ∧ s.time.fTick % s.hkPeriod = 0) ∨ s.met.hkDue = true) ∧ (s.met.conv = none) ∧ holds (.hkScanStart u) s (fun t => decide (t.is R.MET_MC_STAT_HK = true ∧ t.met.hkAt = (s.atF u).fU ∧ t.met.hkDue = false ∧ t.met.hist = [])) = true :=
  ⟨State.reset, u0, by decide +kernel⟩

theorem witness_HousekeepingAndCalibration_hkScanStart2 : ∃ (s : State) (u : Sub),
    (s.powered R.MET_HK = true) ∧ (s.is R.MET_MC_STAT_HK = false) ∧ (s.is R.MET_MC_STAT_RUN_OWNS = false) ∧ (((s.atF u).time.fUnit = 0 ∧ s.time.fTick % s.hkPeriod = 0)) ∧ (s.met.conv.isSome = true) ∧ holds (.hkScanStart u) s (fun t => decide (t.met.hkDue = true ∧ t.regs = s.regs)) = true :=
  ⟨State.reset.setMet { conv := some { sel := 0x60, cfg := 0x21, at_ := 0, len := 5, integ := 4 } }, u0, by decide +kernel⟩

theorem witness_HousekeepingAndCalibration_hkScanDone : ∃ (s : State) (u : Sub) (temps : List Int) (refuv : Option Int),
    (s.is R.MET_MC_STAT_HK = true) ∧ (s.is R.MET_HK_REF_WATCH = false) ∧ (s.met.hkAt + 16 * convUnits 10 s.linePeriod.1 ≤ (s.atF u).fU) ∧ (temps.length ≤ 7) ∧ (s.met.want = false) ∧ (s.is R.MET_MC_CTRL_CONT = false) ∧ ((s.atF u).refSettled s.met.hkAt = true) ∧ (0 < temps.length) ∧ holds (.hkScanDone u temps refuv) s (fun t => decide (t.is R.MET_MC_STAT_HK = false ∧ t.val (R.MET_TEMP 0) = codeOf 32 (temps.getD 0 0) ∧ t.rd R.MET_TM = s.rd R.MET_TM)) = true :=
  ⟨(({ State.reset.setMet {} with time := { fTick := 2000000 } }).set R.MET_MC_STAT_HK 1).set R.MET_REF_MC_REFBUF 1, u0, [25000], none, by decide +kernel⟩

theorem witness_HousekeepingAndCalibration_ddacEnable : ∃ (s : State) (u : Sub) (v : Word),
    (s.powered R.MET_DDAC = true) ∧ (s.mode = 1 ∨ s.mode = 2) ∧ (s.get R.MET_CAL_STAT_STATE = 0) ∧ (s.met.runDue = false) ∧ (fieldOf v 31 1 = 1) ∧ holds (.ddacEnable u v) s (fun t => decide (t.get R.MET_DDAC_EN = 1 ∧ t.get R.MET_DDAC_LANE = fieldOf v 16 6 ∧ t.get R.MET_DDAC_CODE = fieldOf v 0 12)) = true :=
  ⟨State.reset.set R.SYS_MODE_MODE 2, u0, 0x80030123, by decide +kernel⟩

theorem witness_HousekeepingAndCalibration_bankReady : ∃ (s : State) (u : Sub) (b : Nat × Int),
    (s.met.build = some b) ∧ (s.met.again = false) ∧ holds (.bankReady u) s (fun t => decide (t.met.build = none ∧ t.met.ready.map Prod.fst = some (s.atF u).fU ∧ t.met.accepted = false)) = true :=
  ⟨State.reset.setMet { build := some (0, 25000) }, u0, (0, 25000), by decide +kernel⟩

theorem witness_HousekeepingAndCalibration_calRun : ∃ (s : State) (u : Sub),
    (s.powered R.MET_CAL_CTRL = true) ∧ ((s.atF u).runRefused = false) ∧ holds (.calRun u) s (fun t => decide (t.is R.MET_CAL_CTRL_RUN = true ∧ t.get R.MET_CAL_STAT_STATE = 1 ∧ t.met.runDue = true)) = true :=
  ⟨(State.reset.set R.SYS_MODE_MODE 2).set R.MET_REF_READY 1, u0, by decide +kernel⟩

theorem witness_HousekeepingAndCalibration_calRun2 : ∃ (s : State) (u : Sub),
    (s.powered R.MET_CAL_CTRL = true) ∧ ((s.atF u).runRefused = true) ∧ holds (.calRun u) s (fun t => decide (t.get R.MET_CAL_STAT_RESULT = 6 ∧ t.met = s.met)) = true :=
  ⟨State.reset, u0, by decide +kernel⟩

theorem witness_HousekeepingAndCalibration_calAutoStart : ∃ (s : State) (u : Sub),
    (s.powered R.MET_CAL_CTRL = true) ∧ (s.is R.MET_CAL_CTRL_AUTO_EN = true) ∧ ((s.get R.MET_CAL_STAT_DUE_CAUSE).testBit 0 = true ∨ (s.get R.MET_CAL_STAT_DUE_CAUSE).testBit 1 = true) ∧ (s.is R.MET_CAL_STAT_REF_PRESENT = true) ∧ ((s.atF u).runRefused = false) ∧ holds (.calAutoStart u) s (fun t => decide (t.get R.MET_CAL_STAT_STATE = 1 ∧ t.met.runDue = true)) = true :=
  ⟨((((State.reset.set R.SYS_MODE_MODE 2).set R.MET_REF_READY 1).set R.MET_CAL_CTRL_AUTO_EN 1).set R.MET_CAL_STAT_DUE_CAUSE 1).set R.MET_CAL_STAT_REF_PRESENT 1, u0, by decide +kernel⟩

theorem witness_HousekeepingAndCalibration_calRunEnd : ∃ (s : State) (u : Sub) (r : CalRun),
    (s.get R.MET_CAL_STAT_STATE = 1) ∧ (s.get R.MET_MC_STAT_RUN_OWNS = 1) ∧ (r.dacs = []) ∧ (s.is R.MET_CAL_CTRL_REPORT_PTS = false) ∧ (((s.atF u).newTm r.p2.temp).runVerdict (((itemSort (r.p1.items.filter (fun i => itemIn s.met.runSlots i.id))).filterMap (fun x => (r.p2.items.find? (fun y => y.id == x.id)).map (fun y => (x, y))))) r.p1.temp r.p2.temp = none) :=
  ⟨(State.reset.set R.MET_CAL_STAT_STATE 1).set R.MET_MC_STAT_RUN_OWNS 1, u0, ⟨⟨25000, []⟩, ⟨25000, []⟩, [], [], []⟩, by decide +kernel⟩

theorem witness_HousekeepingAndCalibration_calRunEnd2 : ∃ (s : State) (u : Sub) (r : CalRun) (v : Nat × Nat × Int),
    (s.get R.MET_CAL_STAT_STATE = 1) ∧ (s.get R.MET_MC_STAT_RUN_OWNS = 1) ∧ (r.dacs = []) ∧ (s.is R.MET_CAL_CTRL_REPORT_PTS = false) ∧ (((s.atF u).newTm r.p2.temp).runVerdict (((itemSort (r.p1.items.filter (fun i => itemIn s.met.runSlots i.id))).filterMap (fun x => (r.p2.items.find? (fun y => y.id == x.id)).map (fun y => (x, y))))) r.p1.temp r.p2.temp = some v) ∧ (v.1 < 16) :=
  ⟨(State.reset.set R.MET_CAL_STAT_STATE 1).set R.MET_MC_STAT_RUN_OWNS 1, u0, ⟨⟨25000, []⟩, ⟨65000, []⟩, [], [], []⟩, (3, 0, 0), by decide +kernel⟩

theorem witness_HousekeepingAndCalibration_calAbort : ∃ (s : State) (u : Sub),
    (s.powered R.MET_CAL_CTRL = true) ∧ (s.get R.MET_CAL_STAT_STATE ≠ 0) ∧ (s.fault.calAbort = none) ∧ holds (.calAbort u) s (fun t => decide (t.fault.calAbort = some 5 ∧ t.get R.MET_CAL_STAT_STATE = 2)) = true :=
  ⟨(State.reset.set R.MET_CAL_STAT_STATE 1).set R.MET_MC_STAT_RUN_OWNS 1, u0, by decide +kernel⟩

theorem witness_HousekeepingAndCalibration_calAbortDone : ∃ (s : State) (u : Sub) (refLost : Bool) (res : Nat),
    (s.get R.MET_CAL_STAT_STATE ≠ 0) ∧ (s.fault.calAbort = some res) ∧ (res < 16) ∧ holds (.calAbortDone u refLost) s (fun t => decide (t.get R.MET_CAL_STAT_RESULT = res ∧ t.get R.MET_CAL_STAT_STATE = 0 ∧ t.fault.calAbort = none ∧ t.is R.MET_EVT_CAL_DONE = true)) = true :=
  ⟨({ State.reset with fault := { calAbort := some 5 } }).set R.MET_CAL_STAT_STATE 2, u0, true, 5, by decide +kernel⟩

theorem witness_HousekeepingAndCalibration_setStoreTimeout : ∃ (s : State) (u : Sub) (x : Nat × CalSet),
    (s.met.newSet = some x) ∧ (x.1 + 100000 * unitsPerTick ≤ (s.atF u).fU) ∧ ((s.get R.MET_CAL_STAT_DUE_CAUSE).testBit 4 = false) ∧ holds (.setStoreTimeout u) s (fun t => decide ((t.get R.MET_CAL_STAT_DUE_CAUSE).testBit 4 = true ∧ t.is R.MET_CAL_STAT_CAL_DUE = true ∧ t.is R.MET_EVT_CAL_DUE = true)) = true :=
  ⟨{ State.reset.setMet { newSet := some (0, ⟨0, 0, 0, 0, 0, 0, [], []⟩) } with time := { fTick := 200000 } }, u0, (0, ⟨0, 0, 0, 0, 0, 0, [], []⟩), by decide +kernel⟩

theorem witness_HousekeepingAndCalibration_metCalClrStats : ∃ (s : State) (u : Sub),
    (s.powered R.MET_CAL_CTRL = true) ∧ holds (.metCalClrStats u) s (fun t => decide (t.val R.MET_CAL_REJ = 0)) = true :=
  ⟨State.reset.put R.MET_CAL_REJ 7, u0, by decide +kernel⟩

theorem witness_PodRequests_hello : ∃ (s : State) (u : Sub) (q : Idx16),
    (((s.atF u).podNext q 0x01 []).isSome = true) ∧ holds (.hello u q none) s (fun t => decide ((t.pod q).cur = (s.atF u).podNext q 0x01 [] ∧ (t.pod q).seq = ((s.pod q).seq + 1) % 8 ∧ t.regs = s.regs)) = true :=
  ⟨((State.reset.set (R.POD_S_STAT_POWERED 0) 1).setPod 0 { step := 3 }), u0, ⟨0, by decide⟩, by decide +kernel⟩

theorem witness_PodRequests_setRate : ∃ (s : State) (u : Sub) (q : Idx16),
    (((s.atF u).podNext q 0x02 []).isSome = true) ∧ holds (.setRate u q none) s (fun t => decide ((t.pod q).cur = (s.atF u).podNext q 0x02 [] ∧ (t.pod q).seq = ((s.pod q).seq + 1) % 8 ∧ t.regs = s.regs)) = true :=
  ⟨((State.reset.set (R.POD_S_STAT_POWERED 0) 1).setPod 0 { step := 4, cand := 1 }), u0, ⟨0, by decide⟩, by decide +kernel⟩

theorem witness_PodRequests_linkTest : ∃ (s : State) (u : Sub) (q : Idx16) (data : List Byte),
    (((s.atF u).podNext q 0x03 ((data ++ List.replicate 64 0).take 64)).isSome = true) ∧ holds (.linkTest u q data none) s (fun t => decide ((t.pod q).cur = (s.atF u).podNext q 0x03 ((data ++ List.replicate 64 0).take 64) ∧ (t.pod q).seq = ((s.pod q).seq + 1) % 8 ∧ t.regs = s.regs)) = true :=
  ⟨(((State.reset.set (R.POD_S_STAT_POWERED 0) 1).setPod 0 { step := 4, cand := 1 }).set (R.POD_S_STAT_RATE 0) 1), u0, ⟨0, by decide⟩, [1, 2], by decide +kernel⟩

theorem witness_PodRequests_caps : ∃ (s : State) (u : Sub) (q : Idx16),
    (((s.atF u).podNext q 0x04 []).isSome = true) ∧ holds (.caps u q none) s (fun t => decide ((t.pod q).cur = (s.atF u).podNext q 0x04 [] ∧ (t.pod q).seq = ((s.pod q).seq + 1) % 8 ∧ t.regs = s.regs)) = true :=
  ⟨((State.reset.set (R.POD_S_STAT_POWERED 0) 1).setPod 0 { step := 5 }), u0, ⟨0, by decide⟩, by decide +kernel⟩

theorem witness_PodRequests_certRead : ∃ (s : State) (u : Sub) (q : Idx16),
    (((s.atF u).podNext q 0x05 []).isSome = true) ∧ holds (.certRead u q none) s (fun t => decide ((t.pod q).cur = (s.atF u).podNext q 0x05 [] ∧ (t.pod q).seq = ((s.pod q).seq + 1) % 8 ∧ t.regs = s.regs)) = true :=
  ⟨((State.reset.set (R.POD_S_STAT_POWERED 0) 1).setPod 0 { step := 6 }), u0, ⟨0, by decide⟩, by decide +kernel⟩

theorem witness_PodRequests_stressRead : ∃ (s : State) (u : Sub) (q : Idx16),
    (((s.atF u).podNext q 0x07 []).isSome = true) ∧ holds (.stressRead u q none) s (fun t => decide ((t.pod q).cur = (s.atF u).podNext q 0x07 [] ∧ (t.pod q).seq = ((s.pod q).seq + 1) % 8 ∧ t.regs = s.regs)) = true :=
  ⟨(((State.reset.set (R.POD_S_STAT_POWERED 0) 1).set (R.POD_S_STAT_STATE 0) 4).setPod 0 { stress := true }), u0, ⟨0, by decide⟩, by decide +kernel⟩

theorem witness_PodRequests_poll : ∃ (s : State) (u : Sub) (q : Idx16),
    (((s.atF u).podNext q 0x08 []).isSome = true) ∧ holds (.poll u q none) s (fun t => decide ((t.pod q).cur = (s.atF u).podNext q 0x08 [] ∧ (t.pod q).seq = ((s.pod q).seq + 1) % 8 ∧ t.regs = s.regs)) = true :=
  ⟨(((State.reset.set (R.POD_S_STAT_POWERED 0) 1).set (R.POD_S_STAT_STATE 0) 4).setPod 0 { poll := true }), u0, ⟨0, by decide⟩, by decide +kernel⟩

theorem witness_PodRequests_config : ∃ (s : State) (u : Sub) (q : Idx16),
    (((s.atF u).podNext q 0x09 []).isSome = true) ∧ holds (.config u q none) s (fun t => decide ((t.pod q).cur = (s.atF u).podNext q 0x09 [] ∧ (t.pod q).seq = ((s.pod q).seq + 1) % 8 ∧ t.regs = s.regs)) = true :=
  ⟨(((State.reset.set (R.POD_S_STAT_POWERED 0) 1).set (R.POD_S_STAT_STATE 0) 4).setPod 0 { cfg := true }), u0, ⟨0, by decide⟩, by decide +kernel⟩

theorem witness_PodRequests_hold : ∃ (s : State) (u : Sub) (q : Idx16),
    (((s.atF u).podNext q 0x0B []).isSome = true) ∧ holds (.hold u q none) s (fun t => decide ((t.pod q).cur = (s.atF u).podNext q 0x0B [] ∧ (t.pod q).seq = ((s.pod q).seq + 1) % 8 ∧ t.regs = s.regs)) = true :=
  ⟨(((State.reset.set (R.POD_S_STAT_POWERED 0) 1).set (R.POD_S_STAT_STATE 0) 4).setPod 0 { hold := some 1 }), u0, ⟨0, by decide⟩, by decide +kernel⟩

theorem witness_PodRequests_fwWrite : ∃ (s : State) (u : Sub) (q : Idx16) (ofs : Nat) (data : List Byte),
    (((s.atF u).podNext q 0x0C (leBytes 4 ofs ++ data.take 4088)).isSome = true) ∧ holds (.fwWrite u q ofs data none) s (fun t => decide ((t.pod q).cur = (s.atF u).podNext q 0x0C (leBytes 4 ofs ++ data.take 4088) ∧ (t.pod q).seq = ((s.pod q).seq + 1) % 8 ∧ t.regs = s.regs)) = true :=
  ⟨((State.reset.set (R.POD_S_STAT_POWERED 0) 1).set (R.POD_S_STAT_STATE 0) 4), u0, ⟨0, by decide⟩, 0, [1, 2], by decide +kernel⟩

theorem witness_PodRequests_fwCommit : ∃ (s : State) (u : Sub) (q : Idx16) (digest : List Byte),
    (((s.atF u).podNext q 0x0D ((digest ++ List.replicate 32 0).take 32)).isSome = true) ∧ holds (.fwCommit u q digest none) s (fun t => decide ((t.pod q).cur = (s.atF u).podNext q 0x0D ((digest ++ List.replicate 32 0).take 32) ∧ (t.pod q).seq = ((s.pod q).seq + 1) % 8 ∧ t.regs = s.regs)) = true :=
  ⟨((State.reset.set (R.POD_S_STAT_POWERED 0) 1).set (R.POD_S_STAT_STATE 0) 4), u0, ⟨0, by decide⟩, [1, 2], by decide +kernel⟩

theorem witness_PodRequests_level : ∃ (s : State) (u : Sub) (q : Idx16),
    (((s.atF u).podNext q 0x0A []).isSome = true) :=
  ⟨(((State.reset.set (R.POD_S_STAT_POWERED 0) 1).set (R.POD_S_STAT_STATE 0) 4).setPod 0 { levels := [(⟨0, by decide⟩, .drvHi)] }), u0, ⟨0, by decide⟩, by decide +kernel⟩

theorem witness_PodRequests_challenge : ∃ (s : State) (u : Sub) (q : Idx16),
    (((s.atF u).podCause q 0x06 []).isSome = true) ∧ (((s.atF u).podNext q 0x06 []).isSome = true) :=
  ⟨(((State.reset.set (R.POD_S_STAT_POWERED 0) 1).set (R.POD_S_STAT_STATE 0) 4).setPod 0 { chalDue := true }), u0, ⟨0, by decide⟩, by decide +kernel⟩

theorem witness_PodAnswers_hello : ∃ (s : State) (u : Sub) (q : Idx16) (pl : List Byte),
    (((s.atF u).podNext q 0x01 []).any (fun r => !r.host) = true) ∧ (pl.length ≤ 4096) ∧ holds (.hello u q (some ⟨0, pl⟩)) s (fun t => decide (t.is (R.POD_S_STAT_LINK_UP q) = true ∧ (∀ k : Fin 4, t.val (R.POD_S_SERIAL q k.val) = leAt pl (6 + 4 * k.val) 4) ∧ t.get (R.POD_S_INFO_FW_LEVEL q) = leAt pl 2 2 ∧ (t.pod q).cur = none)) = true :=
  ⟨((State.reset.set (R.POD_S_STAT_POWERED 0) 1).setPod 0 { step := 3 }), u0, ⟨0, by decide⟩, [1, 0, 5, 0, 2, 0, 7], by decide +kernel⟩

theorem witness_PodAnswers_setRate : ∃ (s : State) (u : Sub) (q : Idx16) (pl : List Byte),
    (((s.atF u).podNext q 0x02 []).any (fun r => !r.host) = true) ∧ (pl.length ≤ 4096) ∧ ((s.pod q).cand ≤ 2) ∧ ((s.pod q).step = 4) ∧ ((s.pod q).cand ≠ 0) ∧ holds (.setRate u q (some ⟨0, pl⟩)) s (fun t => decide (t.get (R.POD_S_STAT_RATE q) = (s.pod q).cand ∧ (t.pod q).cur = none ∧ (t.pod q).tests = 0)) = true :=
  ⟨((State.reset.set (R.POD_S_STAT_POWERED 0) 1).setPod 0 { step := 4, cand := 1 }), u0, ⟨0, by decide⟩, [], by decide +kernel⟩

theorem witness_PodAnswers_linkTest : ∃ (s : State) (u : Sub) (q : Idx16) (data : List Byte) (pl : List Byte),
    (((s.atF u).podNext q 0x03 ((data ++ List.replicate 64 0).take 64)).any (fun r => !r.host) = true) ∧ (pl = ((data ++ List.replicate 64 0).take 64)) ∧ ((s.pod q).tests = 15) ∧ holds (.linkTest u q data (some ⟨0, pl⟩)) s (fun t => decide ((t.pod q).step = 5 ∧ (t.pod q).cur = none ∧ t.regs = s.regs)) = true :=
  ⟨(((State.reset.set (R.POD_S_STAT_POWERED 0) 1).setPod 0 { step := 4, cand := 1, tests := 15 }).set (R.POD_S_STAT_RATE 0) 1), u0, ⟨0, by decide⟩, [1], [1] ++ List.replicate 63 0, by decide +kernel⟩

theorem witness_PodAnswers_linkTest2 : ∃ (s : State) (u : Sub) (q : Idx16) (data : List Byte) (pl : List Byte),
    (((s.atF u).podNext q 0x03 ((data ++ List.replicate 64 0).take 64)).any (fun r => !r.host) = true) ∧ (pl.length ≤ 4096) ∧ (pl ≠ ((data ++ List.replicate 64 0).take 64)) ∧ holds (.linkTest u q data (some ⟨0, pl⟩)) s (fun t => decide ((t.pod q).cand = (s.pod q).cand - 1 ∧ (t.pod q).tests = 0 ∧ (t.pod q).cur = none ∧ t.regs = s.regs)) = true :=
  ⟨(((State.reset.set (R.POD_S_STAT_POWERED 0) 1).setPod 0 { step := 4, cand := 1, tests := 15 }).set (R.POD_S_STAT_RATE 0) 1), u0, ⟨0, by decide⟩, [1], [1], by decide +kernel⟩

theorem witness_PodAnswers_caps : ∃ (s : State) (u : Sub) (q : Idx16) (pl : List Byte),
    (((s.atF u).podNext q 0x04 []).any (fun r => !r.host) = true) ∧ (pl.length ≤ 4096) ∧ (s.is (R.POD_S_STAT_POWERED q) = true) ∧ (∀ p : Fin 16, p ≠ q → s.is (R.POD_S_STAT_POWERED p) = false) ∧ (leAt pl 0 2 ≠ 0) ∧ (leAt pl 0 2 ≤ s.podBudget) ∧ (s.get (R.POD_S_POLICY_MIN_FW q) ≤ s.get (R.POD_S_INFO_FW_LEVEL q)) ∧ holds (.caps u q (some ⟨0, pl⟩)) s (fun t => decide ((t.pod q).step = 6 ∧ t.get (R.POD_S_CAPS_DECL_MW q) = leAt pl 0 2 ∧ (∀ k : Fin 4, t.val (R.POD_S_EOL q k.val) = leAt pl (22 + 4 * k.val) 4) ∧ (∀ r : Fin 5, t.val (R.POD_S_SETTLE q r.val) = leAt pl (4 + 2 * r.val) 2) ∧ t.get (R.POD_S_CAPS_RANGES q) = (leAt pl 2 1 % 32 &&& s.get (R.POD_S_POLICY_RANGES q)) ∧ t.val R.POD_PWR_USED = leAt pl 0 2)) = true :=
  ⟨((((State.reset.set (R.POD_S_STAT_POWERED 0) 1).setPod 0 { step := 5 }).put R.POD_PWR_BUDGET 72000).set (R.POD_S_POLICY_MIN_FW 0) 0), u0, ⟨0, by decide⟩, [16, 0, 31, 1, 9], by decide +kernel⟩

theorem witness_PodAnswers_certRead : ∃ (s : State) (u : Sub) (q : Idx16) (pl : List Byte),
    (((s.atF u).podNext q 0x05 []).any (fun r => !r.host) = true) ∧ (pl.length = min 4096 (5325 - (s.pod q).cert.length)) ∧ ((s.pod q).cert.length + pl.length < 5325) :=
  ⟨((State.reset.set (R.POD_S_STAT_POWERED 0) 1).setPod 0 { step := 6 }), u0, ⟨0, by decide⟩, List.replicate 4096 0, by exact ⟨by decide +kernel, by rw [List.length_replicate]; decide +kernel, by rw [List.length_replicate]; decide +kernel⟩⟩

theorem witness_PodAnswers_challenge : ∃ (s : State) (u : Sub) (q : Idx16) (st : Nat),
    (((s.atF u).podCause q 0x06 []).isSome = true) ∧ (((s.atF u).podNext q 0x06 []).isSome = true) ∧ ((s.pod q).step ≠ 7) ∧ ((s.pod q).recheckFails < 2) ∧ (st % 256 ≠ 0) :=
  ⟨(((State.reset.set (R.POD_S_STAT_POWERED 0) 1).set (R.POD_S_STAT_STATE 0) 4).setPod 0 { chalDue := true }), u0, ⟨0, by decide⟩, 3, by decide +kernel⟩

theorem witness_PodAnswers_stressRead : ∃ (s : State) (u : Sub) (q : Idx16) (st : Nat),
    (((s.atF u).podNext q 0x07 []).any (fun r => !r.host) = true) ∧ ((s.pod q).step = 8) ∧ (st % 256 ≠ 0) ∧ (s.get (R.POD_S_STAT_STATE q) = 3) ∧ holds (.stressRead u q (some ⟨st, []⟩)) s (fun t => decide (t.get (R.POD_S_STAT_STATE q) = 5 ∧ t.get (R.POD_S_STAT_REFUSE q) = 8 ∧ t.is (R.POD_S_STAT_POWERED q) = false ∧ t.is (R.POD_S_EVT_REFUSED q) = true)) = true :=
  ⟨(((State.reset.set (R.POD_S_STAT_POWERED 0) 1).set (R.POD_S_STAT_STATE 0) 3).setPod 0 { step := 8 }), u0, ⟨0, by decide⟩, 3, by decide +kernel⟩

theorem witness_PodAnswers_poll : ∃ (s : State) (u : Sub) (q : Idx16) (pl : List Byte),
    (((s.atF u).podNext q 0x08 []).any (fun r => !r.host) = true) ∧ (pl.length ≤ 4096) ∧ (leAt pl 0 1 % 8 = 0) ∧ holds (.poll u q (some ⟨0, pl⟩)) s (fun t => decide ((t.pod q).poll = false ∧ (t.pod q).selfHeld = false ∧ (t.pod q).cur = none ∧ ((t.pod q).stress = true ↔ ((s.pod q).stress = true ∨ 0 < leAt pl 2 2)) ∧ t.regs = s.regs)) = true :=
  ⟨(((State.reset.set (R.POD_S_STAT_POWERED 0) 1).set (R.POD_S_STAT_STATE 0) 4).setPod 0 { poll := true }), u0, ⟨0, by decide⟩, [0, 0, 1], by decide +kernel⟩

theorem witness_PodAnswers_poll2 : ∃ (s : State) (u : Sub) (q : Idx16) (pl : List Byte),
    (((s.atF u).podNext q 0x08 []).any (fun r => !r.host) = true) ∧ (pl.length ≤ 4096) ∧ (leAt pl 0 1 % 8 = 1) ∧ holds (.poll u q (some ⟨0, pl⟩)) s (fun t => decide ((t.pod q).poll = false ∧ (t.pod q).selfHeld = true ∧ (t.pod q).cur = none)) = true :=
  ⟨(((State.reset.set (R.POD_S_STAT_POWERED 0) 1).set (R.POD_S_STAT_STATE 0) 4).setPod 0 { poll := true }), u0, ⟨0, by decide⟩, [1], by decide +kernel⟩

theorem witness_PodAnswers_config : ∃ (s : State) (u : Sub) (q : Idx16) (pl : List Byte),
    (((s.atF u).podNext q 0x09 []).any (fun r => !r.host) = true) ∧ (pl.length ≤ 4096) ∧ ((s.pod q).step ≠ 9) ∧ holds (.config u q (some ⟨0, pl⟩)) s (fun t => decide ((t.pod q).cfg = false ∧ (t.pod q).cur = none ∧ t.regs = s.regs)) = true :=
  ⟨(((State.reset.set (R.POD_S_STAT_POWERED 0) 1).set (R.POD_S_STAT_STATE 0) 4).setPod 0 { cfg := true }), u0, ⟨0, by decide⟩, [], by decide +kernel⟩

theorem witness_PodAnswers_config2 : ∃ (s : State) (u : Sub) (q : Idx16) (pl : List Byte),
    (((s.atF u).podNext q 0x09 []).any (fun r => !r.host) = true) ∧ (pl.length ≤ 4096) ∧ ((s.pod q).step = 9) ∧ holds (.config u q (some ⟨0, pl⟩)) s (fun t => decide ((t.pod q).attachDue = true ∧ (t.pod q).released = true ∧ (t.pod q).cur = none)) = true :=
  ⟨((State.reset.set (R.POD_S_STAT_POWERED 0) 1).setPod 0 { step := 9 }), u0, ⟨0, by decide⟩, [], by decide +kernel⟩

theorem witness_PodAnswers_level : ∃ (s : State) (u : Sub) (q : Idx16) (pl : List Byte) (p : Port) (w : LevelReg),
    (((s.atF u).podNext q 0x0A []).any (fun r => !r.host) = true) ∧ (pl.length ≤ 4096) ∧ ((s.pod q).levels = [(p, w)]) :=
  ⟨(((State.reset.set (R.POD_S_STAT_POWERED 0) 1).set (R.POD_S_STAT_STATE 0) 4).setPod 0 { levels := [(⟨0, by decide⟩, .drvHi)] }), u0, ⟨0, by decide⟩, [], ⟨0, by decide⟩, .drvHi, by decide +kernel⟩

theorem witness_PodAnswers_hold : ∃ (s : State) (u : Sub) (q : Idx16) (pl : List Byte) (b : Nat),
    (((s.atF u).podNext q 0x0B []).any (fun r => !r.host) = true) ∧ (pl.length ≤ 4096) ∧ ((s.pod q).hold = some b) ∧ (b < 256) ∧ holds (.hold u q (some ⟨0, pl⟩)) s (fun t => decide ((t.pod q).hold = none ∧ (t.pod q).selfHeld = (b == 1) ∧ (t.pod q).cur = none ∧ t.regs = s.regs)) = true :=
  ⟨(((State.reset.set (R.POD_S_STAT_POWERED 0) 1).set (R.POD_S_STAT_STATE 0) 4).setPod 0 { hold := some 1 }), u0, ⟨0, by decide⟩, [], 1, by decide +kernel⟩

theorem witness_PodAnswers_fwWrite : ∃ (s : State) (u : Sub) (q : Idx16) (ofs : Nat) (data : List Byte) (st : Nat),
    (((s.atF u).podNext q 0x0C (leBytes 4 ofs ++ data.take 4088)).any (fun r => !r.host) = true) ∧ (st % 256 ≠ 0) ∧ holds (.fwWrite u q ofs data (some ⟨st, []⟩)) s (fun t => decide ((t.pod q).fwBad = true ∧ (t.pod q).cur = none ∧ t.regs = s.regs)) = true :=
  ⟨((State.reset.set (R.POD_S_STAT_POWERED 0) 1).set (R.POD_S_STAT_STATE 0) 4), u0, ⟨0, by decide⟩, 0, [1, 2], 3, by decide +kernel⟩

theorem witness_PodAnswers_fwCommit : ∃ (s : State) (u : Sub) (q : Idx16) (digest : List Byte) (st : Nat),
    (((s.atF u).podNext q 0x0D ((digest ++ List.replicate 32 0).take 32)).any (fun r => !r.host) = true) ∧ (st % 256 ≠ 0) ∧ holds (.fwCommit u q digest (some ⟨st, []⟩)) s (fun t => decide ((t.pod q).fwBad = true ∧ (t.pod q).cur = none ∧ t.regs = s.regs)) = true :=
  ⟨((State.reset.set (R.POD_S_STAT_POWERED 0) 1).set (R.POD_S_STAT_STATE 0) 4), u0, ⟨0, by decide⟩, [1, 2], 3, by decide +kernel⟩

theorem witness_PodAnswers_fwWrite2 : ∃ (s : State) (u : Sub) (q : Idx16) (ofs : Nat) (data : List Byte) (pl : List Byte),
    (((s.atF u).podNext q 0x0C (leBytes 4 ofs ++ data.take 4088)).any (fun r => !r.host) = true) ∧ (pl.length ≤ 4096) ∧ (ofs < 2 ^ 32) ∧ holds (.fwWrite u q ofs data (some ⟨0, pl⟩)) s (fun t => decide ((t.pod q).fwGot = max (s.pod q).fwGot (ofs + (data.take 4088).length) ∧ (t.pod q).cur = none ∧ t.regs = s.regs)) = true :=
  ⟨((State.reset.set (R.POD_S_STAT_POWERED 0) 1).set (R.POD_S_STAT_STATE 0) 4), u0, ⟨0, by decide⟩, 0, [1, 2], [], by decide +kernel⟩

theorem witness_PodLink_podResponse : ∃ (s : State) (u : Sub) (q : Idx16) (frame : List Byte),
    ((s.pod q).cur = none ∨ leAt frame 0 1 ≠ 0xC5 ∨ frame.length ≠ 10 + leAt frame 4 2) ∧ holds (.podResponse u q frame) s (fun t => decide (t.pods = s.pods ∧ t.regs = s.regs)) = true :=
  ⟨State.reset, u0, ⟨0, by decide⟩, [], by decide +kernel⟩

theorem witness_PodLink_podResponse2 : ∃ (s : State) (u : Sub) (q : Idx16) (frame : List Byte) (r : PodReq),
    ((s.pod q).cur = some r) ∧ (r.cmd = 0x0B) ∧ (r.host = false) ∧ (leAt frame 0 4 = 0xC5 + 256 * (0x80 + 16 * (s.pod q).seq) + 65536 * 0x0B) ∧ (frame.length = 10) ∧ (leAt frame 4 2 = 0) ∧ (leAt frame 6 4 = crc32c (frame.take 6)) ∧ holds (.podResponse u q frame) s (fun t => decide ((t.pod q).hold = none ∧ (t.pod q).cur = none ∧ t.regs = s.regs)) = true :=
  ⟨(((State.reset.set (R.POD_S_STAT_POWERED 0) 1).set (R.POD_S_STAT_STATE 0) 4).setPod 0 { hold := some 1, cur := some { cmd := 0x0B, payload := [1], at_ := 0 } }), u0, ⟨0, by decide⟩, ([0xC5, 0x80, 0x0B, 0, 0, 0] ++ leBytes 4 (crc32c [0xC5, 0x80, 0x0B, 0, 0, 0])), { cmd := 0x0B, payload := [1], at_ := 0 }, by decide +kernel⟩

theorem witness_PodLink_podResponseTimeout : ∃ (s : State) (u : Sub) (q : Idx16) (r : PodReq),
    ((s.pod q).cur = some r) ∧ (r.at_ + podWait r.cmd ≤ (s.atF u).fU) ∧ (r.cmd ≠ 0x03) ∧ (0 < r.tries) ∧ holds (.podResponseTimeout u q) s (fun t => decide ((t.pod q).cur = some { r with tries := r.tries - 1, at_ := (s.atF u).fU } ∧ (t.pod q).seq = (s.pod q).seq ∧ t.val (R.POD_S_LINK_ERR q) = min (s.val (R.POD_S_LINK_ERR q) + 1) (2 ^ 32 - 1))) = true :=
  ⟨({ (((State.reset.set (R.POD_S_STAT_POWERED 0) 1).set (R.POD_S_STAT_STATE 0) 4).setPod 0 { cur := some { cmd := 0x0B, payload := [1], at_ := 0 } }) with time := { fTick := 200000 } } : State), u0, ⟨0, by decide⟩, { cmd := 0x0B, payload := [1], at_ := 0 }, by decide +kernel⟩

theorem witness_PodLink_podResponseTimeout2 : ∃ (s : State) (u : Sub) (q : Idx16) (r : PodReq),
    ((s.pod q).cur = some r) ∧ (r.at_ + podWait r.cmd ≤ (s.atF u).fU) ∧ (r.cmd ≠ 0x03) ∧ (r.tries = 0) ∧ (r.host = false) ∧ ((s.pod q).step = 0) ∧ (s.get (R.POD_S_STAT_STATE q) = 4) ∧ ((s.pod q).recheckFails < 2) ∧ holds (.podResponseTimeout u q) s (fun t => decide (t.get (R.POD_S_STAT_STATE q) = 6 ∧ t.is (R.POD_S_STAT_LINK_UP q) = false ∧ (t.pod q).cur = none ∧ (t.pod q).lostAt = some (s.atF u).fU ∧ t.is (R.POD_S_EVT_LINK_LOST q) = true)) = true :=
  ⟨({ (((State.reset.set (R.POD_S_STAT_POWERED 0) 1).set (R.POD_S_STAT_STATE 0) 4).setPod 0 { cur := some { cmd := 0x0B, payload := [1], at_ := 0, tries := 0 } }) with time := { fTick := 200000 } } : State), u0, ⟨0, by decide⟩, { cmd := 0x0B, payload := [1], at_ := 0, tries := 0 }, by decide +kernel⟩

theorem witness_PodLink_helloTimeout : ∃ (s : State) (u : Sub) (q : Idx16),
    ((s.pod q).step = 3) ∧ ((s.pod q).stepAt + (s.pod q).bootTicks.getD 20000 * unitsPerTick ≤ (s.atF u).fU) ∧ ((s.pod q).reneg = false) ∧ (s.get (R.POD_S_STAT_STATE q) = 2) ∧ holds (.helloTimeout u q) s (fun t => decide (t.get (R.POD_S_STAT_STATE q) = 5 ∧ t.get (R.POD_S_STAT_REFUSE q) = 7 ∧ t.is (R.POD_S_STAT_POWERED q) = false)) = true :=
  ⟨({ (((State.reset.set (R.POD_S_STAT_POWERED 0) 1).set (R.POD_S_STAT_STATE 0) 2).setPod 0 { step := 3 }) with time := { fTick := 200000 } } : State), u0, ⟨0, by decide⟩, by decide +kernel⟩

theorem witness_PodLink_renegotiate : ∃ (s : State) (u : Sub) (q : Idx16),
    (s.get (R.POD_S_STAT_STATE q) = 6) ∧ ((s.pod q).renegAt ≤ (s.atF u).fU) ∧ ((s.pod q).step = 0) ∧ holds (.renegotiate u q) s (fun t => decide ((t.pod q).step = 3 ∧ (t.pod q).reneg = true ∧ (t.pod q).renegAt = (s.atF u).fU + 100000 * unitsPerTick ∧ t.get (R.POD_S_STAT_RATE q) = 0)) = true :=
  ⟨((State.reset.set (R.POD_S_STAT_POWERED 0) 1).set (R.POD_S_STAT_STATE 0) 6), u0, ⟨0, by decide⟩, by decide +kernel⟩

theorem witness_PodLink_linkLossHold : ∃ (s : State) (u : Sub) (q : Idx16) (a : Nat),
    (s.get (R.POD_S_STAT_STATE q) = 6) ∧ ((s.pod q).lostAt = some a) ∧ (a + 100000 * unitsPerTick ≤ (s.atF u).fU) ∧ (s.is (R.POD_S_STAT_PRESENT q) = true) :=
  ⟨({ ((((State.reset.set (R.POD_S_STAT_POWERED 0) 1).set (R.POD_S_STAT_STATE 0) 6).setPod 0 { lostAt := some 0 }).set (R.POD_S_STAT_PRESENT 0) 1) with time := { fTick := 200000 } } : State), u0, ⟨0, by decide⟩, 0, by decide +kernel⟩

theorem witness_PodLink_podSelfHold : ∃ (s : State) (u : Sub) (q : Idx16),
    (s.is (R.POD_S_STAT_POWERED q) = true) ∧ holds (.podSelfHold u q) s (fun t => decide ((t.pod q).selfHeld = true ∧ (t.pod q).seq = (s.pod q).seq)) = true :=
  ⟨(State.reset.set (R.POD_S_STAT_POWERED 0) 1), u0, ⟨0, by decide⟩, by decide +kernel⟩

theorem witness_PodLink_pollInterval : ∃ (s : State) (u : Sub) (q : Idx16),
    (s.get (R.POD_S_STAT_STATE q) = 4) ∧ ((s.pod q).pollAt ≤ (s.atF u).fU) ∧ holds (.pollInterval u q) s (fun t => decide ((t.pod q).poll = true ∧ (t.pod q).pollAt = (s.atF u).fU + 100 * unitsPerTick ∧ t.regs = s.regs)) = true :=
  ⟨((State.reset.set (R.POD_S_STAT_POWERED 0) 1).set (R.POD_S_STAT_STATE 0) 4), u0, ⟨0, by decide⟩, by decide +kernel⟩

theorem witness_PodLink_challengeDue : ∃ (s : State) (u : Sub) (q : Idx16),
    (s.get (R.POD_S_STAT_STATE q) = 4) ∧ ((s.pod q).challengeAt ≤ (s.atF u).fU) ∧ ((s.pod q).recheckAt = none) ∧ holds (.challengeDue u q) s (fun t => decide ((t.pod q).chalDue = true ∧ t.regs = s.regs)) = true :=
  ⟨((State.reset.set (R.POD_S_STAT_POWERED 0) 1).set (R.POD_S_STAT_STATE 0) 4), u0, ⟨0, by decide⟩, by decide +kernel⟩

theorem witness_PodLink_recheckRetry : ∃ (s : State) (u : Sub) (q : Idx16) (a : Nat),
    (s.get (R.POD_S_STAT_STATE q) = 4) ∧ ((s.pod q).recheckAt = some a) ∧ (a ≤ (s.atF u).fU) ∧ holds (.recheckRetry u q) s (fun t => decide ((t.pod q).chalDue = true ∧ (t.pod q).recheckAt = none ∧ t.regs = s.regs)) = true :=
  ⟨(((State.reset.set (R.POD_S_STAT_POWERED 0) 1).set (R.POD_S_STAT_STATE 0) 4).setPod 0 { recheckAt := some 0 }), u0, ⟨0, by decide⟩, 0, by decide +kernel⟩

theorem witness_PodSlots_podInsert : ∃ (s : State) (u : Sub) (q : Idx16),
    (s.is (R.POD_S_STAT_PRESENT q) = false) ∧ (s.powered (R.POD_S_STAT q) = true) ∧ (s.is (R.POD_S_CTRL_POWER_OFF q) = false) :=
  ⟨State.reset, u0, ⟨0, by decide⟩, by decide +kernel⟩

theorem witness_PodSlots_debounceDone : ∃ (s : State) (u : Sub) (q : Idx16) (code : Fin 4),
    (s.get (R.POD_S_STAT_STATE q) = 1) ∧ ((s.pod q).stepAt + 5000 * unitsPerTick ≤ (s.atF u).fU) ∧ (s.domOn (domF 13) = true) ∧ (slotAccepts q code = false ∨ (s.get (R.POD_S_POLICY_ACCEPT q)).testBit (code - 1) = false) ∧ holds (.debounceDone u q code) s (fun t => decide (t.get (R.POD_S_STAT_STATE q) = 5 ∧ t.get (R.POD_S_STAT_REFUSE q) = 1 ∧ t.get (R.POD_S_STAT_TYPE q) = code)) = true :=
  ⟨({ (State.reset.set (R.POD_S_STAT_STATE 0) 1) with time := { fTick := 200000 } } : State), u0, ⟨0, by decide⟩, ⟨3, by decide⟩, by decide +kernel⟩

theorem witness_PodSlots_debounceDone2 : ∃ (s : State) (u : Sub) (q : Idx16) (code : Fin 4),
    (s.get (R.POD_S_STAT_STATE q) = 1) ∧ ((s.pod q).stepAt + 5000 * unitsPerTick ≤ (s.atF u).fU) ∧ (s.domOn (domF 13) = true) ∧ (slotAccepts q code = true) ∧ ((s.get (R.POD_S_POLICY_ACCEPT q)).testBit (code - 1) = true) ∧ (sumTo 16 s.slotPower + 4500 ≤ s.podBudget) ∧ holds (.debounceDone u q code) s (fun t => decide (t.get (R.POD_S_STAT_STATE q) = 2 ∧ t.is (R.POD_S_STAT_POWERED q) = true ∧ t.get (R.POD_S_STAT_TYPE q) = code ∧ (t.pod q).step = 3 ∧ (t.pod q).stepAt = (s.atF u).fU)) = true :=
  ⟨({ ((((State.reset.set (R.POD_S_STAT_STATE 0) 1)).put R.POD_PWR_BUDGET 72000).set (R.POD_S_POLICY_ACCEPT 0) 3) with time := { fTick := 200000 } } : State), u0, ⟨0, by decide⟩, ⟨1, by decide⟩, by decide +kernel⟩

theorem witness_PodSlots_podAttached : ∃ (s : State) (q : Idx16),
    ((s.pod q).attachDue = true) ∧ (s.time.fUnit = 0) ∧ ((s.pod q).reneg = false) ∧ holds (.podAttached q) s (fun t => decide (t.get (R.POD_S_STAT_STATE q) = 4 ∧ (t.pod q).step = 0 ∧ (t.pod q).attachDue = false ∧ t.is (R.POD_S_EVT_ATTACH q) = true ∧ t.val (R.POD_S_ATTACH_CNT q) = min (s.val (R.POD_S_ATTACH_CNT q) + 1) (2 ^ 32 - 1))) = true :=
  ⟨((State.reset.set (R.POD_S_STAT_POWERED 0) 1).setPod 0 { step := 10, attachDue := true }), ⟨0, by decide⟩, by decide +kernel⟩

theorem witness_PodSlots_podAttached2 : ∃ (s : State) (q : Idx16),
    ((s.pod q).attachDue = true) ∧ (s.time.fUnit = 0) ∧ ((s.pod q).reneg = true) ∧ holds (.podAttached q) s (fun t => decide (t.get (R.POD_S_STAT_STATE q) = 4 ∧ (t.pod q).reneg = false ∧ (t.pod q).lostAt = none ∧ t.val (R.POD_S_ATTACH_CNT q) = s.val (R.POD_S_ATTACH_CNT q))) = true :=
  ⟨((State.reset.set (R.POD_S_STAT_POWERED 0) 1).setPod 0 { step := 10, attachDue := true, reneg := true }), ⟨0, by decide⟩, by decide +kernel⟩

theorem witness_PodSlots_podRemoval : ∃ (s : State) (u : Sub) (q : Idx16),
    (s.is (R.POD_S_STAT_PRESENT q) = true) ∧ (s.powered (R.POD_S_STAT q) = true) ∧ (s.get (R.POD_S_STAT_STATE q) = 4 ∨ s.get (R.POD_S_STAT_STATE q) = 6) :=
  ⟨((State.reset.set (R.POD_S_STAT_POWERED 0) 1).set (R.POD_S_STAT_STATE 0) 4).set (R.POD_S_STAT_PRESENT 0) 1, u0, ⟨0, by decide⟩, by decide +kernel⟩

theorem witness_PodSlots_podRemoval2 : ∃ (s : State) (u : Sub) (q : Idx16),
    (s.is (R.POD_S_STAT_PRESENT q) = true) ∧ (s.powered (R.POD_S_STAT q) = true) ∧ (s.podHere q = false) ∧ (s.is (R.POD_S_CTRL_POWER_OFF q) = false) ∧ holds (.podRemoval u q) s (fun t => decide (t.is (R.POD_S_STAT_PRESENT q) = false ∧ t.get (R.POD_S_STAT_STATE q) = 0 ∧ t.is (R.POD_S_STAT_POWERED q) = false ∧ (t.pod q).step = 0)) = true :=
  ⟨(State.reset.set (R.POD_S_STAT_STATE 0) 1).set (R.POD_S_STAT_PRESENT 0) 1, u0, ⟨0, by decide⟩, by decide +kernel⟩

theorem witness_PodSlots_detach : ∃ (s : State) (q : Idx16),
    ((s.pod q).detachDue = true) ∧ (s.time.fUnit = 0) ∧ (s.is (R.POD_S_CTRL_POWER_OFF q) = false) :=
  ⟨(((State.reset.set (R.POD_S_STAT_POWERED 0) 1).set (R.POD_S_STAT_STATE 0) 4).setPod 0 { detachDue := true }), ⟨0, by decide⟩, by decide +kernel⟩

theorem witness_PodSlots_powerTrip : ∃ (s : State) (u : Sub) (q : Idx16),
    (s.is (R.POD_S_STAT_POWERED q) = true) ∧ holds (.powerTrip u q) s (fun t => decide (t.get (R.POD_S_STAT_STATE q) = 5 ∧ t.get (R.POD_S_STAT_REFUSE q) = 6 ∧ t.is (R.POD_S_STAT_POWERED q) = false ∧ t.is (R.POD_S_EVT_POWER_TRIP q) = true)) = true :=
  ⟨((State.reset.set (R.POD_S_STAT_POWERED 0) 1).set (R.POD_S_STAT_STATE 0) 3), u0, ⟨0, by decide⟩, by decide +kernel⟩

theorem witness_PodSlots_podRetry : ∃ (s : State) (u : Sub) (q : Idx16),
    (s.powered (R.POD_S_CTRL q) = true) ∧ (s.get (R.POD_S_STAT_STATE q) = 5) ∧ (s.is (R.POD_S_STAT_PRESENT q) = true) ∧ (s.is (R.POD_S_CTRL_POWER_OFF q) = false) ∧ holds (.podRetry u q) s (fun t => decide (t.get (R.POD_S_STAT_STATE q) = 1 ∧ t.get (R.POD_S_STAT_REFUSE q) = 0 ∧ (t.pod q).step = 1)) = true :=
  ⟨(State.reset.set (R.POD_S_STAT_STATE 0) 5).set (R.POD_S_STAT_PRESENT 0) 1, u0, ⟨0, by decide⟩, by decide +kernel⟩

theorem witness_PodSlots_podRecheck : ∃ (s : State) (u : Sub) (q : Idx16),
    (s.powered (R.POD_S_CTRL q) = true) ∧ (s.get (R.POD_S_STAT_STATE q) = 4) ∧ holds (.podRecheck u q) s (fun t => decide ((t.pod q).chalDue = true ∧ t.regs = s.regs)) = true :=
  ⟨((State.reset.set (R.POD_S_STAT_POWERED 0) 1).set (R.POD_S_STAT_STATE 0) 4), u0, ⟨0, by decide⟩, by decide +kernel⟩

theorem witness_PodSlots_podHoldWrite : ∃ (s : State) (u : Sub) (q : Idx16) (hold : Bool),
    (s.powered (R.POD_S_CTRL q) = true) ∧ (s.is (R.POD_S_CTRL_HOLD q) ≠ hold) ∧ holds (.podHoldWrite u q hold) s (fun t => decide (t.is (R.POD_S_CTRL_HOLD q) = hold ∧ (t.pod q).hold = some (if hold then 1 else 0))) = true :=
  ⟨((State.reset.set (R.POD_S_STAT_POWERED 0) 1).set (R.POD_S_STAT_STATE 0) 4), u0, ⟨0, by decide⟩, true, by decide +kernel⟩

theorem witness_PodSlots_podPowerOff : ∃ (s : State) (u : Sub) (q : Idx16),
    (s.powered (R.POD_S_CTRL q) = true) ∧ (s.is (R.POD_S_CTRL_POWER_OFF q) = false) ∧ (s.podHere q = true) :=
  ⟨((State.reset.set (R.POD_S_STAT_POWERED 0) 1).set (R.POD_S_STAT_STATE 0) 4), u0, ⟨0, by decide⟩, by decide +kernel⟩

theorem witness_PodSlots_podPowerOff2 : ∃ (s : State) (u : Sub) (q : Idx16),
    (s.powered (R.POD_S_CTRL q) = true) ∧ (s.is (R.POD_S_CTRL_POWER_OFF q) = true) ∧ (s.get (R.POD_S_STAT_STATE q) = 7) ∧ (s.is (R.POD_S_STAT_PRESENT q) = true) ∧ holds (.podPowerOff u q false) s (fun t => decide (t.is (R.POD_S_CTRL_POWER_OFF q) = false ∧ t.get (R.POD_S_STAT_STATE q) = 1 ∧ (t.pod q).step = 1)) = true :=
  ⟨((State.reset.set (R.POD_S_STAT_STATE 0) 7).set (R.POD_S_STAT_PRESENT 0) 1).set (R.POD_S_CTRL_POWER_OFF 0) 1, u0, ⟨0, by decide⟩, by decide +kernel⟩

theorem witness_PodSlots_podClrStats : ∃ (s : State) (u : Sub),
    (s.powered R.POD_CTRL = true) ∧ holds (.podClrStats u) s (fun t => decide (∀ q : Fin 16, t.val (R.POD_S_LINK_ERR q.val) = 0 ∧ t.val (R.POD_S_ATTACH_CNT q.val) = 0 ∧ t.get (R.POD_S_PWR_PEAK q.val) = 0)) = true :=
  ⟨State.reset.put (R.POD_S_LINK_ERR 3) 7, u0, by decide +kernel⟩

theorem witness_PodSlots_podBudgetCheck : ∃ (s : State) (mv : Nat) (q : Idx16) (w : Nat),
    (s.time.fUnit = 0) ∧ (s.time.fTick % 100 = 0) ∧ (s.powered R.POD_CTRL = true) ∧ (s.val R.POD_PWR_USED ≤ min s.podBudget (5 * mv - 48000)) ∧ holds (.podBudgetCheck mv [(q, w)]) s (fun t => decide (t.get (R.POD_S_PWR_NOW q.val) = (if s.is (R.POD_S_STAT_POWERED q.val) then min w 65535 else s.get (R.POD_S_PWR_NOW q.val)) ∧ t.val R.POD_PWR_USED = s.val R.POD_PWR_USED ∧ t.pods = s.pods)) = true :=
  ⟨(State.reset.set (R.POD_S_STAT_POWERED 0) 1), 24000, ⟨0, by decide⟩, 700, by decide +kernel⟩

theorem witness_HostReceipt_xmSamples : ∃ (s : State) (u : Sub) (m : Msg),
    (s.get R.ISO_STAT_STATE = 2) ∧ (filterReason m true = 0) ∧ (m.flags.testBit 3 = false) ∧ (m.seq = s.link.rxFH.getD m.vc 0) ∧ (s.relAbs ≤ absTick (eraOf s.time.hTick s.era (T64.unpack m.t64).tick) (T64.unpack m.t64).tick) ∧ (m.ty = 0x20) ∧ holds (.xmSamples u m) s (fun t => decide (t.link.rxFH = s.link.rxFH.set m.vc ((m.seq + 1) % 2 ^ 16) ∧ t.link.outFH = s.link.outFH.erase m ∧ t.val64 R.ISO_RX_BYTES_LO = (s.val64 R.ISO_RX_BYTES_LO + m.size) % 2 ^ 64 ∧ t.clr.staged = s.clr.staged ++ [{ era := (eraOf s.time.hTick s.era (T64.unpack m.t64).tick), t64 := m.t64, cls := 3, inst := (leAt m.payload 2 2), src := 0, arr := s.clr.arr, bytes := msgBytes m }])) = true :=
  ⟨(State.reset.set R.ISO_STAT_STATE 2), u0, mkMsg 0x20 2 3 0 0 (([1, 0, 5, 0] ++ List.replicate 64 0).take 64), by decide +kernel⟩

theorem witness_HostReceipt_xmTally : ∃ (s : State) (u : Sub) (m : Msg),
    (s.get R.ISO_STAT_STATE = 2) ∧ (filterReason m true = 0) ∧ (m.flags.testBit 3 = false) ∧ (m.seq = s.link.rxFH.getD m.vc 0) ∧ (s.relAbs ≤ absTick (eraOf s.time.hTick s.era (T64.unpack m.t64).tick) (T64.unpack m.t64).tick) ∧ (m.ty = 0x31) ∧ holds (.xmTally u m) s (fun t => decide (t.link.rxFH = s.link.rxFH.set m.vc ((m.seq + 1) % 2 ^ 16) ∧ t.link.outFH = s.link.outFH.erase m ∧ t.val64 R.ISO_RX_BYTES_LO = (s.val64 R.ISO_RX_BYTES_LO + m.size) % 2 ^ 64 ∧ t.clr.staged = s.clr.staged ++ [{ era := (eraOf s.time.hTick s.era (T64.unpack m.t64).tick), t64 := m.t64, cls := 2, inst := (leAt m.payload 2 1), src := 0, arr := s.clr.arr, bytes := msgBytes m }])) = true :=
  ⟨(State.reset.set R.ISO_STAT_STATE 2), u0, mkMsg 0x31 3 3 0 0 (([1, 0, 5] ++ List.replicate 32 0).take 32), by decide +kernel⟩

theorem witness_HostReceipt_xmFail : ∃ (s : State) (u : Sub) (m : Msg),
    (s.get R.ISO_STAT_STATE = 2) ∧ (filterReason m true = 0) ∧ (m.flags.testBit 3 = false) ∧ (m.seq = s.link.rxFH.getD m.vc 0) ∧ (s.relAbs ≤ absTick (eraOf s.time.hTick s.era (T64.unpack m.t64).tick) (T64.unpack m.t64).tick) ∧ (m.ty = 0x41) ∧ holds (.xmFail u m) s (fun t => decide (t.link.rxFH = s.link.rxFH.set m.vc ((m.seq + 1) % 2 ^ 16) ∧ t.link.outFH = s.link.outFH.erase m ∧ t.val64 R.ISO_RX_BYTES_LO = (s.val64 R.ISO_RX_BYTES_LO + m.size) % 2 ^ 64 ∧ t.clr.staged = s.clr.staged ++ [{ era := (eraOf s.time.hTick s.era (T64.unpack m.t64).tick), t64 := m.t64, cls := 1, inst := 0, src := 0, arr := s.clr.arr, bytes := msgBytes m }])) = true :=
  ⟨(State.reset.set R.ISO_STAT_STATE 2), u0, mkMsg 0x41 4 3 0 0 (([1] ++ List.replicate 64 0).take 64), by decide +kernel⟩

theorem witness_HostReceipt_xmPodResponse : ∃ (s : State) (u : Sub) (m : Msg),
    (s.get R.ISO_STAT_STATE = 2) ∧ (filterReason m true = 0) ∧ (m.flags.testBit 3 = false) ∧ (m.seq = s.link.rxFH.getD m.vc 0) ∧ (s.relAbs ≤ absTick (eraOf s.time.hTick s.era (T64.unpack m.t64).tick) (T64.unpack m.t64).tick) ∧ (m.ty = 0x70) ∧ (leAt m.payload 1 1 ≠ 3) ∧ holds (.xmPodResponse u m) s (fun t => decide (t.link.rxFH = s.link.rxFH.set m.vc ((m.seq + 1) % 2 ^ 16) ∧ t.link.outFH = s.link.outFH.erase m ∧ t.val64 R.ISO_RX_BYTES_LO = (s.val64 R.ISO_RX_BYTES_LO + m.size) % 2 ^ 64 ∧ t.clr.staged = s.clr.staged ++ [{ era := (eraOf s.time.hTick s.era (T64.unpack m.t64).tick), t64 := m.t64, cls := 4, inst := (leAt m.payload 0 1), src := 0, arr := s.clr.arr, bytes := msgBytes m }])) = true :=
  ⟨(State.reset.set R.ISO_STAT_STATE 2), u0, mkMsg 0x70 7 3 0 0 (([3, 2] ++ List.replicate 8 0).take 8), by decide +kernel⟩

theorem witness_HostReceipt_xmTimeFieldBeacon : ∃ (s : State) (u : Sub) (m : Msg),
    (s.get R.ISO_STAT_STATE = 2) ∧ (filterReason m true = 0) ∧ (m.flags.testBit 3 = false) ∧ (m.seq = s.link.rxFH.getD m.vc 0) ∧ (s.relAbs ≤ absTick (eraOf s.time.hTick s.era (T64.unpack m.t64).tick) (T64.unpack m.t64).tick) ∧ (m.ty = 0x01) ∧ holds (.xmTimeFieldBeacon u m) s (fun t => decide (t.link.rxFH = s.link.rxFH.set m.vc ((m.seq + 1) % 2 ^ 16) ∧ t.link.outFH = s.link.outFH.erase m ∧ t.val64 R.ISO_RX_BYTES_LO = (s.val64 R.ISO_RX_BYTES_LO + m.size) % 2 ^ 64 ∧ t.clr.staged = s.clr.staged ++ [{ era := (eraOf s.time.hTick s.era (T64.unpack m.t64).tick), t64 := m.t64, cls := 5, inst := 0, src := 0, arr := s.clr.arr, bytes := msgBytes m }])) = true :=
  ⟨(State.reset.set R.ISO_STAT_STATE 2), u0, mkMsg 0x01 0 3 0 0 (([1] ++ List.replicate 32 0).take 32), by decide +kernel⟩

theorem witness_HostReceipt_xmCalBank : ∃ (s : State) (u : Sub) (m : Msg),
    (s.get R.ISO_STAT_STATE = 2) ∧ (filterReason m true = 0) ∧ (m.flags.testBit 3 = false) ∧ (m.seq = s.link.rxFH.getD m.vc 0) ∧ (s.relAbs ≤ absTick (eraOf s.time.hTick s.era (T64.unpack m.t64).tick) (T64.unpack m.t64).tick) ∧ (m.ty = 0x71) ∧ (calKind m = 3) ∧ (m.payload.length = 48) ∧ holds (.xmCalBank u m) s (fun t => decide (t.link.rxFH = s.link.rxFH.set m.vc ((m.seq + 1) % 2 ^ 16) ∧ t.link.outFH = s.link.outFH.erase m ∧ t.val64 R.ISO_RX_BYTES_LO = (s.val64 R.ISO_RX_BYTES_LO + m.size) % 2 ^ 64 ∧ t.clr.staged = s.clr.staged ++ [{ era := (eraOf s.time.hTick s.era (T64.unpack m.t64).tick), t64 := m.t64, cls := 4, inst := 0, src := 0, arr := s.clr.arr, bytes := msgBytes m }])) = true :=
  ⟨(State.reset.set R.ISO_STAT_STATE 2), u0, mkMsg 0x71 7 3 0 0 (([3] ++ List.replicate 48 0).take 48), by decide +kernel⟩

theorem witness_HostReceipt_xmCalRunEnd : ∃ (s : State) (u : Sub) (m : Msg),
    (s.get R.ISO_STAT_STATE = 2) ∧ (filterReason m true = 0) ∧ (m.flags.testBit 3 = false) ∧ (m.seq = s.link.rxFH.getD m.vc 0) ∧ (s.relAbs ≤ absTick (eraOf s.time.hTick s.era (T64.unpack m.t64).tick) (T64.unpack m.t64).tick) ∧ (m.ty = 0x71) ∧ (calKind m = 4) ∧ (m.payload.length = 48) ∧ holds (.xmCalRunEnd u m) s (fun t => decide (t.link.rxFH = s.link.rxFH.set m.vc ((m.seq + 1) % 2 ^ 16) ∧ t.link.outFH = s.link.outFH.erase m ∧ t.val64 R.ISO_RX_BYTES_LO = (s.val64 R.ISO_RX_BYTES_LO + m.size) % 2 ^ 64 ∧ t.clr.staged = s.clr.staged ++ [{ era := (eraOf s.time.hTick s.era (T64.unpack m.t64).tick), t64 := m.t64, cls := 4, inst := 0, src := 0, arr := s.clr.arr, bytes := msgBytes m }])) = true :=
  ⟨(State.reset.set R.ISO_STAT_STATE 2), u0, mkMsg 0x71 7 3 0 0 (([4] ++ List.replicate 48 0).take 48), by decide +kernel⟩

theorem witness_HostReceipt_xmHealth : ∃ (s : State) (u : Sub) (m : Msg),
    (s.get R.ISO_STAT_STATE = 2) ∧ (filterReason m true = 0) ∧ (m.flags.testBit 3 = false) ∧ (m.seq = s.link.rxFH.getD m.vc 0) ∧ (s.relAbs ≤ absTick (eraOf s.time.hTick s.era (T64.unpack m.t64).tick) (T64.unpack m.t64).tick) ∧ (m.ty = 0x03) ∧ holds (.xmHealth u true m) s (fun t => decide (t.link.rxFH = s.link.rxFH.set m.vc ((m.seq + 1) % 2 ^ 16) ∧ t.link.outFH = s.link.outFH.erase m ∧ t.val64 R.ISO_RX_BYTES_LO = (s.val64 R.ISO_RX_BYTES_LO + m.size) % 2 ^ 64 ∧ t.clr.staged = s.clr.staged ++ [{ era := (eraOf s.time.hTick s.era (T64.unpack m.t64).tick), t64 := m.t64, cls := 5, inst := 0, src := 0, arr := s.clr.arr, bytes := msgBytes m }] ∧ t.val R.ISO_FDROP = leAt m.payload 8 4 ∧ t.link.gapFrom = none)) = true :=
  ⟨(State.reset.set R.ISO_STAT_STATE 2), u0, mkMsg 0x03 0 3 0 0 (([0, 0, 0, 0, 0, 0, 0, 0, 7] ++ List.replicate 64 0).take 64), by decide +kernel⟩

theorem witness_HostReceipt_xmSamples2 : ∃ (s : State) (u : Sub) (m : Msg),
    (s.get R.ISO_STAT_STATE = 2) ∧ (filterReason m true ≠ 0) ∧ holds (.xmSamples u m) s (fun t => decide (t.val R.ISO_HDROP = min (s.val R.ISO_HDROP + 1) (2 ^ 32 - 1) ∧ t.is R.ISO_EVT_DROP = true ∧ t.val R.ISO_DROP_LAST = dropWord 0 (filterReason m true) m % 2 ^ 32 ∧ t.link.outFH = s.link.outFH.erase m ∧ t.clr = s.clr)) = true :=
  ⟨(State.reset.set R.ISO_STAT_STATE 2), u0, mkMsg 0x20 2 3 0 0 ([1]), by decide +kernel⟩

theorem witness_HostReceiptEffects_xmEvent : ∃ (s : State) (u : Sub) (m : Msg),
    (s.get R.ISO_STAT_STATE = 2) ∧ (filterReason m true = 0) ∧ (m.flags.testBit 3 = false) ∧ (m.seq = s.link.rxFH.getD m.vc 0) ∧ (s.relAbs ≤ absTick (eraOf s.time.hTick s.era (T64.unpack m.t64).tick) (T64.unpack m.t64).tick) ∧ (m.ty = 0x40) ∧ (leAt m.payload 0 2 = 0x13) ∧ holds (.xmEvent u m) s (fun t => decide (t.link.rxFH = s.link.rxFH.set m.vc ((m.seq + 1) % 2 ^ 16) ∧ t.link.outFH = s.link.outFH.erase m ∧ t.val64 R.ISO_RX_BYTES_LO = (s.val64 R.ISO_RX_BYTES_LO + m.size) % 2 ^ 64 ∧ t.clr.staged = s.clr.staged ++ [{ era := (eraOf s.time.hTick s.era (T64.unpack m.t64).tick), t64 := m.t64, cls := 1, inst := (leAt m.payload 4 4), src := 0, arr := s.clr.arr, bytes := msgBytes m }])) = true :=
  ⟨(State.reset.set R.ISO_STAT_STATE 2), u0, mkMsg 0x40 4 3 0 0 (([0x13, 0, 1, 0] ++ List.replicate 32 0).take 32), by decide +kernel⟩

theorem witness_HostReceiptEffects_xmEvent2 : ∃ (s : State) (u : Sub) (m : Msg),
    (s.get R.ISO_STAT_STATE = 2) ∧ (filterReason m true = 0) ∧ (m.flags.testBit 3 = false) ∧ (m.seq = s.link.rxFH.getD m.vc 0) ∧ (s.relAbs ≤ absTick (eraOf s.time.hTick s.era (T64.unpack m.t64).tick) (T64.unpack m.t64).tick) ∧ (m.ty = 0x40) ∧ (leAt m.payload 0 2 = 0x19) ∧ (leAt m.payload 2 2 = 1) ∧ (leAt m.payload 4 4 < 64) ∧ (s.is (R.GRD_W_ACT_INHIBIT (leAt m.payload 4 4)) = true) :=
  ⟨(State.reset.set R.ISO_STAT_STATE 2).set (R.GRD_W_ACT_INHIBIT 0) 1, u0, mkMsg 0x40 4 3 0 0 (([0x19, 0, 1, 0] ++ List.replicate 32 0).take 32), by decide +kernel⟩

theorem witness_HostReceiptEffects_xmReduce : ∃ (s : State) (u : Sub) (m : Msg),
    (s.get R.ISO_STAT_STATE = 2) ∧ (filterReason m true = 0) ∧ (m.flags.testBit 3 = false) ∧ (m.seq = s.link.rxFH.getD m.vc 0) ∧ (s.relAbs ≤ absTick (eraOf s.time.hTick s.era (T64.unpack m.t64).tick) (T64.unpack m.t64).tick) ∧ (m.ty = 0x30) ∧ (leAt m.payload 0 1 ≠ 8) ∧ (leAt m.payload 1 1 % 2 = 0) ∧ holds (.xmReduce u m) s (fun t => decide (t.link.rxFH = s.link.rxFH.set m.vc ((m.seq + 1) % 2 ^ 16) ∧ t.link.outFH = s.link.outFH.erase m ∧ t.val64 R.ISO_RX_BYTES_LO = (s.val64 R.ISO_RX_BYTES_LO + m.size) % 2 ^ 64 ∧ t.clr.staged = s.clr.staged ++ [{ era := (eraOf s.time.hTick s.era (T64.unpack m.t64).tick), t64 := m.t64, cls := 2, inst := (leAt m.payload 2 1), src := 0, arr := s.clr.arr, bytes := msgBytes m }])) = true :=
  ⟨(State.reset.set R.ISO_STAT_STATE 2), u0, mkMsg 0x30 3 3 0 0 (([1, 0, 5] ++ List.replicate 32 0).take 32), by decide +kernel⟩

theorem witness_HostReceiptEffects_xmCmp : ∃ (s : State) (u : Sub) (m : Msg),
    (s.get R.ISO_STAT_STATE = 2) ∧ (filterReason m true = 0) ∧ (m.flags.testBit 3 = false) ∧ (m.seq = s.link.rxFH.getD m.vc 0) ∧ (s.relAbs ≤ absTick (eraOf s.time.hTick s.era (T64.unpack m.t64).tick) (T64.unpack m.t64).tick) ∧ (m.ty = 0x42) ∧ (leAt m.payload 16 2 < 128) ∧ ((leAt m.payload 19 1).testBit 1 = false) ∧ ((s.pair (leAt m.payload 16 2)).told = false) ∧ holds (.xmCmp u m) s (fun t => decide ((t.pair (leAt m.payload 16 2)).told = true ∧ (t.pair (leAt m.payload 16 2)).toldTick = (s.atH u).hAbs ∧ (t.pair (leAt m.payload 16 2)).untold = 0 ∧ t.link.rxFH = s.link.rxFH.set m.vc ((m.seq + 1) % 2 ^ 16))) = true :=
  ⟨(State.reset.set R.ISO_STAT_STATE 2), u0, mkMsg 0x42 4 3 0 0 ((List.replicate 16 0 ++ [5] ++ List.replicate 64 0).take 64), by decide +kernel⟩

theorem witness_HostReceiptEffects_xmCmp2 : ∃ (s : State) (u : Sub) (m : Msg),
    (s.get R.ISO_STAT_STATE = 2) ∧ (filterReason m true = 0) ∧ (m.flags.testBit 3 = false) ∧ (m.seq = s.link.rxFH.getD m.vc 0) ∧ (s.relAbs ≤ absTick (eraOf s.time.hTick s.era (T64.unpack m.t64).tick) (T64.unpack m.t64).tick) ∧ (m.ty = 0x42) ∧ (leAt m.payload 16 2 < 128) ∧ ((leAt m.payload 19 1).testBit 1 = false) ∧ ((s.pair (leAt m.payload 16 2)).told = true) ∧ ((s.atH u).hAbs < (s.pair (leAt m.payload 16 2)).toldTick + 100000) ∧ holds (.xmCmp u m) s (fun t => decide ((t.pair (leAt m.payload 16 2)).untold = (s.pair (leAt m.payload 16 2)).untold + 1 ∧ (t.pair (leAt m.payload 16 2)).told = true ∧ t.link.rxFH = s.link.rxFH.set m.vc ((m.seq + 1) % 2 ^ 16) ∧ t.link.outFH = s.link.outFH.erase m ∧ t.val64 R.ISO_RX_BYTES_LO = (s.val64 R.ISO_RX_BYTES_LO + m.size) % 2 ^ 64 ∧ t.clr.staged = s.clr.staged ++ [{ era := (eraOf s.time.hTick s.era (T64.unpack m.t64).tick), t64 := m.t64, cls := 1, inst := (leAt m.payload 16 2), src := 0, arr := s.clr.arr, bytes := msgBytes m }])) = true :=
  ⟨((State.reset.set R.ISO_STAT_STATE 2).setPair 5 { told := true, untold := 3 }), u0, mkMsg 0x42 4 3 0 0 ((List.replicate 16 0 ++ [5] ++ List.replicate 64 0).take 64), by decide +kernel⟩

theorem witness_HostReceiptEffects_xmPodLedger : ∃ (s : State) (u : Sub) (m : Msg),
    (s.get R.ISO_STAT_STATE = 2) ∧ (filterReason m true = 0) ∧ (m.flags.testBit 3 = false) ∧ (m.seq = s.link.rxFH.getD m.vc 0) ∧ (s.relAbs ≤ absTick (eraOf s.time.hTick s.era (T64.unpack m.t64).tick) (T64.unpack m.t64).tick) ∧ (m.ty = 0x70) ∧ (leAt m.payload 1 1 = 3) ∧ (m.payload.length = 72) ∧ (s.ledger.rate < ledgerRate) ∧ (s.ledger.queue = []) ∧ (s.ledger.merge = none) ∧ holds (.xmPodLedger u m) s (fun t => decide (t.val64 R.LDG_NEXT_LO = (s.val64 R.LDG_NEXT_LO + 1) % 2 ^ 64 ∧ (t.ledger.ring.head?).map LEntry.source = some 0x1B ∧ t.ledger.rate = s.ledger.rate + 1)) = true :=
  ⟨(State.reset.set R.ISO_STAT_STATE 2), u0, mkMsg 0x70 7 3 0 0 (([2, 3] ++ List.replicate 72 0).take 72), by decide +kernel⟩

theorem witness_HostReceiptEffects_xmCalSetImage : ∃ (s : State) (u : Sub) (m : Msg),
    (s.get R.ISO_STAT_STATE = 2) ∧ (filterReason m true = 0) ∧ (m.flags.testBit 3 = false) ∧ (m.seq = s.link.rxFH.getD m.vc 0) ∧ (s.relAbs ≤ absTick (eraOf s.time.hTick s.era (T64.unpack m.t64).tick) (T64.unpack m.t64).tick) ∧ (m.ty = 0x71) ∧ (calKind m = 1) ∧ (17 ≤ m.payload.length ∧ m.payload.length ≤ 16 + imagePiece) ∧ (leAt m.payload 4 4 = 0) ∧ (m.payload.length - 16 < leAt m.payload 8 4) ∧ holds (.xmCalSetImage u false m) s (fun t => decide (t.met.hrx = some (leAt m.payload 2 2, leAt m.payload 8 4, m.payload.drop 16) ∧ t.link.rxFH = s.link.rxFH.set m.vc ((m.seq + 1) % 2 ^ 16) ∧ t.link.outFH = s.link.outFH.erase m ∧ t.val64 R.ISO_RX_BYTES_LO = (s.val64 R.ISO_RX_BYTES_LO + m.size) % 2 ^ 64 ∧ t.clr.staged = s.clr.staged ++ [{ era := (eraOf s.time.hTick s.era (T64.unpack m.t64).tick), t64 := m.t64, cls := 4, inst := 0, src := 0, arr := s.clr.arr, bytes := msgBytes m }])) = true :=
  ⟨(State.reset.set R.ISO_STAT_STATE 2), u0, mkMsg 0x71 7 3 0 0 (([1, 0, 0, 0, 0, 0, 0, 0, 200] ++ List.replicate 20 0).take 20), by decide +kernel⟩

theorem witness_FieldReceipt_xmTimeEpochSet : ∃ (s : State) (u : Sub) (m : Msg),
    (s.get R.ISO_STAT_STATE = 2) ∧ (filterReason m false = 0) ∧ (m.ty = 0x01) ∧ (leAt m.payload 0 2 = 3) ∧ holds (.xmTimeEpochSet u m) s (fun t => decide (t.link.rxHF = s.link.rxHF.set m.vc ((m.seq + 1) % 2 ^ 16) ∧ t.link.outHF = s.link.outHF.erase m ∧ t.time = { (s.atF u).time with fEpoch := leAt m.payload 8 8 })) = true :=
  ⟨(State.reset.set R.ISO_STAT_STATE 2), u0, mkMsg 0x01 0 3 0 0 (([3, 0, 0, 0, 0, 0, 0, 0, 9] ++ List.replicate 32 0).take 32), by decide +kernel⟩

theorem witness_FieldReceipt_xmTimeHostBeacon : ∃ (s : State) (u : Sub) (m : Msg),
    (s.get R.ISO_STAT_STATE = 2) ∧ (filterReason m false = 0) ∧ (m.ty = 0x01) ∧ (leAt m.payload 0 2 = 2) ∧ (s.time.fAwaitLoad = false) ∧ (-64 ≤ ((s.atF u).fU : Int) - (((T64.unpack m.t64).units + leAt m.payload 2 2 * ticksPerEra * unitsPerTick + leAt m.payload 16 8) : Nat) ∧ ((s.atF u).fU : Int) - (((T64.unpack m.t64).units + leAt m.payload 2 2 * ticksPerEra * unitsPerTick + leAt m.payload 16 8) : Nat) ≤ 64) ∧ holds (.xmTimeHostBeacon u m) s (fun t => decide (t.link.rxHF = s.link.rxHF.set m.vc ((m.seq + 1) % 2 ^ 16) ∧ t.link.outHF = s.link.outHF.erase m ∧ t.time.fEpoch = leAt m.payload 8 8 ∧ t.time.fAligned = true ∧ t.val R.TIME_FIELD_OFS = codeOf 32 (((s.atF u).fU : Int) - (((T64.unpack m.t64).units + leAt m.payload 2 2 * ticksPerEra * unitsPerTick + leAt m.payload 16 8) : Nat)))) = true :=
  ⟨(State.reset.set R.ISO_STAT_STATE 2), u0, mkMsg 0x01 0 3 0 0 (([2, 0, 0, 0, 0, 0, 0, 0, 9] ++ List.replicate 32 0).take 32), by decide +kernel⟩

theorem witness_FieldReceipt_xmTimeHostBeacon2 : ∃ (s : State) (u : Sub) (m : Msg),
    (s.get R.ISO_STAT_STATE = 2) ∧ (filterReason m false = 0) ∧ (m.ty = 0x01) ∧ (leAt m.payload 0 2 = 2) ∧ (s.time.fAwaitLoad = true) ∧ holds (.xmTimeHostBeacon u m) s (fun t => decide (t.link.rxHF = s.link.rxHF.set m.vc ((m.seq + 1) % 2 ^ 16) ∧ t.link.outHF = s.link.outHF.erase m ∧ t.time.fAwaitLoad = false ∧ t.time.fAligned = true ∧ t.val R.TIME_FIELD_OFS = 0)) = true :=
  ⟨({ (State.reset.set R.ISO_STAT_STATE 2) with time := { fAwaitLoad := true } } : State), u0, mkMsg 0x01 0 3 0 0 (([2, 0, 0, 0, 0, 0, 0, 0, 9] ++ List.replicate 32 0).take 32), by decide +kernel⟩

theorem witness_FieldReceipt_xmTickPlan : ∃ (s : State) (u : Sub) (m : Msg),
    (s.get R.ISO_STAT_STATE = 2) ∧ (filterReason m false = 0) ∧ (m.ty = 0x02) :=
  ⟨(State.reset.set R.ISO_STAT_STATE 2), u0, mkMsg 0x02 0 3 0 0 (List.replicate 256 0), by exact ⟨by decide +kernel, mk_filter _ (List.length_replicate), rfl⟩⟩

theorem witness_FieldReceipt_xmHealth : ∃ (s : State) (u : Sub) (m : Msg),
    (s.get R.ISO_STAT_STATE = 2) ∧ (filterReason m false = 0) ∧ (m.ty = 0x03) ∧ holds (.xmHealth u false m) s (fun t => decide (t.link.rxHF = s.link.rxHF.set m.vc ((m.seq + 1) % 2 ^ 16) ∧ t.link.outHF = s.link.outHF.erase m)) = true :=
  ⟨(State.reset.set R.ISO_STAT_STATE 2), u0, mkMsg 0x03 0 3 0 0 (([] ++ List.replicate 64 0).take 64), by decide +kernel⟩

theorem witness_FieldReceipt_xmPodRequest : ∃ (s : State) (u : Sub) (m : Msg) (q : Idx16),
    (s.get R.ISO_STAT_STATE = 2) ∧ (filterReason m false = 0) ∧ (m.ty = 0x70) ∧ (leAt m.payload 1 1 = 1) ∧ (leAt m.payload 4 1 = 7) ∧ (leAt m.payload 0 1 = q.val) ∧ (s.get (R.POD_S_STAT_STATE q) = 4) ∧ holds (.xmPodRequest u m) s (fun t => decide (t.link.rxHF = s.link.rxHF.set m.vc ((m.seq + 1) % 2 ^ 16) ∧ t.link.outHF = s.link.outHF.erase m ∧ (t.pod q).asked = (s.pod q).asked ++ [{ cmd := 7, payload := m.payload.drop 8, host := true, tag := leAt m.payload 2 2 }] ∧ t.regs = s.regs)) = true :=
  ⟨((State.reset.set R.ISO_STAT_STATE 2).set (R.POD_S_STAT_STATE 0) 4), u0, mkMsg 0x70 7 3 0 0 (([0, 1, 9, 0, 7] ++ List.replicate 13 0).take 13), ⟨0, by decide⟩, by decide +kernel⟩

theorem witness_FieldReceipt_xmPodRequest2 : ∃ (s : State) (u : Sub) (m : Msg),
    (s.get R.ISO_STAT_STATE = 2) ∧ (filterReason m false = 0) ∧ (m.ty = 0x70) ∧ (leAt m.payload 1 1 = 1) ∧ (leAt m.payload 4 1 = 9) ∧ holds (.xmPodRequest u m) s (fun t => decide (t.link.rxHF = s.link.rxHF.set m.vc ((m.seq + 1) % 2 ^ 16) ∧ t.link.outHF = s.link.outHF.erase m ∧ t.pods = s.pods ∧ (t.link.outFH.getLast?).map Msg.payload = some (leBytes 1 (leAt m.payload 0 1) ++ leBytes 1 2 ++ leBytes 2 (leAt m.payload 2 2) ++ leBytes 1 9 ++ leBytes 1 0x81 ++ leBytes 2 0))) = true :=
  ⟨(State.reset.set R.ISO_STAT_STATE 2), u0, mkMsg 0x70 7 3 0 0 (([0, 1, 9, 0, 9] ++ List.replicate 8 0).take 8), by decide +kernel⟩

theorem witness_FieldReceipt_xmCalSetImage : ∃ (s : State) (u : Sub) (m : Msg),
    (s.get R.ISO_STAT_STATE = 2) ∧ (filterReason m false = 0) ∧ (m.ty = 0x71) ∧ (calKind m = 1) ∧ (17 ≤ m.payload.length ∧ m.payload.length ≤ 16 + imagePiece) ∧ (leAt m.payload 2 2 < 8) ∧ (leAt m.payload 4 4 = 0) ∧ (m.payload.length - 16 < leAt m.payload 8 4) ∧ holds (.xmCalSetImage u true m) s (fun t => decide (t.link.rxHF = s.link.rxHF.set m.vc ((m.seq + 1) % 2 ^ 16) ∧ t.link.outHF = s.link.outHF.erase m ∧ t.met.rx = some (leAt m.payload 2 2, leAt m.payload 8 4, m.payload.drop 16))) = true :=
  ⟨(State.reset.set R.ISO_STAT_STATE 2), u0, mkMsg 0x71 7 3 0 0 (([1, 0, 0, 0, 0, 0, 0, 0, 200] ++ List.replicate 20 0).take 20), by decide +kernel⟩

theorem witness_FieldReceipt_xmCalSetDrop : ∃ (s : State) (u : Sub) (m : Msg),
    (s.get R.ISO_STAT_STATE = 2) ∧ (filterReason m false = 0) ∧ (m.ty = 0x71) ∧ (calKind m = 2) ∧ (m.payload.length = 16) ∧ (leAt m.payload 2 2 < 8) ∧ (s.met.sets.any (fun p => p.1 == leAt m.payload 2 2) = true) ∧ holds (.xmCalSetDrop u m) s (fun t => decide (t.link.rxHF = s.link.rxHF.set m.vc ((m.seq + 1) % 2 ^ 16) ∧ t.link.outHF = s.link.outHF.erase m ∧ t.met.sets = s.met.sets.filter (fun p => p.1 != leAt m.payload 2 2))) = true :=
  ⟨((State.reset.set R.ISO_STAT_STATE 2).setMet { sets := [(3, ⟨0, 0, 0, 0, 0, 0, [], []⟩)] }), u0, mkMsg 0x71 7 3 0 0 (([2, 0, 3] ++ List.replicate 16 0).take 16), by decide +kernel⟩

theorem witness_FieldReceipt_xmCalStored : ∃ (s : State) (u : Sub) (m : Msg),
    (s.get R.ISO_STAT_STATE = 2) ∧ (filterReason m false = 0) ∧ (m.ty = 0x71) ∧ (calKind m = 5) ∧ (m.payload.length = 16) ∧ (leAt m.payload 2 2 < 8) ∧ (s.met.newSet.isSome = true) ∧ holds (.xmCalStored u m) s (fun t => decide (t.link.rxHF = s.link.rxHF.set m.vc ((m.seq + 1) % 2 ^ 16) ∧ t.link.outHF = s.link.outHF.erase m ∧ t.met.newSet = none ∧ (t.get R.MET_CAL_STAT_DUE_CAUSE).testBit 4 = false)) = true :=
  ⟨((State.reset.set R.ISO_STAT_STATE 2).setMet { newSet := some (0, ⟨0, 0, 0, 0, 0, 0, [], []⟩) }), u0, mkMsg 0x71 7 3 0 0 (([5, 0, 3] ++ List.replicate 16 0).take 16), by decide +kernel⟩

theorem witness_FieldReceipt_xmFw : ∃ (s : State) (u : Sub) (m : Msg),
    (s.get R.ISO_STAT_STATE = 2) ∧ (filterReason m false = 0) ∧ (m.ty = 0x72) ∧ (s.start.step = 0) ∧ (leAt m.payload 0 4 = 5) ∧ (s.upd.rx = []) ∧ (leAt m.payload 4 4 = 0) ∧ (m.payload.length - 32 ≤ leAt m.payload 8 4) ∧ holds (.xmFw u m) s (fun t => decide (t.link.rxHF = s.link.rxHF.set m.vc ((m.seq + 1) % 2 ^ 16) ∧ t.link.outHF = s.link.outHF.erase m ∧ t.upd.rx = [{ code := 5, total := leAt m.payload 8 4, data := m.payload.drop 32 }])) = true :=
  ⟨(State.reset.set R.ISO_STAT_STATE 2), u0, mkMsg 0x72 7 3 0 0 (([5, 0, 0, 0, 0, 0, 0, 0, 200] ++ List.replicate 96 0).take 96), by decide +kernel⟩

theorem witness_FieldReceipt_xmFw2 : ∃ (s : State) (u : Sub) (m : Msg),
    (s.get R.ISO_STAT_STATE = 2) ∧ (filterReason m false ≠ 0) ∧ holds (.xmFw u m) s (fun t => decide (t.link.fDrop = min (s.link.fDrop + 1) (2 ^ 32 - 1) ∧ t.link.fDropLast = dropWord 1 (filterReason m false) m ∧ t.link.outHF = s.link.outHF.erase m ∧ t.upd = s.upd)) = true :=
  ⟨(State.reset.set R.ISO_STAT_STATE 2), u0, mkMsg 0x72 7 3 0 0 ([1]), by decide +kernel⟩

theorem witness_RefillsAndTunnel_xmRefillVec : ∃ (s : State) (u : Sub) (m : Msg),
    (s.get R.ISO_STAT_STATE = 2) ∧ (filterReason m false = 0) ∧ (m.ty = 0x50) ∧ ((({ s.atSeq u with link := { (s.atSeq u).link with outHF := (s.atSeq u).link.outHF.erase m } } : State).fieldSeq m).domOn (domF 2) = true) ∧ ((({ s.atSeq u with link := { (s.atSeq u).link with outHF := (s.atSeq u).link.outHF.erase m } } : State).fieldSeq m).refillReason (leAt m.payload 0 8 % 2 ^ 40) ((m.payload.length - 16) / 144) = 0) ∧ holds (.xmRefillVec u m) s (fun t => decide (t.link.rxHF = s.link.rxHF.set m.vc ((m.seq + 1) % 2 ^ 16) ∧ t.frameInfo (t.frameOf (segOf (leAt m.payload 0 8 % 2 ^ 40))) = some (segOf (leAt m.payload 0 8 % 2 ^ 40), idxOf (leAt m.payload 0 8 % 2 ^ 40) + ((m.payload.length - 16) / 144)))) = true :=
  ⟨({ (State.reset.set R.ISO_STAT_STATE 2) with seq := { winCount := 1 } } : State), u0, mkMsg 0x50 5 3 0 0 (([0] ++ List.replicate 160 0).take 160), by decide +kernel⟩

theorem witness_RefillsAndTunnel_xmRefillVec2 : ∃ (s : State) (u : Sub) (m : Msg),
    (s.get R.ISO_STAT_STATE = 2) ∧ (filterReason m false = 0) ∧ (m.ty = 0x50) ∧ ((({ s.atSeq u with link := { (s.atSeq u).link with outHF := (s.atSeq u).link.outHF.erase m } } : State).fieldSeq m).domOn (domF 2) = true) ∧ ((({ s.atSeq u with link := { (s.atSeq u).link with outHF := (s.atSeq u).link.outHF.erase m } } : State).fieldSeq m).refillReason (leAt m.payload 0 8 % 2 ^ 40) ((m.payload.length - 16) / 144) ≠ 0) ∧ holds (.xmRefillVec u m) s (fun t => decide (t.val R.SEQ_REFILL_REJ = min ((({ s.atSeq u with link := { (s.atSeq u).link with outHF := (s.atSeq u).link.outHF.erase m } } : State).fieldSeq m).val R.SEQ_REFILL_REJ + 1) (2 ^ 32 - 1) ∧ t.is R.SEQ_EVT_REFILL_REJ = true ∧ t.seq.frames = (({ s.atSeq u with link := { (s.atSeq u).link with outHF := (s.atSeq u).link.outHF.erase m } } : State).fieldSeq m).seq.frames)) = true :=
  ⟨({ (State.reset.set R.ISO_STAT_STATE 2) with seq := { winCount := 1 } } : State), u0, mkMsg 0x50 5 3 0 0 (([5] ++ List.replicate 160 0).take 160), by decide +kernel⟩

theorem witness_RefillsAndTunnel_xmRefillGen : ∃ (s : State) (u : Sub) (m : Msg),
    (s.get R.ISO_STAT_STATE = 2) ∧ (filterReason m false = 0) ∧ (m.ty = 0x60) ∧ (s.genRefillReason (leAt m.payload 0 1) (leAt m.payload 2 2) (leAt m.payload 4 2) ((m.payload.length - 16) / 32) = 0) ∧ holds (.xmRefillGen u m) s (fun t => decide (t.link.rxHF = s.link.rxHF.set m.vc ((m.seq + 1) % 2 ^ 16) ∧ (t.gen (leAt m.payload 0 1)).entries = putEntries (s.gen (leAt m.payload 0 1)).entries (leAt m.payload 2 2) (leAt m.payload 4 2) (m.payload.drop 16) ∧ t.val (R.GEN_WR_COUNT (leAt m.payload 0 1)) = (s.val (R.GEN_WR_COUNT (leAt m.payload 0 1)) + (leAt m.payload 4 2)) % 2 ^ 32)) = true :=
  ⟨((State.reset.set R.ISO_STAT_STATE 2).set (R.GEN_LIST_LEN 0) 16), u0, mkMsg 0x60 6 3 0 0 (([0, 0, 0, 0, 1] ++ List.replicate 48 0).take 48), by decide +kernel⟩

theorem witness_RefillsAndTunnel_xmRefillGen2 : ∃ (s : State) (u : Sub) (m : Msg),
    (s.get R.ISO_STAT_STATE = 2) ∧ (filterReason m false = 0) ∧ (m.ty = 0x60) ∧ ((leAt m.payload 0 1) ≤ 47) ∧ (s.genRefillReason (leAt m.payload 0 1) (leAt m.payload 2 2) (leAt m.payload 4 2) ((m.payload.length - 16) / 32) ≠ 0) ∧ holds (.xmRefillGen u m) s (fun t => decide (t.is (R.GEN_EVT_REFILL_REJ (leAt m.payload 0 1)) = true ∧ (t.gen (leAt m.payload 0 1)).entries = (s.gen (leAt m.payload 0 1)).entries ∧ t.val (R.GEN_WR_COUNT (leAt m.payload 0 1)) = s.val (R.GEN_WR_COUNT (leAt m.payload 0 1)))) = true :=
  ⟨(State.reset.set R.ISO_STAT_STATE 2), u0, mkMsg 0x60 6 3 0 0 (([0, 0, 0, 0, 2] ++ List.replicate 48 0).take 48), by decide +kernel⟩

theorem witness_RefillsAndTunnel_xmRegRd : ∃ (s : State) (u : Sub) (m : Msg),
    (s.get R.ISO_STAT_STATE = 2) ∧ (filterReason m false = 0) ∧ (m.ty = 0x10) ∧ (tagReq (leAt m.payload 0 2) = none ∨ tunRange (leAt m.payload 4 4) (leAt m.payload 2 2) = true) ∧ holds (.xmRegRd u m) s (fun t => decide ((t.link.outFH.getLast?).map Msg.payload = some (rspBytes (leAt m.payload 0 2) 3 []))) = true :=
  ⟨(State.reset.set R.ISO_STAT_STATE 2), u0, mkMsg 0x10 1 3 0 0 (([0, 0, 1, 0, 0, 0, 0, 0] ++ List.replicate 8 0).take 8), by decide +kernel⟩

theorem witness_RefillsAndTunnel_xmRegRd2 : ∃ (s : State) (u : Sub) (m : Msg) (r : Requester),
    (s.get R.ISO_STAT_STATE = 2) ∧ (filterReason m false = 0) ∧ (m.ty = 0x10) ∧ (tagReq (leAt m.payload 0 2) = some r) ∧ (tunRange (leAt m.payload 4 4) (leAt m.payload 2 2) = false) ∧ ((({ s.atSeq u with link := { (s.atSeq u).link with outHF := (s.atSeq u).link.outHF.erase m } } : State).fieldSeq m).tunSvc (leAt m.payload 4 4) (leAt m.payload 2 2) = (false, false)) ∧ ((tunAddrs (leAt m.payload 4 4) (leAt m.payload 2 2)).all (fun b => (({ s.atSeq u with link := { (s.atSeq u).link with outHF := (s.atSeq u).link.outHF.erase m } } : State).fieldSeq m).powered b) = true) ∧ holds (.xmRegRd u m) s (fun t => decide ((t.link.outFH.getLast?).map Msg.payload = some (rspBytes (leAt m.payload 0 2) 0 ((({ s.atSeq u with link := { (s.atSeq u).link with outHF := (s.atSeq u).link.outHF.erase m } } : State).fieldSeq m).readAll (reqNo r) (tunAddrs (leAt m.payload 4 4) (leAt m.payload 2 2))).1))) = true :=
  ⟨(State.reset.set R.ISO_STAT_STATE 2), u0, mkMsg 0x10 1 3 0 0 (leBytes 2 0 ++ leBytes 2 1 ++ leBytes 4 R.POD_STAT), .host, by decide +kernel⟩

theorem witness_RefillsAndTunnel_xmRegWr : ∃ (s : State) (u : Sub) (m : Msg),
    (s.get R.ISO_STAT_STATE = 2) ∧ (filterReason m false = 0) ∧ (m.ty = 0x11) ∧ (tagReq (leAt m.payload 0 2) = none) ∧ holds (.xmRegWr u m) s (fun t => decide ((t.link.outFH.getLast?).map Msg.payload = some (rspBytes (leAt m.payload 0 2) 3 []))) = true :=
  ⟨(State.reset.set R.ISO_STAT_STATE 2), u0, mkMsg 0x11 1 3 0 0 (([0, 0x40, 1, 0] ++ List.replicate 12 0).take 12), by decide +kernel⟩

theorem witness_RefillsAndTunnel_xmRegWr2 : ∃ (s : State) (u : Sub) (m : Msg),
    (s.get R.ISO_STAT_STATE = 2) ∧ (filterReason m false = 0) ∧ (m.ty = 0x11) ∧ (tagReq (leAt m.payload 0 2) = some .host) ∧ (tunRange (leAt m.payload 4 4) (leAt m.payload 2 2) = false) ∧ ((leAt m.payload 2 2) = ((List.range ((m.payload.length - 8) / 4)).map (fun i => wordAt (m.payload.drop 8) i)).length) ∧ (((({ s.atSeq u with link := { (s.atSeq u).link with outHF := (s.atSeq u).link.outHF.erase m } } : State).fieldSeq m).tunSvc (leAt m.payload 4 4) (leAt m.payload 2 2)).1 = false) :=
  ⟨(State.reset.set R.ISO_STAT_STATE 2), u0, mkMsg 0x11 1 3 0 0 (leBytes 2 0 ++ leBytes 2 1 ++ leBytes 4 R.POD_PWR_BUDGET ++ leBytes 4 5), by decide +kernel⟩

theorem witness_RefillsAndTunnel_xmRegWr3 : ∃ (s : State) (u : Sub) (m : Msg),
    (s.get R.ISO_STAT_STATE = 2) ∧ (filterReason m false = 0) ∧ (m.ty = 0x11) ∧ ((leAt m.payload 0 2) / 8192 = 7) ∧ ((leAt m.payload 4 4) = R.FCTL_FATAL) ∧ holds (.xmRegWr u m) s (fun t => decide (t.is R.FCTL_STAT_FATAL = true ∧ t.get R.FCTL_STAT_FATAL_ID = leAt m.payload 8 1 ∧ (t.link.outFH.getLast?).map Msg.payload = some (rspBytes (leAt m.payload 0 2) 0 []))) = true :=
  ⟨(State.reset.set R.ISO_STAT_STATE 2), u0, mkMsg 0x11 1 3 0 0 (leBytes 2 (7 * 2 ^ 13) ++ leBytes 2 1 ++ leBytes 4 R.FCTL_FATAL ++ leBytes 4 7), by decide +kernel⟩

theorem witness_RefillsAndTunnel_fctlFatal : ∃ (s : State) (u : Sub) (id : Fin 256) (m : Msg),
    (s.link.outHF.find? (isFatalWrite id) = some m) ∧ (s.get R.ISO_STAT_STATE = 2) ∧ (filterReason m false = 0) ∧ holds (.fctlFatal u id) s (fun t => decide (t.is R.FCTL_STAT_FATAL = true ∧ t.get R.FCTL_STAT_FATAL_ID = id.val ∧ t.link.outHF = s.link.outHF.erase m)) = true :=
  ⟨({ (State.reset.set R.ISO_STAT_STATE 2) with link := { (State.reset.set R.ISO_STAT_STATE 2).link with outHF := [mkMsg 0x11 1 3 0 0 (leBytes 2 (7 * 2 ^ 13) ++ leBytes 2 1 ++ leBytes 4 R.FCTL_FATAL ++ leBytes 4 7)] } } : State), u0, ⟨7, by decide⟩, mkMsg 0x11 1 3 0 0 (leBytes 2 (7 * 2 ^ 13) ++ leBytes 2 1 ++ leBytes 4 R.FCTL_FATAL ++ leBytes 4 7), by decide +kernel⟩

theorem witness_RegisterAccess_registerWrite : ∃ (s : State) (u : Sub) (v : Word) (h : Fin 48),
    (s.domOn (domF 11) = true) ∧ (s.linkUp = true) ∧ (s.mode ≠ 0) ∧ holds (.registerWrite u .host (R.TLY_H_SEL h) v) s (fun t => decide (t.val (R.TLY_H_SEL h) = v.toNat % 8192)) = true :=
  ⟨((State.reset.set R.ISO_STAT_STATE 2).set R.SYS_MODE_MODE 2), u0, 5000, ⟨3, by decide⟩, by decide +kernel⟩

theorem witness_RegisterAccess_registerWrite2 : ∃ (s : State) (u : Sub) (r : Requester) (v : Word),
    (s.powered R.LDG_RD_IDX_LO = true) ∧ holds (.registerWrite u r R.LDG_RD_IDX_LO v) s (fun t => decide (t.val R.LDG_RD_IDX_LO = v.toNat)) = true :=
  ⟨State.reset, u0, .host, 5000, by decide +kernel⟩

theorem witness_RegisterAccess_registerWrite3 : ∃ (s : State) (u : Sub) (r : Requester) (a : Nat) (v : Word),
    (isFieldAddr a = false) ∧ ((rowAt a).isNone = true ∨ s.powered a = false) ∧ holds (.registerWrite u r a v) s (fun t => decide (t.regs = s.regs ∧ t.clr = s.clr ∧ t.hdma = s.hdma)) = true :=
  ⟨State.reset, u0, .host, 0x3FFFC, 5, by decide +kernel⟩

theorem witness_RegisterAccess_registerWrite4 : ∃ (s : State) (u : Sub) (a : Nat) (v : Word),
    (isFieldAddr a = true) ∧ (s.mode = 0) ∧ holds (.registerWrite u .host a v) s (fun t => decide (t.val R.SYS_SEALED_REJ = min (s.val R.SYS_SEALED_REJ + 1) (2 ^ 32 - 1) ∧ t.link = s.link)) = true :=
  ⟨State.reset, u0, R.POD_PWR_BUDGET, 5, by decide +kernel⟩

theorem witness_RegisterAccess_rsRead : ∃ (s : State) (u : Sub) (a : Nat),
    (isFieldAddr a = false) ∧ (rsPartners a = []) ∧ ((s.atH u).snapOf 0 a = none) ∧ holds (.rsRead u .host a) s (fun t => decide (t.io.host = (s.atH u).view a ∧ t.regs = s.regs)) = true :=
  ⟨State.reset, u0, R.SYS_DRIVE_INH, by decide +kernel⟩

theorem witness_RegisterAccess_rsRead2 : ∃ (s : State) (u : Sub),
    (s.domOn 0 = true) ∧ holds (.rsRead u .host R.TIME_NOW_LO) s (fun t => decide (t.io.host = BitVec.ofNat 32 (s.atH u).hNow.pack ∧ t.snapOf 0 R.TIME_NOW_HI = some (BitVec.ofNat 32 ((s.atH u).hNow.pack / 2 ^ 32)) ∧ t.regs = s.regs)) = true :=
  ⟨({ State.reset with time := { hTick := 77 } } : State), u0, by decide +kernel⟩

theorem witness_RegisterAccess_rsRead3 : ∃ (s : State) (u : Sub) (a : Nat),
    (isFieldAddr a = false) ∧ (s.powered a = false) ∧ ((rowAt a).isSome = true) ∧ ((domainOf a).isSome = true) ∧ holds (.rsRead u .host a) s (fun t => decide (t.io.host = 0xFFFFFFFF#32 ∧ t.regs = s.regs)) = true :=
  ⟨State.reset.put R.SYS_PWR_STAT 7, u0, R.HDMA_STAT, by decide +kernel⟩

theorem witness_RegisterAccess_rsRead4 : ∃ (s : State) (u : Sub) (a : Nat),
    (isFieldAddr a = true) ∧ (s.mode = 0) ∧ holds (.rsRead u .host a) s (fun t => decide (t.io.host = 0xFFFFFFFF#32 ∧ t.val R.SYS_SEALED_REJ = min (s.val R.SYS_SEALED_REJ + 1) (2 ^ 32 - 1) ∧ t.link = s.link)) = true :=
  ⟨State.reset, u0, R.POD_STAT, by decide +kernel⟩

theorem witness_RegisterAccess_host64bitAccess : ∃ (s : State) (u : Sub) (x : Word) (y : Word),
    (s.powered R.LDG_RD_IDX_LO = true) ∧ holds (.host64bitAccess u R.LDG_RD_IDX_LO (some (x, y))) s (fun t => decide (t.val64 R.LDG_RD_IDX_LO = x.toNat + 2 ^ 32 * y.toNat)) = true :=
  ⟨State.reset, u0, 5, 6, by decide +kernel⟩

theorem witness_RegisterAccess_host64bitAccess2 : ∃ (s : State) (u : Sub) (a : Nat),
    (a % 8 = 0) ∧ (isFieldAddr a = false) ∧ (isFieldAddr (a + 4) = false) ∧ ((domainOf a).isSome = true) ∧ ((domainOf (a + 4)).isSome = true) ∧ (rsPartners a = []) ∧ holds (.host64bitAccess u a none) s (fun t => decide (t.io.host = ((s.atH u).readReg 0 (a + 4)).1 ∧ t.regs = s.regs)) = true :=
  ⟨State.reset.put R.LDG_RD_IDX_HI 9, u0, R.LDG_RD_IDX_LO, by decide +kernel⟩

theorem witness_RegisterAccess_bar0BadAccess : ∃ (s : State) (u : Sub) (read : Bool),
    (s.powered R.HDMA_BAR0_ERR = true) ∧ holds (.bar0BadAccess u read) s (fun t => decide (t.val R.HDMA_BAR0_ERR = min (s.val R.HDMA_BAR0_ERR + 1) (2 ^ 32 - 1) ∧ t.is R.HDMA_EVT_BAR0_ERR = true ∧ t.io.host = (if read then 0xFFFFFFFF#32 else s.io.host))) = true :=
  ⟨State.reset, u0, true, by decide +kernel⟩

theorem witness_TunnelOfTheHostHalf_tunnelAccess : ∃ (s : State) (u : Sub) (a : Nat) (w : Word),
    (isFieldAddr a = true) ∧ (a % 4 = 0) ∧ ((domainOf a).isSome = true) ∧ (s.mode ≠ 0) ∧ (s.link.inFlight.length < 32) ∧ (s.link.waiting = []) ∧ holds (.tunnelAccess u .host a 1 (some [w])) s (fun t => decide (t.link.inFlight = s.link.inFlight ++ [{ req := 0, tag := s.freeTag 0, write := true, addr := a, count := 1, data := [w], issued := (s.atH u).hU, since := (s.atH u).hU, left := 2048000 }])) = true :=
  ⟨((State.reset.set R.ISO_STAT_STATE 2).set R.SYS_MODE_MODE 2), u0, R.POD_PWR_BUDGET, 5, by decide +kernel⟩

theorem witness_TunnelOfTheHostHalf_tunnelAccess2 : ∃ (s : State) (u : Sub) (a : Nat) (n : Nat),
    (isFieldAddr a = true) ∧ (a % 4 = 0) ∧ ((domainOf a).isSome = true) ∧ (n ≠ 0) ∧ (n ≤ 64) ∧ (32 ≤ s.link.inFlight.length ∨ s.link.waiting ≠ []) ∧ holds (.tunnelAccess u .mgmt a n none) s (fun t => decide (t.link.waiting.length = s.link.waiting.length + 1 ∧ t.link.inFlight = s.link.inFlight ∧ t.regs = s.regs)) = true :=
  ⟨({ State.reset with link := { State.reset.link with waiting := [{ req := 1, tag := 8192, write := false, addr := 0, count := 1 }] } } : State), u0, R.POD_STAT, 2, by decide +kernel⟩

theorem witness_TunnelOfTheHostHalf_tunnelAccess3 : ∃ (s : State) (u : Sub) (a : Nat) (n : Nat),
    (isFieldAddr a = true) ∧ (a % 4 = 0) ∧ ((domainOf a).isSome = true) ∧ (s.mode = 0) ∧ holds (.tunnelAccess u .host a n none) s (fun t => decide (t.io.host = 0xFFFFFFFF#32 ∧ t.val R.SYS_SEALED_REJ = min (s.val R.SYS_SEALED_REJ + 1) (2 ^ 32 - 1) ∧ t.link = s.link)) = true :=
  ⟨State.reset, u0, R.POD_STAT, 0, by decide +kernel⟩

theorem witness_TunnelOfTheHostHalf_xmRegRsp : ∃ (s : State) (u : Sub) (m : Msg) (x : Tun),
    (s.get R.ISO_STAT_STATE = 2) ∧ (filterReason m true = 0) ∧ (m.ty = 0x12) ∧ (leAt m.payload 0 2 / 8192 ≠ 7) ∧ (s.link.inFlight.find? (fun x => x.tag == leAt m.payload 0 2) = some x) ∧ (x.req = 0) ∧ (x.write = false) ∧ (8 < m.payload.length) ∧ (leAt m.payload 4 4 < 8) ∧ (s.start.step = 0) ∧ (s.start.waiting = none) ∧ (s.link.waiting = []) ∧ holds (.xmRegRsp u m) s (fun t => decide (t.io.host = BitVec.ofNat 32 (leAt m.payload (m.payload.length - 4) 4) ∧ t.link.inFlight = s.link.inFlight.filter (fun y => y.tag != x.tag) ∧ t.get R.ISO_TUN_STAT_LAST_STATUS = leAt m.payload 4 4)) = true :=
  ⟨({ (State.reset.set R.ISO_STAT_STATE 2) with link := { (State.reset.set R.ISO_STAT_STATE 2).link with inFlight := [{ req := 0, tag := 3, write := false, addr := 0x1F00004, count := 1, since := 0, left := 0 }] } } : State), u0, mkMsg 0x12 1 3 0 0 (leBytes 2 3 ++ leBytes 2 1 ++ leBytes 4 0 ++ leBytes 4 77), { req := 0, tag := 3, write := false, addr := 0x1F00004, count := 1, since := 0, left := 0 }, by decide +kernel⟩

theorem witness_TunnelOfTheHostHalf_tunnelTimeout : ∃ (s : State) (u : Sub) (tag : Nat) (x : Tun),
    ((s.atH u).tunOverdue tag = some x) ∧ (x.req = 0) ∧ (x.write = false) ∧ (s.start.step = 0) ∧ (s.start.waiting = none) ∧ (s.link.waiting = []) ∧ holds (.tunnelTimeout u tag) s (fun t => decide (t.io.host = 0xFFFFFFFF#32 ∧ t.get R.ISO_TUN_STAT_LAST_STATUS = 4 ∧ t.val R.ISO_TUN_TIMEOUT = min (s.val R.ISO_TUN_TIMEOUT + 1) (2 ^ 32 - 1) ∧ t.is R.ISO_EVT_TUN_TIMEOUT = true ∧ t.link.inFlight = s.link.inFlight.filter (fun y => y.tag != x.tag))) = true :=
  ⟨({ (State.reset.set R.ISO_STAT_STATE 2) with link := { (State.reset.set R.ISO_STAT_STATE 2).link with inFlight := [{ req := 0, tag := 3, write := false, addr := 0x1F00004, count := 1, since := 0, left := 0 }] } } : State), u0, 3, { req := 0, tag := 3, write := false, addr := 0x1F00004, count := 1, since := 0, left := 0 }, by decide +kernel⟩

theorem witness_BarrierLink_linkDown : ∃ (s : State) (u : Sub),
    (s.linkUp = true) ∧ holds (.linkDown u) s (fun t => decide (t.get R.ISO_STAT_STATE = 1 ∧ t.get R.ISO_STAT_FH_WIDTH = 0 ∧ t.link.fUp = false ∧ t.link.training = true ∧ t.link.outHF = [] ∧ t.faultPend 0x14 = true ∧ t.is R.ISO_EVT_LINK_DOWN = true ∧ t.val R.ISO_TRAIN_COUNT = min (s.val R.ISO_TRAIN_COUNT + 1) (2 ^ 32 - 1) ∧ t.link.hold = some (((s.atH u).atF u).fU + s.linkHoldTicks * unitsPerTick))) = true :=
  ⟨(State.reset.set R.ISO_STAT_STATE 2), u0, by decide +kernel⟩

theorem witness_BarrierLink_isoRetrain : ∃ (s : State) (u : Sub),
    (s.powered R.ISO_CTRL = true) ∧ (s.linkUp = true) ∧ holds (.isoRetrain u) s (fun t => decide (t.get R.ISO_STAT_STATE = 1 ∧ t.get R.ISO_STAT_FH_WIDTH = 0 ∧ t.link.fUp = false ∧ t.link.training = true ∧ t.link.outHF = [] ∧ t.faultPend 0x14 = true ∧ t.is R.ISO_EVT_LINK_DOWN = true ∧ t.val R.ISO_TRAIN_COUNT = min (s.val R.ISO_TRAIN_COUNT + 1) (2 ^ 32 - 1))) = true :=
  ⟨(State.reset.set R.ISO_STAT_STATE 2), u0, by decide +kernel⟩

theorem witness_BarrierLink_isoRetrain2 : ∃ (s : State) (u : Sub),
    (s.powered R.ISO_CTRL = true) ∧ (s.linkUp = false) ∧ holds (.isoRetrain u) s (fun t => decide (t.get R.ISO_STAT_STATE = 1 ∧ t.link.training = true ∧ t.link.attemptTick = (s.atH u).hAbs ∧ t.val R.ISO_TRAIN_COUNT = min (s.val R.ISO_TRAIN_COUNT + 1) (2 ^ 32 - 1))) = true :=
  ⟨State.reset, u0, by decide +kernel⟩

theorem witness_BarrierLink_trainingRetryTimer : ∃ (s : State) (u : Sub),
    (s.linkUp = false) ∧ (s.link.training = false) ∧ (s.powered R.ISO_CTRL = true) ∧ (s.link.attemptTick + 10000 ≤ (s.atH u).hAbs) ∧ holds (.trainingRetryTimer u) s (fun t => decide (t.get R.ISO_STAT_STATE = 1 ∧ t.link.training = true ∧ t.link.attemptTick = (s.atH u).hAbs ∧ t.val R.ISO_TRAIN_COUNT = min (s.val R.ISO_TRAIN_COUNT + 1) (2 ^ 32 - 1))) = true :=
  ⟨({ State.reset with time := { hTick := 20000 } } : State), u0, by decide +kernel⟩

theorem witness_BarrierLink_trainingDone : ∃ (s : State) (u : Sub) (fh : Nat) (hf : Nat),
    (s.link.training = true) ∧ (s.start.step = 0) ∧ (widthOf fh = 0 ∨ widthOf hf = 0) ∧ holds (.trainingDone u fh hf) s (fun t => decide (t.get R.ISO_STAT_STATE = 0 ∧ t.link.training = false)) = true :=
  ⟨({ State.reset with link := { State.reset.link with training := true } } : State), u0, 3, 65535, by decide +kernel⟩

theorem witness_BarrierLink_trainingDone2 : ∃ (s : State) (u : Sub) (fh : Nat) (hf : Nat),
    (s.link.training = true) ∧ (s.start.step = 0) ∧ (widthOf fh ≠ 0) ∧ (widthOf hf ≠ 0) :=
  ⟨({ State.reset with link := { State.reset.link with training := true } } : State), u0, 65535, 65520, by decide +kernel⟩

theorem witness_BarrierLink_frameReplay : ∃ (s : State) (u : Sub) (fh : Bool) (n : Fin 4) (lost : Option Msg),
    (s.linkUp = true) ∧ (0 < n.val) ∧ (n.val < 3 ∨ lost = none) ∧ holds (.frameReplay u fh n lost) s (fun t => decide (t.val R.ISO_REPLAY = (s.val R.ISO_REPLAY + n.val) % 2 ^ 32 ∧ t.val R.ISO_CRC_ERR = min (s.val R.ISO_CRC_ERR + n.val) (2 ^ 32 - 1) ∧ t.link = s.link)) = true :=
  ⟨(State.reset.set R.ISO_STAT_STATE 2), u0, true, ⟨2, by decide⟩, none, by decide +kernel⟩

theorem witness_BarrierLink_frameReplay2 : ∃ (s : State) (u : Sub) (m : Msg),
    (s.linkUp = true) ∧ holds (.frameReplay u true 3 (some m)) s (fun t => decide (t.val R.ISO_REPLAY = (s.val R.ISO_REPLAY + 3) % 2 ^ 32 ∧ t.val R.ISO_CRC_ERR = min (s.val R.ISO_CRC_ERR + 4) (2 ^ 32 - 1) ∧ t.link.outFH = s.link.outFH.erase m ∧ t.link.outHF = s.link.outHF)) = true :=
  ⟨(State.reset.set R.ISO_STAT_STATE 2), u0, mkMsg 1 0 3 0 0 [], by decide +kernel⟩

theorem witness_BarrierLink_isoClrStats : ∃ (s : State) (u : Sub),
    (s.powered R.ISO_CTRL = true) ∧ holds (.isoClrStats u) s (fun t => decide ((∀ a ∈ isoSats, t.val a = 0) ∧ t.val R.ISO_TUN_LAT_MAX = 0)) = true :=
  ⟨State.reset.put R.ISO_HDROP 7, u0, by decide +kernel⟩

theorem witness_LanesAndHold_laneFailure : ∃ (s : State) (u : Sub) (k : Idx16),
    (s.linkUp = true) ∧ ((s.get R.ISO_LANES_USED_FH).testBit k.val = false) ∧ holds (.laneFailure u true k) s (fun t => decide (t.get R.ISO_LANES_GOOD_FH = (s.get R.ISO_LANES_GOOD_FH &&& (65535 ^^^ 2 ^ k.val)) ∧ t.get R.ISO_STAT_STATE = s.get R.ISO_STAT_STATE ∧ t.link = s.link)) = true :=
  ⟨(((((State.reset.set R.ISO_STAT_STATE 2).set R.ISO_LANES_GOOD_FH 65535).set R.ISO_LANES_USED_FH 65535).set R.ISO_STAT_FH_WIDTH 16)).set R.ISO_LANES_USED_FH 65534, u0, ⟨0, by decide⟩, by decide +kernel⟩

theorem witness_LanesAndHold_laneFailure2 : ∃ (s : State) (u : Sub) (k : Idx16),
    (s.get R.ISO_STAT_STATE = 2) ∧ ((s.get R.ISO_LANES_USED_FH).testBit k.val = true) ∧ (12 ≤ popCount 16 (s.get R.ISO_LANES_GOOD_FH &&& (65535 ^^^ 2 ^ k.val))) ∧ holds (.laneFailure u true k) s (fun t => decide (t.get R.ISO_LANES_GOOD_FH = (s.get R.ISO_LANES_GOOD_FH &&& (65535 ^^^ 2 ^ k.val)) ∧ t.get R.ISO_STAT_STATE = 3 ∧ t.link.outFH = s.link.outFH ∧ t.link.outHF = s.link.outHF)) = true :=
  ⟨(((((State.reset.set R.ISO_STAT_STATE 2).set R.ISO_LANES_GOOD_FH 65535).set R.ISO_LANES_USED_FH 65535).set R.ISO_STAT_FH_WIDTH 16)), u0, ⟨3, by decide⟩, by decide +kernel⟩

theorem witness_LanesAndHold_reconfigDone : ∃ (s : State) (u : Sub),
    (s.get R.ISO_STAT_STATE = 3) ∧ (s.get R.ISO_STAT_FH_WIDTH = 16) ∧ (s.get R.ISO_LANES_USED_FH &&& (65535 ^^^ s.get R.ISO_LANES_GOOD_FH) ≠ 0) ∧ holds (.reconfigDone u) s (fun t => decide (t.get R.ISO_STAT_STATE = 2 ∧ t.get R.ISO_STAT_FH_WIDTH = 12 ∧ t.get R.ISO_LANES_USED_FH = usedLanes (s.get R.ISO_LANES_GOOD_FH) 12 ∧ t.val R.ISO_BUDGET_FH = 375000 ∧ t.is R.ISO_STAT_DEGRADED = true ∧ t.is R.ISO_EVT_DEGRADED = true ∧ t.link.shedDue = true ∧ t.faultPend 0x15 = true)) = true :=
  ⟨((((((State.reset.set R.ISO_STAT_STATE 2).set R.ISO_LANES_GOOD_FH 65535).set R.ISO_LANES_USED_FH 65535).set R.ISO_STAT_FH_WIDTH 16)).set R.ISO_STAT_STATE 3).set R.ISO_LANES_GOOD_FH 65527, u0, by decide +kernel⟩

theorem witness_LanesAndHold_reconfigDone2 : ∃ (s : State) (u : Sub),
    (s.get R.ISO_STAT_STATE = 3) ∧ (s.get R.ISO_LANES_USED_FH &&& (65535 ^^^ s.get R.ISO_LANES_GOOD_FH) = 0) ∧ (s.get R.ISO_LANES_USED_HF &&& (65535 ^^^ s.get R.ISO_LANES_GOOD_HF) = 0) ∧ holds (.reconfigDone u) s (fun t => decide (t.get R.ISO_STAT_STATE = 2 ∧ t.get R.ISO_STAT_FH_WIDTH = s.get R.ISO_STAT_FH_WIDTH ∧ t.get R.ISO_LANES_USED_FH = s.get R.ISO_LANES_USED_FH ∧ t.link.shedDue = s.link.shedDue)) = true :=
  ⟨(((((State.reset.set R.ISO_STAT_STATE 2).set R.ISO_LANES_GOOD_FH 65535).set R.ISO_LANES_USED_FH 65535).set R.ISO_STAT_FH_WIDTH 16)).set R.ISO_STAT_STATE 3, u0, by decide +kernel⟩

theorem witness_LanesAndHold_shed : ∃ (s : State),
    (s.link.shedDue = true) ∧ (s.time.fUnit = 0) ∧ (s.fhLoad s.mode ≤ s.fhBudget) ∧ holds .shed s (fun t => decide (t.link.shedDue = false ∧ t.link.shed = s.link.shed ∧ t.regs = s.regs)) = true :=
  ⟨({ State.reset with link := { State.reset.link with shedDue := true } } : State), by decide +kernel⟩

theorem witness_LanesAndHold_shed2 : ∃ (s : State),
    (s.link.shedDue = true) ∧ (s.time.fUnit = 0) :=
  ⟨({ State.reset with link := { State.reset.link with shedDue := true, shed := [(0, 4)] } } : State), by decide +kernel⟩

theorem witness_LanesAndHold_linkHoldExpiry : ∃ (s : State) (u : Sub) (a : Nat),
    (s.link.hold = some a) ∧ (s.link.fUp = false) ∧ (a ≤ ((s.atH u).atF u).fU) :=
  ⟨({ State.reset with link := { State.reset.link with hold := some 0 } } : State), u0, 0, by decide +kernel⟩

theorem witness_PowerDomains_powerDomainRequest : ∃ (s : State) (u : Sub) (v : Word) (d : Nat),
    ((∀ e ∈ domBits, e ≠ 0 → (s.rd R.SYS_PWR_REQ).getLsbD e = (v.getLsbD e && e != d)) ∧ d ∈ domBits ∧ d ≠ 0) ∧ (v.getLsbD d = true) ∧ (∀ e ∈ domBits, e ≠ 0 → e ≠ d → v.getLsbD e = true) ∧ ((domNeeds d).all (fun r => s.domOn r) = true) ∧ holds (.powerDomainRequest u v) s (fun t => decide ((t.rd R.SYS_PWR_REQ).getLsbD d = true ∧ t.rd R.SYS_PWR_STAT = s.rd R.SYS_PWR_STAT)) = true :=
  ⟨(State.reset.wr R.SYS_PWR_REQ 0x0FFF7F#32), u0, 0x1FFF7F#32, 20, by decide +kernel⟩

theorem witness_PowerDomains_powerDomainRequest2 : ∃ (s : State) (u : Sub) (v : Word) (d : Nat),
    ((∀ e ∈ domBits, e ≠ 0 → (s.rd R.SYS_PWR_REQ).getLsbD e = (v.getLsbD e && e != d)) ∧ d ∈ domBits ∧ d ≠ 0) ∧ (v.getLsbD d = true) ∧ (∀ e ∈ domBits, e ≠ 0 → e ≠ d → v.getLsbD e = true) ∧ ((domNeeds d).all (fun r => s.domOn r) = false) ∧ holds (.powerDomainRequest u v) s (fun t => decide (t.is R.SYS_EVT_PWR_REFUSED = true ∧ t.rd R.SYS_PWR_REQ = s.rd R.SYS_PWR_REQ)) = true :=
  ⟨((State.reset.wr R.SYS_PWR_REQ 0x0FFF7F#32).put R.SYS_PWR_STAT 0x7F), u0, 0x1FFF7F#32, 20, by decide +kernel⟩

theorem witness_PowerDomains_powerDomainRequest3 : ∃ (s : State) (u : Sub) (v : Word) (d : Nat),
    (d ∈ domBits ∧ d ≠ 0 ∧ fieldDom d = false) ∧ (v.getLsbD d = false) ∧ (∀ e ∈ domBits, e ≠ 0 → e ≠ d → v.getLsbD e = true ∧ (s.rd R.SYS_PWR_REQ).getLsbD e = true) ∧ holds (.powerDomainRequest u v) s (fun t => decide ((t.rd R.SYS_PWR_REQ).getLsbD d = false ∧ (t.rd R.SYS_PWR_STAT).getLsbD d = false ∧ (∀ e ∈ domBits, domUses e d = true → (t.rd R.SYS_PWR_STAT).getLsbD e = false))) = true :=
  ⟨(State.reset.wr R.SYS_PWR_REQ 0x1FFF7F#32), u0, 0x1FFF7B#32, 2, by decide +kernel⟩

theorem witness_PowerDomains_domainPowered : ∃ (s : State) (u : Sub) (d : Fin 21),
    (s.start.power = true) ∧ (s.start.step = 0) ∧ (s.is R.SYS_BOOT_RECOVERY = false) ∧ (d.val ∈ domBits) ∧ (d.val ≠ 0) ∧ (d.val ≠ domH 3) ∧ ((s.rd R.SYS_PWR_REQ).getLsbD d.val = true) ∧ (s.domOn d.val = false) ∧ (s.needsOn d.val = true) ∧ (fieldDom d.val = false ∨ s.linkUp = true) ∧ (s.quietHolds d.val = false) ∧ (s.hotHolds d.val = false) ∧ holds (.domainPowered u d) s (fun t => decide ((t.rd R.SYS_PWR_STAT).getLsbD d.val = true ∧ (∀ e : Fin 32, e.val ≠ d.val → (t.rd R.SYS_PWR_STAT).getLsbD e.val = (s.rd R.SYS_PWR_STAT).getLsbD e.val))) = true :=
  ⟨(((State.reset.set R.ISO_STAT_STATE 2).put R.SYS_PWR_STAT 0x0FFF7F)), u0, ⟨20, by decide⟩, by decide +kernel⟩

theorem witness_PowerDomains_h3TrainingDone : ∃ (s : State) (u : Sub),
    ((s.rd R.SYS_PWR_REQ).getLsbD (domH 3) = true) ∧ (s.domOn (domH 3) = false) ∧ (s.needsOn (domH 3) = true) ∧ (s.hotHolds (domH 3) = false) ∧ holds (.h3TrainingDone u) s (fun t => decide (t.domOn (domH 3) = true ∧ (∀ e : Fin 32, e.val ≠ domH 3 → (t.rd R.SYS_PWR_STAT).getLsbD e.val = (s.rd R.SYS_PWR_STAT).getLsbD e.val))) = true :=
  ⟨State.reset.put R.SYS_PWR_STAT 0x1FFF7B, u0, by decide +kernel⟩

theorem witness_QuietState_quietRequest : ∃ (s : State) (u : Sub) (v : Word),
    (s.powered R.GRD_QUIET = true) ∧ (s.mode = 7) ∧ (s.is R.GRD_QUIET_ACTIVE = false) ∧ (((List.range 48).any (fun g => s.is (R.GEN_CTRL_EN g)) || s.seqState == seqRunning || s.seqState == seqPaused) = false) ∧ holds (.quietRequest u v) s (fun t => decide (t.is R.GRD_QUIET_REQ = true ∧ t.grd.enterDue = true ∧ t.get R.GRD_QUIET_KEEP_H4 = fieldOf v 2 1)) = true :=
  ⟨(State.reset.set R.SYS_MODE_MODE 7), u0, 5, by decide +kernel⟩

theorem witness_QuietState_quietRequest2 : ∃ (s : State) (u : Sub) (v : Word),
    (s.powered R.GRD_QUIET = true) ∧ (s.mode = 7) ∧ (s.is R.GRD_QUIET_ACTIVE = false) ∧ (((List.range 48).any (fun g => s.is (R.GEN_CTRL_EN g)) || s.seqState == seqRunning || s.seqState == seqPaused) = true) ∧ holds (.quietRequest u v) s (fun t => decide (t.is R.GRD_QUIET_REQ = false ∧ t.is R.GRD_EVT_QUIET_REFUSED = true ∧ t.grd = s.grd)) = true :=
  ⟨(State.reset.set R.SYS_MODE_MODE 7).set (R.GEN_CTRL_EN 3) 1, u0, 5, by decide +kernel⟩

theorem witness_QuietState_quietEnter : ∃ (s : State),
    (s.grd.enterDue = true) ∧ (s.time.fUnit = 0) :=
  ⟨({ State.reset with grd := { State.reset.grd with enterDue := true } } : State), by decide +kernel⟩

theorem witness_QuietState_wake : ∃ (s : State) (u : Sub) (w : Nat) (a : Nat),
    (s.grd.wake = some (w, a)) ∧ (w < 64) ∧ (s.is R.GRD_QUIET_ACTIVE = true) ∧ (s.time.fTick ≠ a) ∧ holds (.wake u) s (fun t => decide (t.is R.GRD_QUIET_ACTIVE = false ∧ t.is R.GRD_QUIET_REQ = false ∧ t.is R.GRD_EVT_WAKE = true ∧ t.grd.wake = none ∧ t.grd.restoreBy = some (absTick s.time.fEra s.time.fTick + 500))) = true :=
  ⟨({ State.reset with grd := { State.reset.grd with wake := some (3, 5) } } : State).set R.GRD_QUIET_ACTIVE 1, u0, 3, 5, by decide +kernel⟩

theorem witness_QuietState_quietEnd : ∃ (s : State) (u : Sub),
    (s.powered R.GRD_QUIET = true) ∧ (s.is R.GRD_QUIET_ACTIVE = true) ∧ holds (.quietEnd u) s (fun t => decide (t.is R.GRD_QUIET_ACTIVE = false ∧ t.is R.GRD_QUIET_REQ = false ∧ t.grd.restoreBy = some (absTick s.time.fEra s.time.fTick + 500))) = true :=
  ⟨State.reset.set R.GRD_QUIET_ACTIVE 1, u0, by decide +kernel⟩

theorem witness_QuietState_quietRestoreComplete : ∃ (s : State) (u : Sub) (l : Lane) (w : Nat),
    (s.grd.restoreBy.isSome = true) ∧ (domBits.all (fun d => !s.grd.off.testBit d || s.domOn d) = true) ∧ (s.grd.streams = [(l.val, w)]) ∧ (s.grd.frames = []) ∧ (s.grd.hists = []) ∧ (s.grd.maps = []) ∧ (s.grd.pairs = []) ∧ (s.grd.groups = []) ∧ (w < 2 ^ 32) ∧ holds (.quietRestoreComplete u) s (fun t => decide (t.val (R.LANE_STREAM l.val) = w ∧ t.grd.restoreBy = none ∧ t.grd.off = 0 ∧ t.grd.streams = [] ∧ t.get R.TIME_PLAN_STAT_RESULT = 1 ∧ t.plan.lastId = s.plan.lastId + 1)) = true :=
  ⟨({ State.reset with grd := { State.reset.grd with restoreBy := some 9, streams := [(3, 4)] } } : State), u0, ⟨3, by decide⟩, 4, by decide +kernel⟩

theorem witness_ClockSourcesAndBeacons_clockSourceSelect : ∃ (s : State) (u : Sub) (src : Fin 4),
    (s.powered R.TIME_CTRL = true) ∧ (s.get R.TIME_CTRL_SRC ≠ src.val) ∧ holds (.clockSourceSelect u src) s (fun t => decide (t.get R.TIME_CTRL_SRC = src.val ∧ t.get R.TIME_STAT_SRC_ACTIVE = 0 ∧ t.is R.TIME_STAT_PLL_LOCK = false ∧ t.is R.TIME_STAT_HOLDOVER = false)) = true :=
  ⟨State.reset, u0, ⟨3, by decide⟩, by decide +kernel⟩

theorem witness_ClockSourcesAndBeacons_clockSourceSelect2 : ∃ (s : State) (u : Sub) (src : Fin 4),
    (s.powered R.TIME_CTRL = true) ∧ (s.get R.TIME_CTRL_SRC = src.val) ∧ holds (.clockSourceSelect u src) s (fun t => decide (t.regs = s.regs)) = true :=
  ⟨State.reset, u0, ⟨0, by decide⟩, by decide +kernel⟩

theorem witness_ClockSourcesAndBeacons_pllLock : ∃ (s : State) (u : Sub),
    (s.powered R.TIME_CTRL = true) ∧ (s.get R.TIME_CTRL_SRC ≠ 0) ∧ (s.is R.TIME_STAT_PLL_LOCK = false) ∧ (s.is R.TIME_STAT_HOLDOVER = false) ∧ holds (.pllLock u) s (fun t => decide (t.get R.TIME_STAT_SRC_ACTIVE = s.get R.TIME_CTRL_SRC ∧ t.is R.TIME_STAT_PLL_LOCK = true ∧ t.is R.TIME_STAT_HOLDOVER = false ∧ t.is R.TIME_EVT_REF_LOCK = true)) = true :=
  ⟨(State.reset.set R.TIME_CTRL_SRC 2), u0, by decide +kernel⟩

theorem witness_ClockSourcesAndBeacons_refLost : ∃ (s : State) (u : Sub),
    (s.powered R.TIME_CTRL = true) ∧ (s.get R.TIME_CTRL_SRC ≠ 0) ∧ (s.is R.TIME_STAT_HOLDOVER = false) ∧ holds (.refLost u) s (fun t => decide (t.get R.TIME_STAT_SRC_ACTIVE = 0 ∧ t.is R.TIME_STAT_PLL_LOCK = false ∧ t.is R.TIME_STAT_HOLDOVER = true ∧ t.is R.TIME_EVT_REF_LOST = true ∧ t.faultPend 0x04 = true)) = true :=
  ⟨(State.reset.set R.TIME_CTRL_SRC 2), u0, by decide +kernel⟩

theorem witness_ClockSourcesAndBeacons_holdoverReturn : ∃ (s : State) (u : Sub),
    (s.powered R.TIME_CTRL = true) ∧ (s.is R.TIME_STAT_HOLDOVER = true) ∧ holds (.holdoverReturn u) s (fun t => decide (t.get R.TIME_STAT_SRC_ACTIVE = s.get R.TIME_CTRL_SRC ∧ t.is R.TIME_STAT_PLL_LOCK = true ∧ t.is R.TIME_STAT_HOLDOVER = false ∧ t.is R.TIME_EVT_REF_LOCK = true)) = true :=
  ⟨(State.reset.set R.TIME_CTRL_SRC 2).set R.TIME_STAT_HOLDOVER 1, u0, by decide +kernel⟩

theorem witness_ClockSourcesAndBeacons_timeClrStats : ∃ (s : State) (u : Sub),
    (s.powered R.TIME_CTRL = true) ∧ holds (.timeClrStats u) s (fun t => decide (t.val R.TIME_OVERRUN = 0)) = true :=
  ⟨State.reset.put R.TIME_OVERRUN 9, u0, by decide +kernel⟩

theorem witness_ClockSourcesAndBeacons_hostBeaconSend : ∃ (s : State),
    (s.time.hUnit = 0) ∧ (s.time.hTick % 100 = 0) ∧ (s.linkUp = true) ∧ holds .hostBeaconSend s (fun t => decide ((t.link.outHF.drop s.link.outHF.length).map Msg.ty = [0x01, 0x03] ∧ t.link.outHF.take s.link.outHF.length = s.link.outHF ∧ ((t.link.outHF.drop s.link.outHF.length).head?).map Msg.payload = some (timePayload 2 s.era (s.val64 R.TIME_EPOCH_LO) (s.val R.TIME_PATH)))) = true :=
  ⟨(State.reset.set R.ISO_STAT_STATE 2), by decide +kernel⟩

theorem witness_ClockSourcesAndBeacons_fieldStep : ∃ (s : State),
    (s.time.fStep ≠ 0) ∧ (s.time.fUnit = 0) ∧ holds .fieldStep s (fun t => decide (t.time.fTick = ((s.fU : Int) + s.time.fStep).toNat / unitsPerTick % ticksPerEra ∧ t.time.fUnit = ((s.fU : Int) + s.time.fStep).toNat % unitsPerTick ∧ t.time.fEra = ((s.fU : Int) + s.time.fStep).toNat / unitsPerTick / ticksPerEra ∧ t.time.fStep = 0 ∧ t.is R.TIME_EVT_FIELD_STEP = true)) = true :=
  ⟨({ State.reset with time := { fTick := 5, fStep := -300 } } : State), by decide +kernel⟩

theorem witness_ClockSourcesAndBeacons_healthCompose : ∃ (s : State),
    (s.powered R.FCTL_STAT = true) ∧ (s.time.fUnit < 3968 * 256) ∧ (s.fault.field = []) ∧ (s.get R.ISO_STAT_STATE = 2) ∧ holds .healthCompose s (fun t => decide ((t.link.outFH.getLast?).map Msg.ty = some 0x03 ∧ t.link.outFH.length = s.link.outFH.length + 1 ∧ t.plan.late = false ∧ t.time.fUnit = 3968 * 256)) = true :=
  ⟨(State.reset.set R.ISO_STAT_STATE 2), by decide +kernel⟩

theorem witness_ClockSourcesAndBeacons_tickOverrun : ∃ (s : State),
    (s.powered R.FCTL_STAT = true) ∧ (s.time.fUnit = 0) ∧ (s.time.overran = false) ∧ (s.time.streak < 15) ∧ holds .tickOverrun s (fun t => decide (t.val R.TIME_OVERRUN = min (s.val R.TIME_OVERRUN + 1) (2 ^ 32 - 1) ∧ t.val R.TIME_OVR_STREAK = min (s.val R.TIME_OVR_STREAK + 1) (2 ^ 32 - 1) ∧ t.val64 R.TIME_OVR_LAST_LO = s.fNow.pack ∧ t.time.deferring = true ∧ t.time.overran = true ∧ t.time.streak = s.time.streak + 1 ∧ t.is R.TIME_EVT_OVERRUN = true ∧ t.is R.TIME_EVT_OVERRUN_STREAK = s.is R.TIME_EVT_OVERRUN_STREAK)) = true :=
  ⟨State.reset, by decide +kernel⟩

theorem witness_ClockSourcesAndBeacons_tickOverrun2 : ∃ (s : State),
    (s.powered R.FCTL_STAT = true) ∧ (s.time.fUnit = 0) ∧ (s.time.overran = false) ∧ (15 ≤ s.time.streak) ∧ (s.time.streakRaised = false) ∧ holds .tickOverrun s (fun t => decide (t.val R.TIME_OVERRUN = min (s.val R.TIME_OVERRUN + 1) (2 ^ 32 - 1) ∧ t.time.streakRaised = true ∧ t.is R.TIME_EVT_OVERRUN_STREAK = true)) = true :=
  ⟨({ State.reset with time := { streak := 15 } } : State), by decide +kernel⟩

theorem witness_TheCountAndTheEpoch_eraWrap : ∃ (s : State),
    (s.start.power = true) ∧ (s.time.hTick + 1 = ticksPerEra) :=
  ⟨({ State.reset with time := { hTick := ticksPerEra - 1 } } : State), by decide +kernel⟩

theorem witness_TheCountAndTheEpoch_tickMarkWrite : ∃ (s : State),
    (s.powered R.TIME_CTRL = true) ∧ (s.time.hUnit = 0) ∧ (s.time.hTick % 100000 = 0) ∧ holds .tickMarkWrite s (fun t => decide (t.time.markTick = s.time.hTick ∧ t.time.markEra = s.era ∧ t.regs = s.regs)) = true :=
  ⟨({ State.reset with time := { hTick := 300000 } } : State), by decide +kernel⟩

theorem witness_TheCountAndTheEpoch_epochLoad : ∃ (s : State) (u : Sub),
    (s.powered R.TIME_CTRL = true) ∧ holds (.epochLoad u) s (fun t => decide (t.time.epochReq = some (s.val64 R.TIME_EPOCH_SET_LO, (s.atH u).hAbs) ∧ t.is R.TIME_CTRL_EPOCH_LOAD = true)) = true :=
  ⟨State.reset, u0, by decide +kernel⟩

theorem witness_TheCountAndTheEpoch_epochSet : ∃ (s : State) (e : Nat) (a : Nat),
    (s.powered R.TIME_CTRL = true) ∧ (s.time.epochReq = some (e, a)) ∧ (s.time.hUnit = 0) ∧ (a < s.hAbs) ∧ (s.is R.TIME_CTRL_EPOCH_LOAD = true) ∧ holds .epochSet s (fun t => decide (t.val64 R.TIME_EPOCH_LO = s.val64 R.TIME_EPOCH_SET_LO ∧ t.is R.TIME_STAT_EPOCH_VALID = true ∧ t.is R.TIME_EVT_EPOCH_SET = true ∧ t.time.epochReq = none ∧ t.is R.TIME_CTRL_EPOCH_LOAD = false)) = true :=
  ⟨((({ State.reset with time := { hTick := 7, epochReq := some (5, 3) } } : State)).set R.TIME_CTRL_EPOCH_LOAD 1).put R.TIME_EPOCH_SET_LO 99, 5, 3, by decide +kernel⟩

theorem witness_TheCountAndTheEpoch_epochSet2 : ∃ (s : State) (e : Nat) (a : Nat),
    (s.powered R.TIME_CTRL = true) ∧ (s.time.epochReq = some (e, a)) ∧ (s.time.hUnit = 0) ∧ (a < s.hAbs) ∧ (s.is R.TIME_CTRL_EPOCH_LOAD = false) ∧ (e < 2 ^ 64) ∧ holds .epochSet s (fun t => decide (t.val64 R.TIME_EPOCH_LO = e ∧ t.is R.TIME_STAT_EPOCH_VALID = true ∧ t.time.epochReq = none)) = true :=
  ⟨({ State.reset with time := { hTick := 7, epochReq := some (5, 3) } } : State), 5, 3, by decide +kernel⟩

theorem witness_PulsesAndTimeOfDay_todMessage : ∃ (s : State) (u : Sub) (b : List Byte) (sec : Nat),
    (s.powered R.TIME_CTRL = true) ∧ (todSeconds b = some sec) ∧ (s.time.todLast = some (sec - 1)) ∧ (0 < sec) ∧ holds (.todMessage u b) s (fun t => decide (t.time.todPair = some sec ∧ t.time.todLast = some sec ∧ t.is R.TIME_STAT_TOD_OK = true)) = true :=
  ⟨({ State.reset with time := { todLast := some 8 } } : State), u0, ([0x47, 0x54, 9, 0, 0, 0, 0, 0, 0, 0, 0, 0] ++ leBytes 2 (crc16 [0x47, 0x54, 9, 0, 0, 0, 0, 0, 0, 0, 0, 0])), 9, by decide +kernel⟩

theorem witness_PulsesAndTimeOfDay_todMessage2 : ∃ (s : State) (u : Sub) (b : List Byte) (sec : Nat),
    (s.powered R.TIME_CTRL = true) ∧ (todSeconds b = some sec) ∧ (s.time.todLast = none) ∧ holds (.todMessage u b) s (fun t => decide (t.time.todPair = none ∧ t.time.todLast = some sec ∧ t.regs = s.regs)) = true :=
  ⟨State.reset, u0, ([0x47, 0x54, 9, 0, 0, 0, 0, 0, 0, 0, 0, 0] ++ leBytes 2 (crc16 [0x47, 0x54, 9, 0, 0, 0, 0, 0, 0, 0, 0, 0])), 9, by decide +kernel⟩

theorem witness_PulsesAndTimeOfDay_todMessage3 : ∃ (s : State) (u : Sub) (b : List Byte),
    (s.powered R.TIME_CTRL = true) ∧ (todSeconds b = none) ∧ holds (.todMessage u b) s (fun t => decide (t.time.todPair = none ∧ t.time.todLast = none ∧ t.is R.TIME_STAT_TOD_OK = false)) = true :=
  ⟨State.reset, u0, [1], by decide +kernel⟩

theorem witness_PulsesAndTimeOfDay_ppsEdge : ∃ (s : State) (u : Sub),
    (s.powered R.TIME_CTRL = true) :=
  ⟨({ State.reset with time := { todPair := some 4 } } : State), u0, by decide +kernel⟩

theorem witness_PulsesAndTimeOfDay_ppsEdge2 : ∃ (s : State) (u : Sub) (sec : Nat),
    (s.powered R.TIME_CTRL = true) ∧ ((s.atH u).ppsSets = true) ∧ (s.time.todPair = some sec) :=
  ⟨((({ State.reset with time := { todPair := some 9 } } : State)).set R.TIME_CTRL_SRC 3).set R.TIME_CTRL_TOD_EN 1, u0, 9, by decide +kernel⟩

theorem witness_PulsesAndTimeOfDay_ppsMissing : ∃ (s : State) (u : Sub),
    (s.powered R.TIME_CTRL = true) ∧ holds (.ppsMissing u) s (fun t => decide (t.time.todPair = none ∧ t.time.residBad = 0 ∧ t.is R.TIME_STAT_PPS_LOCK = false)) = true :=
  ⟨State.reset, u0, by decide +kernel⟩

theorem witness_PlansAndBoundaries_planTakesEffect : ∃ (s : State) (p : Plan),
    (s.time.hUnit = 0) ∧ (s.powered R.TIME_CTRL = true) ∧ (s.plan.host = [p]) ∧ (absTick p.era p.tick ≤ s.hAbs) ∧ (p.id < 2 ^ 32) ∧ (0 < s.time.fUnit) ∧ holds .planTakesEffect s (fun t => decide (t.val R.TIME_PLAN_ID = p.id ∧ t.plan.host = [] ∧ t.plan.field = s.plan.field)) = true :=
  ⟨({ State.reset with time := { fUnit := 9 }, plan := { host := [{ id := 4, tick := 0, era := 0, act := .release }] } } : State), { id := 4, tick := 0, era := 0, act := .release }, by decide +kernel⟩

theorem witness_PlansAndBoundaries_planTakesEffect2 : ∃ (s : State) (p : Plan),
    (0 < s.time.hUnit) ∧ (s.time.fUnit = 0) ∧ (s.domOn (domF 1) = true) ∧ (s.plan.field = [p]) ∧ (p.dueAt (s.fTickU / unitsPerTick) = true) ∧ (p.act = .release) ∧ holds .planTakesEffect s (fun t => decide (t.plan.field = [] ∧ t.plan.fieldId = p.id ∧ t.plan.host = s.plan.host)) = true :=
  ⟨({ State.reset with time := { hUnit := 9 }, plan := { field := [{ id := 4, tick := 0, era := 0, act := .release }] } } : State), { id := 4, tick := 0, era := 0, act := .release }, by decide +kernel⟩

theorem witness_PlansAndBoundaries_tickBoundary : ∃ (s : State) (env : List LaneIn) (drive : List Port),
    (s.domOn (domF 1) = true) :=
  ⟨({ State.reset with time := { fTick := 7 } } : State), [], [], by decide +kernel⟩

theorem witness_PlansAndBoundaries_hostTickBoundary : ∃ (s : State) (line : Bool),
    (s.start.power = true) ∧ (s.time.hTick + 1 ≠ ticksPerEra) ∧ (s.start.step = 0) :=
  ⟨({ State.reset with time := { hTick := 7 } } : State), true, by decide +kernel⟩

theorem witness_PlansAndBoundaries_horizonChange : ∃ (s : State),
    (s.time.hUnit = 0) ∧ (horizonClamp (s.get R.CLR_CTRL_HORIZON) ≠ s.clr.horizon) ∧ (s.powered R.CLR_CTRL = true) ∧ holds .horizonChange s (fun t => decide (t.clr.horizon = horizonClamp (s.get R.CLR_CTRL_HORIZON))) = true :=
  ⟨State.reset.set R.CLR_CTRL_HORIZON 9, by decide +kernel⟩

theorem witness_PlansAndBoundaries_clrCtrlClrStats : ∃ (s : State) (u : Sub),
    (s.powered R.CLR_CTRL = true) ∧ holds (.clrCtrlClrStats u) s (fun t => decide (t.val R.CLR_LATE_COUNT = 0 ∧ t.val R.CLR_LATE_MAX = 0 ∧ t.val R.CLR_SQUEEZE_COUNT = 0)) = true :=
  ⟨State.reset.put R.CLR_LATE_COUNT 9, u0, by decide +kernel⟩

theorem witness_FaultCollector_faultRaise : ∃ (s : State) (u : Sub) (id : Fin 64) (data : Word),
    (s.start.power = true) ∧ (Config.faultClass id.val ≠ 0) ∧ (Config.faultIsField id.val = false) ∧ (Config.faultClass id.val ≠ 3) ∧ (s.faultHold = false ∨ s.updState ≠ updChecking) ∧ holds (.faultRaise u id data) s (fun t => decide (t.faultPend id.val = true ∧ t.val (R.FLT_CNT id.val) = min (s.val (R.FLT_CNT id.val) + 1) (2 ^ 32 - 1) ∧ t.val R.FLT_LAST_ID = id.val ∧ t.val64 R.FLT_LAST_LO = (s.atH u).hNow.pack ∧ t.is R.FLT_EVT_RAISED = true ∧ t.val R.FLT_FIRST_ID = (if s.is R.FLT_FIRST_GEN_VALID then s.val R.FLT_FIRST_ID else id.val))) = true :=
  ⟨State.reset, u0, ⟨0x0D, by decide⟩, 5, by decide +kernel⟩

theorem witness_FaultCollector_faultRaise2 : ∃ (s : State) (u : Sub) (id : Fin 64) (data : Word),
    (s.start.power = true) ∧ (Config.faultClass id.val ≠ 0) ∧ (Config.faultIsField id.val = false) ∧ (Config.faultClass id.val = 3) ∧ holds (.faultRaise u id data) s (fun t => decide (t.faultPend id.val = true ∧ t.faultHold = true ∧ t.val R.FLT_FATAL_ID = id.val ∧ t.val R.FLT_FATAL_DATA = data.toNat ∧ t.is R.FLT_EVT_FATAL = true)) = true :=
  ⟨State.reset, u0, ⟨0x01, by decide⟩, 5, by decide +kernel⟩

theorem witness_FaultCollector_fieldFaultRaise : ∃ (s : State) (u : Sub) (id : Fin 256) (data : Word),
    (s.domOn (domF 1) = true) ∧ (Config.faultClass id.val ≠ 0) ∧ (Config.faultIsField id.val = true) ∧ (Config.faultClass id.val ≠ 3) ∧ (s.fault.field = []) ∧ holds (.fieldFaultRaise u id data) s (fun t => decide (t.fault.field.map (fun x => (x.id, x.t64, x.data, x.raises)) = [(id.val, (s.atF u).fNow.pack, data.toNat, 1)])) = true :=
  ⟨State.reset, u0, ⟨0x4E, by decide⟩, 5, by decide +kernel⟩

theorem witness_FaultCollector_fieldFaultRaise2 : ∃ (s : State) (u : Sub) (id : Fin 256) (data : Word) (x : FRaise),
    (s.domOn (domF 1) = true) ∧ (Config.faultClass id.val ≠ 0) ∧ (Config.faultIsField id.val = true) ∧ (Config.faultClass id.val ≠ 3) ∧ (s.fault.field = [x]) ∧ (x.id = id.val) ∧ holds (.fieldFaultRaise u id data) s (fun t => decide (t.fault.field.map (fun y => (y.id, y.t64, y.data, y.raises)) = [(x.id, x.t64, x.data, x.raises + 1)])) = true :=
  ⟨({ State.reset with fault := { field := [{ id := 0x4E, t64 := 0, data := 0, raises := 2, forced := false, react := 1 }] } } : State), u0, ⟨0x4E, by decide⟩, 5, { id := 0x4E, t64 := 0, data := 0, raises := 2, forced := false, react := 1 }, by decide +kernel⟩

theorem witness_FaultCollector_blockResetEnd : ∃ (s : State) (u : Sub) (blk : Fin 256),
    (s.fault.resetting.any (fun p => p.1 == blk.val) = true) ∧ holds (.blockResetEnd u blk) s (fun t => decide (t.fault.resetting = s.fault.resetting.filter (fun p => p.1 != blk.val) ∧ t.regs = s.regs)) = true :=
  ⟨({ State.reset with fault := { resetting := [(0x10, 2)] } } : State), u0, ⟨0x10, by decide⟩, by decide +kernel⟩

theorem witness_FaultCollector_fltPendClear : ∃ (s : State) (u : Sub) (k : Fin 5) (v : Word),
    (s.powered (R.FLT_PEND k) = true) ∧ holds (.fltPendClear u k v) s (fun t => decide (t.rd (R.FLT_PEND k) = s.rd (R.FLT_PEND k) &&& ~~~(v &&& ~~~(fatalBits k)))) = true :=
  ⟨State.reset.put (R.FLT_PEND 0) 0x33, u0, ⟨0, by decide⟩, 0xFF, by decide +kernel⟩

theorem witness_FaultCollector_faultPinRelease : ∃ (s : State) (u : Sub) (a : Nat),
    (s.fault.faultN = some a) ∧ (s.pinCondition reactF = false) ∧ (a + 1000 ≤ s.time.hTick) ∧ holds (.faultPinRelease u false) s (fun t => decide (t.fault.faultN = none ∧ t.is R.FLT_STAT_FAULT_N = false)) = true :=
  ⟨({ State.reset with fault := { faultN := some 3 }, time := { hTick := 5000 } } : State).set R.FLT_STAT_FAULT_N 1, u0, 3, by decide +kernel⟩

theorem witness_FaultCollector_faultPinRelease2 : ∃ (s : State) (u : Sub) (a : Nat),
    (s.fault.fieldFaultN = some a) ∧ (s.linkUp = true) ∧ (s.pinCondition reactX = false) ∧ (a + 1000 ≤ s.time.fTick) ∧ holds (.faultPinRelease u true) s (fun t => decide (t.fault.fieldFaultN = none ∧ t.is R.FLT_STAT_FIELD_FAULT_N = false)) = true :=
  ⟨({ (State.reset.set R.ISO_STAT_STATE 2) with fault := { fieldFaultN := some 3 }, time := { fTick := 5000 } } : State).set R.FLT_STAT_FIELD_FAULT_N 1, u0, 3, by decide +kernel⟩

theorem witness_FaultCollector_faultForce : ∃ (s : State) (u : Sub) (k : Fin 5) (v : Word) (service : Bool) (i : Fin 32),
    (s.powered (R.FLT_FORCE k) = true) ∧ (v = BitVec.twoPow 32 i.val) ∧ (Config.faultClass (32 * k.val + i.val) = 3) ∧ (2 ≤ s.mode ∨ service = false) ∧ holds (.faultForce u k v service) s (fun t => decide (t.is R.FLT_EVT_FORCE_REFUSED = true ∧ t.is R.SEC_STAT_SERVICE_EN = service)) = true :=
  ⟨State.reset, u0, ⟨0, by decide⟩, 2, false, 1, by decide +kernel⟩

theorem witness_FaultCollector_faultForce2 : ∃ (s : State) (u : Sub) (k : Fin 5) (v : Word) (service : Bool) (i : Fin 32),
    (s.powered (R.FLT_FORCE k) = true) ∧ (v = BitVec.twoPow 32 i.val) ∧ (Config.faultClass (32 * k.val + i.val) ≠ 3) ∧ (Config.faultClass (32 * k.val + i.val) ≠ 0) ∧ (Config.faultIsField (32 * k.val + i.val) = false) ∧ (s.faultHold = false ∨ s.updState ≠ updChecking) ∧ holds (.faultForce u k v service) s (fun t => decide (t.faultPend (32 * k.val + i.val) = true ∧ t.val (R.FLT_CNT (32 * k.val + i.val)) = min (s.val (R.FLT_CNT (32 * k.val + i.val)) + 1) (2 ^ 32 - 1) ∧ t.val R.FLT_LAST_ID = 32 * k.val + i.val)) = true :=
  ⟨State.reset, u0, ⟨0, by decide⟩, 0x2000, true, 13, by decide +kernel⟩

theorem witness_FaultCollector_fltClrStats : ∃ (s : State) (u : Sub),
    (s.powered R.FLT_CTRL = true) ∧ holds (.fltClrStats u) s (fun t => decide (∀ i : Fin 144, t.val (R.FLT_CNT i.val) = 0)) = true :=
  ⟨State.reset.put (R.FLT_CNT 3) 9, u0, by decide +kernel⟩

theorem witness_FaultCollector_clrFirst : ∃ (s : State) (u : Sub),
    (s.powered R.FLT_CTRL = true) ∧ holds (.clrFirst u) s (fun t => decide (t.is R.FLT_FIRST_GEN_VALID = false)) = true :=
  ⟨State.reset.set R.FLT_FIRST_GEN_VALID 1, u0, by decide +kernel⟩

theorem witness_TemperaturesAndSupplies_temperatureLimit : ∃ (s : State) (u : Sub),
    (s.start.power = true) ∧ holds (.temperatureLimit u false false) s (fun t => decide (t.faultPend 0x18 = true ∧ t.start.hostHot = s.start.hostHot)) = true :=
  ⟨State.reset, u0, by decide +kernel⟩

theorem witness_TemperaturesAndSupplies_temperatureLimit2 : ∃ (s : State) (u : Sub),
    (s.start.power = true) ∧ (s.start.hostHot = none) :=
  ⟨State.reset, u0, by decide +kernel⟩

theorem witness_TemperaturesAndSupplies_temperatureLimit3 : ∃ (s : State) (u : Sub),
    (s.domOn (domF 1) = true) ∧ (s.start.fieldHot = none) ∧ (s.fault.field.find? (fun x => x.id == 0x4F) = none) :=
  ⟨State.reset, u0, by decide +kernel⟩

theorem witness_TemperaturesAndSupplies_fieldShutdownPowerOff : ∃ (s : State) (a : Nat),
    (s.start.fieldHot = some a) ∧ (a + 2 ≤ absTick s.time.fEra s.time.fTick) ∧ (s.start.fieldOff = false) :=
  ⟨({ State.reset with start := { State.reset.start with fieldHot := some 3 }, time := { fTick := 9 } } : State), 3, by decide +kernel⟩

theorem witness_TemperaturesAndSupplies_hostSupplyFault : ∃ (s : State) (u : Sub),
    (s.start.power = true) ∧ holds (.hostSupplyFault u) s (fun t => decide (t.faultPend 0x17 = true ∧ t.val (R.FLT_CNT 0x17) = min (s.val (R.FLT_CNT 0x17) + 1) (2 ^ 32 - 1))) = true :=
  ⟨State.reset, u0, by decide +kernel⟩

theorem witness_TemperaturesAndSupplies_fieldSupplyFault : ∃ (s : State) (u : Sub),
    (s.domOn (domF 1) = true) ∧ (s.fault.field = []) :=
  ⟨State.reset, u0, by decide +kernel⟩

theorem witness_TemperaturesAndSupplies_fieldSupplyInRange : ∃ (s : State) (u : Sub),
    holds (.fieldSupplyInRange u) s (fun t => decide (t.start.supply = true ∧ t.regs = s.regs)) = true :=
  ⟨State.reset, u0, by decide +kernel⟩

theorem witness_TemperaturesAndSupplies_fieldSupplyOutOfRange : ∃ (s : State) (u : Sub),
    (s.domOn (domF 1) = true) :=
  ⟨State.reset, u0, by decide +kernel⟩

theorem witness_TemperaturesAndSupplies_availDayRoll : ∃ (s : State),
    (s.time.hUnit = 0) ∧ (s.time.hTick % ticksPerDay = 0) ∧ holds .availDayRoll s (fun t => decide (t.val R.AVAIL_YEAR_UNCOV = min (((s.avail.days.filter (fun p => p.1 < dayOf s.hAbs && dayOf s.hAbs ≤ p.1 + 365)).map Prod.snd).foldl (· + ·) 0) (2 ^ 32 - 1))) = true :=
  ⟨({ State.reset with avail := { days := [(0, 7)] }, time := { hTick := 8640000000 } } : State), by decide +kernel⟩

theorem witness_PowerAndReset_powerUp : ∃ (s : State) (b : BootIn),
    (s.mayStart = true) ∧ (b.selfTest = true) ∧ (b.bankA = false) ∧ (b.bankB = false) :=
  ⟨State.reset, { selfTest := true, bankA := false, bankB := false, copy0 := false, copy1 := false }, by decide +kernel⟩

theorem witness_PowerAndReset_powerUp2 : ∃ (s : State) (b : BootIn),
    (s.mayStart = true) ∧ (b.selfTest = false) :=
  ⟨State.reset, { selfTest := false, bankA := false, bankB := false, copy0 := false, copy1 := false }, by decide +kernel⟩

theorem witness_PowerAndReset_powerLoss12v : ∃ (s : State) (u : Sub) (long : Bool),
    (s.start.power = true) :=
  ⟨{ (State.reset.set R.FLT_STAT_FAULT_HOLD 1) with mem := [(5, 7)] }, u0, true, by decide +kernel⟩

theorem witness_PowerAndReset_powerLoss12v2 : ∃ (s : State) (u : Sub),
    (s.start.power = false) ∧ holds (.powerLoss12v u true) s (fun t => decide (t.start = s.start ∧ t.faultHold = false)) = true :=
  ⟨({ (State.reset.set R.FLT_STAT_FAULT_HOLD 1) with start := { State.reset.start with power := false } } : State), u0, by decide +kernel⟩

theorem witness_PowerAndReset_hostInputLow : ∃ (s : State) (u : Sub),
    (s.start.power = true) :=
  ⟨State.reset, u0, by decide +kernel⟩

theorem witness_PowerAndReset_moduleReset : ∃ (s : State) (b : BootIn) (id : Nat),
    (s.fault.resetDue = some id) ∧ (b.bankA = false) ∧ (b.bankB = false) :=
  ⟨({ State.reset with fault := { resetDue := some 0x0D } } : State), { selfTest := false, bankA := false, bankB := false, copy0 := false, copy1 := false }, 0x0D, by decide +kernel⟩

theorem witness_ModesAuditAndConfigurationStore_modeRequest : ∃ (s : State) (u : Sub) (m : Idx16),
    (s.powered R.SYS_MODE = true) ∧ ((s.set R.SYS_MODE_REQ m.val).modeReason m.val ≠ 0) ∧ holds (.modeRequest u m) s (fun t => decide (t.get R.SYS_STAT_MODE_REFUSE = (s.set R.SYS_MODE_REQ m.val).modeReason m.val ∧ t.is R.SYS_EVT_MODE_REFUSED = true ∧ t.get R.SYS_MODE_MODE = s.get R.SYS_MODE_MODE ∧ t.start = s.start)) = true :=
  ⟨State.reset, u0, ⟨9, by decide⟩, by decide +kernel⟩

theorem witness_ModesAuditAndConfigurationStore_modeRequest2 : ∃ (s : State) (u : Sub) (m : Idx16),
    (s.powered R.SYS_MODE = true) ∧ ((s.set R.SYS_MODE_REQ m.val).modeReason m.val = 0) ∧ (m.val < 2) ∧ (s.linkUp = false) ∧ holds (.modeRequest u m) s (fun t => decide (t.start.moving = some (m.val, (s.atH u).hAbs + 1) ∧ t.is R.SYS_STAT_MODE_PENDING = true ∧ t.get R.SYS_MODE_REQ = m.val)) = true :=
  ⟨State.reset, u0, ⟨1, by decide⟩, by decide +kernel⟩

theorem witness_ModesAuditAndConfigurationStore_modeRequest3 : ∃ (s : State) (u : Sub) (m : Idx16),
    (s.powered R.SYS_MODE = true) ∧ ((s.set R.SYS_MODE_REQ m.val).modeReason m.val = 0) ∧ (2 ≤ m.val) ∧ (((s.set R.SYS_MODE_REQ m.val).atH u).planCheck m.val = none) ∧ holds (.modeRequest u m) s (fun t => decide (t.start.moving.map Prod.fst = some m.val ∧ t.is R.SYS_STAT_MODE_PENDING = true ∧ t.get R.TIME_PLAN_STAT_RESULT = 1 ∧ t.plan.lastId = s.plan.lastId + 1)) = true :=
  ⟨(((State.reset.set R.ISO_STAT_STATE 2).set R.SYS_MODE_MODE 1).put R.SEC_MODE_PERMIT 255), u0, ⟨3, by decide⟩, by decide +kernel⟩

theorem witness_ModesAuditAndConfigurationStore_modeChange : ∃ (s : State) (m : Nat) (a : Nat),
    (s.start.moving = some (m, a)) ∧ (s.time.hUnit = 0) ∧ (a ≤ s.hAbs) ∧ ((({ (s.doEscApply.doEscrowCommit) with start := { (s.doEscApply.doEscrowCommit).start with moving := none } } : State).set R.SYS_STAT_MODE_PENDING 0).moveReason m = 0) ∧ (m < 8) ∧ (s.start.step = 0) :=
  ⟨({ State.reset with start := { State.reset.start with moving := some (1, 0) } } : State), 1, 0, by decide +kernel⟩

theorem witness_ModesAuditAndConfigurationStore_modeChange2 : ∃ (s : State) (m : Nat) (a : Nat),
    (s.start.moving = some (m, a)) ∧ (s.time.hUnit = 0) ∧ (a ≤ s.hAbs) ∧ ((({ (s.doEscApply.doEscrowCommit) with start := { (s.doEscApply.doEscrowCommit).start with moving := none } } : State).set R.SYS_STAT_MODE_PENDING 0).moveReason m ≠ 0) ∧ (s.start.step = 0) :=
  ⟨({ State.reset with start := { State.reset.start with moving := some (4, 0) } } : State), 4, 0, by decide +kernel⟩

theorem witness_ModesAuditAndConfigurationStore_arGo : ∃ (s : State) (u : Sub),
    (s.powered R.SEC_CTRL = true) ∧ (s.is R.SEC_STAT_AR_BUSY = false) :=
  ⟨State.reset, u0, by decide +kernel⟩

theorem witness_ModesAuditAndConfigurationStore_auditReportReady : ∃ (s : State) (u : Sub),
    (s.is R.SEC_STAT_AR_BUSY = true) ∧ (s.mintOk = true) :=
  ⟨State.reset.set R.SEC_STAT_AR_BUSY 1, u0, by decide +kernel⟩

theorem witness_ModesAuditAndConfigurationStore_sysClrStats : ∃ (s : State) (u : Sub),
    (s.powered R.SYS_CTRL = true) ∧ holds (.sysClrStats u) s (fun t => decide (t.val R.SYS_SEALED_REJ = 0)) = true :=
  ⟨State.reset.put R.SYS_SEALED_REJ 5, u0, by decide +kernel⟩

theorem witness_ModesAuditAndConfigurationStore_imgErase : ∃ (s : State) (u : Sub),
    (s.powered R.SYS_IMG_CTRL = true) ∧ (s.imgBusy = false) ∧ holds (.imgErase u) s (fun t => decide (t.start.imgOp = some (1, 0, []) ∧ t.is R.SYS_IMG_STAT_BUSY = true)) = true :=
  ⟨State.reset, u0, by decide +kernel⟩

theorem witness_ModesAuditAndConfigurationStore_imgErase2 : ∃ (s : State) (u : Sub),
    (s.powered R.SYS_IMG_CTRL = true) ∧ (s.imgBusy = true) ∧ holds (.imgErase u) s (fun t => decide (t.start = s.start ∧ t.regs = s.regs)) = true :=
  ⟨State.reset.set R.SYS_IMG_STAT_BUSY 1, u0, by decide +kernel⟩

theorem witness_ModesAuditAndConfigurationStore_imgProg : ∃ (s : State) (u : Sub) (words : Fin 8192),
    (s.powered R.SYS_IMG_CTRL = true) ∧ (s.imgBusy = false) ∧ holds (.imgProg u words) s (fun t => decide (t.start.imgOp = some (2, s.val R.SYS_IMG_OFS / 4 * 4, (List.range (min words.val 4096)).map (fun k => s.rd (R.SYS_IMG_WORD k))) ∧ t.is R.SYS_IMG_STAT_BUSY = true)) = true :=
  ⟨State.reset.put (R.SYS_IMG_WORD 0) 9, u0, ⟨2, by decide⟩, by decide +kernel⟩

theorem witness_ModesAuditAndConfigurationStore_imgActivate : ∃ (s : State) (u : Sub),
    (s.powered R.SYS_IMG_CTRL = true) ∧ (s.imgBusy = false) ∧ holds (.imgActivate u) s (fun t => decide (t.start.imgCheck = true ∧ t.is R.SYS_IMG_STAT_BUSY = true)) = true :=
  ⟨State.reset, u0, by decide +kernel⟩

theorem witness_ModesAuditAndConfigurationStore_imgEraseProgDone : ∃ (s : State) (u : Sub) (o : Nat) (l : List Word),
    (s.start.imgOp = some (1, o, l)) ∧ holds (.imgEraseProgDone u) s (fun t => decide (t.imgSlot s.imgSpare = [] ∧ t.imgSlot s.start.active = s.imgSlot s.start.active ∧ t.is R.SYS_IMG_STAT_BUSY = false ∧ t.start.imgOp = none)) = true :=
  ⟨(({ State.reset with start := { State.reset.start with imgOp := some (1, 0, []), slot1 := [(5, 7)] } } : State)).set R.SYS_IMG_STAT_BUSY 1, u0, 0, [], by decide +kernel⟩

theorem witness_ModesAuditAndConfigurationStore_imgEraseProgDone2 : ∃ (s : State) (u : Sub) (o : Nat) (l : List Word),
    (s.start.imgOp = some (2, o, l)) ∧ holds (.imgEraseProgDone u) s (fun t => decide (t.imgSlot s.imgSpare = flashProg (s.imgSlot s.imgSpare) o ((l.flatMap (fun w => leBytes 4 w.toNat)).take (slotSize - o)) ∧ t.is R.SYS_IMG_STAT_BUSY = false ∧ t.start.imgOp = none)) = true :=
  ⟨(({ State.reset with start := { State.reset.start with imgOp := some (2, 8, [77]) } } : State)).set R.SYS_IMG_STAT_BUSY 1, u0, 8, [77], by decide +kernel⟩

theorem witness_ModesAuditAndConfigurationStore_imgCheckDone : ∃ (s : State) (u : Sub),
    (s.start.imgCheck = true) ∧ (s.imgRefusal ≠ 0) :=
  ⟨({ State.reset with start := { State.reset.start with imgCheck := true } } : State), u0, by decide +kernel⟩

theorem witness_UpdateStaging_updErase : ∃ (s : State) (u : Sub),
    (s.powered R.UPD_CTRL = true) ∧ (s.updBusy = false) ∧ holds (.updErase u) s (fun t => decide (t.upd.op = some (1, 0, []) ∧ t.is R.UPD_STAT_BUSY = true ∧ t.updState = updStaging ∧ t.fwBank s.spareBank = {} ∧ t.fwBank s.activeBank = s.fwBank s.activeBank)) = true :=
  ⟨({ State.reset with upd := { bankB := { st := 1, bytes := [(5, 7)] } } } : State), u0, by decide +kernel⟩

theorem witness_UpdateStaging_updErase2 : ∃ (s : State) (u : Sub),
    (s.powered R.UPD_CTRL = true) ∧ (s.updBusy = true) ∧ holds (.updErase u) s (fun t => decide (t.upd = s.upd ∧ t.regs = s.regs)) = true :=
  ⟨State.reset.set R.UPD_STAT_BUSY 1, u0, by decide +kernel⟩

theorem witness_UpdateStaging_updProg : ∃ (s : State) (u : Sub) (words : Fin 8192),
    (s.powered R.UPD_CTRL = true) ∧ (s.updBusy = false) ∧ holds (.updProg u words) s (fun t => decide (t.upd.op = some (2, s.val R.UPD_OFS / 4 * 4, (List.range (min words.val 4096)).map (fun k => s.rd (R.UPD_WORD k))) ∧ t.is R.UPD_STAT_BUSY = true)) = true :=
  ⟨State.reset.put (R.UPD_WORD 0) 9, u0, ⟨2, by decide⟩, by decide +kernel⟩

theorem witness_UpdateStaging_updProg2 : ∃ (s : State) (u : Sub) (words : Fin 8192),
    (s.powered R.UPD_CTRL = true) ∧ (s.updBusy = true) ∧ holds (.updProg u words) s (fun t => decide (t.upd = s.upd)) = true :=
  ⟨(State.reset.set R.UPD_STAT_STATE 3), u0, ⟨2, by decide⟩, by decide +kernel⟩

theorem witness_UpdateStaging_updEraseProgDone : ∃ (s : State) (u : Sub) (o : Nat) (l : List Word),
    (s.upd.op = some (1, o, l)) ∧ holds (.updEraseProgDone u) s (fun t => decide (t.upd.op = none ∧ t.is R.UPD_STAT_BUSY = false ∧ t.upd.bankA = s.upd.bankA ∧ t.upd.bankB = s.upd.bankB)) = true :=
  ⟨(({ State.reset with upd := { op := some (1, 0, []) } } : State)).set R.UPD_STAT_BUSY 1, u0, 0, [], by decide +kernel⟩

theorem witness_UpdateStaging_updEraseProgDone2 : ∃ (s : State) (u : Sub) (o : Nat) (l : List Word),
    (s.upd.op = some (2, o, l)) ∧ holds (.updEraseProgDone u) s (fun t => decide (t.upd.op = none ∧ t.is R.UPD_STAT_BUSY = false ∧ (t.fwBank s.spareBank).bytes = flashProg (s.fwBank s.spareBank).bytes o ((l.flatMap (fun w => leBytes 4 w.toNat)).take (fwBankSize - o)) ∧ t.fwBank s.activeBank = s.fwBank s.activeBank)) = true :=
  ⟨(({ State.reset with upd := { op := some (2, 8, [77]) } } : State)).set R.UPD_STAT_BUSY 1, u0, 8, [77], by decide +kernel⟩

theorem witness_UpdateStaging_updVerify : ∃ (s : State) (u : Sub),
    (s.powered R.UPD_CTRL = true) ∧ (s.updBusy = false) :=
  ⟨State.reset, u0, by decide +kernel⟩

theorem witness_UpdateStaging_stagingComplete : ∃ (s : State) (u : Sub),
    (s.upd.dist = true) ∧ (s.linkUp = false) ∧ holds (.stagingComplete u) s (fun t => decide (t.upd.dist = false ∧ t.get R.UPD_STAT_VRESULT = 7 ∧ t.is R.UPD_STAT_BUSY = false ∧ t.updState = s.updState)) = true :=
  ⟨(({ State.reset with upd := { dist := true } } : State)).set R.UPD_STAT_BUSY 1, u0, by decide +kernel⟩

theorem witness_UpdateStaging_stagingComplete2 : ∃ (s : State) (u : Sub),
    (s.upd.dist = true) ∧ (s.linkUp = true) ∧ (s.fwWhole = true) ∧ (s.fwEntries.all s.fwGood = true) ∧ (∀ q : Fin 16, s.podIn q.val = false) ∧ holds (.stagingComplete u) s (fun t => decide (t.upd.dist = false ∧ t.updState = updStaged ∧ t.is R.UPD_STAT_BUSY = false ∧ t.is R.UPD_EVT_VERIFIED = true)) = true :=
  ⟨(({ (State.reset.set R.ISO_STAT_STATE 2) with upd := { dist := true, rx := [{ code := 0, total := 0, data := [] }] } } : State)).set R.UPD_STAT_BUSY 1, u0, by decide +kernel⟩

theorem witness_UpdateStaging_updArm : ∃ (s : State) (u : Sub) (cell : Bool),
    (s.powered R.UPD_CTRL = true) ∧ (s.updState ≠ updStaged) ∧ holds (.updArm u cell) s (fun t => decide (t.get R.UPD_STAT_ARESULT = 1 ∧ t.upd = s.upd ∧ t.updState = s.updState ∧ t.is R.UPD_CTRL_CELL_EN = cell)) = true :=
  ⟨State.reset, u0, true, by decide +kernel⟩

theorem witness_UpdateStaging_updArm2 : ∃ (s : State) (u : Sub),
    (s.powered R.UPD_CTRL = true) ∧ (s.updState = updStaged) ∧ (s.is R.TIME_STAT_EPOCH_VALID = true) ∧ ((s.atH u).taiNow + 10000000000 ≤ s.val64 R.UPD_ACT_SEC_LO * 1000000000) ∧ (s.val64 R.UPD_ACT_SEC_LO * 1000000000 ≤ (s.atH u).taiNow + 86400000000000) ∧ (s.faultHold = false) ∧ holds (.updArm u false) s (fun t => decide (t.updState = updArmed ∧ t.upd.act = some (s.tickAtSec (s.val64 R.UPD_ACT_SEC_LO), s.tickAtSec (s.val64 R.UPD_ACT_SEC_LO - 1), s.tickAtSec (s.val64 R.UPD_ACT_SEC_LO + s.val R.UPD_CHECK)) ∧ t.is R.UPD_STAT_HEALTH = false ∧ t.is R.UPD_EVT_ARMED = true ∧ t.get R.UPD_STAT_ARESULT = s.get R.UPD_STAT_ARESULT)) = true :=
  ⟨((((State.reset.set R.UPD_STAT_STATE 2)).set R.TIME_STAT_EPOCH_VALID 1).put R.UPD_ACT_SEC_LO 20), u0, by decide +kernel⟩

theorem witness_UpdateStaging_updArm3 : ∃ (s : State) (u : Sub),
    (s.powered R.UPD_CTRL = true) ∧ (s.updState = updStaged) ∧ (s.is R.TIME_STAT_EPOCH_VALID = true) ∧ ((s.atH u).taiNow + 10000000000 ≤ s.val64 R.UPD_ACT_SEC_LO * 1000000000) ∧ (s.val64 R.UPD_ACT_SEC_LO * 1000000000 ≤ (s.atH u).taiNow + 86400000000000) ∧ (s.faultHold = false) ∧ (s.is R.TIME_STAT_PPS_LOCK = true) ∧ (s.is R.TIME_STAT_TOD_OK = true) ∧ holds (.updArm u true) s (fun t => decide (t.updState = updArmed ∧ t.upd.act = some (s.tickAtSec (s.val64 R.UPD_ACT_SEC_LO), s.tickAtSec (s.val64 R.UPD_ACT_SEC_LO - 1), s.tickAtSec (s.val64 R.UPD_ACT_SEC_LO + s.val R.UPD_CHECK)) ∧ t.is R.UPD_STAT_HEALTH = false ∧ t.is R.UPD_EVT_ARMED = true ∧ t.get R.UPD_STAT_ARESULT = s.get R.UPD_STAT_ARESULT)) = true :=
  ⟨((((State.reset.set R.UPD_STAT_STATE 2)).set R.TIME_STAT_EPOCH_VALID 1).put R.UPD_ACT_SEC_LO 20).set R.TIME_STAT_PPS_LOCK 1 |>.set R.TIME_STAT_TOD_OK 1, u0, by decide +kernel⟩

theorem witness_UpdateStaging_updCancel : ∃ (s : State) (u : Sub),
    (s.powered R.UPD_CTRL = true) ∧ (s.updState = updArmed) ∧ (s.upd.holding = false) ∧ holds (.updCancel u) s (fun t => decide (t.updState = updStaged ∧ t.upd.act = none)) = true :=
  ⟨(({ State.reset with upd := { act := some (9, 8, 10) } } : State).set R.UPD_STAT_STATE 3), u0, by decide +kernel⟩

theorem witness_UpdateStaging_updCancel2 : ∃ (s : State) (u : Sub),
    (s.powered R.UPD_CTRL = true) ∧ (s.updState = updArmed) ∧ (s.upd.holding = true) ∧ holds (.updCancel u) s (fun t => decide (t.upd = s.upd ∧ t.regs = s.regs)) = true :=
  ⟨(({ State.reset with upd := { act := some (9, 8, 10), holding := true } } : State).set R.UPD_STAT_STATE 3), u0, by decide +kernel⟩

theorem witness_UpdateStaging_bankSwap : ∃ (s : State) (a : Nat) (b : BankSt),
    (s.met.ready = some (a, b)) ∧ (s.time.fUnit = 0) ∧ (a < s.fU) ∧ (s.start.step = 0) :=
  ⟨({ State.reset with met := { ready := some (3, { tb := 5, src := 0xFF, slots := 0, items := [] }) }, time := { fTick := 1 } } : State), 3, { tb := 5, src := 0xFF, slots := 0, items := [] }, by decide +kernel⟩

theorem witness_UpdateSwitch_decisionSample : ∃ (s : State) (a : Nat) (d : Nat) (c : Nat),
    (s.upd.act = some (a, d, c)) ∧ (s.updState = updArmed) ∧ (s.upd.holding = false) ∧ (d ≤ s.hAbs) ∧ (s.is R.UPD_CTRL_CELL_EN = true) ∧ (s.is R.UPD_STAT_DRIVING = false) ∧ holds (.decisionSample true) s (fun t => decide (t.upd.holding = true ∧ t.upd.act = s.upd.act ∧ t.updState = updArmed ∧ t.is R.UPD_STAT_LINE = true)) = true :=
  ⟨(((({ State.reset with upd := { act := some (0, 0, 0) } } : State).set R.UPD_STAT_STATE 3).set R.UPD_CTRL_CELL_EN 1).set R.UPD_STAT_DRIVING 0), 0, 0, 0, by decide +kernel⟩

theorem witness_UpdateSwitch_decisionSample2 : ∃ (s : State) (a : Nat) (d : Nat) (c : Nat),
    (s.upd.act = some (a, d, c)) ∧ (s.updState = updArmed) ∧ (s.upd.holding = false) ∧ (d ≤ s.hAbs) ∧ (s.is R.UPD_CTRL_CELL_EN = true) ∧ holds (.decisionSample false) s (fun t => decide (t.upd.holding = false ∧ t.upd.act = none ∧ t.updState = updStaged ∧ t.is R.UPD_STAT_LINE = false ∧ t.get R.UPD_STAT_ARESULT = 2 ∧ t.is R.UPD_EVT_ABORTED = true)) = true :=
  ⟨((({ State.reset with upd := { act := some (0, 0, 0) } } : State).set R.UPD_STAT_STATE 3).set R.UPD_CTRL_CELL_EN 1), 0, 0, 0, by decide +kernel⟩

theorem witness_UpdateSwitch_decisionSample3 : ∃ (s : State) (line : Bool) (a : Nat) (d : Nat) (c : Nat),
    (s.upd.act = some (a, d, c)) ∧ (s.updState = updArmed) ∧ (s.upd.holding = false) ∧ (d ≤ s.hAbs) ∧ (s.is R.UPD_CTRL_CELL_EN = false) :=
  ⟨((({ State.reset with upd := { act := some (0, 0, 0) } } : State).set R.UPD_STAT_STATE 3)), true, 0, 0, 0, by decide +kernel⟩

theorem witness_UpdateSwitch_activation : ∃ (s : State) (a : Nat) (d : Nat) (c : Nat),
    (s.upd.act = some (a, d, c)) ∧ (s.updState = updArmed) ∧ (s.upd.holding = true) ∧ (a ≤ s.hAbs) ∧ (s.time.hUnit = 0) ∧ holds .activation s (fun t => decide (t.updState = updActivating ∧ (t.fwBank s.spareBank).st = 2 ∧ t.upd.hostDone = false ∧ t.upd.fieldDone = false ∧ t.fault.mgmtDown = true ∧ t.upd.modeWas = s.mode)) = true :=
  ⟨(({ State.reset with upd := { act := some (0, 0, 0), holding := true } } : State).set R.UPD_STAT_STATE 3), 0, 0, 0, by decide +kernel⟩

theorem witness_UpdateSwitch_hostStageDone : ∃ (s : State) (u : Sub),
    (s.updState = updActivating) ∧ (s.upd.reverting = false) ∧ (s.upd.hostDone = false) ∧ holds (.hostStageDone u) s (fun t => decide (t.upd.hostDone = true ∧ t.get R.SYS_BOOT_BANK = s.spareBank ∧ t.fault.mgmtDown = false ∧ t.updState = updActivating)) = true :=
  ⟨(State.reset.set R.UPD_STAT_STATE 4), u0, by decide +kernel⟩

theorem witness_UpdateSwitch_fieldStage : ∃ (s : State) (a : Nat) (d : Nat) (c : Nat),
    (s.upd.act = some (a, d, c)) ∧ (s.hAbs ≤ a + 100000) ∧ (s.upd.hostDone = true) ∧ (s.upd.fieldDone = false) ∧ (s.time.fUnit = 0) ∧ (s.is R.SEQ_STAT_CUST_RUN = false) ∧ (s.linkUp = true) ∧ (s.upd.failed = false) ∧ (s.upd.reverting = false) ∧ holds .fieldStage s (fun t => decide (t.upd.fieldDone = true ∧ t.upd.holdTo = some (absTick s.time.fEra s.time.fTick + 2) ∧ t.get R.FCTL_STAT_FW_BANK = 1 - s.get R.FCTL_STAT_FW_BANK ∧ t.updState = s.updState)) = true :=
  ⟨(({ (State.reset.set R.ISO_STAT_STATE 2) with upd := { act := some (0, 0, 0), hostDone := true } } : State).set R.UPD_STAT_STATE 4), 0, 0, 0, by decide +kernel⟩

theorem witness_UpdateSwitch_fieldStageTimeout : ∃ (s : State) (a : Nat) (d : Nat) (c : Nat),
    (s.upd.act = some (a, d, c)) ∧ (s.updState = updActivating) ∧ (s.upd.fieldDone = false) ∧ (a + 100000 < s.hAbs) ∧ holds .fieldStageTimeout s (fun t => decide (t.upd.failed = true ∧ t.updState = updChecking ∧ t.upd.holding = false)) = true :=
  ⟨{ (({ State.reset with upd := { act := some (0, 0, 0), hostDone := true } } : State).set R.UPD_STAT_STATE 4) with time := { hTick := 100001 } }, 0, 0, 0, by decide +kernel⟩

theorem witness_UpdateSwitch_healthPass : ∃ (s : State),
    (s.updState = updChecking) ∧ (s.upd.reverting = false) ∧ (s.healthy = true) ∧ holds .healthPass s (fun t => decide (t.is R.UPD_STAT_HEALTH = true ∧ t.upd = s.upd)) = true :=
  ⟨(({ (State.reset.set R.ISO_STAT_STATE 2) with upd := { act := some (0, 0, 0), hostDone := true, fieldDone := true } } : State).set R.UPD_STAT_STATE 5), by decide +kernel⟩

theorem witness_UpdateSwitch_commitSample : ∃ (s : State) (line : Bool) (a : Nat) (d : Nat) (c : Nat),
    (s.upd.act = some (a, d, c)) ∧ (s.updState = updChecking) ∧ (s.upd.reverting = false) ∧ (s.upd.lost = false) ∧ (c ≤ s.hAbs) ∧ (s.is R.UPD_CTRL_CELL_EN = false) ∧ (s.is R.UPD_STAT_HEALTH = true) ∧ holds (.commitSample line) s (fun t => decide (t.updState = updIdle ∧ t.get R.UPD_STAT_ARESULT = 3 ∧ (t.fwBank s.spareBank).st = 3 ∧ (t.fwBank s.activeBank).st = 4 ∧ t.val64 R.UPD_FLOOR_LO = s.val64 R.UPD_SEQ_LO ∧ t.is R.UPD_EVT_COMMITTED = true ∧ t.upd.act = none)) = true :=
  ⟨((({ (State.reset.set R.ISO_STAT_STATE 2) with upd := { act := some (0, 0, 0), hostDone := true, fieldDone := true, bankB := { st := 2 } } } : State).set R.UPD_STAT_STATE 5).put R.UPD_SEQ_LO 6).set R.UPD_STAT_HEALTH 1, true, 0, 0, 0, by decide +kernel⟩

theorem witness_UpdateSwitch_commitSample2 : ∃ (s : State) (a : Nat) (d : Nat) (c : Nat),
    (s.upd.act = some (a, d, c)) ∧ (s.updState = updChecking) ∧ (s.upd.reverting = false) ∧ (s.upd.lost = false) ∧ (c ≤ s.hAbs) ∧ (s.is R.UPD_CTRL_CELL_EN = true) ∧ (s.is R.UPD_STAT_DRIVING = false) ∧ holds (.commitSample true) s (fun t => decide (t.updState = updIdle ∧ t.get R.UPD_STAT_ARESULT = 3 ∧ (t.fwBank s.spareBank).st = 3 ∧ (t.fwBank s.activeBank).st = 4 ∧ t.val64 R.UPD_FLOOR_LO = s.val64 R.UPD_SEQ_LO ∧ t.is R.UPD_EVT_COMMITTED = true ∧ t.upd.act = none)) = true :=
  ⟨(((({ (State.reset.set R.ISO_STAT_STATE 2) with upd := { act := some (0, 0, 0), hostDone := true, fieldDone := true, bankB := { st := 2 } } } : State).set R.UPD_STAT_STATE 5).put R.UPD_SEQ_LO 6).set R.UPD_CTRL_CELL_EN 1).set R.UPD_STAT_DRIVING 0, 0, 0, 0, by decide +kernel⟩

theorem witness_UpdateSwitch_commitSample3 : ∃ (s : State) (line : Bool) (a : Nat) (d : Nat) (c : Nat),
    (s.upd.act = some (a, d, c)) ∧ (s.updState = updChecking) ∧ (s.upd.reverting = false) ∧ (s.upd.lost = false) ∧ (c ≤ s.hAbs) ∧ (s.is R.UPD_CTRL_CELL_EN = false) ∧ (s.is R.UPD_STAT_HEALTH = false) ∧ holds (.commitSample line) s (fun t => decide (t.get R.UPD_STAT_ARESULT = 4 ∧ (t.fwBank s.spareBank).st = 1 ∧ t.fwBank s.activeBank = s.fwBank s.activeBank ∧ t.is R.UPD_EVT_REVERTED = true ∧ t.faultPend 0x1A = true ∧ t.upd.reverting = true ∧ t.upd.hostDone = false ∧ t.upd.lowTo = some c)) = true :=
  ⟨((({ (State.reset.set R.ISO_STAT_STATE 2) with upd := { act := some (0, 0, 0), hostDone := true, fieldDone := true, bankB := { st := 2 } } } : State).set R.UPD_STAT_STATE 5).put R.UPD_SEQ_LO 6), true, 0, 0, 0, by decide +kernel⟩

theorem witness_UpdateSwitch_commitSample4 : ∃ (s : State) (a : Nat) (d : Nat) (c : Nat),
    (s.upd.act = some (a, d, c)) ∧ (s.updState = updChecking) ∧ (s.upd.reverting = false) ∧ (s.upd.lost = false) ∧ (c ≤ s.hAbs) ∧ (s.is R.UPD_CTRL_CELL_EN = true) ∧ holds (.commitSample false) s (fun t => decide (t.get R.UPD_STAT_ARESULT = 4 ∧ (t.fwBank s.spareBank).st = 1 ∧ t.fwBank s.activeBank = s.fwBank s.activeBank ∧ t.is R.UPD_EVT_REVERTED = true ∧ t.faultPend 0x1A = true ∧ t.upd.reverting = true ∧ t.upd.hostDone = false ∧ t.upd.lowTo = some c)) = true :=
  ⟨((({ (State.reset.set R.ISO_STAT_STATE 2) with upd := { act := some (0, 0, 0), hostDone := true, fieldDone := true, bankB := { st := 2 } } } : State).set R.UPD_STAT_STATE 5).put R.UPD_SEQ_LO 6).set R.UPD_CTRL_CELL_EN 1, 0, 0, 0, by decide +kernel⟩

theorem witness_EscrowPackets_packetSubmit : ∃ (s : State) (u : Sub) (service : Bool),
    (s.powered R.SEC_CTRL = true) ∧ (s.is R.SEC_STAT_VERIFY_BUSY = false) ∧ holds (.packetSubmit u service) s (fun t => decide (t.sec.pkt = some ((List.range (min 24576 ((s.val R.SEC_PKT_LEN + 3) / 4))).flatMap (fun k => leBytes 4 (s.val (R.SEC_PKT_WORD k)))) ∧ t.is R.SEC_STAT_VERIFY_BUSY = true ∧ t.is R.SEC_STAT_SERVICE_EN = service ∧ t.sec.slots = s.sec.slots)) = true :=
  ⟨State.reset.put R.SEC_PKT_LEN 6 |>.put (R.SEC_PKT_WORD 0) 0x01020304, u0, true, by decide +kernel⟩

theorem witness_EscrowPackets_packetSubmit2 : ∃ (s : State) (u : Sub) (service : Bool),
    (s.powered R.SEC_CTRL = true) ∧ (s.is R.SEC_STAT_VERIFY_BUSY = true) ∧ holds (.packetSubmit u service) s (fun t => decide (t.sec = s.sec)) = true :=
  ⟨State.reset.set R.SEC_STAT_VERIFY_BUSY 1, u0, true, by decide +kernel⟩

theorem witness_EscrowPackets_packetCheckDone : ∃ (s : State) (u : Sub) (b : List Byte),
    (s.sec.pkt = some b) ∧ holds (.packetCheckDone u) s (fun t => decide (t.sec.pkt = none ∧ t.is R.SEC_STAT_VERIFY_BUSY = false ∧ (if s.packetReason b (s.val R.SEC_PKT_LEN) (s.is R.SEC_STAT_SERVICE_EN) ≠ 0 then t.get R.SEC_STAT_PKT_REFUSE = s.packetReason b (s.val R.SEC_PKT_LEN) (s.is R.SEC_STAT_SERVICE_EN) ∧ t.is R.SEC_EVT_PKT_REFUSED = true ∧ t.val R.SEC_REFUSALS = min (s.val R.SEC_REFUSALS + 1) (2 ^ 32 - 1) ∧ t.sec.slots = s.sec.slots else (t.esc ((s.sec.slots.findIdx? (fun x => !x.used)).getD 0)).used = true ∧ (t.esc ((s.sec.slots.findIdx? (fun x => !x.used)).getD 0)).ops = (packetOps b (s.val R.SEC_PKT_LEN)).getD [] ∧ (t.esc ((s.sec.slots.findIdx? (fun x => !x.used)).getD 0)).stageAt = some (s.hAbs + 1) ∧ (t.esc ((s.sec.slots.findIdx? (fun x => !x.used)).getD 0)).signer = leAt b 58 1 ∧ t.val64 R.SEC_PKT_HWM_LO = leAt b 40 8))) = true :=
  ⟨({ State.reset with sec := { pkt := some [] } } : State).set R.SEC_STAT_VERIFY_BUSY 1, u0, [], by decide +kernel⟩

theorem witness_EscrowPackets_slotStaged : ∃ (s : State) (k : Fin 4) (a : Nat),
    ((s.esc k.val).stageAt = some a) ∧ (a ≤ s.hAbs) ∧ (s.time.hUnit = 0) ∧ holds (.slotStaged k) s (fun t => decide (t.get (R.SEC_ESC_STAT_STATE k) = (if s.slotLoosens k.val then 1 else if ((s.esc k.val).ops.any opField && s.linkUp) = true then 3 else 2) ∧ t.is (R.SEC_ESC_STAT_LOOSENS k) = s.slotLoosens k.val ∧ t.is (R.SEC_ESC_STAT_FIELD k) = (s.esc k.val).ops.any opField ∧ (t.esc k.val).expiry = s.hAbs + 8640000000 ∧ t.val64 (R.SEC_ESC_STAGED_LO k) = s.hNow.pack ∧ t.is R.SEC_EVT_STAGED = true)) = true :=
  ⟨({ State.reset with sec := { slots := [{ ops := [.rotate], used := true, stageAt := some 0 }, {}, {}, {}] } } : State), ⟨0, by decide⟩, 0, by decide +kernel⟩

theorem witness_EscrowPackets_slotStaged2 : ∃ (s : State) (k : Fin 4) (a : Nat),
    ((s.esc k.val).stageAt = some a) ∧ (a ≤ s.hAbs) ∧ (s.time.hUnit = 0) ∧ (s.slotLoosens k.val = false) ∧ ((s.esc k.val).ops.any opField = false) ∧ holds (.slotStaged k) s (fun t => decide (t.get (R.SEC_ESC_STAT_STATE k) = 2 ∧ t.is R.SEC_EVT_APPROVED = true)) = true :=
  ⟨({ State.reset with sec := { slots := [{ ops := [], used := true, stageAt := some 0 }, {}, {}, {}] } } : State), ⟨0, by decide⟩, 0, by decide +kernel⟩

theorem witness_EscrowPackets_tokenSubmit : ∃ (s : State) (u : Sub),
    (s.powered R.SEC_CTRL = true) ∧ (s.is R.SEC_STAT_VERIFY_BUSY = false) :=
  ⟨State.reset, u0, by decide +kernel⟩

theorem witness_EscrowPackets_tokenSubmit2 : ∃ (s : State) (u : Sub),
    (s.powered R.SEC_CTRL = true) ∧ (s.is R.SEC_STAT_VERIFY_BUSY = true) ∧ holds (.tokenSubmit u) s (fun t => decide (t.sec = s.sec ∧ t.regs = s.regs)) = true :=
  ⟨State.reset.set R.SEC_STAT_VERIFY_BUSY 1, u0, by decide +kernel⟩

theorem witness_EscrowPackets_tokenCheckDone : ∃ (s : State) (u : Sub) (service : Bool) (b : List Byte),
    (s.sec.tok = some b) ∧ (s.sec.slots.length = 4) ∧ holds (.tokenCheckDone u service) s (fun t => decide (t.sec.tok = none ∧ t.is R.SEC_STAT_VERIFY_BUSY = false ∧ (if s.tokenReason b service ≠ 0 then t.get R.SEC_STAT_TOK_REFUSE = s.tokenReason b service ∧ t.is R.SEC_EVT_TOK_REFUSED = true ∧ t.val R.SEC_REFUSALS = min (s.val R.SEC_REFUSALS + 1) (2 ^ 32 - 1) ∧ t.sec.slots = s.sec.slots else if leAt b 8 1 = 3 then t.val (R.SEC_ESC_STAT (leAt b 6 1)) = 6 * 2 ^ 28 ∧ t.esc (leAt b 6 1) = {} ∧ t.is R.SEC_EVT_ENDED = true else if leAt b 8 1 = 1 then (t.esc (leAt b 6 1)).approved = true ∧ t.get (R.SEC_ESC_SIGNER_APPROVER (leAt b 6 1)) = leAt b 7 1 else t.is (R.SEC_ESC_STAT_COSIGNED (leAt b 6 1)) = true))) = true :=
  ⟨({ State.reset with sec := { tok := some [0] } } : State).set R.SEC_STAT_VERIFY_BUSY 1, u0, true, [0], by decide +kernel⟩

theorem witness_EscrowPackets_slotExpiry : ∃ (s : State) (k : Fin 4),
    (s.get (R.SEC_ESC_STAT_STATE k) ≠ 0) ∧ (s.get (R.SEC_ESC_STAT_STATE k) ≠ 4) ∧ ((s.esc k.val).expiry ≤ s.hAbs) ∧ holds (.slotExpiry k) s (fun t => decide (t.val (R.SEC_ESC_STAT k) = 5 * 2 ^ 28 ∧ t.esc k.val = {} ∧ t.is R.SEC_EVT_ENDED = true ∧ t.val64 (R.SEC_ESC_SEQ_LO k) = 0)) = true :=
  ⟨State.reset.set (R.SEC_ESC_STAT_STATE 0) 1, ⟨0, by decide⟩, by decide +kernel⟩

theorem witness_EscrowPackets_slotExpiry2 : ∃ (s : State) (k : Fin 4),
    (s.get (R.SEC_ESC_STAT_STATE k) ≠ 0) ∧ (s.hAbs < (s.esc k.val).expiry) ∧ holds (.slotExpiry k) s (fun t => decide (t.sec = s.sec ∧ t.regs = s.regs)) = true :=
  ⟨({ State.reset with sec := { slots := [{ expiry := 5 }, {}, {}, {}] } } : State).set (R.SEC_ESC_STAT_STATE 0) 1, ⟨0, by decide⟩, by decide +kernel⟩

theorem witness_EscrowCommits_escrowCommit : ∃ (s : State) (k : Fin 4),
    (s.time.hUnit = 0) ∧ (s.mintOk = true) ∧ (s.upd.holding = false) ∧ (s.get (R.SEC_ESC_STAT_STATE k) = 2) ∧ (∀ j : Fin 4, j ≠ k → s.get (R.SEC_ESC_STAT_STATE j.val) = 0) ∧ (s.is (R.SEC_ESC_STAT_FIELD k) = false) ∧ ((s.esc k.val).commitAt ≤ s.hAbs) ∧ (s.escCheck k.val = 0) :=
  ⟨State.reset.set (R.SEC_ESC_STAT_STATE 0) 2, 0, by decide +kernel⟩

theorem witness_EscrowCommits_escrowCommit2 : ∃ (s : State) (k : Fin 4),
    (s.time.hUnit = 0) ∧ (s.mintOk = true) ∧ (s.upd.holding = false) ∧ (s.get (R.SEC_ESC_STAT_STATE k) = 2) ∧ (∀ j : Fin 4, j ≠ k → s.get (R.SEC_ESC_STAT_STATE j.val) = 0) ∧ (s.is (R.SEC_ESC_STAT_FIELD k) = false) ∧ (s.hAbs < (s.esc k.val).commitAt) ∧ holds .escrowCommit s (fun t => decide (t.sec = s.sec ∧ t.regs = s.regs)) = true :=
  ⟨({ State.reset with sec := { slots := [{ commitAt := 9 }, {}, {}, {}] } } : State).set (R.SEC_ESC_STAT_STATE 0) 2, 0, by decide +kernel⟩

theorem witness_EscrowCommits_escrowCommit3 : ∃ (s : State) (k : Fin 4),
    (s.time.hUnit = 0) ∧ (s.mintOk = true) ∧ (s.upd.holding = false) ∧ (s.get (R.SEC_ESC_STAT_STATE k) = 2) ∧ (∀ j : Fin 4, j ≠ k → s.get (R.SEC_ESC_STAT_STATE j.val) = 0) ∧ (s.is (R.SEC_ESC_STAT_FIELD k) = true) ∧ (s.linkUp = true) ∧ holds .escrowCommit s (fun t => decide (t.get (R.SEC_ESC_STAT_STATE k) = 3 ∧ t.link.outHF.length = s.link.outHF.length + (heldMessages (s.esc k.val).ops).length)) = true :=
  ⟨({ (State.reset.set R.ISO_STAT_STATE 2) with sec := { slots := [{ ops := [.write 0x1400024 1 1] }, {}, {}, {}] } } : State).set (R.SEC_ESC_STAT_STATE 0) 2 |>.set (R.SEC_ESC_STAT_FIELD 0) 1, 0, by decide +kernel⟩

theorem witness_EscrowCommits_fctlEscGo : ∃ (s : State) (u : Sub) (k : Fin 4) (m : Msg),
    (s.linkUp = true) ∧ (s.link.outHF.find? (isGo k.val) = some m) ∧ ((s.heldBuf k.val).writes = []) ∧ ((s.heldBuf k.val).image = none) ∧ holds (.fctlEscGo u k) s (fun t => decide (t.link.outHF = s.link.outHF.erase m ∧ t.is R.FCTL_EVT_ESC_DONE = true ∧ t.link.goAt = s.link.goAt ∧ t.heldBuf k.val = {} ∧ t.link.outFH.length = s.link.outFH.length + 1)) = true :=
  ⟨({ (State.reset.set R.ISO_STAT_STATE 2) with link := { outHF := [mkMsg 0x11 1 3 0 (T64.mk 5 0 0).pack (wrPayload (escTag 0 tagGo) R.FCTL_ESC_GO [0])] } } : State), u0, ⟨0, by decide⟩, mkMsg 0x11 1 3 0 (T64.mk 5 0 0).pack (wrPayload (escTag 0 tagGo) R.FCTL_ESC_GO [0]), by decide +kernel⟩

theorem witness_EscrowCommits_fctlEscGo2 : ∃ (s : State) (u : Sub) (k : Fin 4) (m : Msg),
    (s.linkUp = true) ∧ (s.link.outHF.find? (isGo k.val) = some m) ∧ ((s.heldBuf k.val).writes ≠ []) ∧ (absTick s.time.fEra s.time.fTick < absTick (eraOf s.time.fTick s.time.fEra (T64.unpack m.t64).tick) (T64.unpack m.t64).tick) ∧ holds (.fctlEscGo u k) s (fun t => decide (t.link.outHF = s.link.outHF.erase m ∧ t.link.goAt = s.link.goAt.filter (fun p => p.1 != k.val) ++ [(k.val, absTick (eraOf s.time.fTick s.time.fEra (T64.unpack m.t64).tick) (T64.unpack m.t64).tick)] ∧ t.link.held = s.link.held ∧ t.link.outFH.length = s.link.outFH.length + 1)) = true :=
  ⟨({ (State.reset.set R.ISO_STAT_STATE 2) with link := { outHF := [mkMsg 0x11 1 3 0 (T64.mk 5 0 0).pack (wrPayload (escTag 0 tagGo) R.FCTL_ESC_GO [0])], held := [{ writes := [(0x1400024, 1, 1)] }, {}, {}, {}] } } : State), u0, ⟨0, by decide⟩, mkMsg 0x11 1 3 0 (T64.mk 5 0 0).pack (wrPayload (escTag 0 tagGo) R.FCTL_ESC_GO [0]), by decide +kernel⟩

theorem witness_EscrowCommits_heldWriteDiscard : ∃ (s : State) (k : Fin 4),
    ((s.heldBuf k.val).writes ≠ []) ∧ (s.link.goAt.any (fun p => p.1 == k.val) = false) ∧ ((s.heldBuf k.val).prep + 64 ≤ absTick s.time.fEra s.time.fTick) ∧ holds (.heldWriteDiscard k) s (fun t => decide (t.heldBuf k.val = {} ∧ t.val (R.FCTL_ESC_HELD k) = 0 ∧ t.is R.FCTL_EVT_HELD_DISCARD = true)) = true :=
  ⟨{ ({ State.reset with link := { held := [{ writes := [(0x1400024, 1, 1)] }, {}, {}, {}] } } : State) with time := { fTick := 64 } }, ⟨0, by decide⟩, by decide +kernel⟩

theorem witness_EscrowCommits_heldWriteDiscard2 : ∃ (s : State) (k : Fin 4),
    ((s.heldBuf k.val).writes ≠ []) ∧ (s.link.goAt.any (fun p => p.1 == k.val) = false) ∧ (absTick s.time.fEra s.time.fTick < (s.heldBuf k.val).prep + 64) ∧ holds (.heldWriteDiscard k) s (fun t => decide (t.link = s.link ∧ t.regs = s.regs)) = true :=
  ⟨({ State.reset with link := { held := [{ writes := [(0x1400024, 1, 1)] }, {}, {}, {}] } } : State), ⟨0, by decide⟩, by decide +kernel⟩

theorem witness_EscrowCommits_escApply : ∃ (s : State) (k : Fin 4) (c : Nat),
    (s.time.fUnit = 0) ∧ (s.upd.holding = false) ∧ (s.link.goAt = [(k.val, c)]) ∧ (c ≤ absTick s.time.fEra s.time.fTick) ∧ ((s.escCheck k.val == 0 && s.get (R.SEC_ESC_STAT_STATE k) == 3) = false) ∧ holds .escApply s (fun t => decide (t.link.goAt = [] ∧ t.heldBuf k.val = {} ∧ t.is R.FCTL_EVT_ESC_DONE = true ∧ t.val64 R.FCTL_ESC_DONE_LO = c % ticksPerEra ∧ t.val R.FCTL_ESC_DONE_GEN % 2 ^ 16 = k.val * 16 + 1)) = true :=
  ⟨({ State.reset with link := { goAt := [(0, 0)], held := [{ writes := [(0x1400024, 1, 1)] }, {}, {}, {}] } } : State), 0, 0, by decide +kernel⟩

theorem witness_EscrowCommits_escApply2 : ∃ (s : State) (k : Fin 4) (c : Nat) (a : Nat) (m : Nat) (v : Nat),
    (s.time.fUnit = 0) ∧ (s.upd.holding = false) ∧ (s.link.goAt = [(k.val, c)]) ∧ (c ≤ absTick s.time.fEra s.time.fTick) ∧ ((s.escCheck k.val == 0 && s.get (R.SEC_ESC_STAT_STATE k) == 3) = true) ∧ ((s.heldBuf k.val).writes = [(a, m, v)]) ∧ ((s.heldBuf k.val).image = none) ∧ (isCword a = false) ∧ (plMask a ≠ 0) ∧ holds .escApply s (fun t => decide (t.link.goAt = [] ∧ t.heldBuf k.val = {} ∧ t.is R.FCTL_EVT_ESC_DONE = true ∧ t.val64 R.FCTL_ESC_DONE_LO = c % ticksPerEra ∧ t.val R.FCTL_ESC_DONE_GEN % 2 ^ 16 = k.val * 16 + 9 ∧ t.rd a = ((s.setHeld k.val {}).plWrite a m v).rd a)) = true :=
  ⟨({ State.reset with link := { goAt := [(0, 0)], held := [{ writes := [(0x1400024, 1, 1)] }, {}, {}, {}] } } : State).set (R.SEC_ESC_STAT_STATE 0) 3, 0, 0, 0x1400024, 1, 1, by decide +kernel⟩

theorem witness_EscrowCommits_secClrStats : ∃ (s : State) (u : Sub),
    (s.powered R.SEC_CTRL = true) ∧ holds (.secClrStats u) s (fun t => decide (t.val R.SEC_REFUSALS = 0 ∧ t.sec = s.sec)) = true :=
  ⟨State.reset.put R.SEC_REFUSALS 9, u0, by decide +kernel⟩

theorem witness_StoreDrives_driveLinkUp : ∃ (s : State) (u : Sub) (d : Fin 4) (x : DriveInfo),
    (s.domOn (domH 5) = true) ∧ ((s.drive d).link = false) ∧ (s.driveReason x ≠ 0) ∧ holds (.driveLinkUp u d x) s (fun t => decide (t.get (R.STOR_D_STAT_STATE d) = 6 ∧ t.get (R.STOR_D_STAT_REFUSE d) = s.driveReason x ∧ (t.drive d).link = true ∧ (t.drive d).accepted = false ∧ t.is R.STOR_EVT_REFUSED = true)) = true :=
  ⟨State.reset, u0, ⟨0, by decide⟩, { speed := 4, width := 4, ready := false, nsOk := true, size := 20000000000, mqes := 1023, mdts := 0, serial := [], wear := 1, super := none }, by decide +kernel⟩

theorem witness_StoreDrives_driveLinkUp2 : ∃ (s : State) (u : Sub) (d : Fin 4) (x : DriveInfo),
    (s.domOn (domH 5) = true) ∧ ((s.drive d).link = false) ∧ (s.driveReason x = 0) ∧ (s.posOf d.val = none) ∧ holds (.driveLinkUp u d x) s (fun t => decide (t.get (R.STOR_D_STAT_STATE d) = 2 ∧ t.get (R.STOR_D_STAT_REFUSE d) = 0 ∧ (t.drive d).link = true ∧ (t.drive d).accepted = true ∧ (t.drive d).size = x.size ∧ t.get (R.STOR_D_STAT_SPEED d) = x.speed.val ∧ t.val (R.STOR_D_WEAR d) = x.wear.val ∧ t.val (R.STOR_D_DEPTH d) = min 4096 x.mqes.val)) = true :=
  ⟨State.reset, u0, ⟨0, by decide⟩, { speed := 4, width := 4, ready := true, nsOk := true, size := 20000000000, mqes := 1023, mdts := 0, serial := [], wear := 1, super := none }, by decide +kernel⟩

theorem witness_StoreDrives_driveLinkUp3 : ∃ (s : State) (u : Sub) (d : Fin 4) (x : DriveInfo) (p : Nat),
    (s.domOn (domH 5) = true) ∧ ((s.drive d).link = false) ∧ (s.driveReason x = 0) ∧ (s.posOf d.val = some p) ∧ (s.store.lost.contains p = true) ∧ (s.store.layout = 1) ∧ (s.store.failed = false) :=
  ⟨({ State.reset with store := { id := some [], layout := 1, ports := [0, 1, 2, 3], lost := [0] } } : State), u0, ⟨0, by decide⟩, { speed := 4, width := 4, ready := true, nsOk := true, size := 20000000000, mqes := 1023, mdts := 0, serial := [], wear := 1, super := none }, 0, by decide +kernel⟩

theorem witness_StoreDrives_driveLinkDown : ∃ (s : State) (u : Sub) (d : Fin 4),
    ((s.drive d).link = true) ∧ (s.posOf d.val = none) ∧ holds (.driveLinkDown u d) s (fun t => decide ((t.drive d).link = false ∧ t.get (R.STOR_D_STAT_STATE d) = (if s.get (R.STOR_D_STAT_STATE d) = 5 then 5 else 0) ∧ t.get (R.STOR_D_STAT_SPEED d) = 0 ∧ t.get (R.STOR_D_STAT_WIDTH d) = 0)) = true :=
  ⟨({ State.reset with store := { drives := #v[{ link := true, accepted := true }, {}, {}, {}] } } : State).set (R.STOR_D_STAT_STATE 0) 2, u0, ⟨0, by decide⟩, by decide +kernel⟩

theorem witness_StoreDrives_driveLinkDown2 : ∃ (s : State) (u : Sub) (d : Fin 4) (p : Nat),
    ((s.drive d).link = true) ∧ (s.posOf d.val = some p) ∧ (s.store.lost = []) ∧ (s.store.rebuild = none) ∧ (s.store.layout = 1) ∧ (s.store.failed = false) ∧ (s.get (R.STOR_D_STAT_STATE d) = 3) :=
  ⟨({ State.reset with store := { id := some [], layout := 1, ports := [0, 1, 2, 3], drives := #v[{ link := true, accepted := true, aborting := true }, {}, {}, {}] } } : State).set (R.STOR_D_STAT_STATE 0) 3, u0, ⟨0, by decide⟩, 0, by decide +kernel⟩

theorem witness_StoreDrives_nvmeCompletion : ∃ (s : State) (u : Sub) (d : Fin 4) (k : Nat) (left : Nat) (r : List (Nat × Nat)),
    (s.domOn (domH 5) = true) ∧ ((s.drive d).link = true) ∧ ((s.drive d).q = (k, left) :: r) ∧ (s.store.loss = none) ∧ holds (.nvmeCompletion u d .write true) s (fun t => decide ((t.drive d).q = (if left ≤ (s.drive d).cmd then r else (k, left - (s.drive d).cmd) :: r) ∧ t.val (R.STOR_D_CMDS d) = (s.val (R.STOR_D_CMDS d) + 1) % 2 ^ 32 ∧ t.val64 R.STOR_BYTES_LO = (s.val64 R.STOR_BYTES_LO + min (s.drive d).cmd left) % 2 ^ 64)) = true :=
  ⟨({ State.reset with store := { drives := #v[{ link := true, q := [(0, 1048576)] }, {}, {}, {}] } } : State), u0, ⟨0, by decide⟩, 0, 1048576, [], by decide +kernel⟩

theorem witness_StoreDrives_nvmeCompletion2 : ∃ (s : State) (u : Sub) (d : Fin 4) (p : Nat),
    (s.domOn (domH 5) = true) ∧ ((s.drive d).link = true) ∧ (s.posOf d.val = some p) ∧ (s.store.lost = []) ∧ (s.store.rebuild = none) ∧ (s.store.layout = 1) ∧ (s.store.failed = false) :=
  ⟨({ State.reset with store := { id := some [], layout := 1, ports := [0, 1, 2, 3], drives := #v[{ link := true, accepted := true, aborting := true }, {}, {}, {}] } } : State), u0, ⟨0, by decide⟩, 0, by decide +kernel⟩

theorem witness_StoreDrives_nvmeCompletion3 : ∃ (s : State) (u : Sub) (d : Fin 4) (p : Nat),
    (s.domOn (domH 5) = true) ∧ ((s.drive d).link = true) ∧ (s.posOf d.val = some p) ∧ (s.store.lost = []) ∧ (s.store.rebuild = none) ∧ (s.store.layout = 1) ∧ (s.store.failed = false) :=
  ⟨({ State.reset with store := { id := some [], layout := 1, ports := [0, 1, 2, 3], drives := #v[{ link := true, accepted := true, aborting := true }, {}, {}, {}] } } : State), u0, ⟨0, by decide⟩, 0, by decide +kernel⟩

theorem witness_StoreDrives_nvmeCompletion4 : ∃ (s : State) (u : Sub) (d : Fin 4) (p : Nat),
    (s.domOn (domH 5) = true) ∧ ((s.drive d).link = true) ∧ (s.posOf d.val = some p) ∧ (s.store.lost = []) ∧ (s.store.rebuild = none) ∧ (s.store.layout = 1) ∧ (s.store.failed = false) :=
  ⟨({ State.reset with store := { id := some [], layout := 1, ports := [0, 1, 2, 3], drives := #v[{ link := true, accepted := true, aborting := true }, {}, {}, {}] } } : State), u0, ⟨0, by decide⟩, 0, by decide +kernel⟩

theorem witness_StoreDrives_nvmeCompletion5 : ∃ (s : State) (u : Sub) (d : Fin 4),
    (s.domOn (domH 5) = true) ∧ ((s.drive d).link = true) ∧ holds (.nvmeCompletion u d .rebuild true) s (fun t => decide (t.val (R.STOR_D_CMDS d) = (s.val (R.STOR_D_CMDS d) + 1) % 2 ^ 32 ∧ t.val64 R.STOR_BYTES_LO = (s.val64 R.STOR_BYTES_LO + (s.drive d).cmd) % 2 ^ 64 ∧ t.store = s.store)) = true :=
  ⟨({ State.reset with store := { drives := #v[{ link := true }, {}, {}, {}] } } : State), u0, ⟨0, by decide⟩, by decide +kernel⟩

theorem witness_StoreDrives_nvmeCompletion6 : ∃ (s : State) (u : Sub) (d : Fin 4) (y : SealSt),
    (s.domOn (domH 5) = true) ∧ ((s.drive d).link = true) ∧ (s.store.pend = some y) ∧ (y.waits.contains d.val = true) ∧ ((s.drive d).q.any (fun q => q.1 ≤ y.run) = false) :=
  ⟨({ State.reset with store := { drives := #v[{ link := true }, {}, {}, {}], pend := some { era := 0, t64 := 0, cover := 0, coverAbs := 0, epoch := 0, next := 0, chain := [], run := 0, wp := 0, waits := [0, 1] } } } : State), u0, ⟨0, by decide⟩, { era := 0, t64 := 0, cover := 0, coverAbs := 0, epoch := 0, next := 0, chain := [], run := 0, wp := 0, waits := [0, 1] }, by decide +kernel⟩

theorem witness_StoreDrives_nvmeCompletion7 : ∃ (s : State) (u : Sub) (d : Fin 4) (b : Fin 1024),
    (s.domOn (domH 5) = true) ∧ ((s.drive d).link = true) ∧ holds (.nvmeCompletion u d (.read b) false) s (fun t => decide (t.val (R.STOR_D_CMDS d) = (s.val (R.STOR_D_CMDS d) + 1) % 2 ^ 32 ∧ t.store.readBad = b.val :: s.store.readBad ∧ t.val (R.STOR_D_ERR d) = min (s.val (R.STOR_D_ERR d) + 1) (2 ^ 32 - 1))) = true :=
  ⟨({ State.reset with store := { drives := #v[{ link := true }, {}, {}, {}] } } : State), u0, ⟨0, by decide⟩, 5, by decide +kernel⟩

theorem witness_StoreDrives_nvmeCompletion8 : ∃ (s : State) (u : Sub) (d : Fin 4) (b : Fin 1024),
    (s.domOn (domH 5) = true) ∧ ((s.drive d).link = true) ∧ holds (.nvmeCompletion u d (.read b) true) s (fun t => decide (t.val (R.STOR_D_CMDS d) = (s.val (R.STOR_D_CMDS d) + 1) % 2 ^ 32 ∧ t.store = s.store)) = true :=
  ⟨({ State.reset with store := { drives := #v[{ link := true }, {}, {}, {}] } } : State), u0, ⟨0, by decide⟩, 5, by decide +kernel⟩

theorem witness_StoreDrives_nvmeCompletion9 : ∃ (s : State) (u : Sub) (d : Fin 4) (ok : Bool),
    (s.domOn (domH 5) = true) ∧ ((s.drive d).link = true) ∧ holds (.nvmeCompletion u d .other ok) s (fun t => decide (t.val (R.STOR_D_CMDS d) = (s.val (R.STOR_D_CMDS d) + 1) % 2 ^ 32 ∧ t.store = s.store)) = true :=
  ⟨({ State.reset with store := { drives := #v[{ link := true }, {}, {}, {}] } } : State), u0, ⟨0, by decide⟩, false, by decide +kernel⟩

theorem witness_StoreDrives_nvmeCompletion10 : ∃ (s : State) (u : Sub) (d : Fin 4) (ok : Bool),
    (s.domOn (domH 5) = true) ∧ ((s.drive d).link = true) ∧ holds (.nvmeCompletion u d .abort ok) s (fun t => decide (t.val (R.STOR_D_CMDS d) = (s.val (R.STOR_D_CMDS d) + 1) % 2 ^ 32 ∧ t.store.drives = s.store.drives.setIfInBounds d.val { s.drive d with aborting := false })) = true :=
  ⟨({ State.reset with store := { drives := #v[{ link := true, aborting := true }, {}, {}, {}] } } : State), u0, ⟨0, by decide⟩, true, by decide +kernel⟩

theorem witness_StoreDrives_nvmeCommandTimeout : ∃ (s : State) (u : Sub) (d : Fin 4),
    (s.domOn (domH 5) = true) ∧ ((s.drive d).link = true) ∧ holds (.nvmeCommandTimeout u d false) s (fun t => decide ((t.drive d).aborting = true ∧ t.regs = s.regs)) = true :=
  ⟨({ State.reset with store := { drives := #v[{ link := true }, {}, {}, {}] } } : State), u0, ⟨0, by decide⟩, by decide +kernel⟩

theorem witness_StoreDrives_nvmeCommandTimeout2 : ∃ (s : State) (u : Sub) (d : Fin 4) (p : Nat),
    (s.domOn (domH 5) = true) ∧ ((s.drive d).link = true) ∧ (s.posOf d.val = some p) ∧ (s.store.lost = []) ∧ (s.store.rebuild = none) ∧ (s.store.layout = 1) ∧ (s.store.failed = false) ∧ ((s.drive d).aborting = true) :=
  ⟨({ State.reset with store := { id := some [], layout := 1, ports := [0, 1, 2, 3], drives := #v[{ link := true, accepted := true, aborting := true }, {}, {}, {}] } } : State), u0, ⟨0, by decide⟩, 0, by decide +kernel⟩

theorem witness_StoreDrives_rebuildDone : ∃ (s : State) (u : Sub) (p : Nat) (n : Nat) (d : Fin 4),
    (s.store.rebuild = some (p, n)) ∧ (s.portOf p = d.val) ∧ holds (.rebuildDone u) s (fun t => decide (t.store.rebuild = none ∧ t.get (R.STOR_D_STAT_STATE d) = 3 ∧ t.val R.STOR_REBUILD_POS = n % 2 ^ 32 ∧ t.is R.STOR_EVT_REBUILD_DONE = true ∧ t.store.lost = s.store.lost)) = true :=
  ⟨({ State.reset with store := { id := some [], layout := 1, ports := [0, 1, 2, 3], rebuild := some (0, 7) } } : State), u0, 0, 7, 0, by decide +kernel⟩

theorem witness_StoreDrives_storFormat : ∃ (s : State) (u : Sub),
    (s.powered R.STOR_CTRL = true) ∧ (s.formatReason ≠ 0) ∧ holds (.storFormat u) s (fun t => decide (t.get R.STOR_STAT_REFUSE = s.formatReason ∧ t.is R.STOR_EVT_REFUSED = true ∧ t.store = s.store)) = true :=
  ⟨State.reset, u0, by decide +kernel⟩

theorem witness_StoreDrives_storFormat2 : ∃ (s : State) (u : Sub),
    (s.powered R.STOR_CTRL = true) ∧ (s.formatReason = 0) ∧ holds (.storFormat u) s (fun t => decide (t.store.id.isSome = true ∧ t.val64 R.STOR_SEQ_LO = 0 ∧ t.val R.STOR_WP = 0 ∧ t.store.ports = s.acceptedPorts ∧ t.store.pins = [] ∧ t.store.lost = [] ∧ t.store.failed = false ∧ t.store.layout = s.get R.STOR_CFG_LAYOUT ∧ (∀ p : Fin 4, p.val < s.acceptedPorts.length → t.get (R.STOR_D_STAT_STATE (t.portOf p)) = 3 ∧ t.get (R.STOR_D_STAT_POSITION (t.portOf p)) = p.val))) = true :=
  ⟨({ State.reset with store := { drives := #v[{}, { link := true, accepted := true, size := 20000000000 }, {}, {}] } } : State).set R.STOR_CFG_LAYOUT 0, u0, by decide +kernel⟩

theorem witness_SealsAndLedger_storEnWrite : ∃ (s : State) (u : Sub),
    (s.powered R.STOR_CTRL = true) ∧ holds (.storEnWrite u true) s (fun t => decide (t.is R.STOR_CTRL_EN = true ∧ t.get R.STOR_STAT_STATE = (s.set R.STOR_CTRL_EN 1).storState ∧ t.store = s.store)) = true :=
  ⟨State.reset, u0, by decide +kernel⟩

theorem witness_SealsAndLedger_storEnWrite2 : ∃ (s : State) (u : Sub),
    (s.powered R.STOR_CTRL = true) ∧ (s.is R.STOR_CTRL_EN = true) ∧ holds (.storEnWrite u false) s (fun t => decide (t.is R.STOR_CTRL_EN = false ∧ t.store.openO = none ∧ t.store.openL = none ∧ t.store.loss = none)) = true :=
  ⟨State.reset.set R.STOR_CTRL_EN 1, u0, by decide +kernel⟩

theorem witness_SealsAndLedger_sealInstant : ∃ (s : State),
    (s.sealDue = true) :=
  ⟨State.reset, by decide +kernel⟩

theorem witness_SealsAndLedger_sealInstant2 : ∃ (s : State),
    (s.sealDue = true) ∧ (s.store.pend.isSome = true) :=
  ⟨({ State.reset with store := { pend := some { era := 0, t64 := 0, cover := 0, coverAbs := 0, epoch := 0, next := 0, chain := [], run := 0, wp := 0, waits := [] } } } : State), by decide +kernel⟩

theorem witness_SealsAndLedger_sealInstant3 : ∃ (s : State),
    (s.sealDue = false) ∧ holds .sealInstant s (fun t => decide (t.store = s.store ∧ t.regs = s.regs)) = true :=
  ⟨({ State.reset with time := { hTick := 5 } } : State), by decide +kernel⟩

theorem witness_SealsAndLedger_sealNow : ∃ (s : State) (u : Sub),
    (s.powered R.STOR_CTRL = true) ∧ holds (.sealNow u) s (fun t => decide (t.store.sealNow = true ∧ t.regs = s.regs)) = true :=
  ⟨State.reset, u0, by decide +kernel⟩

theorem witness_SealsAndLedger_sealIssued : ∃ (s : State) (u : Sub) (x : SealSt),
    (s.store.pend = some x) ∧ (x.asked.isSome = true) ∧ (s.mintOk = true) :=
  ⟨({ State.reset with store := { pend := some { era := 0, t64 := 9, cover := 0, coverAbs := 0, epoch := 0, next := 0, chain := [], run := 0, wp := 0, waits := [], asked := some 3, noStore := true } } } : State), u0, { era := 0, t64 := 9, cover := 0, coverAbs := 0, epoch := 0, next := 0, chain := [], run := 0, wp := 0, waits := [], asked := some 3, noStore := true }, by decide +kernel⟩

theorem witness_SealsAndLedger_sealIssued2 : ∃ (s : State) (u : Sub) (x : SealSt),
    (s.store.pend = some x) ∧ (x.asked = none) ∧ holds (.sealIssued u) s (fun t => decide (t.store = s.store ∧ t.regs = s.regs)) = true :=
  ⟨({ State.reset with store := { pend := some { era := 0, t64 := 9, cover := 0, coverAbs := 0, epoch := 0, next := 0, chain := [], run := 0, wp := 0, waits := [], noStore := true } } } : State), u0, { era := 0, t64 := 9, cover := 0, coverAbs := 0, epoch := 0, next := 0, chain := [], run := 0, wp := 0, waits := [], noStore := true }, by decide +kernel⟩

theorem witness_SealsAndLedger_pinAdd : ∃ (s : State) (u : Sub),
    (s.powered R.STOR_PIN_CTRL = true) ∧ (s.pinReason (s.val64 R.STOR_PIN_FIRST_LO) (s.val64 R.STOR_PIN_LAST_LO) ≠ 0) ∧ holds (.pinAdd u) s (fun t => decide (t.get R.STOR_PIN_STAT_REFUSE = s.pinReason (s.val64 R.STOR_PIN_FIRST_LO) (s.val64 R.STOR_PIN_LAST_LO) ∧ t.is R.STOR_EVT_REFUSED = true ∧ t.store = s.store)) = true :=
  ⟨State.reset, u0, by decide +kernel⟩

theorem witness_SealsAndLedger_pinAdd2 : ∃ (s : State) (u : Sub),
    (s.powered R.STOR_PIN_CTRL = true) ∧ (s.pinReason (s.val64 R.STOR_PIN_FIRST_LO) (s.val64 R.STOR_PIN_LAST_LO) = 0) ∧ holds (.pinAdd u) s (fun t => decide (t.store.pins = s.store.pins ++ [(s.val64 R.STOR_PIN_FIRST_LO, s.val64 R.STOR_PIN_LAST_LO, s.rangeStripes (s.val64 R.STOR_PIN_FIRST_LO) (s.val64 R.STOR_PIN_LAST_LO))] ∧ t.get R.STOR_PIN_STAT_COUNT = s.store.pins.length + 1 ∧ t.get R.STOR_PIN_STAT_REFUSE = 0)) = true :=
  ⟨({ State.reset with store := { held := [(0, [{ stream := 1, bflags := 0, seq := 0, era := 0, items := [], first := 0, last := 0, sealNo := 0, prev := [] }])] } } : State).put R.STOR_UNITS 2000, u0, by decide +kernel⟩

theorem witness_SealsAndLedger_storeRead : ∃ (s : State) (u : Sub),
    (s.powered R.STOR_RD_CTRL = true) ∧ (s.store.read = none) ∧ (s.val R.STOR_RD_BASE % 256 * 2 ^ 30 + s.get R.STOR_RD_CTRL_COUNT * 1048576 ≤ s.wqBase) ∧ (∀ k : Fin 4, s.is (R.ACQ_GRP_CTRL_EN k.val) = false) :=
  ⟨State.reset, u0, by exact ⟨by decide +kernel, rfl, le_trans (by decide +kernel) (wqBase_ge State.reset (by decide +kernel)), by decide +kernel⟩⟩

theorem witness_SealsAndLedger_storeRead2 : ∃ (s : State) (u : Sub) (k : Fin 4),
    (s.powered R.STOR_RD_CTRL = true) ∧ (s.store.read = none) ∧ (s.is (R.ACQ_GRP_CTRL_EN k) = true) ∧ (rangesMeet (s.val R.STOR_RD_BASE % 256 * 2 ^ 30) (s.get R.STOR_RD_CTRL_COUNT * 1048576) (s.val (R.ACQ_GRP_MEM_BASE k) * 2 ^ 20) (s.val (R.ACQ_GRP_MEM_SIZE k) * 2 ^ 20) = true) :=
  ⟨((State.reset.set (R.ACQ_GRP_CTRL_EN 0) 1).put (R.ACQ_GRP_MEM_SIZE 0) 16).set R.STOR_RD_CTRL_COUNT 1, u0, 0, by decide +kernel⟩

theorem witness_SealsAndLedger_storeRead3 : ∃ (s : State) (u : Sub),
    (s.store.read.isSome = true) :=
  ⟨({ State.reset with store := { read := some (0, 1, 0) } } : State), u0, by decide +kernel⟩

theorem witness_SealsAndLedger_storeReadDone : ∃ (s : State) (u : Sub) (q : Nat) (m : Nat) (b : Nat),
    (s.store.read = some (q, m, b)) ∧ (m ≤ 1024) :=
  ⟨({ State.reset with store := { read := some (0, 1, 0) } } : State), u0, 0, 1, 0, by decide +kernel⟩

theorem witness_SealsAndLedger_storeReadDone2 : ∃ (s : State) (u : Sub) (q : Nat) (m : Nat) (b : Nat) (i : Nat),
    (s.store.read = some (q, m, b)) ∧ (i < m) ∧ (s.findBlock (q + i) = none) :=
  ⟨({ State.reset with store := { read := some (0, 1, 0) } } : State), u0, 0, 1, 0, 0, by decide +kernel⟩

theorem witness_SealsAndLedger_storClrStats : ∃ (s : State) (u : Sub),
    (s.powered R.STOR_CTRL = true) ∧ holds (.storClrStats u) s (fun t => decide (t.val R.STOR_LOST = 0 ∧ t.val R.STOR_FILLERS = 0 ∧ t.val R.STOR_MERGED = 0 ∧ (∀ d : Fin 4, t.val (R.STOR_D_ERR d.val) = 0))) = true :=
  ⟨State.reset.put R.STOR_LOST 9, u0, by decide +kernel⟩

theorem witness_SealsAndLedger_mergedAppend : ∃ (s : State) (u : Sub) (n : Nat) (f : Nat) (e : Nat) (l : Nat),
    (s.ledger.merge = some (n, f, e, l)) ∧ (s.ledger.queue.length < ledgerQueue) ∧ holds (.mergedAppend u) s (fun t => decide (t.ledger.merge = none ∧ (if s.ledger.rate < ledgerRate ∧ s.ledger.queue = [] then t.val64 R.LDG_NEXT_LO = (s.val64 R.LDG_NEXT_LO + 1) % 2 ^ 64 else t.ledger.queue.length = s.ledger.queue.length + 1))) = true :=
  ⟨({ State.reset with ledger := { merge := some (3, 1, 0, 2) } } : State), u0, 3, 1, 0, 2, by decide +kernel⟩

theorem witness_SealsAndLedger_ldgNote : ∃ (s : State) (u : Sub),
    (s.powered R.LDG_CTRL = true) ∧ (s.ledger.rate < ledgerRate) ∧ (s.ledger.queue = []) ∧ (s.ledger.merge = none) ∧ holds (.ldgNote u) s (fun t => decide (t.val64 R.LDG_NEXT_LO = (s.val64 R.LDG_NEXT_LO + 1) % 2 ^ 64 ∧ t.ledger.ring.head?.map LEntry.data = some ((List.range 10).flatMap (fun k => leBytes 4 (s.val (R.LDG_NOTE k)))) ∧ t.val64 R.LDG_HEAD_IDX_LO = s.val64 R.LDG_NEXT_LO)) = true :=
  ⟨State.reset.put (R.LDG_NOTE 0) 0x01020304, u0, by decide +kernel⟩

theorem witness_SealsAndLedger_ldgNote2 : ∃ (s : State) (u : Sub),
    (s.powered R.LDG_CTRL = true) ∧ (s.ledger.queue ≠ []) ∧ (s.ledger.queue.length < ledgerQueue) ∧ (s.ledger.merge = none) ∧ holds (.ldgNote u) s (fun t => decide (t.ledger.queue.length = s.ledger.queue.length + 1 ∧ t.is R.LDG_STAT_QUEUED = true ∧ t.ledger.ring = s.ledger.ring)) = true :=
  ⟨({ State.reset with ledger := { queue := [{ t64 := 0, era := 0, source := 0, code := 0, data := [] }] } } : State), u0, by decide +kernel⟩

theorem witness_SealsAndLedger_ldgClrStats : ∃ (s : State) (u : Sub),
    (s.powered R.LDG_CTRL = true) ∧ holds (.ldgClrStats u) s (fun t => decide (t.val R.LDG_OVERWRITTEN = 0 ∧ t.val R.LDG_MERGED = 0 ∧ t.ledger = s.ledger)) = true :=
  ⟨State.reset.put R.LDG_MERGED 9, u0, by decide +kernel⟩

theorem witness_StepRunsFront : ({ State.reset with pending := [.bankSwap] } : State).pending = .bankSwap :: [] ∧ State.reset.pending = [] := by decide +kernel

theorem witness_InvariantKept : State.reset.Inv ∧ step { State.reset with pending := [.hostTickBoundary true] } = exec (.hostTickBoundary true) State.reset := ⟨⟨rfl, rfl, by decide, by decide, by decide, by decide⟩, rfl⟩

theorem witness_TwoAccesses : ∃ (s : State) (u : Sub) (a : Nat) (w : Option (Word × Word)), a % 8 = 0 ∧ a < barSize ∧
    holds (.host64bitAccess u a w) s (fun t => t.val64 R.LDG_RD_IDX_LO == 5 + 2 ^ 32 * 6) = true :=
  ⟨State.reset, u0, R.LDG_RD_IDX_LO, some (5, 6), by decide +kernel⟩

theorem witness_NoRegister : (∃ a, a < barSize ∧ rowAt a = none ∧ isFieldAddr a = false ∧ domainOf a = none) ∧ (∃ a, a < barSize ∧ rowAt a = none ∧ isFieldAddr a = false ∧ (domainOf a).isSome = true) :=
  ⟨⟨0x110000, by decide +kernel⟩, 0x1FFFC, by decide +kernel⟩

theorem witness_NoRegister2 : ∃ (s : State) (a : Nat), a < barSize ∧ rowAt a = none ∧ isFieldAddr a = true ∧ s.linkUp = true ∧ s.mode ≠ 0 ∧ s.powered a = true :=
  ⟨(State.reset.set R.ISO_STAT_STATE 2).set R.SYS_MODE_MODE 2, 0x100FFFC, by decide +kernel⟩

theorem witness_NoDeskewNoEnable : ∃ (s : State) (p : Port), s.role p = roleRemote ∧ s.is (R.PIN_STAT_DESKEW_VALID p) = false ∧ s.is (R.PIN_CTRL_EN p) = false :=
  ⟨State.reset.set (R.PIN_STAT_ROLE 0) roleRemote, 0, by decide +kernel⟩

theorem witness_MemoryKept : mayStore (.uSafe u0) = false ∧ exec (.uSafe u0) State.reset = execUSafe u0 State.reset := ⟨rfl, rfl⟩

end Sys2Proof.Tests
end

section
/-! PROOFS. How a command reaches the module (R4–R7, R21): every command completes and leaves the queue to `step`, and what the accesses of the host link to
BAR0 come to. -/

namespace Sys2Proof.Machine

/-! ### The waiting queue (log 1, log 2, log 12) -/

/-- A meaning that answers, from every state, a next state with the queue that it was given. -/
def Completes (c : State → Host.Outcome State Fault Refusal) : Prop := ∀ s, ∃ t, c s = done s t

theorem Completes.intro {c : State → Host.Outcome State Fault Refusal} (h : ∀ s, ∃ t, c s = done s t) : Completes c := h

/-- A meaning that kept the queue itself answers the state that it reached. -/
theorem done_of_pending {s t : State} (h : t.pending = s.pending) : done s t = .next t := by simp [done, ← h]

/-- Every arm of `exec` ends in `done`. -/
theorem exec_completes (i : Instr) : Completes (exec i) := by
  intro s
  cases i <;> exact ⟨_, rfl⟩

theorem answers_pending (i : Instr) (s : State) : Answers i s (fun t => t.pending = s.pending) := by
  obtain ⟨t, ht⟩ := exec_completes i s
  exact ⟨_, ht, rfl⟩

theorem step_of_pending_nil {s : State} (h : s.pending = []) : step s = .next s := by simp [step, h]

theorem step_of_pending_cons {s : State} {c : Instr} {rest : List Instr} (h : s.pending = c :: rest) :
    step s = exec c { s with pending := rest } := by simp [step, h]

/-- Settles O53: both clauses are the two cases of `step` (log 1, log 2). -/
theorem stepRunsFront : Obligations.StepRunsFront :=
  ⟨fun _ _ _ => step_of_pending_cons, fun _ => step_of_pending_nil⟩

/-- A step takes one command from the queue, so a queue of `n` commands lasts `n` steps. -/
theorem runsTo_pending_nil (n : Nat) : ∀ s : State, s.pending.length = n → RunsTo n s (fun t => t.pending = []) := by
  induction n with
  | zero => exact fun s h => List.length_eq_zero_iff.mp h
  | succ n ih =>
    intro s h
    obtain ⟨c, rest, hs⟩ := List.exists_cons_of_length_eq_add_one h
    obtain ⟨t, ht, hp⟩ := answers_pending c { s with pending := rest }
    refine ⟨t, (step_of_pending_cons hs).trans ht, ih t ?_⟩
    rw [hs, List.length_cons] at h
    rw [hp]
    exact Nat.succ.inj h

/-- Settles O54, by induction on the length of the queue (log 1, log 12). -/
theorem queueDrains : Obligations.QueueDrains :=
  ⟨answers_pending, fun s => runsTo_pending_nil _ s rfl⟩

/-! ### What the arrival of an access leaves -/

/-- `t` has the queue, the time of both halves and the power of the domains of `s`. -/
structure Steady (s t : State) : Prop where
  pending : t.pending = s.pending
  time : t.time = s.time
  power : t.rd R.SYS_PWR_STAT = s.rd R.SYS_PWR_STAT

namespace Steady
variable {s t v : State}

theorem refl (s : State) : Steady s s := ⟨rfl, rfl, rfl⟩
theorem trans (h : Steady s t) (h' : Steady t v) : Steady s v :=
  ⟨h'.pending.trans h.pending, h'.time.trans h.time, h'.power.trans h.power⟩
theorem ite {c : Prop} [Decidable c] (h : Steady s t) (h' : Steady s v) : Steady s (if c then t else v) := by
  split
  · exact h
  · exact h'
theorem of_onField {w : Nat → Prop} (h : OnField w s t) (hw : ¬ w R.SYS_PWR_STAT) : Steady s t := ⟨h.pending, h.time, h.rd hw⟩
theorem of_onHost {w : Nat → Prop} (h : OnHost w s t) (hw : ¬ w R.SYS_PWR_STAT) : Steady s t := ⟨h.pending, h.time, h.rd hw⟩
theorem put {a : Nat} (s : State) (x : Nat) (h : R.SYS_PWR_STAT ≠ a) : Steady s (s.put a x) := ⟨rfl, rfl, s.rd_put_ne x h⟩
theorem set (s : State) (f : Fld) (x : Nat) (h : R.SYS_PWR_STAT ≠ f.addr) : Steady s (s.set f x) := ⟨rfl, rfl, s.rd_set_ne f x h⟩
theorem foldl {α : Type} {f : State → α → State} (hf : ∀ t x, Steady t (f t x)) (l : List α) : ∀ s, Steady s (l.foldl f s) := by
  induction l with
  | nil => exact refl
  | cons x l ih => exact fun s => (hf s x).trans (ih _)
theorem powered (h : Steady s t) (a : Nat) : t.powered a = s.powered a := by
  simp only [State.powered, State.domOn, h.power]
theorem io (s : State) (x : IoSt) : Steady s { s with io := x } := ⟨rfl, rfl, rfl⟩
end Steady

/-! ### The sequencer at an instant of the field tick -/

theorem State.setPinRt_steady (s : State) (p : Nat) (r : PinRt) : Steady s (s.setPinRt p r) := ⟨rfl, rfl, rfl⟩

theorem State.driverOff_steady (s : State) (p : Nat) : Steady s (s.driverOff p) := by
  have h : Steady s (if s.is (R.PIN_STAT_DRV_ON p) then s.set (R.PIN_STAT_DRV_ON p) 0 else s) :=
    .ite (.set _ _ _ (by simp [R.PIN_STAT_DRV_ON, R.PIN_STAT, R.SYS_PWR_STAT]; omega)) (.refl s)
  exact h.trans (State.setPinRt_steady _ _ _)

theorem State.stopEntry_steady (s : State) (source inst t64 cancelled cut : Nat) : Steady s (s.stopEntry source inst t64 cancelled cut) :=
  .of_onHost (s.stopEntry_host source inst t64 cancelled cut) (by decide)

theorem State.pinStop_steady (s : State) (p stop : Nat) : Steady s (s.pinStop p stop) := by
  unfold State.pinStop
  extract_lets s1
  have busy : Steady s s1 := (s.driverOff_steady p).trans
    (.set _ _ _ (by simp [R.PIN_STAT_BUSY, R.PIN_STAT, R.SYS_PWR_STAT]; omega))
  exact (busy.trans (s1.setPinRt_steady p _)).trans (State.stopEntry_steady _ _ _ _ _ _)

theorem State.pinSettle_steady (s : State) (t : Nat) : Steady s (s.pinSettle t) := by
  unfold State.pinSettle
  split
  · refine Steady.foldl ?_ _ s
    intro t x
    exact t.pinStop_steady x.1 _
  · exact .refl s

theorem State.setSeq_steady (s : State) (q : SeqSt) : Steady s (s.setSeq q) := ⟨rfl, rfl, rfl⟩

theorem State.seqEnterHalt_steady (s : State) (cause : Nat) : Steady s (s.seqEnterHalt cause) :=
  (Steady.set s R.SEQ_STAT_STATE _ (by decide)).trans ((Steady.put _ _ (by decide)).trans
    ((Steady.set _ R.SEQ_EVT_HALTED _ (by decide)).trans (.of_onField (State.fieldEvent_field _ _ _ _ _ _) id)))

theorem State.enabledOff_steady (s : State) : Steady s s.enabledOff := by
  unfold State.enabledOff
  refine Steady.foldl ?_ _ s
  intro t x
  exact t.driverOff_steady x.1

theorem State.seqArrive_steady (s : State) (st cause : Nat) : Steady s (s.seqArrive st cause) := by
  unfold State.seqArrive
  split
  · exact (s.setSeq_steady _).trans ((Steady.set _ R.SEQ_STAT_STATE _ (by decide)).trans (.set _ R.SEQ_EVT_PAUSED _ (by decide)))
  · have off : Steady s (if cause = 0x0F ∨ cause = 0x12 then s.enabledOff else s) :=
      .ite s.enabledOff_steady (.refl s)
    have addr (t : State) (a : Nat) : Steady t (t.put64 R.SEQ_VADDR_LO a) := (Steady.put _ _ (by decide)).trans (.put _ _ (by decide))
    exact off.trans ((addr _ _).trans ((Steady.set _ R.SEQ_STAT_OVERDRAFT _ (by decide)).trans
      ((State.setSeq_steady _ _).trans (State.seqEnterHalt_steady _ _))))

theorem State.seqSettle_steady (s : State) : Steady s s.seqSettle := by
  unfold State.seqSettle
  extract_lets ran s1 wait s2
  have h1 : Steady s s1 := .ite ((s.pinSettle_steady _).trans (.set _ R.SEQ_STAT_BUSY _ (by decide))) (s.pinSettle_steady _)
  have h2 : Steady s s2 := h1.trans (.set _ R.SEQ_STAT_WAITING _ (by decide))
  split
  · exact .ite (h2.trans (State.seqArrive_steady _ _ _)) h2
  · exact h2

/-- The field half when an access reaches its registers: the sequencer's state may follow, and nothing else that an access turns on. -/
theorem State.arrive_steady (s : State) (u : Sub) (c : Prop) [Decidable c] : Steady (s.atF u) (if c then s.atSeq u else s.atF u) :=
  .ite (s.atF u).seqSettle_steady (.refl _)

/-! ### Register writes of the host half keep the queue -/

/-- `t` has the queue of `s`. -/
def SameQueue (s t : State) : Prop := t.pending = s.pending

namespace SameQueue
variable {s t v : State}

theorem trans (h : SameQueue s t) (h' : SameQueue t v) : SameQueue s v := Eq.trans h' h
theorem ite {c : Prop} [Decidable c] (h : SameQueue s t) (h' : SameQueue s v) : SameQueue s (if c then t else v) := by
  split
  · exact h
  · exact h'
theorem after {c : State → Host.Outcome State Fault Refusal} (h : SameQueue s t)
    (hc : Completes c := by exact .intro fun _ => ⟨_, rfl⟩) : SameQueue s (t.after c) := by
  obtain ⟨t', ht⟩ := hc t
  simpa [SameQueue, State.after, ht, done] using h
theorem sc {c : State → Host.Outcome State Fault Refusal} {x : Word} {b : Nat} (h : SameQueue s t)
    (hc : Completes c := by exact .intro fun _ => ⟨_, rfl⟩) : SameQueue s (t.sc x b c) := .ite (.after h hc) h
theorem plainWrite {a : Nat} {x : Word} (h : SameQueue s t) : SameQueue s (t.plainWrite a x) := by
  unfold State.plainWrite
  split <;> exact h
theorem plainBut {a : Nat} {k x : Word} (h : SameQueue s t) : SameQueue s (t.plainBut a k x) := h.plainWrite
end SameQueue

section
variable (s : State) (u : Sub) (a : Nat) (v : Word)

theorem State.writeSys_queue : SameQueue s (s.writeSys u a v) := by
  have h : SameQueue s s := rfl
  unfold State.writeSys
  exact .ite h.sc (.ite h.after (.ite (.ite h.after h.after) (.ite h.after (.ite h.plainWrite.sc.sc.sc (.ite h.plainWrite h.plainWrite)))))

theorem State.writeTime_queue : SameQueue s (s.writeTime u a v) := by
  have h : SameQueue s s := rfl
  unfold State.writeTime
  exact .ite h.plainBut.after.sc.sc h.plainWrite

theorem State.writeClr_queue : SameQueue s (s.writeClr u a v) := by
  have h : SameQueue s s := rfl
  unfold State.writeClr
  exact .ite h.plainWrite.sc h.plainWrite

theorem State.writeChan_queue : SameQueue s (s.writeChan u a v) := by
  have h : SameQueue s s := rfl
  unfold State.writeChan
  extract_lets c s1 s2
  have h2 : SameQueue s s2 := .ite h.plainBut.sc.after h.plainBut.sc.after
  exact .ite h2.sc.sc (.ite (.ite h h.plainWrite) (.ite h.after h.plainWrite))

theorem State.writeHdma_queue : SameQueue s (s.writeHdma u a v) := by
  have h : SameQueue s s := rfl
  unfold State.writeHdma
  extract_lets on s1 eq s2
  have h1 : SameQueue s s1 := h.plainWrite
  have h2 : SameQueue s s2 := .ite h1 h1
  exact .ite (s.writeChan_queue u a v) (.ite h2.sc (.ite (.ite h h.plainWrite) (.ite h.plainWrite h.plainWrite)))

theorem State.writeStor_queue : SameQueue s (s.writeStor u a v) := by
  have h : SameQueue s s := rfl
  unfold State.writeStor
  extract_lets s1 s2
  have h2 : SameQueue s s2 := .ite h.sc h.sc.after
  exact .ite h2.sc.sc (.ite (.ite h.plainBut h.plainWrite) (.ite h.plainWrite (.ite h.plainWrite.sc
    (.ite (.sc (.ite h h.plainWrite)) h.plainWrite))))

theorem State.writeSec_queue : SameQueue s (s.writeSec u a v) := by
  have h : SameQueue s s := rfl
  unfold State.writeSec
  exact .ite h.sc.sc.sc.sc (.ite h (.ite h (.ite h h.plainWrite)))

theorem State.writeFlt_queue : SameQueue s (s.writeFlt u a v) := by
  have h : SameQueue s s := rfl
  unfold State.writeFlt
  exact .ite h.sc.sc (.ite h.after (.ite h.after (.ite (s.set_pending _ _) h.plainWrite)))

theorem State.writeUpd_queue : SameQueue s (s.writeUpd u a v) := by
  have h : SameQueue s s := rfl
  unfold State.writeUpd
  exact .ite h.plainWrite.sc.sc.sc.sc.sc (.ite h.plainWrite (.ite (.ite h h.plainWrite) (.ite (.ite h.plainWrite h) h.plainWrite)))

theorem State.writeLdg_queue : SameQueue s (s.writeLdg u a v) := by
  have h : SameQueue s s := rfl
  unfold State.writeLdg
  exact .ite h.sc.sc h.plainWrite

theorem State.writeIso_queue : SameQueue s (s.writeIso u a v) := by
  have h : SameQueue s s := rfl
  unfold State.writeIso
  exact .ite h.sc.sc h.plainWrite

theorem State.writeHost_queue : SameQueue s (s.writeHost u a v) := by
  unfold State.writeHost
  split
  · exact s.writeSys_queue u a v
  · exact s.writeTime_queue u a v
  · exact s.writeClr_queue u a v
  · exact s.writeHdma_queue u a v
  · exact s.writeStor_queue u a v
  · exact s.writeSec_queue u a v
  · exact s.writeFlt_queue u a v
  · exact s.writeUpd_queue u a v
  · exact s.writeLdg_queue u a v
  · exact s.writeIso_queue u a v
end

theorem State.plEntry_queue (s : State) (a : Nat) (v : Word) : SameQueue s (s.plEntry a v) :=
  .ite (s.ledgerF_host _ _ _ _).pending (s.ledgerH_host _ _ _ _).pending

/-! ### What a write and a read come to -/

theorem State.atH_atH (s : State) (u : Sub) : (s.atH u).atH u = s.atH u := by
  simp [State.atH]

/-- A write to a host address moves the half on to its instant itself. -/
theorem State.writeReg_atH (s : State) (u : Sub) (r : Requester) {a : Nat} (v : Word) (h : isFieldAddr a = false) :
    (s.atH u).writeReg u r a v = s.writeReg u r a v := by
  simp [State.writeReg, h, State.atH_atH]

theorem State.writeReg_host_queue (s : State) (u : Sub) (r : Requester) {a : Nat} (v : Word) (h : isFieldAddr a = false) :
    SameQueue s (s.writeReg u r a v).1 := by
  have h0 : SameQueue s (s.atH u) := rfl
  unfold State.writeReg
  simp only [h, Bool.false_eq_true, if_false]
  split
  · exact h0
  · split
    · exact h0
    · have h1 : SameQueue s (if (s.atH u).plReject r a v then (s.atH u).plEntry a v else s.atH u) :=
        .ite (h0.trans ((s.atH u).plEntry_queue a v)) h0
      exact h1.trans (State.writeHost_queue _ u a v)

/-- Where no register is, a write leaves the state as its arrival leaves it (R7). -/
theorem State.writeReg_discarded (s : State) (u : Sub) (r : Requester) {a : Nat} (v : Word) (h : rowAt a = none) :
    (s.writeReg u r a v).1
      = if isFieldAddr a then (if blockCode a = 0x11 ∨ blockCode a = 0x12 then s.atSeq u else s.atF u) else s.atH u := by
  simp only [State.writeReg, h, Option.isNone_none, if_true, apply_ite Prod.fst, ite_self]

/-- An address that holds no register reads 0, but where it lies in a field block that is off (R7, log 14). -/
theorem State.view_of_rowAt_none {s : State} {a : Nat} (h : rowAt a = none) (hp : isFieldAddr a = true → s.powered a = true) : s.view a = 0 := by
  cases hf : isFieldAddr a with
  | true => simp [State.view, h, hf, hp hf]
  | false => simp [State.view, h, hf]

theorem State.readReg_of_rowAt_none {s : State} {a : Nat} (r : Nat) (h : rowAt a = none) : s.readReg r a = (s.view a, s) := by
  simp [State.readReg, h]

theorem State.ioGive_host (s : State) (w : Word) : s.ioGive 0 w = { s with io := { s.io with host := w } } := rfl

theorem State.ioGive_steady (s : State) (r : Nat) (w : Word) : Steady s (s.ioGive r w) :=
  .ite (.io s _) (.ite (.io s _) (.io s _))

theorem State.snapTake_steady (s : State) (r a : Nat) : Steady s (s.snapTake r a) := by
  unfold State.snapTake
  refine Steady.foldl ?_ _ s
  exact fun t _ => .io t _

theorem State.readReg_steady (s : State) (r a : Nat) : Steady s (s.readReg r a).2 := by
  unfold State.readReg
  split
  · exact .refl s
  · split
    · exact s.snapTake_steady r a
    · exact .refl s

/-! ### Addresses outside every block (R20, R21) -/

theorem ite_some_eq_none {c : Prop} [Decidable c] (d : Nat) (o : Option Nat) : (if c then some d else o) = none ↔ ¬c ∧ o = none := by
  split <;> simp [*]

theorem ite_none_eq_none {c : Prop} [Decidable c] (o : Option Nat) : (if c then none else o) = none ↔ c ∨ o = none := by
  split <;> simp [*]

/-- The gaps of the address map. -/
theorem domainOf_eq_none_iff (a : Nat) : domainOf a = none ↔
    (0x110000 ≤ a ∧ a ≤ 0xFFFFFF) ∨ (0x1500000 ≤ a ∧ a ≤ 0x17FFFFF) ∨ (0x18C0000 ≤ a ∧ a ≤ 0x19FFFFF) ∨ 0x2000000 ≤ a := by
  simp only [domainOf, ↓ite_some_eq_none, ↓ite_none_eq_none, and_true]
  omega

/-- A block lies in one of the ranges that have rows. -/
theorem rowAt_eq_none_of_domainOf {a : Nat} (h : domainOf a = none) : rowAt a = none := by
  have hr : rowsAt a = [] := by
    rw [domainOf_eq_none_iff] at h
    unfold rowsAt
    repeat' rw [if_neg (by omega)]
  simp [rowAt, hr]

theorem isFieldAddr_of_domainOf {a : Nat} (h : domainOf a = none) : isFieldAddr a = false := by simp [isFieldAddr, h]

/-! ### The two words of a 64-bit access lie in one block -/

theorem domainOf_add_four {a : Nat} (h : a % 8 = 0) : domainOf (a + 4) = domainOf a := by
  unfold domainOf
  repeat' refine ite_congr (propext (by omega)) (fun _ => ?_) (fun _ => ?_)
  all_goals simp only [Option.some.injEq, domF]
  all_goals omega

theorem isFieldAddr_add_four {a : Nat} (h : a % 8 = 0) : isFieldAddr (a + 4) = isFieldAddr a := by
  have lo : 0x1000000 ≤ a + 4 ↔ 0x1000000 ≤ a := by omega
  have hi : a + 4 ≤ 0x1FFFFFF ↔ a ≤ 0x1FFFFFF := by omega
  simp only [isFieldAddr, domainOf_add_four h, lo, hi]

/-! ### The access of the host link as a command (R7, R21, log 15) -/

section
variable (s : State) (u : Sub) {a : Nat}

theorem exec_hostAccess_read (h : isFieldAddr a = false) :
    exec (hostAccess u a none) s = .next (((s.atH u).readReg 0 a).2.ioGive 0 ((s.atH u).readReg 0 a).1) := by
  have arm : exec (hostAccess u a none) s = execRsRead u .host a s := by
    simp only [hostAccess, h, Bool.false_eq_true, if_false]
    rfl
  have queue := ((s.atH u).readReg_steady 0 a).trans (State.ioGive_steady _ 0 ((s.atH u).readReg 0 a).1)
  simp only [arm, execRsRead, h, Bool.false_eq_true, if_false]
  exact done_of_pending queue.pending

theorem exec_hostAccess_write (v : Word) (h : isFieldAddr a = false) : exec (hostAccess u a (some v)) s = .next (s.writeReg u .host a v).1 := by
  have arm : exec (hostAccess u a (some v)) s = execRegisterWrite u .host a v s := by
    simp only [hostAccess, h, Bool.false_eq_true, if_false]
    rfl
  simp only [arm, execRegisterWrite, h, Bool.false_eq_true, if_false]
  exact done_of_pending (s.writeReg_host_queue u .host v h)

theorem exec_hostAccess_field (x : Option Word) (h : isFieldAddr a = true) :
    exec (hostAccess u a x) s = done s ((s.atH u).tunAccess .host a 1 (x.map fun v => [v])) := by
  simp only [hostAccess, h, if_true]
  rfl

/-- At a host address that holds no register, a read answers 0. -/
theorem exec_hostAccess_read_of_rowAt_none (h : isFieldAddr a = false) (hr : rowAt a = none) :
    exec (hostAccess u a none) s = .next ((s.atH u).ioGive 0 0) := by
  have view : (s.atH u).view a = 0 := State.view_of_rowAt_none hr (by simp [h])
  simp [exec_hostAccess_read s u h, State.readReg_of_rowAt_none 0 hr, view]

/-- At a host address that holds no register, a write does nothing but arrive. -/
theorem exec_hostAccess_write_of_rowAt_none (v : Word) (h : isFieldAddr a = false) (hr : rowAt a = none) :
    exec (hostAccess u a (some v)) s = .next (s.atH u) := by
  simp [exec_hostAccess_write s u v h, State.writeReg_discarded s u .host v hr, h]
end

/-- At the registers of a field block that is on, an address without a register reads 0. -/
theorem answers_rsRead_of_rowAt_none (s : State) (u : Sub) {a : Nat} (hr : rowAt a = none) (hf : isFieldAddr a = true) (hl : s.linkUp = true)
    (hm : s.mode ≠ 0) (hp : s.powered a = true) : Answers (.rsRead u .host a) s (fun t => t.io.host = 0) := by
  refine ⟨_, rfl, ?_⟩
  have arrive := s.arrive_steady u (blockCode a = 0x11 ∨ blockCode a = 0x12)
  have view := State.view_of_rowAt_none hr (fun _ => (arrive.powered a).trans hp)
  simp [hf, hl, hm, State.readReg_of_rowAt_none _ hr, view, reqNo, State.ioGive_host]

/-- At the registers of a field block, a write to an address without a register does nothing but arrive. -/
theorem exec_registerWrite_of_rowAt_none (s : State) (u : Sub) {a : Nat} (v : Word) (hr : rowAt a = none) (hf : isFieldAddr a = true)
    (hl : s.linkUp = true) (hm : s.mode ≠ 0) :
    exec (.registerWrite u .host a v) s = .next (if blockCode a = 0x11 ∨ blockCode a = 0x12 then s.atSeq u else s.atF u) := by
  have arm : exec (.registerWrite u .host a v) s = execRegisterWrite u .host a v s := rfl
  simp only [arm, execRegisterWrite, hf, hm, hl, false_and, if_true, if_false, State.writeReg_discarded s u .host v hr]
  exact done_of_pending (s.arrive_steady u _).pending

/-- An access outside every range is answered without the barrier (R21). -/
theorem answers_hostAccess_of_domainOf_none (s : State) (u : Sub) {a : Nat} (x : Option Word) (h : domainOf a = none) :
    Answers (hostAccess u a x) s (fun t => t.link = s.link ∧ (x = none → t.io.host = 0) ∧ t.regs = s.regs) := by
  have hf := isFieldAddr_of_domainOf h
  have hr := rowAt_eq_none_of_domainOf h
  cases x with
  | none => exact ⟨_, exec_hostAccess_read_of_rowAt_none s u hf hr, rfl, fun _ => rfl, rfl⟩
  | some v => exact ⟨_, exec_hostAccess_write_of_rowAt_none s u v hf hr, rfl, nofun, rfl⟩

/-- Settles O58, a clause each for host blocks, field blocks (log 14, log 15), addresses outside every block, and the gaps of the map. -/
theorem noRegister : Obligations.NoRegister := by
  refine ⟨fun s u a v _ hr hf => ?_, fun s u a v _ hr hf hl hm hp => ?_, fun s u a x _ h => ?_, fun a h => ?_⟩
  · exact ⟨exec_hostAccess_read_of_rowAt_none s u hf hr, exec_hostAccess_write_of_rowAt_none s u v hf hr⟩
  · exact ⟨answers_rsRead_of_rowAt_none s u hr hf hl hm hp, exec_registerWrite_of_rowAt_none s u v hr hf hl hm⟩
  · exact answers_hostAccess_of_domainOf_none s u x h
  · rw [domainOf_eq_none_iff]
    omega

/-! ### The two words of a 64-bit access (R5) -/

theorem State.sealedReject_steady (s : State) : Steady s s.sealedReject :=
  .of_onField (s.satCount_field R.SYS_SEALED_REJ 32 1 R.SYS_EVT_SATURATED) (by decide)

theorem State.sendHF_steady (s : State) (ty vc t64 : Nat) (pl : List Byte) (extra : Nat) : Steady s (s.sendHF ty vc t64 pl extra) :=
  .of_onField (s.sendHF_field ty vc t64 pl extra) (by decide)

theorem State.tunIssue_steady (s : State) (t : Tun) : Steady s (s.tunIssue t) := by
  unfold State.tunIssue
  extract_lets x l s1 head
  have h1 : Steady s s1 := ⟨rfl, rfl, rfl⟩
  exact .ite h1 (.ite (h1.trans (s1.sendHF_steady _ _ _ _ _)) (h1.trans (s1.sendHF_steady _ _ _ _ _)))

theorem State.tunSubmit_steady (s : State) (req addr count : Nat) (data : Option (List Word)) : Steady s (s.tunSubmit req addr count data).2 :=
  .ite (s.tunIssue_steady _) ⟨rfl, rfl, rfl⟩

theorem State.tunAccess_steady (s : State) (r : Requester) (a n : Nat) (ws : Option (List Word)) : Steady s (s.tunAccess r a n ws) := by
  have reject := s.sealedReject_steady
  unfold State.tunAccess
  exact .ite (.refl s) (.ite (.ite (s.ioGive_steady _ _) (.refl s)) (.ite (.refl s)
    (.ite (.ite (reject.trans (State.ioGive_steady _ _ _)) reject) (s.tunSubmit_steady _ _ _ _))))

theorem State.atH_of_time {s t : State} {u : Sub} (h : t.time = (s.atH u).time) : t.atH u = t := by
  have hu : max t.time.hUnit u.val = t.time.hUnit := by rw [h]; simp [State.atH]
  simp [State.atH, hu]

/-- The address holds a host block, whose registers the access reaches without the barrier. -/
def HostBlock (a : Nat) : Prop := isFieldAddr a = false ∧ (domainOf a).isNone = false

theorem hostBlock_add_four {a : Nat} (h : a % 8 = 0) : HostBlock (a + 4) ↔ HostBlock a := by
  simp only [HostBlock, isFieldAddr_add_four h, domainOf_add_four h]

section
variable (s : State) (u : Sub) {a : Nat}

theorem State.barAccess_tunnel (x : Option Word) (h : ¬ HostBlock a) : s.barAccess u a x = s.tunAccess .host a 1 (x.map fun v => [v]) := by
  have c : isFieldAddr a = true ∨ (domainOf a).isNone = true := by simpa only [HostBlock, not_and_or, Bool.not_eq_false] using h
  simp only [State.barAccess, c, if_true]

theorem State.barAccess_read (h : HostBlock a) : s.barAccess u a none = (s.readReg 0 a).2.ioGive 0 (s.readReg 0 a).1 := by
  have c : ¬ (isFieldAddr a = true ∨ (domainOf a).isNone = true) := by simp [h.1, h.2]
  simp only [State.barAccess, c, if_false]

theorem State.barAccess_write (v : Word) (h : HostBlock a) : s.barAccess u a (some v) = (s.writeReg u .host a v).1 := by
  have c : ¬ (isFieldAddr a = true ∨ (domainOf a).isNone = true) := by simp [h.1, h.2]
  simp only [State.barAccess, c, if_false]

/-- Only a write that reaches a host register can do more than keep queue, time and power. -/
theorem State.barAccess_steady (x : Option Word) (h : ¬ HostBlock a ∨ x = none) : Steady s (s.barAccess u a x) := by
  by_cases hb : HostBlock a
  · obtain rfl := h.resolve_left (not_not_intro hb)
    rw [s.barAccess_read u hb]
    exact (s.readReg_steady 0 a).trans (State.ioGive_steady _ _ _)
  · rw [s.barAccess_tunnel u x hb]
    exact s.tunAccess_steady _ _ _ _

theorem State.barAccess_queue (x : Option Word) : SameQueue s (s.barAccess u a x) := by
  by_cases h : ¬ HostBlock a ∨ x = none
  · exact (s.barAccess_steady u x h).pending
  · obtain ⟨hb, hx⟩ := not_or.mp h
    obtain ⟨v, rfl⟩ := Option.ne_none_iff_exists'.mp hx
    rw [s.barAccess_write u v (not_not.mp hb)]
    exact s.writeReg_host_queue u .host v (not_not.mp hb).1

/-- Outside every block, an access to a whole word is answered as a host address without a register. -/
theorem State.tunAccess_of_domainOf_none (x : Option Word) (ha : a % 4 = 0) (h : domainOf a = none) :
    s.tunAccess .host a 1 (x.map fun v => [v]) = if x.isNone then s.ioGive 0 0 else s := by
  cases x <;> simp [State.tunAccess, ha, h, reqNo]

/-- An access to BAR0 as a command is the access of the host half at its instant. -/
theorem exec_hostAccess (x : Option Word) (ha : a % 4 = 0) : exec (hostAccess u a x) s = .next ((s.atH u).barAccess u a x) := by
  by_cases hb : HostBlock a
  · cases x with
    | none => rw [exec_hostAccess_read s u hb.1, State.barAccess_read _ u hb]
    | some v => rw [exec_hostAccess_write s u v hb.1, State.barAccess_write _ u v hb, State.writeReg_atH s u .host v hb.1]
  · rw [State.barAccess_tunnel _ u x hb]
    cases hf : isFieldAddr a with
    | true => exact (exec_hostAccess_field s u x hf).trans (done_of_pending ((s.atH u).tunAccess_steady _ _ _ _).pending)
    | false =>
      have hd : domainOf a = none := by simpa [HostBlock, hf] using hb
      have hr := rowAt_eq_none_of_domainOf hd
      rw [State.tunAccess_of_domainOf_none _ x ha hd]
      cases x with
      | none => exact exec_hostAccess_read_of_rowAt_none s u hf hr
      | some v => exact exec_hostAccess_write_of_rowAt_none s u v hf hr

/-- The first word's access leaves the host half at the instant of the access, or the second word's access takes it there. -/
theorem State.barAccess_second_atH (h : a % 8 = 0) (w : Option (Word × Word)) :
    (((s.atH u).barAccess u a (w.map Prod.fst)).atH u).barAccess u (a + 4) (w.map Prod.snd)
      = ((s.atH u).barAccess u a (w.map Prod.fst)).barAccess u (a + 4) (w.map Prod.snd) := by
  by_cases hs : ¬ HostBlock a ∨ w = none
  · have steady := (s.atH u).barAccess_steady u (w.map Prod.fst) (hs.imp_right fun hw => by simp [hw])
    rw [State.atH_of_time steady.time]
  · obtain ⟨hb, hw⟩ := not_or.mp hs
    have hb4 := (hostBlock_add_four h).mpr (not_not.mp hb)
    obtain ⟨v, rfl⟩ := Option.ne_none_iff_exists'.mp hw
    simp only [Option.map_some, State.barAccess_write _ u _ hb4, State.writeReg_atH _ u .host _ hb4.1]
end

/-- Settles O57: each 32-bit access is `barAccess` at the instant of the access, and the 64-bit one runs it twice. -/
theorem twoAccesses : Obligations.TwoAccesses := by
  intro s u a w h8 _
  have queue := ((s.atH u).barAccess_queue u (a := a) (w.map Prod.fst)).trans (State.barAccess_queue _ u (a := a + 4) (w.map Prod.snd))
  have arm : exec (.host64bitAccess u a w) s = execHost64bitAccess u a w s := rfl
  refine ⟨_, _, exec_hostAccess s u _ (by omega), exec_hostAccess _ u _ (by omega), ?_⟩
  simp only [arm, execHost64bitAccess, h8, if_true, State.barAccess_second_atH s u h8 w]
  exact done_of_pending queue

end Sys2Proof.Machine
end

section
/-! PROOFS. Reads of register fields after writes, and what the fault collector leaves unchanged: the facts that the family of the two halves and the
barrier (R22–R60) is settled with. -/

namespace Sys2Proof.Machine

/-! ### Bits of a register field -/

theorem maskW_getLsbD (w i : Nat) (h : i < 32) : (maskW w).getLsbD i = decide (i < w) := by
  rw [maskW, BitVec.getLsbD_ofNat, Nat.testBit_two_pow_sub_one]
  simp [h]

theorem fieldOf_testBit (x : Word) (lo w i : Nat) : (fieldOf x lo w).testBit i = (decide (i < w) && x.getLsbD (lo + i)) := by
  rw [fieldOf, BitVec.testBit_toNat, BitVec.getLsbD_and, BitVec.getLsbD_ushiftRight]
  by_cases hi : i < 32
  · rw [maskW_getLsbD w i hi, Bool.and_comm]
  · simp [BitVec.getLsbD_of_ge, show 32 ≤ lo + i by omega]

theorem fieldOf_lt (x : Word) (lo w : Nat) : fieldOf x lo w < 2 ^ w := by
  refine Nat.lt_pow_two_of_testBit _ fun i hi => ?_
  simp [fieldOf_testBit, Nat.not_lt.mpr hi]

theorem withField_getLsbD (x : Word) {lo w : Nat} (v : Nat) {j : Nat} (h : lo + w ≤ 32) (hj : j < 32) :
    (withField x lo w v).getLsbD j = if lo ≤ j ∧ j < lo + w then v.testBit (j - lo) else x.getLsbD j := by
  have mask := maskW_getLsbD w (j - lo) (by omega)
  simp only [withField, BitVec.getLsbD_or, BitVec.getLsbD_and, BitVec.getLsbD_not, BitVec.getLsbD_shiftLeft, BitVec.getLsbD_ofNat, mask, hj]
  by_cases h1 : j < lo
  · simp [h1, Nat.not_le.mpr h1]
  · by_cases h2 : j < lo + w
    · simp [h1, h2, Nat.not_lt.mp h1, show j - lo < w by omega, show j - lo < 32 by omega]
    · simp [h2, show ¬ j - lo < w by omega]

theorem fieldOf_withField_self (x : Word) {lo w : Nat} (v : Nat) (h : lo + w ≤ 32) : fieldOf (withField x lo w v) lo w = v % 2 ^ w := by
  refine Nat.eq_of_testBit_eq fun i => ?_
  rw [fieldOf_testBit, Nat.testBit_mod_two_pow]
  by_cases hi : i < w
  · simp [withField_getLsbD x v h (show lo + i < 32 by omega), hi]
  · simp [hi]

theorem fieldOf_withField_other (x : Word) {lo w lo' w' : Nat} (v : Nat) (h : lo + w ≤ 32) (h' : lo' + w' ≤ 32)
    (apart : lo + w ≤ lo' ∨ lo' + w' ≤ lo) : fieldOf (withField x lo' w' v) lo w = fieldOf x lo w := by
  refine Nat.eq_of_testBit_eq fun i => ?_
  rw [fieldOf_testBit, fieldOf_testBit]
  by_cases hi : i < w
  · rw [withField_getLsbD x v h' (show lo + i < 32 by omega), if_neg (by omega)]
  · simp [hi]

/-! ### Fields and counters of the state -/

/-- Two fields of a word each that share no bit. -/
abbrev Apart (f g : Fld) : Prop :=
  f.addr ≠ g.addr ∨ ((f.lo + f.w ≤ 32 ∧ g.lo + g.w ≤ 32) ∧ (f.lo + f.w ≤ g.lo ∨ g.lo + g.w ≤ f.lo))

section
variable (s : State) {a b : Nat} {f g : Fld} (v : Nat)

theorem State.get_lt (f : Fld) : s.get f < 2 ^ f.w := fieldOf_lt _ _ _

theorem State.get_set_self (h : f.lo + f.w ≤ 32) : (s.set f v).get f = v % 2 ^ f.w := by
  rw [State.get, State.rd_set_self]
  exact fieldOf_withField_self _ v h

theorem State.get_set_apart (h : Apart f g) : (s.set g v).get f = s.get f := by
  rcases h with h | ⟨⟨hf, hg⟩, h⟩
  · exact s.get_set_ne g v f h
  · by_cases ha : f.addr = g.addr
    · simp only [State.get, ha, State.rd_set_self, fieldOf_withField_other _ v hf hg h]
    · exact s.get_set_ne g v f ha

theorem State.val_put_self : (s.put a v).val a = v % 2 ^ 32 := by simp [State.val]

theorem State.val_put_ne (h : b ≠ a) : (s.put a v).val b = s.val b := by simp [State.val, h]

theorem State.val_set_ne (h : b ≠ f.addr) : (s.set f v).val b = s.val b := by simp [State.val, h]

theorem State.val64_put64 : (s.put64 a v).val64 a = v % 2 ^ 64 := by
  have low : (s.put64 a v).val a = v % 2 ^ 32 := by rw [State.put64, State.val_put_ne _ _ (by omega), State.val_put_self]
  have high : (s.put64 a v).val (a + 4) = v / 2 ^ 32 % 2 ^ 32 := by rw [State.put64, State.val_put_self]
  rw [State.val64, low, high]
  omega

theorem State.is_iff (f : Fld) : s.is f = true ↔ s.get f = 1 := by simp [State.is]

theorem State.is_congr {t : State} (h : t.get f = s.get f) : t.is f = s.is f := by simp only [State.is, h]

theorem State.putAll_rd (l : List Nat) : ∀ s : State, (s.putAll l v).rd a = if a ∈ l then BitVec.ofNat 32 v else s.rd a := by
  induction l with
  | nil => simp [State.putAll]
  | cons b l ih =>
    intro s
    rw [State.putAll, List.foldl_cons]
    refine (ih _).trans ?_
    by_cases hl : a ∈ l
    · simp [hl]
    · by_cases hb : a = b <;> simp [hl, hb]
end

section
variable (s : State) (a n : Nat) (e : Fld)

/-- A 32-bit SAT counter after a count (R13). -/
theorem State.satCount_val (h : a ≠ e.addr) : (s.satCount a 32 n e).1.val a = min (s.val a + n) (2 ^ 32 - 1) := by
  rw [State.val, State.satCount_rd s a 32 n e h, satAdd, BitVec.toNat_ofNat]
  omega

/-- A count changes no field but those of the counter and the SATURATED bit. -/
theorem State.satCount_get (w : Nat) (f : Fld) (ha : f.addr ≠ a) (he : Apart f e) : (s.satCount a w n e).1.get f = s.get f := by
  simp only [State.satCount]
  split
  · rw [State.get_set_apart _ _ he, s.get_put_ne _ f ha]
  · exact s.get_put_ne _ f ha
end

theorem State.isoCount_val (s : State) (a n : Nat) (h : a ≠ R.ISO_EVT) : (s.isoCount a n).val a = min (s.val a + n) (2 ^ 32 - 1) :=
  s.satCount_val a n R.ISO_EVT_SATURATED h

/-! ### Writes of registers alone -/

/-- `t` is `s` after writes to registers that `w` names. -/
def OnRegs (w : Nat → Prop) (s t : State) : Prop := ∃ r, t = { s with regs := r } ∧ RegsFrom w s.regs r

namespace OnRegs
variable {w : Nat → Prop} {s t u : State}

theorem refl (w : Nat → Prop) (s : State) : OnRegs w s s := ⟨_, rfl, .refl _ _⟩
theorem trans (h : OnRegs w s t) (h' : OnRegs w t u) : OnRegs w s u := by
  obtain ⟨r, rfl, hr⟩ := h
  obtain ⟨r', rfl, hr'⟩ := h'
  exact ⟨r', rfl, hr.trans hr'⟩
theorem mono {w' : Nat → Prop} (hw : ∀ a, w a → w' a) (h : OnRegs w s t) : OnRegs w' s t := by
  obtain ⟨r, rfl, hr⟩ := h
  exact ⟨r, rfl, hr.1, fun a ha => hr.2 a (fun x => ha (hw a x))⟩
theorem wr {a : Nat} (s : State) (x : Word) (h : w a) : OnRegs w s (s.wr a x) := ⟨_, rfl, .set _ _ h⟩
theorem put {a : Nat} (s : State) (x : Nat) (h : w a) : OnRegs w s (s.put a x) := wr s _ h
theorem set (s : State) (f : Fld) (x : Nat) (h : w f.addr) : OnRegs w s (s.set f x) := wr s _ h
theorem ite {c : Prop} [Decidable c] (h : OnRegs w s t) (h' : OnRegs w s u) : OnRegs w s (if c then t else u) := by
  split
  · exact h
  · exact h'
theorem satCount (s : State) {a n : Nat} {e : Fld} (ha : w a) (he : w e.addr) : OnRegs w s (s.satCount a 32 n e).1 := by
  simp only [State.satCount]
  exact .ite ((put s _ ha).trans (set _ e 1 he)) (put s _ ha)
theorem setAll (l : List Fld) (x : Nat) (h : ∀ f ∈ l, w f.addr) : ∀ s : State, OnRegs w s (s.setAll l x) := by
  induction l with
  | nil => exact refl w
  | cons f l ih => exact fun s => (set s f x (h f List.mem_cons_self)).trans (ih (fun g hg => h g (List.mem_cons_of_mem _ hg)) _)
theorem putAll (l : List Nat) (x : Nat) (h : ∀ a ∈ l, w a) : ∀ s : State, OnRegs w s (s.putAll l x) := by
  induction l with
  | nil => exact refl w
  | cons a l ih => exact fun s => (put s x (h a List.mem_cons_self)).trans (ih (fun b hb => h b (List.mem_cons_of_mem _ hb)) _)
theorem mem (h : OnRegs w s t) : t.mem = s.mem := by obtain ⟨_, rfl, _⟩ := h; rfl
theorem time (h : OnRegs w s t) : t.time = s.time := by obtain ⟨_, rfl, _⟩ := h; rfl
theorem link (h : OnRegs w s t) : t.link = s.link := by obtain ⟨_, rfl, _⟩ := h; rfl
theorem clr (h : OnRegs w s t) : t.clr = s.clr := by obtain ⟨_, rfl, _⟩ := h; rfl
theorem start (h : OnRegs w s t) : t.start = s.start := by obtain ⟨_, rfl, _⟩ := h; rfl
theorem pending (h : OnRegs w s t) : t.pending = s.pending := by obtain ⟨_, rfl, _⟩ := h; rfl
theorem kept (h : OnRegs w s t) : RegsKept s t w := by
  obtain ⟨_, rfl, hr⟩ := h
  exact hr.2
theorem get (h : OnRegs w s t) {f : Fld} (hf : ¬ w f.addr) : t.get f = s.get f := by rw [State.get, State.get, h.kept _ hf]
theorem val (h : OnRegs w s t) {a : Nat} (ha : ¬ w a) : t.val a = s.val a := by rw [State.val, State.val, h.kept _ ha]
theorem val64 (h : OnRegs w s t) {a : Nat} (ha : ¬ w a) (ha4 : ¬ w (a + 4)) : t.val64 a = s.val64 a := by
  rw [State.val64, State.val64, h.val ha, h.val ha4]
end OnRegs

/-! ### What a report of a fault may change

A source that is raised changes the collector and its registers, and what the host half appends: Clearing, the event queue and the Ledger; a gap that is
reported changes the availability record. -/

/-- `t` comes from `s` by a report: registers that `w` names, Clearing, the event queue, the Ledger, the collector, the raises that an update watches, the
availability record. -/
def OnReport (w : Nat → Prop) (s t : State) : Prop :=
  ∃ r c h l f u a, t = { s with regs := r, clr := c, hdma := h, ledger := l, fault := f, upd := u, avail := a } ∧ RegsFrom w s.regs r

namespace OnReport
variable {w : Nat → Prop} {s t v : State}

theorem refl (w : Nat → Prop) (s : State) : OnReport w s s := ⟨_, _, _, _, _, _, _, rfl, .refl _ _⟩
theorem trans (h : OnReport w s t) (h' : OnReport w t v) : OnReport w s v := by
  obtain ⟨r, c, d, l, f, u, a, rfl, hr⟩ := h
  obtain ⟨r', c', d', l', f', u', a', rfl, hr'⟩ := h'
  exact ⟨r', c', d', l', f', u', a', rfl, hr.trans hr'⟩
theorem mono {w' : Nat → Prop} (hw : ∀ a, w a → w' a) (h : OnReport w s t) : OnReport w' s t := by
  obtain ⟨r, c, d, l, f, u, a, rfl, hr⟩ := h
  exact ⟨r, c, d, l, f, u, a, rfl, hr.1, fun b hb => hr.2 b (fun x => hb (hw b x))⟩
theorem of_host (h : OnHost w s t) : OnReport w s t := by
  obtain ⟨r, c, d, l, rfl, hr⟩ := h
  exact ⟨r, c, d, l, _, _, _, rfl, hr⟩
theorem wr {a : Nat} (s : State) (x : Word) (h : w a) : OnReport w s (s.wr a x) := .of_host (.wr s x h)
theorem put {a : Nat} (s : State) (x : Nat) (h : w a) : OnReport w s (s.put a x) := wr s _ h
theorem set (s : State) (f : Fld) (x : Nat) (h : w f.addr) : OnReport w s (s.set f x) := wr s _ h
theorem fault (w : Nat → Prop) (s : State) (f : FaultSt) : OnReport w s { s with fault := f } := ⟨_, _, _, _, _, _, _, rfl, .refl _ _⟩
theorem upd (w : Nat → Prop) (s : State) (u : UpdSt) : OnReport w s { s with upd := u } := ⟨_, _, _, _, _, _, _, rfl, .refl _ _⟩
theorem gap (w : Nat → Prop) (s : State) (a b : Nat) : OnReport w s (s.availGap a b) := ⟨_, _, _, _, _, _, _, rfl, .refl _ _⟩
theorem ite {c : Prop} [Decidable c] (h : OnReport w s t) (h' : OnReport w s v) : OnReport w s (if c then t else v) := by
  split
  · exact h
  · exact h'
theorem mem (h : OnReport w s t) : t.mem = s.mem := by obtain ⟨_, _, _, _, _, _, _, rfl, _⟩ := h; rfl
theorem time (h : OnReport w s t) : t.time = s.time := by obtain ⟨_, _, _, _, _, _, _, rfl, _⟩ := h; rfl
theorem link (h : OnReport w s t) : t.link = s.link := by obtain ⟨_, _, _, _, _, _, _, rfl, _⟩ := h; rfl
theorem start (h : OnReport w s t) : t.start = s.start := by obtain ⟨_, _, _, _, _, _, _, rfl, _⟩ := h; rfl
theorem pending (h : OnReport w s t) : t.pending = s.pending := by obtain ⟨_, _, _, _, _, _, _, rfl, _⟩ := h; rfl
theorem rd (h : OnReport w s t) {a : Nat} (ha : ¬ w a) : t.rd a = s.rd a := by
  obtain ⟨_, _, _, _, _, _, _, rfl, hr⟩ := h; exact hr.2 a ha
theorem get (h : OnReport w s t) {f : Fld} (hf : ¬ w f.addr) : t.get f = s.get f := by rw [State.get, State.get, h.rd hf]
theorem val (h : OnReport w s t) {a : Nat} (ha : ¬ w a) : t.val a = s.val a := by rw [State.val, State.val, h.rd ha]
end OnReport

/-- Registers that the collector's latches, events and pins write, and those of the Ledger, Clearing and the event queue: all that a report writes but for
the source's own count and pending bit. -/
def reportRegs : List Nat :=
  [R.FLT_STAT, R.FLT_EVT, R.FLT_LAST_ID, R.FLT_LAST_LO, R.FLT_LAST_LO + 4, R.FLT_LAST_GEN,
   R.FLT_FIRST_ID, R.FLT_FIRST_LO, R.FLT_FIRST_LO + 4, R.FLT_FIRST_GEN] ++ ldgRegs ++ clrRegs ++ eqRegs

/-- A report that raises no source. -/
abbrev Reported : State → State → Prop := OnReport (fun a => a ∈ reportRegs)

theorem Reported.of_append {s t : State} (h : OnHost (fun a => a ∈ ldgRegs ∨ a ∈ clrRegs ∨ a ∈ eqRegs) s t) : Reported s t := by
  refine .of_host (h.mono fun a ha => ?_)
  simp only [reportRegs, List.mem_append]
  tauto

section
variable (s : State) (id : Nat)

theorem State.faultLatch_reported {idR lo gen : Nat} (t64 : Nat) (hi : idR ∈ reportRegs) (hl : lo ∈ reportRegs) (hh : lo + 4 ∈ reportRegs)
    (hg : gen ∈ reportRegs) : Reported s (s.faultLatch idR lo gen id t64) :=
  (OnReport.put s _ hi).trans (((OnReport.put _ _ hl).trans (.put _ _ hh)).trans (.put _ _ hg))

theorem State.faultMirror_reported (t64 era raises : Nat) (bytes : List Byte) : Reported s (s.faultMirror id t64 era raises bytes) := by
  have mirrored (m : List (Nat × Nat × Nat)) : Reported s { s with ledger := { s.ledger with mirrored := m } } := .of_append (.ledger _ s _)
  unfold State.faultMirror
  split
  · exact .ite ((mirrored _).trans (Reported.of_append (State.ledger1_host _ _))) (mirrored _)
  · exact .of_append (s.ledger1_host _)

theorem State.moduleResetReaction_reported : Reported s (s.moduleResetReaction id) :=
  .ite (.refl _ s) (.ite (.set s R.FLT_STAT_RESET_LIMIT 1 (by decide)) (.fault _ s _))

theorem State.dropFaultN_reported : Reported s s.dropFaultN :=
  .ite (.refl _ s) ((OnReport.set s R.FLT_STAT_FAULT_N 1 (by decide)).trans (.fault _ _ _))

theorem State.dropFieldFaultN_reported : Reported s s.dropFieldFaultN :=
  .ite (.refl _ s) ((OnReport.set s R.FLT_STAT_FIELD_FAULT_N 1 (by decide)).trans (.fault _ _ _))

theorem State.hostEvent_reported (blk code inst t64 : Nat) (data : List Byte) : Reported s (s.hostEvent blk code inst t64 data) :=
  .of_append ((s.hostEvent_host blk code inst t64 data).mono fun _ => .inr)

theorem State.msix_reported (v : Nat) : Reported s (s.msix v) := .of_append ((s.msix_host v).mono fun _ => False.elim)
end

/-! ### Raising a source

The sources of the link, the lanes and the clocks are Contained or Corrected and have no block (R436): what a raise of such a source does. -/

/-- A source that takes nothing away at once: it is not Fatal and has no block to reset. -/
abbrev Config.Mild (id : Nat) : Prop := id < 256 ∧ Config.faultClass id ≠ 3 ∧ Config.faultBlock id = none

/-- `t` comes from `s` by the raise of a source, which is pending in `t`. -/
structure Raised (id : Nat) (s t : State) : Prop where
  report : OnReport (fun a => a ∈ reportRegs ∨ a = R.FLT_CNT id ∨ a = R.FLT_PEND (id / 32)) s t
  pend : t.faultPend id = true

theorem fltPend_notMem_reportRegs {id : Nat} (h : id < 256) : R.FLT_PEND (id / 32) ∉ reportRegs := by
  have block : 0xA0010 ≤ R.FLT_PEND (id / 32) ∧ R.FLT_PEND (id / 32) < 0xA0030 := by simp only [R.FLT_PEND]; omega
  intro hm
  have out : ∀ a ∈ reportRegs, a < 0xA0010 ∨ 0xA0030 ≤ a := by decide
  have := out _ hm
  omega

theorem OnReport.faultPend {w : Nat → Prop} {s t : State} {id : Nat} (h : OnReport w s t) (hid : ¬ w (R.FLT_PEND (id / 32))) :
    t.faultPend id = s.faultPend id := by rw [State.faultPend, State.faultPend, h.rd hid]

theorem Raised.after {id : Nat} {s t v : State} (h : Reported s t) (h' : Raised id t v) : Raised id s v :=
  ⟨(h.mono fun _ => .inl).trans h'.report, h'.pend⟩

theorem Raised.append {id : Nat} {s t v : State} (h : Raised id s t) (hid : id < 256) (h' : Reported t v) : Raised id s v :=
  ⟨h.report.trans (h'.mono fun _ => .inl), (h'.faultPend (fltPend_notMem_reportRegs hid)).trans h.pend⟩

section
variable (s : State) {id : Nat} (data : Nat) (forced : Bool) (h : Config.Mild id)
include h

theorem State.takeBlockReset_mild (taken : Nat) : s.takeBlockReset id taken = s := by simp [State.takeBlockReset, h.2.2]

/-- The collector counts a raise and marks it pending before it reports it (R438). -/
theorem State.collect_raised (t64 era raises taken : Nat) : Raised id s (s.collect id t64 era data raises forced taken) := by
  unfold State.collect
  extract_lets wasUpd s0 s1 s2 s3 s4 s5 s6 s7 wasFault s8 s9
  have h0 : Reported s s0 := .ite (.upd _ s _) (.refl _ s)
  have h1 : OnReport (fun a => a = R.FLT_CNT id ∨ a = R.FLT_EVT) s0 s1 := .of_host (s0.satCount_host _ _ _ _)
  have marked : Raised id s s2 := by
    refine ⟨((h0.mono fun _ => .inl).trans (h1.mono ?_)).trans (.wr s1 _ (.inr (.inr rfl))), ?_⟩
    · rintro a (rfl | rfl)
      · exact .inr (.inl rfl)
      · exact .inl (by decide)
    · have bit : id % 32 < 32 := Nat.mod_lt _ (by decide)
      simp [s2, State.faultPend, bit]
  have h3 : Reported s2 s3 := s2.faultLatch_reported id t64 (by decide) (by decide) (by decide) (by decide)
  have h4 : Reported s3 s4 := .ite (.refl _ s3) (s3.faultLatch_reported id t64 (by decide) (by decide) (by decide) (by decide))
  have h5 : Reported s4 s5 := (OnReport.set s4 R.FLT_EVT_RAISED 1 (by decide)).trans (State.faultMirror_reported _ _ _ _ _ _)
  have h6 : s6 = s5 := if_neg h.2.1
  have h7 : Reported s6 s7 := .ite (s6.msix_reported 0) (.refl _ s6)
  have h8 : Reported s7 s8 := .ite (.fault _ s7 _) (.refl _ s7)
  have h9 : Reported s8 s9 := .ite (s8.moduleResetReaction_reported id) (.refl _ s8)
  have latched : Reported s2 s6 := h6 ▸ (h3.trans h4).trans h5
  exact marked.append h.1 (((latched.trans h7).trans h8).trans (h9.trans (.ite s9.dropFaultN_reported (.refl _ s9))))

/-- A host source is collected, and its event and pins are reported (R438). -/
theorem State.hostFault_raised : Raised id s (s.hostFault id data forced) := by
  unfold State.hostFault
  extract_lets taken t64 s1 s2 s3 s4
  have h1 : Raised id s s1 := s.collect_raised data forced h _ _ _ _
  have h2 : Reported s1 s2 := s1.hostEvent_reported _ _ _ _ _
  have h3 : s3 = s2 := s2.takeBlockReset_mild h taken
  have h4 : Reported s3 s4 := .ite s3.dropFieldFaultN_reported (.refl _ s3)
  rw [if_neg (by simp [h.2.1])]
  exact h1.append h.1 ((h3 ▸ h2).trans h4)

/-- A field source is noted in the field half; its event follows at cycle 3,968 (R438). -/
theorem State.fieldFault_reported : Reported s (s.fieldFault id data forced) := by
  unfold State.fieldFault
  split
  · rw [State.takeBlockReset_mild _ h]
    exact .fault _ s _
  · extract_lets taken r wasFault s1 s2 s3
    have h1 : Reported s s1 := .fault _ s _
    have h2 : s2 = s1 := s1.takeBlockReset_mild h taken
    have h3 : Reported s2 s3 := .ite s2.dropFieldFaultN_reported (.refl _ s2)
    rw [if_neg h.2.1]
    exact (h2 ▸ h1).trans h3
end

end Sys2Proof.Machine
end

section
/-! PROOFS. What crosses the barrier to the host half (R35, R39, R40, R79): a message of the field half on its way into the record. -/

namespace Sys2Proof.Machine

/-- A command whose meaning is `done` answers the state that its meaning reached, where that kept the queue. -/
theorem answers_of_done {c : Instr} {s t : State} {P : State → Prop} (h : exec c s = done s t) (hq : t.pending = s.pending) (hP : P t) : Answers c s P :=
  ⟨t, h.trans (done_of_pending hq), hP⟩

/-! ### Receipt in order -/

/-- The host half with a message off the wire and its bytes counted. -/
def State.offWire (s : State) (m : Msg) : State :=
  ({ s with link := { s.link with outFH := s.link.outFH.erase m } }).wrapCount64 R.ISO_RX_BYTES_LO m.size

/-- The host half after the arrival of the message that its channel expects: the next sequence number is expected. -/
def State.arrived (s : State) (m : Msg) : State :=
  { s.offWire m with link := { (s.offWire m).link with rxFH := s.link.rxFH.set m.vc ((m.seq + 1) % 2 ^ 16), lastRx := m.t64 } }

/-- What the host half takes without a trace of loss: the link is UP, the filter passes the message, no gap precedes it, it is the next of its channel,
and its content lies at or after the release point. -/
structure InOrder (s : State) (m : Msg) : Prop where
  up : s.get R.ISO_STAT_STATE = 2
  passed : filterReason m true = 0
  noGap : m.flags.testBit 3 = false
  next : m.seq = s.link.rxFH.getD m.vc 0
  onTime : s.relAbs ≤ absTick (eraOf s.time.hTick s.era (T64.unpack m.t64).tick) (T64.unpack m.t64).tick

theorem InOrder.atH {s : State} {m : Msg} (h : InOrder s m) (u : Sub) : InOrder (s.atH u) m := ⟨h.up, h.passed, h.noGap, h.next, h.onTime⟩

theorem State.hostTake_passed {s : State} {m : Msg} (h2 : s.get R.ISO_STAT_STATE = 2) (h : filterReason m true = 0) (f : State → State) :
    s.hostTake m true f = f (((s.offWire m).hostSeq m).gapNoted m) := by
  rw [State.hostTake, if_neg (not_not.mpr h2)]
  simp only [h, Bool.not_true, Bool.false_eq_true, and_false, ne_eq, not_true_eq_false, if_false]
  rfl

theorem State.hostTake_discarded {s : State} {m : Msg} (h2 : s.get R.ISO_STAT_STATE = 2) (h : filterReason m true ≠ 0) (want : Bool)
    (f : State → State) : s.hostTake m want f = (s.offWire m).hostDrop m (filterReason m true) := by
  rw [State.hostTake, if_neg (not_not.mpr h2)]
  simp only [h, false_and, ne_eq, not_false_eq_true, if_false, if_true]
  rfl

theorem State.hostTake_inOrder {s : State} {m : Msg} (h : InOrder s m) (f : State → State) : s.hostTake m true f = f (s.arrived m) := by
  have next : m.seq = (s.offWire m).link.rxFH.getD m.vc 0 := h.next
  rw [State.hostTake_passed h.up h.passed, State.hostSeq, if_pos next, State.gapNoted, if_neg (by simp [h.noGap])]
  rfl

/-- A message that the filter passes has the virtual channel of its type (R39, R41). -/
theorem vc_of_filterReason {m : Msg} {b : Bool} {vc : Nat} {dirs : Bool × Bool} (h : filterReason m b = 0) (hc : catalogue m.ty = some (vc, dirs)) : m.vc = vc := by
  by_contra hv
  simp [filterReason, hc, hv] at h

theorem State.arrived_kept (s : State) (m : Msg) : RegsKept s (s.arrived m) (fun a => a = R.ISO_RX_BYTES_LO ∨ a = R.ISO_RX_BYTES_LO + 4) := by
  intro a ha
  obtain ⟨low, high⟩ := not_or.mp ha
  exact (State.rd_put_ne _ _ high).trans (State.rd_put_ne _ _ low)

theorem State.offWire_val (s : State) (m : Msg) {a : Nat} (h : ¬ (a = R.ISO_RX_BYTES_LO ∨ a = R.ISO_RX_BYTES_LO + 4)) : (s.offWire m).val a = s.val a :=
  congrArg BitVec.toNat (s.arrived_kept m a h)

/-! ### Entering Clearing (R79) -/

/-- An item on time joins the staging area, and nothing else changes. -/
theorem State.toClearing_onTime (s : State) (era t64 cls inst src : Nat) (bs : List Byte)
    (h : s.relAbs ≤ absTick era (T64.unpack t64).tick) :
    s.toClearing era t64 cls inst src bs
      = { s with clr := { s.clr with arr := s.clr.arr + 1, staged := s.clr.staged ++ [⟨era, t64, cls, inst, src, s.clr.arr, bs⟩] } } := by
  simp only [State.toClearing, State.relAbs] at h ⊢
  rw [if_neg (Nat.not_lt.mpr h)]

/-- The item that a message of the field half becomes. -/
def State.recordItem (s : State) (m : Msg) (cls inst : Nat) : Item :=
  { era := eraOf s.time.hTick s.era (T64.unpack m.t64).tick, t64 := m.t64, cls := cls, inst := inst, src := 0, arr := s.clr.arr, bytes := msgBytes m }

/-- What the receipt of a message into the record comes to: its channel and the wire, the bytes received, and one item of its class and index. -/
def Recorded (s : State) (m : Msg) (cls inst : Nat) (t : State) : Prop :=
  t.link.rxFH = s.link.rxFH.set m.vc ((m.seq + 1) % 2 ^ 16) ∧ t.link.outFH = s.link.outFH.erase m ∧
    t.val64 R.ISO_RX_BYTES_LO = (s.val64 R.ISO_RX_BYTES_LO + m.size) % 2 ^ 64 ∧ t.clr.staged = s.clr.staged ++ [s.recordItem m cls inst] ∧
    t.mem = s.mem ∧ RegsKept s t (fun a => a = R.ISO_RX_BYTES_LO ∨ a = R.ISO_RX_BYTES_LO + 4)

theorem State.arrived_toRecord {s : State} {m : Msg} (h : InOrder s m) (inst : Nat) :
    (s.arrived m).toRecord m inst
      = { s.arrived m with clr := { s.clr with arr := s.clr.arr + 1, staged := s.clr.staged ++ [s.recordItem m (clsOf m.vc) inst] } } := by
  have era : (s.arrived m).era = s.era := congrArg BitVec.toNat (s.arrived_kept m R.TIME_ERA (by decide))
  have record := (s.arrived m).toClearing_onTime (eraOf s.time.hTick s.era (T64.unpack m.t64).tick) m.t64 (clsOf m.vc) inst 0 (msgBytes m) h.onTime
  rw [State.toRecord, era]
  exact record

theorem State.arrived_recorded {s : State} {m : Msg} (h : InOrder s m) (inst : Nat) :
    Recorded s m (clsOf m.vc) inst ((s.arrived m).toRecord m inst) := by
  rw [State.arrived_toRecord h inst]
  exact ⟨rfl, rfl, State.val64_put64 _ _, rfl, rfl, s.arrived_kept m⟩

/-- A command that hands an expected message to the record and does no more there. -/
theorem answers_recorded {c : Instr} {s : State} {u : Sub} {m : Msg} {want : Bool} {f : State → State} {ty vc inst : Nat} {dirs : Bool × Bool}
    (h : InOrder s m) (arm : exec c s = done s ((s.atH u).hostTake m want f)) (hty : m.ty = ty) (hc : catalogue ty = some (vc, dirs))
    (hw : want = true) (hf : ∀ t, f t = t.toRecord m inst) : Answers c s (Recorded s m (clsOf vc) inst) := by
  subst hw hty
  have here := State.arrived_recorded (h.atH u) inst
  rw [vc_of_filterReason h.passed hc] at here
  rw [State.hostTake_inOrder (h.atH u), hf] at arm
  exact answers_of_done arm (by rw [State.arrived_toRecord (h.atH u)]; rfl) here

/-! ### What the other messages do beside the record -/

/-- A whole BANK or RUN_END at the host half enters the record alone (R326). -/
theorem State.calToHost_record (s : State) {pl : List Byte} (hk : leAt pl 0 2 = 3 ∨ leAt pl 0 2 = 4) (hl : pl.length = 48) : s.calToHost pl = s := by
  have fits : calFits pl false = true := by rcases hk with hk | hk <;> simp [calFits, hk, hl]
  have image : leAt pl 0 2 ≠ 1 := by omega
  simp only [State.calToHost, fits, Bool.not_true, Bool.false_eq_true, if_false, image]

theorem ofBytes_lt (l : List Byte) : ofBytes l < 256 ^ l.length := by
  induction l with
  | nil => simp [ofBytes]
  | cons b l ih =>
    have hb : b.toNat < 256 := b.isLt
    simp only [ofBytes, List.length_cons, pow_succ]
    omega

theorem leAt_lt (l : List Byte) (o n : Nat) : leAt l o n < 256 ^ n :=
  (ofBytes_lt _).trans_le (Nat.pow_le_pow_right (by decide) (List.length_take_le _ _))

/-- ISO_FDROP shows the discards that XM_HEALTH tells (R40, R44). -/
theorem State.mirrorDrops_regs (s : State) (n last : Nat) :
    OnRegs (fun a => a = R.ISO_FDROP ∨ a = R.ISO_DROP_LAST ∨ a = R.ISO_EVT) s (s.mirrorDrops n last) := by
  unfold State.mirrorDrops
  extract_lets s1
  have h1 : OnRegs (fun a => a = R.ISO_FDROP ∨ a = R.ISO_DROP_LAST ∨ a = R.ISO_EVT) s s1 :=
    ((OnRegs.put s n (.inl rfl)).trans (.put _ last (.inr (.inl rfl)))).trans (.set _ R.ISO_EVT_DROP 1 (.inr (.inr rfl)))
  exact .ite (.refl _ s) (.ite (h1.trans (.set s1 R.ISO_EVT_SATURATED 1 (.inr (.inr rfl)))) h1)

theorem State.mirrorDrops_val (s : State) {n : Nat} (last : Nat) (h : n < 2 ^ 32) : (s.mirrorDrops n last).val R.ISO_FDROP = n := by
  unfold State.mirrorDrops
  split
  · exact Eq.symm ‹_›
  · extract_lets s1
    have h1 : s1.val R.ISO_FDROP = n := by
      rw [State.val_set_ne _ _ (by decide), State.val_put_ne _ _ (by decide), State.val_put_self, Nat.mod_eq_of_lt h]
    split
    · rw [State.val_set_ne _ _ (by decide), h1]
    · exact h1

/-- XM_HEALTH of the field half enters the record, its discards are mirrored, and the gap of a link loss ends (R30, R44). -/
theorem State.healthToHost_arrived {s : State} {m : Msg} (h : InOrder s m) (hty : m.ty = 0x03) :
    let t := (s.arrived m).healthToHost m
    t.pending = s.pending ∧ t.link.rxFH = s.link.rxFH.set m.vc ((m.seq + 1) % 2 ^ 16) ∧ t.link.outFH = s.link.outFH.erase m ∧
      t.val64 R.ISO_RX_BYTES_LO = (s.val64 R.ISO_RX_BYTES_LO + m.size) % 2 ^ 64 ∧ t.clr.staged = s.clr.staged ++ [s.recordItem m 5 0] ∧
      t.val R.ISO_FDROP = leAt m.payload 8 4 ∧ t.link.gapFrom = none ∧ t.mem = s.mem := by
  intro t
  have entered := State.arrived_recorded h 0
  rw [vc_of_filterReason h.passed (hty ▸ rfl : catalogue m.ty = some (0, true, true))] at entered
  obtain ⟨hrx, hout, hbytes, hstaged, hmem, -⟩ := entered
  have queue : ((s.arrived m).toRecord m 0).pending = s.pending := by rw [State.arrived_toRecord h]; rfl
  have told : leAt m.payload 8 4 < 2 ^ 32 := (leAt_lt _ 8 4).trans_eq (by norm_num)
  have drops := ((s.arrived m).toRecord m 0).mirrorDrops_val (leAt m.payload 12 4) told
  have mirrored := ((s.arrived m).toRecord m 0).mirrorDrops_regs (leAt m.payload 8 4) (leAt m.payload 12 4)
  simp only [t, State.healthToHost]
  generalize ((s.arrived m).toRecord m 0).mirrorDrops (leAt m.payload 8 4) (leAt m.payload 12 4) = v at drops mirrored ⊢
  refine ⟨mirrored.pending.trans queue, ?_, ?_, ?_, ?_, drops, rfl, mirrored.mem.trans hmem⟩
  · exact (congrArg LinkSt.rxFH mirrored.link).trans hrx
  · exact (congrArg LinkSt.outFH mirrored.link).trans hout
  · exact (mirrored.val64 (by decide) (by decide)).trans hbytes
  · exact (congrArg ClrSt.staged mirrored.clr).trans hstaged

/-- The host half's registers after a discard: the count, the event bit and the header (R40). -/
def State.dropShown (s : State) (w : Nat) : State := ((s.isoCount R.ISO_HDROP 1).set R.ISO_EVT_DROP 1).put R.ISO_DROP_LAST w

theorem State.dropShown_regs (s : State) (w : Nat) :
    OnRegs (fun a => a = R.ISO_HDROP ∨ a = R.ISO_EVT ∨ a = R.ISO_DROP_LAST) s (s.dropShown w) :=
  ((OnRegs.satCount s (.inl rfl) (.inr (.inl rfl))).trans (.set _ R.ISO_EVT_DROP 1 (.inr (.inl rfl)))).trans (.put _ w (.inr (.inr rfl)))

theorem State.dropShown_count (s : State) (w : Nat) : (s.dropShown w).val R.ISO_HDROP = min (s.val R.ISO_HDROP + 1) (2 ^ 32 - 1) := by
  rw [State.dropShown, State.val_put_ne _ _ (by decide), State.val_set_ne _ _ (by decide), State.isoCount_val _ _ _ (by decide)]

theorem State.dropShown_bit (s : State) (w : Nat) : (s.dropShown w).is R.ISO_EVT_DROP = true := by
  rw [State.is_iff, State.dropShown, State.get_put_ne _ _ _ (by decide)]
  exact State.get_set_self _ _ (by decide)

theorem State.hostDrop_eq (s : State) {m : Msg} {r w : Nat} (h : dropWord 0 r m = w) :
    s.hostDrop m r = { s.dropShown w with link := { s.link with hDropLast := w } } := by
  subst h
  rw [← (s.dropShown_regs (dropWord 0 r m)).link]
  rfl

/-- What the discard of a message at the host half comes to: it is off the wire, counted and shown, and has no other effect. -/
def Discarded (s : State) (m : Msg) (r : Nat) (t : State) : Prop :=
  t.val R.ISO_HDROP = min (s.val R.ISO_HDROP + 1) (2 ^ 32 - 1) ∧ t.is R.ISO_EVT_DROP = true ∧
    t.val R.ISO_DROP_LAST = dropWord 0 r m % 2 ^ 32 ∧ t.link.outFH = s.link.outFH.erase m ∧ t.clr = s.clr ∧ t.mem = s.mem

/-- What a discard comes to, from the state `v` with the message off the wire. -/
theorem discarded_of_offWire {s v : State} {m : Msg} {r w : Nat} (count : v.val R.ISO_HDROP = s.val R.ISO_HDROP) (wire : v.link.outFH = s.link.outFH.erase m)
    (clr : v.clr = s.clr) (mem : v.mem = s.mem) (header : dropWord 0 r m = w) : Discarded s m r (v.hostDrop m r) := by
  have shown := v.dropShown_regs w
  rw [State.hostDrop_eq _ header, Discarded, header, ← count, ← clr, ← mem]
  exact ⟨v.dropShown_count w, v.dropShown_bit w, State.val_put_self _ w, wire, shown.clr, shown.mem⟩

theorem State.hostDrop_pending (s : State) (m : Msg) (r : Nat) : (s.hostDrop m r).pending = s.pending := by
  obtain ⟨w, header⟩ : ∃ w, dropWord 0 r m = w := ⟨_, rfl⟩
  rw [State.hostDrop_eq s header]
  exact (s.dropShown_regs w).pending

/-- Settles O29: what the record takes in order, what health tells, and what the filter discards (log 39). -/
theorem hostReceipt : Obligations.HostReceipt := by
  refine ⟨fun s u m up passed noGap next onTime ty => ?_, fun s u m up passed noGap next onTime ty => ?_, fun s u m up passed noGap next onTime ty => ?_,
    fun s u m up passed noGap next onTime ty pod => ?_, fun s u m up passed noGap next onTime ty => ?_, fun s u m up passed noGap next onTime ty kind len => ?_,
    fun s u m up passed noGap next onTime ty kind len => ?_, fun s u m up passed noGap next onTime ty => ?_, fun s u m up refused => ?_⟩
  · exact answers_recorded ⟨up, passed, noGap, next, onTime⟩ rfl ty rfl (by simp [ty]) fun _ => rfl
  · exact answers_recorded ⟨up, passed, noGap, next, onTime⟩ rfl ty rfl (by simp [ty]) fun _ => rfl
  · exact answers_recorded ⟨up, passed, noGap, next, onTime⟩ rfl ty rfl (by simp [ty]) fun _ => rfl
  · exact answers_recorded ⟨up, passed, noGap, next, onTime⟩ rfl ty rfl (by simp [ty, pod]) fun _ => rfl
  · exact answers_recorded ⟨up, passed, noGap, next, onTime⟩ rfl ty rfl (by simp [ty]) fun _ => rfl
  · exact answers_recorded ⟨up, passed, noGap, next, onTime⟩ rfl ty rfl (by simp [ty, kind]) fun t => State.calToHost_record _ (.inl kind) len
  · exact answers_recorded ⟨up, passed, noGap, next, onTime⟩ rfl ty rfl (by simp [ty, kind]) fun t => State.calToHost_record _ (.inr kind) len
  · have order : InOrder (s.atH u) m := ⟨up, passed, noGap, next, onTime⟩
    have arm : exec (.xmHealth u true m) s = done s ((s.atH u).hostTake m (m.ty == 0x03) fun t => t.healthToHost m) := rfl
    rw [show (m.ty == 0x03) = true by simp [ty], State.hostTake_inOrder order] at arm
    obtain ⟨queue, effects⟩ := State.healthToHost_arrived order ty
    exact answers_of_done arm queue effects
  · have arm : exec (.xmSamples u m) s = done s ((s.atH u).hostTake m (m.ty == 0x20) fun t => t.toRecord m (leAt m.payload 2 2)) := rfl
    rw [State.hostTake_discarded (s := s.atH u) up refused] at arm
    have effects : Discarded s m (filterReason m true) (((s.atH u).offWire m).hostDrop m (filterReason m true)) :=
      discarded_of_offWire (State.offWire_val _ m (by decide)) rfl rfl rfl rfl
    exact answers_of_done arm (State.hostDrop_pending _ m _) effects

end Sys2Proof.Machine
end

section
/-! PROOFS. The barrier link (R22–R30): its loss, attempts of training, lanes, replays, shedding and the link hold. -/

namespace Sys2Proof.Machine

/-! ### An attempt of training (R24) -/

/-- `t` comes from `s` by the start of an attempt. -/
structure Attempt (s t : State) : Prop where
  state : t.get R.ISO_STAT_STATE = 1
  width : t.get R.ISO_STAT_FH_WIDTH = s.get R.ISO_STAT_FH_WIDTH
  down : t.get R.ISO_EVT_LINK_DOWN = s.get R.ISO_EVT_LINK_DOWN
  count : t.val R.ISO_TRAIN_COUNT = min (s.val R.ISO_TRAIN_COUNT + 1) (2 ^ 32 - 1)
  link : t.link = { s.link with training := true, attemptTick := s.hAbs }
  mem : t.mem = s.mem
  pending : t.pending = s.pending
  kept : RegsKept s t (fun a => a = R.ISO_STAT ∨ a = R.ISO_TRAIN_COUNT ∨ a = R.ISO_EVT)

theorem State.trainStart_attempt (s : State) : Attempt s s.trainStart := by
  unfold State.trainStart
  extract_lets s1
  have shown : OnRegs (fun a => a = R.ISO_STAT ∨ a = R.ISO_TRAIN_COUNT ∨ a = R.ISO_EVT) s s1 :=
    (OnRegs.satCount s (.inr (.inl rfl)) (.inr (.inr rfl))).trans (.set _ R.ISO_STAT_STATE 1 (.inl rfl))
  have count : s1.val R.ISO_TRAIN_COUNT = min (s.val R.ISO_TRAIN_COUNT + 1) (2 ^ 32 - 1) := by
    rw [State.val_set_ne _ _ (by decide), State.isoCount_val _ _ _ (by decide)]
  have state : s1.get R.ISO_STAT_STATE = 1 := State.get_set_self _ _ (by decide)
  have width : s1.get R.ISO_STAT_FH_WIDTH = s.get R.ISO_STAT_FH_WIDTH :=
    (State.get_set_apart _ _ (by decide)).trans (s.satCount_get _ _ _ _ _ (by decide) (by decide))
  have down : s1.get R.ISO_EVT_LINK_DOWN = s.get R.ISO_EVT_LINK_DOWN :=
    (State.get_set_apart _ _ (by decide)).trans (s.satCount_get _ _ _ _ _ (by decide) (by decide))
  have era : s1.era = s.era := shown.val (by decide)
  have link : { s1.link with training := true, attemptTick := absTick s1.era s1.time.hTick } = { s.link with training := true, attemptTick := s.hAbs } := by
    rw [shown.link, shown.time, era]
    rfl
  clear_value s1
  exact ⟨state, width, down, count, link, shown.mem, shown.pending, shown.kept⟩

/-! ### Widths (R22, R23) -/

theorem widthBudget_lt (w : Nat) : widthBudget w < 2 ^ 32 := by
  unfold widthBudget
  split
  · norm_num
  · split <;> norm_num

theorem widthOf_lt (lanes : Nat) : widthOf lanes < 2 ^ 5 := by
  simp only [widthOf]
  split
  · norm_num
  · split <;> norm_num

/-- The lanes in use fit the field. -/
theorem usedLanes_lt (good w : Nat) : usedLanes good w < 2 ^ 16 := by
  have sum (l : List Nat) : l.foldl (fun m k => m + 2 ^ k) 0 = (l.map (2 ^ ·)).sum := by
    rw [List.sum_eq_foldl, List.foldl_map]
  have lanes : ((bitsOf 16 good).take w).Sublist (List.range 16) := (List.take_sublist _ _).trans List.filter_sublist
  unfold usedLanes
  split
  · norm_num
  · calc _ = (((bitsOf 16 good).take w).map (2 ^ ·)).sum := sum _
      _ ≤ ((List.range 16).map (2 ^ ·)).sum := (lanes.map _).sum_le_sum fun _ _ => Nat.zero_le _
      _ < 2 ^ 16 := by decide

/-- Registers that show the widths. -/
def widthRegs : List Nat := [R.ISO_STAT, R.ISO_LANES_USED, R.ISO_BUDGET_FH, R.ISO_BUDGET_HF]

section
variable (s : State) (fh hf fhUsed hfUsed : Nat)

theorem State.showWidths_regs : OnRegs (fun a => a ∈ widthRegs) s (s.showWidths fh hf fhUsed hfUsed) :=
  (((((((OnRegs.set s _ _ (by decide)).trans (.set _ _ _ (by decide))).trans (.set _ _ _ (by decide))).trans
    (.set _ _ _ (by decide))).trans (.set _ _ _ (by decide))).trans (.put _ _ (by decide))).trans (.put _ _ (by decide)))

theorem State.showWidths_fh : (s.showWidths fh hf fhUsed hfUsed).get R.ISO_STAT_FH_WIDTH = fh % 2 ^ 5 := by
  simp (disch := decide) only [State.showWidths, State.get_put_ne, State.get_set_apart]
  exact State.get_set_self _ _ (by decide)

theorem State.showWidths_hf : (s.showWidths fh hf fhUsed hfUsed).get R.ISO_STAT_HF_WIDTH = hf % 2 ^ 5 := by
  simp (disch := decide) only [State.showWidths, State.get_put_ne, State.get_set_apart]
  exact State.get_set_self _ _ (by decide)

theorem State.showWidths_degraded : (s.showWidths fh hf fhUsed hfUsed).is R.ISO_STAT_DEGRADED = decide (fh = 12 ∨ hf = 12) := by
  have shown : (s.showWidths fh hf fhUsed hfUsed).get R.ISO_STAT_DEGRADED = (if fh = 12 ∨ hf = 12 then 1 else 0) % 2 ^ 1 := by
    simp (disch := decide) only [State.showWidths, State.get_put_ne, State.get_set_apart]
    exact State.get_set_self _ _ (by decide)
  simp only [State.is, shown]
  split <;> simp [*]

theorem State.showWidths_used : (s.showWidths fh hf fhUsed hfUsed).get R.ISO_LANES_USED_FH = fhUsed % 2 ^ 16 := by
  simp (disch := decide) only [State.showWidths, State.get_put_ne, State.get_set_apart]
  exact State.get_set_self _ _ (by decide)

theorem State.showWidths_budget : (s.showWidths fh hf fhUsed hfUsed).val R.ISO_BUDGET_FH = widthBudget fh := by
  rw [State.showWidths, State.val_put_ne _ _ (by decide), State.val_put_self, Nat.mod_eq_of_lt (widthBudget_lt fh)]
end

/-! ### The loss of the link (R29, R30) -/

/-- What the loss of the link leaves: the first attempt runs, no width, the host half's source is pending, its waiting messages are gone (the model's choice,
log 44), and the link-hold timer runs. -/
def LinkLost (s t : State) : Prop :=
  t.get R.ISO_STAT_STATE = 1 ∧ t.get R.ISO_STAT_FH_WIDTH = 0 ∧ t.link.fUp = false ∧ t.link.training = true ∧ t.link.outHF = [] ∧
    t.faultPend 0x14 = true ∧ t.is R.ISO_EVT_LINK_DOWN = true ∧ t.val R.ISO_TRAIN_COUNT = min (s.val R.ISO_TRAIN_COUNT + 1) (2 ^ 32 - 1) ∧
    t.link.hold = some (s.fU + s.linkHoldTicks * unitsPerTick) ∧ t.mem = s.mem

/-- The registers right after the loss: no width, no good lane, the event bit. -/
def State.lossShown (s : State) : State :=
  (((s.showWidths 0 0 0 0).set R.ISO_STAT_STATE 0).put R.ISO_LANES_GOOD 0).set R.ISO_EVT_LINK_DOWN 1

theorem State.lossShown_regs (s : State) : OnRegs (fun a => a ∈ widthRegs ∨ a = R.ISO_LANES_GOOD ∨ a = R.ISO_EVT) s s.lossShown :=
  ((((s.showWidths_regs 0 0 0 0).mono fun _ => .inl).trans (.set _ _ _ (.inl (by decide)))).trans (.put _ _ (.inr (.inl rfl)))).trans
    (.set _ _ _ (.inr (.inr rfl)))

theorem State.lossShown_width (s : State) : s.lossShown.get R.ISO_STAT_FH_WIDTH = 0 := by
  simp (disch := decide) only [State.lossShown, State.get_put_ne, State.get_set_apart, State.showWidths_fh, Nat.zero_mod]

theorem State.lossShown_down (s : State) : s.lossShown.get R.ISO_EVT_LINK_DOWN = 1 := State.get_set_self _ _ (by decide)

/-- The link's state after the loss: the host half's messages are lost, the timer runs. -/
def State.lossHeld (s : State) : State :=
  { s with link := { s.link with fUp := false, outHF := [], shedDue := false, gapFrom := some s.link.lastRx,
                                 hold := some (s.fU + s.linkHoldTicks * unitsPerTick) } }

/-- The reports of the loss: the gap in the availability record, the two sources, and the Ledger entry. -/
def State.lossTold (s : State) : State :=
  let last := (T64.unpack s.link.lastRx).tick
  let s1 := s.availGap (absTick (eraOf s.time.hTick s.era last) last) s.hAbs
  ((s1.hostFault 0x14 0).ledgerH 0x09 0x8001 0 (leBytes 8 s.link.lastRx)).fieldFault 0x40 0

theorem State.linkLoss_eq (s : State) : s.linkLoss = s.lossShown.lossHeld.lossTold.trainStart := rfl

theorem State.lossTold_raised (s : State) : Raised 0x14 s s.lossTold := by
  unfold State.lossTold
  extract_lets last s1
  have collected : Raised 0x14 s (s1.hostFault 0x14 0) := .after (.gap _ s _ _) (s1.hostFault_raised 0 false (by decide))
  have entered := collected.append (by decide) (.of_append (State.ledgerH_host _ 0x09 0x8001 0 (leBytes 8 s.link.lastRx)))
  exact entered.append (by decide) (State.fieldFault_reported _ 0 false (by decide))

/-- What the steps of a loss come to: the registers `v`, the link's state, the reports up to `r`, and the attempt. -/
theorem linkLost_of_steps {s v r t : State} (shown : OnRegs (fun a => a ∈ widthRegs ∨ a = R.ISO_LANES_GOOD ∨ a = R.ISO_EVT) s v)
    (width : v.get R.ISO_STAT_FH_WIDTH = 0) (down : v.get R.ISO_EVT_LINK_DOWN = 1) (raised : Raised 0x14 v.lossHeld r) (attempt : Attempt r t) :
    t.pending = s.pending ∧ LinkLost s t := by
  obtain ⟨told, pend⟩ := raised
  have held : v.fU + v.linkHoldTicks * unitsPerTick = s.fU + s.linkHoldTicks * unitsPerTick := by
    rw [State.fU, State.fU, State.linkHoldTicks, State.linkHoldTicks, shown.time, shown.get (by decide)]
  refine ⟨attempt.pending.trans (told.pending.trans shown.pending), attempt.state, ?_, ?_, ?_, ?_, ?_, ?_, ?_, ?_, ?_⟩
  · rw [attempt.width, told.get (by decide)]
    exact width
  · rw [attempt.link, told.link]
    rfl
  · rw [attempt.link]
  · rw [attempt.link, told.link]
    rfl
  · rw [← pend, State.faultPend, State.faultPend, attempt.kept _ (by decide)]
  · rw [State.is_iff, attempt.down, told.get (by decide)]
    exact down
  · rw [attempt.count, told.val (by decide)]
    exact congrArg (fun n => min (n + 1) (2 ^ 32 - 1)) (shown.val (by decide))
  · rw [attempt.link, told.link]
    exact congrArg some held
  · rw [attempt.mem, told.mem]
    exact shown.mem

theorem State.linkLoss_lost (s : State) : s.linkLoss.pending = s.pending ∧ LinkLost s s.linkLoss := by
  rw [State.linkLoss_eq]
  exact linkLost_of_steps s.lossShown_regs s.lossShown_width s.lossShown_down s.lossShown.lossHeld.lossTold_raised
    s.lossShown.lossHeld.lossTold.trainStart_attempt

end Sys2Proof.Machine
end

section
/-! PROOFS. The ends of the attempts of training, replays and CLR_STATS: the barrier link is settled (O35). -/

namespace Sys2Proof.Machine

/-! ### What messages, streams and plans leave of the link -/

/-- `t` has the link's own state of `s`: the sequence numbers expected, the link hold, the width; the time, acquisition memory, start-up and the queue. -/
structure Carried (s t : State) : Prop where
  rxFH : t.link.rxFH = s.link.rxFH
  rxHF : t.link.rxHF = s.link.rxHF
  hold : t.link.hold = s.link.hold
  expired : t.link.holdExpired = s.link.holdExpired
  time : t.time = s.time
  mem : t.mem = s.mem
  gens : t.gens = s.gens
  start : t.start = s.start
  pending : t.pending = s.pending

namespace Carried
variable {s t v : State}

theorem refl (s : State) : Carried s s := ⟨rfl, rfl, rfl, rfl, rfl, rfl, rfl, rfl, rfl⟩
theorem trans (h : Carried s t) (h' : Carried t v) : Carried s v :=
  ⟨h'.rxFH.trans h.rxFH, h'.rxHF.trans h.rxHF, h'.hold.trans h.hold, h'.expired.trans h.expired, h'.time.trans h.time, h'.mem.trans h.mem,
   h'.gens.trans h.gens, h'.start.trans h.start, h'.pending.trans h.pending⟩
theorem ite {c : Prop} [Decidable c] (h : Carried s t) (h' : Carried s v) : Carried s (if c then t else v) := by
  split
  · exact h
  · exact h'
theorem foldl {α : Type} {f : State → α → State} (hf : ∀ t x, Carried t (f t x)) (l : List α) : ∀ s, Carried s (l.foldl f s) := by
  induction l with
  | nil => exact refl
  | cons x l ih => exact fun s => (hf s x).trans (ih _)
theorem of_regs {w : Nat → Prop} (h : OnRegs w s t) : Carried s t := by
  obtain ⟨_, rfl, _⟩ := h
  exact ⟨rfl, rfl, rfl, rfl, rfl, rfl, rfl, rfl, rfl⟩
theorem of_host {w : Nat → Prop} (h : OnHost w s t) : Carried s t := by
  obtain ⟨_, _, _, _, rfl, _⟩ := h
  exact ⟨rfl, rfl, rfl, rfl, rfl, rfl, rfl, rfl, rfl⟩
theorem put (s : State) (a x : Nat) : Carried s (s.put a x) := ⟨rfl, rfl, rfl, rfl, rfl, rfl, rfl, rfl, rfl⟩
theorem set (s : State) (f : Fld) (x : Nat) : Carried s (s.set f x) := ⟨rfl, rfl, rfl, rfl, rfl, rfl, rfl, rfl, rfl⟩
end Carried

theorem State.sendHF_carried (s : State) (ty vc t64 : Nat) (pl : List Byte) (extra : Nat) : Carried s (s.sendHF ty vc t64 pl extra) :=
  ⟨rfl, rfl, rfl, rfl, rfl, rfl, rfl, rfl, rfl⟩

theorem State.sendPlan_carried (s : State) (p : Plan) (tick : Nat) : Carried s (s.sendPlan p tick) := .ite (s.sendHF_carried _ _ _ _ _) (.refl s)

/-- A plan that is sent counts its bytes and writes no other register. -/
theorem State.sendPlan_kept (s : State) (p : Plan) (tick : Nat) :
    RegsKept s (s.sendPlan p tick) (fun a => a = R.ISO_TX_BYTES_LO ∨ a = R.ISO_TX_BYTES_LO + 4) := by
  intro a ha
  unfold State.sendPlan
  split
  · exact (s.sendHF_field _ _ _ _ _).rd ha
  · rfl

/-- The step that returns one shed stream. -/
def State.unshedOne (s : State) (k : Nat × Nat) : State :=
  if k.1 < 3 then s.setLane k.2 ((s.lane k.2).setStream k.1 { (s.lane k.2).stream k.1 with som := true, gap := true })
  else { s with link := { s.link with gapFH := 2 :: s.link.gapFH.erase 2 } }

theorem State.unshed_carried (s : State) : Carried s s.unshed ∧ s.unshed.regs = s.regs := by
  have one (t : State) (k : Nat × Nat) : Carried t (t.unshedOne k) ∧ (t.unshedOne k).regs = t.regs := by
    unfold State.unshedOne
    split <;> exact ⟨⟨rfl, rfl, rfl, rfl, rfl, rfl, rfl, rfl, rfl⟩, rfl⟩
  have all (l : List (Nat × Nat)) : ∀ t : State, Carried t (l.foldl State.unshedOne t) ∧ (l.foldl State.unshedOne t).regs = t.regs := by
    induction l with
    | nil => exact fun t => ⟨.refl t, rfl⟩
    | cons k l ih => exact fun t => ⟨(one t k).1.trans (ih _).1, (ih _).2.trans (one t k).2⟩
  obtain ⟨carried, regs⟩ := all s.link.shed s
  exact ⟨carried.trans ⟨rfl, rfl, rfl, rfl, rfl, rfl, rfl, rfl, rfl⟩, regs⟩

/-! ### The end of an attempt (R22) -/

theorem State.startAdvance_of_ended {s : State} (h : s.start.step = 0) : s.startAdvance = s := if_pos h

/-- No attempt runs. -/
def State.attemptEnded (s : State) : State := { s with link := { s.link with training := false } }

theorem State.doTrainingDone_failed {s : State} {fh hf : Nat} (h : s.link.training = true) (hw : widthOf fh = 0 ∨ widthOf hf = 0) :
    s.doTrainingDone fh hf = s.attemptEnded.set R.ISO_STAT_STATE 0 := by
  rw [State.doTrainingDone, if_pos h]
  exact if_pos hw

/-- What a successful attempt leaves. -/
def LinkTrained (fh hf : Nat) (s t : State) : Prop :=
  t.get R.ISO_STAT_STATE = 2 ∧ t.get R.ISO_STAT_FH_WIDTH = widthOf fh ∧ t.get R.ISO_STAT_HF_WIDTH = widthOf hf ∧
    t.val R.ISO_BUDGET_FH = widthBudget (widthOf fh) ∧ t.link.rxFH = List.replicate 8 0 ∧ t.link.rxHF = List.replicate 8 0 ∧ t.link.hold = none ∧
    t.time.fAwaitLoad = true ∧ t.time.fAligned = false ∧ t.is R.ISO_EVT_LINK_UP = true ∧ t.mem = s.mem

/-- The registers of a successful attempt: UP, with the widths and the lanes that passed. -/
def State.trainedShown (s : State) (fh hf : Nat) : State :=
  ((((s.showWidths (widthOf fh) (widthOf hf) (usedLanes fh (widthOf fh)) (usedLanes hf (widthOf hf))).set R.ISO_STAT_STATE 2).set R.ISO_EVT_LINK_UP 1).set
    R.ISO_LANES_GOOD_FH (fh % 65536)).set R.ISO_LANES_GOOD_HF (hf % 65536)

/-- The state shows a link that is up with these widths. -/
structure UpWith (wf wh : Nat) (t : State) : Prop where
  state : t.get R.ISO_STAT_STATE = 2
  widthFH : t.get R.ISO_STAT_FH_WIDTH = wf
  widthHF : t.get R.ISO_STAT_HF_WIDTH = wh
  budget : t.val R.ISO_BUDGET_FH = widthBudget wf
  event : t.get R.ISO_EVT_LINK_UP = 1

theorem State.trainedShown_regs (s : State) (fh hf : Nat) :
    OnRegs (fun a => a ∈ widthRegs ∨ a = R.ISO_EVT ∨ a = R.ISO_LANES_GOOD) s (s.trainedShown fh hf) :=
  (((((s.showWidths_regs _ _ _ _).mono fun _ => .inl).trans (.set _ _ _ (.inl (by decide)))).trans (.set _ _ _ (.inr (.inl rfl)))).trans
    (.set _ _ _ (.inr (.inr rfl)))).trans (.set _ _ _ (.inr (.inr rfl)))

theorem State.trainedShown_up (s : State) (fh hf : Nat) : UpWith (widthOf fh) (widthOf hf) (s.trainedShown fh hf) := by
  refine ⟨?_, ?_, ?_, ?_, ?_⟩ <;> simp (disch := decide) only [State.trainedShown, State.get_set_apart, State.val_set_ne, State.showWidths_budget]
  · exact State.get_set_self _ _ (by decide)
  · rw [State.showWidths_fh, Nat.mod_eq_of_lt (widthOf_lt fh)]
  · rw [State.showWidths_hf, Nat.mod_eq_of_lt (widthOf_lt hf)]
  · exact State.get_set_self _ _ (by decide)

/-- Writes elsewhere, and to other event bits, leave the link as shown. -/
theorem UpWith.congr {wf wh : Nat} {s t : State} (h : UpWith wf wh s) (stat : t.rd R.ISO_STAT = s.rd R.ISO_STAT)
    (budget : t.rd R.ISO_BUDGET_FH = s.rd R.ISO_BUDGET_FH) (event : t.get R.ISO_EVT_LINK_UP = s.get R.ISO_EVT_LINK_UP) : UpWith wf wh t :=
  ⟨(congrArg (fieldOf · _ _) stat).trans h.state, (congrArg (fieldOf · _ _) stat).trans h.widthFH, (congrArg (fieldOf · _ _) stat).trans h.widthHF,
   (congrArg BitVec.toNat budget).trans h.budget, event.trans h.event⟩

/-- The report of a link that trains degraded. -/
def State.degradedTold (s : State) (c : Prop) [Decidable c] : State := if c then (s.set R.ISO_EVT_DEGRADED 1).hostFault 0x15 0 else s

theorem State.degradedTold_report (s : State) (c : Prop) [Decidable c] :
    OnReport (fun a => a = R.ISO_EVT ∨ a ∈ reportRegs ∨ a = R.FLT_CNT 0x15 ∨ a = R.FLT_PEND (0x15 / 32)) s (s.degradedTold c) :=
  .ite ((OnReport.set s R.ISO_EVT_DEGRADED 1 (.inl rfl)).trans ((State.hostFault_raised _ 0 false (by decide)).report.mono fun _ => .inr)) (.refl _ s)

theorem State.degradedTold_up {s : State} {wf wh : Nat} (h : UpWith wf wh s) (c : Prop) [Decidable c] : UpWith wf wh (s.degradedTold c) := by
  refine h.congr ((s.degradedTold_report c).rd (by decide)) ((s.degradedTold_report c).rd (by decide)) ?_
  unfold State.degradedTold
  split
  · have told := (s.set R.ISO_EVT_DEGRADED 1).hostFault_raised (id := 0x15) 0 false (by decide)
    exact (told.report.get (by decide)).trans (State.get_set_apart _ _ (by decide))
  · rfl

/-- The state of both halves after a training: sequence numbers from 0, no link hold, the field half waiting for the beacon (R24, R60, log 27). -/
def State.trainedLink (s : State) (wf wh : Nat) : State :=
  { s with
    link := { s.link with fUp := true, hold := none, outFH := (renumber s.link.outFH).1, txFH := (renumber s.link.outFH).2, outHF := [],
                          txHF := List.replicate 8 0, rxFH := List.replicate 8 0, rxHF := List.replicate 8 0, shedDue := wf == 12 },
    plan := { s.plan with trainedFH := wf, trainedHF := wh },
    time := { s.time with fAwaitLoad := true, fAligned := false, overruns := 0 } }

/-- The measured path, the alignment that both halves show, the streams that return (R24, R27, R60). -/
def State.trainedPath (s : State) : State :=
  ((((s.fresh 32).2.put R.TIME_PATH (s.fresh 32).1).set R.FCTL_STAT_ALIGNED 0).set R.TIME_STAT_FIELD_ALIGNED 0).unshed

/-- The plan in force is sent again for a boundary (R65). -/
def State.trainedPlan (s : State) (b : Nat × Nat) : State :=
  let p : Plan := { id := s.val R.TIME_PLAN_ID, tick := b.1, era := b.2, act := .resend, fh := s.fhLoad s.mode, fe := s.feLoad s.mode }
  ({ s with plan := { s.plan with sent := s.plan.sent ++ [p] } }).sendPlan p b.1

/-- The registers that the end of a training writes after the link's own. -/
def trainedRegs : List Nat := [R.TIME_PATH, R.FCTL_STAT, R.TIME_STAT, R.ISO_TX_BYTES_LO, R.ISO_TX_BYTES_LO + 4]

theorem State.trainedPath_carried (s : State) : Carried s s.trainedPath ∧ RegsKept s s.trainedPath (fun a => a ∈ trainedRegs) := by
  let v := ((s.fresh 32).2.put R.TIME_PATH (s.fresh 32).1).set R.FCTL_STAT_ALIGNED 0 |>.set R.TIME_STAT_FIELD_ALIGNED 0
  have shown : OnRegs (fun a => a ∈ trainedRegs) (s.fresh 32).2 v :=
    ((OnRegs.put _ _ (by decide)).trans (.set _ _ _ (by decide))).trans (.set _ _ _ (by decide))
  obtain ⟨carried, regs⟩ := v.unshed_carried
  have fresh : Carried s (s.fresh 32).2 := ⟨rfl, rfl, rfl, rfl, rfl, rfl, rfl, rfl, rfl⟩
  exact ⟨(fresh.trans (.of_regs shown)).trans carried, fun a ha => (congrArg (regsGet · a) regs).trans (shown.kept a ha)⟩

theorem State.trainedPlan_carried (s : State) (b : Nat × Nat) : Carried s (s.trainedPlan b) ∧ RegsKept s (s.trainedPlan b) (fun a => a ∈ trainedRegs) := by
  unfold State.trainedPlan
  extract_lets p was
  have sent : Carried s { s with plan := { s.plan with sent := s.plan.sent ++ [p] } } := ⟨rfl, rfl, rfl, rfl, rfl, rfl, rfl, rfl, rfl⟩
  refine ⟨sent.trans (State.sendPlan_carried _ p b.1), fun a ha => State.sendPlan_kept _ p b.1 a fun hm => ha ?_⟩
  rcases hm with rfl | rfl <;> decide

/-- The attempt has ended, its widths are shown and a degraded link is reported. -/
def State.trainedTold (s : State) (fh hf : Nat) : State := (s.attemptEnded.trainedShown fh hf).degradedTold (widthOf fh = 12 ∨ widthOf hf = 12)

theorem State.doTrainingDone_eq {s : State} {fh hf : Nat} (h : s.link.training = true) (hfh : widthOf fh ≠ 0) (hhf : widthOf hf ≠ 0) :
    s.doTrainingDone fh hf
      = (((s.trainedTold fh hf).trainedLink (widthOf fh) (widthOf hf)).trainedPath).trainedPlan ((s.trainedTold fh hf).boundaryAfter 2) := by
  rw [State.doTrainingDone, if_pos h]
  exact if_neg (not_or.mpr ⟨hfh, hhf⟩)

/-- What the last steps of a training come to: the registers `r` with the report, and what carries the link's state to `t`. -/
theorem linkTrained_of_steps {s r t : State} {fh hf : Nat} (up : UpWith (widthOf fh) (widthOf hf) r) (mem : r.mem = s.mem)
    (carried : Carried (r.trainedLink (widthOf fh) (widthOf hf)) t) (kept : RegsKept r t (fun a => a ∈ trainedRegs)) : LinkTrained fh hf s t := by
  have here : UpWith (widthOf fh) (widthOf hf) t :=
    up.congr (kept _ (by decide)) (kept _ (by decide)) (congrArg (fieldOf · _ _) (kept R.ISO_EVT (by decide)))
  refine ⟨here.state, here.widthFH, here.widthHF, here.budget, carried.rxFH, carried.rxHF, carried.hold, ?_, ?_, (State.is_iff _ _).mpr here.event, ?_⟩
  · rw [carried.time]
    rfl
  · rw [carried.time]
    rfl
  · exact carried.mem.trans mem

theorem State.doTrainingDone_trained {s : State} {fh hf : Nat} (h : s.link.training = true) (hfh : widthOf fh ≠ 0) (hhf : widthOf hf ≠ 0) :
    ((s.doTrainingDone fh hf).start = s.start ∧ (s.doTrainingDone fh hf).pending = s.pending) ∧ LinkTrained fh hf s (s.doTrainingDone fh hf) := by
  have shown := s.attemptEnded.trainedShown_regs fh hf
  have told := (s.attemptEnded.trainedShown fh hf).degradedTold_report (widthOf fh = 12 ∨ widthOf hf = 12)
  have up := State.degradedTold_up (s.attemptEnded.trainedShown_up fh hf) (widthOf fh = 12 ∨ widthOf hf = 12)
  have path := ((s.trainedTold fh hf).trainedLink (widthOf fh) (widthOf hf)).trainedPath_carried
  have plan := State.trainedPlan_carried ((s.trainedTold fh hf).trainedLink (widthOf fh) (widthOf hf)).trainedPath ((s.trainedTold fh hf).boundaryAfter 2)
  have carried := path.1.trans plan.1
  rw [State.doTrainingDone_eq h hfh hhf]
  exact ⟨⟨carried.start.trans (told.start.trans shown.start), carried.pending.trans (told.pending.trans shown.pending)⟩,
    linkTrained_of_steps up (told.mem.trans shown.mem) carried fun a ha => (plan.2 a ha).trans (path.2 a ha)⟩

/-! ### Replays (R28) -/

/-- The counters after `n` replays and a number of corrupted frames. -/
def State.replayShown (s : State) (n k : Nat) : State := (s.wrapCount R.ISO_REPLAY n).isoCount R.ISO_CRC_ERR k

theorem State.replayShown_regs (s : State) (n k : Nat) :
    OnRegs (fun a => a = R.ISO_REPLAY ∨ a = R.ISO_CRC_ERR ∨ a = R.ISO_EVT) s (s.replayShown n k) :=
  (OnRegs.put s _ (.inl rfl)).trans (.satCount _ (.inr (.inl rfl)) (.inr (.inr rfl)))

theorem State.replayShown_replay (s : State) (n k : Nat) : (s.replayShown n k).val R.ISO_REPLAY = (s.val R.ISO_REPLAY + n) % 2 ^ 32 := by
  have crc : OnRegs (fun a => a = R.ISO_CRC_ERR ∨ a = R.ISO_EVT) (s.wrapCount R.ISO_REPLAY n) (s.replayShown n k) := .satCount _ (.inl rfl) (.inr rfl)
  rw [crc.val (by decide), State.wrapCount, State.val_put_self]

theorem State.replayShown_crc (s : State) (n k : Nat) : (s.replayShown n k).val R.ISO_CRC_ERR = min (s.val R.ISO_CRC_ERR + k) (2 ^ 32 - 1) := by
  rw [State.replayShown, State.isoCount_val _ _ _ (by decide), State.wrapCount, State.val_put_ne _ _ (by decide)]

theorem State.doFrameReplay_resent {s : State} {fh : Bool} {n : Nat} {lost : Option Msg} (up : s.linkUp = true) (hn : 0 < n) (h : n < 3 ∨ lost = none) :
    s.doFrameReplay fh n lost = s.replayShown n n := by
  have kept : (if n = 3 then lost else none) = none := by
    rcases h with h | rfl
    · exact if_neg (by omega)
    · exact ite_self _
  simp only [State.doFrameReplay, up, hn, kept]
  rfl

/-- What the last replay leaves of a message that is lost. -/
def ReplayLost (s : State) (m : Msg) (t : State) : Prop :=
  t.val R.ISO_REPLAY = (s.val R.ISO_REPLAY + 3) % 2 ^ 32 ∧ t.val R.ISO_CRC_ERR = min (s.val R.ISO_CRC_ERR + 4) (2 ^ 32 - 1) ∧
    t.link.outFH = s.link.outFH.erase m ∧ t.link.outHF = s.link.outHF ∧ t.mem = s.mem ∧
    RegsKept s t (fun a => a = R.ISO_REPLAY ∨ a = R.ISO_CRC_ERR ∨ a = R.ISO_EVT)

/-- `m` no longer waits in the field half. -/
def State.withoutFH (s : State) (m : Msg) : State := { s with link := { s.link with outFH := s.link.outFH.erase m } }

theorem State.doFrameReplay_lost {s : State} (up : s.linkUp = true) (m : Msg) : s.doFrameReplay true 3 (some m) = (s.replayShown 3 4).withoutFH m := by
  simp only [State.doFrameReplay, up]
  rfl

theorem replayLost_of_shown {s r : State} (m : Msg) (regs : OnRegs (fun a => a = R.ISO_REPLAY ∨ a = R.ISO_CRC_ERR ∨ a = R.ISO_EVT) s r)
    (replay : r.val R.ISO_REPLAY = (s.val R.ISO_REPLAY + 3) % 2 ^ 32) (crc : r.val R.ISO_CRC_ERR = min (s.val R.ISO_CRC_ERR + 4) (2 ^ 32 - 1)) :
    (r.withoutFH m).pending = s.pending ∧ ReplayLost s m (r.withoutFH m) :=
  ⟨regs.pending, replay, crc, congrArg (·.outFH.erase m) regs.link, congrArg (·.outHF) regs.link, regs.mem, regs.kept⟩

/-! ### The statements -/

/-- A command that starts an attempt while the link is not up. -/
theorem answers_attempt {c : Instr} {s t : State} {u : Sub} (arm : exec c s = done s t) (h : Attempt (s.atH u) t) :
    Answers c s (fun t => t.get R.ISO_STAT_STATE = 1 ∧ t.link.training = true ∧ t.link.attemptTick = (s.atH u).hAbs ∧
      t.val R.ISO_TRAIN_COUNT = min (s.val R.ISO_TRAIN_COUNT + 1) (2 ^ 32 - 1) ∧ t.mem = s.mem ∧
      RegsKept s t (fun a => a = R.ISO_STAT ∨ a = R.ISO_TRAIN_COUNT ∨ a = R.ISO_EVT)) :=
  answers_of_done arm h.pending ⟨h.state, by rw [h.link], by rw [h.link], h.count, h.mem, h.kept⟩

/-- The counters of the block are 0 after CLR_STATS (R54). -/
theorem State.isoCleared_regs (s : State) :
    OnRegs (fun a => a ∈ isoSats ∨ a = R.ISO_TUN_LAT_MAX) s ((s.putAll isoSats 0).put R.ISO_TUN_LAT_MAX 0) :=
  (OnRegs.putAll isoSats 0 (fun _ h => .inl h) s).trans (.put _ _ (.inr rfl))

theorem State.isoCleared_val (s : State) {a : Nat} (h : a ∈ isoSats) : ((s.putAll isoSats 0).put R.ISO_TUN_LAT_MAX 0).val a = 0 := by
  have other : a ≠ R.ISO_TUN_LAT_MAX := fun e => absurd (e ▸ h) (by decide)
  rw [State.val_put_ne _ _ other, State.val, State.putAll_rd, if_pos h]
  rfl

/-- Settles O35: the loss (what is lost with it is the model's choice, log 44), the attempts, their ends, replays and CLR_STATS. -/
theorem barrierLink : Obligations.BarrierLink := by
  refine ⟨fun s u up => ?_, fun s u on up => ?_, fun s u on down => ?_, fun s u down idle on late => ?_, fun s u fh hf runs ended none => ?_,
    fun s u fh hf runs ended hfh hhf => ?_, fun s u fh n lost up pos kept => ?_, fun s u m up => ?_, fun s u on => ?_⟩
  · have arm : exec (.linkDown u) s = done s ((s.atH u).atF u).doLinkDown := rfl
    rw [State.doLinkDown, if_pos (c := ((s.atH u).atF u).linkUp = true) up] at arm
    obtain ⟨queue, lost⟩ := ((s.atH u).atF u).linkLoss_lost
    exact answers_of_done arm queue lost
  · have arm : exec (.isoRetrain u) s = done s ((s.atH u).ifOn R.ISO_CTRL State.doRetrain) := rfl
    rw [State.ifOn, if_pos (c := (s.atH u).powered R.ISO_CTRL = true) on, State.doRetrain, if_pos (c := (s.atH u).linkUp = true) up] at arm
    obtain ⟨queue, h1, h2, h3, h4, h5, h6, h7, h8, -, h10⟩ := (s.atH u).linkLoss_lost
    exact answers_of_done arm queue ⟨h1, h2, h3, h4, h5, h6, h7, h8, h10⟩
  · have arm : exec (.isoRetrain u) s = done s ((s.atH u).ifOn R.ISO_CTRL State.doRetrain) := rfl
    rw [State.ifOn, if_pos (c := (s.atH u).powered R.ISO_CTRL = true) on, State.doRetrain,
      if_neg (c := (s.atH u).linkUp = true) (Bool.eq_false_iff.mp down)] at arm
    exact answers_attempt arm (s.atH u).trainStart_attempt
  · have arm : exec (.trainingRetryTimer u) s = done s (s.atH u).doTrainRetry := rfl
    have due : (!(s.atH u).linkUp && !(s.atH u).link.training && (s.atH u).powered R.ISO_CTRL
        && decide ((s.atH u).link.attemptTick + 10000 ≤ (s.atH u).hAbs)) = true := by
      simp only [show (s.atH u).linkUp = false from down, show (s.atH u).link.training = false from idle, show (s.atH u).powered R.ISO_CTRL = true from on,
        show (s.atH u).link.attemptTick + 10000 ≤ (s.atH u).hAbs from late, Bool.not_false, decide_true, Bool.and_self]
    rw [show (s.atH u).doTrainRetry = (s.atH u).trainStart from if_pos due] at arm
    exact answers_attempt arm (s.atH u).trainStart_attempt
  · have arm : exec (.trainingDone u fh hf) s = done s (((s.atH u).atF u).doTrainingDone fh hf).startAdvance := rfl
    rw [State.doTrainingDone_failed (s := (s.atH u).atF u) runs none,
      State.startAdvance_of_ended (s := ((s.atH u).atF u).attemptEnded.set R.ISO_STAT_STATE 0) ended] at arm
    exact answers_of_done arm rfl ⟨State.get_set_self _ _ (by decide), rfl, rfl, fun a ha => State.rd_set_ne _ _ _ ha⟩
  · have arm : exec (.trainingDone u fh hf) s = done s (((s.atH u).atF u).doTrainingDone fh hf).startAdvance := rfl
    obtain ⟨⟨start, queue⟩, trained⟩ := State.doTrainingDone_trained (s := (s.atH u).atF u) runs hfh hhf
    rw [State.startAdvance_of_ended ((congrArg StartSt.step start).trans ended)] at arm
    exact answers_of_done arm queue trained
  · have arm : exec (.frameReplay u fh n lost) s = done s ((s.atH u).doFrameReplay fh n lost) := rfl
    rw [State.doFrameReplay_resent (s := s.atH u) up pos kept] at arm
    have shown := (s.atH u).replayShown_regs n n
    exact answers_of_done arm shown.pending ⟨State.replayShown_replay _ _ _, State.replayShown_crc _ _ _, shown.link, shown.mem, shown.kept⟩
  · have arm : exec (.frameReplay u true 3 (some m)) s = done s ((s.atH u).doFrameReplay true 3 (some m)) := rfl
    rw [State.doFrameReplay_lost (s := s.atH u) up] at arm
    obtain ⟨queue, lost⟩ := replayLost_of_shown m ((s.atH u).replayShown_regs 3 4) (State.replayShown_replay _ _ _) (State.replayShown_crc _ _ _)
    exact answers_of_done arm queue lost
  · have arm : exec (.isoClrStats u) s = done s ((s.atH u).ifOn R.ISO_CTRL fun t => (t.putAll isoSats 0).put R.ISO_TUN_LAT_MAX 0) := rfl
    rw [State.ifOn, if_pos (c := (s.atH u).powered R.ISO_CTRL = true) on] at arm
    have shown := (s.atH u).isoCleared_regs
    exact answers_of_done arm shown.pending ⟨fun a ha => State.isoCleared_val _ ha, State.val_put_self _ 0, shown.mem, shown.kept⟩

end Sys2Proof.Machine
end

section
/-! PROOFS. Lane failures, the end of a reconfiguration, shedding and the expiry of the link hold (O36). -/

namespace Sys2Proof.Machine

/-! ### A lane that fails (R25) -/

/-- Lane `k` of the field-to-host direction is no longer good. -/
def State.laneGone (s : State) (k : Nat) : State := s.set R.ISO_LANES_GOOD_FH (s.get R.ISO_LANES_GOOD_FH &&& (65535 ^^^ 2 ^ k))

theorem State.laneGone_good (s : State) (k : Nat) :
    (s.laneGone k).get R.ISO_LANES_GOOD_FH = (s.get R.ISO_LANES_GOOD_FH &&& (65535 ^^^ 2 ^ k)) := by
  have fits : s.get R.ISO_LANES_GOOD_FH &&& (65535 ^^^ 2 ^ k) < 2 ^ 16 := Nat.and_le_left.trans_lt (s.get_lt R.ISO_LANES_GOOD_FH)
  exact (State.get_set_self _ _ (by decide)).trans (Nat.mod_eq_of_lt fits)

theorem State.laneGone_regs (s : State) (k : Nat) : OnRegs (fun a => a = R.ISO_LANES_GOOD) s (s.laneGone k) := .set _ _ _ rfl

theorem State.doLaneFailure_spare {s : State} {k : Nat} (up : s.linkUp = true) (spare : (s.get R.ISO_LANES_USED_FH).testBit k = false) :
    s.doLaneFailure true k = s.laneGone k := by
  rw [State.doLaneFailure, if_pos up]
  exact if_pos (by simp only [if_true, spare, Bool.not_false])

/-- A lane in use fails with 12 good lanes left: messages are held, STATE is RECONFIG. -/
theorem State.doLaneFailure_held {s : State} {k : Nat} (up : s.get R.ISO_STAT_STATE = 2) (used : (s.get R.ISO_LANES_USED_FH).testBit k = true)
    (enough : 12 ≤ popCount 16 (s.get R.ISO_LANES_GOOD_FH &&& (65535 ^^^ 2 ^ k))) :
    s.doLaneFailure true k = (s.laneGone k).tunPause.set R.ISO_STAT_STATE 3 := by
  rw [State.doLaneFailure, if_pos (by simp only [State.linkUp, up, beq_self_eq_true, Bool.true_or])]
  exact (if_neg (by simp only [if_true, used, Bool.not_true, Bool.false_eq_true, not_false_eq_true])).trans
    ((if_neg (Nat.not_lt.mpr enough)).trans (if_neg (by rw [up]; decide)))

/-- What a lane in use leaves that failed, where `v` no longer shows it as good. -/
theorem laneHeld_of_gone {s v : State} {good : Nat} (gone : OnRegs (fun a => a = R.ISO_LANES_GOOD) s v) (h : v.get R.ISO_LANES_GOOD_FH = good) :
    (v.tunPause.set R.ISO_STAT_STATE 3).pending = s.pending ∧ (v.tunPause.set R.ISO_STAT_STATE 3).get R.ISO_LANES_GOOD_FH = good ∧
      (v.tunPause.set R.ISO_STAT_STATE 3).get R.ISO_STAT_STATE = 3 ∧ (v.tunPause.set R.ISO_STAT_STATE 3).link.outFH = s.link.outFH ∧
      (v.tunPause.set R.ISO_STAT_STATE 3).link.outHF = s.link.outHF ∧ (v.tunPause.set R.ISO_STAT_STATE 3).mem = s.mem ∧
      RegsKept s (v.tunPause.set R.ISO_STAT_STATE 3) (fun a => a = R.ISO_LANES_GOOD ∨ a = R.ISO_STAT) := by
  refine ⟨gone.pending, (State.get_set_apart _ _ (by decide)).trans h, State.get_set_self _ _ (by decide), (congrArg LinkSt.outFH gone.link :),
    (congrArg LinkSt.outHF gone.link :), gone.mem, fun a ha => ?_⟩
  obtain ⟨good, stat⟩ := not_or.mp ha
  exact (State.rd_set_ne _ _ _ stat).trans (gone.kept a good)

/-! ### The end of a reconfiguration (R25, R26) -/

/-- What a direction runs after a reconfiguration of `s`. -/
def State.afterFH (s : State) : Nat × Nat × Bool := reconfigured (s.get R.ISO_STAT_FH_WIDTH) (s.get R.ISO_LANES_GOOD_FH) (s.get R.ISO_LANES_USED_FH)

/-- What the other direction runs. -/
def State.afterHF (s : State) : Nat × Nat × Bool := reconfigured (s.get R.ISO_STAT_HF_WIDTH) (s.get R.ISO_LANES_GOOD_HF) (s.get R.ISO_LANES_USED_HF)

/-- The field-to-host direction lost width. -/
def State.fellFH (s : State) : Bool := decide (s.afterFH.1 < s.get R.ISO_STAT_FH_WIDTH)

/-- The registers at the end of a reconfiguration: the link is UP with what it runs, and the events tell what happened. -/
def State.reconfigShown (s : State) : State :=
  let s1 := (s.showWidths s.afterFH.1 s.afterHF.1 s.afterFH.2.1 s.afterHF.2.1).set R.ISO_STAT_STATE 2
  let s2 := if s.afterFH.2.2 || s.afterHF.2.2 then s1.set R.ISO_EVT_LANE_SUBST 1 else s1
  if s.fellFH || decide (s.afterHF.1 < s.get R.ISO_STAT_HF_WIDTH) then s2.set R.ISO_EVT_DEGRADED 1 else s2

/-- The budget is applied again where the width fell, and tunnel time counts again. -/
def State.reconfigHeld (s : State) (fell : Bool) : State := ({ s with link := { s.link with shedDue := s.link.shedDue || fell } }).tunResume

theorem State.doReconfigDone_eq {s : State} (h : s.get R.ISO_STAT_STATE = 3) :
    s.doReconfigDone = (s.reconfigShown.reconfigHeld s.fellFH).hostFault 0x15 0 := if_pos h

section
variable (s : State)

/-- What shows the widths is untouched by the events of a reconfiguration. -/
theorem State.reconfigShown_stat : OnRegs (fun a => a = R.ISO_EVT)
    ((s.showWidths s.afterFH.1 s.afterHF.1 s.afterFH.2.1 s.afterHF.2.1).set R.ISO_STAT_STATE 2) s.reconfigShown :=
  have subst (v : State) (c : Prop) [Decidable c] : OnRegs (fun a => a = R.ISO_EVT) v (if c then v.set R.ISO_EVT_LANE_SUBST 1 else v) :=
    .ite (.set _ _ _ rfl) (.refl _ _)
  .ite ((subst _ _).trans (.set _ _ _ rfl)) (subst _ _)

theorem State.reconfigShown_regs : OnRegs (fun a => a ∈ R.ISO_EVT :: widthRegs) s s.reconfigShown :=
  (((s.showWidths_regs _ _ _ _).mono fun _ => List.mem_cons_of_mem _).trans (.set _ _ _ (by decide))).trans
    (s.reconfigShown_stat.mono fun _ h => List.mem_cons.mpr (.inl h))

theorem State.reconfigShown_state : s.reconfigShown.get R.ISO_STAT_STATE = 2 := by
  rw [s.reconfigShown_stat.get (by decide)]
  exact State.get_set_self _ _ (by decide)

theorem State.reconfigShown_width : s.reconfigShown.get R.ISO_STAT_FH_WIDTH = s.afterFH.1 % 2 ^ 5 := by
  rw [s.reconfigShown_stat.get (by decide), State.get_set_apart _ _ (by decide), State.showWidths_fh]

theorem State.reconfigShown_used : s.reconfigShown.get R.ISO_LANES_USED_FH = s.afterFH.2.1 % 2 ^ 16 := by
  rw [s.reconfigShown_stat.get (by decide), State.get_set_apart _ _ (by decide), State.showWidths_used]

theorem State.reconfigShown_budget : s.reconfigShown.val R.ISO_BUDGET_FH = widthBudget s.afterFH.1 := by
  rw [s.reconfigShown_stat.val (by decide), State.val_set_ne _ _ (by decide), State.showWidths_budget]

theorem State.reconfigShown_degraded : s.reconfigShown.is R.ISO_STAT_DEGRADED = decide (s.afterFH.1 = 12 ∨ s.afterHF.1 = 12) := by
  have shown := (s.reconfigShown_stat.get (by decide)).trans (State.get_set_apart (f := R.ISO_STAT_DEGRADED) _ _ (by decide))
  rw [State.is_congr _ shown, State.showWidths_degraded]

theorem State.reconfigShown_event (h : s.fellFH = true) : s.reconfigShown.get R.ISO_EVT_DEGRADED = 1 := by
  have fell : (s.fellFH || decide (s.afterHF.1 < s.get R.ISO_STAT_HF_WIDTH)) = true := by rw [h, Bool.true_or]
  simp only [State.reconfigShown, if_pos fell]
  exact State.get_set_self _ _ (by decide)
end

/-- `t` ends a reconfiguration of `s` whose registers are those of `v`. -/
structure Reconfigured (fell : Bool) (s v t : State) : Prop where
  rd : ∀ a ∈ R.ISO_EVT :: widthRegs, t.rd a = v.rd a
  shedDue : t.link.shedDue = (s.link.shedDue || fell)
  pend : t.faultPend 0x15 = true
  mem : t.mem = s.mem
  pending : t.pending = s.pending

theorem Reconfigured.get {fell : Bool} {s v t : State} (h : Reconfigured fell s v t) {f : Fld} (hf : f.addr ∈ R.ISO_EVT :: widthRegs) :
    t.get f = v.get f := congrArg (fieldOf · _ _) (h.rd _ hf)

theorem Reconfigured.val {fell : Bool} {s v t : State} (h : Reconfigured fell s v t) {a : Nat} (ha : a ∈ R.ISO_EVT :: widthRegs) :
    t.val a = v.val a := congrArg BitVec.toNat (h.rd _ ha)

theorem reconfigured_of_steps {s v t : State} {fell : Bool} (shown : OnRegs (fun a => a ∈ R.ISO_EVT :: widthRegs) s v)
    (raised : Raised 0x15 (v.reconfigHeld fell) t) : Reconfigured fell s v t := by
  obtain ⟨told, pend⟩ := raised
  have apart : ∀ a ∈ R.ISO_EVT :: widthRegs, ¬ (a ∈ reportRegs ∨ a = R.FLT_CNT 0x15 ∨ a = R.FLT_PEND (0x15 / 32)) := by decide
  refine ⟨fun a ha => told.rd (apart a ha), ?_, pend, told.mem.trans shown.mem, told.pending.trans shown.pending⟩
  rw [told.link, ← shown.link]
  rfl

/-- A direction of 16 lanes that lost one in use runs the lowest 12 good lanes. -/
theorem reconfigured_16 {good used : Nat} (h : used &&& (65535 ^^^ good) ≠ 0) : reconfigured 16 good used = (12, usedLanes good 12, false) := by
  rw [reconfigured, if_neg h, if_pos rfl]

theorem reconfigured_same {w good used : Nat} (h : used &&& (65535 ^^^ good) = 0) : reconfigured w good used = (w, used, false) := if_pos h

/-- A link of 16 lanes falls to width 12. -/
theorem Reconfigured.fell {s t : State} (h : Reconfigured s.fellFH s s.reconfigShown t) (wide : s.get R.ISO_STAT_FH_WIDTH = 16)
    (lost : s.get R.ISO_LANES_USED_FH &&& (65535 ^^^ s.get R.ISO_LANES_GOOD_FH) ≠ 0) :
    t.get R.ISO_STAT_STATE = 2 ∧ t.get R.ISO_STAT_FH_WIDTH = 12 ∧ t.get R.ISO_LANES_USED_FH = usedLanes (s.get R.ISO_LANES_GOOD_FH) 12 ∧
      t.val R.ISO_BUDGET_FH = 375000 ∧ t.is R.ISO_STAT_DEGRADED = true ∧ t.is R.ISO_EVT_DEGRADED = true ∧ t.link.shedDue = true ∧
      t.faultPend 0x15 = true ∧ t.mem = s.mem := by
  have after : s.afterFH = (12, usedLanes (s.get R.ISO_LANES_GOOD_FH) 12, false) := by rw [State.afterFH, wide, reconfigured_16 lost]
  have fell : s.fellFH = true := by rw [State.fellFH, after, wide]; rfl
  refine ⟨?_, ?_, ?_, ?_, ?_, ?_, ?_, h.pend, h.mem⟩
  · rw [h.get (by decide), s.reconfigShown_state]
  · rw [h.get (by decide), s.reconfigShown_width, after]
    rfl
  · rw [h.get (by decide), s.reconfigShown_used, after, Nat.mod_eq_of_lt (usedLanes_lt _ _)]
  · rw [h.val (by decide), s.reconfigShown_budget, after]
    rfl
  · rw [State.is_congr _ (h.get (by decide)), s.reconfigShown_degraded, after]
    exact decide_eq_true (.inl rfl)
  · rw [State.is_iff, h.get (by decide), s.reconfigShown_event fell]
  · rw [h.shedDue, fell, Bool.or_true]

/-- A direction that lost no lane in use runs as before. -/
theorem Reconfigured.same {s t : State} (h : Reconfigured s.fellFH s s.reconfigShown t)
    (same : s.get R.ISO_LANES_USED_FH &&& (65535 ^^^ s.get R.ISO_LANES_GOOD_FH) = 0) :
    t.get R.ISO_STAT_STATE = 2 ∧ t.get R.ISO_STAT_FH_WIDTH = s.get R.ISO_STAT_FH_WIDTH ∧
      t.get R.ISO_LANES_USED_FH = s.get R.ISO_LANES_USED_FH ∧ t.link.shedDue = s.link.shedDue ∧ t.mem = s.mem := by
  have after : s.afterFH = (s.get R.ISO_STAT_FH_WIDTH, s.get R.ISO_LANES_USED_FH, false) := reconfigured_same same
  have fell : s.fellFH = false := by rw [State.fellFH, after]; exact decide_eq_false (Nat.lt_irrefl _)
  refine ⟨?_, ?_, ?_, ?_, h.mem⟩
  · rw [h.get (by decide), s.reconfigShown_state]
  · rw [h.get (by decide), s.reconfigShown_width, after]
    exact Nat.mod_eq_of_lt (s.get_lt R.ISO_STAT_FH_WIDTH)
  · rw [h.get (by decide), s.reconfigShown_used, after]
    exact Nat.mod_eq_of_lt (s.get_lt R.ISO_LANES_USED_FH)
  · rw [h.shedDue, fell, Bool.or_false]

theorem State.doReconfigDone_reconfigured {s : State} (h : s.get R.ISO_STAT_STATE = 3) :
    Reconfigured s.fellFH s s.reconfigShown s.doReconfigDone := by
  rw [State.doReconfigDone_eq h]
  exact reconfigured_of_steps s.reconfigShown_regs (State.hostFault_raised _ 0 false (by decide))

/-! ### Shedding (R27) -/

/-- Streams are shed beside those that are. -/
theorem State.shedUntil_adds (l : List (Nat × Nat)) :
    ∀ s : State, ∃ more, s.shedUntil l = { s with link := { s.link with shed := more ++ s.link.shed } } := by
  induction l with
  | nil => exact fun s => ⟨[], rfl⟩
  | cons k l ih =>
    intro s
    rw [State.shedUntil]
    split
    · exact ⟨[], rfl⟩
    · split
      · exact ih s
      · obtain ⟨more, h⟩ := ih { s with link := { s.link with shed := k :: s.link.shed } }
        exact ⟨more ++ [k], by rw [h, List.append_assoc, List.singleton_append]⟩

theorem State.shedUntil_of_fits {s : State} (h : s.fhLoad s.mode ≤ s.fhBudget) : ∀ l, s.shedUntil l = s
  | [] => rfl
  | _ :: _ => if_pos h

/-- Shedding is no longer due. -/
def State.shedBegun (s : State) : State := { s with link := { s.link with shedDue := false } }

section
variable {s : State} (due : s.link.shedDue = true) (boundary : s.time.fUnit = 0)
include due boundary

/-- What is shed is told by one Ledger entry. -/
theorem State.doShed_reported : Reported (s.shedBegun.shedUntil shedOrder) s.doShed := by
  have now : (s.link.shedDue && s.time.fUnit == 0) = true := by rw [due, boundary]; rfl
  rw [State.doShed, if_pos now]
  exact .ite (.refl _ _) (Reported.of_append (State.ledgerH_host _ _ _ _ _))

theorem State.doShed_of_fits (fits : s.fhLoad s.mode ≤ s.fhBudget) : s.doShed = s.shedBegun := by
  have now : (s.link.shedDue && s.time.fUnit == 0) = true := by rw [due, boundary]; rfl
  rw [State.doShed, if_pos now]
  extract_lets _ s0 s1 new mask
  have same : s1 = s.shedBegun := State.shedUntil_of_fits (s := s.shedBegun) fits shedOrder
  have nothing : new = [] := by simp [new, same, State.shedBegun]
  rw [if_pos (List.isEmpty_iff.mpr nothing), same]
end

/-! ### Generators at rest -/

/-- Generator `g` goes to its rest value. -/
def State.genRest (s : State) (g : Nat) : State := s.setGen g { s.gen g with rest := true }

theorem State.gen_setGen_self (s : State) {g : Nat} (x : GenSt) (h : g < 48) : (s.setGen g x).gen g = x := by
  simp [State.gen, State.setGen, Vector.getD, h]

theorem State.gen_setGen_ne (s : State) {k g : Nat} (x : GenSt) (h : k ≠ g) : (s.setGen k x).gen g = s.gen g := by
  simp [State.gen, State.setGen, Vector.getD, Array.getD_eq_getD_getElem?, Array.getElem?_setIfInBounds_ne h]

theorem State.genRest_self (s : State) {g : Nat} (h : g < 48) : ((s.genRest g).gen g).rest = true := by
  rw [State.genRest, State.gen_setGen_self _ _ h]

theorem State.genRest_keeps (s : State) (k : Nat) {g : Nat} (hg : g < 48) (h : (s.gen g).rest = true) : ((s.genRest k).gen g).rest = true := by
  by_cases hk : k = g
  · exact hk ▸ s.genRest_self (hk ▸ hg)
  · rw [State.genRest, State.gen_setGen_ne _ _ hk, h]

theorem State.foldl_genRest_keeps {g : Nat} (hg : g < 48) (l : List Nat) :
    ∀ s : State, (s.gen g).rest = true → ((l.foldl State.genRest s).gen g).rest = true := by
  induction l with
  | nil => exact fun _ h => h
  | cons k l ih => exact fun s h => ih _ (s.genRest_keeps k hg h)

theorem State.foldl_genRest {g : Nat} (hg : g < 48) (l : List Nat) : ∀ s : State, g ∈ l → ((l.foldl State.genRest s).gen g).rest = true := by
  induction l with
  | nil => exact fun _ h => absurd h List.not_mem_nil
  | cons k l ih =>
    intro s h
    rcases List.mem_cons.mp h with rfl | h
    · exact State.foldl_genRest_keeps hg l _ (s.genRest_self hg)
    · exact ih _ h

theorem State.foldl_genRest_gens (l : List Nat) : ∀ s : State, ∃ v, l.foldl State.genRest s = { s with gens := v } := by
  induction l with
  | nil => exact fun s => ⟨_, rfl⟩
  | cons k l ih =>
    intro s
    obtain ⟨v, h⟩ := ih (s.genRest k)
    exact ⟨v, h⟩

end Sys2Proof.Machine
end

section
/-! PROOFS. What the sequencer's stop leaves unchanged, the expiry of the link hold, and O36. -/

namespace Sys2Proof.Machine

/-! ### The sequencer's stop

Pins, the sequencer and their reports leave the link hold, the generators and acquisition memory as they are. -/

section
variable (s : State)

theorem State.sendFH_carried (ty vc t64 : Nat) (pl : List Byte) (extra drop : Nat) : Carried s (s.sendFH ty vc t64 pl extra drop) :=
  .ite ⟨rfl, rfl, rfl, rfl, rfl, rfl, rfl, rfl, rfl⟩ ⟨rfl, rfl, rfl, rfl, rfl, rfl, rfl, rfl, rfl⟩

theorem State.setPinRt_carried (p : Nat) (r : PinRt) : Carried s (s.setPinRt p r) := ⟨rfl, rfl, rfl, rfl, rfl, rfl, rfl, rfl, rfl⟩

theorem State.setSeq_carried (q : SeqSt) : Carried s (s.setSeq q) := ⟨rfl, rfl, rfl, rfl, rfl, rfl, rfl, rfl, rfl⟩

theorem State.driverOff_carried (p : Nat) : Carried s (s.driverOff p) := by
  have off : Carried s (if s.is (R.PIN_STAT_DRV_ON p) then s.set (R.PIN_STAT_DRV_ON p) 0 else s) := .ite (.set _ _ _) (.refl s)
  exact off.trans (State.setPinRt_carried _ _ _)

theorem State.enabledOff_carried : Carried s s.enabledOff := by
  unfold State.enabledOff
  refine Carried.foldl ?_ _ s
  exact fun t x => t.driverOff_carried x.1

theorem State.pinStop_carried (p stop : Nat) : Carried s (s.pinStop p stop) := by
  unfold State.pinStop
  extract_lets s1
  have idle : Carried s s1 := (s.driverOff_carried p).trans (.set _ _ _)
  exact (idle.trans (s1.setPinRt_carried p _)).trans (.of_host (State.stopEntry_host _ _ _ _ _ _))

theorem State.pinSettle_carried (t : Nat) : Carried s (s.pinSettle t) := by
  unfold State.pinSettle
  split
  · refine Carried.foldl ?_ _ s
    exact fun t x => t.pinStop_carried x.1 _
  · exact .refl s

theorem State.seqEnterHalt_carried (cause : Nat) : Carried s (s.seqEnterHalt cause) :=
  (((Carried.set s R.SEQ_STAT_STATE seqHalted).trans (.put _ R.SEQ_HALT_CAUSE cause)).trans (.set _ R.SEQ_EVT_HALTED 1)).trans
    (State.sendFH_carried _ _ _ _ _ _ _)

theorem State.seqArrive_carried (st cause : Nat) : Carried s (s.seqArrive st cause) := by
  unfold State.seqArrive
  split
  · exact ((s.setSeq_carried _).trans (.set _ _ _)).trans (.set _ _ _)
  · extract_lets a s1 s2 wasSeq q
    have off : Carried s s1 := .ite s.enabledOff_carried (.refl s)
    have shown : Carried s1 s2 := ((Carried.put s1 R.SEQ_VADDR_LO _).trans (.put _ (R.SEQ_VADDR_LO + 4) _)).trans (.set _ R.SEQ_STAT_OVERDRAFT 0)
    exact ((off.trans shown).trans (s2.setSeq_carried q)).trans (State.seqEnterHalt_carried _ cause)

theorem State.seqSettle_carried : Carried s s.seqSettle := by
  unfold State.seqSettle
  extract_lets ran s1 wait s2
  have h1 : Carried s s1 := .ite ((s.pinSettle_carried _).trans (.set _ _ _)) (s.pinSettle_carried _)
  have h2 : Carried s s2 := h1.trans (.set _ _ _)
  split
  · exact .ite (h2.trans (s2.seqArrive_carried _ _)) h2
  · exact h2

theorem State.seqEnd_carried (st cause : Nat) : Carried s (s.seqEnd st cause) := (s.setSeq_carried _).trans (State.seqSettle_carried _)
end

/-! ### The expiry of the link hold (R29, R433) -/

/-- The link hold has expired: its timer is off. -/
def State.holdLapsed (s : State) : State := { s with link := { s.link with hold := none, holdExpired := true } }

/-- Every driver is off and every generator at rest. -/
def State.drivesRest (s : State) : State := (List.range 48).foldl State.genRest s.driversOff

/-- The sequencer at the expiry: a request where custom code runs, a halt where vectors do. -/
def State.seqHeld (s : State) : State :=
  if s.is R.SEQ_STAT_CUST_RUN then ({ s with seq := { s.seq with svc := s.seq.svc ++ [(s.fU, SvcReq.linkHold)] } }).set R.SEQ_STAT_SVC_PENDING 1
  else if s.seqState = seqRunning ∨ s.seqState = seqPaused then s.seqEnd seqHalted 0x10
  else s

theorem State.doLinkHoldExpiry_eq {s : State} {a : Nat} (hold : s.link.hold = some a) (down : s.link.fUp = false) (due : a ≤ s.fU) :
    s.doLinkHoldExpiry = s.holdLapsed.drivesRest.seqHeld.inhibitOn .linkHold := by
  have now : (!s.link.fUp && decide (a ≤ s.fU)) = true := by rw [down, decide_eq_true due]; rfl
  rw [State.doLinkHoldExpiry, hold]
  exact if_pos now

theorem State.seqHeld_carried (s : State) : Carried s s.seqHeld := by
  unfold State.seqHeld
  refine .ite ((Carried.trans ?_ (.set _ _ _))) (.ite (s.seqEnd_carried _ _) (.refl s))
  exact ⟨rfl, rfl, rfl, rfl, rfl, rfl, rfl, rfl, rfl⟩

theorem State.drivesRest_gen (s : State) {g : Nat} (h : g < 48) : (s.drivesRest.gen g).rest = true :=
  State.foldl_genRest h _ _ (List.mem_range.mpr h)

/-- Drivers and generators change no part of the link, of memory or of the queue. -/
theorem State.drivesRest_link (s : State) : s.drivesRest.link = s.link ∧ s.drivesRest.mem = s.mem ∧ s.drivesRest.pending = s.pending := by
  obtain ⟨v, h⟩ := State.foldl_genRest_gens (List.range 48) s.driversOff
  rw [State.drivesRest, h]
  exact ⟨rfl, rfl, rfl⟩

/-- The inhibit shows its cause and is told. -/
structure InhibitedBy (f : Fld) (s t : State) : Prop where
  inh : t.get R.SYS_DRIVE_INH_INH = 1
  cause : t.get f = 1
  carried : Carried s t

theorem State.inhibitOn_linkHold (s : State) : InhibitedBy R.SYS_DRIVE_INH_LINK_HOLD s (s.inhibitOn .linkHold) := by
  unfold State.inhibitOn
  extract_lets s1
  have held : s1.get R.SYS_DRIVE_INH_LINK_HOLD = 1 := State.get_set_self _ _ (by decide)
  have carried : Carried s s1 := .set s _ _
  split
  · next on => exact ⟨(s1.is_iff _).mp on, held, carried⟩
  · let t := (s1.set R.SYS_DRIVE_INH_INH 1).set R.SYS_EVT_INH_CHANGE 1
    have told (data : List Byte) := t.ledgerH_host 0x00 0x80FF 0 data
    have inh : t.get R.SYS_DRIVE_INH_INH = 1 := (State.get_set_apart _ _ (by decide)).trans (State.get_set_self _ _ (by decide))
    have cause : t.get R.SYS_DRIVE_INH_LINK_HOLD = 1 := (State.get_set_apart _ _ (by decide)).trans ((State.get_set_apart _ _ (by decide)).trans held)
    refine ⟨?_, ?_, carried.trans (((Carried.set s1 _ _).trans (.set _ _ _)).trans (.of_host (told _)))⟩
    · exact ((Reported.of_append (told _)).get (by decide)).trans inh
    · exact ((Reported.of_append (told _)).get (by decide)).trans cause

/-- What the steps of an expiry come to: generators at rest in `v`, the inhibit on in `t`. -/
theorem holdExpired_of_steps {s v r t : State} (at_rest : ∀ g < 48, (v.gen g).rest = true)
    (same : v.link = s.holdLapsed.link ∧ v.mem = s.holdLapsed.mem ∧ v.pending = s.holdLapsed.pending)
    (carried : Carried v r) (inhibited : InhibitedBy R.SYS_DRIVE_INH_LINK_HOLD r t) :
    t.pending = s.pending ∧ t.link.hold = none ∧ t.link.holdExpired = true ∧ t.is R.SYS_DRIVE_INH_INH = true ∧
      t.is R.SYS_DRIVE_INH_LINK_HOLD = true ∧ (∀ g : Fin 48, (t.gen g).rest = true) ∧ t.mem = s.mem := by
  obtain ⟨link, mem, pending⟩ := same
  obtain ⟨inh, cause, after⟩ := inhibited
  have all := carried.trans after
  refine ⟨all.pending.trans pending, ?_, ?_, (t.is_iff _).mpr inh, (t.is_iff _).mpr cause, fun g => ?_, all.mem.trans mem⟩
  · rw [all.hold, link]
    rfl
  · rw [all.expired, link]
    rfl
  · rw [State.gen, all.gens]
    exact at_rest g g.isLt

/-! ### The statement -/

/-- Settles O36: each command is rewritten to its steps, whose lemmas state what they leave (the expiry halts and inhibits as log 44 says). -/
theorem lanesAndHold : Obligations.LanesAndHold := by
  refine ⟨fun s u k up spare => ?_, fun s u k up used enough => ?_, fun s u three wide lost => ?_, fun s u three same sameH => ?_,
    fun s due boundary fits => ?_, fun s due boundary => ?_, fun s u a hold down due => ?_⟩
  · have arm : exec (.laneFailure u true k) s = done s (((s.atH u).atF u).doLaneFailure true k) := rfl
    rw [State.doLaneFailure_spare (s := (s.atH u).atF u) up spare] at arm
    have gone := ((s.atH u).atF u).laneGone_regs k
    exact answers_of_done arm gone.pending ⟨State.laneGone_good _ _, gone.get (by decide), gone.link, gone.mem, gone.kept⟩
  · have arm : exec (.laneFailure u true k) s = done s (((s.atH u).atF u).doLaneFailure true k) := rfl
    rw [State.doLaneFailure_held (s := (s.atH u).atF u) up used enough] at arm
    obtain ⟨queue, held⟩ := laneHeld_of_gone (((s.atH u).atF u).laneGone_regs k) (State.laneGone_good _ _)
    exact answers_of_done arm queue held
  · have arm : exec (.reconfigDone u) s = done s ((s.atH u).atF u).doReconfigDone := rfl
    have ended := State.doReconfigDone_reconfigured (s := (s.atH u).atF u) three
    exact answers_of_done arm ended.pending (ended.fell wide lost)
  · have arm : exec (.reconfigDone u) s = done s ((s.atH u).atF u).doReconfigDone := rfl
    have ended := State.doReconfigDone_reconfigured (s := (s.atH u).atF u) three
    exact answers_of_done arm ended.pending (ended.same same)
  · have arm : exec .shed s = done s s.doShed := rfl
    rw [State.doShed_of_fits due boundary fits] at arm
    exact answers_of_done arm rfl ⟨rfl, rfl, rfl, rfl⟩
  · have told := State.doShed_reported due boundary
    obtain ⟨more, shed⟩ := State.shedUntil_adds shedOrder s.shedBegun
    rw [shed] at told
    refine answers_of_done (t := s.doShed) rfl told.pending ⟨?_, fun k hk => ?_, told.mem⟩
    · rw [told.link]
      rfl
    · rw [told.link]
      exact List.mem_append_right more hk
  · have arm : exec (.linkHoldExpiry u) s = done s ((s.atH u).atF u).doLinkHoldExpiry := rfl
    rw [State.doLinkHoldExpiry_eq (s := (s.atH u).atF u) hold down due] at arm
    obtain ⟨queue, effects⟩ := holdExpired_of_steps (fun g h => State.drivesRest_gen _ h) (State.drivesRest_link _) (State.seqHeld_carried _)
      (State.inhibitOn_linkHold _)
    exact answers_of_done arm queue effects

end Sys2Proof.Machine
end

section
/-! PROOFS. Clock sources, beacons, the step of the field half, health and overruns (O39). -/

namespace Sys2Proof.Machine

theorem State.ifOn_of_powered {s : State} {a : Nat} (f : State → State) (h : s.powered a = true) : s.ifOn a f = f s := if_pos h

theorem State.is_of_get {s : State} {f : Fld} {n : Nat} (h : s.get f = n) : s.is f = (n == 1) := congrArg (· == 1) h

/-! ### Clock sources (R57–R59) -/

/-- TIME_STAT shows the source, the lock and the holdover. -/
structure ClockShown (src pll hold : Nat) (t : State) : Prop where
  src : t.get R.TIME_STAT_SRC_ACTIVE = src
  pll : t.get R.TIME_STAT_PLL_LOCK = pll
  hold : t.get R.TIME_STAT_HOLDOVER = hold

/-- Another source is selected and does not run yet (the model's choice, log 24). -/
def State.clockChanged (s : State) (src : Nat) : State :=
  (s.set R.TIME_CTRL_SRC src).setAll [R.TIME_STAT_SRC_ACTIVE, R.TIME_STAT_PLL_LOCK, R.TIME_STAT_HOLDOVER] 0

/-- The registers of a lost reference. -/
def State.refGone (s : State) : State :=
  ((s.setAll [R.TIME_STAT_SRC_ACTIVE, R.TIME_STAT_PLL_LOCK] 0).set R.TIME_STAT_HOLDOVER 1).set R.TIME_EVT_REF_LOST 1

section
variable (s : State) (src : Nat)

theorem State.clockChanged_regs : OnRegs (fun a => a = R.TIME_CTRL ∨ a = R.TIME_STAT) s (s.clockChanged src) :=
  (OnRegs.set s R.TIME_CTRL_SRC src (.inl rfl)).trans (.setAll _ 0 (by decide) _)

theorem State.clockChanged_shown : ClockShown 0 0 0 (s.clockChanged src) := by
  refine ⟨?_, ?_, ?_⟩ <;> simp (disch := decide) only [State.clockChanged, State.setAll, List.foldl_cons, List.foldl_nil, State.get_set_apart] <;>
    exact State.get_set_self _ 0 (by decide)

theorem State.clockChanged_src : (s.clockChanged src).get R.TIME_CTRL_SRC = src % 2 ^ 2 := by
  have shown : OnRegs (fun a => a = R.TIME_STAT) (s.set R.TIME_CTRL_SRC src) (s.clockChanged src) := .setAll _ 0 (by decide) _
  rw [shown.get (by decide)]
  exact State.get_set_self _ _ (by decide)

theorem State.pllOn_regs : OnRegs (fun a => a = R.TIME_STAT ∨ a = R.TIME_EVT) s s.pllOn :=
  (((OnRegs.set s _ _ (.inl rfl)).trans (.set _ _ _ (.inl rfl))).trans (.set _ _ _ (.inl rfl))).trans (.set _ _ _ (.inr rfl))

theorem State.pllOn_shown : ClockShown (s.get R.TIME_CTRL_SRC) 1 0 s.pllOn := by
  refine ⟨?_, ?_, ?_⟩ <;> simp (disch := decide) only [State.pllOn, State.get_set_apart]
  · exact (State.get_set_self _ _ (by decide)).trans (Nat.mod_eq_of_lt (s.get_lt R.TIME_CTRL_SRC))
  · exact State.get_set_self _ 1 (by decide)
  · exact State.get_set_self _ 0 (by decide)

theorem State.pllOn_event : s.pllOn.get R.TIME_EVT_REF_LOCK = 1 := State.get_set_self _ _ (by decide)

theorem State.refGone_regs : OnRegs (fun a => a = R.TIME_STAT ∨ a = R.TIME_EVT) s s.refGone :=
  ((OnRegs.setAll _ 0 (by decide) s).trans (.set _ _ _ (.inl rfl))).trans (.set _ _ _ (.inr rfl))

theorem State.refGone_shown : ClockShown 0 0 1 s.refGone := by
  refine ⟨?_, ?_, ?_⟩ <;> simp (disch := decide) only [State.refGone, State.setAll, List.foldl_cons, List.foldl_nil, State.get_set_apart] <;>
    exact State.get_set_self _ _ (by decide)

theorem State.refGone_event : s.refGone.get R.TIME_EVT_REF_LOST = 1 := State.get_set_self _ _ (by decide)
end

/-- A reference that is lost leaves HOLDOVER with its source pending; `v` shows it and `t` has reported it. -/
theorem refLost_of_steps {s v t : State} (regs : OnRegs (fun a => a = R.TIME_STAT ∨ a = R.TIME_EVT) s v) (shown : ClockShown 0 0 1 v)
    (event : v.get R.TIME_EVT_REF_LOST = 1) (raised : Raised 0x04 v t) :
    t.pending = s.pending ∧ t.get R.TIME_STAT_SRC_ACTIVE = 0 ∧ t.is R.TIME_STAT_PLL_LOCK = false ∧ t.is R.TIME_STAT_HOLDOVER = true ∧
      t.is R.TIME_EVT_REF_LOST = true ∧ t.faultPend 0x04 = true ∧ t.mem = s.mem := by
  obtain ⟨told, pend⟩ := raised
  obtain ⟨src, pll, hold⟩ := shown
  exact ⟨told.pending.trans regs.pending, (told.get (by decide)).trans src, State.is_of_get ((told.get (by decide)).trans pll),
    State.is_of_get ((told.get (by decide)).trans hold), State.is_of_get ((told.get (by decide)).trans event), pend, told.mem.trans regs.mem⟩

/-- A command that puts the selected source on. -/
theorem answers_pllOn {c : Instr} {s : State} {u : Sub} (arm : exec c s = done s (s.atH u).pllOn) :
    Answers c s (fun t => t.get R.TIME_STAT_SRC_ACTIVE = s.get R.TIME_CTRL_SRC ∧ t.is R.TIME_STAT_PLL_LOCK = true ∧
      t.is R.TIME_STAT_HOLDOVER = false ∧ t.is R.TIME_EVT_REF_LOCK = true ∧ t.mem = s.mem ∧
      RegsKept s t (fun a => a = R.TIME_STAT ∨ a = R.TIME_EVT)) := by
  have regs := (s.atH u).pllOn_regs
  obtain ⟨src, pll, hold⟩ := (s.atH u).pllOn_shown
  exact answers_of_done arm regs.pending
    ⟨src, State.is_of_get pll, State.is_of_get hold, State.is_of_get (s.atH u).pllOn_event, regs.mem, regs.kept⟩

/-! ### Beacons (R44, R60) -/

/-- The beacon with `pl` leaves, and the host half's XM_HEALTH after it. -/
structure BeaconSent (pl : List Byte) (s t : State) : Prop where
  out : ∃ m m' : Msg, t.link.outHF = s.link.outHF ++ [m, m'] ∧ m.ty = 0x01 ∧ m.payload = pl ∧ m'.ty = 0x03
  mem : t.mem = s.mem
  pending : t.pending = s.pending
  kept : RegsKept s t (fun a => a = R.ISO_TX_BYTES_LO ∨ a = R.ISO_TX_BYTES_LO + 4)

theorem State.sendHF_beaconSent (s : State) (t64 : Nat) (pl health : List Byte) :
    BeaconSent pl s ((s.sendHF 0x01 0 t64 pl).sendHF 0x03 0 t64 health) := by
  have beacon := s.sendHF_field 0x01 0 t64 pl 0
  have after := (s.sendHF 0x01 0 t64 pl).sendHF_field 0x03 0 t64 health 0
  exact ⟨⟨_, _, List.append_assoc _ _ _, rfl, rfl, rfl⟩, rfl, rfl, fun a ha => (after.rd ha).trans (beacon.rd ha)⟩

/-- The two messages follow those that waited. -/
theorem BeaconSent.messages {pl : List Byte} {s t : State} (h : BeaconSent pl s t) :
    (t.link.outHF.drop s.link.outHF.length).map Msg.ty = [0x01, 0x03] ∧ t.link.outHF.take s.link.outHF.length = s.link.outHF ∧
      ((t.link.outHF.drop s.link.outHF.length).head?).map Msg.payload = some pl := by
  obtain ⟨m, m', out, ty, payload, ty'⟩ := h.out
  rw [out, List.drop_left, List.take_left]
  exact ⟨by rw [List.map_cons, List.map_singleton, ty, ty'], rfl, by rw [List.head?_cons, Option.map_some, payload]⟩

theorem State.doHostBeacon_sent {s : State} (unit : s.time.hUnit = 0) (tick : s.time.hTick % 100 = 0) (up : s.linkUp = true) :
    BeaconSent (timePayload 2 s.era (s.val64 R.TIME_EPOCH_LO) (s.val R.TIME_PATH)) s s.doHostBeacon := by
  rw [State.doHostBeacon, if_pos ⟨unit, tick, up⟩]
  exact s.sendHF_beaconSent _ _ _

/-! ### The step of the field half (R60) -/

/-- The field half's time is `n` units, and no step waits. -/
def State.fieldStepped (s : State) (n : Nat) : State := ({ s with time := { s.time with fStep := 0 } }).setFieldTime n

theorem fieldStep_of_told {s t : State} {n : Nat} (told : Reported ((s.fieldStepped n).set R.TIME_EVT_FIELD_STEP 1) t) :
    t.pending = s.pending ∧ t.time.fTick = n / unitsPerTick % ticksPerEra ∧ t.time.fUnit = n % unitsPerTick ∧
      t.time.fEra = n / unitsPerTick / ticksPerEra ∧ t.time.fStep = 0 ∧ t.is R.TIME_EVT_FIELD_STEP = true ∧ t.mem = s.mem := by
  have event := (told.get (by decide)).trans (State.get_set_self (s.fieldStepped n) 1 (f := R.TIME_EVT_FIELD_STEP) (by decide))
  refine ⟨told.pending, ?_, ?_, ?_, ?_, State.is_of_get event, told.mem⟩ <;> (rw [told.time]; rfl)

theorem State.doFieldStep_reported {s : State} (step : s.time.fStep ≠ 0) (unit : s.time.fUnit = 0) :
    Reported ((s.fieldStepped ((s.fU : Int) + s.time.fStep).toNat).set R.TIME_EVT_FIELD_STEP 1) s.doFieldStep := by
  rw [State.doFieldStep, if_pos ⟨step, unit⟩]
  exact .of_append (State.ledgerF_host _ _ _ _ _)

/-! ### Health (R44, R62) -/

theorem State.sendFieldFaults_nil {s : State} (h : s.fault.field = []) : s.sendFieldFaults = { s with fault := { s.fault with field := [] } } := by
  rw [State.sendFieldFaults, h]
  rfl

/-- The late plan has been told. -/
def State.lateTold (s : State) : State := { s with plan := { s.plan with late := false } }

/-- `t` comes from `s` by the field half's XM_HEALTH alone. -/
structure HealthSent (s t : State) : Prop where
  last : t.link.outFH.getLast?.map Msg.ty = some 0x03
  one : t.link.outFH.length = s.link.outFH.length + 1
  late : t.plan.late = false
  time : t.time = s.time
  regs : t.regs = s.regs
  mem : t.mem = s.mem
  pending : t.pending = s.pending

theorem State.sendFH_regs (s : State) (ty vc t64 : Nat) (pl : List Byte) (extra drop : Nat) : (s.sendFH ty vc t64 pl extra drop).regs = s.regs := by
  unfold State.sendFH
  split <;> rfl

theorem State.lateTold_sent {s : State} (t64 : Nat) (health : List Byte) (up : s.get R.ISO_STAT_STATE = 2) :
    HealthSent s (s.sendFH 0x03 0 t64 health).lateTold := by
  have sent := s.sendFH_up 0x03 0 t64 health 0 0 up
  have carried := s.sendFH_carried 0x03 0 t64 health 0 0
  refine ⟨?_, ?_, rfl, carried.time, ?_, carried.mem, carried.pending⟩
  · rw [State.lateTold, sent, List.getLast?_concat]
    rfl
  · rw [State.lateTold, sent, List.length_append, List.length_singleton]
  · exact s.sendFH_regs 0x03 0 t64 health 0 0

/-- The field half at cycle 3,968 with no raise to tell. -/
def State.healthDue (s : State) : State := { s.atF healthSub with fault := { s.fault with field := [] } }

theorem State.doHealthCompose_sent {s : State} (early : s.time.fUnit < 3968 * 256) (none : s.fault.field = []) (up : s.get R.ISO_STAT_STATE = 2) :
    HealthSent s.healthDue s.doHealthCompose := by
  rw [State.doHealthCompose, if_pos early, State.sendFieldFaults_nil (s := s.atF healthSub) none]
  exact State.lateTold_sent (s := s.healthDue) _ _ up

theorem State.healthDue_unit {s : State} (early : s.time.fUnit < 3968 * 256) : s.healthDue.time.fUnit = 3968 * 256 := Nat.max_eq_right early.le

/-! ### Overruns (R66, R68) -/

theorem pack_lt (t : T64) : t.pack < 2 ^ 64 := by
  have tick : t.tick % ticksPerEra < ticksPerEra := Nat.mod_lt _ (by decide)
  simp only [T64.pack, ticksPerEra] at tick ⊢
  omega

/-- The field half has found work of the tick before. -/
def State.overranNow (s : State) : State :=
  { s with time := { s.time with overran := true, deferring := true, overruns := (s.time.overruns + 1) % 2 ^ 64, streak := s.time.streak + 1 } }

/-- The two counters of an overrun. -/
def State.overrunCounted (s : State) : State :=
  ((s.satCount R.TIME_OVERRUN 32 1 R.TIME_EVT_SATURATED).1.satCount R.TIME_OVR_STREAK 32 1 R.TIME_EVT_SATURATED).1

/-- The result and the event of an overrun. -/
def State.overrunShown (s : State) : State := (s.replaceResult R.TIME_OVR_LAST_LO R.TIME_OVR_LAST_GEN s.fNow.pack).set R.TIME_EVT_OVERRUN 1

/-- The streak has been raised. -/
def State.streakNow (s : State) : State := ({ s with time := { s.time with streakRaised := true } }).set R.TIME_EVT_OVERRUN_STREAK 1

section
variable (s : State)

theorem State.overrunCounted_regs : OnRegs (fun a => a = R.TIME_OVERRUN ∨ a = R.TIME_OVR_STREAK ∨ a = R.TIME_EVT) s s.overrunCounted :=
  (OnRegs.satCount s (.inl rfl) (.inr (.inr rfl))).trans (.satCount _ (.inr (.inl rfl)) (.inr (.inr rfl)))

theorem State.overrunCounted_overrun : s.overrunCounted.val R.TIME_OVERRUN = min (s.val R.TIME_OVERRUN + 1) (2 ^ 32 - 1) := by
  have second : OnRegs (fun a => a = R.TIME_OVR_STREAK ∨ a = R.TIME_EVT) (s.satCount R.TIME_OVERRUN 32 1 R.TIME_EVT_SATURATED).1 s.overrunCounted :=
    .satCount _ (.inl rfl) (.inr rfl)
  rw [second.val (by decide), State.satCount_val _ _ _ _ (by decide)]

theorem State.overrunCounted_streak : s.overrunCounted.val R.TIME_OVR_STREAK = min (s.val R.TIME_OVR_STREAK + 1) (2 ^ 32 - 1) := by
  have first : OnRegs (fun a => a = R.TIME_OVERRUN ∨ a = R.TIME_EVT) s (s.satCount R.TIME_OVERRUN 32 1 R.TIME_EVT_SATURATED).1 :=
    .satCount _ (.inl rfl) (.inr rfl)
  rw [State.overrunCounted, State.satCount_val _ _ _ _ (by decide), first.val (by decide)]

theorem State.overrunCounted_event : s.overrunCounted.get R.TIME_EVT_OVERRUN_STREAK = s.get R.TIME_EVT_OVERRUN_STREAK :=
  (State.satCount_get _ _ _ _ _ _ (by decide) (by decide)).trans (s.satCount_get _ _ _ _ _ (by decide) (by decide))

theorem State.overrunShown_regs :
    OnRegs (fun a => a ∈ [R.TIME_OVR_LAST_LO, R.TIME_OVR_LAST_LO + 4, R.TIME_OVR_LAST_GEN, R.TIME_EVT]) s s.overrunShown :=
  (((OnRegs.put s _ (by decide)).trans (.put _ _ (by decide))).trans (.put _ _ (by decide))).trans (.set _ _ _ (by decide))

theorem State.overrunShown_result : s.overrunShown.val64 R.TIME_OVR_LAST_LO = s.fNow.pack := by
  have after : OnRegs (fun a => a = R.TIME_OVR_LAST_GEN ∨ a = R.TIME_EVT) (s.put64 R.TIME_OVR_LAST_LO s.fNow.pack) s.overrunShown :=
    (OnRegs.put _ _ (.inl rfl)).trans (.set _ _ _ (.inr rfl))
  rw [after.val64 (by decide) (by decide), State.val64_put64, Nat.mod_eq_of_lt (pack_lt s.fNow)]

theorem State.overrunShown_event : s.overrunShown.get R.TIME_EVT_OVERRUN = 1 := State.get_set_self _ _ (by decide)

theorem State.overrunShown_streak : s.overrunShown.get R.TIME_EVT_OVERRUN_STREAK = s.get R.TIME_EVT_OVERRUN_STREAK := by
  simp (disch := decide) only [State.overrunShown, State.replaceResult, State.put64, State.get_set_apart, State.get_put_ne]
end

/-- What an overrun leaves; the event of a streak is that of `s`. -/
structure Overran (s t : State) : Prop where
  count : t.val R.TIME_OVERRUN = min (s.val R.TIME_OVERRUN + 1) (2 ^ 32 - 1)
  streak : t.val R.TIME_OVR_STREAK = min (s.val R.TIME_OVR_STREAK + 1) (2 ^ 32 - 1)
  result : t.val64 R.TIME_OVR_LAST_LO = s.fNow.pack
  event : t.get R.TIME_EVT_OVERRUN = 1
  same : t.get R.TIME_EVT_OVERRUN_STREAK = s.get R.TIME_EVT_OVERRUN_STREAK
  time : t.time = s.overranNow.time
  mem : t.mem = s.mem
  pending : t.pending = s.pending

theorem State.overrunShown_overran (s : State) : Overran s s.overranNow.overrunCounted.overrunShown := by
  have counted := s.overranNow.overrunCounted_regs
  have shown := s.overranNow.overrunCounted.overrunShown_regs
  refine ⟨?_, ?_, ?_, State.overrunShown_event _, ?_, shown.time.trans counted.time, shown.mem.trans counted.mem, shown.pending.trans counted.pending⟩
  · exact (shown.val (by decide)).trans s.overranNow.overrunCounted_overrun
  · exact (shown.val (by decide)).trans s.overranNow.overrunCounted_streak
  · rw [State.overrunShown_result, State.fNow, counted.time]
    rfl
  · exact (State.overrunShown_streak _).trans s.overranNow.overrunCounted_event

theorem Overran.reported {s v t : State} (h : Overran s v) (told : Reported v t) : Overran s t := by
  obtain ⟨count, streak, result, event, same, time, mem, pending⟩ := h
  refine ⟨(told.val (by decide)).trans count, (told.val (by decide)).trans streak, ?_, (told.get (by decide)).trans event,
    (told.get (by decide)).trans same, told.time.trans time, told.mem.trans mem, told.pending.trans pending⟩
  rw [← result, State.val64, State.val64, told.val (by decide), told.val (by decide)]

/-- The overrun as reported by source 0x41. -/
def State.overrunTold (s : State) : State := s.overranNow.overrunCounted.overrunShown.fieldFault 0x41 0

theorem State.overrunTold_overran (s : State) : Overran s s.overrunTold :=
  s.overrunShown_overran.reported (State.fieldFault_reported _ 0 false (by decide))

theorem State.doTickOverrun_one {s : State} (unit : s.time.fUnit = 0) (first : s.time.overran = false) (few : s.time.streak < 15) :
    s.doTickOverrun = s.overrunTold := by
  rw [State.doTickOverrun, if_pos ⟨unit, by rw [first]; rfl⟩]
  exact if_neg fun h => absurd h.1 (by omega)

theorem State.doTickOverrun_streak {s : State} (unit : s.time.fUnit = 0) (first : s.time.overran = false) (many : 15 ≤ s.time.streak)
    (unraised : s.time.streakRaised = false) : s.doTickOverrun = s.overrunTold.streakNow.fieldFault 0x42 0 := by
  rw [State.doTickOverrun, if_pos ⟨unit, by rw [first]; rfl⟩]
  extract_lets streak was s1 s2 s3
  have told : s3 = s.overrunTold := rfl
  clear_value s3
  subst told
  exact if_pos ⟨Nat.succ_le_succ many, congrArg (!·) unraised⟩

/-- The sixteenth overrun in a row: `v` is the overrun, `t` has reported the streak. -/
theorem streak_of_steps {s v t : State} (first : Overran s v) (told : Reported v.streakNow t) :
    t.pending = s.pending ∧ t.val R.TIME_OVERRUN = min (s.val R.TIME_OVERRUN + 1) (2 ^ 32 - 1) ∧ t.time.streakRaised = true ∧
      t.is R.TIME_EVT_OVERRUN_STREAK = true ∧ t.mem = s.mem := by
  have event : v.streakNow.get R.TIME_EVT_OVERRUN_STREAK = 1 := State.get_set_self _ _ (by decide)
  refine ⟨told.pending.trans first.pending, ?_, ?_, State.is_of_get ((told.get (by decide)).trans event), told.mem.trans first.mem⟩
  · rw [told.val (by decide), State.streakNow, State.val_set_ne _ _ (by decide)]
    exact first.count
  · rw [told.time]
    rfl

/-! ### The statement -/

/-- Settles O39: each command is rewritten to its steps, whose lemmas state what they leave. What TIME_STAT shows after a change of source is the model's
choice (log 24), as are the contents of XM_HEALTH and the Ledger entry of the field half's step (log 23). -/
theorem clockSourcesAndBeacons : Obligations.ClockSourcesAndBeacons := by
  refine ⟨fun s u src on other => ?_, fun s u src on same => ?_, fun s u on sel unlocked run => ?_, fun s u on sel run => ?_,
    fun s u on hold => ?_, fun s u on => ?_, fun s unit tick up => ?_, fun s step unit => ?_, fun s on early none up => ?_,
    fun s on unit first few => ?_, fun s on unit first many unraised => ?_⟩
  · have arm : exec (.clockSourceSelect u src) s = done s ((s.atH u).ifOn R.TIME_CTRL fun t => t.doClockSelect src) := rfl
    rw [State.ifOn_of_powered (s := s.atH u) _ on, State.doClockSelect, if_neg (c := (s.atH u).get R.TIME_CTRL_SRC = src.val) other] at arm
    have regs := (s.atH u).clockChanged_regs src
    obtain ⟨active, pll, hold⟩ := (s.atH u).clockChanged_shown src
    have shown : ((s.atH u).clockChanged src).get R.TIME_CTRL_SRC = src.val := ((s.atH u).clockChanged_src src).trans (Nat.mod_eq_of_lt src.isLt)
    exact answers_of_done arm regs.pending ⟨shown, active, State.is_of_get pll, State.is_of_get hold, regs.mem, regs.kept⟩
  · have arm : exec (.clockSourceSelect u src) s = done s ((s.atH u).ifOn R.TIME_CTRL fun t => t.doClockSelect src) := rfl
    rw [State.ifOn_of_powered (s := s.atH u) _ on, State.doClockSelect, if_pos (c := (s.atH u).get R.TIME_CTRL_SRC = src.val) same] at arm
    exact answers_of_done arm rfl ⟨rfl, rfl⟩
  · have arm : exec (.pllLock u) s = done s ((s.atH u).ifOn R.TIME_CTRL State.doPllLock) := rfl
    have lock : (s.atH u).doPllLock = (s.atH u).pllOn := if_pos ⟨sel, congrArg (!·) unlocked, congrArg (!·) run⟩
    rw [State.ifOn_of_powered (s := s.atH u) _ on, lock] at arm
    exact answers_pllOn arm
  · have arm : exec (.refLost u) s = done s ((s.atH u).ifOn R.TIME_CTRL State.doRefLost) := rfl
    have lost : (s.atH u).doRefLost = (s.atH u).refGone.hostFault 0x04 0 := if_pos ⟨sel, congrArg (!·) run⟩
    rw [State.ifOn_of_powered (s := s.atH u) _ on, lost] at arm
    obtain ⟨queue, effects⟩ := refLost_of_steps (s.atH u).refGone_regs (s.atH u).refGone_shown (s.atH u).refGone_event
      (State.hostFault_raised _ 0 false (by decide))
    exact answers_of_done arm queue effects
  · have arm : exec (.holdoverReturn u) s = done s ((s.atH u).ifOn R.TIME_CTRL State.doHoldoverReturn) := rfl
    have back : (s.atH u).doHoldoverReturn = (s.atH u).pllOn := if_pos hold
    rw [State.ifOn_of_powered (s := s.atH u) _ on, back] at arm
    exact answers_pllOn arm
  · have arm : exec (.timeClrStats u) s = done s ((s.atH u).ifOn R.TIME_CTRL fun t => t.put R.TIME_OVERRUN 0) := rfl
    rw [State.ifOn_of_powered (s := s.atH u) _ on] at arm
    exact answers_of_done arm rfl ⟨State.val_put_self _ 0, rfl, fun a ha => State.rd_put_ne _ _ ha⟩
  · have arm : exec .hostBeaconSend s = done s s.doHostBeacon := rfl
    have sent := State.doHostBeacon_sent unit tick up
    obtain ⟨types, before, payload⟩ := sent.messages
    exact answers_of_done arm sent.pending ⟨types, before, payload, sent.mem, sent.kept⟩
  · have told := State.doFieldStep_reported step unit
    obtain ⟨queue, effects⟩ := fieldStep_of_told told
    exact answers_of_done rfl queue effects
  · have arm : exec .healthCompose s = done s (s.ifOn R.FCTL_STAT State.doHealthCompose) := rfl
    rw [State.ifOn_of_powered _ on] at arm
    obtain ⟨last, one, late, time, regs, mem, queue⟩ := State.doHealthCompose_sent early none up
    exact answers_of_done arm queue ⟨last, one, late, (congrArg TimeSt.fUnit time).trans (State.healthDue_unit early), regs, mem⟩
  · have arm : exec .tickOverrun s = done s (s.ifOn R.FCTL_STAT State.doTickOverrun) := rfl
    rw [State.ifOn_of_powered _ on, State.doTickOverrun_one unit first few] at arm
    have overrun := s.overrunTold_overran
    refine answers_of_done arm overrun.pending ⟨overrun.count, overrun.streak, overrun.result, ?_, ?_, ?_, State.is_of_get overrun.event,
      State.is_congr _ overrun.same, overrun.mem⟩ <;> (rw [overrun.time]; rfl)
  · have arm : exec .tickOverrun s = done s (s.ifOn R.FCTL_STAT State.doTickOverrun) := rfl
    rw [State.ifOn_of_powered _ on, State.doTickOverrun_streak unit first many unraised] at arm
    obtain ⟨queue, effects⟩ := streak_of_steps s.overrunTold_overran (s.overrunTold.streakNow.fieldFault_reported (id := 0x42) 0 false (by decide))
    exact answers_of_done arm queue effects

end Sys2Proof.Machine
end

section
/-! PROOFS. What keeps the canonical forms and the time (R61, R69, R71): registers, messages, events, the Ledger, the fault collector and the planner. -/

namespace Sys2Proof.Machine

/-- Both ticks and both instants lie inside their fields (R61, R69, R71). -/
def TimeSt.Inv (x : TimeSt) : Prop :=
  x.hTick < ticksPerEra ∧ x.hUnit < unitsPerTick ∧ x.fTick < ticksPerEra ∧ x.fUnit < unitsPerTick

theorem ticksPerEra_pos : 0 < ticksPerEra := by decide

theorem unitsPerTick_pos : 0 < unitsPerTick := by decide

/-- `t` keeps the invariant of `s` and, where `m` holds, its acquisition memory. -/
structure Keeps (m : Prop) (s t : State) : Prop where
  inv : s.Inv → t.Inv
  memory : m → t.mem = s.mem

/-- The meaning of a command answers a next state that keeps what `Keeps m s` says. -/
def Ends (m : Prop) (s : State) (o : Host.Outcome State Fault Refusal) : Prop := ∃ t, o = .next t ∧ Keeps m s t

namespace Keeps
variable {m : Prop} {s t v : State}

theorem refl (m : Prop) (s : State) : Keeps m s s := ⟨id, fun _ => rfl⟩

theorem ite {c : Prop} [Decidable c] (h : Keeps m s t) (h' : Keeps m s v) : Keeps m s (if c then t else v) := by
  split
  · exact h
  · exact h'

/-- A fold whose accumulator carries the state beside other data. -/
theorem foldlOf {α β : Type} {p : β → State} {f : β → α → β} {b : β} {l : List α} (h : Keeps m s (p b))
    (hf : ∀ {b x}, Keeps m s (p b) → Keeps m s (p (f b x))) : Keeps m s (p (l.foldl f b)) := by
  induction l generalizing b with
  | nil => exact h
  | cons x l ih => exact ih (hf h)

theorem foldl {α : Type} {f : State → α → State} {l : List α} (h : Keeps m s t) (hf : ∀ {t x}, Keeps m s t → Keeps m s (f t x)) :
    Keeps m s (l.foldl f t) := by
  induction l generalizing t with
  | nil => exact h
  | cons x l ih => exact ih (hf h)

/-- A change of the register file alone. -/
theorem regs {r : List (Nat × Word)} (h : Keeps m s t) (hr : regsWf t.regs = true → regsWf r = true) : Keeps m s { t with regs := r } :=
  ⟨fun hs => ⟨hr (h.inv hs).1, (h.inv hs).2⟩, h.memory⟩

/-- A change of acquisition memory alone. -/
theorem mem {x : List Host.Cell} (h : Keeps False s t) (hx : Memory.wf t.mem = true → Memory.wf x = true) :
    Keeps False s { t with mem := x } :=
  ⟨fun hs => let ⟨hr, hm, ht⟩ := h.inv hs; ⟨hr, hx hm, ht⟩, False.elim⟩

/-- A change of the time alone. -/
theorem time {x : TimeSt} (h : Keeps m s t) (hx : t.time.Inv → x.Inv) : Keeps m s { t with time := x } :=
  ⟨fun hs => let ⟨hr, hm, ht⟩ := h.inv hs; ⟨hr, hm, hx ht⟩, h.memory⟩

/-- A change of the time that leaves the ticks and the instants. -/
theorem clock {x : TimeSt} (h : Keeps m s t) (hT : x.hTick = t.time.hTick := by rfl) (hU : x.hUnit = t.time.hUnit := by rfl)
    (fT : x.fTick = t.time.fTick := by rfl) (fU : x.fUnit = t.time.fUnit := by rfl) : Keeps m s { t with time := x } :=
  h.time fun hx => by rwa [TimeSt.Inv, hT, hU, fT, fU]

theorem io {x : IoSt} (h : Keeps m s t) : Keeps m s { t with io := x } := ⟨h.inv, h.memory⟩
theorem plan {x : PlanSt} (h : Keeps m s t) : Keeps m s { t with plan := x } := ⟨h.inv, h.memory⟩
theorem link {x : LinkSt} (h : Keeps m s t) : Keeps m s { t with link := x } := ⟨h.inv, h.memory⟩
theorem clr {x : ClrSt} (h : Keeps m s t) : Keeps m s { t with clr := x } := ⟨h.inv, h.memory⟩
theorem ledger {x : LedgerSt} (h : Keeps m s t) : Keeps m s { t with ledger := x } := ⟨h.inv, h.memory⟩
theorem fault {x : FaultSt} (h : Keeps m s t) : Keeps m s { t with fault := x } := ⟨h.inv, h.memory⟩
theorem seq {x : SeqSt} (h : Keeps m s t) : Keeps m s { t with seq := x } := ⟨h.inv, h.memory⟩
theorem hdma {x : HdmaSt} (h : Keeps m s t) : Keeps m s { t with hdma := x } := ⟨h.inv, h.memory⟩
theorem gens {x : Vector GenSt 48} (h : Keeps m s t) : Keeps m s { t with gens := x } := ⟨h.inv, h.memory⟩
theorem lanes {x : Vector LaneSt 48} (h : Keeps m s t) : Keeps m s { t with lanes := x } := ⟨h.inv, h.memory⟩
theorem reds {x : Vector RedSt 48} (h : Keeps m s t) : Keeps m s { t with reds := x } := ⟨h.inv, h.memory⟩
theorem acq {x : AcqSt} (h : Keeps m s t) : Keeps m s { t with acq := x } := ⟨h.inv, h.memory⟩
theorem bank {x : List BankItem} (h : Keeps m s t) : Keeps m s { t with bank := x } := ⟨h.inv, h.memory⟩
theorem pods {x : Vector PodSt 16} (h : Keeps m s t) : Keeps m s { t with pods := x } := ⟨h.inv, h.memory⟩
theorem cmp {x : CmpSt} (h : Keeps m s t) : Keeps m s { t with cmp := x } := ⟨h.inv, h.memory⟩
theorem grd {x : GuardSt} (h : Keeps m s t) : Keeps m s { t with grd := x } := ⟨h.inv, h.memory⟩
theorem met {x : MetSt} (h : Keeps m s t) : Keeps m s { t with met := x } := ⟨h.inv, h.memory⟩
theorem store {x : StoreSt} (h : Keeps m s t) : Keeps m s { t with store := x } := ⟨h.inv, h.memory⟩
theorem avail {x : AvailSt} (h : Keeps m s t) : Keeps m s { t with avail := x } := ⟨h.inv, h.memory⟩
theorem sec {x : SecSt} (h : Keeps m s t) : Keeps m s { t with sec := x } := ⟨h.inv, h.memory⟩
theorem start {x : StartSt} (h : Keeps m s t) : Keeps m s { t with start := x } := ⟨h.inv, h.memory⟩
theorem upd {x : UpdSt} (h : Keeps m s t) : Keeps m s { t with upd := x } := ⟨h.inv, h.memory⟩
theorem freeCount {x : Nat} (h : Keeps m s t) : Keeps m s { t with freeCount := x } := ⟨h.inv, h.memory⟩
theorem pending {x : List Instr} (h : Keeps m s t) : Keeps m s { t with pending := x } := ⟨h.inv, h.memory⟩

/-- A change of several parts that leaves registers, acquisition memory and the counts of time. -/
theorem same (h : Keeps m s t) (hr : v.regs = t.regs := by rfl) (hm : v.mem = t.mem := by rfl)
    (ht : t.time.Inv → v.time.Inv := by exact fun ⟨hT, hU, fT, fU⟩ => ⟨hT, hU, fT, fU⟩) : Keeps m s v := by
  refine ⟨fun hs => ?_, fun e => hm.trans (h.memory e)⟩
  obtain ⟨regs, mem, time⟩ := h.inv hs
  exact ⟨hr ▸ regs, hm ▸ mem, ht time⟩

/-- What an operation of the host half keeps. -/
theorem onHost {w : Nat → Prop} (h : Keeps m s t) (ho : OnHost w t v) : Keeps m s v :=
  ⟨fun hs => ho.inv (h.inv hs), fun hm => ho.mem.trans (h.memory hm)⟩

/-- What an operation of the field half keeps. -/
theorem onField {w : Nat → Prop} (h : Keeps m s t) (ho : OnField w t v) : Keeps m s v :=
  ⟨fun hs => ho.inv (h.inv hs), fun hm => ho.mem.trans (h.memory hm)⟩
end Keeps

/-- Every state that `o` can answer keeps what `Keeps m s` says. -/
def Tries (m : Prop) (s : State) (o : Option State) : Prop := ∀ v, o = some v → Keeps m s v

namespace Tries
variable {m : Prop} {s t : State} {o o' : Option State}

theorem none : Tries m s none := fun _ e => (Option.some_ne_none _ e.symm).elim

theorem some (h : Keeps m s t) : Tries m s (some t) := fun _ e => Option.some.inj e ▸ h

theorem ite {c : Prop} [Decidable c] (h : Tries m s o) (h' : Tries m s o') : Tries m s (if c then o else o') := by
  split
  · exact h
  · exact h'
end Tries

theorem Keeps.getD {m : Prop} {s t : State} {o : Option State} (ho : Tries m s o) (h : Keeps m s t) : Keeps m s (o.getD t) := by
  cases o with
  | none => exact h
  | some v => exact ho v rfl

/-- Bytes taken out of acquisition memory leave the canonical form. -/
theorem Memory.wf_filter {l : List Host.Cell} (k : Host.Cell → Bool) (h : Memory.wf l = true) : Memory.wf (l.filter k) = true := by
  rw [Memory.wf_iff] at h ⊢
  exact ⟨h.1.filter _, fun p hp => h.2 p (List.mem_of_mem_filter hp)⟩

theorem Ends.done {m : Prop} {s s' t : State} (h : Keeps m s t) : Ends m s (done s' t) := ⟨_, rfl, h.pending⟩

variable {m : Prop} {s t : State}

/-! ### Registers, counters, messages, events and the Ledger -/

theorem Keeps.wr {a : Nat} {x : Word} (h : Keeps m s t) : Keeps m s (t.wr a x) := h.regs (regsWf_set _ _)
theorem Keeps.put {a v : Nat} (h : Keeps m s t) : Keeps m s (t.put a v) := h.wr
theorem Keeps.set {f : Fld} {v : Nat} (h : Keeps m s t) : Keeps m s (t.set f v) := h.wr
theorem Keeps.put64 {a v : Nat} (h : Keeps m s t) : Keeps m s (t.put64 a v) := h.put.put
theorem Keeps.putAll {l : List Nat} {v : Nat} (h : Keeps m s t) : Keeps m s (t.putAll l v) := h.foldl .put
theorem Keeps.setAll {l : List Fld} {v : Nat} (h : Keeps m s t) : Keeps m s (t.setAll l v) := h.foldl .set
theorem Keeps.resetRange {lo hi : Nat} {keep : Nat → Bool} (h : Keeps m s t) : Keeps m s (t.resetRange lo hi keep) := h.regs (regsWf_filter _)
theorem Keeps.mapRegs {f : Nat → Word → Word} (h : Keeps m s t) : Keeps m s (t.mapRegs f) := h.regs (regsWf_filterMap _)
theorem Keeps.fresh {w : Nat} (h : Keeps m s t) : Keeps m s (t.fresh w).2 := h.freeCount
theorem Keeps.atH {u : Sub} (h : Keeps m s t) : Keeps m s (t.atH u) := h.time fun ⟨ht, hu, ft, fu⟩ => ⟨ht, max_lt hu u.isLt, ft, fu⟩
theorem Keeps.atF {u : Sub} (h : Keeps m s t) : Keeps m s (t.atF u) := h.time fun ⟨ht, hu, ft, fu⟩ => ⟨ht, hu, ft, max_lt fu u.isLt⟩
theorem Keeps.satCount {a w n : Nat} {evt : Fld} (h : Keeps m s t) : Keeps m s (t.satCount a w n evt).1 := h.onHost (State.satCount_host ..)
theorem Keeps.satCount48 {a n : Nat} {evt : Fld} (h : Keeps m s t) : Keeps m s (t.satCount48 a n evt).1 := h.onField (State.satCount48_field ..)
theorem Keeps.satField {f : Fld} {n : Nat} {evt : Fld} (h : Keeps m s t) : Keeps m s (t.satField f n evt).1 := h.onHost (State.satField_host ..)
theorem Keeps.wrapCount {a n : Nat} (h : Keeps m s t) : Keeps m s (t.wrapCount a n) := h.put
theorem Keeps.wrapCount64 {a n : Nat} (h : Keeps m s t) : Keeps m s (t.wrapCount64 a n) := h.put64
theorem Keeps.replaceResult {lo gen v bits : Nat} (h : Keeps m s t) : Keeps m s (t.replaceResult lo gen v bits) := h.onHost (State.replaceResult_host ..)
theorem Keeps.sendFH {ty vc t64 : Nat} {payload : List Byte} {extra drop : Nat} (h : Keeps m s t) : Keeps m s (t.sendFH ty vc t64 payload extra drop) :=
  h.onField (State.sendFH_field ..)
theorem Keeps.sendHF {ty vc t64 : Nat} {payload : List Byte} {extra : Nat} (h : Keeps m s t) : Keeps m s (t.sendHF ty vc t64 payload extra) :=
  h.onField (State.sendHF_field ..)
theorem Keeps.msix {v : Nat} (h : Keeps m s t) : Keeps m s (t.msix v) := h.onHost (State.msix_host ..)
theorem Keeps.hdmaEvt {f : Fld} (h : Keeps m s t) : Keeps m s (t.hdmaEvt f) := h.onHost (State.hdmaEvt_host ..)
theorem Keeps.toClearing {era t64 cls inst src : Nat} {bytes : List Byte} (h : Keeps m s t) : Keeps m s (t.toClearing era t64 cls inst src bytes) :=
  h.onHost (State.toClearing_host ..)
theorem Keeps.eqVector {blk : Nat} (h : Keeps m s t) : Keeps m s (t.eqVector blk) := h.onHost (State.eqVector_host ..)
theorem Keeps.toEventQueue {blk : Nat} {rcd : List Byte} (h : Keeps m s t) : Keeps m s (t.toEventQueue blk rcd) := h.onHost (State.toEventQueue_host ..)
theorem Keeps.hostEvent {blk code inst t64 : Nat} {data : List Byte} (h : Keeps m s t) : Keeps m s (t.hostEvent blk code inst t64 data) :=
  h.onHost (State.hostEvent_host ..)
theorem Keeps.fieldEvent {blk code inst t64 : Nat} {data : List Byte} (h : Keeps m s t) : Keeps m s (t.fieldEvent blk code inst t64 data) :=
  h.onField (State.fieldEvent_field ..)
theorem Keeps.ledgerWrite {e0 : LEntry} (h : Keeps m s t) : Keeps m s (t.ledgerWrite e0) := h.onHost (State.ledgerWrite_host ..)
theorem Keeps.ledger1 {e : LEntry} (h : Keeps m s t) : Keeps m s (t.ledger1 e) := h.onHost (State.ledger1_host ..)
theorem Keeps.ledgerH {source code inst : Nat} {data : List Byte} (h : Keeps m s t) : Keeps m s (t.ledgerH source code inst data) :=
  h.onHost (State.ledgerH_host ..)
theorem Keeps.ledgerF {source code inst : Nat} {data : List Byte} (h : Keeps m s t) : Keeps m s (t.ledgerF source code inst data) :=
  h.onHost (State.ledgerF_host ..)
theorem Keeps.stopEntry {source inst t64 cancelled cut : Nat} (h : Keeps m s t) : Keeps m s (t.stopEntry source inst t64 cancelled cut) :=
  h.onHost (State.stopEntry_host ..)

/-! ### What stops a block -/

theorem Keeps.setPinRt {p : Nat} {r : PinRt} (h : Keeps m s t) : Keeps m s (t.setPinRt p r) := h.seq
theorem Keeps.driversOff (h : Keeps m s t) : Keeps m s t.driversOff := h.mapRegs.seq
theorem Keeps.driverOff {p : Nat} (h : Keeps m s t) : Keeps m s (t.driverOff p) := .setPinRt (.ite h.set h)
theorem Keeps.setGen {g : Nat} {x : GenSt} (h : Keeps m s t) : Keeps m s (t.setGen g x) := h.gens
theorem Keeps.genStop {g : Nat} (h : Keeps m s t) : Keeps m s (t.genStop g) := .ite h.set.set.setGen h
theorem Keeps.genStopAll (h : Keeps m s t) : Keeps m s t.genStopAll := h.foldl .genStop
theorem Keeps.seqStop {cause : Nat} (h : Keeps m s t) : Keeps m s (t.seqStop cause) := .ite (.ite h h.seq) h
theorem Keeps.seqEnterHalt {cause : Nat} (h : Keeps m s t) : Keeps m s (t.seqEnterHalt cause) := h.set.put.set.fieldEvent
theorem Keeps.seqBlockReset (h : Keeps m s t) : Keeps m s t.seqBlockReset := h.resetRange.seq.driversOff.seqEnterHalt
theorem Keeps.podHoldAll (h : Keeps m s t) : Keeps m s t.podHoldAll := h.foldl (fun h' => .ite h'.set h')
theorem Keeps.slotBlockReset {q : Nat} (h : Keeps m s t) : Keeps m s (t.slotBlockReset q) := h.set.fault
theorem Keeps.podPowerReset (h : Keeps m s t) : Keeps m s t.podPowerReset := h.foldl (fun h' => .ite h'.slotBlockReset h')
theorem Keeps.setChan {c : Nat} {x : ChanSt} (h : Keeps m s t) : Keeps m s (t.setChan c x) := h.hdma
theorem Keeps.hdmaReset {keepSat : Bool} (h : Keeps m s t) : Keeps m s (t.hdmaReset keepSat) := h.satCount.resetRange.hdma
theorem Keeps.fcpReset (h : Keeps m s t) : Keeps m s t.fcpReset := h.driversOff.fault
theorem Keeps.mgmtReset (h : Keeps m s t) : Keeps m s t.mgmtReset := h.fault
theorem Keeps.blockReset {b : Config.FaultBlock} (h : Keeps m s t) : Keeps m s (t.blockReset b) := by
  unfold State.blockReset
  extract_lets
  refine .ite h ?_
  split
  · exact .ite h.fault.seq.set h.fault.seqBlockReset
  · exact h.fault.fcpReset
  · exact h.fault.mgmtReset
  · exact h.fault.hdmaReset
  · exact h.fault.podPowerReset
  · exact h.fault.slotBlockReset
theorem Keeps.fatalField {id : Nat} (h : Keeps m s t) : Keeps m s (t.fatalField id) :=
  .set (.set (.ite h.podHoldAll.driversOff.genStopAll.seqStop h.podHoldAll.driversOff.genStopAll.seqStop.set))
theorem Keeps.calAbort {result : Nat} (h : Keeps m s t) : Keeps m s (t.calAbort result) := .ite h.fault.set h

/-! ### The fault collector (R435–R446) -/

theorem Keeps.dropFaultN (h : Keeps m s t) : Keeps m s t.dropFaultN := .ite h h.set.fault
theorem Keeps.dropFieldFaultN (h : Keeps m s t) : Keeps m s t.dropFieldFaultN := .ite h h.set.fault
theorem Keeps.moduleResetReaction {id : Nat} (h : Keeps m s t) : Keeps m s (t.moduleResetReaction id) := .ite h (.ite h.set h.fault)
theorem Keeps.faultMirror {id t64 era raises : Nat} {bytes : List Byte} (h : Keeps m s t) : Keeps m s (t.faultMirror id t64 era raises bytes) :=
  .ite (.ite h.ledger.ledger1 h.ledger) h.ledger1
theorem Keeps.faultLatch {idR lo gen id t64 : Nat} (h : Keeps m s t) : Keeps m s (t.faultLatch idR lo gen id t64) := h.put.replaceResult
theorem Keeps.enterFatal {id t64 data : Nat} (h : Keeps m s t) : Keeps m s (t.enterFatal id t64 data) := h.set.set.set.put.put64.put.calAbort.fault
theorem Keeps.collect {id t64 era data raises : Nat} {forced : Bool} {taken : Nat} (h : Keeps m s t) :
    Keeps m s (t.collect id t64 era data raises forced taken) := by
  unfold State.collect
  extract_lets _ _ _ _ s3 _ s5 s6 s7 _ s8 s9
  have h1 : Keeps m s s3 := .faultLatch (.wr (.satCount (.ite h.upd h)))
  have h2 : Keeps m s s5 := .faultMirror (.set (.ite h1 h1.faultLatch))
  have h3 : Keeps m s s6 := .ite h2.enterFatal h2
  have h4 : Keeps m s s7 := .ite h3.msix h3
  have h5 : Keeps m s s8 := .ite h4.fault h4
  have h6 : Keeps m s s9 := .ite h5.moduleResetReaction h5
  exact .ite h6.dropFaultN h6
theorem Keeps.takeBlockReset {id taken : Nat} (h : Keeps m s t) : Keeps m s (t.takeBlockReset id taken) := by
  unfold State.takeBlockReset
  refine .ite ?_ h
  split
  · exact h.blockReset
  · exact h
theorem Keeps.hostFault {id data : Nat} {forced : Bool} (h : Keeps m s t) : Keeps m s (t.hostFault id data forced) := by
  unfold State.hostFault
  extract_lets _ _ _ _ s3 s4
  have h1 : Keeps m s s3 := h.collect.hostEvent.takeBlockReset
  have h2 : Keeps m s s4 := .ite h1.dropFieldFaultN h1
  exact .ite h2.sendHF h2
theorem Keeps.fieldFault {id data : Nat} {forced : Bool} (h : Keeps m s t) : Keeps m s (t.fieldFault id data forced) := by
  unfold State.fieldFault
  extract_lets _ _ _ _ _ s2 s3
  have h1 : Keeps m s s2 := h.fault.takeBlockReset
  have h2 : Keeps m s s3 := .ite h1.dropFieldFaultN h1
  split
  · exact h.fault.takeBlockReset
  · exact .ite h2.fatalField h2
theorem Keeps.raiseFault {id data : Nat} {forced : Bool} (h : Keeps m s t) : Keeps m s (t.raiseFault id data forced) := .ite h.fieldFault h.hostFault
theorem Keeps.sendFieldFaults (h : Keeps m s t) : Keeps m s t.sendFieldFaults := .fault (h.foldl .fieldEvent)
theorem Keeps.collectEvent {id t64 : Nat} {d : List Byte} (h : Keeps m s t) : Keeps m s (t.collectEvent id t64 d) := h.collect
theorem Keeps.takeOverwrite (h : Keeps m s t) : Keeps m s t.takeOverwrite := .ite h.ledger.hostFault h
theorem Keeps.takeFloatLoss (h : Keeps m s t) : Keeps m s t.takeFloatLoss := .ite (.ite h.link h.link.fieldFault) (.ite h.link h)
theorem Keeps.inhibitOn {c : InhCause} (h : Keeps m s t) : Keeps m s (t.inhibitOn c) := by
  unfold State.inhibitOn
  extract_lets s1
  have h1 : Keeps m s s1 := by
    unfold s1
    split
    · exact h.set
    · exact h.set
    · exact h
  exact .ite h1 h1.set.set.ledgerH
theorem Keeps.inhibitRelease (h : Keeps m s t) : Keeps m s t.inhibitRelease := .ite h.set.set.set.set.ledgerH h.set.set.set

/-! ### The tick planner (R63–R65, R89) -/

theorem Keeps.setLane {l : Nat} {x : LaneSt} (h : Keeps m s t) : Keeps m s (t.setLane l x) := h.lanes
theorem Keeps.setRed {l : Nat} {x : RedSt} (h : Keeps m s t) : Keeps m s (t.setRed l x) := h.reds
theorem Keeps.planRefuse {r : Nat × Nat} (h : Keeps m s t) : Keeps m s (t.planRefuse r) := h.set.set.put.set.ledgerH
theorem Keeps.sendPlan {p : Plan} {tick : Nat} (h : Keeps m s t) : Keeps m s (t.sendPlan p tick) := .ite h.sendHF h
theorem Keeps.planAdmit {acts : List PlanAct} {mode : Nat} (h : Keeps m s t) : Keeps m s (t.planAdmit acts mode) := by
  unfold State.planAdmit
  extract_lets _ _ _ ps _ _ s2
  have h2 : Keeps m s s2 := h.plan.set.set
  clear_value s2 ps
  cases ps with
  | nil => exact h2
  | cons p ps => exact h2.sendPlan
theorem Keeps.submit {v : State} {acts : List PlanAct} (h : Keeps m s t) (h' : Keeps m s v) : Keeps m s (t.submit v acts).1 := by
  unfold State.submit
  split
  · exact h'.planAdmit
  · exact h.planRefuse
theorem Keeps.releaseBudget {v : State} (h : Keeps m s v) : Keeps m s (t.releaseBudget v) := .ite h h.plan.plan.sendPlan
theorem Keeps.duePlans (h : Keeps m s t) : Keeps m s t.duePlans.2 := h.plan

/-! ### Event bits and counters of the field blocks -/

theorem Keeps.evt {f : Fld} {blk code inst : Nat} {data : State → List Byte} (h : Keeps m s t) : Keeps m s (t.evt f blk code inst data) :=
  h.onField (State.evt_field ..)
theorem Keeps.pinEvt {p : Nat} {f : Fld} {code : Nat} (h : Keeps m s t) : Keeps m s (t.pinEvt p f code) := h.onField (State.pinEvt_field ..)
theorem Keeps.pinCount {p a n : Nat} (h : Keeps m s t) : Keeps m s (t.pinCount p a n) := h.onField (State.pinCount_field ..)
theorem Keeps.pinFailCount {p : Nat} (h : Keeps m s t) : Keeps m s (t.pinFailCount p) := .ite h.satCount48.pinEvt h.satCount48
theorem Keeps.seqEvt {f : Fld} {code : Nat} {data : List Byte} (h : Keeps m s t) : Keeps m s (t.seqEvt f code data) := h.onField (State.seqEvt_field ..)
theorem Keeps.failEvt {f : Fld} {code : Nat} (h : Keeps m s t) : Keeps m s (t.failEvt f code) := h.onField (State.failEvt_field ..)
theorem Keeps.genEvt {g : Nat} {f : Fld} {code b16 : Nat} (h : Keeps m s t) : Keeps m s (t.genEvt g f code b16) := h.onField (State.genEvt_field ..)
theorem Keeps.genCount {g a n : Nat} (h : Keeps m s t) : Keeps m s (t.genCount g a n) := h.onField (State.genCount_field ..)
theorem Keeps.laneEvt {l : Nat} {f : Fld} {code b16 : Nat} (h : Keeps m s t) : Keeps m s (t.laneEvt l f code b16) := h.onField (State.laneEvt_field ..)
theorem Keeps.laneCount {l a n : Nat} (h : Keeps m s t) : Keeps m s (t.laneCount l a n) := h.onField (State.laneCount_field ..)
theorem Keeps.acqEvt {f : Fld} {code inst t64 b16 : Nat} (h : Keeps m s t) : Keeps m s (t.acqEvt f code inst t64 b16) := h.onField (State.acqEvt_field ..)
theorem Keeps.acqCount {a n : Nat} (h : Keeps m s t) : Keeps m s (t.acqCount a n) := h.onField (State.acqCount_field ..)
theorem Keeps.acqRefuse {inst reason : Nat} (h : Keeps m s t) : Keeps m s (t.acqRefuse inst reason) := h.onField (State.acqRefuse_field ..)
theorem Keeps.tlyEvt {f : Fld} {code inst b16 : Nat} (h : Keeps m s t) : Keeps m s (t.tlyEvt f code inst b16) := h.onField (State.tlyEvt_field ..)
theorem Keeps.tlyCount {unit a n : Nat} (h : Keeps m s t) : Keeps m s (t.tlyCount unit a n) := h.onField (State.tlyCount_field ..)

/-! ### Sources of the combiners (R237–R240) -/

theorem Keeps.setComb {c : Nat} {x : CombSt} (h : Keeps m s t) : Keeps m s (t.setComb c x) := h.acq
theorem Keeps.setLtrig {l : Nat} {x : LTrigSt} (h : Keeps m s t) : Keeps m s (t.setLtrig l x) := h.acq
theorem Keeps.setPe {k : Nat} {x : PeSt} (h : Keeps m s t) : Keeps m s (t.setPe k x) := h.acq
theorem Keeps.setGroup {n : Nat} {x : GroupSt} (h : Keeps m s t) : Keeps m s (t.setGroup n x) := h.acq
theorem Keeps.sourceEvent {code stamp : Nat} (h : Keeps m s t) : Keeps m s (t.sourceEvent code stamp) := h.foldl (fun h' => .ite (.ite h' h'.setComb) h')
theorem Keeps.sourceLevel {code at_ : Nat} {v : Bool} (h : Keeps m s t) : Keeps m s (t.sourceLevel code at_ v) := h.acq
theorem Keeps.pinTransitionSources {p st at_ : Nat} (h : Keeps m s t) : Keeps m s (t.pinTransitionSources p st at_) :=
  h.foldl (fun h' => .ite (.ite (.sourceEvent (.ite h'.sourceLevel h')) (.ite h'.sourceLevel h')) h')
theorem Keeps.pinFailSources {p at_ : Nat} (h : Keeps m s t) : Keeps m s (t.pinFailSources p at_) := h.foldl (fun h' => .ite h'.sourceEvent h')

/-! ### Operand forms -/

theorem Keeps.storeLevel {p : Nat} {w : LevelReg} {v : Int} (h : Keeps m s t) : Keeps m s (t.storeLevel p w v) := .ite h.put.pinEvt h.put

/-! ### Compare records and the replay timeline (R279–R284) -/

theorem Keeps.setPair {p : Nat} {x : PairSt} (h : Keeps m s t) : Keeps m s (t.setPair p x) := h.cmp
theorem Keeps.cmpEvt {p code b16 : Nat} (h : Keeps m s t) : Keeps m s (t.cmpEvt p code b16) := .ite h h.fieldEvent
theorem Keeps.cmpCount {p a n : Nat} (h : Keeps m s t) : Keeps m s (t.cmpCount p a n) := .ite h.satCount.fieldEvent h.satCount
theorem Keeps.cmpSend {p : Nat} {r : CRec} (h : Keeps m s t) : Keeps m s (t.cmpSend p r) := h.sendFH.setPair.wrapCount
theorem Keeps.cmpSuppress {p : Nat} (h : Keeps m s t) : Keeps m s (t.cmpSuppress p) := h.setPair.wrapCount.cmpCount.cmpCount.set
theorem Keeps.cmpRecord {p : Nat} {r : CRec} (h : Keeps m s t) : Keeps m s (t.cmpRecord p r) := by
  unfold State.cmpRecord
  extract_lets _ s2 s3
  have h1 : Keeps m s s2 := h.cmpCount.wrapCount64.replaceResult.set
  have h2 : Keeps m s s3 := .ite h1.fieldFault h1
  exact .ite (.ite h2.cmpSend.cmp h2.cmpSuppress) h.cmpSend
theorem Keeps.sideAbsent {p : Nat} {isRef : Bool} {t0 : Int} (h : Keeps m s t) : Keeps m s (t.sideAbsent p isRef t0) := .ite h h.setPair.set
theorem Keeps.refAbsent {p : Nat} {t0 : Int} (h : Keeps m s t) : Keeps m s (t.refAbsent p t0) := h.sideAbsent
theorem Keeps.closeSpan {p : Nat} {isRef : Bool} {a t0 : Int} (h : Keeps m s t) : Keeps m s (t.closeSpan p isRef a t0) := .ite h.setPair.set h.setPair
theorem Keeps.sideKnown {p : Nat} {isRef : Bool} {t0 : Int} (h : Keeps m s t) : Keeps m s (t.sideKnown p isRef t0) := .ite h.setPair h
theorem Keeps.pairState {p v : Nat} (h : Keeps m s t) : Keeps m s (t.pairState p v) := .ite (h.set.foldl (fun h' => .ite h'.set h')) h.set
theorem Keeps.sideBack {p : Nat} {isRef : Bool} {t0 : Int} (h : Keeps m s t) : Keeps m s (t.sideBack p isRef t0) := by
  unfold State.sideBack
  extract_lets
  split
  · exact h
  · exact .ite h h.closeSpan.sideKnown.cmpCount.cmpRecord
theorem Keeps.pairItem {p : Nat} {isRef : Bool} {i : CItem} (h : Keeps m s t) : Keeps m s (t.pairItem p isRef i) := .ite h.setPair.set h.setPair.cmp
theorem Keeps.pinPairs {p st at_ : Nat} (h : Keeps m s t) : Keeps m s (t.pinPairs p st at_) :=
  h.foldl (fun h' => .ite (.ite (.pairItem (.ite h'.pairItem h')) (.ite h'.pairItem h')) h')
theorem Keeps.pinPairCheck {p : Nat} (h : Keeps m s t) : Keeps m s (t.pinPairCheck p) := by
  unfold State.pinPairCheck
  refine h.foldl fun h' => ?_
  extract_lets side
  have hside : ∀ {t x1}, Keeps m s t → Keeps m s (side t x1) := fun h'' => .ite h''.sideBack h''.sideAbsent
  exact .ite (.ite (hside (.ite (hside h') h')) (.ite (hside h') h')) h'
theorem Keeps.replayBreak {k start : Nat} (h : Keeps m s t) : Keeps m s (t.replayBreak k start) := by
  unfold State.replayBreak
  extract_lets
  refine .ite ?_ h
  exact .ite (h.cmp.foldl .refAbsent) (.foldl (.ite h.cmp h.cmp.set) (fun h' => h'.refAbsent.pairState.setPair.cmpEvt))
theorem Keeps.replayGapEnd {k length stop : Nat} (h : Keeps m s t) : Keeps m s (t.replayGapEnd k length stop) := by
  unfold State.replayGapEnd
  extract_lets
  split
  · exact h
  · exact .ite (.cmp (h.cmp.put64.set.foldl .setPair)) (h.cmp.foldl (fun h' => h'.setPair.cmpRecord))

end Sys2Proof.Machine
end

section
/-! PROOFS. What keeps the canonical forms and the time (R61, R69, R71): the channels, the lanes, the reductions and the fail unit. -/

namespace Sys2Proof.Machine

variable {m : Prop} {s t : State}

/-! ### Pin channels (R92–R131) -/

theorem Keeps.ifOn {a : Nat} {f : State → State} (h : Keeps m s t) (hf : ∀ {t}, Keeps m s t → Keeps m s (f t)) : Keeps m s (t.ifOn a f) := .ite (hf h) h
theorem Keeps.showInhPin {v : Nat} (h : Keeps m s t) : Keeps m s (t.showInhPin v) := h.set.set
theorem Keeps.doDriveInhAssert (h : Keeps m s t) : Keeps m s t.doDriveInhAssert := .ite h h.seq.driversOff.showInhPin.fieldFault
theorem Keeps.doDriveInhSet (h : Keeps m s t) : Keeps m s t.doDriveInhSet := .ite h.inhibitOn.seq.driversOff h.inhibitOn
theorem Ends.execSysDriveInhSet {u : Sub} (h : Keeps m s t) : Ends m s (execSysDriveInhSet u t) := .done h.atH.doDriveInhSet
theorem Keeps.doDriveInhRelease (h : Keeps m s t) : Keeps m s t.doDriveInhRelease := .ite h.inhibitRelease.seq h.set
theorem Ends.execDriveInhRelease {u : Sub} (h : Keeps m s t) : Ends m s (execDriveInhRelease u t) := .done h.atH.doDriveInhRelease
theorem Keeps.doFieldInhibitEnd (h : Keeps m s t) : Keeps m s t.doFieldInhibitEnd := .ite (.same h) h
theorem Keeps.setPod {q : Nat} {x : PodSt} (h : Keeps m s t) : Keeps m s (t.setPod q x) := h.pods
theorem Keeps.doLevelWrite {p : Port} {w : LevelReg} {v : Word} (h : Keeps m s t) : Keeps m s (t.doLevelWrite p w v) :=
  h.ifOn (fun h' => .ite h'.storeLevel.set.setPod (.ite h'.storeLevel h'.storeLevel.set.setPinRt))
theorem Ends.execPinLevelWrite {u : Sub} {p : Port} {which : LevelReg} {v : Word} (h : Keeps m s t) : Ends m s (execPinLevelWrite u p which v t) :=
  .done h.atF.doLevelWrite
theorem Keeps.doLaneLevelApply {p : Port} (h : Keeps m s t) : Keeps m s (t.doLaneLevelApply p) := .ite h.set h
theorem Keeps.deskewStart {p : Nat} (h : Keeps m s t) : Keeps m s (t.deskewStart p) := h.set.setPinRt
theorem Keeps.doDeskew {p : Nat} (h : Keeps m s t) : Keeps m s (t.doDeskew p) := h.ifOn (fun h' => .ite h'.pinEvt h'.deskewStart)
theorem Ends.execDeskew {u : Sub} {p : Port} (h : Keeps m s t) : Ends m s (execDeskew u p t) := .done h.atF.doDeskew
theorem Keeps.setRole {p r : Nat} (h : Keeps m s t) : Keeps m s (t.setRole p r) :=
  .ite h (.ite h.set.set.driverOff.pinPairCheck (.put (h.set.set.foldl .storeLevel)))
theorem Keeps.deskewFail {p : Nat} (h : Keeps m s t) : Keeps m s (t.deskewFail p) := h.set.pinEvt.pinPairCheck
theorem Keeps.deskewOk {p cmp drv : Nat} (h : Keeps m s t) : Keeps m s (t.deskewOk p cmp drv) := h.set.set.set.set.setRole.pinPairCheck
theorem Keeps.deskewMean {runs : List Nat} (h : Keeps m s t) : Keeps m s (t.deskewMean runs).2 := by
  unfold State.deskewMean
  extract_lets
  split
  · exact h
  · exact h.fresh (w := 1)
theorem Keeps.deskewRemote {p : Nat} {runs : List Nat} (h : Keeps m s t) : Keeps m s (t.deskewRemote p runs) :=
  .ite h.deskewMean.deskewFail h.deskewMean.put.deskewOk
theorem Keeps.deskewLane {p : Nat} (h : Keeps m s t) : Keeps m s (t.deskewLane p) := by
  unfold State.deskewLane
  extract_lets
  split
  · refine .ite ?_ h.deskewOk
    split
    · exact h.deskewOk
    · exact h.deskewFail
  · exact h.deskewFail
theorem Keeps.doDeskewDone {p : Nat} {runs : List Nat} (h : Keeps m s t) : Keeps m s (t.doDeskewDone p runs) :=
  .ite (.ite h.set.deskewFail (.ite h.set.deskewRemote h.set.deskewLane)) h
theorem Keeps.doPinEnable {p : Nat} (h : Keeps m s t) : Keeps m s (t.doPinEnable p) := h.ifOn (fun h' => .ite h' (.ite h' (.ite h'.pinEvt h'.set.setPinRt)))
theorem Ends.execPinEnable {u : Sub} {p : Port} (h : Keeps m s t) : Ends m s (execPinEnable u p t) := .done h.atF.doPinEnable
theorem Keeps.pinStop {p stop : Nat} (h : Keeps m s t) : Keeps m s (t.pinStop p stop) := h.driverOff.set.setPinRt.stopEntry
theorem Keeps.doPinDisable {p : Nat} (h : Keeps m s t) : Keeps m s (t.doPinDisable p) := h.ifOn (fun h' => .ite (.ite h'.set.set.setPinRt h'.set.pinStop) h')
theorem Ends.execPinDisable {u : Sub} {p : Port} (h : Keeps m s t) : Ends m s (execPinDisable u p t) := .done h.atF.doPinDisable
theorem Keeps.pinSettle {t0 : Nat} (h : Keeps m s t) : Keeps m s (t.pinSettle t0) := .ite (h.foldl .pinStop) h
theorem Keeps.doPinClrStats {p : Nat} (h : Keeps m s t) : Keeps m s (t.doPinClrStats p) := h.ifOn (fun h' => h'.putAll.set)
theorem Ends.execPinClrStats {p : Port} (h : Keeps m s t) : Ends m s (execPinClrStats p t) := .done h.doPinClrStats
theorem Keeps.doPinTransition {p st at_ : Nat} (h : Keeps m s t) : Keeps m s (t.doPinTransition p st at_) := by
  unfold State.doPinTransition
  extract_lets _ s2
  have h1 : Keeps m s s2 := h.set.pinTransitionSources.pinPairs
  exact .ite h (.ite h1 (.ite h1.pinCount.link h1.setPinRt))
theorem Ends.execPinTransition {u : Sub} {p : Port} {st : CmpState} (h : Keeps m s t) : Ends m s (execPinTransition u p st t) := by
  unfold Machine.execPinTransition
  extract_lets
  exact .done h.atF.doPinTransition

/-! ### Samples of the lanes (R216–R236) -/

theorem Keeps.ltrigAbsent {l t0 : Nat} (h : Keeps m s t) : Keeps m s (t.ltrigAbsent l t0) := h.setLtrig.sourceLevel
theorem Keeps.ltrigEvents {l : Nat} {es : List Nat} (h : Keeps m s t) : Keeps m s (t.ltrigEvents l es) := h.foldl (fun h' => h'.acqCount.sourceEvent)
theorem Keeps.feedTrigger {l period : Nat} {xs : List Smp} (h : Keeps m s t) : Keeps m s (t.feedTrigger l period xs) :=
  h.foldl (fun h' => .ite h'.ltrigAbsent (.ltrigEvents (.ite h'.setLtrig h'.setLtrig.sourceLevel)))
theorem Keeps.pairSample {k : Nat} {isRef : Bool} {period : Nat} {x : Smp} (h : Keeps m s t) : Keeps m s (t.pairSample k isRef period x) := by
  unfold State.pairSample
  extract_lets _ _ _ _ _ _ _ s2
  have h1 : Keeps m s s2 := h.sideBack.setPair
  refine .ite h.sideAbsent.setPair ?_
  split
  · exact h1.pairItem
  · exact h1
theorem Keeps.feedPairs {l src period : Nat} {xs : List Smp} (h : Keeps m s t) : Keeps m s (t.feedPairs l src period xs) := by
  unfold State.feedPairs
  refine h.foldl fun h' => ?_
  exact .ite (.ite (.foldl (.ite (h'.foldl .pairSample) h') .pairSample) (.ite (h'.foldl .pairSample) h')) h'
theorem Keeps.feedBand {l src period : Nat} {xs : List Smp} (h : Keeps m s t) : Keeps m s (t.feedBand l src period xs) := by
  unfold State.feedBand
  extract_lets
  refine h.foldl fun h' => ?_
  extract_lets one
  have hone : ∀ {t x1}, Keeps m s t → Keeps m s (one t x1) := fun h'' => .ite (.setPair (.ite h''.sideBack.pairItem h''.sideAbsent)) h''
  exact .ite (hone (hone h')) h'
theorem Keeps.feedReduction {l src period f : Nat} {xs : List Smp} (h : Keeps m s t) : Keeps m s (t.feedReduction l src period f xs) :=
  .ite h (.ite (h.setRed.foldl .feedBand) h.setRed)
theorem Keeps.setHist {h0 : Nat} {x : HistSt} (h : Keeps m s t) : Keeps m s (t.setHist h0 x) := h.acq
theorem Keeps.setMap {m0 : Nat} {x : MapSt} (h : Keeps m s t) : Keeps m s (t.setMap m0 x) := h.acq
theorem Keeps.feedTally {l src period f : Nat} {xs : List Smp} (h : Keeps m s t) : Keeps m s (t.feedTally l src period f xs) :=
  .foldl (h.foldl (fun h' => .ite h'.setHist h')) (fun h' => .ite h'.setMap h')
theorem Keeps.feed {l src period : Nat} {xs : List Smp} (h : Keeps m s t) : Keeps m s (t.feed l src period xs) :=
  .ite h (.feedTally (.feedReduction (.feedPairs (.ite h.feedTrigger h))))
theorem Keeps.countOvr {l : Nat} {xs : List Smp} (h : Keeps m s t) : Keeps m s (t.countOvr l xs) := .ite h (.ite h.laneCount.set h.laneCount.setLane.laneEvt)
theorem Keeps.showUnset {l : Nat} (h : Keeps m s t) : Keeps m s (t.showUnset l) := h.put
theorem Keeps.excLost {l : Nat} (h : Keeps m s t) : Keeps m s (t.excLost l) := h.foldl (fun h' => .ite h' h'.set.genEvt)
theorem Keeps.excBack {l : Nat} (h : Keeps m s t) : Keeps m s (t.excBack l) := h.foldl .set
theorem Keeps.convert {l src t0 period : Nat} {cs : List Int} (h : Keeps m s t) : Keeps m s (t.convert l src t0 period cs) := by
  unfold State.convert
  extract_lets _ _ _ _ s2
  have h1 : Keeps m s s2 := h.setLane.showUnset.countOvr.feed
  exact .ite h (.ite (.ite h1.excBack h1.excLost) h1)
theorem Keeps.takeLane {x : LaneIn} (h : Keeps m s t) : Keeps m s (t.takeLane x) := .ite h.convert.convert h
theorem Keeps.takeSamples {xs : List LaneIn} (h : Keeps m s t) : Keeps m s (t.takeSamples xs) := h.foldl .takeLane
theorem Keeps.laneGap {l t0 : Nat} (h : Keeps m s t) : Keeps m s (t.laneGap l t0) := by
  unfold State.laneGap
  extract_lets _ _ _ s2 s3
  have h1 : Keeps m s s2 := .ite h.setLane.excLost.ltrigAbsent h.setLane.excLost
  have h2 : Keeps m s s3 := by
    unfold s3
    refine h1.foldl fun h' => ?_
    extract_lets one
    have hone : ∀ {t x1}, Keeps m s t → Keeps m s (one t x1) := fun h'' => .ite h''.sideAbsent h''
    exact .ite (hone (hone h')) h'
  exact .foldl (h2.setRed.foldl .setHist) (fun h' => .ite h'.setMap h')

/-! ### The correction bank and the guard windows (R290–R305) -/

theorem Keeps.showIlv {l : Nat} (h : Keeps m s t) : Keeps m s (t.showIlv l) := h.foldl (fun h' => h'.put.put.put)
theorem Keeps.setWin {w : Nat} {x : GrdSt} (h : Keeps m s t) : Keeps m s (t.setWin w x) := h.grd
theorem Keeps.winApply {w : Nat} (h : Keeps m s t) : Keeps m s (t.winApply w) := by
  unfold State.winApply
  extract_lets _ _ _ _ s3 s4
  have h1 : Keeps m s s3 := h.put.put.put.set.set
  have h2 : Keeps m s s4 := .ite h1.set h1
  exact .ite h2.set.set h2
theorem Keeps.winEvent {w code t64 : Nat} {always : Bool} (h : Keeps m s t) : Keeps m s (t.winEvent w code t64 always) := .ite h.fieldEvent h
theorem Keeps.winCount {w a n t64 : Nat} (h : Keeps m s t) : Keeps m s (t.winCount w a n t64) := .ite h.satCount.set.winEvent h.satCount
theorem Keeps.winChange {w : Nat} {out : Bool} {at_ : Nat} (h : Keeps m s t) : Keeps m s (t.winChange w out at_) := by
  unfold State.winChange
  extract_lets _ _ _ _ _ s4 _ s5 s6
  have h1 : Keeps m s s4 := h.set.replaceResult.set.set.winEvent.sourceLevel.sourceEvent
  have h2 : Keeps m s s5 := .ite h1.grd h1
  have h3 : Keeps m s s6 := .ite h2.fieldFault h2
  exact .ite h1 (.ite h3.grd h3)
theorem Keeps.winStop {w at_ : Nat} (h : Keeps m s t) : Keeps m s (t.winStop w at_) := .setWin (.ite h.winChange h)
theorem Keeps.winShow {w st ones : Nat} (h : Keeps m s t) : Keeps m s (t.winShow w st ones) := .ite h.set.set h.set.set.set
theorem Keeps.winSample {w at_ : Nat} {v : Int} (h : Keeps m s t) : Keeps m s (t.winSample w at_ v) := by
  unfold State.winSample
  extract_lets _ _ _ _ _ _ _ _ _ _ _ _ _ _ _ _ _ t2 _ _ t12 s1
  have h1 : Keeps m s t2 := h.set.setWin.winShow.winCount
  have h2 : Keeps m s t12 := .ite h1.winChange h1
  have h3 : Keeps m s s1 := .ite h.set.setWin.winShow.set.set.sourceLevel (.ite h2.set.set.winEvent h2)
  exact .ite h3.winCount h3
theorem Keeps.winTick {vs : List GuardIn} {w at_ : Nat} (h : Keeps m s t) : Keeps m s (t.winTick vs w at_) := by
  unfold State.winTick
  extract_lets s1
  have h1 : Keeps m s s1 := h.winStop
  refine .ite h ?_
  refine .ite (.ite h1 h1.set.set.winEvent) ?_
  split
  · exact h.winSample
  · exact h.fresh.winSample
theorem Keeps.winSummary (h : Keeps m s t) : Keeps m s t.winSummary := h.set.set.put64
theorem Keeps.doGuardSample {vs : List GuardIn} (h : Keeps m s t) : Keeps m s (t.doGuardSample vs) :=
  .ite (.winSummary (.foldl (h.time fun ⟨ht, hu, ft, fu⟩ => ⟨ht, hu, ft, max_lt fu (by decide)⟩) .winTick)) h
theorem Keeps.guardInhibit (h : Keeps m s t) : Keeps m s t.guardInhibit := .ite (.driversOff (.same h)) h
theorem Keeps.doGrdClrStats (h : Keeps m s t) : Keeps m s t.doGrdClrStats := h.ifOn (fun h' => h'.foldl (fun h'' => h''.put.put))
theorem Ends.execGrdClrStats (h : Keeps m s t) : Ends m s (execGrdClrStats t) := .done h.doGrdClrStats

/-! ### Reductions, segments and accumulation (R245–R264) -/

theorem Keeps.sendItem {kind rflags lane src frameNo t64 ep esz : Nat} {es : List (List Byte × Bool)} (h : Keeps m s t) :
    Keeps m s (t.sendItem kind rflags lane src frameNo t64 ep esz es) := h.foldl .sendFH
theorem Keeps.sendFrame {l : Nat} {x : RedSet} {pick : Nat → Bool} {frameNo rflags period t0 absent : Nat} {xs : List Smp} (h : Keeps m s t) :
    Keeps m s (t.sendFrame l x pick frameNo rflags period t0 absent xs) :=
  h.foldl (fun h' => .ite (.ite (.ite h'.sendItem h'.sendItem.acqCount.acqEvt) h'.sendItem) h')
theorem Keeps.sendInterval {l stop : Nat} {cut : Bool} (h : Keeps m s t) : Keeps m s (t.sendInterval l stop cut) := .setRed (h.foldl .sendFrame)
theorem Keeps.doFrameEnd {l : Nat} (h : Keeps m s t) : Keeps m s (t.doFrameEnd l) := by
  unfold State.doFrameEnd
  extract_lets
  split
  · exact h
  · exact .ite h.sendInterval h
theorem Keeps.redBreak {l : Nat} (h : Keeps m s t) : Keeps m s (t.redBreak l) := .setRed (.ite h.sendInterval h)
theorem Keeps.redRefuse {l reason : Nat} (h : Keeps m s t) : Keeps m s (t.redRefuse l reason) := h.set.acqRefuse
theorem Keeps.doRedApply {l : Nat} {v : Word} (h : Keeps m s t) : Keeps m s (t.doRedApply l v) := by
  unfold State.doRedApply
  refine .ifOn h (fun h' => ?_)
  extract_lets _ _ _ t1 _ r
  have h1 : Keeps m s t1 := h'.wr.setRed.set
  have h2 : Keeps m s r.1 := h'.wr.submit (.ite h1.set h1)
  exact .ite h'.wr.redRefuse (.ite h'.wr.redRefuse (.ite h'.wr.redRefuse (.ite h2 h2.redRefuse)))
theorem Ends.execRedApply {u : Sub} {l : Lane} {v : Word} (h : Keeps m s t) : Ends m s (execRedApply u l v t) := .done h.atF.doRedApply
theorem Keeps.redEffect {l : Nat} (h : Keeps m s t) : Keeps m s (t.redEffect l) := by
  unfold State.redEffect
  extract_lets
  split
  · exact h
  · exact .ite h.redBreak.setRed.wr.set.set.stopEntry.releaseBudget h.redBreak.setRed.wr.set.set
theorem Keeps.doRedClrStats {l : Nat} (h : Keeps m s t) : Keeps m s (t.doRedClrStats l) := h.ifOn .put
theorem Ends.execRedClrStats {l : Lane} (h : Keeps m s t) : Ends m s (execRedClrStats l t) := .done h.doRedClrStats
theorem Keeps.groupRefuse {n reason : Nat} (h : Keeps m s t) : Keeps m s (t.groupRefuse n reason) := h.set.acqRefuse
theorem Keeps.doGroupEnable {n : Nat} {v : Word} (h : Keeps m s t) : Keeps m s (t.doGroupEnable n v) := by
  unfold State.doGroupEnable
  refine .ifOn h (fun h' => ?_)
  extract_lets _ _ _ _ r
  have h1 : Keeps m s r.1 := h'.wr.submit h'.wr.set
  exact .ite h' (.ite h'.wr (.ite h'.wr.groupRefuse (.ite h'.wr.groupRefuse (.ite h1 h1.groupRefuse))))
theorem Ends.execGroupEnable {u : Sub} {n : Fin 4} {v : Word} (h : Keeps m s t) : Ends m s (execGroupEnable u n v t) := .done h.atF.doGroupEnable
theorem Keeps.groupArm {n : Nat} (h : Keeps m s t) : Keeps m s (t.groupArm n) := .ite h.set.put.setGroup h
theorem Keeps.groupMiss {n : Nat} (h : Keeps m s t) : Keeps m s (t.groupMiss n) := .ite h.setGroup.acqCount h.setGroup.acqCount.acqEvt
theorem Keeps.groupFire {n stamp input code fire : Nat} (h : Keeps m s t) : Keeps m s (t.groupFire n stamp input code fire) :=
  .ite (.ite (.ite h.setGroup.wrapCount.set.set.acqEvt h.setGroup.wrapCount.set) h.groupMiss) h
theorem Keeps.accSend {n : Nat} {g : SegSt} {final : Bool} (h : Keeps m s t) : Keeps m s (t.accSend n g final) :=
  .ite (.setGroup (h.sendFH.foldl .sendItem)) (.acqEvt (.setGroup (h.sendFH.foldl .sendItem)))
theorem Keeps.segmentSend {n : Nat} {g : SegSt} (h : Keeps m s t) : Keeps m s (t.segmentSend n g) := by
  unfold State.segmentSend
  extract_lets _ _ _ _ _ _ s2 _ _ s31
  have h1 : Keeps m s s2 := h.sendFH.foldl .sendFrame
  have h2 : Keeps m s s31 := h1.setGroup
  exact .ite h1 (.ite h1.acqCount.acqEvt (.ite h2.accSend h2))
theorem Keeps.groupStopped {n : Nat} {last : SegSt} (h : Keeps m s t) : Keeps m s (t.groupStopped n last) :=
  .stopEntry (.setGroup (.set (.set (.ite h h.accSend))))
theorem Keeps.doSegmentComplete {n : Nat} (h : Keeps m s t) : Keeps m s (t.doSegmentComplete n) := by
  unfold State.doSegmentComplete
  split
  · exact h
  · exact .ite (.ite h.segmentSend.setGroup.set.groupStopped h.segmentSend.setGroup.set) h
theorem Keeps.groupStop {n : Nat} (h : Keeps m s t) : Keeps m s (t.groupStop n) := by
  unfold State.groupStop
  extract_lets
  refine .ite ?_ h
  split
  · exact h.set.set.releaseBudget.groupStopped
  · exact h.set.set.releaseBudget.set.setGroup
theorem Ends.execGroupDisable {u : Sub} {n : Fin 4} (h : Keeps m s t) : Ends m s (execGroupDisable u n t) := .done (h.atF.ifOn .groupStop)
theorem Keeps.doGrpClrStats {n : Nat} (h : Keeps m s t) : Keeps m s (t.doGrpClrStats n) := h.ifOn (fun h' => h'.put.put)
theorem Ends.execGrpClrStats {n : Fin 4} (h : Keeps m s t) : Ends m s (execGrpClrStats n t) := .done h.doGrpClrStats
theorem Keeps.storeSegment {n : Nat} {pl : List Byte} (h : Keeps False s t) : Keeps False s (t.storeSegment n pl) := by
  unfold State.storeSegment
  extract_lets _ _ _ _ _ _ put _ k
  have hput : ∀ {t k o}, Keeps False s t → Keeps False s (put t k o) := fun h' => h'.mem (Memory.wf_write _ _)
  exact .ite (.ite h.setGroup (.setGroup (hput (h.mem (Memory.wf_filter _))))) (.ite h (hput h).setGroup)

/-! ### Lanes (R204–R230) -/

theorem Keeps.composeBlock {l src tick : Nat} {xs : List Smp} (h : Keeps m s t) : Keeps m s (t.composeBlock l src tick xs).2 := h.setLane
theorem Keeps.sendBlock {b : Nat × Nat × List Byte} (h : Keeps m s t) : Keeps m s (t.sendBlock b) := h.sendFH
theorem Keeps.laneBusyEnd {l t64 : Nat} (h : Keeps m s t) : Keeps m s (t.laneBusyEnd l t64) := .ite h.set.stopEntry h
theorem Keeps.sendBurst {l : Nat} {b : Nat × Nat × List Byte} (h : Keeps m s t) : Keeps m s (t.sendBurst l b) :=
  .ite h.link.setLane h.sendBlock.link.setLane.set
theorem Keeps.tickBlock {l src : Nat} (h : Keeps m s t) : Keeps m s (t.tickBlock l src) := by
  unfold State.tickBlock
  extract_lets _ _ _ _ _ _ t2
  have h1 : Keeps m s t2 := .ite h.composeBlock.sendBurst.setLane h.composeBlock.sendBlock
  exact .setLane (.ite h1.laneBusyEnd (.ite h.setLane.laneBusyEnd h))
theorem Keeps.filtSamples {l tick now : Nat} (h : Keeps m s t) : Keeps m s (t.filtSamples l tick now).2 := by
  unfold State.filtSamples
  extract_lets _ _ _ _ _ _ _ _ r
  show Keeps m s r.2
  refine Keeps.foldlOf (p := Prod.snd) (b := ([], t)) h fun {acc i} h' => ?_
  extract_lets _ w
  split
  · exact h'.fresh (w := 16)
  · exact h'
theorem Keeps.filtBlock {l tick now due : Nat} (h : Keeps m s t) : Keeps m s (t.filtBlock l tick now due) := by
  unfold State.filtBlock
  extract_lets _ _ _ _ _ _ s3 _ _ _ _ _ _ s5
  have h1 : Keeps m s s3 := h.filtSamples.setLane.showUnset.feed
  have h2 : Keeps m s s5 := .composeBlock (.ite h1 h1.setLane)
  exact .ite (.laneBusyEnd (.setLane (.ite h2 h2.setLane))) h1
theorem Keeps.filtSend {l now : Nat} (h : Keeps m s t) : Keeps m s (t.filtSend l now) := h.setLane.foldl .sendBlock
theorem Keeps.laneTick {l now : Nat} (h : Keeps m s t) : Keeps m s (t.laneTick l now) := by
  unfold State.laneTick
  extract_lets _ _ _ _ _ _ _ _ _ _ s1 _ s2
  have h1 : Keeps m s s1 := .tickBlock (.tickBlock (h.setLane.foldl .wrapCount64))
  have h2 : Keeps m s s2 := .ite h1 h1.laneGap
  exact .filtSend (.ite (h2.foldl .filtBlock) h2.setLane)
theorem Keeps.lanesTick (h : Keeps m s t) : Keeps m s t.lanesTick := h.foldl (fun h' => .ite h'.laneTick h'.filtSend)
theorem Keeps.drainBursts (h : Keeps m s t) : Keeps m s t.drainBursts := .ite h.link.lanes h
theorem Keeps.edgeBlock {q tick : Nat} {es : List (Nat × Nat × Nat)} (h : Keeps m s t) : Keeps m s (t.edgeBlock q tick es) := h.sendBlock
theorem Keeps.slotEdges {q : Nat} (h : Keeps m s t) : Keeps m s (t.slotEdges q) := .ite h (.foldl (h.foldl (fun h' => .ite h' h'.setPinRt)) .edgeBlock)
theorem Keeps.edgesTick (h : Keeps m s t) : Keeps m s t.edgesTick := h.foldl .slotEdges
theorem Keeps.laneRefuse {l reason : Nat} (h : Keeps m s t) : Keeps m s (t.laneRefuse l reason) := h.set.laneEvt
theorem Keeps.lanePending {l v : Nat} (h : Keeps m s t) : Keeps m s (t.lanePending l v) := h.set.set
theorem Keeps.doLaneApply {l : Nat} (h : Keeps m s t) : Keeps m s (t.doLaneApply l) := by
  unfold State.doLaneApply
  refine .ifOn h (fun h' => ?_)
  extract_lets _ _ _ _ _ _ r
  have h1 : Keeps m s r.1 := h'.submit h'.setLane.lanePending
  refine .ite h'.laneRefuse ?_
  split
  · exact h'.laneRefuse
  · exact .ite h1.laneRefuse (.ite h1.setPod h1)
theorem Ends.execLaneApply {u : Sub} {l : Lane} (h : Keeps m s t) : Ends m s (execLaneApply u l t) := .done h.atF.doLaneApply
theorem Keeps.lanePlanned {l : Nat} (h : Keeps m s t) : Keeps m s (t.lanePlanned l) := h.setLane
theorem Keeps.markFinal {l src : Nat} (h : Keeps m s t) : Keeps m s (t.markFinal l src) := by
  unfold State.markFinal
  extract_lets
  split
  · exact h
  · split
    · exact h
    · exact h.link
theorem Keeps.laneStopAll {l : Nat} (h : Keeps m s t) : Keeps m s (t.laneStopAll l) := by
  unfold State.laneStopAll
  extract_lets _ _ _ _ _ _ _ _ _ s3 _ s21
  have h1 : Keeps m s s3 := .setLane (h.put.releaseBudget.foldl (fun h' => .ite h'.markFinal h'))
  have h2 : Keeps m s s21 := h.put.releaseBudget.setLane
  exact .ite h (.ite (.ite h1.set (.ite h1.stopEntry h1)) (.ite h2.set h2))
theorem Keeps.regroup {l old new : Nat} (h : Keeps m s t) : Keeps m s (t.regroup l old new) := .set (.foldl (h.foldl .set) (fun h' => h'.laneStopAll.set))
theorem Keeps.laneTakeEffect {l : Nat} {x : LaneSet} (h : Keeps m s t) : Keeps m s (t.laneTakeEffect l x) := by
  unfold State.laneTakeEffect
  extract_lets _ _ _ _ _ _ _ s1 s2 s3 s4 _ s5 _ _ _ _ _ _ _ _ _ _ _ s6 s7 s8 s9 _ s10 s11
  have h1 : Keeps m s s1 := .ite (h.foldl .filtBlock) h
  have h2 : Keeps m s s2 := h1.redBreak.regroup
  have h3 : Keeps m s s3 := h2.wr.wr
  have h4 : Keeps m s s4 := h3.foldl .put
  have h5 : Keeps m s s5 := h4.put.set
  have h6 : Keeps m s s6 := h5.setLane
  have h7 : Keeps m s s7 := .ite h6.set.excLost h6
  have h8 : Keeps m s s8 := h7.showUnset.lanePending.wrapCount
  have h9 : Keeps m s s9 := h8.laneEvt
  have h10 : Keeps m s s10 := .ite h9 (.ite h9.storeLevel.storeLevel h9)
  have h11 : Keeps m s s11 := .ite (h10.foldl .winApply) h10
  exact h11.foldl .showIlv
theorem Keeps.doLaneApplyEffect {l : Nat} (h : Keeps m s t) : Keeps m s (t.doLaneApplyEffect l) := by
  unfold State.doLaneApplyEffect
  split
  · exact .ite h.laneTakeEffect h
  · exact h
theorem Keeps.doLaneApplyWithdraw {l : Nat} (h : Keeps m s t) : Keeps m s (t.doLaneApplyWithdraw l) := .ite h.setLane.lanePending.releaseBudget.laneRefuse h
theorem Keeps.streamStop {l src : Nat} (h : Keeps m s t) : Keeps m s (t.streamStop l src) := .ite h h.setLane.set
theorem Keeps.doLaneStreamWrite {l : Nat} {v : Word} (h : Keeps m s t) : Keeps m s (t.doLaneStreamWrite l v) := by
  unfold State.doLaneStreamWrite
  extract_lets
  refine .ifOn h (fun h' => ?_)
  extract_lets _ _ _ _ s2 s3 _ s5 r
  have h1 : Keeps m s s2 := .ite h'.put.streamStop h'.put
  have h2 : Keeps m s s3 := .ite h1.streamStop h1
  have h3 : Keeps m s s5 := .releaseBudget (.ite h2.streamStop h2)
  have h4 : Keeps m s r.1 := h3.submit h3.put
  exact .ite h' (.ite (.ite h' h'.put) (.ite h3 (.ite h4 h4.laneRefuse)))
theorem Ends.execLaneStreamWrite {u : Sub} {l : Lane} {v : Word} (h : Keeps m s t) : Ends m s (execLaneStreamWrite u l v t) := .done h.atF.doLaneStreamWrite
theorem Keeps.streamsStart {l : Nat} (h : Keeps m s t) : Keeps m s (t.streamsStart l) := h.setLane
theorem Keeps.burstRequest {l : Nat} (h : Keeps m s t) : Keeps m s (t.burstRequest l) := .ite h (.ite h.laneCount.laneEvt h.setLane)
theorem Keeps.doBurstGo {l : Nat} (h : Keeps m s t) : Keeps m s (t.doBurstGo l) := h.ifOn (fun h' => .ite h'.burstRequest h')
theorem Ends.execBurstGo {u : Sub} {l : Lane} (h : Keeps m s t) : Ends m s (execBurstGo u l t) := .done h.atF.doBurstGo
theorem Keeps.burstFire {c : Nat} (h : Keeps m s t) : Keeps m s (t.burstFire c) := h.foldl (fun h' => .ite h'.burstRequest h')
theorem Keeps.doBurstStart {l : Nat} (h : Keeps m s t) : Keeps m s (t.doBurstStart l) := .ite h.setLane.set h
theorem Keeps.doBurstEnd {l : Nat} (h : Keeps m s t) : Keeps m s (t.doBurstEnd l) := .ite h.set h
theorem Keeps.doBurstDone {l : Nat} (h : Keeps m s t) : Keeps m s (t.doBurstDone l) := .ite h.set.laneEvt h
theorem Keeps.doUnsettledEnd {l : Nat} (h : Keeps m s t) : Keeps m s (t.doUnsettledEnd l) := .ite h.set.put.laneEvt h
theorem Keeps.doLaneClrStats {l : Nat} (h : Keeps m s t) : Keeps m s (t.doLaneClrStats l) := h.ifOn (fun h' => h'.put.put)
theorem Ends.execLaneClrStats {l : Lane} (h : Keeps m s t) : Ends m s (execLaneClrStats l t) := .done h.doLaneClrStats

/-! ### The fail unit (R123–R131) -/

theorem Keeps.failCount48 {a n : Nat} (h : Keeps m s t) : Keeps m s (t.failCount48 a n) := h.satCount48
theorem Keeps.setFail {f : FailSt} (h : Keeps m s t) : Keeps m s (t.setFail f) := h.seq
theorem Keeps.failOpen {r : FailRec} (h : Keeps m s t) : Keeps m s (t.failOpen r) := h.setFail.failCount48
theorem Keeps.failFull (h : Keeps m s t) : Keeps m s t.failFull := .ite h h.set.failEvt
theorem Keeps.failStore {r : FailRec} (h : Keeps m s t) : Keeps m s (t.failStore r) := .failFull (.ite h.setFail.put h.setFail.failCount48)
theorem Keeps.doFailComplete (h : Keeps m s t) : Keeps m s t.doFailComplete := by
  unfold State.doFailComplete
  extract_lets
  split
  · exact h
  · exact h.setFail.failStore
theorem Keeps.failClear (h : Keeps m s t) : Keeps m s t.failClear := by
  unfold State.failClear
  extract_lets _ _ _ _ _ _ s2
  have h1 : Keeps m s s2 := .set (.putAll (.setFail (h.foldl .doFailComplete)))
  exact .ite h1.set h1
theorem Keeps.doFailClear (h : Keeps m s t) : Keeps m s t.doFailClear := h.ifOn (fun h' => .ite h'.setFail h'.failClear)
theorem Ends.execFailClear {u : Sub} (h : Keeps m s t) : Ends m s (execFailClear u t) := .done h.atF.doFailClear
theorem Keeps.doFailClearApply (h : Keeps m s t) : Keeps m s t.doFailClearApply := .ite h.failClear h
theorem Keeps.doFailDump (h : Keeps m s t) : Keeps m s t.doFailDump := h.ifOn (fun h' => .ite h' h'.setFail.set)
theorem Ends.execFailDump {u : Sub} (h : Keeps m s t) : Ends m s (execFailDump u t) := .done h.atF.doFailDump
theorem Keeps.dumpSend {n : Nat} (h : Keeps m s t) : Keeps m s (State.dumpSend n t) := by
  induction n generalizing t with
  | zero => exact h
  | succ n ih =>
    unfold State.dumpSend
    split
    · exact h
    · exact .ite (ih h.setFail.sendFH) h
theorem Keeps.failForward (h : Keeps m s t) : Keeps m s t.failForward := .ite (h.setFail.foldl .sendFH) (.satCount (h.setFail.foldl .sendFH))
theorem Keeps.doDumpDone (h : Keeps m s t) : Keeps m s t.doDumpDone := .ite h.set.failEvt h
theorem Ends.execDumpDone {u : Sub} (h : Keeps m s t) : Ends m s (execDumpDone u t) := by
  unfold Machine.execDumpDone
  extract_lets
  exact .done h.atF.dumpSend.doDumpDone
theorem Keeps.doFwdMax {n : Nat} (h : Keeps m s t) : Keeps m s (t.doFwdMax n) :=
  h.ifOn (fun h' => .ite h' (.ite (h'.submit h'.set) (.set (h'.submit h'.set))))
theorem Ends.execFwdMaxWrite {u : Sub} {n : Fin 256} (h : Keeps m s t) : Ends m s (execFwdMaxWrite u n t) := .done h.atF.doFwdMax
theorem Keeps.doFailClrStats (h : Keeps m s t) : Keeps m s t.doFailClrStats := h.ifOn .put
theorem Ends.execSeqFailClrStats (h : Keeps m s t) : Ends m s (execSeqFailClrStats t) := .done h.doFailClrStats

end Sys2Proof.Machine
end

section
/-! PROOFS. What keeps the canonical forms and the time (R61, R69, R71): the sequencer, Tally, triggers, the compare engine and metrology. -/

namespace Sys2Proof.Machine

variable {m : Prop} {s t : State}

/-! ### What the commands of the sequencer share (R132–R156) -/

theorem Keeps.tsWrite {a : Nat} {v : Word} (h : Keeps m s t) : Keeps m s (t.tsWrite a v) := h.seq.wr
theorem Keeps.setSeq {q : SeqSt} (h : Keeps m s t) : Keeps m s (t.setSeq q) := h.seq
theorem Keeps.afterStep (h : Keeps m s t) : Keeps m s t.afterStep := .ite h.setSeq h
theorem Keeps.issue {i : Inst} (h : Keeps m s t) : Keeps m s (t.issue i) := h.setSeq.set.set.afterStep
theorem Keeps.enabledOff (h : Keeps m s t) : Keeps m s t.enabledOff := h.foldl .driverOff
theorem Keeps.seqArrive {st cause : Nat} (h : Keeps m s t) : Keeps m s (t.seqArrive st cause) :=
  .ite h.setSeq.set.set (.seqEnterHalt (.setSeq (.set (.put64 (.ite h.enabledOff h)))))
theorem Keeps.seqSettle (h : Keeps m s t) : Keeps m s t.seqSettle := by
  unfold State.seqSettle
  extract_lets _ _ _ s2
  have h1 : Keeps m s s2 := .set (.ite h.pinSettle.set h.pinSettle)
  split
  · exact .ite h1.seqArrive h1
  · exact h1
theorem Keeps.atSeq {u : Sub} (h : Keeps m s t) : Keeps m s (t.atSeq u) := h.atF.seqSettle
theorem Keeps.seqEnd {st cause : Nat} (h : Keeps m s t) : Keeps m s (t.seqEnd st cause) := h.setSeq.seqSettle
theorem Keeps.cutPipe (h : Keeps m s t) : Keeps m s t.cutPipe := by
  unfold State.cutPipe
  extract_lets
  split
  · exact h
  · exact .ite h h.setSeq
theorem Keeps.stackError {cause : Nat} (h : Keeps m s t) : Keeps m s (t.stackError cause) := h.setSeq.set.fieldFault.seqEnd
theorem Keeps.loopDecide {f : LoopFrame} (h : Keeps m s t) : Keeps m s (t.loopDecide f) := .ite h.setSeq h.setSeq
theorem Keeps.setFlags {fset fclr at_ : Nat} (h : Keeps m s t) : Keeps m s (t.setFlags fset fclr at_) :=
  h.put.foldl (fun h' => .ite h' (.ite h'.sourceLevel.sourceEvent h'.sourceLevel))
theorem Keeps.genTrigger {g sel at_ : Nat} (h : Keeps m s t) : Keeps m s (t.genTrigger g sel at_) := by
  unfold State.genTrigger
  extract_lets
  split
  · exact .ite h.setGen h
  · exact h
theorem Keeps.genStepRequest {mask at_ : Nat} (h : Keeps m s t) : Keeps m s (t.genStepRequest mask at_) := h.foldl .genTrigger
theorem Keeps.dispatch {v : Vec} (h : Keeps m s t) : Keeps m s (t.dispatch v) := h.put64.set.setSeq
theorem Keeps.sendRsp {tag status : Nat} {ws : List Word} (h : Keeps m s t) : Keeps m s (t.sendRsp tag status ws) := h.sendFH

/-! ### Tally (R257–R265) -/

theorem Keeps.tlyRefuse {t0 : TallyUnit} {reason : Nat} (h : Keeps m s t) : Keeps m s (t.tlyRefuse t0 reason) := h.set.tlyEvt
theorem Keeps.doTallyEnable {t0 : TallyUnit} {v : Word} (h : Keeps m s t) : Keeps m s (t.doTallyEnable t0 v) := by
  unfold State.doTallyEnable
  refine .ifOn h (fun h' => ?_)
  extract_lets _ _ r
  have h1 : Keeps m s r.1 := h'.wr.submit h'.wr.set
  exact .ite h' (.ite h'.wr (.ite h'.wr.tlyRefuse (.ite h'.wr.tlyRefuse (.ite h1 h1.tlyRefuse))))
theorem Ends.execTallyEnable {u : Sub} {t0 : TallyUnit} {v : Word} (h : Keeps m s t) : Ends m s (execTallyEnable u t0 v t) := .done h.atF.doTallyEnable
theorem Keeps.tallyStart {t0 : TallyUnit} (h : Keeps m s t) : Keeps m s (t.tallyStart t0) := by
  unfold State.tallyStart
  refine .ite ?_ h
  split
  · exact h.setHist
  · exact h.setMap
theorem Keeps.tallyStop {t0 : TallyUnit} (h : Keeps m s t) : Keeps m s (t.tallyStop t0) := by
  unfold State.tallyStop
  extract_lets
  refine .ite ?_ h
  split
  · exact .ite h.set.releaseBudget.setHist h.set.releaseBudget
  · exact .ite h.set.releaseBudget.setMap h.set.releaseBudget
theorem Keeps.tallyStopAll (h : Keeps m s t) : Keeps m s t.tallyStopAll := h.foldl .tallyStop
theorem Keeps.doTallyClear {t0 : TallyUnit} (h : Keeps m s t) : Keeps m s (t.doTallyClear t0) := by
  unfold State.doTallyClear
  refine .ifOn h (fun h' => ?_)
  split
  · exact h'.putAll.setHist
  · exact h'.putAll.setMap
theorem Ends.execTallyClear {u : Sub} {t0 : TallyUnit} (h : Keeps m s t) : Ends m s (execTallyClear u t0 t) := .done h.atF.doTallyClear
theorem Keeps.doTallySnap (h : Keeps m s t) : Keeps m s t.doTallySnap := by
  unfold State.doTallySnap
  refine .ifOn h (fun h' => ?_)
  refine h'.foldl fun h'' => ?_
  split
  · exact .ite h''.setHist h''
  · exact .ite h''.setMap h''
theorem Ends.execTallySnap {u : Sub} (h : Keeps m s t) : Ends m s (execTallySnap u t) := .done h.atF.doTallySnap
theorem Keeps.doTallySnapshot {t0 : TallyUnit} (h : Keeps m s t) : Keeps m s (t.doTallySnapshot t0) := by
  unfold State.doTallySnapshot
  refine .ite h ?_
  split
  · exact .ite (.ite h.setHist.set h.setHist) h
  · exact .ite (.ite h.setMap.set h.setMap) h
theorem Keeps.histSend {h0 lane : Nat} {k : HeldSnap} (h : Keeps m s t) : Keeps m s (t.histSend h0 lane k) := by
  unfold State.histSend
  extract_lets _ _ _ _ _ _ _ s3
  have h1 : Keeps m s s3 := .tlyEvt (.setHist (.ite h.sendFH.put h.sendFH))
  exact .ite h1.setHist.stopEntry h1
theorem Keeps.mapSend {m0 : Nat} {k : HeldSnap} (h : Keeps m s t) : Keeps m s (t.mapSend m0 k) := by
  unfold State.mapSend
  extract_lets _ _ _ _ one _ _ _ s3
  have hone : ∀ {t x1}, Keeps m s t → Keeps m s (one t x1) := fun h' => h'.sendFH
  have h1 : Keeps m s s3 := .tlyEvt (.setMap (.ite (.put (h.foldl (fun h' => hone h'))) (h.foldl (fun h' => hone h'))))
  exact .ite h1.setMap.stopEntry h1
theorem Keeps.binsFull {unit satReg n : Nat} {already : Bool} (h : Keeps m s t) : Keeps m s (t.binsFull unit satReg n already) :=
  .ite h (.ite h.put h.put.tlyEvt)
theorem Keeps.histMerge {h0 : Nat} {xs : List Smp} (h : Keeps m s t) : Keeps m s (t.histMerge h0 xs) := .ite h h.setHist.wrapCount64.tlyCount.binsFull
theorem Keeps.mapMerge {m0 : Nat} {old xs : List Smp} (h : Keeps m s t) : Keeps m s (t.mapMerge m0 old xs) := h.setMap.tlyCount.binsFull
theorem Keeps.histTurn {h0 : Nat} (h : Keeps m s t) : Keeps m s (t.histTurn h0) := by
  unfold State.histTurn
  extract_lets
  refine .ite h ?_
  split
  · exact h.setHist.histMerge
  · exact .ite (.ite h.setHist.histMerge.histSend h.setHist.histMerge.histSend.histMerge) h.setHist.histMerge.setHist
theorem Keeps.mapKeep {m0 : Nat} {all : List Smp} (h : Keeps m s t) : Keeps m s (t.mapKeep m0 all) := h.setMap
theorem Keeps.mapTurn {m0 : Nat} (h : Keeps m s t) : Keeps m s (t.mapTurn m0) := by
  unfold State.mapTurn
  extract_lets
  refine .ite h ?_
  split
  · exact h.setMap.mapMerge.mapKeep
  · extract_lets _ _ s1 s2 s21
    have h1 : Keeps m s s1 := h.setMap.mapMerge
    have h2 : Keeps m s s2 := h1.mapSend
    have h3 : Keeps m s s21 := h1.mapKeep
    exact .ite (.ite h2 h2.mapMerge.mapKeep) h3.setMap
theorem Keeps.doTallyMerge (h : Keeps m s t) : Keeps m s t.doTallyMerge := .foldl (h.foldl .histTurn) .mapTurn
theorem Keeps.sweepStart {m0 stamp : Nat} (h : Keeps m s t) : Keeps m s (t.sweepStart m0 stamp) := .ite h (.ite h.tlyCount h.setMap)
theorem Keeps.tickSweeps (h : Keeps m s t) : Keeps m s t.tickSweeps := h.foldl (fun h' => .ite h'.sweepStart h')
theorem Keeps.doSweepEnd {m0 : Nat} (h : Keeps m s t) : Keeps m s (t.doSweepEnd m0) := by
  unfold State.doSweepEnd
  extract_lets
  split
  · exact h
  · exact h.setMap.tlyCount

/-! ### The trigger unit (R231–R244) -/

theorem Keeps.doTrigIn {i : Nat} {rising : Bool} (h : Keeps m s t) : Keeps m s (t.doTrigIn i rising) :=
  .ite h (.ite h.acq.sourceLevel.sourceEvent h.acq.sourceLevel)
theorem Ends.execHostTrig {u : Sub} (h : Keeps m s t) : Ends m s (execHostTrig u t) := by
  unfold Machine.execHostTrig
  extract_lets
  exact .done (h.atF.ifOn .sourceEvent)
theorem Keeps.fireConsumers {c : Nat} {f : Firing} (h : Keeps m s t) : Keeps m s (t.fireConsumers c f) := by
  unfold State.fireConsumers
  extract_lets _ _ _ _ s4
  have h1 : Keeps m s s4 := .burstFire (.foldl (.ite h.sourceEvent.seq h.sourceEvent) .genTrigger)
  refine .foldl (.foldl (h1.foldl (fun h' => .ite h'.groupFire h')) (fun h' => .ite h'.sweepStart h')) fun h' => ?_
  exact .ite h'.setPair h'
theorem Keeps.fire {c : Nat} {f : Firing} (h : Keeps m s t) : Keeps m s (t.fire c f) := by
  unfold State.fire
  extract_lets _ _ _ _ _ _ _ s4
  have h1 : Keeps m s s4 := h.setComb.acqCount.replaceResult.put.set.set.sourceLevel
  exact .fireConsumers (.ite h1.acqEvt h1)
theorem Keeps.held {c n : Nat} (h : Keeps m s t) : Keeps m s (t.held c n) := .ite h h.acqCount
theorem Keeps.complete {c : Nat} {e : SrcEvt} {cyc : Nat} (h : Keeps m s t) : Keeps m s (t.complete c e cyc) := .ite h.setComb.held h.fire
theorem Keeps.combCycle {c cyc : Nat} {es : List SrcEvt} (h : Keeps m s t) : Keeps m s (t.combCycle c cyc es) := by
  unfold State.combCycle
  extract_lets _ _ _ _ _ s1
  have h1 : Keeps m s s1 := by
    unfold s1
    split
    · exact .ite h.complete.held h
    · exact h
  refine .ite ?_ ?_
  · split
    · exact h
    · exact h.complete.held
  · split
    · exact h1.setComb
    · exact h1
theorem Keeps.combRun {c n : Nat} (h : Keeps m s t) : Keeps m s (State.combRun c n t) := by
  induction n generalizing t with
  | zero => exact h
  | succ n ih =>
    unfold State.combRun
    extract_lets _ due
    clear_value due
    cases due with
    | nil => exact h
    | cons e r => exact ih h.setComb.combCycle
theorem Ends.execCombinerFire {u : Sub} {c : Idx16} (h : Keeps m s t) : Ends m s (execCombinerFire u c t) := by
  unfold Machine.execCombinerFire
  extract_lets
  exact .done h.atF.combRun
theorem Keeps.doHoldoffExpiry {c : Nat} (h : Keeps m s t) : Keeps m s (t.doHoldoffExpiry c) := .ite h.setComb h
theorem Keeps.doSeqWindowExpiry {c : Nat} (h : Keeps m s t) : Keeps m s (t.doSeqWindowExpiry c) := .ite h.setComb h
theorem Keeps.combFall {c at_ : Nat} (h : Keeps m s t) : Keeps m s (t.combFall c at_) := .ite h.set.sourceLevel h
theorem Keeps.doCombLevelFall {c : Nat} (h : Keeps m s t) : Keeps m s (t.doCombLevelFall c) := .ite h.combFall h
theorem Ends.execCombRearm {u : Sub} {c : Idx16} (h : Keeps m s t) : Ends m s (execCombRearm u c t) := .done (h.atF.ifOn .setComb)
theorem Ends.execCombClrStats {u : Sub} {c : Idx16} (h : Keeps m s t) : Ends m s (execCombClrStats u c t) := .done (h.atF.ifOn (fun h' => h'.put.put))
theorem Keeps.combEffect {c : Nat} (h : Keeps m s t) : Keeps m s (t.combEffect c) :=
  .ite (.put (.setComb (.combFall (.ite h.set.acqRefuse h)))) (.setComb (.combFall (.ite h.set.acqRefuse h)))
theorem Keeps.ltrigEffect {l : Nat} (h : Keeps m s t) : Keeps m s (t.ltrigEffect l) := .setLtrig (.sourceLevel (.ite h.set.acqRefuse h))
theorem Keeps.peEffect {k : Nat} (h : Keeps m s t) : Keeps m s (t.peEffect k) := h.setPe.sourceLevel
theorem Keeps.doAcqConfigEffect (h : Keeps m s t) : Keeps m s t.doAcqConfigEffect := by
  unfold State.doAcqConfigEffect
  extract_lets
  refine .ite ?_ h
  refine .foldl (.foldl (h.foldl (fun h' => .ite h'.ltrigEffect h')) (fun h' => .ite h'.peEffect h')) fun h' => ?_
  exact .ite h'.combEffect h'

/-! ### The compare engine (R266–R289) -/

theorem Keeps.pairRefuse {p reason : Nat} (h : Keeps m s t) : Keeps m s (t.pairRefuse p reason) := h.set.set.set.cmpEvt
theorem Keeps.doPairEnable {p : Nat} (h : Keeps m s t) : Keeps m s (t.doPairEnable p) := by
  unfold State.doPairEnable
  refine .ifOn h (fun h' => ?_)
  extract_lets _ r
  have h1 : Keeps m s r.1 := h'.put.submit h'.put.set
  refine .ite h' ?_
  exact .ite h'.pairRefuse (.ite h'.pairRefuse (.ite h'.pairRefuse (.ite h'.pairRefuse (.ite h1 h1.pairRefuse))))
theorem Ends.execPairEnable {u : Sub} {p : PairNo} (h : Keeps m s t) : Ends m s (execPairEnable u p t) := .done h.atF.doPairEnable
theorem Keeps.pairRun {p : Nat} {at_ l : Int} (h : Keeps m s t) : Keeps m s (t.pairRun p at_ l) := h.setPair.put.pairState
theorem Keeps.pairStart {p : Nat} (h : Keeps m s t) : Keeps m s (t.pairStart p) := by
  unfold State.pairStart
  extract_lets _ _ _ absent s2
  have habsent : ∀ {t x1}, Keeps m s t → Keeps m s (absent t x1) := fun h' => .ite h'.sideAbsent h'
  have h1 : Keeps m s s2 := habsent (habsent h.setPair.put.set)
  refine .ite ?_ h
  split
  · exact h1.pairRun
  · exact h1.pairState
  · exact .ite h1.pairRun h1.pairState
theorem Keeps.pairSkip {p : Nat} (h : Keeps m s t) : Keeps m s (t.pairSkip p) := h.cmpCount
theorem Keeps.pairDecide {p : Nat} (h : Keeps m s t) : Keeps m s (t.pairDecide p) := h.setPair
theorem Keeps.pairMatch {p : Nat} (h : Keeps m s t) : Keeps m s (t.pairMatch p) := h.setPair.wrapCount64
theorem Keeps.runEnds {p : Nat} {at_ : Int} (h : Keeps m s t) : Keeps m s (t.runEnds p at_) := .ite h.setPair.cmpRecord h.setPair
theorem Keeps.runFails {p cause : Nat} {d : Int} {r c : CItem} (h : Keeps m s t) : Keeps m s (t.runFails p cause d r c) := .ite h.setPair.cmpRecord h.setPair
theorem Tries.edgeStep {p : Nat} {limit : Option Int} (h : Keeps m s t) : Tries m s (t.edgeStep p limit) := by
  unfold State.edgeStep
  extract_lets _ _ _ _ _ s0
  have h0 : Keeps m s s0 := h.setPair
  split
  · exact .none
  · refine .ite .none ?_
    extract_lets
    split
    · refine .ite (.some h0.setPair.pairSkip) ?_
      split
      · exact .some h0.setPair.pairDecide.pairMatch
      · exact .some h0.setPair.pairDecide
    · refine .ite (.some h0.setPair.pairSkip) ?_
      split
      · exact .some h0.setPair.pairDecide.cmpRecord
      · exact .some h0.setPair.pairDecide.cmpRecord
    · exact .ite (.some h0.setPair.pairSkip) (.some h0.setPair.pairDecide.cmpRecord)
    · exact .none
theorem Tries.stateStep {p : Nat} {limit : Option Int} (h : Keeps m s t) : Tries m s (t.stateStep p limit) := by
  unfold State.stateStep
  extract_lets
  split
  · exact .none
  · extract_lets _ _ _ _ _ s1
    have h1 : Keeps m s s1 := h.setPair
    refine .ite .none ?_
    split
    · exact .some h1.runEnds.pairSkip
    · exact .ite (.some h1.pairSkip) (.ite (.some h1.pairDecide.pairMatch.runEnds) (.some h1.pairDecide.runFails))
theorem Tries.bandStep {p : Nat} {limit : Option Int} (h : Keeps m s t) : Tries m s (t.bandStep p limit) := by
  unfold State.bandStep
  extract_lets
  split
  · exact .none
  · extract_lets _ _ s1
    have h1 : Keeps m s s1 := h.setPair
    refine .ite .none ?_
    split
    · exact .some h1.runEnds.pairSkip
    · exact .some h1.pairSkip
    · exact .ite (.some h1.pairDecide.pairMatch.runEnds) (.some h1.pairDecide.runFails)
theorem Tries.pairStep {p : Nat} {limit : Option Int} (h : Keeps m s t) : Tries m s (t.pairStep p limit) := by
  unfold State.pairStep
  split
  · exact .edgeStep h
  · exact .stateStep h
  · exact .bandStep h
theorem Keeps.pairFinish {p : Nat} (h : Keeps m s t) : Keeps m s (t.pairFinish p) := by
  unfold State.pairFinish
  extract_lets
  split
  · exact h
  · exact .ite h.pairState.cmpEvt h
theorem Keeps.doCompareDecision {p : Nat} (h : Keeps m s t) : Keeps m s (t.doCompareDecision p) := .ite (.pairFinish (.getD (.pairStep h) h)) h
theorem Keeps.pairSteps {p n : Nat} {limit : Int} (h : Keeps m s t) : Keeps m s (State.pairSteps p limit n t) := by
  induction n generalizing t with
  | zero => exact h
  | succ n ih =>
    unfold State.pairSteps
    split
    case h_1 v hv => exact ih (Tries.pairStep h v hv)
    case h_2 => exact h
theorem Keeps.pairStop {p : Nat} (h : Keeps m s t) : Keeps m s (t.pairStop p) := by
  unfold State.pairStop
  extract_lets
  refine .ite ?_ h
  refine .ite h.set.releaseBudget ?_
  exact .stopEntry (.setPair (.set (.pairState (.cmpRecord (.ite h.set.releaseBudget.pairSteps h.set.releaseBudget)))))
theorem Keeps.pairStopAll (h : Keeps m s t) : Keeps m s t.pairStopAll := h.foldl .pairStop
theorem Ends.execPairDisable {u : Sub} {p : PairNo} {env : List LaneIn} (h : Keeps m s t) : Ends m s (execPairDisable u p env t) :=
  .done (h.takeSamples.atF.ifOn .pairStop)
theorem Keeps.doLearnFreeze {p : Nat} (h : Keeps m s t) : Keeps m s (t.doLearnFreeze p) :=
  .ite (.ite h.set.set.set.pairRun.cmpRecord.cmpEvt h.set.set.set.pairState.setPair.cmpRecord.cmpEvt) h
theorem Keeps.doRelearn {p : Nat} (h : Keeps m s t) : Keeps m s (t.doRelearn p) := h.ifOn (fun h' => .ite h'.setPair h')
theorem Ends.execRelearn {u : Sub} {p : PairNo} (h : Keeps m s t) : Ends m s (execRelearn u p t) := .done h.atF.doRelearn
theorem Keeps.doRelearnStart {p : Nat} (h : Keeps m s t) : Keeps m s (t.doRelearnStart p) := .ite h.pairState.setPair h
theorem Keeps.doLatencyFollow {p : Nat} (h : Keeps m s t) : Keeps m s (t.doLatencyFollow p) := .ite (.ite h.pairRun (.ite h.put h)) h
theorem Keeps.refBroken {p addr : Nat} (h : Keeps m s t) : Keeps m s (t.refBroken p addr) := h.pairState.cmpEvt.cmpRecord
theorem Keeps.refGapEnds {p : Nat} (h : Keeps m s t) : Keeps m s (t.refGapEnds p) := by
  unfold State.refGapEnds
  extract_lets
  split
  · exact h
  · exact h.closeSpan.cmpCount.setPair.cmpRecord
theorem Keeps.refTake {p : Nat} {r : RefRec} (h : Keeps m s t) : Keeps m s (t.refTake p r) := .ite h.setPair (h.setPair.foldl .pairItem)
theorem Keeps.doReferenceRead {p : Nat} {late : Bool} (h : Keeps m s t) : Keeps m s (t.doReferenceRead p late) := by
  unfold State.doReferenceRead
  extract_lets
  refine .ite ?_ h
  split
  · exact .ite h.refAbsent.setPair h
  · exact .ite h.setPair (.ite h.refBroken (.ite h.refGapEnds.refTake h.refGapEnds))
theorem Keeps.doReplayResume (h : Keeps m s t) : Keeps m s t.doReplayResume := by
  unfold State.doReplayResume
  extract_lets
  split
  · exact h
  · exact .ite (h.cmp.cmpCount.foldl (fun h' => .ite h' h'.sideBack)) h
theorem Keeps.doOverflow {p : Nat} (h : Keeps m s t) : Keeps m s (t.doOverflow p) := by
  unfold State.doOverflow
  extract_lets _ one
  have hone : ∀ {t x1}, Keeps m s t → Keeps m s (one t x1) := by
    intro t x1 h'
    unfold one
    split
    · exact h'.closeSpan.sideKnown
    · exact h'
  exact .ite (.cmpRecord (.setPair (hone (hone h)))) h
theorem Keeps.doRplWrite {k : Nat} {v : Word} (h : Keeps m s t) : Keeps m s (t.doRplWrite k v) := h.ifOn (fun h' => .ite h' h'.wr)
theorem Ends.execCmpRplWrite {u : Sub} {k : Fin 6} {v : Word} (h : Keeps m s t) : Ends m s (execCmpRplWrite u k v t) := .done h.atF.doRplWrite
theorem Ends.execCmpClrStats {u : Sub} (h : Keeps m s t) : Ends m s (execCmpClrStats u t) := .done (h.atF.ifOn .putAll)
theorem Ends.execCmpPClrStats {u : Sub} {p : PairNo} (h : Keeps m s t) : Ends m s (execCmpPClrStats u p t) := .done (h.atF.ifOn .putAll)

/-! ### The metrology converter (R306–R315) -/

theorem Keeps.setMet {x : MetSt} (h : Keeps m s t) : Keeps m s (t.setMet x) := h.met
theorem Keeps.metEvt {f : Fld} {code b16 : Nat} (h : Keeps m s t) : Keeps m s (t.metEvt f code b16) := h.set.fieldEvent
theorem Keeps.metEvtL {f : Fld} {code b16 : Nat} (h : Keeps m s t) : Keeps m s (t.metEvtL f code b16) := h.metEvt.ledgerF
theorem Keeps.metCount {a n : Nat} (h : Keeps m s t) : Keeps m s (t.metCount a n) := .ite h.satCount.metEvt h.satCount
theorem Keeps.setDue {new : Nat} (h : Keeps m s t) : Keeps m s (t.setDue new) := h.set.set.foldl (fun h' => .ite h' h'.metEvtL)
theorem Keeps.setDueBit {b : Nat} {v : Bool} (h : Keeps m s t) : Keeps m s (t.setDueBit b v) := .ite h h.setDue
theorem Keeps.showLine (h : Keeps m s t) : Keeps m s t.showLine := h.set
theorem Keeps.mcShow (h : Keeps m s t) : Keeps m s t.mcShow := h.set.set.set
theorem Keeps.convStart (h : Keeps m s t) : Keeps m s t.convStart := .ite h.set.set.setMet.mcShow h.setMet.showLine.mcShow
theorem Keeps.convKick (h : Keeps m s t) : Keeps m s t.convKick := .ite h.convStart h
theorem Keeps.doMcStart (h : Keeps m s t) : Keeps m s t.doMcStart := h.ifOn (fun h' => .ite h'.set h'.setMet.convKick)
theorem Ends.execMcStart {u : Sub} (h : Keeps m s t) : Ends m s (execMcStart u t) := .done h.atF.doMcStart
theorem Keeps.doMcCont (h : Keeps m s t) : Keeps m s t.doMcCont := h.ifOn (fun h' => .ite h' (.ite h'.set h'.set.convKick))
theorem Ends.execMcCont {u : Sub} (h : Keeps m s t) : Ends m s (execMcCont u t) := .done h.atF.doMcCont
theorem Keeps.doMcAbort (h : Keeps m s t) : Keeps m s t.doMcAbort := h.ifOn (fun h' => .ite h'.setMet.mcShow.convKick h'.setMet.mcShow)
theorem Ends.execMcAbort {u : Sub} (h : Keeps m s t) : Ends m s (execMcAbort u t) := .done h.atF.doMcAbort
theorem Keeps.mcChanged (h : Keeps m s t) : Keeps m s t.mcChanged := h.setMet.mcShow
theorem Keeps.metResult {c : ConvSt} {code : Int} {ovr : Bool} (h : Keeps m s t) : Keeps m s (t.metResult c code ovr) :=
  .ite h.replaceResult.replaceResult.metEvt h.replaceResult.replaceResult.set
theorem Keeps.hkStart (h : Keeps m s t) : Keeps m s t.hkStart := h.set.setMet
theorem Keeps.doConversionDone {code : Int} (h : Keeps m s t) : Keeps m s (t.doConversionDone code) := by
  unfold State.doConversionDone
  extract_lets
  split
  · exact h
  · extract_lets _ _ _ _ s2 _ s3
    have h1 : Keeps m s s2 := .ite h.setMet.metResult h.setMet
    have h2 : Keeps m s s3 := .ite h1.setMet h1
    exact .ite (.ite h2.hkStart.mcShow (.ite h2.convKick h2.mcShow)) h
theorem Keeps.doLineEdge (h : Keeps m s t) : Keeps m s t.doLineEdge := by
  unfold State.doLineEdge
  extract_lets
  refine .ite ?_ h
  split
  · exact h.setMet
  · extract_lets _ s1 t1
    have h1 : Keeps m s s1 := h.setMet.setMet
    have h2 : Keeps m s t1 := h1.set.set.showLine
    exact .ite (.ite (.ite h2.mcChanged h2) h1) h.setMet
theorem Keeps.doLineLost (h : Keeps m s t) : Keeps m s t.doLineLost := .ite h.set.set.showLine.mcChanged.metEvt h
theorem Keeps.doRefbufOn (h : Keeps m s t) : Keeps m s t.doRefbufOn := h.ifOn (fun h' => .ite h' h'.set.set.setMet)
theorem Ends.execRefbufOn {u : Sub} (h : Keeps m s t) : Ends m s (execRefbufOn u t) := .done h.atF.doRefbufOn
theorem Keeps.doRefReady (h : Keeps m s t) : Keeps m s t.doRefReady := .ite h.set.set.metEvt h
theorem Keeps.refTick (h : Keeps m s t) : Keeps m s t.refTick := .ite h.set h
theorem Keeps.refbufOff (h : Keeps m s t) : Keeps m s t.refbufOff := .ite h.set.set.set.setMet.calAbort h
theorem Ends.execRefbufOff {u : Sub} (h : Keeps m s t) : Ends m s (execRefbufOff u t) := .done (h.atF.ifOn .refbufOff)
theorem Keeps.doHkScanStart (h : Keeps m s t) : Keeps m s t.doHkScanStart := .ite (.ite h.setMet h.hkStart) h
theorem Keeps.bankTrigger (h : Keeps m s t) : Keeps m s t.bankTrigger := .ite h.setMet h.setMet
theorem Keeps.newTm {tm : Int} (h : Keeps m s t) : Keeps m s (t.newTm tm) := .ite h.put.setDueBit.bankTrigger h.put.setDueBit
theorem Keeps.refReading {v : Int} (h : Keeps m s t) : Keeps m s (t.refReading v) := .ite h.setMet.set (.ite h.setMet.set h.setMet)
theorem Keeps.doHkScanDone {temps : List Int} {refuv : Option Int} (h : Keeps m s t) : Keeps m s (t.doHkScanDone temps refuv) := by
  unfold State.doHkScanDone
  extract_lets _ watch _ _ s1 s2 s3
  have h1 : Keeps m s s1 := h.set.foldl fun h' => .ite h'.put h'
  have h2 : Keeps m s s2 := .ite h1.newTm h1
  have h3 : Keeps m s s3 := by
    unfold s3
    clear_value s2 watch
    split
    · exact h2.refReading
    · exact h2
  exact .ite (.ite h3.convKick h3.mcShow) h
theorem Keeps.ddacSet {en : Nat} (h : Keeps m s t) : Keeps m s (t.ddacSet en) := .ite h h.set.setLane.ledgerF
theorem Keeps.doDdacEnable {v : Word} (h : Keeps m s t) : Keeps m s (t.doDdacEnable v) := by
  unfold State.doDdacEnable
  extract_lets
  refine .ifOn h (fun h' => ?_)
  extract_lets _ _ s1
  have h1 : Keeps m s s1 := .set (.set (.ite h'.ddacSet h'))
  exact .ite h1.ddacSet (.ite h1.ddacSet h1)
theorem Ends.execDdacEnable {u : Sub} {v : Word} (h : Keeps m s t) : Ends m s (execDdacEnable u v t) := .done h.atF.doDdacEnable

/-! ### Calibration runs and correction sets (R316–R326) -/

theorem Keeps.dueSets (h : Keeps m s t) : Keeps m s t.dueSets := h.setDueBit.setDueBit
theorem Keeps.bankBuild {tb : Int} (h : Keeps m s t) : Keeps m s (t.bankBuild tb).2 := by
  unfold State.bankBuild
  extract_lets _ _ _ _ w
  show Keeps m s w.2.2.2
  unfold w
  split
  · exact h
  · exact h
  · exact h.fresh
  · exact h
theorem Keeps.doBankReady (h : Keeps m s t) : Keeps m s t.doBankReady := by
  unfold State.doBankReady
  split
  · exact .ite h.bankBuild.setMet.setMet.bankTrigger.setMet h.bankBuild.setMet
  · exact h
theorem Keeps.levelsAgain {p : Port} (h : Keeps m s t) : Keeps m s (t.levelsAgain p) := h.set.setPod
theorem Keeps.bankDeskew {accepted : Bool} {runs : List (Nat × List Nat)} (h : Keeps m s t) : Keeps m s (t.bankDeskew accepted runs) := by
  unfold State.bankDeskew
  refine h.foldl fun h' => ?_
  refine .ite h'.deskewLane ?_
  refine .ite ?_ h'
  split
  · exact h'.deskewRemote
  · exact h'
theorem Keeps.doBankSwap (h : Keeps m s t) : Keeps m s t.doBankSwap := by
  unfold State.doBankSwap
  extract_lets
  split
  · extract_lets _ _ _ s4 s5
    have h1 : Keeps m s s4 := .foldl (h.bank.setMet.put.put.put.foldl .showIlv) (fun h' => .ite h'.levelsAgain h')
    have h2 : Keeps m s s5 := h1.bankDeskew
    exact .ite (.dueSets (.metEvtL (.sendFH (.ite h2.replaceResult h2)))) h
  · exact h
theorem Keeps.runRequest (h : Keeps m s t) : Keeps m s t.runRequest := .ite h.set h.set.set.setMet
theorem Ends.execCalRun {u : Sub} (h : Keeps m s t) : Ends m s (execCalRun u t) := .done (h.atF.ifOn .runRequest)
theorem Keeps.doCalAutoStart (h : Keeps m s t) : Keeps m s t.doCalAutoStart := .ite h.runRequest h
theorem Keeps.runFinish {res : Nat} {temp : Int} {items : Nat} (h : Keeps m s t) : Keeps m s (t.runFinish res temp items) := by
  unfold State.runFinish
  extract_lets _ _ _ _ _ _ _ s5
  have h1 : Keeps m s s5 := .same (.metEvt (.sendFH (h.set.set.set.set.set.foldl (fun h' => .ite h'.setLane h'))))
  exact .ite h1.convKick h1
theorem Keeps.runStart (h : Keeps m s t) : Keeps m s t.runStart := by
  unfold State.runStart
  extract_lets _ _ _ s2
  have h1 : Keeps m s s2 := h.setMet.metEvtL
  exact .ite (.ite h1.runFinish (h1.set.set.setMet.set.mcShow.foldl (fun h' => .ite h'.laneGap.setLane h'))) h
theorem Keeps.readbackWindow {dacs : List (Nat × Int)} {w : Nat} (h : Keeps m s t) : Keeps m s (t.readbackWindow dacs w) :=
  .ite h (.ite h.set.winEvent.fieldFault h.set)
theorem Keeps.runAccept {items : List CalItem} {temp : Int} {deskew : List (Nat × List Nat)} (h : Keeps m s t) : Keeps m s (t.runAccept items temp deskew) :=
  .dueSets (.bankTrigger (.setDueBit (.setDueBit (h.metCount.put.setMet.foldl .sendFH))))
theorem Keeps.doCalRunEnd {r : CalRun} (h : Keeps m s t) : Keeps m s (t.doCalRunEnd r) := by
  unfold State.doCalRunEnd
  extract_lets _ _ _ _ _ s3
  have h1 : Keeps m s s3 := .newTm (.ite (.foldl (h.foldl .readbackWindow) .sendItem) (h.foldl .readbackWindow))
  refine .ite ?_ h
  split
  · exact .runFinish (.metCount (.ite h1.put.put h1))
  · exact h1.runAccept.runFinish
theorem Ends.execCalAbort {u : Sub} (h : Keeps m s t) : Ends m s (execCalAbort u t) := .done (h.atF.ifOn .calAbort)
theorem Keeps.doCalAbortDone {refLost : Bool} (h : Keeps m s t) : Keeps m s (t.doCalAbortDone refLost) := by
  unfold State.doCalAbortDone
  refine .ite h ?_
  split
  · exact h.runFinish
  · exact .ite h.set.runFinish h
theorem Keeps.doSetStoreTimeout (h : Keeps m s t) : Keeps m s t.doSetStoreTimeout := by
  unfold State.doSetStoreTimeout
  split
  · exact .ite h.setDueBit h
  · exact h
theorem Ends.execMetCalClrStats {u : Sub} (h : Keeps m s t) : Ends m s (execMetCalClrStats u t) := .done (h.atF.ifOn .put)
theorem Keeps.showSet {k : Nat} (h : Keeps m s t) : Keeps m s (t.showSet k) := by
  unfold State.showSet
  split
  · exact h.set.put.put
  · exact h.set.put.put
theorem Keeps.placeSet {k : Nat} {x : CalSet} (h : Keeps m s t) : Keeps m s (t.placeSet k x) := h.setMet.showSet.set
theorem Keeps.imageLoaded {k : Nat} {b : List Byte} (h : Keeps m s t) : Keeps m s (t.imageLoaded k b) :=
  .ite (.dueSets (.bankTrigger (.setDueBit (.ite h.placeSet.put.put h.placeSet)))) h.setMet.setDueBit
theorem Keeps.setDrop {k : Nat} (h : Keeps m s t) : Keeps m s (t.setDrop k) := .ite h.setMet.showSet.set.dueSets h.setMet.setDueBit
theorem Keeps.setStored {k : Nat} (h : Keeps m s t) : Keeps m s (t.setStored k) := by
  unfold State.setStored
  extract_lets _ s1 s2
  have h1 : Keeps m s s1 := by
    unfold s1
    split
    · exact h.setMet.placeSet
    · exact h.set
  have h2 : Keeps m s s2 := h1.setDueBit
  exact .ite h2.setMet.setDueBit h2
theorem Keeps.calBad {pl : List Byte} (h : Keeps m s t) : Keeps m s (t.calBad pl) := h.ledgerF
theorem Keeps.calToField {pl : List Byte} (h : Keeps m s t) : Keeps m s (t.calToField pl) := by
  unfold State.calToField
  extract_lets
  refine .ite h.calBad ?_
  split
  · split
    · exact .ite h.setMet.imageLoaded h.setMet
    · exact h.setMet
  · exact h.setDrop
  · exact h.setStored
  · exact h
theorem Keeps.imageStore {b : List Byte} (h : Keeps m s t) : Keeps m s (t.imageStore b) := h.setMet.ledgerH.sendHF
theorem Keeps.calToHost {pl : List Byte} (h : Keeps m s t) : Keeps m s (t.calToHost pl) := by
  unfold State.calToHost
  extract_lets
  refine .ite h.calBad ?_
  refine .ite ?_ h
  split
  · exact .ite h.setMet.imageStore h.setMet
  · exact h.setMet

/-! ### Availability (R449–R451) -/

theorem Keeps.availCount {a n : Nat} (h : Keeps m s t) : Keeps m s (t.availCount a n) := .ite h.put64.set h.put64
theorem Keeps.availTick {supply : Bool} (h : Keeps m s t) : Keeps m s (t.availTick supply) := .ite h.set (.ite h.set.avail h.set.availCount)
theorem Keeps.availNote {t0 : Nat} {f : TickRec → TickRec} (h : Keeps m s t) : Keeps m s (t.availNote t0 f) := h.avail
theorem Keeps.availGap {a b : Nat} (h : Keeps m s t) : Keeps m s (t.availGap a b) := h.avail
theorem Keeps.availYear (h : Keeps m s t) : Keeps m s t.availYear := h.put.put
theorem Keeps.availEpisodeEnd (h : Keeps m s t) : Keeps m s t.availEpisodeEnd := by
  unfold State.availEpisodeEnd
  extract_lets
  split
  · exact h
  · exact h.satCount.put.avail.set.ledgerH
theorem Keeps.availJudge1 {r : TickRec} (h : Keeps m s t) : Keeps m s (t.availJudge1 r) := by
  unfold State.availJudge1
  extract_lets _ s2 _ s3 _ _ _ s4
  have h1 : Keeps m s s2 := .ite h.availCount.availCount h.availCount
  have h2 : Keeps m s s3 := h1.availCount
  have h3 : Keeps m s s4 := by
    unfold s4
    split
    · exact .ite h2.avail h2.availEpisodeEnd.avail
    · exact h2.avail
  exact .ite h1.availCount.availEpisodeEnd h3.avail.set.set
theorem Keeps.availJudge {t0 : Nat} (h : Keeps m s t) : Keeps m s (t.availJudge t0) := .ite h.avail (.availYear (h.avail.foldl .availJudge1))
theorem Keeps.availClear (h : Keeps m s t) : Keeps m s t.availClear := .availYear (.avail (.putAll (h.foldl .put64)))

end Sys2Proof.Machine
end

section
/-! PROOFS. What keeps the canonical forms and the time (R61, R69, R71): the pods, the link of the barrier and the commands of the sequencer. -/

namespace Sys2Proof.Machine

variable {m : Prop} {s t : State}

/-! ### Pods (R329–R350) -/

theorem Keeps.podShow (h : Keeps m s t) : Keeps m s t.podShow := h.set.set.put
theorem Keeps.podState {q st : Nat} (h : Keeps m s t) : Keeps m s (t.podState q st) := .ite h h.set.set.podShow
theorem Keeps.podEvt {q : Nat} {f : Fld} {code : Nat} (h : Keeps m s t) : Keeps m s (t.podEvt q f code) := h.evt
theorem Keeps.podCount {q a n : Nat} (h : Keeps m s t) : Keeps m s (t.podCount q a n) := .ite h.satCount.set.podEvt h.satCount
theorem Keeps.slotSense {q : Nat} (h : Keeps m s t) : Keeps m s (t.slotSense q) := h.foldl .driverOff
theorem Keeps.showHeld {q : Nat} (h : Keeps m s t) : Keeps m s (t.showHeld q) := .ite h.set.slotSense h.set
theorem Keeps.podForget {q : Nat} (h : Keeps m s t) : Keeps m s (t.podForget q) := h.putAll.set.set.set
theorem Keeps.podGap {q : Nat} (h : Keeps m s t) : Keeps m s (t.podGap q) := .setMet (.link (.ite (h.foldl (fun h' => .ite h'.laneGap.setLane h')) h))
theorem Keeps.podUnrole {q : Nat} (h : Keeps m s t) : Keeps m s (t.podUnrole q) :=
  .ite (.foldl (h.foldl (fun h' => h'.set.set.setRole)) .set) (h.foldl (fun h' => h'.set.set.setRole))
theorem Keeps.podPowerOff {q : Nat} (h : Keeps m s t) : Keeps m s (t.podPowerOff q) := h.podForget.set.set.setPod.set.podShow.showHeld
theorem Keeps.podRefuse {q reason : Nat} {evt : Bool} (h : Keeps m s t) : Keeps m s (t.podRefuse q reason evt) := by
  unfold State.podRefuse
  extract_lets _ _ s3
  have h1 : Keeps m s s3 := .podEvt (.dueSets (.set (.podPowerOff (.ite h.podGap.podState.podUnrole h.podState))))
  exact .ite h1.fieldFault h1
theorem Keeps.podSend {q : Nat} {r : PodReq} (h : Keeps m s t) : Keeps m s (t.podSend q r) := h.setPod
theorem Keeps.podRelay {q tag cmd status : Nat} {pl : List Byte} (h : Keeps m s t) : Keeps m s (t.podRelay q tag cmd status pl) := h.sendFH
theorem Keeps.podStep {q step : Nat} (h : Keeps m s t) : Keeps m s (t.podStep q step) := h.setPod
theorem Keeps.podLost {q : Nat} (h : Keeps m s t) : Keeps m s (t.podLost q) := by
  unfold State.podLost
  extract_lets _ _ _ _ s3
  have h1 : Keeps m s s3 := h.setPod.podState.set.podEvt.fieldFault
  exact .ite h1.podRefuse.set.podEvt.fieldFault h1
theorem Keeps.podSilent {q : Nat} (h : Keeps m s t) : Keeps m s (t.podSilent q) := .ite h.setPod h.podRefuse
theorem Keeps.setChain {q n : Nat} {h0 : List Byte} (h : Keeps m s t) : Keeps m s (t.setChain q n h0) := h.setPod.put
theorem Keeps.authOk {q : Nat} (h : Keeps m s t) : Keeps m s (t.authOk q) := by
  unfold State.authOk
  exact h.setPod.set.replaceResult
theorem Keeps.recheckFail {q : Nat} (h : Keeps m s t) : Keeps m s (t.recheckFail q) := .ite h.set.podRefuse.podEvt.fieldFault h.set.setPod
theorem Keeps.podWorn {q : Nat} (h : Keeps m s t) : Keeps m s (t.podWorn q) := .ite h h.set.podEvt
theorem Keeps.podExhausted {q : Nat} (h : Keeps m s t) : Keeps m s (t.podExhausted q) := .ite h h.set.podEvt.fieldFault.showHeld
theorem Keeps.podWear {q : Nat} (h : Keeps m s t) : Keeps m s (t.podWear q) := .ite (.podExhausted (.ite h.podWorn h)) (.ite h.podWorn h)
theorem Keeps.stressEntry {q : Nat} {e : List Byte} (h : Keeps m s t) : Keeps m s (t.stressEntry q e).1 := by
  unfold State.stressEntry
  extract_lets
  split
  · exact .ite h.setChain.put h.setChain
  · exact h
theorem Keeps.stressEntries {q : Nat} {l : List (List Byte)} (h : Keeps m s t) : Keeps m s (t.stressEntries q l).1 := by
  induction l generalizing t with
  | nil => exact h
  | cons e l ih =>
    unfold State.stressEntries
    extract_lets
    split
    · exact ih h.stressEntry
    · exact h.stressEntry
theorem Keeps.stressDone {q : Nat} {es : List (List Byte)} (h : Keeps m s t) : Keeps m s (t.stressDone q es) := by
  unfold State.stressDone
  extract_lets _ _ s2 s3
  have h1 : Keeps m s s2 := .podWear (.ite h h.sendFH)
  have h2 : Keeps m s s3 := .ite h1.podWorn h1
  exact .ite h2.podExhausted h2
theorem Keeps.podPowerOn {q : Nat} (h : Keeps m s t) : Keeps m s (t.podPowerOn q) := .ite h.podRefuse h.set.podState.podShow.setPod.podStep.showHeld
theorem Keeps.podBegin {q : Nat} (h : Keeps m s t) : Keeps m s (t.podBegin q) := h.set.podState.setPod.podStep
theorem Keeps.podConfigured {q : Nat} (h : Keeps m s t) : Keeps m s (t.podConfigured q) := h.setPod.showHeld
theorem Keeps.onHello {q : Nat} {pl : List Byte} (h : Keeps m s t) : Keeps m s (t.onHello q pl) := by
  unfold State.onHello
  extract_lets _ _ s2 s3
  have h1 : Keeps m s s2 := .set (.set (h.set.foldl .put))
  have h2 : Keeps m s s3 := .ite h1 h1.podState
  exact .ite h2.podStep h2.setPod.podStep
theorem Keeps.rateFail {q : Nat} (h : Keeps m s t) : Keeps m s (t.rateFail q) := h.setPod
theorem Keeps.onRate {q : Nat} (h : Keeps m s t) : Keeps m s (t.onRate q) := .ite h.set.setPod.podStep h.set.setPod
theorem Keeps.onTest {q : Nat} {sent pl : List Byte} (h : Keeps m s t) : Keeps m s (t.onTest q sent pl) := .ite h.rateFail (.ite h.podStep h.setPod)
theorem Keeps.onCaps {q : Nat} {pl : List Byte} (h : Keeps m s t) : Keeps m s (t.onCaps q pl) := by
  unfold State.onCaps
  extract_lets _ _ _ _ _ _ _ _ _ s7
  have h1 : Keeps m s s7 := .podShow (.setPod (.set (.foldl (.set (.set (h.set.set.set.set.set.foldl .put))) .put)))
  exact .ite h1.podRefuse (.ite h1.podRefuse h1.podStep)
theorem Keeps.onCert {q : Nat} {pl : List Byte} (h : Keeps m s t) : Keeps m s (t.onCert q pl) := by
  unfold State.onCert
  extract_lets
  refine .ite h.podRefuse ?_
  refine .ite h.setPod ?_
  exact .ite h.podRefuse (.ite h.podGap.podUnrole.podEvt.podPowerOff.podState.podBegin.dueSets h.setPod.put.podStep)
theorem Keeps.onChallenge {q : Nat} {pl : List Byte} (h : Keeps m s t) : Keeps m s (t.onChallenge q pl) :=
  .ite (.ite h.authOk.podStep h.podStep.setPod) (.ite h.authOk h.recheckFail)
theorem Keeps.onStress {q : Nat} {pl : List Byte} (h : Keeps m s t) : Keeps m s (t.onStress q pl) := by
  unfold State.onStress
  extract_lets _ s1 _ _ s2
  have h1 : Keeps m s s1 := h.stressEntries.stressDone
  have h2 : Keeps m s s2 := h1.setPod
  refine .ite h1.podRefuse ?_
  refine .ite ?_ h2
  split
  · exact .ite h2.authOk.podStep h2.podRefuse
  · exact h2.podStep
theorem Keeps.onPoll {q : Nat} {pl : List Byte} (h : Keeps m s t) : Keeps m s (t.onPoll q pl) := by
  unfold State.onPoll
  extract_lets _ _ _ s2 s3
  have h1 : Keeps m s s2 := .ite h.setPod.slotSense h.setPod
  have h2 : Keeps m s s3 := .ite h1.podExhausted h1
  exact .ite h2.podWorn h2
theorem Keeps.onConfig {q : Nat} (h : Keeps m s t) : Keeps m s (t.onConfig q) := by
  unfold State.onConfig
  extract_lets s1
  have h1 : Keeps m s s1 := .ite (h.foldl (fun h' => .ite h'.setLane h')) h
  exact .ite h1.podConfigured h1.setPod
theorem Keeps.onLevel {q : Nat} (h : Keeps m s t) : Keeps m s (t.onLevel q) := by
  unfold State.onLevel
  extract_lets
  split
  · exact h
  · exact .ite h.setPod h.setPod.set
theorem Keeps.onCommit {q : Nat} (h : Keeps m s t) : Keeps m s (t.onCommit q) :=
  .showHeld (.podStep (.set (.upd (.setPod (.podState (.ite h.podGap.podUnrole h))))))
theorem Keeps.podAnswer {q : Nat} {r : PodReq} {status : Nat} {pl : List Byte} (h : Keeps m s t) : Keeps m s (t.podAnswer q r status pl) := by
  unfold State.podAnswer
  extract_lets _ s1
  have h1 : Keeps m s s1 := h.setPod
  refine .ite h1.podRelay ?_
  refine .ite ?_ ?_
  · split
    · exact h1.podSilent
    · exact h1.rateFail
    · exact h1.rateFail
    · exact h1.podRefuse
    · exact h1.podRefuse
    · exact .ite h1.podRefuse h1.recheckFail
    · exact .ite h1.podRefuse h1
    · exact h1.setPod
    · exact h1.setPod
    · exact h1
  · split
    · exact h1.onHello
    · exact h1.onRate
    · exact h1.onTest
    · exact h1.onCaps
    · exact h1.onCert
    · exact h1.onChallenge
    · exact h1.onStress
    · exact h1.onPoll
    · exact h1.onConfig
    · exact h1.onLevel
    · exact h1.setPod
    · exact h1.setPod
    · exact h1.onCommit
    · exact h1
theorem Keeps.podExchange {q cmd : Nat} {data : List Byte} {ans : Option PodAns} (h : Keeps m s t) : Keeps m s (t.podExchange q cmd data ans) := by
  unfold State.podExchange
  split
  · exact h
  · extract_lets
    split
    · exact h.podSend.podAnswer
    · exact h.podSend
theorem Keeps.doChallenge {q : Nat} {ans : Option PodAns} (h : Keeps m s t) : Keeps m s (t.doChallenge q ans) := .ite h.fresh.setPod.podExchange h
theorem Keeps.doPodResponse {q : Nat} {f : List Byte} (h : Keeps m s t) : Keeps m s (t.doPodResponse q f) := by
  unfold State.doPodResponse
  extract_lets
  split
  · exact h
  · exact .ite h.podAnswer h
theorem Keeps.podRetried {q : Nat} (h : Keeps m s t) : Keeps m s (t.podRetried q) := .ite h.podCount.setPod.podEvt h.podCount.setPod
theorem Keeps.doPodTimeout {q : Nat} (h : Keeps m s t) : Keeps m s (t.doPodTimeout q) := by
  unfold State.doPodTimeout
  extract_lets _ _ _ s11
  have h1 : Keeps m s s11 := h.setPod
  split
  · exact h
  · extract_lets s2
    have h2 : Keeps m s s2 := .ite h1.podRelay h1
    exact .ite h (.ite h.podRetried.rateFail (.ite h.podRetried.setPod (.ite h2 (.ite h2.podLost h2.podSilent))))
theorem Keeps.doHelloTimeout {q : Nat} (h : Keeps m s t) : Keeps m s (t.doHelloTimeout q) := .ite h.podSilent h
theorem Keeps.doRenegotiate {q : Nat} (h : Keeps m s t) : Keeps m s (t.doRenegotiate q) := .ite h.set.setPod.podStep h
theorem Keeps.doLinkLossHold {q : Nat} (h : Keeps m s t) : Keeps m s (t.doLinkLossHold q) := by
  unfold State.doLinkLossHold
  extract_lets
  split
  · exact .ite h.setPod.showHeld h
  · exact h
theorem Keeps.doPodSelfHold {q : Nat} (h : Keeps m s t) : Keeps m s (t.doPodSelfHold q) := .ite h.setPod.slotSense h
theorem Keeps.doPollInterval {q : Nat} (h : Keeps m s t) : Keeps m s (t.doPollInterval q) := .ite h.setPod h
theorem Keeps.doChallengeDue {q : Nat} (h : Keeps m s t) : Keeps m s (t.doChallengeDue q) := .ite h.setPod h
theorem Keeps.doRecheckRetry {q : Nat} (h : Keeps m s t) : Keeps m s (t.doRecheckRetry q) := by
  unfold State.doRecheckRetry
  extract_lets
  split
  · exact .ite h.setPod h
  · exact h
theorem Keeps.doPodInsert {q : Nat} (h : Keeps m s t) : Keeps m s (t.doPodInsert q) :=
  .ite h (.ite h.set.setPod.podState.showHeld h.set.setPod.podBegin.showHeld)
theorem Keeps.doDebounceDone {q code : Nat} (h : Keeps m s t) : Keeps m s (t.doDebounceDone q code) := .ite (.ite h.set.podRefuse h.set.podPowerOn) h
theorem Keeps.laneAttach {l : Nat} (h : Keeps m s t) : Keeps m s (t.laneAttach l) := by
  unfold State.laneAttach
  extract_lets _ _ _ _ s2 _ _ _ _ _ _ _ _ _ _ _ s5
  have h1 : Keeps m s s2 := .ite h.set.setLane h.set.setLane.ledgerF
  have h2 : Keeps m s s5 := .setLane (.put (.ite h1 h1.laneTakeEffect.setLane))
  exact .ite h.set.setLane (.showIlv (.winApply (.showUnset (.ite h2.set h2))))
theorem Keeps.doPodAttached {q : Nat} (h : Keeps m s t) : Keeps m s (t.doPodAttached q) := by
  unfold State.doPodAttached
  extract_lets _ _ s2 _ s4
  have h1 : Keeps m s s2 := h.setPod.podState.showHeld
  have h2 : Keeps m s s4 := .foldl (.ite (h1.foldl .laneAttach) h1) (fun h' => .ite h' h'.deskewStart)
  exact .ite (.ite h1 h2.podCount.podEvt.bankTrigger.dueSets) h
theorem Keeps.doPodRemoval {q : Nat} (h : Keeps m s t) : Keeps m s (t.doPodRemoval q) :=
  .ite (.ite h.set.setPod.podGap.setPod h.set.setPod.podPowerOff.podState.set.set) h
theorem Keeps.podDetach {q st : Nat} (h : Keeps m s t) : Keeps m s (t.podDetach q st) := h.podState.podUnrole.podPowerOff.setPod.podEvt.dueSets
theorem Keeps.doDetach {q : Nat} (h : Keeps m s t) : Keeps m s (t.doDetach q) := .ite (.ite h.podDetach h.podDetach.set) h
theorem Keeps.podResets (h : Keeps m s t) : Keeps m s t.podResets := by
  unfold State.podResets
  extract_lets
  refine h.fault.foldl fun h' => ?_
  extract_lets _ t2
  have h1 : Keeps m s t2 := .set (.ite h'.podGap.podDetach h'.podPowerOff)
  exact .ite (.ite h'.podGap.podDetach h'.podPowerOff) (.ite h1.podBegin h1.podPowerOn)
theorem Keeps.doPowerTrip {q : Nat} (h : Keeps m s t) : Keeps m s (t.doPowerTrip q) :=
  .ite (.fieldFault (.podEvt (.dueSets (.set (.podPowerOff (.ite h.podGap.podState.podUnrole h.podState)))))) h
theorem Keeps.doPodRetry {q : Nat} (h : Keeps m s t) : Keeps m s (t.doPodRetry q) := .ite h.podBegin h
theorem Ends.execPodRetry {u : Sub} {q : Idx16} (h : Keeps m s t) : Ends m s (execPodRetry u q t) := .done (h.atF.ifOn .doPodRetry)
theorem Keeps.doPodRecheck {q : Nat} (h : Keeps m s t) : Keeps m s (t.doPodRecheck q) := .ite h.setPod h
theorem Ends.execPodRecheck {u : Sub} {q : Idx16} (h : Keeps m s t) : Ends m s (execPodRecheck u q t) := .done (h.atF.ifOn .doPodRecheck)
theorem Keeps.doPodHold {q : Nat} {h0 : Bool} (h : Keeps m s t) : Keeps m s (t.doPodHold q h0) := .showHeld (.ite h.set h.set.setPod)
theorem Ends.execPodHoldWrite {u : Sub} {q : Idx16} {hold : Bool} (h : Keeps m s t) : Ends m s (execPodHoldWrite u q hold t) := .done (h.atF.ifOn .doPodHold)
theorem Keeps.doPodPowerOff {q : Nat} {off : Bool} (h : Keeps m s t) : Keeps m s (t.doPodPowerOff q off) := by
  unfold State.doPodPowerOff
  extract_lets
  exact .ite h (.ite (.ite h.set.podGap.setPod h.set.podPowerOff.podState) (.ite h.set (.ite h.set.podBegin h.set.podState)))
theorem Ends.execPodPowerOff {u : Sub} {q : Idx16} {off : Bool} (h : Keeps m s t) : Ends m s (execPodPowerOff u q off t) := .done (h.atF.ifOn .doPodPowerOff)
theorem Keeps.doPodClrStats (h : Keeps m s t) : Keeps m s t.doPodClrStats := h.foldl (fun h' => h'.put.put.set)
theorem Ends.execPodClrStats {u : Sub} (h : Keeps m s t) : Ends m s (execPodClrStats u t) := .done (h.atF.ifOn .doPodClrStats)
theorem Keeps.podShed {beff : Nat} {l : List Nat} (h : Keeps m s t) : Keeps m s (t.podShed beff l) := by
  induction l generalizing t with
  | nil => exact h
  | cons q l ih => exact .ite h (.ite (ih (.podRefuse (.ite h.podGap.podEvt h))) (ih h))
theorem Keeps.doPodBudget {mv : Nat} {mw : List (Idx16 × Nat)} (h : Keeps m s t) : Keeps m s (t.doPodBudget mv mw) :=
  .ite (.podShed (h.foldl (fun h' => .ite h'.set.set h'))) h
theorem Keeps.podRequest {pl : List Byte} (h : Keeps m s t) : Keeps m s (t.podRequest pl) := .ite h.podRelay (.ite h.podRelay h.setPod)

/-! ### The link of the barrier (R22–R30) -/

theorem Keeps.isoCount {a n : Nat} (h : Keeps m s t) : Keeps m s (t.isoCount a n) := h.satCount
theorem Keeps.showWidths {fh hf fhUsed hfUsed : Nat} (h : Keeps m s t) : Keeps m s (t.showWidths fh hf fhUsed hfUsed) := h.set.set.set.set.set.put.put
theorem Keeps.trainStart (h : Keeps m s t) : Keeps m s t.trainStart := h.isoCount.set.link
theorem Keeps.linkLoss (h : Keeps m s t) : Keeps m s t.linkLoss := h.showWidths.set.put.set.link.availGap.hostFault.ledgerH.fieldFault.trainStart
theorem Keeps.doLinkDown (h : Keeps m s t) : Keeps m s t.doLinkDown := .ite h.linkLoss h
theorem Keeps.doRetrain (h : Keeps m s t) : Keeps m s t.doRetrain := .ite h.linkLoss h.trainStart
theorem Ends.execIsoRetrain {u : Sub} (h : Keeps m s t) : Ends m s (execIsoRetrain u t) := .done (h.atH.ifOn .doRetrain)
theorem Keeps.doTrainRetry (h : Keeps m s t) : Keeps m s t.doTrainRetry := .ite h.trainStart h
theorem Keeps.unshed (h : Keeps m s t) : Keeps m s t.unshed := .link (h.foldl (fun h' => .ite h'.setLane h'.link))
theorem Keeps.doTrainingDone {fh hf : Nat} (h : Keeps m s t) : Keeps m s (t.doTrainingDone fh hf) := by
  unfold State.doTrainingDone
  extract_lets _ _ _ _ _ s2
  have h1 : Keeps m s s2 := h.link.showWidths.set.set.set.set
  refine .ite ?_ h
  exact .ite h.link.set (.sendPlan (.plan (.unshed (.set (.set (.put (.fresh (.same (.ite h1.set.hostFault h1)))))))))
theorem Keeps.doLinkHoldExpiry (h : Keeps m s t) : Keeps m s t.doLinkHoldExpiry := by
  unfold State.doLinkHoldExpiry
  extract_lets _ _ s2
  have h1 : Keeps m s s2 := h.link.driversOff.foldl .setGen
  split
  · exact .ite (.inhibitOn (.ite h1.seq.set (.ite h1.seqEnd h1))) h
  · exact h
theorem Keeps.tunPause (h : Keeps m s t) : Keeps m s t.tunPause := h.link
theorem Keeps.tunResume (h : Keeps m s t) : Keeps m s t.tunResume := h.link
theorem Keeps.doLaneFailure {fh : Bool} {k : Nat} (h : Keeps m s t) : Keeps m s (t.doLaneFailure fh k) :=
  .ite (.ite h.set (.ite h.set.linkLoss (.ite h.set h.set.tunPause.set))) h
theorem Keeps.doReconfigDone (h : Keeps m s t) : Keeps m s t.doReconfigDone := by
  unfold State.doReconfigDone
  extract_lets _ _ _ _ _ s2
  have h1 : Keeps m s s2 := .ite h.showWidths.set.set h.showWidths.set
  exact .ite (.hostFault (.tunResume (.link (.ite h1.set h1)))) h
theorem Keeps.shedUntil {l : List (Nat × Nat)} (h : Keeps m s t) : Keeps m s (t.shedUntil l) := by
  induction l generalizing t with
  | nil => exact h
  | cons k l ih => exact .ite h (.ite (ih h) (ih h.link))
theorem Keeps.doShed (h : Keeps m s t) : Keeps m s t.doShed := .ite (.ite h.link.shedUntil h.link.shedUntil.ledgerH) h
theorem Keeps.doFrameReplay {fh : Bool} {n : Nat} {lost : Option Msg} (h : Keeps m s t) : Keeps m s (t.doFrameReplay fh n lost) := by
  unfold State.doFrameReplay
  extract_lets gone s1
  have h1 : Keeps m s s1 := h.wrapCount.isoCount
  clear_value s1 gone
  refine .ite ?_ h
  split
  · exact .ite h1.link h1.link
  · exact h1
theorem Ends.execIsoClrStats {u : Sub} (h : Keeps m s t) : Ends m s (execIsoClrStats u t) := .done (h.atH.ifOn (fun h' => h'.putAll.put))

/-! ### The vector opcodes (R132–R144) -/

theorem Keeps.opcode {op : Nat} {f : State → Vec → State} (h : Keeps m s t) (hf : ∀ {t x1}, Keeps m s t → Keeps m s (f t x1)) :
    Keeps m s (t.opcode op f) := by
  unfold State.opcode
  split
  · exact hf h.dispatch
  · exact h
theorem Keeps.doRepeat (h : Keeps m s t) : Keeps m s t.doRepeat := by
  unfold State.doRepeat
  refine .ite ?_ (h.opcode .issue)
  split
  · exact h.issue
  · exact h
theorem Keeps.doLoop (h : Keeps m s t) : Keeps m s t.doLoop := h.opcode (fun h' => .ite h'.setSeq.issue (.ite h'.stackError h'.setSeq.issue))
theorem Keeps.doEndloop (h : Keeps m s t) : Keeps m s t.doEndloop := by
  unfold State.doEndloop
  refine .opcode h (fun h' => ?_)
  split
  · exact h'.stackError
  · exact h'.issue.loopDecide
theorem Keeps.goTo {a : Nat} (h : Keeps m s t) : Keeps m s (t.goTo a) := h.setSeq
theorem Keeps.doCall (h : Keeps m s t) : Keeps m s t.doCall := h.opcode (fun h' => .ite h'.stackError h'.setSeq.issue.goTo)
theorem Keeps.doRet (h : Keeps m s t) : Keeps m s t.doRet := by
  unfold State.doRet
  refine .opcode h (fun h' => ?_)
  extract_lets
  split
  · exact h'.stackError
  · exact h'.setSeq.issue.goTo
theorem Keeps.waitEnd {a : Nat} (h : Keeps m s t) : Keeps m s (t.waitEnd a) := h.setSeq.goTo
theorem Keeps.doWaitTrig (h : Keeps m s t) : Keeps m s t.doWaitTrig := by
  unfold State.doWaitTrig
  refine .ite ?_ (h.opcode (fun h' => h'.setSeq.issue))
  split
  · exact .ite h.waitEnd (.ite h h.issue)
  · exact h
theorem Keeps.doWaitTimeout (h : Keeps m s t) : Keeps m s t.doWaitTimeout := by
  unfold State.doWaitTimeout
  extract_lets
  refine .ite ?_ h
  split
  · exact .ite h.seqEvt.waitEnd h
  · exact h
theorem Keeps.matchEnd (h : Keeps m s t) : Keeps m s t.matchEnd := h.put.setSeq
theorem Keeps.doMatch (h : Keeps m s t) : Keeps m s t.doMatch := by
  unfold State.doMatch
  refine .ite ?_ (h.opcode (fun h' => h'.setSeq.issue))
  split
  · exact .ite h.matchEnd (.ite h h.issue)
  · exact h
theorem Keeps.portFail {p t64 : Nat} (h : Keeps m s t) : Keeps m s (t.portFail p t64) := .ite h.pinFailCount.set h.pinFailCount.set.replaceResult
theorem Keeps.vectorFail {r : FailRec} (h : Keeps m s t) : Keeps m s (t.vectorFail r) := .failOpen (h.foldl .portFail)
theorem Keeps.doMatchLimit (h : Keeps m s t) : Keeps m s t.doMatchLimit := by
  unfold State.doMatchLimit
  extract_lets s1 s2
  have h1 : Keeps m s s1 := by
    unfold s1
    split
    · exact h.vectorFail
    · exact h
  have h2 : Keeps m s s2 := h1.seqEvt.matchEnd
  refine .ite ?_ h
  split
  · exact .ite (.ite h2.seqEnd h2) h
  · exact h
theorem Keeps.doCustom (h : Keeps m s t) : Keeps m s t.doCustom := h.opcode (fun h' => .ite h'.setSeq.seqEnd h'.setSeq.set)
theorem Keeps.doReserved (h : Keeps m s t) : Keeps m s t.doReserved := by
  unfold State.doReserved
  split
  · exact h.dispatch.setSeq.seqEnd
  · exact h
theorem Keeps.setTerm {p c : Nat} (h : Keeps m s t) : Keeps m s (t.setTerm p c) := h.setPinRt
theorem Keeps.driveVector {p : Nat} {t0 : TSet} {d : Nat} (h : Keeps m s t) : Keeps m s (t.driveVector p t0 d).1 := by
  unfold State.driveVector
  extract_lets _ _ s0
  have h0 : Keeps m s s0 := .ite h.set h
  split
  · exact h0.setPinRt.set.set
  · exact h0.driverOff.set.pinCount
theorem Keeps.idleVector {p : Nat} {t0 : TSet} (h : Keeps m s t) : Keeps m s (t.idleVector p t0).1 := by
  unfold State.idleVector
  extract_lets
  split
  · exact h.set.setPinRt.set
  · split
    · exact h.set.setPinRt.set
    · exact h.set.setPinRt
theorem Keeps.compareVector {p : Nat} {t0 : TSet} {e : Expect} {obs : List PortObs} (h : Keeps m s t) : Keeps m s (t.compareVector p t0 e obs).1 := by
  unfold State.compareVector
  extract_lets _ _ _ _ _ _ r
  split
  · exact h
  · exact h
  · show Keeps m s r.2
    unfold r
    split
    · exact h
    · split
      · exact h
      · exact h.fresh
theorem Keeps.channelVector {p chars k start : Nat} {obs : List PortObs} {ilim : List Port} (h : Keeps m s t) :
    Keeps m s (t.channelVector p chars k start obs ilim).1 := by
  unfold State.channelVector
  extract_lets _ _ _ _ s2 _ _ d _ e _ s4 _ s5
  split
  · exact h
  · have h2 : Keeps m s s2 := .ite h.setPinRt.set h.setPinRt
    have hd : Keeps m s d.1 := by
      unfold d
      split
      · split
        · exact h2.driveVector
        · exact h2.idleVector
      · exact h2
    have he : Keeps m s e.1 := by
      unfold e
      split
      · split
        · exact hd.setTerm.compareVector
        · exact hd.setTerm
      · exact hd.setTerm
    have h4 : Keeps m s s4 := .ite he.pinCount.set he
    have h5 : Keeps m s s5 := .ite h4.pinEvt.fieldFault h4
    exact .ite h5.pinFailSources h5
theorem Keeps.channels {chars k start : Nat} {obs : List PortObs} {ilim : List Port} (h : Keeps m s t) : Keeps m s (t.channels chars k start obs ilim).1 :=
  .foldlOf (p := Prod.fst) h .channelVector
theorem Keeps.gapEnd {start : Nat} (h : Keeps m s t) : Keeps m s (t.gapEnd start) := by
  unfold State.gapEnd
  extract_lets
  split
  · exact h
  · exact h.setSeq.ledger1.replayGapEnd
theorem Keeps.startInstance {i : Inst} {obs : List PortObs} {ilim : List Port} (h : Keeps m s t) : Keeps m s (t.startInstance i obs ilim) := by
  unfold State.startInstance
  extract_lets _ _ _ _ s3 s4 s5 _ _ _ _ _ _ _ _ _ _ s8
  have h1 : Keeps m s s3 := h.pinSettle.doFailClearApply.gapEnd
  have h2 : Keeps m s s4 := .ite h1.setFlags h1
  have h3 : Keeps m s s5 := .ite h2.fieldEvent h2
  have h4 : Keeps m s s8 := .set (.wrapCount64 (.setSeq (.channels (.ite h3.genStepRequest h3))))
  exact .ite h4 h4.vectorFail
theorem Keeps.reachF {t0 : Nat} (h : Keeps m s t) : Keeps m s (t.reachF t0) :=
  h.time fun ⟨ht, hu, ft, fu⟩ => ⟨ht, hu, ft, max_lt fu ((min_le_right _ _).trans_lt (by decide))⟩
theorem Keeps.doInstanceStart {obs : List PortObs} {ilim : List Port} (h : Keeps m s t) : Keeps m s (t.doInstanceStart obs ilim) := by
  unfold State.doInstanceStart
  split
  · exact h
  · exact .ite h.reachF.startInstance h
theorem Keeps.doUnderrun (h : Keeps m s t) : Keeps m s t.doUnderrun := .ite h.satCount.set.setSeq h

/-! ### Control of the sequencer (R145–R197) -/

theorem Keeps.seqLaunch (h : Keeps m s t) : Keeps m s t.seqLaunch := h.setFlags.setSeq.putAll.set.put64.put64.set
theorem Keeps.doSeqStart (h : Keeps m s t) : Keeps m s t.doSeqStart := h.ifOn (fun h' => .ite h'.seqLaunch h'.set)
theorem Ends.execSeqStart {u : Sub} (h : Keeps m s t) : Ends m s (execSeqStart u t) := .done h.atSeq.doSeqStart
theorem Keeps.doPause (h : Keeps m s t) : Keeps m s t.doPause := h.ifOn .set
theorem Ends.execSeqPause {u : Sub} (h : Keeps m s t) : Ends m s (execSeqPause u t) := .done h.atSeq.doPause
theorem Keeps.doPauseClear (h : Keeps m s t) : Keeps m s t.doPauseClear := by
  unfold State.doPauseClear
  refine .ifOn h (fun h' => ?_)
  extract_lets
  refine .ite h'.set.setSeq.set ?_
  split
  · exact .ite h'.set.setSeq h'.set
  · exact h'.set
theorem Ends.execPauseClear {u : Sub} (h : Keeps m s t) : Ends m s (execPauseClear u t) := .done h.atSeq.doPauseClear
theorem Keeps.doStep (h : Keeps m s t) : Keeps m s t.doStep := h.ifOn (fun h' => .ite h'.setSeq.set h'.set)
theorem Ends.execSeqStep {u : Sub} (h : Keeps m s t) : Ends m s (execSeqStep u t) := .done h.atSeq.doStep
theorem Ends.execSeqStop {u : Sub} (h : Keeps m s t) : Ends m s (execSeqStop u t) := .done (h.atSeq.ifOn .seqStop)
theorem Ends.execHostJump {u : Sub} (h : Keeps m s t) : Ends m s (execHostJump u t) := .done (h.atSeq.ifOn .setSeq)
theorem Keeps.takeVectorRequest (h : Keeps m s t) : Keeps m s t.takeVectorRequest := by
  unfold State.takeVectorRequest
  extract_lets
  refine .ite h ?_
  split
  · exact .ite h.cutPipe.setSeq.seqEnd h.setSeq
  · exact .ite h.cutPipe.seqEnd (.ite h.setSeq.set h)
theorem Keeps.doSeqResume (h : Keeps m s t) : Keeps m s t.doSeqResume := h.ifOn (fun h' => .ite h'.setSeq.set.set h'.set)
theorem Ends.execSeqResume {u : Sub} (h : Keeps m s t) : Ends m s (execSeqResume u t) := .done h.atSeq.doSeqResume
theorem Keeps.doWinApply (h : Keeps m s t) : Keeps m s t.doWinApply := h.ifOn (fun h' => .ite h'.set h'.setSeq)
theorem Ends.execWinApply {u : Sub} (h : Keeps m s t) : Ends m s (execWinApply u t) := .done h.atSeq.doWinApply
theorem Keeps.doSeqClrStats (h : Keeps m s t) : Keeps m s t.doSeqClrStats := h.ifOn .putAll
theorem Ends.execSeqClrStats (h : Keeps m s t) : Ends m s (execSeqClrStats t) := .done h.doSeqClrStats
theorem Keeps.doSeqOverdraft (h : Keeps m s t) : Keeps m s t.doSeqOverdraft := by
  unfold State.doSeqOverdraft
  extract_lets _ _ _ _ _ _ s5
  have h1 : Keeps m s s5 := h.satCount.replaceResult.seqEvt.setSeq.replayBreak
  exact .ite (.ite h1.set.seqEnd h1.set) h
theorem Keeps.putDigest {r : Nat → Nat} {d : List Byte} (h : Keeps m s t) : Keeps m s (t.putDigest r d) := h.foldl .put
theorem Keeps.doCustSwitch (h : Keeps m s t) : Keeps m s t.doCustSwitch := .ite h.set.set.set.putDigest h

end Sys2Proof.Machine
end

section
/-! PROOFS. What keeps the canonical forms and the time (R61, R69, R71): host link, record store, power domains, security island and update. -/

namespace Sys2Proof.Machine

variable {m : Prop} {s t : State}

/-! ### The host link and its transfers (R351–R371) -/

theorem Keeps.hdmaCount {a n : Nat} (h : Keeps m s t) : Keeps m s (t.hdmaCount a n) := .ite h.satCount.msix h.satCount
theorem Keeps.hostLinkReset {c : LinkResetCause} (h : Keeps m s t) : Keeps m s (t.hostLinkReset c) := by
  unfold State.hostLinkReset
  exact h.hdmaReset.ledgerH.hostFault
theorem Keeps.showInflight {c : Nat} (h : Keeps m s t) : Keeps m s (t.showInflight c) := h.set
theorem Keeps.fetchDesc {c : Nat} {w : Work} {reason : Nat} (h : Keeps m s t) : Keeps m s (t.fetchDesc c w reason) := h.put.setChan.showInflight
theorem Keeps.setWork {c : Nat} {w : Work} (h : Keeps m s t) : Keeps m s (t.setWork c w) := h.setChan
theorem Keeps.sendRefill {w : Work} {at0 : Nat} {bytes : List Byte} (h : Keeps m s t) : Keeps m s (t.sendRefill w at0 bytes) := by
  unfold State.sendRefill
  exact .ite (.foldlOf (p := Prod.fst) h .sendHF) (.foldlOf (p := Prod.fst) h .sendHF)
theorem Keeps.refillData {c : Nat} {w : Work} {data : List Byte} (h : Keeps m s t) : Keeps m s (t.refillData c w data) := h.sendRefill.setWork
theorem Keeps.copyData {c : Nat} {w : Work} {n : Nat} (h : Keeps m s t) : Keeps m s (t.copyData c w n) := h.hdma.setWork
theorem Keeps.moveWork {c : Nat} {w : Work} {data : List Byte} {n : Nat} (h : Keeps m s t) : Keeps m s (t.moveWork c w data n) :=
  .ite h (.ite h.refillData (.ite h.copyData h))
theorem Keeps.writeCpl {c : Nat} {w : Work} (h : Keeps m s t) : Keeps m s (t.writeCpl c w) := by
  unfold State.writeCpl
  extract_lets _ _ _ _ _ s2 _ s4 s5
  have h1 : Keeps m s s2 := h.hdma.set
  have h2 : Keeps m s s4 := .wrapCount64 (.ite h1.set h1)
  have h3 : Keeps m s s5 := .ite h2.set h2
  exact .ite h3.msix h3
theorem Keeps.retire {c : Nat} (h : Keeps m s t) : Keeps m s (t.retire c) := by
  unfold State.retire
  extract_lets
  split
  · exact .ite h.writeCpl.setChan.showInflight h
  · exact h
theorem Keeps.tapItem {cls : Nat} {bytes : List Byte} (h : Keeps m s t) : Keeps m s (t.tapItem cls bytes) := by
  unfold State.tapItem
  refine h.foldl fun h' => ?_
  extract_lets
  refine .ite ?_ h'
  split
  · exact h'.setChan.hdma
  · exact h'.setChan.satCount
theorem Keeps.startStop {c : Nat} {abort : Bool} (h : Keeps m s t) : Keeps m s (t.startStop c abort) := by
  unfold State.startStop
  extract_lets
  split
  · exact h.set.set.set
  · exact h.set.set.set.setChan
theorem Keeps.cancelFly {c : Nat} (h : Keeps m s t) : Keeps m s (t.cancelFly c) := h.setChan
theorem Keeps.abortChan {c : Nat} {data : List Byte} {n : Nat} (h : Keeps m s t) : Keeps m s (t.abortChan c data n) := by
  unfold State.abortChan
  extract_lets s1
  have h1 : Keeps m s s1 := by
    unfold s1
    split
    · exact h.moveWork
    · exact h
  exact h1.cancelFly.startStop
theorem Keeps.doFunctionLevelReset {u : Sub} (h : Keeps m s t) : Keeps m s (doFunctionLevelReset u t) := h.atH.hostLinkReset
theorem Keeps.doHotReset {u : Sub} (h : Keeps m s t) : Keeps m s (doHotReset u t) := h.atH.hostLinkReset
theorem Keeps.doHostLinkDown {u : Sub} (h : Keeps m s t) : Keeps m s (doHostLinkDown u t) := h.atH.hostLinkReset
theorem Keeps.doHostLinkRetrain {u : Sub} {speed : Fin 6} {width : Fin 9} (h : Keeps m s t) : Keeps m s (doHostLinkRetrain u speed width t) :=
  .hdmaEvt (.set (.set (.set (.ite h.atH.satField.msix h.atH.satField))))
theorem Keeps.doAerError {u : Sub} {correctable : Bool} (h : Keeps m s t) : Keeps m s (doAerError u correctable t) := h.atH.hostFault
theorem Keeps.doBar2Access {u : Sub} {write : Bool} {off : BitVec 32} {words : Nat} (h : Keeps m s t) : Keeps m s (doBar2Access u write off words t) :=
  .ite (.hdmaEvt (.hdmaCount (.ite h.atH h.atH.hdma))) (.ite h.atH h.atH.hdma)
theorem Keeps.doDescriptorPost {u : Sub} {c : Idx16} {tail : Fin 4096} (h : Keeps m s t) : Keeps m s (doDescriptorPost u c tail t) := .ite h.atH.put h.atH
theorem Ends.execDescriptorPost {u : Sub} {c : Idx16} {tail : Fin 4096} (h : Keeps m s t) : Ends m s (execDescriptorPost u c tail t) :=
  .done h.doDescriptorPost
theorem Keeps.runDesc {c : Nat} {d : List Byte} {mine : Nat → Bool} {f : State → Work → State}
    (h : Keeps m s t) (hf : ∀ {t x1}, Keeps m s t → Keeps m s (f t x1)) : Keeps m s (t.runDesc c d mine f) := .ite (.ite (hf h.fetchDesc) h.fetchDesc) h
theorem Keeps.doHdmaNop {u : Sub} {c : Idx16} {d : List Byte} (h : Keeps m s t) : Keeps m s (doHdmaNop u c d t) := h.atH.runDesc id
theorem Keeps.doRefill {u : Sub} {c : Idx16} {d data : List Byte} (h : Keeps m s t) : Keeps m s (doRefill u c d data t) :=
  .ite (h.atH.runDesc .refillData) h.atH
theorem Keeps.doCopyOut {u : Sub} {c : Idx16} {d : List Byte} {n : Nat} (h : Keeps m s t) : Keeps m s (doCopyOut u c d n t) := h.atH.runDesc .copyData
theorem Keeps.doTap {u : Sub} {c : Idx16} {d : List Byte} (h : Keeps m s t) : Keeps m s (doTap u c d t) := h.atH.runDesc id
theorem Keeps.finishFront {c : Nat} {data : List Byte} (h : Keeps m s t) : Keeps m s (t.finishFront c data) := by
  unfold State.finishFront
  split
  · extract_lets
    refine .ite h ?_
    split
    · exact .ite h.moveWork.setWork h.moveWork
    · exact h.moveWork
  · exact h
theorem Keeps.doDescriptorComplete {u : Sub} {c : Idx16} {data : List Byte} (h : Keeps m s t) : Keeps m s (doDescriptorComplete u c data t) :=
  h.atH.finishFront.retire
theorem Keeps.doHostErr {u : Sub} {c : Idx16} {data : List Byte} {n : Nat} (h : Keeps m s t) : Keeps m s (doHostErr u c data n t) := by
  unfold Machine.doHostErr
  extract_lets
  split
  · exact h.atH
  · exact h.atH.moveWork.setWork.cancelFly.startStop.set.satCount.set.hdmaEvt
theorem Keeps.doHdmaChannelEnable {u : Sub} {c : Idx16} (h : Keeps m s t) : Keeps m s (doHdmaChannelEnable u c t) := .ite h.atH h.atH.set.set
theorem Ends.execHdmaChannelEnable {u : Sub} {c : Idx16} (h : Keeps m s t) : Ends m s (execHdmaChannelEnable u c t) := .done h.doHdmaChannelEnable
theorem Keeps.doHdmaDrain {u : Sub} {c : Idx16} (h : Keeps m s t) : Keeps m s (doHdmaDrain u c t) := .ite h.atH.startStop h.atH
theorem Ends.execHdmaDrain {u : Sub} {c : Idx16} (h : Keeps m s t) : Ends m s (execHdmaDrain u c t) := .done h.doHdmaDrain
theorem Keeps.doHdmaAbort {u : Sub} {c : Idx16} {data : List Byte} {n : Nat} (h : Keeps m s t) : Keeps m s (doHdmaAbort u c data n t) :=
  .ite h.atH.abortChan h.atH
theorem Ends.execHdmaAbort {u : Sub} {c : Idx16} {data : List Byte} {n : Nat} (h : Keeps m s t) : Ends m s (execHdmaAbort u c data n t) := .done h.doHdmaAbort
theorem Keeps.cancelPosted {c stop n : Nat} {l : List (List Byte)} (h : Keeps m s t) : Keeps m s (t.cancelPosted c stop n l) := by
  induction n generalizing t l with
  | zero => exact h
  | succ n ih => exact .ite h (ih h.writeCpl.put)
theorem Keeps.doChannelStopped {u : Sub} {c : Idx16} {descs : List (List Byte)} (h : Keeps m s t) : Keeps m s (doChannelStopped u c descs t) := by
  unfold Machine.doChannelStopped
  extract_lets
  split
  · exact h.atH.cancelPosted.put.set.set.set.set.set.setChan
  · exact h.atH
theorem Keeps.doTapFlush {u : Sub} {c : Idx16} (h : Keeps m s t) : Keeps m s (doTapFlush u c t) := by
  unfold Machine.doTapFlush
  extract_lets
  split
  · exact .ite h.atH.setWork h.atH
  · exact h.atH
theorem Keeps.doEqVectorTimer {u : Sub} (h : Keeps m s t) : Keeps m s (doEqVectorTimer u t) := h.atH.hdma.foldl .msix
theorem Keeps.doHdmaClrStats {u : Sub} (h : Keeps m s t) : Keeps m s (doHdmaClrStats u t) := .ite h.atH.putAll.putAll.set h.atH
theorem Ends.execHdmaClrStats {u : Sub} (h : Keeps m s t) : Ends m s (execHdmaClrStats u t) := .done h.doHdmaClrStats
theorem Keeps.doHdmaCClrStats {u : Sub} {c : Idx16} (h : Keeps m s t) : Keeps m s (doHdmaCClrStats u c t) := .ite h.atH.putAll h.atH
theorem Ends.execHdmaCClrStats {u : Sub} {c : Idx16} (h : Keeps m s t) : Ends m s (execHdmaCClrStats u c t) := .done h.doHdmaCClrStats

/-! ### The record store and its seals (R372–R396) -/

theorem Keeps.storEvt {code inst data : Nat} {f : Fld} (h : Keeps m s t) : Keeps m s (t.storEvt code inst data f) := h.set.hostEvent
theorem Keeps.storCount {a n : Nat} (h : Keeps m s t) : Keeps m s (t.storCount a n) := .ite h.satCount.storEvt h.satCount
theorem Keeps.storRefuse {inst reason : Nat} (h : Keeps m s t) : Keeps m s (t.storRefuse inst reason) := h.storEvt
theorem Keeps.setDrive {d : Nat} {x : DriveSt} (h : Keeps m s t) : Keeps m s (t.setDrive d x) := h.store
theorem Keeps.showStore (h : Keeps m s t) : Keeps m s t.showStore := h.set.set.set.put.put64.set
theorem Keeps.advance {k : Nat} (h : Keeps m s t) : Keeps m s (t.advance k) := .ite h.put.store h.put
theorem Keeps.stripeDone (h : Keeps m s t) : Keeps m s t.stripeDone := .advance (h.store.foldl .setDrive)
theorem Keeps.placeBlock {stream bflags era : Nat} {items : List (Nat × Nat × List Byte)} {first last : Nat} (h : Keeps m s t) :
    Keeps m s (t.placeBlock stream bflags era items first last) := .ite h.put64.store.stripeDone h.put64.store
theorem Keeps.discardBlock {b : OpenBlk} (h : Keeps m s t) : Keeps m s (t.discardBlock b) := by
  unfold State.discardBlock
  extract_lets _ _ _ _ _ _ s2
  have h1 : Keeps m s s2 := h.storCount.store
  split
  · exact h1.store
  · exact h1.store.set.hostFault
theorem Keeps.lossEnd (h : Keeps m s t) : Keeps m s t.lossEnd := by
  unfold State.lossEnd
  extract_lets
  split
  · exact h
  · exact .ledgerH (.storEvt (.ite (.placeBlock (.same h)) (.same h)))
theorem Keeps.closeBlock {stream bflags : Nat} {b : OpenBlk} (h : Keeps m s t) : Keeps m s (t.closeBlock stream bflags b) := .ite h.discardBlock h.placeBlock
theorem Keeps.closeO {bflags : Nat} (h : Keeps m s t) : Keeps m s (t.closeO bflags) := by
  unfold State.closeO
  extract_lets
  split
  · exact h.store.closeBlock
  · exact h
theorem Keeps.closeL {bflags : Nat} (h : Keeps m s t) : Keeps m s (t.closeL bflags) := by
  unfold State.closeL
  extract_lets
  split
  · exact h.store.closeBlock
  · exact h
theorem Keeps.storeO {era kind t64 : Nat} {bytes : List Byte} (h : Keeps m s t) : Keeps m s (t.storeO era kind t64 bytes) := by
  unfold State.storeO
  extract_lets s1
  have h1 : Keeps m s s1 := by
    unfold s1
    split
    · exact .ite h.closeO h
    · exact h
  exact h1.store
theorem Keeps.storeL {era t64 : Nat} {bytes : List Byte} (h : Keeps m s t) : Keeps m s (t.storeL era t64 bytes) := by
  unfold State.storeL
  extract_lets s1
  have h1 : Keeps m s s1 := by
    unfold s1
    split
    · exact .ite h.closeL h
    · exact h
  exact h1.store
theorem Keeps.releaseItem {i : Item} (h : Keeps m s t) : Keeps m s (t.releaseItem i) := .ite h.tapItem.storeO h.tapItem.availNote
theorem Keeps.releaseLate {arrival late : Nat} {i : Item} (h : Keeps m s t) : Keeps m s (t.releaseLate arrival late i) :=
  .ite h.tapItem.storeL h.tapItem.availNote
theorem Keeps.driveLost {d : Nat} (h : Keeps m s t) : Keeps m s (t.driveLost d) := by
  unfold State.driveLost
  extract_lets
  split
  · exact h.set
  · extract_lets _ _ _ _ s4
    have h1 : Keeps m s s4 := h.set.store.setDrive.showStore.storEvt.hostFault
    exact .ite h.set (.store (.ledgerH (.ite h1.hostFault h1)))
theorem Keeps.mintAsk (h : Keeps m s t) : Keeps m s t.mintAsk := h.set.set
theorem Keeps.mintDone (h : Keeps m s t) : Keeps m s t.mintDone := h.set.wrapCount64
theorem Keeps.spillOn {n : Nat} (h : Keeps m s t) : Keeps m s (t.spillOn n) := by
  induction n generalizing t with
  | zero => exact h
  | succ n ih => exact .ite (ih h.store.put64) h
theorem Keeps.sealAsk {x : SealSt} (h : Keeps m s t) : Keeps m s (t.sealAsk x) := .mintAsk (.store (.ite h h.store.store.spillOn.set))
theorem Keeps.sealNext (h : Keeps m s t) : Keeps m s t.sealNext := by
  unfold State.sealNext
  split
  · exact .ite h.sealAsk h
  · exact h
theorem Keeps.fillStripe {t64 bflags n : Nat} (h : Keeps m s t) : Keeps m s (t.fillStripe t64 bflags n) := by
  induction n generalizing t with
  | zero => exact h
  | succ n ih => exact .ite h (ih h.placeBlock.storCount)
theorem Keeps.sealInstant {eraClose : Bool} (h : Keeps m s t) : Keeps m s (t.sealInstant eraClose) := by
  unfold State.sealInstant
  extract_lets _ _ _ s1
  have h1 : Keeps m s s1 := .ite h.store.storCount.set.storEvt.hostFault h
  exact .sealNext (.showStore (.same (.ite h1.closeO.closeL.fillStripe h1)))
theorem Ends.execSealNow {u : Sub} (h : Keeps m s t) : Ends m s (execSealNow u t) := .done (h.atH.ifOn .store)
theorem Keeps.doSealIssued (h : Keeps m s t) : Keeps m s t.doSealIssued := by
  unfold State.doSealIssued
  split
  · exact h
  · extract_lets _ _ _ _ s2 s3
    have h1 : Keeps m s s2 := h.wrapCount64.replaceResult.store
    have h2 : Keeps m s s3 := .ite h1.storeO h1
    exact .ite h (.availJudge (.mintDone (.ite h2 h2.avail)))
theorem Keeps.unitTaken {d n : Nat} (h : Keeps m s t) : Keeps m s (t.unitTaken d n) := by
  unfold State.unitTaken
  extract_lets
  split
  · exact h
  · exact .ite h.setDrive.wrapCount64.showStore.lossEnd.showStore h.setDrive.wrapCount64.showStore
theorem Keeps.flushed {d : Nat} (h : Keeps m s t) : Keeps m s (t.flushed d) := by
  unfold State.flushed
  extract_lets
  split
  · exact .ite h.store.sealNext h
  · exact h
theorem Keeps.doNvme {d : Nat} {op : NvmeOp} {ok : Bool} (h : Keeps m s t) : Keeps m s (t.doNvme d op ok) := by
  unfold State.doNvme
  extract_lets s1
  have h1 : Keeps m s s1 := h.wrapCount
  refine .ite h ?_
  split
  · exact .ite h1.unitTaken h1.driveLost.sealNext
  · exact .ite h1.wrapCount64 h1.driveLost.sealNext
  · exact .ite h1.flushed h1.driveLost.sealNext
  · exact .ite h1 h1.storCount.store
  · exact h1.setDrive
  · exact h1
theorem Keeps.doNvmeTimeout {d : Nat} {abort : Bool} (h : Keeps m s t) : Keeps m s (t.doNvmeTimeout d abort) :=
  .ite h (.ite (.ite h.driveLost.sealNext h) h.setDrive)
theorem Keeps.doFormat (h : Keeps m s t) : Keeps m s t.doFormat := by
  unfold State.doFormat
  extract_lets
  refine .ite h.set.storRefuse ?_
  refine .ledgerH (.showStore (h.lossEnd.fresh.store.put.put.put64.put.put.set.set.foldl (fun h' => h'.setDrive.set.set)))
theorem Ends.execStorFormat {u : Sub} (h : Keeps m s t) : Ends m s (execStorFormat u t) := .done (h.atH.ifOn .doFormat)
theorem Keeps.showDrive {d : Nat} {x : DriveInfo} (h : Keeps m s t) : Keeps m s (t.showDrive d x) := h.set.set.put64.put.put.foldl .put
theorem Keeps.adopt {d p : Nat} (h : Keeps m s t) : Keeps m s (t.adopt d p) := h.store.setDrive.set.put.set.showStore.storEvt.ledgerH
theorem Keeps.joinDrive {d : Nat} (h : Keeps m s t) : Keeps m s (t.joinDrive d) := by
  unfold State.joinDrive
  split
  · exact h.showStore
  · exact .ite (.ite h.adopt h.showStore) (.ite h.set.set.showStore h.showStore)
theorem Keeps.doDriveUp {d : Nat} {x : DriveInfo} (h : Keeps m s t) : Keeps m s (t.doDriveUp d x) :=
  .ite h (.ite h.showDrive.setDrive.set.set.storRefuse.showStore h.showDrive.setDrive.set.set.joinDrive)
theorem Keeps.doDriveDown {d : Nat} (h : Keeps m s t) : Keeps m s (t.doDriveDown d) :=
  .ite h (.ite h.setDrive.set.set.driveLost.sealNext h.setDrive.set.set.set.showStore)
theorem Keeps.doRebuildDone (h : Keeps m s t) : Keeps m s t.doRebuildDone := by
  unfold State.doRebuildDone
  extract_lets
  split
  · exact h
  · exact h.store.set.put.showStore.storEvt.ledgerH
theorem Keeps.doStorEn {en : Bool} (h : Keeps m s t) : Keeps m s (t.doStorEn en) :=
  .ite h.set.showStore (.ite (.stopEntry (.showStore (.set (.store (.lossEnd (.ite h.closeO.closeL h)))))) h)
theorem Ends.execStorEnWrite {u : Sub} {en : Bool} (h : Keeps m s t) : Ends m s (execStorEnWrite u en t) := .done (h.atH.ifOn .doStorEn)
theorem Keeps.doPinAdd (h : Keeps m s t) : Keeps m s t.doPinAdd := .ite h.set.storRefuse h.store.set.set.ledgerH
theorem Ends.execPinAdd {u : Sub} (h : Keeps m s t) : Ends m s (execPinAdd u t) := .done (h.atH.ifOn .doPinAdd)
theorem Keeps.pinDrop {i : Nat} (h : Keeps m s t) : Keeps m s (t.pinDrop i) := h.store.set
theorem Keeps.doStoreRead (h : Keeps m s t) : Keeps m s t.doStoreRead := .ite h (.ite h.set.storRefuse h.put.set.store)
theorem Ends.execStoreRead {u : Sub} (h : Keeps m s t) : Ends m s (execStoreRead u t) := .done (h.atH.ifOn .doStoreRead)
theorem Keeps.landBlock {seq base i : Nat} (h : Keeps False s t) : Keeps False s (t.landBlock seq base i) := by
  unfold State.landBlock
  extract_lets put
  have hput : ∀ {t b}, Keeps False s t → Keeps False s (put t b) := fun h' => .ite (h'.mem (Memory.wf_write _ _)) h'
  split
  · exact (hput h).set
  · exact .ite (hput h) (hput h).set
theorem Keeps.doStoreReadDone (h : Keeps False s t) : Keeps False s t.doStoreReadDone := by
  unfold State.doStoreReadDone
  split
  · exact h
  · exact .store (.set (.set (h.foldl .landBlock)))
theorem Ends.execStorClrStats {u : Sub} (h : Keeps m s t) : Ends m s (execStorClrStats u t) := .done (h.atH.ifOn .putAll)
theorem Keeps.storePowerOff (h : Keeps m s t) : Keeps m s t.storePowerOff := h.store.foldl (fun h' => h'.put.put64.put)
theorem Keeps.storeResume (h : Keeps m s t) : Keeps m s t.storeResume := .ite h h.put64.put.store.showStore
theorem Keeps.ledgerReplay (h : Keeps m s t) : Keeps m s t.ledgerReplay := h.foldl .toClearing
theorem Keeps.storeRestart (h : Keeps m s t) : Keeps m s t.storeRestart := by
  unfold State.storeRestart
  extract_lets _ _ _ s2
  have h1 : Keeps m s s2 := by
    unfold s2
    split
    · exact h.store.avail.placeBlock
    · exact h.store
  exact .ite h1.showStore.ledgerReplay h
theorem Keeps.doMergedAppend (h : Keeps m s t) : Keeps m s t.doMergedAppend := by
  unfold State.doMergedAppend
  extract_lets
  split
  · exact .ite h.ledger.ledger1.hostEvent h
  · exact h
theorem Keeps.doNote (h : Keeps m s t) : Keeps m s t.doNote := h.ledgerH
theorem Ends.execLdgNote {u : Sub} (h : Keeps m s t) : Ends m s (execLdgNote u t) := .done (h.atH.ifOn .doNote)
theorem Ends.execLdgClrStats {u : Sub} (h : Keeps m s t) : Ends m s (execLdgClrStats u t) := .done (h.atH.ifOn .putAll)

/-! ### Power domains and the quiet state (R17, R18, R302, R427) -/

theorem Keeps.redStop {l : Nat} (h : Keeps m s t) : Keeps m s (t.redStop l) :=
  .ite h (.releaseBudget (.stopEntry (.set (.wr (.wr (.setRed (.ite h.sendInterval h)))))))
theorem Keeps.acqStop (h : Keeps m s t) : Keeps m s t.acqStop := .tallyStopAll (.foldl (h.foldl (fun h' => h'.laneStopAll.redStop)) .groupStop)
theorem Keeps.pinGroupOff {g : Nat} (h : Keeps m s t) : Keeps m s (t.pinGroupOff g) := h.mapRegs.seq
theorem Keeps.vmemOff (h : Keeps m s t) : Keeps m s t.vmemOff := .failClear (.seq (.ite h.seqEnd h))
theorem Keeps.guardOff (h : Keeps m s t) : Keeps m s t.guardOff := .ddacSet (.setMet (.refbufOff (.calAbort (h.foldl .winStop))))
theorem Keeps.podsOff (h : Keeps m s t) : Keeps m s t.podsOff := h.foldl (fun h' => .ite h'.podGap.podDetach h'.podPowerOff.podState)
theorem Keeps.offEffect {d : Nat} (h : Keeps False s t) : Keeps False s (t.offEffect d) := by
  unfold State.offEffect
  extract_lets s1 _ _ _ _ _ s3
  have h1 : Keeps False s s1 := h.foldl .availNote
  have h2 : Keeps False s s3 := .set (.set (.seqBlockReset (.same (.ite h.linkLoss h))))
  refine .ite h.mgmtReset ?_
  refine .ite (.same (h1.mem (x := []) fun _ => rfl)) ?_
  refine .ite h.hostLinkReset ?_
  refine .ite h.doStorEn.storePowerOff.showStore ?_
  refine .ite (.ite h.linkLoss h) ?_
  refine .ite h2.link ?_
  refine .ite h.vmemOff ?_
  refine .ite h.pinGroupOff ?_
  refine .ite h.pinGroupOff ?_
  exact .ite (h.foldl (fun h' => h'.laneStopAll.genStop)) (.ite h.acqStop.pairStopAll (.ite h.guardOff (.ite h.podsOff h)))
theorem Keeps.domOff1 {d : Nat} (h : Keeps False s t) : Keeps False s (t.domOff1 d) := .ite h.offEffect.wr h
theorem Keeps.domOff {d : Nat} (h : Keeps False s t) : Keeps False s (t.domOff d) := .domOff1 (h.foldl .domOff1)
theorem Keeps.onEffect {d : Nat} (h : Keeps m s t) : Keeps m s (t.onEffect d) := by
  unfold State.onEffect
  extract_lets _ s1
  have h1 : Keeps m s s1 := h.set.put
  refine .ite h.fault ?_
  refine .ite h.storeResume ?_
  refine .ite h.trainStart ?_
  exact .ite (.ite h1 h1.trainStart) (.ite (h.foldl .setLane) (.ite (h.foldl (fun h' => .ite h'.podBegin h')) h))
theorem Keeps.domOn1 {d : Nat} (h : Keeps m s t) : Keeps m s (t.domOn1 d) := h.wr.onEffect
theorem Keeps.pwrBit {v : Word} {d : Nat} (h : Keeps False s t) : Keeps False s (State.pwrBit v t d) :=
  .ite (.ite h (.ite h.wr h.set)) (.ite h.wr h.wr.domOff)
theorem Keeps.doPwrRequest {v : Word} (h : Keeps False s t) : Keeps False s (t.doPwrRequest v) := h.foldl .pwrBit
theorem Ends.execPowerDomainRequest {u : Sub} {v : Word} (h : Keeps False s t) : Ends False s (execPowerDomainRequest u v t) := .done h.atH.doPwrRequest
theorem Keeps.doDomainPowered {d : Nat} (h : Keeps False s t) : Keeps False s (t.doDomainPowered d) := .ite h (.ite (.ite h h.domOn1) (.ite h.domOff h))
theorem Keeps.doH3Trained (h : Keeps m s t) : Keeps m s t.doH3Trained := .ite h.domOn1 h
theorem Keeps.doQuietRequest {v : Word} (h : Keeps m s t) : Keeps m s (t.doQuietRequest v) :=
  h.ifOn (fun h' => .ite h'.set (.ite h'.set.set.set h'.set.grd.set))
theorem Ends.execQuietRequest {u : Sub} {v : Word} (h : Keeps m s t) : Ends m s (execQuietRequest u v t) := .done h.atF.doQuietRequest
theorem Keeps.quietSave (h : Keeps m s t) : Keeps m s t.quietSave := h.grd
theorem Keeps.doQuietEnter (h : Keeps False s t) : Keeps False s t.doQuietEnter := .ite (.set (.grd (h.quietSave.acqStop.pairStopAll.foldl .domOff))) h
theorem Keeps.quietOver (h : Keeps m s t) : Keeps m s t.quietOver := h.grd.setAll
theorem Keeps.doWake (h : Keeps m s t) : Keeps m s t.doWake := by
  unfold State.doWake
  extract_lets
  split
  · exact .ite h.quietOver.set.winEvent h
  · exact h
theorem Keeps.doQuietEnd (h : Keeps m s t) : Keeps m s t.doQuietEnd := h.ifOn (fun h' => .ite h'.quietOver h'.grd.set)
theorem Ends.execQuietEnd {u : Sub} (h : Keeps m s t) : Ends m s (execQuietEnd u t) := .done h.atF.doQuietEnd
theorem Keeps.doQuietRestore (h : Keeps m s t) : Keeps m s t.doQuietRestore := by
  unfold State.doQuietRestore
  extract_lets _ _ _ _ _ s5 s6
  have h1 : Keeps m s s5 := .foldl (.foldl (.foldl (.foldl (h.foldl .put) (fun h' => h'.setRed.wr.set)) .set) .set) .set
  have h2 : Keeps m s s6 := h1.foldl .set
  exact .ite h2.grd.planAdmit h

/-! ### The security island (R397–R413) -/

theorem Keeps.setEsc {k : Nat} {x : EscSlot} (h : Keeps m s t) : Keeps m s (t.setEsc k x) := h.sec
theorem Keeps.secRefused (h : Keeps m s t) : Keeps m s t.secRefused := h.satCount
theorem Keeps.secEntry {inst : Nat} {vs : List Nat} (h : Keeps m s t) : Keeps m s (t.secEntry inst vs) := h.ledgerH
theorem Keeps.doPacketSubmit {service : Bool} (h : Keeps m s t) : Keeps m s (t.doPacketSubmit service) := .ite h.set h.set.sec.set
theorem Ends.execPacketSubmit {u : Sub} {service : Bool} (h : Keeps m s t) : Ends m s (execPacketSubmit u service t) := .done (h.atH.ifOn .doPacketSubmit)
theorem Keeps.doPacketCheck (h : Keeps m s t) : Keeps m s t.doPacketCheck := by
  unfold State.doPacketCheck
  extract_lets
  split
  · exact h
  · exact .ite h.sec.set.set.set.secRefused.secEntry h.sec.set.setEsc.put64.put64.putDigest.put
theorem Keeps.escPrepare {k : Nat} (h : Keeps m s t) : Keeps m s (t.escPrepare k) := .ite (.set (.setEsc (h.foldl .sendHF))) h
theorem Keeps.escGo {k : Nat} (h : Keeps m s t) : Keeps m s (t.escGo k) := h.sendHF.setEsc.put64
theorem Keeps.escAnswer {tag : Nat} {ws : List Word} (h : Keeps m s t) : Keeps m s (t.escAnswer tag ws) :=
  .ite h (.ite h.setEsc (.ite (.ite h.setEsc h.setEsc) (.ite h (.ite h.setEsc.escGo h.setEsc))))
theorem Keeps.escApprove {k : Nat} (h : Keeps m s t) : Keeps m s (t.escApprove k) := h.set.set.secEntry.escPrepare
theorem Keeps.escEnd {k result : Nat} (h : Keeps m s t) : Keeps m s (t.escEnd k result) := h.setEsc.put.put.put64.put64.put64.putAll
theorem Keeps.escFail {k result : Nat} (h : Keeps m s t) : Keeps m s (t.escFail k result) := h.secEntry.escEnd.set
theorem Keeps.doSlotStaged {k : Nat} (h : Keeps m s t) : Keeps m s (t.doSlotStaged k) :=
  .ite (.ite h.setEsc.put.set.set.put64.set.secEntry h.setEsc.put.set.set.put64.set.secEntry.escApprove) h
theorem Keeps.doTokenSubmit (h : Keeps m s t) : Keeps m s t.doTokenSubmit := .ite h h.sec.set
theorem Ends.execTokenSubmit {u : Sub} (h : Keeps m s t) : Ends m s (execTokenSubmit u t) := .done (h.atH.ifOn .doTokenSubmit)
theorem Keeps.doTokenCheck {service : Bool} (h : Keeps m s t) : Keeps m s (t.doTokenCheck service) := by
  unfold State.doTokenCheck
  extract_lets _ s1
  have h1 : Keeps m s s1 := h.sec.set.set
  split
  · exact h
  · extract_lets _ _ _ s2
    have h2 : Keeps m s s2 := .ite h1.setEsc.set h1.set
    exact .ite h1.set.set.secRefused (.ite h1.escFail (.ite h2.escApprove h2))
theorem Keeps.doSlotExpiry {k : Nat} (h : Keeps m s t) : Keeps m s (t.doSlotExpiry k) := .ite h.escFail h
theorem Keeps.plWrite {a mask value : Nat} (h : Keeps m s t) : Keeps m s (t.plWrite a mask value) := by
  unfold State.plWrite
  extract_lets _ _ _ _ _ _ s2
  have h1 : Keeps m s s2 := .ite h.wr.winStop h.wr
  refine .ite (.ite h.pinDrop h) ?_
  exact .ite (.ite h.availClear h) (.ite (.ite h.put h.put.driverOff) (.ite (.ite h1 h1.winApply) h.wr))
theorem Keeps.bankCommit {ws : List Word} (h : Keeps m s t) : Keeps m s (t.bankCommit ws) :=
  .ite (.doCustSwitch (.set (.ite h.seq h.seq))) (.set (.ite h.seq h.seq))
theorem Keeps.heldApply {h0 : HeldBuf} (h : Keeps m s t) : Keeps m s (t.heldApply h0) := by
  unfold State.heldApply
  extract_lets
  split
  · exact .bankCommit (h.foldl .plWrite)
  · exact .ite (h.foldl .plWrite) (.bankCommit (h.foldl .plWrite))
theorem Keeps.setHeld {k : Nat} {h0 : HeldBuf} (h : Keeps m s t) : Keeps m s (t.setHeld k h0) := h.link.put
theorem Keeps.heldTake {tag addr : Nat} {ws : List Word} (h : Keeps m s t) : Keeps m s (t.heldTake tag addr ws) := by
  unfold State.heldTake
  extract_lets
  refine .ite h.setHeld ?_
  split
  · exact h.setHeld
  · exact h
theorem Keeps.escDone {k tick : Nat} {applied : Bool} (h : Keeps m s t) : Keeps m s (t.escDone k tick applied) := h.replaceResult.set
theorem Keeps.goArrive {k t64 : Nat} (h : Keeps m s t) : Keeps m s (t.goArrive k t64) := .ite h.setHeld.escDone h.link
theorem Keeps.doEscGo {k : Nat} (h : Keeps m s t) : Keeps m s (t.doEscGo k) := by
  unfold State.doEscGo
  extract_lets
  refine .ite h ?_
  split
  · exact h.link.goArrive.sendRsp
  · exact h
theorem Keeps.escApply1 {p : Nat × Nat} (h : Keeps m s t) : Keeps m s (t.escApply1 p) := .escDone (.ite h.setHeld.heldApply h.setHeld)
theorem Keeps.doEscApply (h : Keeps m s t) : Keeps m s t.doEscApply := .ite (h.link.foldl .escApply1) h
theorem Keeps.doHeldDiscard {k : Nat} (h : Keeps m s t) : Keeps m s (t.doHeldDiscard k) := .ite h.setHeld.set h
theorem Keeps.showKeys (h : Keeps m s t) : Keeps m s t.showKeys := h.put.set
theorem Keeps.rotateSeal (h : Keeps m s t) : Keeps m s t.rotateSeal := h.fresh.sec.mintAsk.mintDone.set.secEntry
theorem Keeps.opApply {o : EscOp} (h : Keeps m s t) : Keeps m s (t.opApply o) := by
  unfold State.opApply
  extract_lets
  split
  · exact .ite h h.plWrite
  · exact h
  · exact h.sec.showKeys
  · exact h.sec.showKeys
  · exact h.rotateSeal
theorem Keeps.escCommit {k c : Nat} (h : Keeps m s t) : Keeps m s (t.escCommit k c) :=
  .ledgerH (.set (.escEnd (.sec (.putDigest (.wrapCount64 (h.foldl .opApply))))))
theorem Keeps.escTurned {k why : Nat} (h : Keeps m s t) : Keeps m s (t.escTurned k why) := .ite h.set.set h.escFail
theorem Keeps.escBoundary {k : Nat} (h : Keeps m s t) : Keeps m s (t.escBoundary k) := by
  unfold State.escBoundary
  extract_lets
  refine .ite (.ite h (.ite h.put64.escCommit h.put64.escTurned)) ?_
  refine .ite h.escPrepare ?_
  refine .ite ?_ h
  refine .ite (.ite h.set.escPrepare h) ?_
  refine .ite h ?_
  refine .ite (.ite h.escCommit h.escTurned) ?_
  split
  · exact h.escCommit
  · exact h.escFail
  · exact .ite h.setEsc.sendHF (.ite h h.setEsc)
theorem Keeps.doEscrowCommit (h : Keeps m s t) : Keeps m s t.doEscrowCommit := .ite (h.foldl .escBoundary) h
theorem Ends.execSecClrStats {u : Sub} (h : Keeps m s t) : Ends m s (execSecClrStats u t) := .done (h.atH.ifOn .put)

/-! ### Image slots (R416–R424) -/

theorem Keeps.setImgSlot {k : Nat} {m0 : List Host.Cell} (h : Keeps m s t) : Keeps m s (t.setImgSlot k m0) := .ite h.start h.start
theorem Keeps.doImgErase (h : Keeps m s t) : Keeps m s t.doImgErase := .ite h h.start.set
theorem Ends.execImgErase {u : Sub} (h : Keeps m s t) : Ends m s (execImgErase u t) := .done (h.atH.ifOn .doImgErase)
theorem Keeps.doImgProg {words : Nat} (h : Keeps m s t) : Keeps m s (t.doImgProg words) := .ite h.set h.set.start.set
theorem Ends.execImgProg {u : Sub} {words : Fin 8192} (h : Keeps m s t) : Ends m s (execImgProg u words t) := .done (h.atH.ifOn .doImgProg)
theorem Keeps.doImgOpDone (h : Keeps m s t) : Keeps m s t.doImgOpDone := by
  unfold State.doImgOpDone
  extract_lets
  split
  · exact h
  · exact .ite h.start.set.setImgSlot h.start.set.setImgSlot
theorem Keeps.doImgActivate (h : Keeps m s t) : Keeps m s t.doImgActivate := .ite h h.start.set
theorem Ends.execImgActivate {u : Sub} (h : Keeps m s t) : Ends m s (execImgActivate u t) := .done (h.atH.ifOn .doImgActivate)
theorem Keeps.doImgCheckDone (h : Keeps m s t) : Keeps m s t.doImgCheckDone := .ite (.ite h.start.set.set.start.set.set.ledgerH h.start.set.set.set) h

/-! ### Modes (R425–R432) -/

theorem Keeps.modeRefuse {why : Nat} (h : Keeps m s t) : Keeps m s (t.modeRefuse why) := h.set.set
theorem Keeps.modeAdmit {m0 t0 : Nat} (h : Keeps m s t) : Keeps m s (t.modeAdmit m0 t0) := h.start.set
theorem Keeps.doModeRequest {m0 : Nat} (h : Keeps m s t) : Keeps m s (t.doModeRequest m0) := by
  unfold State.doModeRequest
  extract_lets
  refine .ite h.set.modeRefuse ?_
  refine .ite h.set.modeAdmit ?_
  split
  · exact h.set.planRefuse.modeRefuse
  · exact h.set.planAdmit.modeAdmit
theorem Ends.execModeRequest {u : Sub} {m0 : Idx16} (h : Keeps m s t) : Ends m s (execModeRequest u m0 t) := .done (h.atH.ifOn .doModeRequest)
theorem Keeps.modeStops {m0 : Nat} (h : Keeps m s t) : Keeps m s (t.modeStops m0) := by
  unfold State.modeStops
  extract_lets _ s2 s3 s4 s5
  have h1 : Keeps m s s2 := .ite (.ite h h.seqStop.genStopAll) (.acqStop (.ite h h.seqStop.genStopAll))
  have h2 : Keeps m s s3 := .ite h1 h1.pairStopAll
  have h3 : Keeps m s s4 := .ite h2 h2.calAbort
  have h4 : Keeps m s s5 := .ite h3 h3.ddacSet
  exact .ite h4.driversOff h4
theorem Keeps.doModeChange (h : Keeps m s t) : Keeps m s t.doModeChange := by
  unfold State.doModeChange
  extract_lets _ _ s1
  have h1 : Keeps m s s1 := h.doEscApply.doEscrowCommit.start.set
  split
  · exact .ite (.ite h1.modeRefuse (.ledgerH (.set (.set (.ite h1.modeStops h1.start))))) h
  · exact h
theorem Ends.execSysClrStats {u : Sub} (h : Keeps m s t) : Ends m s (execSysClrStats u t) := .done (h.atH.ifOn .put)
theorem Keeps.showRecording (h : Keeps m s t) : Keeps m s t.showRecording :=
  .ite (.ite h.set (.ite h.set.set.set.avail h.set.set.set.avail.replaceResult)) h.set.set

/-! ### The coordinated update (R453–R468) -/

theorem Keeps.setFwBank {k : Nat} {b : FwBank} (h : Keeps m s t) : Keeps m s (t.setFwBank k b) := .ite h.upd h.upd
theorem Keeps.bankState {k st : Nat} (h : Keeps m s t) : Keeps m s (t.bankState k st) := h.setFwBank
theorem Keeps.updMove {st : Nat} (h : Keeps m s t) : Keeps m s (t.updMove st) := .ite h h.set.ledgerH
theorem Keeps.updEvt {f : Fld} {code : Nat} (h : Keeps m s t) : Keeps m s (t.updEvt f code) := h.set.hostEvent
theorem Keeps.doUpdErase (h : Keeps m s t) : Keeps m s t.doUpdErase := .ite h h.upd.set.setFwBank.updMove
theorem Ends.execUpdErase {u : Sub} (h : Keeps m s t) : Ends m s (execUpdErase u t) := .done (h.atH.ifOn .doUpdErase)
theorem Keeps.doUpdProg {words : Nat} (h : Keeps m s t) : Keeps m s (t.doUpdProg words) := .ite h.set h.set.upd.set
theorem Ends.execUpdProg {u : Sub} {words : Fin 8192} (h : Keeps m s t) : Ends m s (execUpdProg u words t) := .done (h.atH.ifOn .doUpdProg)
theorem Keeps.doUpdOpDone (h : Keeps m s t) : Keeps m s t.doUpdOpDone := by
  unfold State.doUpdOpDone
  extract_lets
  split
  · exact h
  · exact .ite h.upd.set h.upd.set.setFwBank
theorem Keeps.sendFw {k : Nat} (h : Keeps m s t) : Keeps m s (t.sendFw k) := h.foldl .sendHF
theorem Keeps.doUpdVerify (h : Keeps m s t) : Keeps m s t.doUpdVerify := by
  unfold State.doUpdVerify
  extract_lets _ _ _ _ _ _ _ s4
  have h1 : Keeps m s s4 := .updMove (.set (.upd (h.set.bankState.put64.putDigest.foldl .setPod)))
  exact .ite h (.ite h.set (.ite h1.sendFw h1))
theorem Ends.execUpdVerify {u : Sub} (h : Keeps m s t) : Ends m s (execUpdVerify u t) := .done (h.atH.ifOn .doUpdVerify)
theorem Keeps.fwTake {pl : List Byte} (h : Keeps m s t) : Keeps m s (t.fwTake pl) := h.upd
theorem Keeps.stagingFail (h : Keeps m s t) : Keeps m s t.stagingFail := h.upd.set.set
theorem Keeps.doStagingComplete (h : Keeps m s t) : Keeps m s t.doStagingComplete :=
  .ite h (.ite h.stagingFail (.ite h (.ite h.stagingFail h.upd.set.updMove.updEvt)))
theorem Keeps.doUpdArm {cell : Bool} (h : Keeps m s t) : Keeps m s (t.doUpdArm cell) := .ite h.set.upd.set.replaceResult.updMove.updEvt h.set.set
theorem Ends.execUpdArm {u : Sub} {cell : Bool} (h : Keeps m s t) : Ends m s (execUpdArm u cell t) := .done (h.atH.ifOn .doUpdArm)
theorem Keeps.doUpdCancel (h : Keeps m s t) : Keeps m s t.doUpdCancel := .ite h.upd.updMove h
theorem Ends.execUpdCancel {u : Sub} (h : Keeps m s t) : Ends m s (execUpdCancel u t) := .done (h.atH.ifOn .doUpdCancel)
theorem Keeps.showCellSync {line : Bool} (h : Keeps m s t) : Keeps m s (t.showCellSync line) := h.set.set
theorem Keeps.doDecision {line : Bool} (h : Keeps m s t) : Keeps m s (t.doDecision line) := by
  unfold State.doDecision
  extract_lets
  split
  · exact .ite (.ite h.set.upd h.set.upd.set.updMove.updEvt) h
  · exact h
theorem Keeps.doActivation (h : Keeps m s t) : Keeps m s t.doActivation := by
  unfold State.doActivation
  extract_lets
  split
  · exact .ite h.bankState.mgmtReset.upd.updMove h
  · exact h
theorem Keeps.doHostStage (h : Keeps m s t) : Keeps m s t.doHostStage := .ite (.ite (.updMove (.upd (.set (.same h)))) (.set (.same h))) h
theorem Keeps.driveHold {b : Nat} (h : Keeps m s t) : Keeps m s (t.driveHold b) := .same h
theorem Keeps.vendorLoad {e : List Byte} (h : Keeps m s t) : Keeps m s (t.vendorLoad e) := by
  unfold State.vendorLoad
  extract_lets
  split
  · exact .ite h.upd.set.put h.set.set.fieldFault
  · exact h
theorem Keeps.doFieldStage (h : Keeps m s t) : Keeps m s t.doFieldStage := by
  unfold State.doFieldStage
  extract_lets _ _ s2 s3 _ _ s31
  have h1 : Keeps m s s2 := h.driveHold.set
  have h2 : Keeps m s s3 := .ite h1 h1.set
  have h3 : Keeps m s s31 := h1.upd
  refine .ite ?_ h
  refine .ite h2.upd ?_
  split
  · exact h3.vendorLoad
  · exact h3
theorem Keeps.fieldStageEnd (h : Keeps m s t) : Keeps m s t.fieldStageEnd := by
  unfold State.fieldStageEnd
  extract_lets
  split
  · exact .ite (.ite h.upd.upd.updMove h.upd.updMove.updEvt) h
  · exact h
theorem Keeps.doFieldTimeout (h : Keeps m s t) : Keeps m s t.doFieldTimeout := by
  unfold State.doFieldTimeout
  extract_lets
  split
  · exact .ite h.upd.updMove h
  · exact h
theorem Keeps.doHealthPass (h : Keeps m s t) : Keeps m s t.doHealthPass := .ite h.set h
theorem Keeps.revertRecord (h : Keeps m s t) : Keeps m s t.revertRecord := by
  unfold State.revertRecord
  exact h.bankState.set.updEvt.hostFault
theorem Keeps.revert (h : Keeps m s t) : Keeps m s t.revert := h.revertRecord.upd.mgmtReset
theorem Keeps.fatalRevert (h : Keeps m s t) : Keeps m s t.fatalRevert := .ite h.revert h
theorem Keeps.doCommitSample {line : Bool} (h : Keeps m s t) : Keeps m s (t.doCommitSample line) := by
  unfold State.doCommitSample
  extract_lets
  split
  · exact .ite h.upd.revertRecord (.ite (.ite h.set.bankState.bankState.put64.upd.set.updMove.updEvt h.set.revert) h)
  · exact h

/-! ### The audit report (R414) -/

theorem Keeps.doArGo (h : Keeps m s t) : Keeps m s t.doArGo := .ite h h.sec.set.mintAsk
theorem Ends.execArGo {u : Sub} (h : Keeps m s t) : Ends m s (execArGo u t) := .done (h.atH.ifOn .doArGo)
theorem Keeps.doReportReady (h : Keeps m s t) : Keeps m s t.doReportReady := .ite h.sec.mintDone.set.set.secEntry h

/-! ### Clearing (R79–R83) -/

theorem Keeps.releaseLates (h : Keeps m s t) : Keeps m s t.releaseLates := h.clr.foldl .releaseLate
theorem Keeps.releaseTo {t0 : Nat} (h : Keeps m s t) : Keeps m s (t.releaseTo t0) :=
  .releaseLates (h.clr.put64.set.foldl (fun h' => h'.wrapCount64.releaseItem))
theorem Keeps.squeezeStart (h : Keeps m s t) : Keeps m s t.squeezeStart := .ite h.clr.set.satCount.hostFault h
theorem Keeps.clearTick (h : Keeps m s t) : Keeps m s t.clearTick := .ite (.ite h.squeezeStart.releaseTo.clr h.squeezeStart.releaseTo) h
theorem Keeps.doHorizonChange (h : Keeps m s t) : Keeps m s t.doHorizonChange := .ite (.ite h.clr.releaseTo h.clr) h
theorem Ends.execClrCtrlClrStats {u : Sub} (h : Keeps m s t) : Ends m s (execClrCtrlClrStats u t) := .done (h.atH.ifOn .putAll)

end Sys2Proof.Machine
end

section
/-! PROOFS. What keeps the canonical forms and the time (R61, R69, R71): the micro-sequencer, the tick keeper, the generators and the accesses to registers. -/

namespace Sys2Proof.Machine

variable {m : Prop} {s t : State}

/-! ### The micro-sequencer (R157–R172) -/

theorem Keeps.setUreg {k v : Nat} (h : Keeps m s t) : Keeps m s (t.setUreg k v) := .ite h h.put
theorem Keeps.microFault {cause : Nat} (h : Keeps m s t) : Keeps m s (t.microFault cause) := h.set.set.set.set.setSeq.set.fieldFault.seqEnd
theorem Keeps.microGo {a : Nat} (h : Keeps m s t) : Keeps m s (t.microGo a) := .ite h.microFault h.setSeq
theorem Keeps.microStep (h : Keeps m s t) : Keeps m s t.microStep := h.microGo
theorem Keeps.micro {c : Nat} {f : State → MicroWord → State} (h : Keeps m s t) (hf : ∀ {t x1}, Keeps m s t → Keeps m s (f t x1)) :
    Keeps m s (t.micro c f) :=
  .ite (hf h) h
theorem Keeps.arith {w : MicroWord} {f : Nat → Nat → Nat} (h : Keeps m s t) : Keeps m s (t.arith w f) := h.setUreg.microStep
theorem Keeps.doMcall {w : MicroWord} (h : Keeps m s t) : Keeps m s (t.doMcall w) := .ite h.microFault (.ite h.microFault h.setSeq.microGo)
theorem Keeps.doMret (h : Keeps m s t) : Keeps m s t.doMret := by
  unfold State.doMret
  extract_lets
  split
  · exact h.microFault
  · exact .ite h.microFault h.setSeq.microGo
theorem Keeps.microIssue {w : MicroWord} (h : Keeps m s t) : Keeps m s (t.microIssue w) := h.issue.microStep
theorem Keeps.microCmpw {w : MicroWord} (h : Keeps m s t) : Keeps m s (t.microCmpw w) := by
  unfold State.microCmpw
  extract_lets
  split
  · exact h.setUreg.microStep
  · exact h.fresh.setUreg.microStep
theorem Keeps.microHlt {w : MicroWord} (h : Keeps m s t) : Keeps m s (t.microHlt w) := h.setSeq.set.set.seqEnd
theorem Keeps.runStallOp {w : MicroWord} (h : Keeps m s t) : Keeps m s (t.runStallOp w) :=
  .ite h.microIssue (.ite h.microCmpw (.ite h.microStep (.ite h.microHlt h)))
theorem Keeps.mayStall {w : MicroWord} (h : Keeps m s t) : Keeps m s (t.mayStall w) := .ite h.runStallOp h.setSeq
theorem Keeps.microPatch {w : MicroWord} (h : Keeps m s t) : Keeps m s (t.microPatch w) := h.setSeq.microStep
theorem Keeps.microLpush {w : MicroWord} (h : Keeps m s t) : Keeps m s (t.microLpush w) := .ite h.stackError h.setSeq.microStep
theorem Keeps.microLend (h : Keeps m s t) : Keeps m s t.microLend := by
  unfold State.microLend
  split
  · exact h.stackError
  · exact h.loopDecide.microStep
theorem Keeps.microCpush (h : Keeps m s t) : Keeps m s t.microCpush := .ite h.stackError h.setSeq.microStep
theorem Keeps.microCpop (h : Keeps m s t) : Keeps m s t.microCpop := by
  unfold State.microCpop
  extract_lets
  split
  · exact h.stackError
  · exact h.setSeq.goTo.microStep
theorem Keeps.microSetnx {w : MicroWord} (h : Keeps m s t) : Keeps m s (t.microSetnx w) := .microStep (.ite h.goTo (.ite h.goTo (.ite h.goTo h)))
theorem Keeps.microFlag {w : MicroWord} (h : Keeps m s t) : Keeps m s (t.microFlag w) := h.setSeq.microStep
theorem Keeps.microGstep (h : Keeps m s t) : Keeps m s t.microGstep := h.setSeq.microStep
theorem Keeps.microEvt {w : MicroWord} (h : Keeps m s t) : Keeps m s (t.microEvt w) := h.fieldEvent.setSeq.microStep
theorem Keeps.commitRestart {mpc point : Nat} (h : Keeps m s t) : Keeps m s (t.commitRestart mpc point) := .set (h.setSeq.foldl .put)
theorem Keeps.serve {r : SvcReq} (h : Keeps m s t) : Keeps m s (t.serve r) := by
  unfold State.serve
  extract_lets
  split
  · exact h.sendRsp
  · exact .sendRsp (h.foldl .setUreg)
  · exact h.sendRsp
  · exact h.set.set.set.seqBlockReset.set
  · exact .ite h.setSeq.set.seqEnd h
theorem Keeps.serveAll (h : Keeps m s t) : Keeps m s t.serveAll := h.setSeq.set.put.foldl .serve
theorem Keeps.microSafe (h : Keeps m s t) : Keeps m s t.microSafe := .ite h.commitRestart.microStep h.commitRestart.microStep.serveAll
theorem Keeps.microEnd (h : Keeps m s t) : Keeps m s t.microEnd := .ite h.setSeq.set.set.setSeq.seqEnd h.setSeq.set.set
theorem Keeps.doIllegalMicro (h : Keeps m s t) : Keeps m s t.doIllegalMicro := .ite h.microFault h
theorem Keeps.doStallRelease (h : Keeps m s t) : Keeps m s t.doStallRelease := .ite h.setSeq.runStallOp h
theorem Keeps.doServiceTaken (h : Keeps m s t) : Keeps m s t.doServiceTaken := .ite h (.ite h.serveAll (.ite h.commitRestart.serveAll h))
theorem Keeps.doSvcOverdue (h : Keeps m s t) : Keeps m s t.doSvcOverdue := .ite h.satCount.set.microFault.serveAll h
theorem Keeps.doUstoreClrStats (h : Keeps m s t) : Keeps m s t.doUstoreClrStats := h.ifOn .putAll
theorem Ends.execUstoreClrStats (h : Keeps m s t) : Ends m s (execUstoreClrStats t) := .done h.doUstoreClrStats

/-! ### The tick keeper (R56–R78) -/

theorem Keeps.doClockSelect {src : Nat} (h : Keeps m s t) : Keeps m s (t.doClockSelect src) := .ite h h.set.setAll
theorem Ends.execClockSourceSelect {u : Sub} {src : Fin 4} (h : Keeps m s t) : Ends m s (execClockSourceSelect u src t) := .done (h.atH.ifOn .doClockSelect)
theorem Keeps.pllOn (h : Keeps m s t) : Keeps m s t.pllOn := h.set.set.set.set
theorem Keeps.doPllLock (h : Keeps m s t) : Keeps m s t.doPllLock := .ite h.pllOn h
theorem Keeps.doRefLost (h : Keeps m s t) : Keeps m s t.doRefLost := .ite h.setAll.set.set.hostFault h
theorem Keeps.doHoldoverReturn (h : Keeps m s t) : Keeps m s t.doHoldoverReturn := .ite h.pllOn h
theorem Keeps.doHostBeacon (h : Keeps m s t) : Keeps m s t.doHostBeacon := .ite h.sendHF.sendHF h
theorem Keeps.setFieldTime {u : Nat} (h : Keeps m s t) : Keeps m s (t.setFieldTime u) :=
  h.time fun ⟨ht, hu, _, _⟩ => ⟨ht, hu, Nat.mod_lt _ ticksPerEra_pos, Nat.mod_lt _ unitsPerTick_pos⟩
theorem Keeps.showAligned {b : Bool} (h : Keeps m s t) : Keeps m s (t.showAligned b) := h.set.set
theorem Keeps.hostBeaconArrive {m0 : Msg} (h : Keeps m s t) : Keeps m s (t.hostBeaconArrive m0) := by
  unfold State.hostBeaconArrive
  extract_lets _ _ _ _ s2 _ ofs s3
  have h2 : Keeps m s s2 := h.clock.setFieldTime
  have h3 : Keeps m s s3 := h.clock.put
  clear_value s2 s3 ofs
  exact .ite h2.clock.put.showAligned (.ite h3.clock.showAligned h3.clock.showAligned)
theorem Keeps.doFieldStep (h : Keeps m s t) : Keeps m s t.doFieldStep := .ite h.clock.setFieldTime.set.ledgerF h
theorem Keeps.doHealthCompose (h : Keeps m s t) : Keeps m s t.doHealthCompose := .ite h.atF.sendFieldFaults.sendFH.plan h
theorem Keeps.doTickOverrun (h : Keeps m s t) : Keeps m s t.doTickOverrun := by
  unfold State.doTickOverrun
  extract_lets _ _ _ _ s3
  have h1 : Keeps m s s3 := h.clock.satCount.satCount.replaceResult.set.fieldFault
  exact .ite (.ite h1.clock.set.fieldFault h1) h
theorem Keeps.overrunNext (h : Keeps m s t) : Keeps m s t.overrunNext := .ite h.clock h.clock.put
theorem Ends.execTimeClrStats {u : Sub} (h : Keeps m s t) : Ends m s (execTimeClrStats u t) := .done (h.atH.ifOn .put)
theorem Keeps.doTickMark (h : Keeps m s t) : Keeps m s t.doTickMark := .ite h.clock h
theorem Keeps.eraWrap (h : Keeps m s t) : Keeps m s t.eraWrap := by
  unfold State.eraWrap
  extract_lets s0 _ _ s2
  have h0 : Keeps m s s0 := .ite h.sealInstant (.ite h.closeO.closeL h)
  have h2 : Keeps m s s2 := h0.set.time fun ⟨_, _, ft, fu⟩ => ⟨ticksPerEra_pos, unitsPerTick_pos, ft, fu⟩
  exact h2.satCount.put64.set.ledgerH
theorem Keeps.hostNextTick (h : Keeps m s t) : Keeps m s t.hostNextTick := by
  unfold State.hostNextTick
  split
  case isTrue => exact h.eraWrap
  case isFalse wrap => exact h.time fun ⟨ht, _, ft, fu⟩ => ⟨by dsimp only; omega, unitsPerTick_pos, ft, fu⟩
theorem Keeps.fieldNextTick (h : Keeps m s t) : Keeps m s t.fieldNextTick := by
  unfold State.fieldNextTick
  split
  case isTrue => exact h.time fun ⟨ht, hu, _, _⟩ => ⟨ht, hu, ticksPerEra_pos, unitsPerTick_pos⟩
  case isFalse wrap => exact h.time fun ⟨ht, hu, ft, _⟩ => ⟨ht, hu, by dsimp only; omega, unitsPerTick_pos⟩
theorem Keeps.doEpochLoad (h : Keeps m s t) : Keeps m s t.doEpochLoad := h.clock.set
theorem Ends.execEpochLoad {u : Sub} (h : Keeps m s t) : Ends m s (execEpochLoad u t) := .done (h.atH.ifOn .doEpochLoad)
theorem Keeps.doEpochSet (h : Keeps m s t) : Keeps m s t.doEpochSet := by
  unfold State.doEpochSet
  extract_lets
  split
  · exact .ite (.ite h.clock.set.put64.set.set.ledgerH.sendHF h.clock.set.put64.set.set.ledgerH) h
  · exact h
theorem Keeps.doTod {b : List Byte} (h : Keeps m s t) : Keeps m s (t.doTod b) := by
  unfold State.doTod
  extract_lets
  split
  · exact .ite h.clock.set h.clock
  · exact h.clock.set
theorem Keeps.roundNear {n : Int} {d : Nat} (h : Keeps m s t) : Keeps m s (t.roundNear n d).2 := by
  unfold State.roundNear
  extract_lets
  split
  · exact h.fresh (w := 1)
  · exact h
theorem Keeps.ppsResid (h : Keeps m s t) : Keeps m s t.ppsResid.2 := by
  unfold State.ppsResid
  extract_lets
  split
  · split
    · exact h
    · exact h.fresh (w := 1)
  · exact h.fresh (w := 32)
theorem Keeps.pairEpoch {sec : Nat} (h : Keeps m s t) : Keeps m s (t.pairEpoch sec).2 := h.roundNear
theorem Keeps.ppsSlip {resid : Int} (h : Keeps m s t) : Keeps m s (t.ppsSlip resid) := .ite (.ite h.clock h.clock.set) h.clock
/-- The epoch that a pair of messages asks for; stated for every pair, so that its arithmetic stays folded. -/
theorem Keeps.epochAsked {e : Int × State} (h : Keeps m s e.2) : Keeps m s { e.2 with
    time := { e.2.time with epochReq := some (codeOf 64 e.1, e.2.hAbs), slipReset := false, residBad := 0 } } := h.clock
theorem Keeps.doPps (h : Keeps m s t) : Keeps m s t.doPps := by
  unfold State.doPps
  extract_lets _ _ s2 _ s3
  have h2 : Keeps m s s2 := h.ppsResid.set.replaceResult.put
  have h3 : Keeps m s s3 := h2.clock
  clear_value s2 s3
  split
  · exact .ite (.epochAsked h3.pairEpoch) (.ite h3.ppsSlip h3)
  · exact .ite h2.ppsSlip h2
theorem Keeps.doPpsMissing (h : Keeps m s t) : Keeps m s t.doPpsMissing := h.clock.set

/-! ### Reads of registers (R4–R11) -/

theorem Keeps.snapTake {r a : Nat} (h : Keeps m s t) : Keeps m s (t.snapTake r a) := h.foldl .io
theorem Keeps.readReg {r a : Nat} (h : Keeps m s t) : Keeps m s (t.readReg r a).2 := by
  unfold State.readReg
  split
  · exact h
  · split
    · exact h.snapTake
    · exact h
theorem Keeps.ioGive {r : Nat} {w : Word} (h : Keeps m s t) : Keeps m s (t.ioGive r w) := .ite h.io (.ite h.io h.io)

/-! ### The commands of the fault collector (R438–R448) -/

theorem Keeps.hostStops {id : Nat} (h : Keeps m s t) : Keeps m s (t.hostStops id) := .fatalRevert (.ite h.mgmtReset h)
theorem Keeps.doFaultRaise {id data : Nat} (h : Keeps m s t) : Keeps m s (t.doFaultRaise id data) := .ite h.hostFault.hostStops h
theorem Keeps.doFieldRaise {id data : Nat} (h : Keeps m s t) : Keeps m s (t.doFieldRaise id data) := .ite h.fieldFault h
theorem Keeps.doBlockResetEnd {blk : Nat} (h : Keeps m s t) : Keeps m s (t.doBlockResetEnd blk) :=
  .ite (.ite (.ite h.fault h.fault.fault) (.ite h.fault.fault h.fault)) h
theorem Ends.execFltPendClear {u : Sub} {k : Fin 5} {v : Word} (h : Keeps m s t) : Ends m s (execFltPendClear u k v t) := .done (h.atH.ifOn .wr)
theorem Keeps.doPinRelease {field : Bool} (h : Keeps m s t) : Keeps m s (t.doPinRelease field) := by
  unfold State.doPinRelease
  extract_lets
  refine .ite ?_ ?_
  · split
    · exact .ite h.fault.set h
    · exact h
  · split
    · exact .ite h.fault.set h
    · exact h
theorem Keeps.forceOne {service : Bool} {id : Nat} (h : Keeps m s t) : Keeps m s (t.forceOne service id) :=
  .ite h (.ite h.set (.ite h.fieldFault h.hostFault.hostStops))
theorem Keeps.doForce {k : Nat} {v : Word} {service : Bool} (h : Keeps m s t) : Keeps m s (t.doForce k v service) := h.set.foldl .forceOne
theorem Ends.execFaultForce {u : Sub} {k : Fin 5} {v : Word} {service : Bool} (h : Keeps m s t) : Ends m s (execFaultForce u k v service t) :=
  .done (h.atH.atF.ifOn .doForce)
theorem Ends.execFltClrStats {u : Sub} (h : Keeps m s t) : Ends m s (execFltClrStats u t) := .done (h.atH.ifOn .putAll)
theorem Ends.execClrFirst {u : Sub} (h : Keeps m s t) : Ends m s (execClrFirst u t) := .done (h.atH.ifOn .set)
theorem Keeps.doTemperature {field shutdown : Bool} (h : Keeps m s t) : Keeps m s (t.doTemperature field shutdown) := by
  unfold State.doTemperature
  extract_lets
  exact .ite (.ite (.ite h.fieldFault.start h.fieldFault) h) (.ite (.ite h.hostFault.hostStops.start h.hostFault.hostStops) h)
theorem Keeps.doFieldShutdown (h : Keeps False s t) : Keeps False s t.doFieldShutdown := by
  unfold State.doFieldShutdown
  extract_lets
  split
  · exact .ite (h.start.foldl .domOff) h
  · exact h
theorem Keeps.hostShutdown (h : Keeps False s t) : Keeps False s t.hostShutdown := by
  unfold State.hostShutdown
  extract_lets
  split
  · exact .ite h.start.domOff.domOff h
  · exact h
theorem Keeps.doSupplyOut (h : Keeps False s t) : Keeps False s t.doSupplyOut := h.start.domOff
theorem Keeps.doDayRoll (h : Keeps m s t) : Keeps m s t.doDayRoll := .ite h.availYear h

/-! ### Generators and their lists (R178–R203) -/

theorem Keeps.genUseEnds {g : Nat} (h : Keeps m s t) : Keeps m s (t.genUseEnds g) := .ite h.setGen.wrapCount h
theorem Keeps.genOverdraft {g t0 : Nat} {sample : Bool} (h : Keeps m s t) : Keeps m s (t.genOverdraft g t0 sample) := by
  unfold State.genOverdraft
  extract_lets _ _ _ _ _ _ s3 s4
  have h1 : Keeps m s s3 := h.genCount.replaceResult.genEvt.set.replayBreak
  have h2 : Keeps m s s4 := h1.setGen.set
  exact .ite h1.setGen (.ite h1.setGen (.ite h2 h2.genUseEnds))
theorem Keeps.genOdEnd {g t0 : Nat} (h : Keeps m s t) : Keeps m s (t.genOdEnd g t0) := by
  unfold State.genOdEnd
  extract_lets
  split
  · exact h
  · exact h.setGen.set.genEvt.ledger1.replayGapEnd
theorem Keeps.genEnd {g idx : Nat} {bad : Option Nat} (h : Keeps m s t) : Keeps m s (t.genEnd g idx bad) := by
  unfold State.genEnd
  extract_lets _ s1
  have h1 : Keeps m s s1 := by
    unfold s1
    split
    · exact h.put.genEvt
    · exact h.put
  exact h1.setGen.wrapCount.set.genEvt
theorem Keeps.genClip {g : Nat} {seen : Bool} (h : Keeps m s t) : Keeps m s (t.genClip g seen) := .ite h.setGen.genEvt h
theorem Keeps.genSet {g idx : Nat} {e : List Byte} {t0 : Nat} (h : Keeps m s t) : Keeps m s (t.genSet g idx e t0) := by
  unfold State.genSet
  extract_lets _ _ _ _ _ s2
  have h1 : Keeps m s s2 := .ite h.setGen.put.set.genEvt h.setGen.put.set
  refine .ite ?_ h1
  split
  · exact h1.genOverdraft
  · exact .ite h1.setGen h1
theorem Keeps.genData {g idx : Nat} {e : List Byte} {t0 : Nat} (h : Keeps m s t) : Keeps m s (t.genData g idx e t0) := h.setGen.put.set
theorem Keeps.genStepTo {g t0 : Nat} (h : Keeps m s t) : Keeps m s (t.genStepTo g t0) := by
  unfold State.genStepTo
  extract_lets _ s1
  have h1 : Keeps m s s1 := h.genUseEnds.genOdEnd
  split
  · exact h.genOverdraft
  · exact .ite h1.genSet (.ite h1.genData (.ite h1.genEnd h1.genEnd))
theorem Keeps.genFirst {g t0 : Nat} (h : Keeps m s t) : Keeps m s (t.genFirst g t0) := h.setGen.genStepTo
theorem Keeps.playSet {g : Nat} {e : List Byte} {t0 : Nat} (h : Keeps m s t) : Keeps m s (t.playSet g e t0) := .ite h.setGen.set h.setGen
theorem Keeps.playRead {g t0 : Nat} (h : Keeps m s t) : Keeps m s (t.playRead g t0) := by
  unfold State.playRead
  extract_lets
  split
  · exact h.genOverdraft
  · extract_lets s2 s21
    have h1 : Keeps m s s2 := h.genUseEnds.setGen.put
    have h2 : Keeps m s s21 := h.genUseEnds.setGen
    exact .ite h.genUseEnds.genData (.ite (.ite h1 h1.genUseEnds) h2.put)
theorem Keeps.playRun {n g limit : Nat} (h : Keeps m s t) : Keeps m s (State.playRun n t g limit) := by
  induction n generalizing t with
  | zero => exact h
  | succ n ih =>
    unfold State.playRun
    extract_lets
    refine .ite h ?_
    split
    · exact .ite (.ite (ih h.playRead) h) (.ite (ih h.playSet) h.genEnd)
    · exact .ite (.ite h.genUseEnds h) (ih h.playRead)
theorem Keeps.genRefuse {g reason : Nat} (h : Keeps m s t) : Keeps m s (t.genRefuse g reason) := h.set.set
theorem Keeps.doGenCfg {g : Nat} {v : Word} (h : Keeps m s t) : Keeps m s (t.doGenCfg g v) := h.ifOn (fun h' => .ite h'.set.set h'.genRefuse)
theorem Ends.execGenCfgWrite {u : Sub} {g : Lane} {v : Word} (h : Keeps m s t) : Ends m s (execGenCfgWrite u g v t) := .done h.atF.doGenCfg
theorem Keeps.doGenList {g : Nat} {v : Word} (h : Keeps m s t) : Keeps m s (t.doGenList g v) := h.ifOn (fun h' => .ite h'.set.set h'.genRefuse)
theorem Ends.execGenListWrite {u : Sub} {g : Lane} {v : Word} (h : Keeps m s t) : Ends m s (execGenListWrite u g v t) := .done h.atF.doGenList
theorem Keeps.doGenEnable {g : Nat} (h : Keeps m s t) : Keeps m s (t.doGenEnable g) := h.ifOn (fun h' => .ite h' (.ite h'.genRefuse h'.set.set.setGen))
theorem Ends.execGenEnable {u : Sub} {g : Lane} (h : Keeps m s t) : Ends m s (execGenEnable u g t) := .done h.atF.doGenEnable
theorem Ends.execGenDisable {u : Sub} {g : Lane} (h : Keeps m s t) : Ends m s (execGenDisable u g t) := .done (h.atF.ifOn .genStop)
theorem Keeps.doGenStopPoint {g : Nat} (h : Keeps m s t) : Keeps m s (t.doGenStopPoint g) :=
  .ite (.stopEntry (.setGen (.set (.set (.set (.set (.set (.ite h.put h.genUseEnds)))))))) h
theorem Keeps.doGenStart {g : Nat} (h : Keeps m s t) : Keeps m s (t.doGenStart g) := h.ifOn (fun h' => .ite h'.setGen h'.genRefuse)
theorem Ends.execGenStart {u : Sub} {g : Lane} (h : Keeps m s t) : Ends m s (execGenStart u g t) := .done h.atF.doGenStart
theorem Keeps.doGenResume {g : Nat} (h : Keeps m s t) : Keeps m s (t.doGenResume g) := h.ifOn (fun h' => .ite h'.setGen h')
theorem Ends.execGenResume {u : Sub} {g : Lane} (h : Keeps m s t) : Ends m s (execGenResume u g t) := .done h.atF.doGenResume
theorem Keeps.doGenListClr {g : Nat} (h : Keeps m s t) : Keeps m s (t.doGenListClr g) := h.ifOn (fun h' => .ite h'.put.put.setGen h')
theorem Ends.execGenListClr {u : Sub} {g : Lane} (h : Keeps m s t) : Ends m s (execGenListClr u g t) := .done h.atF.doGenListClr
theorem Keeps.doGenClrStats {g : Nat} (h : Keeps m s t) : Keeps m s (t.doGenClrStats g) := h.ifOn .putAll
theorem Ends.execGenClrStats {g : Lane} (h : Keeps m s t) : Ends m s (execGenClrStats g t) := .done h.doGenClrStats
theorem Keeps.doGoArm (h : Keeps m s t) : Keeps m s t.doGoArm := by
  unfold State.doGoArm
  refine .ifOn h (fun h' => ?_)
  exact .ite (.ledgerF (h'.set.foldl (fun h'' => h''.setGen.set))) (h'.set.foldl (fun h'' => h''.setGen.set))
theorem Ends.execGenGoArm {u : Sub} (h : Keeps m s t) : Ends m s (execGenGoArm u t) := .done h.atF.doGoArm
theorem Keeps.doGo (h : Keeps m s t) : Keeps m s t.doGo := by
  unfold State.doGo
  extract_lets _ s1
  have h1 : Keeps m s s1 := by
    unfold s1
    refine h.foldl fun h' => ?_
    split
    · exact .ite h'.genFirst h'
    · exact h'
  exact .ite h1.set h1
theorem Keeps.doGoCancel (h : Keeps m s t) : Keeps m s t.doGoCancel := h.ifOn (fun h' => h'.set.foldl (fun h'' => .ite h''.setGen.set h''))
theorem Ends.execGenGoCancel {u : Sub} (h : Keeps m s t) : Ends m s (execGenGoCancel u t) := .done h.atF.doGoCancel
theorem Keeps.genContinue {g t0 : Nat} (h : Keeps m s t) : Keeps m s (t.genContinue g t0) := by
  unfold State.genContinue
  extract_lets
  refine .ite ?_ h.setGen.genStepTo
  split
  · exact h.setGen.genOverdraft
  · exact h.setGen.genOdEnd.setGen.set.playRun
theorem Keeps.doGenStep {g : Nat} {clip : Bool} (h : Keeps m s t) : Keeps m s (t.doGenStep g clip) := by
  unfold State.doGenStep
  extract_lets _ s1
  have h1 : Keeps m s s1 := by
    unfold s1
    split
    · exact .ite (.ite h.genContinue h.genFirst) h
    · exact .ite h.playRun (.ite h.genStepTo h)
  exact h1.genClip
theorem Keeps.genWaitOver {g t0 : Nat} (h : Keeps m s t) : Keeps m s (t.genWaitOver g t0) := .ite h.setGen.genUseEnds.set.playRun h.genStepTo
theorem Keeps.doTriggeredStep {g : Nat} (h : Keeps m s t) : Keeps m s (t.doTriggeredStep g) := by
  unfold State.doTriggeredStep
  split
  · exact .ite h.reachF.genWaitOver h
  · exact h
theorem Keeps.doTrigTimeout {g : Nat} (h : Keeps m s t) : Keeps m s (t.doTrigTimeout g) := by
  unfold State.doTrigTimeout
  extract_lets
  split
  · exact .ite h.set.genWaitOver h
  · exact h
theorem Keeps.doGenOdEnd {g : Nat} (h : Keeps m s t) : Keeps m s (t.doGenOdEnd g) := by
  unfold State.doGenOdEnd
  extract_lets
  split
  · exact .ite h.genContinue h
  · exact h
theorem Keeps.genTickAll (h : Keeps m s t) : Keeps m s t.genTickAll := by
  unfold State.genTickAll
  refine h.foldl fun h' => ?_
  extract_lets
  split
  · exact h'.setGen.genCount
  · exact h'
theorem Keeps.genRefill {g i n tag given : Nat} {bytes : List Byte} (h : Keeps m s t) : Keeps m s (t.genRefill g i n tag given bytes) := by
  unfold State.genRefill
  extract_lets
  refine .ite ?_ (.ite h.setGen.wrapCount.setGen h.setGen.wrapCount)
  exact .ite (.fieldEvent (.ite h h.genCount)) (.genEvt (.ite h h.genCount))

/-! ### Register writes (R8, R10, R490) -/

theorem Keeps.after {c : State → Host.Outcome State Fault Refusal} (h : Keeps m s t) (hc : ∀ {t}, Keeps m s t → Ends m s (c t)) :
    Keeps m s (t.after c) := by
  obtain ⟨v, hv, kept⟩ := hc h
  rw [State.after, hv]
  exact kept
theorem Keeps.sc {w : Word} {b : Nat} {c : State → Host.Outcome State Fault Refusal} (h : Keeps m s t)
    (hc : ∀ {t}, Keeps m s t → Ends m s (c t)) : Keeps m s (t.sc w b c) :=
  .ite (h.after hc) h
theorem Keeps.plainWrite {a : Nat} {v : Word} (h : Keeps m s t) : Keeps m s (t.plainWrite a v) := by
  unfold State.plainWrite
  split
  · exact h.wr
  · exact h
theorem Keeps.plainBut {a : Nat} {keep v : Word} (h : Keeps m s t) : Keeps m s (t.plainBut a keep v) := h.plainWrite
theorem Keeps.writeSys {u : Sub} {a : Nat} {v : Word} (h : Keeps False s t) : Keeps False s (t.writeSys u a v) := by
  unfold State.writeSys
  refine .ite (h.sc .execSysClrStats) ?_
  refine .ite (h.after .execModeRequest) ?_
  refine .ite ?_ ?_
  · exact .ite (h.after .execSysDriveInhSet) (h.after .execDriveInhRelease)
  · refine .ite (h.after .execPowerDomainRequest) ?_
    exact .ite (.sc (.sc (h.plainWrite.sc .execImgErase) .execImgProg) .execImgActivate) (.ite h.plainWrite h.plainWrite)
theorem Keeps.writeTime {u : Sub} {a : Nat} {v : Word} (h : Keeps m s t) : Keeps m s (t.writeTime u a v) :=
  .ite (.sc (.sc (h.plainBut.after .execClockSourceSelect) .execTimeClrStats) .execEpochLoad) h.plainWrite
theorem Keeps.writeClr {u : Sub} {a : Nat} {v : Word} (h : Keeps m s t) : Keeps m s (t.writeClr u a v) :=
  .ite (h.plainWrite.sc .execClrCtrlClrStats) h.plainWrite
theorem Keeps.writeChan {u : Sub} {a : Nat} {v : Word} (h : Keeps m s t) : Keeps m s (t.writeChan u a v) := by
  unfold State.writeChan
  extract_lets _ s1 s2
  have h1 : Keeps m s s1 := h.plainBut.sc .execHdmaCClrStats
  have h2 : Keeps m s s2 := .ite (h1.after .execHdmaChannelEnable) (h1.after .execHdmaDrain)
  refine .ite (.sc (h2.sc .execHdmaDrain) .execHdmaAbort) ?_
  exact .ite (.ite h h.plainWrite) (.ite (h.after .execDescriptorPost) h.plainWrite)
theorem Keeps.writeHdma {u : Sub} {a : Nat} {v : Word} (h : Keeps m s t) : Keeps m s (t.writeHdma u a v) := by
  unfold State.writeHdma
  extract_lets _ _ _ s2
  have h1 : Keeps m s s2 := .ite h.plainWrite.hdma h.plainWrite
  exact .ite h.writeChan (.ite (h1.sc .execHdmaClrStats) (.ite (.ite h h.plainWrite) (.ite h.plainWrite h.plainWrite)))
theorem Keeps.writeStor {u : Sub} {a : Nat} {v : Word} (h : Keeps m s t) : Keeps m s (t.writeStor u a v) := by
  unfold State.writeStor
  extract_lets _ s2
  have h1 : Keeps m s s2 := .ite (h.sc .execStorClrStats) (.after (h.sc .execStorClrStats) .execStorEnWrite)
  refine .ite (.sc (h1.sc .execStorFormat) .execSealNow) ?_
  refine .ite (.ite h.plainBut h.plainWrite) ?_
  exact .ite h.plainWrite (.ite (h.plainWrite.sc .execPinAdd) (.ite (.sc (.ite h h.plainWrite) .execStoreRead) h.plainWrite))
theorem Keeps.writeLdg {u : Sub} {a : Nat} {v : Word} (h : Keeps m s t) : Keeps m s (t.writeLdg u a v) :=
  .ite (.sc (h.sc .execLdgClrStats) .execLdgNote) h.plainWrite
theorem Keeps.writeSec {u : Sub} {a : Nat} {v : Word} (h : Keeps m s t) : Keeps m s (t.writeSec u a v) := by
  unfold State.writeSec
  refine .ite ?_ (.ite h (.ite h (.ite h h.plainWrite)))
  exact .sc (.sc (.sc (h.sc .execSecClrStats) .execPacketSubmit) .execTokenSubmit) .execArGo
theorem Keeps.writeFlt {u : Sub} {a : Nat} {v : Word} (h : Keeps m s t) : Keeps m s (t.writeFlt u a v) := by
  unfold State.writeFlt
  extract_lets
  refine .ite (.sc (h.sc .execFltClrStats) .execClrFirst) ?_
  exact .ite (h.after .execFltPendClear) (.ite (h.after .execFaultForce) (.ite h.set h.plainWrite))
theorem Keeps.writeUpd {u : Sub} {a : Nat} {v : Word} (h : Keeps m s t) : Keeps m s (t.writeUpd u a v) := by
  unfold State.writeUpd
  extract_lets s1
  have h1 : Keeps m s s1 := .sc (.sc (h.plainWrite.sc .execUpdErase) .execUpdProg) .execUpdVerify
  refine .ite (.sc (h1.sc .execUpdArm) .execUpdCancel) ?_
  exact .ite h.plainWrite (.ite (.ite h h.plainWrite) (.ite (.ite h.plainWrite h) h.plainWrite))
theorem Keeps.writeIso {u : Sub} {a : Nat} {v : Word} (h : Keeps m s t) : Keeps m s (t.writeIso u a v) :=
  .ite (.sc (h.sc .execIsoClrStats) .execIsoRetrain) h.plainWrite
theorem Keeps.writeHost {u : Sub} {a : Nat} {v : Word} (h : Keeps False s t) : Keeps False s (t.writeHost u a v) := by
  unfold State.writeHost
  split
  · exact h.writeSys
  · exact h.writeTime
  · exact h.writeClr
  · exact h.writeHdma
  · exact h.writeStor
  · exact h.writeSec
  · exact h.writeFlt
  · exact h.writeUpd
  · exact h.writeLdg
  · exact h.writeIso
theorem Keeps.writeSeq {u : Sub} {a : Nat} {v : Word} (h : Keeps m s t) : Keeps m s (t.writeSeq u a v) := by
  unfold State.writeSeq
  extract_lets _ s2 s3 s11
  have h1 : Keeps m s s2 := .sc (.sc (h.plainBut.sc .execSeqClrStats) .execWinApply) .execSeqStart
  have h2 : Keeps m s s3 := .ite (h1.after .execSeqPause) (.ite (h1.after .execPauseClear) h1)
  have h3 : Keeps m s s11 := .after (h.sc .execSeqFailClrStats) .execFwdMaxWrite
  refine .ite ?_ ?_
  · exact .sc (.sc (.sc (h2.sc .execSeqStop) .execSeqStep) .execHostJump) .execSeqResume
  · refine .ite (.sc (h3.sc .execFailClear) .execFailDump) ?_
    exact .ite h.plainWrite (.ite h.plainWrite (.ite h.tsWrite (.ite h.setUreg h.plainWrite)))
theorem Keeps.writeUstore {a : Nat} {v : Word} (h : Keeps m s t) : Keeps m s (t.writeUstore a v) :=
  .ite (h.sc .execUstoreClrStats) (.ite h.plainWrite h.plainWrite)
theorem Keeps.writeCapt {p : Nat} {v : Word} (h : Keeps m s t) : Keeps m s (t.writeCapt p v) := by
  unfold State.writeCapt
  extract_lets
  refine .ite h.wr.releaseBudget ?_
  exact .ite h.wr (.ite h.wr (.ite (.ite (h.submit h.wr) (.setPinRt (h.submit h.wr))) (.wr (h.submit h.wr))))
theorem Keeps.writePin {u : Sub} {a : Nat} {v : Word} (h : Keeps m s t) : Keeps m s (t.writePin u a v) := by
  unfold State.writePin
  extract_lets _ s1 s2
  have h1 : Keeps m s s1 := h.plainBut.sc .execPinClrStats
  have h2 : Keeps m s s2 := .ite (h1.after .execPinEnable) (h1.after .execPinDisable)
  refine .ite (h2.sc .execDeskew) ?_
  refine .ite (h.after .execPinLevelWrite) ?_
  refine .ite (h.after .execPinLevelWrite) ?_
  refine .ite (h.after .execPinLevelWrite) ?_
  refine .ite (h.after .execPinLevelWrite) ?_
  exact .ite (h.after .execPinLevelWrite) (.ite h.writeCapt (.ite h.tsWrite (.ite h.tsWrite h.plainWrite)))
theorem Keeps.writeGen {u : Sub} {a : Nat} {v : Word} (h : Keeps m s t) : Keeps m s (t.writeGen u a v) := by
  unfold State.writeGen
  extract_lets _ _ s1 s2
  have h1 : Keeps m s s1 := .sc (h.plainBut.sc .execGenClrStats) .execGenListClr
  have h2 : Keeps m s s2 := .ite (h1.after .execGenEnable) (.ite (h1.after .execGenDisable) h1)
  refine .ite (.sc (h.sc .execGenGoArm) .execGenGoCancel) ?_
  refine .ite h.plainWrite ?_
  refine .ite (.sc (h2.sc .execGenStart) .execGenResume) ?_
  exact .ite (h.after .execGenCfgWrite) (.ite (h.after .execGenListWrite) h.plainWrite)
theorem Keeps.writeLane {u : Sub} {a : Nat} {v : Word} (h : Keeps m s t) : Keeps m s (t.writeLane u a v) := by
  unfold State.writeLane
  extract_lets
  refine .ite ?_ ?_
  · exact .sc (.sc (h.sc .execLaneClrStats) .execLaneApply) .execBurstGo
  · exact .ite h.plainWrite (.ite h.plainWrite (.ite (h.after .execLaneStreamWrite) (.ite h.plainWrite h.plainWrite)))
theorem Keeps.acqDirty {a : Nat} (h : Keeps m s t) : Keeps m s (t.acqDirty a) := .ite h.setLtrig (.ite h.setPe h.setComb)
theorem Keeps.writeGroup {u : Sub} {a : Nat} {v : Word} (h : Keeps m s t) : Keeps m s (t.writeGroup u a v) := by
  unfold State.writeGroup
  extract_lets _ _ s1
  have h1 : Keeps m s s1 := h.sc .execGrpClrStats
  refine .ite ?_ (.ite h (.ite h.plainWrite h.plainWrite))
  exact .ite (.ite h1 (h1.after .execGroupDisable)) (.ite (h1.after .execGroupEnable) h1.plainWrite)
theorem Keeps.writeAcq {u : Sub} {a : Nat} {v : Word} (h : Keeps m s t) : Keeps m s (t.writeAcq u a v) := by
  unfold State.writeAcq
  extract_lets _ _ s2 _ s11
  have h1 : Keeps m s s2 := .ite h.plainWrite h.plainWrite.acqDirty
  have h2 : Keeps m s s11 := h.sc .execRedClrStats
  refine .ite (h.sc .execHostTrig) ?_
  refine .ite (.acqDirty (.ite h.plainWrite h.plainWrite)) ?_
  refine .ite ?_ ?_
  · exact .ite (.sc (h1.sc .execCombClrStats) .execCombRearm) (.ite h.plainWrite.acqDirty h.plainWrite)
  · refine .ite h.writeGroup ?_
    exact .ite (.ite (.ite (h2.after .execRedApply) h2.wr) (.ite h.plainWrite h.plainWrite)) h.plainWrite
theorem Keeps.writeUnit {u : Sub} {t0 : TallyUnit} {a : Nat} {v : Word} (h : Keeps m s t) : Keeps m s (t.writeUnit u t0 a v) := by
  unfold State.writeUnit
  extract_lets _ s1
  have h1 : Keeps m s s1 := h.sc .execTallyClear
  refine .ite (.ite (.ite h1 h1.tallyStop) (.ite (h1.after .execTallyEnable) h1.wr)) ?_
  split
  · exact .ite h.plainWrite (.ite h h.plainWrite)
  · exact .ite h.plainWrite (.ite h (.ite h.plainWrite h.plainWrite))
theorem Keeps.writeTly {u : Sub} {a : Nat} {v : Word} (h : Keeps m s t) : Keeps m s (t.writeTly u a v) :=
  .ite (h.sc .execTallySnap) (.ite h.writeUnit (.ite h.writeUnit h.plainWrite))
theorem Keeps.writePair {u : Sub} {a : Nat} {v : Word} (h : Keeps m s t) : Keeps m s (t.writePair u a v) := by
  unfold State.writePair
  extract_lets _ _ s1
  have h1 : Keeps m s s1 := h.sc .execCmpPClrStats
  refine .ite ?_ ?_
  · exact .sc (.ite (h1.after .execPairEnable) (.ite (h1.after .execPairDisable) h1)) .execRelearn
  · exact .ite h (.ite h.plainWrite (.ite h.plainWrite (.ite h.plainWrite h.plainWrite)))
theorem Keeps.writeCmp {u : Sub} {a : Nat} {v : Word} (h : Keeps m s t) : Keeps m s (t.writeCmp u a v) :=
  .ite (h.plainWrite.sc .execCmpClrStats) (.ite (h.after .execCmpRplWrite) (.ite h.writePair h.plainWrite))
theorem Keeps.writeGrd {u : Sub} {a : Nat} {v : Word} (h : Keeps m s t) : Keeps m s (t.writeGrd u a v) :=
  .ite (h.sc .execGrdClrStats) (.ite (.ite (h.after .execQuietRequest) (h.plainBut.after .execQuietEnd)) h.plainWrite)
theorem Keeps.writeMet {u : Sub} {a : Nat} {v : Word} (h : Keeps m s t) : Keeps m s (t.writeMet u a v) := by
  unfold State.writeMet
  extract_lets _ s2 s11 _ s12
  have h1 : Keeps m s s2 := .ite (.after (h.plainBut.sc .execMcAbort) .execMcCont) (.set (h.plainBut.sc .execMcAbort))
  have h2 : Keeps m s s11 := h.plainWrite
  have h3 : Keeps m s s12 := h.plainWrite
  refine .ite (h1.sc .execMcStart) ?_
  refine .ite (.ite h (.ite h2 h2.mcChanged)) ?_
  refine .ite (.ite h (.ite h3 h3.mcChanged)) ?_
  refine .ite (.ite h h.plainWrite) ?_
  refine .ite (.ite h h.plainWrite) ?_
  refine .ite (.ite (h.after .execRefbufOn) (h.after .execRefbufOff)) ?_
  refine .ite (h.after .execDdacEnable) ?_
  exact .ite h.plainWrite (.ite (.sc (.sc (h.plainWrite.sc .execMetCalClrStats) .execCalRun) .execCalAbort) h.plainWrite)
theorem Keeps.writePod {u : Sub} {a : Nat} {v : Word} (h : Keeps m s t) : Keeps m s (t.writePod u a v) := by
  unfold State.writePod
  extract_lets _ s1
  have h1 : Keeps m s s1 := h.plainBut.after .execPodHoldWrite
  refine .ite (h.sc .execPodClrStats) ?_
  exact .ite (.ite (.sc (.sc (h1.after .execPodPowerOff) .execPodRetry) .execPodRecheck) h.plainWrite) h.plainWrite
theorem Keeps.writeField {u : Sub} {a : Nat} {v : Word} (h : Keeps m s t) : Keeps m s (t.writeField u a v) := by
  unfold State.writeField
  split
  · exact h.writeSeq
  · exact h.writeUstore
  · exact h.writePin
  · exact h.writeLane
  · exact h.writeGen
  · exact h.writeAcq
  · exact h.writeTly
  · exact h.writeCmp
  · exact h.writeGrd
  · exact h.writeMet
  · exact h.writePod
  · exact h.plainWrite
theorem Keeps.plEntry {a : Nat} {v : Word} (h : Keeps m s t) : Keeps m s (t.plEntry a v) := .ite h.ledgerF h.ledgerH
theorem Keeps.writeReg {u : Sub} {r : Requester} {a : Nat} {v : Word} (h : Keeps False s t) : Keeps False s (t.writeReg u r a v).1 := by
  unfold State.writeReg
  extract_lets _ s0 _ s1
  have h0 : Keeps False s s0 := .ite (.ite h.atSeq h.atF) h.atH
  have h1 : Keeps False s s1 := .ite h0.plEntry h0
  split
  · exact h0
  · split
    · exact h0
    · exact .ite h1.writeField h1.writeHost
theorem Keeps.sealedReject (h : Keeps m s t) : Keeps m s t.sealedReject := h.satCount
theorem Ends.execRsRead {u : Sub} {r : Requester} {a : Nat} (h : Keeps m s t) : Ends m s (execRsRead u r a t) := by
  unfold Machine.execRsRead
  extract_lets _ x
  have h1 : Keeps m s x.2 := .readReg (.ite h.atSeq h.atF)
  exact .done (.ite (.ite h.atH.sealedReject.ioGive (.ite h.atH.ioGive h1.ioGive)) h.atH.readReg.ioGive)

/-! ### The filter and the register tunnel (R39–R52) -/

theorem Keeps.hostDrop {m0 : Msg} {reason : Nat} (h : Keeps m s t) : Keeps m s (t.hostDrop m0 reason) := h.isoCount.set.put.link
theorem Keeps.fieldDrop {m0 : Msg} {reason : Nat} (h : Keeps m s t) : Keeps m s (t.fieldDrop m0 reason) := h.link
theorem Keeps.hostSeq {m0 : Msg} (h : Keeps m s t) : Keeps m s (t.hostSeq m0) := .ite h.link h.link.isoCount.set.availGap
theorem Keeps.fieldSeq {m0 : Msg} (h : Keeps m s t) : Keeps m s (t.fieldSeq m0) := h.link
theorem Keeps.gapNoted {m0 : Msg} (h : Keeps m s t) : Keeps m s (t.gapNoted m0) := .ite h.availGap h
theorem Keeps.hostTake {m0 : Msg} {want : Bool} {f : State → State} (h : Keeps m s t) (hf : ∀ {t}, Keeps m s t → Keeps m s (f t)) :
    Keeps m s (t.hostTake m0 want f) := .ite h (.ite h (.ite h.link.wrapCount64.hostDrop (hf h.link.wrapCount64.hostSeq.gapNoted)))
theorem Keeps.fieldTake {m0 : Msg} {want : Bool} {f : State → State} (h : Keeps m s t) (hf : ∀ {t}, Keeps m s t → Keeps m s (f t)) :
    Keeps m s (t.fieldTake m0 want f) := .ite h (.ite h (.ite h.link.fieldDrop (hf h.link.fieldSeq)))
theorem Keeps.toRecord {m0 : Msg} {inst : Nat} (h : Keeps m s t) : Keeps m s (t.toRecord m0 inst) := h.toClearing
theorem Keeps.tunIssue {t0 : Tun} (h : Keeps m s t) : Keeps m s (t.tunIssue t0) := .ite h.link (.ite h.link.sendHF h.link.sendHF)
theorem Keeps.tunNext (h : Keeps m s t) : Keeps m s t.tunNext := by
  unfold State.tunNext
  extract_lets
  split
  · exact .ite h.link.tunIssue h
  · exact h
theorem Keeps.tunSubmit {req addr count : Nat} {data : Option (List Word)} (h : Keeps m s t) : Keeps m s (t.tunSubmit req addr count data).2 :=
  .ite h.tunIssue h.link
theorem Keeps.tunComplete {t0 : Tun} {status : Nat} {ws : List Word} (h : Keeps m s t) : Keeps m s (t.tunComplete t0 status ws) := by
  unfold State.tunComplete
  extract_lets _ _ s2
  have h1 : Keeps m s s2 := by
    unfold s2
    refine .ite h.link.set ?_
    split
    · exact h.link.set.ioGive
    · exact h.link.set
  exact h1.tunNext
theorem Keeps.tunAnswer {t0 : Tun} {status : Nat} {ws : List Word} (h : Keeps m s t) : Keeps m s (t.tunAnswer t0 status ws) := .tunComplete (.ite h.put h)
theorem Keeps.tunTimeout {t0 : Tun} (h : Keeps m s t) : Keeps m s (t.tunTimeout t0) := by
  unfold State.tunTimeout
  exact h.isoCount.set.link.tunComplete

end Sys2Proof.Machine
end

section
/-! PROOFS. What keeps the canonical forms and the time (R61, R69, R71): start-up, the messages of the barrier and the boundaries of the two halves. -/

namespace Sys2Proof.Machine

variable {m : Prop} {s t : State}

/-! ### Start-up and power (R416–R428) -/

theorem Keeps.recFail {i : Nat} (h : Keeps m s t) : Keeps m s (t.recFail i) := h.satField.ledgerH
theorem Keeps.hostRec {x : Nat × List Byte} (h : Keeps False s t) : Keeps False s (t.hostRec x) := .ite h.writeReg.recFail h.writeReg
theorem Keeps.hostRecs {pick : Nat × List Byte → Bool} (h : Keeps False s t) : Keeps False s (t.hostRecs pick) := h.start.foldl .hostRec
theorem Keeps.refillRec {x : Nat × List Byte} (h : Keeps m s t) : Keeps m s (t.refillRec x) := h.sendRefill
theorem Keeps.applyRec {x : Nat × List Byte} {rest : List (Nat × List Byte)} (h : Keeps False s t) : Keeps False s (t.applyRec x rest) := by
  unfold State.applyRec
  extract_lets
  split
  · exact .ite h.tunSubmit.start h.start.hostRec
  · exact h.start.start
  · exact h.start.refillRec
  · exact h.start.refillRec
  · exact h.start
theorem Keeps.recAnswered {tag status : Nat} (h : Keeps m s t) : Keeps m s (t.recAnswered tag status) := by
  unfold State.recAnswered
  extract_lets
  split
  · exact .ite (.ite h.start.recFail h.start) h
  · exact h
theorem Keeps.recRefill {tag : Nat} (h : Keeps m s t) : Keeps m s (t.recRefill tag) := .ite h.recFail h
theorem Keeps.toStep {n : Nat} (h : Keeps m s t) : Keeps m s (t.toStep n) := h.start
theorem Keeps.fieldVerified (h : Keeps m s t) : Keeps m s t.fieldVerified := by
  unfold State.fieldVerified
  extract_lets _ _ s2
  have h1 : Keeps m s s2 := h.set.upd
  refine .ite ?_ h.fieldFault.toStep
  split
  · exact h1.vendorLoad.toStep
  · exact h1.set.toStep
theorem Keeps.calLoad (h : Keeps m s t) : Keeps m s t.calLoad :=
  .ite (h.foldl (fun h' => h'.foldl .sendHF)) (.setDueBit (.setMet (h.foldl (fun h' => h'.foldl .sendHF))))
theorem Keeps.bootDone (h : Keeps m s t) : Keeps m s t.bootDone := h.set.set.toStep.avail
theorem Tries.startOne (h : Keeps False s t) : Tries False s t.startOne := by
  unfold State.startOne
  split
  · exact .ite (.some h.hostRecs.toStep) .none
  · exact .ite (.some h.toStep) .none
  · exact .ite (.ite (.some h.set.set.toStep) .none) (.ite (.some h.fieldVerified) (.ite (.some h.sendFw) .none))
  · exact .some h.set.toStep.calLoad
  · exact .ite (.some h.toStep) .none
  · refine .ite .none ?_
    split
    · exact .some h.toStep
    · exact .ite (.some h.start.toStep) (.some h.applyRec)
  · exact .ite (.some h.start.doModeRequest) (.ite (.some h.bootDone) .none)
  · refine .ite .none ?_
    split
    · exact .some h.toStep
    · exact .some h.applyRec
  · exact .none
theorem Keeps.startGo {n : Nat} (h : Keeps False s t) : Keeps False s (State.startGo n t) := by
  induction n generalizing t with
  | zero => exact h
  | succ n ih =>
    unfold State.startGo
    split
    case h_1 v hv => exact ih (Tries.startOne h v hv)
    case h_2 => exact h
theorem Keeps.startAdvance (h : Keeps False s t) : Keeps False s t.startAdvance := .ite h h.startGo
theorem Keeps.domsOn {l : List Nat} (h : Keeps m s t) : Keeps m s (t.domsOn l) := h.foldl (fun h' => .ite h' h'.domOn1)
theorem Keeps.psetLoad {c : PsetCopy} (h : Keeps m s t) : Keeps m s (t.psetLoad c) := .seq (h.foldl .wr)
theorem Keeps.psetStart {b : BootIn} (h : Keeps m s t) : Keeps m s (t.psetStart b) := by
  unfold State.psetStart
  extract_lets s1 s2
  have h1 : Keeps m s s1 := h.showKeys
  have h2 : Keeps m s s2 := by
    unfold s2
    refine .ite h1 ?_
    split
    · exact h1.psetLoad
    · exact h1.psetLoad
    · exact h1.set.ledgerH.hostFault
  exact h2.putDigest
theorem Keeps.imgStart (h : Keeps False s t) : Keeps False s t.imgStart := by
  unfold State.imgStart
  extract_lets
  split
  · exact h.set.start.set.set.put64.putDigest.hostRecs
  · exact h.set.start.set.hostFault
theorem Keeps.bootFrom2 {b : BootIn} {note : State → State} (h : Keeps False s t) (hf : ∀ {t}, Keeps False s t → Keeps False s (note t)) :
    Keeps False s (t.bootFrom2 b note) := by
  unfold State.bootFrom2
  extract_lets
  split
  · exact .domsOn (.put (.set (hf h.domsOn)))
  · extract_lets s2 s3
    have h1 : Keeps False s s2 := .set (hf h.domsOn)
    have h2 : Keeps False s s3 := .ite h1 h1.ledgerH.hostFault
    exact h2.domsOn.toStep.psetStart.imgStart.startAdvance
theorem Keeps.bare {keep : Nat → Bool} (h : Keeps False s t) : Keeps False s (t.bare keep) := by
  refine .set (.set ⟨fun hs => ?_, False.elim⟩)
  obtain ⟨regs, -, -⟩ := h.inv hs
  exact ⟨regsWf_filter _ regs, rfl, ticksPerEra_pos, unitsPerTick_pos, ticksPerEra_pos, unitsPerTick_pos⟩
theorem Keeps.keepHold {hold : Bool} (h : Keeps m s t) : Keeps m s (t.keepHold hold) := .ite h.set.set h.set.set
theorem Keeps.powerLoss {long : Bool} (h : Keeps False s t) : Keeps False s (t.powerLoss long) := by
  unfold State.powerLoss
  extract_lets _ s2
  have h2 : Keeps False s s2 := h.storePowerOff.bare.keepHold.put
  exact .ite (.ite h.keepHold h) (.same h2)
theorem Keeps.resumeGap (h : Keeps m s t) : Keeps m s t.resumeGap := h.foldl .setLane
theorem Keeps.resumeAvail {mark t0 : Nat} (h : Keeps m s t) : Keeps m s (t.resumeAvail mark t0) := .ite h.avail.availCount h.avail
theorem Keeps.resumeTime (h : Keeps m s t) : Keeps m s t.resumeTime :=
  .resumeAvail (.resumeGap (.put64 (.put (h.time fun _ => ⟨Nat.mod_lt _ ticksPerEra_pos, unitsPerTick_pos, ticksPerEra_pos, unitsPerTick_pos⟩))))
theorem Keeps.resumeEntry (h : Keeps m s t) : Keeps m s t.resumeEntry := h.ledgerH
theorem Keeps.doPowerUp {b : BootIn} (h : Keeps False s t) : Keeps False s (t.doPowerUp b) := by
  unfold State.doPowerUp
  extract_lets _ _ _ s2
  have h1 : Keeps False s s2 := h.storePowerOff.bare.keepHold.put.start.resumeTime
  exact .ite (.ite (h1.bootFrom2 .resumeEntry) h1.domsOn.resumeEntry.hostFault.toStep) h
theorem Keeps.doModuleReset {b : BootIn} (h : Keeps False s t) : Keeps False s (t.doModuleReset b) := by
  unfold State.doModuleReset
  split
  · extract_lets _ s2 _ _ s3
    have h2 : Keeps False s s2 := h.domOff.domOff.bare.keepHold.put
    have h3 : Keeps False s s3 := by
      refine ⟨fun hs => ?_, False.elim⟩
      obtain ⟨regs, mem, -⟩ := h2.inv hs
      obtain ⟨-, -, time⟩ := h.inv hs
      exact ⟨regs, mem, time⟩
    exact .bootFrom2 (.ite h3.setAll.dropFaultN h3.setAll) .ledgerH
  · exact h
theorem Keeps.powerStep {d : Nat} {f : State → State} (h : Keeps False s t) (hf : ∀ {t}, Keeps False s t → Keeps False s (f t)) :
    Keeps False s (t.powerStep d f) := .ite (.startAdvance (hf h)) h

/-! ### Messages of the barrier (R32–R53) -/

theorem Keeps.mirrorDrops {n last : Nat} (h : Keeps m s t) : Keeps m s (t.mirrorDrops n last) := .ite h (.ite h.put.put.set.set h.put.put.set)
theorem Keeps.healthToHost {m0 : Msg} (h : Keeps m s t) : Keeps m s (t.healthToHost m0) := h.toRecord.mirrorDrops.link.availNote
theorem Keeps.reduceToHost {m0 : Msg} (h : Keeps False s t) : Keeps False s (t.reduceToHost m0) :=
  .ite h.toRecord.storeSegment (.ite h.toRecord.storeSegment h.toRecord)
theorem Keeps.faultToHost {m0 : Msg} (h : Keeps m s t) : Keeps m s (t.faultToHost m0) := .ite h.collectEvent.fatalRevert h
theorem Keeps.eventEffect {m0 : Msg} (h : Keeps m s t) : Keeps m s (t.eventEffect m0) := .ite h.faultToHost (.ite h.inhibitOn (.ite h.recRefill h))
theorem Keeps.cmpEntry {m0 : Msg} {p n : Nat} (h : Keeps m s t) : Keeps m s (t.cmpEntry m0 p n) := h.ledger1
theorem Keeps.cmpToHost {m0 : Msg} (h : Keeps m s t) : Keeps m s (t.cmpToHost m0) := by
  unfold State.cmpToHost
  extract_lets
  exact .ite h.toRecord (.ite (.ite h.toRecord h.toRecord.cmpEntry) (.ite h.toRecord.setPair.cmpEntry h.toRecord.setPair))
theorem Keeps.stressToLedger {q : Nat} {e : List Byte} (h : Keeps m s t) : Keeps m s (t.stressToLedger q e) := h.ledgerH
theorem Keeps.stressToHost {m0 : Msg} (h : Keeps m s t) : Keeps m s (t.stressToHost m0) := h.toRecord.foldl .stressToLedger
theorem Keeps.planArrive {m0 : Msg} (h : Keeps m s t) : Keeps m s (t.planArrive m0) := h.plan
theorem Keeps.refillVec {pl : List Byte} (h : Keeps m s t) : Keeps m s (t.refillVec pl) := .ite h.satCount.seqEvt h.setSeq
theorem Keeps.svcAdd {r : SvcReq} (h : Keeps m s t) : Keeps m s (t.svcAdd r) := h.seq.set
theorem Keeps.readAll {r : Nat} {l : List Nat} (h : Keeps m s t) : Keeps m s (t.readAll r l).2 := .foldlOf (p := Prod.snd) h .readReg
theorem Keeps.tunRead {pl : List Byte} (h : Keeps m s t) : Keeps m s (t.tunRead pl) := by
  unfold State.tunRead
  extract_lets
  split
  · exact h.sendRsp
  · exact .ite h.sendRsp (.ite h.svcAdd (.ite h.svcAdd h.readAll.sendRsp))
theorem Keeps.writeAll {u : Sub} {r : Requester} {l : List (Nat × Word)} (h : Keeps False s t) : Keeps False s (t.writeAll u r l).2 :=
  .foldlOf (p := Prod.snd) h .writeReg
theorem Keeps.islandWrite {m0 : Msg} {tag a : Nat} {ws : List Word} (h : Keeps m s t) : Keeps m s (t.islandWrite m0 tag a ws) :=
  .ite h.goArrive.sendRsp (.ite h.fatalField.sendRsp h.heldTake.sendRsp)
theorem Keeps.tunWrite {u : Sub} {m0 : Msg} (h : Keeps False s t) : Keeps False s (t.tunWrite u m0) := by
  unfold State.tunWrite
  extract_lets
  split
  · exact h.sendRsp
  · exact .ite h.islandWrite (.ite h.sendRsp (.ite h.svcAdd h.writeAll.sendRsp))
theorem Keeps.rspArrive {pl : List Byte} (h : Keeps False s t) : Keeps False s (t.rspArrive pl) := by
  unfold State.rspArrive
  extract_lets
  refine .ite h.escAnswer ?_
  split
  · exact h.tunAnswer.recAnswered.startAdvance
  · exact h.link
theorem Keeps.tunAccess {r : Requester} {a n : Nat} {ws : Option (List Word)} (h : Keeps m s t) : Keeps m s (t.tunAccess r a n ws) :=
  .ite h (.ite (.ite h.ioGive h) (.ite h (.ite (.ite h.sealedReject.ioGive h.sealedReject) h.tunSubmit)))
theorem Keeps.doTunTimeout {tag : Nat} (h : Keeps False s t) : Keeps False s (t.doTunTimeout tag) := by
  unfold State.doTunTimeout
  split
  · exact h.tunTimeout.recAnswered.startAdvance
  · exact h
theorem Keeps.barAccess {u : Sub} {a : Nat} {w : Option Word} (h : Keeps False s t) : Keeps False s (t.barAccess u a w) := by
  unfold State.barAccess
  extract_lets
  refine .ite h.tunAccess ?_
  split
  · exact h.writeReg
  · exact h.readReg.ioGive
theorem Keeps.doBadAccess {read : Bool} (h : Keeps m s t) : Keeps m s (t.doBadAccess read) := .ite h.hdmaCount.hdmaEvt.ioGive h.hdmaCount.hdmaEvt
theorem Keeps.doFctlFatal {id : Nat} (h : Keeps m s t) : Keeps m s (t.doFctlFatal id) := by
  unfold State.doFctlFatal
  split
  · exact h.fieldTake (fun h' => h'.fatalField.sendRsp)
  · exact h

/-! ### The boundaries of the halves (R62, R65, R70) -/

theorem Keeps.planEffect {x : PlanAct} (h : Keeps m s t) : Keeps m s (t.planEffect x) := by
  unfold State.planEffect
  split
  · exact .ite h.start.modeStops h
  · exact h.lanePlanned
  · exact h.streamsStart
  · exact h.setFail
  · exact h.groupArm
  · exact h.redEffect
  · split
    · exact h.tallyStart
    · exact h
  · split
    · exact h.tallyStart
    · exact h
  · exact h.pairStart
  all_goals exact h
theorem Keeps.fieldPlans (h : Keeps m s t) : Keeps m s t.fieldPlans := h.plan.foldl (fun h' => h'.plan.planEffect)
theorem Keeps.hostPlans (h : Keeps m s t) : Keeps m s t.hostPlans := h.duePlans.foldl (fun h' => h'.plan.put)
theorem Keeps.doPlans (h : Keeps m s t) : Keeps m s t.doPlans := .ite (.fieldPlans (.ite h.hostPlans h)) (.ite h.hostPlans h)
theorem Keeps.driveReadback {drive : List Port} (h : Keeps m s t) : Keeps m s (t.driveReadback drive) := .fault (h.foldl (fun h' => .ite h'.fieldFault h'))
theorem Keeps.fieldBeacon (h : Keeps m s t) : Keeps m s t.fieldBeacon := h.sendFH
theorem Keeps.fcpBack (h : Keeps m s t) : Keeps m s t.fcpBack := .ite h.fault h
theorem Keeps.tickEnds {env : List LaneIn} (h : Keeps m s t) : Keeps m s (t.tickEnds env) := h.takeSamples.sendFieldFaults.lanesTick.edgesTick
theorem Keeps.tickBegins (h : Keeps m s t) : Keeps m s t.tickBegins := h.overrunNext.fieldNextTick.cmp
theorem Keeps.tickSends (h : Keeps m s t) : Keeps m s t.tickSends := h.fieldBeacon.drainBursts.failForward.dumpSend.link
theorem Keeps.tickEffects {drive : List Port} (h : Keeps m s t) : Keeps m s (t.tickEffects drive) := by
  unfold State.tickEffects
  extract_lets _ s2
  have h1 : Keeps m s s2 := h.fieldPlans.doBankSwap.doEscApply.genTickAll.sourceEvent.tickSweeps.seqSettle
  exact h1.guardInhibit.podResets.refTick.runStart.fieldStageEnd.fcpBack.driveReadback.takeFloatLoss
theorem Keeps.doTickBoundary {env : List LaneIn} {drive : List Port} (h : Keeps m s t) : Keeps m s (t.doTickBoundary env drive) :=
  .ite h.tickEnds.tickBegins.tickSends.tickEffects h
theorem Keeps.ledgerSecond (h : Keeps m s t) : Keeps m s t.ledgerSecond := .ite (.ite (.set (h.ledger.foldl .ledgerWrite)) (h.ledger.foldl .ledgerWrite)) h
theorem Keeps.hostEffects {line : Bool} (h : Keeps False s t) : Keeps False s (t.hostEffects line) :=
  h.doTickMark.ledgerSecond.hostPlans.doEpochSet.showCellSync.hostShutdown.fatalRevert
theorem Keeps.hostFollows (h : Keeps False s t) : Keeps False s t.hostFollows := h.storeRestart.takeOverwrite.availTick.clearTick.showRecording.startAdvance
theorem Keeps.doHostTick {line : Bool} (h : Keeps False s t) : Keeps False s (t.doHostTick line) := .ite h.hostNextTick.hostEffects.hostFollows h
theorem Keeps.doEraWrap (h : Keeps False s t) : Keeps False s t.doEraWrap := .ite h.doHostTick h

end Sys2Proof.Machine
end

section
/-! PROOFS. Every command keeps the canonical forms and the time inside its fields, by its arm of `exec` (O55). -/

namespace Sys2Proof.Machine

variable {m : Prop} {s t : State} {i : Instr}

/-- The commands that may store to acquisition memory or take it away. -/
theorem Ends.exec_of_mayStore (hi : mayStore i = true) (h : Keeps False s t) : Ends False s (exec i t) := by
  cases i with
  | host64bitAccess => exact .done (.ite h.atH.barAccess.barAccess h.atH)
  | registerWrite => exact .done (.ite (.ite h.atH.sealedReject (.ite h.writeReg h.atH)) h.writeReg)
  | powerDomainRequest => exact .execPowerDomainRequest h
  | domainPowered => exact .done (h.atH.atF.powerStep .doDomainPowered)
  | trainingDone => exact .done h.atH.atF.doTrainingDone.startAdvance
  | xmRegWr => exact .done (h.atSeq.fieldTake .tunWrite)
  | xmRegRsp => exact .done (h.atH.hostTake .rspArrive)
  | xmReduce => exact .done (h.atH.hostTake .reduceToHost)
  | xmFw => exact .done (h.atF.fieldTake (fun h' => h'.fwTake.startAdvance))
  | tunnelTimeout => exact .done h.atH.doTunTimeout
  | eraWrap => exact .done h.doEraWrap
  | hostTickBoundary => exact .done h.doHostTick
  | quietEnter => exact .done h.doQuietEnter
  | bankSwap => exact .done h.doBankSwap.startAdvance
  | storeReadDone => exact .done h.atH.doStoreReadDone
  | powerUp => exact .done h.doPowerUp
  | powerLoss12v => exact .done h.atH.powerLoss
  | hostInputLow => exact .done h.atH.powerLoss
  | fieldSupplyOutOfRange => exact .done h.atH.atF.doSupplyOut
  | modeChange => exact .done h.doModeChange.startAdvance
  | moduleReset => exact .done h.doModuleReset
  | fieldShutdownPowerOff => exact .done h.doFieldShutdown
  | _ => exact absurd hi Bool.false_ne_true

/-- Every other command leaves acquisition memory as it is too. -/
theorem Ends.exec_of_not_mayStore (hi : mayStore i = false) (h : Keeps m s t) : Ends m s (exec i t) := by
  cases i with
  | bar0BadAccess => exact .done (h.atH.ifOn .doBadAccess)
  | rsRead => exact .execRsRead h
  | h3TrainingDone => exact .done h.atH.doH3Trained
  | trainingRetryTimer => exact .done h.atH.doTrainRetry
  | isoRetrain => exact .execIsoRetrain h
  | linkDown => exact .done h.atH.atF.doLinkDown
  | linkHoldExpiry => exact .done h.atH.atF.doLinkHoldExpiry
  | laneFailure => exact .done h.atH.atF.doLaneFailure
  | reconfigDone => exact .done h.atH.atF.doReconfigDone
  | shed => exact .done h.doShed
  | frameReplay => exact .done h.atH.doFrameReplay
  | isoClrStats => exact .execIsoClrStats h
  | xmTimeFieldBeacon => exact .done (h.atH.hostTake .toRecord)
  | xmTimeHostBeacon => exact .done (h.atF.fieldTake .hostBeaconArrive)
  | xmTimeEpochSet => exact .done (h.atF.fieldTake .clock)
  | xmTickPlan => exact .done (h.atF.fieldTake .planArrive)
  | xmHealth => exact .done (.ite (h.atH.hostTake .healthToHost) (h.atF.fieldTake id))
  | xmRegRd => exact .done (h.atSeq.fieldTake .tunRead)
  | xmSamples => exact .done (h.atH.hostTake .toRecord)
  | xmTally => exact .done (h.atH.hostTake .toRecord)
  | xmEvent => exact .done (h.atH.hostTake (fun h' => h'.toRecord.toEventQueue.eventEffect))
  | xmFail => exact .done (h.atH.hostTake .toRecord)
  | xmCmp => exact .done (h.atH.hostTake .cmpToHost)
  | xmRefillVec => exact .done (h.atSeq.fieldTake (fun h' => .ite h'.refillVec h'))
  | xmRefillGen => exact .done (h.atF.fieldTake .genRefill)
  | xmPodRequest => exact .done (h.atF.fieldTake (fun h' => .ite h'.podRequest h'))
  | xmPodResponse => exact .done (h.atH.hostTake .toRecord)
  | xmPodLedger => exact .done (h.atH.hostTake .stressToHost)
  | xmCalSetImage => exact .done (.ite (h.atF.fieldTake .calToField) (h.atH.hostTake (fun h' => h'.toRecord.calToHost)))
  | xmCalSetDrop => exact .done (h.atF.fieldTake .calToField)
  | xmCalBank => exact .done (h.atH.hostTake (fun h' => h'.toRecord.calToHost))
  | xmCalRunEnd => exact .done (h.atH.hostTake (fun h' => h'.toRecord.calToHost))
  | xmCalStored => exact .done (h.atF.fieldTake .calToField)
  | tunnelAccess => exact .done h.atH.tunAccess
  | fctlEscGo => exact .done h.atF.doEscGo
  | heldWriteDiscard => exact .done h.doHeldDiscard
  | escApply => exact .done h.doEscApply
  | fctlFatal => exact .done h.atF.doFctlFatal
  | clockSourceSelect => exact .execClockSourceSelect h
  | pllLock => exact .done (h.atH.ifOn .doPllLock)
  | refLost => exact .done (h.atH.ifOn .doRefLost)
  | holdoverReturn => exact .done (h.atH.ifOn .doHoldoverReturn)
  | hostBeaconSend => exact .done h.doHostBeacon
  | fieldStep => exact .done h.doFieldStep
  | tickBoundary => exact .done h.doTickBoundary
  | healthCompose => exact .done (h.ifOn .doHealthCompose)
  | tallyMerge => exact .done h.takeSamples.atF.doTallyMerge
  | tickOverrun => exact .done (h.ifOn .doTickOverrun)
  | planTakesEffect => exact .done h.doPlans
  | tickMarkWrite => exact .done (h.ifOn .doTickMark)
  | epochLoad => exact .execEpochLoad h
  | epochSet => exact .done (h.ifOn .doEpochSet)
  | todMessage => exact .done (h.atH.ifOn .doTod)
  | ppsEdge => exact .done (h.atH.ifOn .doPps)
  | ppsMissing => exact .done (h.atH.ifOn .doPpsMissing)
  | timeClrStats => exact .execTimeClrStats h
  | horizonChange => exact .done h.doHorizonChange
  | clrCtrlClrStats => exact .execClrCtrlClrStats h
  | driveInhAssert => exact .done h.atF.doDriveInhAssert
  | driveInhPinRelease => exact .done h.atF.seq.showInhPin
  | sysDriveInhSet => exact .execSysDriveInhSet h
  | driveInhRelease => exact .execDriveInhRelease h
  | fieldInhibitEnd => exact .done h.doFieldInhibitEnd
  | pinLevelWrite => exact .execPinLevelWrite h
  | laneLevelApply => exact .done h.doLaneLevelApply
  | deskew => exact .execDeskew h
  | deskewDone => exact .done h.atF.doDeskewDone
  | pinEnable => exact .execPinEnable h
  | pinDisable => exact .execPinDisable h
  | pinClrStats => exact .execPinClrStats h
  | pinTransition => exact .execPinTransition h
  | failRecordComplete => exact .done h.atF.doFailComplete
  | failClear => exact .execFailClear h
  | failClearApply => exact .done h.atF.doFailClearApply
  | failDump => exact .execFailDump h
  | dumpDone => exact .execDumpDone h
  | fwdMaxWrite => exact .execFwdMaxWrite h
  | seqFailClrStats => exact .execSeqFailClrStats h
  | opNext => exact .done (h.atSeq.opcode .issue)
  | opRepeat => exact .done h.atSeq.doRepeat
  | opLoop => exact .done h.atSeq.doLoop
  | opEndloop => exact .done h.atSeq.doEndloop
  | opJump => exact .done (h.atSeq.opcode (fun h' => h'.issue.goTo))
  | opCall => exact .done h.atSeq.doCall
  | opRet => exact .done h.atSeq.doRet
  | opWaitTrig => exact .done h.atSeq.doWaitTrig.seqSettle
  | waitTimeout => exact .done h.atSeq.doWaitTimeout.seqSettle
  | opMatch => exact .done h.atSeq.doMatch
  | matchLimit => exact .done h.atSeq.doMatchLimit
  | opSyncTick => exact .done (.seqSettle (h.atSeq.opcode .issue))
  | opFlag => exact .done (h.atSeq.opcode .issue)
  | opGenStep => exact .done (h.atSeq.opcode .issue)
  | opCustom => exact .done h.atSeq.doCustom
  | opHalt => exact .done (h.atSeq.opcode (fun h' => h'.issue.seqEnd))
  | reservedOpcode => exact .done h.atSeq.doReserved
  | instanceStart => exact .done h.doInstanceStart
  | underrun => exact .done h.atSeq.doUnderrun
  | seqStart => exact .execSeqStart h
  | seqPause => exact .execSeqPause h
  | pauseClear => exact .execPauseClear h
  | seqStep => exact .execSeqStep h
  | seqStop => exact .execSeqStop h
  | hostJump => exact .execHostJump h
  | vectorRequestTaken => exact .done h.atSeq.takeVectorRequest
  | seqResume => exact .execSeqResume h
  | winApply => exact .execWinApply h
  | seqClrStats => exact .execSeqClrStats h
  | seqOverdraft => exact .done h.atSeq.doSeqOverdraft
  | custSwitch => exact .done h.atSeq.doCustSwitch
  | uNop => exact .done (h.atSeq.micro .microStep)
  | uLdi => exact .done (h.atSeq.micro (fun h' => h'.setUreg.microStep))
  | uLdh => exact .done (h.atSeq.micro (fun h' => h'.setUreg.microStep))
  | uAdd => exact .done (h.atSeq.micro .arith)
  | uSub => exact .done (h.atSeq.micro .arith)
  | uAnd => exact .done (h.atSeq.micro .arith)
  | uOr => exact .done (h.atSeq.micro .arith)
  | uXor => exact .done (h.atSeq.micro .arith)
  | uShl => exact .done (h.atSeq.micro .arith)
  | uShr => exact .done (h.atSeq.micro .arith)
  | uRds => exact .done (h.atSeq.micro (fun h' => h'.setUreg.microStep))
  | uBr => exact .done (h.atSeq.micro (fun h' => .ite h'.microGo h'.microStep))
  | uMcall => exact .done (h.atSeq.micro .doMcall)
  | uMret => exact .done (h.atSeq.micro .doMret)
  | uIssue => exact .done (h.atSeq.micro .mayStall)
  | uPatch => exact .done (h.atSeq.micro .microPatch)
  | uCmpw => exact .done (h.atSeq.micro .mayStall)
  | uTrig => exact .done (h.atSeq.micro (fun h' => h'.setUreg.microStep))
  | uDrain => exact .done (h.atSeq.micro .mayStall)
  | uLpush => exact .done (h.atSeq.micro .microLpush)
  | uLend => exact .done (h.atSeq.micro .microLend)
  | uCpush => exact .done (h.atSeq.micro .microCpush)
  | uCpop => exact .done (h.atSeq.micro .microCpop)
  | uSetnx => exact .done (h.atSeq.micro .microSetnx)
  | uFlag => exact .done (h.atSeq.micro .microFlag)
  | uGstep => exact .done (h.atSeq.micro .microGstep)
  | uEvt => exact .done (h.atSeq.micro .microEvt)
  | uSafe => exact .done (h.atSeq.micro .microSafe)
  | uEnd => exact .done (h.atSeq.micro .microEnd)
  | uHlt => exact .done (h.atSeq.micro .mayStall)
  | illegalMicroOp => exact .done h.atSeq.doIllegalMicro
  | stallRelease => exact .done h.atSeq.doStallRelease
  | serviceRequestTaken => exact .done h.atSeq.doServiceTaken
  | svcOverdue => exact .done h.atSeq.doSvcOverdue
  | ustoreClrStats => exact .execUstoreClrStats h
  | genCfgWrite => exact .execGenCfgWrite h
  | genListWrite => exact .execGenListWrite h
  | genEnable => exact .execGenEnable h
  | genDisable => exact .execGenDisable h
  | genStopPoint => exact .done h.atF.doGenStopPoint
  | genStart => exact .execGenStart h
  | genResume => exact .execGenResume h
  | genListClr => exact .execGenListClr h
  | genClrStats => exact .execGenClrStats h
  | genGoArm => exact .execGenGoArm h
  | genGo => exact .done h.atF.doGo
  | genGoCancel => exact .execGenGoCancel h
  | generatorStep => exact .done h.atF.doGenStep
  | triggeredStep => exact .done h.doTriggeredStep
  | trigTimeout => exact .done h.atF.doTrigTimeout
  | genOverdraftEnd => exact .done h.atF.doGenOdEnd
  | laneApply => exact .execLaneApply h
  | laneApplyEffect => exact .done h.doLaneApplyEffect
  | laneApplyWithdraw => exact .done h.doLaneApplyWithdraw
  | laneStreamWrite => exact .execLaneStreamWrite h
  | burstGo => exact .execBurstGo h
  | burstStart => exact .done h.doBurstStart
  | burstEnd => exact .done h.doBurstEnd
  | burstDone => exact .done h.atF.doBurstDone
  | unsettledEnd => exact .done h.atF.doUnsettledEnd
  | laneClrStats => exact .execLaneClrStats h
  | laneTriggerEvent => exact .done h.takeSamples.atF
  | trigInEdge => exact .done h.atF.doTrigIn
  | hostTrig => exact .execHostTrig h
  | combinerFire => exact .execCombinerFire h
  | holdoffExpiry => exact .done h.atF.doHoldoffExpiry
  | sequenceWindowExpiry => exact .done h.atF.doSeqWindowExpiry
  | combLevelFall => exact .done h.atF.doCombLevelFall
  | combRearm => exact .execCombRearm h
  | combClrStats => exact .execCombClrStats h
  | acqConfigEffect => exact .done h.doAcqConfigEffect
  | segmentComplete => exact .done h.takeSamples.atF.doSegmentComplete
  | groupEnable => exact .execGroupEnable h
  | groupDisable => exact .execGroupDisable h
  | grpClrStats => exact .execGrpClrStats h
  | redApply => exact .execRedApply h
  | redClrStats => exact .execRedClrStats h
  | frameEnd => exact .done h.doFrameEnd
  | tallyEnable => exact .execTallyEnable h
  | tallyClear => exact .execTallyClear h
  | tallySnap => exact .execTallySnap h
  | tallySnapshot => exact .done h.doTallySnapshot
  | sweepEnd => exact .done h.atF.doSweepEnd
  | pairEnable => exact .execPairEnable h
  | pairDisable => exact .execPairDisable h
  | compareDecision => exact .done h.takeSamples.atF.doCompareDecision
  | learnFreeze => exact .done h.doLearnFreeze
  | relearn => exact .execRelearn h
  | relearnStart => exact .done h.doRelearnStart
  | latencyFollow => exact .done h.doLatencyFollow
  | referenceRead => exact .done h.atF.doReferenceRead.pairFinish
  | replayResume => exact .done h.atF.doReplayResume
  | overflow => exact .done h.atF.doOverflow
  | cmpRplWrite => exact .execCmpRplWrite h
  | cmpClrStats => exact .execCmpClrStats h
  | cmpPClrStats => exact .execCmpPClrStats h
  | guardSample => exact .done h.doGuardSample
  | quietRequest => exact .execQuietRequest h
  | wake => exact .done h.atF.doWake
  | quietEnd => exact .execQuietEnd h
  | quietRestoreComplete => exact .done h.atH.atF.doQuietRestore
  | grdClrStats => exact .execGrdClrStats h
  | mcStart => exact .execMcStart h
  | mcCont => exact .execMcCont h
  | mcAbort => exact .execMcAbort h
  | conversionDone => exact .done h.atF.doConversionDone
  | lineLost => exact .done h.atF.doLineLost
  | refbufOn => exact .execRefbufOn h
  | refReady => exact .done h.atF.doRefReady
  | refbufOff => exact .execRefbufOff h
  | hkScanStart => exact .done h.atF.doHkScanStart
  | hkScanDone => exact .done h.atF.doHkScanDone
  | ddacEnable => exact .execDdacEnable h
  | calRun => exact .execCalRun h
  | calAutoStart => exact .done h.atF.doCalAutoStart
  | calRunEnd => exact .done h.atF.doCalRunEnd
  | calAbort => exact .execCalAbort h
  | calAbortDone => exact .done h.atF.doCalAbortDone
  | setStoreTimeout => exact .done h.atF.doSetStoreTimeout
  | bankReady => exact .done h.atF.doBankReady
  | metCalClrStats => exact .execMetCalClrStats h
  | podInsert => exact .done h.atF.doPodInsert
  | debounceDone => exact .done h.atF.doDebounceDone
  | hello => exact .done h.atF.podExchange
  | setRate => exact .done h.atF.podExchange
  | linkTest => exact .done h.atF.podExchange
  | caps => exact .done h.atF.podExchange
  | certRead => exact .done h.atF.podExchange
  | challenge => exact .done h.atF.doChallenge
  | stressRead => exact .done h.atF.podExchange
  | poll => exact .done h.atF.podExchange
  | config => exact .done h.atF.podExchange
  | level => exact .done h.atF.podExchange
  | hold => exact .done h.atF.podExchange
  | fwWrite => exact .done h.atF.podExchange
  | fwCommit => exact .done h.atF.podExchange
  | podResponse => exact .done h.atF.doPodResponse
  | podResponseTimeout => exact .done h.atF.doPodTimeout
  | helloTimeout => exact .done h.atF.doHelloTimeout
  | renegotiate => exact .done h.atF.doRenegotiate
  | linkLossHold => exact .done h.atF.doLinkLossHold
  | podSelfHold => exact .done h.atF.doPodSelfHold
  | pollInterval => exact .done h.atF.doPollInterval
  | challengeDue => exact .done h.atF.doChallengeDue
  | recheckRetry => exact .done h.atF.doRecheckRetry
  | podAttached => exact .done h.doPodAttached
  | podRemoval => exact .done h.atF.doPodRemoval
  | detach => exact .done h.doDetach
  | powerTrip => exact .done h.atF.doPowerTrip
  | podRetry => exact .execPodRetry h
  | podRecheck => exact .execPodRecheck h
  | podHoldWrite => exact .execPodHoldWrite h
  | podPowerOff => exact .execPodPowerOff h
  | podClrStats => exact .execPodClrStats h
  | podBudgetCheck => exact .done h.doPodBudget
  | functionLevelReset => exact .done h.doFunctionLevelReset
  | hotReset => exact .done h.doHotReset
  | hostLinkDown => exact .done h.doHostLinkDown
  | hostLinkRetrain => exact .done h.doHostLinkRetrain
  | aerError => exact .done h.doAerError
  | bar2Access => exact .done h.doBar2Access
  | descriptorPost => exact .execDescriptorPost h
  | hdmaNop => exact .done h.doHdmaNop
  | refill => exact .done h.doRefill
  | copyOut => exact .done h.doCopyOut
  | tap => exact .done h.doTap
  | descriptorComplete => exact .done h.doDescriptorComplete
  | hostErr => exact .done h.doHostErr
  | hdmaChannelEnable => exact .execHdmaChannelEnable h
  | hdmaDrain => exact .execHdmaDrain h
  | hdmaAbort => exact .execHdmaAbort h
  | channelStopped => exact .done h.doChannelStopped
  | tapFlush => exact .done h.doTapFlush
  | eqVectorTimer => exact .done h.doEqVectorTimer
  | hdmaClrStats => exact .execHdmaClrStats h
  | hdmaCClrStats => exact .execHdmaCClrStats h
  | driveLinkUp => exact .done h.atH.doDriveUp
  | driveLinkDown => exact .done h.atH.doDriveDown
  | nvmeCompletion => exact .done h.atH.doNvme
  | nvmeCommandTimeout => exact .done h.atH.doNvmeTimeout
  | rebuildDone => exact .done h.atH.doRebuildDone
  | storFormat => exact .execStorFormat h
  | storEnWrite => exact .execStorEnWrite h
  | sealInstant => exact .done (.ite h.sealInstant h)
  | sealNow => exact .execSealNow h
  | sealIssued => exact .done h.atH.doSealIssued
  | pinAdd => exact .execPinAdd h
  | storeRead => exact .execStoreRead h
  | storClrStats => exact .execStorClrStats h
  | mergedAppend => exact .done h.atH.doMergedAppend
  | ldgNote => exact .execLdgNote h
  | ldgClrStats => exact .execLdgClrStats h
  | packetSubmit => exact .execPacketSubmit h
  | packetCheckDone => exact .done h.atH.doPacketCheck
  | slotStaged => exact .done h.doSlotStaged
  | tokenSubmit => exact .execTokenSubmit h
  | tokenCheckDone => exact .done h.atH.doTokenCheck
  | slotExpiry => exact .done h.doSlotExpiry
  | escrowCommit => exact .done h.doEscrowCommit
  | arGo => exact .execArGo h
  | auditReportReady => exact .done h.atH.doReportReady
  | secClrStats => exact .execSecClrStats h
  | hostSupplyFault => exact .done h.atH.doFaultRaise
  | fieldSupplyInRange => exact .done h.atH.start
  | fieldSupplyFault => exact .done h.atF.doFieldRaise
  | imgErase => exact .execImgErase h
  | imgProg => exact .execImgProg h
  | imgActivate => exact .execImgActivate h
  | imgCheckDone => exact .done h.atH.doImgCheckDone
  | modeRequest => exact .execModeRequest h
  | sysClrStats => exact .execSysClrStats h
  | faultRaise => exact .done h.atH.doFaultRaise
  | fieldFaultRaise => exact .done h.atF.doFieldRaise
  | blockResetEnd => exact .done h.atH.atF.doBlockResetEnd
  | fltPendClear => exact .execFltPendClear h
  | faultPinRelease => exact .done h.atH.atF.doPinRelease
  | faultForce => exact .execFaultForce h
  | fltClrStats => exact .execFltClrStats h
  | clrFirst => exact .execClrFirst h
  | temperatureLimit => exact .done h.atH.atF.doTemperature
  | availDayRoll => exact .done h.doDayRoll
  | updErase => exact .execUpdErase h
  | updProg => exact .execUpdProg h
  | updVerify => exact .execUpdVerify h
  | stagingComplete => exact .done h.atH.doStagingComplete
  | updArm => exact .execUpdArm h
  | updCancel => exact .execUpdCancel h
  | decisionSample => exact .done h.atH.doDecision
  | activation => exact .done h.doActivation
  | fieldStage => exact .done h.doFieldStage
  | fieldStageTimeout => exact .done h.doFieldTimeout
  | healthPass => exact .done h.doHealthPass
  | commitSample => exact .done h.atH.doCommitSample
  | lineSyncEdge => exact .done h.atF.doLineEdge
  | imgEraseProgDone => exact .done h.atH.doImgOpDone
  | updEraseProgDone => exact .done h.atH.doUpdOpDone
  | hostStageDone => exact .done h.atH.doHostStage
  | _ => exact absurd hi.symm Bool.false_ne_true

theorem Ends.exec (h : Keeps False s t) : Ends False s (exec i t) := by
  cases hi : mayStore i with
  | true => exact .exec_of_mayStore hi h
  | false => exact .exec_of_not_mayStore hi h

theorem Inv.exec {i : Instr} {v : State} (h : s.Inv) (hv : Machine.exec i s = .next v) : v.Inv := by
  obtain ⟨t, ht, kept⟩ := Ends.exec (i := i) (.refl False s)
  obtain rfl : t = v := Host.Outcome.next.inj (ht.symm.trans hv)
  exact kept.inv h

/-- Settles O55: an empty queue idles, and the command at the front keeps the invariant of the state that it runs in. -/
theorem invariantKept : Obligations.InvariantKept := by
  intro s t h ht
  cases hp : s.pending with
  | nil =>
    obtain rfl : s = t := Host.Outcome.next.inj ((step_of_pending_nil hp).symm.trans ht)
    exact h
  | cons c rest => exact Inv.exec (s := { s with pending := rest }) h ((step_of_pending_cons hp).symm.trans ht)

end Sys2Proof.Machine
end

section
/-! PROOFS. The control of a channel, the event timer and the statistics of host DMA (R88, R361, R364, R370, R371). -/

namespace Sys2Proof.Machine

/-! ### Registers -/

/-- Fields of one register whose bits lie in order. -/
theorem Apart.of_bits {a lo w lo' w' : Nat} (word : lo + w ≤ 32 ∧ lo' + w' ≤ 32) (h : lo + w ≤ lo' ∨ lo' + w' ≤ lo) :
    Apart ⟨a, lo, w⟩ ⟨a, lo', w'⟩ := .inr ⟨word, h⟩

theorem State.putAll_zero_val {s : State} {l : List Nat} {a : Nat} (h : a ∈ l ∨ s.val a = 0) : (s.putAll l 0).val a = 0 := by
  rw [State.val, State.putAll_rd]
  split
  · rfl
  · next out => exact h.resolve_left out

/-! ### The start of a stop (R364) -/

section
variable (s : State) (c : Nat) (abort : Bool)

/-- The bits of CHAN_STAT that say what kind of stop is in progress. -/
def State.stopBits : State :=
  ((s.set (R.HDMA_C_STAT_BUSY c) 1).set (R.HDMA_C_STAT_ABORTING c) (if abort then 1 else 0)).set (R.HDMA_C_STAT_DRAINING c) (if abort then 0 else 1)

/-- A stop sets its bits; beside them it may note the TAIL in force. -/
theorem State.startStop_host : OnHost (fun _ => False) (s.stopBits c abort) (s.startStop c abort) := by
  unfold State.startStop
  extract_lets s1
  split
  · exact .refl _ _
  · exact .hdma _ _ _

theorem State.startStop_get (f : Fld) : (s.startStop c abort).get f = (s.stopBits c abort).get f := by
  rw [State.get, State.get, (s.startStop_host c abort).rd id]

theorem State.stopBits_regs : OnRegs (fun a => a = R.HDMA_C_STAT c) s (s.stopBits c abort) :=
  ((OnRegs.set (w := fun a => a = R.HDMA_C_STAT c) s (R.HDMA_C_STAT_BUSY c) _ rfl).trans (.set _ (R.HDMA_C_STAT_ABORTING c) _ rfl)).trans
    (.set _ (R.HDMA_C_STAT_DRAINING c) _ rfl)

theorem State.startStop_busy : (s.startStop c abort).is (R.HDMA_C_STAT_BUSY c) = true := by
  have draining : Apart (R.HDMA_C_STAT_BUSY c) (R.HDMA_C_STAT_DRAINING c) := .of_bits (by decide) (by decide)
  have aborting : Apart (R.HDMA_C_STAT_BUSY c) (R.HDMA_C_STAT_ABORTING c) := .of_bits (by decide) (by decide)
  refine State.is_of_get (n := 1) ?_
  rw [State.startStop_get, State.stopBits, State.get_set_apart _ _ draining, State.get_set_apart _ _ aborting,
    State.get_set_self _ _ (by decide : 0 + 1 ≤ 32)]
  rfl

theorem State.startStop_aborting : (s.startStop c abort).is (R.HDMA_C_STAT_ABORTING c) = abort := by
  have draining : Apart (R.HDMA_C_STAT_ABORTING c) (R.HDMA_C_STAT_DRAINING c) := .of_bits (by decide) (by decide)
  refine (State.is_of_get (n := if abort then 1 else 0) ?_).trans (by cases abort <;> rfl)
  rw [State.startStop_get, State.stopBits, State.get_set_apart _ _ draining, State.get_set_self _ _ (by decide : 2 + 1 ≤ 32)]
  cases abort <;> rfl

theorem State.startStop_draining : (s.startStop c abort).is (R.HDMA_C_STAT_DRAINING c) = !abort := by
  refine (State.is_of_get (n := if abort then 0 else 1) ?_).trans (by cases abort <;> rfl)
  rw [State.startStop_get, State.stopBits, State.get_set_self _ _ (by decide : 1 + 1 ≤ 32)]
  cases abort <;> rfl

theorem State.abortChan_busy (data : List Byte) (n : Nat) : (s.abortChan c data n).is (R.HDMA_C_STAT_BUSY c) = true := by
  unfold State.abortChan
  exact State.startStop_busy _ c true

theorem State.abortChan_aborting (data : List Byte) (n : Nat) : (s.abortChan c data n).is (R.HDMA_C_STAT_ABORTING c) = true := by
  unfold State.abortChan
  exact State.startStop_aborting _ c true
end

/-! ### The event timer (R370) -/

theorem State.msix_unmasked {s : State} {v : Nat} (h : s.hdma.msixMask.testBit v = false) :
    s.msix v = { s with hdma := { s.hdma with msixSent := s.hdma.msixSent ++ [v] } } := if_neg (by rw [h]; exact Bool.false_ne_true)

/-- The one vector that waits is raised when its first entry is old enough. -/
theorem doEqVectorTimer_due {s : State} {v k first : Nat} (u : Sub) (one : s.hdma.eqMod = [(v, k, first)]) (on : s.get R.HDMA_EQ_MOD_TICKS ≠ 0)
    (old : first + s.get R.HDMA_EQ_MOD_TICKS ≤ s.time.hTick) (unmasked : s.hdma.msixMask.testBit v = false) :
    doEqVectorTimer u s = { s.atH u with hdma := { s.hdma with eqMod := [], msixSent := s.hdma.msixSent ++ [v] } } := by
  have due : ((s.atH u).get R.HDMA_EQ_MOD_TICKS != 0 && decide (first + (s.atH u).get R.HDMA_EQ_MOD_TICKS ≤ (s.atH u).time.hTick)) = true := by
    rw [State.get_atH, Bool.and_eq_true, bne_iff_ne, decide_eq_true_iff]
    exact ⟨on, old⟩
  have waits : (s.atH u).hdma.eqMod = [(v, k, first)] := one
  simp only [doEqVectorTimer, waits, List.filter_cons, List.filter_nil, due]
  exact State.msix_unmasked (s := { s.atH u with hdma := { s.hdma with eqMod := [] } }) unmasked

/-! ### The statement -/

/-- Settles O4: each command reaches the state that its lemma describes; acquisition memory stays by `Keeps`. -/
theorem channelControl : Obligations.ChannelControl := by
  refine ⟨fun s u c idle on => ?_, fun s u c en idle => ?_, fun s u c data n en going => ?_, fun s u v k first one on old unmasked => ?_,
    fun s u on => ?_, fun s u c on => ?_⟩
  · have enabled : doHdmaChannelEnable u c s = ((s.atH u).set (R.HDMA_C_CTRL_EN c) 1).set (R.HDMA_C_STAT_ERR c) 0 :=
      if_neg (by rw [State.is_atH, idle, show (s.atH u).domOn (domH 4) = true from on]; exact Bool.false_ne_true)
    have arm : exec (.hdmaChannelEnable u c) s = done s (doHdmaChannelEnable u c s) := rfl
    rw [enabled] at arm
    have other : (R.HDMA_C_CTRL_EN c).addr ≠ (R.HDMA_C_STAT_ERR c).addr := by
      simp only [R.HDMA_C_CTRL_EN, R.HDMA_C_CTRL, R.HDMA_C_STAT_ERR, R.HDMA_C_STAT]
      omega
    have regs : OnRegs (fun a => a = R.HDMA_C_CTRL c ∨ a = R.HDMA_C_STAT c) (s.atH u)
        (((s.atH u).set (R.HDMA_C_CTRL_EN c) 1).set (R.HDMA_C_STAT_ERR c) 0) := (OnRegs.set _ _ _ (.inl rfl)).trans (.set _ _ _ (.inr rfl))
    refine answers_of_done arm regs.pending
      ⟨State.is_of_get (n := 1) ?_, State.is_of_get (State.get_set_self _ 0 (by decide : 3 + 1 ≤ 32)), regs.kept, regs.mem⟩
    rw [State.get_set_ne _ _ _ _ other]
    exact State.get_set_self _ 1 (by decide : 0 + 1 ≤ 32)
  · have stopped : doHdmaDrain u c s = (s.atH u).startStop c false := if_pos (by rw [State.is_atH, State.is_atH, en, idle]; rfl)
    have arm : exec (.hdmaDrain u c) s = done s (doHdmaDrain u c s) := rfl
    rw [stopped] at arm
    have bits := (s.atH u).stopBits_regs c false
    have host := (s.atH u).startStop_host c false
    exact answers_of_done arm (host.pending.trans bits.pending) ⟨State.startStop_busy .., State.startStop_draining .., State.startStop_aborting ..,
      fun a ha => (host.rd id).trans (bits.kept a ha), host.mem.trans bits.mem⟩
  · have stopped : doHdmaAbort u c data n s = (s.atH u).abortChan c data n := if_pos (by rw [State.is_atH, State.is_atH, en, going]; rfl)
    have arm : exec (.hdmaAbort u c data n) s = done s (doHdmaAbort u c data n s) := rfl
    rw [stopped] at arm
    have kept : Keeps True s ((s.atH u).abortChan c data n) := (Keeps.refl True s).atH.abortChan
    have busy := (s.atH u).abortChan_busy c data n
    have aborting := (s.atH u).abortChan_aborting c data n
    generalize (s.atH u).abortChan c data n = t at arm kept busy aborting
    exact ⟨_, arm, busy, aborting, kept.memory trivial⟩
  · have arm : exec (.eqVectorTimer u) s = done s (doEqVectorTimer u s) := rfl
    rw [doEqVectorTimer_due u one on old unmasked] at arm
    exact answers_of_done arm rfl ⟨rfl, rfl, rfl, rfl⟩
  · have cleared : doHdmaClrStats u s = (((s.atH u).putAll [R.HDMA_BAR2_ERR, R.HDMA_CPL_DROP, R.HDMA_BAR0_ERR, R.HDMA_EQ_LOST] 0).putAll
        ((List.range 16).flatMap (fun c => [R.HDMA_C_ERR_CNT c, R.HDMA_C_TAP_MISS c])) 0).set R.HDMA_LINK_RETRAINS 0 := if_pos on
    have arm : exec (.hdmaClrStats u) s = done s (doHdmaClrStats u s) := rfl
    have kept : Keeps True s (doHdmaClrStats u s) := (Keeps.refl True s).doHdmaClrStats
    have counter (a : Nat) (listed : a ∈ [R.HDMA_BAR2_ERR, R.HDMA_CPL_DROP, R.HDMA_BAR0_ERR, R.HDMA_EQ_LOST]) (other : a ≠ R.HDMA_LINK) :
        (doHdmaClrStats u s).val a = 0 := by
      rw [cleared, State.val_set_ne _ _ other]
      exact State.putAll_zero_val (.inr (State.putAll_zero_val (.inl listed)))
    have retrains : (doHdmaClrStats u s).get R.HDMA_LINK_RETRAINS = 0 := by
      rw [cleared]
      exact State.get_set_self _ 0 (by decide)
    generalize doHdmaClrStats u s = t at arm kept counter retrains
    exact ⟨_, arm, counter _ (by decide) (by decide), counter _ (by decide) (by decide), counter _ (by decide) (by decide),
      counter _ (by decide) (by decide), retrains, kept.memory trivial⟩
  · have cleared : doHdmaCClrStats u c s = (s.atH u).putAll [R.HDMA_C_ERR_CNT c, R.HDMA_C_TAP_MISS c] 0 := if_pos on
    have arm : exec (.hdmaCClrStats u c) s = done s (doHdmaCClrStats u c s) := rfl
    rw [cleared] at arm
    have regs : OnRegs (fun a => a = R.HDMA_C_ERR_CNT c ∨ a = R.HDMA_C_TAP_MISS c) (s.atH u)
        ((s.atH u).putAll [R.HDMA_C_ERR_CNT c, R.HDMA_C_TAP_MISS c] 0) := .putAll _ _ (fun a ha => by simpa using ha) _
    exact answers_of_done arm regs.pending ⟨State.putAll_zero_val (.inl (by simp)), State.putAll_zero_val (.inl (by simp)), regs.kept, regs.mem⟩

end Sys2Proof.Machine
end

section
/-! PROOFS. The fail unit (R124–R126, R131): completion, the region, dumps and forwarding (O7). -/

namespace Sys2Proof.Machine

/-! ### What the updates of registers and messages leave of the sequencer -/

theorem OnRegs.seq {w : Nat → Prop} {s t : State} (h : OnRegs w s t) : t.seq = s.seq := by
  obtain ⟨_, rfl, _⟩ := h
  rfl

theorem OnField.seq {w : Nat → Prop} {s t : State} (h : OnField w s t) : t.seq = s.seq := by
  obtain ⟨_, _, rfl, _⟩ := h
  rfl

theorem State.is_of_rd {s t : State} {f : Fld} (h : t.rd f.addr = s.rd f.addr) : t.is f = s.is f := by rw [State.is, State.is, State.get, State.get, h]

theorem State.val_of_rd {s t : State} {a : Nat} (h : t.rd a = s.rd a) : t.val a = s.val a := by rw [State.val, State.val, h]

/-- A one-bit field that is set reads 1, and one that is cleared reads 0. -/
theorem State.is_set_self (s : State) {a lo : Nat} (v : Bool) (h : lo + 1 ≤ 32) : (s.set ⟨a, lo, 1⟩ v.toNat).is ⟨a, lo, 1⟩ = v := by
  rw [State.is_of_get (s.get_set_self v.toNat h)]
  cases v <;> rfl

theorem State.is_set_one (s : State) {a lo : Nat} (h : lo + 1 ≤ 32) : (s.set ⟨a, lo, 1⟩ 1).is ⟨a, lo, 1⟩ = true := s.is_set_self true h

theorem State.is_set_zero (s : State) {a lo : Nat} (h : lo + 1 ≤ 32) : (s.set ⟨a, lo, 1⟩ 0).is ⟨a, lo, 1⟩ = false := s.is_set_self false h

theorem State.is_set_apart (s : State) {f g : Fld} (v : Nat) (h : Apart f g) : (s.set g v).is f = s.is f := State.is_congr _ (s.get_set_apart v h)

/-- An event bit that is raised reads 1. -/
theorem State.evt_is (s : State) {a lo : Nat} (blk code inst : Nat) (data : State → List Byte) (h : lo + 1 ≤ 32) :
    (s.evt ⟨a, lo, 1⟩ blk code inst data).is ⟨a, lo, 1⟩ = true := by
  rw [State.evt, State.is_of_rd ((State.fieldEvent_field _ _ _ _ _ _).rd id)]
  exact s.is_set_one h

/-! ### Completion of a record (R124, R125) -/

theorem State.failFull_field (s : State) : OnField (fun a => a = R.SEQ_FAIL_STAT ∨ a = R.SEQ_FAIL_EVT) s s.failFull := by
  unfold State.failFull
  split
  · exact .refl _ s
  · exact (OnField.set s R.SEQ_FAIL_STAT_FULL 1 (.inl rfl)).trans ((State.failEvt_field _ _ _).mono fun _ => .inr)

/-- The region's records and SEQ_FAIL_STORED after a record is stored; `failFull` may follow. -/
def State.failKept (s : State) (r : FailRec) (rs : List FailRec) : State :=
  (s.setFail { s.seq.fail with open_ := rs, stored := s.seq.fail.stored ++ [r], fwd := s.seq.fail.fwd ++ [r] }).put R.SEQ_FAIL_STORED
    (s.seq.fail.stored.length + 1)

theorem State.doFailComplete_room {s : State} {r : FailRec} {rs : List FailRec} (oldest : s.seq.fail.open_ = r :: rs)
    (room : s.seq.fail.stored.length < s.seq.fail.capacity) : s.doFailComplete = (s.failKept r rs).failFull := by
  simp only [State.doFailComplete, oldest]
  exact congrArg State.failFull (if_pos room)

/-! ### Clearing the region (R125) -/

/-- The region is empty and its counters are 0. -/
structure FailCleared (t : State) : Prop where
  stored : t.seq.fail.stored = []
  applied : t.seq.fail.clearReq = false
  count : t.val R.SEQ_FAIL_STORED = 0
  vectors : t.val R.SEQ_FAIL_VEC_LO = 0
  lost : t.val R.SEQ_FAIL_LOST_LO = 0
  full : t.is R.SEQ_FAIL_STAT_FULL = false

theorem State.failClear_cleared (s : State) : FailCleared s.failClear := by
  unfold State.failClear
  extract_lets s0 base size bad wasFail s1 s2
  have counter (a : Nat) (listed : a ∈ [R.SEQ_FAIL_STORED, R.SEQ_FAIL_VEC_LO, R.SEQ_FAIL_VEC_HI, R.SEQ_FAIL_LOST_LO, R.SEQ_FAIL_LOST_HI])
      (other : a ≠ R.SEQ_FAIL_STAT) : s2.val a = 0 := (State.val_set_ne (f := R.SEQ_FAIL_STAT_FULL) _ 0 other).trans (State.putAll_zero_val (.inl listed))
  have cleared : FailCleared s2 :=
    ⟨rfl, rfl, counter _ (by decide) (by decide), counter _ (by decide) (by decide), counter _ (by decide) (by decide), State.is_set_zero _ (by decide)⟩
  split
  · obtain ⟨stored, applied, count, vectors, lost, full⟩ := cleared
    have told := OnRegs.set (w := fun a => a = R.SEQ_FAIL_EVT) s2 R.SEQ_FAIL_EVT_CFG_ERR 1 rfl
    exact ⟨stored, applied, (told.val (by decide)).trans count, (told.val (by decide)).trans vectors, (told.val (by decide)).trans lost,
      (State.is_set_apart _ _ (.inl (by decide))).trans full⟩
  · exact cleared

theorem State.doFailClear_idle {s : State} (on : s.powered R.SEQ_FAIL_CTRL = true) (idle : s.is R.SEQ_STAT_BUSY = false) :
    s.doFailClear = s.failClear := by
  rw [State.doFailClear, State.ifOn_of_powered _ on, if_neg (idle ▸ Bool.false_ne_true)]

theorem State.doFailClear_busy {s : State} (on : s.powered R.SEQ_FAIL_CTRL = true) (busy : s.is R.SEQ_STAT_BUSY = true) :
    s.doFailClear = s.setFail { s.seq.fail with clearReq := true } := by
  rw [State.doFailClear, State.ifOn_of_powered _ on, if_pos busy]

/-! ### Dumps (R126) -/

theorem State.doFailDump_idle {s : State} (on : s.powered R.SEQ_FAIL_CTRL = true) (idle : s.is R.SEQ_FAIL_STAT_DUMP_BUSY = false) :
    s.doFailDump = (s.setFail { s.seq.fail with dump := s.seq.fail.stored }).set R.SEQ_FAIL_STAT_DUMP_BUSY 1 := by
  rw [State.doFailDump, State.ifOn_of_powered _ on, if_neg (idle ▸ Bool.false_ne_true)]

theorem State.doDumpDone_done {s : State} (busy : s.is R.SEQ_FAIL_STAT_DUMP_BUSY = true) (sent : s.seq.fail.dump = []) :
    s.doDumpDone = (s.set R.SEQ_FAIL_STAT_DUMP_BUSY 0).failEvt R.SEQ_FAIL_EVT_DUMP_DONE 0x0101 := if_pos ⟨busy, sent⟩

/-! ### Admission of a plan (R63–R65) -/

theorem State.submit_admitted {s t : State} (acts : List PlanAct) (h : t.planCheck s.mode = none) :
    s.submit t acts = (t.planAdmit acts s.mode, true) := by
  simp only [State.submit, h]

/-- The plan is admitted: RESULT and REASON say so, it takes the next number, and no other register changes but the count of bytes sent. -/
structure PlanAdmitted (s t : State) : Prop where
  result : t.get R.TIME_PLAN_STAT_RESULT = 1
  reason : t.get R.TIME_PLAN_STAT_REASON = 0
  number : t.plan.lastId = s.plan.lastId + 1
  kept : RegsKept s t (fun a => a = R.TIME_PLAN_STAT ∨ a = R.ISO_TX_BYTES_LO ∨ a = R.ISO_TX_BYTES_LO + 4)

/-- TIME_PLAN_STAT shows the admission, with any plans. -/
theorem State.planShown_admitted (s : State) (x : PlanSt) (h : x.lastId = s.plan.lastId + 1) :
    PlanAdmitted s ((({ s with plan := x }).set R.TIME_PLAN_STAT_RESULT 1).set R.TIME_PLAN_STAT_REASON 0) := by
  refine ⟨(State.get_set_apart _ _ (by decide)).trans (State.get_set_self _ _ (by decide)), State.get_set_self _ _ (by decide), h, ?_⟩
  exact fun a ha => (State.rd_set_ne _ R.TIME_PLAN_STAT_REASON 0 fun e => ha (.inl e)).trans
    (State.rd_set_ne _ R.TIME_PLAN_STAT_RESULT 1 fun e => ha (.inl e))

theorem PlanAdmitted.sendPlan {s t : State} (h : PlanAdmitted s t) (p : Plan) (tick : Nat) : PlanAdmitted s (t.sendPlan p tick) := by
  have kept := t.sendPlan_kept p tick
  obtain ⟨result, reason, number, others⟩ := h
  have same (f : Fld) (hf : f.addr = R.TIME_PLAN_STAT) : (t.sendPlan p tick).get f = t.get f := by
    rw [State.get, State.get, hf, kept R.TIME_PLAN_STAT (by decide)]
  refine ⟨(same _ rfl).trans result, (same _ rfl).trans reason, ?_, fun a ha => (kept a fun e => ha (.inr e)).trans (others a ha)⟩
  rw [← number]
  unfold State.sendPlan
  split <;> rfl

theorem State.planAdmit_admitted (s : State) (acts : List PlanAct) (mode : Nat) : PlanAdmitted s (s.planAdmit acts mode) := by
  unfold State.planAdmit
  extract_lets id b mk ps wasPlan s1 s2
  have shown : PlanAdmitted s s2 := State.planShown_admitted s _ rfl
  cases acts with
  | nil => exact shown
  | cons a acts => exact shown.sendPlan _ _

theorem State.doFwdMax_admitted {s : State} {n : Nat} (on : s.powered R.SEQ_FAIL_CTRL = true) (new : s.get R.SEQ_FAIL_CTRL_FWD_MAX ≠ n)
    (fits : (s.set R.SEQ_FAIL_CTRL_FWD_MAX n).planCheck s.mode = none) :
    s.doFwdMax n = (s.set R.SEQ_FAIL_CTRL_FWD_MAX n).planAdmit [.fwdMax] s.mode := by
  rw [State.doFwdMax, State.ifOn_of_powered _ on, if_neg new, State.submit_admitted _ fits]
  rfl

/-! ### The statement -/

/-- Settles O7: each command reaches the state that its lemma describes; acquisition memory stays by `Keeps`. -/
theorem failUnit : Obligations.FailUnit := by
  refine ⟨fun s u r rs oldest room few => ?_, fun s u on idle => ?_, fun s u on busy => ?_, fun s u due => ?_, fun s u on idle => ?_,
    fun s u busy sent => ?_, fun s u n on new fits => ?_, fun s on => ?_⟩
  · have arm : exec (.failRecordComplete u) s = done s (s.atF u).doFailComplete := rfl
    rw [State.doFailComplete_room (s := s.atF u) oldest room] at arm
    have full := ((s.atF u).failKept r rs).failFull_field
    have region : ((s.atF u).failKept r rs).failFull.seq.fail = _ := congrArg SeqSt.fail full.seq
    refine answers_of_done arm full.pending ⟨congrArg FailSt.stored region, congrArg FailSt.open_ region, ?_, full.mem⟩
    rw [State.val_of_rd (full.rd (by decide))]
    exact (State.val_put_self _ _).trans (Nat.mod_eq_of_lt (by show s.seq.fail.stored.length + 1 < 2 ^ 32; omega))
  · have arm : exec (.failClear u) s = done s (s.atF u).doFailClear := rfl
    rw [State.doFailClear_idle (s := s.atF u) on idle] at arm
    have kept : Keeps True s (s.atF u).failClear := (Keeps.refl True s).atF.failClear
    obtain ⟨stored, -, count, vectors, lost, full⟩ := (s.atF u).failClear_cleared
    generalize (s.atF u).failClear = t at arm kept stored count vectors lost full
    exact ⟨_, arm, stored, count, vectors, lost, full, kept.memory trivial⟩
  · have arm : exec (.failClear u) s = done s (s.atF u).doFailClear := rfl
    rw [State.doFailClear_busy (s := s.atF u) on busy] at arm
    exact answers_of_done arm rfl ⟨rfl, rfl, rfl⟩
  · have cleared : (s.atF u).doFailClearApply = (s.atF u).failClear := if_pos due
    have arm : exec (.failClearApply u) s = done s (s.atF u).doFailClearApply := rfl
    rw [cleared] at arm
    have kept : Keeps True s (s.atF u).failClear := (Keeps.refl True s).atF.failClear
    obtain ⟨stored, applied, count, -, -, -⟩ := (s.atF u).failClear_cleared
    generalize (s.atF u).failClear = t at arm kept stored applied count
    exact ⟨_, arm, stored, applied, count, kept.memory trivial⟩
  · have arm : exec (.failDump u) s = done s (s.atF u).doFailDump := rfl
    rw [State.doFailDump_idle (s := s.atF u) on idle] at arm
    have shown := OnRegs.set (w := fun a => a = R.SEQ_FAIL_STAT) ((s.atF u).setFail { s.seq.fail with dump := s.seq.fail.stored })
      R.SEQ_FAIL_STAT_DUMP_BUSY 1 rfl
    exact answers_of_done arm rfl ⟨rfl, State.is_set_one _ (by decide), shown.kept, rfl⟩
  · have ended : (s.atF u).dumpSend (s.atF u).seq.fail.dump.length = s.atF u := by
      rw [State.atF_seq, sent]
      rfl
    have arm : exec (.dumpDone u) s = done s ((s.atF u).dumpSend (s.atF u).seq.fail.dump.length).doDumpDone := rfl
    rw [ended, State.doDumpDone_done (s := s.atF u) busy sent] at arm
    have told := ((s.atF u).set R.SEQ_FAIL_STAT_DUMP_BUSY 0).failEvt_field R.SEQ_FAIL_EVT_DUMP_DONE 0x0101
    refine answers_of_done arm told.pending ⟨?_, State.evt_is _ _ _ _ _ (by decide), told.mem⟩
    exact (State.is_of_rd (told.rd (by decide))).trans (State.is_set_zero _ (by decide))
  · have arm : exec (.fwdMaxWrite u n) s = done s ((s.atF u).doFwdMax n) := rfl
    rw [State.doFwdMax_admitted (s := s.atF u) on new fits] at arm
    have kept : Keeps True s (((s.atF u).set R.SEQ_FAIL_CTRL_FWD_MAX n).planAdmit [.fwdMax] (s.atF u).mode) := (Keeps.refl True s).atF.set.planAdmit
    obtain ⟨result, reason, number, others⟩ := ((s.atF u).set R.SEQ_FAIL_CTRL_FWD_MAX n).planAdmit_admitted [.fwdMax] (s.atF u).mode
    have limit : ((s.atF u).set R.SEQ_FAIL_CTRL_FWD_MAX n).get R.SEQ_FAIL_CTRL_FWD_MAX = n :=
      (State.get_set_self _ _ (by decide)).trans (Nat.mod_eq_of_lt n.isLt)
    rw [State.get, ← others R.SEQ_FAIL_CTRL_FWD_MAX.addr (by decide)] at limit
    generalize ((s.atF u).set R.SEQ_FAIL_CTRL_FWD_MAX n).planAdmit [.fwdMax] (s.atF u).mode = t at arm kept result reason number limit
    exact ⟨_, arm, limit, result, reason, number, kept.memory trivial⟩
  · have cleared : s.doFailClrStats = s.put R.SEQ_FAIL_UNFWD 0 := State.ifOn_of_powered _ on
    have arm : exec .seqFailClrStats s = done s s.doFailClrStats := rfl
    rw [cleared] at arm
    exact answers_of_done arm rfl ⟨State.val_put_self _ _, (OnRegs.put (w := fun a => a = R.SEQ_FAIL_UNFWD) s 0 rfl).kept, rfl⟩

end Sys2Proof.Machine
end

section
/-! PROOFS. Registers of the pin channels that other blocks leave as they are, and EN of a channel without a de-skew value (R116): O59. -/

namespace Sys2Proof.Machine

/-! ### What leaves the registers of the pin block -/

/-- The address lies outside the pin block. -/
abbrev OffPins (a : Nat) : Prop := a < 0x1400000 ∨ 0x1500000 ≤ a

/-- The registers of the pin block read in `t` as in `s`. -/
def PinsKept (s t : State) : Prop := ∀ a, ¬ OffPins a → t.rd a = s.rd a

namespace PinsKept
variable {s t v : State}

theorem refl (s : State) : PinsKept s s := fun _ _ => rfl
theorem trans (h : PinsKept s t) (h' : PinsKept t v) : PinsKept s v := fun a ha => (h' a ha).trans (h a ha)
theorem ite {c : Prop} [Decidable c] (h : PinsKept s t) (h' : PinsKept s v) : PinsKept s (if c then t else v) := by
  split
  · exact h
  · exact h'
theorem foldl {α : Type} {f : State → α → State} (hf : ∀ t x, PinsKept t (f t x)) (l : List α) : ∀ s, PinsKept s (l.foldl f s) := by
  induction l with
  | nil => exact refl
  | cons x l ih => exact fun s => (hf s x).trans (ih _)
theorem of_regs {w : Nat → Prop} (h : OnRegs w s t) (hw : ∀ a, w a → OffPins a) : PinsKept s t := fun a ha => h.kept a fun x => ha (hw a x)
theorem of_field {w : Nat → Prop} (h : OnField w s t) (hw : ∀ a, w a → OffPins a) : PinsKept s t := fun _ ha => h.rd fun x => ha (hw _ x)
theorem of_reported (h : Reported s t) : PinsKept s t := by
  have low : ∀ a ∈ reportRegs, a < 0x1400000 := by decide
  exact fun _ ha => h.rd fun x => ha (.inl (low _ x))
theorem get (h : PinsKept s t) {f : Fld} (hf : ¬ OffPins f.addr) : t.get f = s.get f := by rw [State.get, State.get, h _ hf]
theorem set (h : PinsKept s t) {f : Fld} {x : Nat} (hf : OffPins f.addr) : PinsKept s (t.set f x) :=
  h.trans fun _ ha => t.rd_set_ne f x fun e => ha (e ▸ hf)
theorem put (h : PinsKept s t) {a x : Nat} (ha : OffPins a) : PinsKept s (t.put a x) := h.trans fun _ hb => t.rd_put_ne x fun e => hb (e ▸ ha)
end PinsKept

/-! ### The registers of a channel -/

section
variable (p : Port)

theorem pinCtrl_not_off : ¬ OffPins (R.PIN_CTRL p) := by
  have := p.isLt
  simp only [OffPins, R.PIN_CTRL]
  omega

theorem pinStat_not_off : ¬ OffPins (R.PIN_STAT p) := by
  have := p.isLt
  simp only [OffPins, R.PIN_STAT]
  omega

theorem isFieldAddr_of_pins {a : Nat} (h : ¬ OffPins a) : isFieldAddr a = true := by
  have mapped : domainOf a ≠ none := by
    rw [ne_eq, domainOf_eq_none_iff]
    omega
  have range : 0x1000000 ≤ a ∧ a ≤ 0x1FFFFFF := by omega
  simp [isFieldAddr, range, Option.isSome_iff_ne_none.mpr mapped]

theorem blockCode_of_pins {a : Nat} (h : ¬ OffPins a) : blockCode a = 0x13 := by
  unfold blockCode
  iterate 13 rw [if_neg (by omega)]
  exact if_pos (by omega)

/-- The channel that an address of its registers names. -/
theorem finOf_pinCtrl : finOf 256 ((R.PIN_CTRL p - 0x1400000) / 0x1000) = p := by
  have := p.isLt
  refine Fin.ext ?_
  simp only [finOf, R.PIN_CTRL, Fin.ofNat]
  omega
end

/-! ### A channel with a role and no de-skew value -/

/-- The port has a role and no de-skew value, and its channel is off. -/
structure Unmeasured (p : Nat) (s : State) : Prop where
  role : s.role p ≠ roleNone
  valid : s.is (R.PIN_STAT_DESKEW_VALID p) = false
  off : s.is (R.PIN_CTRL_EN p) = false

theorem Unmeasured.of_rd {p : Nat} {s t : State} (h : Unmeasured p s) (stat : t.rd (R.PIN_STAT p) = s.rd (R.PIN_STAT p))
    (ctrl : t.rd (R.PIN_CTRL p) = s.rd (R.PIN_CTRL p)) : Unmeasured p t := by
  obtain ⟨role, valid, off⟩ := h
  refine ⟨?_, (State.is_of_rd stat).trans valid, (State.is_of_rd ctrl).trans off⟩
  rwa [State.role, State.get, show t.rd (R.PIN_STAT_ROLE p).addr = s.rd (R.PIN_STAT_ROLE p).addr from stat]

theorem Unmeasured.of_pinsKept {p : Port} {s t : State} (h : Unmeasured p s) (kept : PinsKept s t) : Unmeasured p t :=
  h.of_rd (kept _ (pinStat_not_off p)) (kept _ (pinCtrl_not_off p))

theorem State.ifOn_eq_self {s : State} {a : Nat} {f : State → State} (h : f s = s) : s.ifOn a f = s := by
  rw [State.ifOn, h, ite_self]

/-- PIN_ENABLE finds nothing to do (R116). -/
theorem State.doPinEnable_unmeasured {p : Nat} {s : State} (h : Unmeasured p s) : s.doPinEnable p = s := by
  have refused : s.role p ≠ roleNone ∧ (!s.is (R.PIN_STAT_DESKEW_VALID p)) = true := ⟨h.role, by rw [h.valid]; rfl⟩
  refine State.ifOn_eq_self ?_
  rw [if_pos refused, ite_self]

/-- PIN_DISABLE of a channel that is off changes nothing (R128). -/
theorem State.doPinDisable_off {p : Nat} {s : State} (h : s.is (R.PIN_CTRL_EN p) = false) : s.doPinDisable p = s :=
  State.ifOn_eq_self (if_neg (h ▸ Bool.false_ne_true))

/-- CLR_STATS of a channel writes its counters and results alone (R130). -/
theorem State.doPinClrStats_regs (s : State) (p : Nat) :
    OnRegs (fun a => R.PIN_FAIL_CNT_LO p ≤ a ∧ a ≤ R.PIN_EDGE_LOST p) s (s.doPinClrStats p) := by
  refine .ite ((OnRegs.putAll _ 0 (fun a ha => ?_) s).trans (.set _ (R.PIN_FIRST_FAIL_GEN_VALID p) 0 ?_)) (.refl _ s)
  · simp only [List.mem_cons, List.not_mem_nil, or_false, R.PIN_FAIL_CNT_LO, R.PIN_FAIL_CNT_HI, R.PIN_SUPPR_CNT, R.PIN_EDGE_SKIP, R.PIN_EDGE_LOST] at *
    omega
  · simp only [R.PIN_FIRST_FAIL_GEN_VALID, R.PIN_FIRST_FAIL_GEN, R.PIN_FAIL_CNT_LO, R.PIN_EDGE_LOST]
    omega

/-! ### A write of PIN_CTRL (R116, R130) -/

/-- A bit that reads 0 and is written with 0 stays 0. -/
theorem plainWord_zero (r : RegRow) {old v : Word} (h : old.getLsbD 0 = false) (hv : v.getLsbD 0 = false) : (plainWord r old v).getLsbD 0 = false := by
  simp only [plainWord, BitVec.getLsbD_and, BitVec.getLsbD_or, h, hv, Bool.false_and, Bool.or_self]

/-- A bit that a plain write leaves as it is stays 0. -/
theorem State.plainBut_zero {s : State} {a : Nat} (v : Word) (h : (s.rd a).getLsbD 0 = false) : ((s.plainBut a 1#32 v).rd a).getLsbD 0 = false := by
  unfold State.plainBut State.plainWrite
  split
  · rw [State.rd_wr_self]
    refine plainWord_zero _ h ?_
    simp only [BitVec.getLsbD_and, BitVec.getLsbD_or, BitVec.getLsbD_not, h, Bool.false_and, Bool.or_false]
    simp
  · exact h

theorem State.plainBut_regs (s : State) (a : Nat) (keep v : Word) : OnRegs (fun b => b = a) s (s.plainBut a keep v) := by
  unfold State.plainBut State.plainWrite
  split
  · exact .wr s _ rfl
  · exact .refl _ s

theorem State.is_lowest (s : State) (a : Nat) : s.is ⟨a, 0, 1⟩ = (s.rd a).getLsbD 0 := by
  have bit := fieldOf_testBit (s.rd a) 0 1 0
  have small := fieldOf_lt (s.rd a) 0 1
  rw [Nat.testBit_zero] at bit
  simp only [Nat.zero_lt_one, decide_true, Bool.true_and, Nat.add_zero] at bit
  rw [Nat.mod_eq_of_lt (show fieldOf (s.rd a) 0 1 < 2 from small)] at bit
  exact bit

theorem State.after_done {s t : State} {c : State → Host.Outcome State Fault Refusal} (h : c s = done s t) :
    s.after c = { t with pending := s.pending } := by
  rw [State.after, h]
  rfl

section
variable {p : Port} {s : State} (h : Unmeasured p s)
include h

theorem Unmeasured.plainBut (v : Word) : Unmeasured p (s.plainBut (R.PIN_CTRL p) 1#32 v) := by
  have stat := (s.plainBut_regs (R.PIN_CTRL p) 1#32 v).kept (R.PIN_STAT p) (by simp only [R.PIN_CTRL, R.PIN_STAT]; omega)
  obtain ⟨role, valid, off⟩ := h
  refine ⟨?_, (State.is_of_rd stat).trans valid, ?_⟩
  · rwa [State.role, State.get, show (s.plainBut (R.PIN_CTRL p) 1#32 v).rd (R.PIN_STAT_ROLE p).addr = s.rd (R.PIN_STAT_ROLE p).addr from stat]
  · exact (State.is_lowest _ _).trans (State.plainBut_zero v ((s.is_lowest _).symm.trans off))

theorem Unmeasured.clrStats : Unmeasured p (s.after (execPinClrStats p)) := by
  rw [State.after_done (s := s) (t := s.doPinClrStats p) (c := execPinClrStats p) rfl]
  have counters := s.doPinClrStats_regs p
  exact h.of_rd (counters.kept _ (by simp only [R.PIN_STAT, R.PIN_FAIL_CNT_LO]; omega))
    (counters.kept _ (by simp only [R.PIN_CTRL, R.PIN_FAIL_CNT_LO]; omega))

theorem Unmeasured.enable (u : Sub) : Unmeasured p (s.after (execPinEnable u p)) := by
  have late : Unmeasured p (s.atF u) := h.of_rd rfl rfl
  have same : execPinEnable u p s = done s (s.atF u) := congrArg (done s) (State.doPinEnable_unmeasured late)
  rw [State.after_done same]
  exact h.of_rd rfl rfl

theorem Unmeasured.disable (u : Sub) : Unmeasured p (s.after (execPinDisable u p)) := by
  have late : Unmeasured p (s.atF u) := h.of_rd rfl rfl
  have same : execPinDisable u p s = done s (s.atF u) := congrArg (done s) (State.doPinDisable_off late.off)
  rw [State.after_done same]
  exact h.of_rd rfl rfl
end

/-- DESKEW leaves PIN_CTRL. -/
theorem State.doDeskew_ctrl (s : State) (p : Nat) : (s.doDeskew p).rd (R.PIN_CTRL p) = s.rd (R.PIN_CTRL p) := by
  have event : R.PIN_CTRL p ≠ R.PIN_EVT p := by simp only [R.PIN_CTRL, R.PIN_EVT]; omega
  have stat : R.PIN_CTRL p ≠ R.PIN_STAT p := by simp only [R.PIN_CTRL, R.PIN_STAT]; omega
  unfold State.doDeskew State.ifOn
  split
  · dsimp only
    split
    · exact (s.pinEvt_field p (R.PIN_EVT_DESKEW_FAIL p) 0x0002).rd event
    · exact s.rd_set_ne (R.PIN_STAT_DESKEW_BUSY p) 1 stat
  · rfl

theorem State.writePin_ctrl_off {p : Port} {s : State} (u : Sub) (v : Word) (h : Unmeasured p s) :
    (s.writePin u (R.PIN_CTRL p) v).is (R.PIN_CTRL_EN p) = false := by
  unfold State.writePin
  rw [finOf_pinCtrl]
  extract_lets p' s1 s2
  rw [if_pos rfl]
  have plain : Unmeasured p (s.plainBut (R.PIN_CTRL p) 1#32 v) := h.plainBut v
  have h1 : Unmeasured p s1 := by
    unfold s1 State.sc
    split
    · exact plain.clrStats
    · exact plain
  have h2 : Unmeasured p s2 := by
    unfold s2
    split
    · exact h1.enable u
    · exact h1.disable u
  unfold State.sc
  split
  · rw [State.after_done (s := s2) (t := (s2.atF u).doDeskew p) (c := execDeskew u p) rfl]
    exact (State.is_of_rd (State.doDeskew_ctrl (s2.atF u) p)).trans h2.off
  · exact h2.off

theorem State.plEntry_pinsKept (s : State) (a : Nat) (v : Word) : PinsKept s (s.plEntry a v) :=
  .ite (.of_reported (.of_append (s.ledgerF_host _ _ _ _))) (.of_reported (.of_append (s.ledgerH_host _ _ _ _)))

theorem State.sealedReject_pinsKept (s : State) : PinsKept s s.sealedReject := by
  have off : ∀ a, a = R.SYS_SEALED_REJ ∨ a = R.SYS_EVT → OffPins a := by
    rintro a (rfl | rfl) <;> decide
  exact .of_field (w := fun a => a = R.SYS_SEALED_REJ ∨ a = R.SYS_EVT) (s.satCount_field _ _ _ _) off

theorem State.writeReg_ctrl_off {p : Port} {s : State} (u : Sub) (r : Requester) (v : Word) (h : Unmeasured p s) :
    (s.writeReg u r (R.PIN_CTRL p) v).1.is (R.PIN_CTRL_EN p) = false := by
  have block := blockCode_of_pins (pinCtrl_not_off p)
  unfold State.writeReg
  extract_lets field s0 bad s1
  have inField : field = true := isFieldAddr_of_pins (pinCtrl_not_off p)
  have arrived : s0 = s.atF u := (if_pos inField).trans (if_neg (by rw [block]; decide))
  have late : Unmeasured p s0 := arrived ▸ h.of_rd rfl rfl
  have told : Unmeasured p s1 := late.of_pinsKept (.ite (s0.plEntry_pinsKept _ _) (.refl s0))
  split
  · exact late.off
  · split
    · exact late.off
    · show (s1.writeField u (R.PIN_CTRL p) v).is (R.PIN_CTRL_EN p) = false
      rw [State.writeField, block]
      exact State.writePin_ctrl_off u v told

/-! ### The statement -/

/-- Settles O59: PIN_ENABLE finds no de-skew value, and a write of PIN_CTRL reaches EN as PIN_ENABLE or PIN_DISABLE. -/
theorem noDeskewNoEnable : Obligations.NoDeskewNoEnable := by
  intro s u p role valid off
  have named : s.role p ≠ roleNone := by
    rcases role with e | e | e <;> (rw [e]; decide)
  have unset : Unmeasured p s := ⟨named, valid, off⟩
  refine ⟨?_, fun r v => ?_⟩
  · have arm : exec (.pinEnable u p) s = done s ((s.atF u).doPinEnable p) := rfl
    rw [arm, State.doPinEnable_unmeasured (s := s.atF u) (unset.of_rd rfl rfl)]
    exact done_of_pending rfl
  · have arm : exec (.registerWrite u r (R.PIN_CTRL p) v) s = execRegisterWrite u r (R.PIN_CTRL p) v s := rfl
    rw [execRegisterWrite, if_pos (isFieldAddr_of_pins (pinCtrl_not_off p))] at arm
    refine ⟨_, arm, ?_⟩
    dsimp only
    split
    · have early : Unmeasured p (s.atH u) := unset.of_rd rfl rfl
      exact (early.of_pinsKept (State.sealedReject_pinsKept _)).off
    · split
      · exact State.writeReg_ctrl_off u r v unset
      · exact off

end Sys2Proof.Machine
end

section
/-! PROOFS. Levels, de-skew, enabling and disabling of a pin channel, its counters and its transitions (R112, R114–R116, R128, R130): O6. -/

namespace Sys2Proof.Machine

/-! ### What the compare pairs and the trigger sources leave of the pin block -/

theorem OffPins.of_base {b n : Nat} (h : 0x1500000 ≤ b := by decide) : OffPins (b + n) := .inr (Nat.le_add_right_of_le h)

section
variable {s t : State}

theorem PinsKept.setPair (h : PinsKept s t) (k : Nat) (x : PairSt) : PinsKept s (t.setPair k x) := h

theorem PinsKept.pairItem (h : PinsKept s t) (k : Nat) (isRef : Bool) (i : CItem) : PinsKept s (t.pairItem k isRef i) :=
  .ite ((h.setPair k _).set (f := R.CMP_P_STAT_ABSENT k) .of_base) h

theorem PinsKept.sideAbsent (h : PinsKept s t) (k : Nat) (isRef : Bool) (at_ : Int) : PinsKept s (t.sideAbsent k isRef at_) :=
  .ite h ((h.setPair k _).set (f := R.CMP_P_STAT_ABSENT k) .of_base)

theorem PinsKept.closeSpan (h : PinsKept s t) (k : Nat) (isRef : Bool) (a at_ : Int) : PinsKept s (t.closeSpan k isRef a at_) :=
  .ite ((h.setPair k _).set (f := R.CMP_P_STAT_ABSENT k) .of_base) h

theorem PinsKept.sideKnown (h : PinsKept s t) (k : Nat) (isRef : Bool) (at_ : Int) : PinsKept s (t.sideKnown k isRef at_) := .ite (h.setPair k _) h

theorem PinsKept.fieldEvent (h : PinsKept s t) (blk code inst t64 : Nat) (data : List Byte) : PinsKept s (t.fieldEvent blk code inst t64 data) :=
  h.trans (.of_field (t.fieldEvent_field _ _ _ _ _) fun _ => False.elim)

theorem PinsKept.cmpCount (h : PinsKept s t) (k : Nat) {a : Nat} (n : Nat) (ha : OffPins a) : PinsKept s (t.cmpCount k a n) := by
  have off : ∀ b, b = a ∨ b = R.CMP_EVT_SATURATED.addr → OffPins b := by
    rintro b (rfl | rfl)
    · exact ha
    · decide
  have counted : PinsKept s (t.satCount a 32 n R.CMP_EVT_SATURATED).1 := h.trans (.of_field (t.satCount_field _ _ _ _) off)
  exact .ite (counted.fieldEvent _ _ _ _ _) counted

theorem PinsKept.cmpSend (h : PinsKept s t) (k : Nat) (r : CRec) : PinsKept s (t.cmpSend k r) :=
  ((h.trans (.of_field (t.sendFH_field _ _ _ _ _ _) fun _ => False.elim)).setPair k _).put (a := R.CMP_P_SEQ k) .of_base

theorem PinsKept.cmpSuppress (h : PinsKept s t) (k : Nat) : PinsKept s (t.cmpSuppress k) :=
  ((((h.setPair k _).put (a := R.CMP_P_SEQ k) .of_base).cmpCount k (a := R.CMP_P_SUPPR k) 1 .of_base).cmpCount k 1 (by decide)).set
    (f := R.CMP_EVT_SUPPR) (by decide)

theorem PinsKept.cmpRecord (h : PinsKept s t) (k : Nat) (r : CRec) : PinsKept s (t.cmpRecord k r) := by
  unfold State.cmpRecord
  extract_lets s1 s2 s3 s4
  have h1 : PinsKept s s1 := ((h.cmpCount k (a := R.CMP_P_DISC k) 1 .of_base).put (a := R.CMP_DISC_LO) (by decide)).put (by decide)
  have last : ∀ b, b = R.CMP_P_LAST_LO k ∨ b = R.CMP_P_LAST_LO k + 4 ∨ b = R.CMP_P_LAST_GEN k → OffPins b := by
    intro b hb
    simp only [R.CMP_P_LAST_LO, R.CMP_P_LAST_GEN] at hb
    omega
  have h2 : PinsKept s s2 := (h1.trans (.of_field (s1.replaceResult_field _ _ _ _) last)).set (f := R.CMP_EVT_DISC) (by decide)
  have h3 : PinsKept s s3 := .ite (h2.trans (.of_reported (s2.fieldFault_reported _ _ (by decide)))) h2
  exact .ite (.ite (h3.cmpSend k r) (h3.cmpSuppress k)) (h.cmpSend k r)

theorem PinsKept.sideBack (h : PinsKept s t) (k : Nat) (isRef : Bool) (at_ : Int) : PinsKept s (t.sideBack k isRef at_) := by
  unfold State.sideBack
  extract_lets x
  split
  · exact h
  · exact .ite h ((((h.closeSpan k isRef _ at_).sideKnown k isRef at_).cmpCount k (a := R.CMP_P_GAP_TICKS k) _ .of_base).cmpRecord k _)
end

section
variable (s : State) (p : Nat)

/-- Pairs that find a port absent or back write nothing of the pin block (R269). -/
theorem State.pinPairCheck_pinsKept : PinsKept s (s.pinPairCheck p) := by
  unfold State.pinPairCheck
  refine PinsKept.foldl (fun t k => ?_) _ s
  extract_lets side
  have told {v : State} (h : PinsKept t v) (isRef : Bool) : PinsKept t (side v isRef) := .ite (h.sideBack k isRef _) (h.sideAbsent k isRef _)
  have first := PinsKept.ite (c := t.get (R.CMP_P_REF_TYPE k) = 1 ∧ t.get (R.CMP_P_REF_INSTANCE k) = p) (told (.refl t) true) (.refl t)
  exact .ite (.ite (told first false) first) (.refl t)

/-- A transition that reaches the pairs writes nothing of the pin block (R267). -/
theorem State.pinPairs_pinsKept (st at_ : Nat) : PinsKept s (s.pinPairs p st at_) := by
  unfold State.pinPairs
  refine PinsKept.foldl (fun t k => ?_) _ s
  extract_lets i t1
  have first : PinsKept t t1 := .ite ((PinsKept.refl t).pairItem k true i) (.refl t)
  exact .ite (.ite (first.pairItem k false i) first) (.refl t)

theorem State.setComb_pinsKept (c : Nat) (x : CombSt) : PinsKept s (s.setComb c x) := .refl s

theorem State.sourceEvent_pinsKept (code stamp : Nat) : PinsKept s (s.sourceEvent code stamp) :=
  PinsKept.foldl (fun t c => .ite (.ite (.refl t) (t.setComb_pinsKept c _)) (.refl t)) _ s

/-- The trigger sources of a transition write no register (R237). -/
theorem State.pinTransitionSources_pinsKept (st at_ : Nat) : PinsKept s (s.pinTransitionSources p st at_) := by
  unfold State.pinTransitionSources
  refine PinsKept.foldl (fun t k => ?_) _ s
  extract_lets e hit lv t1
  have level : PinsKept t t1 := .ite (fun _ _ => rfl) (.refl t)
  exact .ite (.ite (level.trans (State.sourceEvent_pinsKept _ _ _)) level) (.refl t)
end

/-- Registers of one channel at different offsets. -/
theorem pinReg_ne {p a b : Nat} (h : a ≠ b := by decide) : a + 0x1000 * p ≠ b + 0x1000 * p := by omega

/-! ### The runtime of a channel -/

@[simp] theorem State.pinRt_setPinRt (s : State) (p : Nat) (r : PinRt) : (s.setPinRt p r).pinRt p = r := by
  simp [State.pinRt, State.setPinRt]

theorem State.rd_setPinRt (s : State) (p a : Nat) (r : PinRt) : (s.setPinRt p r).rd a = s.rd a := rfl

theorem State.is_setPinRt (s : State) (p : Nat) (r : PinRt) (f : Fld) : (s.setPinRt p r).is f = s.is f := rfl

/-- The instant of a command is not before the last one. -/
theorem State.fU_le_atF (s : State) (u : Sub) : s.fU ≤ (s.atF u).fU := Nat.add_le_add_left (Nat.le_max_left _ _) _

/-! ### Registers of one channel -/

/-- Levels, events and limits of a channel: what the clamps of a level may write (R111). -/
abbrev LevelRegs (p a : Nat) : Prop := R.PIN_STAT p < a ∧ a < R.PIN_LIMIT_HI p

theorem State.storeLevel_field (s : State) (p : Nat) (w : LevelReg) (v : Int) : OnField (LevelRegs p) s (s.storeLevel p w v) := by
  have level : LevelRegs p (levelAddr p w) := by
    cases w <;> simp only [LevelRegs, levelAddr, R.PIN_STAT, R.PIN_LIMIT_HI, R.PIN_DRV_HI, R.PIN_DRV_LO, R.PIN_CMP_HI, R.PIN_CMP_LO, R.PIN_TERM] <;> omega
  have event : ∀ a, a = R.PIN_EVT p → LevelRegs p a := by
    rintro a rfl
    simp only [LevelRegs, R.PIN_STAT, R.PIN_LIMIT_HI, R.PIN_EVT]
    omega
  unfold State.storeLevel
  extract_lets c applied s1
  have stored : OnField (LevelRegs p) s s1 := .put s _ level
  split
  · exact stored.trans ((s1.pinEvt_field p (R.PIN_EVT_LEVEL_CLAMP p) 0x0003).mono event)
  · exact stored

/-- PIN_STAT shows a role and its comparator. -/
def State.roleShown (s : State) (p r : Nat) : State :=
  (s.set (R.PIN_STAT_ROLE p) r).set (R.PIN_STAT_CMP_LIVE p)
    (if roleCompares r then (if s.get (R.PIN_STAT_CMP_LIVE p) = 3 then 0 else s.get (R.PIN_STAT_CMP_LIVE p)) else 3)

theorem OnField.foldl {α : Type} {w : Nat → Prop} {f : State → α → State} (hf : ∀ t x, OnField w t (f t x)) (l : List α) :
    ∀ s, OnField w s (l.foldl f s) := by
  induction l with
  | nil => exact .refl w
  | cons x l ih => exact fun s => (hf s x).trans (ih _)

theorem OnField.get {w : Nat → Prop} {s t : State} (h : OnField w s t) {f : Fld} (hf : ¬ w f.addr) : t.get f = s.get f := by
  rw [State.get, State.get, h.rd hf]

/-- A new role is shown, and the levels are clamped for it (R111): no other field of the channel changes. -/
theorem State.setRole_get (s : State) (p : Nat) {r : Nat} (named : r ≠ 0) {f : Fld} (level : ¬ LevelRegs p f.addr) (role : Apart f (R.PIN_STAT_ROLE p))
    (live : Apart f (R.PIN_STAT_CMP_LIVE p)) : (s.setRole p r).get f = s.get f := by
  have prot : LevelRegs p (R.PIN_PROT p) := by
    simp only [LevelRegs, R.PIN_STAT, R.PIN_LIMIT_HI, R.PIN_PROT]
    omega
  unfold State.setRole
  extract_lets s1 s2 lv s3
  split
  · rfl
  · have clamped : OnField (LevelRegs p) s2 s3 := .foldl (fun t w => t.storeLevel_field p w _) lv s2
    rw [(clamped.trans (.put s3 _ prot)).get level]
    exact (State.get_set_apart _ _ live).trans (State.get_set_apart _ _ role)

/-! ### The end of a measurement (R114, R115) -/

/-- A register as one field. -/
theorem State.get_word (s : State) (a : Nat) : s.get ⟨a, 0, 32⟩ = s.val a := by
  have full : s.rd a &&& maskW 32 = s.rd a := BitVec.and_allOnes
  rw [State.get, fieldOf, BitVec.ushiftRight_zero, full]
  rfl

/-- The results of a measurement stand in the registers of the channel. -/
structure Measured (p cmp drv rt : Nat) (t : State) : Prop where
  cmp : t.get (R.PIN_DESKEW_CMP p) = cmp
  drv : t.get (R.PIN_DESKEW_DRV p) = drv
  rt : t.get ⟨R.PIN_DESKEW_RT p, 0, 32⟩ = rt
  valid : t.get (R.PIN_STAT_DESKEW_VALID p) = 1
  busy : t.get (R.PIN_STAT_DESKEW_BUSY p) = 0

theorem Measured.of_pinsKept {p : Port} {cmp drv rt : Nat} {s t : State} (h : Measured p cmp drv rt s) (kept : PinsKept s t) : Measured p cmp drv rt t := by
  have := p.isLt
  obtain ⟨hcmp, hdrv, hrt, hvalid, hbusy⟩ := h
  have deskew : ¬ OffPins (R.PIN_DESKEW p) := by simp only [OffPins, R.PIN_DESKEW]; omega
  have trip : ¬ OffPins (R.PIN_DESKEW_RT p) := by simp only [OffPins, R.PIN_DESKEW_RT]; omega
  exact ⟨(kept.get deskew).trans hcmp, (kept.get deskew).trans hdrv, (kept.get trip).trans hrt, (kept.get (pinStat_not_off p)).trans hvalid,
    (kept.get (pinStat_not_off p)).trans hbusy⟩

theorem Measured.setRole {p cmp drv rt r : Nat} {s : State} (h : Measured p cmp drv rt s) (named : r ≠ 0) : Measured p cmp drv rt (s.setRole p r) := by
  obtain ⟨hcmp, hdrv, hrt, hvalid, hbusy⟩ := h
  have off {a : Nat} (ha : R.PIN_LIMIT_HI p ≤ a) : ¬ LevelRegs p a ∧ a ≠ R.PIN_STAT p := by
    simp only [LevelRegs, R.PIN_STAT, R.PIN_LIMIT_HI] at *
    omega
  have result {f : Fld} (ha : R.PIN_LIMIT_HI p ≤ f.addr) : (s.setRole p r).get f = s.get f :=
    s.setRole_get p named (off ha).1 (.inl (off ha).2) (.inl (off ha).2)
  have deskew : R.PIN_LIMIT_HI p ≤ R.PIN_DESKEW p := by simp only [R.PIN_LIMIT_HI, R.PIN_DESKEW]; omega
  have trip : R.PIN_LIMIT_HI p ≤ R.PIN_DESKEW_RT p := by simp only [R.PIN_LIMIT_HI, R.PIN_DESKEW_RT]; omega
  have stat : ¬ LevelRegs p (R.PIN_STAT p) := fun x => absurd x.1 (Nat.lt_irrefl _)
  refine ⟨(result deskew).trans hcmp, (result deskew).trans hdrv, (result trip).trans hrt, ?_, ?_⟩
  · exact (s.setRole_get p named stat (.of_bits (by decide) (by decide)) (.of_bits (by decide) (by decide))).trans hvalid
  · exact (s.setRole_get p named stat (.of_bits (by decide) (by decide)) (.of_bits (by decide) (by decide))).trans hbusy

/-- The registers of a measurement that succeeds. -/
def State.deskewShown (s : State) (p cmp drv : Nat) : State :=
  (((s.set (R.PIN_DESKEW_CMP p) cmp).set (R.PIN_DESKEW_DRV p) drv).set (R.PIN_STAT_DESKEW_VALID p) 1).set (R.PIN_EVT_DESKEW_DONE p) 1

section
variable (s : State) (p cmp drv : Nat)

theorem State.deskewShown_regs : OnRegs (fun a => a = R.PIN_DESKEW p ∨ a = R.PIN_STAT p ∨ a = R.PIN_EVT p) s (s.deskewShown p cmp drv) :=
  (((OnRegs.set (w := fun a => a = R.PIN_DESKEW p ∨ a = R.PIN_STAT p ∨ a = R.PIN_EVT p) s (R.PIN_DESKEW_CMP p) _ (.inl rfl)).trans
    (.set _ (R.PIN_DESKEW_DRV p) _ (.inl rfl))).trans (.set _ (R.PIN_STAT_DESKEW_VALID p) _ (.inr (.inl rfl)))).trans
    (.set _ (R.PIN_EVT_DESKEW_DONE p) _ (.inr (.inr rfl)))

variable {s p cmp drv} in
theorem State.deskewShown_measured {rt : Nat} (hcmp : cmp < 2 ^ 16) (hdrv : drv < 2 ^ 16) (hrt : s.val (R.PIN_DESKEW_RT p) = rt)
    (hbusy : s.get (R.PIN_STAT_DESKEW_BUSY p) = 0) : Measured p cmp drv rt (s.deskewShown p cmp drv) := by
  have lows : Apart (R.PIN_DESKEW_CMP p) (R.PIN_DESKEW_DRV p) := .of_bits (by decide) (by decide)
  have bits : Apart (R.PIN_STAT_DESKEW_BUSY p) (R.PIN_STAT_DESKEW_VALID p) := .of_bits (by decide) (by decide)
  refine ⟨?_, ?_, ?_, ?_, ?_⟩
  · rw [State.deskewShown, State.get_set_ne _ _ _ _ pinReg_ne, State.get_set_ne _ _ _ _ pinReg_ne, State.get_set_apart _ _ lows]
    exact (State.get_set_self _ _ (by decide : 16 + 16 ≤ 32)).trans (Nat.mod_eq_of_lt hcmp)
  · rw [State.deskewShown, State.get_set_ne _ _ _ _ pinReg_ne, State.get_set_ne _ _ _ _ pinReg_ne]
    exact (State.get_set_self _ _ (by decide : 0 + 16 ≤ 32)).trans (Nat.mod_eq_of_lt hdrv)
  · have trip : ¬ (R.PIN_DESKEW_RT p = R.PIN_DESKEW p ∨ R.PIN_DESKEW_RT p = R.PIN_STAT p ∨ R.PIN_DESKEW_RT p = R.PIN_EVT p) :=
      not_or.mpr ⟨pinReg_ne, not_or.mpr ⟨pinReg_ne, pinReg_ne⟩⟩
    rw [State.get_word, (s.deskewShown_regs p cmp drv).val trip, hrt]
  · rw [State.deskewShown, State.get_set_ne _ _ _ _ pinReg_ne]
    exact State.get_set_self _ _ (by decide : 7 + 1 ≤ 32)
  · rw [State.deskewShown, State.get_set_ne _ _ _ _ pinReg_ne, State.get_set_apart _ _ bits, State.get_set_ne _ _ _ _ pinReg_ne,
      State.get_set_ne _ _ _ _ pinReg_ne, hbusy]
end

/-- The role of a port of a slot that holds an attached pod of type 2 (R92). -/
theorem State.podRole_remote {s : State} {p : Nat} (here : s.podHere (p / 16) = true) (type : s.get (R.POD_S_STAT_TYPE (p / 16)) = 2) :
    s.podRole p = roleRemote := by
  rw [State.podRole, here, if_neg (by decide), if_pos type]
  rfl

theorem State.podHere_congr {s t : State} {q : Nat} (h : t.rd (R.POD_S_STAT q) = s.rd (R.POD_S_STAT q)) : t.podHere q = s.podHere q := by
  have state : t.get (R.POD_S_STAT_STATE q) = s.get (R.POD_S_STAT_STATE q) := by
    rw [State.get, State.get]
    exact congrArg (fieldOf · _ _) h
  rw [State.podHere, State.podHere, state]

/-- A measurement that succeeds on a slot whose pod is attached and of type 2 (R92, R115). -/
theorem State.deskewOk_measured {s : State} {p : Port} {cmp drv rt : Nat} (here : s.podHere (p.val / 16) = true)
    (type : s.get (R.POD_S_STAT_TYPE (p.val / 16)) = 2) (hcmp : cmp < 2 ^ 16) (hdrv : drv < 2 ^ 16) (hrt : s.val (R.PIN_DESKEW_RT p) = rt)
    (hbusy : s.get (R.PIN_STAT_DESKEW_BUSY p) = 0) : Measured p cmp drv rt (s.deskewOk p cmp drv) := by
  let s1 := (s.set (R.PIN_DESKEW_CMP p) cmp).set (R.PIN_DESKEW_DRV p) drv
  have regs : OnRegs (fun a => a = R.PIN_DESKEW p) s s1 :=
    (OnRegs.set (w := fun a => a = R.PIN_DESKEW p) s (R.PIN_DESKEW_CMP p) _ rfl).trans (.set _ (R.PIN_DESKEW_DRV p) _ rfl)
  have pod : R.POD_S_STAT (p.val / 16) ≠ R.PIN_DESKEW p := by
    have := p.isLt
    simp only [R.POD_S_STAT, R.PIN_DESKEW]
    omega
  have role : s1.podRole p = roleRemote := State.podRole_remote ((State.podHere_congr (regs.kept _ pod)).trans here) ((regs.get pod).trans type)
  have steps : s.deskewOk p cmp drv = ((s.deskewShown p cmp drv).setRole p (s1.podRole p)).pinPairCheck p := rfl
  rw [steps, role]
  exact ((State.deskewShown_measured hcmp hdrv hrt hbusy).setRole (by decide)).of_pinsKept (State.pinPairCheck_pinsKept _ _)

/-- The mean of 16 equal runs is the run. -/
theorem sum_equal_runs (r : Nat) : (List.replicate 16 r).foldl (· + ·) 0 = 16 * r :=
  List.sum_eq_foldl.symm.trans (List.sum_replicate 16 r)

theorem State.deskewMean_equal (s : State) (r : Nat) : s.deskewMean (List.replicate 16 r) = (r, s) := by
  rw [State.deskewMean, sum_equal_runs]
  simp

/-- 16 equal round trips split into the drive and the compare path with the delays of the pod, the drive path rounded up (R115). -/
theorem State.deskewRemote_equal {s : State} {p r dd dc : Nat} (hdd : s.get (R.POD_S_DELAY_DD (p / 16)) = dd) (hdc : s.get (R.POD_S_DELAY_DC (p / 16)) = dc)
    (low : dc ≤ r + dd) (low' : dd ≤ r + dc) (high : r + dd ≤ 65535) (high' : r + dc ≤ 65535) :
    s.deskewRemote p (List.replicate 16 r) = (s.put (R.PIN_DESKEW_RT p) r).deskewOk p ((r + dc - dd) / 2) ((r + dd - dc + 1) / 2) := by
  have drv : -((-((r : Int) + dd - dc)) / 2) = ((r + dd - dc + 1) / 2 : Nat) := by omega
  have cmp : ((r : Int) - dd + dc) / 2 = ((r + dc - dd) / 2 : Nat) := by omega
  unfold State.deskewRemote
  rw [State.deskewMean_equal, sum_equal_runs]
  dsimp only
  rw [hdd, hdc, drv, cmp, if_neg, Int.toNat_natCast, Int.toNat_natCast]
  simp
  omega

theorem State.doDeskewDone_remote {s : State} {p : Nat} {runs : List Nat} (busy : s.is (R.PIN_STAT_DESKEW_BUSY p) = true) (due : (s.pinRt p).deskewEnd ≤ s.fU)
    (here : (s.set (R.PIN_STAT_DESKEW_BUSY p) 0).podHere (p / 16) = true)
    (type : (s.set (R.PIN_STAT_DESKEW_BUSY p) 0).get (R.POD_S_STAT_TYPE (p / 16)) = 2) :
    s.doDeskewDone p runs = (s.set (R.PIN_STAT_DESKEW_BUSY p) 0).deskewRemote p runs := by
  rw [State.doDeskewDone, if_pos ⟨busy, due⟩]
  dsimp only
  rw [here, if_neg (by decide), if_pos type]

/-- A measurement of 16 equal round trips that ends while the slot's pod is attached and of type 2 (R114, R115). -/
theorem State.doDeskewDone_measured {s : State} {p : Port} {r dd dc : Nat} (busy : s.is (R.PIN_STAT_DESKEW_BUSY p) = true) (due : (s.pinRt p).deskewEnd ≤ s.fU)
    (here : s.podHere (p.val / 16) = true) (type : s.get (R.POD_S_STAT_TYPE (p.val / 16)) = 2) (hdd : s.get (R.POD_S_DELAY_DD (p.val / 16)) = dd)
    (hdc : s.get (R.POD_S_DELAY_DC (p.val / 16)) = dc) (low : dc ≤ r + dd) (low' : dd ≤ r + dc) (high : r + dd ≤ 65535) (high' : r + dc ≤ 65535) :
    Measured p ((r + dc - dd) / 2) ((r + dd - dc + 1) / 2) r (s.doDeskewDone p (List.replicate 16 r)) := by
  let s1 := s.set (R.PIN_STAT_DESKEW_BUSY p) 0
  let s2 := s1.put (R.PIN_DESKEW_RT p) r
  have hp := p.isLt
  have ended : OnRegs (fun a => a = R.PIN_STAT p) s s1 := .set s (R.PIN_STAT_DESKEW_BUSY p) 0 rfl
  have noted : OnRegs (fun a => a = R.PIN_DESKEW_RT p) s1 s2 := .put s1 r rfl
  have stat : R.POD_S_STAT (p.val / 16) ≠ R.PIN_STAT p := by simp only [R.POD_S_STAT, R.PIN_STAT]; omega
  have delay : R.POD_S_DELAY (p.val / 16) ≠ R.PIN_STAT p := by simp only [R.POD_S_DELAY, R.PIN_STAT]; omega
  have trip : R.POD_S_STAT (p.val / 16) ≠ R.PIN_DESKEW_RT p := by simp only [R.POD_S_STAT, R.PIN_DESKEW_RT]; omega
  have here1 : s1.podHere (p.val / 16) = true := (State.podHere_congr (ended.kept _ stat)).trans here
  have type1 : s1.get (R.POD_S_STAT_TYPE (p.val / 16)) = 2 := (ended.get stat).trans type
  rw [State.doDeskewDone_remote busy due here1 type1,
    State.deskewRemote_equal ((ended.get delay).trans hdd) ((ended.get delay).trans hdc) low low' high high']
  refine State.deskewOk_measured ((State.podHere_congr (noted.kept _ trip)).trans here1) ((noted.get trip).trans type1) (by omega) (by omega) ?_ ?_
  · exact (State.val_put_self _ _).trans (Nat.mod_eq_of_lt (by omega))
  · exact (noted.get pinReg_ne).trans (State.get_set_self _ _ (by decide : 6 + 1 ≤ 32))

/-! ### Levels (R112) -/

/-- A level that is written on a lane role is pending until the next tick boundary. -/
theorem State.doLevelWrite_lane {s : State} {p : Port} {w : LevelReg} {v : Word} (on : s.powered (levelAddr p w) = true)
    (lane : s.role p = roleLaneCmp ∨ s.role p = roleLaneDrv) : ∃ s1, OnField (LevelRegs p) s s1 ∧
      s.doLevelWrite p w v = (s1.set (R.PIN_STAT_LVL_PENDING p) 1).setPinRt p { s1.pinRt p with lvlFrom := s1.nextTickU } := by
  have stored := s.storeLevel_field p w (signedOf 32 v.toNat)
  have role : (s.storeLevel p w (signedOf 32 v.toNat)).role p = s.role p := stored.get fun x => absurd x.1 (Nat.lt_irrefl _)
  refine ⟨_, stored, ?_⟩
  rw [State.doLevelWrite, State.ifOn_of_powered _ on]
  dsimp only
  rw [role, if_neg (by rcases lane with e | e <;> (rw [e]; decide)), if_neg (by rcases lane with e | e <;> (rw [e]; decide))]

/-! ### The start of a measurement (R114) -/

theorem State.doDeskew_start {s : State} {p : Nat} (on : s.powered (R.PIN_CTRL p) = true) (here : s.podHere (p / 16) = true)
    (idle : s.is (R.PIN_STAT_BUSY p) = false) (still : s.is R.SEQ_STAT_BUSY = false) : s.doDeskew p = s.deskewStart p := by
  rw [State.doDeskew, State.ifOn_of_powered _ on]
  dsimp only
  rw [here, idle, still, if_neg (by simp)]

/-! ### Enabling and disabling (R116, R128) -/

/-- The channel with EN set, from an instant. -/
theorem State.doPinEnable_on {s : State} {p : Nat} (on : s.powered (R.PIN_CTRL p) = true) (off : s.is (R.PIN_CTRL_EN p) = false)
    (idle : s.is (R.PIN_STAT_BUSY p) = false) (ready : s.role p = roleNone ∨ s.is (R.PIN_STAT_DESKEW_VALID p) = true)
    (free : ¬ (s.role p = roleLaneDrv ∧ s.genOwns (laneOfPort p) = true)) : ∃ x, s.doPinEnable p = (s.set (R.PIN_CTRL_EN p) 1).setPinRt p x := by
  have measured : ¬ (s.role p ≠ roleNone ∧ (!s.is (R.PIN_STAT_DESKEW_VALID p)) = true) := by
    rintro ⟨role, unset⟩
    exact ready.elim role fun valid => by simp [valid] at unset
  rw [State.doPinEnable, State.ifOn_of_powered _ on, if_neg (by rw [off, idle]; decide), if_neg measured, if_neg free]
  exact ⟨_, rfl⟩

theorem State.doPinDisable_running {s : State} {p : Nat} (on : s.powered (R.PIN_CTRL p) = true) (en : s.is (R.PIN_CTRL_EN p) = true)
    (running : s.fU < s.seq.endAt) : ∃ x, s.doPinDisable p = ((s.set (R.PIN_CTRL_EN p) 0).set (R.PIN_STAT_BUSY p) 1).setPinRt p x := by
  rw [State.doPinDisable, State.ifOn_of_powered _ on, if_pos en, if_pos running]
  exact ⟨_, rfl⟩

theorem State.doPinDisable_ended {s : State} {p : Nat} (on : s.powered (R.PIN_CTRL p) = true) (en : s.is (R.PIN_CTRL_EN p) = true)
    (ended : s.seq.endAt ≤ s.fU) : s.doPinDisable p = (s.set (R.PIN_CTRL_EN p) 0).pinStop p s.fU := by
  rw [State.doPinDisable, State.ifOn_of_powered _ on, if_pos en]
  exact if_neg (Nat.not_lt.mpr ended)

/-- Drive-off of a channel clears DRV_ON and leaves PIN_CTRL. -/
theorem State.driverOff_off (s : State) (p : Nat) : (s.driverOff p).is (R.PIN_STAT_DRV_ON p) = false ∧ (s.driverOff p).rd (R.PIN_CTRL p) = s.rd (R.PIN_CTRL p) := by
  unfold State.driverOff
  extract_lets s1
  have off : s1.is (R.PIN_STAT_DRV_ON p) = false ∧ s1.rd (R.PIN_CTRL p) = s.rd (R.PIN_CTRL p) := by
    unfold s1
    split
    · exact ⟨s.is_set_zero (by decide), s.rd_set_ne (R.PIN_STAT_DRV_ON p) 0 pinReg_ne⟩
    · next dark => exact ⟨Bool.eq_false_iff.mpr dark, rfl⟩
  exact off

/-- A channel that has stopped drives nothing and is not busy. -/
structure Stopped (p : Nat) (s t : State) : Prop where
  busy : t.is (R.PIN_STAT_BUSY p) = false
  drive : t.is (R.PIN_STAT_DRV_ON p) = false
  ctrl : t.rd (R.PIN_CTRL p) = s.rd (R.PIN_CTRL p)

theorem State.pinStop_stopped (s : State) (p : Port) (stop : Nat) : Stopped p s (s.pinStop p stop) := by
  obtain ⟨dark, ctrl⟩ := s.driverOff_off p
  unfold State.pinStop
  extract_lets s1
  have idle : Stopped p s s1 := by
    refine ⟨State.is_set_zero _ (by decide), ?_, (State.rd_set_ne _ (R.PIN_STAT_BUSY p) 0 pinReg_ne).trans ctrl⟩
    exact (State.is_set_apart _ _ (.of_bits (by decide) (by decide))).trans dark
  let s2 := s1.setPinRt p { s1.pinRt p with stopping := false }
  have told : PinsKept s2 (s2.stopEntry 0x13 p (t64At stop) 0 0) := .of_reported (.of_append (s2.stopEntry_host _ _ _ _ _))
  exact ⟨(State.is_of_rd (told _ (pinStat_not_off p))).trans idle.busy, (State.is_of_rd (told _ (pinStat_not_off p))).trans idle.drive,
    (told _ (pinCtrl_not_off p)).trans idle.ctrl⟩

/-! ### Counters (R130) -/

/-- The counters of a channel are 0, and its first fail is no longer valid. -/
structure PinCleared (p : Nat) (t : State) : Prop where
  counts : ∀ a ∈ [R.PIN_FAIL_CNT_LO p, R.PIN_FAIL_CNT_HI p, R.PIN_SUPPR_CNT p, R.PIN_EDGE_SKIP p, R.PIN_EDGE_LOST p], t.val a = 0
  first : t.is (R.PIN_FIRST_FAIL_GEN_VALID p) = false

theorem State.doPinClrStats_cleared {s : State} {p : Nat} (on : s.powered (R.PIN_CTRL p) = true) : PinCleared p (s.doPinClrStats p) := by
  rw [State.doPinClrStats, State.ifOn_of_powered _ on]
  refine ⟨fun a listed => ?_, State.is_set_zero _ (by decide)⟩
  have other : a ≠ R.PIN_FIRST_FAIL_GEN p := by
    simp only [List.mem_cons, List.not_mem_nil, or_false] at listed
    rcases listed with rfl | rfl | rfl | rfl | rfl <;> exact pinReg_ne
  exact (State.val_set_ne (f := R.PIN_FIRST_FAIL_GEN_VALID p) _ 0 other).trans (State.putAll_zero_val (.inl listed))

/-! ### Transitions (R120) -/

/-- A transition of a port that captures none is shown, and reaches the trigger sources and the pairs. -/
theorem State.doPinTransition_shown {s : State} {p : Port} {st : Nat} (at_ : Nat) (compares : roleCompares (s.role p) = true)
    (idle : s.is (R.PIN_CAPT_EN p) = false) (code : st < 4) : (s.doPinTransition p st at_).get (R.PIN_STAT_CMP_LIVE p) = st := by
  unfold State.doPinTransition
  rw [if_neg (by rw [compares]; decide)]
  extract_lets s1 s2 s3 x
  have kept : PinsKept s1 s2 := (s1.pinTransitionSources_pinsKept p st at_).trans (State.pinPairs_pinsKept _ p st at_)
  have capture : s2.is (R.PIN_CAPT_EN p) = false := by
    have hp := p.isLt
    rw [State.is_of_rd (kept _ (by simp only [OffPins, R.PIN_CAPT_EN, R.PIN_CAPT]; omega))]
    exact (State.is_set_apart _ _ (.inl pinReg_ne)).trans idle
  rw [if_pos (by rw [capture]; rfl), kept.get (pinStat_not_off p)]
  exact (s.get_set_self _ (by decide : 9 + 2 ≤ 32)).trans (Nat.mod_eq_of_lt code)

/-! ### The statement -/

/-- Settles O6: each command reaches the state that its lemma describes; acquisition memory stays by `Keeps`. -/
theorem pinChannel : Obligations.PinChannel := by
  refine ⟨fun s u p which v on lane => ?_, fun s p lane due => ?_, fun s u p on here idle still => ?_,
    fun s u p r busy due here type low low' high high' => ?_, fun s u p on off idle ready free => ?_, fun s u p on en running => ?_,
    fun s u p on en ended => ?_, fun s p on => ?_, fun s u p st compares idle => ?_⟩
  · have arm : exec (.pinLevelWrite u p which v) s = done s ((s.atF u).doLevelWrite p which v) := rfl
    obtain ⟨s1, stored, pending⟩ := State.doLevelWrite_lane (s := s.atF u) (v := v) on lane
    rw [pending] at arm
    refine answers_of_done arm stored.pending ⟨State.is_set_one _ (by decide), ?_, stored.mem⟩
    rw [State.pinRt_setPinRt, State.nextTickU, State.fTickU, stored.time]
    rfl
  · have applied : s.doLaneLevelApply p = s.set (R.PIN_STAT_LVL_PENDING p) 0 := if_pos ⟨lane, due⟩
    have arm : exec (.laneLevelApply p) s = done s (s.doLaneLevelApply p) := rfl
    rw [applied] at arm
    have regs := OnRegs.set (w := fun a => a = R.PIN_STAT p) s (R.PIN_STAT_LVL_PENDING p) 0 rfl
    exact answers_of_done arm rfl ⟨State.is_set_zero _ (by decide), regs.kept, rfl⟩
  · have arm : exec (.deskew u p) s = done s ((s.atF u).doDeskew p) := rfl
    rw [State.doDeskew_start (s := s.atF u) on here idle still] at arm
    have regs := OnRegs.set (w := fun a => a = R.PIN_STAT p) (s.atF u) (R.PIN_STAT_DESKEW_BUSY p) 1 rfl
    refine answers_of_done arm rfl ⟨State.is_set_one _ (by decide), ?_, regs.kept, rfl⟩
    rw [State.deskewStart, State.pinRt_setPinRt, deskewUnits]
  · have arm : exec (.deskewDone u p (List.replicate 16 r)) s = done s ((s.atF u).doDeskewDone p (List.replicate 16 r)) := rfl
    have kept : Keeps True s ((s.atF u).doDeskewDone p (List.replicate 16 r)) := (Keeps.refl True s).atF.doDeskewDone
    obtain ⟨cmp, drv, rt, valid, done⟩ := State.doDeskewDone_measured (s := s.atF u) busy (due.trans (s.fU_le_atF u)) here type (s.get_atF u _)
      (s.get_atF u _) low low' high high'
    generalize (s.atF u).doDeskewDone p (List.replicate 16 r) = t at arm kept cmp drv rt valid done
    have split : t.get (R.PIN_DESKEW_DRV p) + t.get (R.PIN_DESKEW_CMP p) = r := by
      rw [drv, cmp]
      omega
    rw [State.get_word] at rt
    exact ⟨_, arm, drv, split, rt, (t.is_iff _).mpr valid, State.is_of_get done, kept.memory trivial⟩
  · have arm : exec (.pinEnable u p) s = done s ((s.atF u).doPinEnable p) := rfl
    obtain ⟨x, enabled⟩ := State.doPinEnable_on (s := s.atF u) on off idle ready free
    rw [enabled] at arm
    have regs := OnRegs.set (w := fun a => a = R.PIN_CTRL p) (s.atF u) (R.PIN_CTRL_EN p) 1 rfl
    exact answers_of_done arm rfl ⟨State.is_set_one _ (by decide), regs.kept, rfl⟩
  · have arm : exec (.pinDisable u p) s = done s ((s.atF u).doPinDisable p) := rfl
    obtain ⟨x, stopping⟩ := State.doPinDisable_running (s := s.atF u) on en running
    rw [stopping] at arm
    have regs := (OnRegs.set (w := fun a => a = R.PIN_CTRL p ∨ a = R.PIN_STAT p) (s.atF u) (R.PIN_CTRL_EN p) 0 (.inl rfl)).trans
      (.set _ (R.PIN_STAT_BUSY p) 1 (.inr rfl))
    have other : (R.PIN_CTRL_EN p).addr ≠ (R.PIN_STAT_BUSY p).addr := pinReg_ne
    have off : (((s.atF u).set (R.PIN_CTRL_EN p) 0).set (R.PIN_STAT_BUSY p) 1).is (R.PIN_CTRL_EN p) = false :=
      (State.is_set_apart _ 1 (.inl other)).trans (State.is_set_zero _ (by decide))
    exact answers_of_done arm rfl ⟨(State.is_setPinRt _ _ _ _).trans off, (State.is_setPinRt _ _ _ _).trans (State.is_set_one _ (by decide)),
      fun a ha => (State.rd_setPinRt _ _ _ _).trans (regs.kept a ha), rfl⟩
  · have arm : exec (.pinDisable u p) s = done s ((s.atF u).doPinDisable p) := rfl
    have kept : Keeps True s ((s.atF u).doPinDisable p) := (Keeps.refl True s).atF.doPinDisable
    rw [State.doPinDisable_ended (s := s.atF u) on en (ended.trans (s.fU_le_atF u))] at arm kept
    obtain ⟨idle, dark, ctrl⟩ := ((s.atF u).set (R.PIN_CTRL_EN p) 0).pinStop_stopped p (s.atF u).fU
    have off := (State.is_of_rd (f := R.PIN_CTRL_EN p) ctrl).trans (State.is_set_zero _ (by decide))
    generalize ((s.atF u).set (R.PIN_CTRL_EN p) 0).pinStop p (s.atF u).fU = t at arm kept idle dark off
    exact ⟨_, arm, off, idle, dark, kept.memory trivial⟩
  · have arm : exec (.pinClrStats p) s = done s (s.doPinClrStats p) := rfl
    have regs := s.doPinClrStats_regs p
    obtain ⟨counts, first⟩ := State.doPinClrStats_cleared on
    generalize s.doPinClrStats p = t at arm regs counts first
    exact answers_of_done arm regs.pending ⟨counts _ (by simp), counts _ (by simp), counts _ (by simp), counts _ (by simp), counts _ (by simp), first, regs.mem⟩
  · let began := (s.atF u).fU - (s.atF u).get (R.PIN_CAPT_FILT p) * 256 - (s.atF u).get (R.PIN_DESKEW_CMP p)
    have arm : exec (.pinTransition u p st) s = done s ((s.atF u).doPinTransition p (cmpCode st) began) := rfl
    have kept : Keeps True s ((s.atF u).doPinTransition p (cmpCode st) began) := (Keeps.refl True s).atF.doPinTransition
    have shown := State.doPinTransition_shown (s := s.atF u) (st := cmpCode st) began compares idle (by cases st <;> decide)
    generalize (s.atF u).doPinTransition p (cmpCode st) began = t at arm kept shown
    exact ⟨_, arm, shown, kept.memory trivial⟩

end Sys2Proof.Machine
end

section
/-! PROOFS. The drive inhibit (R104, R433). O5 speaks of every state, and fails where the register file lists SYS_DRIVE_INH twice; what each of its
commands does is stated after the refutation, for a canonical register file where it matters. -/

namespace Sys2Proof.Machine

/-! ### A register file that is not canonical -/

/-- SYS_DRIVE_INH stands in the register file twice: first with its reset value 1, behind it with 0. The link is up. -/
def inhibitTwice : State := { State.reset with regs := [(R.SYS_DRIVE_INH, 1), (R.SYS_DRIVE_INH, 0), (R.ISO_STAT, 2)] }

/-- With every driver off, the entry that equals its reset value is dropped, and the one behind it shows. -/
theorem inhibitTwice_doDriveInhSet : ((inhibitTwice.atH 0).doDriveInhSet).is R.SYS_DRIVE_INH_INH = false := by decide

/-- Refutes O5: from `inhibitTwice`, a register file that is not canonical, a write of 1 leaves SYS_DRIVE_INH.INH at 0. -/
theorem not_driveInhibit : ¬ Obligations.DriveInhibit := by
  rintro ⟨-, -, write, -⟩
  obtain ⟨t, ht, inh, -⟩ := write inhibitTwice 0
  have arm : exec (.sysDriveInhSet 0) inhibitTwice = done inhibitTwice (inhibitTwice.atH 0).doDriveInhSet := rfl
  obtain rfl : { (inhibitTwice.atH 0).doDriveInhSet with pending := inhibitTwice.pending } = t := Host.Outcome.next.inj (arm.symm.trans ht)
  exact Bool.false_ne_true (inhibitTwice_doDriveInhSet.symm.trans inh)

/-! ### Drivers off -/

section
variable (f : Nat → Word → Word) (a : Nat)

/-- A change of the whole register file leaves the word at `a` its reset value, or what `f` makes of a word. -/
theorem State.rd_mapRegs_cases (s : State) : (s.mapRegs f).rd a = regReset a ∨ ∃ x, (s.mapRegs f).rd a = f a x := by
  have listed : ∀ l : List (Nat × Word),
      let m := l.filterMap (fun p => let y := f p.1 p.2; if y = regReset p.1 then none else some (p.1, y))
      regsFind m a = none ∨ ∃ x, regsFind m a = some (f a x) := by
    intro l
    induction l with
    | nil => exact .inl rfl
    | cons p l ih =>
      by_cases drop : f p.1 p.2 = regReset p.1
      · simpa [drop] using ih
      · by_cases here : a = p.1
        · exact .inr ⟨p.2, by simp [drop, regsFind, here]⟩
        · simpa [drop, regsFind, here] using ih
  rcases listed s.regs with h | ⟨x, h⟩
  · exact .inl (by simp [State.rd, regsGet, State.mapRegs, h])
  · exact .inr ⟨x, by simp [State.rd, regsGet, State.mapRegs, h]⟩

/-- In a canonical register file, a word that `f` leaves is left. -/
theorem State.rd_mapRegs_same {s : State} (canonical : regsWf s.regs = true) (same : ∀ x, f a x = x) : (s.mapRegs f).rd a = s.rd a := by
  have listed : ∀ l : List (Nat × Word), (∀ p ∈ l, p.2 ≠ regReset p.1) →
      regsFind (l.filterMap (fun p => let y := f p.1 p.2; if y = regReset p.1 then none else some (p.1, y))) a = regsFind l a := by
    intro l hl
    induction l with
    | nil => rfl
    | cons p l ih =>
      have rest := ih fun q hq => hl q (List.mem_cons_of_mem _ hq)
      have first := hl p List.mem_cons_self
      by_cases here : a = p.1
      · subst here
        simp [same, first, regsFind]
      · by_cases drop : f p.1 p.2 = regReset p.1 <;> simpa [drop, regsFind, here] using rest
  have entries := ((regsWf_iff s.regs).mp canonical).2
  simp only [State.rd, regsGet, State.mapRegs, listed s.regs entries]
end

/-- PIN_STAT is one of the registers whose reset value is not 0 (CMP_LIVE 3). -/
theorem regReset_pinStat (p : Port) : regReset (R.PIN_STAT p) = 0x600#32 := by
  have hp := p.isLt
  have lo : 0x1400000 ≤ R.PIN_STAT p := by simp only [R.PIN_STAT]; omega
  have hi : R.PIN_STAT p ≤ 0x14FFFFF := by simp only [R.PIN_STAT]; omega
  have rows : resetRowsAt (R.PIN_STAT p) = resetRowsPIN := by
    generalize R.PIN_STAT p = a at lo hi
    unfold resetRowsAt
    iterate 10 rw [if_neg (by omega)]
    exact if_pos ⟨lo, hi⟩
  have held : (⟨0x1400004, 256, 0x1000, 1, 0x0, 0x600, []⟩ : RegRow).holds (R.PIN_STAT p) = true := by
    have port : 0x1000 * p.val / 0x1000 = p := by omega
    simp [RegRow.holds, R.PIN_STAT, port]
    omega
  rw [regReset, if_neg (by omega), rows, resetRowsPIN, List.find?_cons, held]

/-- What drive-off does to a word of the register file. -/
def driveOffWord (a : Nat) (x : Word) : Word := if isPinStat a then withField x 4 1 0 else x

theorem State.driversOff_rd_eq (s : State) (a : Nat) : s.driversOff.rd a = (s.mapRegs driveOffWord).rd a := rfl

theorem isPinStat_pinStat (p : Port) : isPinStat (R.PIN_STAT p) = true := by
  have := p.isLt
  have low : 0x1400000 ≤ R.PIN_STAT p ∧ R.PIN_STAT p < 0x1500000 ∧ R.PIN_STAT p % 0x1000 = 4 := by
    simp only [R.PIN_STAT]
    omega
  simp [isPinStat, low]

/-- Every driver is off, whatever the register file holds. -/
theorem State.driversOff_off (s : State) (p : Port) : s.driversOff.get (R.PIN_STAT_DRV_ON p) = 0 := by
  rw [State.get, State.driversOff_rd_eq]
  rcases s.rd_mapRegs_cases driveOffWord (R.PIN_STAT p) with h | ⟨x, h⟩
  · exact (congrArg (fieldOf · 4 1) (h.trans (regReset_pinStat p))).trans (by decide)
  · rw [driveOffWord, isPinStat_pinStat, if_pos rfl] at h
    exact (congrArg (fieldOf · 4 1) h).trans (fieldOf_withField_self x 0 (by decide))

theorem State.driversOff_rd {s : State} {a : Nat} (canonical : regsWf s.regs = true) (other : isPinStat a = false) : s.driversOff.rd a = s.rd a :=
  State.rd_mapRegs_same driveOffWord a canonical fun _ => if_neg (other ▸ Bool.false_ne_true)

/-! ### What the commands do -/

theorem OnReport.seq {w : Nat → Prop} {s t : State} (h : OnReport w s t) : t.seq = s.seq := by
  obtain ⟨_, _, _, _, _, _, _, rfl, _⟩ := h
  rfl

section
variable (s : State)

theorem State.showInhPin_shown (v : Bool) : (s.showInhPin v.toNat).is R.SYS_STAT_DRIVE_INH_PIN = v ∧ (s.showInhPin v.toNat).is R.SYS_DRIVE_INH_PIN = v :=
  ⟨(State.is_set_apart _ _ (by decide)).trans (State.is_set_self _ v (by decide)), State.is_set_self _ v (by decide)⟩

theorem State.showInhPin_regs (v : Nat) : OnRegs (fun a => a = R.SYS_STAT ∨ a = R.SYS_DRIVE_INH) s (s.showInhPin v) :=
  (OnRegs.set (w := fun a => a = R.SYS_STAT ∨ a = R.SYS_DRIVE_INH) s R.SYS_STAT_DRIVE_INH_PIN v (.inl rfl)).trans
    (.set _ R.SYS_DRIVE_INH_PIN v (.inr rfl))

/-- DRIVE_INH_ASSERT (R104): the pin is shown and every driver is off. -/
theorem answers_driveInhAssert (u : Sub) (high : s.seq.inhPin = false) :
    Answers (.driveInhAssert u) s (fun t => t.seq.inhPin = true ∧ t.is R.SYS_STAT_DRIVE_INH_PIN = true ∧ t.is R.SYS_DRIVE_INH_PIN = true ∧
      (∀ p, p < 256 → t.is (R.PIN_STAT_DRV_ON p) = false) ∧ t.mem = s.mem) := by
  let s1 := ({ s.atF u with seq := { (s.atF u).seq with inhPin := true } } : State).driversOff
  have asserted : (s.atF u).doDriveInhAssert = (s1.showInhPin 1).fieldFault 0x4C 0 := if_neg (high ▸ Bool.false_ne_true)
  have arm : exec (.driveInhAssert u) s = done s (s.atF u).doDriveInhAssert := rfl
  rw [asserted] at arm
  have told : Reported (s1.showInhPin 1) ((s1.showInhPin 1).fieldFault 0x4C 0) := State.fieldFault_reported _ 0 false (by decide)
  obtain ⟨stat, pin⟩ := s1.showInhPin_shown true
  have shown := s1.showInhPin_regs 1
  have seq : s1.seq.inhPin = true := rfl
  have dark (p : Port) : ((s1.showInhPin 1).fieldFault 0x4C 0).get (R.PIN_STAT_DRV_ON p) = 0 := by
    have := p.isLt
    rw [(PinsKept.of_reported told).get (pinStat_not_off p), shown.get (by simp only [R.PIN_STAT_DRV_ON, R.PIN_STAT, R.SYS_STAT, R.SYS_DRIVE_INH]; omega)]
    exact State.driversOff_off _ p
  refine answers_of_done arm (told.pending.trans shown.pending) ⟨?_, ?_, ?_, fun p hp => State.is_of_get (dark ⟨p, hp⟩), told.mem.trans shown.mem⟩
  · rw [told.seq, shown.seq]
    exact seq
  · exact (State.is_of_rd (told.rd (by decide))).trans stat
  · exact (State.is_of_rd (told.rd (by decide))).trans pin

/-- DRIVE_INH_PIN_RELEASE (R104): the pin is shown released, and no other register changes. -/
theorem answers_driveInhPinRelease (u : Sub) :
    Answers (.driveInhPinRelease u) s (fun t => t.seq.inhPin = false ∧ t.is R.SYS_STAT_DRIVE_INH_PIN = false ∧ t.is R.SYS_DRIVE_INH_PIN = false ∧
      RegsKept s t (fun a => a = R.SYS_STAT ∨ a = R.SYS_DRIVE_INH) ∧ t.mem = s.mem) := by
  let s1 : State := { s.atF u with seq := { s.seq with inhPin := false } }
  have arm : exec (.driveInhPinRelease u) s = done s (s1.showInhPin 0) := rfl
  obtain ⟨stat, pin⟩ := s1.showInhPin_shown false
  exact answers_of_done arm rfl ⟨rfl, stat, pin, (s1.showInhPin_regs 0).kept, rfl⟩

/-- A write of 1 turns INH on. -/
theorem State.inhibitOn_write : (s.inhibitOn .write).is R.SYS_DRIVE_INH_INH = true := by
  unfold State.inhibitOn
  dsimp only
  split
  · assumption
  · have told := ((s.set R.SYS_DRIVE_INH_INH 1).set R.SYS_EVT_INH_CHANGE 1).ledgerH_host 0x00 0x80FF 0 (leBytes 4 (Config.causeCode 433 1))
    rw [State.is_of_rd ((Reported.of_append told).rd (by decide))]
    exact (State.is_set_apart _ _ (by decide)).trans (State.is_set_one _ (by decide))

variable {s} in
/-- SYS_DRIVE_INH_SET from a canonical register file (R104): INH reads 1. This is the clause of O5 that fails at `inhibitTwice`. -/
theorem answers_sysDriveInhSet (canonical : s.Inv) (u : Sub) :
    Answers (.sysDriveInhSet u) s (fun t => t.is R.SYS_DRIVE_INH_INH = true ∧ t.mem = s.mem) := by
  have arm : exec (.sysDriveInhSet u) s = done s (s.atH u).doDriveInhSet := rfl
  have kept : Keeps True s (s.atH u).doDriveInhSet := (Keeps.refl True s).atH.doDriveInhSet
  have wf : ((s.atH u).inhibitOn .write).Inv := ((Keeps.refl True s).atH.inhibitOn (c := .write)).inv canonical
  have inh : (s.atH u).doDriveInhSet.is R.SYS_DRIVE_INH_INH = true := by
    unfold State.doDriveInhSet
    extract_lets s1 wasSeq
    have on : s1.is R.SYS_DRIVE_INH_INH = true := State.inhibitOn_write _
    split
    · have dark : (State.driversOff { s1 with seq := { s1.seq with inhField := true, relDue := false } }).rd R.SYS_DRIVE_INH = s1.rd R.SYS_DRIVE_INH :=
        State.driversOff_rd wf.1 (by decide)
      exact (State.is_of_rd (f := R.SYS_DRIVE_INH_INH) dark).trans on
    · exact on
  generalize (s.atH u).doDriveInhSet = t at arm kept inh
  exact ⟨_, arm, inh, kept.memory trivial⟩

/-- SYS_DRIVE_INH shows no cause of an inhibit. -/
structure InhibitClear (t : State) : Prop where
  inh : t.is R.SYS_DRIVE_INH_INH = false
  guard : t.is R.SYS_DRIVE_INH_GUARD = false
  linkHold : t.is R.SYS_DRIVE_INH_LINK_HOLD = false

theorem InhibitClear.of_rd {s t : State} (h : InhibitClear s) (same : t.rd R.SYS_DRIVE_INH = s.rd R.SYS_DRIVE_INH) : InhibitClear t :=
  ⟨(State.is_of_rd same).trans h.inh, (State.is_of_rd same).trans h.guard, (State.is_of_rd same).trans h.linkHold⟩

theorem State.inhibitRelease_clear : InhibitClear s.inhibitRelease := by
  unfold State.inhibitRelease
  extract_lets s1
  have cleared : InhibitClear s1 :=
    ⟨(State.is_set_apart _ _ (by decide)).trans ((State.is_set_apart _ _ (by decide)).trans (State.is_set_zero _ (by decide))),
      (State.is_set_apart _ _ (by decide)).trans (State.is_set_zero _ (by decide)), State.is_set_zero _ (by decide)⟩
  split
  · have told := (s1.set R.SYS_EVT_INH_CHANGE 1).ledgerH_host 0x00 0x80FF 0 (leBytes 4 (Config.causeCode 433 0))
    refine cleared.of_rd (((Reported.of_append told).rd (by decide)).trans ?_)
    exact State.rd_set_ne _ R.SYS_EVT_INH_CHANGE 1 (by decide)
  · exact cleared

/-- An accepted release (R433). -/
theorem answers_driveInhRelease_allowed (u : Sub) (allowed : s.releaseAllowed = true) :
    Answers (.driveInhRelease u) s (fun t => t.is R.SYS_DRIVE_INH_INH = false ∧ t.is R.SYS_DRIVE_INH_GUARD = false ∧ t.is R.SYS_DRIVE_INH_LINK_HOLD = false ∧
      t.seq.relDue = true ∧ t.mem = s.mem) := by
  have arm : exec (.driveInhRelease u) s = done s (s.atH u).doDriveInhRelease := rfl
  have kept : Keeps True s (s.atH u).doDriveInhRelease := (Keeps.refl True s).atH.doDriveInhRelease
  have released : (s.atH u).doDriveInhRelease =
      { (s.atH u).inhibitRelease with seq := { (s.atH u).inhibitRelease.seq with relDue := true } } := if_pos allowed
  rw [released] at arm kept
  obtain ⟨inh, guard, linkHold⟩ := (s.atH u).inhibitRelease_clear
  exact ⟨_, arm, inh, guard, linkHold, rfl, kept.memory trivial⟩

/-- A refused release (R433). -/
theorem answers_driveInhRelease_refused (u : Sub) (refused : s.releaseAllowed = false) :
    Answers (.driveInhRelease u) s (fun t => t.is R.SYS_EVT_INH_REFUSED = true ∧ RegsKept s t (fun a => a = R.SYS_EVT) ∧ t.mem = s.mem) := by
  have arm : exec (.driveInhRelease u) s = done s (s.atH u).doDriveInhRelease := rfl
  have noted : (s.atH u).doDriveInhRelease = (s.atH u).set R.SYS_EVT_INH_REFUSED 1 := if_neg (refused ▸ Bool.false_ne_true)
  rw [noted] at arm
  have regs := OnRegs.set (w := fun a => a = R.SYS_EVT) (s.atH u) R.SYS_EVT_INH_REFUSED 1 rfl
  exact answers_of_done arm rfl ⟨State.is_set_one _ (by decide), regs.kept, rfl⟩

/-- The field half at the end of the inhibit follows the register (R433). -/
theorem answers_fieldInhibitEnd (due : s.seq.relDue = true) :
    Answers .fieldInhibitEnd s (fun t => t.seq.relDue = false ∧ t.seq.inhField = s.is R.SYS_DRIVE_INH_INH ∧ t.regs = s.regs ∧ t.mem = s.mem) := by
  have arm : exec .fieldInhibitEnd s = done s s.doFieldInhibitEnd := rfl
  rw [State.doFieldInhibitEnd, if_pos due] at arm
  exact answers_of_done arm rfl ⟨rfl, rfl, rfl, rfl⟩

end

end Sys2Proof.Machine
end

section
/-! PROOFS. What the operations that the sequencer's commands share do (R134–R149, R166): the instant of a command, dispatch, issue, halting and
pausing. -/

namespace Sys2Proof.Machine

/-! ### Acquisition memory -/

/-- A command outside `mayStore` keeps acquisition memory. -/
theorem mem_of_exec {c : Instr} {s t : State} (arm : exec c s = .next t) (h : mayStore c = false := by rfl) : t.mem = s.mem := by
  obtain ⟨v, hv, kept⟩ := Ends.exec_of_not_mayStore (m := True) h (.refl True s)
  obtain rfl : v = t := Host.Outcome.next.inj (hv.symm.trans arm)
  exact kept.memory trivial

/-- What a command answers, from the state that its meaning reached. -/
theorem answers_of_arm {c : Instr} {s v : State} {P : State → Prop} (arm : exec c s = done s v) (storeless : mayStore c = false)
    (hP : ∀ t, v = t → t.mem = s.mem → P { t with pending := s.pending }) : Answers c s P := by
  have mem : v.mem = s.mem := mem_of_exec (t := { v with pending := s.pending }) arm storeless
  exact ⟨_, arm, hP v rfl mem⟩

/-! ### The registers of the sequencer and of the control store -/

/-- The address lies in the block SEQ or USTORE. -/
abbrev InSeq (a : Nat) : Prop := 0x1100000 ≤ a ∧ a < 0x1400000

/-- The registers of the blocks SEQ and USTORE read in `t` as in `s`. -/
def SeqKept (s t : State) : Prop := ∀ a, InSeq a → t.rd a = s.rd a

namespace SeqKept
variable {s t v : State}

theorem refl (s : State) : SeqKept s s := fun _ _ => rfl
theorem trans (h : SeqKept s t) (h' : SeqKept t v) : SeqKept s v := fun a ha => (h' a ha).trans (h a ha)
theorem ite {c : Prop} [Decidable c] (h : SeqKept s t) (h' : SeqKept s v) : SeqKept s (if c then t else v) := by
  split
  · exact h
  · exact h'
theorem foldl {α : Type} {f : State → α → State} (hf : ∀ t x, SeqKept t (f t x)) (l : List α) : ∀ s, SeqKept s (l.foldl f s) := by
  induction l with
  | nil => exact refl
  | cons x l ih => exact fun s => (hf s x).trans (ih _)
theorem of_field {w : Nat → Prop} (h : OnField w s t) (hw : ∀ a, w a → ¬ InSeq a) : SeqKept s t := fun a ha => h.rd fun x => hw a x ha
theorem of_reported (h : Reported s t) : SeqKept s t := by
  have out : ∀ a ∈ reportRegs, ¬ InSeq a := by decide
  exact fun a ha => h.rd fun x => out a x ha
theorem set (h : SeqKept s t) {f : Fld} {x : Nat} (hf : ¬ InSeq f.addr) : SeqKept s (t.set f x) :=
  h.trans fun _ ha => t.rd_set_ne f x fun e => hf (e ▸ ha)
theorem get (h : SeqKept s t) {f : Fld} (hf : InSeq f.addr) : t.get f = s.get f := by rw [State.get, State.get, h _ hf]
end SeqKept

/-! ### The sequencer at an instant of the field tick -/

/-- `t` comes from `s` by what channels do beside the sequencer: their runtime and registers, and their entries in the Ledger. -/
structure Beside (s t : State) : Prop where
  seq : ∃ ps, t.seq = { s.seq with pins := ps }
  time : t.time = s.time
  regs : SeqKept s t

namespace Beside
variable {s t v : State}

theorem refl (s : State) : Beside s s := ⟨⟨_, rfl⟩, rfl, .refl s⟩
theorem trans (h : Beside s t) (h' : Beside t v) : Beside s v := by
  obtain ⟨ps, e⟩ := h.seq
  obtain ⟨ps', e'⟩ := h'.seq
  exact ⟨⟨ps', by rw [e', e]⟩, h'.time.trans h.time, h.regs.trans h'.regs⟩
theorem ite {c : Prop} [Decidable c] (h : Beside s t) (h' : Beside s v) : Beside s (if c then t else v) := by
  split
  · exact h
  · exact h'
theorem foldl {α : Type} {f : State → α → State} (hf : ∀ t x, Beside t (f t x)) (l : List α) : ∀ s, Beside s (l.foldl f s) := by
  induction l with
  | nil => exact refl
  | cons x l ih => exact fun s => (hf s x).trans (ih _)
theorem setPinRt (s : State) (p : Nat) (r : PinRt) : Beside s (s.setPinRt p r) := ⟨⟨_, rfl⟩, rfl, fun _ _ => rfl⟩
theorem set (s : State) {f : Fld} (x : Nat) (hf : ¬ InSeq f.addr) : Beside s (s.set f x) := ⟨⟨_, rfl⟩, rfl, (SeqKept.refl s).set hf⟩
theorem of_reported (h : Reported s t) : Beside s t := ⟨⟨_, h.seq⟩, h.time, .of_reported h⟩
end Beside

theorem pinStat_not_inSeq (p : Nat) : ¬ InSeq (R.PIN_STAT p) := by
  simp only [InSeq, R.PIN_STAT]
  omega

theorem State.driverOff_beside (s : State) (p : Nat) : Beside s (s.driverOff p) := by
  have off : Beside s (if s.is (R.PIN_STAT_DRV_ON p) then s.set (R.PIN_STAT_DRV_ON p) 0 else s) := .ite (.set s 0 (pinStat_not_inSeq p)) (.refl s)
  exact off.trans (.setPinRt _ p _)

theorem State.pinStop_beside (s : State) (p stop : Nat) : Beside s (s.pinStop p stop) := by
  unfold State.pinStop
  extract_lets s1
  have idle : Beside s s1 := (s.driverOff_beside p).trans (.set _ 0 (pinStat_not_inSeq p))
  exact (idle.trans (.setPinRt s1 p _)).trans (.of_reported (.of_append (State.stopEntry_host _ _ _ _ _ _)))

theorem State.pinSettle_beside (s : State) (t : Nat) : Beside s (s.pinSettle t) := by
  unfold State.pinSettle
  split
  · refine Beside.foldl ?_ _ s
    intro t x
    exact t.pinStop_beside x.1 _
  · exact .refl s

/-- `t` shows what has come about in `s` by now: channels have stopped, and BUSY and WAITING of SEQ_STAT follow. -/
structure Settled (s t : State) : Prop where
  seq : ∃ ps, t.seq = { s.seq with pins := ps }
  time : t.time = s.time
  get : ∀ {f : Fld}, InSeq f.addr → Apart f R.SEQ_STAT_BUSY → Apart f R.SEQ_STAT_WAITING → t.get f = s.get f

/-- The state before a halt or a pause that was ordered comes about. -/
def State.settled (s : State) : State :=
  let ran := decide (s.seq.endAt ≤ s.fU)
  let s1 := if s.seq.pipe = [] ∧ ran then (s.pinSettle s.fU).set R.SEQ_STAT_BUSY 0 else s.pinSettle s.fU
  s1.set R.SEQ_STAT_WAITING (if s1.seq.inWait || (ran && (s1.seq.pipe.head?.any (fun i => i.align.isSome))) then 1 else 0)

theorem State.settled_settled (s : State) : Settled s s.settled := by
  unfold State.settled
  extract_lets ran s1
  have beside := s.pinSettle_beside s.fU
  have busy : Settled s s1 := by
    unfold s1
    split
    · exact ⟨beside.seq, beside.time, fun hf apart _ => (State.get_set_apart _ _ apart).trans (beside.regs.get hf)⟩
    · exact ⟨beside.seq, beside.time, fun hf _ _ => beside.regs.get hf⟩
  exact ⟨busy.seq, busy.time, fun hf apart apart' => (State.get_set_apart _ _ apart').trans (busy.get hf apart apart')⟩

namespace Settled
variable {s t : State} (h : Settled s t)
include h

theorem is {f : Fld} (hf : InSeq f.addr) (busy : Apart f R.SEQ_STAT_BUSY) (waiting : Apart f R.SEQ_STAT_WAITING) : t.is f = s.is f :=
  State.is_congr _ (h.get hf busy waiting)
theorem val {a : Nat} (ha : InSeq a) (other : a ≠ R.SEQ_STAT) : t.val a = s.val a := by
  rw [← State.get_word, ← State.get_word]
  exact h.get ha (.inl other) (.inl other)
theorem vaddr : t.val64 R.SEQ_VADDR_LO = s.val64 R.SEQ_VADDR_LO := by
  rw [State.val64, State.val64, h.val (by decide) (by decide), h.val (by decide) (by decide)]
theorem fU : t.fU = s.fU := by rw [State.fU, State.fU, h.time]
theorem next : t.seq.next = s.seq.next := by
  obtain ⟨ps, e⟩ := h.seq
  rw [e]
theorem pipe : t.seq.pipe = s.seq.pipe := by
  obtain ⟨ps, e⟩ := h.seq
  rw [e]
theorem inWait : t.seq.inWait = s.seq.inWait := by
  obtain ⟨ps, e⟩ := h.seq
  rw [e]
theorem fired : t.seq.fired = s.seq.fired := by
  obtain ⟨ps, e⟩ := h.seq
  rw [e]
theorem ending : t.seq.ending = s.seq.ending := by
  obtain ⟨ps, e⟩ := h.seq
  rw [e]
theorem stopReq : t.seq.stopReq = s.seq.stopReq := by
  obtain ⟨ps, e⟩ := h.seq
  rw [e]
theorem resumeAddr : t.resumeAddr = s.resumeAddr := by
  obtain ⟨ps, e⟩ := h.seq
  have exact : t.get R.SEQ_STAT_RSTR_STATE = s.get R.SEQ_STAT_RSTR_STATE := h.get (by decide) (by decide) (by decide)
  rw [State.resumeAddr, State.resumeAddr, h.vaddr, exact, e]
end Settled

/-- With no order, or while instances run, the sequencer stays in its state. -/
theorem State.seqSettle_stays {s : State} (h : s.seq.ending = none ∨ s.seq.pipe ≠ []) : s.seqSettle = s.settled := by
  have pipe : s.settled.seq.pipe = s.seq.pipe := s.settled_settled.pipe
  have ending : s.settled.seq.ending = s.seq.ending := s.settled_settled.ending
  unfold State.seqSettle
  extract_lets ran s1 wait s2
  split
  · next st cause order =>
    have running : s.seq.pipe ≠ [] := h.resolve_left fun quiet => by
      rw [show s2.seq.ending = none from ending.trans quiet] at order
      exact absurd order (by simp)
    exact if_neg fun ⟨empty, _⟩ => running (pipe.symm.trans empty)
  · rfl

/-- The sequencer enters the state that was ordered once the last of the instances has ended. -/
theorem State.seqSettle_arrives {s : State} {st cause : Nat} (order : s.seq.ending = some (st, cause)) (empty : s.seq.pipe = [])
    (ran : s.seq.endAt ≤ s.fU) : s.seqSettle = s.settled.seqArrive st cause := by
  have pipe : s.settled.seq.pipe = s.seq.pipe := s.settled_settled.pipe
  have ending : s.settled.seq.ending = s.seq.ending := s.settled_settled.ending
  unfold State.seqSettle
  extract_lets isRan s1 wait s2
  split
  · next st' cause' order' =>
    obtain ⟨rfl, rfl⟩ : st = st' ∧ cause = cause' := by
      simpa using order.symm.trans (ending.symm.trans order')
    exact if_pos ⟨pipe.trans empty, decide_eq_true ran⟩
  · next quiet => exact absurd (order.symm.trans (ending.symm.trans quiet)) (by simp)

/-! ### Halting and pausing (R144–R149, R166) -/

/-- A field of SEQ or USTORE that a halt does not write. -/
abbrev BesideHalt (f : Fld) : Prop :=
  InSeq f.addr ∧ f.addr ∉ [R.SEQ_VADDR_LO, R.SEQ_VADDR_HI, R.SEQ_HALT_CAUSE, R.SEQ_EVT] ∧
    ∀ g ∈ [R.SEQ_STAT_STATE, R.SEQ_STAT_OVERDRAFT, R.SEQ_STAT_BUSY, R.SEQ_STAT_WAITING], Apart f g

/-- `t` is `s` after a halt with a cause. -/
structure Halted (s t : State) (cause : Nat) : Prop where
  state : t.seqState = seqHalted
  cause : t.val R.SEQ_HALT_CAUSE = cause % 2 ^ 32
  event : t.is R.SEQ_EVT_HALTED = true
  addr : t.val64 R.SEQ_VADDR_LO = s.resumeAddr % 2 ^ 64
  stopReq : t.seq.stopReq = none
  get : ∀ {f : Fld}, BesideHalt f → t.get f = s.get f

/-- STATE, SEQ_HALT_CAUSE and HALTED show a halt; nothing else of the sequencer changes. -/
structure HaltShown (s t : State) (cause : Nat) : Prop where
  state : t.seqState = seqHalted
  cause : t.val R.SEQ_HALT_CAUSE = cause % 2 ^ 32
  event : t.is R.SEQ_EVT_HALTED = true
  seq : t.seq = s.seq
  get : ∀ {f : Fld}, f.addr ≠ R.SEQ_HALT_CAUSE → f.addr ≠ R.SEQ_EVT → Apart f R.SEQ_STAT_STATE → t.get f = s.get f

theorem State.seqEnterHalt_shown (s : State) (cause : Nat) : HaltShown s (s.seqEnterHalt cause) cause := by
  unfold State.seqEnterHalt
  extract_lets s1
  have told := s1.fieldEvent_field 0x11 0x0001 0 s1.fNow.pack (leBytes 4 cause ++ leBytes 5 (s1.val64 R.SEQ_VADDR_LO))
  refine ⟨?_, ?_, ?_, told.seq, fun why event state => ?_⟩
  · refine (told.get id).trans ((State.get_set_apart _ _ (by decide)).trans ((State.get_put_ne _ _ _ (by decide)).trans ?_))
    exact State.get_set_self _ _ (by decide)
  · rw [State.val_of_rd (told.rd id), State.val_set_ne _ _ (by decide)]
    exact State.val_put_self _ _
  · exact (State.is_of_rd (told.rd id)).trans (State.is_set_one _ (by decide))
  · rw [told.get id, State.get_set_ne _ _ _ _ event, State.get_put_ne _ _ _ why, State.get_set_apart _ _ state]

theorem HaltShown.val64 {s t : State} {cause : Nat} (h : HaltShown s t cause) : t.val64 R.SEQ_VADDR_LO = s.val64 R.SEQ_VADDR_LO := by
  have word {a : Nat} (why : a ≠ R.SEQ_HALT_CAUSE) (event : a ≠ R.SEQ_EVT) (stat : a ≠ R.SEQ_STAT) : t.val a = s.val a := by
    rw [← State.get_word, ← State.get_word]
    exact h.get why event (.inl stat)
  rw [State.val64, State.val64, word (by decide) (by decide) (by decide), word (by decide) (by decide) (by decide)]

/-- A halt whose cause leaves the drivers on. -/
theorem State.seqArrive_halted (s : State) {cause : Nat} (h : cause ≠ 0x0F) (h' : cause ≠ 0x12) : Halted s (s.seqArrive seqHalted cause) cause := by
  unfold State.seqArrive
  rw [if_neg (by decide)]
  extract_lets a s1 s2 held q
  have still : s1 = s := if_neg (by simp [h, h'])
  obtain ⟨state, why, event, seq, get⟩ := (s2.setSeq q).seqEnterHalt_shown cause
  have addr := ((s2.setSeq q).seqEnterHalt_shown cause).val64
  refine ⟨state, why, event, addr.trans ?_, congrArg SeqSt.stopReq seq, fun {f} ⟨_, other, apart⟩ => ?_⟩
  · show s2.val64 R.SEQ_VADDR_LO = a % 2 ^ 64
    have apart : OnRegs (fun b => b = R.SEQ_STAT) (s1.put64 R.SEQ_VADDR_LO a) s2 := .set _ R.SEQ_STAT_OVERDRAFT 0 rfl
    exact (apart.val64 (by decide) (by decide)).trans (State.val64_put64 _ _)
  · simp only [List.mem_cons, List.not_mem_nil, or_false, not_or] at other
    obtain ⟨low, high, cause, event⟩ := other
    refine (get cause event (apart _ (by decide))).trans ?_
    show s2.get f = s.get f
    rw [← still]
    exact (State.get_set_apart _ _ (apart R.SEQ_STAT_OVERDRAFT (by decide))).trans ((State.get_put_ne _ _ _ high).trans (State.get_put_ne _ _ _ low))

theorem Halted.of_settled {s t v : State} {cause : Nat} (h : Settled s t) (h' : Halted t v cause) : Halted s v cause :=
  ⟨h'.state, h'.cause, h'.event, h'.addr.trans (by rw [h.resumeAddr]), h'.stopReq, fun {f} beside =>
    (h'.get beside).trans (h.get beside.1 (beside.2.2 R.SEQ_STAT_BUSY (by decide)) (beside.2.2 R.SEQ_STAT_WAITING (by decide)))⟩

/-- A halt that is ordered after the last of the instances has ended comes about at once. -/
theorem State.seqEnd_halted {s : State} {cause : Nat} (h : cause ≠ 0x0F) (h' : cause ≠ 0x12) (empty : s.seq.pipe = []) (ran : s.seq.endAt ≤ s.fU) :
    Halted s (s.seqEnd seqHalted cause) cause := by
  let ordered := s.setSeq { s.seq with ending := some (seqHalted, cause) }
  have settled := ordered.settled_settled
  rw [State.seqEnd, State.seqSettle_arrives (s := ordered) rfl empty ran]
  obtain ⟨state, why, event, addr, stop, get⟩ := (ordered.settled.seqArrive_halted h h').of_settled settled
  exact ⟨state, why, event, addr, stop, get⟩

/-- A halt or a pause that is ordered while instances run waits for their end. -/
theorem State.seqEnd_waits {s : State} (st cause : Nat) (running : s.seq.pipe ≠ []) :
    Settled (s.setSeq { s.seq with ending := some (st, cause) }) (s.seqEnd st cause) := by
  rw [State.seqEnd, State.seqSettle_stays (s := s.setSeq { s.seq with ending := some (st, cause) }) (.inr running)]
  exact State.settled_settled _

/-- A pause that is ordered after the last of the instances has ended comes about at once. -/
theorem State.seqEnd_paused {s : State} (empty : s.seq.pipe = []) (ran : s.seq.endAt ≤ s.fU) :
    (s.seqEnd seqPaused 0).seqState = seqPaused ∧ (s.seqEnd seqPaused 0).is R.SEQ_EVT_PAUSED = true := by
  rw [State.seqEnd, State.seqSettle_arrives (s := s.setSeq { s.seq with ending := some (seqPaused, 0) }) rfl empty ran, State.seqArrive, if_pos rfl]
  exact ⟨(State.get_set_ne _ _ _ _ (by decide)).trans (State.get_set_self _ _ (by decide)), State.is_set_one _ (by decide)⟩

/-! ### Dispatch (R134) -/

/-- SEQ_VADDR and SEQ_STAT: the registers that an instruction and its instances write. -/
abbrev InstrRegs (a : Nat) : Prop := a = R.SEQ_VADDR_LO ∨ a = R.SEQ_VADDR_HI ∨ a = R.SEQ_STAT

section
variable {s : State} {v : Vec}

theorem State.dispatch_regs (s : State) (v : Vec) : RegsKept s (s.dispatch v) InstrRegs := fun a ha => by
  simp only [InstrRegs, not_or] at ha
  obtain ⟨low, high, stat⟩ := ha
  exact (State.rd_set_ne _ R.SEQ_STAT_RSTR_STATE _ stat).trans ((State.rd_put_ne _ _ high).trans (State.rd_put_ne _ _ low))

theorem State.dispatch_vaddr (short : s.seq.next < 2 ^ 40) : (s.dispatch v).val64 R.SEQ_VADDR_LO = s.seq.next := by
  have shown : (s.dispatch v).val64 R.SEQ_VADDR_LO = (s.put64 R.SEQ_VADDR_LO s.seq.next).val64 R.SEQ_VADDR_LO := by
    have stat := OnRegs.set (w := fun a => a = R.SEQ_STAT) (s.put64 R.SEQ_VADDR_LO s.seq.next) R.SEQ_STAT_RSTR_STATE 0 rfl
    exact stat.val64 (by decide) (by decide)
  rw [shown, State.val64_put64]
  omega

theorem State.dispatch_restart (s : State) (v : Vec) : (s.dispatch v).get R.SEQ_STAT_RSTR_STATE = 0 := State.get_set_self _ _ (by decide)

/-- What a dispatch needs: nothing of the preceding instruction remains. -/
theorem State.idle_of_dispatchVec {ok : Nat → Bool} (h : s.dispatchVec ok = some v) :
    s.seq.left = 0 ∧ s.seq.inWait = false ∧ s.seq.matching = false := by
  unfold State.dispatchVec at h
  split at h
  · next can =>
    simp only [State.canDispatch, Bool.and_eq_true, Bool.not_eq_true', beq_iff_eq] at can
    obtain ⟨⟨⟨-, left⟩, wait⟩, matching⟩ := can
    exact ⟨left, wait, matching⟩
  · exact absurd h (by simp)

theorem State.opcode_of_dispatchVec {op : Nat} {f : State → Vec → State} (h : s.dispatchVec (fun o => o == op) = some v) :
    s.opcode op f = f (s.dispatch v) v := by
  rw [State.opcode, h]
end

/-! ### Issue (R135, R136) -/

/-- The entry that instances make in the pipeline: under STEP one of them, with the flag changes and step requests that wait. -/
def State.enters (s : State) (i : Inst) : Inst :=
  { i with
    reps := if s.seq.stepping then min 1 i.reps else i.reps
    startAt := match s.seq.startAt with
      | some t => some t
      | none => if s.seq.fresh then some (max ((s.fU / 256 + 64) * 256) ((s.upd.holdTo.getD 0) * unitsPerTick)) else none
    resumed := s.seq.resumed
    fset := s.seq.pendSet ||| i.fset
    fclr := s.seq.pendClr ||| i.fclr
    gstep := s.seq.pendStep ||| i.gstep }

/-- `t` is `s` after an issue: what the sequencer holds besides the pipeline, and the one register written. -/
structure Issued (s t : State) (i : Inst) : Prop where
  pipe : t.seq.pipe = s.seq.pipe ++ [s.enters i]
  next : t.seq.next = s.seq.next
  loops : t.seq.loops = s.seq.loops
  calls : t.seq.calls = s.seq.calls
  inWait : t.seq.inWait = s.seq.inWait
  fired : t.seq.fired = s.seq.fired
  matching : t.seq.matching = s.seq.matching
  regs : RegsKept s t (fun a => a = R.SEQ_STAT)

theorem Issued.afterStep {s t : State} {i : Inst} (h : Issued s t i) : Issued s t.afterStep i := by
  obtain ⟨pipe, next, loops, calls, inWait, fired, matching, regs⟩ := h
  unfold State.afterStep
  split <;> exact ⟨pipe, next, loops, calls, inWait, fired, matching, regs⟩

theorem State.issue_issued (s : State) (i : Inst) : Issued s (s.issue i) i := by
  unfold State.issue
  refine Issued.afterStep ⟨rfl, rfl, rfl, rfl, rfl, rfl, rfl, fun a stat => ?_⟩
  exact (State.rd_set_ne _ R.SEQ_STAT_OVERDRAFT _ stat).trans (State.rd_set_ne _ R.SEQ_STAT_BUSY _ stat)

theorem Issued.running {s t : State} {i : Inst} (h : Issued s t i) : t.seq.pipe ≠ [] := by
  rw [h.pipe]
  exact List.concat_ne_nil _ _

theorem Issued.last {s t : State} {i : Inst} (h : Issued s t i) : t.seq.pipe.getLast? = some (s.enters i) := by
  rw [h.pipe, List.getLast?_concat]

theorem Issued.vaddr {s t : State} {i : Inst} (h : Issued s t i) : t.val64 R.SEQ_VADDR_LO = s.val64 R.SEQ_VADDR_LO := by
  rw [State.val64, State.val64, State.val_of_rd (h.regs _ (by decide)), State.val_of_rd (h.regs _ (by decide))]

/-- One repetition stays one under STEP. -/
theorem State.enters_one {s : State} {i : Inst} (one : i.reps = 1) : (s.enters i).reps = 1 := by
  rw [State.enters, one]
  exact ite_self _

end Sys2Proof.Machine
end

section
/-! PROOFS. The vector opcodes that choose the next address (R134, R136, R138–R140, R144): O8. -/

namespace Sys2Proof.Machine

/-! ### An instruction and its instances -/

/-- `t` shows the address of the instruction `v` that was next in `s`; the last entry of the pipeline holds `n` instances of it. -/
structure Entered (s t : State) (v : Vec) (n : Nat) : Prop where
  addr : t.val64 R.SEQ_VADDR_LO = s.seq.next
  last : (t.seq.pipe.getLast?.map (fun i => (i.addr, i.chars, i.tset, i.reps))) = some (s.seq.next, v.chars, v.tset % 64, n)
  regs : RegsKept s t InstrRegs

/-- The registers of `t` are those of `s` after the dispatch of `v`, whatever else the sequencer holds. -/
structure DispatchShown (s t : State) (v : Vec) : Prop where
  addr : t.val64 R.SEQ_VADDR_LO = s.seq.next
  regs : RegsKept s t InstrRegs

section
variable {s t : State} {v : Vec}

theorem DispatchShown.of_dispatch (short : s.seq.next < 2 ^ 40) (h : t.regs = (s.dispatch v).regs) : DispatchShown s t v := by
  have same (a : Nat) : t.rd a = (s.dispatch v).rd a := congrArg (regsGet · a) h
  refine ⟨?_, fun a ha => (same a).trans (s.dispatch_regs v a ha)⟩
  rw [State.val64, State.val_of_rd (same _), State.val_of_rd (same _)]
  exact State.dispatch_vaddr short

/-- Instances of the instruction enter the pipeline. -/
theorem DispatchShown.issue {i : Inst} {n : Nat} (h : DispatchShown s t v) (addr : i.addr = t.val64 R.SEQ_VADDR_LO) (chars : i.chars = v.chars)
    (tset : i.tset = v.tset % 64) (reps : (t.enters i).reps = n) : Entered s (t.issue i) v n := by
  have issued := t.issue_issued i
  refine ⟨issued.vaddr.trans h.addr, ?_, fun a ha => ?_⟩
  · have shown : ((t.enters i).addr, (t.enters i).chars, (t.enters i).tset, (t.enters i).reps) = (s.seq.next, v.chars, v.tset % 64, n) := by
      rw [reps, ← h.addr, ← addr, ← chars, ← tset]
      rfl
    rw [issued.last, Option.map_some, shown]
  · exact (issued.regs a fun stat => ha (.inr (.inr stat))).trans (h.regs a ha)

/-- A vector enters the pipeline once, with its own characters and timing set. -/
theorem DispatchShown.issue_plain (h : DispatchShown s t v) : Entered s (t.issue (t.plainInst v)) v 1 := h.issue rfl rfl rfl (State.enters_one rfl)

theorem Entered.setSeq {n : Nat} {q : SeqSt} (h : Entered s t v n) (pipe : q.pipe = t.seq.pipe) : Entered s (t.setSeq q) v n :=
  ⟨h.addr, by rw [← h.last, ← pipe]; rfl, h.regs⟩

theorem Entered.goTo {n : Nat} (h : Entered s t v n) (a : Nat) : Entered s (t.goTo a) v n := h.setSeq rfl

/-- What has come about by now leaves the instruction and its instances. -/
theorem Settled.entered {w : State} {n : Nat} (h : Settled t w) (entered : Entered s t v n) :
    w.val64 R.SEQ_VADDR_LO = s.seq.next ∧
      (w.seq.pipe.getLast?.map (fun i => (i.addr, i.chars, i.tset, i.reps))) = some (s.seq.next, v.chars, v.tset % 64, n) :=
  ⟨h.vaddr.trans entered.addr, by rw [h.pipe]; exact entered.last⟩
/-- The order of a halt while instances run leaves the instruction, and waits for their end. -/
theorem Entered.seqEnd {n : Nat} (h : Entered s t v n) (st cause : Nat) (running : t.seq.pipe ≠ []) :
    (t.seqEnd st cause).val64 R.SEQ_VADDR_LO = s.seq.next ∧ (t.seqEnd st cause).seq.next = t.seq.next ∧
      ((t.seqEnd st cause).seq.pipe.getLast?.map (fun i => (i.addr, i.chars, i.tset, i.reps))) = some (s.seq.next, v.chars, v.tset % 64, n) ∧
      (t.seqEnd st cause).seq.ending = some (st, cause) := by
  have waits := State.seqEnd_waits st cause running
  have ordered : Entered s (t.setSeq { t.seq with ending := some (st, cause) }) v n := h.setSeq rfl
  obtain ⟨addr, last⟩ := waits.entered ordered
  exact ⟨addr, waits.next, last, waits.ending⟩

end

/-! ### The loop decision (R138) -/

theorem State.topLoop_concat {s : State} {fs : List LoopFrame} {f : LoopFrame} (h : s.seq.loops = fs ++ [f]) : s.topLoop = some f := by
  rw [State.topLoop, h, List.getLast?_concat]

theorem State.loopDecide_again {s : State} {fs : List LoopFrame} {f : LoopFrame} (h : s.seq.loops = fs ++ [f]) (more : 1 < f.rem) :
    s.loopDecide f = s.setSeq { s.seq with loops := fs ++ [⟨f.addr, f.rem - 1, (f.idx + 1) % 2 ^ 32⟩], next := f.addr, byLoop := true } := by
  rw [State.loopDecide, if_pos more, h, List.dropLast_concat]

theorem State.loopDecide_out {s : State} {fs : List LoopFrame} {f : LoopFrame} (h : s.seq.loops = fs ++ [f]) (last : f.rem ≤ 1) :
    s.loopDecide f = s.setSeq { s.seq with loops := fs } := by
  rw [State.loopDecide, if_neg (Nat.not_lt.mpr last), h, List.dropLast_concat]

/-! ### The opcodes -/

/-- A reserved opcode, or an entry outside the customer region: the instruction at which the sequencer halts is the next again. -/
def State.heldBack (s : State) : State := s.setSeq { s.seq with next := s.val64 R.SEQ_VADDR_LO }

theorem State.doReserved_halt {s : State} {v : Vec} (h : s.dispatchVec (fun o => 0x0E ≤ o) = some v) :
    s.doReserved = (s.dispatch v).heldBack.seqEnd seqHalted 0x08 := by
  rw [State.doReserved, h]
  rfl

section
variable {s : State} {v : Vec} (short : s.seq.next < 2 ^ 40)
include short

/-- An instruction that issues its vector once, as it is, and takes the successor. -/
theorem State.dispatch_issue : Entered s ((s.dispatch v).issue ((s.dispatch v).plainInst v)) v 1 ∧
    ((s.dispatch v).issue ((s.dispatch v).plainInst v)).seq.next = succAddr s.seq.next :=
  ⟨(DispatchShown.of_dispatch short rfl).issue_plain, (State.issue_issued _ _).next⟩

theorem State.doRepeat_dispatch (h : s.dispatchVec (fun o => o == 0x01) = some v) (steps : s.seq.stepping = false) :
    Entered s s.doRepeat v (max 1 v.opb) ∧ s.doRepeat.seq.next = succAddr s.seq.next := by
  let i := { (s.dispatch v).plainInst v with reps := count1 v.opb, repeating := true }
  obtain ⟨left, -, -⟩ := State.idle_of_dispatchVec h
  have meaning : s.doRepeat = (s.dispatch v).issue i := by
    rw [State.doRepeat, if_neg (by simp [left]), State.opcode_of_dispatchVec h]
  have whole : ((s.dispatch v).enters i).reps = max 1 v.opb := if_neg (ne_true_of_eq_false steps)
  have shown : DispatchShown s (s.dispatch v) v := .of_dispatch short rfl
  rw [meaning]
  exact ⟨shown.issue rfl rfl rfl whole, (State.issue_issued _ i).next⟩

theorem State.doLoop_push (h : s.dispatchVec (fun o => o == 0x02) = some v) (first : s.seq.byLoop = false) (room : s.seq.loops.length < 16) :
    Entered s s.doLoop v 1 ∧ s.doLoop.seq.next = succAddr s.seq.next ∧ s.doLoop.seq.loops = s.seq.loops ++ [⟨s.seq.next, max 1 v.opb, 0⟩] := by
  let t := (s.dispatch v).setSeq { (s.dispatch v).seq with loops := s.seq.loops ++ [⟨(s.dispatch v).val64 R.SEQ_VADDR_LO, count1 v.opb, 0⟩] }
  have meaning : s.doLoop = t.issue (t.plainInst v) := by
    rw [State.doLoop, State.opcode_of_dispatchVec h]
    exact (if_neg (ne_true_of_eq_false first)).trans (if_neg (Nat.not_le.mpr room))
  have pushed : t.seq.loops = s.seq.loops ++ [⟨s.seq.next, max 1 v.opb, 0⟩] := by
    rw [← State.dispatch_vaddr (v := v) short]
    rfl
  have shown : DispatchShown s t v := .of_dispatch short rfl
  have issued := t.issue_issued (t.plainInst v)
  rw [meaning]
  exact ⟨shown.issue_plain, issued.next, issued.loops.trans pushed⟩

theorem State.doLoop_again (h : s.dispatchVec (fun o => o == 0x02) = some v) (again : s.seq.byLoop = true) :
    Entered s s.doLoop v 1 ∧ s.doLoop.seq.next = succAddr s.seq.next ∧ s.doLoop.seq.loops = s.seq.loops := by
  let t := (s.dispatch v).setSeq { (s.dispatch v).seq with byLoop := false }
  have meaning : s.doLoop = t.issue (t.plainInst v) := by
    rw [State.doLoop, State.opcode_of_dispatchVec h]
    exact if_pos again
  have shown : DispatchShown s t v := .of_dispatch short rfl
  have issued := t.issue_issued (t.plainInst v)
  rw [meaning]
  exact ⟨shown.issue_plain, issued.next, issued.loops⟩

section
variable {fs : List LoopFrame} {f : LoopFrame} (h : s.dispatchVec (fun o => o == 0x03) = some v) (top : s.seq.loops = fs ++ [f])
include h top

omit short in
theorem State.doEndloop_decide : s.doEndloop = ((s.dispatch v).issue ((s.dispatch v).plainInst v)).loopDecide f := by
  rw [State.doEndloop, State.opcode_of_dispatchVec h, State.topLoop_concat (s := s.dispatch v) top]

theorem State.doEndloop_again (more : 1 < f.rem) : Entered s s.doEndloop v 1 ∧ s.doEndloop.seq.next = f.addr ∧
    s.doEndloop.seq.loops = fs ++ [⟨f.addr, f.rem - 1, (f.idx + 1) % 2 ^ 32⟩] := by
  have issued := (s.dispatch v).issue_issued ((s.dispatch v).plainInst v)
  rw [State.doEndloop_decide h top, State.loopDecide_again (issued.loops.trans top) more]
  exact ⟨(State.dispatch_issue short).1.setSeq rfl, rfl, rfl⟩

theorem State.doEndloop_out (last : f.rem ≤ 1) :
    Entered s s.doEndloop v 1 ∧ s.doEndloop.seq.next = succAddr s.seq.next ∧ s.doEndloop.seq.loops = fs := by
  have issued := (s.dispatch v).issue_issued ((s.dispatch v).plainInst v)
  rw [State.doEndloop_decide h top, State.loopDecide_out (issued.loops.trans top) last]
  exact ⟨(State.dispatch_issue short).1.setSeq rfl, issued.next, rfl⟩
end

theorem State.doCall_push (h : s.dispatchVec (fun o => o == 0x05) = some v) (room : s.seq.calls.length < 16) :
    Entered s s.doCall v 1 ∧ s.doCall.seq.next = v.opc % 2 ^ 40 ∧ s.doCall.seq.calls = s.seq.calls ++ [succAddr s.seq.next] := by
  let t := (s.dispatch v).setSeq { (s.dispatch v).seq with calls := s.seq.calls ++ [succAddr s.seq.next] }
  have meaning : s.doCall = (t.issue (t.plainInst v)).goTo v.opc := by
    rw [State.doCall, State.opcode_of_dispatchVec h]
    exact if_neg (Nat.not_le.mpr room)
  have shown : DispatchShown s t v := .of_dispatch short rfl
  have issued := t.issue_issued (t.plainInst v)
  rw [meaning]
  exact ⟨shown.issue_plain.goTo _, rfl, issued.calls⟩

theorem State.doRet_pop {cs : List Nat} {a : Nat} (h : s.dispatchVec (fun o => o == 0x06) = some v) (top : s.seq.calls = cs ++ [a]) :
    Entered s s.doRet v 1 ∧ s.doRet.seq.next = a % 2 ^ 40 ∧ s.doRet.seq.calls = cs := by
  let t := (s.dispatch v).setSeq { (s.dispatch v).seq with calls := s.seq.calls.dropLast }
  have meaning : s.doRet = (t.issue (t.plainInst v)).goTo a := by
    rw [State.doRet, State.opcode_of_dispatchVec h, show (s.dispatch v).seq.calls.getLast? = some a by
      rw [show (s.dispatch v).seq.calls = cs ++ [a] from top, List.getLast?_concat]]
    rfl
  have rest : s.seq.calls.dropLast = cs := by rw [top, List.dropLast_concat]
  have shown : DispatchShown s t v := .of_dispatch short rfl
  have issued := t.issue_issued (t.plainInst v)
  rw [meaning]
  exact ⟨shown.issue_plain.goTo _, rfl, issued.calls.trans rest⟩

/-- A halt in place of an issue, while instances run. -/
theorem State.heldBack_waits (cause : Nat) (running : s.seq.pipe ≠ []) :
    ((s.dispatch v).heldBack.seqEnd seqHalted cause).val64 R.SEQ_VADDR_LO = s.seq.next ∧
      ((s.dispatch v).heldBack.seqEnd seqHalted cause).seq.next = s.seq.next ∧
      ((s.dispatch v).heldBack.seqEnd seqHalted cause).seq.pipe = s.seq.pipe ∧
      ((s.dispatch v).heldBack.seqEnd seqHalted cause).seq.ending = some (seqHalted, cause) := by
  have waits := State.seqEnd_waits (s := (s.dispatch v).heldBack) seqHalted cause running
  have addr := State.dispatch_vaddr (v := v) short
  exact ⟨waits.vaddr.trans addr, waits.next.trans addr, waits.pipe, waits.ending⟩

/-- RESUME after the halt would dispatch the instruction again (R149). -/
theorem State.heldBack_resumeAddr {ok : Nat → Bool} (h : s.dispatchVec ok = some v) : (s.dispatch v).heldBack.resumeAddr = s.seq.next := by
  obtain ⟨left, wait, matching⟩ := State.idle_of_dispatchVec h
  have restart : (s.dispatch v).heldBack.get R.SEQ_STAT_RSTR_STATE ≠ 1 := by
    rw [show (s.dispatch v).heldBack.get R.SEQ_STAT_RSTR_STATE = 0 from s.dispatch_restart v]
    decide
  refine (if_neg ?_).trans (State.dispatch_vaddr (v := v) short)
  rintro (on | on | on | on)
  · exact on left
  · exact ne_true_of_eq_false wait on
  · exact ne_true_of_eq_false matching on
  · exact restart on
end

/-- Settles O8: the address, the instances and the registers by `Entered`, the next instruction by what each opcode does with its frame or its address. -/
theorem vectorFlow : Obligations.VectorFlow := by
  refine ⟨fun s u v h short => ?_, fun s u v h short steps _ => ?_, fun s u v h short first room => ?_, fun s u v h short again => ?_,
    fun s u v fs f h short top more => ?_, fun s u v fs f h short top last => ?_, fun s u v h short => ?_, fun s u v h short room => ?_,
    fun s u v cs a h short top => ?_, fun s u v h short => ?_, fun s u v h short running => ?_, fun s u v h short empty ran => ?_⟩
  · refine answers_of_arm (congrArg (done s) (State.opcode_of_dispatchVec h)) rfl fun t e mem => ?_
    obtain ⟨entered, next⟩ := e ▸ State.dispatch_issue (v := v) short
    exact ⟨entered.addr, next, entered.last, mem, entered.regs⟩
  · refine answers_of_arm (v := (s.atSeq u).doRepeat) rfl rfl fun t e mem => ?_
    obtain ⟨entered, next⟩ := e ▸ State.doRepeat_dispatch short h steps
    exact ⟨entered.addr, next, entered.last, mem, entered.regs⟩
  · refine answers_of_arm (v := (s.atSeq u).doLoop) rfl rfl fun t e mem => ?_
    obtain ⟨entered, next, loops⟩ := e ▸ State.doLoop_push short h first room
    exact ⟨entered.addr, next, entered.last, loops, mem, entered.regs⟩
  · refine answers_of_arm (v := (s.atSeq u).doLoop) rfl rfl fun t e mem => ?_
    obtain ⟨entered, next, loops⟩ := e ▸ State.doLoop_again short h again
    exact ⟨entered.addr, next, entered.last, loops, mem, entered.regs⟩
  · refine answers_of_arm (v := (s.atSeq u).doEndloop) rfl rfl fun t e mem => ?_
    obtain ⟨entered, next, loops⟩ := e ▸ State.doEndloop_again short h top more
    exact ⟨entered.addr, next, entered.last, loops, mem, entered.regs⟩
  · refine answers_of_arm (v := (s.atSeq u).doEndloop) rfl rfl fun t e mem => ?_
    obtain ⟨entered, next, loops⟩ := e ▸ State.doEndloop_out short h top last
    exact ⟨entered.addr, next, entered.last, loops, mem, entered.regs⟩
  · refine answers_of_arm (congrArg (done s) (State.opcode_of_dispatchVec h)) rfl fun t e mem => ?_
    have entered := (State.dispatch_issue (v := v) short).1.goTo v.opc
    subst e
    exact ⟨entered.addr, rfl, entered.last, mem, entered.regs⟩
  · refine answers_of_arm (v := (s.atSeq u).doCall) rfl rfl fun t e mem => ?_
    obtain ⟨entered, next, calls⟩ := e ▸ State.doCall_push short h room
    exact ⟨entered.addr, next, entered.last, calls, mem, entered.regs⟩
  · refine answers_of_arm (v := (s.atSeq u).doRet) rfl rfl fun t e mem => ?_
    obtain ⟨entered, next, calls⟩ := e ▸ State.doRet_pop short h top
    exact ⟨entered.addr, next, entered.last, calls, mem, entered.regs⟩
  · refine answers_of_arm (congrArg (done s) (State.opcode_of_dispatchVec h)) rfl fun t e mem => ?_
    obtain ⟨entered, next⟩ := State.dispatch_issue (v := v) short
    obtain ⟨addr, same, last, ending⟩ := e ▸ entered.seqEnd seqHalted 0x01 (State.issue_issued _ _).running
    exact ⟨addr, same.trans next, last, ending, mem⟩
  · refine answers_of_arm (congrArg (done s) (State.doReserved_halt h)) rfl fun t e mem => ?_
    obtain ⟨addr, next, pipe, ending⟩ := e ▸ State.heldBack_waits (v := v) short 0x08 running
    exact ⟨addr, next, pipe, ending, mem⟩
  · refine answers_of_arm (congrArg (done s) (State.doReserved_halt h)) rfl fun t e mem => ?_
    have halted := State.seqEnd_halted (s := ((s.atSeq u).dispatch v).heldBack) (cause := 0x08) (by decide) (by decide) empty ran
    obtain ⟨state, why, event, addr, -, -⟩ := e ▸ halted
    rw [State.heldBack_resumeAddr short h, Nat.mod_eq_of_lt (by omega)] at addr
    exact ⟨state, why, event, addr, mem⟩

end Sys2Proof.Machine
end

section
/-! PROOFS. The vector opcodes that wait, match, synchronise, signal and call a routine, and the start of instances (R134, R135, R137, R141–R143,
R160): O9. -/

namespace Sys2Proof.Machine

/-! ### What has come about after a command -/

theorem State.seqSettle_running {s : State} (running : s.seq.pipe ≠ []) : Settled s s.seqSettle :=
  State.seqSettle_stays (.inr running) ▸ s.settled_settled

theorem State.seqSettle_unordered {s : State} (order : s.seq.ending = none) : Settled s s.seqSettle :=
  State.seqSettle_stays (.inl order) ▸ s.settled_settled

theorem State.ending_of_atDispatch {s : State} (h : s.atDispatch = true) : s.seq.ending = none := by
  simp only [State.atDispatch, Bool.and_eq_true, Option.isNone_iff_eq_none] at h
  obtain ⟨⟨⟨⟨⟨⟨⟨⟨-, order⟩, -⟩, -⟩, -⟩, -⟩, -⟩, -⟩, -⟩ := h
  exact order

/-! ### WAIT_TRIG (R141) -/

section
variable {s : State} {v : Vec}

theorem State.doWaitTrig_dispatch (short : s.seq.next < 2 ^ 40) (h : s.dispatchVec (fun o => o == 0x07) = some v) :
    Entered s s.doWaitTrig v 1 ∧ s.doWaitTrig.seq.next = succAddr s.seq.next ∧ s.doWaitTrig.seq.inWait = true ∧ s.doWaitTrig.seq.fired = 0 ∧
      s.doWaitTrig.seq.pipe ≠ [] := by
  let t := (s.dispatch v).setSeq { (s.dispatch v).seq with inWait := true, waitFrom := none, fired := 0 }
  let i := { (s.dispatch v).plainInst v with isWait := true }
  obtain ⟨-, wait, -⟩ := State.idle_of_dispatchVec h
  have meaning : s.doWaitTrig = t.issue i := by
    rw [State.doWaitTrig, if_neg (by simp [wait]), State.opcode_of_dispatchVec h]
  have shown : DispatchShown s t v := .of_dispatch short rfl
  have issued := t.issue_issued i
  rw [meaning]
  exact ⟨shown.issue rfl rfl rfl (State.enters_one rfl), issued.next, issued.inWait, issued.fired, issued.running⟩

section
variable (at_ : s.atDispatch = true) (wait : s.seq.inWait = true) (left : s.seq.left = 0) (cur : s.seq.cur = some v)
include at_ wait left cur

theorem State.doWaitTrig_fired (fired : Nat.land s.seq.fired v.opa ≠ 0) : s.doWaitTrig = s.waitEnd s.seq.next := by
  rw [State.doWaitTrig, if_pos ⟨at_, wait, left⟩, cur]
  exact if_pos fired

theorem State.doWaitTrig_again (quiet : Nat.land s.seq.fired v.opa = 0) (more : v.opb = 0 ∨ s.seq.issued < v.opb) :
    s.doWaitTrig = s.issue { s.plainInst v with isWait := true } := by
  rw [State.doWaitTrig, if_pos ⟨at_, wait, left⟩, cur]
  exact (if_neg (not_not.mpr quiet)).trans (if_neg (by omega))

/-- The wait ends with its event, at OPC where bit 63 says so. -/
theorem State.doWaitTimeout_ends (limit : v.opb ≠ 0) (reached : v.opb ≤ s.seq.issued) (quiet : Nat.land s.seq.fired v.opa = 0) :
    s.doWaitTimeout.is R.SEQ_EVT_WAIT_TIMEOUT = true ∧ s.doWaitTimeout.seq.inWait = false ∧
      s.doWaitTimeout.seq.next = (if v.opc / 2 ^ 63 = 1 then v.opc else s.seq.next) % 2 ^ 40 ∧ s.doWaitTimeout.seq.ending = none := by
  let s1 := s.seqEvt R.SEQ_EVT_WAIT_TIMEOUT 0x0003 (leBytes 4 s.seq.issued ++ leBytes 5 (s.val64 R.SEQ_VADDR_LO))
  have meaning : s.doWaitTimeout = s1.waitEnd (if v.opc / 2 ^ 63 = 1 then v.opc else s1.seq.next) := by
    rw [State.doWaitTimeout, if_pos ⟨at_, wait, left⟩, cur]
    exact if_pos ⟨limit, reached, quiet⟩
  have event : s1.is R.SEQ_EVT_WAIT_TIMEOUT = true := State.evt_is _ _ _ _ _ (by decide)
  have same : s1.seq = s.seq := (s.seqEvt_field _ _ _).seq
  clear_value s1
  rw [meaning, same]
  exact ⟨event, rfl, rfl, (congrArg SeqSt.ending same).trans (State.ending_of_atDispatch at_)⟩
end
end

/-! ### MATCH (R142) -/

section
variable {s : State} {v : Vec}

theorem State.doMatch_dispatch (short : s.seq.next < 2 ^ 40) (h : s.dispatchVec (fun o => o == 0x08) = some v) :
    Entered s s.doMatch v 1 ∧ s.doMatch.seq.next = succAddr s.seq.next ∧ s.doMatch.seq.matching = true := by
  let t := (s.dispatch v).setSeq { (s.dispatch v).seq with matching := true, results := [], matchLast := none }
  let i := { (s.dispatch v).plainInst v with isMatch := true }
  obtain ⟨-, -, matching⟩ := State.idle_of_dispatchVec h
  have meaning : s.doMatch = t.issue i := by
    rw [State.doMatch, if_neg (by simp [matching]), State.opcode_of_dispatchVec h]
  have shown : DispatchShown s t v := .of_dispatch short rfl
  have issued := t.issue_issued i
  rw [meaning]
  exact ⟨shown.issue rfl rfl rfl (State.enters_one rfl), issued.next, issued.matching⟩

theorem State.doMatch_passed (at_ : s.atDispatch = true) (matching : s.seq.matching = true) (left : s.seq.left = 0) (cur : s.seq.cur = some v)
    (passed : s.matchPassed = true) : s.doMatch = s.matchEnd := by
  rw [State.doMatch, if_pos ⟨at_, matching, left⟩, cur]
  exact if_pos passed

/-- A failing channel is noted in its registers. -/
theorem State.portFail_field (s : State) (p t64 : Nat) : OnField (fun _ => True) s (s.portFail p t64) := by
  unfold State.portFail
  extract_lets s1
  have counted : OnField (fun _ => True) s (s.pinFailCount p) := by
    unfold State.pinFailCount
    extract_lets r
    have count : OnField (fun _ => True) s r.1 := (s.satCount48_field _ _ _).mono fun _ _ => trivial
    split
    · exact count.trans ((r.1.pinEvt_field _ _ _).mono fun _ _ => trivial)
    · exact count
  have noted : OnField (fun _ => True) s s1 := counted.trans (.set _ _ _ trivial)
  split
  · exact noted
  · exact noted.trans ((s1.replaceResult_field _ _ _ _).mono fun _ _ => trivial)

theorem State.failOpen_seq (s : State) (r : FailRec) : ∃ x, (s.failOpen r).seq = { s.seq with fail := x } :=
  ⟨_, (State.satCount48_field _ R.SEQ_FAIL_VEC_LO 1 R.SEQ_FAIL_EVT_SATURATED).seq⟩

/-- A failing vector changes nothing of the sequencer but its fail unit (R123). -/
theorem State.vectorFail_seq (s : State) (r : FailRec) : ∃ x, (s.vectorFail r).seq = { s.seq with fail := x } := by
  have ports : OnField (fun _ => True) s (r.pinmap.foldl (fun t p => t.portFail p r.t64) s) := .foldl (fun t p => t.portFail_field p r.t64) _ s
  obtain ⟨x, e⟩ := (r.pinmap.foldl (fun t p => t.portFail p r.t64) s).failOpen_seq r
  exact ⟨x, by rw [State.vectorFail, e, ports.seq]⟩

/-- The record of a MATCH's last repetition, if any, leaves what else the sequencer holds. -/
def State.matchRecorded (s : State) : State :=
  match s.seq.matchLast with
  | some r => s.vectorFail r
  | none => s

theorem State.matchRecorded_issued (s : State) : s.matchRecorded.seq.issued = s.seq.issued := by
  unfold State.matchRecorded
  split
  · next r _ =>
    obtain ⟨x, e⟩ := s.vectorFail_seq r
    rw [e]
  · rfl

theorem State.matchEnd_reps (s : State) : s.matchEnd.rd R.SEQ_MATCH_REPS = BitVec.ofNat 32 s.seq.issued := State.rd_put_self _ _ _

/-- The limit of a MATCH that does not halt (R142). -/
theorem State.doMatchLimit_goes (at_ : s.atDispatch = true) (matching : s.seq.matching = true) (failed : s.matchFailed = true)
    (cur : s.seq.cur = some v) (limit : max 1 v.opb ≤ s.seq.issued) (goes : v.opa % 2 = 0) :
    s.doMatchLimit.is R.SEQ_EVT_MATCH_LIMIT = true ∧ s.doMatchLimit.seq.matching = false ∧
      s.doMatchLimit.rd R.SEQ_MATCH_REPS = BitVec.ofNat 32 s.seq.issued := by
  let s1 := s.matchRecorded
  let s2 := s1.seqEvt R.SEQ_EVT_MATCH_LIMIT 0x0004 (leBytes 4 s1.seq.issued ++ leBytes 5 (s1.val64 R.SEQ_VADDR_LO))
  have meaning : s.doMatchLimit = s2.matchEnd := by
    rw [State.doMatchLimit, if_pos ⟨at_, matching, failed⟩, cur]
    exact (if_pos limit).trans (if_neg (by omega))
  have event : s2.is R.SEQ_EVT_MATCH_LIMIT = true := State.evt_is _ _ _ _ _ (by decide)
  have issued : s2.seq.issued = s.seq.issued := (congrArg SeqSt.issued (s1.seqEvt_field _ _ _).seq).trans s.matchRecorded_issued
  clear_value s2
  rw [meaning, State.matchEnd_reps, issued]
  refine ⟨?_, rfl, rfl⟩
  exact (State.is_of_rd (s2.rd_put_ne _ (by decide) : (s2.put R.SEQ_MATCH_REPS s2.seq.issued).rd R.SEQ_EVT = _)).trans event
end

/-! ### SYNC_TICK, FLAG and GEN_STEP (R137, R143) -/

section
variable {s : State} {v : Vec} (short : s.seq.next < 2 ^ 40)
include short

/-- An instruction whose one issue carries more than its characters. -/
theorem State.dispatch_issue_with (i : Inst) (addr : i.addr = (s.dispatch v).val64 R.SEQ_VADDR_LO) (chars : i.chars = v.chars)
    (tset : i.tset = v.tset % 64) (one : i.reps = 1) : Entered s ((s.dispatch v).issue i) v 1 ∧
      ((s.dispatch v).issue i).seq.next = succAddr s.seq.next ∧ ((s.dispatch v).issue i).seq.pipe.getLast? = some ((s.dispatch v).enters i) := by
  have shown : DispatchShown s (s.dispatch v) v := .of_dispatch short rfl
  have issued := (s.dispatch v).issue_issued i
  exact ⟨shown.issue addr chars tset (State.enters_one one), issued.next, issued.last⟩

/-! ### CUSTOM (R160) -/

theorem State.doCustom_enters (h : s.dispatchVec (fun o => o == 0x0C) = some v) (inside : 0xC000 ≤ v.opb % 65536) :
    DispatchShown s s.doCustom v ∧ s.doCustom.is R.SEQ_STAT_CUST_RUN = true ∧ s.doCustom.seq.mpc = v.opb % 65536 ∧ s.doCustom.seq.micro = [] ∧
      s.doCustom.seq.next = succAddr s.seq.next := by
  let t := (s.dispatch v).setSeq { (s.dispatch v).seq with mpc := v.opb % 65536, micro := [], stalled := false }
  have meaning : s.doCustom = t.set R.SEQ_STAT_CUST_RUN 1 := by
    rw [State.doCustom, State.opcode_of_dispatchVec h]
    exact if_neg (Nat.not_lt.mpr inside)
  obtain ⟨addr, regs⟩ : DispatchShown s t v := .of_dispatch short rfl
  have runs := OnRegs.set (w := fun a => a = R.SEQ_STAT) t R.SEQ_STAT_CUST_RUN 1 rfl
  rw [meaning]
  exact ⟨⟨(runs.val64 (by decide) (by decide)).trans addr, fun a ha => (runs.kept a fun stat => ha (.inr (.inr stat))).trans (regs a ha)⟩,
    State.is_set_one _ (by decide), rfl, rfl, rfl⟩

omit short in
theorem State.doCustom_halt (h : s.dispatchVec (fun o => o == 0x0C) = some v) (outside : v.opb % 65536 < 0xC000) :
    s.doCustom = (s.dispatch v).heldBack.seqEnd seqHalted 0x09 := by
  rw [State.doCustom, State.opcode_of_dispatchVec h]
  exact if_pos outside
end

/-! ### Instances start (R135, R136) -/

theorem State.startInstance_start (s : State) (i : Inst) (obs : List PortObs) (ilim : List Port) :
    (s.startInstance i obs ilim).seq.lastStart = s.headStart i ∧ (s.startInstance i obs ilim).seq.lastAddr = i.addr := by
  unfold State.startInstance
  extract_lets start t64 s1 s2 s3 s4 s5 s6 known c flags r pass q pipe q1 s7 s8
  have shown : s8.seq = q1 := rfl
  split
  · rw [shown]
    exact ⟨rfl, rfl⟩
  · obtain ⟨x, e⟩ := s8.vectorFail_seq r
    rw [e, shown]
    exact ⟨rfl, rfl⟩

theorem State.doInstanceStart_due {s : State} {i : Inst} {r : List Inst} (obs : List PortObs) (ilim : List Port) (head : s.seq.pipe = i :: r)
    (due : s.headStart i < s.nextTickU) : s.doInstanceStart obs ilim = (s.reachF (s.headStart i)).startInstance i obs ilim := by
  rw [State.doInstanceStart, head]
  exact if_pos due

/-- The count and the event of an underrun (R135). -/
def State.underrunShown (s : State) : State := (s.satCount R.SEQ_UNDERRUN 32 1 R.SEQ_EVT_SATURATED).1.set R.SEQ_EVT_UNDERRUN 1

theorem State.underrunShown_regs (s : State) : OnRegs (fun a => a = R.SEQ_UNDERRUN ∨ a = R.SEQ_EVT) s s.underrunShown :=
  (OnRegs.satCount s (.inl rfl) (.inr rfl)).trans (.set _ R.SEQ_EVT_UNDERRUN 1 (.inr rfl))

theorem State.underrunShown_count (s : State) : s.underrunShown.val R.SEQ_UNDERRUN = min (s.val R.SEQ_UNDERRUN + 1) (2 ^ 32 - 1) :=
  (State.val_set_ne _ (f := R.SEQ_EVT_UNDERRUN) 1 (by decide)).trans (s.satCount_val _ _ _ (by decide))

/-! ### The statement -/

/-- Settles O9: each command reaches the state that its lemma describes. -/
theorem vectorConditions : Obligations.VectorConditions := by
  refine ⟨fun s u v h short => ?_, fun s u v at_ wait left cur fired => ?_, fun s u v at_ wait left cur quiet more => ?_,
    fun s u v at_ wait left cur limit reached quiet => ?_, fun s u v h short _ => ?_, fun s u v at_ matching left cur passed => ?_,
    fun s u v at_ matching failed cur limit goes => ?_, fun s u v h short => ?_, fun s u v h short noSet noClr => ?_, fun s u v h short noStep => ?_,
    fun s u v h short inside => ?_, fun s u v h short outside running => ?_, fun s obs ilim i r head due => ?_,
    fun s u runs routine empty started late order => ?_⟩
  · refine answers_of_arm (v := (s.atSeq u).doWaitTrig.seqSettle) rfl rfl fun t e mem => ?_
    obtain ⟨entered, next, wait, fired, running⟩ := State.doWaitTrig_dispatch short h
    have settled := e ▸ State.seqSettle_running running
    obtain ⟨addr, last⟩ := settled.entered entered
    exact ⟨addr, settled.next.trans next, last, settled.inWait.trans wait, settled.fired.trans fired, mem⟩
  · refine answers_of_arm (v := (s.atSeq u).doWaitTrig.seqSettle) rfl rfl fun t e mem => ?_
    rw [State.doWaitTrig_fired at_ wait left cur fired] at e
    have settled := e ▸ State.seqSettle_unordered (s := (s.atSeq u).waitEnd (s.atSeq u).seq.next) (State.ending_of_atDispatch at_)
    exact ⟨settled.inWait, settled.next, settled.pipe, mem⟩
  · refine answers_of_arm (v := (s.atSeq u).doWaitTrig.seqSettle) rfl rfl fun t e mem => ?_
    rw [State.doWaitTrig_again at_ wait left cur quiet more] at e
    have issued := (s.atSeq u).issue_issued { (s.atSeq u).plainInst v with isWait := true }
    have settled := e ▸ State.seqSettle_running issued.running
    have one := State.enters_one (s := s.atSeq u) (i := { (s.atSeq u).plainInst v with isWait := true }) rfl
    refine ⟨settled.inWait.trans (issued.inWait.trans wait), ?_, mem⟩
    refine (congrArg (fun p => (List.getLast? p).map (fun i => (i.addr, i.chars, i.tset, i.reps))) settled.pipe).trans ?_
    rw [issued.last, Option.map_some, one]
    rfl
  · refine answers_of_arm (v := (s.atSeq u).doWaitTimeout.seqSettle) rfl rfl fun t e mem => ?_
    obtain ⟨event, wait, next, order⟩ := State.doWaitTimeout_ends at_ wait left cur limit reached quiet
    have settled := e ▸ State.seqSettle_unordered order
    exact ⟨(settled.is (by decide) (by decide) (by decide)).trans event, settled.inWait.trans wait, settled.next.trans next, mem⟩
  · refine answers_of_arm (v := (s.atSeq u).doMatch) rfl rfl fun t e mem => ?_
    obtain ⟨entered, next, matching⟩ := e ▸ State.doMatch_dispatch short h
    exact ⟨entered.addr, next, entered.last, matching, mem⟩
  · refine answers_of_arm (congrArg (done s) (State.doMatch_passed at_ matching left cur passed)) rfl fun t e mem => ?_
    have regs := OnRegs.put (w := fun a => a = R.SEQ_MATCH_REPS) (s.atSeq u) (s.atSeq u).seq.issued rfl
    subst e
    exact ⟨rfl, (s.atSeq u).matchEnd_reps, rfl, mem, regs.kept⟩
  · refine answers_of_arm (v := (s.atSeq u).doMatchLimit) rfl rfl fun t e mem => ?_
    obtain ⟨event, ended, reps⟩ := e ▸ State.doMatchLimit_goes at_ matching failed cur limit goes
    exact ⟨event, ended, reps, mem⟩
  · refine answers_of_arm (congrArg (fun t : State => done s t.seqSettle) (State.opcode_of_dispatchVec h)) rfl fun t e mem => ?_
    let i := { ((s.atSeq u).dispatch v).plainInst v with align := some (v.opa % 4096) }
    obtain ⟨entered, next, last⟩ := State.dispatch_issue_with (v := v) short i rfl rfl rfl rfl
    have settled := e ▸ State.seqSettle_running (((s.atSeq u).dispatch v).issue_issued i).running
    obtain ⟨addr, key⟩ := settled.entered entered
    refine ⟨addr, settled.next.trans next, key, ?_, mem⟩
    exact (congrArg (fun p => (List.getLast? p).bind Inst.align) settled.pipe).trans (congrArg (fun p => Option.bind p Inst.align) last)
  · refine answers_of_arm (congrArg (done s) (State.opcode_of_dispatchVec h)) rfl fun t e mem => ?_
    let i := { ((s.atSeq u).dispatch v).plainInst v with fset := v.opa % 256, fclr := v.opa / 256, fevt := v.opb % 2 == 1 }
    obtain ⟨entered, next, last⟩ := e ▸ State.dispatch_issue_with (v := v) short i rfl rfl rfl rfl
    have flags : (((s.atSeq u).dispatch v).enters i).fset = v.opa % 256 ∧ (((s.atSeq u).dispatch v).enters i).fclr = v.opa / 256 := by
      rw [State.enters, show ((s.atSeq u).dispatch v).seq.pendSet = 0 from noSet, show ((s.atSeq u).dispatch v).seq.pendClr = 0 from noClr]
      exact ⟨Nat.zero_or _, Nat.zero_or _⟩
    refine ⟨entered.addr, next, entered.last, ?_, mem, entered.regs⟩
    refine (congrArg (Option.map (fun i => (i.fset, i.fclr, i.fevt))) last).trans ?_
    rw [Option.map_some, flags.1, flags.2]
    rfl
  · refine answers_of_arm (congrArg (done s) (State.opcode_of_dispatchVec h)) rfl fun t e mem => ?_
    let i := { ((s.atSeq u).dispatch v).plainInst v with gstep := v.opc % 2 ^ 48 }
    obtain ⟨entered, next, last⟩ := e ▸ State.dispatch_issue_with (v := v) short i rfl rfl rfl rfl
    have steps : (((s.atSeq u).dispatch v).enters i).gstep = v.opc % 2 ^ 48 := by
      rw [State.enters, show ((s.atSeq u).dispatch v).seq.pendStep = 0 from noStep]
      exact Nat.zero_or _
    refine ⟨entered.addr, next, entered.last, ?_, mem, entered.regs⟩
    exact (congrArg (Option.map Inst.gstep) last).trans (congrArg some steps)
  · refine answers_of_arm (v := (s.atSeq u).doCustom) rfl rfl fun t e mem => ?_
    obtain ⟨shown, routine, mpc, micro, next⟩ := e ▸ State.doCustom_enters short h inside
    exact ⟨shown.addr, routine, mpc, micro, next, mem, shown.regs⟩
  · refine answers_of_arm (congrArg (done s) (State.doCustom_halt h outside)) rfl fun t e mem => ?_
    obtain ⟨-, next, pipe, ending⟩ := e ▸ State.heldBack_waits (v := v) short 0x09 running
    exact ⟨ending, pipe, next, mem⟩
  · refine answers_of_arm (congrArg (done s) (State.doInstanceStart_due obs ilim head due)) rfl fun t e _ => ?_
    exact e ▸ (s.reachF (s.headStart i)).startInstance_start i obs ilim
  · have counted : (s.atSeq u).doUnderrun = (s.atSeq u).underrunShown.setSeq { (s.atSeq u).seq with fresh := true } :=
      if_pos ⟨runs, routine, empty, by rw [started]; rfl, late, order⟩
    refine answers_of_arm (congrArg (done s) counted) rfl fun t e mem => ?_
    have regs := (s.atSeq u).underrunShown_regs
    subst e
    exact ⟨(s.atSeq u).underrunShown_count, State.is_set_one _ (by decide), rfl, mem, regs.kept⟩

end Sys2Proof.Machine
end

section
/-! PROOFS. The micro-ops that compute a micro-register (R161–R163): O11. -/

namespace Sys2Proof.Machine

/-! ### A micro-op of a running routine -/

section
variable {s : State} {w : MicroWord}

theorem State.micro_runs {c : Nat} (f : State → MicroWord → State) (runs : s.microRuns = true) (free : s.seq.stalled = false) (now : s.microNow = w)
    (code : w.mop = c) : s.micro c f = f s w := by
  subst now
  exact if_pos ⟨runs, by rw [free]; rfl, code⟩

theorem State.microGo_inside {a : Nat} (low : 0xC000 ≤ a) (high : a ≤ 0xFFFF) : s.microGo a = s.setSeq { s.seq with mpc := a } :=
  if_neg (by omega)

/-- The next microword follows, short of the end of the customer region. -/
theorem State.microStep_inside (low : 0xC000 ≤ s.seq.mpc) (high : s.seq.mpc < 0xFFFF) :
    s.microStep = s.setSeq { s.seq with mpc := s.seq.mpc + 1 } := State.microGo_inside (by omega) (by omega)

/-- The immediate of a microword has 16 bits (R161). -/
theorem imm_lt_of_microNow (now : s.microNow = w) : w.imm < 2 ^ 16 := now ▸ fieldOf_lt _ 0 16
end

/-! ### Micro-registers (R161) -/

section
variable (s : State) (k v : Nat)

theorem State.setUreg_regs : OnRegs (fun a => a = R.SEQ_UREG k) s (s.setUreg k v) := .ite (.refl _ s) (.put s v rfl)

/-- A micro-register reads what was written to it; U0 reads 0. -/
theorem State.ureg_setUreg : (s.setUreg k v).ureg k = if k = 0 then 0 else v % 2 ^ 32 := by
  by_cases zero : k = 0
  · rw [State.ureg, if_pos zero, if_pos zero]
  · rw [State.ureg, if_neg zero, if_neg zero, State.setUreg, if_neg zero, State.val_put_self]
end

/-- `t` is `s` after a micro-op that leaves `r` in the micro-register D and goes on. -/
structure Computed (s t : State) (d r : Nat) : Prop where
  result : t.ureg d = if d = 0 then 0 else r
  mpc : t.seq.mpc = s.seq.mpc + 1
  pipe : t.seq.pipe = s.seq.pipe
  next : t.seq.next = s.seq.next
  regs : RegsKept s t (fun a => a = R.SEQ_UREG d)

theorem State.setUreg_computed {s : State} {d v r : Nat} (low : 0xC000 ≤ s.seq.mpc) (high : s.seq.mpc < 0xFFFF) (value : v % 2 ^ 32 = r) :
    Computed s (s.setUreg d v).microStep d r := by
  have written := s.setUreg_regs d v
  have result := s.ureg_setUreg d v
  generalize s.setUreg d v = t at written result
  have same := written.seq
  have mpc : t.seq.mpc + 1 = s.seq.mpc + 1 := congrArg (fun q => SeqSt.mpc q + 1) same
  have pipe : t.seq.pipe = s.seq.pipe := congrArg SeqSt.pipe same
  have next : t.seq.next = s.seq.next := congrArg SeqSt.next same
  rw [← same] at low high
  rw [State.microStep_inside low high]
  exact ⟨value ▸ result, mpc, pipe, next, written.kept⟩

/-- What the command of a micro-op answers that writes D. -/
theorem answers_computed {c : Instr} {s t : State} {u : Sub} {d r : Nat} (arm : exec c s = done s t) (storeless : mayStore c = false)
    (computed : Computed (s.atSeq u) t d r) : Answers c s (fun t => t.ureg d = (if d = 0 then 0 else r) ∧ t.seq.mpc = (s.atSeq u).seq.mpc + 1 ∧
      t.mem = s.mem ∧ t.seq.pipe = (s.atSeq u).seq.pipe ∧ t.seq.next = (s.atSeq u).seq.next ∧ RegsKept (s.atSeq u) t (fun a => a = R.SEQ_UREG d)) := by
  refine answers_of_arm arm storeless fun t e mem => ?_
  obtain ⟨result, mpc, pipe, next, regs⟩ := e ▸ computed
  exact ⟨result, mpc, mem, pipe, next, regs⟩

/-- CMPW with a latest result (R162). -/
theorem State.mayStall_cmpw {s : State} {w : MicroWord} {r : Nat × Bool} (code : w.mop = 0x10) (free : s.stallOver w = true)
    (last : s.seq.lastResult = some r) : s.mayStall w = (s.setUreg w.d (if r.2 then 1 else 0)).microStep := by
  rw [State.mayStall, if_pos free, State.runStallOp, code, State.microCmpw, last]
  rfl

/-! ### The statement -/

/-- Settles O11: each micro-op computes its value, which D takes by `setUreg_computed`. -/
theorem microArithmetic : Obligations.MicroArithmetic := by
  have arith {s : State} {w : MicroWord} (f : Nat → Nat → Nat) (low : 0xC000 ≤ s.seq.mpc) (high : s.seq.mpc < 0xFFFF) :
      Computed s (s.arith w f) w.d (f (s.ureg w.a) (s.opB w) % 2 ^ 32) := State.setUreg_computed low high (Nat.mod_mod _ _)
  refine ⟨fun s u w runs free now code low high => ?_, fun s u w runs free now code low high => ?_, fun s u w runs free now code low high => ?_,
    fun s u w runs free now code low high => ?_, fun s u w runs free now code low high => ?_, fun s u w runs free now code low high => ?_,
    fun s u w runs free now code low high => ?_, fun s u w runs free now code low high => ?_, fun s u w runs free now code low high => ?_,
    fun s u w runs free now code low high => ?_, fun s u w runs free now code low high => ?_, fun s u w runs free now code low high => ?_,
    fun s u w r runs free now code low high reached last => ?_⟩
  · refine answers_of_arm (congrArg (done s) ((State.micro_runs _ runs free now code).trans (State.microStep_inside low high))) rfl fun t e mem => ?_
    subst e
    exact ⟨rfl, rfl, mem, rfl, rfl, fun _ _ => rfl⟩
  · have small := imm_lt_of_microNow now
    exact answers_computed (congrArg (done s) (State.micro_runs _ runs free now code)) rfl
      (State.setUreg_computed low high (Nat.mod_eq_of_lt (by omega)))
  · exact answers_computed (congrArg (done s) (State.micro_runs _ runs free now code)) rfl (State.setUreg_computed low high rfl)
  · exact answers_computed (congrArg (done s) (State.micro_runs _ runs free now code)) rfl (arith (fun a b => a + b) low high)
  · exact answers_computed (congrArg (done s) (State.micro_runs _ runs free now code)) rfl (arith (fun a b => a + 2 ^ 32 - b) low high)
  · exact answers_computed (congrArg (done s) (State.micro_runs _ runs free now code)) rfl (arith Nat.land low high)
  · exact answers_computed (congrArg (done s) (State.micro_runs _ runs free now code)) rfl (arith Nat.lor low high)
  · exact answers_computed (congrArg (done s) (State.micro_runs _ runs free now code)) rfl (arith Nat.xor low high)
  · exact answers_computed (congrArg (done s) (State.micro_runs _ runs free now code)) rfl (arith (fun a b => a * 2 ^ (b % 32)) low high)
  · exact answers_computed (congrArg (done s) (State.micro_runs _ runs free now code)) rfl (arith (fun a b => a / 2 ^ (b % 32)) low high)
  · exact answers_computed (congrArg (done s) (State.micro_runs _ runs free now code)) rfl (State.setUreg_computed low high rfl)
  · exact answers_computed (congrArg (done s) (State.micro_runs _ runs free now code)) rfl (State.setUreg_computed low high rfl)
  · have small : (if r.2 then 1 else 0) % 2 ^ 32 = if r.2 then 1 else 0 := by
      cases r.2 <;> rfl
    exact answers_computed (congrArg (done s) ((State.micro_runs _ runs free now code).trans (State.mayStall_cmpw code reached last))) rfl
      (State.setUreg_computed low high small)

end Sys2Proof.Machine
end

section
/-! PROOFS. The micro-ops that branch, call and move the loop and call stacks (R162, R165, R166): O12. -/

namespace Sys2Proof.Machine

/-! ### Where the routine goes on -/

section
variable {s : State} {w : MicroWord}

theorem State.setSeq_microStep {q : SeqSt} (low : 0xC000 ≤ s.seq.mpc) (high : s.seq.mpc < 0xFFFF) (same : q.mpc = s.seq.mpc) :
    (s.setSeq q).microStep = s.setSeq { q with mpc := s.seq.mpc + 1 } := by
  rw [← same] at low high ⊢
  exact State.microStep_inside (s := s.setSeq q) low high

theorem State.doMcall_pushes (high : s.seq.mpc < 0xFFFF) (room : s.seq.micro.length < 8) (inside : 0xC000 ≤ w.imm) (last : w.imm ≤ 0xFFFF) :
    s.doMcall w = s.setSeq { s.seq with micro := s.seq.micro ++ [s.seq.mpc + 1], mpc := w.imm } := by
  rw [State.doMcall, if_neg (by omega), if_neg (by omega), Nat.mod_eq_of_lt (by omega)]
  exact State.microGo_inside inside last

theorem State.doMret_pops {ms : List Nat} {a : Nat} (top : s.seq.micro = ms ++ [a]) (inside : 0xC000 ≤ a) (last : a ≤ 0xFFFF) :
    s.doMret = s.setSeq { s.seq with micro := ms, mpc := a } := by
  rw [State.doMret, top, List.getLast?_concat, List.dropLast_concat]
  exact (if_neg (by omega)).trans (State.microGo_inside inside last)

section
variable (low : 0xC000 ≤ s.seq.mpc) (high : s.seq.mpc < 0xFFFF)
include low high

/-! ### The stacks of the vector opcodes -/

theorem State.microLpush_pushes (room : s.seq.loops.length < 16) : s.microLpush w =
    s.setSeq { s.seq with loops := s.seq.loops ++ [⟨s.val64 R.SEQ_VADDR_LO, s.ureg w.a, 0⟩], mpc := s.seq.mpc + 1 } := by
  rw [State.microLpush, if_neg (by omega)]
  exact State.setSeq_microStep low high rfl

theorem State.microLend_again {fs : List LoopFrame} {f : LoopFrame} (top : s.seq.loops = fs ++ [f]) (more : 1 < f.rem) : s.microLend =
    s.setSeq { s.seq with loops := fs ++ [⟨f.addr, f.rem - 1, (f.idx + 1) % 2 ^ 32⟩], next := f.addr, byLoop := true, mpc := s.seq.mpc + 1 } := by
  rw [State.microLend, State.topLoop_concat top]
  exact (congrArg State.microStep (State.loopDecide_again top more)).trans (State.setSeq_microStep low high rfl)

theorem State.microLend_out {fs : List LoopFrame} {f : LoopFrame} (top : s.seq.loops = fs ++ [f]) (last : f.rem ≤ 1) :
    s.microLend = s.setSeq { s.seq with loops := fs, mpc := s.seq.mpc + 1 } := by
  rw [State.microLend, State.topLoop_concat top]
  exact (congrArg State.microStep (State.loopDecide_out top last)).trans (State.setSeq_microStep low high rfl)

theorem State.microCpush_pushes (room : s.seq.calls.length < 16) : s.microCpush =
    s.setSeq { s.seq with calls := s.seq.calls ++ [succAddr (s.val64 R.SEQ_VADDR_LO)], mpc := s.seq.mpc + 1 } := by
  rw [State.microCpush, if_neg (by omega)]
  exact State.setSeq_microStep low high rfl

theorem State.microCpop_pops {cs : List Nat} {a : Nat} (top : s.seq.calls = cs ++ [a]) :
    s.microCpop = s.setSeq { s.seq with calls := cs, next := a % 2 ^ 40, byLoop := false, mpc := s.seq.mpc + 1 } := by
  rw [State.microCpop, top, List.getLast?_concat, List.dropLast_concat]
  exact State.setSeq_microStep low high rfl

theorem State.goTo_microStep (a : Nat) :
    (s.goTo a).microStep = s.setSeq { s.seq with next := a % 2 ^ 40, byLoop := false, mpc := s.seq.mpc + 1 } := State.setSeq_microStep low high rfl
end
end

/-- `t` is `s` after a micro-op that goes on, with its address of the next instruction. -/
structure NextSet (s t : State) (next : Nat) : Prop where
  next : t.seq.next = next
  mpc : t.seq.mpc = s.seq.mpc + 1
  regs : t.regs = s.regs
  pipe : t.seq.pipe = s.seq.pipe

theorem codeOf_lt (n : Nat) (x : Int) : codeOf n x < 2 ^ n := by
  have modulus : (0 : Int) < (2 ^ n : Nat) := Int.natCast_pos.mpr (Nat.two_pow_pos n)
  exact (Int.toNat_lt_of_ne_zero (Nat.two_pow_pos n).ne').mpr (Int.emod_lt_of_pos x modulus)

section
variable {s : State} (low : 0xC000 ≤ s.seq.mpc) (high : s.seq.mpc < 0xFFFF)
include low high

theorem State.goTo_nextSet {a : Nat} (short : a < 2 ^ 40) : NextSet s (s.goTo a).microStep a := by
  rw [State.goTo_microStep low high, Nat.mod_eq_of_lt short]
  exact ⟨rfl, rfl, rfl, rfl⟩

/-- SETNX: the successor, OPC, an address relative to the instruction, or NEXT as it was (R162). -/
theorem State.microSetnx_nextSet {w : MicroWord} {v : Vec} (cur : s.seq.cur = some v) : NextSet s (s.microSetnx w)
    (if w.x = 0 then succAddr (s.val64 R.SEQ_VADDR_LO) else if w.x = 1 then v.opc % 2 ^ 40
      else if w.x = 2 then codeOf 40 (s.val64 R.SEQ_VADDR_LO + signedOf 32 (s.ureg w.a)) else s.seq.next) := by
  rw [State.microSetnx, cur]
  dsimp only [Option.getD_some]
  split
  · exact State.goTo_nextSet low high (Nat.mod_lt _ (by decide))
  split
  · rw [State.goTo_microStep low high]
    exact ⟨rfl, rfl, rfl, rfl⟩
  split
  · exact State.goTo_nextSet low high (codeOf_lt 40 _)
  · rw [State.microStep_inside low high]
    exact ⟨rfl, rfl, rfl, rfl⟩
end

/-! ### END and HLT -/

/-- END outside a step: the instruction ends, its restart record is void, and NEXT is as the routine left it. -/
theorem State.microEnd_ends {s : State} (steps : s.seq.stepping = false) :
    s.microEnd.is R.SEQ_STAT_CUST_RUN = false ∧ s.microEnd.seq.patches = [] ∧ s.microEnd.seq.micro = [] ∧ s.microEnd.seq.next = s.seq.next ∧
      RegsKept s s.microEnd (fun a => a = R.SEQ_STAT) := by
  let t := s.setSeq { s.seq with patches := [], micro := [] }
  have meaning : s.microEnd = (t.set R.SEQ_STAT_CUST_RUN 0).set R.SEQ_STAT_RSTR_STATE 0 := if_neg (by simp [steps])
  have regs : OnRegs (fun a => a = R.SEQ_STAT) t ((t.set R.SEQ_STAT_CUST_RUN 0).set R.SEQ_STAT_RSTR_STATE 0) :=
    .trans (.set t R.SEQ_STAT_CUST_RUN 0 rfl) (.set _ R.SEQ_STAT_RSTR_STATE 0 rfl)
  rw [meaning]
  exact ⟨(State.is_set_apart _ _ (by decide)).trans (State.is_set_zero _ (by decide)), rfl, rfl, rfl, regs.kept⟩

theorem State.mayStall_hlt {s : State} {w : MicroWord} (code : w.mop = 0x1D) (free : s.stallOver w = true) : s.mayStall w = s.microHlt w := by
  rw [State.mayStall, if_pos free, State.runStallOp, code]
  rfl

theorem State.drained_of_hlt {s : State} {w : MicroWord} (code : w.mop = 0x1D) (free : s.stallOver w = true) :
    s.seq.pipe = [] ∧ s.seq.endAt ≤ s.fU := by
  rw [State.stallOver, code] at free
  have drained : s.drained = true := free
  rwa [State.drained, Bool.and_eq_true, List.isEmpty_iff, decide_eq_true_eq] at drained

/-- HLT after the last of the instances has ended halts with its cause (R162). -/
theorem State.microHlt_halts {s : State} {w : MicroWord} (empty : s.seq.pipe = []) (ran : s.seq.endAt ≤ s.fU) :
    (s.microHlt w).seqState = seqHalted ∧ (s.microHlt w).val R.SEQ_HALT_CAUSE = 0x80 + w.imm % 128 ∧
      (s.microHlt w).is R.SEQ_STAT_CUST_RUN = false := by
  let t := (s.setSeq { s.seq with micro := [], patches := [] }).set R.SEQ_STAT_CUST_RUN 0
  have small : w.imm % 128 < 128 := Nat.mod_lt _ (by decide)
  have halted : Halted (t.set R.SEQ_STAT_RSTR_STATE 0) (s.microHlt w) (0x80 + w.imm % 128) :=
    State.seqEnd_halted (s := t.set R.SEQ_STAT_RSTR_STATE 0) (by omega) (by omega) empty ran
  have stopped : t.is R.SEQ_STAT_CUST_RUN = false := State.is_set_zero _ (by decide)
  refine ⟨halted.state, halted.cause.trans (Nat.mod_eq_of_lt (by omega)), ?_⟩
  refine (State.is_congr _ (halted.get (by decide))).trans ?_
  exact (State.is_set_apart _ _ (by decide)).trans stopped

/-! ### Micro-faults (R166) -/

section
variable {s : State} {id : Nat}

/-- A raise of a field source that is not Fatal and takes no block reset, now or while its event waits, writes only what a report writes. -/
theorem State.fieldFault_reported_of_reactions (data : Nat) (forced : Bool) (contained : Config.faultClass id ≠ 3)
    (edge : (s.reactions id true).testBit reactB = false) (level : (s.reactions id false).testBit reactB = false) :
    Reported s (s.fieldFault id data forced) := by
  have kept (v : State) {taken : Nat} (none : taken.testBit reactB = false) : v.takeBlockReset id taken = v := if_neg (by simp [none])
  unfold State.fieldFault
  split
  · rw [kept _ level]
    exact .fault _ s _
  · extract_lets taken r wasFault s1 s2 s3
    have none : taken.testBit reactB = false := by
      unfold taken
      cases s.faultPend id
      · exact edge
      · exact level
    have h1 : Reported s s1 := .fault _ s _
    have h2 : s2 = s1 := kept s1 none
    have h3 : Reported s2 s3 := .ite s2.dropFieldFaultN_reported (.refl _ s2)
    rw [if_neg contained]
    exact (h2 ▸ h1).trans h3

theorem State.reactions_congr {t : State} (edge : Bool) (chosen : t.rd (R.FLT_ACT id) = s.rd (R.FLT_ACT id)) (resets : t.fault = s.fault) :
    t.reactions id edge = s.reactions id edge := by
  have act : t.faultAct id = s.faultAct id := by
    rw [State.faultAct, State.faultAct, State.get, State.get, show (R.FLT_ACT_REACT id).addr = R.FLT_ACT id from rfl, chosen]
  rw [State.reactions, State.reactions, act, resets]
end

/-- What a micro-fault writes before it raises source 0x43. -/
def State.microFaultShown (s : State) (cause : Nat) : State :=
  let s1 := (((s.set R.USTORE_MFAULT_CAUSE cause).set R.USTORE_MFAULT_MPC s.seq.mpc).set R.USTORE_EVT_MFAULT 1).set R.SEQ_STAT_RSTR_STATE 2
  (s1.setSeq { s1.seq with micro := [], stalled := false, next := s1.val64 R.SEQ_VADDR_LO }).set R.SEQ_STAT_CUST_RUN 0

section
variable (s : State) (cause : Nat)

/-- The record of a micro-fault lies in the blocks SEQ and USTORE. -/
theorem State.microFaultShown_rd {a : Nat} (ha : ¬ InSeq a) : (s.microFaultShown cause).rd a = s.rd a := by
  have apart {f : Fld} (hf : InSeq f.addr) : a ≠ f.addr := fun e => ha (e ▸ hf)
  refine (State.rd_set_ne _ R.SEQ_STAT_CUST_RUN _ (apart (by decide))).trans ?_
  refine (State.rd_set_ne _ R.SEQ_STAT_RSTR_STATE _ (apart (by decide))).trans ?_
  refine (State.rd_set_ne _ R.USTORE_EVT_MFAULT _ (apart (by decide))).trans ?_
  exact (State.rd_set_ne _ R.USTORE_MFAULT_MPC _ (apart (by decide))).trans (State.rd_set_ne _ R.USTORE_MFAULT_CAUSE _ (apart (by decide)))

theorem State.microFaultShown_stopped : (s.microFaultShown cause).is R.SEQ_STAT_CUST_RUN = false := State.is_set_zero _ (by decide)

theorem State.microFaultShown_restart : (s.microFaultShown cause).get R.SEQ_STAT_RSTR_STATE = 2 :=
  (State.get_set_apart _ _ (by decide)).trans (State.get_set_self _ _ (by decide))

theorem State.microFaultShown_event : (s.microFaultShown cause).is R.USTORE_EVT_MFAULT = true := by
  refine (State.is_set_apart (g := R.SEQ_STAT_CUST_RUN) _ _ (by decide)).trans ?_
  exact (State.is_set_apart (g := R.SEQ_STAT_RSTR_STATE) _ _ (by decide)).trans (State.is_set_one _ (by decide))

theorem State.microFaultShown_cause (small : cause < 2 ^ 8) : (s.microFaultShown cause).get R.USTORE_MFAULT_CAUSE = cause := by
  refine (State.get_set_apart (g := R.SEQ_STAT_CUST_RUN) _ _ (by decide)).trans ?_
  refine (State.get_set_apart (g := R.SEQ_STAT_RSTR_STATE) _ _ (by decide)).trans ?_
  refine (State.get_set_apart (g := R.USTORE_EVT_MFAULT) _ _ (by decide)).trans ?_
  refine (State.get_set_apart (g := R.USTORE_MFAULT_MPC) _ _ (by decide)).trans ?_
  rw [State.get_set_self _ _ (by decide)]
  exact Nat.mod_eq_of_lt small
end

/-- A micro-fault after the last of the instances has ended, where source 0x43 takes no block reset. -/
theorem State.microFault_halts {s : State} {cause : Nat} (empty : s.seq.pipe = []) (ran : s.seq.endAt ≤ s.fU)
    (edge : (s.reactions 0x43 true).testBit reactB = false) (level : (s.reactions 0x43 false).testBit reactB = false)
    (h : cause ≠ 0x0F) (h' : cause ≠ 0x12) : Halted (s.microFaultShown cause) (s.microFault cause) cause := by
  have react (b : Bool) : (s.microFaultShown cause).reactions 0x43 b = s.reactions 0x43 b :=
    State.reactions_congr b (s.microFaultShown_rd cause (by decide)) rfl
  have told : Reported (s.microFaultShown cause) ((s.microFaultShown cause).fieldFault 0x43 cause) :=
    State.fieldFault_reported_of_reactions cause false (by decide) ((react true).symm ▸ edge) ((react false).symm ▸ level)
  show Halted _ (((s.microFaultShown cause).fieldFault 0x43 cause).seqEnd seqHalted cause) cause
  generalize (s.microFaultShown cause).fieldFault 0x43 cause = t at told
  have settled : Settled (s.microFaultShown cause) t := ⟨⟨_, told.seq⟩, told.time, fun hf _ _ => (SeqKept.of_reported told).get hf⟩
  have quiet : t.seq.pipe = [] := settled.pipe.trans empty
  have ended : t.seq.endAt ≤ t.fU := by
    rw [told.seq, settled.fU]
    exact ran
  exact (State.seqEnd_halted h h' quiet ended).of_settled settled

/-- What a micro-fault leaves: its registers beside those of the halt. -/
theorem Halted.record {s t : State} {cause : Nat} (h : Halted (s.microFaultShown cause) t cause) (small : cause < 2 ^ 8) :
    t.get R.USTORE_MFAULT_CAUSE = cause ∧ t.is R.USTORE_EVT_MFAULT = true ∧ t.is R.SEQ_STAT_CUST_RUN = false ∧ t.get R.SEQ_STAT_RSTR_STATE = 2 := by
  refine ⟨(h.get (by decide)).trans (s.microFaultShown_cause cause small), ?_, ?_, ?_⟩
  · exact (State.is_congr _ (h.get (by decide))).trans (s.microFaultShown_event cause)
  · exact (State.is_congr _ (h.get (by decide))).trans (s.microFaultShown_stopped cause)
  · exact (h.get (by decide)).trans (s.microFaultShown_restart cause)

/-! ### The statement -/

/-- Settles O12: each micro-op reaches the state that its lemma writes out. -/
theorem microFlow : Obligations.MicroFlow := by
  refine ⟨fun s u w runs free now code low high taken inside last => ?_, fun s u w runs free now code low high taken => ?_,
    fun s u w runs free now code low high room inside last => ?_, fun s u w ms a runs free now code low high top inside last => ?_,
    fun s u w runs free now code low high room => ?_, fun s u w fs f runs free now code low high top more => ?_,
    fun s u w fs f runs free now code low high top last => ?_, fun s u w runs free now code low high room => ?_,
    fun s u w cs a runs free now code low high top => ?_, fun s u w v runs free now code low high cur => ?_,
    fun s u w runs free now code low high steps => ?_, fun s u w runs free now code low high reached => ?_,
    fun s u runs free code empty ran edge level => ?_⟩
  · have arm := State.micro_runs (fun t w => if brTaken w.x (t.ureg w.a) then t.microGo w.imm else t.microStep) runs free now code
    refine answers_of_arm (congrArg (done s) (arm.trans ((if_pos taken).trans (State.microGo_inside inside last)))) rfl fun t e mem => ?_
    subst e
    exact ⟨rfl, mem, rfl, rfl⟩
  · have arm := State.micro_runs (fun t w => if brTaken w.x (t.ureg w.a) then t.microGo w.imm else t.microStep) runs free now code
    refine answers_of_arm (congrArg (done s) (arm.trans ((if_neg (by simp [taken])).trans (State.microStep_inside low high)))) rfl fun t e mem => ?_
    subst e
    exact ⟨rfl, mem, rfl, rfl⟩
  · refine answers_of_arm (congrArg (done s) ((State.micro_runs _ runs free now code).trans (State.doMcall_pushes high room inside last))) rfl
      fun t e mem => ?_
    subst e
    exact ⟨rfl, rfl, mem, rfl, rfl⟩
  · refine answers_of_arm (congrArg (done s) ((State.micro_runs _ runs free now code).trans (State.doMret_pops top inside last))) rfl
      fun t e mem => ?_
    subst e
    exact ⟨rfl, rfl, mem, rfl, rfl⟩
  · refine answers_of_arm (congrArg (done s) ((State.micro_runs _ runs free now code).trans (State.microLpush_pushes low high room))) rfl
      fun t e mem => ?_
    subst e
    exact ⟨rfl, rfl, mem, rfl, rfl⟩
  · refine answers_of_arm (congrArg (done s) ((State.micro_runs _ runs free now code).trans (State.microLend_again low high top more))) rfl
      fun t e mem => ?_
    subst e
    exact ⟨rfl, rfl, rfl, mem, rfl, rfl⟩
  · refine answers_of_arm (congrArg (done s) ((State.micro_runs _ runs free now code).trans (State.microLend_out low high top last))) rfl
      fun t e mem => ?_
    subst e
    exact ⟨rfl, rfl, rfl, mem, rfl, rfl⟩
  · refine answers_of_arm (congrArg (done s) ((State.micro_runs _ runs free now code).trans (State.microCpush_pushes low high room))) rfl
      fun t e mem => ?_
    subst e
    exact ⟨rfl, rfl, mem, rfl, rfl⟩
  · refine answers_of_arm (congrArg (done s) ((State.micro_runs _ runs free now code).trans (State.microCpop_pops low high top))) rfl
      fun t e mem => ?_
    subst e
    exact ⟨rfl, rfl, rfl, mem, rfl, rfl⟩
  · refine answers_of_arm (congrArg (done s) (State.micro_runs _ runs free now code)) rfl fun t e mem => ?_
    obtain ⟨next, mpc, regs, pipe⟩ := e ▸ State.microSetnx_nextSet low high (w := w) cur
    exact ⟨next, mpc, mem, regs, pipe⟩
  · refine answers_of_arm (congrArg (done s) (State.micro_runs (fun t _ => t.microEnd) runs free now code)) rfl fun t e mem => ?_
    obtain ⟨stopped, patches, micro, next, regs⟩ := e ▸ State.microEnd_ends steps
    exact ⟨stopped, patches, micro, next, mem, regs⟩
  · refine answers_of_arm (congrArg (done s) ((State.micro_runs _ runs free now code).trans (State.mayStall_hlt code reached))) rfl fun t e mem => ?_
    obtain ⟨empty, ran⟩ := State.drained_of_hlt code reached
    obtain ⟨state, cause, stopped⟩ := e ▸ State.microHlt_halts (w := w) empty ran
    exact ⟨state, cause, stopped, mem⟩
  · have fault : (s.atSeq u).doIllegalMicro = (s.atSeq u).microFault 0x0A := if_pos ⟨runs, by rw [free]; rfl, code⟩
    refine answers_of_arm (congrArg (done s) fault) rfl fun t e mem => ?_
    have halted := e ▸ State.microFault_halts empty ran edge level (by decide) (by decide)
    obtain ⟨cause, event, stopped, restart⟩ := halted.record (by decide)
    exact ⟨cause, event, stopped, restart, halted.state, mem⟩

end Sys2Proof.Machine
end

section
/-! PROOFS. Control of the sequencer (R145–R151, R155, R159, R174, R194): O10. -/

namespace Sys2Proof.Machine

/-- What a command answers that sets one bit and does no more. -/
theorem answers_of_set {c : Instr} {s v : State} {a lo : Nat} (arm : exec c s = done s (v.set ⟨a, lo, 1⟩ 1)) (storeless : mayStore c = false)
    (word : lo + 1 ≤ 32) : Answers c s (fun t => t.is ⟨a, lo, 1⟩ = true ∧ t.seq = v.seq ∧ t.mem = s.mem ∧ RegsKept v t (fun b => b = a)) := by
  refine answers_of_arm arm storeless fun t e mem => ?_
  have regs : OnRegs (fun b => b = a) v (v.set ⟨a, lo, 1⟩ 1) := .set v ⟨a, lo, 1⟩ 1 rfl
  subst e
  exact ⟨State.is_set_one _ word, rfl, mem, regs.kept⟩

/-! ### Start and resume (R145, R149) -/

/-- `t` is `s` after a START that is accepted. -/
structure Launched (s t : State) : Prop where
  state : t.seqState = seqRunning
  loops : t.seq.loops = []
  calls : t.seq.calls = []
  next : t.seq.next = s.addrReg R.SEQ_START_ADDR_LO
  vcount : t.val64 R.SEQ_VCOUNT_LO = 0
  startAt : t.seq.startAt = some (s.boundaryFrom 192)

/-- The registers that a START writes. -/
def State.launchShown (s : State) (a : Nat) : State :=
  let s2 := (s.putAll rstrRegs 0).set R.SEQ_STAT_RSTR_STATE 0
  ((s2.put64 R.SEQ_VCOUNT_LO 0).put64 R.SEQ_VADDR_LO a).set R.SEQ_STAT_STATE seqRunning

section
variable (s : State) (a : Nat)

theorem State.launchShown_state : (s.launchShown a).seqState = seqRunning := State.get_set_self (f := R.SEQ_STAT_STATE) _ _ (by decide)

theorem State.launchShown_vcount : (s.launchShown a).val64 R.SEQ_VCOUNT_LO = 0 := by
  unfold State.launchShown
  extract_lets s2
  have other : OnRegs (fun b => b ≠ R.SEQ_VCOUNT_LO ∧ b ≠ R.SEQ_VCOUNT_LO + 4) (s2.put64 R.SEQ_VCOUNT_LO 0)
      (((s2.put64 R.SEQ_VCOUNT_LO 0).put64 R.SEQ_VADDR_LO a).set R.SEQ_STAT_STATE seqRunning) :=
    .trans (.trans (.put _ _ (by decide)) (.put _ _ (by decide))) (.set _ R.SEQ_STAT_STATE seqRunning (by decide))
  exact (other.val64 (by decide) (by decide)).trans (State.val64_put64 _ _)

theorem State.launchShown_seq : (s.launchShown a).seq = s.seq := by
  have cleared : OnRegs (fun _ => True) s (s.putAll rstrRegs 0) := .putAll rstrRegs 0 (fun _ _ => trivial) s
  unfold State.launchShown
  generalize s.putAll rstrRegs 0 = t at cleared
  exact cleared.seq
end

theorem State.seqLaunch_launched (s : State) : Launched s s.seqLaunch := by
  unfold State.seqLaunch
  extract_lets a s1 held q s2
  show Launched s ((s1.setSeq q).launchShown a)
  have seq : ((s1.setSeq q).launchShown a).seq = q := State.launchShown_seq _ a
  refine ⟨State.launchShown_state _ a, ?_, ?_, ?_, State.launchShown_vcount _ a, ?_⟩
  all_goals rw [seq]
/-- A RESUME without an exact restart continues from SEQ_VADDR. -/
theorem State.doSeqResume_continues {s : State} (on : s.powered R.SEQ_CTRL = true) (halted : s.seqState = seqHalted)
    (cause : noResume (s.val R.SEQ_HALT_CAUSE) = false) (inexact : s.get R.SEQ_STAT_RSTR_STATE = 0) (may : s.mayRun = true) :
    s.doSeqResume.seqState = seqRunning ∧ s.doSeqResume.seq.next = s.addrReg R.SEQ_VADDR_LO ∧ s.doSeqResume.is R.SEQ_STAT_CUST_RUN = false ∧
      RegsKept s s.doSeqResume (fun a => a = R.SEQ_STAT) := by
  let t := s.setSeq
    { s.seq with fresh := true, resumed := true, startAt := none, stepping := false, stalled := false, next := s.addrReg R.SEQ_VADDR_LO }
  have accepted : s.seqState = seqHalted ∧ (!noResume (s.val R.SEQ_HALT_CAUSE)) = true ∧ s.get R.SEQ_STAT_RSTR_STATE ≠ 2 ∧ s.mayRun = true :=
    ⟨halted, by rw [cause]; rfl, by rw [inexact]; decide, may⟩
  have meaning : s.doSeqResume = (t.set R.SEQ_STAT_CUST_RUN 0).set R.SEQ_STAT_STATE seqRunning := by
    rw [State.doSeqResume, State.ifOn_of_powered _ on]
    refine (if_pos accepted).trans ?_
    rw [inexact]
    rfl
  have stopped : (t.set R.SEQ_STAT_CUST_RUN 0).is R.SEQ_STAT_CUST_RUN = false := State.is_set_zero _ (by decide)
  have regs : OnRegs (fun a => a = R.SEQ_STAT) t ((t.set R.SEQ_STAT_CUST_RUN 0).set R.SEQ_STAT_STATE seqRunning) :=
    .trans (.set t R.SEQ_STAT_CUST_RUN 0 rfl) (.set _ R.SEQ_STAT_STATE seqRunning rfl)
  rw [meaning]
  exact ⟨State.get_set_self (f := R.SEQ_STAT_STATE) _ _ (by decide), rfl, (State.is_set_apart _ _ (by decide)).trans stopped, regs.kept⟩

/-- Clearing PAUSE in PAUSED (R147). -/
theorem State.doPauseClear_continues {s : State} (on : s.powered R.SEQ_CTRL = true) (paused : s.seqState = seqPaused) :
    s.doPauseClear.is R.SEQ_CTRL_PAUSE = false ∧ s.doPauseClear.seqState = seqRunning ∧
      RegsKept s s.doPauseClear (fun a => a = R.SEQ_CTRL ∨ a = R.SEQ_STAT) := by
  let t := (s.set R.SEQ_CTRL_PAUSE 0).setSeq { s.seq with fresh := true }
  have still : (s.set R.SEQ_CTRL_PAUSE 0).seqState = seqPaused := (State.get_set_ne _ _ _ _ (by decide)).trans paused
  have meaning : s.doPauseClear = t.set R.SEQ_STAT_STATE seqRunning := (State.ifOn_of_powered _ on).trans (if_pos still)
  have clear : t.is R.SEQ_CTRL_PAUSE = false := State.is_set_zero s (by decide)
  have regs : OnRegs (fun a => a = R.SEQ_CTRL ∨ a = R.SEQ_STAT) s (s.set R.SEQ_CTRL_PAUSE 0) := .set s R.SEQ_CTRL_PAUSE 0 (.inl rfl)
  rw [meaning]
  refine ⟨(State.is_set_apart _ _ (by decide)).trans clear, State.get_set_self (f := R.SEQ_STAT_STATE) _ _ (by decide), fun a other => ?_⟩
  exact (State.rd_set_ne t R.SEQ_STAT_STATE _ fun stat => other (.inr stat)).trans (regs.kept a other)

/-! ### Requests of the vector class (R146, R147) -/

section
variable {s : State}

theorem State.cutPipe_empty (empty : s.seq.pipe = []) : s.cutPipe = s := by
  rw [State.cutPipe, empty]
  rfl

theorem State.takeVectorRequest_stop {c : Nat} (point : s.atVectorPoint = true) (stop : s.seq.stopReq = some c)
    (active : s.seqState = seqRunning ∨ s.seqState = seqPaused) (empty : s.seq.pipe = []) :
    s.takeVectorRequest = (s.setSeq { s.seq with stopReq := none }).seqEnd seqHalted c := by
  rw [State.takeVectorRequest, if_neg (by simp [point]), stop]
  refine (if_pos active).trans ?_
  rw [State.cutPipe_empty empty]

theorem State.takeVectorRequest_pause (point : s.atVectorPoint = true) (stop : s.seq.stopReq = none) (running : s.seqState = seqRunning)
    (pause : s.is R.SEQ_CTRL_PAUSE = true) (steps : s.seq.stepping = false) (empty : s.seq.pipe = []) :
    s.takeVectorRequest = s.seqEnd seqPaused 0 := by
  rw [State.takeVectorRequest, if_neg (by simp [point]), stop]
  refine (if_pos ⟨running, pause, by rw [steps]; rfl⟩).trans ?_
  rw [State.cutPipe_empty empty]

theorem State.takeVectorRequest_jump (point : s.atVectorPoint = true) (stop : s.seq.stopReq = none) (running : s.seqState = seqRunning)
    (pause : s.is R.SEQ_CTRL_PAUSE = false) (jump : s.seq.jumpReq = true) (left : s.seq.left = 0) (wait : s.seq.inWait = false)
    (matching : s.seq.matching = false) : s.takeVectorRequest =
      (s.setSeq { s.seq with jumpReq := false, next := s.addrReg R.SEQ_JUMP_ADDR_LO, byLoop := false }).set R.SEQ_STAT_OVERDRAFT 0 := by
  rw [State.takeVectorRequest, if_neg (by simp [point]), stop]
  refine (if_neg (by simp [pause])).trans (if_pos ⟨running, jump, left, ?_, ?_⟩)
  · rw [wait]
    rfl
  · rw [matching]
    rfl
end

/-! ### Overdrafts (R155, R284) -/

section
variable (s : State) (p : Nat)

theorem cmpPStat_not_inSeq : ¬ InSeq (R.CMP_P_STAT p) := by
  simp only [InSeq, R.CMP_P_STAT]
  omega

theorem State.refAbsent_seqKept (t : Int) : SeqKept s (s.refAbsent p t) := by
  unfold State.refAbsent State.sideAbsent
  extract_lets x x1
  have absent : SeqKept s (s.setPair p x1) := fun _ _ => rfl
  exact .ite (.refl s) (absent.set (cmpPStat_not_inSeq p))

theorem State.pairState_seqKept (v : Nat) : SeqKept s (s.pairState p v) := by
  unfold State.pairState
  extract_lets s1
  have state : SeqKept s s1 := (SeqKept.refl s).set (cmpPStat_not_inSeq p)
  refine .ite (state.trans (.foldl ?_ _ s1)) state
  intro t q
  exact .ite ((SeqKept.refl t).set (cmpPStat_not_inSeq q)) (.refl t)

theorem State.cmpEvt_seqKept (code b : Nat) : SeqKept s (s.cmpEvt p code b) :=
  .ite (.refl s) (.of_field (s.fieldEvent_field _ _ _ _ _) fun _ => False.elim)

/-- The break of a replay writes the registers of the compare engine only. -/
theorem State.replayBreak_seqKept (k start : Nat) : SeqKept s (s.replayBreak k start) := by
  unfold State.replayBreak
  split
  · extract_lets ps held s1 s2
    have gap : SeqKept s s1 := fun _ _ => rfl
    have event : SeqKept s1 s2 := .ite (.refl s1) ((SeqKept.refl s1).set (by decide))
    split
    · refine gap.trans (.foldl ?_ _ s1)
      intro t p
      exact t.refAbsent_seqKept p _
    · refine (gap.trans event).trans (.foldl ?_ _ s2)
      intro t p
      have broken : SeqKept t ((t.refAbsent p start).pairState p 5) := (t.refAbsent_seqKept p _).trans (State.pairState_seqKept _ p 5)
      exact broken.trans (State.cmpEvt_seqKept _ p _ _)
  · exact .refl s
end

/-- `t` is `s` after an overdraft that stalls the sequencer. -/
structure Overdrawn (s t : State) : Prop where
  stalls : t.is R.SEQ_STAT_OVERDRAFT = true
  event : t.is R.SEQ_EVT_OVERDRAFT = true
  count : t.val R.SEQ_OD_COUNT = min (s.val R.SEQ_OD_COUNT + 1) (2 ^ 32 - 1)
  state : t.seqState = s.seqState

/-- What is noted of an overdraft: its count, SEQ_OD_LAST and the event. -/
def State.overdraftNoted (s : State) : State :=
  ((s.satCount R.SEQ_OD_COUNT 32 1 R.SEQ_EVT_SATURATED).1.replaceResult R.SEQ_OD_LAST_LO R.SEQ_OD_LAST_GEN s.fNow.pack).seqEvt
    R.SEQ_EVT_OVERDRAFT 0x0002 (leBytes 4 0 ++ leBytes 5 s.seq.next)

section
variable (s : State)

theorem State.overdraftNoted_event : s.overdraftNoted.is R.SEQ_EVT_OVERDRAFT = true := by
  unfold State.overdraftNoted
  exact State.evt_is _ _ _ _ _ (by decide)

/-- The registers that note an overdraft. -/
abbrev OverdraftRegs (a : Nat) : Prop := a = R.SEQ_OD_COUNT ∨ a = R.SEQ_EVT ∨ a = R.SEQ_OD_LAST_LO ∨ a = R.SEQ_OD_LAST_LO + 4 ∨ a = R.SEQ_OD_LAST_GEN

theorem State.overdraftNoted_field : OnField OverdraftRegs s s.overdraftNoted := by
  have counted : OnField OverdraftRegs s (s.satCount R.SEQ_OD_COUNT 32 1 R.SEQ_EVT_SATURATED).1 := (s.satCount_field _ _ _ _).mono (by tauto)
  have last := ((s.satCount R.SEQ_OD_COUNT 32 1 R.SEQ_EVT_SATURATED).1.replaceResult_field R.SEQ_OD_LAST_LO R.SEQ_OD_LAST_GEN s.fNow.pack 0).mono
    (w' := OverdraftRegs) (by tauto)
  exact (counted.trans last).trans ((State.seqEvt_field _ _ _ _).mono (by tauto))

theorem State.overdraftNoted_count : s.overdraftNoted.val R.SEQ_OD_COUNT = min (s.val R.SEQ_OD_COUNT + 1) (2 ^ 32 - 1) := by
  have event := State.seqEvt_field ((s.satCount R.SEQ_OD_COUNT 32 1 R.SEQ_EVT_SATURATED).1.replaceResult R.SEQ_OD_LAST_LO R.SEQ_OD_LAST_GEN s.fNow.pack)
    R.SEQ_EVT_OVERDRAFT 0x0002 (leBytes 4 0 ++ leBytes 5 s.seq.next)
  have last := (s.satCount R.SEQ_OD_COUNT 32 1 R.SEQ_EVT_SATURATED).1.replaceResult_field R.SEQ_OD_LAST_LO R.SEQ_OD_LAST_GEN s.fNow.pack 0
  refine (State.val_of_rd (event.rd (by decide))).trans ((State.val_of_rd (last.rd (by decide))).trans ?_)
  exact s.satCount_val _ _ _ (by decide)
end

/-- An overdraft where OD_ACTION reads 0. -/
theorem State.doSeqOverdraft_stalls {s : State} (running : s.seqState = seqRunning) (first : s.is R.SEQ_STAT_OVERDRAFT = false)
    (order : s.seq.ending = none) (routine : s.is R.SEQ_STAT_CUST_RUN = false) (left : s.seq.left = 0) (wait : s.seq.inWait = false)
    (matching : s.seq.matching = false) (stop : s.seq.stopReq = none) (absent : s.resident s.seq.next = false) (late : s.issueTooLate = true)
    (action : s.is R.SEQ_CTRL_OD_ACTION = false) : Overdrawn s s.doSeqOverdraft := by
  unfold State.doSeqOverdraft
  rw [if_pos ⟨running, by rw [first]; rfl, order, by rw [routine]; rfl, left, by rw [wait]; rfl, by rw [matching]; rfl, stop, by rw [absent]; rfl, late⟩]
  extract_lets gap s1 s2 s3 held s4 s5
  have noted : OnField OverdraftRegs s s3 := s.overdraftNoted_field
  have event : s3.is R.SEQ_EVT_OVERDRAFT = true := s.overdraftNoted_event
  have count : s3.val R.SEQ_OD_COUNT = min (s.val R.SEQ_OD_COUNT + 1) (2 ^ 32 - 1) := s.overdraftNoted_count
  have kept : SeqKept s3 s5 := s4.replayBreak_seqKept 48 gap
  clear_value s5
  have stalls : s5.is R.SEQ_CTRL_OD_ACTION = false := (State.is_congr _ ((kept.get (by decide)).trans (noted.get (by decide)))).trans action
  rw [if_neg (by simp [stalls])]
  refine ⟨State.is_set_one _ (by decide), ?_, ?_, ?_⟩
  · exact (State.is_set_apart _ _ (by decide)).trans ((State.is_congr _ (kept.get (by decide))).trans event)
  · exact (State.val_set_ne _ _ (by decide)).trans ((State.val_of_rd (kept _ (by decide))).trans count)
  · exact (State.get_set_apart _ _ (by decide)).trans ((kept.get (by decide)).trans (noted.get (by decide)))

/-! ### The switch of the customer bank (R159) -/

theorem State.putDigest_regs (s : State) (r : Nat → Nat) (d : List Byte) : OnRegs (fun a => ∃ k, a = r k) s (s.putDigest r d) := by
  unfold State.putDigest
  induction List.range 8 generalizing s with
  | nil => exact .refl _ s
  | cons k l ih => exact (OnRegs.put s _ ⟨k, rfl⟩).trans (ih _)

/-- The bank that was not active becomes active. -/
theorem State.doCustSwitch_switches {s : State} (pending : s.is R.USTORE_STAT_CUST_PENDING = true) (routine : s.is R.SEQ_STAT_CUST_RUN = false) :
    s.doCustSwitch.get R.USTORE_STAT_CUST_BANK = 1 - s.get R.USTORE_STAT_CUST_BANK ∧ s.doCustSwitch.is R.USTORE_STAT_CUST_PENDING = false ∧
      s.doCustSwitch.is R.USTORE_EVT_CUST_SWITCH = true := by
  unfold State.doCustSwitch
  rw [if_pos ⟨pending, by rw [routine]; rfl⟩]
  extract_lets b s1
  have bank : s1.get R.USTORE_STAT_CUST_BANK = b := by
    refine (State.get_set_ne _ R.USTORE_EVT_CUST_SWITCH _ _ (by decide)).trans ((State.get_set_apart _ _ (by decide)).trans ?_)
    rw [State.get_set_self _ _ (by decide)]
    exact Nat.mod_eq_of_lt (by show 1 - _ < 2; omega)
  have taken : s1.is R.USTORE_STAT_CUST_PENDING = false := (State.is_set_apart _ _ (by decide)).trans (State.is_set_zero _ (by decide))
  have event : s1.is R.USTORE_EVT_CUST_SWITCH = true := State.is_set_one _ (by decide)
  have digest := s1.putDigest_regs R.USTORE_CUST_DIGEST (Config.shake256 (s1.bankBytes b))
  have other {a : Nat} (low : a < 0x1300020) : ¬ ∃ k, a = R.USTORE_CUST_DIGEST k := by
    rintro ⟨k, rfl⟩
    simp only [R.USTORE_CUST_DIGEST] at low
    omega
  generalize s1.putDigest R.USTORE_CUST_DIGEST (Config.shake256 (s1.bankBytes b)) = t at digest
  exact ⟨(digest.get (other (by decide))).trans bank, (State.is_congr _ (digest.get (other (by decide)))).trans taken,
    (State.is_congr _ (digest.get (other (by decide)))).trans event⟩

/-! ### The statement -/

/-- Settles O10: each request reaches the state that its lemma or its definition writes out. -/
theorem sequencerControl : Obligations.SequencerControl := by
  refine ⟨fun s u on state may => ?_, fun s u on refused => ?_, fun s u on => ?_, fun s u on paused => ?_, fun s u on paused => ?_,
    fun s u on other => ?_, fun s u on active first => ?_, fun s u on => ?_, fun s u c point stop active empty ran float inhibit small => ?_,
    fun s u point stop running pause steps empty ran => ?_, fun s u point stop running pause jump left wait matching => ?_,
    fun s u on state cause inexact may => ?_, fun s u on good => ?_, fun s u on bad => ?_, fun s on => ?_,
    fun s u running first order routine left wait matching stop absent late action => ?_, fun s u pending routine => ?_⟩
  · have arm : (s.atSeq u).doSeqStart = (s.atSeq u).seqLaunch := (State.ifOn_of_powered _ on).trans (if_pos ⟨state, may⟩)
    refine answers_of_arm (congrArg (done s) arm) rfl fun t e mem => ?_
    obtain ⟨state, loops, calls, next, vcount, startAt⟩ := e ▸ (s.atSeq u).seqLaunch_launched
    exact ⟨state, loops, calls, next, vcount, startAt, mem⟩
  · have arm : (s.atSeq u).doSeqStart = (s.atSeq u).set R.SEQ_EVT_REFUSED 1 := (State.ifOn_of_powered _ on).trans (if_neg refused)
    exact answers_of_set (congrArg (done s) arm) rfl (by decide)
  · have arm : (s.atSeq u).doPause = (s.atSeq u).set R.SEQ_CTRL_PAUSE 1 := State.ifOn_of_powered _ on
    exact answers_of_set (congrArg (done s) arm) rfl (by decide)
  · obtain ⟨clear, state, regs⟩ := State.doPauseClear_continues on paused
    refine answers_of_arm (v := (s.atSeq u).doPauseClear) rfl rfl fun t e mem => ?_
    subst e
    exact ⟨clear, state, mem, regs⟩
  · have arm : (s.atSeq u).doStep = ((s.atSeq u).setSeq { (s.atSeq u).seq with stepping := true, fresh := true }).set R.SEQ_STAT_STATE seqRunning :=
      (State.ifOn_of_powered _ on).trans (if_pos paused)
    refine answers_of_arm (congrArg (done s) arm) rfl fun t e mem => ?_
    have regs := OnRegs.set (w := fun a => a = R.SEQ_STAT) ((s.atSeq u).setSeq { (s.atSeq u).seq with stepping := true, fresh := true })
      R.SEQ_STAT_STATE seqRunning rfl
    subst e
    exact ⟨rfl, State.get_set_self (f := R.SEQ_STAT_STATE) _ _ (by decide), mem, regs.kept⟩
  · have arm : (s.atSeq u).doStep = (s.atSeq u).set R.SEQ_EVT_REFUSED 1 := (State.ifOn_of_powered _ on).trans (if_neg other)
    obtain ⟨t, answer, event, -, mem, regs⟩ := answers_of_set (c := .seqStep u) (s := s) (congrArg (done s) arm) rfl (by decide)
    exact ⟨t, answer, event, mem, regs⟩
  · have arm : (s.atSeq u).ifOn R.SEQ_CTRL (fun s => s.seqStop 0x02) = (s.atSeq u).setSeq { (s.atSeq u).seq with stopReq := some 0x02 } :=
      (State.ifOn_of_powered _ on).trans ((if_pos active).trans (if_neg (by simp [first])))
    refine answers_of_arm (congrArg (done s) arm) rfl fun t e mem => ?_
    subst e
    exact ⟨rfl, mem, rfl⟩
  · refine answers_of_arm (congrArg (done s) (State.ifOn_of_powered _ on)) rfl fun t e mem => ?_
    subst e
    exact ⟨rfl, mem, rfl⟩
  · refine answers_of_arm (congrArg (done s) (State.takeVectorRequest_stop point stop active empty)) rfl fun t e mem => ?_
    have halted := State.seqEnd_halted (s := (s.atSeq u).setSeq { (s.atSeq u).seq with stopReq := none }) float inhibit empty ran
    rw [e] at halted
    exact ⟨halted.state, halted.cause.trans (Nat.mod_eq_of_lt small), halted.stopReq, mem⟩
  · refine answers_of_arm (congrArg (done s) (State.takeVectorRequest_pause point stop running pause steps empty)) rfl fun t e mem => ?_
    obtain ⟨state, event⟩ := e ▸ State.seqEnd_paused empty ran
    exact ⟨state, event, mem⟩
  · refine answers_of_arm (congrArg (done s) (State.takeVectorRequest_jump point stop running pause jump left wait matching)) rfl fun t e mem => ?_
    have regs := OnRegs.set (w := fun a => a = R.SEQ_STAT)
      ((s.atSeq u).setSeq { (s.atSeq u).seq with jumpReq := false, next := (s.atSeq u).addrReg R.SEQ_JUMP_ADDR_LO, byLoop := false })
      R.SEQ_STAT_OVERDRAFT 0 rfl
    subst e
    exact ⟨rfl, rfl, mem, regs.kept⟩
  · obtain ⟨state, next, stopped, regs⟩ := State.doSeqResume_continues on state cause inexact may
    refine answers_of_arm (v := (s.atSeq u).doSeqResume) rfl rfl fun t e mem => ?_
    subst e
    exact ⟨state, next, stopped, mem, regs⟩
  · have arm : (s.atSeq u).doWinApply = (s.atSeq u).setSeq
        { (s.atSeq u).seq with winBase := (s.atSeq u).val R.SEQ_WIN_BASE, winCount := (s.atSeq u).val R.SEQ_WIN_COUNT, frames := [] } :=
      (State.ifOn_of_powered _ on).trans (if_neg (by simp [good]))
    refine answers_of_arm (congrArg (done s) arm) rfl fun t e mem => ?_
    subst e
    exact ⟨rfl, rfl, rfl, mem, rfl⟩
  · have arm : (s.atSeq u).doWinApply = (s.atSeq u).set R.SEQ_EVT_WIN_CFG_ERR 1 := (State.ifOn_of_powered _ on).trans (if_pos bad)
    exact answers_of_set (congrArg (done s) arm) rfl (by decide)
  · have arm : s.doSeqClrStats = s.putAll [R.SEQ_REFILL_REJ, R.SEQ_UNDERRUN, R.SEQ_OD_COUNT] 0 := State.ifOn_of_powered _ on
    refine answers_of_arm (congrArg (done s) arm) rfl fun t e mem => ?_
    have regs : OnRegs (fun a => a = R.SEQ_REFILL_REJ ∨ a = R.SEQ_UNDERRUN ∨ a = R.SEQ_OD_COUNT) s _ :=
      .putAll [R.SEQ_REFILL_REJ, R.SEQ_UNDERRUN, R.SEQ_OD_COUNT] 0 (by simp) s
    subst e
    exact ⟨State.putAll_zero_val (.inl (by simp)), State.putAll_zero_val (.inl (by simp)), State.putAll_zero_val (.inl (by simp)), mem, regs.kept⟩
  · refine answers_of_arm (v := (s.atSeq u).doSeqOverdraft) rfl rfl fun t e mem => ?_
    obtain ⟨stalls, event, count, state⟩ := e ▸ State.doSeqOverdraft_stalls running first order routine left wait matching stop absent late action
    exact ⟨stalls, event, count, state.trans running, mem⟩
  · refine answers_of_arm (v := (s.atSeq u).doCustSwitch) rfl rfl fun t e mem => ?_
    obtain ⟨bank, taken, event⟩ := e ▸ State.doCustSwitch_switches pending routine
    exact ⟨bank, taken, event, mem⟩

end Sys2Proof.Machine
end

section
/-! PROOFS. Configuring, enabling, starting and stopping a generator (R186, R188, R192, R200, R202): O14. -/

namespace Sys2Proof.Machine

/-! ### The registers of one generator

They lie at offsets from a multiple of 0x1000, as those of a channel do, so `pinReg_ne` tells them apart. -/

/-- What a write of two fields of one register that share no bit leaves. -/
theorem State.set_set_fields {s t : State} {a lo w lo' w' x y : Nat} (e : (s.set ⟨a, lo', w'⟩ y).set ⟨a, lo, w⟩ x = t)
    (word : lo + w ≤ 32 ∧ lo' + w' ≤ 32) (bits : lo + w ≤ lo' ∨ lo' + w' ≤ lo) :
    t.get ⟨a, lo, w⟩ = x % 2 ^ w ∧ t.get ⟨a, lo', w'⟩ = y % 2 ^ w' ∧ OnRegs (fun b => b = a) s t := by
  have other : Apart ⟨a, lo', w'⟩ ⟨a, lo, w⟩ := .of_bits word.symm bits.symm
  subst e
  exact ⟨State.get_set_self _ _ word.1, (State.get_set_apart _ _ other).trans (State.get_set_self _ _ word.2),
    .trans (.set s ⟨a, lo', w'⟩ y rfl) (.set _ ⟨a, lo, w⟩ x rfl)⟩

/-- What a command answers that writes registers and then replaces a generator's state beside them. -/
theorem answers_of_setGen {c : Instr} {s v : State} {g : Nat} {x : GenSt} {P : State → Prop} (arm : exec c s = done s (v.setGen g x))
    (storeless : mayStore c = false) (lane : g < 48) (hP : ∀ t, t.gen g = x → t.regs = v.regs → t.mem = s.mem → P t) : Answers c s P :=
  answers_of_arm arm storeless fun _ e mem => hP _ (e ▸ v.gen_setGen_self x lane) (e ▸ rfl) mem

theorem State.rd_of_regs {s t : State} (h : t.regs = s.regs) (a : Nat) : t.rd a = s.rd a := congrArg (regsGet · a) h

/-- The limits of LEN, in either order of the comparisons. -/
theorem clampN_eq {lo hi : Nat} (h : lo ≤ hi) (x : Nat) : clampN lo hi x = min hi (max lo x) := by
  unfold clampN
  omega

/-! ### Refusals (R188, R192, R202) -/

section
variable (s : State) (g reason : Nat)

theorem State.genRefuse_reason : (s.genRefuse g reason).get (R.GEN_STAT_REFUSE g) = reason % 2 ^ 4 := by
  have other : (R.GEN_STAT_REFUSE g).addr ≠ (R.GEN_EVT_REFUSED g).addr := pinReg_ne
  exact (State.get_set_ne _ _ _ _ other).trans (State.get_set_self _ _ (by decide : 12 + 4 ≤ 32))

theorem State.genRefuse_event : (s.genRefuse g reason).is (R.GEN_EVT_REFUSED g) = true := State.is_set_one _ (by decide)

theorem State.genRefuse_regs : OnRegs (fun a => a = R.GEN_STAT g ∨ a = R.GEN_EVT g) s (s.genRefuse g reason) :=
  .trans (.set s (R.GEN_STAT_REFUSE g) reason (.inl rfl)) (.set _ (R.GEN_EVT_REFUSED g) 1 (.inr rfl))
end

/-- What a command answers that a generator refuses. -/
theorem answers_of_genRefuse {c : Instr} {s : State} {u : Sub} {g reason : Nat} (arm : exec c s = done s ((s.atF u).genRefuse g reason))
    (storeless : mayStore c = false) (small : reason < 8) :
    Answers c s (fun t => t.get (R.GEN_STAT_REFUSE g) = reason ∧ t.is (R.GEN_EVT_REFUSED g) = true ∧ t.mem = s.mem ∧
      RegsKept s t (fun a => a = R.GEN_STAT g ∨ a = R.GEN_EVT g)) := by
  refine answers_of_arm arm storeless fun t e mem => ?_
  have told : t.get (R.GEN_STAT_REFUSE g) = reason % 2 ^ 4 := e ▸ (s.atF u).genRefuse_reason g reason
  have event : t.is (R.GEN_EVT_REFUSED g) = true := e ▸ (s.atF u).genRefuse_event g reason
  have regs : OnRegs (fun a => a = R.GEN_STAT g ∨ a = R.GEN_EVT g) (s.atF u) t := e ▸ (s.atF u).genRefuse_regs g reason
  exact ⟨told.trans (Nat.mod_eq_of_lt (by omega)), event, mem, regs.kept⟩

/-- The reasons of R188 are 1 to 5. -/
theorem State.genEnableReason_lt (s : State) (g : Nat) : s.genEnableReason g < 8 := by
  unfold State.genEnableReason
  dsimp only
  split_ifs <;> decide

/-! ### Enabling and disabling (R188, R200) -/

/-- The registers after a write of EN that raises the bit `lo` of GEN_STAT. -/
def State.genSwitched (s : State) (g : Nat) (on : Bool) (lo : Nat) : State := (s.set (R.GEN_CTRL_EN g) on.toNat).set ⟨R.GEN_STAT g, lo, 1⟩ 1

theorem State.genSwitched_shown (s : State) (g : Nat) (on : Bool) {lo : Nat} (h : lo + 1 ≤ 32) :
    (s.genSwitched g on lo).is (R.GEN_CTRL_EN g) = on ∧ (s.genSwitched g on lo).is ⟨R.GEN_STAT g, lo, 1⟩ = true ∧
      OnRegs (fun a => a = R.GEN_CTRL g ∨ a = R.GEN_STAT g) s (s.genSwitched g on lo) := by
  have other : (R.GEN_CTRL_EN g).addr ≠ R.GEN_STAT g := pinReg_ne
  exact ⟨(State.is_set_apart _ _ (.inl other)).trans (State.is_set_self _ _ (by decide)), State.is_set_one _ h,
    .trans (.set _ (R.GEN_CTRL_EN g) _ (.inl rfl)) (.set _ ⟨R.GEN_STAT g, lo, 1⟩ 1 (.inr rfl))⟩

/-! ### The stop boundary (R200) -/

/-- STATE, BUSY and OWNER of a generator that has stopped. -/
def State.genIdled (s : State) (g : Nat) : State := ((s.set (R.GEN_STAT_OWNER g) 0).set (R.GEN_STAT_BUSY g) 0).set (R.GEN_STAT_STATE g) genIdle

/-- The registers of a generator that has stopped. -/
def State.genReleased (s : State) (g : Nat) : State := ((s.genIdled g).set (R.GEN_STAT_OVERDRAFT g) 0).set (R.GEN_STAT_EXC_LOST g) 0

/-- The generator is IDLE at its rest value, and its DAC is released. -/
structure GenReleased (g : Nat) (t : State) : Prop where
  state : t.get (R.GEN_STAT_STATE g) = genIdle
  busy : t.is (R.GEN_STAT_BUSY g) = false
  owner : t.is (R.GEN_STAT_OWNER g) = false
  stopping : (t.gen g).stopping = false
  rest : (t.gen g).rest = true

section
variable (s : State) (g : Nat)

/-- The clears of OVERDRAFT and EXC_LOST leave STATE, BUSY and OWNER. -/
theorem State.get_genReleased {lo w : Nat} (h : lo + w ≤ 5 ∨ 8 ≤ lo ∧ lo + w ≤ 32) :
    (s.genReleased g).get ⟨R.GEN_STAT g, lo, w⟩ = (s.genIdled g).get ⟨R.GEN_STAT g, lo, w⟩ := by
  have overdraft : Apart ⟨R.GEN_STAT g, lo, w⟩ (R.GEN_STAT_OVERDRAFT g) := .of_bits (by omega) (by omega)
  have excLost : Apart ⟨R.GEN_STAT g, lo, w⟩ (R.GEN_STAT_EXC_LOST g) := .of_bits (by omega) (by omega)
  exact (State.get_set_apart _ _ excLost).trans (State.get_set_apart _ _ overdraft)

theorem State.genReleased_state : (s.genReleased g).get (R.GEN_STAT_STATE g) = genIdle :=
  (s.get_genReleased g (by decide)).trans (State.get_set_self (f := R.GEN_STAT_STATE g) _ _ (by decide : 0 + 3 ≤ 32))

theorem State.genReleased_busy : (s.genReleased g).is (R.GEN_STAT_BUSY g) = false := by
  have state : Apart (R.GEN_STAT_BUSY g) (R.GEN_STAT_STATE g) := .of_bits (by decide) (by decide)
  exact (State.is_congr _ (s.get_genReleased g (by decide))).trans ((State.is_set_apart _ _ state).trans (State.is_set_zero _ (by decide)))

theorem State.genReleased_owner : (s.genReleased g).is (R.GEN_STAT_OWNER g) = false := by
  have state : Apart (R.GEN_STAT_OWNER g) (R.GEN_STAT_STATE g) := .of_bits (by decide) (by decide)
  have busy : Apart (R.GEN_STAT_OWNER g) (R.GEN_STAT_BUSY g) := .of_bits (by decide) (by decide)
  refine (State.is_congr _ (s.get_genReleased g (by decide))).trans ((State.is_set_apart _ _ state).trans ?_)
  exact (State.is_set_apart _ _ busy).trans (State.is_set_zero _ (by decide))
end

/-- The Ledger's appends leave the status of a generator. -/
theorem State.stopEntry_genStat (s : State) (g source inst t64 cancelled cut : Nat) :
    (s.stopEntry source inst t64 cancelled cut).rd (R.GEN_STAT g) = s.rd (R.GEN_STAT g) := by
  have low : ∀ a ∈ reportRegs, a < 0x1A00004 := by decide
  have told : Reported s (s.stopEntry source inst t64 cancelled cut) := .of_append (s.stopEntry_host _ _ _ _ _)
  exact told.rd fun w => Nat.not_lt.mpr (Nat.le_add_right _ _) (low _ w)

theorem State.stopEntry_gen (s : State) (g source inst t64 cancelled cut : Nat) : (s.stopEntry source inst t64 cancelled cut).gen g = s.gen g :=
  congrArg (fun gens : Vector GenSt 48 => gens.getD g {}) (Carried.of_host (s.stopEntry_host source inst t64 cancelled cut)).gens

theorem State.rd_setGen (s : State) (g : Nat) (x : GenSt) (a : Nat) : (s.setGen g x).rd a = s.rd a := rfl

/-- The Ledger takes the stop of a generator that has stopped. -/
theorem State.genReleased_told (s : State) {g : Nat} (lane : g < 48) (entries : List (Nat × List Byte)) (source inst t64 cancelled cut : Nat) :
    GenReleased g (((s.genReleased g).setGen g { entries := entries, rest := true }).stopEntry source inst t64 cancelled cut) := by
  let v := (s.genReleased g).setGen g { entries := entries, rest := true }
  have stat : (v.stopEntry source inst t64 cancelled cut).rd (R.GEN_STAT g) = (s.genReleased g).rd (R.GEN_STAT g) :=
    (v.stopEntry_genStat ..).trans (State.rd_setGen ..)
  have gen : (v.stopEntry source inst t64 cancelled cut).gen g = { entries := entries, rest := true } :=
    (v.stopEntry_gen ..).trans ((s.genReleased g).gen_setGen_self _ lane)
  show GenReleased g (v.stopEntry source inst t64 cancelled cut)
  generalize v.stopEntry source inst t64 cancelled cut = t at stat gen
  refine ⟨?_, (State.is_of_rd (f := R.GEN_STAT_BUSY g) stat).trans (s.genReleased_busy g),
    (State.is_of_rd (f := R.GEN_STAT_OWNER g) stat).trans (s.genReleased_owner g), ?_, ?_⟩
  · exact (congrArg (fieldOf · 0 3) stat).trans (s.genReleased_state g)
  all_goals rw [gen]

theorem State.doGenStopPoint_eq {s : State} {g : Nat} (stopping : (s.gen g).stopping = true) (due : (s.gen g).stopAt ≤ s.fU) :
    ∃ v n, s.doGenStopPoint g = ((State.genReleased v g).setGen g { entries := (s.gen g).entries, rest := true }).stopEntry 0x15 g
      (t64At (s.gen g).stopAt) n (s.val (R.GEN_CUR g)) :=
  ⟨_, _, if_pos ⟨stopping, due⟩⟩

/-! ### The counts of a list (R202) -/

/-- The registers of a list that is empty: no entry is written, and none is used. -/
def State.genEmptied (s : State) (g : Nat) : State := (s.put (R.GEN_WR_COUNT g) 0).put (R.GEN_DONE_COUNT g) 0

theorem State.genEmptied_shown (s : State) (g : Nat) : (s.genEmptied g).val (R.GEN_WR_COUNT g) = 0 ∧ (s.genEmptied g).val (R.GEN_DONE_COUNT g) = 0 ∧
    OnRegs (fun a => a = R.GEN_WR_COUNT g ∨ a = R.GEN_DONE_COUNT g) s (s.genEmptied g) := by
  have other : R.GEN_WR_COUNT g ≠ R.GEN_DONE_COUNT g := pinReg_ne
  exact ⟨(State.val_put_ne _ _ other).trans (State.val_put_self _ _), State.val_put_self _ _, .trans (.put _ 0 (.inl rfl)) (.put _ 0 (.inr rfl))⟩

/-! ### What each command does -/

section
variable {s : State} {g : Nat} (on : s.powered (R.GEN_CTRL g) = true)
include on

theorem State.doGenCfg_takes (v : Word) (idle : s.genConfigurable g = true) :
    s.doGenCfg g v = (s.set (R.GEN_CFG_EXC_LANE g) (fieldOf v 16 6)).set (R.GEN_CFG_MODE g) (fieldOf v 0 3) := by
  rw [State.doGenCfg, State.ifOn_of_powered _ on, if_pos idle]

theorem State.doGenCfg_refuses (v : Word) (other : s.genConfigurable g = false) : s.doGenCfg g v = s.genRefuse g 6 := by
  rw [State.doGenCfg, State.ifOn_of_powered _ on, if_neg (by simp [other])]

theorem State.doGenList_takes (v : Word) (idle : s.genConfigurable g = true) :
    s.doGenList g v = (s.set (R.GEN_LIST_LOOP g) (fieldOf v 16 13)).set (R.GEN_LIST_LEN g) (clampN 1 8192 (fieldOf v 0 14)) := by
  rw [State.doGenList, State.ifOn_of_powered _ on, if_pos idle]

theorem State.doGenEnable_takes (off : s.is (R.GEN_CTRL_EN g) = false) (free : s.genEnableReason g = 0) :
    s.doGenEnable g = (s.genSwitched g true 8).setGen g { s.gen g with rest := true } := by
  rw [State.doGenEnable, State.ifOn_of_powered _ on, if_neg (by simp [off])]
  exact if_neg (not_not.mpr free)

theorem State.doGenEnable_refuses (off : s.is (R.GEN_CTRL_EN g) = false) (reason : s.genEnableReason g ≠ 0) :
    s.doGenEnable g = s.genRefuse g (s.genEnableReason g) := by
  rw [State.doGenEnable, State.ifOn_of_powered _ on, if_neg (by simp [off])]
  exact if_pos reason

theorem State.genStop_stops (en : s.is (R.GEN_CTRL_EN g) = true) : s.ifOn (R.GEN_CTRL g) (fun s => s.genStop g) =
    (s.genSwitched g false 4).setGen g { s.gen g with stopping := true, stopAt := s.nextTickU } := by
  rw [State.ifOn_of_powered _ on]
  exact if_pos en

theorem State.doGenStart_takes (may : s.genMayStart g = true) :
    s.doGenStart g = s.setGen g { s.gen g with startAt := some (s.boundaryFrom 64), resume := false } := by
  rw [State.doGenStart, State.ifOn_of_powered _ on, if_pos may]

theorem State.doGenStart_refuses (refused : s.genMayStart g = false) : s.doGenStart g = s.genRefuse g 7 := by
  rw [State.doGenStart, State.ifOn_of_powered _ on, if_neg (by simp [refused])]

theorem State.doGenResume_takes (stopped : s.genState g = genStopped) (overdraft : (s.gen g).odStop = true) :
    s.doGenResume g = s.setGen g { s.gen g with resume := true, startAt := some s.nextTickU } := by
  rw [State.doGenResume, State.ifOn_of_powered _ on, if_pos ⟨stopped, overdraft⟩]

theorem State.doGenListClr_clears (idle : s.genConfigurable g = true) :
    s.doGenListClr g = (s.genEmptied g).setGen g { s.gen g with entries := [] } := by
  rw [State.doGenListClr, State.ifOn_of_powered _ on, if_pos idle, State.genEmptied]
end

/-! ### The statement -/

/-- Settles O14: each command reaches the state that its lemma writes out; a refusal is `genRefuse`. ARM, GO and CANCEL are stated in
`GeneratorSteps`. -/
theorem generatorControl : Obligations.GeneratorControl := by
  refine ⟨fun s u g v on idle => ?_, fun s u g v on other => ?_, fun s u g v on idle => ?_, fun s u g on off free => ?_,
    fun s u g on off reason => ?_, fun s u g on en => ?_, fun s u g stopping due => ?_, fun s u g on may => ?_, fun s u g on refused => ?_,
    fun s u g on stopped overdraft => ?_, fun s u g on idle => ?_, fun s g on => ?_⟩
  · refine answers_of_arm (congrArg (done s) (State.doGenCfg_takes (s := s.atF u) on v idle)) rfl fun t e mem => ?_
    obtain ⟨mode, lane, regs⟩ := State.set_set_fields (a := R.GEN_CFG g) e (by decide) (by decide)
    exact ⟨mode.trans (Nat.mod_eq_of_lt (fieldOf_lt v 0 3)), lane.trans (Nat.mod_eq_of_lt (fieldOf_lt v 16 6)), mem, regs.kept⟩
  · exact answers_of_genRefuse (congrArg (done s) (State.doGenCfg_refuses (s := s.atF u) on v other)) rfl (by decide)
  · refine answers_of_arm (congrArg (done s) (State.doGenList_takes (s := s.atF u) on v idle)) rfl fun t e mem => ?_
    obtain ⟨len, loop, regs⟩ := State.set_set_fields (a := R.GEN_LIST g) e (by decide) (by decide)
    rw [clampN_eq (by decide), Nat.mod_eq_of_lt (by omega)] at len
    exact ⟨len, loop.trans (Nat.mod_eq_of_lt (fieldOf_lt v 16 13)), mem, regs.kept⟩
  · refine answers_of_setGen (congrArg (done s) (State.doGenEnable_takes (s := s.atF u) on off free)) rfl g.isLt fun t gen same mem => ?_
    obtain ⟨en, owner, regs⟩ := (s.atF u).genSwitched_shown g true (lo := 8) (by decide)
    have read := State.rd_of_regs same
    exact ⟨(State.is_of_rd (read _)).trans en, (State.is_of_rd (read _)).trans owner, congrArg GenSt.rest gen, mem,
      fun a other => (read a).trans (regs.kept a other)⟩
  · have small := (s.atF u).genEnableReason_lt g
    obtain ⟨t, answer, told, event, mem, regs⟩ :=
      answers_of_genRefuse (c := .genEnable u g) (congrArg (done s) (State.doGenEnable_refuses (s := s.atF u) on off reason)) rfl small
    have ctrl : t.rd (R.GEN_CTRL g) = s.rd (R.GEN_CTRL g) := regs _ (not_or.mpr ⟨pinReg_ne, pinReg_ne⟩)
    exact ⟨t, answer, (State.is_of_rd (f := R.GEN_CTRL_EN g) ctrl).trans off, told.trans (Nat.mod_eq_of_lt small).symm, event, mem, regs⟩
  · refine answers_of_setGen (congrArg (done s) (State.genStop_stops (s := s.atF u) on en)) rfl g.isLt fun t gen same mem => ?_
    obtain ⟨off, busy, regs⟩ := (s.atF u).genSwitched_shown g false (lo := 4) (by decide)
    have read := State.rd_of_regs same
    exact ⟨(State.is_of_rd (read _)).trans off, (State.is_of_rd (read _)).trans busy, congrArg GenSt.stopping gen, congrArg GenSt.stopAt gen, mem,
      fun a other => (read a).trans (regs.kept a other)⟩
  · refine answers_of_arm (v := (s.atF u).doGenStopPoint g) rfl rfl fun t e mem => ?_
    obtain ⟨v, n, arm⟩ := State.doGenStopPoint_eq (s := s.atF u) stopping due
    obtain ⟨state, busy, owner, still, rest⟩ := (arm.symm.trans e) ▸ v.genReleased_told g.isLt _ _ _ _ _ _
    exact ⟨state, busy, owner, still, rest, mem⟩
  · refine answers_of_setGen (congrArg (done s) (State.doGenStart_takes (s := s.atF u) on may)) rfl g.isLt fun t gen same mem => ?_
    exact ⟨congrArg GenSt.startAt gen, same, mem⟩
  · exact answers_of_genRefuse (congrArg (done s) (State.doGenStart_refuses (s := s.atF u) on refused)) rfl (by decide)
  · refine answers_of_setGen (congrArg (done s) (State.doGenResume_takes (s := s.atF u) on stopped overdraft)) rfl g.isLt fun t gen same mem => ?_
    exact ⟨congrArg GenSt.startAt gen, congrArg GenSt.resume gen, mem⟩
  · refine answers_of_setGen (congrArg (done s) (State.doGenListClr_clears (s := s.atF u) on idle)) rfl g.isLt fun t gen same mem => ?_
    obtain ⟨written, used, regs⟩ := (s.atF u).genEmptied_shown g
    have read := State.rd_of_regs same
    exact ⟨congrArg GenSt.entries gen, (State.val_of_rd (read _)).trans written, (State.val_of_rd (read _)).trans used, mem,
      fun a other => (read a).trans (regs.kept a other)⟩
  · have arm : s.doGenClrStats g = s.putAll [R.GEN_OD_COUNT g, R.GEN_OD_TICKS g, R.GEN_REFILL_REJ g] 0 := State.ifOn_of_powered _ on
    refine answers_of_arm (congrArg (done s) arm) rfl fun t e mem => ?_
    have regs : OnRegs (fun a => a = R.GEN_OD_COUNT g ∨ a = R.GEN_OD_TICKS g ∨ a = R.GEN_REFILL_REJ g) s _ :=
      .putAll [R.GEN_OD_COUNT g, R.GEN_OD_TICKS g, R.GEN_REFILL_REJ g] 0 (by simp) s
    subst e
    exact ⟨State.putAll_zero_val (.inl (by simp)), State.putAll_zero_val (.inl (by simp)), State.putAll_zero_val (.inl (by simp)), mem, regs.kept⟩

end Sys2Proof.Machine
end

section
/-! PROOFS. Lane configurations and their unsettled run, streams and raw bursts (R211, R213–R215, R222–R225, R227, R230): O16. -/

namespace Sys2Proof.Machine

/-! ### A lane beside its registers, and its registers -/

/-- Registers of one lane at different offsets. -/
theorem laneReg_ne {l a b : Nat} (h : a ≠ b := by decide) : a + 0x4000 * l ≠ b + 0x4000 * l := by omega

theorem State.lane_setLane_self (s : State) {l : Nat} (x : LaneSt) (h : l < 48) : (s.setLane l x).lane l = x := by
  simp [State.lane, State.setLane, Vector.getD, h]

theorem State.rd_setLane (s : State) (l : Nat) (x : LaneSt) (a : Nat) : (s.setLane l x).rd a = s.rd a := rfl

theorem State.lane_of_lanes {s t : State} (h : t.lanes = s.lanes) (l : Nat) : t.lane l = s.lane l :=
  congrArg (fun lanes : Vector LaneSt 48 => lanes.getD l {}) h

namespace OnField
variable {w : Nat → Prop} {s t v : State}

theorem ite {c : Prop} [Decidable c] (h : OnField w s t) (h' : OnField w s v) : OnField w s (if c then t else v) := by
  split
  · exact h
  · exact h'
theorem lanes (h : OnField w s t) : t.lanes = s.lanes := by
  obtain ⟨_, _, rfl, _⟩ := h
  rfl
theorem kept (h : OnField w s t) : RegsKept s t w := fun _ ha => h.rd ha
end OnField

/-- The registers of a lane from LANE_CTRL to LANE_FILT_ACT. -/
abbrev LaneHead (l : Lane) (a : Nat) : Prop := R.LANE_CTRL l ≤ a ∧ a ≤ R.LANE_FILT_ACT l

theorem laneHead_reg (l : Lane) {a : Nat} (h : 0x1800000 ≤ a ∧ a ≤ 0x1800020 := by decide) : LaneHead l (a + 0x4000 * l) :=
  ⟨Nat.add_le_add_right h.1 _, Nat.add_le_add_right h.2 _⟩

/-- The address lies outside the block LANE. -/
abbrev OffLanes (a : Nat) : Prop := a < 0x1800000 ∨ 0x18C0000 ≤ a

theorem OffLanes.not_head {l : Lane} {a : Nat} (h : OffLanes a) : ¬ LaneHead l a := by
  have := l.isLt
  simp only [LaneHead, R.LANE_CTRL, R.LANE_FILT_ACT, OffLanes] at *
  omega

/-- An event bit of a lane that is raised reads 1. -/
theorem State.laneEvt_is (s : State) (l code b16 : Nat) {lo : Nat} (h : lo + 1 ≤ 32) :
    (s.laneEvt l ⟨R.LANE_EVT l, lo, 1⟩ code b16).is ⟨R.LANE_EVT l, lo, 1⟩ = true := by
  unfold State.laneEvt
  exact State.evt_is _ _ _ _ _ h

theorem State.laneEvt_shown {v t : State} {l lo code b16 : Nat} (h : lo + 1 ≤ 32) (e : v.laneEvt l ⟨R.LANE_EVT l, lo, 1⟩ code b16 = t) :
    t.is ⟨R.LANE_EVT l, lo, 1⟩ = true ∧ ∀ a, a ≠ R.LANE_EVT l → t.rd a = v.rd a := by
  subst e
  exact ⟨v.laneEvt_is l _ _ h, fun a other => (v.laneEvt_field l _ _ _).rd other⟩

/-! ### Refusals (R213, R214) -/

section
variable (s : State) (l reason : Nat)

theorem State.laneRefuse_field : OnField (fun a => a = R.LANE_STAT l ∨ a = R.LANE_EVT l) s (s.laneRefuse l reason) :=
  (OnField.set s (R.LANE_STAT_REFUSE l) reason (.inl rfl)).trans ((State.laneEvt_field _ _ _ _ _).mono fun _ => .inr)

/-- The event of a refusal leaves LANE_STAT. -/
theorem State.laneRefuse_stat : (s.laneRefuse l reason).rd (R.LANE_STAT l) = (s.set (R.LANE_STAT_REFUSE l) reason).rd (R.LANE_STAT l) :=
  (State.laneEvt_field _ l (R.LANE_EVT_REFUSED l) _ _).rd laneReg_ne

theorem State.laneRefuse_reason (small : reason < 16) : (s.laneRefuse l reason).get (R.LANE_STAT_REFUSE l) = reason :=
  (congrArg (fieldOf · 28 4) (s.laneRefuse_stat l reason)).trans
    ((State.get_set_self (f := R.LANE_STAT_REFUSE l) _ _ (by decide : 28 + 4 ≤ 32)).trans (Nat.mod_eq_of_lt small))

theorem State.laneRefuse_event : (s.laneRefuse l reason).is (R.LANE_EVT_REFUSED l) = true := by
  unfold State.laneRefuse
  exact State.laneEvt_is _ _ _ _ (by decide)

theorem State.laneRefuse_pending : (s.laneRefuse l reason).is (R.LANE_STAT_APPLY_PENDING l) = s.is (R.LANE_STAT_APPLY_PENDING l) :=
  (State.is_of_rd (f := R.LANE_STAT_APPLY_PENDING l) (s.laneRefuse_stat l reason)).trans
    (State.is_set_apart _ _ (.of_bits (by decide) (by decide)))
end

/-- What a command answers that a lane refuses. -/
theorem answers_of_laneRefuse {c : Instr} {s : State} {u : Sub} {l reason : Nat} (arm : exec c s = done s ((s.atF u).laneRefuse l reason))
    (storeless : mayStore c = false) (small : reason < 16) :
    Answers c s (fun t => t.get (R.LANE_STAT_REFUSE l) = reason ∧ t.is (R.LANE_EVT_REFUSED l) = true ∧ t.lane l = s.lane l ∧ t.mem = s.mem ∧
      RegsKept s t (fun a => a = R.LANE_STAT l ∨ a = R.LANE_EVT l)) := by
  refine answers_of_arm arm storeless fun t e mem => ?_
  have refused := (s.atF u).laneRefuse_field l reason
  exact ⟨e ▸ (s.atF u).laneRefuse_reason l reason small, e ▸ (s.atF u).laneRefuse_event l reason, e ▸ State.lane_of_lanes refused.lanes l, mem,
    e ▸ refused.kept⟩

/-- The reasons of R213 that the set itself gives are 2 to 8. -/
theorem State.laneReason_lt (s : State) (l : Nat) (x : LaneSet) : ∀ r ∈ s.laneReason l x, r < 16 := by
  unfold State.laneReason
  dsimp only
  split_ifs <;> simp

/-! ### APPLY (R213) -/

theorem State.lanePending_is (s : State) (l : Nat) (v : Bool) : (s.lanePending l v.toNat).is (R.LANE_STAT_APPLY_PENDING l) = v := by
  have other : (R.LANE_STAT_APPLY_PENDING l).addr ≠ (R.LANE_CTRL_APPLY l).addr := laneReg_ne
  exact (State.is_set_apart _ _ (.inl other)).trans (State.is_set_self _ v (by decide))

theorem State.sendPlan_lanes (s : State) (p : Plan) (tick : Nat) : (s.sendPlan p tick).lanes = s.lanes := by
  unfold State.sendPlan
  split
  · exact (s.sendHF_field _ _ _ _ _).lanes
  · rfl

theorem State.planAdmit_lanes (s : State) (acts : List PlanAct) (mode : Nat) : (s.planAdmit acts mode).lanes = s.lanes := by
  unfold State.planAdmit
  cases acts with
  | nil => rfl
  | cons a acts => exact State.sendPlan_lanes _ _ _

/-- The planner writes no register of a lane. -/
theorem State.planAdmit_rd (s : State) (acts : List PlanAct) (mode : Nat) {l : Lane} {a : Nat} (h : LaneHead l a) :
    (s.planAdmit acts mode).rd a = s.rd a := by
  refine (s.planAdmit_admitted acts mode).kept a fun told => OffLanes.not_head (.inl ?_) h
  rcases told with rfl | rfl | rfl <;> decide

/-- The lane with a submitted set; the pod's acknowledgement is needed for a new range or fusion. -/
def State.laneSubmitted (s : State) (l : Nat) (needs : Bool) : LaneSt :=
  { s.lane l with pend := some (s.laneStaged l), planned := false, acked := !needs, ackBy := s.time.fTick + 200 }

/-- The state that the planner is asked about: the set is pending. -/
def State.laneAsks (s : State) (l : Nat) (y : LaneSt) : State := (s.setLane l y).lanePending l 1

/-- The staged set needs the pod's acknowledgement: range or fusion change (R214). -/
def State.laneNeeds (s : State) (l : Nat) : Bool :=
  decide (cfgRange (s.rd (R.LANE_ACTIVE l)) ≠ cfgRange (s.laneStaged l).cfg ∨ cfgFuse (s.rd (R.LANE_ACTIVE l)) ≠ cfgFuse (s.laneStaged l).cfg)

section
variable {s : State} {l : Nat} (on : s.powered (R.LANE_CTRL l) = true)
include on

theorem State.doLaneApply_again (pending : s.is (R.LANE_STAT_APPLY_PENDING l) = true) : s.doLaneApply l = s.laneRefuse l 1 := by
  rw [State.doLaneApply, State.ifOn_of_powered _ on, if_pos pending]

theorem State.doLaneApply_bad {r : Nat} (free : s.is (R.LANE_STAT_APPLY_PENDING l) = false) (bad : s.laneReason l (s.laneStaged l) = some r) :
    s.doLaneApply l = s.laneRefuse l r := by
  rw [State.doLaneApply, State.ifOn_of_powered _ on, if_neg (by simp [free])]
  simp only [bad]

theorem State.doLaneApply_admitted (free : s.is (R.LANE_STAT_APPLY_PENDING l) = false) (good : s.laneReason l (s.laneStaged l) = none)
    (fits : (s.laneAsks l (s.laneSubmitted l (s.laneNeeds l))).planCheck s.mode = none) :
    ∃ pods, s.doLaneApply l = { (s.laneAsks l (s.laneSubmitted l (s.laneNeeds l))).planAdmit [.laneApply l] s.mode with pods := pods } := by
  rw [State.doLaneApply, State.ifOn_of_powered _ on, if_neg (by simp [free])]
  simp only [good]
  have submitted := State.submit_admitted (s := s) [.laneApply l] fits
  simp only [State.laneAsks, State.laneSubmitted, State.laneNeeds] at submitted
  simp only [submitted, Bool.not_true, Bool.false_eq_true, if_false, State.laneAsks, State.laneSubmitted, State.laneNeeds]
  split
  · exact ⟨_, rfl⟩
  · exact ⟨_, rfl⟩
end

/-- A set that the planner has admitted is pending. -/
theorem State.laneAsks_admitted (s : State) (l : Lane) (y : LaneSt) (acts : List PlanAct) (mode : Nat) :
    ((s.laneAsks l y).planAdmit acts mode).lane l = y ∧ ((s.laneAsks l y).planAdmit acts mode).is (R.LANE_STAT_APPLY_PENDING l) = true ∧
      ((s.laneAsks l y).planAdmit acts mode).get R.TIME_PLAN_STAT_RESULT = 1 := by
  have lanes := (s.laneAsks l y).planAdmit_lanes acts mode
  have stat := (s.laneAsks l y).planAdmit_rd acts mode (laneHead_reg l (a := 0x1800004))
  exact ⟨(State.lane_of_lanes lanes l).trans (s.lane_setLane_self y l.isLt),
    (State.is_of_rd (f := R.LANE_STAT_APPLY_PENDING l) stat).trans (State.lanePending_is _ l true), (State.planAdmit_admitted _ acts mode).result⟩

/-! ### The boundary at which a set takes effect (R213, R223, R224, R293; log 52) -/

theorem State.excLost_field (s : State) (l : Nat) : OnField (fun a => 0x18C0000 ≤ a) s (s.excLost l) := by
  refine OnField.foldl (fun t g => ?_) _ s
  have stat : 0x18C0000 ≤ R.GEN_STAT g := Nat.le_add_right_of_le (by decide)
  have event : ∀ a, a = R.GEN_EVT g → 0x18C0000 ≤ a := by
    rintro a rfl
    exact Nat.le_add_right_of_le (by decide)
  exact .ite (.refl _ t) ((OnField.set t (R.GEN_STAT_EXC_LOST g) 1 stat).trans ((State.genEvt_field _ _ _ _ _).mono event))

theorem State.winApply_field (s : State) (i : Nat) : OnField (fun a => 0x18C0000 ≤ a) s (s.winApply i) := by
  have block {b : Nat} (h : 0x18C0000 ≤ b := by decide) : 0x18C0000 ≤ b + 0x40 * i := Nat.le_add_right_of_le h
  unfold State.winApply
  extract_lets r n s1 s2 s3 s4
  have h2 : OnField (fun a => 0x18C0000 ≤ a) s s2 := ((OnField.put s _ block).trans (.put _ _ block)).trans (.put s1 _ block)
  have h3 : OnField (fun a => 0x18C0000 ≤ a) s s3 := (h2.trans (.set s2 (R.GRD_W_CFG_N i) _ block)).trans (.set _ (R.GRD_W_CFG_K i) _ block)
  have h4 : OnField (fun a => 0x18C0000 ≤ a) s s4 := .ite (h3.trans (.set s3 (R.GRD_W_EVT_CLAMP i) 1 block)) h3
  exact .ite ((h4.trans (.set s4 (R.GRD_W_EVT_CFG_ERR i) 1 block)).trans (.set _ R.GRD_EVT_CFG_ERR 1 (by decide))) h4

/-- LANE_ILV lies behind the head of a lane's registers, for every lane. -/
theorem State.showIlv_field (s : State) (l : Lane) (k : Nat) : OnField (fun a => ¬ LaneHead l a) s (s.showIlv k) := by
  have behind {i b : Nat} (hi : i < 4) (hb : 0x100 ≤ b ∧ b ≤ 0x108) : ¬ LaneHead l (0x1800000 + b + 0x4000 * k + 0x10 * i) := by
    simp only [LaneHead, R.LANE_CTRL, R.LANE_FILT_ACT]
    omega
  refine List.foldlRecOn _ _ (.refl _ s) fun t h i hi => ?_
  have hi : i < 4 := List.mem_range.mp hi
  exact ((h.trans (.put t _ (behind hi (b := 0x100) (by decide)))).trans (.put _ _ (behind hi (b := 0x104) (by decide)))).trans
    (.put _ _ (behind hi (b := 0x108) (by decide)))

/-- The registers that show a set in force: LANE_ACTIVE, LANE_FILT_ACT and LANE_FIR_ACT, LANE_SETTLE and LANE_COST. -/
def State.laneConfigured (s : State) (l : Nat) (x : LaneSet) : State :=
  let t := (List.range 128).foldl (fun t k => t.put (R.LANE_FIR_ACT l k) (x.coefs.getD k 0))
    ((s.wr (R.LANE_ACTIVE l) (x.cfg &&& 0x00000F37#32)).wr (R.LANE_FILT_ACT l) x.filt)
  (t.put (R.LANE_SETTLE l) (t.val (R.POD_S_SETTLE (l / 8) (cfgRange x.cfg)))).set (R.LANE_COST_ACTIVE l) (engineCost x.cfg x.filt)

/-- A set that has taken effect is no longer pending, is counted and raises APPLIED; with `n` unsettled samples to come, UNSETTLED reads 1. -/
def State.laneApplied (s : State) (l n : Nat) : State :=
  let t := (((if 0 < n then (s.set (R.LANE_STAT_UNSETTLED l) 1).excLost l else s).showUnset l).lanePending l 0).wrapCount (R.LANE_CFG_SEQ l) 1
  t.laneEvt l (R.LANE_EVT_APPLIED l) 0x0001 (t.val (R.LANE_ACTIVE l))

/-- What follows the configuration of a lane: the comparator's levels after a new range, the guard windows after a change of `kind` 3, and LANE_ILV. -/
def State.laneFollowed (s : State) (l : Nat) (a b : Word) (kind : Nat) : State :=
  let cmp := 16 * (l / 8) + 2 * (l % 8)
  let t := if cfgRange a = cfgRange b then s
    else if s.role cmp = roleLaneCmp then
      (s.storeLevel cmp .cmpHi (s.sval (R.PIN_CMP_HI cmp))).storeLevel cmp .cmpLo (s.sval (R.PIN_CMP_LO cmp))
    else s
  let v := if kind = 3 then (l :: membersOf l (cfgFuse b)).foldl (fun t w => t.winApply w) t else t
  (List.range 4).foldl (fun t i => t.showIlv (l / 4 * 4 + i)) v

theorem State.laneTakeEffect_eq (s : State) (l : Nat) (x : LaneSet) : ∃ v y n a kind,
    s.laneTakeEffect l x = ((((State.laneConfigured v l x).setLane l y).laneApplied l n).laneFollowed l a x.cfg kind) ∧ y.pend = none :=
  ⟨_, _, _, _, _, rfl, rfl⟩

section
variable (s : State) (l : Lane)

theorem State.laneConfigured_shown (x : LaneSet) :
    (s.laneConfigured l x).rd (R.LANE_ACTIVE l) = x.cfg &&& 0x00000F37#32 ∧ (s.laneConfigured l x).rd (R.LANE_FILT_ACT l) = x.filt := by
  have coef (k : Nat) : ¬ LaneHead l (R.LANE_FIR_ACT l k) := by
    simp only [LaneHead, R.LANE_CTRL, R.LANE_FILT_ACT, R.LANE_FIR_ACT]
    omega
  have behind {b : Nat} (h : 0x1800020 < b := by decide) : ¬ LaneHead l (b + 0x4000 * l) :=
    fun e => absurd e.2 (Nat.not_le.mpr (Nat.add_lt_add_right h _))
  unfold State.laneConfigured
  extract_lets t
  have coefs : OnField (fun a => ¬ LaneHead l a) ((s.wr (R.LANE_ACTIVE l) (x.cfg &&& 0x00000F37#32)).wr (R.LANE_FILT_ACT l) x.filt) t :=
    .foldl (fun t k => .put t _ (coef k)) _ _
  have shown {v n : Nat} : OnField (fun a => ¬ LaneHead l a) _ ((t.put (R.LANE_SETTLE l) v).set (R.LANE_COST_ACTIVE l) n) :=
    (coefs.trans (.put t v behind)).trans (.set _ _ n behind)
  exact ⟨(shown.rd (not_not.mpr (laneHead_reg l))).trans ((State.rd_wr_ne _ _ laneReg_ne).trans (State.rd_wr_self _ _ _)),
    (shown.rd (not_not.mpr (laneHead_reg l))).trans (State.rd_wr_self _ _ _)⟩

theorem State.laneFollowed_field (a b : Word) (kind : Nat) : OnField (fun c => ¬ LaneHead l c) s (s.laneFollowed l a b kind) := by
  have off {t v : State} {w : Nat → Prop} (h : OnField w t v) (hw : ∀ a, w a → OffLanes a) : OnField (fun a => ¬ LaneHead l a) t v :=
    h.mono fun a ha => (hw a ha).not_head
  unfold State.laneFollowed
  extract_lets cmp t v
  have pin : cmp ≤ 94 := by
    have := l.isLt
    show 16 * (l.val / 8) + 2 * (l.val % 8) ≤ 94
    omega
  have level (t : State) (w : LevelReg) (v : Int) : OnField (fun a => ¬ LaneHead l a) t (t.storeLevel cmp w v) := by
    refine off (t.storeLevel_field cmp w v) fun a ha => .inl (Nat.lt_trans ha.2 ?_)
    simp only [R.PIN_LIMIT_HI]
    omega
  have levels : OnField (fun a => ¬ LaneHead l a) s t := .ite (.refl _ s) (.ite ((level s .cmpHi _).trans (level _ .cmpLo _)) (.refl _ s))
  have windows : OnField (fun a => ¬ LaneHead l a) t v := .ite (.foldl (fun t i => off (t.winApply_field i) fun _ => .inr) _ t) (.refl _ t)
  exact (levels.trans windows).trans (.foldl (fun t i => t.showIlv_field l _) _ v)
end

/-- The set `x` is the configuration of the lane in force, and none is pending. -/
structure InForce (l : Lane) (x : LaneSet) (t : State) : Prop where
  active : t.rd (R.LANE_ACTIVE l) = x.cfg &&& 0x00000F37#32
  filt : t.rd (R.LANE_FILT_ACT l) = x.filt
  pend : (t.lane l).pend = none
  pending : t.is (R.LANE_STAT_APPLY_PENDING l) = false
  event : t.is (R.LANE_EVT_APPLIED l) = true

theorem InForce.of_field {l : Lane} {x : LaneSet} {s t : State} (h : InForce l x s) (kept : OnField (fun a => ¬ LaneHead l a) s t) : InForce l x t := by
  have head {a : Nat} (h : 0x1800000 ≤ a ∧ a ≤ 0x1800020 := by decide) : t.rd (a + 0x4000 * l) = s.rd (a + 0x4000 * l) :=
    kept.rd (not_not.mpr (laneHead_reg l h))
  obtain ⟨active, filt, pend, pending, event⟩ := h
  exact ⟨Eq.trans head active, Eq.trans head filt, State.lane_of_lanes kept.lanes l ▸ pend,
    (State.is_of_rd (f := R.LANE_STAT_APPLY_PENDING l) head).trans pending, (State.is_of_rd (f := R.LANE_EVT_APPLIED l) head).trans event⟩

theorem State.lanePending_field (s : State) (l v : Nat) : OnField (fun a => a = R.LANE_STAT l ∨ a = R.LANE_CTRL l) s (s.lanePending l v) :=
  (OnField.set s (R.LANE_STAT_APPLY_PENDING l) v (.inl rfl)).trans (.set _ (R.LANE_CTRL_APPLY l) v (.inr rfl))

theorem State.lanePending_clear (s : State) (l : Nat) : (s.lanePending l 0).is (R.LANE_STAT_APPLY_PENDING l) = false := s.lanePending_is l false

/-- A register beside those of the configuration and filter in force. -/
abbrev BesideActive (l a : Nat) : Prop := a ≠ R.LANE_ACTIVE l ∧ a ≠ R.LANE_FILT_ACT l

theorem State.laneApplied_inForce {s : State} {l : Lane} {x : LaneSet} (n : Nat) (active : s.rd (R.LANE_ACTIVE l) = x.cfg &&& 0x00000F37#32)
    (filt : s.rd (R.LANE_FILT_ACT l) = x.filt) (pend : (s.lane l).pend = none) : InForce l x (s.laneApplied l n) := by
  have other {a : Nat} (h : a ≠ 0x180001C ∧ a ≠ 0x1800020 := by decide) : BesideActive l (a + 0x4000 * l) := ⟨laneReg_ne h.1, laneReg_ne h.2⟩
  have off : ∀ a, 0x18C0000 ≤ a → BesideActive l a := by
    intro a ha
    have := l.isLt
    simp only [BesideActive, R.LANE_ACTIVE, R.LANE_FILT_ACT]
    omega
  have flags : ∀ a, a = R.LANE_STAT l ∨ a = R.LANE_CTRL l → BesideActive l a := by
    rintro a (rfl | rfl)
    · exact other
    · exact other
  have event : ∀ a, a = R.LANE_EVT l → BesideActive l a := by
    rintro a rfl
    exact other
  unfold State.laneApplied
  extract_lets t
  have counted : OnField (BesideActive l) s t := by
    refine .trans (.trans (.trans ?_ (.put _ _ other)) ((State.lanePending_field _ l 0).mono flags)) (.put _ _ other)
    exact .ite ((OnField.set s (R.LANE_STAT_UNSETTLED l) 1 other).trans ((State.excLost_field _ l).mono off)) (.refl _ s)
  have told := t.laneEvt_field l (R.LANE_EVT_APPLIED l) 0x0001 (t.val (R.LANE_ACTIVE l))
  have kept := counted.trans (told.mono event)
  have pending : t.is (R.LANE_STAT_APPLY_PENDING l) = false := by
    have stat : R.LANE_STAT l ≠ R.LANE_CFG_SEQ l := laneReg_ne
    exact (State.is_of_rd (f := R.LANE_STAT_APPLY_PENDING l) (State.rd_put_ne _ _ stat)).trans (State.lanePending_clear _ l)
  exact ⟨(kept.rd fun h => h.1 rfl).trans active, (kept.rd fun h => h.2 rfl).trans filt, State.lane_of_lanes kept.lanes l ▸ pend,
    (State.is_of_rd (f := R.LANE_STAT_APPLY_PENDING l) (told.rd laneReg_ne)).trans pending,
    State.laneEvt_is t l 0x0001 _ (lo := 0) (by decide)⟩

theorem State.laneTakeEffect_inForce (s : State) (l : Lane) (x : LaneSet) : InForce l x (s.laneTakeEffect l x) := by
  obtain ⟨v, y, n, a, kind, effect, free⟩ := s.laneTakeEffect_eq l x
  obtain ⟨active, filt⟩ := State.laneConfigured_shown v l x
  have pend : (((v.laneConfigured l x).setLane l y).lane l).pend = none := by rw [State.lane_setLane_self _ _ l.isLt, free]
  rw [effect]
  have applied := State.laneApplied_inForce n ((State.rd_setLane _ l y _).trans active) ((State.rd_setLane _ l y _).trans filt) pend
  exact applied.of_field (State.laneFollowed_field _ l a x.cfg kind)

theorem State.doLaneApplyEffect_due {s : State} {l : Nat} {x : LaneSet} (pend : (s.lane l).pend = some x) (planned : (s.lane l).planned = true)
    (acked : (s.lane l).acked = true) (boundary : s.time.fUnit = 0) : s.doLaneApplyEffect l = s.laneTakeEffect l x := by
  simp only [State.doLaneApplyEffect, pend, planned, acked, boundary, Bool.true_and, BEq.rfl, if_true]

/-! ### Budgets that a stop gives back (R89) -/

/-- The release of a budget is a plan: it writes no register but the count of bytes sent. -/
theorem State.releaseBudget_kept (s t : State) : (s.releaseBudget t).lanes = t.lanes ∧
    RegsKept t (s.releaseBudget t) (fun a => a = R.ISO_TX_BYTES_LO ∨ a = R.ISO_TX_BYTES_LO + 4) := by
  unfold State.releaseBudget
  extract_lets fh fe t1 id b p
  split
  · exact ⟨rfl, fun _ _ => rfl⟩
  · exact ⟨State.sendPlan_lanes _ _ _, State.sendPlan_kept _ _ _⟩

theorem State.releaseBudget_rd (s t : State) {l : Lane} {a : Nat} (h : LaneHead l a) : (s.releaseBudget t).rd a = t.rd a := by
  refine (s.releaseBudget_kept t).2 a fun sent => OffLanes.not_head (.inl ?_) h
  rcases sent with rfl | rfl <;> decide

/-! ### The loads of a configuration, by what its registers read (R63) -/

/-- Writes after which every register reads as before. -/
abbrev SameReads : State → State → Prop := OnRegs (fun _ => False)

theorem State.put_sameReads {s : State} {a v : Nat} (same : s.rd a = BitVec.ofNat 32 v) : SameReads s (s.put a v) := by
  refine ⟨_, rfl, regsWf_set _ _, fun b _ => ?_⟩
  by_cases h : b = a
  · subst h
    exact (State.rd_put_self s b v).trans same.symm
  · exact State.rd_put_ne s v h

namespace SameReads
variable {s t : State} (h : SameReads s t)
include h

theorem get (f : Fld) : t.get f = s.get f := OnRegs.get h id
theorem is (f : Fld) : t.is f = s.is f := State.is_congr _ (h.get f)
theorem val (a : Nat) : t.val a = s.val a := OnRegs.val h id
theorem plan : t.plan = s.plan := by
  obtain ⟨_, rfl, -⟩ := h
  rfl
theorem isShed (kind i : Nat) : t.isShed kind i = s.isShed kind i := by rw [State.isShed, State.isShed, OnRegs.link h]

theorem streamBits (l : Nat) : t.streamBits l = s.streamBits l := by
  unfold State.streamBits
  rw [h.is, h.val, h.isShed, h.isShed, h.isShed]

theorem laneSets (l : Nat) : t.laneSets l = s.laneSets l := by
  have lane : t.lane l = s.lane l := by
    obtain ⟨_, rfl, -⟩ := h
    rfl
  rw [State.laneSets, State.laneSets, h.kept _ id, h.kept _ id, lane]

theorem redSets (l : Nat) : t.redSets l = s.redSets l := by
  obtain ⟨_, rfl, -⟩ := h
  rfl

theorem srcSamples (l src : Nat) : t.srcSamples l src = s.srcSamples l src := by
  unfold State.srcSamples
  rw [h.kept _ id]

theorem laneLoad (l : Nat) : t.laneLoad l = s.laneLoad l := by
  unfold State.laneLoad
  rw [h.streamBits, h.laneSets]

theorem laneCost (l : Nat) : t.laneCost l = s.laneCost l := by
  unfold State.laneCost
  rw [h.is, h.laneSets]

theorem edgeLoad (q : Nat) : t.edgeLoad q = s.edgeLoad q := by
  simp only [State.edgeLoad, h.is, h.get, h.isShed]

theorem intervalLoad (l : Nat) : t.intervalLoad l = s.intervalLoad l := by
  simp only [State.intervalLoad, h.redSets, h.srcSamples]

theorem segmentBytes (n : Nat) : t.segmentBytes n = s.segmentBytes n := by
  simp only [State.segmentBytes, State.partSamples, State.srcPeriod, h.srcSamples, h.redSets, h.is, h.val]

theorem groupLoad (n : Nat) : t.groupLoad n = s.groupLoad n := by
  simp only [State.groupLoad, State.accN, State.spacing, h.segmentBytes, h.is, h.get, h.val]

theorem tallyLoad : t.tallyLoad = s.tallyLoad := by
  simp only [State.tallyLoad, h.is, h.val]

theorem fhLoad (mode : Nat) : t.fhLoad mode = s.fhLoad mode := by
  simp only [State.fhLoad, funext h.laneLoad, funext h.edgeLoad, funext h.intervalLoad, funext h.groupLoad, h.tallyLoad, h.plan, h.is, h.get]

theorem feLoad (mode : Nat) : t.feLoad mode = s.feLoad mode := by
  simp only [State.feLoad, funext h.laneCost, h.plan]

theorem mode : t.mode = s.mode := h.get _

/-- Where every register reads as before, no budget is given back. -/
theorem releaseBudget : s.releaseBudget t = t := by
  rw [State.releaseBudget, h.mode, h.fhLoad, h.feLoad, Nat.sub_self, Nat.sub_self]
  exact if_pos ⟨rfl, rfl⟩
end SameReads

/-! ### Streams (R211, R214, R225, R230) -/

/-- RAW, the one stream of a lane, stops, and its budget is given back. -/
def State.rawStopped (s : State) (l : Nat) : State := s.releaseBudget ((s.put (R.LANE_STREAM l) 0).streamStop l 0)

/-- Four bits, of which RAW is not 3. -/
theorem streamStored_lt (v : Word) : streamStored v < 16 := by
  have := fieldOf_lt v 0 4
  unfold streamStored
  dsimp only
  split <;> omega

section
variable {s : State} {l : Nat} {v : Word} (on : s.powered (R.LANE_CTRL l) = true) (lead : s.is (R.LANE_STAT_MEMBER l) = false)
  (streams : modeStreams s.mode = true)
include on lead streams

/-- A LANE_STREAM word on a lane without streams goes to the planner. -/
theorem State.doLaneStreamWrite_starts (idle : s.is (R.LANE_STAT_BUSY l) = false) (empty : s.val (R.LANE_STREAM l) = 0) (enables : streamStored v ≠ 0)
    (fits : ((s.put (R.LANE_STREAM l) 0).put (R.LANE_STREAM l) (streamStored v)).planCheck s.mode = none) :
    s.doLaneStreamWrite l v = ((s.put (R.LANE_STREAM l) 0).put (R.LANE_STREAM l) (streamStored v)).planAdmit [.laneStream l] s.mode := by
  have same : SameReads s (s.put (R.LANE_STREAM l) 0) := State.put_sameReads (BitVec.eq_of_toNat_eq empty)
  have kept : s.releaseBudget (s.put (R.LANE_STREAM l) 0) = s.put (R.LANE_STREAM l) 0 := same.releaseBudget
  rw [← same.mode] at fits
  have submitted := State.submit_admitted [.laneStream l] fits
  rw [same.mode] at submitted
  rw [State.doLaneStreamWrite, State.ifOn_of_powered _ on]
  simp only [lead, streams, idle, empty, kept, submitted, enables, Bool.false_eq_true, if_false, Bool.not_true, Nat.zero_mod, ne_eq,
    not_true_eq_false, false_and, Nat.zero_add, Nat.zero_testBit, Nat.zero_and, if_true]

/-- A word without enables stops RAW, the one stream that is on. -/
theorem State.doLaneStreamWrite_stops (raw : s.val (R.LANE_STREAM l) = 1) (empty : streamStored v = 0) :
    s.doLaneStreamWrite l v = s.rawStopped l := by
  have dec : Nat.testBit 1 2 = false := by decide
  have filt : Nat.testBit 1 3 = false := by decide
  rw [State.doLaneStreamWrite, State.ifOn_of_powered _ on]
  simp [State.rawStopped, lead, streams, raw, empty, dec, filt]
end

/-- RAW that is on stops with its block in progress, and BUSY reads 1 (R87). -/
theorem State.streamStop_raw {s : State} {l : Nat} (lane : l < 48) (on : (s.lane l).raw.on ≠ 0) :
    ((s.streamStop l 0).lane l).raw.stopAt = some s.fU ∧ (s.streamStop l 0).is (R.LANE_STAT_BUSY l) = true ∧
      RegsKept s (s.streamStop l 0) (fun a => a = R.LANE_STAT l) := by
  have stopped : s.streamStop l 0 = (s.setLane l { s.lane l with raw := { (s.lane l).raw with stopAt := some s.fU } }).set (R.LANE_STAT_BUSY l) 1 :=
    if_neg on
  rw [stopped]
  refine ⟨congrArg (fun x => x.raw.stopAt) (s.lane_setLane_self _ lane), State.is_set_one _ (by decide), ?_⟩
  exact (OnRegs.set (w := fun a => a = R.LANE_STAT l) (s.setLane l _) (R.LANE_STAT_BUSY l) 1 rfl).kept

theorem State.rawStopped_shown {s : State} {l : Lane} (on : (s.lane l).raw.on ≠ 0) : (s.rawStopped l).val (R.LANE_STREAM l) = 0 ∧
    ((s.rawStopped l).lane l).raw.stopAt = some s.fU ∧ (s.rawStopped l).is (R.LANE_STAT_BUSY l) = true := by
  obtain ⟨stopAt, busy, regs⟩ := State.streamStop_raw (s := s.put (R.LANE_STREAM l) 0) l.isLt on
  have stream : ((s.put (R.LANE_STREAM l) 0).streamStop l 0).val (R.LANE_STREAM l) = 0 :=
    (State.val_of_rd (regs _ laneReg_ne)).trans (State.val_put_self _ _)
  unfold State.rawStopped
  generalize (s.put (R.LANE_STREAM l) 0).streamStop l 0 = t at stopAt busy stream
  have word := s.releaseBudget_rd t (laneHead_reg l (a := 0x1800014))
  have stat := s.releaseBudget_rd t (laneHead_reg l (a := 0x1800004))
  have lane := State.lane_of_lanes (s.releaseBudget_kept t).1 l
  exact ⟨(State.val_of_rd word).trans stream, (congrArg (fun x => x.raw.stopAt) lane).trans stopAt,
    (State.is_of_rd (f := R.LANE_STAT_BUSY l) stat).trans busy⟩

/-! ### Raw bursts (R225, R227) -/

/-- A burst start is noted while the lane is in burst mode and no burst runs. -/
theorem State.doBurstGo_notes {s : State} {l : Nat} (on : s.powered (R.LANE_CTRL l) = true) (sel : s.get (R.LANE_RAW_START_SEL l) = 16)
    (burst : (s.lane l).raw.on = 2) (active : s.is (R.LANE_STAT_BURST_ACTIVE l) = false) (drain : s.is (R.LANE_STAT_BURST_DRAIN l) = false) :
    s.doBurstGo l = s.setLane l { s.lane l with burstDue := true } := by
  rw [State.doBurstGo, State.ifOn_of_powered _ on, if_pos sel, State.burstRequest, if_neg (not_not.mpr burst), active, drain]
  rfl

/-- A burst start that comes too early is counted and raises BURST_MISS. -/
def State.burstMissed (s : State) (l : Nat) : State :=
  let t := s.laneCount l (R.LANE_BURST_MISS l) 1
  t.laneEvt l (R.LANE_EVT_BURST_MISS l) 0x0006 (t.val (R.LANE_BURST_MISS l))

theorem State.doBurstGo_misses {s : State} {l : Nat} (on : s.powered (R.LANE_CTRL l) = true) (sel : s.get (R.LANE_RAW_START_SEL l) = 16)
    (burst : (s.lane l).raw.on = 2) (active : s.is (R.LANE_STAT_BURST_ACTIVE l) = true) : s.doBurstGo l = s.burstMissed l := by
  rw [State.doBurstGo, State.ifOn_of_powered _ on, if_pos sel, State.burstRequest, if_neg (not_not.mpr burst), active]
  rfl

section
variable (s : State) (l : Nat)

/-- A SAT counter of a lane after a count (R13). -/
theorem State.laneCount_val (a n : Nat) (h : a ≠ R.LANE_EVT l) : (s.laneCount l a n).val a = min (s.val a + n) (2 ^ 32 - 1) := by
  have counted : (s.satCount a 32 n (R.LANE_EVT_SATURATED l)).1.val a = min (s.val a + n) (2 ^ 32 - 1) := s.satCount_val a n _ h
  unfold State.laneCount
  extract_lets r
  split
  · exact (State.val_of_rd ((State.laneEvt_field _ _ _ _ _).rd h)).trans counted
  · exact counted

theorem State.burstMissed_field : OnField (fun a => a = R.LANE_BURST_MISS l ∨ a = R.LANE_EVT l) s (s.burstMissed l) :=
  (s.laneCount_field l (R.LANE_BURST_MISS l) 1).trans ((State.laneEvt_field _ l _ _ _).mono fun _ => .inr)

theorem State.burstMissed_val : (s.burstMissed l).val (R.LANE_BURST_MISS l) = min (s.val (R.LANE_BURST_MISS l) + 1) (2 ^ 32 - 1) := by
  have other : R.LANE_BURST_MISS l ≠ R.LANE_EVT l := laneReg_ne
  exact (State.val_of_rd ((State.laneEvt_field _ l _ _ _).rd other)).trans (s.laneCount_val l _ 1 other)

theorem State.burstMissed_event : (s.burstMissed l).is (R.LANE_EVT_BURST_MISS l) = true := by
  unfold State.burstMissed
  exact State.laneEvt_is _ _ _ _ (by decide)
end

/-- At the tick boundary the burst begins, for BURST_TICKS ticks. -/
theorem State.doBurstStart_due {s : State} {l : Nat} (due : (s.lane l).burstDue = true) (boundary : s.time.fUnit = 0) :
    s.doBurstStart l = (s.setLane l { s.lane l with burstDue := false, burstLeft := max 1 (s.get (R.LANE_RAW_BURST_TICKS l)), burstSent := 0,
                                                    raw := { (s.lane l).raw with som := true } }).set (R.LANE_STAT_BURST_ACTIVE l) 1 := by
  simp only [State.doBurstStart, due, boundary, Bool.true_and, BEq.rfl, if_true]

theorem State.doBurstDone_due {s : State} {l : Nat} (drain : s.is (R.LANE_STAT_BURST_DRAIN l) = true)
    (ended : s.is (R.LANE_STAT_BURST_ACTIVE l) = false) (left : (s.lane l).burstAhead = 0) :
    s.doBurstDone l = (s.set (R.LANE_STAT_BURST_DRAIN l) 0).laneEvt l (R.LANE_EVT_BURST_DONE l) 0x0005 (s.lane l).burstSent := by
  simp only [State.doBurstDone, drain, ended, left, Bool.not_false, Bool.true_and, BEq.rfl, if_true]

/-! ### The end of unsettled runs (R224) -/

/-- UNSETTLED and UNSET_LEFT once the runs have ended. -/
def State.laneSettled (s : State) (l : Nat) : State := (s.set (R.LANE_STAT_UNSETTLED l) 0).put (R.LANE_UNSET_LEFT l) 0

theorem State.laneSettled_shown (s : State) (l : Nat) : (s.laneSettled l).is (R.LANE_STAT_UNSETTLED l) = false ∧
    (s.laneSettled l).val (R.LANE_UNSET_LEFT l) = 0 ∧ OnRegs (fun a => a = R.LANE_STAT l ∨ a = R.LANE_UNSET_LEFT l) s (s.laneSettled l) := by
  have stat : R.LANE_STAT l ≠ R.LANE_UNSET_LEFT l := laneReg_ne
  exact ⟨(State.is_of_rd (f := R.LANE_STAT_UNSETTLED l) (State.rd_put_ne _ _ stat)).trans (State.is_set_zero _ (by decide)), State.val_put_self _ _,
    .trans (.set s (R.LANE_STAT_UNSETTLED l) 0 (.inl rfl)) (.put _ 0 (.inr rfl))⟩

/-! ### The withdrawal of a set (R214) -/

/-- The lane without its pending set, whose budget is given back. -/
def State.laneWithdrawn (s : State) (l : Nat) : State :=
  s.releaseBudget ((s.setLane l { s.lane l with pend := none, planned := false }).lanePending l 0)

/-- A set that the pod has not acknowledged in time is withdrawn with reason 8. -/
theorem State.doLaneApplyWithdraw_due {s : State} {l : Nat} (pend : (s.lane l).pend.isSome = true) (unacked : (s.lane l).acked = false)
    (gone : s.get (R.POD_S_STAT_STATE (l / 8)) ≠ 4 ∨ (s.lane l).ackBy ≤ s.time.fTick) (boundary : s.time.fUnit = 0) :
    s.doLaneApplyWithdraw l = (s.laneWithdrawn l).laneRefuse l 8 := by
  have due : (s.get (R.POD_S_STAT_STATE (l / 8)) != 4 || decide ((s.lane l).ackBy ≤ s.time.fTick)) = true := by simpa using gone
  simp only [State.doLaneApplyWithdraw, State.laneWithdrawn, pend, unacked, due, boundary, Bool.not_false, Bool.true_and, BEq.rfl, if_true]

theorem State.laneWithdrawn_shown (s : State) (l : Lane) :
    ((s.laneWithdrawn l).lane l).pend = none ∧ (s.laneWithdrawn l).is (R.LANE_STAT_APPLY_PENDING l) = false := by
  let v := (s.setLane l { s.lane l with pend := none, planned := false }).lanePending l 0
  have lane := State.lane_of_lanes (s.releaseBudget_kept v).1 l
  have stat := s.releaseBudget_rd v (laneHead_reg l (a := 0x1800004))
  exact ⟨congrArg LaneSt.pend (lane.trans (s.lane_setLane_self _ l.isLt)),
    (State.is_of_rd (f := R.LANE_STAT_APPLY_PENDING l) stat).trans (State.lanePending_clear _ l)⟩

/-! ### The statement -/

/-- Settles O16: each command reaches the state that its lemma writes out. That a set takes effect once the plan and the pod have both reached it is
the model's choice (log 52). -/
theorem laneConfigurationAndStreams : Obligations.LaneConfigurationAndStreams := by
  refine ⟨fun s u l on pending => ?_, fun s u l r on free bad => ?_, fun s u l y on free good submitted fits => ?_,
    fun s l x pend planned acked boundary => ?_, fun s l pend unacked gone boundary => ?_, fun s u l unsettled raw dec ended => ?_, fun s l on => ?_,
    fun s u l v on lead streams idle empty enables fits => ?_, fun s u l v on lead streams one raw empty => ?_,
    fun s u l on sel burst active drain => ?_, fun s u l on sel burst active => ?_, fun s l due boundary => ?_, fun s l active left => ?_,
    fun s u l drain active left => ?_⟩
  · exact answers_of_laneRefuse (congrArg (done s) (State.doLaneApply_again (s := s.atF u) on pending)) rfl (by decide)
  · exact answers_of_laneRefuse (congrArg (done s) (State.doLaneApply_bad (s := s.atF u) on free bad)) rfl ((s.atF u).laneReason_lt l _ r bad)
  · subst submitted
    obtain ⟨pods, admits⟩ := State.doLaneApply_admitted (s := s.atF u) on free good fits
    refine answers_of_arm (congrArg (done s) admits) rfl fun t e mem => ?_
    obtain ⟨lane, pending, result⟩ := (s.atF u).laneAsks_admitted l _ [.laneApply l] s.mode
    subst e
    exact ⟨lane, pending, result, mem⟩
  · refine answers_of_arm (congrArg (done s) (State.doLaneApplyEffect_due pend planned acked boundary)) rfl fun t e mem => ?_
    obtain ⟨active, filt, free, pending, event⟩ : InForce l x t := e ▸ s.laneTakeEffect_inForce l x
    exact ⟨active, filt, free, pending, event, mem⟩
  · refine answers_of_arm (congrArg (done s) (State.doLaneApplyWithdraw_due pend unacked gone boundary)) rfl fun t e mem => ?_
    obtain ⟨pend, pending⟩ := s.laneWithdrawn_shown l
    have lane := State.lane_of_lanes ((s.laneWithdrawn l).laneRefuse_field l 8).lanes l
    subst e
    exact ⟨(congrArg LaneSt.pend lane).trans pend, (State.laneRefuse_pending _ l 8).trans pending, State.laneRefuse_reason _ l 8 (by decide), mem⟩
  · have arm : (s.atF u).doUnsettledEnd l = ((s.atF u).laneSettled l).laneEvt l (R.LANE_EVT_UNSETTLED_END l) 0x0003 (s.lane l).runLen :=
      if_pos ⟨unsettled, raw, dec, ended⟩
    refine answers_of_arm (congrArg (done s) arm) rfl fun t e mem => ?_
    obtain ⟨flag, left, regs⟩ := (s.atF u).laneSettled_shown l
    obtain ⟨event, told⟩ := State.laneEvt_shown (by decide) e
    exact ⟨(State.is_of_rd (told _ laneReg_ne)).trans flag, (State.val_of_rd (told _ laneReg_ne)).trans left, event, mem,
      fun a other => (told a fun h => other (.inr (.inr h))).trans (regs.kept a fun h => other (h.imp_right .inl))⟩
  · have arm : s.doLaneClrStats l = s.putAll [R.LANE_OVR_CNT l, R.LANE_BURST_MISS l] 0 := State.ifOn_of_powered _ on
    refine answers_of_arm (congrArg (done s) arm) rfl fun t e mem => ?_
    have regs : OnRegs (fun a => a = R.LANE_OVR_CNT l ∨ a = R.LANE_BURST_MISS l) s _ := .putAll [R.LANE_OVR_CNT l, R.LANE_BURST_MISS l] 0 (by simp) s
    subst e
    exact ⟨State.putAll_zero_val (.inl (by simp)), State.putAll_zero_val (.inl (by simp)), mem, regs.kept⟩
  · have arm := State.doLaneStreamWrite_starts (s := s.atF u) on lead streams idle empty enables fits
    refine answers_of_arm (congrArg (done s) arm) rfl fun t e mem => ?_
    have stored := State.planAdmit_rd (((s.atF u).put (R.LANE_STREAM l) 0).put (R.LANE_STREAM l) (streamStored v)) [.laneStream l] s.mode
      (laneHead_reg l (a := 0x1800014))
    have word : streamStored v % 2 ^ 32 = streamStored v := Nat.mod_eq_of_lt (by have := streamStored_lt v; omega)
    subst e
    exact ⟨(State.val_of_rd stored).trans ((State.val_put_self _ _).trans word), (State.planAdmit_admitted _ _ _).result, mem⟩
  · have arm := State.doLaneStreamWrite_stops (s := s.atF u) on lead streams one empty
    refine answers_of_arm (congrArg (done s) arm) rfl fun t e mem => ?_
    obtain ⟨stream, stopAt, busy⟩ := State.rawStopped_shown (s := s.atF u) (l := l) raw
    rw [e] at stream stopAt busy
    exact ⟨stream, stopAt, busy, mem⟩
  · refine answers_of_arm (congrArg (done s) (State.doBurstGo_notes (s := s.atF u) on sel burst active drain)) rfl fun t e mem => ?_
    subst e
    exact ⟨congrArg LaneSt.burstDue ((s.atF u).lane_setLane_self _ l.isLt), rfl, mem⟩
  · refine answers_of_arm (congrArg (done s) (State.doBurstGo_misses (s := s.atF u) on sel burst active)) rfl fun t e mem => ?_
    have counted := (s.atF u).burstMissed_field l
    have count := (s.atF u).burstMissed_val l
    have event := (s.atF u).burstMissed_event l
    rw [e] at counted count event
    exact ⟨count, event, State.lane_of_lanes counted.lanes l, mem, counted.kept⟩
  · refine answers_of_arm (congrArg (done s) (State.doBurstStart_due due boundary)) rfl fun t e mem => ?_
    subst e
    exact ⟨congrArg LaneSt.burstLeft (s.lane_setLane_self _ l.isLt), congrArg LaneSt.burstDue (s.lane_setLane_self _ l.isLt),
      State.is_set_one _ (by decide), mem, (OnRegs.set (w := fun a => a = R.LANE_STAT l) (s.setLane l _) (R.LANE_STAT_BURST_ACTIVE l) 1 rfl).kept⟩
  · have arm : s.doBurstEnd l = s.set (R.LANE_STAT_BURST_ACTIVE l) 0 := if_pos ⟨active, left⟩
    refine answers_of_arm (congrArg (done s) arm) rfl fun t e mem => ?_
    subst e
    exact ⟨State.is_set_zero _ (by decide), mem, (OnRegs.set (w := fun a => a = R.LANE_STAT l) s (R.LANE_STAT_BURST_ACTIVE l) 0 rfl).kept⟩
  · refine answers_of_arm (congrArg (done s) (State.doBurstDone_due (s := s.atF u) drain active left)) rfl fun t e mem => ?_
    obtain ⟨event, told⟩ := State.laneEvt_shown (by decide) e
    have regs := OnRegs.set (w := fun a => a = R.LANE_STAT l) (s.atF u) (R.LANE_STAT_BURST_DRAIN l) 0 rfl
    exact ⟨(State.is_of_rd (told _ laneReg_ne)).trans (State.is_set_zero _ (by decide)), event, mem,
      fun a other => (told a fun h => other (.inr h)).trans (regs.kept a fun h => other (.inl h))⟩

end Sys2Proof.Machine
end

section
/-! PROOFS. Acquisition memory stays under every command that neither stores to it nor switches its domain (R249, R356, R389): O60. -/

namespace Sys2Proof.Machine

/-- Settles O60: `Ends.exec_of_not_mayStore` gives for each command outside `mayStore` that it answers a state that keeps acquisition memory, and
`mem_of_exec` reads the memory of the answer off it. -/
theorem memoryKept : Obligations.MemoryKept := by
  intro c s t storeless answered
  exact mem_of_exec answered storeless

end Sys2Proof.Machine
end

section
/-! PROOFS. What the shared operations of the compare engine do to a pair and to the registers (R266–R289). -/

namespace Sys2Proof.Machine

/-! ### Pairs and their registers -/

/-- Registers of one pair at different offsets. -/
theorem pairReg_ne {p a b : Nat} (h : a ≠ b := by decide) : a + 0x80 * p ≠ b + 0x80 * p := by omega

/-- A register in front of those of the pairs is none of them. -/
theorem ne_pairReg {p a b : Nat} (h : a < b := by decide) : a ≠ b + 0x80 * p := by omega

/-- The registers of a pair lie behind those that a report writes. -/
theorem pairReg_notMem_reportRegs {p a : Nat} (h : 0x1D01000 ≤ a := by decide) : a + 0x80 * p ∉ reportRegs := by
  have low : ∀ b ∈ reportRegs, b < 0x1D01000 := by decide
  intro m
  have := low _ m
  omega

theorem State.get_of_rd {s t : State} {f : Fld} (h : t.rd f.addr = s.rd f.addr) : t.get f = s.get f := by rw [State.get, State.get, h]

theorem State.pair_of_cmp {s t : State} (h : t.cmp = s.cmp) (p : Nat) : t.pair p = s.pair p :=
  congrArg (fun c : CmpSt => c.pairs.getD p {}) h

theorem State.pair_setPair (s : State) (p : PairNo) (x : PairSt) : (s.setPair p x).pair p = x := by
  simp [State.pair, State.setPair, Vector.getD]

theorem State.rd_setPair (s : State) (p : Nat) (x : PairSt) (a : Nat) : (s.setPair p x).rd a = s.rd a := rfl

theorem State.get_setPair (s : State) (p : Nat) (x : PairSt) (f : Fld) : (s.setPair p x).get f = s.get f := rfl

theorem State.is_setPair (s : State) (p : Nat) (x : PairSt) (f : Fld) : (s.setPair p x).is f = s.is f := rfl

theorem OnField.cmp {w : Nat → Prop} {s t : State} (h : OnField w s t) : t.cmp = s.cmp := by
  obtain ⟨_, _, rfl, _⟩ := h
  rfl

theorem OnHost.cmp {w : Nat → Prop} {s t : State} (h : OnHost w s t) : t.cmp = s.cmp := by
  obtain ⟨_, _, _, _, rfl, _⟩ := h
  rfl

/-! ### Events, counters and records (R279, R280, R288) -/

section
variable (s : State) (p : Nat)

/-- An event of the compare engine is at most a message. -/
theorem State.cmpEvt_field (code b16 : Nat) : OnField (fun _ => False) s (s.cmpEvt p code b16) := .ite (.refl _ s) (s.fieldEvent_field _ _ _ _ _)

/-- A count of the compare engine writes its counter and CMP_EVT. -/
theorem State.cmpCount_field (a n : Nat) : OnField (fun b => b = a ∨ b = R.CMP_EVT) s (s.cmpCount p a n) := by
  have counted : OnField (fun b => b = a ∨ b = R.CMP_EVT) s (s.satCount a 32 n R.CMP_EVT_SATURATED).1 := s.satCount_field _ _ _ _
  exact .ite (counted.trans ((State.fieldEvent_field _ _ _ _ _ _).mono fun _ => False.elim)) counted

/-- A SAT counter of the compare engine after a count (R13). -/
theorem State.cmpCount_val {a : Nat} (n : Nat) (h : a ≠ R.CMP_EVT) : (s.cmpCount p a n).val a = min (s.val a + n) (2 ^ 32 - 1) := by
  have counted : (s.satCount a 32 n R.CMP_EVT_SATURATED).1.val a = min (s.val a + n) (2 ^ 32 - 1) := s.satCount_val a n _ h
  unfold State.cmpCount
  extract_lets r
  split
  · exact (State.val_of_rd ((State.fieldEvent_field _ _ _ _ _ _).rd id)).trans counted
  · exact counted

/-- An INFO record leaves at once (R280). -/
theorem State.cmpRecord_info {r : CRec} (info : causeIsDisc r.cause = false) : s.cmpRecord p r = s.cmpSend p r :=
  if_neg (info ▸ Bool.false_ne_true)

/-- A record that leaves advances CMP_P_SEQ and writes no other register. -/
theorem State.cmpSend_rd (r : CRec) {a : Nat} (h : a ≠ R.CMP_P_SEQ p) : (s.cmpSend p r).rd a = s.rd a :=
  (State.rd_put_ne _ _ h).trans ((s.sendFH_field 0x42 4 _ _ _ _).rd id)

/-- What a record that leaves does to its pair: SUPPRESSED and MATCHES start again. -/
theorem State.cmpSend_pair (p : PairNo) (r : CRec) : (s.cmpSend p r).pair p = { s.pair p with supp := 0, since := 0 } :=
  State.pair_setPair _ p _

theorem State.cmpInfo_rd {r : CRec} (info : causeIsDisc r.cause = false) {a : Nat} (h : a ≠ R.CMP_P_SEQ p) : (s.cmpRecord p r).rd a = s.rd a := by
  rw [s.cmpRecord_info p info]
  exact s.cmpSend_rd p r h

theorem State.cmpInfo_pair (p : PairNo) {r : CRec} (info : causeIsDisc r.cause = false) :
    (s.cmpRecord p r).pair p = { s.pair p with supp := 0, since := 0 } := by
  rw [s.cmpRecord_info p info]
  exact s.cmpSend_pair p r
end

/-! ### STATE of a pair (R276, R285) -/

section
variable (s : State) (p v : Nat)

/-- Without followers that wait for it, STATE changes alone. -/
theorem State.pairState_eq_set (h : s.get (R.CMP_P_STAT_STATE p) ≠ 2 ∨ v = 2) : s.pairState p v = s.set (R.CMP_P_STAT_STATE p) v :=
  if_neg fun left => h.elim (· left.1) left.2

/-- The followers of a pair that leaves RUN are other pairs: its own STATE takes the new value. -/
theorem State.pairState_state (h : v < 8) : (s.pairState p v).get (R.CMP_P_STAT_STATE p) = v := by
  have written : (s.set (R.CMP_P_STAT_STATE p) v).get (R.CMP_P_STAT_STATE p) = v :=
    (State.get_set_self _ _ (by decide : 0 + 3 ≤ 32)).trans (Nat.mod_eq_of_lt h)
  unfold State.pairState
  extract_lets s1
  split
  · next left =>
    refine List.foldlRecOn (motive := fun t : State => t.get (R.CMP_P_STAT_STATE p) = v) _ _ written fun t shown q _ => ?_
    split
    · next follows =>
      obtain ⟨-, -, run⟩ := follows
      have other : p ≠ q := by
        rintro rfl
        exact left.2 (shown.symm.trans run)
      exact (State.get_set_ne _ (R.CMP_P_STAT_STATE q) 3 _ (by simp only [R.CMP_P_STAT_STATE, R.CMP_P_STAT]; omega)).trans shown
    · exact shown
  · exact written

theorem State.pairState_cmp : (s.pairState p v).cmp = s.cmp := by
  unfold State.pairState
  extract_lets s1
  split
  · refine List.foldlRecOn (motive := fun t : State => t.cmp = s.cmp) _ _ rfl fun t same q _ => ?_
    split
    · exact same
    · exact same
  · rfl
end

/-- The end of a recording writes registers and sends messages: pairs stay as they are. -/
theorem State.pairFinish_cmp (s : State) (p : Nat) : (s.pairFinish p).cmp = s.cmp := by
  unfold State.pairFinish
  extract_lets x
  split
  · rfl
  · extract_lets
    split
    · exact (State.cmpEvt_field _ _ _ _).cmp.trans (s.pairState_cmp p 6)
    · rfl

theorem State.pairFinish_live {s : State} {p : Nat} (live : (s.pair p).rdEnd = none) : s.pairFinish p = s := by
  simp only [State.pairFinish, live]

end Sys2Proof.Machine
end

section
/-! PROOFS. Enabling a compare pair, the decisions of a state pair, and the end of a pair (R272, R273, R275, R285, R286, R289): O21. -/

namespace Sys2Proof.Machine

/-! ### Enabling (R285) -/

/-- A pair with NEAR at least TOL and EN set: what its enable submits to the planner. -/
def State.pairAsks (s : State) (p : Nat) : State :=
  (s.put (R.CMP_P_NEAR p) (max (s.val (R.CMP_P_NEAR p)) (s.val (R.CMP_P_TOL p)))).set (R.CMP_P_CTRL_EN p) 1

section
variable {s : State} {p : Nat} (on : s.powered (R.CMP_P_CTRL p) = true) (off : s.is (R.CMP_P_CTRL_EN p) = false)
  (idle : s.is (R.CMP_P_STAT_BUSY p) = false)
include on off idle

theorem State.doPairEnable_admitted (ref : s.sideBad p true = false) (cand : s.sideBad p false = false) (kind : s.kindBad p = false)
    (lat : s.latBad p = false) (compares : modeCompares s.mode = true) (fits : (s.pairAsks p).planCheck s.mode = none) :
    s.doPairEnable p = (s.pairAsks p).planAdmit [.pair p] s.mode := by
  let near := s.put (R.CMP_P_NEAR p) (max (s.val (R.CMP_P_NEAR p)) (s.val (R.CMP_P_TOL p)))
  have mode : near.mode = s.mode := State.get_put_ne s _ R.SYS_MODE_MODE ne_pairReg
  have submitted : near.submit (near.set (R.CMP_P_CTRL_EN p) 1) [.pair p] = ((s.pairAsks p).planAdmit [.pair p] s.mode, true) :=
    (State.submit_admitted _ (mode ▸ fits)).trans (by rw [mode]; rfl)
  rw [State.doPairEnable, State.ifOn_of_powered _ on]
  simp only [off, idle, ref, cand, kind, lat, compares, Bool.or_self, Bool.not_true, Bool.false_eq_true, if_false]
  exact (if_pos (congrArg Prod.snd submitted)).trans (congrArg Prod.fst submitted)

theorem State.doPairEnable_badSide (bad : s.sideBad p true = true ∨ s.sideBad p false = true) : s.doPairEnable p = s.pairRefuse p 2 := by
  rw [State.doPairEnable, State.ifOn_of_powered _ on]
  simp only [off, idle, Bool.or_self, Bool.false_eq_true, if_false, Bool.or_eq_true, bad, if_true]
end

/-- A pair whose enable the planner admits. -/
theorem State.pairAsks_admitted (s : State) (p mode : Nat) (acts : List PlanAct) :
    ((s.pairAsks p).planAdmit acts mode).is (R.CMP_P_CTRL_EN p) = true ∧
      ((s.pairAsks p).planAdmit acts mode).val (R.CMP_P_NEAR p) = max (s.val (R.CMP_P_NEAR p)) (s.val (R.CMP_P_TOL p)) := by
  have kept (a : Nat) (pair : 0x1D01000 ≤ a) : ((s.pairAsks p).planAdmit acts mode).rd a = (s.pairAsks p).rd a := by
    refine ((s.pairAsks p).planAdmit_admitted acts mode).kept a fun told => Nat.not_lt.mpr pair ?_
    rcases told with rfl | rfl | rfl <;> decide
  have near : max (s.val (R.CMP_P_NEAR p)) (s.val (R.CMP_P_TOL p)) < 2 ^ 32 := max_lt (BitVec.isLt _) (BitVec.isLt _)
  refine ⟨(State.is_of_rd (f := R.CMP_P_CTRL_EN p) (kept _ (Nat.le_add_right_of_le (by decide)))).trans (State.is_set_one _ (by decide)), ?_⟩
  refine (State.val_of_rd (kept _ (Nat.le_add_right_of_le (by decide)))).trans ?_
  exact (State.val_set_ne (f := R.CMP_P_CTRL_EN p) _ _ pairReg_ne).trans ((State.val_put_self _ _).trans (Nat.mod_eq_of_lt near))

/-- What a refusal shows (R285). -/
structure PairRefused (p reason : Nat) (s t : State) : Prop where
  own : t.get (R.CMP_P_STAT_REFUSE p) = reason
  last : t.get R.CMP_STAT_REFUSE = reason
  event : t.is R.CMP_EVT_REFUSED = true
  kept : RegsKept s t (fun a => a = R.CMP_P_STAT p ∨ a = R.CMP_STAT ∨ a = R.CMP_EVT)

theorem State.pairRefuse_refused (s : State) (p : Nat) {reason : Nat} (small : reason < 16) : PairRefused p reason s (s.pairRefuse p reason) := by
  let noted := (s.set (R.CMP_P_STAT_REFUSE p) reason).set R.CMP_STAT_REFUSE reason
  let v := noted.set R.CMP_EVT_REFUSED 1
  have told : OnField (fun _ => False) v (s.pairRefuse p reason) := v.cmpEvt_field p 0x0005 reason
  have stat : R.CMP_P_STAT p ≠ R.CMP_STAT := Ne.symm ne_pairReg
  have evt : R.CMP_P_STAT p ≠ R.CMP_EVT := Ne.symm ne_pairReg
  have reads : reason % 2 ^ 4 = reason := Nat.mod_eq_of_lt small
  refine ⟨?_, ?_, (State.is_of_rd (told.rd id)).trans (State.is_set_one _ (by decide)), fun a other => (told.rd id).trans ?_⟩
  · refine (told.get id).trans ((State.get_set_ne _ R.CMP_EVT_REFUSED _ _ evt).trans ((State.get_set_ne _ R.CMP_STAT_REFUSE _ _ stat).trans ?_))
    exact (State.get_set_self _ _ (by decide : 28 + 4 ≤ 32)).trans reads
  · exact (told.get id).trans ((State.get_set_apart _ _ (by decide)).trans ((State.get_set_self _ _ (by decide)).trans reads))
  · refine (State.rd_set_ne _ R.CMP_EVT_REFUSED _ fun e => other (.inr (.inr e))).trans ?_
    exact (State.rd_set_ne _ R.CMP_STAT_REFUSE _ fun e => other (.inr (.inl e))).trans
      (State.rd_set_ne _ (R.CMP_P_STAT_REFUSE p) _ fun e => other (.inl e))

/-! ### One decision of a state pair (R272, R273, R275) -/

/-- The state of the reference at the next state instant, and its items behind it. -/
def State.refNow (s : State) (p : Nat) : Nat × List CItem := stateUpTo (s.pair p).refSt (s.pair p).nextAt (s.pair p).ref

/-- The decision instant: L behind the next state instant. -/
def State.stateAt (s : State) (p : Nat) : Int := (s.pair p).nextAt + s.sval (R.CMP_P_LAT_ACT p)

/-- The state of the candidate at the decision instant, and its items behind it. -/
def State.candNow (s : State) (p : Nat) : Nat × List CItem := stateUpTo (s.pair p).candSt (s.stateAt p) (s.pair p).cand

/-- The pair once the items through its next state instant are taken. -/
def State.stateTaken (s : State) (p : Nat) : PairSt :=
  { s.popState p (s.pair p).nextAt with refSt := (s.refNow p).1, ref := (s.refNow p).2, candSt := (s.candNow p).1, cand := (s.candNow p).2 }

/-- The decision of a state pair whose sides are known: a match where their states agree, else a failure of cause 0x04 that names both. -/
def State.stateJudged (s : State) (p : Nat) : State :=
  let s1 := s.setPair p (s.stateTaken p)
  if (s.refNow p).1 = (s.candNow p).1 then ((s1.pairDecide p).pairMatch p).runEnds p (s.stateAt p)
  else (s1.pairDecide p).runFails p 0x04 (s.stateAt p)
    { t := (s.pair p).nextAt, st := (s.refNow p).1, t64 := (s1.refStamp p (s.pair p).nextAt).1, era := (s1.refStamp p (s.pair p).nextAt).2 }
    { t := s.stateAt p, st := (s.candNow p).1, t64 := t64AtI (s.stateAt p) }

/-- A periodic state pair in RUN with a live reference, both of whose sides are presented, present and known at its decision instant. -/
structure StateDue (s : State) (p : Nat) : Prop where
  run : s.get (R.CMP_P_STAT_STATE p) = 2
  kind : s.get (R.CMP_P_CFG_KIND p) = 1
  periodic : s.is (R.CMP_P_CFG_SMODE p) = false
  live : (s.pair p).rdEnd = none
  presented : s.presented p none (s.stateAt p) (s.pair p).nextAt = true
  present : (s.pair p).absentAt (s.stateAt p) = none
  refKnown : (s.refNow p).1 ≠ 15
  candKnown : (s.candNow p).1 ≠ 15

section
variable (s : State) (p : PairNo)

theorem State.pairDecide_pair : (s.pairDecide p).pair p = { s.pair p with decisions := (s.pair p).decisions + 1 } := State.pair_setPair s p _

theorem State.pairMatch_pair : (s.pairMatch p).pair p = { s.pair p with since := (s.pair p).since + 1 } := State.pair_setPair s p _

theorem State.pairMatch_count : (s.pairMatch p).val64 (R.CMP_P_MATCH_LO p) = (s.val64 (R.CMP_P_MATCH_LO p) + 1) % 2 ^ 64 :=
  State.val64_put64 (s.setPair p { s.pair p with since := (s.pair p).since + 1 }) _

/-- A run of failures that is not yet told ends without a record. -/
theorem State.runEnds_untold (at_ : Int) (untold : (s.pair p).runDone = false) :
    s.runEnds p at_ = s.setPair p { s.pair p with run := 0, runDone := false } := if_neg (untold ▸ Bool.false_ne_true)

/-- A failure below PERSIST lengthens the run and tells nothing. -/
theorem State.runFails_short (cause : Nat) (d : Int) (r c : CItem) (short : (s.pair p).run + 1 < s.get (R.CMP_P_CFG_PERSIST p)) :
    ∃ x, s.runFails p cause d r c = s.setPair p x ∧ x.run = (s.pair p).run + 1 ∧ x.decisions = (s.pair p).decisions ∧
      x.rdEnd = (s.pair p).rdEnd ∧ x.nextAt = (s.pair p).nextAt := by
  have below : (s.pair p).run + 1 ≠ max 1 (s.get (R.CMP_P_CFG_PERSIST p)) := by omega
  unfold State.runFails
  by_cases first : (s.pair p).run = 0
  · simp only [if_pos first, if_neg below]
    exact ⟨_, rfl, rfl, rfl, rfl, rfl⟩
  · simp only [if_neg first, if_neg below]
    exact ⟨_, rfl, rfl, rfl, rfl, rfl⟩
end

/-- `y` is `x` at a later state instant: its run, its decisions, its recording and its spans of absence are those of `x`. -/
structure Moved (x y : PairSt) : Prop where
  rdEnd : y.rdEnd = x.rdEnd
  decisions : y.decisions = x.decisions
  run : y.run = x.run
  runDone : y.runDone = x.runDone
  later : x.nextAt < y.nextAt
  absent : y.absentAt = x.absentAt

/-- `y` is `x` one decision later: its reference goes on, and its run of failures has `run` members. -/
structure DecidedOnce (run : Nat) (x y : PairSt) : Prop where
  live : y.rdEnd = none
  decisions : y.decisions = x.decisions + 1
  run : y.run = run
  later : x.nextAt < y.nextAt

namespace StateDue
variable {s : State} {p : PairNo} (due : StateDue s p)
include due

theorem moved : Moved (s.pair p) (s.stateTaken p) := by
  have step : (s.pair p).nextAt < (s.pair p).nextAt + max 2560 (s.val (R.CMP_P_SPER p)) := by omega
  have bound : (s.pair p).nextAt < ((s.pair p).nextAt / unitsPerTick + 1) * unitsPerTick := Int.lt_ediv_add_one_mul_self _ (by decide)
  unfold State.stateTaken
  rw [State.popState, if_neg (due.periodic ▸ Bool.false_ne_true)]
  exact ⟨rfl, rfl, rfl, rfl, lt_min step bound, rfl⟩

/-- Both sides are judged at the decision instant. -/
theorem stateStep : s.stateStep p none = some (s.stateJudged p) := by
  have present : (s.stateTaken p).absentAt (s.stateAt p) = none := (congrFun due.moved.absent _).trans due.present
  have next : s.nextState p = some (s.pair p).nextAt := if_neg (due.periodic ▸ Bool.false_ne_true)
  have known : ¬ ((s.refNow p).1 = 15 ∨ (s.candNow p).1 = 15) := fun h => h.elim due.refKnown due.candKnown
  have awaited : ¬ ((s.pair p).rdEnd.any (fun e => decide (e < (s.pair p).nextAt)) || !s.presented p none (s.stateAt p) (s.pair p).nextAt) = true := by
    simp [due.live, due.presented]
  unfold State.stateStep
  rw [next]
  refine (if_neg awaited).trans ?_
  extract_lets
  split
  · next a absent => exact absurd (present.symm.trans absent) (Option.some_ne_none a).symm
  · exact (if_neg known).trans (apply_ite some ((s.refNow p).1 = (s.candNow p).1) _ _).symm

/-- The decision is made, and a pair with a live reference is not done. -/
theorem decides (live : ((s.stateJudged p).pair p).rdEnd = none) : s.doCompareDecision p = s.stateJudged p := by
  have made : s.pairStep p none = some (s.stateJudged p) := by
    rw [State.pairStep, due.kind]
    exact due.stateStep
  rw [State.doCompareDecision, if_pos due.run, made]
  exact State.pairFinish_live live

/-- Where the sides agree, a match is counted and the run of failures ends. -/
theorem judged_agrees (agree : (s.refNow p).1 = (s.candNow p).1) (untold : (s.pair p).runDone = false) :
    ∃ (v : State) (x : PairSt), s.stateJudged p = v.setPair p x ∧ DecidedOnce 0 (s.pair p) x ∧
      v.val64 (R.CMP_P_MATCH_LO p) = (s.val64 (R.CMP_P_MATCH_LO p) + 1) % 2 ^ 64 := by
  have judged : s.stateJudged p = (((s.setPair p (s.stateTaken p)).pairDecide p).pairMatch p).runEnds p (s.stateAt p) := if_pos agree
  obtain ⟨rdEnd, decisions, -, runDone, later, -⟩ := due.moved
  have pair := State.pairMatch_pair ((s.setPair p (s.stateTaken p)).pairDecide p) p
  rw [State.pairDecide_pair, State.pair_setPair] at pair
  have counted : (((s.setPair p (s.stateTaken p)).pairDecide p).pairMatch p).val64 (R.CMP_P_MATCH_LO p) =
      (s.val64 (R.CMP_P_MATCH_LO p) + 1) % 2 ^ 64 := State.pairMatch_count ((s.setPair p (s.stateTaken p)).pairDecide p) p
  generalize ((s.setPair p (s.stateTaken p)).pairDecide p).pairMatch p = v at judged pair counted
  generalize s.stateTaken p = y at rdEnd decisions runDone later pair
  rw [judged, v.runEnds_untold p _ ((congrArg PairSt.runDone pair).trans (runDone.trans untold)), pair]
  exact ⟨_, _, rfl, ⟨rdEnd.trans due.live, congrArg (· + 1) decisions, rfl, later⟩, counted⟩

/-- Where the sides differ, the run of failures grows; below PERSIST nothing is told. -/
theorem judged_differs (differ : (s.refNow p).1 ≠ (s.candNow p).1) (short : (s.pair p).run + 1 < s.get (R.CMP_P_CFG_PERSIST p)) :
    ∃ (v : State) (x : PairSt), s.stateJudged p = v.setPair p x ∧ DecidedOnce ((s.pair p).run + 1) (s.pair p) x ∧ v.regs = s.regs := by
  have judged : s.stateJudged p = ((s.setPair p (s.stateTaken p)).pairDecide p).runFails p 0x04 (s.stateAt p) _ _ := if_neg differ
  obtain ⟨rdEnd, decisions, run, -, later, -⟩ := due.moved
  have pair := State.pairDecide_pair (s.setPair p (s.stateTaken p)) p
  rw [State.pair_setPair] at pair
  have persist : ((s.setPair p (s.stateTaken p)).pairDecide p).get (R.CMP_P_CFG_PERSIST p) = s.get (R.CMP_P_CFG_PERSIST p) := rfl
  have regs : ((s.setPair p (s.stateTaken p)).pairDecide p).regs = s.regs := rfl
  generalize (s.setPair p (s.stateTaken p)).pairDecide p = v at judged pair persist regs
  generalize s.stateTaken p = y at rdEnd decisions run later pair judged
  have runs : (v.pair p).run = (s.pair p).run := (congrArg PairSt.run pair).trans run
  obtain ⟨x, fails, grown, made, ends, at_⟩ := v.runFails_short p 0x04 (s.stateAt p) _ _ (runs ▸ persist ▸ short)
  rw [pair] at made ends at_
  have count : x.decisions = (s.pair p).decisions + 1 := made.trans (congrArg (· + 1) decisions)
  exact ⟨v, x, judged.trans fails, ⟨ends.trans (rdEnd.trans due.live), count, grown.trans (congrArg (· + 1) runs), later.trans_eq at_.symm⟩, regs⟩
end StateDue

/-- What COMPARE_DECISION answers for a pair that is due. -/
theorem answers_of_judged {s v : State} {u : Sub} {p : PairNo} {env : List LaneIn} {x : PairSt} {P : State → Prop}
    (due : StateDue ((s.takeSamples env).atF u) p) (judged : ((s.takeSamples env).atF u).stateJudged p = v.setPair p x) (live : x.rdEnd = none)
    (hP : ∀ t, t.pair p = x → t.regs = v.regs → t.mem = s.mem → P t) : Answers (.compareDecision u p env) s P := by
  have pair := State.pair_setPair v p x
  have decides := due.decides (by rw [judged, pair]; exact live)
  exact answers_of_arm (congrArg (done s) (decides.trans judged)) rfl fun t e mem => hP _ (e ▸ pair) (e ▸ rfl) mem

/-! ### The end of a pair (R286) -/

/-- The state in which the Ledger takes the stop of a pair that is not in RUN: EN cleared, its record produced, the pair empty. -/
def State.pairStopped (s : State) (p : Nat) (r : CRec) : State :=
  (((((s.releaseBudget (s.set (R.CMP_P_CTRL_EN p) 0)).cmpRecord p r).pairState p 0).set (R.CMP_P_STAT_ABSENT p) 0)).setPair p {}

section
variable (s : State) (p : Nat)

/-- The release of a budget leaves the registers of the pairs. -/
theorem State.releaseBudget_pairReg {a : Nat} (t : State) (pair : 0x1D01000 ≤ a) : (s.releaseBudget t).rd a = t.rd a := by
  refine (s.releaseBudget_kept t).2 a fun sent => Nat.not_lt.mpr pair ?_
  rcases sent with rfl | rfl <;> decide

/-- The Ledger's appends leave the registers of the pairs. -/
theorem State.stopEntry_pairReg {a : Nat} (source inst t64 cancelled cut : Nat) (pair : 0x1D01000 ≤ a := by decide) :
    (s.stopEntry source inst t64 cancelled cut).rd (a + 0x80 * p) = s.rd (a + 0x80 * p) :=
  (Reported.of_append (s.stopEntry_host source inst t64 cancelled cut)).rd (pairReg_notMem_reportRegs pair)

variable {s p}

theorem State.pairStop_idle (en : s.is (R.CMP_P_CTRL_EN p) = true) (enabled : s.get (R.CMP_P_STAT_STATE p) ≠ 0)
    (noRun : s.get (R.CMP_P_STAT_STATE p) ≠ 2) :
    ∃ r t64 n, causeIsDisc r.cause = false ∧ s.pairStop p = (s.pairStopped p r).stopEntry 0x18 p t64 n 0 := by
  have state : (s.releaseBudget (s.set (R.CMP_P_CTRL_EN p) 0)).get (R.CMP_P_STAT_STATE p) = s.get (R.CMP_P_STAT_STATE p) :=
    (State.get_of_rd (f := R.CMP_P_STAT_STATE p) (s.releaseBudget_pairReg _ (Nat.le_add_right_of_le (by decide)))).trans
      (State.get_set_ne _ (R.CMP_P_CTRL_EN p) 0 _ pairReg_ne)
  unfold State.pairStop
  rw [if_pos en]
  extract_lets s1 now s2
  rw [if_neg (state ▸ enabled)]
  have kept : s2 = s1 := if_neg (state ▸ noRun)
  clear_value s2
  subst kept
  exact ⟨_, _, _, rfl, rfl⟩

/-- EN reads 0, STATE reads 0, and nothing of the pair is left. -/
theorem State.pairStopped_shown (s : State) (p : PairNo) {r : CRec} (info : causeIsDisc r.cause = false) (noRun : s.get (R.CMP_P_STAT_STATE p) ≠ 2) :
    (s.pairStopped p r).is (R.CMP_P_CTRL_EN p) = false ∧ (s.pairStopped p r).get (R.CMP_P_STAT_STATE p) = 0 ∧ (s.pairStopped p r).pair p = {} := by
  have absent : Apart (R.CMP_P_STAT_STATE p) (R.CMP_P_STAT_ABSENT p) := .of_bits (by decide) (by decide)
  let v := s.releaseBudget (s.set (R.CMP_P_CTRL_EN p) 0)
  have told {a : Nat} (seq : a ≠ R.CMP_P_SEQ p) (pair : 0x1D01000 ≤ a) : (v.cmpRecord p r).rd a = (s.set (R.CMP_P_CTRL_EN p) 0).rd a :=
    (v.cmpInfo_rd p info seq).trans (s.releaseBudget_pairReg _ pair)
  have state : (v.cmpRecord p r).get (R.CMP_P_STAT_STATE p) = s.get (R.CMP_P_STAT_STATE p) :=
    (State.get_of_rd (f := R.CMP_P_STAT_STATE p) (told pairReg_ne (Nat.le_add_right_of_le (by decide)))).trans
      (State.get_set_ne _ (R.CMP_P_CTRL_EN p) 0 _ pairReg_ne)
  have alone : (v.cmpRecord p r).pairState p 0 = (v.cmpRecord p r).set (R.CMP_P_STAT_STATE p) 0 := State.pairState_eq_set _ p 0 (.inl (state ▸ noRun))
  let w := ((v.cmpRecord p r).set (R.CMP_P_STAT_STATE p) 0).set (R.CMP_P_STAT_ABSENT p) 0
  have stopped : s.pairStopped p r = w.setPair p {} := congrArg (fun t : State => (t.set (R.CMP_P_STAT_ABSENT p) 0).setPair p {}) alone
  have ctrl : w.rd (R.CMP_P_CTRL p) = (s.set (R.CMP_P_CTRL_EN p) 0).rd (R.CMP_P_CTRL p) :=
    (State.rd_set_ne _ (R.CMP_P_STAT_ABSENT p) 0 pairReg_ne).trans ((State.rd_set_ne _ (R.CMP_P_STAT_STATE p) 0 pairReg_ne).trans
      (told pairReg_ne (Nat.le_add_right_of_le (by decide))))
  have idle : w.get (R.CMP_P_STAT_STATE p) = 0 := (State.get_set_apart _ _ absent).trans (State.get_set_self _ _ (by decide : 0 + 3 ≤ 32))
  clear_value w
  rw [stopped, State.is_setPair, State.get_setPair]
  exact ⟨(State.is_of_rd (f := R.CMP_P_CTRL_EN p) ctrl).trans (State.is_set_zero _ (by decide)), idle, State.pair_setPair _ p _⟩
end

/-! ### The statement -/

/-- Settles O21: an enable by what it submits, decisions by `StateDue`, the end of a pair by `pairStopped`, counters by their clears. -/
theorem comparePairs : Obligations.ComparePairs := by
  refine ⟨fun s u p on off idle ref cand kind lat compares fits => ?_, fun s u p on off idle bad => ?_,
    fun s u p env x run kind periodic pair live presented present refKnown candKnown agree untold => ?_,
    fun s u p env x run kind periodic pair live presented present refKnown candKnown differ short => ?_,
    fun s u p env on en enabled noRun => ?_, fun s u on => ?_, fun s u p on => ?_⟩
  · have admitted := State.doPairEnable_admitted (s := s.atF u) on off idle ref cand kind lat compares fits
    refine answers_of_arm (congrArg (done s) admitted) rfl fun t e mem => ?_
    obtain ⟨enabled, near⟩ := (s.atF u).pairAsks_admitted p (s.atF u).mode [.pair p]
    have result := (((s.atF u).pairAsks p).planAdmit_admitted [.pair p] (s.atF u).mode).result
    subst e
    exact ⟨enabled, near, result, mem⟩
  · refine answers_of_arm (congrArg (done s) (State.doPairEnable_badSide (s := s.atF u) on off idle bad)) rfl fun t e mem => ?_
    obtain ⟨own, last, event, kept⟩ := e ▸ (s.atF u).pairRefuse_refused p (by decide : 2 < 16)
    exact ⟨(State.is_of_rd (f := R.CMP_P_CTRL_EN p) (kept _ fun h => h.elim pairReg_ne fun h =>
      h.elim (Ne.symm ne_pairReg) (Ne.symm ne_pairReg))).trans off, own, last, event, mem, kept⟩
  · subst pair
    have due : StateDue ((s.takeSamples env).atF u) p := ⟨run, kind, periodic, live, presented, present, refKnown, candKnown⟩
    obtain ⟨v, x, judged, once, counted⟩ := due.judged_agrees agree untold
    refine answers_of_judged due judged once.live fun t pair regs mem => ?_
    subst pair
    have count (a : Nat) : t.val a = v.val a := State.val_of_rd (State.rd_of_regs regs a)
    rw [State.val64, ← count, ← count] at counted
    exact ⟨counted, once.decisions, once.run, once.later, mem⟩
  · subst pair
    have due : StateDue ((s.takeSamples env).atF u) p := ⟨run, kind, periodic, live, presented, present, refKnown, candKnown⟩
    obtain ⟨v, x, judged, once, kept⟩ := due.judged_differs differ short
    refine answers_of_judged due judged once.live fun t pair regs mem => ?_
    subst pair
    exact ⟨once.run, once.decisions, regs.trans kept, mem⟩
  · obtain ⟨r, t64, n, info, stops⟩ := State.pairStop_idle en enabled noRun
    refine answers_of_arm (congrArg (done s) ((State.ifOn_of_powered _ on).trans stops)) rfl fun t e mem => ?_
    obtain ⟨off, state, pair⟩ := ((s.takeSamples env).atF u).pairStopped_shown p info noRun
    generalize ((s.takeSamples env).atF u).pairStopped p r = v at e off state pair
    have ctrl := State.is_of_rd (f := R.CMP_P_CTRL_EN p) (v.stopEntry_pairReg p (a := 0x1D01000) 0x18 p t64 n 0)
    have stat := State.get_of_rd (f := R.CMP_P_STAT_STATE p) (v.stopEntry_pairReg p (a := 0x1D01004) 0x18 p t64 n 0)
    have empty := State.pair_of_cmp (v.stopEntry_host 0x18 p t64 n 0).cmp p
    subst e
    exact ⟨ctrl.trans off, stat.trans state, empty.trans pair, mem⟩
  · refine answers_of_arm (congrArg (done s) (State.ifOn_of_powered _ on)) rfl fun t e mem => ?_
    have regs : OnRegs (fun a => a = R.CMP_SUPPR ∨ a = R.CMP_RPL_GAPS) (s.atF u) _ := .putAll [R.CMP_SUPPR, R.CMP_RPL_GAPS] 0 (by simp) _
    subst e
    exact ⟨State.putAll_zero_val (.inl (by simp)), State.putAll_zero_val (.inl (by simp)), mem, regs.kept⟩
  · refine answers_of_arm (congrArg (done s) (State.ifOn_of_powered _ on)) rfl fun t e mem => ?_
    have regs : OnRegs (fun a => a = R.CMP_P_DISC p ∨ a = R.CMP_P_SKIP p ∨ a = R.CMP_P_SUPPR p ∨ a = R.CMP_P_GAP_TICKS p) (s.atF u) t :=
      e ▸ .putAll [R.CMP_P_DISC p, R.CMP_P_SKIP p, R.CMP_P_SUPPR p, R.CMP_P_GAP_TICKS p] 0 (by simp) _
    have zero (a : Nat) (listed : a ∈ [R.CMP_P_DISC p, R.CMP_P_SKIP p, R.CMP_P_SUPPR p, R.CMP_P_GAP_TICKS p]) : t.val a = 0 :=
      e ▸ State.putAll_zero_val (.inl listed)
    exact ⟨zero _ (by simp), zero _ (by simp), zero _ (by simp), zero _ (by simp), mem, regs.kept⟩

end Sys2Proof.Machine
end

section
/-! PROOFS. Latency that pairs learn and follow, recorded references and the replay timeline (R276–R278, R281–R284, R289): O22. -/

namespace Sys2Proof.Machine

/-! ### The latency in force (R274, R276, R277) -/

/-- A band pair's L′ turns on the configuration of the pair, on the lanes' sets and on their reductions: where those stay, it stays. -/
theorem State.pairLat_congr {s t : State} {p : Nat} (cfg : t.rd (R.CMP_P_CFG p) = s.rd (R.CMP_P_CFG p))
    (cand : t.rd (R.CMP_P_CAND p) = s.rd (R.CMP_P_CAND p)) (lanes : ∀ k < 256, t.rd (R.LANE_ACTIVE k) = s.rd (R.LANE_ACTIVE k))
    (reds : t.reds = s.reds) (l : Int) : t.pairLat p l = s.pairLat p l := by
  have samples (src : Nat) : t.srcSamples (s.get (R.CMP_P_CAND_INSTANCE p)) src = s.srcSamples (s.get (R.CMP_P_CAND_INSTANCE p)) src := by
    rw [State.srcSamples, State.srcSamples, lanes _ (s.get_lt (R.CMP_P_CAND_INSTANCE p))]
  have period : t.sidePeriod p false = s.sidePeriod p false := by
    simp only [State.sidePeriod, Bool.false_eq_true, if_false, State.red, reds, State.get_of_rd (f := R.CMP_P_CAND_INSTANCE p) cand,
      State.get_of_rd (f := R.CMP_P_CAND_SRC p) cand, State.get_of_rd (f := R.CMP_P_CFG_RED p) cfg, State.srcPeriod, samples]
  rw [State.pairLat, State.pairLat, State.get_of_rd (f := R.CMP_P_CFG_KIND p) cfg, period]

theorem State.pairRun_eq (s : State) (p : Nat) (at_ l : Int) :
    ∃ x, s.pairRun p at_ l = ((s.setPair p x).put (R.CMP_P_LAT_ACT p) (codeOf 32 (s.pairLat p l))).set (R.CMP_P_STAT_STATE p) 2 :=
  ⟨_, State.pairState_eq_set _ p 2 (.inr rfl)⟩

/-- A pair that takes a latency judges with it. -/
theorem State.pairRun_shown (s : State) (p : Nat) (at_ l : Int) : (s.pairRun p at_ l).get (R.CMP_P_STAT_STATE p) = 2 ∧
    (s.pairRun p at_ l).val (R.CMP_P_LAT_ACT p) = codeOf 32 (s.pairLat p l) ∧
    RegsKept s (s.pairRun p at_ l) (fun a => a = R.CMP_P_STAT p ∨ a = R.CMP_P_LAT_ACT p) := by
  obtain ⟨x, e⟩ := s.pairRun_eq p at_ l
  rw [e]
  refine ⟨State.get_set_self _ _ (by decide : 0 + 3 ≤ 32), ?_, fun a other => ?_⟩
  · exact (State.val_set_ne (f := R.CMP_P_STAT_STATE p) _ 2 pairReg_ne).trans ((State.val_put_self _ _).trans (Nat.mod_eq_of_lt (codeOf_lt 32 _)))
  · exact (State.rd_set_ne _ (R.CMP_P_STAT_STATE p) 2 fun h => other (.inl h)).trans ((State.rd_put_ne _ _ fun h => other (.inr h)).trans
      (s.rd_setPair p x a))

/-! ### Learning (R277, R278) -/

/-- The lower median of the deltas of the window. -/
def State.learnMedian (s : State) (p : Nat) : Int := (sortAsc (s.learnDeltas p)).getD (((s.learnDeltas p).length - 1) / 2) 0

/-- The deltas within TOL of the median. -/
def State.learnInTol (s : State) (p : Nat) : Nat :=
  ((s.learnDeltas p).filter (fun d => decide (((d - s.learnMedian p).natAbs : Int) ≤ s.val (R.CMP_P_TOL p)))).length

/-- What the freezing boundary shows of the window: N, IN_TOL and the event bit. -/
def State.learnNoted (s : State) (p : Nat) : State :=
  ((s.set (R.CMP_P_LEARN_N_N p) (s.learnDeltas p).length).set (R.CMP_P_LEARN_N_IN_TOL p) (s.learnInTol p)).set R.CMP_EVT_LEARN 1

theorem State.learnNoted_regs (s : State) (p : Nat) : OnRegs (fun a => a = R.CMP_P_LEARN_N p ∨ a = R.CMP_EVT) s (s.learnNoted p) :=
  ((OnRegs.set s (R.CMP_P_LEARN_N_N p) _ (.inl rfl)).trans (.set _ (R.CMP_P_LEARN_N_IN_TOL p) _ (.inl rfl))).trans (.set _ R.CMP_EVT_LEARN 1 (.inr rfl))

theorem State.learnNoted_event (s : State) (p : Nat) : (s.learnNoted p).is R.CMP_EVT_LEARN = true := State.is_set_one _ (by decide)

theorem State.learnNoted_pairLat (s : State) (p : Nat) (l : Int) : (s.learnNoted p).pairLat p l = s.pairLat p l := by
  have regs := s.learnNoted_regs p
  have reds : (s.learnNoted p).reds = s.reds := rfl
  have lane (k : Nat) (h : k < 256) : ¬ (R.LANE_ACTIVE k = R.CMP_P_LEARN_N p ∨ R.LANE_ACTIVE k = R.CMP_EVT) := by
    simp only [R.LANE_ACTIVE, R.CMP_P_LEARN_N, R.CMP_EVT]
    omega
  have own {a : Nat} (pair : a + 0x80 * p ≠ R.CMP_P_LEARN_N p) (evt : R.CMP_EVT < a := by decide) :
      ¬ (a + 0x80 * p = R.CMP_P_LEARN_N p ∨ a + 0x80 * p = R.CMP_EVT) := fun h => h.elim pair (Ne.symm (ne_pairReg evt))
  exact State.pairLat_congr (regs.kept _ (own pairReg_ne)) (regs.kept _ (own pairReg_ne)) (fun k h => regs.kept _ (lane k h)) reds l

section
variable {s : State} {p : Nat} (boundary : s.time.fUnit = 0) (learning : s.get (R.CMP_P_STAT_STATE p) = 1) (due : s.freezeAt p ≤ s.fTickU)
include boundary learning due

/-- A window with enough deltas, enough of them within TOL, ends in RUN with the median. -/
theorem State.doLearnFreeze_runs (deltas : max 1 (s.get (R.CMP_P_LEARN_MIN_N p)) ≤ (s.learnDeltas p).length)
    (inTol : s.get (R.CMP_P_LEARN_MIN_PCT p) * (s.learnDeltas p).length ≤ 100 * s.learnInTol p) :
    ∃ r b16, causeIsDisc r.cause = false ∧
      s.doLearnFreeze p = (((s.learnNoted p).pairRun p s.fTickU (s.learnMedian p)).cmpRecord p r).cmpEvt p 0x0001 b16 :=
  ⟨_, _, rfl, (if_pos ⟨boundary, learning, due⟩).trans (if_pos ⟨deltas, inTol⟩)⟩

/-- A window with too few deltas ends in FAILED, with the queues empty. -/
theorem State.doLearnFreeze_fails (few : (s.learnDeltas p).length < max 1 (s.get (R.CMP_P_LEARN_MIN_N p))) :
    ∃ r b16, causeIsDisc r.cause = false ∧ s.doLearnFreeze p = ((((s.learnNoted p).pairState p 4).setPair p
      { (s.learnNoted p).pair p with ref := [], cand := [], wait := [] }).cmpRecord p r).cmpEvt p 0x0002 b16 :=
  ⟨_, _, rfl, (if_pos ⟨boundary, learning, due⟩).trans (if_neg fun h => Nat.not_le.mpr few h.1)⟩
end

/-- An INFO record and its event leave every register but CMP_P_SEQ. -/
theorem State.infoTold_rd (s : State) (p : Nat) {r : CRec} (info : causeIsDisc r.cause = false) (code b16 : Nat) {a : Nat} (h : a ≠ R.CMP_P_SEQ p) :
    ((s.cmpRecord p r).cmpEvt p code b16).rd a = s.rd a :=
  (((s.cmpRecord p r).cmpEvt_field p code b16).rd id).trans (s.cmpInfo_rd p info h)

theorem State.infoTold_pair (s : State) (p : PairNo) {r : CRec} (info : causeIsDisc r.cause = false) (code b16 : Nat) :
    ((s.cmpRecord p r).cmpEvt p code b16).pair p = { s.pair p with supp := 0, since := 0 } :=
  (State.pair_of_cmp ((s.cmpRecord p r).cmpEvt_field p code b16).cmp p).trans (s.cmpInfo_pair p info)

theorem State.doRelearn_asks {s : State} {p : Nat} (on : s.powered (R.CMP_P_CTRL p) = true)
    (state : s.get (R.CMP_P_STAT_STATE p) = 2 ∨ s.get (R.CMP_P_STAT_STATE p) = 4) (mode : s.get (R.CMP_P_CFG_LAT_MODE p) = 1) :
    s.doRelearn p = s.setPair p { s.pair p with relearn := true } := (State.ifOn_of_powered _ on).trans (if_pos ⟨state, mode⟩)

theorem State.doLatencyFollow_follows {s : State} {p : Nat} (boundary : s.time.fUnit = 0) (en : s.is (R.CMP_P_CTRL_EN p) = true)
    (mode : s.get (R.CMP_P_CFG_LAT_MODE p) = 2) (runs : s.get (R.CMP_P_STAT_STATE (s.get (R.CMP_P_CFG_LAT_PAIR p))) = 2)
    (new : (s.pair (s.get (R.CMP_P_CFG_LAT_PAIR p))).latAt < s.fTickU) (state : s.get (R.CMP_P_STAT_STATE p) = 2) :
    s.doLatencyFollow p = s.put (R.CMP_P_LAT_ACT p) (codeOf 32 (s.pairLat p (s.sval (R.CMP_P_LAT_ACT (s.get (R.CMP_P_CFG_LAT_PAIR p)))))) :=
  (if_pos ⟨boundary, en, mode, runs, new⟩).trans ((if_neg (by rw [state]; decide)).trans (if_pos state))

/-! ### Reference records (R282, R283) -/

section
variable {s : State} {p : Nat} {v : Vec} (late : Bool) (recorded : s.pairRecorded p = true) (live : s.pairLive p = true)
  (unended : (s.pair p).rdEnd = none) (resident : s.fetchVec (s.pair p).rdAddr = some v)
include recorded live unended resident

/-- A record of kind 0 is passed over. -/
theorem State.doReferenceRead_passes (kind : (refRec (vecBytes v)).kind = 0) :
    s.doReferenceRead p late = s.setPair p { s.pair p with rdAddr := succAddr (s.pair p).rdAddr } := by
  simp only [State.doReferenceRead, recorded, live, unended, resident, kind, Option.isNone_none, Bool.and_self, if_true]

/-- A good record of kind 0xFF that is due ends the reference. -/
theorem State.doReferenceRead_ends (kind : (refRec (vecBytes v)).kind = 0xFF)
    (good : (refRec (vecBytes v)).bad (s.get (R.CMP_P_CFG_KIND p)) (s.pair p).rdBase = false)
    (due : s.liveAt (refRec (vecBytes v)).base - 2 * unitsPerTick ≤ s.fU) (onTime : (s.pair p).rdAbs = none) :
    s.doReferenceRead p late =
      s.setPair p { s.pair p with rdEnd := some (s.liveAt (refRec (vecBytes v)).base), rdBase := some (refRec (vecBytes v)).base } := by
  have noGap : s.refGapEnds p = s := by simp only [State.refGapEnds, onTime]
  have other : ¬ (refRec (vecBytes v)).kind = 0 := by rw [kind]; decide
  have taken : s.refTake p (refRec (vecBytes v)) =
      s.setPair p { s.pair p with rdEnd := some (s.liveAt (refRec (vecBytes v)).base), rdBase := some (refRec (vecBytes v)).base } := if_pos kind
  rw [← taken]
  simp only [State.doReferenceRead, recorded, live, unended, resident, Option.isNone_none, Bool.and_self, if_true, if_neg other, good,
    Bool.false_eq_true, if_false, if_pos due, noGap]
end

/-! ### The replay timeline (R284) -/

/-- Which pairs run with a recorded reference turns on their REF and STAT. -/
theorem State.recordedPairs_congr {s t : State} (same : ∀ a, 0x1D01000 ≤ a → t.rd a = s.rd a) : t.recordedPairs = s.recordedPairs := by
  have type (p : Nat) : t.get (R.CMP_P_REF_TYPE p) = s.get (R.CMP_P_REF_TYPE p) :=
    State.get_of_rd (f := R.CMP_P_REF_TYPE p) (same _ (Nat.le_add_right_of_le (by decide)))
  have state (p : Nat) : t.get (R.CMP_P_STAT_STATE p) = s.get (R.CMP_P_STAT_STATE p) :=
    State.get_of_rd (f := R.CMP_P_STAT_STATE p) (same _ (Nat.le_add_right_of_le (by decide)))
  simp only [State.recordedPairs, State.pairRecorded, type, state]

/-- The state after the end of a gap: it is counted. -/
def State.gapCounted (s : State) (rest : List (Nat × Nat × Nat)) : State :=
  ({ s with cmp := { s.cmp with ended := rest } } : State).cmpCount 0 R.CMP_RPL_GAPS 1

theorem State.doReplayResume_alone {s : State} {g : Nat × Nat × Nat} {r : List (Nat × Nat × Nat)} (ended : s.cmp.ended = g :: r)
    (due : g.2.2 + 2 * unitsPerTick ≤ s.fU) (nobody : s.recordedPairs = []) : s.doReplayResume = s.gapCounted r := by
  have counted := ({ s with cmp := { s.cmp with ended := r } } : State).cmpCount_field 0 R.CMP_RPL_GAPS 1
  have pairs : (s.gapCounted r).recordedPairs = [] := by
    refine (State.recordedPairs_congr fun a pair => counted.rd fun h => Nat.not_lt.mpr pair ?_).trans nobody
    rcases h with rfl | rfl <;> decide
  unfold State.doReplayResume
  rw [ended]
  refine (if_pos due).trans ?_
  show (s.gapCounted r).recordedPairs.foldl _ (s.gapCounted r) = _
  rw [pairs]
  rfl

/-! ### Overflow (R281) -/

/-- A pair whose sides are present takes items again, and its record tells what was lost. -/
theorem State.doOverflow_ends {s : State} {p : Nat} (lost : (s.pair p).lost ≠ 0)
    (room : (s.pair p).ref.length + (s.pair p).cand.length + (s.pair p).wait.length < pairQueue / 2) (ref : (s.pair p).absRef = none)
    (cand : (s.pair p).absCand = none) :
    ∃ r, causeIsDisc r.cause = false ∧ s.doOverflow p = (s.setPair p { s.pair p with lost := 0 }).cmpRecord p r := by
  unfold State.doOverflow
  extract_lets x one s1 wasPair s2
  have first : one s true = s := by simp only [one, if_true, ref]
  have second : one s false = s := by simp only [one, Bool.false_eq_true, if_false, cand]
  have present : s1 = s := (congrArg (one · false) first).trans second
  have kept : s2 = s.setPair p { s.pair p with lost := 0 } := by simp only [s2, wasPair, present]
  clear_value s2
  refine ⟨_, ?_, (if_pos ⟨lost, room⟩).trans (congrArg (State.cmpRecord · p _) kept)⟩
  rfl

/-! ### The replay registers (R289) -/

section
variable {s : State} {k : Nat} (v : Word) (on : s.powered (rplAddr k) = true)
include on

theorem State.doRplWrite_free (free : s.recordedOn = false) :
    s.doRplWrite k v = s.wr (rplAddr k) (if k = 5 then v &&& 0x1FFFF#32 else v) := by
  rw [State.doRplWrite, State.ifOn_of_powered _ on, if_neg (free ▸ Bool.false_ne_true)]

theorem State.doRplWrite_held (held : s.recordedOn = true) : s.doRplWrite k v = s := by
  rw [State.doRplWrite, State.ifOn_of_powered _ on, if_pos held]
end

/-! ### The statement -/

/-- Settles O22: each command reaches the state that its lemma writes out; records and events leave what the clauses speak of. -/
theorem compareLatency : Obligations.CompareLatency := by
  refine ⟨fun s p boundary learning due deltas inTol => ?_, fun s p boundary learning due few => ?_, fun s u p on state mode => ?_,
    fun s p boundary asked en => ?_, fun s p boundary en mode runs new state => ?_, fun s u p late v recorded live unended resident kind => ?_,
    fun s u p late v recorded live unended resident kind good due onTime => ?_, fun s u g r ended due nobody => ?_,
    fun s u p lost room ref cand => ?_, fun s u k v on off => ?_, fun s u k v on enabled => ?_⟩
  · obtain ⟨r, b16, info, runs⟩ := State.doLearnFreeze_runs boundary learning due deltas inTol
    refine answers_of_arm (congrArg (done s) runs) rfl fun t e mem => ?_
    have told {a : Nat} (h : a ≠ R.CMP_P_SEQ p) := ((s.learnNoted p).pairRun p s.fTickU (s.learnMedian p)).infoTold_rd p info 0x0001 b16 h
    obtain ⟨state, lat, kept⟩ := (s.learnNoted p).pairRun_shown p s.fTickU (s.learnMedian p)
    rw [s.learnNoted_pairLat] at lat
    have event := kept R.CMP_EVT (fun h => h.elim ne_pairReg ne_pairReg)
    rw [e] at told
    exact ⟨(State.get_of_rd (f := R.CMP_P_STAT_STATE p) (told pairReg_ne)).trans state, (State.val_of_rd (told pairReg_ne)).trans lat,
      (State.is_of_rd (f := R.CMP_EVT_LEARN) ((told ne_pairReg).trans event)).trans (s.learnNoted_event p), mem⟩
  · obtain ⟨r, b16, info, fails⟩ := State.doLearnFreeze_fails boundary learning due few
    refine answers_of_arm (congrArg (done s) fails) rfl fun t e mem => ?_
    have learns : (s.learnNoted p).get (R.CMP_P_STAT_STATE p) = 1 :=
      ((s.learnNoted_regs p).get (fun h => h.elim pairReg_ne (Ne.symm ne_pairReg))).trans learning
    have alone : (s.learnNoted p).pairState p 4 = (s.learnNoted p).set (R.CMP_P_STAT_STATE p) 4 :=
      State.pairState_eq_set _ p 4 (.inl (by rw [learns]; decide))
    have failed := (s.learnNoted p).pairState_state p 4 (by decide)
    have event : ((s.learnNoted p).pairState p 4).is R.CMP_EVT_LEARN = true := by
      rw [alone]
      exact (State.is_set_apart _ 4 (.inl ne_pairReg)).trans (s.learnNoted_event p)
    generalize (s.learnNoted p).pairState p 4 = w at e failed event
    generalize (s.learnNoted p).pair p = x at e
    have told {a : Nat} (h : a ≠ R.CMP_P_SEQ p) :=
      (w.setPair p { x with ref := [], cand := [], wait := [] }).infoTold_rd p info 0x0002 b16 h
    have pair := (w.setPair p { x with ref := [], cand := [], wait := [] }).infoTold_pair p info 0x0002 b16
    rw [State.pair_setPair] at pair
    rw [e] at told pair
    exact ⟨(State.get_of_rd (f := R.CMP_P_STAT_STATE p) (told pairReg_ne)).trans failed, congrArg PairSt.ref pair, congrArg PairSt.cand pair,
      (State.is_of_rd (f := R.CMP_EVT_LEARN) (told ne_pairReg)).trans event, mem⟩
  · refine answers_of_arm (congrArg (done s) (State.doRelearn_asks (s := s.atF u) on state mode)) rfl fun t e mem => ?_
    have pair := (s.atF u).pair_setPair p { (s.atF u).pair p with relearn := true }
    rw [e] at pair
    exact ⟨congrArg PairSt.relearn pair, e ▸ rfl, mem⟩
  · have starts : s.doRelearnStart p = (s.pairState p 1).setPair p
        { s.pair p with relearn := false, learnAt := s.fTickU, ref := [], wait := [], run := 0, runDone := false } := if_pos ⟨boundary, asked, en⟩
    refine answers_of_arm (congrArg (done s) starts) rfl fun t e mem => ?_
    have pair := (s.pairState p 1).pair_setPair p
      { s.pair p with relearn := false, learnAt := s.fTickU, ref := [], wait := [], run := 0, runDone := false }
    have state : t.get (R.CMP_P_STAT_STATE p) = 1 := e ▸ s.pairState_state p 1 (by decide)
    rw [e] at pair
    exact ⟨congrArg PairSt.relearn pair, congrArg PairSt.learnAt pair, congrArg PairSt.ref pair, congrArg PairSt.wait pair, state, mem⟩
  · refine answers_of_arm (congrArg (done s) (State.doLatencyFollow_follows boundary en mode runs new state)) rfl fun t e mem => ?_
    have lat := State.val_put_self s (a := R.CMP_P_LAT_ACT p) (codeOf 32 (s.pairLat p (s.sval (R.CMP_P_LAT_ACT (s.get (R.CMP_P_CFG_LAT_PAIR p))))))
    rw [e] at lat
    exact ⟨lat.trans (Nat.mod_eq_of_lt (codeOf_lt 32 _)), mem, e ▸ (OnRegs.put (w := fun a => a = R.CMP_P_LAT_ACT p) s _ rfl).kept⟩
  · have passes := State.doReferenceRead_passes (s := s.atF u) late recorded live unended resident kind
    have pair := (s.atF u).pair_setPair p { (s.atF u).pair p with rdAddr := succAddr ((s.atF u).pair p).rdAddr }
    have goes := State.pairFinish_live ((congrArg PairSt.rdEnd pair).trans unended)
    refine answers_of_arm (congrArg (done s) ((congrArg (State.pairFinish · p) passes).trans goes)) rfl fun t e mem => ?_
    rw [e] at pair
    exact ⟨congrArg PairSt.rdAddr pair, (congrArg PairSt.ref pair :), mem⟩
  · have ends := State.doReferenceRead_ends (s := s.atF u) late recorded live unended resident kind good due onTime
    refine answers_of_arm (congrArg (done s) (congrArg (State.pairFinish · p) ends)) rfl fun t e mem => ?_
    have pair := (s.atF u).pair_setPair p
      { (s.atF u).pair p with rdEnd := some ((s.atF u).liveAt (refRec (vecBytes v)).base), rdBase := some (refRec (vecBytes v)).base }
    rw [← State.pair_of_cmp (State.pairFinish_cmp _ p) p, e] at pair
    exact ⟨congrArg PairSt.rdEnd pair, mem⟩
  · refine answers_of_arm (congrArg (done s) (State.doReplayResume_alone (s := s.atF u) ended due nobody)) rfl fun t e mem => ?_
    let v : State := { s.atF u with cmp := { s.cmp with ended := r } }
    have rest := congrArg CmpSt.ended (v.cmpCount_field 0 R.CMP_RPL_GAPS 1).cmp
    have count := v.cmpCount_val 0 (a := R.CMP_RPL_GAPS) 1 (by decide)
    have counted : v.cmpCount 0 R.CMP_RPL_GAPS 1 = t := e
    rw [counted] at rest count
    exact ⟨rest, count, mem⟩
  · obtain ⟨rc, info, ends⟩ := State.doOverflow_ends (s := s.atF u) lost room ref cand
    refine answers_of_arm (congrArg (done s) ends) rfl fun t e mem => ?_
    have pair := ((s.atF u).setPair p { (s.atF u).pair p with lost := 0 }).cmpInfo_pair p info
    rw [State.pair_setPair, e] at pair
    exact ⟨congrArg PairSt.lost pair, (congrArg PairSt.ref pair :), (congrArg PairSt.cand pair :), mem⟩
  · refine answers_of_arm (congrArg (done s) (State.doRplWrite_free (s := s.atF u) v on off)) rfl fun t e mem => ?_
    have word := (s.atF u).rd_wr_self (rplAddr k) (if k.val = 5 then v &&& 0x1FFFF#32 else v)
    rw [e] at word
    exact ⟨word, mem, e ▸ (OnRegs.wr (w := fun a => a = rplAddr k) (s.atF u) _ rfl).kept⟩
  · refine answers_of_arm (congrArg (done s) (State.doRplWrite_held (s := s.atF u) v on enabled)) rfl fun t e mem => ?_
    exact ⟨e ▸ rfl, mem⟩

end Sys2Proof.Machine
end

section
/-! PROOFS. One sampling instant of the guard windows and the clear of their counters (R294–R297, R305): O20. -/

namespace Sys2Proof.Machine

/-! ### The registers and the state of one window -/

/-- The registers that a sample of a window may write: GRD_EVT, and of the window's own STAT, EVT, the counters and the last change. -/
def SampleRegs (w a : Nat) : Prop :=
  a = R.GRD_EVT ∨ a = R.GRD_W_STAT w ∨ a = R.GRD_W_EVT w ∨ (R.GRD_W_XCNT w ≤ a ∧ a ≤ R.GRD_W_LAST_GEN w)

/-- A sample enables and disables no window. -/
theorem cfg_notMem_sampleRegs (w k : Nat) : ¬ SampleRegs w (R.GRD_W_CFG k) := by
  simp only [SampleRegs, R.GRD_EVT, R.GRD_W_STAT, R.GRD_W_EVT, R.GRD_W_XCNT, R.GRD_W_LAST_GEN, R.GRD_W_CFG]
  omega

/-- A sample changes the reactions of no window. -/
theorem act_notMem_sampleRegs (w k : Nat) : ¬ SampleRegs w (R.GRD_W_ACT k) := by
  simp only [SampleRegs, R.GRD_EVT, R.GRD_W_STAT, R.GRD_W_EVT, R.GRD_W_XCNT, R.GRD_W_LAST_GEN, R.GRD_W_ACT]
  omega

/-- Registers of one window at different offsets. -/
theorem winReg_ne {w a b : Nat} (h : a ≠ b := by decide) : a + 0x40 * w ≠ b + 0x40 * w := by omega

/-- A register of the block lies in front of those of the windows. -/
theorem winReg_ne_block {w a b : Nat} (h : b < a := by decide) : a + 0x40 * w ≠ b := by omega

/-- Fields of one register that share no bit, by their places. -/
theorem Apart.inWord {a lo n lo' n' : Nat} (h : (lo + n ≤ 32 ∧ lo' + n' ≤ 32) ∧ (lo + n ≤ lo' ∨ lo' + n' ≤ lo) := by decide) :
    Apart ⟨a, lo, n⟩ ⟨a, lo', n'⟩ := .of_bits h.1 h.2

theorem OnField.grd {w : Nat → Prop} {s t : State} (h : OnField w s t) : t.grd = s.grd := by
  obtain ⟨_, _, rfl, _⟩ := h
  rfl

theorem RegsKept.trans {w : Nat → Prop} {s t v : State} (h : RegsKept s t w) (h' : RegsKept t v w) : RegsKept s v w :=
  fun a ha => (h' a ha).trans (h a ha)

theorem State.win_of_grd {s t : State} (h : t.grd = s.grd) (w : Nat) : t.win w = s.win w := congrArg (fun g : GuardSt => g.wins.getD w {}) h

theorem State.win_setWin (s : State) (w : Win) (x : GrdSt) : (s.setWin w x).win w = x := by
  simp [State.win, State.setWin, Vector.getD]

/-! ### Events, counters and changes of a window (R295, R296, R299–R301) -/

section
variable (s : State) (w : Nat)

/-- An event of a window is at most a message. -/
theorem State.winEvent_field (code t64 : Nat) (always : Bool) : OnField (fun _ => False) s (s.winEvent w code t64 always) :=
  .ite (s.fieldEvent_field _ _ _ _ _) (.refl _ s)

/-- A count of a window writes its counter, EVT of the window and GRD_EVT. -/
theorem State.winCount_field (a n t64 : Nat) :
    OnField (fun b => b = a ∨ b = R.GRD_W_EVT w ∨ b = R.GRD_EVT) s (s.winCount w a n t64) := by
  have counted : OnField (fun b => b = a ∨ b = R.GRD_W_EVT w ∨ b = R.GRD_EVT) s (s.satCount a 32 n (R.GRD_W_EVT_SATURATED w)).1 :=
    (s.satCount_field _ _ _ _).mono fun _ => .imp_right .inl
  exact .ite ((counted.trans (.set _ R.GRD_EVT_SATURATED 1 (.inr (.inr rfl)))).trans ((State.winEvent_field _ _ _ _ _).mono fun _ => False.elim))
    counted

/-- A count in a counter of the window stays inside what a sample may write. -/
theorem State.winCount_kept {a : Nat} (n t64 : Nat) (h : R.GRD_W_XCNT w ≤ a ∧ a ≤ R.GRD_W_LAST_GEN w) :
    RegsKept s (s.winCount w a n t64) (SampleRegs w) := by
  refine ((s.winCount_field w a n t64).mono fun b hb => ?_).kept
  rcases hb with rfl | rfl | rfl
  · exact .inr (.inr (.inr h))
  · exact .inr (.inr (.inl rfl))
  · exact .inl rfl

theorem State.winCount_stat {a : Nat} (n t64 : Nat) (h : R.GRD_W_STAT w ≠ a) :
    (s.winCount w a n t64).rd (R.GRD_W_STAT w) = s.rd (R.GRD_W_STAT w) := by
  refine (s.winCount_field w a n t64).rd ?_
  rintro (e | e | e)
  · exact h e
  · exact winReg_ne (a := 0x1E01004) (b := 0x1E01008) (h := by decide) e
  · exact winReg_ne_block (a := 0x1E01004) (b := 0x1E00008) (h := by decide) e

/-- The raw state shows in STAT alone. -/
theorem State.winShow_field (st ones : Nat) : OnField (fun a => a = R.GRD_W_STAT w) s (s.winShow w st ones) := by
  have shown : OnField (fun a => a = R.GRD_W_STAT w) s ((s.set (R.GRD_W_STAT_STATE w) st).set (R.GRD_W_STAT_ONES w) ones) :=
    (OnField.set (w := fun a => a = R.GRD_W_STAT w) s (R.GRD_W_STAT_STATE w) st rfl).trans (.set _ (R.GRD_W_STAT_ONES w) ones rfl)
  exact .ite shown (shown.trans (.set _ (R.GRD_W_STAT_SIDE w) _ rfl))

theorem State.winShow_state {st : Nat} (ones : Nat) (h : st < 4) : (s.winShow w st ones).get (R.GRD_W_STAT_STATE w) = st := by
  have shown : ((s.set (R.GRD_W_STAT_STATE w) st).set (R.GRD_W_STAT_ONES w) ones).get (R.GRD_W_STAT_STATE w) = st :=
    (State.get_set_apart _ _ .inWord).trans ((State.get_set_self _ _ (by decide : 8 + 2 ≤ 32)).trans (Nat.mod_eq_of_lt h))
  unfold State.winShow
  extract_lets s1
  split
  · exact shown
  · exact (State.get_set_apart _ _ .inWord).trans shown

theorem State.rd_sourceLevel (code at_ : Nat) (v : Bool) (a : Nat) : (s.sourceLevel code at_ v).rd a = s.rd a := rfl

theorem State.grd_sourceLevel (code at_ : Nat) (v : Bool) : (s.sourceLevel code at_ v).grd = s.grd := rfl

/-- The combiners take a change of a source into their queues, and no register is written (R237). -/
theorem State.sourceEvent_regs (code stamp : Nat) : (s.sourceEvent code stamp).regs = s.regs := by
  refine List.foldlRecOn (motive := fun t : State => t.regs = s.regs) _ _ rfl fun t h c _ => ?_
  dsimp only
  split
  · split <;> exact h
  · exact h

/-- What a change of the output writes: OUT, LAST, the events (R296, R301). -/
def State.winChanged (out : Bool) (t64 : Nat) : State :=
  let t := (s.set (R.GRD_W_STAT_OUT w) (if out then 1 else 0)).replaceResult (R.GRD_W_LAST_LO w) (R.GRD_W_LAST_GEN w) t64
  (t.set R.GRD_EVT_CHANGE 1).set (if out then R.GRD_W_EVT_OUT w else R.GRD_W_EVT_IN w) 1

theorem State.winChanged_field (out : Bool) (t64 : Nat) : OnField (SampleRegs w) s (s.winChanged w out t64) := by
  have result (t : State) : OnField (SampleRegs w) t (t.replaceResult (R.GRD_W_LAST_LO w) (R.GRD_W_LAST_GEN w) t64) := by
    refine (t.replaceResult_field _ _ _ _).mono fun a ha => .inr (.inr (.inr ?_))
    simp only [R.GRD_W_XCNT, R.GRD_W_LAST_LO, R.GRD_W_LAST_GEN] at ha ⊢
    omega
  have event : SampleRegs w (if out then R.GRD_W_EVT_OUT w else R.GRD_W_EVT_IN w).addr := by cases out <;> exact .inr (.inr (.inl rfl))
  exact (((OnField.set s (R.GRD_W_STAT_OUT w) _ (.inr (.inl rfl))).trans (result _)).trans (.set _ R.GRD_EVT_CHANGE 1 (.inl rfl))).trans
    (.set _ _ 1 event)

/-- STAT takes the new output, and nothing else of a change. -/
theorem State.winChanged_stat (out : Bool) (t64 : Nat) :
    (s.winChanged w out t64).rd (R.GRD_W_STAT w) = (s.set (R.GRD_W_STAT_OUT w) (if out then 1 else 0)).rd (R.GRD_W_STAT w) := by
  have event : R.GRD_W_STAT w ≠ (if out then R.GRD_W_EVT_OUT w else R.GRD_W_EVT_IN w).addr := by cases out <;> exact winReg_ne
  refine (State.rd_set_ne _ _ 1 event).trans ((State.rd_set_ne _ R.GRD_EVT_CHANGE 1 winReg_ne_block).trans ?_)
  refine (State.replaceResult_field _ _ _ _ _).rd ?_
  simp only [R.GRD_W_LAST_LO, R.GRD_W_LAST_GEN]
  omega

theorem State.setOut_is (out : Bool) : (s.set (R.GRD_W_STAT_OUT w) (if out then 1 else 0)).is (R.GRD_W_STAT_OUT w) = out := by
  cases out
  · exact s.is_set_zero (by decide)
  · exact s.is_set_one (by decide)
end

/-- A change of the output without the FAULT reaction writes no other register (R299). -/
theorem State.winChange_rd {s : State} {w : Nat} (calm : s.is (R.GRD_W_ACT_FAULT w) = false) (out : Bool) (at_ a : Nat) :
    (s.winChange w out at_).rd a = (s.winChanged w out (t64At at_)).rd a := by
  unfold State.winChange
  extract_lets t64 s1 s2 inh s3 s4 g s5 s6
  have told : ∀ a, s4.rd a = s2.rd a := fun a => (State.rd_of_regs (State.sourceEvent_regs _ _ _) a).trans ((s2.winEvent_field _ _ _ _).rd id)
  have reacts : ∀ a, s5.rd a = s2.rd a := fun a => by
    refine Eq.trans ?_ (told a)
    simp only [s5]
    split <;> rfl
  have off : s5.is (R.GRD_W_ACT_FAULT w) = false :=
    (State.is_of_rd ((reacts _).trans ((s.winChanged_field w out t64).rd (act_notMem_sampleRegs w w)))).trans calm
  have still : s6 = s5 := if_neg (by rw [off]; decide)
  split
  · exact told a
  · refine Eq.trans ?_ (reacts a)
    rw [still]
    split <;> rfl

/-! ### One sample (R292, R295–R297) -/

/-- After a sample of a window: its raw state, its output, and every register that the sample does not write. -/
structure Sampled (s t : State) (w st : Nat) : Prop where
  kept : RegsKept s t (SampleRegs w)
  state : t.get (R.GRD_W_STAT_STATE w) = st
  out : t.is (R.GRD_W_STAT_OUT w) = decide (st ≠ 0)

theorem Sampled.of_stat {s t v : State} {w st : Nat} (h : Sampled s t w st) (kept : RegsKept t v (SampleRegs w))
    (stat : v.rd (R.GRD_W_STAT w) = t.rd (R.GRD_W_STAT w)) : Sampled s v w st :=
  ⟨h.kept.trans kept, (State.get_of_rd stat).trans h.state, (State.is_of_rd stat).trans h.out⟩

/-- The time with the output at 1 is counted beside the state and the output. -/
theorem Sampled.count {s t : State} {w st : Nat} (h : Sampled s t w st) (n t64 : Nat) : Sampled s (t.winCount w (R.GRD_W_OUTT w) n t64) w st :=
  h.of_stat (t.winCount_kept w n t64 (by simp only [R.GRD_W_XCNT, R.GRD_W_OUTT, R.GRD_W_LAST_GEN]; omega)) (t.winCount_stat w n t64 winReg_ne)

/-- The output follows the raw state: it changes where it differs. -/
theorem Sampled.follow {s t : State} {w st : Nat} (kept : RegsKept s t (SampleRegs w)) (state : t.get (R.GRD_W_STAT_STATE w) = st)
    (calm : t.is (R.GRD_W_ACT_FAULT w) = false) (at_ : Nat) :
    Sampled s (if decide (st ≠ 0) != t.is (R.GRD_W_STAT_OUT w) then t.winChange w (decide (st ≠ 0)) at_ else t) w st := by
  split
  · have written := State.winChange_rd calm (decide (st ≠ 0)) at_
    have stat := (written (R.GRD_W_STAT w)).trans (t.winChanged_stat w (decide (st ≠ 0)) (t64At at_))
    exact ⟨kept.trans fun a ha => (written a).trans ((t.winChanged_field w _ _).rd ha),
      (State.get_of_rd (f := R.GRD_W_STAT_STATE w) stat).trans ((t.get_set_apart _ .inWord).trans state),
      (State.is_of_rd (f := R.GRD_W_STAT_OUT w) stat).trans (t.setOut_is w _)⟩
  · next same => exact ⟨kept, state, (by simpa only [bne_iff_ne, ne_eq, not_not] using same : decide (st ≠ 0) = _).symm⟩

/-- INDET falls beside the state and the output (R297). -/
theorem Sampled.clearIndet {s t : State} {w st : Nat} (h : Sampled s t w st) (t64 : Nat) :
    Sampled s (((t.set (R.GRD_W_STAT_INDET w) 0).set (R.GRD_W_EVT_INDET_CLEAR w) 1).winEvent w 0x0003 t64) w st := by
  have cleared : OnField (SampleRegs w) t (((t.set (R.GRD_W_STAT_INDET w) 0).set (R.GRD_W_EVT_INDET_CLEAR w) 1).winEvent w 0x0003 t64) :=
    ((OnField.set t (R.GRD_W_STAT_INDET w) 0 (.inr (.inl rfl))).trans (.set _ (R.GRD_W_EVT_INDET_CLEAR w) 1 (.inr (.inr (.inl rfl))))).trans
      ((State.winEvent_field _ _ _ _ _).mono fun _ => False.elim)
  have stat : (((t.set (R.GRD_W_STAT_INDET w) 0).set (R.GRD_W_EVT_INDET_CLEAR w) 1).winEvent w 0x0003 t64).rd (R.GRD_W_STAT w)
      = (t.set (R.GRD_W_STAT_INDET w) 0).rd (R.GRD_W_STAT w) :=
    ((State.winEvent_field _ _ _ _ _).rd id).trans (State.rd_set_ne _ (R.GRD_W_EVT_INDET_CLEAR w) 1 winReg_ne)
  exact ⟨h.kept.trans cleared.kept,
    (State.get_of_rd (f := R.GRD_W_STAT_STATE w) stat).trans ((t.get_set_apart _ .inWord).trans h.state),
    (State.is_of_rd (f := R.GRD_W_STAT_OUT w) stat).trans ((t.is_set_apart _ .inWord).trans h.out)⟩

theorem rawNext_lt (prev : Nat) (v hi lo hyst : Int) : rawNext prev v hi lo hyst < 4 := by
  have sides (p q : Prop) [Decidable p] [Decidable q] : (if p then 2 else if q then 1 else 0) < 4 := by
    split
    · decide
    · split <;> decide
  unfold rawNext
  split <;> exact sides _ _

theorem rawFirst_lt (v hi lo hyst : Int) : rawFirst v hi lo hyst < 4 := by
  unfold rawFirst
  split
  · split <;> decide
  · split
    · split <;> decide
    · exact rawNext_lt 0 v hi lo hyst

/-- A sample lets ABSENT fall and shows the raw state; the bits of the filter lie beside the registers (R296, R298). -/
theorem State.winShown_kept (s : State) (w : Nat) (x : GrdSt) (st ones : Nat) :
    RegsKept s (((s.set (R.GRD_W_STAT_ABSENT w) 0).setWin w x).winShow w st ones) (SampleRegs w) :=
  (OnField.set (w := SampleRegs w) s (R.GRD_W_STAT_ABSENT w) 0 (.inr (.inl rfl))).kept.trans
    (((State.winShow_field _ w st ones).mono fun _ => (.inr <| .inl ·)).kept : RegsKept ((s.set (R.GRD_W_STAT_ABSENT w) 0).setWin w x) _ _)

/-- The first sample of a window (R297). -/
theorem State.winSample_starts {s : State} {w : Win} (start : (s.win w).start = true) (good : s.grdWinBad w = false) (at_ : Nat) (v : Int) :
    Sampled s (s.winSample w at_ v) w (rawFirst v (s.sval (R.GRD_W_HI w)) (s.sval (R.GRD_W_LO w)) (s.val (R.GRD_W_HYST w) : Int)) ∧
      ((s.winSample w at_ v).win w).start = false := by
  unfold State.winSample
  extract_lets hi lo hy n k x bad band s0 st r t t1 _ _ _ _ _ _ _ _ s1
  have first : st = rawFirst v hi lo hy := if_neg (by simp [bad, good])
  have begun : s1 = t1.sourceLevel (0x40 + w) (at_ * 256) r := if_pos start
  have shown : t.get (R.GRD_W_STAT_STATE w) = st := State.winShow_state _ w _ (first ▸ rawFirst_lt v hi lo hy)
  have window : t.win w = { start := false, bits := List.replicate n r } :=
    (State.win_of_grd (State.winShow_field _ _ _ _).grd w).trans (State.win_setWin _ w _)
  have output : OnField (SampleRegs w) t t1 :=
    (OnField.set t (R.GRD_W_STAT_OUT w) _ (.inr (.inl rfl))).trans (.set _ (R.GRD_W_STAT_INDET w) _ (.inr (.inl rfl)))
  have stated : t1.get (R.GRD_W_STAT_STATE w) = st :=
    (State.get_set_apart _ _ .inWord).trans ((State.get_set_apart _ _ .inWord).trans shown)
  have follows : t1.is (R.GRD_W_STAT_OUT w) = r :=
    (State.is_set_apart _ _ .inWord).trans (State.setOut_is _ _ _)
  have raw : r = decide (st ≠ 0) := Bool.eq_iff_iff.mpr (by simp [r])
  have sampled : Sampled s s1 w st := begun ▸
    (Sampled.of_stat ⟨(s.winShown_kept w _ _ _).trans output.kept, stated, follows.trans raw⟩ (fun _ _ => t1.rd_sourceLevel _ _ _ _)
      (t1.rd_sourceLevel _ _ _ _))
  have started : (s1.win w).start = false := by
    rw [begun, State.win_of_grd (t1.grd_sourceLevel _ _ _), State.win_of_grd output.grd, window]
  rw [← first]
  split
  · exact ⟨sampled.count _ _, (congrArg GrdSt.start (State.win_of_grd (State.winCount_field _ _ _ _ _).grd w)).trans started⟩
  · exact ⟨sampled, started⟩

/-- With N 1 the bit of the sample decides alone (R296). -/
theorem majority_of_one (r old : Bool) (k : Nat) (bits : List Bool) :
    (if winK 1 k ≤ (((r :: bits).take 1).filter (fun b => b)).length then true
      else if winK 1 k ≤ 1 - (((r :: bits).take 1).filter (fun b => b)).length then false else old) = r := by
  have limited : winK 1 k = 1 := by
    simp only [winK, clampN]
    omega
  rw [limited]
  cases r <;> rfl

/-- A later sample of a window with N 1 (R295, R296). -/
theorem State.winSample_follows {s : State} {w : Win} (start : (s.win w).start = false) (good : s.grdWinBad w = false)
    (one : s.get (R.GRD_W_CFG_N w) ≤ 1) (calm : s.is (R.GRD_W_ACT_FAULT w) = false) (at_ : Nat) (v : Int) :
    Sampled s (s.winSample w at_ v) w
      (rawNext (s.get (R.GRD_W_STAT_STATE w)) v (s.sval (R.GRD_W_HI w)) (s.sval (R.GRD_W_LO w)) (s.val (R.GRD_W_HYST w) : Int)) := by
  unfold State.winSample
  extract_lets hi lo hy n k x bad band s0 _ _ _ _ prev st bits ones t old out t1 s1
  have before : prev = s.get (R.GRD_W_STAT_STATE w) := s.get_set_apart _ .inWord
  have later : st = rawNext (s.get (R.GRD_W_STAT_STATE w)) v hi lo hy := (if_neg (by simp [bad, good])).trans (before ▸ rfl)
  have single : n = 1 := Nat.max_eq_left one
  have decided : out = decide (st ≠ 0) := by
    simp only [out, ones, bits, k, single]
    exact majority_of_one _ _ _ _
  have moved : s1 = _ := if_neg (by rw [start]; decide)
  have kept : RegsKept s t (SampleRegs w) := (s.winShown_kept w _ _ _).trans
    (State.winCount_kept _ w _ _ (by simp only [R.GRD_W_XCNT, R.GRD_W_LAST_GEN]; omega))
  have shown : t.get (R.GRD_W_STAT_STATE w) = st :=
    (State.get_of_rd (State.winCount_stat _ w _ _ winReg_ne)).trans (State.winShow_state _ w _ (later ▸ rawNext_lt _ v hi lo hy))
  have quiet : t.is (R.GRD_W_ACT_FAULT w) = false := (State.is_of_rd (kept _ (act_notMem_sampleRegs w w))).trans calm
  have followed : Sampled s t1 w st := by
    have follows := Sampled.follow kept shown quiet at_
    rwa [← decided] at follows
  have sampled : Sampled s s1 w st := by
    rw [moved]
    split
    · exact followed.clearIndet _
    · exact followed
  rw [← later]
  split
  · exact sampled.count _ _
  · exact sampled

/-! ### One sampling instant (R294) -/

/-- Cycle 160 of a field tick. -/
def samplingInstant : Sub := ⟨40960, by decide⟩

section
variable {s : State} {vs : List GuardIn}

theorem State.winTick_off {w : Nat} (off : s.is (R.GRD_W_CFG_EN w) = false) (at_ : Nat) : s.winTick vs w at_ = s := if_pos (by rw [off]; rfl)

theorem State.winTick_samples {w : Win} {v : Int} (en : s.is (R.GRD_W_CFG_EN w) = true) (present : s.winAbsent w = false) (at_ : Nat) :
    s.winTick [⟨w, v⟩] w at_ = s.winSample w at_ v := by
  simp [State.winTick, en, present]

/-- Windows that are not enabled leave the state as it is. -/
theorem State.foldl_winTick_off (l : List Nat) (off : ∀ k ∈ l, s.is (R.GRD_W_CFG_EN k) = false) :
    l.foldl (fun t w => t.winTick vs w (t.fTickU + 40960)) s = s := by
  induction l with
  | nil => rfl
  | cons k l ih =>
    rw [List.foldl_cons, State.winTick_off (off k List.mem_cons_self)]
    exact ih fun j hj => off j (List.mem_cons_of_mem _ hj)

/-- Of the 64 windows the enabled one alone is sampled. -/
theorem State.foldl_winTick_alone {w : Win} (others : ∀ k, k < 64 → k ≠ w.val → s.is (R.GRD_W_CFG_EN k) = false)
    (kept : RegsKept s (s.winTick vs w (s.fTickU + 40960)) (SampleRegs w)) :
    (List.range 64).foldl (fun t w => t.winTick vs w (t.fTickU + 40960)) s = s.winTick vs w (s.fTickU + 40960) := by
  obtain ⟨before, after, parts⟩ := List.append_of_mem (List.mem_range.mpr w.isLt)
  have apart : (before ++ w.val :: after).Nodup := parts ▸ List.nodup_range
  have small {k : Nat} (h : k ∈ before ∨ k ∈ after) : k < 64 := by
    refine List.mem_range.mp (parts ▸ ?_)
    simp only [List.mem_append, List.mem_cons]
    tauto
  obtain ⟨fresh, -⟩ := List.nodup_cons.mp (List.nodup_middle.mp apart)
  have off {k : Nat} (h : k ∈ before ∨ k ∈ after) : s.is (R.GRD_W_CFG_EN k) = false :=
    others k (small h) fun e => fresh (List.mem_append.mpr (e ▸ h))
  rw [parts, List.foldl_append, State.foldl_winTick_off before fun k h => off (.inl h), List.foldl_cons]
  exact State.foldl_winTick_off after fun k h =>
    (State.is_of_rd (f := R.GRD_W_CFG_EN k) (kept _ (cfg_notMem_sampleRegs w k))).trans (off (.inr h))
end

/-- GRD_STAT and GRD_OUT show the windows (R305). -/
theorem State.winSummary_regs (s : State) : OnRegs (fun a => a = R.GRD_STAT ∨ a = R.GRD_OUT_LO ∨ a = R.GRD_OUT_LO + 4) s s.winSummary := by
  unfold State.winSummary
  extract_lets outs indets mask
  exact (((OnRegs.set s R.GRD_STAT_OUT_COUNT _ (.inl rfl)).trans (.set _ R.GRD_STAT_INDET_COUNT _ (.inl rfl))).trans
    (.put _ mask (.inr (.inl rfl)))).trans (.put _ _ (.inr (.inr rfl)))

theorem State.winSummary_grd (s : State) : s.winSummary.grd = s.grd := rfl

theorem State.winSummary_stat (s : State) (w : Nat) : s.winSummary.rd (R.GRD_W_STAT w) = s.rd (R.GRD_W_STAT w) := by
  refine s.winSummary_regs.kept _ ?_
  simp only [R.GRD_W_STAT, R.GRD_STAT, R.GRD_OUT_LO]
  omega

/-- Where the one enabled window is present and has a value, the instant is its sample at cycle 160 and the summary. -/
theorem State.doGuardSample_alone {s : State} {w : Win} {v : Int} {st : Nat} (on : s.domOn (domF 12) = true) (early : s.time.fUnit ≤ 40960)
    (en : s.is (R.GRD_W_CFG_EN w) = true) (others : ∀ k, k < 64 → k ≠ w.val → s.is (R.GRD_W_CFG_EN k) = false) (present : s.winAbsent w = false)
    (sampled : Sampled (s.atF samplingInstant) ((s.atF samplingInstant).winSample w (s.fTickU + 40960) v) w st) :
    s.doGuardSample [⟨w, v⟩] = ((s.atF samplingInstant).winSample w (s.fTickU + 40960) v).winSummary := by
  have tick : (s.atF samplingInstant).winTick [⟨w, v⟩] w (s.fTickU + 40960) = (s.atF samplingInstant).winSample w (s.fTickU + 40960) v :=
    State.winTick_samples (s := s.atF samplingInstant) en present _
  have alone := State.foldl_winTick_alone (s := s.atF samplingInstant) (vs := [⟨w, v⟩]) others (tick ▸ sampled.kept)
  exact (if_pos (by simp [on, early])).trans (congrArg State.winSummary (alone.trans tick))

/-! ### The counters (R305) -/

/-- XCNT and OUTT of every window. -/
def winCounters : List Nat := (List.range 64).flatMap fun w => [R.GRD_W_XCNT w, R.GRD_W_OUTT w]

theorem mem_winCounters {a : Nat} : a ∈ winCounters ↔ ∃ w, w < 64 ∧ (a = R.GRD_W_XCNT w ∨ a = R.GRD_W_OUTT w) := by
  simp [winCounters]

theorem State.doGrdClrStats_on {s : State} (on : s.powered R.GRD_CTRL = true) : s.doGrdClrStats = s.putAll winCounters 0 := by
  rw [State.doGrdClrStats, State.ifOn_of_powered _ on, State.putAll, winCounters, List.foldl_flatMap]
  rfl

/-! ### The statement -/

/-- Settles O20: the enabled window takes the sample that `Sampled` describes, which the summary keeps; the counters are cleared as one list. -/
theorem guardWindows : Obligations.GuardWindows := by
  refine ⟨fun s vs w v on early en others present good given start => ?_,
    fun s vs w v on early en others present good given start _ one calm => ?_, fun s on => ?_⟩
  · subst given
    obtain ⟨sampled, started⟩ := State.winSample_starts (s := s.atF samplingInstant) start good (s.fTickU + 40960) v
    refine answers_of_arm (congrArg (done s) (State.doGuardSample_alone on early en others present sampled)) rfl fun t e mem => ?_
    have stat := e ▸ State.winSummary_stat _ w
    have window := State.win_of_grd (e ▸ State.winSummary_grd _) w
    exact ⟨(State.get_of_rd stat).trans sampled.state, (State.is_of_rd stat).trans sampled.out, (congrArg GrdSt.start window).trans started, mem⟩
  · subst given
    have sampled := State.winSample_follows (s := s.atF samplingInstant) start good one calm (s.fTickU + 40960) v
    refine answers_of_arm (congrArg (done s) (State.doGuardSample_alone on early en others present sampled)) rfl fun t e mem => ?_
    have stat := e ▸ State.winSummary_stat _ w
    exact ⟨(State.get_of_rd stat).trans sampled.state, (State.is_of_rd stat).trans sampled.out, mem⟩
  · refine answers_of_arm (congrArg (done s) (State.doGrdClrStats_on on)) rfl fun t e mem w hw => ?_
    have zero {a : Nat} (counter : a = R.GRD_W_XCNT w ∨ a = R.GRD_W_OUTT w) : t.val a = 0 :=
      e ▸ State.putAll_zero_val (.inl (mem_winCounters.mpr ⟨w, List.mem_range.mp hw, counter⟩))
    have cleared := OnRegs.putAll winCounters 0 (fun _ => mem_winCounters.mp) s
    rw [e] at cleared
    exact ⟨zero (.inl rfl), zero (.inr rfl), mem, cleared.kept⟩

end Sys2Proof.Machine
end

section
/-! PROOFS. What the shared operations of the metrology block do (R306–R310, R313, R327). -/

namespace Sys2Proof.Machine

/-! ### The metrology state beside the registers, and events -/

theorem OnRegs.met {w : Nat → Prop} {s t : State} (h : OnRegs w s t) : t.met = s.met := by
  obtain ⟨_, rfl, _⟩ := h
  rfl

theorem OnField.met {w : Nat → Prop} {s t : State} (h : OnField w s t) : t.met = s.met := by
  obtain ⟨_, _, rfl, _⟩ := h
  rfl

theorem OnHost.met {w : Nat → Prop} {s t : State} (h : OnHost w s t) : t.met = s.met := by
  obtain ⟨_, _, _, _, rfl, _⟩ := h
  rfl

section
variable (s : State)

/-- An event of the block writes the register of its bit alone (R327). -/
theorem State.metEvt_field (f : Fld) (code b16 : Nat) : OnField (fun a => a = f.addr) s (s.metEvt f code b16) :=
  (OnField.set (w := fun a => a = f.addr) s f 1 rfl).trans ((State.fieldEvent_field _ _ _ _ _ _).mono fun _ => False.elim)

theorem State.metEvt_is {a lo : Nat} (code b16 : Nat) (h : lo + 1 ≤ 32) : (s.metEvt ⟨a, lo, 1⟩ code b16).is ⟨a, lo, 1⟩ = true :=
  (State.is_of_rd ((State.fieldEvent_field _ _ _ _ _ _).rd id)).trans (s.is_set_one h)

/-! ### What the converter shows (R308, R310) -/

theorem State.mcShow_regs : OnRegs (fun a => a = R.MET_MC_STAT) s s.mcShow :=
  ((OnRegs.set (w := fun a => a = R.MET_MC_STAT) s R.MET_MC_STAT_BUSY _ rfl).trans (.set _ R.MET_MC_STAT_SETTLING _ rfl)).trans
    (.set _ R.MET_MC_STAT_SETTLE_LEFT _ rfl)

/-- BUSY tells whether a conversion is in progress. -/
theorem State.mcShow_busy : s.mcShow.is R.MET_MC_STAT_BUSY = s.met.conv.isSome := by
  unfold State.mcShow
  extract_lets busy left
  refine (State.is_set_apart _ _ (by decide)).trans ((State.is_set_apart _ _ (by decide)).trans ?_)
  rw [show (if busy = true then 1 else 0) = busy.toNat by cases busy <;> rfl]
  exact s.is_set_self busy (by decide)

/-- A bit of MC_STAT that does not speak of the reading in progress stays. -/
theorem State.mcShow_is {f : Fld} (h : Apart f R.MET_MC_STAT_BUSY ∧ Apart f R.MET_MC_STAT_SETTLING ∧ Apart f R.MET_MC_STAT_SETTLE_LEFT) :
    s.mcShow.is f = s.is f := by
  obtain ⟨busy, settling, left⟩ := h
  exact (State.is_set_apart _ _ left).trans ((State.is_set_apart _ _ settling).trans (State.is_set_apart _ _ busy))

theorem State.showLine_regs : OnRegs (fun a => a = R.MET_LINE) s s.showLine := .set s R.MET_LINE_PERIOD _ rfl
end

/-! ### A conversion starts (R306, R310) -/

/-- Whether a conversion is refused is read from SEL, MC_STAT and the slots. -/
theorem State.mcRefuse_congr {s t : State} (same : ∀ a, a ≠ R.MET_MC_CTRL → t.rd a = s.rd a) : t.mcRefuse = s.mcRefuse := by
  have sel : t.get ⟨R.MET_SEL, 0, 12⟩ = s.get ⟨R.MET_SEL, 0, 12⟩ := State.get_of_rd (same _ (by decide))
  have owns : t.is R.MET_MC_STAT_RUN_OWNS = s.is R.MET_MC_STAT_RUN_OWNS := State.is_of_rd (same _ (by decide))
  have here (q : Nat) : t.podHere q = s.podHere q := State.podHere_congr (same _ (by simp only [R.POD_S_STAT, R.MET_MC_CTRL]; omega))
  simp only [State.mcRefuse, sel, owns, here]

theorem State.mcRefuse_lt (s : State) : s.mcRefuse < 16 := by
  unfold State.mcRefuse
  dsimp only
  split_ifs <;> decide

/-- `t` comes from `s` by the start of a conversion of the input that SEL names. -/
structure Converting (s t : State) : Prop where
  sel : t.met.conv.map ConvSt.sel = some (s.get ⟨R.MET_SEL, 0, 12⟩)
  busy : t.is R.MET_MC_STAT_BUSY = true
  want : t.met.want = s.met.want
  kept : RegsKept s t (fun a => a = R.MET_MC_STAT ∨ a = R.MET_LINE)

/-- The converter begins a conversion. -/
def State.convBegun (s : State) (c : ConvSt) : State := ((s.setMet { s.met with conv := some c }).showLine).mcShow

/-- A request is refused, and ends. -/
def State.convRefused (s : State) : State :=
  let t := (s.set R.MET_MC_STAT_REFUSE s.mcRefuse).set R.MET_MC_CTRL_CONT 0
  (t.setMet { t.met with conv := none, want := false, hist := [] }).mcShow

theorem State.convStart_taken {s : State} (taken : s.mcRefuse = 0) :
    ∃ c : ConvSt, c.sel = s.get ⟨R.MET_SEL, 0, 12⟩ ∧ s.convStart = s.convBegun c := ⟨_, rfl, if_neg (not_not_intro taken)⟩

theorem State.convStart_refused {s : State} (refused : s.mcRefuse ≠ 0) : s.convStart = s.convRefused := if_pos refused

/-- A request whose input is not refused starts the converter where it is free. -/
theorem State.convKick_converts {s : State} (taken : s.mcRefuse = 0) (free : s.met.conv = none) (noScan : s.is R.MET_MC_STAT_HK = false) :
    Converting s s.convKick := by
  obtain ⟨c, sel, begins⟩ := State.convStart_taken taken
  have starts : s.convKick = s.convBegun c := (if_pos (by simp [free, noScan])).trans begins
  have line := (s.setMet { s.met with conv := some c }).showLine_regs
  rw [starts]
  exact ⟨congrArg some sel, State.mcShow_busy _, rfl, ((line.mono fun _ => .inr).trans ((State.mcShow_regs _).mono fun _ => .inl)).kept⟩

/-- The registers that a request for a conversion may write. -/
abbrev ConvRegs (a : Nat) : Prop := a = R.MET_MC_CTRL ∨ a = R.MET_MC_STAT ∨ a = R.MET_LINE

/-- What such a request leaves: every other register, RUN_OWNS, the set that is not stored yet, and the faults. -/
structure ConvKept (s t : State) : Prop where
  regs : RegsKept s t ConvRegs
  owns : t.is R.MET_MC_STAT_RUN_OWNS = s.is R.MET_MC_STAT_RUN_OWNS
  newSet : t.met.newSet = s.met.newSet
  fault : t.fault = s.fault

theorem State.mcShow_convRegs (s : State) : OnRegs ConvRegs s s.mcShow := s.mcShow_regs.mono fun _ h => .inr (.inl h)

theorem State.convBegun_kept (s : State) (c : ConvSt) : ConvKept s (s.convBegun c) := by
  have line := (s.setMet { s.met with conv := some c }).showLine_regs
  exact ⟨((line.mono fun _ h => .inr (.inr h)).trans (State.mcShow_convRegs _)).kept,
    (State.mcShow_is _ (by decide)).trans (State.is_set_apart _ _ (by decide)), rfl, rfl⟩

theorem State.convRefused_kept (s : State) : ConvKept s s.convRefused := by
  have told : OnRegs ConvRegs s ((s.set R.MET_MC_STAT_REFUSE s.mcRefuse).set R.MET_MC_CTRL_CONT 0) :=
    .trans (.set s R.MET_MC_STAT_REFUSE _ (.inr (.inl rfl))) (.set _ R.MET_MC_CTRL_CONT 0 (.inl rfl))
  have shown : OnRegs ConvRegs _ s.convRefused := State.mcShow_convRegs _
  exact ⟨told.kept.trans shown.kept,
    (State.mcShow_is _ (by decide)).trans ((State.is_set_apart _ _ (by decide)).trans (State.is_set_apart _ _ (by decide))), rfl, rfl⟩

theorem State.convKick_kept (s : State) : ConvKept s s.convKick := by
  unfold State.convKick
  split
  · by_cases taken : s.mcRefuse = 0
    · obtain ⟨c, -, begins⟩ := State.convStart_taken taken
      exact begins ▸ s.convBegun_kept c
    · exact State.convStart_refused taken ▸ s.convRefused_kept
  · exact ⟨fun _ _ => rfl, rfl, rfl, rfl⟩

end Sys2Proof.Machine
end

section
/-! PROOFS. The metrology converter, LINE_SYNC and the reference buffer (R306, R308–R310, R312, R327): O23. -/

namespace Sys2Proof.Machine

/-! ### Requests (R306, R310) -/

section
variable {s : State} (on : s.powered R.MET_MC_CTRL = true)
include on

theorem State.doMcStart_taken (taken : s.mcRefuse = 0) : s.doMcStart = (s.setMet { s.met with want := true }).convKick := by
  rw [State.doMcStart, State.ifOn_of_powered _ on]
  exact if_neg (not_not_intro taken)

theorem State.doMcStart_refused (refused : s.mcRefuse ≠ 0) : s.doMcStart = s.set R.MET_MC_STAT_REFUSE s.mcRefuse := by
  rw [State.doMcStart, State.ifOn_of_powered _ on]
  exact if_pos refused

variable (once : s.is R.MET_MC_CTRL_CONT = false)
include once

theorem State.doMcCont_taken (taken : s.mcRefuse = 0) : s.doMcCont = (s.set R.MET_MC_CTRL_CONT 1).convKick := by
  rw [State.doMcCont, State.ifOn_of_powered _ on, once]
  exact if_neg (not_not_intro taken)

theorem State.doMcCont_refused (refused : s.mcRefuse ≠ 0) : s.doMcCont = s.set R.MET_MC_STAT_REFUSE s.mcRefuse := by
  rw [State.doMcCont, State.ifOn_of_powered _ on, once]
  exact if_pos refused

theorem State.doMcAbort_once : s.doMcAbort = (s.setMet { s.met with conv := none, want := false }).mcShow := by
  have single : (s.setMet { s.met with conv := none, want := false }).mcShow.is R.MET_MC_CTRL_CONT = false :=
    (State.mcShow_is _ (by decide)).trans once
  rw [State.doMcAbort, State.ifOn_of_powered _ on]
  exact if_neg (by simp [single])
end

theorem State.refused_shown (s : State) : (s.set R.MET_MC_STAT_REFUSE s.mcRefuse).get R.MET_MC_STAT_REFUSE = s.mcRefuse ∧
    OnRegs (fun a => a = R.MET_MC_STAT) s (s.set R.MET_MC_STAT_REFUSE s.mcRefuse) :=
  ⟨(s.get_set_self _ (by decide)).trans (Nat.mod_eq_of_lt s.mcRefuse_lt), .set s R.MET_MC_STAT_REFUSE _ rfl⟩

/-! ### A conversion completes (R309, R310) -/

/-- The registers of a result, and the events of the block. -/
abbrev ResultRegs (a : Nat) : Prop := R.MET_RES_LO ≤ a ∧ a ≤ R.MET_RES_T64_GEN ∨ a = R.MET_EVT

section
variable (s : State) (c : ConvSt) (code : Int) (ovr : Bool)

/-- MET_RES and MET_RES_T64 of a reading that has settled. -/
theorem State.metResult_replaced : ∃ v t64 bits, v % 2 ^ 32 = codeOf 32 (s.metValue c.sel (fieldOf c.cfg 4 2) code) ∧
    s.metResult c code ovr = (let t := (s.replaceResult R.MET_RES_LO R.MET_RES_GEN v bits).replaceResult R.MET_RES_T64_LO R.MET_RES_T64_GEN t64 bits
      if t.is R.MET_MC_CTRL_EVT_EN then t.metEvt R.MET_EVT_RESULT 0x0001 (codeOf 32 (s.metValue c.sel (fieldOf c.cfg 4 2) code))
      else t.set R.MET_EVT_RESULT 1) := by
  refine ⟨_, _, _, ?_, rfl⟩
  rw [Nat.add_mul_mod_self_left, Nat.mod_eq_of_lt (codeOf_lt 32 _)]

/-- What a settled reading shows. -/
structure ResultShown (s t : State) (v : Nat) : Prop where
  value : t.val R.MET_RES_LO = v
  event : t.is R.MET_EVT_RESULT = true
  field : OnField ResultRegs s t

theorem State.metResult_shown : ResultShown s (s.metResult c code ovr) (codeOf 32 (s.metValue c.sel (fieldOf c.cfg 4 2) code)) := by
  obtain ⟨v, t64, bits, low, replaced⟩ := s.metResult_replaced c code ovr
  rw [replaced]
  extract_lets t
  have first : OnField ResultRegs s (s.replaceResult R.MET_RES_LO R.MET_RES_GEN v bits) :=
    (s.replaceResult_field _ _ _ _).mono fun a ha => by rcases ha with rfl | rfl | rfl <;> exact .inl (by decide)
  have second : OnField ResultRegs (s.replaceResult R.MET_RES_LO R.MET_RES_GEN v bits) t :=
    (State.replaceResult_field _ _ _ _ _).mono fun a ha => by rcases ha with rfl | rfl | rfl <;> exact .inl (by decide)
  have value : t.val R.MET_RES_LO = codeOf 32 (s.metValue c.sel (fieldOf c.cfg 4 2) code) := by
    have later : t.val R.MET_RES_LO = (s.replaceResult R.MET_RES_LO R.MET_RES_GEN v bits).val R.MET_RES_LO :=
      State.val_of_rd ((State.replaceResult_field _ _ _ _ _).rd (by decide))
    rw [later, State.replaceResult, State.put64, State.val_put_ne _ _ (by decide), State.val_put_ne _ _ (by decide), State.val_put_self, low]
  clear_value t
  split
  · exact ⟨(State.val_of_rd ((t.metEvt_field _ _ _).rd (by decide))).trans value, t.metEvt_is _ _ (by decide),
      (first.trans second).trans ((t.metEvt_field R.MET_EVT_RESULT _ _).mono fun _ => .inr)⟩
  · exact ⟨(State.val_set_ne _ _ (by decide)).trans value, t.is_set_one (by decide),
      (first.trans second).trans (.set t R.MET_EVT_RESULT 1 (.inr rfl))⟩
end

/-- ORDER of a conversion (R309). -/
def ConvSt.order (c : ConvSt) : Nat := clampN 1 4 (fieldOf c.cfg 0 3)

/-- The codes of the reading with a further one. -/
def State.codes (s : State) (code : Int) : List Int := (clampI (-8388607) 8388607 code :: s.met.hist).take 16

/-- The converter after a conversion: it is over, and the reading has the codes. -/
def State.codeJoined (s : State) (codes : List Int) : State := s.setMet { s.met with conv := none, hist := codes }

/-- The value of a code does not depend on the reading that it has joined, nor on the instant. -/
theorem State.codeJoined_metValue (s : State) (u : Sub) (codes : List Int) (sel range : Nat) (k : Int) :
    ((s.atF u).codeJoined codes).metValue sel range k = s.metValue sel range k := rfl

/-- The request for one settled reading is over. -/
def State.requestEnds (s : State) : State := s.setMet { s.met with want := false }

/-- A settled reading replaces the result, and the request ends. -/
def State.codeSettled (s : State) (codes : List Int) (c : ConvSt) (ovr : Bool) : State :=
  ((s.codeJoined codes).metResult c (filtCode c.order codes) ovr).requestEnds

/-- What a settled reading leaves: its value and event, the converter free, and no request. -/
structure CodeSettled (s t : State) (v : Nat) : Prop where
  value : t.val R.MET_RES_LO = v
  event : t.is R.MET_EVT_RESULT = true
  ctrl : t.rd R.MET_MC_CTRL = s.rd R.MET_MC_CTRL
  scan : t.met.hkDue = s.met.hkDue
  free : t.met.conv = none
  want : t.met.want = false

/-- A result that is shown beside the codes of its reading ends the request. -/
theorem ResultShown.settles {s t : State} {u : Sub} {codes : List Int} {v : Nat} (h : ResultShown ((s.atF u).codeJoined codes) t v) :
    CodeSettled s t.requestEnds v := by
  obtain ⟨value, event, field⟩ := h
  exact ⟨value, event, field.rd (a := R.MET_MC_CTRL) (by decide), (congrArg MetSt.hkDue field.met :), (congrArg MetSt.conv field.met :), rfl⟩

theorem State.codeSettled_settled (s : State) (u : Sub) (codes : List Int) (c : ConvSt) (ovr : Bool) :
    CodeSettled s ((s.atF u).codeSettled codes c ovr) (codeOf 32 (s.metValue c.sel (fieldOf c.cfg 4 2) (filtCode c.order codes))) :=
  s.codeJoined_metValue u codes _ _ _ ▸ (((s.atF u).codeJoined codes).metResult_shown c (filtCode c.order codes) ovr).settles

/-- What follows a conversion: the scan that waits, the next conversion, or nothing. -/
def State.convNext (s : State) : State :=
  if s.met.hkDue then s.hkStart.mcShow else if s.met.want || s.is R.MET_MC_CTRL_CONT then s.convKick else s.mcShow

theorem State.convNext_idle {s : State} (noScan : s.met.hkDue = false) (unasked : s.met.want = false) (single : s.is R.MET_MC_CTRL_CONT = false) :
    s.convNext = s.mcShow := by
  simp [State.convNext, noScan, unasked, single]

section
variable {s : State} {code : Int} {c : ConvSt} (conv : s.met.conv = some c) (counts : c.stale = false) (ended : c.at_ + c.len ≤ s.fU)
include conv counts ended

theorem State.doConversionDone_settles (enough : c.order ≤ (s.codes code).length) :
    ∃ ovr, s.doConversionDone code = (s.codeSettled (s.codes code) c ovr).convNext := by
  rw [ConvSt.order, State.codes] at enough
  refine ⟨clampI (-8388607) 8388607 code == 8388607 || clampI (-8388607) 8388607 code == -8388607, ?_⟩
  simp only [State.doConversionDone, conv, ended, counts, enough, Bool.not_false, decide_true, Bool.and_self, if_true, Bool.false_eq_true, if_false]
  rfl

theorem State.doConversionDone_joins (few : (s.codes code).length < c.order) : s.doConversionDone code = (s.codeJoined (s.codes code)).convNext := by
  rw [ConvSt.order, State.codes] at few
  simp only [State.doConversionDone, conv, ended, counts, Nat.not_le.mpr few, Bool.not_false, decide_false, Bool.and_false, if_true,
    Bool.false_eq_true, if_false]
  rfl
end

/-! ### The line (R308) -/

/-- MET_LINE shows whether the line is locked or lost, and its period. -/
def State.lineShow (s : State) (lock lost : Bool) : State := ((s.set R.MET_LINE_LOCK lock.toNat).set R.MET_LINE_LOST lost.toNat).showLine

theorem State.lineShow_shown (s : State) (lock lost : Bool) : (s.lineShow lock lost).is R.MET_LINE_LOCK = lock ∧
    (s.lineShow lock lost).is R.MET_LINE_LOST = lost ∧ OnRegs (fun a => a = R.MET_LINE) s (s.lineShow lock lost) := by
  refine ⟨?_, ?_, ?_⟩
  · exact (State.is_set_apart _ _ (by decide)).trans ((State.is_set_apart _ _ (by decide)).trans (s.is_set_self lock (by decide)))
  · exact (State.is_set_apart _ _ (by decide)).trans (State.is_set_self _ lost (by decide))
  · exact ((OnRegs.set (w := fun a => a = R.MET_LINE) s R.MET_LINE_LOCK _ rfl).trans (.set _ R.MET_LINE_LOST _ rfl)).trans (State.showLine_regs _)

theorem State.mcChanged_kept (s : State) : RegsKept s s.mcChanged (fun a => a = R.MET_MC_STAT) :=
  (State.mcShow_regs (s.setMet { s.met with hist := [], conv := s.met.conv.map fun c => { c with stale := true } })).kept

/-- Cycles of 256 units between two edges, to the nearest. -/
def edgePeriod (e e' : Nat) : Nat := (2 * (e' - e) + 256) / 512

/-- An edge that ends a period of `n` cycles. -/
def State.edgeTaken (s : State) (n : Nat) : State := s.setMet { s.met with edge := some s.fU, periods := (n :: s.met.periods).take 16 }

theorem State.doLineEdge_locks {s : State} {e : Nat} (on : s.domOn (domF 12) = true) (edge : s.met.edge = some e)
    (span : 6153846 ≤ edgePeriod e s.fU ∧ edgePeriod e s.fU ≤ 8888889) (external : s.get R.MET_MC_CFG_LINE_SRC = 2) :
    s.doLineEdge = if s.is R.MET_LINE_LOST then ((s.edgeTaken (edgePeriod e s.fU)).lineShow true false).mcChanged
      else (s.edgeTaken (edgePeriod e s.fU)).lineShow true false := by
  unfold State.doLineEdge
  rw [if_pos on, edge]
  exact (if_pos span).trans (if_pos external)

theorem State.doLineLost_late {s : State} {e : Nat} (on : s.domOn (domF 12) = true) (external : s.get R.MET_MC_CFG_LINE_SRC = 2)
    (edge : s.met.edge = some e) (late : e + 10000 * unitsPerTick ≤ s.fU) (held : s.is R.MET_LINE_LOST = false) :
    s.doLineLost = ((s.lineShow false true).mcChanged).metEvt R.MET_EVT_LINE_LOST 0x0007 0 := by
  unfold State.doLineLost
  rw [edge]
  exact if_pos (by simp [on, external, late, held])

/-! ### The reference buffer (R312) -/

theorem State.doRefbufOn_waits {s : State} (on : s.powered R.MET_REF = true) (off : s.is R.MET_REF_MC_REFBUF = false) :
    s.doRefbufOn = ((s.set R.MET_REF_MC_REFBUF 1).set R.MET_REF_WAIT refWait).setMet { s.met with readyAt := s.fU + refWait * unitsPerTick } := by
  rw [State.doRefbufOn, State.ifOn_of_powered _ on, off]
  rfl

theorem State.doRefReady_due {s : State} (on : s.powered R.MET_REF = true) (buffer : s.is R.MET_REF_MC_REFBUF = true)
    (waits : s.is R.MET_REF_READY = false) (due : s.met.readyAt ≤ s.fU) :
    s.doRefReady = ((s.set R.MET_REF_READY 1).set R.MET_REF_WAIT 0).metEvt R.MET_EVT_REF_READY 0x0002 0 :=
  if_pos (by simp [on, buffer, waits, due])

/-- The buffer is off. -/
def State.refDropped (s : State) : State :=
  let t := ((s.set R.MET_REF_MC_REFBUF 0).set R.MET_REF_READY 0).set R.MET_REF_WAIT 0
  t.setMet { t.met with offAt := some t.fU }

theorem State.refbufOff_drops {s : State} (buffer : s.is R.MET_REF_MC_REFBUF = true) : s.refbufOff = s.refDropped.calAbort 5 := if_pos buffer

theorem State.refDropped_shown (s : State) : s.refDropped.is R.MET_REF_MC_REFBUF = false ∧ s.refDropped.is R.MET_REF_READY = false ∧
    RegsKept s s.refDropped (fun a => a = R.MET_REF) := by
  refine ⟨?_, ?_, ?_⟩
  · exact (State.is_set_apart _ _ (by decide)).trans ((State.is_set_apart _ _ (by decide)).trans (s.is_set_zero (by decide)))
  · exact (State.is_set_apart _ _ (by decide)).trans (State.is_set_zero _ (by decide))
  · exact (((OnRegs.set (w := fun a => a = R.MET_REF) s R.MET_REF_MC_REFBUF 0 rfl).trans (.set _ R.MET_REF_READY 0 rfl)).trans
      (.set _ R.MET_REF_WAIT 0 rfl)).kept

/-- The abort of a run shows in CAL_STAT, and leaves the metrology state (R320). -/
theorem State.calAbort_kept (s : State) (result : Nat) : RegsKept s (s.calAbort result) (fun a => a = R.MET_CAL_STAT) ∧
    (s.calAbort result).met = s.met := by
  unfold State.calAbort
  split
  · exact ⟨fun a ha => State.rd_set_ne _ R.MET_CAL_STAT_STATE 2 ha, rfl⟩
  · exact ⟨fun _ _ => rfl, rfl⟩

/-! ### The statement -/

/-- Settles O23: each command reaches the state that its lemma writes out; what that shows is read off the lemmas of the shared operations. -/
theorem metrologyConverter : Obligations.MetrologyConverter := by
  refine ⟨fun s u on taken free noScan => ?_, fun s u on refused => ?_, fun s u on once taken free noScan => ?_, fun s u on once refused => ?_,
    fun s u on once => ?_, fun s u code c conv counts noScan once ended enough => ?_, fun s u code c conv counts noScan once ended few unasked => ?_,
    fun s u e on edge span external => ?_, fun s u e on external edge late held => ?_, fun s u on off => ?_, fun s u on buffer waits due => ?_,
    fun s u on buffer => ?_⟩
  · have conv := State.convKick_converts (s := (s.atF u).setMet { s.met with want := true }) taken free noScan
    refine answers_of_arm (congrArg (done s) (State.doMcStart_taken (s := s.atF u) on taken)) rfl fun t e mem => ?_
    obtain ⟨sel, busy, want, kept⟩ := e ▸ conv
    exact ⟨want, sel, busy, mem, kept⟩
  · refine answers_of_arm (congrArg (done s) (State.doMcStart_refused (s := s.atF u) on refused)) rfl fun t e mem => ?_
    obtain ⟨reason, regs⟩ := e ▸ (s.atF u).refused_shown
    exact ⟨reason, regs.met, mem, regs.kept⟩
  · have other {a : Nat} (h : a ≠ R.MET_MC_CTRL) : ((s.atF u).set R.MET_MC_CTRL_CONT 1).rd a = s.rd a := State.rd_set_ne _ R.MET_MC_CTRL_CONT 1 h
    have conv := State.convKick_converts (s := (s.atF u).set R.MET_MC_CTRL_CONT 1) ((State.mcRefuse_congr fun _ => other).trans taken) free
      ((State.is_of_rd (other (by decide))).trans noScan)
    refine answers_of_arm (congrArg (done s) (State.doMcCont_taken (s := s.atF u) on once taken)) rfl fun t e mem => ?_
    obtain ⟨sel, -, -, kept⟩ := e ▸ conv
    have cont : t.is R.MET_MC_CTRL_CONT = true := (State.is_of_rd (kept _ (by decide))).trans (State.is_set_one _ (by decide))
    exact ⟨cont, sel.trans (congrArg some (State.get_of_rd (other (by decide)))), mem,
      fun a ha => (kept a fun h => ha (.inr h)).trans (other fun h => ha (.inl h))⟩
  · refine answers_of_arm (congrArg (done s) (State.doMcCont_refused (s := s.atF u) on once refused)) rfl fun t e mem => ?_
    obtain ⟨reason, regs⟩ := e ▸ (s.atF u).refused_shown
    exact ⟨(State.is_of_rd (regs.kept _ (by decide))).trans once, reason, mem, regs.kept⟩
  · let v := (s.atF u).setMet { s.met with conv := none, want := false }
    refine answers_of_arm (congrArg (done s) (State.doMcAbort_once (s := s.atF u) on once)) rfl fun t e mem => ?_
    exact ⟨e ▸ rfl, e ▸ rfl, e ▸ v.mcShow_busy, mem, e ▸ v.mcShow_regs.kept⟩
  · obtain ⟨ovr, settles⟩ := State.doConversionDone_settles (s := s.atF u) conv counts ended enough
    obtain ⟨value, event, ctrl, scan, free, want⟩ := s.codeSettled_settled u (s.codes code) c ovr
    have idle := State.convNext_idle (scan.trans noScan) want ((State.is_of_rd ctrl).trans once)
    have regs := ((s.atF u).codeSettled (s.codes code) c ovr).mcShow_regs
    refine answers_of_arm (congrArg (done s) (settles.trans idle)) rfl fun t e mem => ?_
    rw [e] at regs
    exact ⟨(congrArg MetSt.conv regs.met).trans free, (congrArg MetSt.want regs.met).trans want, (regs.val (by decide)).trans value,
      (State.is_of_rd (regs.kept _ (by decide))).trans event, mem⟩
  · have joins := State.doConversionDone_joins (s := s.atF u) conv counts ended few
    have idle := State.convNext_idle (s := (s.atF u).codeJoined (s.codes code)) noScan unasked once
    refine answers_of_arm (congrArg (done s) (joins.trans idle)) rfl fun t e mem => ?_
    have busy := e ▸ ((s.atF u).codeJoined (s.codes code)).mcShow_busy
    have regs := e ▸ ((s.atF u).codeJoined (s.codes code)).mcShow_regs
    exact ⟨congrArg MetSt.hist regs.met, congrArg MetSt.conv regs.met, busy, mem, regs.kept⟩
  · let v := (s.atF u).edgeTaken (edgePeriod e (s.atF u).fU)
    obtain ⟨lock, lost, regs⟩ := v.lineShow_shown true false
    have locks := State.doLineEdge_locks (s := s.atF u) on edge span external
    refine answers_of_arm (congrArg (done s) locks) rfl fun t e' mem => ?_
    by_cases was : (s.atF u).is R.MET_LINE_LOST = true
    · rw [if_pos was] at e'
      have kept := e' ▸ (v.lineShow true false).mcChanged_kept
      exact ⟨e' ▸ rfl, e' ▸ rfl, (State.is_of_rd (kept _ (by decide))).trans lock, (State.is_of_rd (kept _ (by decide))).trans lost, mem,
        fun a ha => (kept a fun h => ha (.inr h)).trans (regs.kept a fun h => ha (.inl h))⟩
    · rw [if_neg was] at e'
      subst e'
      exact ⟨rfl, rfl, lock, lost, mem, fun a ha => regs.kept a fun h => ha (.inl h)⟩
  · obtain ⟨lock, lost, regs⟩ := (s.atF u).lineShow_shown false true
    let v := ((s.atF u).lineShow false true).mcChanged
    have kept : RegsKept _ v _ := State.mcChanged_kept _
    have told := v.metEvt_field R.MET_EVT_LINE_LOST 0x0007 0
    refine answers_of_arm (congrArg (done s) (State.doLineLost_late (s := s.atF u) on external edge late held)) rfl fun t e' mem => ?_
    have event : t.is R.MET_EVT_LINE_LOST = true := e' ▸ v.metEvt_is _ _ (by decide)
    have line : t.rd R.MET_LINE = ((s.atF u).lineShow false true).rd R.MET_LINE := e' ▸ (told.rd (by decide)).trans (kept _ (by decide))
    exact ⟨(State.is_of_rd line).trans lock, (State.is_of_rd line).trans lost, e' ▸ congrArg MetSt.hist told.met, event, mem,
      fun a ha => e' ▸ (told.rd fun h => ha (.inr (.inr h))).trans ((kept a fun h => ha (.inr (.inl h))).trans (regs.kept a fun h => ha (.inl h)))⟩
  · refine answers_of_arm (congrArg (done s) (State.doRefbufOn_waits (s := s.atF u) on off)) rfl fun t e mem => ?_
    subst e
    refine ⟨(State.is_set_apart _ _ (by decide)).trans (State.is_set_one _ (by decide)), State.get_set_self _ _ (by decide), rfl, mem, ?_⟩
    exact ((OnRegs.set (w := fun a => a = R.MET_REF) (s.atF u) R.MET_REF_MC_REFBUF 1 rfl).trans (.set _ R.MET_REF_WAIT refWait rfl)).kept
  · let v := ((s.atF u).set R.MET_REF_READY 1).set R.MET_REF_WAIT 0
    have told := v.metEvt_field R.MET_EVT_REF_READY 0x0002 0
    have regs : OnRegs (fun a => a = R.MET_REF) (s.atF u) v := .trans (.set _ R.MET_REF_READY 1 rfl) (.set _ R.MET_REF_WAIT 0 rfl)
    have ready : v.is R.MET_REF_READY = true := (State.is_set_apart _ _ (by decide)).trans (State.is_set_one _ (by decide))
    have wait : v.get R.MET_REF_WAIT = 0 := State.get_set_self _ _ (by decide)
    have event : (v.metEvt R.MET_EVT_REF_READY 0x0002 0).is R.MET_EVT_REF_READY = true := v.metEvt_is _ _ (by decide)
    refine answers_of_arm (congrArg (done s) (State.doRefReady_due (s := s.atF u) on buffer waits due)) rfl fun t e mem => ?_
    rw [show v.metEvt R.MET_EVT_REF_READY 0x0002 0 = t from e] at told event
    exact ⟨(State.is_of_rd (told.rd (by decide))).trans ready, (told.get (by decide)).trans wait, event, mem,
      fun a ha => (told.rd fun h => ha (.inr h)).trans (regs.kept a fun h => ha (.inl h))⟩
  · have drops := (State.ifOn_of_powered (s := s.atF u) State.refbufOff on).trans (State.refbufOff_drops buffer)
    obtain ⟨off, unready, regs⟩ := (s.atF u).refDropped_shown
    obtain ⟨kept, met⟩ := (s.atF u).refDropped.calAbort_kept 5
    refine answers_of_arm (congrArg (done s) drops) rfl fun t e mem => ?_
    rw [e] at kept met
    exact ⟨(State.is_of_rd (kept _ (by decide))).trans off, (State.is_of_rd (kept _ (by decide))).trans unready, congrArg MetSt.offAt met, mem,
      fun a ha => (kept a fun h => ha (.inr h)).trans (regs a fun h => ha (.inl h))⟩

end Sys2Proof.Machine
end

section
/-! PROOFS. What the shared operations of calibration do: due causes, the end of a run, and the diagnostic DAC (R315, R319, R320, R325). -/

namespace Sys2Proof.Machine

/-! ### Due causes (R325) -/

section
variable (s : State)

/-- An event with its Ledger entry writes beside its own register those of the Ledger, Clearing and the event queue. -/
theorem State.metEvtL_rd {f : Fld} (code b16 : Nat) {a : Nat} (other : a ≠ f.addr) (beside : ¬ (a ∈ ldgRegs ∨ a ∈ clrRegs ∨ a ∈ eqRegs)) :
    (s.metEvtL f code b16).rd a = s.rd a :=
  ((State.ledgerF_host _ _ _ _ _).rd beside).trans ((s.metEvt_field f code b16).rd other)

theorem State.metEvtL_met (f : Fld) (code b16 : Nat) : (s.metEvtL f code b16).met = s.met :=
  (State.ledgerF_host _ _ _ _ _).met.trans (s.metEvt_field f code b16).met

theorem State.metEvtL_due (b16 : Nat) : (s.metEvtL R.MET_EVT_CAL_DUE 0x0005 b16).is R.MET_EVT_CAL_DUE = true :=
  (State.is_of_rd ((State.ledgerF_host _ _ _ _ _).rd (by decide))).trans (s.metEvt_is _ _ (by decide))

/-- CAL_STAT takes new due causes. -/
def State.dueShown (new : Nat) : State := (s.set R.MET_CAL_STAT_DUE_CAUSE new).set R.MET_CAL_STAT_CAL_DUE (if new = 0 then 0 else 1)

/-- Each cause that rises is told. -/
def State.dueTold (old new : Nat) : State :=
  (bitsOf 5 new).foldl (fun t b => if old.testBit b then t else t.metEvtL R.MET_EVT_CAL_DUE 0x0005 new) s

theorem State.setDue_eq (new : Nat) : s.setDue new = (s.dueShown new).dueTold (s.get R.MET_CAL_STAT_DUE_CAUSE) new := rfl

/-- What CAL_STAT shows of causes. -/
theorem State.dueShown_shown {new : Nat} (causes : new < 2 ^ 5) (any : new ≠ 0) :
    (s.dueShown new).get R.MET_CAL_STAT_DUE_CAUSE = new ∧ (s.dueShown new).is R.MET_CAL_STAT_CAL_DUE = true := by
  rw [State.dueShown, if_neg any]
  exact ⟨(State.get_set_apart _ _ (by decide)).trans ((s.get_set_self new (by decide)).trans (Nat.mod_eq_of_lt causes)),
    State.is_set_one _ (by decide)⟩

theorem State.dueTold_stat (old new : Nat) : (s.dueTold old new).rd R.MET_CAL_STAT = s.rd R.MET_CAL_STAT := by
  refine List.foldlRecOn (motive := fun t : State => t.rd R.MET_CAL_STAT = s.rd R.MET_CAL_STAT) _ _ rfl fun t same b _ => ?_
  split
  · exact same
  · exact (t.metEvtL_rd _ _ (by decide) (by decide)).trans same

theorem State.dueTold_met (old new : Nat) : (s.dueTold old new).met = s.met := by
  refine List.foldlRecOn (motive := fun t : State => t.met = s.met) _ _ rfl fun t same b _ => ?_
  split
  · exact same
  · exact (t.metEvtL_met _ _ _).trans same

/-- A cause that rises raises CAL_DUE, and no later one takes it back. -/
theorem State.dueTold_event {old new b : Nat} (cause : b < 5) (rises : new.testBit b = true) (was : old.testBit b = false) :
    (s.dueTold old new).is R.MET_EVT_CAL_DUE = true := by
  have listed : b ∈ bitsOf 5 new := List.mem_filter.mpr ⟨List.mem_range.mpr cause, rises⟩
  obtain ⟨before, after, parts⟩ := List.append_of_mem listed
  rw [State.dueTold, parts, List.foldl_append, List.foldl_cons, was]
  refine List.foldlRecOn (motive := fun t : State => t.is R.MET_EVT_CAL_DUE = true) _ _ (State.metEvtL_due _ new) fun t told c _ => ?_
  split
  · exact told
  · exact t.metEvtL_due new

theorem State.setDueBit_met (b : Nat) (v : Bool) : (s.setDueBit b v).met = s.met := by
  unfold State.setDueBit
  extract_lets old
  split
  · rfl
  · exact State.dueTold_met _ _ _

theorem State.dueSets_met : s.dueSets.met = s.met := (State.setDueBit_met _ _ _).trans (State.setDueBit_met _ _ _)

/-- A new bank leaves the set that is not stored yet (R324). -/
theorem State.bankTrigger_newSet : s.bankTrigger.met.newSet = s.met.newSet := by
  unfold State.bankTrigger
  extract_lets best tb
  split <;> rfl
end

/-! ### The end of a run (R319, R320) -/

/-- What the end of a run shows. -/
structure RunFinished (res : Nat) (s t : State) : Prop where
  result : t.get R.MET_CAL_STAT_RESULT = res
  state : t.get R.MET_CAL_STAT_STATE = 0
  owns : t.is R.MET_MC_STAT_RUN_OWNS = false
  abort : t.fault.calAbort = none
  event : t.is R.MET_EVT_CAL_DONE = true
  newSet : t.met.newSet = s.met.newSet

/-- The converter that goes on after a run leaves what its end shows. -/
theorem RunFinished.convKick {res : Nat} {s t : State} (h : RunFinished res s t) : RunFinished res s t.convKick := by
  obtain ⟨regs, owns, newSet, fault⟩ := t.convKick_kept
  obtain ⟨result, state, free, abort, event, set⟩ := h
  exact ⟨(State.get_of_rd (regs _ (by decide))).trans result, (State.get_of_rd (regs _ (by decide))).trans state, owns.trans free,
    (congrArg FaultSt.calAbort fault).trans abort, (State.is_of_rd (regs _ (by decide))).trans event, newSet.trans set⟩

/-- The registers at the end of a run. -/
def State.runShown (s : State) (res : Nat) : State :=
  ((((s.set R.MET_CAL_STAT_STATE 0).set R.MET_CAL_STAT_PASS 0).set R.MET_CAL_STAT_RESULT res).set R.MET_CAL_CTRL_RUN 0).set R.MET_MC_STAT_RUN_OWNS 0

theorem State.runShown_shown (s : State) {res : Nat} (small : res < 16) : (s.runShown res).get R.MET_CAL_STAT_RESULT = res ∧
    (s.runShown res).get R.MET_CAL_STAT_STATE = 0 ∧ (s.runShown res).is R.MET_MC_STAT_RUN_OWNS = false := by
  have beside (t : State) (f : Fld) (h : f.addr = R.MET_CAL_STAT) : ((t.set R.MET_CAL_CTRL_RUN 0).set R.MET_MC_STAT_RUN_OWNS 0).get f = t.get f :=
    (State.get_set_ne _ _ _ _ (by rw [h]; decide)).trans (State.get_set_ne _ _ _ _ (by rw [h]; decide))
  refine ⟨?_, ?_, State.is_set_zero _ (by decide)⟩
  · exact (beside _ _ rfl).trans ((State.get_set_self _ res (by decide)).trans (Nat.mod_eq_of_lt small))
  · exact (beside _ _ rfl).trans ((State.get_set_apart _ _ (by decide)).trans ((State.get_set_apart _ _ (by decide)).trans
      (s.get_set_self 0 (by decide))))

/-- The lanes of the fitted pods are connected again. -/
def State.lanesBack (s : State) : State :=
  (List.range 48).foldl (fun t l => if t.podHere (l / 8) then t.setLane l { t.lane l with inGap := false } else t) s

theorem State.lanesBack_lanes (s : State) : ∃ x, s.lanesBack = { s with lanes := x } := by
  refine List.foldlRecOn (motive := fun t : State => ∃ x, t = { s with lanes := x }) _ _ ⟨_, rfl⟩ fun t same l _ => ?_
  obtain ⟨x, rfl⟩ := same
  split
  · exact ⟨_, rfl⟩
  · exact ⟨_, rfl⟩

theorem State.runFinish_finished (s : State) {res : Nat} (temp : Int) (items : Nat) (small : res < 16) :
    RunFinished res s (s.runFinish res temp items) := by
  obtain ⟨result, state, free⟩ := s.runShown_shown small
  obtain ⟨lanes, back⟩ := (s.runShown res).lanesBack_lanes
  unfold State.runFinish
  extract_lets s1 s2 s3 d s4 src src' s5
  have same : s3 = { s.runShown res with lanes := lanes } := back
  have told : OnField (fun a => a = R.MET_EVT) s3 s4 :=
    ((State.sendFH_field s3 _ _ _ _ _ _).mono fun _ => False.elim).trans (State.metEvt_field _ R.MET_EVT_CAL_DONE _ _)
  have kept {a : Nat} (h : a ≠ R.MET_EVT) : s4.rd a = (s.runShown res).rd a := (told.rd h).trans (by rw [same]; rfl)
  have event : s4.is R.MET_EVT_CAL_DONE = true := State.metEvt_is _ _ _ (by decide)
  have newSet : s4.met.newSet = s.met.newSet := congrArg MetSt.newSet (told.met.trans (by rw [same]; rfl))
  have finished : RunFinished res s s5 := ⟨(State.get_of_rd (kept (by decide))).trans result, (State.get_of_rd (kept (by decide))).trans state,
    (State.is_of_rd (kept (by decide))).trans free, rfl, event, newSet⟩
  split
  · exact finished.convKick
  · exact finished

theorem State.foldl_met {α : Type} {f : State → α → State} (h : ∀ t x, (f t x).met = t.met) (l : List α) (s : State) : (l.foldl f s).met = s.met :=
  List.foldlRecOn (motive := fun t : State => t.met = s.met) _ _ rfl fun t same x _ => (h t x).trans same

/-- The image of a set that is not stored yet goes to the host half (R326). -/
def State.imageSent (s : State) (x : CalSet) : State := (imageMessages 0xFFFF x.image).foldl (fun t pl => t.sendFH 0x71 7 t.fNow.pack pl) s

theorem State.imageSent_met (s : State) (x : CalSet) : (s.imageSent x).met = s.met :=
  State.foldl_met (fun t _ => (t.sendFH_field _ _ _ _ _ _).met) _ s

theorem State.runAccept_eq (s : State) (items : List CalItem) (temp : Int) (deskew : List (Nat × List Nat)) :
    ∃ (t : State) (x : CalSet), t.met.newSet = some (s.fU, x) ∧
      s.runAccept items temp deskew = ((((t.imageSent x).setDueBit 0 false).setDueBit 2 false).bankTrigger).dueSets := ⟨_, _, rfl, rfl⟩

/-- An accepted run leaves a set that is not stored yet (R322). -/
theorem State.runAccept_newSet (s : State) (items : List CalItem) (temp : Int) (deskew : List (Nat × List Nat)) :
    (s.runAccept items temp deskew).met.newSet.isSome = true := by
  obtain ⟨t, x, newSet, accepted⟩ := s.runAccept_eq items temp deskew
  rw [accepted, State.dueSets_met, State.bankTrigger_newSet, State.setDueBit_met, State.setDueBit_met, State.imageSent_met, newSet]
  rfl

/-! ### The diagnostic DAC (R315) -/

/-- Injection starts or stops at MET_DDAC.EN; the lane's streams and the Ledger are told beside. -/
theorem State.ddacSet_ddac (s : State) (en : Nat) : (s.ddacSet en).rd R.MET_DDAC =
    if s.get R.MET_DDAC_EN = en then s.rd R.MET_DDAC else (s.set R.MET_DDAC_EN en).rd R.MET_DDAC := by
  unfold State.ddacSet
  split
  · rfl
  · exact (State.ledgerF_host _ _ _ _ _).rd (by decide)

theorem State.ddacSet_en (s : State) {en : Nat} (bit : en < 2) : (s.ddacSet en).get R.MET_DDAC_EN = en := by
  have reads := s.ddacSet_ddac en
  split at reads
  · next same => exact (State.get_of_rd reads).trans same
  · exact (State.get_of_rd (f := R.MET_DDAC_EN) reads).trans ((s.get_set_self en (by decide)).trans (Nat.mod_eq_of_lt bit))

theorem State.ddacSet_get (s : State) (en : Nat) {f : Fld} (word : f.addr = R.MET_DDAC) (other : Apart f R.MET_DDAC_EN) :
    (s.ddacSet en).get f = s.get f := by
  have reads := word ▸ s.ddacSet_ddac en
  split at reads
  · exact State.get_of_rd reads
  · exact (State.get_of_rd reads).trans (s.get_set_apart en other)

end Sys2Proof.Machine
end

section
/-! PROOFS. Housekeeping scans, the diagnostic DAC, correction banks and calibration runs (R313, R315, R317–R320, R322, R324, R328): O24. -/

namespace Sys2Proof.Machine

/-! ### Housekeeping scans (R313) -/

theorem State.doHkScanStart_due {s : State} (on : s.powered R.MET_HK = true) (idle : s.is R.MET_MC_STAT_HK = false)
    (noRun : s.is R.MET_MC_STAT_RUN_OWNS = false) (due : (s.time.fUnit = 0 ∧ s.time.fTick % s.hkPeriod = 0) ∨ s.met.hkDue = true) :
    s.doHkScanStart = if s.met.conv.isSome then s.setMet { s.met with hkDue := true } else s.hkStart :=
  if_pos (by simpa [on, idle, noRun] using due)

/-- Sensor `k` of a scan was read, with the reference settled. -/
def State.tempGood (s : State) (n k : Nat) : Bool := decide (k < n) && s.refSettled (s.met.hkAt + k * convUnits 10 s.linePeriod.1)

/-- A scan is over, and its good readings are stored. -/
def State.tempsStored (s : State) (temps : List Int) : State :=
  (List.range 16).foldl (fun t k => if s.tempGood temps.length k then t.put (R.MET_TEMP k) (codeOf 32 (temps.getD k 0)) else t)
    (s.set R.MET_MC_STAT_HK 0)

/-- One of the registers that temperatures are stored in. -/
abbrev TempReg (a : Nat) : Prop := ∃ k, a = R.MET_TEMP k

theorem not_tempReg {a : Nat} (h : a < R.MET_TEMP 0 := by decide) : ¬ TempReg a := by
  rintro ⟨k, rfl⟩
  simp only [R.MET_TEMP] at h
  omega

theorem State.tempsStored_regs (s : State) (temps : List Int) : OnRegs TempReg (s.set R.MET_MC_STAT_HK 0) (s.tempsStored temps) := by
  refine List.foldlRecOn (motive := fun t : State => OnRegs TempReg (s.set R.MET_MC_STAT_HK 0) t) _ _ (.refl _ _) fun t stored k _ => ?_
  split
  · exact stored.trans (.put t _ ⟨k, rfl⟩)
  · exact stored

/-- The first reading of a scan, where it is good, is not overwritten. -/
theorem State.tempsStored_first {s : State} {temps : List Int} (any : 0 < temps.length) (settled : s.refSettled s.met.hkAt = true) :
    (s.tempsStored temps).val (R.MET_TEMP 0) = codeOf 32 (temps.getD 0 0) := by
  have good : s.tempGood temps.length 0 = true := by simp [State.tempGood, any, settled]
  rw [State.tempsStored, show List.range 16 = 0 :: (List.range 15).map Nat.succ from List.range_succ_eq_map, List.foldl_cons, if_pos good, List.foldl_map]
  refine List.foldlRecOn (motive := fun t : State => t.val (R.MET_TEMP 0) = codeOf 32 (temps.getD 0 0)) _ _ ?_ fun t stored k _ => ?_
  · exact (State.val_put_self _ _).trans (Nat.mod_eq_of_lt (codeOf_lt 32 _))
  · split
    · exact (State.val_put_ne _ _ (by simp only [R.MET_TEMP]; omega)).trans stored
    · exact stored

/-- A scan stores its good readings, and MET_TM where T0 to T7 are among them. -/
def State.scanStored (s : State) (temps : List Int) : State :=
  if (List.range 8).all (s.tempGood temps.length) then (s.tempsStored temps).newTm (divRound (sumI (temps.take 8)) 8) else s.tempsStored temps

theorem State.scanStored_few {s : State} {temps : List Int} (few : temps.length ≤ 7) : s.scanStored temps = s.tempsStored temps := by
  have unread : s.tempGood temps.length 7 = false := by simp [State.tempGood, Nat.not_lt.mpr few]
  exact if_neg fun all => Bool.false_ne_true (unread.symm.trans (List.all_eq_true.mp all 7 (by decide)))

section
variable {s : State} {temps : List Int} (noWatch : s.is R.MET_HK_REF_WATCH = false)
include noWatch

theorem State.doHkScanDone_unwatched (refuv : Option Int) (scan : s.is R.MET_MC_STAT_HK = true)
    (ended : s.met.hkAt + 16 * convUnits 10 s.linePeriod.1 ≤ s.fU) : s.doHkScanDone temps refuv =
      if (s.scanStored temps).met.want || (s.scanStored temps).is R.MET_MC_CTRL_CONT then (s.scanStored temps).convKick else (s.scanStored temps).mcShow := by
  rw [State.doHkScanDone, noWatch]
  exact if_pos (by simp [scan, ended])

/-- A scan that did not read the eight sensors of MET_TM ends with the readings that are good. -/
theorem State.doHkScanDone_few (refuv : Option Int) (scan : s.is R.MET_MC_STAT_HK = true)
    (ended : s.met.hkAt + 16 * convUnits 10 s.linePeriod.1 ≤ s.fU) (few : temps.length ≤ 7) (unasked : s.met.want = false)
    (single : s.is R.MET_MC_CTRL_CONT = false) : s.doHkScanDone temps refuv = (s.tempsStored temps).mcShow := by
  have regs := s.tempsStored_regs temps
  have want : (s.tempsStored temps).met.want = false := (congrArg MetSt.want regs.met).trans unasked
  have cont : (s.tempsStored temps).is R.MET_MC_CTRL_CONT = false :=
    (State.is_of_rd ((regs.kept _ not_tempReg).trans (State.rd_set_ne _ R.MET_MC_STAT_HK _ (by decide)))).trans single
  rw [State.doHkScanDone_unwatched noWatch refuv scan ended, State.scanStored_few few, want, cont]
  rfl
end

/-! ### The diagnostic DAC (R315) -/

/-- In SERVICE and CALIBRATE, with no run in progress, EN is taken. -/
theorem State.doDdacEnable_takes {s : State} {v : Word} (on : s.powered R.MET_DDAC = true) (mode : s.mode = 1 ∨ s.mode = 2)
    (noRun : s.get R.MET_CAL_STAT_STATE = 0) (noneDue : s.met.runDue = false) (en : fieldOf v 31 1 = 1) :
    ∃ t : State, s.doDdacEnable v = ((t.set R.MET_DDAC_LANE (fieldOf v 16 6)).set R.MET_DDAC_CODE (fieldOf v 0 12)).ddacSet 1 := by
  rw [State.doDdacEnable, State.ifOn_of_powered _ on, en]
  exact ⟨_, (if_neg (by decide)).trans (if_pos (by simpa [noRun, noneDue] using mode))⟩

/-! ### Calibration runs (R317, R319, R320) -/

theorem State.runRequest_takes {s : State} (accepted : s.runRefused = false) :
    s.runRequest = ((s.set R.MET_CAL_CTRL_RUN 1).set R.MET_CAL_STAT_STATE 1).setMet { s.met with runDue := true } :=
  if_neg (accepted ▸ Bool.false_ne_true)

/-- What a run that has been accepted shows. -/
structure RunTaken (s t : State) : Prop where
  run : t.is R.MET_CAL_CTRL_RUN = true
  state : t.get R.MET_CAL_STAT_STATE = 1
  due : t.met.runDue = true
  kept : RegsKept s t (fun a => a = R.MET_CAL_CTRL ∨ a = R.MET_CAL_STAT)

theorem State.runRequest_taken {s : State} (accepted : s.runRefused = false) : RunTaken s s.runRequest := by
  rw [State.runRequest_takes accepted]
  refine ⟨(State.is_set_apart _ _ (by decide)).trans (s.is_set_one (by decide)), State.get_set_self _ _ (by decide), rfl, ?_⟩
  exact ((OnRegs.set s R.MET_CAL_CTRL_RUN 1 (.inl rfl)).trans (.set _ R.MET_CAL_STAT_STATE 1 (.inr rfl))).kept

/-- A run is accepted in CALIBRATE with the reference ready: so is one that starts by itself (R317). -/
theorem State.doCalAutoStart_requests {s : State} (on : s.powered R.MET_CAL_CTRL = true) (auto : s.is R.MET_CAL_CTRL_AUTO_EN = true)
    (cause : (s.get R.MET_CAL_STAT_DUE_CAUSE).testBit 0 = true ∨ (s.get R.MET_CAL_STAT_DUE_CAUSE).testBit 1 = true)
    (present : s.is R.MET_CAL_STAT_REF_PRESENT = true) (accepted : s.runRefused = false) : s.doCalAutoStart = s.runRequest := by
  have conditions : s.is R.MET_REF_READY = true ∧ s.mode = 2 := by
    simp only [State.runRefused, Bool.or_eq_false_iff, bne_eq_false_iff_eq, Bool.not_eq_false'] at accepted
    tauto
  obtain ⟨ready, mode⟩ := conditions
  exact if_pos (by simpa [on, auto, present, ready, mode] using cause)

/-- The items of a run's two passes, for the slots that it measured. -/
def runPairs (r : CalRun) (slots : Nat) : List (CalItem × CalItem) :=
  (itemSort (r.p1.items.filter (fun i => itemIn slots i.id))).filterMap (fun x => (r.p2.items.find? (fun y => y.id == x.id)).map (fun y => (x, y)))

/-- A run ends with its verdict. -/
def State.runJudged (s : State) (r : CalRun) (pairs : List (CalItem × CalItem)) : Option (Nat × Nat × Int) → State
  | some (res, item, d) =>
    let t := if res = 2 then (s.put R.MET_CAL_FAIL_ITEM item).put R.MET_CAL_FAIL_DIFF (codeOf 32 d) else s
    (t.metCount R.MET_CAL_REJ 1).runFinish res (divRound (r.p1.temp + r.p2.temp) 2) pairs.length
  | none =>
    let t := s.runAccept (pairs.map fun p => itemMean p.1 p.2) (divRound (r.p1.temp + r.p2.temp) 2) (r.deskew.map fun d => (d.1.val, d.2))
    t.runFinish 1 (divRound (r.p1.temp + r.p2.temp) 2) pairs.length

section
variable {s : State} {r : CalRun} (measuring : s.get R.MET_CAL_STAT_STATE = 1 ∧ s.get R.MET_MC_STAT_RUN_OWNS = 1) (noDacs : r.dacs = [])
  (silent : s.is R.MET_CAL_CTRL_REPORT_PTS = false)
include measuring noDacs silent

/-- Without readbacks and points, the end of a run is the verdict over its two passes. -/
theorem State.doCalRunEnd_judges : s.doCalRunEnd r = (s.newTm r.p2.temp).runJudged r (runPairs r s.met.runSlots)
    ((s.newTm r.p2.temp).runVerdict (runPairs r s.met.runSlots) r.p1.temp r.p2.temp) := by
  have still : (List.range 64).foldl (fun t w => State.readbackWindow t [] w) s = s := List.foldl_fixed' (fun _ => rfl) _
  have judged : s.doCalRunEnd r = _ := if_pos measuring
  dsimp only at judged
  rw [noDacs, still, silent, if_neg Bool.false_ne_true] at judged
  exact judged

/-- Two passes that agree are accepted. -/
theorem State.doCalRunEnd_accepts (agree : (s.newTm r.p2.temp).runVerdict (runPairs r s.met.runSlots) r.p1.temp r.p2.temp = none) :
    ∃ (t : State) (temp : Int) (n : Nat), t.met.newSet.isSome = true ∧ s.doCalRunEnd r = t.runFinish 1 temp n :=
  ⟨_, _, _, State.runAccept_newSet _ _ _ _, (State.doCalRunEnd_judges measuring noDacs silent).trans (congrArg _ agree)⟩

/-- Others are rejected with the result of the check that failed. -/
theorem State.doCalRunEnd_rejects {v : Nat × Nat × Int}
    (fails : (s.newTm r.p2.temp).runVerdict (runPairs r s.met.runSlots) r.p1.temp r.p2.temp = some v) :
    ∃ (t : State) (temp : Int) (n : Nat), s.doCalRunEnd r = t.runFinish v.1 temp n :=
  ⟨_, _, _, (State.doCalRunEnd_judges measuring noDacs silent).trans (congrArg _ fails)⟩
end

/-- A run that is asked to abort waits for the end of its measurement (R320). -/
theorem State.calAbort_asks {s : State} {res : Nat} (runs : s.get R.MET_CAL_STAT_STATE ≠ 0) (first : s.fault.calAbort = none) :
    s.calAbort res = State.set { s with fault := { s.fault with calAbort := some res } } R.MET_CAL_STAT_STATE 2 := if_pos ⟨runs, first⟩

theorem State.doCalAbortDone_ends {s : State} {res : Nat} (refLost : Bool) (runs : s.get R.MET_CAL_STAT_STATE ≠ 0)
    (asked : s.fault.calAbort = some res) : s.doCalAbortDone refLost = s.runFinish res 0 0 := by
  rw [State.doCalAbortDone, if_neg runs, asked]

/-! ### Correction banks and sets (R322, R324) -/

/-- A bank is computed: at most a free value is used. -/
theorem State.bankBuild_free (s : State) (tb : Int) : ∃ n, (s.bankBuild tb).2 = { s with freeCount := n } := by
  unfold State.bankBuild
  dsimp only
  split <;> exact ⟨_, rfl⟩

/-- A bank that has been built is ready. -/
theorem State.doBankReady_ready {s : State} {b : Nat × Int} (build : s.met.build = some b) (once : s.met.again = false) :
    ∃ n x, s.doBankReady = State.setMet { s with freeCount := n } { s.met with build := none, ready := some (s.fU, x), accepted := false } := by
  obtain ⟨n, free⟩ := s.bankBuild_free b.2
  refine ⟨n, (s.bankBuild b.2).1, ?_⟩
  rw [State.doBankReady, build]
  dsimp only
  rw [free]
  exact if_neg (once ▸ Bool.false_ne_true)

/-- Cause 4 rises. -/
theorem State.doSetStoreTimeout_due {s : State} {x : Nat × CalSet} (newSet : s.met.newSet = some x)
    (late : x.1 + 100000 * unitsPerTick ≤ s.fU) (was : (s.get R.MET_CAL_STAT_DUE_CAUSE).testBit 4 = false) :
    s.doSetStoreTimeout = s.setDue (s.get R.MET_CAL_STAT_DUE_CAUSE + 2 ^ 4) := by
  have rises : s.setDueBit 4 true = s.setDue (s.get R.MET_CAL_STAT_DUE_CAUSE + 2 ^ 4) := if_neg (by rw [was]; decide)
  rw [State.doSetStoreTimeout, newSet, ← rises]
  exact if_pos late

/-- What shows once cause 4 has risen. -/
theorem State.setDue_four {s t : State} {old : Nat} (causes : s.get R.MET_CAL_STAT_DUE_CAUSE = old) (was : old.testBit 4 = false)
    (rise : s.setDue (old + 2 ^ 4) = t) :
    (t.get R.MET_CAL_STAT_DUE_CAUSE).testBit 4 = true ∧ t.is R.MET_CAL_STAT_CAL_DUE = true ∧ t.is R.MET_EVT_CAL_DUE = true := by
  have small : old < 2 ^ 5 := causes ▸ s.get_lt R.MET_CAL_STAT_DUE_CAUSE
  have low : old < 2 ^ 4 := by
    by_contra high
    have set := Nat.testBit_of_two_pow_le_and_two_pow_add_one_gt (Nat.not_lt.mp high) small
    exact Bool.false_ne_true (was.symm.trans set)
  have rises : (old + 2 ^ 4).testBit 4 = true := by
    rw [Nat.add_comm, Nat.testBit_two_pow_add_eq, was]
    rfl
  obtain ⟨cause, due⟩ := s.dueShown_shown (new := old + 2 ^ 4) (by omega) (by omega)
  have event := (s.dueShown (old + 2 ^ 4)).dueTold_event (by decide) rises was
  have stat := (s.dueShown (old + 2 ^ 4)).dueTold_stat old (old + 2 ^ 4)
  rw [State.setDue_eq, causes] at rise
  rw [rise] at event stat
  refine ⟨?_, (State.is_of_rd stat).trans due, event⟩
  rw [State.get_of_rd (f := R.MET_CAL_STAT_DUE_CAUSE) stat, cause]
  exact rises

/-! ### The statement -/

/-- Settles O24: each command reaches the state that its lemma writes out; what a run's end and its due causes show is read off the lemmas of calibration. -/
theorem housekeepingAndCalibration : Obligations.HousekeepingAndCalibration := by
  refine ⟨fun s u on idle noRun due free => ?_, fun s u on idle noRun due busy => ?_,
    fun s u temps refuv scan noWatch ended few unasked single settled any => ?_, fun s u v on mode noRun noneDue en => ?_,
    fun s u b build once => ?_, fun s u on accepted => ?_, fun s u on refused => ?_, fun s u on auto cause present accepted => ?_,
    fun s u r runs owns noDacs silent agree => ?_, fun s u r v runs owns noDacs silent fails small => ?_, fun s u on runs first => ?_,
    fun s u refLost res runs asked small => ?_, fun s u x newSet late was => ?_, fun s u on => ?_⟩
  · have starts := (State.doHkScanStart_due (s := s.atF u) on idle noRun due).trans (if_neg (by simp [free]))
    refine answers_of_arm (congrArg (done s) starts) rfl fun t e mem => ?_
    subst e
    exact ⟨State.is_set_one _ (by decide), rfl, rfl, rfl, mem, (OnRegs.set (w := fun a => a = R.MET_MC_STAT) (s.atF u) R.MET_MC_STAT_HK 1 rfl).kept⟩
  · have waits := (State.doHkScanStart_due (s := s.atF u) on idle noRun (.inl due)).trans (if_pos busy)
    refine answers_of_arm (congrArg (done s) waits) rfl fun t e mem => ?_
    subst e
    exact ⟨rfl, rfl, mem⟩
  · have stored := (s.atF u).tempsStored_regs temps
    have first := State.tempsStored_first (s := s.atF u) any settled
    have ends := State.doHkScanDone_few (s := s.atF u) noWatch refuv scan ended few unasked single
    have shown := ((s.atF u).tempsStored temps).mcShow_regs
    have hk : ((s.atF u).tempsStored temps).mcShow.is R.MET_MC_STAT_HK = false :=
      (State.mcShow_is _ (by decide)).trans ((State.is_of_rd (stored.kept _ not_tempReg)).trans (State.is_set_zero _ (by decide)))
    refine answers_of_arm (congrArg (done s) ends) rfl fun t e mem => ?_
    rw [e] at shown hk
    exact ⟨hk, (shown.val (by decide)).trans first,
      (shown.kept _ (by decide)).trans ((stored.kept _ not_tempReg).trans (State.rd_set_ne _ R.MET_MC_STAT_HK 0 (by decide))), mem⟩
  · obtain ⟨w, takes⟩ := State.doDdacEnable_takes (s := s.atF u) on mode noRun noneDue en
    let x := (w.set R.MET_DDAC_LANE (fieldOf v 16 6)).set R.MET_DDAC_CODE (fieldOf v 0 12)
    have lane : x.get R.MET_DDAC_LANE = fieldOf v 16 6 :=
      (State.get_set_apart _ _ (by decide)).trans ((State.get_set_self _ _ (by decide)).trans (Nat.mod_eq_of_lt (fieldOf_lt _ _ _)))
    have code : x.get R.MET_DDAC_CODE = fieldOf v 0 12 := (State.get_set_self _ _ (by decide)).trans (Nat.mod_eq_of_lt (fieldOf_lt _ _ _))
    refine answers_of_arm (congrArg (done s) takes) rfl fun t e mem => ?_
    subst e
    exact ⟨x.ddacSet_en (by decide), (x.ddacSet_get 1 rfl (by decide)).trans lane, (x.ddacSet_get 1 rfl (by decide)).trans code, mem⟩
  · obtain ⟨n, x, ready⟩ := State.doBankReady_ready (s := s.atF u) build once
    refine answers_of_arm (congrArg (done s) ready) rfl fun t e mem => ?_
    subst e
    exact ⟨rfl, rfl, rfl, rfl, mem⟩
  · have taken := State.runRequest_taken (s := s.atF u) accepted
    refine answers_of_arm (congrArg (done s) (State.ifOn_of_powered (s := s.atF u) State.runRequest on)) rfl fun t e mem => ?_
    obtain ⟨run, state, due, kept⟩ := e ▸ taken
    exact ⟨run, state, due, mem, kept⟩
  · have refuses := (State.ifOn_of_powered (s := s.atF u) State.runRequest on).trans (if_pos refused)
    refine answers_of_arm (congrArg (done s) refuses) rfl fun t e mem => ?_
    subst e
    exact ⟨State.get_set_self _ _ (by decide), rfl, mem, (OnRegs.set (w := fun a => a = R.MET_CAL_STAT) (s.atF u) R.MET_CAL_STAT_RESULT 6 rfl).kept⟩
  · have taken := State.runRequest_taken (s := s.atF u) accepted
    refine answers_of_arm (congrArg (done s) (State.doCalAutoStart_requests (s := s.atF u) on auto cause present accepted)) rfl fun t e mem => ?_
    obtain ⟨-, state, due, kept⟩ := e ▸ taken
    exact ⟨state, due, mem, kept⟩
  · obtain ⟨w, temp, n, set, ends⟩ := State.doCalRunEnd_accepts (s := s.atF u) ⟨runs, owns⟩ noDacs silent agree
    refine answers_of_arm (congrArg (done s) ends) rfl fun t e mem => ?_
    obtain ⟨result, state, free, -, -, newSet⟩ := e ▸ w.runFinish_finished temp n (by decide : 1 < 16)
    exact ⟨result, state, newSet ▸ set, free, mem⟩
  · obtain ⟨w, temp, n, ends⟩ := State.doCalRunEnd_rejects (s := s.atF u) ⟨runs, owns⟩ noDacs silent fails
    refine answers_of_arm (congrArg (done s) ends) rfl fun t e mem => ?_
    obtain ⟨result, state, free, -, -, -⟩ := e ▸ w.runFinish_finished temp n small
    exact ⟨result, state, free, mem⟩
  · have asks := (State.ifOn_of_powered (s := s.atF u) (fun t => t.calAbort 5) on).trans (State.calAbort_asks runs first)
    refine answers_of_arm (congrArg (done s) asks) rfl fun t e mem => ?_
    subst e
    exact ⟨rfl, State.get_set_self _ _ (by decide), mem, fun a ha => State.rd_set_ne _ R.MET_CAL_STAT_STATE 2 ha⟩
  · refine answers_of_arm (congrArg (done s) (State.doCalAbortDone_ends (s := s.atF u) refLost runs asked)) rfl fun t e mem => ?_
    obtain ⟨result, state, -, abort, event, -⟩ := e ▸ (s.atF u).runFinish_finished 0 0 small
    exact ⟨result, state, abort, event, mem⟩
  · refine answers_of_arm (congrArg (done s) (State.doSetStoreTimeout_due (s := s.atF u) newSet late was)) rfl fun t e mem => ?_
    obtain ⟨cause, due, event⟩ := State.setDue_four (s := s.atF u) rfl was e
    exact ⟨cause, due, event, mem⟩
  · refine answers_of_arm (congrArg (done s) (State.ifOn_of_powered (s := s.atF u) (fun t => t.put R.MET_CAL_REJ 0) on)) rfl fun t e mem => ?_
    subst e
    exact ⟨(s.atF u).val_put_self (a := R.MET_CAL_REJ) 0, mem, (OnRegs.put (w := fun a => a = R.MET_CAL_REJ) (s.atF u) 0 rfl).kept⟩

end Sys2Proof.Machine
end

section
/-! PROOFS. Requests of the pod managers (R333, R335, R337): O25. -/

namespace Sys2Proof.Machine

/-! ### The state of a slot's manager -/

theorem State.pod_setPod (s : State) (q : Idx16) (x : PodSt) : (s.setPod q x).pod q = x := by
  simp [State.pod, State.setPod, Vector.getD]

/-! ### A request is sent (R335) -/

/-- `t` comes from `s` by a request of a slot's manager that waits for its answer. -/
structure Requested (q : Idx16) (r : Option PodReq) (s t : State) : Prop where
  cur : (t.pod q).cur = r
  seq : (t.pod q).seq = ((s.pod q).seq + 1) % 8
  challenge : (t.pod q).challenge = (s.pod q).challenge
  regs : t.regs = s.regs

/-- With cause to send and no answer yet, the request becomes the one in progress. -/
theorem State.podExchange_requested {s : State} {q : Idx16} {cmd : Nat} {data : List Byte} (due : (s.podNext q cmd data).isSome = true) :
    Requested q (s.podNext q cmd data) s (s.podExchange q cmd data none) := by
  obtain ⟨r, next⟩ := Option.isSome_iff_exists.mp due
  rw [State.podExchange, next]
  change Requested q (some r) s (s.podSend q r)
  have sent : (s.podSend q r).pod q = _ := s.pod_setPod q _
  exact ⟨(congrArg PodSt.cur sent :), (congrArg PodSt.seq sent :), (congrArg PodSt.challenge sent :), rfl⟩

theorem answers_of_podExchange {c : Instr} {s : State} {u : Sub} {q : Idx16} {cmd : Nat} {data : List Byte}
    (arm : exec c s = done s ((s.atF u).podExchange q cmd data none)) (storeless : mayStore c = false)
    (due : ((s.atF u).podNext q cmd data).isSome = true) :
    Answers c s (fun t => (t.pod q).cur = (s.atF u).podNext q cmd data ∧ (t.pod q).seq = ((s.pod q).seq + 1) % 8 ∧ t.regs = s.regs ∧ t.mem = s.mem) := by
  have sent := State.podExchange_requested due
  refine answers_of_arm arm storeless fun t e mem => ?_
  obtain ⟨cur, seq, -, regs⟩ := e ▸ sent
  exact ⟨cur, seq, regs, mem⟩

/-! ### CHALLENGE (R342) -/

theorem length_leBytes (n : Nat) : ∀ v, (leBytes n v).length = n := by
  induction n with
  | zero => exact fun _ => rfl
  | succ n ih => exact fun v => congrArg (· + 1) (ih (v / 256))

/-- The 64 bytes that a challenge asks a slot's pod to sign. -/
def State.challengeBytes (s : State) (q : Nat) : List Byte :=
  leBytes 4 0x5243474A ++ leBytes 1 q ++ leBytes 3 0 ++ leBytes 32 (s.fresh 256).1 ++ leBytes 8 s.fNow.pack ++ leBytes 16 0

theorem State.challengeBytes_length (s : State) (q : Nat) : (s.challengeBytes q).length = 64 := by
  simp [State.challengeBytes, length_leBytes]

/-- The manager's own cause for a challenge does not depend on the bytes. -/
theorem State.podCause_challenge (s : State) (q : Nat) (data : List Byte) :
    (s.podCause q 0x06 data).isSome = (s.podCause q 0x06 []).isSome := by
  simp only [State.podCause]
  split <;> rfl

/-- Where the manager has cause for a challenge and its link is free, it has a request for any bytes. -/
theorem State.podNext_challenge {s : State} {q : Nat} (data : List Byte) (cause : (s.podCause q 0x06 []).isSome = true)
    (next : (s.podNext q 0x06 []).isSome = true) : (s.podNext q 0x06 data).isSome = true := by
  obtain ⟨pl, hpl⟩ := Option.isSome_iff_exists.mp ((s.podCause_challenge q data).trans cause)
  simp only [State.podNext] at next ⊢
  split at next
  · exact absurd next (by decide)
  · rw [if_neg ‹_›, hpl]
    rfl

/-- The slot's manager with the bytes that its pod is to sign; a free value has been drawn for the nonce. -/
def State.challenging (s : State) (q : Idx16) : State := (s.fresh 256).2.setPod q { s.pod q with challenge := s.challengeBytes q }

theorem State.challenging_pod (s : State) (q : Idx16) : (s.challenging q).pod q = { s.pod q with challenge := s.challengeBytes q } :=
  (s.fresh 256).2.pod_setPod q _

/-- The bytes to sign do not decide which request is sent. -/
theorem State.challenging_podNext (s : State) (q : Idx16) (cmd : Nat) (data : List Byte) :
    (s.challenging q).podNext q cmd data = s.podNext q cmd data := by
  simp only [State.podNext, State.podCause, State.challenging_pod]
  rfl

theorem State.doChallenge_exchanges {s : State} {q : Idx16} (cause : (s.podCause q 0x06 []).isSome = true)
    (next : (s.podNext q 0x06 []).isSome = true) (ans : Option PodAns) :
    s.doChallenge q ans = (s.challenging q).podExchange q 0x06 (s.challengeBytes q) ans :=
  if_pos (by rw [cause, next]; rfl)

/-! ### The statement -/

/-- Settles O25: every request is an exchange without an answer, and a challenge draws its nonce first. -/
theorem podRequests : Obligations.PodRequests := by
  refine ⟨fun s u q due => ?_, fun s u q due => ?_, fun s u q data due => ?_, fun s u q due => ?_, fun s u q due => ?_, fun s u q due => ?_,
    fun s u q due => ?_, fun s u q due => ?_, fun s u q due => ?_, fun s u q ofs data due => ?_, fun s u q digest due => ?_, fun s u q due => ?_,
    fun s u q cause due => ?_⟩
  case refine_13 =>
    have asks := (State.challenging_podNext (s.atF u) q 0x06 ((s.atF u).challengeBytes q)).symm ▸ State.podNext_challenge _ cause due
    have sent := State.podExchange_requested (s := (s.atF u).challenging q) asks
    have bytes := (s.atF u).challenging_pod q
    refine answers_of_arm (congrArg (done s) (State.doChallenge_exchanges cause due none)) rfl fun t e mem => ?_
    obtain ⟨cur, seq, challenge, regs⟩ := e ▸ sent
    refine ⟨(congrArg Option.isSome cur).trans asks, seq.trans (by rw [bytes]; rfl), ?_, regs, mem⟩
    exact (congrArg List.length (challenge.trans (congrArg PodSt.challenge bytes))).trans (State.challengeBytes_length _ _)
  all_goals exact answers_of_podExchange rfl rfl due

end Sys2Proof.Machine
end

section
/-! PROOFS. Responses and retries on a pod's link, and its loss (R335, R336, R339, R342, R343). O27 speaks of every state, and
fails where SEQ is not below 8, as R335 counts it. -/

namespace Sys2Proof.Machine

/-! ### Frames (R334, R335) -/

/-- The frame answers the request in progress: SYNC, direction, SEQ, CMD, length and CRC are right. -/
def State.answeredBy (s : State) (q : Nat) (r : PodReq) (f : List Byte) : Bool :=
  leAt f 0 1 == 0xC5 && leAt f 1 1 == 0x80 + 16 * (s.pod q).seq && leAt f 2 1 == r.cmd && decide (leAt f 4 2 ≤ 4096) && f.length == 10 + leAt f 4 2
    && leAt f (6 + leAt f 4 2) 4 == crc32c (f.take (6 + leAt f 4 2))

theorem State.doPodResponse_waiting {s : State} {q : Nat} {r : PodReq} (f : List Byte) (cur : (s.pod q).cur = some r) :
    s.doPodResponse q f = if s.answeredBy q r f then s.podAnswer q r (leAt f 3 1) ((f.drop 6).take (leAt f 4 2)) else s := by
  rw [State.doPodResponse, cur]
  rfl

/-- A frame that carries another SEQ is no response. -/
theorem State.doPodResponse_otherSeq {s : State} {q : Nat} {r : PodReq} {f : List Byte} (cur : (s.pod q).cur = some r)
    (other : leAt f 1 1 ≠ 0x80 + 16 * (s.pod q).seq) : s.doPodResponse q f = s := by
  rw [State.doPodResponse_waiting f cur]
  exact if_neg (by simp [State.answeredBy, other])

/-! ### A sequence number that the frame cannot carry -/

/-- The manager of S0 waits for the answer to HOLD with SEQ 8, which R335 counts modulo 8. -/
def seqEight : State := State.reset.setPod 0 { seq := 8, cur := some { cmd := 0x0B, payload := [], at_ := 0 } }

/-- A frame whose first four bytes spell `0xC5 + 256 * (0x80 + 16 * 8) + 65536 * 0x0B`: SEQ has carried into CMD. -/
def carriedFrame : List Byte :=
  let head : List Byte := [0xC5, 0x00, 0x0C, 0x00, 0x00, 0x00]
  head ++ leBytes 4 (crc32c head)

theorem carriedFrame_first : leAt carriedFrame 0 4 = 0xC5 + 256 * (0x80 + 16 * 8) + 65536 * 0x0B := by decide

theorem carriedFrame_crc : leAt carriedFrame 6 4 = crc32c (carriedFrame.take 6) := by decide +kernel

/-- Its byte 1 is 0, so it answers nothing. -/
theorem seqEight_doPodResponse (u : Sub) : (seqEight.atF u).doPodResponse 0 carriedFrame = seqEight.atF u := by
  have other : leAt carriedFrame 1 1 ≠ 0x80 + 16 * 8 := by decide
  exact State.doPodResponse_otherSeq (s := seqEight.atF u) rfl other

/-- Refutes O27: from `seqEight` the frame `carriedFrame` meets every premise of the clause on an answered HOLD, and the request stays in progress. -/
theorem not_podLink : ¬ Obligations.PodLink := by
  rintro ⟨-, answered, -⟩
  obtain ⟨t, ht, -, cur, -⟩ := answered seqEight 0 0 carriedFrame { cmd := 0x0B, payload := [], at_ := 0 } rfl rfl rfl
    carriedFrame_first rfl (by decide) carriedFrame_crc
  have arm : exec (.podResponse 0 0 carriedFrame) seqEight = done seqEight ((seqEight.atF 0).doPodResponse 0 carriedFrame) := rfl
  rw [seqEight_doPodResponse] at arm
  obtain rfl : { seqEight.atF 0 with pending := seqEight.pending } = t := Host.Outcome.next.inj (arm.symm.trans ht)
  exact absurd cur (by decide)

end Sys2Proof.Machine
end

section
/-! PROOFS. What the raise of a host source does at the collector (R438, R440, R446): counts, the pending bit, FLT_FIRST and FLT_LAST, and the Fatal state. -/

namespace Sys2Proof.Machine

/-! ### Registers of the collector that an operation leaves -/

/-- The address lies in the block FLT and is not FLT_STAT, or is UPD_CTRL, UPD_STAT or UPD_EVT. -/
abbrev InFlt (a : Nat) : Prop := 0xA0000 ≤ a ∧ a < 0xB000C ∧ a ≠ R.FLT_STAT

/-- Of the collector's registers only those that `w` names change. -/
def FltRegs (w : Nat → Prop) (s t : State) : Prop := ∀ a, InFlt a → ¬ w a → t.rd a = s.rd a

namespace FltRegs
variable {w : Nat → Prop} {s t v : State}

theorem refl (w : Nat → Prop) (s : State) : FltRegs w s s := fun _ _ _ => rfl
theorem trans (h : FltRegs w s t) (h' : FltRegs w t v) : FltRegs w s v := fun a ha hw => (h' a ha hw).trans (h a ha hw)
theorem mono {w' : Nat → Prop} (h : FltRegs w s t) (hw : ∀ a, w a → w' a) : FltRegs w' s t := fun a ha hw' => h a ha fun x => hw' (hw a x)
theorem ite {c : Prop} [Decidable c] (h : FltRegs w s t) (h' : FltRegs w s v) : FltRegs w s (if c then t else v) := by
  split
  · exact h
  · exact h'
theorem of_host {w' : Nat → Prop} (h : OnHost w' s t) (hw : ∀ a, w' a → InFlt a → w a) : FltRegs w s t := fun a ha hn => h.rd fun x => hn (hw a x ha)
theorem put {a : Nat} (s : State) (x : Nat) (h : w a) : FltRegs w s (s.put a x) := fun _ _ hn => s.rd_put_ne x fun e => hn (e ▸ h)
theorem set (s : State) (f : Fld) (x : Nat) (h : w f.addr) : FltRegs w s (s.set f x) := fun _ _ hn => s.rd_set_ne f x fun e => hn (e ▸ h)
theorem val (h : FltRegs w s t) {a : Nat} (ha : InFlt a) (hw : ¬ w a) : t.val a = s.val a := State.val_of_rd (h a ha hw)
theorem is (h : FltRegs w s t) {f : Fld} (ha : InFlt f.addr) (hw : ¬ w f.addr) : t.is f = s.is f := State.is_of_rd (h _ ha hw)
end FltRegs

/-- None of the collector's registers changes, but for bits of FLT_STAT other than FAULT_HOLD. -/
structure FltKept (s t : State) : Prop where
  regs : FltRegs (fun _ => False) s t
  hold : t.faultHold = s.faultHold

namespace FltKept
variable {s t v : State}

theorem refl (s : State) : FltKept s s := ⟨.refl _ s, rfl⟩
theorem trans (h : FltKept s t) (h' : FltKept t v) : FltKept s v := ⟨h.regs.trans h'.regs, h'.hold.trans h.hold⟩
theorem ite {c : Prop} [Decidable c] (h : FltKept s t) (h' : FltKept s v) : FltKept s (if c then t else v) := by
  split
  · exact h
  · exact h'
theorem of_regs (h : t.regs = s.regs) : FltKept s t := ⟨fun a _ _ => State.rd_of_regs h a, State.is_of_rd (State.rd_of_regs h _)⟩
/-- An operation of the host half whose registers lie elsewhere. -/
theorem of_host {w : Nat → Prop} (h : OnHost w s t) (out : ∀ a, w a → a < 0xA0000 ∨ 0xB000C ≤ a) : FltKept s t := by
  refine ⟨FltRegs.of_host h fun a ha hin => ?_, State.is_of_rd (h.rd fun ha => ?_)⟩
  · rcases out a ha with below | above <;> omega
  · have := out _ ha
    revert this
    decide
theorem of_append (h : OnHost (fun a => a ∈ ldgRegs ∨ a ∈ clrRegs ∨ a ∈ eqRegs) s t) : FltKept s t := by
  have ldg : ∀ a ∈ ldgRegs, a < 0xA0000 ∨ 0xB000C ≤ a := by decide
  have clr : ∀ a ∈ clrRegs, a < 0xA0000 ∨ 0xB000C ≤ a := by decide
  have eq : ∀ a ∈ eqRegs, a < 0xA0000 ∨ 0xB000C ≤ a := by decide
  exact of_host h fun a ha => ha.elim (ldg a) fun ha => ha.elim (clr a) (eq a)
theorem setStat (s : State) {lo : Nat} (x : Nat) (h : 1 ≤ lo ∧ lo < 32) : FltKept s (s.set ⟨R.FLT_STAT, lo, 1⟩ x) :=
  ⟨fun _ ha _ => s.rd_set_ne ⟨R.FLT_STAT, lo, 1⟩ x ha.2.2, s.is_set_apart x (.of_bits ⟨by decide, by omega⟩ (.inl (by omega)))⟩
end FltKept

section
variable (s : State) (id : Nat)

theorem State.msix_fltKept (v : Nat) : FltKept s (s.msix v) := .of_host (s.msix_host v) fun _ => False.elim

theorem State.hostEvent_fltKept (blk code inst t64 : Nat) (data : List Byte) : FltKept s (s.hostEvent blk code inst t64 data) :=
  .of_append ((s.hostEvent_host blk code inst t64 data).mono fun _ => .inr)

theorem State.ledgerH_fltKept (source code inst : Nat) (data : List Byte) : FltKept s (s.ledgerH source code inst data) :=
  .of_append (s.ledgerH_host source code inst data)

theorem State.faultMirror_fltKept (t64 era raises : Nat) (bytes : List Byte) : FltKept s (s.faultMirror id t64 era raises bytes) := by
  unfold State.faultMirror
  extract_lets entry old n rest due
  refine .ite (.ite ?_ (.of_regs rfl)) (.of_append (s.ledger1_host _))
  exact FltKept.trans (t := { s with ledger := { s.ledger with mirrored := (id, absTick s.era s.time.hTick, 0) :: rest } }) (.of_regs rfl)
    (.of_append (State.ledger1_host _ _))

theorem State.moduleResetReaction_fltKept : FltKept s (s.moduleResetReaction id) :=
  .ite (.refl s) (.ite (.setStat s 1 (by decide)) (.of_regs rfl))

theorem State.dropFaultN_fltKept : FltKept s s.dropFaultN := .ite (.refl s) ((FltKept.setStat s 1 (by decide)).trans (.of_regs rfl))

theorem State.dropFieldFaultN_fltKept : FltKept s s.dropFieldFaultN := .ite (.refl s) ((FltKept.setStat s 1 (by decide)).trans (.of_regs rfl))

theorem State.sendHF_fltKept (ty vc t64 : Nat) (pl : List Byte) (extra : Nat) : FltKept s (s.sendHF ty vc t64 pl extra) := by
  have sent := s.sendHF_field ty vc t64 pl extra
  refine ⟨fun a ha _ => sent.rd ?_, State.is_of_rd (sent.rd (by decide))⟩
  have : R.ISO_TX_BYTES_LO < 0xA0000 ∨ 0xB000C ≤ R.ISO_TX_BYTES_LO := by decide
  have : R.ISO_TX_BYTES_LO + 4 < 0xA0000 ∨ 0xB000C ≤ R.ISO_TX_BYTES_LO + 4 := by decide
  omega

/-- The host link's reset takes the registers of HDMA alone (R354). -/
theorem State.hdmaReset_fltKept (keepSat : Bool) : FltKept s (s.hdmaReset keepSat) := by
  unfold State.hdmaReset
  extract_lets lost s1 s2
  have counted : FltKept s s1 := by
    refine .of_host (s.satCount_host R.HDMA_CPL_DROP 32 lost R.HDMA_EVT_SATURATED) ?_
    rintro a (rfl | rfl) <;> decide
  have cleared := s1.resetRange_regs 0x40000 0x5FFFF (fun a => keepSat && isSat a)
  have reset : FltKept s1 s2 := ⟨fun a ha _ => cleared.2 a (by omega), State.is_of_rd (cleared.2 _ fun h => absurd h.2.1 (by decide))⟩
  exact (counted.trans reset).trans (.of_regs rfl)
end

/-! ### A raise is collected (R438) -/

/-- The registers of the Fatal state. -/
abbrev fatalRegs : List Nat := [R.FLT_EVT, R.FLT_FATAL_ID, R.FLT_FATAL_LO, R.FLT_FATAL_LO + 4, R.FLT_FATAL_DATA]

theorem State.faultLatch_regs (s : State) (idR lo gen id t64 : Nat) :
    FltRegs (fun a => a = idR ∨ a = lo ∨ a = lo + 4 ∨ a = gen) s (s.faultLatch idR lo gen id t64) :=
  (((FltRegs.put s _ (.inl rfl)).trans (.put _ _ (.inr (.inl rfl)))).trans (.put _ _ (.inr (.inr (.inl rfl))))).trans (.put _ _ (.inr (.inr (.inr rfl))))

theorem State.faultLatch_id (s : State) {idR lo gen id t64 : Nat} (h : idR ≠ lo ∧ idR ≠ lo + 4 ∧ idR ≠ gen) (small : id < 2 ^ 32) :
    (s.faultLatch idR lo gen id t64).val idR = id := by
  obtain ⟨low, high, word⟩ := h
  rw [State.faultLatch, State.replaceResult, State.val_put_ne _ _ word, State.put64, State.val_put_ne _ _ high, State.val_put_ne _ _ low,
    State.val_put_self, Nat.mod_eq_of_lt small]

theorem State.faultLatch_t64 (s : State) {idR lo gen id t64 : Nat} (h : lo ≠ gen ∧ lo + 4 ≠ gen) (small : t64 < 2 ^ 64) :
    (s.faultLatch idR lo gen id t64).val64 lo = t64 := by
  rw [State.faultLatch, State.replaceResult, State.val64, State.val_put_ne _ _ h.1, State.val_put_ne _ _ h.2, ← State.val64, State.val64_put64,
    Nat.mod_eq_of_lt small]

theorem State.faultLatch_hold (s : State) (idR lo gen id t64 : Nat) (h : R.FLT_STAT ≠ idR ∧ R.FLT_STAT ≠ lo ∧ R.FLT_STAT ≠ lo + 4 ∧ R.FLT_STAT ≠ gen) :
    (s.faultLatch idR lo gen id t64).faultHold = s.faultHold := by
  obtain ⟨hi, hl, hh, hg⟩ := h
  refine State.is_of_rd ?_
  exact (State.rd_put_ne _ _ hg).trans ((State.rd_put_ne _ _ hh).trans ((State.rd_put_ne _ _ hl).trans (State.rd_put_ne _ _ hi)))

/-- What the Fatal state shows (R446). -/
structure FatalShown (id data : Nat) (t : State) : Prop where
  hold : t.faultHold = true
  id : t.val R.FLT_FATAL_ID = id
  data : t.val R.FLT_FATAL_DATA = data
  event : t.is R.FLT_EVT_FATAL = true

theorem State.calAbort_regs (s : State) (result : Nat) : FltKept s (s.calAbort result) := by
  have kept := (s.calAbort_kept result).1
  exact ⟨fun a ha _ => kept a fun e => absurd (e ▸ ha) (by decide), State.is_of_rd (kept _ (by decide))⟩

section
variable (s : State) (id t64 data : Nat)

theorem State.enterFatal_regs : FltRegs (fun a => a ∈ fatalRegs) s (s.enterFatal id t64 data) := by
  unfold State.enterFatal
  extract_lets s1 s2
  have h1 : FltRegs (fun a => a ∈ fatalRegs) s s1 := by
    have sys : FltRegs (fun a => a ∈ fatalRegs) s (s.set R.SYS_STAT_FAULT_HOLD 1) := fun a ha _ => s.rd_set_ne _ _ fun e => absurd (e ▸ ha) (by decide)
    have flt : FltRegs (fun a => a ∈ fatalRegs) (s.set R.SYS_STAT_FAULT_HOLD 1) ((s.set R.SYS_STAT_FAULT_HOLD 1).set R.FLT_STAT_FAULT_HOLD 1) :=
      fun a ha _ => State.rd_set_ne _ _ _ ha.2.2
    exact ((sys.trans flt).trans (.set _ R.FLT_EVT_FATAL 1 (by decide))).trans (.put _ _ (by decide))
  have h2 : FltRegs (fun a => a ∈ fatalRegs) s1 s2 :=
    (((FltRegs.put s1 _ (by decide)).trans (.put _ _ (by decide))).trans (.put _ _ (by decide))).trans
      ((State.calAbort_regs _ 5).regs.mono fun _ => False.elim)
  exact h1.trans h2

theorem State.enterFatal_shown (hid : id < 2 ^ 32) (hdata : data < 2 ^ 32) : FatalShown id data (s.enterFatal id t64 data) := by
  unfold State.enterFatal
  extract_lets s1 s2
  have aborted : FltKept _ s2 := State.calAbort_regs _ 5
  have later {a : Nat} (h : a ≠ R.FLT_FATAL_LO ∧ a ≠ R.FLT_FATAL_LO + 4 ∧ a ≠ R.FLT_FATAL_DATA) :
      ((s1.put64 R.FLT_FATAL_LO t64).put R.FLT_FATAL_DATA data).rd a = s1.rd a :=
    (State.rd_put_ne _ _ h.2.2).trans ((State.rd_put_ne _ _ h.2.1).trans (State.rd_put_ne _ _ h.1))
  refine ⟨?_, ?_, ?_, ?_⟩
  · refine aborted.hold.trans ((State.is_of_rd (later (by decide))).trans ?_)
    exact (State.is_of_rd (State.rd_put_ne _ _ (by decide))).trans ((State.is_set_apart _ _ (by decide)).trans (State.is_set_one _ (by decide)))
  · refine (aborted.regs.val (by decide) not_false).trans ((State.val_of_rd (later (by decide))).trans ?_)
    exact (State.val_put_self _ _).trans (Nat.mod_eq_of_lt hid)
  · exact (aborted.regs.val (by decide) not_false).trans ((State.val_put_self _ _).trans (Nat.mod_eq_of_lt hdata))
  · refine (aborted.regs.is (by decide) not_false).trans ((State.is_of_rd (later (by decide))).trans ?_)
    exact (State.is_of_rd (State.rd_put_ne _ _ (by decide))).trans (State.is_set_one _ (by decide))

theorem State.enterFatal_raised : (s.enterFatal id t64 data).is R.FLT_EVT_RAISED = s.is R.FLT_EVT_RAISED := by
  unfold State.enterFatal
  extract_lets s1 s2
  have aborted : FltKept _ s2 := State.calAbort_regs _ 5
  refine (aborted.regs.is (by decide) not_false).trans ?_
  refine (State.is_of_rd ((State.rd_put_ne _ _ (by decide)).trans ((State.rd_put_ne _ _ (by decide)).trans (State.rd_put_ne _ _ (by decide))))).trans ?_
  refine (State.is_of_rd (State.rd_put_ne _ _ (by decide))).trans ((State.is_set_apart _ _ (by decide)).trans ?_)
  exact (State.is_set_apart _ _ (by decide)).trans (State.is_set_apart _ _ (by decide))
end

/-! #### A raise in three parts -/

/-- The first part of a raise: its count and its pending bit. -/
def State.raiseMarked (s : State) (id raises : Nat) : State :=
  let s0 := if s.upd.watch then { s with upd := { s.upd with raised := id :: s.upd.raised.erase id } } else s
  let s1 := (s0.satCount (R.FLT_CNT id) 32 raises R.FLT_EVT_SATURATED).1
  s1.wr (R.FLT_PEND (id / 32)) (s1.rd (R.FLT_PEND (id / 32)) ||| BitVec.twoPow 32 (id % 32))

/-- The second part: FLT_LAST, and FLT_FIRST where it waits for a raise. -/
def State.raiseLatched (s : State) (id t64 : Nat) : State :=
  let s1 := s.faultLatch R.FLT_LAST_ID R.FLT_LAST_LO R.FLT_LAST_GEN id t64
  if s1.is R.FLT_FIRST_GEN_VALID then s1 else s1.faultLatch R.FLT_FIRST_ID R.FLT_FIRST_LO R.FLT_FIRST_GEN id t64

/-- The third part: event bit, mirror entry, the Fatal state, and the reactions. -/
def State.raiseTold (s : State) (id t64 era data raises : Nat) (forced : Bool) (taken : Nat) : State :=
  let s5 := (s.set R.FLT_EVT_RAISED 1).faultMirror id t64 era raises (faultData id data taken forced raises)
  let s6 := if Config.faultClass id = 3 then s5.enterFatal id t64 data else s5
  let s7 := if taken.testBit reactI then s6.msix 0 else s6
  let s8 := if taken.testBit reactN then { s7 with fault := { s7.fault with traps := s7.fault.traps + 1 } } else s7
  let s9 := if taken.testBit reactM then s8.moduleResetReaction id else s8
  if taken.testBit reactF then s9.dropFaultN else s9

theorem State.collect_eq (s : State) (id t64 era data raises : Nat) (forced : Bool) (taken : Nat) :
    s.collect id t64 era data raises forced taken
      = ((s.raiseMarked id raises).raiseLatched id t64).raiseTold id t64 era data raises forced taken := rfl

theorem fltCnt_inFlt {id : Nat} (h : id < 256) : InFlt (R.FLT_CNT id) ∧ 0xA0800 ≤ R.FLT_CNT id := by
  simp only [InFlt, R.FLT_CNT, R.FLT_STAT]
  omega

theorem fltPend_inFlt {id : Nat} (h : id < 256) : InFlt (R.FLT_PEND (id / 32)) ∧ 0xA0010 ≤ R.FLT_PEND (id / 32) ∧ R.FLT_PEND (id / 32) < 0xA0030 := by
  simp only [InFlt, R.FLT_PEND, R.FLT_STAT]
  omega

/-- What the first part of a raise shows. -/
structure Marked (id raises : Nat) (s t : State) : Prop where
  pend : t.faultPend id = true
  pendKept : ∀ j < 256, s.faultPend j = true → t.faultPend j = true
  count : t.val (R.FLT_CNT id) = min (s.val (R.FLT_CNT id) + raises) (2 ^ 32 - 1)
  regs : FltRegs (fun a => a = R.FLT_CNT id ∨ a = R.FLT_EVT ∨ a = R.FLT_PEND (id / 32)) s t
  hold : t.faultHold = s.faultHold
  fatal : t.is R.FLT_EVT_FATAL = s.is R.FLT_EVT_FATAL

theorem State.raiseMarked_marked (s : State) {id : Nat} (raises : Nat) (hid : id < 256) : Marked id raises s (s.raiseMarked id raises) := by
  unfold State.raiseMarked
  extract_lets was s0 s1
  obtain ⟨inCnt, lowCnt⟩ := fltCnt_inFlt hid
  obtain ⟨inPend, lowPend, highPend⟩ := fltPend_inFlt hid
  have same (a : Nat) : s0.rd a = s.rd a := State.rd_of_regs (by unfold s0; split <;> rfl) a
  have cntEvt : R.FLT_CNT id ≠ R.FLT_EVT := by simp only [R.FLT_EVT]; omega
  have cntPend : R.FLT_CNT id ≠ R.FLT_PEND (id / 32) := by omega
  have counted := s0.satCount_host (R.FLT_CNT id) 32 raises R.FLT_EVT_SATURATED
  have other {a : Nat} (cnt : a ≠ R.FLT_CNT id) (evt : a ≠ R.FLT_EVT) : s1.rd a = s.rd a :=
    (counted.rd fun e => e.elim cnt evt).trans (same a)
  have pendSame : s1.rd (R.FLT_PEND (id / 32)) = s.rd (R.FLT_PEND (id / 32)) := other (by omega) (by simp only [R.FLT_EVT]; omega)
  have bit : id % 32 < 32 := Nat.mod_lt _ (by decide)
  refine ⟨?_, fun j hj was => ?_, ?_, ?_, ?_, ?_⟩
  · simp [State.faultPend, bit]
  · obtain ⟨-, lowJ, highJ⟩ := fltPend_inFlt hj
    rw [State.faultPend] at was ⊢
    by_cases word : R.FLT_PEND (j / 32) = R.FLT_PEND (id / 32)
    · rw [word] at was ⊢
      simp [pendSame, was]
    · rw [State.rd_wr_ne _ _ word, other (by omega) (by simp only [R.FLT_EVT]; omega)]
      exact was
  · refine (State.val_of_rd (State.rd_wr_ne _ _ cntPend)).trans ((s0.satCount_val _ raises _ cntEvt).trans ?_)
    rw [State.val_of_rd (same _)]
  · intro a _ h
    obtain ⟨cnt, rest⟩ := not_or.mp h
    obtain ⟨evt, pend⟩ := not_or.mp rest
    exact (State.rd_wr_ne _ _ pend).trans (other cnt evt)
  · exact State.is_of_rd ((State.rd_wr_ne _ _ fun e => inPend.2.2 e.symm).trans (other (fun e => inCnt.2.2 e.symm) (by decide)))
  · refine (State.is_of_rd (State.rd_wr_ne _ _ ?_)).trans ?_
    · simp only [R.FLT_EVT_FATAL, R.FLT_EVT]; omega
    · refine (State.is_congr s0 (s0.satCount_get _ raises _ 32 _ (fun e => cntEvt e.symm) (by decide))).trans (State.is_of_rd (same _))

/-- What the second part of a raise shows. -/
structure Latched (id t64 : Nat) (s t : State) : Prop where
  lastId : t.val R.FLT_LAST_ID = id
  last : t.val64 R.FLT_LAST_LO = t64
  firstId : t.val R.FLT_FIRST_ID = if s.is R.FLT_FIRST_GEN_VALID then s.val R.FLT_FIRST_ID else id
  regs : FltRegs (fun a => 0xA0050 ≤ a ∧ a < 0xA0070) s t
  hold : t.faultHold = s.faultHold

theorem State.raiseLatched_latched (s : State) {id t64 : Nat} (hid : id < 2 ^ 32) (ht : t64 < 2 ^ 64) : Latched id t64 s (s.raiseLatched id t64) := by
  unfold State.raiseLatched
  extract_lets s1
  have lastRegs : FltRegs (fun a => 0xA0050 ≤ a ∧ a < 0xA0070) s s1 :=
    (s.faultLatch_regs _ _ _ id t64).mono fun a ha => by rcases ha with rfl | rfl | rfl | rfl <;> decide
  have lastId : s1.val R.FLT_LAST_ID = id := s.faultLatch_id (by decide) hid
  have last : s1.val64 R.FLT_LAST_LO = t64 := s.faultLatch_t64 (by decide) ht
  have hold : s1.faultHold = s.faultHold := s.faultLatch_hold _ _ _ id t64 (by decide)
  have notFirst {a : Nat} (h : a ≠ R.FLT_LAST_ID ∧ a ≠ R.FLT_LAST_LO ∧ a ≠ R.FLT_LAST_LO + 4 ∧ a ≠ R.FLT_LAST_GEN) (hin : InFlt a) : s1.rd a = s.rd a :=
    s.faultLatch_regs _ _ _ id t64 a hin (by tauto)
  have valid : s1.is R.FLT_FIRST_GEN_VALID = s.is R.FLT_FIRST_GEN_VALID := State.is_of_rd (notFirst (by decide) (by decide))
  by_cases was : s.is R.FLT_FIRST_GEN_VALID = true
  · rw [if_pos (valid.trans was)]
    refine ⟨lastId, last, ?_, lastRegs, hold⟩
    rw [if_pos was]
    exact State.val_of_rd (notFirst (by decide) (by decide))
  · have first := s1.faultLatch_regs R.FLT_FIRST_ID R.FLT_FIRST_LO R.FLT_FIRST_GEN id t64
    have firstId : (s1.faultLatch R.FLT_FIRST_ID R.FLT_FIRST_LO R.FLT_FIRST_GEN id t64).val R.FLT_FIRST_ID = id := s1.faultLatch_id (by decide) hid
    rw [if_neg (valid ▸ was)]
    refine ⟨(first.val (by decide) (by decide)).trans lastId, ?_, firstId.trans (if_neg was).symm, ?_, (s1.faultLatch_hold _ _ _ id t64 (by decide)).trans hold⟩
    · rw [State.val64, first.val (by decide) (by decide), first.val (by decide) (by decide)]
      exact last
    · exact lastRegs.trans (first.mono fun a ha => by rcases ha with rfl | rfl | rfl | rfl <;> decide)

/-- What the third part of a raise shows. -/
structure Told (id data : Nat) (s t : State) : Prop where
  event : t.is R.FLT_EVT_RAISED = true
  regs : FltRegs (fun a => a ∈ fatalRegs) s t
  calm : Config.faultClass id ≠ 3 → FltRegs (fun a => a = R.FLT_EVT) s t ∧ t.faultHold = s.faultHold ∧ t.is R.FLT_EVT_FATAL = s.is R.FLT_EVT_FATAL
  fatal : Config.faultClass id = 3 → FatalShown id data t

theorem FatalShown.kept {id data : Nat} {s t : State} (h : FatalShown id data s) (kept : FltKept s t) : FatalShown id data t :=
  ⟨kept.hold.trans h.hold, (kept.regs.val (by decide) not_false).trans h.id, (kept.regs.val (by decide) not_false).trans h.data,
    (kept.regs.is (by decide) not_false).trans h.event⟩

theorem State.raiseTold_told (s : State) {id data : Nat} (t64 era raises : Nat) (forced : Bool) (taken : Nat) (hid : id < 2 ^ 32) (hdata : data < 2 ^ 32) :
    Told id data s (s.raiseTold id t64 era data raises forced taken) := by
  unfold State.raiseTold
  extract_lets s5 s6 s7 was s8 s9
  have mirrored : FltKept (s.set R.FLT_EVT_RAISED 1) s5 := State.faultMirror_fltKept _ _ _ _ _ _
  have h7 : FltKept s6 s7 := .ite (s6.msix_fltKept 0) (.refl s6)
  have h8 : FltKept s7 s8 := .ite (.of_regs rfl) (.refl s7)
  have h9 : FltKept s8 s9 := .ite (s8.moduleResetReaction_fltKept id) (.refl s8)
  have ends : FltKept s6 (if taken.testBit reactF then s9.dropFaultN else s9) := ((h7.trans h8).trans h9).trans (.ite s9.dropFaultN_fltKept (.refl s9))
  have event5 : s5.is R.FLT_EVT_RAISED = true := (mirrored.regs.is (by decide) not_false).trans (s.is_set_one (by decide))
  have regs5 : FltRegs (fun a => a = R.FLT_EVT) s s5 := (FltRegs.set (w := fun a => a = R.FLT_EVT) s R.FLT_EVT_RAISED 1 rfl).trans (mirrored.regs.mono fun _ => False.elim)
  generalize (if taken.testBit reactF then s9.dropFaultN else s9) = t at ends
  have onward {w : Nat → Prop} (h : FltRegs w s s6) : FltRegs w s t := h.trans (ends.regs.mono fun _ => False.elim)
  by_cases fatal : Config.faultClass id = 3
  · have enters : s6 = s5.enterFatal id t64 data := if_pos fatal
    refine ⟨(ends.regs.is (by decide) not_false).trans ?_, onward ?_, fun calm => absurd fatal calm, fun _ => FatalShown.kept ?_ ends⟩
    · rw [enters, State.enterFatal_raised]
      exact event5
    · rw [enters]
      exact (regs5.mono fun a ha => ha ▸ by decide).trans (s5.enterFatal_regs id t64 data)
    · rw [enters]
      exact s5.enterFatal_shown id t64 data hid hdata
  · have stays : s6 = s5 := if_neg fatal
    rw [stays] at ends onward
    refine ⟨(ends.regs.is (by decide) not_false).trans event5, onward (regs5.mono fun a ha => ha ▸ by decide), fun _ => ⟨onward regs5, ?_, ?_⟩,
      fun h => absurd h fatal⟩
    · exact ends.hold.trans (mirrored.hold.trans (State.is_of_rd (s.rd_set_ne R.FLT_EVT_RAISED 1 (by decide))))
    · exact (ends.regs.is (by decide) not_false).trans ((mirrored.regs.is (by decide) not_false).trans (s.is_set_apart 1 (by decide)))

/-! #### The raise as a whole -/

/-- What the collector shows once a source has been raised (R438). -/
structure Collected (id t64 data raises : Nat) (s t : State) : Prop where
  pend : t.faultPend id = true
  pendKept : ∀ j < 256, s.faultPend j = true → t.faultPend j = true
  count : t.val (R.FLT_CNT id) = min (s.val (R.FLT_CNT id) + raises) (2 ^ 32 - 1)
  lastId : t.val R.FLT_LAST_ID = id
  last : t.val64 R.FLT_LAST_LO = t64
  firstId : t.val R.FLT_FIRST_ID = if s.is R.FLT_FIRST_GEN_VALID then s.val R.FLT_FIRST_ID else id
  event : t.is R.FLT_EVT_RAISED = true
  /-- UPD_CTRL, UPD_STAT and UPD_EVT stay. -/
  update : FltRegs (fun a => a < 0xB0000) s t
  /-- A source that is not Fatal leaves the Fatal state as it is. -/
  calm : Config.faultClass id ≠ 3 → t.faultHold = s.faultHold ∧ ∀ j d, FatalShown j d s → FatalShown j d t
  fatal : Config.faultClass id = 3 → FatalShown id data t

theorem FltRegs.faultPend {w : Nat → Prop} {s t : State} {j : Nat} (h : FltRegs w s t) (hj : j < 256) (hw : ¬ w (R.FLT_PEND (j / 32))) :
    t.faultPend j = s.faultPend j := by rw [State.faultPend, State.faultPend, h _ (fltPend_inFlt hj).1 hw]

theorem State.collect_collected (s : State) {id t64 data : Nat} (era raises : Nat) (forced : Bool) (taken : Nat) (hid : id < 256) (ht : t64 < 2 ^ 64)
    (hdata : data < 2 ^ 32) : Collected id t64 data raises s (s.collect id t64 era data raises forced taken) := by
  rw [State.collect_eq]
  have small : id < 2 ^ 32 := by omega
  have marked := s.raiseMarked_marked raises hid
  generalize s.raiseMarked id raises = s1 at marked
  have latched := s1.raiseLatched_latched small ht
  generalize s1.raiseLatched id t64 = s2 at latched
  have told := s2.raiseTold_told t64 era raises forced taken small hdata
  generalize s2.raiseTold id t64 era data raises forced taken = t at told
  obtain ⟨inCnt, lowCnt⟩ := fltCnt_inFlt hid
  have fatalLow : ∀ a ∈ fatalRegs, a = R.FLT_EVT ∨ 0xA0070 ≤ a ∧ a < 0xA0080 := by decide
  have evtLow : R.FLT_EVT = 0xA0008 := rfl
  have cntOut : ¬ R.FLT_CNT id ∈ fatalRegs := fun h => by have := fatalLow _ h; omega
  have pendOut {j : Nat} (hj : j < 256) : ¬ R.FLT_PEND (j / 32) ∈ fatalRegs := fun h => by
    have := fatalLow _ h
    have := fltPend_inFlt hj
    omega
  have pendLatched {j : Nat} (hj : j < 256) : t.faultPend j = s1.faultPend j :=
    (told.regs.faultPend hj (pendOut hj)).trans (latched.regs.faultPend hj (by have := fltPend_inFlt hj; omega))
  have markedOut {a : Nat} (h : 0xA0050 ≤ a ∧ a < 0xA0080) : ¬ (a = R.FLT_CNT id ∨ a = R.FLT_EVT ∨ a = R.FLT_PEND (id / 32)) := by
    have := fltPend_inFlt hid
    omega
  refine ⟨(pendLatched hid).trans marked.pend, fun j hj was => (pendLatched hj).trans (marked.pendKept j hj was), ?_, ?_, ?_, ?_, told.event, ?_,
    fun calm => ⟨?_, fun j d shown => ?_⟩, told.fatal⟩
  · exact (told.regs.val inCnt cntOut).trans ((latched.regs.val inCnt (by omega)).trans marked.count)
  · exact (told.regs.val (by decide) (by decide)).trans latched.lastId
  · rw [State.val64, told.regs.val (by decide) (by decide), told.regs.val (by decide) (by decide)]
    exact latched.last
  · rw [told.regs.val (by decide) (by decide), latched.firstId, marked.regs.is (by decide) (markedOut (by decide)),
      marked.regs.val (by decide) (markedOut (by decide))]
  · refine ((marked.regs.mono ?_).trans (latched.regs.mono fun a h => ?_)).trans (told.regs.mono fun a h => ?_)
    · have := fltPend_inFlt hid
      have cnt : R.FLT_CNT id < 0xB0000 := by simp only [R.FLT_CNT]; omega
      rintro a (rfl | rfl | rfl) <;> omega
    · omega
    · have := fatalLow a h
      omega
  · exact (told.calm calm).2.1.trans (latched.hold.trans marked.hold)
  · obtain ⟨only, hold, event⟩ := told.calm calm
    have regs {a : Nat} (hin : InFlt a) (h : 0xA0070 ≤ a ∧ a < 0xA0080) : t.rd a = s.rd a :=
      (only a hin (by omega)).trans ((latched.regs a hin (by omega)).trans (marked.regs a hin (markedOut (by omega))))
    have fatalEvent : s2.is R.FLT_EVT_FATAL = s1.is R.FLT_EVT_FATAL := latched.regs.is (by decide) (by decide)
    exact ⟨(hold.trans (latched.hold.trans marked.hold)).trans shown.hold, (State.val_of_rd (regs (by decide) (by decide))).trans shown.id,
      (State.val_of_rd (regs (by decide) (by decide))).trans shown.data, (event.trans (fatalEvent.trans marked.fatal)).trans shown.event⟩

/-! ### A host source is raised -/

theorem Collected.kept {id t64 data raises : Nat} {s t v : State} (h : Collected id t64 data raises s t) (hid : id < 256) (kept : FltKept t v) :
    Collected id t64 data raises s v := by
  have pend {j : Nat} (hj : j < 256) : v.faultPend j = t.faultPend j := kept.regs.faultPend hj not_false
  refine ⟨(pend hid).trans h.pend, fun j hj was => (pend hj).trans (h.pendKept j hj was), ?_, ?_, ?_, ?_, ?_, ?_, fun calm => ?_,
    fun fatal => (h.fatal fatal).kept kept⟩
  · exact (kept.regs.val (fltCnt_inFlt hid).1 not_false).trans h.count
  · exact (kept.regs.val (by decide) not_false).trans h.lastId
  · rw [State.val64, kept.regs.val (by decide) not_false, kept.regs.val (by decide) not_false]
    exact h.last
  · exact (kept.regs.val (by decide) not_false).trans h.firstId
  · exact (kept.regs.is (by decide) not_false).trans h.event
  · exact h.update.trans (kept.regs.mono fun _ => False.elim)
  · obtain ⟨hold, shown⟩ := h.calm calm
    exact ⟨kept.hold.trans hold, fun j d was => (shown j d was).kept kept⟩

/-- The block of a host source is the management core or the host link, where it has one (R436). -/
theorem faultBlock_host {id : Nat} (host : Config.faultIsField id = false) :
    Config.faultBlock id = none ∨ Config.faultBlock id = some .managementCore ∨ Config.faultBlock id = some .hostLink := by
  have low : id < 0x40 := by simpa [Config.faultIsField] using host
  unfold Config.faultBlock
  split
  · exact .inr (.inl rfl)
  · split
    · exact .inr (.inr rfl)
    · rw [if_neg (by omega), if_neg (by omega), if_neg (by omega), if_neg (by omega)]
      exact .inl rfl

theorem State.takeBlockReset_fltKept (s : State) {id : Nat} (taken : Nat) (host : Config.faultIsField id = false) : FltKept s (s.takeBlockReset id taken) := by
  refine .ite ?_ (.refl s)
  rcases faultBlock_host host with block | block | block <;> rw [block]
  · exact .refl s
  · exact .ite (.refl s) (.of_regs rfl)
  · refine .ite (.refl s) ?_
    exact FltKept.trans (t := { s with fault := { s.fault with resetting := (resetCode .hostLink, s.time.hTick + 2) :: s.fault.resetting } }) (.of_regs rfl)
      (State.hdmaReset_fltKept _ true)

theorem T64.pack_lt (t : T64) : t.pack < 2 ^ 64 := by
  have tick : t.tick % ticksPerEra < 2 ^ 44 := Nat.mod_lt _ (by decide)
  rw [T64.pack]
  omega

theorem State.hostFault_collected (s : State) {id data : Nat} (forced : Bool) (hid : id < 256) (host : Config.faultIsField id = false)
    (hdata : data < 2 ^ 32) : Collected id s.hNow.pack data 1 s (s.hostFault id data forced) := by
  unfold State.hostFault
  extract_lets taken t64 s1 s2 s3 s4
  have h1 : Collected id t64 data 1 s s1 := s.collect_collected _ 1 forced taken hid (T64.pack_lt _) hdata
  have h2 : FltKept s1 s2 := s1.hostEvent_fltKept _ _ _ _ _
  have h3 : FltKept s2 s3 := s2.takeBlockReset_fltKept taken host
  have h4 : FltKept s3 s4 := .ite s3.dropFieldFaultN_fltKept (.refl s3)
  exact h1.kept hid (((h2.trans h3).trans h4).trans (.ite (s4.sendHF_fltKept _ _ _ _ _) (.refl s4)))

end Sys2Proof.Machine
end

section
/-! PROOFS. Raises, forcing, pending bits and pins of the fault collector (R435–R452): O43. -/

namespace Sys2Proof.Machine

/-! ### What a raise makes an update do (R464) -/

theorem FatalShown.of_update {w : Nat → Prop} {id data : Nat} {s t : State} (h : FatalShown id data s) (regs : FltRegs w s t)
    (update : ∀ a, w a → 0xB0000 ≤ a) (hold : t.faultHold = s.faultHold) : FatalShown id data t := by
  have out {a : Nat} (ha : a < 0xB0000) : ¬ w a := fun x => by have := update a x; omega
  exact ⟨hold.trans h.hold, (regs.val (by decide) (out (by decide))).trans h.id, (regs.val (by decide) (out (by decide))).trans h.data,
    (regs.is (by decide) (out (by decide))).trans h.event⟩

/-- Pending bits stay set, and the Fatal state stays as it is shown. -/
structure FaultsStand (s t : State) : Prop where
  pend : ∀ j < 256, s.faultPend j = true → t.faultPend j = true
  shown : ∀ j d, FatalShown j d s → FatalShown j d t

theorem FaultsStand.refl (s : State) : FaultsStand s s := ⟨fun _ _ h => h, fun _ _ h => h⟩
theorem FaultsStand.trans {s t v : State} (h : FaultsStand s t) (h' : FaultsStand t v) : FaultsStand s v :=
  ⟨fun j hj x => h'.pend j hj (h.pend j hj x), fun j d x => h'.shown j d (h.shown j d x)⟩

theorem FaultsStand.of_update {w : Nat → Prop} {s t : State} (regs : FltRegs w s t) (update : ∀ a, w a → 0xB0000 ≤ a) (hold : t.faultHold = s.faultHold) :
    FaultsStand s t := by
  refine ⟨fun j hj pend => (regs.faultPend hj fun x => ?_).trans pend, fun j d shown => shown.of_update regs update hold⟩
  have := update _ x
  have := fltPend_inFlt hj
  omega

/-- The record of a revert: the collector's registers change by the raise of source 0x1A alone, which is not Fatal. -/
theorem State.revertRecord_stands (s : State) : FaultsStand s s.revertRecord := by
  unfold State.revertRecord
  extract_lets s1
  have bank : FltKept s (s.bankState s.spareBank 1) := by
    refine .of_regs ?_
    unfold State.bankState State.setFwBank
    split <;> rfl
  have told : FltRegs (fun a => a = R.UPD_STAT ∨ a = R.UPD_EVT) s (s1.updEvt R.UPD_EVT_REVERTED 6) :=
    (((bank.regs.mono fun _ => False.elim).trans (.set _ R.UPD_STAT_ARESULT 4 (.inl rfl))).trans (.set s1 R.UPD_EVT_REVERTED 1 (.inr rfl))).trans
      ((State.hostEvent_fltKept _ _ _ _ _ _).regs.mono fun _ => False.elim)
  have hold : (s1.updEvt R.UPD_EVT_REVERTED 6).faultHold = s.faultHold := by
    refine (State.hostEvent_fltKept _ _ _ _ _ _).hold.trans ((State.is_of_rd (State.rd_set_ne _ _ _ (by decide))).trans ?_)
    exact (State.is_of_rd (State.rd_set_ne _ _ _ (by decide))).trans bank.hold
  have raised := (s1.updEvt R.UPD_EVT_REVERTED 6).hostFault_collected (id := 0x1A) (data := 0) false (by decide) (by decide) (by decide)
  exact (FaultsStand.of_update told (by rintro a (rfl | rfl) <;> decide) hold).trans ⟨raised.pendKept, (raised.calm (by decide)).2⟩

/-- What a revert starts once it is recorded. -/
def State.revertBegun (s : State) : State :=
  { s with upd := { s.upd with reverting := true, hostDone := false, fieldDone := !s.upd.fieldDone, watch := false, failed := false,
                               lowTo := s.upd.act.map (fun (p : Nat × Nat × Nat) => p.2.2), act := none } }.mgmtReset

theorem State.revert_eq (s : State) : s.revert = s.revertRecord.revertBegun := rfl

theorem State.revertBegun_regs (s : State) : s.revertBegun.regs = s.regs := rfl

theorem State.fatalRevert_stands (s : State) : FaultsStand s s.fatalRevert := by
  unfold State.fatalRevert
  split
  · have rest : FltKept s.revertRecord s.revert := s.revert_eq ▸ .of_regs (State.revertBegun_regs _)
    exact s.revertRecord_stands.trans (.of_update rest.regs (fun _ => False.elim) rest.hold)
  · exact .refl s

/-- What a source of the host half stops beside the Fatal state's measures leaves the collector as it is, but for a revert. -/
theorem State.hostStops_stands (s : State) (id : Nat) : FaultsStand s (s.hostStops id) := by
  have core : FltKept s (if id = 0x07 ∨ id = 0x19 then s.mgmtReset else s) := .ite (.of_regs rfl) (.refl s)
  exact (FaultsStand.of_update core.regs (fun _ => False.elim) core.hold).trans (State.fatalRevert_stands _)

/-- No update reverts outside the Fatal state, or outside CHECKING. -/
theorem State.hostStops_quiet {s : State} (id : Nat) (quiet : s.faultHold = false ∨ s.updState ≠ updChecking) : FltKept s (s.hostStops id) := by
  rw [State.hostStops]
  set v := if id = 0x07 ∨ id = 0x19 then s.mgmtReset else s with hv
  have same : v.regs = s.regs := by
    rw [hv]
    split <;> rfl
  have still : v.fatalRevert = v := by
    refine if_neg ?_
    have hold : v.faultHold = s.faultHold := State.is_of_rd (State.rd_of_regs same _)
    have state : v.updState = s.updState := State.get_of_rd (State.rd_of_regs same _)
    rw [hold, state]
    rcases quiet with h | h <;> simp [h]
  rw [still]
  exact .of_regs same

/-! ### A raise at the host -/

/-- A source that is not Fatal is collected, and nothing reverts. -/
theorem State.raise_collected {s : State} {id data : Nat} (forced : Bool) (hid : id < 256) (host : Config.faultIsField id = false) (hdata : data < 2 ^ 32)
    (calm : Config.faultClass id ≠ 3) (quiet : s.faultHold = false ∨ s.updState ≠ updChecking) :
    Collected id s.hNow.pack data 1 s ((s.hostFault id data forced).hostStops id) := by
  have collected := s.hostFault_collected forced hid host hdata
  refine collected.kept hid (State.hostStops_quiet id ?_)
  have state : (s.hostFault id data forced).updState = s.updState := State.get_of_rd (collected.update R.UPD_STAT (by decide) (by decide))
  rw [(collected.calm calm).1, state]
  exact quiet

/-- A Fatal source is pending and shown, whatever else it starts. -/
theorem State.raise_fatal {s : State} {id data : Nat} (hid : id < 256) (host : Config.faultIsField id = false) (hdata : data < 2 ^ 32)
    (fatal : Config.faultClass id = 3) :
    ((s.hostFault id data).hostStops id).faultPend id = true ∧ FatalShown id data ((s.hostFault id data).hostStops id) := by
  have collected := s.hostFault_collected false hid host hdata
  have stands := (s.hostFault id data).hostStops_stands id
  exact ⟨stands.pend id hid collected.pend, stands.shown id data (collected.fatal fatal)⟩

theorem State.doFaultRaise_eq {s : State} {id : Nat} (data : Nat) (power : s.start.power = true) (listed : Config.faultClass id ≠ 0)
    (host : Config.faultIsField id = false) : s.doFaultRaise id data = (s.hostFault id data).hostStops id :=
  if_pos (by simp [power, listed, host])

/-! ### A raise in the field half (R438) -/

/-- The raises of the tick stay as they are noted. -/
def RaisesKept (s t : State) : Prop := t.fault.field = s.fault.field

theorem State.podPowerReset_raises (s : State) : RaisesKept s s.podPowerReset := by
  unfold State.podPowerReset
  generalize List.range 16 = l
  induction l generalizing s with
  | nil => rfl
  | cons q l ih =>
    rw [List.foldl_cons]
    refine (ih _).trans ?_
    split <;> rfl

theorem State.seqBlockReset_raises (s : State) : RaisesKept s s.seqBlockReset := by
  unfold State.seqBlockReset State.seqEnterHalt
  extract_lets s1 s2 s3
  have told : (s3.fieldEvent 0x11 0x0001 0 s3.fNow.pack (leBytes 4 0x11 ++ leBytes 5 (s3.val64 R.SEQ_VADDR_LO))).fault = s3.fault := by
    obtain ⟨_, _, e, -⟩ := s3.fieldEvent_field 0x11 0x0001 0 s3.fNow.pack (leBytes 4 0x11 ++ leBytes 5 (s3.val64 R.SEQ_VADDR_LO))
    rw [e]
  exact congrArg FaultSt.field told

theorem State.hdmaReset_fault (s : State) (keepSat : Bool) : (s.hdmaReset keepSat).fault = s.fault := by
  obtain ⟨_, _, _, _, counted, -⟩ :=
    s.satCount_host R.HDMA_CPL_DROP 32 ((s.hdma.chans.toList.map (fun c => c.fly.length)).foldl (· + ·) 0) R.HDMA_EVT_SATURATED
  exact (congrArg State.fault counted :)

theorem State.blockReset_raises (s : State) (b : Config.FaultBlock) : RaisesKept s (s.blockReset b) := by
  unfold State.blockReset
  split
  · rfl
  · extract_lets was s0
    cases b with
    | sequencer =>
      dsimp only
      split
      · rfl
      · exact s0.seqBlockReset_raises
    | fieldProcessor => rfl
    | managementCore => rfl
    | hostLink =>
      have kept : (s0.hdmaReset true).fault.field = s0.fault.field := congrArg FaultSt.field (s0.hdmaReset_fault true)
      exact kept
    | podPower => exact s0.podPowerReset_raises
    | slot q => rfl

theorem State.takeBlockReset_raises (s : State) (id taken : Nat) : RaisesKept s (s.takeBlockReset id taken) := by
  unfold State.takeBlockReset
  split
  · split
    · exact s.blockReset_raises _
    · rfl
  · rfl

theorem State.dropFieldFaultN_raises (s : State) : RaisesKept s s.dropFieldFaultN := by
  unfold State.dropFieldFaultN
  split <;> rfl

/-- The source, instant, data and count of the raises that wait for their event. -/
def State.raisesNoted (s : State) : List (Nat × Nat × Nat × Nat) := s.fault.field.map (fun x => (x.id, x.t64, x.data, x.raises))

/-- The first raise in a tick joins those that wait. -/
theorem State.fieldFault_first {s : State} {id : Nat} (data : Nat) (calm : Config.faultClass id ≠ 3) (none : s.fault.field = []) :
    (s.fieldFault id data).raisesNoted = [(id, s.fNow.pack, data, 1)] := by
  have new : s.fault.field.find? (fun r => r.id == id) = Option.none := by rw [none]; rfl
  unfold State.fieldFault
  split
  · next r found => cases new.symm.trans found
  · extract_lets taken r was s1 s2 s3
    have kept : RaisesKept s1 s3 := by
      unfold s3
      split
      · exact (State.dropFieldFaultN_raises _).trans (s1.takeBlockReset_raises id taken)
      · exact s1.takeBlockReset_raises id taken
    have noted : s3.fault.field = [r] := kept.trans (congrArg (· ++ [r]) none)
    rw [if_neg calm, State.raisesNoted, noted]
    rfl

/-- A further raise in the tick counts in the event that waits. -/
theorem State.fieldFault_again {s : State} {x : FRaise} (data : Nat) (waits : s.fault.field = [x]) :
    (s.fieldFault x.id data).raisesNoted = [(x.id, x.t64, x.data, x.raises + 1)] := by
  have old : s.fault.field.find? (fun r => r.id == x.id) = some x := by simp [waits]
  unfold State.fieldFault
  split
  · next r found =>
    obtain rfl : x = r := Option.some.inj (old.symm.trans found)
    extract_lets b raised was s1
    have noted : (s1.takeBlockReset x.id b).fault.field = [{ x with raises := x.raises + 1, react := x.react ||| b }] := by
      refine (s1.takeBlockReset_raises x.id b).trans (?_ : raised = _)
      simp [raised, waits]
    rw [State.raisesNoted, noted]
    rfl
  · next missing => cases missing.symm.trans old

theorem State.doFieldRaise_eq {s : State} {id : Nat} (data : Nat) (on : s.domOn (domF 1) = true) (listed : Config.faultClass id ≠ 0)
    (field : Config.faultIsField id = true) : s.doFieldRaise id data = s.fieldFault id data :=
  if_pos (by simp [on, listed, field])

/-! ### Forcing (R445) -/

/-- The sources that a forcing word with one bit names. -/
theorem filter_twoPow {n i : Nat} (h : i < n) (small : i < 32) : (List.range n).filter (fun j => (BitVec.twoPow 32 i).getLsbD j) = [i] := by
  have bit (j : Nat) : (BitVec.twoPow 32 i).getLsbD j = (j == i) := by
    rw [BitVec.getLsbD_twoPow, Bool.eq_iff_iff]
    simp only [Bool.and_eq_true, decide_eq_true_eq, beq_iff_eq]
    omega
  simp only [bit]
  rw [List.filter_beq, List.count_range, if_pos h]
  rfl

theorem State.doForce_one (s : State) (k : Nat) (service : Bool) {i : Nat} (hi : i < 32) :
    s.doForce k (BitVec.twoPow 32 i) service = (s.set R.SEC_STAT_SERVICE_EN (if service then 1 else 0)).forceOne service (32 * k + i) := by
  rw [State.doForce, filter_twoPow hi hi]
  rfl

theorem State.forceOne_refused {s : State} {service : Bool} {id : Nat} (fatal : Config.faultClass id = 3) (barred : 2 ≤ s.mode ∨ service = false) :
    s.forceOne service id = s.set R.FLT_EVT_FORCE_REFUSED 1 := by
  have shut : (!(decide (s.mode < 2) && service)) = true := by
    rcases barred with h | h
    · simp [Nat.not_lt.mpr h]
    · simp [h]
  rw [State.forceOne, if_neg (by omega), if_pos ⟨fatal, shut⟩]

theorem State.forceOne_host (s : State) {service : Bool} {id : Nat} (listed : Config.faultClass id ≠ 0) (calm : Config.faultClass id ≠ 3)
    (host : Config.faultIsField id = false) : s.forceOne service id = (s.hostFault id 0 true).hostStops id := by
  rw [State.forceOne, if_neg listed, if_neg (fun h => calm h.1), host, Bool.false_and, if_neg Bool.false_ne_true]

/-! ### Pending bits, pins and block resets -/

theorem State.doBlockResetEnd_resumes {s : State} {blk : Nat} (any : s.fault.resetting.any (fun p => p.1 == blk) = true) :
    (s.doBlockResetEnd blk).fault.resetting = s.fault.resetting.filter (fun p => p.1 != blk) ∧ (s.doBlockResetEnd blk).regs = s.regs := by
  rw [State.doBlockResetEnd, if_pos any]
  split
  · dsimp only
    split <;> exact ⟨rfl, rfl⟩
  · split <;> exact ⟨rfl, rfl⟩

theorem State.doPinRelease_host {s : State} {a : Nat} (low : s.fault.faultN = some a) (ended : s.pinCondition reactF = false) (due : a + 1000 ≤ s.time.hTick) :
    s.doPinRelease false = ({ s with fault := { s.fault with faultN := none } }).set R.FLT_STAT_FAULT_N 0 := by
  rw [State.doPinRelease, if_neg Bool.false_ne_true, low]
  exact if_pos (by simp [ended, due])

theorem State.doPinRelease_field {s : State} {a : Nat} (low : s.fault.fieldFaultN = some a) (up : s.linkUp = true) (ended : s.pinCondition reactX = false)
    (due : a + 1000 ≤ s.time.fTick) :
    s.doPinRelease true = ({ s with fault := { s.fault with fieldFaultN := none } }).set R.FLT_STAT_FIELD_FAULT_N 0 := by
  rw [State.doPinRelease, if_pos rfl, low]
  exact if_pos (by simp [up, ended, due])

/-- A fault pin that rises shows in its bit of FLT_STAT, and in no other register. -/
theorem answers_of_pinRise {c : Instr} {s v : State} {lo : Nat} {P : State → Prop} (arm : exec c s = done s (v.set ⟨R.FLT_STAT, lo, 1⟩ 0))
    (storeless : mayStore c = false) (same : v.regs = s.regs) (bit : lo + 1 ≤ 32)
    (noted : ∀ t, t.fault = v.fault → P t) :
    Answers c s (fun t => P t ∧ t.is ⟨R.FLT_STAT, lo, 1⟩ = false ∧ t.mem = s.mem ∧ RegsKept s t (fun a => a = R.FLT_STAT)) := by
  refine answers_of_arm arm storeless fun t e mem => ⟨noted _ ?_, ?_, mem, fun a ha => ?_⟩
  · rw [← e]
    rfl
  · exact e ▸ State.is_set_zero v bit
  · exact (e ▸ State.rd_set_ne v ⟨R.FLT_STAT, lo, 1⟩ 0 ha : t.rd a = v.rd a).trans (State.rd_of_regs same a)

/-! ### The statement -/

/-- Settles O43: a raise at the host is collected (`Collected`), and what it starts beside that leaves the collector's registers. -/
theorem faultCollector : Obligations.FaultCollector := by
  refine ⟨fun s u id data power listed host calm quiet => ?raised, fun s u id data power listed host fatal => ?fatal,
    fun s u id data on listed field calm none => ?first, fun s u id data x on listed field calm waits same => ?again, fun s u blk any => ?resumes,
    fun s u k v on => ?clear, fun s u a low ended due => ?hostPin, fun s u a low up ended due => ?fieldPin,
    fun s u k v service i on one fatal barred => ?refused, fun s u k v service i on one calm listed host quiet => ?forced, fun s u on => ?stats,
    fun s u on => ?clrFirst⟩
  case raised =>
    have collected := State.raise_collected (s := s.atH u) (data := data.toNat) false (by omega) host data.isLt calm quiet
    rw [← State.doFaultRaise_eq (s := s.atH u) _ power listed host] at collected
    refine answers_of_arm rfl rfl fun t e _ => ?_
    obtain ⟨pend, -, count, lastId, last, firstId, event, -⟩ := e ▸ collected
    exact ⟨pend, count, lastId, last, event, firstId⟩
  case fatal =>
    have raised := State.raise_fatal (s := s.atH u) (data := data.toNat) (by omega) host data.isLt fatal
    rw [← State.doFaultRaise_eq (s := s.atH u) _ power listed host] at raised
    refine answers_of_arm rfl rfl fun t e _ => ?_
    obtain ⟨pend, hold, shownId, shownData, event⟩ := e ▸ raised
    exact ⟨pend, hold, shownId, shownData, event⟩
  case first =>
    have noted := State.fieldFault_first (s := s.atF u) data.toNat calm none
    rw [← State.doFieldRaise_eq (s := s.atF u) _ on listed field] at noted
    exact answers_of_arm rfl rfl fun t e _ => e ▸ noted
  case again =>
    have noted := State.fieldFault_again (s := s.atF u) data.toNat waits
    rw [same, ← State.doFieldRaise_eq (s := s.atF u) _ on listed field, ← same] at noted
    exact answers_of_arm (congrArg (fun n => done s ((s.atF u).doFieldRaise n data.toNat)) same.symm) rfl fun t e _ => e ▸ noted
  case resumes =>
    obtain ⟨resetting, regs⟩ := State.doBlockResetEnd_resumes (s := (s.atH u).atF u) any
    exact answers_of_arm rfl rfl fun t e mem => ⟨e ▸ resetting, e ▸ regs, mem⟩
  case clear =>
    have regs := OnRegs.wr (w := fun a => a = R.FLT_PEND k) (s.atH u) (s.rd (R.FLT_PEND k) &&& ~~~(v &&& ~~~(fatalBits k))) rfl
    exact answers_of_arm (congrArg (done s) (State.ifOn_of_powered (s := s.atH u) _ on)) rfl fun t e mem =>
      ⟨e ▸ State.rd_wr_self _ _ _, mem, e ▸ regs.kept⟩
  case hostPin =>
    exact answers_of_pinRise (congrArg (done s) (State.doPinRelease_host (s := (s.atH u).atF u) low ended due)) rfl rfl (by decide)
      fun t e => congrArg FaultSt.faultN e
  case fieldPin =>
    exact answers_of_pinRise (congrArg (done s) (State.doPinRelease_field (s := (s.atH u).atF u) low up ended due)) rfl rfl (by decide)
      fun t e => congrArg FaultSt.fieldFaultN e
  case refused =>
    subst one
    set v := ((s.atH u).atF u).set R.SEC_STAT_SERVICE_EN (if service then 1 else 0) with hv
    have mode : v.mode = s.mode := State.get_of_rd (State.rd_set_ne _ R.SEC_STAT_SERVICE_EN _ (by decide))
    have refuses := (State.ifOn_of_powered (s := (s.atH u).atF u) (fun t => t.doForce k (BitVec.twoPow 32 i) service) on).trans
      ((State.doForce_one _ k service i.isLt).trans (State.forceOne_refused (s := v) fatal (mode ▸ barred)))
    refine answers_of_arm (congrArg (done s) refuses) rfl fun t e mem => ⟨e ▸ State.is_set_one _ (by decide), ?_, mem, ?_⟩
    · refine (e ▸ v.is_set_apart 1 (by decide) : t.is R.SEC_STAT_SERVICE_EN = v.is R.SEC_STAT_SERVICE_EN).trans ?_
      rw [hv]
      cases service
      · exact State.is_set_zero _ (by decide)
      · exact State.is_set_one _ (by decide)
    · exact e ▸ ((OnRegs.set (w := fun a => a = R.FLT_EVT ∨ a = R.SEC_STAT) ((s.atH u).atF u) R.SEC_STAT_SERVICE_EN _ (.inr rfl)).trans
        (.set v R.FLT_EVT_FORCE_REFUSED 1 (.inl rfl))).kept
  case forced =>
    subst one
    set v := ((s.atH u).atF u).set R.SEC_STAT_SERVICE_EN (if service then 1 else 0) with hv
    have other {a : Nat} (h : a ≠ R.SEC_STAT) : v.rd a = s.rd a := State.rd_set_ne _ R.SEC_STAT_SERVICE_EN _ h
    have forces := (State.ifOn_of_powered (s := (s.atH u).atF u) (fun t => t.doForce k (BitVec.twoPow 32 i) service) on).trans
      ((State.doForce_one _ k service i.isLt).trans (v.forceOne_host listed calm host))
    have small : 32 * k.val + i.val < 256 := by omega
    have hold : v.faultHold = s.faultHold := State.is_of_rd (other (by decide))
    have state : v.updState = s.updState := State.get_of_rd (other (by decide))
    have collected := State.raise_collected (s := v) (data := 0) true small host (by decide) calm (by rw [hold, state]; exact quiet)
    refine answers_of_arm (congrArg (done s) forces) rfl fun t e mem => ?_
    obtain ⟨pend, -, count, lastId, -⟩ := e ▸ collected
    refine ⟨pend, count.trans ?_, lastId⟩
    have low := (fltCnt_inFlt small).2
    rw [State.val_of_rd (other fun e => absurd (e ▸ low) (by decide))]
  case stats =>
    have zero (i : Fin 144) : ((s.atH u).putAll ((List.range 144).map R.FLT_CNT) 0).val (R.FLT_CNT i) = 0 :=
      State.putAll_zero_val (.inl (List.mem_map_of_mem (List.mem_range.mpr i.isLt)))
    exact answers_of_arm (congrArg (done s) (State.ifOn_of_powered (s := s.atH u) _ on)) rfl fun t e mem i =>
      ⟨(congrArg (fun x : State => x.val (R.FLT_CNT i)) e.symm).trans (zero i), mem⟩
  case clrFirst =>
    exact answers_of_arm (congrArg (done s) (State.ifOn_of_powered (s := s.atH u) _ on)) rfl fun t e mem =>
      ⟨e ▸ State.is_set_zero _ (by decide), mem, e ▸ (OnRegs.set (w := fun a => a = R.FLT_FIRST_GEN) (s.atH u) R.FLT_FIRST_GEN_VALID 0 rfl).kept⟩

end Sys2Proof.Machine
end

section
/-! PROOFS. What the reports of the host half leave alone: the channels of host DMA and the state of the update (R354, R438). -/

namespace Sys2Proof.Machine

/-- The channels stay as they are, and of an update's state only the raises that it watches may change. -/
structure Aside (s t : State) : Prop where
  chans : t.hdma.chans = s.hdma.chans
  upd : ∃ r, t.upd = { s.upd with raised := r }

namespace Aside
variable {s t v : State}

theorem refl (s : State) : Aside s s := ⟨rfl, _, rfl⟩
theorem of_eq (h : t.hdma.chans = s.hdma.chans) (h' : t.upd = s.upd) : Aside s t := ⟨h, _, h'⟩
theorem trans (h : Aside s t) (h' : Aside t v) : Aside s v := by
  obtain ⟨r, hr⟩ := h.upd
  obtain ⟨r', hr'⟩ := h'.upd
  exact ⟨h'.chans.trans h.chans, r', by rw [hr', hr]⟩
theorem ite {c : Prop} [Decidable c] (h : Aside s t) (h' : Aside s v) : Aside s (if c then t else v) := by
  split
  · exact h
  · exact h'
theorem of_field {w : Nat → Prop} (h : OnField w s t) : Aside s t := by
  obtain ⟨r, k, rfl, -⟩ := h
  exact .of_eq rfl rfl
end Aside

section
variable (s : State)

theorem State.set_aside (f : Fld) (x : Nat) : Aside s (s.set f x) := .of_eq rfl rfl
theorem State.put64_aside (a x : Nat) : Aside s (s.put64 a x) := .of_eq rfl rfl
theorem State.ledger_aside (l : LedgerSt) : Aside s { s with ledger := l } := .of_eq rfl rfl

theorem State.satCount_aside (a n : Nat) (e : Fld) : Aside s (s.satCount a 32 n e).1 := .of_field (s.satCount_field a 32 n e)

theorem State.msix_aside (v : Nat) : Aside s (s.msix v) := .ite (.of_eq rfl rfl) (.of_eq rfl rfl)

theorem State.hdmaEvt_aside (f : Fld) : Aside s (s.hdmaEvt f) := Aside.trans (t := s.set f 1) (.of_eq rfl rfl) (State.msix_aside _ 18)

theorem State.eqVector_aside (blk : Nat) : Aside s (s.eqVector blk) := by
  unfold State.eqVector
  extract_lets v cnt cur n rest was
  exact .ite (Aside.trans (t := { s with hdma := { was with eqMod := rest } }) (.of_eq rfl rfl) (State.msix_aside _ v)) (.of_eq rfl rfl)

theorem State.toEventQueue_aside (blk : Nat) (rcd : List Byte) : Aside s (s.toEventQueue blk rcd) := by
  unfold State.toEventQueue
  extract_lets size tail s1 was phase entry addr was' s1' s2 s3
  refine .ite (.ite ?_ ?_) (.refl s)
  · have counted : Aside s s1 := s.satCount_aside _ _ _
    refine .ite counted (counted.trans ?_)
    exact Aside.trans (t := { s1 with hdma := { s1.hdma with eqLost := true } }) (.of_eq rfl rfl) (State.hdmaEvt_aside _ _)
  · have entered : Aside s s2 := .of_eq rfl rfl
    have turned : Aside s2 s3 := .ite (.of_eq rfl rfl) (.refl s2)
    exact (entered.trans turned).trans (s3.eqVector_aside blk)

theorem State.toClearing_aside (era t64 cls inst src : Nat) (bytes : List Byte) : Aside s (s.toClearing era t64 cls inst src bytes) := by
  unfold State.toClearing
  extract_lets it tick rel here was s1 late was' s2 s3 s4
  refine .ite ?_ (.of_eq rfl rfl)
  have held : Aside s s2 := .of_eq rfl rfl
  exact ((held.trans (s2.satCount_aside _ _ _)).trans (s3.satCount_aside _ _ _)).trans (.of_eq rfl rfl)

theorem State.hostEvent_aside (blk code inst t64 : Nat) (data : List Byte) : Aside s (s.hostEvent blk code inst t64 data) :=
  (s.toClearing_aside _ _ _ _ _ _).trans (State.toEventQueue_aside _ _ _)

theorem State.ledgerWrite_aside (e : LEntry) : Aside s (s.ledgerWrite e) := by
  unfold State.ledgerWrite
  extract_lets i e h base isOver unspilled was s1 s2 s4 old was' s5 t1 t2 t3 was'' s6 s7
  have written : Aside s s4 := ((s.ledger_aside _).trans (s1.put64_aside _ _)).trans (s2.put64_aside _ _)
  have moved : Aside s4 s5 := .ite ((s4.ledger_aside _).trans (State.put64_aside _ _ _)) (.refl s4)
  have spilled : Aside s5 s6 := by
    have counted : Aside s5 t1 := s5.satCount_aside _ _ _
    have lost : Aside t1 t2 := (t1.put64_aside _ _).trans (State.set_aside _ _ _)
    have told : Aside t2 t3 := t2.hostEvent_aside _ _ _ _ _
    exact .ite (((counted.trans lost).trans told).trans (t3.ledger_aside _)) (.refl s5)
  exact (((written.trans moved).trans spilled).trans (s6.set_aside _ _)).trans (s7.toClearing_aside _ _ _ _ _ _)

theorem State.ledger1_aside (e : LEntry) : Aside s (s.ledger1 e) := by
  unfold State.ledger1
  extract_lets was m s1 s2
  refine .ite ?_ (.ite (.of_eq rfl rfl) ?_)
  · exact Aside.trans (t := { s with ledger := { s.ledger with rate := s.ledger.rate + 1 } }) (.of_eq rfl rfl) (State.ledgerWrite_aside _ e)
  · have merged : Aside s s1 := .of_eq rfl rfl
    exact (merged.trans (s1.satCount_aside _ _ _)).trans (.of_eq rfl rfl)

theorem State.ledgerH_aside (source code inst : Nat) (data : List Byte) : Aside s (s.ledgerH source code inst data) := s.ledger1_aside _

theorem State.faultMirror_aside (id t64 era raises : Nat) (bytes : List Byte) : Aside s (s.faultMirror id t64 era raises bytes) := by
  unfold State.faultMirror
  extract_lets entry old n rest due
  refine .ite (.ite ?_ (.of_eq rfl rfl)) (s.ledger1_aside _)
  exact Aside.trans (t := { s with ledger := { s.ledger with mirrored := (id, absTick s.era s.time.hTick, 0) :: rest } }) (.of_eq rfl rfl)
    (State.ledger1_aside _ _)

theorem State.calAbort_aside (result : Nat) : Aside s (s.calAbort result) := .ite (.of_eq rfl rfl) (.refl s)

theorem State.enterFatal_aside (id t64 data : Nat) : Aside s (s.enterFatal id t64 data) := by
  unfold State.enterFatal
  extract_lets s1 s2
  exact Aside.trans (t := s2) (Aside.trans (t := (s1.put64 R.FLT_FATAL_LO t64).put R.FLT_FATAL_DATA data) (.of_eq rfl rfl)
    (State.calAbort_aside _ 5)) (.of_eq rfl rfl)

theorem State.moduleResetReaction_aside (id : Nat) : Aside s (s.moduleResetReaction id) := .ite (.refl s) (.ite (.of_eq rfl rfl) (.of_eq rfl rfl))

theorem State.raiseMarked_aside (id raises : Nat) : Aside s (s.raiseMarked id raises) := by
  unfold State.raiseMarked
  extract_lets was s0 s1
  have watched : Aside s s0 := .ite ⟨rfl, _, rfl⟩ (.refl s)
  exact (watched.trans (s0.satCount_aside _ _ _)).trans (.of_eq rfl rfl)

theorem State.raiseLatched_aside (id t64 : Nat) : Aside s (s.raiseLatched id t64) := .ite (.of_eq rfl rfl) (.of_eq rfl rfl)

theorem State.raiseTold_aside (id t64 era data raises : Nat) (forced : Bool) (taken : Nat) :
    Aside s (s.raiseTold id t64 era data raises forced taken) := by
  unfold State.raiseTold
  extract_lets s5 s6 s7 was s8 s9
  have h5 : Aside s s5 := Aside.trans (t := s.set R.FLT_EVT_RAISED 1) (.of_eq rfl rfl) (State.faultMirror_aside _ _ _ _ _ _)
  have h6 : Aside s5 s6 := .ite (s5.enterFatal_aside _ _ _) (.refl s5)
  have h7 : Aside s6 s7 := .ite (s6.msix_aside 0) (.refl s6)
  have h8 : Aside s7 s8 := .ite (.of_eq rfl rfl) (.refl s7)
  have h9 : Aside s8 s9 := .ite (s8.moduleResetReaction_aside id) (.refl s8)
  have pin : Aside s9 s9.dropFaultN := .ite (.refl s9) (.of_eq rfl rfl)
  exact ((((h5.trans h6).trans h7).trans h8).trans h9).trans (.ite pin (.refl s9))

theorem State.collect_aside (id t64 era data raises : Nat) (forced : Bool) (taken : Nat) :
    Aside s (s.collect id t64 era data raises forced taken) :=
  ((s.raiseMarked_aside id raises).trans (State.raiseLatched_aside _ id t64)).trans (State.raiseTold_aside _ id t64 era data raises forced taken)

theorem State.dropFieldFaultN_aside : Aside s s.dropFieldFaultN := .ite (.refl s) (.of_eq rfl rfl)

/-- A source without a block takes no block's state away. -/
theorem State.hostFault_aside {id : Nat} (data : Nat) (forced : Bool) (h : Config.Mild id) : Aside s (s.hostFault id data forced) := by
  unfold State.hostFault
  extract_lets taken t64 s1 s2 s3 s4
  have h1 : Aside s s1 := s.collect_aside _ _ _ _ _ _ _
  have h2 : Aside s1 s2 := s1.hostEvent_aside _ _ _ _ _
  have h3 : s3 = s2 := s2.takeBlockReset_mild h taken
  have h4 : Aside s3 s4 := .ite s3.dropFieldFaultN_aside (.refl s3)
  rw [if_neg (by simp [h.2.1])]
  exact (h1.trans h2).trans (h3 ▸ h4)

/-- No descriptor is in a channel. -/
def State.NoWork (s : State) : Prop := s.hdma.chans = Vector.replicate 16 {}

theorem State.NoWork.aside {s t : State} (h : s.NoWork) (h' : Aside s t) : t.NoWork := h'.chans.trans h

theorem State.NoWork.takeBlockReset {s : State} (h : s.NoWork) {id : Nat} (taken : Nat) (host : Config.faultIsField id = false) :
    (s.takeBlockReset id taken).NoWork := by
  unfold State.takeBlockReset
  split
  · rcases faultBlock_host host with block | block | block <;> rw [block]
    · exact h
    · dsimp only
      unfold State.blockReset
      split
      · exact h
      · exact h
    · dsimp only
      unfold State.blockReset
      split
      · exact h
      · rfl
  · exact h

/-- The host link's reset by reaction leaves no descriptor in a channel, like the reset before it. -/
theorem State.NoWork.hostFault {s : State} (h : s.NoWork) {id : Nat} (data : Nat) (forced : Bool) (host : Config.faultIsField id = false) :
    (s.hostFault id data forced).NoWork := by
  unfold State.hostFault
  extract_lets taken t64 s1 s2 s3 s4
  have h1 : Aside s s1 := s.collect_aside _ _ _ _ _ _ _
  have h2 : Aside s1 s2 := s1.hostEvent_aside _ _ _ _ _
  have h3 : s3.NoWork := (h.aside (h1.trans h2)).takeBlockReset taken host
  have h4 : Aside s3 s4 := .ite s3.dropFieldFaultN_aside (.refl s3)
  exact h3.aside (h4.trans (.ite (.of_field (s4.sendHF_field _ _ _ _ _)) (.refl s4)))
end

end Sys2Proof.Machine
end

section
/-! PROOFS. The decision, the switch, health, commit and revert of an update (R459–R464): O48. -/

namespace Sys2Proof.Machine

/-! ### Banks -/

theorem State.activeBank_cases (s : State) : s.activeBank = 0 ∧ s.spareBank = 1 ∨ s.activeBank = 1 ∧ s.spareBank = 0 := by
  rw [State.spareBank, State.activeBank]
  split
  · exact .inr ⟨rfl, rfl⟩
  · exact .inl ⟨rfl, rfl⟩

theorem State.spareBank_ne (s : State) : ¬ (s.activeBank = 0 ↔ s.spareBank = 0) := by
  rcases s.activeBank_cases with ⟨a, b⟩ | ⟨a, b⟩ <;> simp [a, b]

theorem State.fwBank_of_upd {s t : State} {r : List Nat} (h : t.upd = { s.upd with raised := r }) (k : Nat) : t.fwBank k = s.fwBank k := by
  rw [State.fwBank, State.fwBank, h]

theorem State.fwBank_bankState (s : State) (k st : Nat) : (s.bankState k st).fwBank k = { s.fwBank k with st := st } := by
  unfold State.bankState State.setFwBank State.fwBank
  split <;> rfl

theorem State.fwBank_bankState_ne (s : State) {j k : Nat} (st : Nat) (h : ¬ (j = 0 ↔ k = 0)) : (s.bankState k st).fwBank j = s.fwBank j := by
  unfold State.bankState State.setFwBank State.fwBank
  by_cases hj : j = 0 <;> by_cases hk : k = 0 <;> simp_all

theorem State.bankState_regs (s : State) (k st : Nat) : (s.bankState k st).regs = s.regs := by
  unfold State.bankState State.setFwBank
  split <;> rfl

/-- Changing a bank's state leaves the rest of the update as it is. -/
theorem State.bankState_upd (s : State) (k st : Nat) : ∃ a b, (s.bankState k st).upd = { s.upd with bankA := a, bankB := b } := by
  unfold State.bankState State.setFwBank
  split
  · exact ⟨_, _, rfl⟩
  · exact ⟨_, _, rfl⟩

/-! ### A step of STATE, with its event (R466, R468) -/

/-- Registers of the Ledger, of Clearing and of the event queue. -/
abbrev LogRegs (a : Nat) : Prop := a ∈ ldgRegs ∨ a ∈ clrRegs ∨ a ∈ eqRegs

/-- STATE has become `st`; other fields of UPD_STAT, and registers but for UPD_EVT and those of the log, stay. -/
structure Switched (st : Nat) (s t : State) : Prop where
  state : t.updState = st
  upd : t.upd = s.upd
  fault : t.fault = s.fault
  stat : ∀ f, f.addr = R.UPD_STAT → Apart f R.UPD_STAT_STATE → t.get f = s.get f
  kept : ∀ a, a ≠ R.UPD_STAT → a ≠ R.UPD_EVT → ¬ LogRegs a → t.rd a = s.rd a

theorem OnHost.upd {w : Nat → Prop} {s t : State} (h : OnHost w s t) : t.upd = s.upd := by
  obtain ⟨_, _, _, _, rfl, _⟩ := h
  rfl

theorem OnHost.fault {w : Nat → Prop} {s t : State} (h : OnHost w s t) : t.fault = s.fault := by
  obtain ⟨_, _, _, _, rfl, _⟩ := h
  rfl

theorem State.updMove_switched (s : State) {st : Nat} (h : st < 16) : Switched st s (s.updMove st) := by
  unfold State.updMove
  split
  · next same => exact ⟨same, rfl, rfl, fun _ _ _ => rfl, fun _ _ _ _ => rfl⟩
  · have logged := (s.set R.UPD_STAT_STATE st).ledgerH_host 0x07 0x80FF 0 (leBytes 4 (s.val (R.UPD_DIGEST 0)))
    refine ⟨?_, logged.upd, logged.fault, fun f hf apart => ?_, fun a hs _ hl => ?_⟩
    · exact (State.get_of_rd (logged.rd (by decide))).trans ((State.get_set_self _ _ (by decide)).trans (Nat.mod_eq_of_lt h))
    · exact (State.get_of_rd (logged.rd (by rw [hf]; decide))).trans (s.get_set_apart st apart)
    · exact (logged.rd hl).trans (s.rd_set_ne _ _ hs)

theorem State.updEvt_host (s : State) (f : Fld) (code : Nat) :
    OnHost (fun a => a = f.addr ∨ a ∈ clrRegs ∨ a ∈ eqRegs) s (s.updEvt f code) :=
  (OnHost.set s f 1 (.inl rfl)).trans ((State.hostEvent_host _ _ _ _ _ _).mono fun _ => .inr)

theorem State.updEvt_is (s : State) {a lo : Nat} (code : Nat) (h : lo + 1 ≤ 32) (other : ¬ (a ∈ clrRegs ∨ a ∈ eqRegs)) :
    (s.updEvt ⟨a, lo, 1⟩ code).is ⟨a, lo, 1⟩ = true :=
  (State.is_of_rd ((State.hostEvent_host _ _ _ _ _ _).rd other)).trans (s.is_set_one h)

theorem Switched.evt {st : Nat} {s t : State} (h : Switched st s t) {f : Fld} (code : Nat) (hf : f.addr = R.UPD_EVT) :
    Switched st s (t.updEvt f code) := by
  have told := t.updEvt_host f code
  have stat : ¬ (R.UPD_STAT = f.addr ∨ R.UPD_STAT ∈ clrRegs ∨ R.UPD_STAT ∈ eqRegs) := by
    rw [hf]
    decide
  refine ⟨(State.get_of_rd (told.rd stat)).trans h.state, told.upd.trans h.upd, told.fault.trans h.fault, fun g hg apart => ?_, fun a hs he hl => ?_⟩
  · exact (State.get_of_rd (told.rd (by rw [hg]; exact stat))).trans (h.stat g hg apart)
  · exact (told.rd fun x => x.elim (fun e => he (e.trans hf)) fun x => hl (.inr x)).trans (h.kept a hs he hl)

/-! ### The decision (R460) -/

/-- UPD_STAT.LINE takes the level that the module sees. -/
def State.lineShown (s : State) (line : Bool) : State := s.set R.UPD_STAT_LINE (if line && !s.is R.UPD_STAT_DRIVING then 1 else 0)

theorem State.lineShown_regs (s : State) (line : Bool) : OnRegs (fun a => a = R.UPD_STAT) s (s.lineShown line) := .set s _ _ rfl

theorem State.lineShown_upd (s : State) (line : Bool) : (s.lineShown line).upd = s.upd := rfl

theorem State.lineShown_is (s : State) (line : Bool) {f : Fld} (h : Apart f R.UPD_STAT_LINE) : (s.lineShown line).is f = s.is f := s.is_set_apart _ h

theorem State.lineShown_line (s : State) (line : Bool) : (s.lineShown line).is R.UPD_STAT_LINE = (line && !s.is R.UPD_STAT_DRIVING) := by
  unfold State.lineShown
  split
  · next level => rw [level]; exact s.is_set_one (by decide)
  · next level => rw [Bool.eq_false_of_not_eq_true level]; exact s.is_set_zero (by decide)

/-- The level that the module samples on the line. -/
theorem State.lineShown_cellLevel {s : State} (line own : Bool) (cell : s.is R.UPD_CTRL_CELL_EN = true) :
    (s.lineShown line).cellLevel line own = (line && !s.is R.UPD_STAT_DRIVING) := by
  have ctrl : (s.lineShown line).is R.UPD_CTRL_CELL_EN = s.is R.UPD_CTRL_CELL_EN := s.lineShown_is line (by decide)
  rw [State.cellLevel, ctrl, cell, if_pos rfl, s.lineShown_is line (by decide)]

/-- Without a cell the module samples a condition of its own. -/
theorem State.lineShown_ownLevel {s : State} (line own : Bool) (alone : s.is R.UPD_CTRL_CELL_EN = false) :
    (s.lineShown line).cellLevel line own = own := by
  have ctrl : (s.lineShown line).is R.UPD_CTRL_CELL_EN = s.is R.UPD_CTRL_CELL_EN := s.lineShown_is line (by decide)
  rw [State.cellLevel, ctrl, alone, if_neg Bool.false_ne_true]

/-- Readiness does not depend on LINE. -/
theorem State.lineShown_updReady (s : State) (line : Bool) : (s.lineShown line).updReady = s.updReady := by
  have other {a : Nat} (h : a ≠ R.UPD_STAT) : (s.lineShown line).rd a = s.rd a := (s.lineShown_regs line).kept a h
  have digest : (s.lineShown line).digestAt R.UPD_DIGEST = s.digestAt R.UPD_DIGEST := by
    have word (k : Nat) : (s.lineShown line).val (R.UPD_DIGEST k) = s.val (R.UPD_DIGEST k) :=
      State.val_of_rd (other (by simp only [R.UPD_DIGEST, R.UPD_STAT]; omega))
    simp only [State.digestAt, word]
  have copies : (s.lineShown line).copiesMatch = s.copiesMatch := by
    rw [State.copiesMatch, digest]
    rfl
  have hold : (s.lineShown line).faultHold = s.faultHold := State.is_of_rd (other (by decide))
  have up : (s.lineShown line).linkUp = s.linkUp := by
    rw [State.linkUp, State.linkUp, State.get_of_rd (f := R.ISO_STAT_STATE) (other (by decide))]
  have cal : (s.lineShown line).get R.MET_CAL_STAT_STATE = s.get R.MET_CAL_STAT_STATE := State.get_of_rd (other (by decide))
  have slots : (s.lineShown line).maskSlots = s.maskSlots := by rw [State.maskSlots, State.maskSlots, other (by decide)]
  have pods (q : Nat) : (s.lineShown line).podIn q = s.podIn q := by
    rw [State.podIn, State.podIn, State.get_of_rd (other _)]
    simp only [R.POD_S_STAT_STATE, R.POD_S_STAT, R.UPD_STAT]
    omega
  rw [State.updReady, State.updReady, copies, hold, up, cal, slots, funext pods]

/-- The activation that was armed is aborted (R460). -/
def State.aborted (s : State) : State :=
  ((({ s with upd := { s.upd with act := none } }).set R.UPD_STAT_ARESULT 2).updMove updStaged).updEvt R.UPD_EVT_ABORTED 3

/-- At the decision sample the level decides: the module proceeds, or its activation is aborted. -/
theorem State.doDecision_eq {s : State} {a d c : Nat} (line : Bool) (act : s.upd.act = some (a, d, c)) (armed : s.updState = updArmed)
    (waits : s.upd.holding = false) (due : d ≤ s.hAbs) :
    s.doDecision line = if (s.lineShown line).cellLevel line s.updReady then { s.lineShown line with upd := { s.upd with holding := true } }
      else (s.lineShown line).aborted := by
  rw [State.doDecision, act]
  dsimp only
  rw [if_pos ⟨armed, by rw [waits]; rfl, due⟩, ← State.lineShown_updReady s line]
  rfl

/-- What an abort at the decision sample shows. -/
structure Aborted (s t : State) : Prop where
  upd : t.upd = { s.upd with act := none }
  state : t.updState = updStaged
  line : t.is R.UPD_STAT_LINE = s.is R.UPD_STAT_LINE
  result : t.get R.UPD_STAT_ARESULT = 2
  event : t.is R.UPD_EVT_ABORTED = true

theorem State.aborted_aborted (s : State) : Aborted s s.aborted := by
  set v := ({ s with upd := { s.upd with act := none } }).set R.UPD_STAT_ARESULT 2 with hv
  have moved : Switched updStaged v s.aborted := (v.updMove_switched (by decide)).evt 3 rfl
  refine ⟨moved.upd, moved.state, ?_, ?_, State.updEvt_is _ 3 (by decide) (by decide)⟩
  · exact (State.is_congr _ (moved.stat _ rfl (by decide))).trans (State.is_set_apart _ 2 (by decide))
  · exact (moved.stat _ rfl (by decide)).trans (State.get_set_self _ 2 (by decide))

/-! ### The switch (R461) -/

/-- The bank becomes TRIAL, and what health is judged by begins anew. -/
def State.trialBegun (s : State) : State :=
  let s1 := (s.bankState s.spareBank 2).mgmtReset
  { s1 with upd := { s1.upd with hostDone := false, fieldDone := false, failed := false, watch := true, raised := [], modeWas := s1.mode,
                                 recWas := s1.is R.SYS_STAT_RECORDING } }

theorem State.doActivation_eq {s : State} {a d c : Nat} (act : s.upd.act = some (a, d, c)) (armed : s.updState = updArmed)
    (holds : s.upd.holding = true) (due : a ≤ s.hAbs) (start : s.time.hUnit = 0) : s.doActivation = s.trialBegun.updMove updActivating := by
  rw [State.doActivation, act]
  exact if_pos ⟨armed, holds, due, start⟩

theorem State.doHostStage_eq {s : State} (activating : s.updState = updActivating) (forward : s.upd.reverting = false) (waits : s.upd.hostDone = false) :
    s.doHostStage =
      ({ s with upd := { s.upd with hostDone := true }, fault := { s.fault with mgmtDown := false } }).set R.SYS_BOOT_BANK s.spareBank := by
  rw [State.doHostStage, if_pos ⟨.inl activating, by rw [waits]; rfl⟩, forward, if_neg Bool.false_ne_true]
  refine if_neg fun h => ?_
  exact Bool.false_ne_true (forward.symm.trans h.1)

/-- A raise of a field source without a block leaves the update as it is. -/
theorem State.fieldFault_upd (s : State) {id : Nat} (data : Nat) (h : Config.Mild id) : (s.fieldFault id data).upd = s.upd := by
  unfold State.fieldFault
  split
  · rw [State.takeBlockReset_mild _ h]
  · rw [if_neg h.2.1, State.takeBlockReset_mild _ h]
    split
    · unfold State.dropFieldFaultN
      split <;> rfl
    · rfl

/-- The progress of the switch stays, and registers but for those of USTORE and of a raise. -/
structure VendorTaken (s t : State) : Prop where
  fieldDone : t.upd.fieldDone = s.upd.fieldDone
  holdTo : t.upd.holdTo = s.upd.holdTo
  regs : ∀ a, a ∉ [R.USTORE_STAT, R.USTORE_VEND_VER, R.USTORE_EVT] → a ∉ reportRegs → t.rd a = s.rd a

/-- A vendor part that does not agree with its digest raises source 0x46 (R158). -/
theorem State.vendorLoad_taken (s : State) (e : List Byte) : VendorTaken s (s.vendorLoad e) := by
  unfold State.vendorLoad
  split
  · next p _ =>
    split
    · refine ⟨rfl, rfl, fun a ha _ => ?_⟩
      simp only [List.mem_cons, List.not_mem_nil, or_false, not_or] at ha
      exact (State.rd_put_ne _ _ ha.2.1).trans (State.rd_set_ne _ _ _ ha.1)
    · have upd := State.fieldFault_upd ((s.set R.USTORE_STAT_VEND_OK 0).set R.USTORE_EVT_VEND_BAD 1) (id := 0x46) 0 (by decide)
      refine ⟨(congrArg UpdSt.fieldDone upd :), (congrArg UpdSt.holdTo upd :), fun a ha hr => ?_⟩
      simp only [List.mem_cons, List.not_mem_nil, or_false, not_or] at ha
      refine ((State.fieldFault_reported _ 0 false (by decide)).rd hr).trans ?_
      exact (State.rd_set_ne _ _ _ ha.2.2).trans (State.rd_set_ne _ _ _ ha.1)
  · exact ⟨rfl, rfl, fun _ _ _ => rfl⟩

/-- The field half's banks have switched, and the drive hold of two ticks begins (R461). -/
def State.fieldSwitched (s : State) : State :=
  let s1 := s.driveHold s.fTickU
  let s2 := s1.set R.FCTL_STAT_FW_BANK (1 - s1.get R.FCTL_STAT_FW_BANK)
  { s2 with upd := { s2.upd with fieldDone := true, old := s2.upd.run, run := s2.fwRunning, oldVendor := s2.upd.vendor,
                                 commits := s2.maskCommits s2.spareBank } }

/-- Within `n` ticks of A. The bound is a variable here: the kernel unfolds a numeral of this size tick by tick. -/
theorem actsWithin {act : Option (Nat × Nat × Nat)} {a d c h n : Nat} (some : act = some (a, d, c)) (within : h ≤ a + n) :
    act.any (fun p => decide (h ≤ p.1 + n)) = true := by simp [some, within]

/-- The field stage switches the banks; the vendor region is then loaded where the manifest names a part for it. -/
theorem State.doFieldStage_taken {s : State} {a d c : Nat} (act : s.upd.act = some (a, d, c)) (inTime : s.hAbs ≤ a + 100000)
    (host : s.upd.hostDone = true) (waits : s.upd.fieldDone = false) (start : s.time.fUnit = 0) (quiet : s.is R.SEQ_STAT_CUST_RUN = false)
    (up : s.linkUp = true) (sound : s.upd.failed = false) (forward : s.upd.reverting = false) :
    VendorTaken s.fieldSwitched s.doFieldStage := by
  have due : (s.upd.act.any (fun p => decide (s.hAbs ≤ p.1 + 100000)) || s.upd.reverting) = true := by rw [actsWithin act inTime, Bool.true_or]
  unfold State.doFieldStage
  extract_lets within s1 s2 back backUpd was s3
  rw [if_pos ⟨host, by rw [waits]; rfl, start, by rw [quiet]; rfl, up, due, by rw [sound]; rfl⟩, if_neg (by rw [forward]; decide)]
  have whole : s3 = s.fieldSwitched := rfl
  clear_value s3
  subst whole
  split
  · exact State.vendorLoad_taken _ _
  · exact ⟨rfl, rfl, fun _ _ _ => rfl⟩

theorem State.doFieldTimeout_eq {s : State} {a d c : Nat} (act : s.upd.act = some (a, d, c)) (activating : s.updState = updActivating)
    (waits : s.upd.fieldDone = false) (late : a + 100000 < s.hAbs) :
    s.doFieldTimeout = ({ s with upd := { s.upd with failed := true, holding := false } }).updMove updChecking := by
  rw [State.doFieldTimeout, act]
  exact if_pos ⟨activating, by rw [waits]; rfl, late⟩

/-! ### Health, commit and revert (R462–R464) -/

theorem State.doHealthPass_eq {s : State} (checking : s.updState = updChecking) (forward : s.upd.reverting = false) (healthy : s.healthy = true) :
    s.doHealthPass = s.set R.UPD_STAT_HEALTH 1 := if_pos ⟨checking, by rw [forward]; rfl, healthy⟩

/-- The TRIAL bank becomes ACTIVE and the old one PREVIOUS, and the floor rises (R463). -/
def State.committed (s : State) : State :=
  let new := s.spareBank
  let old := s.activeBank
  let s1 := ((s.bankState new 3).bankState old 4).put64 R.UPD_FLOOR_LO (s.val64 R.UPD_SEQ_LO)
  let rest := (List.range 16).filter (fun q => !(s1.rd R.UPD_POD_MASK).getLsbD q)
  let owed := rest.filterMap (fun q => (s1.podPart new q).map (fun e => (q, entDigest e)))
  let s2 := { s1 with upd := { s1.upd with act := none, watch := false, commits := s1.upd.commits ++ owed } }
  ((s2.set R.UPD_STAT_ARESULT 3).updMove updIdle).updEvt R.UPD_EVT_COMMITTED 5

theorem State.doCommitSample_eq {s : State} {a d c : Nat} (line : Bool) (act : s.upd.act = some (a, d, c)) (checking : s.updState = updChecking)
    (forward : s.upd.reverting = false) (held : s.upd.lost = false) (due : c ≤ s.hAbs) :
    s.doCommitSample line = if (s.lineShown line).cellLevel line (s.is R.UPD_STAT_HEALTH) then (s.lineShown line).committed else (s.lineShown line).revert := by
  have health : (s.lineShown line).is R.UPD_STAT_HEALTH = s.is R.UPD_STAT_HEALTH := s.lineShown_is line (by decide)
  rw [State.doCommitSample, act]
  dsimp only
  rw [if_neg (fun h => Bool.false_ne_true (held.symm.trans h.2)), if_pos ⟨checking, by rw [forward]; rfl, due⟩, ← health]
  rfl

theorem State.val64_mod (s : State) (a : Nat) : s.val64 a % 2 ^ 64 = s.val64 a := by
  have low : s.val a < 2 ^ 32 := (s.rd a).isLt
  have high : s.val (a + 4) < 2 ^ 32 := (s.rd (a + 4)).isLt
  rw [State.val64]
  omega

/-- What a commit shows. -/
structure Committed (s t : State) : Prop where
  state : t.updState = updIdle
  result : t.get R.UPD_STAT_ARESULT = 3
  new : (t.fwBank s.spareBank).st = 3
  old : (t.fwBank s.activeBank).st = 4
  floor : t.val64 R.UPD_FLOOR_LO = s.val64 R.UPD_SEQ_LO
  event : t.is R.UPD_EVT_COMMITTED = true
  act : t.upd.act = none

theorem State.committed_committed (s : State) : Committed s s.committed := by
  unfold State.committed
  extract_lets new old s1 rest owed was s2
  set v := s2.set R.UPD_STAT_ARESULT 3 with hv
  have moved : Switched updIdle v ((v.updMove updIdle).updEvt R.UPD_EVT_COMMITTED 5) := (v.updMove_switched (by decide)).evt 5 rfl
  have bank (k : Nat) : ((v.updMove updIdle).updEvt R.UPD_EVT_COMMITTED 5).fwBank k = ((s.bankState new 3).bankState old 4).fwBank k := by
    rw [State.fwBank, moved.upd]
    rfl
  have floor : v.val64 R.UPD_FLOOR_LO = s.val64 R.UPD_SEQ_LO := by
    have shown : v.val64 R.UPD_FLOOR_LO = s1.val64 R.UPD_FLOOR_LO := by
      rw [State.val64, State.val64, hv, State.val_set_ne _ _ (by decide), State.val_set_ne _ _ (by decide)]
      rfl
    exact shown.trans ((State.val64_put64 _ _).trans (s.val64_mod _))
  refine ⟨moved.state, ?_, ?_, ?_, ?_, State.updEvt_is _ 5 (by decide) (by decide), ?_⟩
  · exact (moved.stat _ rfl (by decide)).trans (State.get_set_self _ 3 (by decide))
  · rw [bank, State.fwBank_bankState_ne _ _ fun h => s.spareBank_ne h.symm, State.fwBank_bankState]
  · rw [bank, State.fwBank_bankState]
  · rw [State.val64, State.val_of_rd (moved.kept _ (by decide) (by decide) (by decide)), State.val_of_rd (moved.kept _ (by decide) (by decide) (by decide))]
    exact floor
  · rw [moved.upd]
    rfl

theorem State.lineShown_committed (s : State) (line : Bool) : Committed s (s.lineShown line).committed := by
  obtain ⟨state, result, new, old, floor, event, act⟩ := (s.lineShown line).committed_committed
  have staged : (s.lineShown line).val64 R.UPD_SEQ_LO = s.val64 R.UPD_SEQ_LO := (s.lineShown_regs line).val64 (by decide) (by decide)
  exact ⟨state, result, new, old, floor.trans staged, event, act⟩

/-- What a revert shows. -/
structure Reverted (s t : State) : Prop where
  result : t.get R.UPD_STAT_ARESULT = 4
  new : (t.fwBank s.spareBank).st = 1
  old : t.fwBank s.activeBank = s.fwBank s.activeBank
  event : t.is R.UPD_EVT_REVERTED = true
  pend : t.faultPend 0x1A = true
  reverting : t.upd.reverting = true
  hostDone : t.upd.hostDone = false
  lowTo : t.upd.lowTo = s.upd.act.map (fun p => p.2.2)

theorem State.revertBegun_fwBank (s : State) (k : Nat) : s.revertBegun.fwBank k = s.fwBank k := rfl

theorem State.revert_reverted (s : State) : Reverted s s.revert := by
  obtain ⟨bankA, bankB, bankUpd⟩ := s.bankState_upd s.spareBank 1
  set v := (s.bankState s.spareBank 1).set R.UPD_STAT_ARESULT 4 with hv
  have told := v.updEvt_host R.UPD_EVT_REVERTED 6
  have raised := (v.updEvt R.UPD_EVT_REVERTED 6).hostFault_collected (id := 0x1A) (data := 0) false (by decide) (by decide) (by decide)
  obtain ⟨-, r, aside⟩ := (v.updEvt R.UPD_EVT_REVERTED 6).hostFault_aside (id := 0x1A) 0 false (by decide)
  have record : s.revertRecord = (v.updEvt R.UPD_EVT_REVERTED 6).hostFault 0x1A 0 := rfl
  rw [s.revert_eq]
  generalize s.revertRecord = w at record
  rw [← record] at raised aside
  rw [told.upd] at aside
  have regs (a : Nat) : w.revertBegun.rd a = w.rd a := State.rd_of_regs w.revertBegun_regs a
  have bank (k : Nat) : w.revertBegun.fwBank k = (s.bankState s.spareBank 1).fwBank k := (w.revertBegun_fwBank k).trans (State.fwBank_of_upd aside k)
  have update {a : Nat} (hin : InFlt a) (high : 0xB0000 ≤ a) : w.revertBegun.rd a = (v.updEvt R.UPD_EVT_REVERTED 6).rd a :=
    (regs a).trans (raised.update a hin (by omega))
  refine ⟨?_, ?_, ?_, ?_, ?_, rfl, rfl, ?_⟩
  · exact (State.get_of_rd ((update (by decide) (by decide)).trans (told.rd (by decide)))).trans (State.get_set_self _ 4 (by decide))
  · rw [bank, State.fwBank_bankState]
  · rw [bank, State.fwBank_bankState_ne _ _ s.spareBank_ne]
  · exact (State.is_of_rd (update (by decide) (by decide))).trans (v.updEvt_is 6 (by decide) (by decide))
  · exact (congrArg (BitVec.getLsbD · 26) (regs (R.FLT_PEND 0))).trans raised.pend
  · have acts : w.upd.act = s.upd.act := by
      rw [aside]
      exact (congrArg UpdSt.act bankUpd :)
    exact congrArg (Option.map _) acts

theorem State.lineShown_reverted (s : State) (line : Bool) : Reverted s (s.lineShown line).revert := by
  obtain ⟨result, new, old, event, pend, reverting, hostDone, lowTo⟩ := (s.lineShown line).revert_reverted
  exact ⟨result, new, old, event, pend, reverting, hostDone, lowTo⟩

/-! ### The statement -/

/-- Settles O48: each command's equation says what it does where it acts; `Switched` and `Aside` say what the event and the raise leave. -/
theorem updateSwitch : Obligations.UpdateSwitch := by
  refine ⟨fun s a d c act armed waits due cell off => ?proceeds, fun s a d c act armed waits due cell => ?aborts,
    fun s line a d c act armed waits due alone => ?own, fun s a d c act armed holds due start => ?activates,
    fun s u activating forward waits => ?hostStage, fun s a d c act inTime host waits start quiet up sound forward => ?fieldStage,
    fun s a d c act activating waits late => ?timeout, fun s checking forward healthy => ?health,
    fun s line a d c act checking forward held due alone health => ?commitsAlone, fun s a d c act checking forward held due cell off => ?commits,
    fun s line a d c act checking forward held due alone health => ?revertsAlone, fun s a d c act checking forward held due cell => ?reverts⟩
  case proceeds =>
    have level := State.lineShown_cellLevel (s := s.atH midTick) true (s.atH midTick).updReady cell
    rw [show (s.atH midTick).is R.UPD_STAT_DRIVING = false from off] at level
    have decides := (State.doDecision_eq (s := s.atH midTick) true act armed waits due).trans (if_pos level)
    have line := (s.atH midTick).lineShown_line true
    rw [show (s.atH midTick).is R.UPD_STAT_DRIVING = false from off] at line
    have state : ((s.atH midTick).lineShown true).updState = updArmed := ((s.atH midTick).get_set_apart _ (by decide)).trans armed
    exact answers_of_arm (congrArg (done s) decides) rfl fun t e mem =>
      ⟨e ▸ rfl, e ▸ rfl, e ▸ state, e ▸ line, mem, e ▸ ((s.atH midTick).lineShown_regs true).kept⟩
  case aborts =>
    have level := State.lineShown_cellLevel (s := s.atH midTick) false (s.atH midTick).updReady cell
    have decides := (State.doDecision_eq (s := s.atH midTick) false act armed waits due).trans (if_neg (by rw [level]; exact Bool.false_ne_true))
    have line := (s.atH midTick).lineShown_line false
    refine answers_of_arm (congrArg (done s) decides) rfl fun t e mem => ?_
    obtain ⟨upd, state, kept, result, event⟩ := e ▸ ((s.atH midTick).lineShown false).aborted_aborted
    exact ⟨(congrArg UpdSt.holding upd).trans waits, (congrArg UpdSt.act upd :), state, kept.trans line, result, event, mem⟩
  case own =>
    have level := State.lineShown_ownLevel (s := s.atH midTick) line (s.atH midTick).updReady alone
    have decides := State.doDecision_eq (s := s.atH midTick) line act armed waits due
    have ready : (s.atH midTick).updReady = s.updReady := rfl
    rw [level, ready] at decides
    refine answers_of_arm (congrArg (done s) decides) rfl fun t e mem => ?_
    by_cases is : s.updReady = true
    · rw [if_pos is] at e
      have state : ((s.atH midTick).lineShown line).updState = updArmed := ((s.atH midTick).get_set_apart _ (by decide)).trans armed
      exact ⟨(e ▸ rfl : t.upd.holding = true).trans is.symm, (e ▸ state : t.updState = updArmed).trans (if_pos is).symm, mem⟩
    · rw [if_neg is] at e
      obtain ⟨upd, state, -⟩ := e ▸ ((s.atH midTick).lineShown line).aborted_aborted
      refine ⟨((congrArg UpdSt.holding upd).trans waits).trans ?_, state.trans (if_neg is).symm, mem⟩
      exact (Bool.eq_false_of_not_eq_true is).symm
  case activates =>
    have moved := s.trialBegun.updMove_switched (st := updActivating) (by decide)
    rw [← State.doActivation_eq act armed holds due start] at moved
    refine answers_of_arm rfl rfl fun t e mem => ?_
    obtain ⟨state, upd, fault, -⟩ := e ▸ moved
    have bank : (t.fwBank s.spareBank).st = 2 := by
      rw [State.fwBank, upd]
      exact congrArg FwBank.st (s.fwBank_bankState s.spareBank 2)
    have mode : (s.bankState s.spareBank 2).mode = s.mode := State.get_of_rd (State.rd_of_regs (s.bankState_regs _ _) _)
    exact ⟨state, bank, (congrArg UpdSt.hostDone upd :), (congrArg UpdSt.fieldDone upd :), (congrArg FaultSt.mgmtDown fault :),
      (congrArg UpdSt.modeWas upd).trans mode, mem⟩
  case hostStage =>
    have stage := State.doHostStage_eq (s := s.atH u) activating forward waits
    have bank : s.spareBank < 2 := by
      rcases s.activeBank_cases with ⟨-, b⟩ | ⟨-, b⟩ <;> omega
    have shown := (State.get_set_self ({ s.atH u with upd := { s.upd with hostDone := true }, fault := { s.fault with mgmtDown := false } } : State)
      (f := R.SYS_BOOT_BANK) s.spareBank (by decide)).trans (Nat.mod_eq_of_lt bank)
    have regs : RegsKept s ((s.atH u).doHostStage) (fun a => a = R.SYS_BOOT) := stage ▸ fun a ha => State.rd_set_ne _ R.SYS_BOOT_BANK _ ha
    exact answers_of_arm (congrArg (done s) stage) rfl fun t e mem =>
      ⟨e ▸ rfl, e ▸ shown, e ▸ rfl, (State.get_of_rd ((stage.trans e) ▸ regs R.UPD_STAT (by decide))).trans activating, mem, (stage.trans e) ▸ regs⟩
  case fieldStage =>
    have taken := State.doFieldStage_taken act inTime host waits start quiet up sound forward
    refine answers_of_arm rfl rfl fun t e mem => ?_
    obtain ⟨fieldDone, holdTo, regs⟩ := e ▸ taken
    have kept {a : Nat} (h : a ≠ R.FCTL_STAT) (h1 : a ∉ [R.USTORE_STAT, R.USTORE_VEND_VER, R.USTORE_EVT]) (h2 : a ∉ reportRegs) : t.rd a = s.rd a :=
      (regs a h1 h2).trans (State.rd_set_ne _ R.FCTL_STAT_FW_BANK _ h)
    refine ⟨fieldDone, holdTo, ?_, State.get_of_rd (kept (by decide) (by decide) (by decide)), mem⟩
    exact (State.get_of_rd (regs _ (by decide) (by decide))).trans ((State.get_set_self _ _ (by decide)).trans
      (Nat.mod_eq_of_lt (Nat.lt_of_le_of_lt (Nat.sub_le 1 _) (by decide))))
  case timeout =>
    have moved := State.updMove_switched { s with upd := { s.upd with failed := true, holding := false } } (st := updChecking) (by decide)
    rw [← State.doFieldTimeout_eq act activating waits late] at moved
    refine answers_of_arm rfl rfl fun t e mem => ?_
    obtain ⟨state, upd, -⟩ := e ▸ moved
    exact ⟨(congrArg UpdSt.failed upd :), state, (congrArg UpdSt.holding upd :), mem⟩
  case health =>
    exact answers_of_arm (congrArg (done s) (State.doHealthPass_eq checking forward healthy)) rfl fun t e mem =>
      ⟨e ▸ s.is_set_one (by decide), e ▸ rfl, mem, e ▸ (OnRegs.set (w := fun a => a = R.UPD_STAT) s R.UPD_STAT_HEALTH 1 rfl).kept⟩
  case commitsAlone =>
    have level := State.lineShown_ownLevel (s := s.atH midTick) line ((s.atH midTick).is R.UPD_STAT_HEALTH) alone
    have commits := (State.doCommitSample_eq (s := s.atH midTick) line act checking forward held due).trans (if_pos (level.trans health))
    refine answers_of_arm (congrArg (done s) commits) rfl fun t e mem => ?_
    obtain ⟨state, result, new, old, floor, event, none⟩ := e ▸ (s.atH midTick).lineShown_committed line
    exact ⟨state, result, new, old, floor, event, none, mem⟩
  case commits =>
    have level := State.lineShown_cellLevel (s := s.atH midTick) true ((s.atH midTick).is R.UPD_STAT_HEALTH) cell
    rw [show (s.atH midTick).is R.UPD_STAT_DRIVING = false from off] at level
    have commits := (State.doCommitSample_eq (s := s.atH midTick) true act checking forward held due).trans (if_pos level)
    refine answers_of_arm (congrArg (done s) commits) rfl fun t e mem => ?_
    obtain ⟨state, result, new, old, floor, event, none⟩ := e ▸ (s.atH midTick).lineShown_committed true
    exact ⟨state, result, new, old, floor, event, none, mem⟩
  case revertsAlone =>
    have level := State.lineShown_ownLevel (s := s.atH midTick) line ((s.atH midTick).is R.UPD_STAT_HEALTH) alone
    rw [show (s.atH midTick).is R.UPD_STAT_HEALTH = false from health] at level
    have reverts := (State.doCommitSample_eq (s := s.atH midTick) line act checking forward held due).trans
      (if_neg (by rw [show (s.atH midTick).is R.UPD_STAT_HEALTH = false from health, level]; exact Bool.false_ne_true))
    refine answers_of_arm (congrArg (done s) reverts) rfl fun t e mem => ?_
    obtain ⟨result, new, old, event, pend, reverting, hostDone, lowTo⟩ := e ▸ (s.atH midTick).lineShown_reverted line
    exact ⟨result, new, old, event, pend, reverting, hostDone, lowTo.trans (congrArg _ act), mem⟩
  case reverts =>
    have level := State.lineShown_cellLevel (s := s.atH midTick) false ((s.atH midTick).is R.UPD_STAT_HEALTH) cell
    have reverts := (State.doCommitSample_eq (s := s.atH midTick) false act checking forward held due).trans
      (if_neg (by rw [level]; exact Bool.false_ne_true))
    refine answers_of_arm (congrArg (done s) reverts) rfl fun t e mem => ?_
    obtain ⟨result, new, old, event, pend, reverting, hostDone, lowTo⟩ := e ▸ (s.atH midTick).lineShown_reverted false
    exact ⟨result, new, old, event, pend, reverting, hostDone, lowTo.trans (congrArg _ act), mem⟩

end Sys2Proof.Machine
end

section
/-! PROOFS. Resets of the host link, its retraining and AER errors, and the memory window BAR2 (R353, R354, R356, R380): O1. -/

namespace Sys2Proof.Machine

/-! ### Resets and AER errors (R354) -/

/-- A reset of the host link leaves no descriptor in a channel and source 0x0C pending. -/
theorem State.hostLinkReset_shown (s : State) (cause : LinkResetCause) : (s.hostLinkReset cause).NoWork ∧ (s.hostLinkReset cause).faultPend 0x0C = true := by
  unfold State.hostLinkReset
  extract_lets k
  have empty : (s.hdmaReset false).NoWork := rfl
  exact ⟨(empty.aside (State.ledgerH_aside _ _ _ _ _)).hostFault 0 false (by decide),
    (State.hostFault_collected _ false (by decide) (by decide) (by decide)).pend⟩

theorem answers_of_linkReset {c : Instr} {s : State} {u : Sub} {cause : LinkResetCause} (arm : exec c s = done s ((s.atH u).hostLinkReset cause))
    (storeless : mayStore c = false) : Answers c s (fun t => t.hdma.chans = Vector.replicate 16 {} ∧ t.faultPend 0x0C = true) := by
  have shown := (s.atH u).hostLinkReset_shown cause
  exact answers_of_arm arm storeless fun t e _ => e ▸ shown

/-! ### Retraining (R353) -/

/-- An event of the block sets its bit, and its vector touches no register. -/
theorem State.hdmaEvt_regs (s : State) (f : Fld) : (s.hdmaEvt f).regs = (s.set f 1).regs := by
  unfold State.hdmaEvt State.msix
  split <;> rfl

theorem State.hdmaEvt_rd (s : State) {f : Fld} {a : Nat} (h : a ≠ f.addr) : (s.hdmaEvt f).rd a = s.rd a :=
  (State.rd_of_regs (s.hdmaEvt_regs f) a).trans (s.rd_set_ne f 1 h)

theorem State.hdmaEvt_is (s : State) {a lo : Nat} (h : lo + 1 ≤ 32) : (s.hdmaEvt ⟨a, lo, 1⟩).is ⟨a, lo, 1⟩ = true :=
  (State.is_of_rd (State.rd_of_regs (s.hdmaEvt_regs ⟨a, lo, 1⟩) a)).trans (s.is_set_one h)

theorem State.msix_bar2Data (s : State) (v : Nat) : (s.msix v).hdma.bar2Data = s.hdma.bar2Data := by
  unfold State.msix
  split <;> rfl

/-- What a retraining shows. -/
theorem doHostLinkRetrain_shown (u : Sub) (speed : Fin 6) (width : Fin 9) (s : State) :
    (doHostLinkRetrain u speed width s).get R.HDMA_LINK_SPEED = speed.val ∧ (doHostLinkRetrain u speed width s).get R.HDMA_LINK_WIDTH = width.val ∧
      (doHostLinkRetrain u speed width s).is R.HDMA_EVT_LINK_CHANGE = true := by
  unfold doHostLinkRetrain
  extract_lets s1 r s2 s3
  have other : (s3.hdmaEvt R.HDMA_EVT_LINK_CHANGE).rd R.HDMA_LINK = s3.rd R.HDMA_LINK := s3.hdmaEvt_rd (by decide)
  refine ⟨(State.get_of_rd other).trans ?_, (State.get_of_rd other).trans ?_, s3.hdmaEvt_is (by decide)⟩
  · refine (State.get_set_apart _ _ (by decide)).trans ((State.get_set_apart _ _ (by decide)).trans ((State.get_set_self _ _ (by decide)).trans ?_))
    exact Nat.mod_eq_of_lt (speed.isLt.trans (by decide))
  · refine (State.get_set_apart _ _ (by decide)).trans ((State.get_set_self _ _ (by decide)).trans ?_)
    exact Nat.mod_eq_of_lt (width.isLt.trans (by decide))

/-! ### The memory window (R356, R380) -/

/-- A read that ends below the write queue returns the words of acquisition memory. -/
theorem State.bar2Words_memory {s : State} {base words : Nat} (below : base + 4 * words ≤ s.wqBase) :
    (List.range words).map (fun k => s.bar2Word (base + 4 * k))
      = (List.range words).map (fun k => BitVec.ofNat 32 (ofBytes (memRead s.mem (base + 4 * k) 4))) := by
  refine List.map_congr_left fun k hk => if_pos ?_
  have := List.mem_range.mp hk
  omega

theorem doBar2Access_read {s : State} {u : Sub} {off : BitVec 32} {words : Nat}
    (below : s.val R.HDMA_WIN_BASE % 256 * 2 ^ 30 + off.toNat + 4 * words ≤ s.wqBase) :
    doBar2Access u false off words s = { s.atH u with hdma := { s.hdma with bar2Data := (List.range words).map (fun k =>
      BitVec.ofNat 32 (ofBytes (memRead s.mem (s.val R.HDMA_WIN_BASE % 256 * 2 ^ 30 + off.toNat + 4 * k) 4))) } } := by
  have good : ¬ (false || decide ((s.atH u).wqBase < (s.atH u).val R.HDMA_WIN_BASE % 256 * 2 ^ 30 + off.toNat + 4 * words)) = true := by
    rw [Bool.false_or, decide_eq_true_iff]
    exact Nat.not_lt.mpr below
  unfold doBar2Access
  extract_lets s1 base bad was s2
  rw [if_neg good, ← State.bar2Words_memory below]
  rfl

theorem State.hdmaCount_bar2Data (s : State) (a n : Nat) : (s.hdmaCount a n).hdma.bar2Data = s.hdma.bar2Data := by
  have counted : (s.satCount a 32 n R.HDMA_EVT_SATURATED).1.hdma.bar2Data = s.hdma.bar2Data := by
    obtain ⟨_, _, e, -⟩ := s.satCount_field a 32 n R.HDMA_EVT_SATURATED
    rw [e]
  unfold State.hdmaCount
  dsimp only
  split
  · exact (State.msix_bar2Data _ 18).trans counted
  · exact counted

theorem doBar2Access_write (s : State) (u : Sub) (off : BitVec 32) (words : Nat) :
    doBar2Access u true off words s = ((s.atH u).hdmaCount R.HDMA_BAR2_ERR 1).hdmaEvt R.HDMA_EVT_BAR2_ERR := by
  unfold doBar2Access
  extract_lets s1 base bad was s2
  exact if_pos (Bool.true_or _)

/-! ### The statement -/

/-- Settles O1: `NoWork` outlives the reports of a link reset, and a BAR2 access is good exactly below the write queue. -/
theorem hostLinkAndWindow : Obligations.HostLinkAndWindow := by
  refine ⟨fun s u => answers_of_linkReset (u := u) (cause := .flr) rfl rfl, fun s u => answers_of_linkReset (u := u) (cause := .hot) rfl rfl,
    fun s u => answers_of_linkReset (u := u) (cause := .down) rfl rfl, fun s u speed width => ?retrain, fun s u correctable => ?aer,
    fun s u off words below => ?read, fun s u off words => ?write⟩
  case retrain =>
    have shown := doHostLinkRetrain_shown u speed width s
    exact answers_of_arm rfl rfl fun t e _ => e ▸ shown
  case aer =>
    have pend (id : Nat) (h : id < 256) (host : Config.faultIsField id = false) : ((s.atH u).hostFault id 0).faultPend id = true :=
      ((s.atH u).hostFault_collected false h host (by decide)).pend
    cases correctable
    · exact answers_of_arm rfl rfl fun t e _ => e ▸ pend 0x0C (by decide) (by decide)
    · exact answers_of_arm rfl rfl fun t e _ => e ▸ pend 0x0B (by decide) (by decide)
  case read =>
    exact answers_of_arm (congrArg (done s) (doBar2Access_read below)) rfl fun t e mem => ⟨e ▸ rfl, e ▸ rfl, mem⟩
  case write =>
    have event := ((s.atH u).hdmaCount R.HDMA_BAR2_ERR 1).hdmaEvt_is (a := R.HDMA_EVT) (lo := R.HDMA_EVT_BAR2_ERR.lo) (by decide)
    have data : (((s.atH u).hdmaCount R.HDMA_BAR2_ERR 1).hdmaEvt R.HDMA_EVT_BAR2_ERR).hdma.bar2Data = s.hdma.bar2Data :=
      (State.msix_bar2Data _ 18).trans ((s.atH u).hdmaCount_bar2Data _ _)
    exact answers_of_arm (congrArg (done s) (doBar2Access_write s u off words)) rfl fun t e mem => ⟨e ▸ event, mem, e ▸ data⟩

end Sys2Proof.Machine
end

section
/-! PROOFS. Descriptors of host DMA: their fetch, their work, their completion, and the stop of a channel (R357–R366): O2 and O3. -/

namespace Sys2Proof.Machine

/-! ### Channels -/

theorem State.chan_setChan (s : State) (c : Idx16) (x : ChanSt) : (s.setChan c x).chan c = x := by
  simp [State.chan, State.setChan, Vector.getD]

theorem State.setChan_rd (s : State) (c : Nat) (x : ChanSt) (a : Nat) : (s.setChan c x).rd a = s.rd a := rfl

/-! ### Fetch (R361) -/

/-- The channel's next work: HEAD has moved on, and the work has joined those in progress. -/
structure Fetched (c : Idx16) (w : Work) (s t : State) : Prop where
  head : t.val (R.HDMA_C_HEAD c) = (s.val (R.HDMA_C_HEAD c) + 1) % s.val (R.HDMA_C_SIZE c)
  fly : (t.chan c).fly = (s.chan c).fly ++ [w]
  writes : t.hdma.hostWrites = s.hdma.hostWrites
  mem : t.mem = s.mem

theorem hdmaHead_ne_stat (c : Nat) : R.HDMA_C_HEAD c ≠ R.HDMA_C_STAT c := by
  simp only [R.HDMA_C_HEAD, R.HDMA_C_STAT]
  omega

/-- The work as it joins: a NOP has ended at once. -/
def Work.joins (w : Work) : Work := if w.op = 0 then { w with ended := some (0, 0) } else w

theorem State.fetchDesc_fetched {s : State} {c : Idx16} (w : Work) (sized : s.val (R.HDMA_C_SIZE c) ≠ 0) : Fetched c w.joins s (s.fetchDesc c w 0) := by
  have size : s.val (R.HDMA_C_SIZE c) < 2 ^ 32 := (s.rd _).isLt
  have next : (s.val (R.HDMA_C_HEAD c) + 1) % s.val (R.HDMA_C_SIZE c) < 2 ^ 32 := (Nat.mod_lt _ (Nat.pos_of_ne_zero sized)).trans size
  refine ⟨?_, ?_, rfl, rfl⟩
  · exact (State.val_set_ne _ _ (hdmaHead_ne_stat c)).trans ((State.val_put_self _ _).trans (Nat.mod_eq_of_lt next))
  · exact congrArg ChanSt.fly (State.chan_setChan _ c _)

/-- A good descriptor of the command's own operation is fetched, and its work starts. -/
theorem State.runDesc_good {s : State} {c : Nat} {d : List Byte} {mine : Nat → Bool} {f : State → Work → State} (op : mine (leAt d 0 1) = true)
    (fetch : s.canFetch c (parseWork (s.val (R.HDMA_C_HEAD c)) d) = true) (good : s.descReason c d (parseWork (s.val (R.HDMA_C_HEAD c)) d) = 0) :
    s.runDesc c d mine f = f (s.fetchDesc c (parseWork (s.val (R.HDMA_C_HEAD c)) d) 0) (parseWork (s.val (R.HDMA_C_HEAD c)) d) := by
  have runs : (mine (parseWork (s.val (R.HDMA_C_HEAD c)) d).op && s.canFetch c (parseWork (s.val (R.HDMA_C_HEAD c)) d)) = true := by
    rw [fetch, Bool.and_true]
    exact op
  unfold State.runDesc
  extract_lets w reason
  rw [if_pos runs, if_pos good]

/-! ### The data of a refill (R176, R177) -/

/-- Messages of a refill change nothing but what is on its way to the field half, and the bytes that it counts. -/
theorem State.sendRefill_field (s : State) (w : Work) (at0 : Nat) (bytes : List Byte) :
    OnField (fun a => a = R.ISO_TX_BYTES_LO ∨ a = R.ISO_TX_BYTES_LO + 4) s (s.sendRefill w at0 bytes) := by
  have folded {α : Type} (f : State × List Byte → α → State × List Byte)
      (hf : ∀ p x, OnField (fun a => a = R.ISO_TX_BYTES_LO ∨ a = R.ISO_TX_BYTES_LO + 4) p.1 (f p x).1) (l : List α) :
      ∀ p, OnField (fun a => a = R.ISO_TX_BYTES_LO ∨ a = R.ISO_TX_BYTES_LO + 4) p.1 (l.foldl f p).1 := by
    induction l with
    | nil => exact fun p => .refl _ p.1
    | cons x l ih => exact fun p => (hf p x).trans (ih (f p x))
  unfold State.sendRefill
  extract_lets isz n g len ring first
  split
  · exact folded _ (fun p r => p.1.sendHF_field _ _ _ _ _) _ (s, bytes)
  · exact folded _ (fun p r => p.1.sendHF_field _ _ _ _ _) _ (s, bytes)

theorem State.refillData_rd (s : State) {c : Nat} (w : Work) (data : List Byte) {a : Nat} (h : a ≠ R.ISO_TX_BYTES_LO ∧ a ≠ R.ISO_TX_BYTES_LO + 4) :
    (s.refillData c w data).rd a = s.rd a := by
  unfold State.refillData
  extract_lets isz all n
  have sent := s.sendRefill_field w (w.moved / isz) (all.take n)
  exact sent.rd fun e => e.elim h.1 h.2

theorem State.copyData_rd (s : State) (c : Nat) (w : Work) (n a : Nat) : (s.copyData c w n).rd a = s.rd a := rfl

theorem State.copyData_copied (s : State) (c : Nat) (w : Work) (n : Nat) :
    (s.copyData c w n).hdma.hostWrites
      = s.hdma.hostWrites ++ [(w.addr + w.moved, memRead s.mem (w.first + w.moved) (min n (w.length - w.moved)))] := rfl

/-! ### Completion (R360) -/

theorem State.msix_hostWrites (s : State) (v : Nat) : (s.msix v).hdma.hostWrites = s.hdma.hostWrites := by
  unfold State.msix
  split <;> rfl

/-- Registers alone change: what the bus-master engine holds stays. -/
theorem OnRegs.hdma {w : Nat → Prop} {s t : State} (h : OnRegs w s t) : t.hdma = s.hdma := by
  obtain ⟨_, rfl, _⟩ := h
  rfl

/-- A completion record is one write to host memory, at its slot. -/
theorem State.writeCpl_hostWrites (s : State) (c : Nat) (w : Work) : (s.writeCpl c w).hdma.hostWrites = s.hdma.hostWrites ++
    [(s.val64 (R.HDMA_C_CPL_LO c) / 4096 * 4096 + 32 * w.idx, cplBytes w (s.get (R.HDMA_C_CPL_IDX_PHASE c)) s.hNow.pack)] := by
  unfold State.writeCpl
  extract_lets size phase base was s1 s2 s3 s4 s5
  have h2 : OnRegs (fun _ => True) s1 s2 := .set _ _ _ trivial
  have h3 : OnRegs (fun _ => True) s2 s3 := .ite (.set _ _ _ trivial) (.refl _ s2)
  have h4 : OnRegs (fun _ => True) s3 s4 := (OnRegs.put _ _ trivial).trans (.put _ _ trivial)
  have h5 : OnRegs (fun _ => True) s4 s5 := .ite (.set _ _ _ trivial) (.refl _ s4)
  have same : s5.hdma = s1.hdma := (((h2.trans h3).trans h4).trans h5).hdma
  have told : s5.hdma.hostWrites = s1.hdma.hostWrites := congrArg HdmaSt.hostWrites same
  split
  · exact (s5.msix_hostWrites _).trans told
  · exact told

/-- The front work that has ended leaves with its record. -/
theorem State.retire_ended {s : State} {c : Nat} {w : Work} {r : List Work} (front : (s.chan c).fly = w :: r) (ended : w.ended.isSome = true) :
    s.retire c = ((s.writeCpl c w).setChan c { s.chan c with fly := r }).showInflight c := by
  rw [State.retire, front]
  exact if_pos ended

/-- Work that has ended waits for its record alone. -/
theorem State.finishFront_ended {s : State} {c : Nat} {w : Work} {r : List Work} (data : List Byte) (front : (s.chan c).fly = w :: r)
    (ended : w.ended.isSome = true) : s.finishFront c data = s := by
  rw [State.finishFront, front]
  exact if_pos (.inl ended)

/-! ### A host error, a flush and a stop (R363, R364, R366) -/

/-- ERR and EVT.HOST_ERR stand after a host error (R363). -/
theorem doHostErr_shown {s : State} (u : Sub) (c : Idx16) (data : List Byte) (n : Nat)
    (running : ((s.chan c).fly.find? (fun w => w.ended.isNone)).isSome = true) :
    (doHostErr u c data n s).is (R.HDMA_C_STAT_ERR c) = true ∧ (doHostErr u c data n s).is (R.HDMA_C_EVT_HOST_ERR c) = true := by
  unfold doHostErr
  extract_lets s1
  split
  · next none => exact absurd running (by rw [show (s.chan c).fly.find? (fun w => w.ended.isNone) = Option.none from none]; exact Bool.false_ne_true)
  · extract_lets s2 w2 s3 s4 s5
    have stat : R.HDMA_C_STAT c ≠ R.HDMA_EVT ∧ R.HDMA_C_STAT c ≠ R.HDMA_C_EVT c ∧ R.HDMA_C_STAT c ≠ R.HDMA_C_ERR_CNT c := by
      simp only [R.HDMA_C_STAT, R.HDMA_EVT, R.HDMA_C_EVT, R.HDMA_C_ERR_CNT]
      omega
    have event : R.HDMA_C_EVT c ≠ R.HDMA_EVT := by
      simp only [R.HDMA_C_EVT, R.HDMA_EVT]
      omega
    obtain ⟨top, evt, cnt⟩ := stat
    refine ⟨(State.is_of_rd (State.hdmaEvt_rd _ top)).trans ?_, (State.is_of_rd (State.hdmaEvt_rd _ event)).trans (s5.is_set_one (by decide))⟩
    have counted := s4.satCount_host (R.HDMA_C_ERR_CNT c) 32 1 (R.HDMA_C_EVT_SATURATED c)
    refine (State.is_of_rd (s5.rd_set_ne (R.HDMA_C_EVT_HOST_ERR c) 1 evt)).trans ?_
    exact (State.is_of_rd (counted.rd fun e => e.elim cnt evt)).trans (State.is_set_one _ (by decide))

theorem doTapFlush_due {s : State} {u : Sub} {c : Idx16} {w : Work} (waits : (s.chan c).fly.find? (fun w => w.op == 3 && w.ended.isNone) = some w)
    (due : s.get (R.HDMA_C_TAP_FLUSH_TICKS c) ≠ 0 ∧ 0 < w.moved ∧ w.lastAdd + s.get (R.HDMA_C_TAP_FLUSH_TICKS c) ≤ s.time.hTick) :
    doTapFlush u c s = (s.atH u).setWork c { w with ended := some (0, 0) } := by
  have same : ((s.atH u).chan c).fly.find? (fun w => w.op == 3 && w.ended.isNone) = some w := waits
  unfold doTapFlush
  extract_lets s1 ft
  split
  · next x found =>
    obtain rfl : w = x := Option.some.inj (same.symm.trans found)
    exact if_pos due
  · next missing => cases missing.symm.trans same

/-- The channel is off at the TAIL in force (R364). -/
def State.stoppedAt (s : State) (c stop : Nat) : State :=
  let s3 := ((((s.put (R.HDMA_C_HEAD c) stop).set (R.HDMA_C_STAT_BUSY c) 0).set (R.HDMA_C_STAT_ABORTING c) 0).set
    (R.HDMA_C_STAT_DRAINING c) 0).set (R.HDMA_C_CTRL_EN c) 0
  (s3.set (R.HDMA_C_EVT_STOPPED c) 1).setChan c { s3.chan c with stopTail := none }

theorem doChannelStopped_eq {s : State} (u : Sub) {c : Idx16} (descs : List (List Byte)) {stop : Nat} (tail : (s.chan c).stopTail = some stop)
    (idle : (s.chan c).fly = []) : doChannelStopped u c descs s = ((s.atH u).cancelPosted c stop 4096 descs).stoppedAt c stop := by
  have tail' : ((s.atH u).chan c).stopTail = some stop := tail
  have idle' : ((s.atH u).chan c).fly = [] := idle
  unfold doChannelStopped
  extract_lets s1
  rw [tail', idle']
  rfl

/-- What a channel that has stopped shows. -/
structure ChanStopped (c : Idx16) (stop : Nat) (t : State) : Prop where
  head : t.val (R.HDMA_C_HEAD c) = stop
  en : t.is (R.HDMA_C_CTRL_EN c) = false
  busy : t.is (R.HDMA_C_STAT_BUSY c) = false
  event : t.is (R.HDMA_C_EVT_STOPPED c) = true

theorem State.stoppedAt_stopped (s : State) (c : Idx16) {stop : Nat} (small : stop < 2 ^ 32) : ChanStopped c stop (s.stoppedAt c stop) := by
  have ne : R.HDMA_C_HEAD c ≠ R.HDMA_C_STAT c ∧ R.HDMA_C_HEAD c ≠ R.HDMA_C_CTRL c ∧ R.HDMA_C_HEAD c ≠ R.HDMA_C_EVT c ∧
      R.HDMA_C_CTRL c ≠ R.HDMA_C_EVT c ∧ R.HDMA_C_STAT c ≠ R.HDMA_C_EVT c ∧ R.HDMA_C_STAT c ≠ R.HDMA_C_CTRL c := by
    simp only [R.HDMA_C_HEAD, R.HDMA_C_STAT, R.HDMA_C_CTRL, R.HDMA_C_EVT]
    omega
  obtain ⟨headStat, headCtrl, headEvt, ctrlEvt, statEvt, statCtrl⟩ := ne
  unfold State.stoppedAt
  extract_lets s3
  have told (a : Nat) (h : a ≠ R.HDMA_C_EVT c) : ((s3.set (R.HDMA_C_EVT_STOPPED c) 1).setChan c { s3.chan c with stopTail := none }).rd a = s3.rd a :=
    (State.setChan_rd _ _ _ _).trans (s3.rd_set_ne (R.HDMA_C_EVT_STOPPED c) 1 h)
  refine ⟨?_, ?_, ?_, ?_⟩
  · refine (State.val_of_rd (told _ headEvt)).trans ?_
    refine (State.val_set_ne _ 0 headCtrl).trans ((State.val_set_ne _ 0 headStat).trans ?_)
    refine (State.val_set_ne _ 0 headStat).trans ((State.val_set_ne _ 0 headStat).trans ((State.val_put_self _ _).trans ?_))
    exact Nat.mod_eq_of_lt small
  · exact (State.is_of_rd (told _ ctrlEvt)).trans (State.is_set_zero _ (by decide))
  · refine (State.is_of_rd (told _ statEvt)).trans ?_
    refine (State.is_of_rd (State.rd_set_ne _ (R.HDMA_C_CTRL_EN c) 0 statCtrl)).trans ?_
    have draining : Apart (R.HDMA_C_STAT_BUSY c) (R.HDMA_C_STAT_DRAINING c) := .of_bits (by decide) (by decide)
    have aborting : Apart (R.HDMA_C_STAT_BUSY c) (R.HDMA_C_STAT_ABORTING c) := .of_bits (by decide) (by decide)
    exact (State.is_set_apart _ 0 draining).trans ((State.is_set_apart _ 0 aborting).trans (State.is_set_zero _ (by decide)))
  · exact (State.is_of_rd (State.setChan_rd _ _ _ _)).trans (s3.is_set_one (by decide))

/-! ### The statements -/

/-- Settles O2: a good descriptor is fetched (`Fetched`), and its operation then runs on the state that the fetch leaves. -/
theorem channelFetch : Obligations.ChannelFetch := by
  refine ⟨fun s u c tail on => ?post, fun s u c d sized fetch good op => ?nop, fun s u c d data sized fetch good op up => ?refill,
    fun s u c d n sized fetch good op => ?copy, fun s u c d sized fetch good op => ?tap⟩
  case post =>
    have posts : doDescriptorPost u c tail s = (s.atH u).put (R.HDMA_C_TAIL c) tail.val := if_pos on
    have stored : ((s.atH u).put (R.HDMA_C_TAIL c) tail.val).val (R.HDMA_C_TAIL c) = tail.val := (State.val_put_self _ _).trans (Nat.mod_eq_of_lt (tail.isLt.trans (by decide)))
    have regs := OnRegs.put (w := fun a => a = R.HDMA_C_TAIL c) (s.atH u) tail.val rfl
    exact answers_of_arm (congrArg (done s) posts) rfl fun t e mem => ⟨e ▸ stored, e ▸ regs.kept, mem⟩
  case nop =>
    have fetched := State.fetchDesc_fetched (s := s.atH u) (parseWork (s.val (R.HDMA_C_HEAD c)) d) sized
    have runs := State.runDesc_good (s := s.atH u) (mine := fun o => o == 0 || 3 < o) (f := fun t _ => t) (by rw [op]; rfl) fetch good
    have joins : (parseWork (s.val (R.HDMA_C_HEAD c)) d).joins = { parseWork (s.val (R.HDMA_C_HEAD c)) d with ended := some (0, 0) } := if_pos op
    refine answers_of_arm (congrArg (done s) runs) rfl fun t e mem => ?_
    obtain ⟨head, fly, -, -⟩ := e ▸ fetched
    exact ⟨head, fly.trans (by rw [joins]; rfl), mem⟩
  case refill =>
    have fetched := State.fetchDesc_fetched (s := s.atH u) (parseWork (s.val (R.HDMA_C_HEAD c)) d) sized
    have runs := State.runDesc_good (s := s.atH u) (mine := fun o => o == 1) (f := fun t w => t.refillData c w data) (by rw [op]; rfl) fetch good
    have out : R.HDMA_C_HEAD c ≠ R.ISO_TX_BYTES_LO ∧ R.HDMA_C_HEAD c ≠ R.ISO_TX_BYTES_LO + 4 := by
      simp only [R.HDMA_C_HEAD, R.ISO_TX_BYTES_LO]
      omega
    have head := (State.val_of_rd (State.refillData_rd _ (c := c) (parseWork (s.val (R.HDMA_C_HEAD c)) d) data out)).trans fetched.head
    exact answers_of_arm (congrArg (done s) ((if_pos up).trans runs)) rfl fun t e mem => ⟨e ▸ head, mem⟩
  case copy =>
    have fetched := State.fetchDesc_fetched (s := s.atH u) (parseWork (s.val (R.HDMA_C_HEAD c)) d) sized
    have runs := State.runDesc_good (s := s.atH u) (mine := fun o => o == 2) (f := fun t w => t.copyData c w n) (by rw [op]; rfl) fetch good
    have copied := State.copyData_copied ((s.atH u).fetchDesc c (parseWork (s.val (R.HDMA_C_HEAD c)) d) 0) c (parseWork (s.val (R.HDMA_C_HEAD c)) d) n
    rw [fetched.writes, fetched.mem] at copied
    have head := (State.val_of_rd (State.copyData_rd _ c (parseWork (s.val (R.HDMA_C_HEAD c)) d) n (R.HDMA_C_HEAD c))).trans fetched.head
    exact answers_of_arm (congrArg (done s) runs) rfl fun t e mem => ⟨e ▸ head, e ▸ copied, mem⟩
  case tap =>
    have fetched := State.fetchDesc_fetched (s := s.atH u) (parseWork (s.val (R.HDMA_C_HEAD c)) d) sized
    have runs := State.runDesc_good (s := s.atH u) (mine := fun o => o == 3) (f := fun t _ => t) (by rw [op]; rfl) fetch good
    have joins : (parseWork (s.val (R.HDMA_C_HEAD c)) d).joins = parseWork (s.val (R.HDMA_C_HEAD c)) d := if_neg (by change leAt d 0 1 ≠ 0; omega)
    refine answers_of_arm (congrArg (done s) runs) rfl fun t e mem => ?_
    obtain ⟨head, fly, -, -⟩ := e ▸ fetched
    exact ⟨head, fly.trans (by rw [joins]; rfl), mem⟩

/-- Settles O3: the front work leaves with its record; an error, a flush and a stop reach the states of their lemmas. -/
theorem channelCompletion : Obligations.ChannelCompletion := by
  refine ⟨fun s u c data w r front ended => ?completes, fun s u c data n running => ?error, fun s u c w waits due => ?flush,
    fun s u c descs stop tail idle small => ?stops⟩
  case completes =>
    have completes : ((s.atH u).finishFront c data).retire c = (((s.atH u).writeCpl c w).setChan c { s.chan c with fly := r }).showInflight c := by
      rw [State.finishFront_ended (s := s.atH u) data front ended]
      exact State.retire_ended (s := s.atH u) front ended
    have writes := (s.atH u).writeCpl_hostWrites c w
    have fly : (((s.atH u).writeCpl c w).setChan c { s.chan c with fly := r }).chan c = { s.chan c with fly := r } := State.chan_setChan _ c _
    exact answers_of_arm (congrArg (done s) completes) rfl fun t e mem => ⟨e ▸ congrArg ChanSt.fly fly, e ▸ writes, mem⟩
  case error =>
    have shown := doHostErr_shown u c data n running
    exact answers_of_arm rfl rfl fun t e mem => ⟨e ▸ shown.1, e ▸ shown.2, mem⟩
  case flush =>
    have fly : ((s.atH u).setWork c { w with ended := some (0, 0) }).chan c = _ := State.chan_setChan _ c _
    exact answers_of_arm (congrArg (done s) (doTapFlush_due waits due)) rfl fun t e mem => ⟨e ▸ congrArg ChanSt.fly fly, e ▸ rfl, mem⟩
  case stops =>
    have stopped := ((s.atH u).cancelPosted c stop 4096 descs).stoppedAt_stopped c small
    rw [← doChannelStopped_eq u descs tail idle] at stopped
    refine answers_of_arm rfl rfl fun t e mem => ?_
    obtain ⟨head, en, busy, event⟩ := e ▸ stopped
    exact ⟨head, en, busy, event, mem⟩

end Sys2Proof.Machine
end

section
/-! PROOFS. Change packets and tokens: submission, check, staging, approval and expiry (R405–R408): O49. -/

namespace Sys2Proof.Machine

/-! ### What a slot's operations leave of the block SEC -/

/-- The address lies in the registers of the block SEC. -/
abbrev InSec (a : Nat) : Prop := 0x80000 ≤ a ∧ a < 0x90000

/-- The block's registers, its state, the link's register and acquisition's time stay as they are. -/
structure SecKept (s t : State) : Prop where
  regs : ∀ a, InSec a → t.rd a = s.rd a
  sec : t.sec = s.sec
  linkUp : t.linkUp = s.linkUp

theorem SecKept.refl (s : State) : SecKept s s := ⟨fun _ _ => rfl, rfl, rfl⟩
theorem SecKept.trans {s t v : State} (h : SecKept s t) (h' : SecKept t v) : SecKept s v :=
  ⟨fun a ha => (h'.regs a ha).trans (h.regs a ha), h'.sec.trans h.sec, h'.linkUp.trans h.linkUp⟩

theorem logRegs_out {a : Nat} (h : LogRegs a) : ¬ InSec a ∧ a ≠ R.ISO_STAT := by
  have ldg : ∀ a ∈ ldgRegs, ¬ InSec a ∧ a ≠ R.ISO_STAT := by decide
  have clr : ∀ a ∈ clrRegs, ¬ InSec a ∧ a ≠ R.ISO_STAT := by decide
  have eq : ∀ a ∈ eqRegs, ¬ InSec a ∧ a ≠ R.ISO_STAT := by decide
  exact h.elim (ldg a) fun h => h.elim (clr a) (eq a)

theorem State.linkUp_of_rd {s t : State} (h : t.rd R.ISO_STAT = s.rd R.ISO_STAT) : t.linkUp = s.linkUp := by
  rw [State.linkUp, State.linkUp, State.get_of_rd (f := R.ISO_STAT_STATE) h]

theorem OnField.sec {w : Nat → Prop} {s t : State} (h : OnField w s t) : t.sec = s.sec := by
  obtain ⟨_, _, rfl, _⟩ := h
  rfl

theorem OnHost.sec {w : Nat → Prop} {s t : State} (h : OnHost w s t) : t.sec = s.sec := by
  obtain ⟨_, _, _, _, rfl, _⟩ := h
  rfl

/-- A Ledger entry of the island leaves the block. -/
theorem State.secEntry_kept (s : State) (inst : Nat) (vs : List Nat) : SecKept s (s.secEntry inst vs) := by
  have logged := s.ledgerH_host 0x05 0x80FF inst (vs.flatMap (fun v => leBytes 4 v))
  exact ⟨fun a ha => logged.rd fun h => (logRegs_out h).1 ha, logged.sec, State.linkUp_of_rd (logged.rd fun h => (logRegs_out h).2 rfl)⟩

theorem State.sendHF_secKept (s : State) (ty vc t64 : Nat) (pl : List Byte) (extra : Nat) : SecKept s (s.sendHF ty vc t64 pl extra) := by
  have sent := s.sendHF_field ty vc t64 pl extra
  refine ⟨fun a ha => sent.rd fun h => ?_, sent.sec, State.linkUp_of_rd (sent.rd (by decide))⟩
  rcases h with rfl | rfl <;> exact absurd ha (by decide)

/-! ### Slots -/

theorem State.esc_setEsc (s : State) {k : Nat} (x : EscSlot) (h : k < s.sec.slots.length) : (s.setEsc k x).esc k = x := by
  simp [State.esc, State.setEsc, h]

/-- An emptied slot reads as empty, in the list or beyond it. -/
theorem State.esc_setEsc_empty (s : State) (k : Nat) : (s.setEsc k {}).esc k = {} := by
  by_cases h : k < s.sec.slots.length <;> simp [State.esc, State.setEsc, h]

/-- A slot that waits to be staged is in the list. -/
theorem State.esc_length {s : State} {k a : Nat} (h : (s.esc k).stageAt = some a) : k < s.sec.slots.length := by
  by_contra out
  have empty : s.esc k = {} := by simp [State.esc, out]
  rw [empty] at h
  cases h

/-- The held writes of a slot go out: STATE alone of its registers may change, and the slot's packet stays. -/
structure Prepared (k : Nat) (s t : State) : Prop where
  regs : ∀ a, InSec a → a ≠ R.SEC_ESC_STAT k → t.rd a = s.rd a
  stat : ∀ f, f.addr = R.SEC_ESC_STAT k → Apart f (R.SEC_ESC_STAT_STATE k) → t.get f = s.get f
  state : t.get (R.SEC_ESC_STAT_STATE k) = if s.get (R.SEC_ESC_STAT_STATE k) = 2 ∧ s.is (R.SEC_ESC_STAT_FIELD k) ∧ s.linkUp then 3
    else s.get (R.SEC_ESC_STAT_STATE k)
  approved : (t.esc k).approved = (s.esc k).approved
  expiry : (t.esc k).expiry = (s.esc k).expiry
  tok : t.sec.tok = s.sec.tok

theorem escStat_inSec {k : Nat} (h : k < 4) : InSec (R.SEC_ESC_STAT k) := by
  simp only [InSec, R.SEC_ESC_STAT]
  omega

theorem State.escPrepare_prepared (s : State) {k : Nat} (small : k < 4) (h : k < s.sec.slots.length) : Prepared k s (s.escPrepare k) := by
  unfold State.escPrepare
  extract_lets x ms s1
  by_cases due : s.get (R.SEC_ESC_STAT_STATE k) = 2 ∧ s.is (R.SEC_ESC_STAT_FIELD k) ∧ s.linkUp
  · rw [if_pos due]
    have sent : SecKept s s1 := by
      have each (l : List (Nat × Nat × List Word)) : ∀ v : State,
          SecKept v (l.foldl (fun t m => t.sendHF 0x11 1 t.hNow.pack (wrPayload (escTag k m.1) m.2.1 m.2.2)) v) := by
        induction l with
        | nil => exact .refl
        | cons m l ih => exact fun v => (v.sendHF_secKept _ _ _ _ _).trans (ih _)
      exact each ms s
    have slot := s1.esc_setEsc { x with waits := ms.length, goSent := false, answered := false, asked := false, fieldDone := none, prepAt := s1.hAbs }
      (sent.sec ▸ h)
    refine ⟨fun a ha other => ?_, fun f hf apart => ?_, ?_, (congrArg EscSlot.approved slot :), (congrArg EscSlot.expiry slot :),
      (congrArg SecSt.tok sent.sec :)⟩
    · exact (State.rd_set_ne _ (R.SEC_ESC_STAT_STATE k) 3 other).trans (sent.regs a ha)
    · exact (State.get_set_apart _ 3 apart).trans (State.get_of_rd (sent.regs _ (hf ▸ escStat_inSec small)))
    · rw [if_pos due]
      exact State.get_set_self _ 3 (by decide : 0 + 3 ≤ 32)
  · rw [if_neg due]
    exact ⟨fun _ _ _ => rfl, fun _ _ _ => rfl, (if_neg due).symm, rfl, rfl, rfl⟩

/-- What the approval of a slot shows. -/
structure SlotApproved (k : Nat) (s t : State) : Prop where
  event : t.is R.SEC_EVT_APPROVED = true
  events : ∀ f, f.addr = R.SEC_EVT → Apart f R.SEC_EVT_APPROVED → t.get f = s.get f
  state : t.get (R.SEC_ESC_STAT_STATE k) = if s.is (R.SEC_ESC_STAT_FIELD k) ∧ s.linkUp then 3 else 2
  stat : ∀ f, f.addr = R.SEC_ESC_STAT k → Apart f (R.SEC_ESC_STAT_STATE k) → t.get f = s.get f
  regs : ∀ a, InSec a → a ≠ R.SEC_ESC_STAT k → a ≠ R.SEC_EVT → t.rd a = s.rd a
  approved : (t.esc k).approved = (s.esc k).approved
  expiry : (t.esc k).expiry = (s.esc k).expiry
  tok : t.sec.tok = s.sec.tok

theorem escStat_ne_evt (k : Nat) : R.SEC_ESC_STAT k ≠ R.SEC_EVT := by
  simp only [R.SEC_ESC_STAT, R.SEC_EVT]
  omega

theorem State.escApprove_approved (s : State) {k : Nat} (small : k < 4) (h : k < s.sec.slots.length) : SlotApproved k s (s.escApprove k) := by
  unfold State.escApprove
  set s1 := (s.set (R.SEC_ESC_STAT_STATE k) 2).set R.SEC_EVT_APPROVED 1 with hs1
  have entered : SecKept s1 (s1.secEntry k [digestWord (s.esc k).digest]) := s1.secEntry_kept _ _
  generalize s1.secEntry k [digestWord (s.esc k).digest] = s2 at entered
  have prepared := s2.escPrepare_prepared small (entered.sec ▸ h)
  have inStat := escStat_inSec small
  have inEvt : InSec R.SEC_EVT := by decide
  have same : s2.esc k = s.esc k := by rw [State.esc, entered.sec]; rfl
  have statOf {f : Fld} (hf : f.addr = R.SEC_ESC_STAT k) : s2.get f = (s.set (R.SEC_ESC_STAT_STATE k) 2).get f :=
    (State.get_of_rd (entered.regs _ (hf ▸ inStat))).trans (State.get_of_rd (State.rd_set_ne _ R.SEC_EVT_APPROVED 1 (hf ▸ escStat_ne_evt k)))
  have evtOf {f : Fld} (hf : f.addr = R.SEC_EVT) : (s2.escPrepare k).get f = s1.get f :=
    (State.get_of_rd (prepared.regs _ (hf ▸ inEvt) (hf ▸ (escStat_ne_evt k).symm))).trans (State.get_of_rd (entered.regs _ (hf ▸ inEvt)))
  refine ⟨(State.is_congr _ (evtOf rfl)).trans (State.is_set_one _ (by decide)), fun f hf apart => ?_, ?_, fun f hf apart => ?_, fun a ha stat evt => ?_,
    prepared.approved.trans (congrArg _ same), prepared.expiry.trans (congrArg _ same), prepared.tok.trans (congrArg SecSt.tok entered.sec)⟩
  · refine (evtOf hf).trans ((State.get_set_apart _ 1 apart).trans (State.get_of_rd (State.rd_set_ne _ (R.SEC_ESC_STAT_STATE k) 2 ?_)))
    exact hf ▸ (escStat_ne_evt k).symm
  · have two : s2.get (R.SEC_ESC_STAT_STATE k) = 2 := (statOf rfl).trans (State.get_set_self _ 2 (by decide : 0 + 3 ≤ 32))
    have field : s2.is (R.SEC_ESC_STAT_FIELD k) = s.is (R.SEC_ESC_STAT_FIELD k) :=
      State.is_congr _ ((statOf rfl).trans (State.get_set_apart _ 2 (.of_bits (by decide) (by decide))))
    have up : s2.linkUp = s.linkUp := by
      refine entered.linkUp.trans (State.linkUp_of_rd ((State.rd_set_ne _ R.SEC_EVT_APPROVED 1 (by decide)).trans (State.rd_set_ne _ _ 2 ?_)))
      simp only [R.ISO_STAT, R.SEC_ESC_STAT_STATE, R.SEC_ESC_STAT]
      omega
    rw [prepared.state, two, field, up]
    simp
  · exact (prepared.stat f hf apart).trans ((statOf hf).trans (State.get_set_apart _ 2 apart))
  · refine (prepared.regs a ha stat).trans ((entered.regs a ha).trans ?_)
    exact (State.rd_set_ne _ R.SEC_EVT_APPROVED 1 evt).trans (State.rd_set_ne _ (R.SEC_ESC_STAT_STATE k) 2 stat)

/-! ### A slot that empties (R408) -/

theorem OnRegs.sec {w : Nat → Prop} {s t : State} (h : OnRegs w s t) : t.sec = s.sec := by
  obtain ⟨_, rfl, _⟩ := h
  rfl

/-- What a slot shows that has ended without a commit. -/
structure Emptied (k result : Nat) (s t : State) : Prop where
  stat : t.val (R.SEC_ESC_STAT k) = result * 2 ^ 28
  slot : t.esc k = {}
  seq : t.val64 (R.SEC_ESC_SEQ_LO k) = 0
  event : t.is R.SEC_EVT_ENDED = true
  tok : t.sec.tok = s.sec.tok
  secStat : t.rd R.SEC_STAT = s.rd R.SEC_STAT

/-- The registers of a slot that are cleared last. -/
abbrev lateEscRegs (k a : Nat) : Prop :=
  a = R.SEC_ESC_STAGED_LO k ∨ a = R.SEC_ESC_STAGED_LO k + 4 ∨ a = R.SEC_ESC_COMMIT_LO k ∨ a = R.SEC_ESC_COMMIT_LO k + 4 ∨
    ∃ j < 8, a = R.SEC_ESC_DIGEST k j

/-- The slot reads empty, and its first registers show the result and no packet. -/
def State.escBlank (s : State) (k result : Nat) : State :=
  (((s.setEsc k {}).put (R.SEC_ESC_STAT k) (result * 2 ^ 28)).put (R.SEC_ESC_SIGNER k) 0xFFFFFFFF).put64 (R.SEC_ESC_SEQ_LO k) 0

theorem State.escBlank_stat (s : State) (k : Nat) {result : Nat} (h : result < 16) : (s.escBlank k result).val (R.SEC_ESC_STAT k) = result * 2 ^ 28 := by
  have ne : R.SEC_ESC_STAT k ≠ R.SEC_ESC_SEQ_LO k + 4 ∧ R.SEC_ESC_STAT k ≠ R.SEC_ESC_SEQ_LO k ∧ R.SEC_ESC_STAT k ≠ R.SEC_ESC_SIGNER k := by
    simp only [R.SEC_ESC_STAT, R.SEC_ESC_SEQ_LO, R.SEC_ESC_SIGNER]
    omega
  rw [State.escBlank, State.put64, State.val_put_ne _ _ ne.1, State.val_put_ne _ _ ne.2.1, State.val_put_ne _ _ ne.2.2, State.val_put_self]
  exact Nat.mod_eq_of_lt (by omega)

theorem State.escBlank_seq (s : State) (k result : Nat) : (s.escBlank k result).val64 (R.SEC_ESC_SEQ_LO k) = 0 := State.val64_put64 _ _

theorem State.escBlank_secStat (s : State) (k result : Nat) : (s.escBlank k result).rd R.SEC_STAT = s.rd R.SEC_STAT := by
  have ne : R.SEC_STAT ≠ R.SEC_ESC_SEQ_LO k + 4 ∧ R.SEC_STAT ≠ R.SEC_ESC_SEQ_LO k ∧ R.SEC_STAT ≠ R.SEC_ESC_SIGNER k ∧ R.SEC_STAT ≠ R.SEC_ESC_STAT k := by
    simp only [R.SEC_STAT, R.SEC_ESC_STAT, R.SEC_ESC_SEQ_LO, R.SEC_ESC_SIGNER]
    omega
  rw [State.escBlank, State.put64, State.rd_put_ne _ _ ne.1, State.rd_put_ne _ _ ne.2.1, State.rd_put_ne _ _ ne.2.2.1, State.rd_put_ne _ _ ne.2.2.2]
  rfl

theorem State.escBlank_sec (s : State) (k result : Nat) : (s.escBlank k result).sec = (s.setEsc k {}).sec := rfl

theorem State.escEnd_regs (s : State) (k result : Nat) : OnRegs (lateEscRegs k) (s.escBlank k result) (s.escEnd k result) := by
  refine (((OnRegs.put _ _ (.inl rfl)).trans (.put _ _ (.inr (.inl rfl)))).trans
    ((OnRegs.put _ _ (.inr (.inr (.inl rfl)))).trans (.put _ _ (.inr (.inr (.inr (.inl rfl))))))).trans (.putAll _ 0 (fun a ha => ?_) _)
  obtain ⟨j, hj, rfl⟩ := List.mem_map.mp ha
  exact .inr (.inr (.inr (.inr ⟨j, List.mem_range.mp hj, rfl⟩)))

theorem lateEscRegs_ge {k a : Nat} (h : lateEscRegs k a) :
    R.SEC_ESC_STAT k + 16 ≤ a ∧ a < R.SEC_ESC_STAT k + 0x20 ∨ R.SEC_ESC_STAT k + 0x100 ≤ a := by
  rcases h with rfl | rfl | rfl | rfl | ⟨j, hj, rfl⟩ <;> simp only [R.SEC_ESC_STAT, R.SEC_ESC_STAGED_LO, R.SEC_ESC_COMMIT_LO, R.SEC_ESC_DIGEST] <;> omega

theorem State.escFail_emptied (s : State) (k : Nat) {result : Nat} (h : result < 16) : Emptied k result s (s.escFail k result) := by
  unfold State.escFail
  have entered : SecKept s (s.secEntry k [digestWord (s.esc k).digest, result]) := s.secEntry_kept _ _
  generalize s.secEntry k [digestWord (s.esc k).digest, result] = v at entered
  have late := v.escEnd_regs k result
  have shown {a : Nat} (event : a ≠ R.SEC_EVT) (early : ¬ lateEscRegs k a) : ((v.escEnd k result).set R.SEC_EVT_ENDED 1).rd a = (v.escBlank k result).rd a :=
    (State.rd_set_ne _ R.SEC_EVT_ENDED 1 event).trans (late.kept a early)
  have early {a : Nat} (ha : a < R.SEC_ESC_STAT k + 16) : ¬ lateEscRegs k a := fun x => by
    have := lateEscRegs_ge x
    omega
  have above {i : Nat} : R.SEC_ESC_STAT k + i ≠ R.SEC_EVT := by
    simp only [R.SEC_ESC_STAT, R.SEC_EVT]
    omega
  have low : R.SEC_STAT < R.SEC_ESC_STAT k + 16 := by
    simp only [R.SEC_STAT, R.SEC_ESC_STAT]
    omega
  have seq : R.SEC_ESC_SEQ_LO k = R.SEC_ESC_STAT k + 8 := by
    simp only [R.SEC_ESC_SEQ_LO, R.SEC_ESC_STAT]
    omega
  have slots : ((v.escEnd k result).set R.SEC_EVT_ENDED 1).sec = (v.setEsc k {}).sec :=
    (State.set_sec _ _ _).trans (late.sec.trans (v.escBlank_sec k result))
  refine ⟨?_, ?_, ?_, State.is_set_one _ (by decide), ?_, ?_⟩
  · exact (State.val_of_rd (shown (above (i := 0)) (early (by omega)))).trans (v.escBlank_stat k h)
  · rw [State.esc, slots]
    exact v.esc_setEsc_empty k
  · rw [State.val64, State.val_of_rd (shown (seq ▸ above) (early (by omega))), State.val_of_rd (shown (by rw [seq, Nat.add_assoc]; exact above) (early (by omega))), ← State.val64]
    exact v.escBlank_seq k result
  · rw [slots]
    exact (congrArg SecSt.tok entered.sec :)
  · exact (shown (by decide) (early low)).trans ((v.escBlank_secStat k result).trans (entered.regs _ (by decide)))

/-! ### The check of a packet (R405) -/

theorem State.packetReason_lt (s : State) (b : List Byte) (len : Nat) (service : Bool) : s.packetReason b len service < 16 := by
  unfold State.packetReason
  extract_lets signer
  split
  · decide
  · dsimp only
    split_ifs <;> decide

/-- The reason depends on the block's high-water mark, the keys, the slots and the time alone. -/
theorem State.packetReason_congr {s t : State} (hwm : t.val64 R.SEC_PKT_HWM_LO = s.val64 R.SEC_PKT_HWM_LO) (now : t.hAbs = s.hAbs)
    (keys : t.sec.keys = s.sec.keys) (slots : t.sec.slots = s.sec.slots) (b : List Byte) (len : Nat) (service : Bool) :
    t.packetReason b len service = s.packetReason b len service := by
  have new : t.psetNew = s.psetNew := by rw [State.psetNew, State.psetNew, keys]
  have enrolled : t.keyOf = s.keyOf := by
    funext k
    rw [State.keyOf, State.keyOf, keys]
  have signerKey : t.signerKey = s.signerKey := by
    funext ops signer
    rw [State.signerKey, State.signerKey, new, enrolled]
  rw [State.packetReason, State.packetReason, hwm, now, keys, slots, new, signerKey]

/-- A packet is not taken while every slot is reserved (reason 8). -/
theorem State.packetReason_free {s : State} {b : List Byte} {len : Nat} {service : Bool} (good : s.packetReason b len service = 0) :
    s.sec.slots.all (fun x => x.used) = false := by
  refine Bool.eq_false_of_not_eq_true fun full => ?_
  revert good
  unfold State.packetReason
  extract_lets signer
  split
  · decide
  · dsimp only
    rw [if_pos full]
    split_ifs <;> decide

/-- The lowest free slot is in the list. -/
theorem firstFree_lt {l : List EscSlot} (h : l.all (fun x => x.used) = false) : (l.findIdx? (fun x => !x.used)).getD 0 < l.length := by
  obtain ⟨x, hx, free⟩ := List.all_eq_false.mp h
  have some : l.any (fun x => !x.used) = true := List.any_eq_true.mpr ⟨x, hx, by simpa using free⟩
  obtain ⟨i, hi⟩ := Option.isSome_iff_exists.mp (List.findIdx?_isSome.trans some)
  rw [hi]
  exact (List.findIdx?_eq_some_iff_getElem.mp hi).1

/-- What a packet that is taken shows in its slot. -/
structure PacketTaken (b : List Byte) (len k : Nat) (s t : State) : Prop where
  pkt : t.sec.pkt = s.sec.pkt
  secStat : t.rd R.SEC_STAT = s.rd R.SEC_STAT
  used : (t.esc k).used = true
  ops : (t.esc k).ops = (packetOps b len).getD []
  stageAt : (t.esc k).stageAt = some (s.hAbs + 1)
  signer : (t.esc k).signer = leAt b 58 1
  hwm : t.val64 R.SEC_PKT_HWM_LO = leAt b 40 8

/-- The packet leaves the window, and BUSY falls. -/
def State.packetChecked (s : State) : State := ({ s with sec := { s.sec with pkt := none } }).set R.SEC_STAT_VERIFY_BUSY 0

theorem State.packetChecked_regs (s : State) {a : Nat} (h : a ≠ R.SEC_STAT) : s.packetChecked.rd a = s.rd a := State.rd_set_ne _ R.SEC_STAT_VERIFY_BUSY 0 h

theorem State.packetChecked_hAbs (s : State) : s.packetChecked.hAbs = s.hAbs := by
  rw [State.hAbs, State.era, State.val_of_rd (s.packetChecked_regs (by decide))]
  rfl

theorem State.packetChecked_reason (s : State) (b : List Byte) (len : Nat) (service : Bool) :
    s.packetChecked.packetReason b len service = s.packetReason b len service := by
  refine State.packetReason_congr ?_ s.packetChecked_hAbs rfl rfl b len service
  rw [State.val64, State.val64, State.val_of_rd (s.packetChecked_regs (by decide)), State.val_of_rd (s.packetChecked_regs (by decide))]

theorem State.packetChecked_service (s : State) : s.packetChecked.is R.SEC_STAT_SERVICE_EN = s.is R.SEC_STAT_SERVICE_EN := State.is_set_apart _ 0 (by decide)

/-- A refusal: its reason in a field of SEC_STAT, its event and the count (R405, R407). -/
def State.refusal (s : State) (reason event : Fld) (why : Nat) : State := ((s.set reason why).set event 1).secRefused

/-- The packet is refused, and the Ledger takes an entry (R405). -/
def State.packetRefused (s : State) (b : List Byte) (len why : Nat) : State :=
  (s.refusal R.SEC_STAT_PKT_REFUSE R.SEC_EVT_PKT_REFUSED why).secEntry 0 [digestWord (Config.shake256 (b.take (len - 3309)))]

/-- The packet takes the lowest free slot (R405). -/
def State.packetTaken (s : State) (b : List Byte) (len : Nat) : State :=
  let digest := Config.shake256 (b.take (len - 3309))
  let k := (s.sec.slots.findIdx? (fun x => !x.used)).getD 0
  let x : EscSlot := { ops := (packetOps b len).getD [], digest := digest, base := (b.drop 64).take 32, signer := leAt b 58 1, commitAt := packetCommit b,
                       stageAt := some (s.hAbs + 1), used := true, first := s.psetNew }
  let s2 := (s.setEsc k x).put64 R.SEC_PKT_HWM_LO (leAt b 40 8)
  ((s2.put64 (R.SEC_ESC_SEQ_LO k) (leAt b 40 8)).putDigest (R.SEC_ESC_DIGEST k) digest).put (R.SEC_ESC_SIGNER k) (0xFFFF0000 + leAt b 58 1)

theorem State.doPacketCheck_eq {s : State} {b : List Byte} (waits : s.sec.pkt = some b) :
    s.doPacketCheck = if s.packetReason b (s.val R.SEC_PKT_LEN) (s.is R.SEC_STAT_SERVICE_EN) ≠ 0
      then s.packetChecked.packetRefused b (s.val R.SEC_PKT_LEN) (s.packetReason b (s.val R.SEC_PKT_LEN) (s.is R.SEC_STAT_SERVICE_EN))
      else s.packetChecked.packetTaken b (s.val R.SEC_PKT_LEN) := by
  rw [← s.packetChecked_service, ← s.packetChecked_reason]
  rw [State.doPacketCheck, waits]
  rfl

/-- What a refusal shows. -/
structure SecRefused (reason event : Fld) (why : Nat) (s t : State) : Prop where
  sec : t.sec = s.sec
  reason : t.get reason = why
  busy : t.is R.SEC_STAT_VERIFY_BUSY = s.is R.SEC_STAT_VERIFY_BUSY
  event : t.is event = true
  count : t.val R.SEC_REFUSALS = min (s.val R.SEC_REFUSALS + 1) (2 ^ 32 - 1)

theorem State.refusal_refused (s : State) {lo bit why : Nat} (word : 1 ≤ lo ∧ lo + 4 ≤ 32) (low : bit < 8) (h : why < 16) :
    SecRefused ⟨R.SEC_STAT, lo, 4⟩ ⟨R.SEC_EVT, bit, 1⟩ why s (s.refusal ⟨R.SEC_STAT, lo, 4⟩ ⟨R.SEC_EVT, bit, 1⟩ why) := by
  unfold State.refusal
  set v := (s.set ⟨R.SEC_STAT, lo, 4⟩ why).set ⟨R.SEC_EVT, bit, 1⟩ 1 with hv
  have counted : OnField (fun a => a = R.SEC_REFUSALS ∨ a = R.SEC_EVT) v v.secRefused := v.satCount_field _ _ _ _
  have reason : (s.set ⟨R.SEC_STAT, lo, 4⟩ why).get ⟨R.SEC_STAT, lo, 4⟩ = why :=
    (State.get_set_self s (f := ⟨R.SEC_STAT, lo, 4⟩) why word.2).trans (Nat.mod_eq_of_lt h)
  have busy : (s.set ⟨R.SEC_STAT, lo, 4⟩ why).is R.SEC_STAT_VERIFY_BUSY = s.is R.SEC_STAT_VERIFY_BUSY :=
    s.is_set_apart why (.of_bits ⟨show 0 + 1 ≤ 32 by decide, word.2⟩ (.inl word.1))
  have stat : v.secRefused.rd R.SEC_STAT = (s.set ⟨R.SEC_STAT, lo, 4⟩ why).rd R.SEC_STAT :=
    (counted.rd (by decide)).trans (State.rd_set_ne _ ⟨R.SEC_EVT, bit, 1⟩ 1 (show R.SEC_STAT ≠ R.SEC_EVT by decide))
  have told : v.secRefused.get ⟨R.SEC_EVT, bit, 1⟩ = v.get ⟨R.SEC_EVT, bit, 1⟩ :=
    v.satCount_get _ 1 _ 32 _ (show R.SEC_EVT ≠ R.SEC_REFUSALS by decide) (.of_bits (by omega) (.inl (by omega)))
  refine ⟨?_, (State.get_of_rd (f := ⟨R.SEC_STAT, lo, 4⟩) stat).trans reason, (State.is_of_rd (f := R.SEC_STAT_VERIFY_BUSY) stat).trans busy, (State.is_congr _ told).trans (State.is_set_one _ (by omega)), ?_⟩
  · exact counted.sec.trans ((State.set_sec _ _ _).trans (State.set_sec _ _ _))
  · refine (v.satCount_val _ 1 _ (by decide)).trans ?_
    rw [hv, State.val_set_ne _ _ (show R.SEC_REFUSALS ≠ R.SEC_EVT by decide), State.val_set_ne _ _ (show R.SEC_REFUSALS ≠ R.SEC_STAT by decide)]

theorem SecRefused.kept {reason event : Fld} {why : Nat} {s t v : State} (h : SecRefused reason event why s t) (kept : SecKept t v)
    (hr : InSec reason.addr) (he : InSec event.addr) : SecRefused reason event why s v :=
  ⟨kept.sec.trans h.sec, (State.get_of_rd (kept.regs _ hr)).trans h.reason, (State.is_of_rd (kept.regs _ (by decide))).trans h.busy,
    (State.is_of_rd (kept.regs _ he)).trans h.event, (State.val_of_rd (kept.regs _ (by decide))).trans h.count⟩

theorem State.packetRefused_refused (s : State) (b : List Byte) (len : Nat) {why : Nat} (h : why < 16) :
    SecRefused R.SEC_STAT_PKT_REFUSE R.SEC_EVT_PKT_REFUSED why s (s.packetRefused b len why) :=
  (s.refusal_refused (lo := 28) (bit := 4) (by decide) (by decide) h).kept (State.secEntry_kept _ _ _) (by decide) (by decide)

theorem State.packetTaken_taken {s : State} (b : List Byte) (len : Nat) (free : s.sec.slots.all (fun x => x.used) = false) :
    PacketTaken b len ((s.sec.slots.findIdx? (fun x => !x.used)).getD 0) s (s.packetTaken b len) := by
  have lt := firstFree_lt free
  unfold State.packetTaken
  extract_lets digest k x s2
  have high : OnRegs (fun a => 0x80100 ≤ a) s2 (((s2.put64 (R.SEC_ESC_SEQ_LO k) (leAt b 40 8)).putDigest (R.SEC_ESC_DIGEST k) digest).put (R.SEC_ESC_SIGNER k)
      (0xFFFF0000 + leAt b 58 1)) := by
    have seq : OnRegs (fun a => 0x80100 ≤ a) s2 (s2.put64 (R.SEC_ESC_SEQ_LO k) (leAt b 40 8)) := by
      refine (OnRegs.put _ _ ?_).trans (.put _ _ ?_) <;> simp only [R.SEC_ESC_SEQ_LO] <;> omega
    have digests := ((s2.put64 (R.SEC_ESC_SEQ_LO k) (leAt b 40 8)).putDigest_regs (R.SEC_ESC_DIGEST k) digest).mono (w' := fun a => 0x80100 ≤ a) (by
      rintro a ⟨j, rfl⟩
      simp only [R.SEC_ESC_DIGEST]
      omega)
    refine (seq.trans digests).trans (.put _ _ ?_)
    simp only [R.SEC_ESC_SIGNER]
    omega
  generalize ((s2.put64 (R.SEC_ESC_SEQ_LO k) (leAt b 40 8)).putDigest (R.SEC_ESC_DIGEST k) digest).put (R.SEC_ESC_SIGNER k) (0xFFFF0000 + leAt b 58 1) = t at high
  have sec : t.sec = (s.setEsc k x).sec := high.sec.trans (State.put64_sec _ _ _)
  have slot : t.esc k = x := by
    rw [State.esc, sec]
    exact s.esc_setEsc x lt
  have word : leAt b 40 8 < 2 ^ 64 := leAt_lt b 40 8
  refine ⟨(congrArg SecSt.pkt sec :), ?_, congrArg EscSlot.used slot, congrArg EscSlot.ops slot, congrArg EscSlot.stageAt slot,
    congrArg EscSlot.signer slot, ?_⟩
  · refine (high.kept _ (by decide)).trans ?_
    exact (State.rd_put_ne _ _ (by decide)).trans (State.rd_put_ne _ _ (by decide))
  · exact (high.val64 (by decide) (by decide)).trans ((State.val64_put64 _ _).trans (Nat.mod_eq_of_lt word))

/-! ### Staging (R406) -/

/-- What a slot shows once it is staged and before it is approved. -/
structure SlotStaged (k : Nat) (s t : State) : Prop where
  slots : t.sec.slots.length = s.sec.slots.length
  expiry : (t.esc k).expiry = s.hAbs + 8640000000
  state : t.get (R.SEC_ESC_STAT_STATE k) = 1
  loosens : t.is (R.SEC_ESC_STAT_LOOSENS k) = s.slotLoosens k
  field : t.is (R.SEC_ESC_STAT_FIELD k) = (s.esc k).ops.any opField
  stagedAt : t.val64 (R.SEC_ESC_STAGED_LO k) = s.hNow.pack
  event : t.is R.SEC_EVT_STAGED = true
  linkUp : t.linkUp = s.linkUp

/-- A slot is staged and classified (R405, R406). -/
def State.slotShown (s : State) (k : Nat) (loose : Bool) : State :=
  let x := s.esc k
  let s1 := s.setEsc k { x with stageAt := none, expiry := s.hAbs + 8640000000 }
  let s2 := ((s1.put (R.SEC_ESC_STAT k) 1).set (R.SEC_ESC_STAT_LOOSENS k) (if loose then 1 else 0)).set (R.SEC_ESC_STAT_FIELD k)
    (if x.ops.any opField then 1 else 0)
  ((s2.put64 (R.SEC_ESC_STAGED_LO k) s2.hNow.pack).set R.SEC_EVT_STAGED 1).secEntry k [digestWord x.digest]

/-- Classification does not depend on the slot's expiry. -/
theorem State.slotLoosens_expiry {s : State} {k : Nat} (expiry : Nat) (h : k < s.sec.slots.length) :
    (s.setEsc k { s.esc k with stageAt := none, expiry := expiry }).slotLoosens k = s.slotLoosens k := by
  have ops : ((s.setEsc k { s.esc k with stageAt := none, expiry := expiry }).esc k).ops = (s.esc k).ops := by rw [s.esc_setEsc _ h]
  have same : (s.setEsc k { s.esc k with stageAt := none, expiry := expiry }).opLoosens = s.opLoosens := by
    funext o
    cases o <;> rfl
  rw [State.slotLoosens, ops, same]
  rfl

theorem State.doSlotStaged_eq {s : State} {k a : Nat} (waits : (s.esc k).stageAt = some a) (due : a ≤ s.hAbs) (start : s.time.hUnit = 0) :
    s.doSlotStaged k = if s.slotLoosens k then s.slotShown k (s.slotLoosens k) else (s.slotShown k (s.slotLoosens k)).escApprove k := by
  have guard : ((s.esc k).stageAt.any (fun t => t ≤ s.hAbs) && s.time.hUnit == 0) = true := by simp [waits, due, start]
  have loose := State.slotLoosens_expiry (s.hAbs + 8640000000) (State.esc_length waits)
  unfold State.doSlotStaged
  extract_lets x s1 loose' s2 s3
  rw [if_pos guard]
  have same : loose' = s.slotLoosens k := loose
  rw [← same]
  rfl

theorem State.is_set_ite (s : State) {a lo : Nat} (v : Bool) (h : lo + 1 ≤ 32) : (s.set ⟨a, lo, 1⟩ (if v then 1 else 0)).is ⟨a, lo, 1⟩ = v := by
  cases v
  · exact s.is_set_zero h
  · exact s.is_set_one h

theorem State.get_put_one (s : State) (k : Nat) : (s.put (R.SEC_ESC_STAT k) 1).get (R.SEC_ESC_STAT_STATE k) = 1 := by
  have word : (s.put (R.SEC_ESC_STAT k) 1).rd (R.SEC_ESC_STAT k) = 1#32 := State.rd_wr_self _ _ _
  exact congrArg (fieldOf · 0 3) word

theorem State.slotShown_staged {s : State} {k : Nat} (small : k < 4) (h : k < s.sec.slots.length) : SlotStaged k s (s.slotShown k (s.slotLoosens k)) := by
  unfold State.slotShown
  extract_lets x s1 s2
  have stagedStat : R.SEC_ESC_STAT k ≠ R.SEC_ESC_STAGED_LO k ∧ R.SEC_ESC_STAT k ≠ R.SEC_ESC_STAGED_LO k + 4 := by
    simp only [R.SEC_ESC_STAT, R.SEC_ESC_STAGED_LO]
    omega
  have staged : R.SEC_ESC_STAGED_LO k ≠ R.SEC_EVT ∧ R.SEC_ESC_STAGED_LO k + 4 ≠ R.SEC_EVT ∧ InSec (R.SEC_ESC_STAGED_LO k) ∧ InSec (R.SEC_ESC_STAGED_LO k + 4) := by
    simp only [R.SEC_ESC_STAGED_LO, R.SEC_EVT, InSec]
    omega
  have iso : R.ISO_STAT ≠ R.SEC_ESC_STAGED_LO k ∧ R.ISO_STAT ≠ R.SEC_ESC_STAGED_LO k + 4 ∧ R.ISO_STAT ≠ R.SEC_ESC_STAT k := by
    simp only [R.ISO_STAT, R.SEC_ESC_STAGED_LO, R.SEC_ESC_STAT]
    omega
  obtain ⟨lowNe, highNe, inLow, inHigh⟩ := staged
  obtain ⟨isoLow, isoHigh, isoStat⟩ := iso
  set v := (s2.put64 (R.SEC_ESC_STAGED_LO k) s2.hNow.pack).set R.SEC_EVT_STAGED 1 with hv
  have entered : SecKept v (v.secEntry k [digestWord x.digest]) := v.secEntry_kept _ _
  have stat {f : Fld} (hf : f.addr = R.SEC_ESC_STAT k) : (v.secEntry k [digestWord x.digest]).get f = s2.get f := by
    refine (State.get_of_rd (entered.regs _ (hf ▸ escStat_inSec small))).trans (State.get_of_rd ((State.rd_set_ne _ R.SEC_EVT_STAGED 1 ?_).trans ?_))
    · exact hf ▸ escStat_ne_evt k
    · exact (State.rd_put_ne _ _ (hf ▸ stagedStat.2)).trans (State.rd_put_ne _ _ (hf ▸ stagedStat.1))
  have sec : v.sec = s1.sec := (State.set_sec _ _ _).trans ((State.put64_sec _ _ _).trans ((State.set_sec _ _ _).trans ((State.set_sec _ _ _).trans
    (State.put_sec _ _ _))))
  have slot : (v.secEntry k [digestWord x.digest]).esc k = { x with stageAt := none, expiry := s.hAbs + 8640000000 } := by
    rw [State.esc, entered.sec, sec]
    exact s.esc_setEsc _ h
  refine ⟨(congrArg (fun y : SecSt => y.slots.length) (entered.sec.trans sec)).trans (List.length_set ..), congrArg EscSlot.expiry slot, ?_, ?_, ?_, ?_, ?_, ?_⟩
  · refine (stat rfl).trans ((State.get_set_apart _ _ (.of_bits (by decide) (by decide))).trans ((State.get_set_apart _ _ (.of_bits (by decide) (by decide))).trans ?_))
    exact s1.get_put_one k
  · refine (State.is_congr _ (stat rfl)).trans ((State.is_set_apart _ _ (.of_bits (by decide) (by decide))).trans ?_)
    exact State.is_set_ite _ _ (by decide)
  · exact (State.is_congr _ (stat rfl)).trans (State.is_set_ite _ _ (by decide))
  · rw [State.val64, State.val_of_rd (entered.regs _ inLow), State.val_of_rd (entered.regs _ inHigh), hv,
      State.val_set_ne _ _ lowNe, State.val_set_ne _ _ highNe, ← State.val64]
    have now : s2.hNow = s.hNow := rfl
    rw [now]
    exact (State.val64_put64 _ _).trans (Nat.mod_eq_of_lt (T64.pack_lt _))
  · exact (State.is_of_rd (entered.regs _ (by decide))).trans (State.is_set_one _ (by decide))
  · refine entered.linkUp.trans (State.linkUp_of_rd ((State.rd_set_ne _ R.SEC_EVT_STAGED 1 (by decide)).trans ?_))
    refine (State.rd_put_ne _ _ isoHigh).trans ((State.rd_put_ne _ _ isoLow).trans ?_)
    exact (State.rd_set_ne _ _ _ isoStat).trans ((State.rd_set_ne _ _ _ isoStat).trans (State.rd_put_ne _ _ isoStat))

theorem State.val64_of_rd {s t : State} {a : Nat} (low : t.rd a = s.rd a) (high : t.rd (a + 4) = s.rd (a + 4)) : t.val64 a = s.val64 a := by
  rw [State.val64, State.val64, State.val_of_rd low, State.val_of_rd high]

/-- A slot that is approved as it is staged shows its staging and its classification all the same. -/
theorem SlotStaged.approved {k : Nat} {s v t : State} (h : SlotStaged k s v) (h' : SlotApproved k v t) (small : k < 4) :
    (t.esc k).expiry = s.hAbs + 8640000000 ∧ t.is (R.SEC_ESC_STAT_LOOSENS k) = s.slotLoosens k ∧
      t.is (R.SEC_ESC_STAT_FIELD k) = (s.esc k).ops.any opField ∧ t.val64 (R.SEC_ESC_STAGED_LO k) = s.hNow.pack ∧ t.is R.SEC_EVT_STAGED = true := by
  obtain ⟨-, expiry, -, loosens, field, stagedAt, event, -⟩ := h
  obtain ⟨-, events, -, stat, regs, -, expiryKept, -⟩ := h'
  have low : InSec (R.SEC_ESC_STAGED_LO k) ∧ R.SEC_ESC_STAGED_LO k ≠ R.SEC_ESC_STAT k ∧ R.SEC_ESC_STAGED_LO k ≠ R.SEC_EVT := by
    simp only [InSec, R.SEC_ESC_STAGED_LO, R.SEC_ESC_STAT, R.SEC_EVT]
    omega
  have high : InSec (R.SEC_ESC_STAGED_LO k + 4) ∧ R.SEC_ESC_STAGED_LO k + 4 ≠ R.SEC_ESC_STAT k ∧ R.SEC_ESC_STAGED_LO k + 4 ≠ R.SEC_EVT := by
    simp only [InSec, R.SEC_ESC_STAGED_LO, R.SEC_ESC_STAT, R.SEC_EVT]
    omega
  refine ⟨expiryKept.trans expiry, ?_, ?_, ?_, ?_⟩
  · exact (State.is_congr _ (stat _ rfl (.of_bits (by decide) (by decide)))).trans loosens
  · exact (State.is_congr _ (stat _ rfl (.of_bits (by decide) (by decide)))).trans field
  · exact (State.val64_of_rd (regs _ low.1 low.2.1 low.2.2) (regs _ high.1 high.2.1 high.2.2)).trans stagedAt
  · exact (State.is_congr _ (events _ rfl (by decide))).trans event

/-! ### The check of a token (R407, R408) -/

theorem State.tokenReason_lt (s : State) (b : List Byte) (service : Bool) : s.tokenReason b service < 16 := by
  unfold State.tokenReason
  dsimp only
  split_ifs <;> decide

/-- A token names one of the four slots (reason 1). -/
theorem State.tokenReason_slot {s : State} {b : List Byte} {service : Bool} (good : s.tokenReason b service = 0) : leAt b 6 1 < 4 := by
  by_contra out
  revert good
  unfold State.tokenReason
  dsimp only
  rw [if_pos (.inr (.inr (.inl (by omega))))]
  decide

/-- The reason depends on the slot's STATE, the keys, the slots and the time alone. -/
theorem State.tokenReason_congr {s t : State} {b : List Byte}
    (state : t.get (R.SEC_ESC_STAT_STATE (leAt b 6 1)) = s.get (R.SEC_ESC_STAT_STATE (leAt b 6 1))) (now : t.hAbs = s.hAbs)
    (keys : t.sec.keys = s.sec.keys) (slots : t.sec.slots = s.sec.slots) (service : Bool) : t.tokenReason b service = s.tokenReason b service := by
  have slot : t.esc = s.esc := by
    funext k
    rw [State.esc, State.esc, slots]
  have enrolled : t.tokenKeys = s.tokenKeys := by
    funext k
    rw [State.tokenKeys, State.tokenKeys, slot, keys]
  rw [State.tokenReason, State.tokenReason, slot, enrolled, state, now]

/-- The token leaves the window, BUSY falls, and the pin's level is shown. -/
def State.tokenChecked (s : State) (service : Bool) : State :=
  (({ s with sec := { s.sec with tok := none } }).set R.SEC_STAT_VERIFY_BUSY 0).set R.SEC_STAT_SERVICE_EN (if service then 1 else 0)

theorem State.tokenChecked_regs (s : State) (service : Bool) {a : Nat} (h : a ≠ R.SEC_STAT) : (s.tokenChecked service).rd a = s.rd a :=
  (State.rd_set_ne _ R.SEC_STAT_SERVICE_EN _ h).trans (State.rd_set_ne _ R.SEC_STAT_VERIFY_BUSY 0 h)

theorem State.tokenChecked_busy (s : State) (service : Bool) : (s.tokenChecked service).is R.SEC_STAT_VERIFY_BUSY = false :=
  (State.is_set_apart _ _ (by decide)).trans (State.is_set_zero _ (by decide))

theorem State.tokenChecked_reason (s : State) (b : List Byte) (service : Bool) : (s.tokenChecked service).tokenReason b service = s.tokenReason b service := by
  refine State.tokenReason_congr (State.get_of_rd (s.tokenChecked_regs service ?_)) ?_ rfl rfl service
  · simp only [R.SEC_ESC_STAT_STATE, R.SEC_ESC_STAT, R.SEC_STAT]
    omega
  · rw [State.hAbs, State.era, State.val_of_rd (s.tokenChecked_regs service (by decide))]
    rfl

/-- The slot takes an APPROVE with its approver, or a co-signature. -/
def State.tokenTaken (s : State) (b : List Byte) : State :=
  if leAt b 8 1 = 1 then (s.setEsc (leAt b 6 1) { s.esc (leAt b 6 1) with approved := true }).set (R.SEC_ESC_SIGNER_APPROVER (leAt b 6 1)) (leAt b 7 1)
  else s.set (R.SEC_ESC_STAT_COSIGNED (leAt b 6 1)) 1

/-- A staged slot that is ready becomes APPROVED. -/
def State.approvedIfReady (s : State) (k : Nat) : State :=
  if s.get (R.SEC_ESC_STAT_STATE k) = 1 ∧ s.escReady k (s.slotLoosens k) ∧ !s.faultHold then s.escApprove k else s

theorem State.doTokenCheck_eq {s : State} {b : List Byte} (service : Bool) (waits : s.sec.tok = some b) :
    s.doTokenCheck service = if s.tokenReason b service ≠ 0 then (s.tokenChecked service).refusal R.SEC_STAT_TOK_REFUSE R.SEC_EVT_TOK_REFUSED (s.tokenReason b service)
      else if leAt b 8 1 = 3 then (s.tokenChecked service).escFail (leAt b 6 1) 6
      else ((s.tokenChecked service).tokenTaken b).approvedIfReady (leAt b 6 1) := by
  rw [← s.tokenChecked_reason]
  rw [State.doTokenCheck, waits]
  rfl

/-- What a token that is taken shows. -/
structure TokenTaken (b : List Byte) (s t : State) : Prop where
  length : t.sec.slots.length = s.sec.slots.length
  tok : t.sec.tok = s.sec.tok
  secStat : t.rd R.SEC_STAT = s.rd R.SEC_STAT
  approve : leAt b 8 1 = 1 → (t.esc (leAt b 6 1)).approved = true ∧ t.get (R.SEC_ESC_SIGNER_APPROVER (leAt b 6 1)) = leAt b 7 1
  cosign : leAt b 8 1 ≠ 1 → t.is (R.SEC_ESC_STAT_COSIGNED (leAt b 6 1)) = true

theorem State.tokenTaken_taken {s : State} {b : List Byte} (h : leAt b 6 1 < s.sec.slots.length) : TokenTaken b s (s.tokenTaken b) := by
  have byte : leAt b 7 1 < 256 := leAt_lt b 7 1
  unfold State.tokenTaken
  by_cases approves : leAt b 8 1 = 1
  · rw [if_pos approves]
    have sec := (s.setEsc (leAt b 6 1) { s.esc (leAt b 6 1) with approved := true }).set_sec (R.SEC_ESC_SIGNER_APPROVER (leAt b 6 1)) (leAt b 7 1)
    refine ⟨(congrArg (fun x : SecSt => x.slots.length) sec).trans (List.length_set ..), (congrArg SecSt.tok sec :), State.rd_set_ne _ _ _ ?_,
      fun _ => ⟨?_, ?_⟩, fun no => absurd approves no⟩
    · simp only [R.SEC_STAT, R.SEC_ESC_SIGNER_APPROVER, R.SEC_ESC_SIGNER]
      omega
    · rw [State.esc, sec]
      exact congrArg EscSlot.approved (s.esc_setEsc _ h)
    · exact (State.get_set_self _ _ (by decide : 16 + 16 ≤ 32)).trans (Nat.mod_eq_of_lt (byte.trans (show 256 < 2 ^ 16 by decide)))
  · rw [if_neg approves]
    refine ⟨rfl, rfl, State.rd_set_ne _ _ _ ?_, fun yes => absurd yes approves, fun _ => State.is_set_one _ (by decide)⟩
    simp only [R.SEC_STAT, R.SEC_ESC_STAT_COSIGNED, R.SEC_ESC_STAT]
    omega

/-- What an approval leaves of the slot: its registers but for STATE, its token marks, and SEC_STAT. -/
structure SlotKept (k : Nat) (s t : State) : Prop where
  stat : ∀ f, f.addr = R.SEC_ESC_STAT k → Apart f (R.SEC_ESC_STAT_STATE k) → t.get f = s.get f
  regs : ∀ a, InSec a → a ≠ R.SEC_ESC_STAT k → a ≠ R.SEC_EVT → t.rd a = s.rd a
  approved : (t.esc k).approved = (s.esc k).approved
  tok : t.sec.tok = s.sec.tok

theorem State.approvedIfReady_kept (s : State) {k : Nat} (small : k < 4) (h : k < s.sec.slots.length) : SlotKept k s (s.approvedIfReady k) := by
  unfold State.approvedIfReady
  split
  · obtain ⟨-, -, -, stat, regs, approved, -, tok⟩ := s.escApprove_approved small h
    exact ⟨stat, regs, approved, tok⟩
  · exact ⟨fun _ _ _ => rfl, fun _ _ _ _ => rfl, rfl, rfl⟩

/-! ### Submission (R405, R407) -/

/-- The bytes of the packet in the window. -/
def State.packetWindow (s : State) : List Byte :=
  (List.range (min 24576 ((s.val R.SEC_PKT_LEN + 3) / 4))).flatMap (fun k => leBytes 4 (s.val (R.SEC_PKT_WORD k)))

/-- The bytes of the token in the window. -/
def State.tokenWindow (s : State) : List Byte := ((List.range 1024).flatMap (fun k => leBytes 4 (s.val (R.SEC_TOK_WORD k)))).take 3437

/-- The level of the SERVICE pin is shown. -/
def State.serviceShown (s : State) (service : Bool) : State := s.set R.SEC_STAT_SERVICE_EN (if service then 1 else 0)

theorem State.serviceShown_busy (s : State) (service : Bool) : (s.serviceShown service).is R.SEC_STAT_VERIFY_BUSY = s.is R.SEC_STAT_VERIFY_BUSY :=
  State.is_set_apart _ _ (by decide)

theorem State.serviceShown_window (s : State) (service : Bool) : (s.serviceShown service).packetWindow = s.packetWindow := by
  have len : (s.serviceShown service).val R.SEC_PKT_LEN = s.val R.SEC_PKT_LEN := State.val_set_ne _ _ (by decide)
  have word (k : Nat) : (s.serviceShown service).val (R.SEC_PKT_WORD k) = s.val (R.SEC_PKT_WORD k) := by
    refine State.val_set_ne _ _ ?_
    simp only [R.SEC_PKT_WORD, R.SEC_STAT_SERVICE_EN, R.SEC_STAT]
    omega
  simp only [State.packetWindow, len, word]

/-- The packet in the window is being verified. -/
def State.packetWaits (s : State) : State := ({ s with sec := { s.sec with pkt := some s.packetWindow } }).set R.SEC_STAT_VERIFY_BUSY 1

theorem State.doPacketSubmit_free {s : State} (service : Bool) (free : s.is R.SEC_STAT_VERIFY_BUSY = false) :
    s.doPacketSubmit service = (s.serviceShown service).packetWaits :=
  if_neg (by rw [show (s.set R.SEC_STAT_SERVICE_EN (if service then 1 else 0)).is R.SEC_STAT_VERIFY_BUSY = false from (s.serviceShown_busy service).trans free]; exact Bool.false_ne_true)

theorem State.doPacketSubmit_busy {s : State} (service : Bool) (busy : s.is R.SEC_STAT_VERIFY_BUSY = true) :
    s.doPacketSubmit service = s.serviceShown service := if_pos ((s.serviceShown_busy service).trans busy)

theorem State.serviceShown_regs (s : State) (service : Bool) : OnRegs (fun a => a = R.SEC_STAT) s (s.serviceShown service) := .set _ _ _ rfl

/-! ### The statement -/

/-- Settles O49: an equation for each command, and for each outcome what it shows (`SecRefused`, `PacketTaken`, `SlotStaged`, `SlotApproved`, `Emptied`). -/
theorem escrowPackets : Obligations.EscrowPackets := by
  refine ⟨fun s u service on free => ?submit, fun s u service on busy => ?submitBusy, fun s u b waits => ?packet, fun s k a waits due start => ?staged,
    fun s k a waits due start tight local_ => ?tightens, fun s u on free => ?token, fun s u on busy => ?tokenBusy, fun s u service b waits four => ?tokenCheck,
    fun s k held open_ due => ?expires, fun s k held early => ?keeps⟩
  case submit =>
    have submits := (State.ifOn_of_powered (s := s.atH u) (fun t => t.doPacketSubmit service) on).trans (State.doPacketSubmit_free service free)
    have pkt : (((s.atH u).serviceShown service).packetWaits).sec.pkt = some s.packetWindow := congrArg some ((s.atH u).serviceShown_window service)
    have shown : (((s.atH u).serviceShown service).packetWaits).is R.SEC_STAT_SERVICE_EN = service :=
      (State.is_set_apart _ 1 (by decide)).trans (State.is_set_ite (s.atH u) service (by decide))
    have kept : RegsKept s (((s.atH u).serviceShown service).packetWaits) (fun a => a = R.SEC_STAT) := fun a ha =>
      (State.rd_set_ne _ R.SEC_STAT_VERIFY_BUSY 1 ha).trans (((s.atH u).serviceShown_regs service).kept a ha)
    exact answers_of_arm (congrArg (done s) submits) rfl fun t e mem =>
      ⟨e ▸ pkt, e ▸ State.is_set_one _ (by decide), e ▸ shown, e ▸ rfl, mem, e ▸ kept⟩
  case submitBusy =>
    have submits := (State.ifOn_of_powered (s := s.atH u) (fun t => t.doPacketSubmit service) on).trans (State.doPacketSubmit_busy service busy)
    have regs := (s.atH u).serviceShown_regs service
    exact answers_of_arm (congrArg (done s) submits) rfl fun t e mem => ⟨e ▸ regs.sec, mem, e ▸ regs.kept⟩
  case packet =>
    have checks := State.doPacketCheck_eq (s := s.atH u) waits
    have busy : ((s.atH u).packetChecked).is R.SEC_STAT_VERIFY_BUSY = false := State.is_set_zero _ (by decide)
    have refusals : (s.atH u).packetChecked.val R.SEC_REFUSALS = s.val R.SEC_REFUSALS := State.val_of_rd ((s.atH u).packetChecked_regs (by decide))
    have small := s.packetReason_lt b (s.val R.SEC_PKT_LEN) (s.is R.SEC_STAT_SERVICE_EN)
    by_cases bad : s.packetReason b (s.val R.SEC_PKT_LEN) (s.is R.SEC_STAT_SERVICE_EN) ≠ 0
    · refine answers_of_arm (congrArg (done s) (checks.trans (if_pos bad))) rfl fun t e mem => ?_
      obtain ⟨sec, reason, busyKept, event, count⟩ := e ▸ (s.atH u).packetChecked.packetRefused_refused b (s.val R.SEC_PKT_LEN) small
      refine ⟨(congrArg SecSt.pkt sec :), busyKept.trans busy, ?_, mem⟩
      rw [if_pos bad]
      exact ⟨reason, event, count.trans (by rw [refusals]), (congrArg SecSt.slots sec :)⟩
    · refine answers_of_arm (congrArg (done s) (checks.trans (if_neg bad))) rfl fun t e mem => ?_
      have free := State.packetReason_free (not_not.mp bad)
      obtain ⟨pkt, secStat, used, ops, stageAt, signer, hwm⟩ := e ▸ State.packetTaken_taken (s := (s.atH u).packetChecked) b (s.val R.SEC_PKT_LEN) free
      refine ⟨pkt, (State.is_of_rd secStat).trans busy, ?_, mem⟩
      rw [if_neg bad]
      exact ⟨used, ops, stageAt.trans (by rw [State.packetChecked_hAbs]; rfl), signer, hwm⟩
  case staged =>
    have stages := State.doSlotStaged_eq waits due start
    have staged := State.slotShown_staged k.isLt (State.esc_length waits)
    by_cases loose : s.slotLoosens k.val = true
    · refine answers_of_arm (congrArg (done s) (stages.trans (if_pos loose))) rfl fun t e mem => ?_
      obtain ⟨-, expiry, state, loosens, field, stagedAt, event, -⟩ := e ▸ staged
      exact ⟨state.trans (if_pos loose).symm, loosens, field, expiry, stagedAt, event, mem⟩
    · refine answers_of_arm (congrArg (done s) (stages.trans (if_neg loose))) rfl fun t e mem => ?_
      have approved := State.escApprove_approved _ k.isLt (staged.slots ▸ State.esc_length waits)
      obtain ⟨expiry, loosens, field, stagedAt, event⟩ := e ▸ staged.approved approved k.isLt
      refine ⟨(e ▸ approved.state : t.get _ = _).trans ?_, loosens, field, expiry, stagedAt, event, mem⟩
      rw [if_neg loose, staged.field, staged.linkUp]
      simp only [Bool.and_eq_true]
  case tightens =>
    have stages := (State.doSlotStaged_eq waits due start).trans (if_neg (by rw [tight]; exact Bool.false_ne_true))
    obtain ⟨slots, -, -, -, field, -⟩ := State.slotShown_staged k.isLt (State.esc_length waits)
    have approved := State.escApprove_approved (s.slotShown k (s.slotLoosens k)) k.isLt (slots ▸ State.esc_length waits)
    rw [← stages] at approved
    refine answers_of_arm rfl rfl fun t e mem => ?_
    obtain ⟨event, -, state, -⟩ := e ▸ approved
    exact ⟨state.trans (if_neg fun h => Bool.false_ne_true ((field.trans local_).symm.trans h.1)), event, mem⟩
  case token =>
    have submits : (s.atH u).doTokenSubmit = ({ s.atH u with sec := { s.sec with tok := some s.tokenWindow } }).set R.SEC_STAT_VERIFY_BUSY 1 :=
      if_neg (by rw [State.is_atH, free]; exact Bool.false_ne_true)
    have kept := OnRegs.set (w := fun a => a = R.SEC_STAT) { s.atH u with sec := { s.sec with tok := some s.tokenWindow } } R.SEC_STAT_VERIFY_BUSY 1 rfl
    exact answers_of_arm (congrArg (done s) ((State.ifOn_of_powered (s := s.atH u) State.doTokenSubmit on).trans submits)) rfl fun t e mem =>
      ⟨e ▸ rfl, e ▸ State.is_set_one _ (by decide), mem, e ▸ kept.kept⟩
  case tokenBusy =>
    have submits : (s.atH u).doTokenSubmit = s.atH u := if_pos busy
    exact answers_of_arm (congrArg (done s) ((State.ifOn_of_powered (s := s.atH u) State.doTokenSubmit on).trans submits)) rfl fun t e mem =>
      ⟨e ▸ rfl, e ▸ rfl, mem⟩
  case tokenCheck =>
    have checks := State.doTokenCheck_eq (s := s.atH u) service waits
    have busy := (s.atH u).tokenChecked_busy service
    have reasonSame : (s.atH u).tokenReason b service = s.tokenReason b service := rfl
    rw [reasonSame] at checks
    by_cases bad : s.tokenReason b service ≠ 0
    · refine answers_of_arm (congrArg (done s) (checks.trans (if_pos bad))) rfl fun t e mem => ?_
      have refusals : ((s.atH u).tokenChecked service).val R.SEC_REFUSALS = s.val R.SEC_REFUSALS := State.val_of_rd ((s.atH u).tokenChecked_regs service (by decide))
      obtain ⟨sec, reason, busyKept, event, count⟩ := e ▸ ((s.atH u).tokenChecked service).refusal_refused (lo := 24) (bit := 5) (by decide) (by decide)
        (s.tokenReason_lt b service)
      refine ⟨(congrArg SecSt.tok sec :), busyKept.trans busy, ?_, mem⟩
      rw [if_pos bad]
      exact ⟨reason, event, count.trans (by rw [refusals]), (congrArg SecSt.slots sec :)⟩
    · have small := State.tokenReason_slot (not_not.mp bad)
      have slots : leAt b 6 1 < ((s.atH u).tokenChecked service).sec.slots.length := small.trans_eq four.symm
      rw [if_neg bad] at checks
      by_cases ends : leAt b 8 1 = 3
      · refine answers_of_arm (congrArg (done s) (checks.trans (if_pos ends))) rfl fun t e mem => ?_
        obtain ⟨stat, slot, -, event, tok, secStat⟩ := e ▸ ((s.atH u).tokenChecked service).escFail_emptied (leAt b 6 1) (result := 6) (by decide)
        refine ⟨tok, (State.is_of_rd secStat).trans busy, ?_, mem⟩
        rw [if_neg bad, if_pos ends]
        exact ⟨stat, slot, event⟩
      · obtain ⟨length, tok, secStat, approve, cosign⟩ := State.tokenTaken_taken slots
        refine answers_of_arm (congrArg (done s) (checks.trans (if_neg ends))) rfl fun t e mem => ?_
        obtain ⟨stat, regs, approved, tokKept⟩ := e ▸ State.approvedIfReady_kept _ small (length ▸ slots)
        have out : InSec (R.SEC_ESC_SIGNER (leAt b 6 1)) ∧ R.SEC_ESC_SIGNER (leAt b 6 1) ≠ R.SEC_ESC_STAT (leAt b 6 1) ∧
            R.SEC_ESC_SIGNER (leAt b 6 1) ≠ R.SEC_EVT ∧ R.SEC_STAT ≠ R.SEC_ESC_STAT (leAt b 6 1) := by
          simp only [InSec, R.SEC_ESC_SIGNER, R.SEC_ESC_STAT, R.SEC_EVT, R.SEC_STAT]
          omega
        obtain ⟨inSec, signerStat, signerEvt, secStatNe⟩ := out
        refine ⟨tokKept.trans tok, (State.is_of_rd ((regs _ (by decide) secStatNe (by decide)).trans secStat)).trans busy, ?_, mem⟩
        rw [if_neg bad, if_neg ends]
        by_cases approves : leAt b 8 1 = 1
        · rw [if_pos approves]
          exact ⟨approved.trans (approve approves).1, (State.get_of_rd (regs _ inSec signerStat signerEvt)).trans (approve approves).2⟩
        · rw [if_neg approves]
          exact (State.is_congr _ (stat _ rfl (.of_bits (by decide) (by decide)))).trans (cosign approves)
  case expires =>
    have expires : s.doSlotExpiry k = s.escFail k 5 := if_pos ⟨held, open_, due⟩
    refine answers_of_arm (congrArg (done s) expires) rfl fun t e mem => ?_
    obtain ⟨stat, slot, seq, event, -⟩ := e ▸ s.escFail_emptied k (result := 5) (by decide)
    exact ⟨stat, slot, event, seq, mem⟩
  case keeps =>
    have keeps : s.doSlotExpiry k = s := if_neg fun h => Nat.not_le.mpr early h.2.2
    exact answers_of_arm (congrArg (done s) keeps) rfl fun t e mem => ⟨e ▸ rfl, e ▸ rfl, mem⟩

end Sys2Proof.Machine
end

section
/-! PROOFS. The drives of the record store (R372–R379, R384, R394): O51. -/

namespace Sys2Proof.Machine

/-! ### What the store's reports leave -/

/-- The address lies in the block STOR, or holds the pending bits of the sources 0x00 to 0x1F. -/
abbrev InStor (a : Nat) : Prop := (0x60000 ≤ a ∧ a < 0x70000) ∨ a = R.FLT_PEND 0

/-- The store stays, and of the block's registers only those that `w` names change. -/
structure StorKept (w : Nat → Prop) (s t : State) : Prop where
  regs : ∀ a, InStor a → ¬ w a → t.rd a = s.rd a
  store : t.store = s.store

theorem OnHost.store {w : Nat → Prop} {s t : State} (h : OnHost w s t) : t.store = s.store := by
  obtain ⟨_, _, _, _, rfl, _⟩ := h
  rfl

theorem logRegs_outStor {a : Nat} (h : LogRegs a) : ¬ InStor a := by
  have ldg : ∀ a ∈ ldgRegs, ¬ InStor a := by decide
  have clr : ∀ a ∈ clrRegs, ¬ InStor a := by decide
  have eq : ∀ a ∈ eqRegs, ¬ InStor a := by decide
  exact h.elim (ldg a) fun h => h.elim (clr a) (eq a)

namespace StorKept
variable {w w' : Nat → Prop} {s t v : State}

theorem refl (s : State) : StorKept w s s := ⟨fun _ _ _ => rfl, rfl⟩
theorem trans (h : StorKept w s t) (h' : StorKept w t v) : StorKept w s v :=
  ⟨fun a ha hw => (h'.regs a ha hw).trans (h.regs a ha hw), h'.store.trans h.store⟩
theorem mono (h : StorKept w s t) (hw : ∀ a, w a → w' a) : StorKept w' s t := ⟨fun a ha hn => h.regs a ha fun x => hn (hw a x), h.store⟩
theorem of_host (h : OnHost w' s t) (hw : ∀ a, w' a → InStor a → w a) : StorKept w s t := ⟨fun a ha hn => h.rd fun x => hn (hw a x ha), h.store⟩
theorem of_append (h : OnHost LogRegs s t) : StorKept w s t := of_host h fun _ logged inStor => absurd inStor (logRegs_outStor logged)
theorem ite {c : Prop} [Decidable c] (h : StorKept w s t) (h' : StorKept w s v) : StorKept w s (if c then t else v) := by
  split
  · exact h
  · exact h'
end StorKept

theorem State.storEvt_kept (s : State) (code inst data : Nat) (f : Fld) : StorKept (fun a => a = f.addr) s (s.storEvt code inst data f) :=
  .trans (.of_host (OnHost.set (w := fun a => a = f.addr) s f 1 rfl) fun _ h _ => h) (.of_append ((State.hostEvent_host _ _ _ _ _ _).mono fun _ => .inr))

theorem State.storEvt_is (s : State) (code inst data : Nat) {lo : Nat} (h : lo + 1 ≤ 32) :
    (s.storEvt code inst data ⟨R.STOR_EVT, lo, 1⟩).is ⟨R.STOR_EVT, lo, 1⟩ = true := by
  have reported : StorKept (fun _ => False) (s.set ⟨R.STOR_EVT, lo, 1⟩ 1) (s.storEvt code inst data ⟨R.STOR_EVT, lo, 1⟩) :=
    .of_append ((State.hostEvent_host _ _ _ _ _ _).mono fun _ => .inr)
  exact (State.is_of_rd (reported.regs R.STOR_EVT (by decide) id)).trans (s.is_set_one h)

theorem State.ledgerH_storKept (s : State) (source code inst : Nat) (data : List Byte) :
    StorKept (fun _ => False) s (s.ledgerH source code inst data) := .of_append (s.ledgerH_host source code inst data)

/-- Registers that show the store as a whole. -/
abbrev shownRegs : List Nat := [R.STOR_STAT, R.STOR_WQ_FILL, R.STOR_TAIL_SEQ_LO, R.STOR_TAIL_SEQ_LO + 4, R.LDG_STAT]

theorem State.showStore_kept (s : State) : StorKept (fun a => a ∈ shownRegs) s s.showStore := by
  unfold State.showStore
  extract_lets s1 s2 s3
  have h1 : OnHost (fun a => a ∈ shownRegs) s s1 := .set s R.STOR_STAT_STATE _ (by decide)
  have h2 : OnHost (fun a => a ∈ shownRegs) s1 s2 := .set s1 R.STOR_STAT_DRIVES _ (by decide)
  have h3 : OnHost (fun a => a ∈ shownRegs) s2 s3 := (OnHost.set s2 R.STOR_STAT_LAYOUT _ (by decide)).trans (.put _ _ (by decide))
  have h4 : OnHost (fun a => a ∈ shownRegs) s3 (s3.put64 R.STOR_TAIL_SEQ_LO s3.tailSeq) := .put64 _ _ (by decide) (by decide)
  exact .of_host (((h1.trans h2).trans h3).trans (h4.trans (.set _ R.LDG_STAT_NO_STORE _ (by decide)))) fun _ h _ => h

theorem State.storCount_kept (s : State) (a n : Nat) : StorKept (fun b => b = a ∨ b = R.STOR_EVT) s (s.storCount a n) := by
  have counted : StorKept (fun b => b = a ∨ b = R.STOR_EVT) s (s.satCount a 32 n R.STOR_EVT_SATURATED).1 :=
    .of_host (s.satCount_host a 32 n R.STOR_EVT_SATURATED) fun _ h _ => h
  exact .ite (counted.trans ((State.storEvt_kept _ _ _ _ _).mono fun _ => .inr)) counted

theorem State.storCount_val (s : State) {a : Nat} (n : Nat) (inStor : InStor a) (ne : a ≠ R.STOR_EVT) :
    (s.storCount a n).val a = min (s.val a + n) (2 ^ 32 - 1) := by
  have counted := s.satCount_val a n R.STOR_EVT_SATURATED ne
  unfold State.storCount
  extract_lets r
  split
  · exact (State.val_of_rd ((State.storEvt_kept _ _ _ _ _).regs a inStor ne)).trans counted
  · exact counted

/-! ### Seals wait no longer (R384) -/

/-- The block's registers and the drives of the store stay, and the seal in progress waits for the same drives. -/
structure SealKept (s t : State) : Prop where
  regs : ∀ a, InStor a → t.rd a = s.rd a
  drives : t.store.drives = s.store.drives
  lost : t.store.lost = s.store.lost
  failed : t.store.failed = s.store.failed
  waits : t.store.pend.map SealSt.waits = s.store.pend.map SealSt.waits

namespace SealKept
variable {s t v : State}

theorem refl (s : State) : SealKept s s := ⟨fun _ _ => rfl, rfl, rfl, rfl, rfl⟩
theorem trans (h : SealKept s t) (h' : SealKept t v) : SealKept s v :=
  ⟨fun a ha => (h'.regs a ha).trans (h.regs a ha), h'.drives.trans h.drives, h'.lost.trans h.lost, h'.failed.trans h.failed, h'.waits.trans h.waits⟩
theorem of_kept (h : StorKept (fun _ => False) s t) : SealKept s t :=
  ⟨fun a ha => h.regs a ha id, (congrArg StoreSt.drives h.store :), (congrArg StoreSt.lost h.store :), (congrArg StoreSt.failed h.store :),
    congrArg (fun x => x.pend.map SealSt.waits) h.store⟩
theorem set (s : State) {f : Fld} (x : Nat) (out : ¬ InStor f.addr) : SealKept s (s.set f x) :=
  of_kept (.of_host (OnHost.set (w := fun a => a = f.addr) s f x rfl) fun _ h inStor => out (h ▸ inStor))
end SealKept

theorem State.spillOn_kept (n : Nat) : ∀ s : State, SealKept s (s.spillOn n) := by
  induction n with
  | zero => exact .refl
  | succ n ih =>
    intro s
    unfold State.spillOn
    extract_lets i
    split
    · have taken : SealKept s { s with store := { s.store with spilled := s.store.spilled.erase i } } := ⟨fun _ _ => rfl, rfl, rfl, rfl, rfl⟩
      have moved (t : State) (x : Nat) : SealKept t (t.put64 R.LDG_SPILLED_LO x) :=
        .of_kept (.of_append (OnHost.put64 _ _ (.inl (by decide)) (.inl (by decide))))
      exact (taken.trans (moved _ _)).trans (ih _)
    · exact .refl s

theorem State.mintAsk_kept (s : State) : SealKept s s.mintAsk := (SealKept.set s _ (by decide)).trans (.set _ _ (by decide))

/-- The state of a seal whose Flushes have completed, as the Mint is asked. -/
theorem State.sealAsk_kept (s : State) {x : SealSt} (h : s.store.pend = some x) : SealKept s (s.sealAsk x) := by
  unfold State.sealAsk
  extract_lets durable s2 base pruned s3 s4 s1 shown
  have noted : SealKept s s3 := ⟨fun _ _ => rfl, rfl, rfl, rfl, rfl⟩
  have spilled : SealKept s (s4.set R.LDG_STAT_RING_FULL (if s4.val64 R.LDG_NEXT_LO - s4.val64 R.LDG_SPILLED_LO ≥ ringSlots then 1 else 0)) :=
    (noted.trans (State.spillOn_kept _ s3)).trans (.set s4 _ (by decide))
  have before : SealKept s s1 := by
    simp only [s1]
    split
    · exact .refl s
    · exact spilled
  have asks : SealKept s1 { s1 with store := { s1.store with pend := some { x with asked := some s1.hNow.pack } } } :=
    ⟨fun _ _ => rfl, rfl, rfl, rfl, (before.waits.trans (congrArg (Option.map SealSt.waits) h)).symm⟩
  exact (before.trans asks).trans (State.mintAsk_kept _)

theorem State.sealNext_kept (s : State) : SealKept s s.sealNext := by
  unfold State.sealNext
  split
  · next x pending =>
    split
    · exact s.sealAsk_kept pending
    · exact .refl s
  · exact .refl s

/-! ### The loss of a drive (R378) -/

/-- The store is whole, in layout PARITY, and the drive at the port holds position `p`. -/
structure WholeStore (d p : Nat) (s : State) : Prop where
  pos : s.posOf d = some p
  lost : s.store.lost = []
  rebuild : s.store.rebuild = none
  layout : s.store.layout = 1
  failed : s.store.failed = false

/-- What the loss of a drive shows. -/
structure DriveGone (d p : Nat) (s t : State) : Prop where
  state : t.get (R.STOR_D_STAT_STATE d) = 5
  lost : t.store.lost = [p]
  failed : t.store.failed = false
  drive : t.drive d = { s.drive d with q := [], aborting := false }
  event : t.is R.STOR_EVT_DRIVE_LOST = true
  pend : t.faultPend 0x0D = true
  cmds : t.val (R.STOR_D_CMDS d) = s.val (R.STOR_D_CMDS d)

theorem State.drive_setDrive (s : State) {d : Nat} (x : DriveSt) (small : d < 4) : (s.setDrive d x).drive d = x := by
  rw [State.drive, Vector.getD]
  simp [State.setDrive, small]

theorem State.drive_of_drives {s t : State} (h : t.store.drives = s.store.drives) (d : Nat) : t.drive d = s.drive d := by
  rw [State.drive, State.drive, h]

/-- Registers that the raise of the source 0x0D writes. -/
abbrev FaultRegs (a : Nat) : Prop := a ∈ reportRegs ∨ a = R.FLT_CNT 0x0D ∨ a = R.FLT_PEND (0x0D / 32)

theorem faultRegs_outStor {a : Nat} (h : FaultRegs a) : a < 0x60000 ∨ 0x70000 ≤ a := by
  have report : ∀ a ∈ reportRegs, a < 0x60000 ∨ 0x70000 ≤ a := by decide
  rcases h with h | rfl | rfl
  · exact report a h
  · decide
  · decide

theorem OnReport.store {w : Nat → Prop} {s t : State} (h : OnReport w s t) : t.store = s.store := by
  obtain ⟨_, _, _, _, _, _, _, rfl, _⟩ := h
  rfl

theorem driveRegs_inStor {a d : Nat} (small : d < 4) (low : 0x61000 + 0x100 * d ≤ a) (high : a < 0x61100 + 0x100 * d) :
    InStor a ∧ a ∉ shownRegs ∧ a ≠ R.STOR_EVT ∧ ¬ FaultRegs a := by
  have shown : ∀ b ∈ shownRegs, b < 0x61000 ∨ 0x70000 ≤ b := by decide
  have event : R.STOR_EVT < 0x61000 := by decide
  exact ⟨.inl (by omega), fun h => by have := shown a h; omega, by omega, fun h => by have := faultRegs_outStor h; omega⟩

theorem State.driveLost_gone {s : State} {d p : Nat} (small : d < 4) (h : WholeStore d p s) : DriveGone d p s (s.driveLost d) := by
  obtain ⟨pos, lost, rebuild, layout, failed⟩ := h
  unfold State.driveLost
  extract_lets s0 again was old
  split
  · next none => exact absurd (none.symm.trans pos) (by simp)
  · next p' found =>
    obtain rfl : p' = p := Option.some.inj (found.symm.trans pos)
    rw [if_neg (by simp [s0, lost])]
    extract_lets s1 drive s2 s3 s4 s5 s6 waiting
    have whole : again = false := by simp [again, s0, rebuild, lost, layout]
    have gone : StorKept (fun a => a ∈ shownRegs) (s1.setDrive d { s1.drive d with q := [], aborting := false }) s2 := State.showStore_kept _
    have told : StorKept (fun a => a = R.STOR_EVT) s2 s3 := s2.storEvt_kept 1 d s2.storState R.STOR_EVT_DRIVE_LOST
    have event : s3.is R.STOR_EVT_DRIVE_LOST = true := State.storEvt_is _ _ _ _ (by decide)
    have raised : Raised 0x0D s3 s4 := s3.hostFault_raised d false (by decide)
    have contained : s5 = s4 := if_neg (by rw [whole]; exact Bool.false_ne_true)
    have entered : StorKept (fun _ => False) s4 s6 := contained ▸ s5.ledgerH_storKept _ _ _ _
    clear_value s6 s5 s4 s3 s2
    have store : s6.store = (s1.setDrive d { s1.drive d with q := [], aborting := false }).store :=
      entered.store.trans (raised.report.store.trans (told.store.trans gone.store))
    have driveReg {a : Nat} (low : 0x61000 + 0x100 * d ≤ a) (high : a < 0x61100 + 0x100 * d) : s6.rd a = s0.rd a := by
      obtain ⟨inStor, shown, evt, fault⟩ := driveRegs_inStor small low high
      exact (entered.regs a inStor id).trans ((raised.report.rd fault).trans ((told.regs a inStor evt).trans (gone.regs a inStor shown)))
    refine ⟨?_, ?_, ?_, ?_, ?_, ?_, ?_⟩
    · have := State.get_of_rd (f := R.STOR_D_STAT_STATE d) (driveReg (by simp [R.STOR_D_STAT_STATE, R.STOR_D_STAT]) (by simp [R.STOR_D_STAT_STATE, R.STOR_D_STAT]))
      exact this.trans (State.get_set_self s 5 (by decide : 0 + 3 ≤ 32))
    · exact (congrArg StoreSt.lost store :).trans (by simp [State.setDrive, s1, s0, lost])
    · exact (congrArg StoreSt.failed store :).trans (by simp [State.setDrive, s1, was, s0, failed, whole])
    · refine (State.drive_of_drives (congrArg StoreSt.drives store) d).trans (State.drive_setDrive s1 _ small)
    · exact (State.is_of_rd ((entered.regs R.STOR_EVT (by decide) id).trans (raised.report.rd (by decide)))).trans event
    · exact (congrArg (fun w : Word => w.getLsbD 13) (entered.regs (R.FLT_PEND 0) (by decide) id) :).trans raised.pend
    · have := State.val_of_rd (driveReg (a := R.STOR_D_CMDS d) (by simp [R.STOR_D_CMDS]) (by simp [R.STOR_D_CMDS]))
      refine this.trans (State.val_of_rd (State.rd_set_ne s (R.STOR_D_STAT_STATE d) 5 ?_))
      simp only [R.STOR_D_CMDS, R.STOR_D_STAT_STATE, R.STOR_D_STAT]
      omega

theorem DriveGone.sealed {s t v : State} {d p : Nat} (h : DriveGone d p s t) (kept : SealKept t v) (small : d < 4) : DriveGone d p s v := by
  have inStor : InStor (R.STOR_D_STAT d) ∧ InStor (R.STOR_D_CMDS d) := by
    simp only [InStor, R.STOR_D_STAT, R.STOR_D_CMDS]
    omega
  exact ⟨(State.get_of_rd (kept.regs _ inStor.1)).trans h.state, kept.lost.trans h.lost, kept.failed.trans h.failed,
    (State.drive_of_drives kept.drives d).trans h.drive, (State.is_of_rd (kept.regs R.STOR_EVT (by decide))).trans h.event,
    (congrArg (fun w : Word => w.getLsbD 13) (kept.regs (R.FLT_PEND 0) (by decide)) :).trans h.pend, (State.val_of_rd (kept.regs _ inStor.2)).trans h.cmds⟩

theorem State.posOf_of_ports {s t : State} (h : t.store.ports = s.store.ports) (d : Nat) : t.posOf d = s.posOf d := by
  simp only [State.posOf, State.positions, State.portOf, h]

theorem WholeStore.of_drives {s t : State} {d p : Nat} {v : Vector DriveSt 4} (h : WholeStore d p s) (same : t.store = { s.store with drives := v }) :
    WholeStore d p t := by
  obtain ⟨pos, lost, rebuild, layout, failed⟩ := h
  exact ⟨(State.posOf_of_ports (congrArg StoreSt.ports same :) d).trans pos, (congrArg StoreSt.lost same :).trans lost,
    (congrArg StoreSt.rebuild same :).trans rebuild, (congrArg StoreSt.layout same :).trans layout, (congrArg StoreSt.failed same :).trans failed⟩

theorem OnRegs.store {w : Nat → Prop} {s t : State} (h : OnRegs w s t) : t.store = s.store := by
  obtain ⟨_, rfl, _⟩ := h
  rfl

/-- A drive of the whole store is lost, and the seal in progress goes on without it. -/
theorem State.driveLost_sealed {s : State} {d p : Nat} (small : d < 4) (h : WholeStore d p s) : DriveGone d p s (s.driveLost d).sealNext :=
  (State.driveLost_gone small h).sealed (State.sealNext_kept _) small

/-! ### NVMe commands (R374, R380, R384) -/

section
variable {s : State} {d : Nat}

theorem State.wrapCount_val (a n : Nat) : (s.wrapCount a n).val a = (s.val a + n) % 2 ^ 32 := State.val_put_self _ _

theorem State.wrapCount64_val64 (a n : Nat) : (s.wrapCount64 a n).val64 a = (s.val64 a + n) % 2 ^ 64 := State.val64_put64 _ _

theorem State.nvmeCounted_bytes (n : Nat) : (s.wrapCount (R.STOR_D_CMDS d) n).val64 R.STOR_BYTES_LO = s.val64 R.STOR_BYTES_LO := by
  have ne : R.STOR_BYTES_LO ≠ R.STOR_D_CMDS d ∧ R.STOR_BYTES_LO + 4 ≠ R.STOR_D_CMDS d := by
    simp only [R.STOR_BYTES_LO, R.STOR_D_CMDS]
    omega
  exact State.val64_of_rd (State.rd_put_ne _ _ ne.1) (State.rd_put_ne _ _ ne.2)

theorem State.bytesCounted_cmds (n : Nat) : (s.wrapCount64 R.STOR_BYTES_LO n).rd (R.STOR_D_CMDS d) = s.rd (R.STOR_D_CMDS d) := by
  have ne : R.STOR_D_CMDS d ≠ R.STOR_BYTES_LO ∧ R.STOR_D_CMDS d ≠ R.STOR_BYTES_LO + 4 := by
    simp only [R.STOR_BYTES_LO, R.STOR_D_CMDS]
    omega
  exact (State.rd_put_ne _ _ ne.2).trans (State.rd_put_ne _ _ ne.1)

/-- A drive takes bytes of its oldest unit, in a store that discards nothing. -/
theorem State.unitTaken_taken {k left : Nat} {r : List (Nat × Nat)} (n : Nat) (small : d < 4) (queued : (s.drive d).q = (k, left) :: r)
    (quiet : s.store.loss = none) :
    ((s.unitTaken d n).drive d).q = (if left ≤ n then r else (k, left - n) :: r) ∧
      (s.unitTaken d n).val (R.STOR_D_CMDS d) = s.val (R.STOR_D_CMDS d) ∧
      (s.unitTaken d n).val64 R.STOR_BYTES_LO = (s.val64 R.STOR_BYTES_LO + min n left) % 2 ^ 64 := by
  unfold State.unitTaken
  extract_lets x
  split
  · next empty => exact absurd (empty.symm.trans queued) (by simp)
  · next k' left' r' found =>
    obtain ⟨⟨rfl, rfl⟩, rfl⟩ : (k' = k ∧ left' = left) ∧ r' = r := by simpa using found.symm.trans queued
    extract_lets q s1
    have shown : StorKept (fun a => a ∈ shownRegs) ((s.setDrive d { x with q := q }).wrapCount64 R.STOR_BYTES_LO (min n left')) s1 := State.showStore_kept _
    have store : s1.store = (s.setDrive d { x with q := q }).store := shown.store.trans (State.wrapCount64_store _ _ _)
    have keepsQuiet : s1.store.loss = none := (congrArg StoreSt.loss store :).trans quiet
    obtain ⟨inStor, notShown, -⟩ := driveRegs_inStor (a := R.STOR_D_CMDS d) small (by simp [R.STOR_D_CMDS]) (by simp [R.STOR_D_CMDS])
    rw [if_neg (by simp [keepsQuiet])]
    refine ⟨?_, (State.val_of_rd ((shown.regs _ inStor notShown).trans (State.bytesCounted_cmds _)) :), ?_⟩
    · exact congrArg DriveSt.q ((State.drive_of_drives (congrArg StoreSt.drives store) d).trans (s.drive_setDrive _ small))
    · exact (State.val64_of_rd (shown.regs R.STOR_BYTES_LO (by decide) (by decide)) (shown.regs (R.STOR_BYTES_LO + 4) (by decide) (by decide))).trans
        (State.wrapCount64_val64 _ _)

/-- A Flush of the seal in progress is done on a drive that has taken the seal's units. -/
theorem State.flushed_done {y : SealSt} (pending : s.store.pend = some y) (waits : y.waits.contains d = true)
    (taken : (s.drive d).q.any (fun q => q.1 ≤ y.run) = false) :
    (s.flushed d).store.pend.map SealSt.waits = some (y.waits.erase d) ∧ ∀ a, InStor a → (s.flushed d).rd a = s.rd a := by
  have flushes : s.flushed d = ({ s with store := { s.store with pend := some { y with waits := y.waits.erase d } } }).sealNext := by
    unfold State.flushed
    rw [pending]
    exact if_pos (by rw [waits, taken]; rfl)
  have kept := State.sealNext_kept { s with store := { s.store with pend := some { y with waits := y.waits.erase d } } }
  exact flushes ▸ ⟨kept.waits, kept.regs⟩

/-- A command that loses its drive counts all the same. -/
theorem State.nvmeFailed_gone {p : Nat} (small : d < 4) (h : WholeStore d p s) :
    DriveGone d p (s.wrapCount (R.STOR_D_CMDS d) 1) ((s.wrapCount (R.STOR_D_CMDS d) 1).driveLost d).sealNext :=
  State.driveLost_sealed small (h.of_drives (State.wrapCount_store _ _ _))
end

end Sys2Proof.Machine
end

section
/-! PROOFS. Drives that come and go: examination, adoption, loss and rebuild (R373, R374, R379). -/

namespace Sys2Proof.Machine

/-! ### The examination of a drive (R373) -/

theorem State.get_setDrive (s : State) (d : Nat) (x : DriveSt) (f : Fld) : (s.setDrive d x).get f = s.get f := rfl
theorem State.val_setDrive (s : State) (d : Nat) (x : DriveSt) (a : Nat) : (s.setDrive d x).val a = s.val a := rfl

section
variable (s : State) (d : Nat) (x : DriveInfo)

theorem State.serialShown_regs (f : Nat → Nat) (l : List Nat) : ∀ t : State,
    OnRegs (fun a => 0x6101C + 0x100 * d ≤ a) t (l.foldl (fun t k => t.put (R.STOR_D_SERIAL d k) (f k)) t) := by
  induction l with
  | nil => exact .refl _
  | cons k l ih => exact fun t => (OnRegs.put t _ (by simp only [R.STOR_D_SERIAL]; omega)).trans (ih _)

/-- What a drive's registers show once it was examined. -/
structure DriveShown (s t : State) : Prop where
  regs : OnRegs (fun a => 0x61000 ≤ a) s t
  speed : t.get (R.STOR_D_STAT_SPEED d) = x.speed.val
  wear : t.val (R.STOR_D_WEAR d) = x.wear.val
  depth : t.val (R.STOR_D_DEPTH d) = min 4096 x.mqes.val

theorem State.showDrive_shown : DriveShown d x s (s.showDrive d x) := by
  unfold State.showDrive
  extract_lets s1 s2
  have serial := State.serialShown_regs d (fun k => leAt x.serial (4 * k) 4) (List.range 5) s2
  have base : ∀ a, a = R.STOR_D_STAT d ∨ a = R.STOR_D_CAP_LO d ∨ a = R.STOR_D_CAP_LO d + 4 ∨ a = R.STOR_D_DEPTH d ∨ a = R.STOR_D_WEAR d →
      0x61000 ≤ a ∧ ¬ 0x6101C + 0x100 * d ≤ a := by
    simp only [R.STOR_D_STAT, R.STOR_D_CAP_LO, R.STOR_D_DEPTH, R.STOR_D_WEAR]
    omega
  have apart : R.STOR_D_STAT d ≠ R.STOR_D_WEAR d ∧ R.STOR_D_STAT d ≠ R.STOR_D_DEPTH d ∧ R.STOR_D_STAT d ≠ R.STOR_D_CAP_LO d ∧
      R.STOR_D_STAT d ≠ R.STOR_D_CAP_LO d + 4 ∧ R.STOR_D_DEPTH d ≠ R.STOR_D_WEAR d := by
    simp only [R.STOR_D_STAT, R.STOR_D_CAP_LO, R.STOR_D_DEPTH, R.STOR_D_WEAR]
    omega
  obtain ⟨statWear, statDepth, statLow, statHigh, depthWear⟩ := apart
  have h1 : OnRegs (fun a => 0x61000 ≤ a) s s1 :=
    (((OnRegs.set s (R.STOR_D_STAT_SPEED d) _ (base _ (.inl rfl)).1).trans (.set _ (R.STOR_D_STAT_WIDTH d) _ (base _ (.inl rfl)).1)).trans
      (.put _ _ (base _ (.inr (.inl rfl))).1)).trans (.put _ _ (base _ (.inr (.inr (.inl rfl)))).1)
  have h2 : OnRegs (fun a => 0x61000 ≤ a) s1 s2 :=
    (OnRegs.put s1 _ (base _ (.inr (.inr (.inr (.inl rfl))))).1).trans (.put _ _ (base _ (.inr (.inr (.inr (.inr rfl))))).1)
  refine ⟨(h1.trans h2).trans (serial.mono fun a ha => by omega), ?_, ?_, ?_⟩
  · refine (serial.get (f := R.STOR_D_STAT_SPEED d) (base _ (.inl rfl)).2).trans ?_
    refine (State.get_put_ne _ _ _ statWear).trans ((State.get_put_ne _ _ _ statDepth).trans ((State.get_put_ne _ _ _ statHigh).trans
      ((State.get_put_ne _ _ _ statLow).trans ((State.get_set_apart _ _ (.of_bits (by decide) (by decide))).trans ?_))))
    exact (State.get_set_self s _ (by decide : 12 + 4 ≤ 32)).trans (Nat.mod_eq_of_lt (show x.speed.val < 2 ^ 4 by omega))
  · exact (serial.val (base _ (by simp)).2).trans ((State.val_put_self _ _).trans (Nat.mod_eq_of_lt (by omega)))
  · exact (serial.val (base _ (by simp)).2).trans ((State.val_put_ne _ _ depthWear).trans ((State.val_put_self _ _).trans (Nat.mod_eq_of_lt (by omega))))

theorem State.driveReason_lt : s.driveReason x < 8 := by
  unfold State.driveReason
  dsimp only
  split_ifs <;> decide

theorem DriveShown.reason {t : State} (h : DriveShown d x s t) : t.driveReason x = s.driveReason x := by
  have units : t.val R.STOR_UNITS = s.val R.STOR_UNITS := h.regs.val (by decide)
  have permit : t.is R.STOR_FMT_PERMIT = s.is R.STOR_FMT_PERMIT := State.is_congr _ (h.regs.get (by decide))
  have store : t.store = s.store := OnRegs.store h.regs
  simp only [State.driveReason, units, permit, store]

/-- What the examination finds on a drive. -/
def driveFound (why : Nat) : DriveSt :=
  { link := true, accepted := why == 0, size := x.size, cmd := if x.mdts = 0 then 131072 else min 131072 x.mdts, super := x.super }

/-- The drive is shown, and the reason of its refusal. -/
def State.driveExamined : State := ((s.showDrive d x).setDrive d (driveFound x (s.driveReason x))).set (R.STOR_D_STAT_REFUSE d) (s.driveReason x)

theorem State.driveExamined_store : (s.driveExamined d x).store = (s.setDrive d (driveFound x (s.driveReason x))).store :=
  (State.set_store _ _ _).trans (congrArg (fun y : StoreSt => { y with drives := y.drives.setIfInBounds d (driveFound x (s.driveReason x)) })
    (OnRegs.store (s.showDrive_shown d x).regs))

theorem State.driveExamined_refuse : (s.driveExamined d x).get (R.STOR_D_STAT_REFUSE d) = s.driveReason x :=
  (State.get_set_self _ _ (by decide : 28 + 4 ≤ 32)).trans (Nat.mod_eq_of_lt (show s.driveReason x < 2 ^ 4 by have := s.driveReason_lt x; omega))

theorem State.driveExamined_shown : (s.driveExamined d x).get (R.STOR_D_STAT_SPEED d) = x.speed.val ∧
    (s.driveExamined d x).val (R.STOR_D_WEAR d) = x.wear.val ∧ (s.driveExamined d x).val (R.STOR_D_DEPTH d) = min 4096 x.mqes.val := by
  obtain ⟨-, speed, wear, depth⟩ := s.showDrive_shown d x
  have ne : R.STOR_D_WEAR d ≠ R.STOR_D_STAT d ∧ R.STOR_D_DEPTH d ≠ R.STOR_D_STAT d := by
    simp only [R.STOR_D_STAT, R.STOR_D_DEPTH, R.STOR_D_WEAR]
    omega
  unfold State.driveExamined
  generalize s.showDrive d x = t at speed wear depth
  rw [← t.get_setDrive d (driveFound x (s.driveReason x))] at speed
  rw [← t.val_setDrive d (driveFound x (s.driveReason x))] at wear depth
  refine ⟨(State.get_set_apart _ _ (.of_bits (by decide) (by decide))).trans speed, ?_, ?_⟩
  · exact (State.val_of_rd (State.rd_set_ne _ (R.STOR_D_STAT_REFUSE d) _ ne.1)).trans wear
  · exact (State.val_of_rd (State.rd_set_ne _ (R.STOR_D_STAT_REFUSE d) _ ne.2)).trans depth

theorem State.doDriveUp_eq (on : s.domOn (domH 5) = true) (down : (s.drive d).link = false) : s.doDriveUp d x =
    if s.driveReason x ≠ 0 then (((s.driveExamined d x).set (R.STOR_D_STAT_STATE d) 6).storRefuse d (s.driveReason x)).showStore
    else ((s.driveExamined d x).set (R.STOR_D_STAT_STATE d) 2).joinDrive d := by
  unfold State.doDriveUp
  rw [if_neg (by simp [on, down])]
  extract_lets s1 why cmd y s2
  have reason : why = s.driveReason x := (s.showDrive_shown d x).reason
  have examined : s2 = s.driveExamined d x := by
    simp only [s2, y, reason]
    rfl
  rw [examined, reason]
end

/-- The store is shown, and a change of it is told to the event queue and the Ledger. -/
structure Announced (f : Fld) (s t : State) : Prop where
  regs : ∀ a, InStor a → a ∉ shownRegs → a ≠ R.STOR_EVT → t.rd a = s.rd a
  store : t.store = s.store
  event : t.is f = true

/-- The bytes of the Ledger entry that tells a change of a drive: a number, and the SEQ range retained. -/
def driveEntry (n : Nat) (s : State) : List Byte :=
  leBytes 4 n ++ List.replicate 12 0 ++ leBytes 8 s.tailSeq ++ leBytes 8 (s.val64 R.STOR_SEQ_LO - 1)

/-- A change of a drive is shown, and told to the event queue and the Ledger. -/
def State.announce (s : State) (code d n lo code' : Nat) : State :=
  let t := s.showStore.storEvt code d n ⟨R.STOR_EVT, lo, 1⟩
  t.ledgerH 0x04 code' d (driveEntry n t)

theorem State.announced (s : State) (code d n : Nat) {lo : Nat} (h : lo + 1 ≤ 32) (code' : Nat) :
    Announced ⟨R.STOR_EVT, lo, 1⟩ s (s.announce code d n lo code') := by
  unfold State.announce
  extract_lets t
  have shown := s.showStore_kept
  have told : StorKept (fun a => a = R.STOR_EVT) s.showStore t := s.showStore.storEvt_kept code d n ⟨R.STOR_EVT, lo, 1⟩
  have event : t.is ⟨R.STOR_EVT, lo, 1⟩ = true := s.showStore.storEvt_is code d n h
  have entered := t.ledgerH_storKept 0x04 code' d (driveEntry n t)
  exact ⟨fun a inStor notShown notEvt => (entered.regs a inStor id).trans ((told.regs a inStor notEvt).trans (shown.regs a inStor notShown)),
    entered.store.trans (told.store.trans shown.store), (State.is_of_rd (entered.regs R.STOR_EVT (by decide) id)).trans event⟩

theorem driveStat_out {d : Nat} (small : d < 4) : InStor (R.STOR_D_STAT d) ∧ R.STOR_D_STAT d ∉ shownRegs ∧ R.STOR_D_STAT d ≠ R.STOR_EVT ∧
    R.STOR_D_STAT d ≠ R.STOR_REBUILD_POS := by
  obtain ⟨inStor, notShown, notEvt, -⟩ := driveRegs_inStor (a := R.STOR_D_STAT d) small (by simp [R.STOR_D_STAT]) (by simp [R.STOR_D_STAT])
  refine ⟨inStor, notShown, notEvt, ?_⟩
  simp only [R.STOR_REBUILD_POS, R.STOR_D_STAT]
  omega

/-- The store as a rebuild begins: the drive of a lost position takes its superblock. -/
def State.adopting (s : State) (d p : Nat) : State :=
  let s1 : State := { s with store := { s.store with lost := s.store.lost.erase p, rebuild := some (p, s.store.held.length) } }
  s1.setDrive d { s1.drive d with super := some (s1.superblock p) }

theorem State.adopt_eq (s : State) (d p : Nat) : s.adopt d p =
    ((((s.adopting d p).set (R.STOR_D_STAT_STATE d) 4).put R.STOR_REBUILD_POS 0).set (R.STOR_D_STAT_POSITION d) p).announce 2 d p 1 2 := rfl

/-- The store as a rebuild has ended. -/
def State.rebuilt (s : State) : State := { s with store := { s.store with rebuild := none } }

theorem State.doRebuildDone_eq {s : State} {p n : Nat} (h : s.store.rebuild = some (p, n)) : s.doRebuildDone =
    ((s.rebuilt.set (R.STOR_D_STAT_STATE (s.portOf p)) 3).put R.STOR_REBUILD_POS n).announce 3 (s.portOf p) n 2 3 := by
  unfold State.doRebuildDone
  rw [h]
  rfl

section
variable {s : State} {d : Nat} (small : d < 4)
include small

/-- A register of the drive's port stays while the store is shown. -/
theorem State.showStore_drive {a : Nat} (low : 0x61000 + 0x100 * d ≤ a) (high : a < 0x61100 + 0x100 * d) : s.showStore.rd a = s.rd a := by
  obtain ⟨inStor, notShown, -⟩ := driveRegs_inStor small low high
  exact s.showStore_kept.regs a inStor notShown

theorem State.showStore_stat {f : Fld} (h : f.addr = R.STOR_D_STAT d) : s.showStore.get f = s.get f :=
  State.get_of_rd (State.showStore_drive small (by simp [h, R.STOR_D_STAT]) (by simp [h, R.STOR_D_STAT]))

/-- A drive at a lost position is adopted, and its rebuild begins (R379). -/
theorem State.adopt_adopted (p : Nat) : (s.adopt d p).get (R.STOR_D_STAT_STATE d) = 4 ∧ (s.adopt d p).store.rebuild = some (p, s.store.held.length) ∧
    (s.adopt d p).store.lost = s.store.lost.erase p ∧ (s.adopt d p).get (R.STOR_D_STAT_POSITION d) = p % 4 ∧
    (s.adopt d p).is R.STOR_EVT_DRIVE_ADOPTED = true ∧ (s.adopt d p).val R.STOR_REBUILD_POS = 0 := by
  obtain ⟨inStor, notShown, notEvt, ne⟩ := driveStat_out small
  rw [s.adopt_eq]
  set s1 := s.adopting d p with adopting
  obtain ⟨regs, store, event⟩ := (((s1.set (R.STOR_D_STAT_STATE d) 4).put R.STOR_REBUILD_POS 0).set (R.STOR_D_STAT_POSITION d) p).announced 2 d p
    (lo := 1) (by decide) 2
  have kept := (State.set_store _ (R.STOR_D_STAT_POSITION d) p).trans ((State.put_store _ R.STOR_REBUILD_POS 0).trans (s1.set_store (R.STOR_D_STAT_STATE d) 4))
  have stat := regs _ inStor notShown notEvt
  refine ⟨?_, (congrArg StoreSt.rebuild (store.trans kept)).trans (by rw [adopting]; rfl), (congrArg StoreSt.lost (store.trans kept)).trans (by rw [adopting]; rfl),
    ?_, event, ?_⟩
  · refine (State.get_of_rd (f := R.STOR_D_STAT_STATE d) stat).trans ((State.get_set_apart _ _ (.of_bits (by decide) (by decide))).trans ?_)
    exact (State.get_put_ne _ _ _ ne).trans (State.get_set_self _ 4 (by decide : 0 + 3 ≤ 32))
  · exact (State.get_of_rd (f := R.STOR_D_STAT_POSITION d) stat).trans (State.get_set_self _ p (by decide : 4 + 2 ≤ 32))
  · refine (State.val_of_rd ((regs _ (by decide) (by decide) (by decide)).trans (State.rd_set_ne _ (R.STOR_D_STAT_POSITION d) p ne.symm))).trans ?_
    exact State.val_put_self _ _

/-- The last stripe of a drive is rebuilt (R379). -/
theorem State.doRebuildDone_done {p n : Nat} (h : s.store.rebuild = some (p, n)) (port : s.portOf p = d) :
    s.doRebuildDone.store = s.rebuilt.store ∧ s.doRebuildDone.get (R.STOR_D_STAT_STATE d) = 3 ∧
      s.doRebuildDone.val R.STOR_REBUILD_POS = n % 2 ^ 32 ∧ s.doRebuildDone.is R.STOR_EVT_REBUILD_DONE = true := by
  obtain ⟨inStor, notShown, notEvt, ne⟩ := driveStat_out small
  rw [State.doRebuildDone_eq h, port]
  generalize s.rebuilt = s1
  obtain ⟨regs, store, event⟩ := ((s1.set (R.STOR_D_STAT_STATE d) 3).put R.STOR_REBUILD_POS n).announced 3 d n (lo := 2) (by decide) 3
  have kept := (State.put_store _ R.STOR_REBUILD_POS n).trans (s1.set_store (R.STOR_D_STAT_STATE d) 3)
  refine ⟨store.trans kept, ?_, ?_, event⟩
  · refine (State.get_of_rd (f := R.STOR_D_STAT_STATE d) (regs _ inStor notShown notEvt)).trans ?_
    exact (State.get_put_ne _ _ _ ne).trans (State.get_set_self _ 3 (by decide : 0 + 3 ≤ 32))
  · exact (State.val_of_rd (regs _ (by decide) (by decide) (by decide))).trans (State.val_put_self _ _)

end

end Sys2Proof.Machine
end

section
/-! PROOFS. Formatting of the record store (R375–R377): O51. -/

namespace Sys2Proof.Machine

/-! ### What the end of an episode of discards leaves -/

theorem State.foldl_rd {a : Nat} {f : State → Nat → State} (hf : ∀ t p, (f t p).rd a = t.rd a) (l : List Nat) : ∀ s, (l.foldl f s).rd a = s.rd a := by
  induction l with
  | nil => exact fun _ => rfl
  | cons p l ih => exact fun s => (ih _).trans (hf s p)

theorem State.advance_cfg (s : State) (k : Nat) : (s.advance k).rd R.STOR_CFG = s.rd R.STOR_CFG := by
  unfold State.advance
  extract_lets u n m s1
  have kept : s1.rd R.STOR_CFG = s.rd R.STOR_CFG := State.rd_put_ne s m (by decide)
  split
  · exact kept
  · exact kept

theorem State.stripeDone_cfg (s : State) : s.stripeDone.rd R.STOR_CFG = s.rd R.STOR_CFG := by
  unfold State.stripeDone
  extract_lets k blocks old s1 s2
  have queued : s2.rd R.STOR_CFG = s1.rd R.STOR_CFG := State.foldl_rd (by intro t p; rfl) _ _
  exact (s2.advance_cfg k).trans queued

theorem State.placeBlock_cfg (s : State) (stream bflags era : Nat) (items : List (Nat × Nat × List Byte)) (first last : Nat) :
    (s.placeBlock stream bflags era items first last).rd R.STOR_CFG = s.rd R.STOR_CFG := by
  unfold State.placeBlock
  extract_lets seq b idx s1 old s2
  have kept : s1.rd R.STOR_CFG = s.rd R.STOR_CFG := (State.rd_put_ne _ _ (by decide)).trans (State.rd_put_ne s _ (by decide))
  have placed : s2.rd R.STOR_CFG = s.rd R.STOR_CFG := kept
  split
  · exact s2.stripeDone_cfg.trans placed
  · exact placed

theorem State.lossEnd_cfg (s : State) : s.lossEnd.rd R.STOR_CFG = s.rd R.STOR_CFG := by
  unfold State.lossEnd
  split
  · rfl
  · next k m f l x y _ =>
    extract_lets old losses s1 s2 s3
    have h2 : s2.rd R.STOR_CFG = s.rd R.STOR_CFG := by
      simp only [s2]
      split
      · exact s1.placeBlock_cfg _ _ _ _ _ _
      · rfl
    have h3 : s3.rd R.STOR_CFG = s2.rd R.STOR_CFG := (s2.storEvt_kept 4 0 k R.STOR_EVT_LOSS).regs _ (by decide) (by decide)
    exact ((s3.ledgerH_storKept _ _ _ _).regs _ (by decide) id).trans (h3.trans h2)

/-! ### Drives take their seats (R377) -/

/-- The drive of a position takes its superblock and its place. -/
def State.seat (s : State) (p : Nat) : State :=
  ((s.setDrive (s.portOf p) { s.drive (s.portOf p) with super := some (s.superblock p) }).set (R.STOR_D_STAT_STATE (s.portOf p)) 3).set
    (R.STOR_D_STAT_POSITION (s.portOf p)) p

/-- The drives of the first positions have taken their places, and the rest of the store stays. -/
structure Seated (n : Nat) (s t : State) : Prop where
  store : ∃ v, t.store = { s.store with drives := v }
  regs : ∀ a, a < 0x61000 → t.rd a = s.rd a
  state : ∀ p < n, t.get (R.STOR_D_STAT_STATE (s.portOf p)) = 3
  position : ∀ p < n, t.get (R.STOR_D_STAT_POSITION (s.portOf p)) = p % 4

theorem State.seat_store (s : State) (p : Nat) : ∃ v, (s.seat p).store = { s.store with drives := v } :=
  ⟨_, (State.set_store _ _ _).trans (State.set_store _ _ _)⟩

theorem State.seat_rd (s : State) (p : Nat) {a : Nat} (h : a ≠ R.STOR_D_STAT (s.portOf p)) : (s.seat p).rd a = s.rd a :=
  (State.rd_set_ne _ (R.STOR_D_STAT_POSITION (s.portOf p)) p h).trans (State.rd_set_ne _ (R.STOR_D_STAT_STATE (s.portOf p)) 3 h)

theorem State.seat_state (s : State) (p : Nat) : (s.seat p).get (R.STOR_D_STAT_STATE (s.portOf p)) = 3 :=
  (State.get_set_apart _ _ (.of_bits (by decide) (by decide))).trans (State.get_set_self _ 3 (by decide : 0 + 3 ≤ 32))

theorem State.seat_position (s : State) (p : Nat) : (s.seat p).get (R.STOR_D_STAT_POSITION (s.portOf p)) = p % 4 :=
  State.get_set_self _ p (by decide : 4 + 2 ≤ 32)

theorem Seated.seat {n : Nat} {s t : State} (h : Seated n s t) (apart : ∀ p < n, s.portOf p ≠ s.portOf n) : Seated (n + 1) s (t.seat n) := by
  obtain ⟨⟨v, store⟩, regs, state, position⟩ := h
  have port : t.portOf n = s.portOf n := congrArg (fun l : List Nat => l.getD n 0) (congrArg StoreSt.ports store :)
  obtain ⟨v', store'⟩ := t.seat_store n
  have old {p : Nat} (earlier : p < n) : (t.seat n).rd (R.STOR_D_STAT (s.portOf p)) = t.rd (R.STOR_D_STAT (s.portOf p)) := by
    refine t.seat_rd n ?_
    have := apart p earlier
    simp only [R.STOR_D_STAT, port]
    omega
  refine ⟨⟨v', by rw [store', store]⟩, fun a low => (t.seat_rd n ?_).trans (regs a low), fun p at_ => ?_, fun p at_ => ?_⟩
  · simp only [R.STOR_D_STAT]
    omega
  · rcases Nat.lt_succ_iff_lt_or_eq.mp at_ with earlier | rfl
    · exact (State.get_of_rd (f := R.STOR_D_STAT_STATE (s.portOf p)) (old earlier)).trans (state p earlier)
    · exact port ▸ t.seat_state p
  · rcases Nat.lt_succ_iff_lt_or_eq.mp at_ with earlier | rfl
    · exact (State.get_of_rd (f := R.STOR_D_STAT_POSITION (s.portOf p)) (old earlier)).trans (position p earlier)
    · exact port ▸ t.seat_position p

theorem State.seated (s : State) (n : Nat) (apart : ∀ p q, p < q → q < n → s.portOf p ≠ s.portOf q) :
    Seated n s ((List.range n).foldl State.seat s) := by
  induction n with
  | zero => exact ⟨⟨_, rfl⟩, fun _ _ => rfl, fun _ h => absurd h (Nat.not_lt_zero _), fun _ h => absurd h (Nat.not_lt_zero _)⟩
  | succ n ih =>
    rw [List.range_succ, List.foldl_append]
    exact (ih fun p q lt small => apart p q lt (by omega)).seat fun p lt => apart p n lt (Nat.lt_succ_self n)

/-! ### FORMAT (R377) -/

/-- The store that FORMAT begins with, before its drives have superblocks. -/
def State.blankSt (s : State) (ports : List Nat) (id : Nat) : StoreSt :=
  { drives := s.store.drives.map (fun x => { x with q := [] }), id := some (leBytes 16 id), layout := s.get R.STOR_CFG_LAYOUT,
    fmtT64 := s.hNow.pack, fmtEra := s.era, ports := ports, marks := [(0, 0)], seals := s.store.seals,
    pend := s.store.pend, sealNow := s.store.sealNow, lastInst := s.store.lastInst, merged := s.store.merged,
    discarded := s.store.discarded }

/-- The registers of the store as FORMAT leaves them, before its drives are shown. -/
def State.blankRegs (s : State) (units slots : Nat) : State :=
  ((((((s.put R.STOR_UNITS units).put R.STOR_SLOTS slots).put64 R.STOR_SEQ_LO 0).put R.STOR_WP 0).put R.STOR_REBUILD_POS 0).set
    R.STOR_PIN_STAT_COUNT 0).set R.STOR_STAT_REFUSE 0

/-- The store that FORMAT begins with, and its registers. -/
def State.blankStore (s : State) : State :=
  let ports := s.acceptedPorts
  let u := unitsFor (ports.map (fun d => (s.drive d).size))
  let idr := s.lossEnd.fresh 128
  State.blankRegs { idr.2 with store := idr.2.blankSt ports idr.1 } u ((if idr.2.get R.STOR_CFG_LAYOUT = 1 then 3 else ports.length) * u)

theorem State.doFormat_eq {s : State} (h : s.formatReason = 0) : s.doFormat =
    (s.blankStore.positions.foldl State.seat s.blankStore).showStore.ledgerH 0x04 0x8006 0xFF (leBytes 1 0xFF) := by
  unfold State.doFormat
  extract_lets why
  rw [if_neg (not_not.mpr h)]
  rfl

theorem State.blankRegs_store (s : State) (units slots : Nat) : (s.blankRegs units slots).store = s.store := by
  simp only [State.blankRegs, State.set_store, State.put_store, State.put64_store]

theorem State.blankRegs_seq (s : State) (units slots : Nat) : (s.blankRegs units slots).val64 R.STOR_SEQ_LO = 0 := by
  unfold State.blankRegs
  generalize (s.put R.STOR_UNITS units).put R.STOR_SLOTS slots = t
  have kept {a : Nat} (h : a ≠ R.STOR_STAT ∧ a ≠ R.STOR_PIN_STAT ∧ a ≠ R.STOR_REBUILD_POS ∧ a ≠ R.STOR_WP) :
      (((((t.put64 R.STOR_SEQ_LO 0).put R.STOR_WP 0).put R.STOR_REBUILD_POS 0).set R.STOR_PIN_STAT_COUNT 0).set R.STOR_STAT_REFUSE 0).rd a =
        (t.put64 R.STOR_SEQ_LO 0).rd a :=
    (State.rd_set_ne _ R.STOR_STAT_REFUSE 0 h.1).trans ((State.rd_set_ne _ R.STOR_PIN_STAT_COUNT 0 h.2.1).trans
      ((State.rd_put_ne _ 0 h.2.2.1).trans (State.rd_put_ne _ 0 h.2.2.2)))
  exact (State.val64_of_rd (kept (by decide)) (kept (by decide))).trans (State.val64_put64 _ _)

theorem State.blankRegs_wp (s : State) (units slots : Nat) : (s.blankRegs units slots).val R.STOR_WP = 0 :=
  (State.val_of_rd ((State.rd_set_ne _ R.STOR_STAT_REFUSE 0 (by decide)).trans ((State.rd_set_ne _ R.STOR_PIN_STAT_COUNT 0 (by decide)).trans
    (State.rd_put_ne _ 0 (by decide))))).trans (State.val_put_self _ _)

/-- The state of a store that FORMAT made of the accepted drives. -/
structure FreshStore (s : State) (x : StoreSt) : Prop where
  id : x.id.isSome = true
  ports : x.ports = s.acceptedPorts
  pins : x.pins = []
  lost : x.lost = []
  failed : x.failed = false
  layout : x.layout = s.get R.STOR_CFG_LAYOUT

theorem FreshStore.of_drives {s : State} {x : StoreSt} (h : FreshStore s x) (v : Vector DriveSt 4) : FreshStore s { x with drives := v } :=
  ⟨h.id, h.ports, h.pins, h.lost, h.failed, h.layout⟩

theorem State.blankSt_fresh (s t : State) (id : Nat) (h : t.get R.STOR_CFG_LAYOUT = s.get R.STOR_CFG_LAYOUT) :
    FreshStore s (t.blankSt s.acceptedPorts id) := ⟨rfl, rfl, rfl, rfl, rfl, h⟩

theorem State.blankStore_fresh (s : State) : FreshStore s s.blankStore.store := by
  have layout : (s.lossEnd.fresh 128).2.get R.STOR_CFG_LAYOUT = s.get R.STOR_CFG_LAYOUT := State.get_of_rd s.lossEnd_cfg
  unfold State.blankStore
  extract_lets ports u idr
  rw [State.blankRegs_store]
  exact State.blankSt_fresh s idr.2 idr.1 layout

/-- Every accepted drive has its place in the new store (R377). -/
structure Formatted (s t : State) : Prop where
  seq : t.val64 R.STOR_SEQ_LO = 0
  wp : t.val R.STOR_WP = 0
  store : FreshStore s t.store
  seats : ∀ p : Fin 4, p.val < s.acceptedPorts.length →
    t.get (R.STOR_D_STAT_STATE (t.portOf p)) = 3 ∧ t.get (R.STOR_D_STAT_POSITION (t.portOf p)) = p.val

theorem State.acceptedPorts_small (s : State) : ∀ d ∈ s.acceptedPorts, d < 4 := fun _ h => List.mem_range.mp (List.mem_filter.mp h).1

theorem State.acceptedPorts_nodup (s : State) : s.acceptedPorts.Nodup := List.nodup_range.filter _

theorem State.doFormat_formatted {s : State} (h : s.formatReason = 0) : Formatted s s.doFormat := by
  have blank := s.blankStore_fresh
  have seqBlank : s.blankStore.val64 R.STOR_SEQ_LO = 0 := State.blankRegs_seq _ _ _
  have wpBlank : s.blankStore.val R.STOR_WP = 0 := State.blankRegs_wp _ _ _
  rw [State.doFormat_eq h]
  generalize s.blankStore = s1 at blank seqBlank wpBlank
  have ports : s1.store.ports = s.acceptedPorts := blank.ports
  have port {p : Nat} (lt : p < s.acceptedPorts.length) : s1.portOf p = s.acceptedPorts[p] := by
    rw [State.portOf, ports, List.getD_eq_getElem _ _ lt]
  have apart : ∀ p q, p < q → q < s.acceptedPorts.length → s1.portOf p ≠ s1.portOf q := by
    intro p q lt small
    rw [port (by omega), port small]
    exact fun same => absurd ((s.acceptedPorts_nodup.getElem_inj_iff).mp same) (by omega)
  have positions : s1.positions = List.range s.acceptedPorts.length := by rw [State.positions, ports]
  have seated := positions ▸ s1.seated s.acceptedPorts.length apart
  generalize s1.positions.foldl State.seat s1 = s2 at seated
  have shown := s2.showStore_kept
  have entered := s2.showStore.ledgerH_storKept 0x04 0x8006 0xFF (leBytes 1 0xFF)
  generalize s2.showStore.ledgerH 0x04 0x8006 0xFF (leBytes 1 0xFF) = t at entered
  have reg {a : Nat} (inStor : InStor a) (notShown : a ∉ shownRegs) : t.rd a = s2.rd a :=
    (entered.regs a inStor id).trans (shown.regs a inStor notShown)
  have store : t.store = s2.store := entered.store.trans shown.store
  obtain ⟨⟨v', kept⟩, regs, state, position⟩ := seated
  have early {a : Nat} (inStor : InStor a) (notShown : a ∉ shownRegs) (low : a < 0x61000) : t.rd a = s1.rd a := (reg inStor notShown).trans (regs a low)
  refine ⟨?_, ?_, ?_, fun p lt => ?_⟩
  · exact (State.val64_of_rd (early (by decide) (by decide) (by decide)) (early (by decide) (by decide) (by decide))).trans seqBlank
  · exact (State.val_of_rd (early (by decide) (by decide) (by decide))).trans wpBlank
  · rw [store, kept]
    exact blank.of_drives v'
  · have same : t.portOf p = s1.portOf p := by rw [State.portOf, State.portOf, store, kept]
    have small : s1.portOf p < 4 := port lt ▸ s.acceptedPorts_small _ (List.getElem_mem lt)
    obtain ⟨inStor, notShown, -⟩ := driveStat_out small
    have stat := reg inStor notShown
    rw [same]
    exact ⟨(State.get_of_rd (f := R.STOR_D_STAT_STATE (s1.portOf p)) stat).trans (state p lt),
      ((State.get_of_rd (f := R.STOR_D_STAT_POSITION (s1.portOf p)) stat).trans (position p lt)).trans (Nat.mod_eq_of_lt p.isLt)⟩

end Sys2Proof.Machine
end

section
/-! PROOFS. Drives of the record store: examination, loss, commands, rebuild and format (R372–R379, R384, R394): O51. -/

namespace Sys2Proof.Machine

section
variable {s : State} {d : Nat} (small : d < 4)
include small

/-! ### A drive links up (R373) -/

theorem State.driveExamined_drive (x : DriveInfo) : (s.driveExamined d x).drive d = driveFound x (s.driveReason x) :=
  (State.drive_of_drives (congrArg StoreSt.drives (s.driveExamined_store d x)) d).trans (s.drive_setDrive _ small)

/-- A drive that is refused (R373). -/
theorem State.doDriveUp_refused {x : DriveInfo} (on : s.domOn (domH 5) = true) (down : (s.drive d).link = false) (bad : s.driveReason x ≠ 0) :
    (s.doDriveUp d x).get (R.STOR_D_STAT_STATE d) = 6 ∧ (s.doDriveUp d x).get (R.STOR_D_STAT_REFUSE d) = s.driveReason x ∧
      ((s.doDriveUp d x).drive d).link = true ∧ ((s.doDriveUp d x).drive d).accepted = false ∧ (s.doDriveUp d x).is R.STOR_EVT_REFUSED = true := by
  have refuse := s.driveExamined_refuse d x
  have found := State.driveExamined_drive (s := s) small x
  rw [s.doDriveUp_eq d x on down, if_pos bad]
  generalize s.driveExamined d x = s1 at refuse found
  obtain ⟨inStor, notShown, notEvt, -⟩ := driveStat_out small
  have told := (s1.set (R.STOR_D_STAT_STATE d) 6).storEvt_kept 6 d (s.driveReason x) R.STOR_EVT_REFUSED
  have event : (State.storRefuse (s1.set (R.STOR_D_STAT_STATE d) 6) d (s.driveReason x)).is R.STOR_EVT_REFUSED = true :=
    (s1.set (R.STOR_D_STAT_STATE d) 6).storEvt_is 6 d (s.driveReason x) (by decide)
  change StorKept _ _ (State.storRefuse (s1.set (R.STOR_D_STAT_STATE d) 6) d (s.driveReason x)) at told
  generalize (s1.set (R.STOR_D_STAT_STATE d) 6).storRefuse d (s.driveReason x) = s2 at told event
  have shown := s2.showStore_kept
  have stat {f : Fld} (h : f.addr = R.STOR_D_STAT d) : s2.showStore.get f = (s1.set (R.STOR_D_STAT_STATE d) 6).get f :=
    (State.showStore_stat small h).trans (State.get_of_rd (told.regs _ (h ▸ inStor) (h ▸ notEvt)))
  have drive : s2.showStore.drive d = driveFound x (s.driveReason x) :=
    (State.drive_of_drives (congrArg StoreSt.drives (shown.store.trans (told.store.trans (s1.set_store (R.STOR_D_STAT_STATE d) 6)))) d).trans found
  refine ⟨(stat rfl).trans (State.get_set_self _ 6 (by decide : 0 + 3 ≤ 32)), ?_, congrArg DriveSt.link drive, (congrArg DriveSt.accepted drive).trans ?_,
    (State.is_of_rd (shown.regs R.STOR_EVT (by decide) (by decide))).trans event⟩
  · exact (stat rfl).trans ((State.get_set_apart _ 6 (.of_bits (by decide) (by decide))).trans refuse)
  · exact beq_false_of_ne bad

/-- A drive that is accepted beside the store (R373). -/
theorem State.doDriveUp_accepted {x : DriveInfo} (on : s.domOn (domH 5) = true) (down : (s.drive d).link = false) (good : s.driveReason x = 0)
    (beside : s.posOf d = none) :
    (s.doDriveUp d x).get (R.STOR_D_STAT_STATE d) = 2 ∧ (s.doDriveUp d x).get (R.STOR_D_STAT_REFUSE d) = 0 ∧
      (s.doDriveUp d x).drive d = driveFound x 0 ∧ (s.doDriveUp d x).get (R.STOR_D_STAT_SPEED d) = x.speed.val ∧
      (s.doDriveUp d x).val (R.STOR_D_WEAR d) = x.wear.val ∧ (s.doDriveUp d x).val (R.STOR_D_DEPTH d) = min 4096 x.mqes.val := by
  have refuse := good ▸ s.driveExamined_refuse d x
  have found := good ▸ State.driveExamined_drive (s := s) small x
  have store := s.driveExamined_store d x
  obtain ⟨speed, wear, depth⟩ := s.driveExamined_shown d x
  rw [s.doDriveUp_eq d x on down, if_neg (not_not.mpr good)]
  generalize s.driveExamined d x = s1 at refuse found store speed wear depth
  have same := (s1.set_store (R.STOR_D_STAT_STATE d) 2).trans store
  have noPos : (s1.set (R.STOR_D_STAT_STATE d) 2).posOf d = none := (State.posOf_of_ports (congrArg StoreSt.ports same :) d).trans beside
  have joins : (s1.set (R.STOR_D_STAT_STATE d) 2).joinDrive d = (s1.set (R.STOR_D_STAT_STATE d) 2).showStore := by
    unfold State.joinDrive
    rw [noPos]
  rw [joins]
  have stat {f : Fld} (h : f.addr = R.STOR_D_STAT d) (apart : Apart f (R.STOR_D_STAT_STATE d)) : (s1.set (R.STOR_D_STAT_STATE d) 2).showStore.get f = s1.get f :=
    (State.showStore_stat small h).trans (State.get_set_apart _ 2 apart)
  have reg {a : Nat} (low : 0x61000 + 0x100 * d < a) (high : a < 0x61100 + 0x100 * d) : (s1.set (R.STOR_D_STAT_STATE d) 2).showStore.val a = s1.val a := by
    refine State.val_of_rd ((State.showStore_drive small low.le high).trans (State.rd_set_ne _ (R.STOR_D_STAT_STATE d) 2 ?_))
    simp only [R.STOR_D_STAT_STATE, R.STOR_D_STAT]
    omega
  refine ⟨(State.showStore_stat small rfl).trans (State.get_set_self _ 2 (by decide : 0 + 3 ≤ 32)), ?_, ?_, ?_, ?_, ?_⟩
  · exact (stat rfl (.of_bits (by decide) (by decide))).trans refuse
  · exact (State.drive_of_drives (congrArg StoreSt.drives ((State.showStore_kept _).store.trans (s1.set_store (R.STOR_D_STAT_STATE d) 2))) d).trans found
  · exact (stat rfl (.of_bits (by decide) (by decide))).trans speed
  · exact (reg (by simp [R.STOR_D_WEAR]) (by simp [R.STOR_D_WEAR])).trans wear
  · exact (reg (by simp [R.STOR_D_DEPTH]) (by simp [R.STOR_D_DEPTH])).trans depth

omit small in
/-- An accepted drive at a lost position of a PARITY store is adopted (R379). -/
theorem State.doDriveUp_adopts {x : DriveInfo} {p : Nat} (on : s.domOn (domH 5) = true) (down : (s.drive d).link = false) (good : s.driveReason x = 0)
    (pos : s.posOf d = some p) (lost : s.store.lost.contains p = true) (layout : s.store.layout = 1) (failed : s.store.failed = false) :
    ∃ t : State, s.doDriveUp d x = t.adopt d p ∧ t.store.held = s.store.held ∧ t.store.lost = s.store.lost := by
  have store := s.driveExamined_store d x
  rw [s.doDriveUp_eq d x on down, if_neg (not_not.mpr good)]
  generalize s.driveExamined d x = s1 at store
  have same := (s1.set_store (R.STOR_D_STAT_STATE d) 2).trans store
  generalize s1.set (R.STOR_D_STAT_STATE d) 2 = s2 at same
  have pos' : s2.posOf d = some p := (State.posOf_of_ports (congrArg StoreSt.ports same :) d).trans pos
  have lost' : s2.store.lost = s.store.lost := (congrArg StoreSt.lost same :)
  have layout' : s2.store.layout = 1 := (congrArg StoreSt.layout same :).trans layout
  have failed' : s2.store.failed = false := (congrArg StoreSt.failed same :).trans failed
  refine ⟨s2, ?_, (congrArg StoreSt.held same :), lost'⟩
  unfold State.joinDrive
  rw [pos']
  exact (if_pos (lost' ▸ lost)).trans (if_pos ⟨layout', by rw [failed']; rfl⟩)

/-! ### A drive's link goes down (R374) -/

/-- The port whose drive is gone. -/
def State.portEmptied (s : State) (d : Nat) : State := ((s.setDrive d {}).set (R.STOR_D_STAT_SPEED d) 0).set (R.STOR_D_STAT_WIDTH d) 0

omit small in
theorem State.portEmptied_store : (s.portEmptied d).store = (s.setDrive d {}).store := (State.set_store _ _ _).trans (State.set_store _ _ _)

theorem State.portEmptied_drive : (s.portEmptied d).drive d = {} :=
  (State.drive_of_drives (congrArg StoreSt.drives State.portEmptied_store) d).trans (s.drive_setDrive _ small)

omit small in
theorem State.portEmptied_shown : (s.portEmptied d).get (R.STOR_D_STAT_SPEED d) = 0 ∧ (s.portEmptied d).get (R.STOR_D_STAT_WIDTH d) = 0 :=
  ⟨(State.get_set_apart _ 0 (.of_bits (by decide) (by decide))).trans (State.get_set_self _ 0 (by decide : 12 + 4 ≤ 32)),
    State.get_set_self _ 0 (by decide : 8 + 4 ≤ 32)⟩

/-- A port that holds no position of the store is empty when its link goes down. -/
theorem State.doDriveDown_beside (up : (s.drive d).link = true) (beside : s.posOf d = none) :
    ((s.doDriveDown d).drive d).link = false ∧
      (s.doDriveDown d).get (R.STOR_D_STAT_STATE d) = (if s.get (R.STOR_D_STAT_STATE d) = 5 then 5 else 0) ∧
      (s.doDriveDown d).get (R.STOR_D_STAT_SPEED d) = 0 ∧ (s.doDriveDown d).get (R.STOR_D_STAT_WIDTH d) = 0 := by
  have empties : s.doDriveDown d =
      ((s.portEmptied d).set (R.STOR_D_STAT_STATE d) (if s.get (R.STOR_D_STAT_STATE d) = 5 then 5 else 0)).showStore := by
    unfold State.doDriveDown
    extract_lets inStore s1
    have out : inStore = false := by simp [inStore, beside]
    rw [if_neg (by simp [up]), out]
    rfl
  obtain ⟨speed, width⟩ := State.portEmptied_shown (s := s) (d := d)
  have drive := State.portEmptied_drive (s := s) small
  rw [empties]
  generalize s.portEmptied d = s1 at speed width drive
  generalize hn : (if s.get (R.STOR_D_STAT_STATE d) = 5 then 5 else 0) = n
  have fits : n < 2 ^ 3 := by
    rw [← hn]
    split <;> decide
  refine ⟨?_, ?_, ?_, ?_⟩
  · exact congrArg DriveSt.link ((State.drive_of_drives (congrArg StoreSt.drives ((State.showStore_kept _).store.trans
      (s1.set_store (R.STOR_D_STAT_STATE d) n))) d).trans drive)
  · exact (State.showStore_stat small rfl).trans ((State.get_set_self _ n (by decide : 0 + 3 ≤ 32)).trans (Nat.mod_eq_of_lt fits))
  · exact (State.showStore_stat small rfl).trans ((State.get_set_apart _ n (.of_bits (by decide) (by decide))).trans speed)
  · exact (State.showStore_stat small rfl).trans ((State.get_set_apart _ n (.of_bits (by decide) (by decide))).trans width)

/-- A running drive of the whole store is lost when its link goes down. -/
theorem State.doDriveDown_gone {p : Nat} (up : (s.drive d).link = true) (h : WholeStore d p s) (runs : s.get (R.STOR_D_STAT_STATE d) = 3) :
    DriveGone d p (s.portEmptied d) (s.doDriveDown d) := by
  have loses : s.doDriveDown d = ((s.portEmptied d).driveLost d).sealNext := by
    unfold State.doDriveDown
    extract_lets inStore s1
    have held : inStore = true := by simp [inStore, h.pos, runs]
    rw [if_neg (by simp [up]), held]
    rfl
  exact loses ▸ State.driveLost_sealed small (h.of_drives State.portEmptied_store)
end

/-! ### FORMAT refused (R377) -/

theorem State.formatReason_lt (s : State) : s.formatReason < 16 := by
  unfold State.formatReason
  dsimp only
  split_ifs <;> decide

theorem State.doFormat_refused {s : State} (bad : s.formatReason ≠ 0) : s.doFormat.get R.STOR_STAT_REFUSE = s.formatReason ∧
    s.doFormat.is R.STOR_EVT_REFUSED = true ∧ s.doFormat.store = s.store := by
  have refuses : s.doFormat = (s.set R.STOR_STAT_REFUSE s.formatReason).storEvt 6 0xFF s.formatReason R.STOR_EVT_REFUSED := if_pos bad
  rw [refuses]
  have told := (s.set R.STOR_STAT_REFUSE s.formatReason).storEvt_kept 6 0xFF s.formatReason R.STOR_EVT_REFUSED
  refine ⟨?_, State.storEvt_is _ _ _ _ (by decide), told.store.trans (s.set_store R.STOR_STAT_REFUSE _)⟩
  exact (State.get_of_rd (f := R.STOR_STAT_REFUSE) (told.regs _ (by decide) (by decide))).trans
    ((State.get_set_self _ _ (by decide)).trans (Nat.mod_eq_of_lt s.formatReason_lt))

/-! ### O51 -/

theorem WholeStore.atH {d p : Nat} {s : State} (h : WholeStore d p s) (u : Sub) : WholeStore d p (s.atH u) := ⟨h.pos, h.lost, h.rebuild, h.layout, h.failed⟩

theorem State.driveInUse {s : State} {d : Nat} (on : s.domOn (domH 5) = true) (link : (s.drive d).link = true) :
    ¬ (!(s.domOn (domH 5) && (s.drive d).link)) = true := by simp [on, link]

/-- The state in which a command on the drive has been counted. -/
abbrev State.nvmeCounted (s : State) (u : Sub) (d : Nat) : State := (s.atH u).wrapCount (R.STOR_D_CMDS d) 1

theorem State.nvmeCounted_val (s : State) (u : Sub) (d : Nat) :
    (s.nvmeCounted u d).val (R.STOR_D_CMDS d) = (s.val (R.STOR_D_CMDS d) + 1) % 2 ^ 32 := State.wrapCount_val (s := s.atH u) _ 1

theorem State.nvmeCounted_regs (s : State) (u : Sub) (d : Nat) : OnRegs (fun a => a = R.STOR_D_CMDS d) (s.atH u) (s.nvmeCounted u d) :=
  .put (s.atH u) _ rfl

theorem State.nvmeCounted_bytes_regs (s : State) (u : Sub) (d n : Nat) :
    OnRegs (fun a => a = R.STOR_D_CMDS d ∨ a = R.STOR_BYTES_LO ∨ a = R.STOR_BYTES_LO + 4) (s.atH u) ((s.nvmeCounted u d).wrapCount64 R.STOR_BYTES_LO n) :=
  ((s.nvmeCounted_regs u d).mono fun _ => .inl).trans ((OnRegs.put _ _ (.inr (.inl rfl))).trans (.put _ _ (.inr (.inr rfl))))

theorem State.nvmeCounted_bytes64 (s : State) (u : Sub) (d : Nat) : (s.nvmeCounted u d).val64 R.STOR_BYTES_LO = s.val64 R.STOR_BYTES_LO :=
  State.nvmeCounted_bytes (s := s.atH u) 1

/-- A Write of the rebuild counts the bytes of a command. -/
theorem State.nvmeCounted_rebuild (s : State) (u : Sub) (d n : Nat) :
    ((s.nvmeCounted u d).wrapCount64 R.STOR_BYTES_LO n).val (R.STOR_D_CMDS d) = (s.val (R.STOR_D_CMDS d) + 1) % 2 ^ 32 ∧
      ((s.nvmeCounted u d).wrapCount64 R.STOR_BYTES_LO n).val64 R.STOR_BYTES_LO = (s.val64 R.STOR_BYTES_LO + n) % 2 ^ 64 ∧
      ((s.nvmeCounted u d).wrapCount64 R.STOR_BYTES_LO n).store = s.store := by
  have cmds := s.nvmeCounted_val u d
  have bytes := s.nvmeCounted_bytes64 u d
  have store : (s.nvmeCounted u d).store = s.store := State.wrapCount_store (s.atH u) _ 1
  generalize s.nvmeCounted u d = t at cmds bytes store
  exact ⟨(State.val_of_rd (State.bytesCounted_cmds n)).trans cmds, (State.wrapCount64_val64 _ _).trans (by rw [bytes]), (State.wrapCount64_store _ _ _).trans store⟩

theorem State.nvmeCounted_err (s : State) (u : Sub) (d : Nat) : (s.nvmeCounted u d).val (R.STOR_D_ERR d) = s.val (R.STOR_D_ERR d) := by
  refine OnRegs.val (s.nvmeCounted_regs u d) ?_
  simp only [R.STOR_D_ERR, R.STOR_D_CMDS]
  omega

/-- A Read of a block has failed. -/
def State.readFailed (s : State) (d : Nat) (b : Fin 1024) : State :=
  let t := s.storCount (R.STOR_D_ERR d) 1
  { t with store := { t.store with readBad := b.val :: t.store.readBad } }

theorem State.readFailed_noted {s : State} {d : Nat} (small : d < 4) (b : Fin 1024) :
    (s.readFailed d b).val (R.STOR_D_CMDS d) = s.val (R.STOR_D_CMDS d) ∧ (s.readFailed d b).store.readBad = b.val :: s.store.readBad ∧
      (s.readFailed d b).val (R.STOR_D_ERR d) = min (s.val (R.STOR_D_ERR d) + 1) (2 ^ 32 - 1) := by
  have counted := s.storCount_kept (R.STOR_D_ERR d) 1
  obtain ⟨inStor, -, notEvt, -⟩ := driveRegs_inStor (a := R.STOR_D_CMDS d) small (by simp [R.STOR_D_CMDS]) (by simp [R.STOR_D_CMDS])
  obtain ⟨errInStor, -, errNotEvt, -⟩ := driveRegs_inStor (a := R.STOR_D_ERR d) small (by simp [R.STOR_D_ERR]) (by simp [R.STOR_D_ERR])
  have ne : R.STOR_D_CMDS d ≠ R.STOR_D_ERR d := by
    simp only [R.STOR_D_CMDS, R.STOR_D_ERR]
    omega
  have err := s.storCount_val 1 errInStor errNotEvt
  unfold State.readFailed
  generalize s.storCount (R.STOR_D_ERR d) 1 = t at counted err
  exact ⟨(State.val_of_rd (counted.regs _ inStor fun h => h.elim ne notEvt) :), congrArg (fun x : StoreSt => b.val :: x.readBad) counted.store, err⟩

/-- A command that completes on a drive in use answers the state that its operation makes of the counted one. -/
theorem answers_of_nvme {s : State} {u : Sub} {d : Fin 4} {op : NvmeOp} {ok : Bool} {P : State → Prop} (on : s.domOn (domH 5) = true)
    (link : (s.drive d).link = true) (v : State)
    (effect : (s.atH u).doNvme d op ok = if !((s.atH u).domOn (domH 5) && ((s.atH u).drive d).link) then s.atH u else v)
    (hP : ∀ t, v = t → t.mem = s.mem → P { t with pending := s.pending }) : Answers (.nvmeCompletion u d op ok) s P :=
  answers_of_arm (congrArg (done s) (effect.trans (if_neg (State.driveInUse (s := s.atH u) on link)))) rfl hP

/-- A Write, a Flush or a Write of the rebuild that fails loses the drive of a whole store, and counts (R374, R378). -/
theorem answers_of_failed {s : State} {u : Sub} {d : Fin 4} {op : NvmeOp} {p : Nat} (on : s.domOn (domH 5) = true) (link : (s.drive d).link = true)
    (h : WholeStore d p s)
    (loses : (s.atH u).doNvme d op false = if !((s.atH u).domOn (domH 5) && ((s.atH u).drive d).link) then s.atH u
      else ((s.nvmeCounted u d).driveLost d).sealNext) :
    Answers (.nvmeCompletion u d op false) s (fun t => t.get (R.STOR_D_STAT_STATE d) = 5 ∧ t.store.lost = [p] ∧ t.store.failed = false ∧
      (t.drive d).q = [] ∧ t.is R.STOR_EVT_DRIVE_LOST = true ∧ t.faultPend 0x0D = true ∧
      t.val (R.STOR_D_CMDS d) = (s.val (R.STOR_D_CMDS d) + 1) % 2 ^ 32 ∧ t.mem = s.mem) := by
  refine answers_of_nvme on link _ loses fun t e mem => ?_
  obtain ⟨state, lost, failed, drive, event, pend, cmds⟩ := e ▸ State.nvmeFailed_gone (s := s.atH u) d.isLt (h.atH u)
  exact ⟨state, lost, failed, (congrArg DriveSt.q drive :), event, pend, cmds.trans (s.nvmeCounted_val u d), mem⟩

/-- Settles O51: a drive is examined as it links up, the loss of a drive is shown and told once and keeps the whole PARITY store from failing,
each completion counts before its effect, and FORMAT seats the accepted drives one by one. -/
theorem storeDrives : Obligations.StoreDrives := by
  refine ⟨fun s u d x on down bad => ?refused, fun s u d x on down good beside => ?accepted, fun s u d x p on down good pos lost layout failed => ?adopted,
    fun s u d up beside => ?emptied, fun s u d p up pos lost rebuild layout failed runs => ?gone, fun s u d k left r on link queued quiet => ?write,
    fun s u d p on link pos lost rebuild layout failed => ?writeFails, fun s u d p on link pos lost rebuild layout failed => ?rebuildFails,
    fun s u d p on link pos lost rebuild layout failed => ?flushFails, fun s u d on link => ?rebuild, fun s u d y on link pending waits taken => ?flush,
    fun s u d b on link => ?readFails, fun s u d b on link => ?read, fun s u d ok on link => ?other, fun s u d ok on link => ?abort,
    fun s u d on link => ?aborts, fun s u d p on link pos lost rebuild layout failed aborting => ?abortFails, fun s u p n d rebuild port => ?rebuilt,
    fun s u on bad => ?formatRefused, fun s u on good => ?formats⟩
  case refused =>
    refine answers_of_arm rfl rfl fun t e mem => ?_
    obtain ⟨state, reason, link, accepted, event⟩ := e ▸ State.doDriveUp_refused (s := s.atH u) d.isLt (x := x) on down bad
    exact ⟨state, reason, link, accepted, event, mem⟩
  case accepted =>
    refine answers_of_arm rfl rfl fun t e mem => ?_
    obtain ⟨state, refuse, drive, speed, wear, depth⟩ := e ▸ State.doDriveUp_accepted (s := s.atH u) d.isLt (x := x) on down good beside
    exact ⟨state, refuse, (congrArg DriveSt.link drive :), (congrArg DriveSt.accepted drive :), (congrArg DriveSt.size drive :), speed, wear, depth, mem⟩
  case adopted =>
    obtain ⟨v, adopts, held, kept⟩ := State.doDriveUp_adopts (s := s.atH u) (x := x) on down good pos lost layout failed
    refine answers_of_arm (congrArg (done s) adopts) rfl fun t e mem => ?_
    obtain ⟨state, rebuild, lostNow, position, event, rebuildPos⟩ := e ▸ State.adopt_adopted (s := v) d.isLt p
    exact ⟨state, rebuild.trans (by rw [held]; rfl), lostNow.trans (by rw [kept]; rfl), position, event, rebuildPos, mem⟩
  case emptied =>
    refine answers_of_arm rfl rfl fun t e mem => ?_
    obtain ⟨link, state, speed, width⟩ := e ▸ State.doDriveDown_beside (s := s.atH u) d.isLt up beside
    exact ⟨link, state, speed, width, mem⟩
  case gone =>
    refine answers_of_arm rfl rfl fun t e mem => ?_
    have whole := WholeStore.atH ⟨pos, lost, rebuild, layout, failed⟩ u
    obtain ⟨state, lostNow, works, drive, event, pend, -⟩ := e ▸ State.doDriveDown_gone (s := s.atH u) d.isLt up whole runs
    rw [State.portEmptied_drive d.isLt] at drive
    exact ⟨state, lostNow, works, (congrArg DriveSt.q drive :), event, pend, (congrArg DriveSt.link drive :), mem⟩
  case write =>
    refine answers_of_nvme on link ((s.nvmeCounted u d).unitTaken d (s.drive d).cmd) rfl fun t e mem => ?_
    obtain ⟨q, cmds, bytes⟩ := e ▸ State.unitTaken_taken (s := s.nvmeCounted u d) (s.drive d).cmd d.isLt queued quiet
    exact ⟨q, cmds.trans (s.nvmeCounted_val u d), bytes.trans (by rw [s.nvmeCounted_bytes64 u d]), mem⟩
  case writeFails => exact answers_of_failed on link ⟨pos, lost, rebuild, layout, failed⟩ rfl
  case rebuildFails => exact answers_of_failed on link ⟨pos, lost, rebuild, layout, failed⟩ rfl
  case flushFails => exact answers_of_failed on link ⟨pos, lost, rebuild, layout, failed⟩ rfl
  case rebuild =>
    refine answers_of_nvme on link ((s.nvmeCounted u d).wrapCount64 R.STOR_BYTES_LO (s.drive d).cmd) rfl fun t e mem => ?_
    obtain ⟨cmds, bytes, store⟩ := e ▸ s.nvmeCounted_rebuild u d (s.drive d).cmd
    exact ⟨cmds, bytes, store, mem, (e ▸ s.nvmeCounted_bytes_regs u d (s.drive d).cmd : OnRegs _ (s.atH u) t).kept⟩
  case flush =>
    refine answers_of_nvme on link ((s.nvmeCounted u d).flushed d) rfl fun t e mem => ?_
    obtain ⟨waitsNow, regs⟩ := e ▸ State.flushed_done (s := s.nvmeCounted u d) (d := d) pending waits taken
    exact ⟨waitsNow, (State.val_of_rd (regs _ (driveRegs_inStor d.isLt (by simp [R.STOR_D_CMDS]) (by simp [R.STOR_D_CMDS])).1)).trans
      (s.nvmeCounted_val u d), mem⟩
  case readFails =>
    refine answers_of_nvme on link ((s.nvmeCounted u d).readFailed d b) rfl fun t e mem => ?_
    obtain ⟨cmds, bad, err⟩ := e ▸ State.readFailed_noted (s := s.nvmeCounted u d) d.isLt b
    exact ⟨cmds.trans (s.nvmeCounted_val u d), bad, err.trans (by rw [State.nvmeCounted_err]), mem⟩
  case read =>
    exact answers_of_nvme on link (s.nvmeCounted u d) rfl fun t e mem => ⟨e ▸ s.nvmeCounted_val u d, e ▸ rfl, mem, e ▸ (s.nvmeCounted_regs u d).kept⟩
  case other =>
    exact answers_of_nvme on link (s.nvmeCounted u d) rfl fun t e mem => ⟨e ▸ s.nvmeCounted_val u d, e ▸ rfl, mem, e ▸ (s.nvmeCounted_regs u d).kept⟩
  case abort =>
    exact answers_of_nvme on link ((s.nvmeCounted u d).setDrive d { s.drive d with aborting := false }) rfl fun t e mem =>
      ⟨e ▸ s.nvmeCounted_val u d, e ▸ rfl, mem, e ▸ (s.nvmeCounted_regs u d).kept⟩
  case aborts =>
    have aborts : (s.atH u).doNvmeTimeout d false = (s.atH u).setDrive d { s.drive d with aborting := true } :=
      if_neg (State.driveInUse (s := s.atH u) on link)
    refine answers_of_arm (congrArg (done s) aborts) rfl fun t e mem => ⟨?_, e ▸ rfl, mem⟩
    exact (congrArg DriveSt.aborting (e ▸ (s.atH u).drive_setDrive { s.drive d with aborting := true } d.isLt) :)
  case abortFails =>
    have loses : (s.atH u).doNvmeTimeout d true = ((s.atH u).driveLost d).sealNext :=
      (if_neg (State.driveInUse (s := s.atH u) on link)).trans (if_pos aborting)
    refine answers_of_arm (congrArg (done s) loses) rfl fun t e mem => ?_
    have whole := WholeStore.atH ⟨pos, lost, rebuild, layout, failed⟩ u
    obtain ⟨state, lostNow, works, drive, event, pend, -⟩ := e ▸ State.driveLost_sealed (s := s.atH u) d.isLt whole
    exact ⟨state, lostNow, works, (congrArg DriveSt.q drive :), event, pend, mem⟩
  case rebuilt =>
    refine answers_of_arm rfl rfl fun t e mem => ?_
    obtain ⟨store, state, rebuildPos, event⟩ := e ▸ State.doRebuildDone_done (s := s.atH u) d.isLt rebuild port
    exact ⟨(congrArg StoreSt.rebuild store :), state, rebuildPos, event, (congrArg StoreSt.lost store :), mem⟩
  case formatRefused =>
    refine answers_of_arm (congrArg (done s) (State.ifOn_of_powered (s := s.atH u) State.doFormat on)) rfl fun t e mem => ?_
    obtain ⟨reason, event, store⟩ := e ▸ State.doFormat_refused (s := s.atH u) bad
    exact ⟨reason, event, store, mem⟩
  case formats =>
    refine answers_of_arm (congrArg (done s) (State.ifOn_of_powered (s := s.atH u) State.doFormat on)) rfl fun t e mem => ?_
    obtain ⟨seq, wp, ⟨id, ports, pins, lost, failed, layout⟩, seats⟩ := e ▸ State.doFormat_formatted (s := s.atH u) good
    exact ⟨id, seq, wp, ports, pins, lost, failed, layout, seats, mem⟩

end Sys2Proof.Machine
end
